-- ==== Sys2Proof/Word.lean ====
section
/-! DEFINITION. The plain word types of the block: bytes, and the value of a dictionary object (R517). -/

namespace Sys2Proof

/-- One byte of a message, a frame or an OCTETS object. -/
abbrev Byte := BitVec 8

/-- The value of a dictionary object (R517): a number held as its bits (BOOL, U8 to U64, I16 to I64 in two's complement,
F32 and F64 as their IEEE 754 patterns, T96 and GAT under R9), or a byte string (OCTETS, STRING without its length, DOMAIN). -/
inductive Val where
  | num (bits : Nat)
  | oct (bytes : List Byte)
deriving DecidableEq, Repr

/-- The bits of a numeric value; 0 for a byte string. -/
def Val.bits : Val → Nat
  | .num n => n
  | .oct _ => 0

/-- The bytes of a byte-string value; none for a number. -/
def Val.bytes : Val → List Byte
  | .num _ => []
  | .oct b => b

end Sys2Proof
end

