-- ==== Sys2Proof/Syntax.lean ====
section
/-! DEFINITION. The commands of the block: one constructor per row of spec/opcode_table.json.  Every command carries `t`, the
instant of its occurrence on the internal timebase, in ps since the first power-on (assumption 1). -/

namespace Sys2Proof

/-- Who sends an Imian request (R531–R536): DTLS session 0–15, the PCIe mailbox, or a CAN FD controller. -/
inductive Who where
  | dtls (session : Nat)
  | mailbox
  | can (controller : Nat)
deriving DecidableEq, Repr

/-- A PTP message as the engine takes it, after two-step messages and peer-delay exchanges have been joined (R44). -/
inductive PtpMsg where
  /-- Announce: the sender's port identity (80 bits), grandmaster identity (64 bits), dataset, TAI–UTC offset and flags. -/
  | announce (parent gm : Nat) (priority1 clockClass accuracy variance priority2 steps : Nat)
      (utcOffset : Int) (utcValid leap61 leap59 : Bool)
  /-- Sync with its precise origin timestamp (T96) and correction in ps. -/
  | sync (parent origin : Nat) (correction : Int)
  /-- A completed peer-delay exchange: mean path delay in ps. -/
  | pdelay (delay : Int)
  /-- A Pdelay_Req of a peer: its port identity (80 bits) and sequence number. -/
  | pdelayReq (requester sequence : Nat)
  /-- Any other message of the profile; it changes nothing in the slave. -/
  | other
deriving DecidableEq, Repr

/-- A complete IRIG-B frame: well formed or not; the second it codes; IEEE 1344 extensions present, with the local offset in minutes (what the
coded time is ahead of UTC), the time-quality code and leap-second pending bit, and the sign of that leap. -/
structure IrigFrame where
  wellFormed : Bool
  seconds : Nat
  has1344 : Bool
  localOffset : Int
  quality : Nat
  leapPending : Bool
  leapMinus : Bool
  /-- how long ago the frame reference stood, ps -/
  refAgo : Nat
deriving DecidableEq, Repr

/-- A UDP datagram, or a piece of one, on the ingest path, or a frame of a mode-1 session (R138–R142, R160).  Addresses are 16 bytes, IPv4
addresses in IPv4-mapped form. -/
structure Datagram where
  src : List Byte
  dst : List Byte
  sport : Nat
  dport : Nat
  /-- the checksum of an IPv4 header is wrong -/
  ipBad : Bool
  /-- the UDP checksum of the datagram -/
  checksum : Nat
  /-- of a fragmented datagram: identification, offset of this piece in the UDP payload, last piece -/
  fragment : Option (Nat × Nat × Bool)
  /-- the row whose mode-1 session delivered the frame -/
  session : Option Nat
  payload : List Byte
deriving DecidableEq, Repr

/-- An IEC 61850-90-5 SPDU with its session header taken apart (R164–R167). -/
structure Spdu where
  src : List Byte
  dst : List Byte
  /-- the checksum of an IPv4 header, or a UDP checksum that is not zero, is wrong -/
  checksumBad : Bool
  /-- a piece of a fragmented datagram that carries the SPDU: identification, offset in the UDP payload, last piece, bytes -/
  fragment : Option (Nat × Nat × Bool × Nat)
  svId : List Byte
  number : Nat
  keyId : Nat
  /-- 0 none, 1 HMAC-SHA256 with a 128-bit tag, 2 with a 256-bit tag, 3 AES-GMAC with a 128-bit tag, others not supported -/
  algorithm : Nat
  encrypted : Bool
  /-- the payload is non-tunnelled sampled values -/
  sampledValues : Bool
  /-- time of current key, T96 seconds -/
  keyTime : Nat
  signed : List Byte
  tag : List Byte
  /-- SOC, FRACSEC and the data-set members in order, as in a C37.118.2 data frame from its SOC on -/
  body : List Byte
deriving DecidableEq, Repr

/-- A 200 ms window of fundamental-free samples of one Headwater set (0–3 voltage, 4–7 current), F32 patterns by phase (R299). -/
structure WaveWindow where
  set : Nat
  invalid : Bool
  phases : List (List Nat)
deriving DecidableEq, Repr

/-- One channel's output of the decimation chain: the output of the active filter bank, that of the bank being faded in, and the largest
|q| at 320 kS/s that contributes (R409, R412, R416); all in 2^-31 of full scale. -/
structure Chain where
  q : Int
  faded : Int
  peak : Nat
deriving DecidableEq, Repr

/-- A level change of a DIN input: input, new level, and how long ago the MCLK0 edge that first sampled it was, ps (R442). -/
structure DinEdge where
  input : Nat
  level : Bool
  ago : Nat
deriving DecidableEq, Repr


/-- What the self-test found (R620–R622): the failed items with their details, and for each modulator channel the averages of its outputs at the two
DAC codes. -/
structure TestFindings where
  failed : List (Nat × Nat)
  averages : List (Nat × Nat)
deriving DecidableEq, Repr

/-- A command: an occurrence from outside, or the expiry of a time the block keeps.  The docstring of each names its row
of the opcode table and its rule. -/
inductive Instr where
  /-- PTP_MESSAGE_RX, R44. -/
  | ptpMessageRx (t : Nat) (port : Nat) (udp : Bool) (domain : Nat) (msg : PtpMsg)
  /-- PPS_EDGE, R47. -/
  | ppsEdge (t : Nat) (rising : Bool)
  /-- IRIG_B_FRAME_RX, R47. -/
  | irigBFrameRx (t : Nat) (frame : IrigFrame)
  /-- SOURCE_QUALIFIED, R47. -/
  | sourceQualified (t : Nat) (src : Nat)
  /-- SOURCE_DISQUALIFIED, R49. -/
  | sourceDisqualified (t : Nat) (src : Nat)
  /-- SWITCH_DELAY_EXPIRY, R50. -/
  | switchDelayExpiry (t : Nat)
  /-- HOLDOVER_LIMIT_EXCEEDED, R52. -/
  | holdoverLimitExceeded (t : Nat)
  /-- TREF_OUT_OF_RANGE, R39. -/
  | trefOutOfRange (t : Nat)
  /-- TREF_LOST, R86. -/
  | trefLost (t : Nat)
  /-- TREF_RESTORED, R86. -/
  | trefRestored (t : Nat)
  /-- START_LOCK_TIMEOUT, R53. -/
  | startLockTimeout (t : Nat)
  /-- STEP_TO_SOURCE, R43. -/
  | stepToSource (t : Nat) (who : Who)
  /-- SET_T96, R722. -/
  | setT96 (t : Nat) (who : Who) (value : Nat)
  /-- LEAP_SECOND_APPLIED, R57. -/
  | leapSecondApplied (t : Nat)
  /-- KENNEL_TIME_LATCH, R81. -/
  | kennelTimeLatch (t : Nat) (rtc : Nat)
  /-- REFERENCE_BUS_LOST, R68. -/
  | referenceBusLost (t : Nat)
  /-- GAT_REQUALIFICATION, R69. -/
  | gatRequalification (t : Nat)
  /-- NOMINAL_CLEARED, R69. -/
  | nominalCleared (t : Nat)
  /-- TRIG_IN_EDGE, R62. -/
  | trigInEdge (t : Nat) (input : Nat) (rising : Bool)
  /-- PULSE_INSTANT, R77. -/
  | pulseInstant (t : Nat) (out : Nat)
  /-- PULSE_ARM, R78. -/
  | pulseArm (t : Nat) (who : Who) (out : Nat) (arm : Bool)
  /-- LINK_UP, R92. -/
  | linkUp (t : Nat) (port : Nat)
  /-- LINK_DOWN, R92. -/
  | linkDown (t : Nat) (port cause : Nat)
  /-- LINK_REFUSED, R91. -/
  | linkRefused (t : Nat) (port reason : Nat)
  /-- RX_FRAME, R95. -/
  | rxFrame (t : Nat) (port : Nat) (fcsGood overflow : Bool) (frame : List Byte)
  /-- PAUSE_EXPIRY, R112. -/
  | pauseExpiry (t : Nat) (port : Nat)
  /-- TX_FRAME_START, R107. -/
  | txFrameStart (t : Nat) (port : Nat)
  /-- TX_UNDERRUN, R119. -/
  | txUnderrun (t : Nat) (port : Nat)
  /-- GATE_ENTRY_CHANGE, R105. -/
  | gateEntryChange (t : Nat) (port : Nat)
  /-- GATE_LIST_CHANGE, R110. -/
  | gateListChange (t : Nat) (port : Nat)
  /-- PRP_SUPERVISION_TX, R126. -/
  | prpSupervisionTx (t : Nat) (pair : Nat)
  /-- PRP_NODE_FORGET, R125. -/
  | prpNodeForget (t : Nat) (pair mac : Nat)
  /-- PRP_PORT_SILENT, R128. -/
  | prpPortSilent (t : Nat) (port : Nat)
  /-- CLEAR_PORT_COUNTERS, R130. -/
  | clearPortCounters (t : Nat) (who : Who)
  /-- INGEST_DATAGRAM, R160. -/
  | ingestDatagram (t : Nat) (port : Nat) (d : Datagram)
  /-- SPDU_RX, R166. -/
  | spduRx (t : Nat) (port : Nat) (d : Spdu)
  /-- REASSEMBLY_TIMEOUT, R141. -/
  | reassemblyTimeout (t : Nat) (src : List Byte) (ident : Nat)
  /-- SESSION_CONNECTED, R146. -/
  | sessionConnected (t : Nat) (stream : Nat)
  /-- SESSION_TIMEOUT, R146. -/
  | sessionTimeout (t : Nat) (stream : Nat)
  /-- SESSION_BACKOFF_EXPIRY, R146. -/
  | sessionBackoffExpiry (t : Nat) (stream : Nat)
  /-- STREAM_SILENCE_TIMEOUT, R147. -/
  | streamSilenceTimeout (t : Nat) (stream : Nat)
  /-- STREAM_ENABLE, R170. -/
  | streamEnable (t : Nat) (who : Who) (stream : Nat) (on : Bool)
  /-- ADMISSION_COLLECTION_CLOSE, R170. -/
  | admissionCollectionClose (t : Nat)
  /-- STREAM_STOPPED, R170. -/
  | streamStopped (t : Nat) (stream : Nat)
  /-- ADOPTION_GRACE_EXPIRY, R152. -/
  | adoptionGraceExpiry (t : Nat) (stream : Nat)
  /-- OLD_STREAM_TABLE_EXPIRY, R174. -/
  | oldStreamTableExpiry (t : Nat)
  /-- PARTNER_STATUS_WINDOW_END, R177. -/
  | partnerStatusWindowEnd (t : Nat) (cond : Nat) (clearing : Bool)
  /-- REQUEST_HEADER, R146. -/
  | requestHeader (t : Nat) (who : Who) (stream : Nat)
  /-- CLEAR_INGEST_COUNTERS, R181. -/
  | clearIngestCounters (t : Nat) (who : Who)
  /-- SLOT_OPEN, R199. -/
  | slotOpen (t : Nat) (group : Nat)
  /-- SPECULATIVE_WAIT_EXPIRY, R196. -/
  | speculativeWaitExpiry (t : Nat) (group slot : Nat)
  /-- MAXIMUM_WAIT_EXPIRY, R196. -/
  | maximumWaitExpiry (t : Nat) (group slot : Nat)
  /-- RECALL, R218. -/
  | recallDue (t : Nat) (group : Nat)
  /-- SUSPENSION_EXPIRY, R224. -/
  | suspensionExpiry (t : Nat) (group : Nat)
  /-- RESUME_SPECULATION, R224. -/
  | resumeSpeculation (t : Nat) (who : Who) (group : Nat)
  /-- CHECKPOINT_ERROR, R225. -/
  | checkpointError (t : Nat) (group : Nat)
  /-- CLEAR_ALIGNMENT_COUNTERS, R234. -/
  | clearAlignmentCounters (t : Nat) (who : Who)
  /-- UTILISATION_SAMPLE, R239. -/
  | utilisationSample (t : Nat)
  /-- MIGRATION_CONTEXT_LOADED, R250. -/
  | migrationContextLoaded (t : Nat) (stream : Nat)
  /-- MIGRATION_DOUBLE_RECEIVE, R250. -/
  | migrationDoubleReceive (t : Nat) (stream : Nat)
  /-- MIGRATION_CUTOVER, R250. -/
  | migrationCutover (t : Nat) (stream : Nat)
  /-- MIGRATION_ABANDON, R251. -/
  | migrationAbandon (t : Nat) (stream reason : Nat) (failed : List Nat)
  /-- SLICE_FAULT, R252. -/
  | sliceFault (t : Nat) (slice cause : Nat)
  /-- TAKEOVER_COMPLETE, R253. -/
  | takeoverComplete (t : Nat) (slice : Nat)
  /-- SPARE_SELF_CHECK, R256. -/
  | spareSelfCheck (t : Nat) (slice : Nat) (pass : Bool)
  /-- PARK_DELAY_EXPIRY, R257. -/
  | parkDelayExpiry (t : Nat)
  /-- REBALANCE_NOW, R247. -/
  | rebalanceNow (t : Nat) (who : Who)
  /-- RESTORE_RETIRED_SLICES, R256. -/
  | restoreRetiredSlices (t : Nat) (who : Who)
  /-- CLEAR_PLACEMENT_COUNTERS, R265. -/
  | clearPlacementCounters (t : Nat) (who : Who)
  /-- MODE_REFRESH, R286. -/
  | modeRefresh (t : Nat)
  /-- LOCATION_RESULT, R298. -/
  | locationResult (t : Nat)
  /-- INTERHARMONIC_WINDOW_END, R299. -/
  | interharmonicWindowEnd (t : Nat) (windows : List WaveWindow)
  /-- RESET_MODE_METER, R292. -/
  | resetModeMeter (t : Nat) (who : Who)
  /-- CLEAR_EDDY_COUNTERS, R308. -/
  | clearEddyCounters (t : Nat) (who : Who)
  /-- VECTOR_SHIFT_HOLD_EXPIRY, R333. -/
  | vectorShiftHoldExpiry (t : Nat) (row : Nat)
  /-- CLEAR_OXBOW_COUNTERS, R340. -/
  | clearOxbowCounters (t : Nat) (who : Who)
  /-- LOCAL_RULE_UPDATE, R351. -/
  | localRuleUpdate (t : Nat) (rule : Nat)
  /-- ACKNOWLEDGE, R354. -/
  | acknowledge (t : Nat) (who : Who) (rule : Nat)
  /-- RULE_ENGINE_HEARTBEAT, R358. -/
  | ruleEngineHeartbeat (t : Nat)
  /-- HEARTBEAT_LOSS, R358. -/
  | heartbeatLoss (t : Nat)
  /-- MINIMUM_ALARM_TIME_EXPIRY, R357. -/
  | minimumAlarmTimeExpiry (t : Nat) (pin : Nat)
  /-- PIN_TEST, R359. -/
  | pinTest (t : Nat) (who : Who) (pin : Nat)
  /-- PIN_TEST_END, R359. -/
  | pinTestEnd (t : Nat) (pin : Nat)
  /-- ALARM_FRAME_REPEAT, R362. -/
  | alarmFrameRepeat (t : Nat) (rule : Nat)
  /-- ALARM_HEARTBEAT, R362. -/
  | alarmHeartbeat (t : Nat)
  /-- TOKEN_REFILL, R364. -/
  | tokenRefill (t : Nat) (port : Nat)
  /-- ALARM_STORM_END, R365. -/
  | alarmStormEnd (t : Nat) (port : Nat)
  /-- GOOSE_RETRANSMIT, R368. -/
  | gooseRetransmit (t : Nat) (dataset : Nat)
  /-- CLEAR_ALARM_COUNTERS, R373. -/
  | clearAlarmCounters (t : Nat) (who : Who)
  /-- OUTPUT_COMMAND_RX, R383. -/
  | outputCommandRx (t : Nat) (pair : Nat) (src : List Byte) (sport : Nat) (frame : List Byte)
  /-- ARCHIVE_DESCRIPTOR_POST, R567. -/
  | archiveDescriptorPost (t : Nat)
  /-- FREEZE_RING, R393. -/
  | freezeRing (t : Nat) (who : Who)
  /-- RELEASE_RING, R395. -/
  | releaseRing (t : Nat) (who : Who)
  /-- EXPORT_RING, R395. -/
  | exportRing (t : Nat) (who : Who)
  /-- RING_EXPORT_COMPLETE, R395. -/
  | ringExportComplete (t : Nat)
  /-- CLEAR_PUBLISHING_COUNTERS, R398. -/
  | clearPublishingCounters (t : Nat) (who : Who)
  /-- FEEDER_ENABLE, R402. -/
  | feederEnable (t : Nat) (who : Who) (feeder : Nat) (on : Bool)
  /-- FEEDER_ON, R402. -/
  | feederOn (t : Nat) (feeder : Nat)
  /-- FEEDER_STOPPED, R402. -/
  | feederStopped (t : Nat) (feeder : Nat)
  /-- RETURN_DELAY_MEAN, R404. -/
  | returnDelayMean (t : Nat) (channel measured : Nat)
  /-- MODULATOR_FAULT, R407. -/
  | modulatorFault (t : Nat) (channel : Nat)
  /-- MODULATOR_FAULT_CLEARED, R407. -/
  | modulatorFaultCleared (t : Nat) (channel : Nat)
  /-- SAMPLE_12K8, R418. -/
  | sample12K8 (t : Nat) (raw : List Chain)
  /-- CYCLE_WINDOW_END, R419. -/
  | cycleWindowEnd (t : Nat)
  /-- ESTIMATOR_OUTPUT, R426. -/
  | estimatorOutput (t : Nat) (feeder : Nat) (mClass : Bool) (k : Nat)
  /-- SWITCH_FILTER_BANK, R415. -/
  | switchFilterBank (t : Nat) (who : Who) (fade : Nat)
  /-- BANK_FADE_COMPLETE, R416. -/
  | bankFadeComplete (t : Nat)
  /-- PEAK_SINCE_READ, R418. -/
  | peakSinceRead (t : Nat) (who : Who) (channel : Nat)
  /-- LOCAL_STREAM_ENABLE, R430. -/
  | localStreamEnable (t : Nat) (who : Who) (stream : Nat) (on : Bool)
  /-- LOCAL_STREAM_ON, R430. -/
  | localStreamOn (t : Nat) (stream : Nat)
  /-- SV_LOST, R433. -/
  | svLost (t : Nat) (row : Nat)
  /-- CLEAR_HEADWATER_COUNTERS, R437. -/
  | clearHeadwaterCounters (t : Nat) (who : Who)
  /-- CAPTURE_ROW, R439. -/
  | captureRow (t : Nat) (raw : List Chain) (din : Nat) (edges : List DinEdge)
  /-- CAPTURE_ENABLE, R446. -/
  | captureEnable (t : Nat) (who : Who) (on : Bool)
  /-- TRIGGER_CAPTURE, R442. -/
  | triggerCapture (t : Nat) (who : Who) (arg : Nat)
  /-- RECORD_CLOSE, R446. -/
  | recordClose (t : Nat)
  /-- CAPTURE_OVERFLOW, R453. -/
  | captureOverflow (t : Nat)
  /-- REARM_COMPLETE, R446. -/
  | rearmComplete (t : Nat)
  /-- EXPORT_RECORD, R459. -/
  | exportRecord (t : Nat) (who : Who) (row : Nat)
  /-- RECORD_EXPORT_COMPLETE, R459. -/
  | recordExportComplete (t : Nat)
  /-- RELEASE_RECORD, R459. -/
  | releaseRecord (t : Nat) (who : Who) (row : Nat)
  /-- LEASH_MESSAGE_RX, R462. -/
  | leashMessageRx (t : Nat) (syn : Bool) (msg : List Byte)
  /-- LEASH_SEND, R466. -/
  | leashSend (t : Nat)
  /-- LEASH_ACT, R467. -/
  | leashAct (t : Nat)
  /-- LEASH_CALIBRATE, R464. -/
  | leashCalibrate (t : Nat) (hops : List Nat) (returned : Option Nat)
  /-- RECALIBRATE_LEASH, R464. -/
  | recalibrateLeash (t : Nat) (who : Who)
  /-- CLEAR_CAPTURE_COUNTERS, R471. -/
  | clearCaptureCounters (t : Nat) (who : Who)
  /-- DEMAND_INTERVAL_END, R485. -/
  | demandIntervalEnd (t : Nat)
  /-- THERMISTOR_UPDATE, R482. -/
  | thermistorUpdate (t : Nat)
  /-- TEMPERATURE_TIMEOUT, R483. -/
  | temperatureTimeout (t : Nat) (channel : Nat)
  /-- ENERGY_SAVE, R488. -/
  | energySave (t : Nat)
  /-- TAKE_SNAPSHOT, R490. -/
  | takeSnapshot (t : Nat) (who : Who)
  /-- CLEAR_ENERGY_REGISTERS, R491. -/
  | clearEnergyRegisters (t : Nat) (who : Who) (feeder : Nat)
  /-- ACKNOWLEDGE_WRAPS, R491. -/
  | acknowledgeWraps (t : Nat) (who : Who) (feeder : Nat)
  /-- RESET_MAXIMUM_DEMAND, R487. -/
  | resetMaximumDemand (t : Nat) (who : Who) (feeder : Nat)
  /-- CLEAR_ENERGY_COUNTERS, R496. -/
  | clearEnergyCounters (t : Nat) (who : Who)
  /-- JOB_DUE, R503. -/
  | jobDue (t : Nat) (job : Nat)
  /-- JOB_DISPATCH, R507. -/
  | jobDispatch (t : Nat) (job : Nat)
  /-- JOB_WAIT_EXPIRY, R507. -/
  | jobWaitExpiry (t : Nat) (job : Nat)
  /-- JOB_RUN_END, R509. -/
  | jobRunEnd (t : Nat) (job : Nat)
  /-- JOB_ENABLE, R506. -/
  | jobEnable (t : Nat) (who : Who) (job : Nat) (on : Bool)
  /-- RUN_JOB_NOW, R511. -/
  | runJobNow (t : Nat) (who : Who) (job : Nat)
  /-- CLEAR_JOB_STATISTICS, R514. -/
  | clearJobStatistics (t : Nat) (who : Who)
  /-- IMIAN_READ, R525. -/
  | imianRead (t : Nat) (who : Who) (msg : List Byte)
  /-- IMIAN_WRITE, R526. -/
  | imianWrite (t : Nat) (who : Who) (msg : List Byte)
  /-- READ_SEG, R529. -/
  | readSeg (t : Nat) (who : Who) (msg : List Byte)
  /-- WRITE_SEG, R530. -/
  | writeSeg (t : Nat) (who : Who) (msg : List Byte)
  /-- SEGMENT_TRANSFER_TIMEOUT, R530. -/
  | segmentTransferTimeout (t : Nat) (idx sub row : Nat)
  /-- SUBSCRIBE, R538. -/
  | subscribe (t : Nat) (who : Who) (msg : List Byte)
  /-- SUBSCRIPTION_NOTIFY, R539. -/
  | subscriptionNotify (t : Nat) (session n : Nat)
  /-- SUMMARY, R550. -/
  | summary (t : Nat) (who : Who) (msg : List Byte)
  /-- DTLS_HANDSHAKE, R532. -/
  | dtlsHandshake (t : Nat) (peer : List Byte) (cert : List Byte) (proved : Bool)
  /-- SESSION_IDLE_TIMEOUT, R532. -/
  | sessionIdleTimeout (t : Nat) (session : Nat)
  /-- CLOSE_SESSION, R554. -/
  | closeSession (t : Nat) (who : Who) (session : Nat)
  /-- MAILBOX_GO, R533. -/
  | mailboxGo (t : Nat)
  /-- MAILBOX_ACK, R533. -/
  | mailboxAck (t : Nat)
  /-- CAN_REQUEST, R535. -/
  | canRequest (t : Nat) (controller id : Nat) (canFd64 : Bool) (frame : List Byte)
  /-- VALIDATE_SHADOW, R543. -/
  | validateShadow (t : Nat) (who : Who)
  /-- VALIDATION_END, R543. -/
  | validationEnd (t : Nat)
  /-- SWAP, R723. -/
  | swap (t : Nat) (who : Who) (arg : List Byte)
  /-- SWAP_INSTANT, R546. -/
  | swapInstant (t : Nat)
  /-- SYNC, R547. -/
  | sync (t : Nat) (who : Who)
  /-- CANCEL_SWAP, R547. -/
  | cancelSwap (t : Nat) (who : Who)
  /-- RESET_DEVICE, R601. -/
  | resetDevice (t : Nat) (who : Who)
  /-- Q_DATA_READ, R562. -/
  | qDataRead (t : Nat) (q : Nat)
  /-- Q_RPTR_WRITE, R563. -/
  | qRptrWrite (t : Nat) (q value : Nat)
  /-- Q_CTRL_CLEAR_LOST, R559. -/
  | qCtrlClearLost (t : Nat) (q : Nat)
  /-- Q_CTRL_CLEAR_UNDERRUN, R559. -/
  | qCtrlClearUnderrun (t : Nat) (q : Nat)
  /-- Q_MODE_WRITE, R564. -/
  | qModeWrite (t : Nat) (q value : Nat)
  /-- Q_TEST_PUSH, R564. -/
  | qTestPush (t : Nat) (q value : Nat)
  /-- SLUICE_IRQ_DELAY, R569. -/
  | sluiceIrqDelay (t : Nat) (q : Nat)
  /-- INT_STATUS_CLEAR, R569. -/
  | intStatusClear (t : Nat) (value : Nat)
  /-- RING_ENABLE, R566. -/
  | ringEnable (t : Nat) (ring value : Nat) (busMaster : Bool)
  /-- RING_RD_DOORBELL, R566. -/
  | ringRdDoorbell (t : Nat) (ring value : Nat)
  /-- BAR_LOW_HALF_WRITE, R558. -/
  | barLowHalfWrite (t : Nat) (bar offset value : Nat)
  /-- BAR_WRITE, R558. -/
  | barWrite (t : Nat) (bar offset width value : Nat)
  /-- FUNCTION_RESET, R570. -/
  | functionReset (t : Nat) (hot : Bool)
  /-- PCIE_LINK_UP, R571. -/
  | pcieLinkUp (t : Nat) (speed width : Nat)
  /-- PCIE_LINK_DOWN, R571. -/
  | pcieLinkDown (t : Nat)
  /-- SLUICE_POP, R571. -/
  | sluicePop (t : Nat) (who : Who) (q : Nat)
  /-- CLEAR_HOST_COUNTERS, R573. -/
  | clearHostCounters (t : Nat) (who : Who)
  /-- BYRDO_LOCKSTEP_MISMATCH, R576. -/
  | byrdoLockstepMismatch (t : Nat)
  /-- BYRDO_WATCHDOG_EXPIRY, R576. -/
  | byrdoWatchdogExpiry (t : Nat)
  /-- BYRDO_RESTART_COMPLETE, R576. -/
  | byrdoRestartComplete (t : Nat)
  /-- HELD_COUNTER_COPY, R579. -/
  | heldCounterCopy (t : Nat)
  /-- HK_FIXED_SLOT, R582. -/
  | hkFixedSlot (t : Nat) (raw : List Nat)
  /-- HK_SCAN, R582. -/
  | hkScan (t : Nat) (raw : List (List Nat))
  /-- HK_CONVERT, R581. -/
  | hkConvert (t : Nat) (channel raw : Nat)
  /-- HK_CALIBRATE, R583. -/
  | hkCalibrate (t : Nat)
  /-- CALIBRATE_ADC, R583. -/
  | calibrateAdc (t : Nat) (who : Who)
  /-- CALIBRATION_END, R583. -/
  | calibrationEnd (t : Nat) (ground high : Int)
  /-- FAULT_LIMIT, R586. -/
  | faultLimit (t : Nat) (channel : Nat)
  /-- TEST_CHANNEL, R588. -/
  | testChannel (t : Nat) (who : Who) (channel : Nat)
  /-- CHANNEL_TEST_END, R588. -/
  | channelTestEnd (t : Nat) (raw : List (List Nat))
  /-- EVENT_POST, R590. -/
  | eventPost (t : Nat) (code source : Nat) (params : List Byte)
  /-- EVENT_LOG_WRITE, R590. -/
  | eventLogWrite (t : Nat)
  /-- FREEZE_LOG, R593. -/
  | freezeLog (t : Nat) (who : Who)
  /-- RELEASE_LOG_FREEZE, R593. -/
  | releaseLogFreeze (t : Nat) (who : Who)
  /-- LOG_FREEZE_TIMEOUT, R593. -/
  | logFreezeTimeout (t : Nat)
  /-- CLEAR_EVENT_LOG, R595. -/
  | clearEventLog (t : Nat) (who : Who)
  /-- CLEAR_HOUSEKEEPING_COUNTERS, R598. -/
  | clearHousekeepingCounters (t : Nat) (who : Who)
  /-- SUMMARY_WINDOW_END, R720. -/
  | summaryWindowEnd (t : Nat) (code key : Nat)
  /-- WAKE_SOURCE, R611. -/
  | wakeSource (t : Nat) (source rtc : Nat) (saveGood vbat : Bool)
  /-- WAKE_STAGE_END, R615. -/
  | wakeStageEnd (t : Nat) (monitors : Nat) (ready recoverN : Bool)
  /-- WAKE_DISCHARGE_END, R615. -/
  | wakeDischargeEnd (t : Nat)
  /-- SUPPLY_LOSS, R601. -/
  | supplyLoss (t : Nat)
  /-- RESET_N_RELEASE, R708. -/
  | resetNRelease (t : Nat) (recoverN : Bool)
  /-- POWER_FAIL_WARNING, R617. -/
  | powerFailWarning (t : Nat)
  /-- POWER_FAIL_RELEASE, R618. -/
  | powerFailRelease (t : Nat)
  /-- SELF_TEST_COMPLETE, R621. -/
  | selfTestComplete (t : Nat) (found : TestFindings) (duration fallback : Nat)
  /-- ENTER_RUN, R601. -/
  | enterRun (t : Nat)
  /-- CDIE_FATAL_ERROR, R26. -/
  | cdieFatalError (t : Nat)
  /-- D2D_LINK_LOST, R21. -/
  | d2dLinkLost (t : Nat)
  /-- PACKAGE_MEMORY_LOST, R26. -/
  | packageMemoryLost (t : Nat) (channel : Nat)
  /-- ENTER_SENTINEL, R624. -/
  | enterSentinel (t : Nat) (who : Who)
  /-- ENTER_KENNEL, R601. -/
  | enterKennel (t : Nat) (who : Who)
  /-- RESTART_CDIE, R626. -/
  | restartCdie (t : Nat) (who : Who)
  /-- AUTOMATIC_RESTART, R625. -/
  | automaticRestart (t : Nat)
  /-- CDIE_RESTART_END, R626. -/
  | cdieRestartEnd (t : Nat) (failed : List (Nat × Nat))
  /-- AUTOMATIC_RESET, R628. -/
  | automaticReset (t : Nat)
  /-- CLEAR_POWER_COUNTERS, R636. -/
  | clearPowerCounters (t : Nat) (who : Who)
  /-- SHEPHERD_VALID, R631. -/
  | shepherdValid (t : Nat)
  /-- SHEPHERD_FAILURE, R634. -/
  | shepherdFailure (t : Nat) (cause : Nat)
  /-- SHEPHERD_MINIMUM_ALARM_EXPIRY, R632. -/
  | shepherdMinimumAlarmExpiry (t : Nat) (pin : Nat)
  /-- TAMPER, R645. -/
  | tamper (t : Nat) (input : Nat)
  /-- APPLY_KEY_UPDATE, R647. -/
  | applyKeyUpdate (t : Nat) (who : Who)
  /-- ATTEST, R656. -/
  | attest (t : Nat) (who : Who) (nonce : List Byte)
  /-- ATTESTATION_COMPLETE, R656. -/
  | attestationComplete (t : Nat)
  /-- ABORT_UPDATE, R662. -/
  | abortUpdate (t : Nat) (who : Who)
  /-- ACTIVATE, R663. -/
  | activate (t : Nat) (who : Who)
  /-- CONFIRM_UPDATE, R665. -/
  | confirmUpdate (t : Nat) (who : Who)
  /-- REVERT_UPDATE, R664. -/
  | revertUpdate (t : Nat) (who : Who)
  /-- TRIAL_WINDOW_EXPIRY, R664. -/
  | trialWindowExpiry (t : Nat)
  /-- MIRROR_FRAME_RX, R670. -/
  | mirrorFrameRx (t : Nat) (path : Nat) (frame : List Byte)
  /-- MIRROR_SUPERVISION_TX, R671. -/
  | mirrorSupervisionTx (t : Nat)
  /-- PEER_LOSS, R671. -/
  | peerLoss (t : Nat)
  /-- LEAD_ALONE_TIMEOUT, R672. -/
  | leadAloneTimeout (t : Nat)
  /-- WHEEL_IN_STEP, R677. -/
  | wheelInStep (t : Nat)
  /-- HAND_OVER_LEAD, R683. -/
  | handOverLead (t : Nat) (who : Who)
  /-- RESYNCHRONISE, R677. -/
  | resynchronise (t : Nat) (who : Who)
  /-- PAIR_SWAP_ACK_TIMEOUT, R684. -/
  | pairSwapAckTimeout (t : Nat)
  /-- PACK_EXCHANGE_LATE, R688. -/
  | packExchangeLate (t : Nat) (group slot type member : Nat)
  /-- HOME_DUTY_TRANSFERRED, R689. -/
  | homeDutyTransferred (t : Nat) (member : Nat)
  /-- PACK_WAKE, R690. -/
  | packWake (t : Nat) (who : Who) (member : Nat)
  /-- CLEAR_REDUNDANCY_COUNTERS, R693. -/
  | clearRedundancyCounters (t : Nat) (who : Who)
  /-- PULSE_END, R79. -/
  | pulseEnd (t : Nat) (out : Nat)
  /-- UNPARKING_END, R258. -/
  | unparkingEnd (t : Nat)
  /-- RESET_N_ASSERTED, R708. -/
  | resetNAsserted (t : Nat) (width : Nat)
  /-- SESSION_CLOSED_BY_CLIENT, R530. -/
  | sessionClosedByClient (t : Nat) (session : Nat)
  /-- DETACHED, R681. -/
  | detached (t : Nat)
  /-- VBAT_LOST, R705. -/
  | vbatLost (t : Nat)
deriving DecidableEq, Repr

end Sys2Proof
end

