-- ==== Sys2Proof/Config.lean ====
section
/-! DEFINITION. What the spec leaves to the part or to outside standards: opaque constants (no value of one can be
proved), and the fixed numbers of one implementation. -/

namespace Sys2Proof.Config

/-- The free values of undefined or unstated results: draw n of the state's counter. -/
opaque freeValue : Nat → Nat

/-- The device identity of R16, programmed at manufacture: 128 bits. -/
opaque identity : Nat
/-- The factory MAC address base of 0x2100:09 (R94). -/
opaque factoryMac : Nat
/-- Default bytes that the manifest or manufacture gives to object idx:sub, row. -/
opaque manifestBytes : Nat → Nat → Nat → List Byte
/-- Default number that the manifest gives to object idx:sub, row. -/
opaque manifestNum : Nat → Nat → Nat → Nat

/-- True of a part of temperature grade X (R18), false of grade I. -/
opaque gradeX : Bool

/-! Cryptographic functions of outside standards (assumption 7): SHA-256 and SHA-384, HMAC-SHA256, AES-GMAC, AES-CMAC,
ECDSA P-384, RFC 5649 key unwrap, HKDF-SHA384. -/

opaque sha384 : List Byte → List Byte
opaque hmacSha256 : List Byte → List Byte → List Byte
opaque aesGmac : List Byte → List Byte → List Byte
opaque aesCmac : List Byte → List Byte → List Byte
opaque ecdsaVerify : List Byte → List Byte → List Byte → Bool
opaque ecdsaSign : Nat → List Byte → List Byte
/-- The owner public key a device of FIELD life-cycle holds in slot 0, 97 bytes. -/
opaque ownerKey0 : List Byte
/-- The DTLS public key (0x3001:04) and the key-transport public key (0x3001:02) of a life-cycle. -/
opaque dtlsPublicKey : Nat → List Byte
opaque transportPublicKey : Nat → List Byte
/-- Key of an unwrapped blob: root number, measurement salt, blob bytes; none when the unwrap fails (R653). -/
opaque unwrapBlob : Nat → List Byte → List Byte → Option (List Byte)
/-- Key carried by a type-2 message: root number, ephemeral key, counter, payload; none when the unwrap fails (R649). -/
opaque unwrapTransport : Nat → List Byte → Nat → List Byte → Option (List Byte)
/-- Key wrapped into a blob under the root, the salt and the 16 header bytes (R652, R653). -/
opaque wrapBlob : Nat → List Byte → List Byte → List Byte → List Byte
/-- The Omaven firmware public keys in the boot ROM. -/
opaque omavenKey : Nat → List Byte
/-- The root certificate chain check of a DTLS client certificate: chain root hash, certificate bytes (R532). -/
opaque chainValid : List Byte → List Byte → Bool
/-- The SubjectPublicKeyInfo of a certificate. -/
opaque spki : List Byte → List Byte

/-- The fixed internal conversion of housekeeping channels 16–23 from the corrected code, to °C or V, as an F32 (R584). -/
opaque hkFixed : Nat → Nat → Nat

/-- The MAC address that address resolution (ARP, neighbour discovery) gives for a 16-byte unicast address on a pair (assumption 17). -/
opaque nextHop : Nat → List Byte → List Byte

/-! The transports of outside standards under Imian, C37.118.2 sessions and pair M (assumption 89): whole IP packets. -/

/-- The packets that carry a message to the peer of a DTLS session (R531): session, message; and a close alert to an address. -/
opaque dtlsPackets : Nat → List Byte → List (List Byte)
opaque alertPackets : List Byte → List (List Byte)
/-- The packets that carry bytes on the TCP session of a stream (R146). -/
opaque tcpPackets : Nat → List Byte → List (List Byte)
/-- The MAC address and the packet that carry a mirror frame on pair M to the peer's management address (R671). -/
opaque peerMac : List Byte
opaque peerPacket : List Byte → List Byte

/-! Filters and loops whose form the spec does not give (assumption 8). -/

/-- The PTP servo: filtered offset after a measurement, from the filtered offset before and the measured one, ps. -/
opaque servoFilter : Int → Int → Int
/-- The frequency estimate after a measurement, from the estimate before and the filtered offset, 10⁻¹² parts. -/
opaque servoFrequency : Int → Int → Int
/-- The GAT tracker's correction to the measured frequency at a phase error, both in 2^-32 (Hz, cycles). -/
opaque trackerCorrection : Int → Int

/-- The eigen-solution of a mode-meter refresh (R286) from the covariances, the numbers of signals and references, the Hankel depth and the
model order: 0 and the eigenvalues with their shapes, all as F64 patterns (real, imaginary); 1 when the rank fails; 2 when the eigenpairs do
not converge. -/
opaque modeSolve : List Nat → Nat → Nat → Nat → Nat → Nat × List ((Nat × Nat) × List (Nat × Nat))

end Sys2Proof.Config
end

