-- ==== Sys2Proof/Machine/ObjTypes.lean ====
section
/-! DEFINITION. The types of the object dictionary's rows (R516–R518) and of its value stores. -/

namespace Sys2Proof.Machine

/-- Object types (R517). -/
inductive Ty where
  | cmd | bool | u8 | u16 | u32 | u64 | i16 | i32 | i64 | f32 | f64 | t96 | gat | octets | string | domain
deriving DecidableEq, Repr

/-- Access codes (R518) with the least role that may write or command: 1 Observer, 2 Operator, 3 Engineer,
4 Security Officer (R519). -/
inductive Acc where
  | ro
  | rw (role : Nat)
  | rws (role : Nat)
  | cmd (role : Nat)
deriving DecidableEq, Repr

/-- How a default depends on the row. -/
inductive Dflt where
  | n (v : Nat)               -- the same number in every row
  | list (vs : List Nat)      -- by row, 0 past the list's end
  | cycle (vs : List Nat)     -- by row modulo the list's length
  | base (v : Nat)            -- v + row
  | oct (bs : List Nat)       -- these bytes
  | zeros (k : Nat)           -- k zero bytes
  | mac                       -- the factory address base + port (R94)
  | manifest                  -- the bytes of the firmware manifest or of manufacture
deriving DecidableEq, Repr

/-- The range check 7 of R521 applies to a written value. -/
inductive Rng where
  | any
  | iv (l : List (Int × Int))        -- integer intervals, ends included (R5)
  | fiv (lo hi : Nat)                -- F32 interval, by the patterns of its ends
  | fpos | fnonneg | fnonzero
  | step (lo hi k : Nat)             -- lo to hi in steps of k
  | rates (zero : Bool)              -- reporting rates of R143; 0 too when zero is set
  | size (n : Nat)                   -- OCTETS of exactly n bytes
  | chars (lo hi : Nat)              -- STRING of lo to hi characters 0x20–0x7E
  | dom (lo hi : Nat)                -- DOMAIN of lo to hi bytes
  | combiner                         -- reserved bits 0, function not the reserved code 3 (R11, R349)
deriving DecidableEq, Repr

/-- One row of an object table. -/
structure ObjRow where
  idx : Nat
  sub : Nat
  ty : Ty
  acc : Acc
  rows : Nat
  dflt : Dflt
  rng : Rng
deriving DecidableEq, Repr

/-- Sparse values by key, in increasing key, with no entry equal to what an absent key reads as. -/
abbrev Dict := List (Nat × Val)

/-- Sparse records by key, in increasing key; an absent key holds the record's initial value. -/
abbrev Tab (α : Type) := List (Nat × α)

end Sys2Proof.Machine
end

