-- ==== Sys2Proof/Machine/State.lean ====
section
/-! DEFINITION. The state of the block, as plain data: every register, FIFO, buffer, counter, mode and pin the spec gives it,
and the queue of waiting commands.  The objects of the dictionary live in four stores (`active`, `shadow`: the RWS objects of the two
configuration sets; `live`: the RW objects in MRAM; `status`: the RO objects and counters), keyed by index, subindex and row;
what an object table does not name stands in one structure per chapter. -/

namespace Sys2Proof.Machine
open Sys2Proof

/-- The spec gives no condition under which the block stops: every occurrence has an effect or none.  So no meaning faults and the
type has no constructor (safe: nothing is cut short). -/
inductive Fault where
deriving DecidableEq, Repr

/-- Why a command has no outcome. -/
inductive Refusal where
  /-- Raised by the dispatch alone, for a command whose meaning is not written; safe, since nothing can be proved of a run past it. -/
  | notModelled (mnemonic : String)
deriving DecidableEq, Repr

/-- What leaves the block during a step; the list is emptied when the next step begins. -/
inductive Out where
  /-- An Imian response message to its sender (R523). -/
  | response (who : Who) (msg : List Byte)
  /-- The status of an Imian command item (R522). -/
  | status (who : Who) (code : Nat)
  /-- A NOTIFY message on a DTLS session (R539). -/
  | notify (session : Nat) (msg : List Byte)
  /-- A CAN FD response frame (R534). -/
  | canFrame (controller : Nat) (frame : List Byte)
  /-- The completion of a BAR read. -/
  | read (value : Nat)
  /-- An MSI-X message on a vector (R569). -/
  | msix (vector : Nat)
  /-- Bytes written by DMA into a ring (0 archive, 1 export) at a ring offset (R566). -/
  | dma (ring offset : Nat) (bytes : List Byte)
  /-- A frame handed to a port's wire: port and bytes from the destination address to before the FCS; true when its FCS is bad. -/
  | wire (port : Nat) (badFcs : Bool) (frame : List Byte)
  /-- A received frame handed to the subsystem of its EtherType (R98): port, EtherType, VID, frame. -/
  | dispatched (port etherType vid : Nat) (frame : List Byte)
  /-- A row's mode-1 TCP session is opened, to the partner's address and 0x2201:0C, or closed (R144, R146). -/
  | tcpOpen (stream : Nat) (address : List Byte) (port : Nat)
  | tcpClose (stream : Nat)
  /-- A C37.118.2 command handed to a row's mode-1 TCP session (R146). -/
  | tcp (stream : Nat) (frame : List Byte)
  /-- A mirror frame sent on pair M to the peer's management address (R671). -/
  | pairM (frame : List Byte)
  /-- The wake of a pack member, sent on pair M (R690). -/
  | packWake (member : Nat)
  /-- A DTLS close alert (R532). -/
  | closeAlert (peer : List Byte)
  /-- An edge of a TOUT pin (R77): output, level. -/
  | tout (out : Nat) (level : Bool)
  /-- A message sent or forwarded on the Leash (R462): on LEASH_SYN_OUT, else on LEASH_TRG_OUT. -/
  | leash (syn : Bool) (msg : List Byte)
deriving DecidableEq, Repr


/-! ### Chapter 02: absolute time and grid-angle time -/

/-- What is known of one time source (R47–R48). Times are instants on the internal timebase, ps. -/
structure Source where
  /-- since when the qualification condition has held without interruption -/
  okSince : Option Nat
  qualified : Bool
  inDisagreement : Bool
  /-- filtered offset of T96 from the source, ps (T96 − source) -/
  offset : Int
  /-- last pulse, frame or Sync -/
  lastSeen : Nat
  /-- last Announce (PTP) -/
  lastAnnounce : Nat
  /-- bad or missing pulses or frames in succession -/
  bad : Nat
  /-- since when the measured frequency offset has been beyond 200 ppm (R39) -/
  farSince : Option Nat
deriving DecidableEq, Repr, Inhabited

def Source.reset : Source := ⟨none, false, false, 0, 0, 0, 0, none⟩

/-- The Announce dataset in force on a PTP port. -/
structure Announce where
  parent : Nat
  gm : Nat
  priority1 : Nat
  clockClass : Nat
  accuracy : Nat
  variance : Nat
  priority2 : Nat
  steps : Nat
  utcOffset : Int
  utcValid : Bool
  leap61 : Bool
  leap59 : Bool
  heardAt : Nat
deriving DecidableEq, Repr, Inhabited

/-- One of TOUT0–3 (R77–R79). -/
structure Pulse where
  armed : Bool
  /-- instants already fired since arming -/
  fired : Nat
  /-- the earliest T96 and GAT at which the next firing may lie: 10 µs after arming, the instant of a write, or just after the last firing -/
  baseT96 : Nat
  baseGat : Nat
  /-- the internal instant the present pulse ends, while it lasts -/
  endsAt : Option Nat
  /-- writes of the row 0x2020 deferred under R79: key and value -/
  deferred : List (Nat × Val)
deriving DecidableEq, Repr, Inhabited

def Pulse.reset : Pulse := ⟨false, 0, 0, 0, none, []⟩

/-- The pair latched into the Kennel save area once a second (valid: T96 was set), with the uncertainty, the GAT, and whether GAT ran (R81,
R83); f as the save area holds it (R609). -/
structure Latch where
  valid : Bool
  t96 : Nat
  rtc : Nat
  uncertainty : Nat
  gat : Nat
  gatRan : Bool
  f : Int
deriving DecidableEq, Repr, Inhabited

/-- The timing subsystem. -/
structure TimeSt where
  /-- T96 is set -/
  isSet : Bool
  /-- when it became set, internal ps -/
  setAt : Nat
  /-- T96 in units of 2^-80 s; while T96 is unset, the accumulator the sources are measured against -/
  t96x : Nat
  /-- frequency offset estimate f, 10⁻¹² -/
  f : Int
  /-- phase still to be slewed, ps, positive when T96 must advance -/
  slew : Int
  /-- source code of 0x2000:05 -/
  selected : Nat
  /-- the source whose disqualification began the holdover -/
  lastSource : Nat
  /-- servo state of 0x2000:06 -/
  servo : Nat
  /-- holdover: entry instant, U₀ in ps -/
  holdAt : Nat
  u0 : Nat
  /-- event 0x2005 raised in this holdover episode -/
  limitRaised : Bool
  ptp : Source
  pps : Source
  irig : Source
  /-- Announce datasets by port P0–P5 -/
  announces : Tab Announce
  /-- the port the best-master-clock algorithm has chosen -/
  ptpPort : Option Nat
  /-- mean path delay by port, ps -/
  pathDelay : Tab Int
  /-- as a master: last Announce and Sync by port, internal ps, and the next sequence number of each -/
  ptpSent : Tab (Nat × Nat)
  irigLast : Option IrigFrame
  /-- a leap scheduled by the selected source: UTC instant at which Δ changes, in the T96 layout, and sign -/
  leap : Option (Nat × Int)
  /-- correction to the configured Δ by leaps applied since the set was loaded -/
  leapApplied : Int
  /-- the 0x2001:0F leap already applied -/
  leapDone : Option Nat
  /-- correction to the PTP offset announced before a leap, until another is announced -/
  ptpLeap : Int
  /-- the last leap applied: UTC instant at which Δ changed, in the T96 layout, and sign (R58) -/
  lastLeap : Option (Nat × Int)
  /-- last disagreement of R55 reported: PTP and configured Δ -/
  deltaReported : Option (Int × Int)
  lastClass : Nat
  trefLost : Bool
  trefOutOfRange : Bool
  /-- GAT runs -/
  gatOn : Bool
  /-- GAT in units of 2^-64 cycle, modulo 2^96 -/
  gatx : Nat
  /-- GAT frequency, 2^-32 Hz -/
  gatRate : Nat
  /-- the last 16 whole cycles GAT reached, newest first, each with the T96 instant at which it did (R76) -/
  edges : List (Nat × Nat)
  nominal : Bool
  pulling : Bool
  estimated : Bool
  /-- ESTIMATED was set by the re-base of R83 and so ends at the first NOMINAL clear -/
  estimatedByRebase : Bool
  /-- last valid reference sample, and since when no loss condition has held -/
  refSeen : Option Nat
  refOkSince : Option Nat
  /-- measured reference frequency, 2^-32 Hz; phase error, 2^-32 cycle signed (reference minus GAT) -/
  refFreq : Nat
  refError : Int
  /-- the loss conditions 0–2 of R67 at the last sample, as bits -/
  refBits : Nat
  /-- reference phase at that sample, 2^-32 cycle -/
  refPhase : Nat
  pullSince : Nat
  /-- last stamped edge by TRIG_IN input, ps -/
  trigLast : Tab Nat
  pulses : Tab Pulse
  latch : Latch
  /-- how often T96 has been set or stepped -/
  epoch : Nat
deriving DecidableEq, Repr, Inhabited

def TimeSt.reset : TimeSt :=
  { isSet := false, setAt := 0, t96x := 0, f := 0, slew := 0, selected := 0, lastSource := 0, servo := 0, holdAt := 0, u0 := 0,
    limitRaised := false, ptp := .reset, pps := .reset, irig := .reset, announces := [], ptpPort := none, pathDelay := [], ptpSent := [],
    irigLast := none, leap := none, leapApplied := 0, leapDone := none, ptpLeap := 0, lastLeap := none, deltaReported := none, lastClass := 7,
    trefLost := false, trefOutOfRange := false, gatOn := false, gatx := 0, gatRate := 0, edges := [],
    nominal := false, pulling := false, estimated := false, estimatedByRebase := false, refSeen := none, refOkSince := none,
    refFreq := 0, refError := 0, refBits := 0, refPhase := 0, pullSince := 0, trigLast := [], pulses := [], latch := ⟨false, 0, 0, 0, 0, false, 0⟩, epoch := 0 }


/-! ### Chapter 03: Ethernet ports, PRP, transmit gates -/

/-- A gate control list in force (R103–R105): enabled, GAT-based, base times, cycle times, entries (mask, interval). -/
structure GateList where
  enabled : Bool
  gatBased : Bool
  baseT96 : Nat
  baseGat : Nat
  cycleT96 : Nat
  cycleGat : Nat
  entries : List (Nat × Nat)
deriving DecidableEq, Repr, Inhabited

def GateList.open : GateList := ⟨false, false, 0, 0, 1000000, 1048576, []⟩

/-- A frame waiting for transmission: bytes from the destination address to before the FCS; source 1 marks a PTP event message, which takes its egress
stamp as it leaves (R59); a number for sent marks. -/
structure TxFrame where
  bytes : List Byte
  source : Nat
  number : Nat
deriving DecidableEq, Repr, Inhabited

/-- One port P0–P7. -/
structure Port where
  /-- link state of 0x2110:01 -/
  link : Nat
  queues : Tab (List TxFrame)
  /-- the frame in progress and when it ends -/
  sending : Option TxFrame
  /-- its queue; 8 once its overrun has been counted -/
  sendingQ : Nat
  busyUntil : Nat
  pausedSince : Option Nat
  pauseUntil : Nat
  /-- current cut-through threshold; none: that of 0x2100:07 -/
  raised : Option Nat
  lastRx : Nat
  /-- a frame has been received since the link came up -/
  heard : Bool
  silent : Bool
  gate : GateList
  newGate : Option GateList
  /-- first cycle start of the new list: T96, or GAT when it is GAT-based -/
  newGateAt : Nat
deriving DecidableEq, Repr, Inhabited

def Port.reset : Port := ⟨0, [], none, 8, 0, none, 0, none, 0, false, false, .open, none, 0⟩

/-- A node of the PRP node table (R123, R125): last heard, and the last 64 sequence numbers accepted from LAN A and LAN B with their instants. -/
structure Node where
  heardAt : Nat
  fromA : List (Nat × Nat)
  fromB : List (Nat × Nat)
deriving DecidableEq, Repr, Inhabited

/-- The ports, the pairs and the node tables. -/
structure PortSt where
  ports : Tab Port
  /-- pair states of 0x2111:01; a pair starts DOWN -/
  pairState : Tab Nat
  txSeq : Tab Nat
  supSeq : Tab Nat
  /-- when each pair last sent a supervision frame -/
  supAt : Tab Nat
  /-- nodes by pair × 2^48 + MAC address -/
  nodes : Tab Node
deriving DecidableEq, Repr, Inhabited

def PortSt.reset : PortSt := ⟨[], [], [], [], [], []⟩



/-! ### Chapter 04: partner streams -/

/-- Scaling of one phasor or analog channel: PHUNIT or ANUNIT [31:24] and [23:0]; under CFG-3 the scale and the angle adjustment or offset,
F32. -/
structure Channel where
  typ : Nat
  unit : Nat
  scale : Nat
  offset : Nat
deriving DecidableEq, Repr, Inhabited

/-- One PMU block of a configuration frame. -/
structure Block where
  format : Nat
  phasors : List Channel
  analogs : List Channel
  digitals : Nat
  /-- DIGUNIT words -/
  digUnits : List Nat
  fnom : Nat
  cfgCount : Nat
deriving DecidableEq, Repr, Inhabited

/-- A configuration frame, taken apart. -/
structure PartnerCfg where
  cfg3 : Bool
  idcode : Nat
  timeBase : Nat
  rate : Int
  blocks : List Block
  bytes : List Byte
deriving DecidableEq, Repr, Inhabited

/-- A received sample in the Pointer's history (R205): slot index, signal word, quality byte. -/
structure Sample where
  slot : Nat
  word : Nat
  quality : Nat
deriving DecidableEq, Repr, Inhabited

/-- What the device keeps of a stream beside its objects; its state is 0x2203:01 or 0x2911:01. -/
structure Stream where
  cfg : Option PartnerCfg
  /-- the configuration before the last adoption, and the adoption's instant (R152) -/
  oldCfg : Option PartnerCfg
  adoptedAt : Nat
  /-- kind (0 phasor, 1 frequency, 2 ROCOF, 3 analog, 4 digital) and index of the block's frequency, by signal k (R136) -/
  kinds : List (Nat × Nat)
  /-- when the present session step or backoff began, and the backoff in s (R146) -/
  stepAt : Nat
  backoff : Nat
  /-- a mode-1 TCP session is open -/
  tcp : Bool
  /-- turn-on commands sent while SILENT, and when the last was sent (R148) -/
  silentSends : Nat
  silentAt : Nat
  /-- last accepted data frame -/
  lastAccept : Nat
  /-- some block of the last accepted frame set STAT[10] (R151) -/
  statPending : Bool
  /-- FRACSEC[28] of the last accepted frame (R725) -/
  leapBit : Bool
  /-- the configuration frame last received (R142) -/
  lastCfg : List Byte
  /-- the CFG-1 frame last received (R142) -/
  cfg1 : List Byte
  /-- conditions of R175 that hold, as bits -/
  conds : Nat
  /-- the last 16 frames later than the horizon: slot and bytes (R161) -/
  lateFrames : List (Nat × List Byte)
  spduHigh : Option Nat
  nextKeyUsed : Bool
  /-- Pointer history by signal k, in rising slot order -/
  history : Tab (List Sample)
  /-- lateness of expected slots, newest first (R228) -/
  lateness : List (Nat × Bool)
deriving DecidableEq, Repr, Inhabited

def Stream.reset : Stream := ⟨none, none, 0, [], 0, 0, false, 0, 0, 0, false, false, [], [], 0, [], none, false, [], []⟩

/-- A reassembly in progress (R141). -/
structure Reassembly where
  src : List Byte
  ident : Nat
  startedAt : Nat
  pieces : List (Nat × List Byte)
  total : Option Nat
  bad : Bool
deriving DecidableEq, Repr, Inhabited

/-- A coalescing window of R176: start in T96, streams in order of onset. -/
structure StatusWindow where
  cond : Nat
  clearing : Bool
  start : Nat
  streams : List Nat
deriving DecidableEq, Repr, Inhabited

/-- The stream table of before the last swap, kept for 32 slots of group 0 (R174). -/
structure OldTable where
  set : Dict
  /-- rows that the swap changed, and the streams of those it restarted -/
  rows : List Nat
  streams : Tab Stream
  swapAt : Nat
  /-- group-0 slot index from which on it is dropped -/
  dropSlot : Nat
deriving DecidableEq, Repr, Inhabited

/-- Ingest. -/
structure IngestSt where
  streams : Tab Stream
  /-- when the admission collection opened, and its handles (R170) -/
  collection : Option Nat
  collected : List Nat
  reassemblies : List Reassembly
  /-- datagrams dropped because no context was free: source, identification, when (R141) -/
  refused : List (List Byte × Nat × Nat)
  /-- unknown-source rows in use: when last heard -/
  unknownHeard : Tab Nat
  windows : List StatusWindow
  bitmapNext : Nat
  /-- time sources whose fraction stands above 50 % (R178) -/
  suspected : List Nat
  oldTable : Option OldTable
  /-- groups whose decisions wait for the other frames of the FAB cycle (R200) -/
  deciding : List Nat
deriving DecidableEq, Repr, Inhabited

def IngestSt.reset : IngestSt := ⟨[], none, [], [], [], [], [], 0, [], none, []⟩


/-! ### Chapters 05, 07, 08, 09: what a slot's undo log holds -/

/-- The speculative state of one band, 16 bytes in the device (R279): e², y, h, c and the state, with the invalid cause. -/
structure BandSpec where
  e2 : Nat
  y : Nat
  h : Nat
  c : Nat
  state : Nat
  cause : Nat
deriving DecidableEq, Repr, Inhabited

/-- A band in use starts INVALID by warm-up (R278). -/
def BandSpec.reset : BandSpec := ⟨0, 0, 0, 0, 2, 1⟩

/-- One band of a detector row: its speculative state; the signal words by slot from the oldest block not yet committed on, as presented
or committed; that block (none before the first slot); the committed working samples, newest last, at most the number of taps (the delay
line, F32); and the state at the previous COMMIT. -/
structure Band where
  spec : BandSpec
  inputs : List (Nat × Nat)
  nextBlock : Option Nat
  line : List Nat
  lastCommit : Nat
  /-- a band a swap reset or added: it takes the slots whose boundary lies at or after this instant -/
  notBefore : Nat
deriving DecidableEq, Repr, Inhabited

def Band.reset : Band := ⟨.reset, [], none, [], 2, 0⟩

/-- An edge (R317): state 0 COHERENT, 1 BROKEN, 2 OPEN, 3 IDLE; count k; test value as F32. -/
structure OxEdge where
  state : Nat
  k : Nat
  test : Nat
deriving DecidableEq, Repr, Inhabited

def OxEdge.reset : OxEdge := ⟨0, 0, 0x7FC00000⟩

/-- A node (R314, R315): state 0 observed, 1 HELD, 2 UNOBSERVED; the last slot at which it was observed; usable phasor angle of the slot
last processed; island ID shown. -/
structure OxNode where
  state : Nat
  seen : Option Nat
  angle : Option Nat
  island : Nat
deriving DecidableEq, Repr, Inhabited

def OxNode.reset : OxNode := ⟨2, none, none, 0⟩

/-- A tracked component (R321–R327). -/
structure Island where
  id : Nat
  members : List Nat
  parent : Nat
  p : Nat
  declared : Bool
  /-- its row of 0x2613 -/
  row : Option Nat
  declaredAt : Nat
  freq : Nat
  rocof : Nat
  /-- the slot at which its row last changed -/
  changedAt : Nat
deriving DecidableEq, Repr, Inhabited

/-- The Oxbow state of one group (R329). -/
structure OxGroup where
  nodes : Tab OxNode
  edges : Tab OxEdge
  islands : List Island
  main : List Nat
  components : Nat
  mainFreq : Nat
  /-- how IDs ended at the slot last processed, in order: ID, cause of R325, surviving ID of a merge -/
  ended : List (Nat × Nat × Nat)
  /-- unobserved nodes at that slot -/
  unobserved : Nat
  /-- the swap instant last taken by the rows -/
  setAt : Nat
deriving DecidableEq, Repr, Inhabited

def OxGroup.reset : OxGroup := ⟨[], [], [], [], 0, 0, [], 0, 0⟩

/-- A rule's track (R351): raised, count, and for a local rule the begin of the present run. -/
structure Track where
  raised : Bool
  c : Nat
  runSince : Option Nat
deriving DecidableEq, Repr, Inhabited

def Track.reset : Track := ⟨false, 0, none⟩

/-- The undo log of a slot (R216): the prior speculative state of the group. -/
structure Undo where
  bands : Tab BandSpec
  oxbow : OxGroup
  /-- the ID allocator before, when the slot's processing issued an ID -/
  alloc : Option Nat
  /-- generations of the island rows changed, before -/
  gens : List (Nat × Nat)
  tracks : Tab Track
deriving DecidableEq, Repr, Inhabited

/-! ### Chapter 05: slots and groups -/

/-- A signal word and its quality byte. -/
structure Cell where
  word : Nat
  quality : Nat
deriving DecidableEq, Repr, Inhabited

/-- A slot (R199). -/
structure Slot where
  /-- 1 OPEN, 2 RELEASED, 3 RECALLED, 4 COMMITTED -/
  state : Nat
  /-- start of its window, and nominal instant, T96 -/
  boundary : Nat
  nominal : Nat
  rate : Int
  /-- maximum wait, ms; speculative wait, 1/64 cycle; quorum fraction and release floor, 0.01 % -/
  wait : Nat
  specWait : Nat
  quorum : Nat
  floor : Nat
  /-- tolerances of R214 as bit patterns, and recall budget (R232) -/
  tolerances : List Nat
  budget : Nat
  speculative : Bool
  expected : List Nat
  quorumSet : List Nat
  arrived : List Nat
  /-- ingress T96 of the first arrival -/
  firstAt : Option Nat
  /-- streams arrived when a release condition first held (R227) -/
  arrivedAtRelease : Option (List Nat)
  /-- first accepted frames by stream -/
  frames : Tab (List Byte)
  /-- received cells by signal handle; cells last presented as predictions; words the archive must not take -/
  cells : Tab Cell
  predicted : Tab Cell
  /-- cells a Wheel holds of streams that no record has named (R675) -/
  stash : Tab Cell
  predictedStreams : Nat
  cause : Nat
  releaseT96 : Nat
  commitT96 : Nat
  /-- the device's time-quality class at release (R208) -/
  cls : Nat
  undo : Option Undo
  /-- latched term values by term row: value as F32 pattern or integer, and degraded (R345) -/
  latched : Tab (Nat × Bool)
deriving DecidableEq, Repr, Inhabited

/-- An alignment group (R184–R191, R216–R226). -/
structure Group where
  /-- rate of the running grid; 0 when none runs -/
  rate : Int
  first : Nat
  next : Nat
  slots : Tab Slot
  /-- highest index that has left OPEN -/
  newest : Option Nat
  newestReleased : Option Nat
  newestCommitted : Option Nat
  /-- lowest target of the recalls requested, and the FAB cycle of the first request (R217, R221) -/
  recallTarget : Option Nat
  recallAt : Nat
  /-- T96 of the recalls taken in the last second -/
  recalls : List Nat
  /-- suspension: cause 0 budget or 1 checkpoint error, T96 of its begin and of its end -/
  suspended : Option (Nat × Nat × Nat)
  /-- speculation resumes for slots whose boundary lies at or after this T96 -/
  resumeAt : Nat
  /-- T96 from which on the new rate's grid may start after a swap -/
  restartAt : Option Nat
deriving DecidableEq, Repr, Inhabited

def Group.reset : Group := ⟨0, 0, 0, [], none, none, none, none, 0, [], none, 0, none⟩

/-! ### Chapter 06: placement -/

/-- A migration (R250): from, to, phase 0 loading, 1 waiting for b1, 2 double receive; b1 in T96; frames seen and equal since b1; begin. -/
structure Migration where
  source : Nat
  target : Nat
  phase : Nat
  b1 : Nat
  seen : Bool
  equal : Bool
  startedAt : Nat
deriving DecidableEq, Repr, Inhabited

/-- What an accepted data frame shows of its stream: STAT words, the partner's class, FRACSEC[28]. -/
structure FrameInfo where
  stats : List Nat
  cls : Nat
  leap : Bool
deriving DecidableEq, Repr, Inhabited

/-- A parsed frame that the dispatch keeps until the slice that takes over can take it (R253): stream, instant and ingress in T96. -/
structure HeldFrame where
  stream : Nat
  tau : Nat
  ingress : Nat
  words : List Nat
  quality : List Nat
  raw : List Byte
  accepted : Option FrameInfo
deriving DecidableEq, Repr, Inhabited

/-- The Herder. -/
structure PlaceSt where
  /-- slice states by slice: 0 ACTIVE, 1 SPARE, 2 PARKED, 3 TAKING_OVER, 4 RETIRED -/
  slices : Tab Nat
  /-- signal-samples and frames since the last utilisation sample -/
  counts : Tab (Nat × Nat)
  /-- successive samples over high-water -/
  exceeds : Tab Nat
  placed : Tab Nat
  lanes : Tab Nat
  migrations : Tab Migration
  waiting : List (Nat × Nat)
  cutoverAt : Tab Nat
  /-- takeover in progress by retired slice: new slice and begin -/
  takeovers : Tab (Nat × Nat)
  lowSince : Option Nat
  /-- the same for the cores -/
  coreLowSince : Option Nat
  /-- slices being emptied to be parked -/
  draining : List Nat
  unparking : Bool
  restoreRetired : Bool
  /-- retirements with no spare left, kept in MRAM (0x2420:06) -/
  unspared : Nat
  /-- frames of streams whose slice is being taken over, in ingress order (R253); others are acknowledged at once -/
  unacknowledged : List HeldFrame
  /-- slot-grid cells and Pointer-history bytes allocated to a placed stream (R32, R33, R236) -/
  allocated : Tab (Nat × Nat)
  /-- lane of an Oxbow edge block (R236) -/
  edgeLanes : Tab Nat
  /-- when the counts began (R239) -/
  sampledAt : Nat
  /-- the interleave key of R259, drawn at each START (R260) -/
  interleaveKey : Nat
deriving DecidableEq, Repr, Inhabited

def PlaceSt.reset : PlaceSt := ⟨[(64, 1), (65, 1), (66, 1), (67, 1)], [], [], [], [], [], [], [], [], none, none, [], false, false, 0, [], [], [], 0, 0⟩

/-! ### Chapters 07–09 -/

/-- A mode of the previous tables (R288): ID, F64 patterns of f and ζ and of the shape by selection row, energy, runs, coasting. -/
structure Mode where
  id : Nat
  freq : Nat
  damping : Nat
  shape : List (Nat × Nat)
  energy : Nat
  infinite : Bool
  refreshes : Nat
  coasted : Nat
  past : List (Nat × Nat)
deriving DecidableEq, Repr, Inhabited

/-- The mode meter (R282–R293).  F64 patterns. -/
structure ModeSt where
  /-- raw inputs by selection row, newest last, each with whether it was present or is held -/
  raw : Tab (List (Nat × Bool))
  mean : Tab Nat
  var : Tab Nat
  /-- missing flags of working samples by row, newest first, 600 at most -/
  missing : Tab (List Bool)
  /-- scaled reference vectors, newest first -/
  refs : List (List Nat)
  /-- covariances by (k, signal position, reference position), row-major -/
  cov : List Nat
  /-- the covariances kept for refreshes by number, newest first (R286) -/
  ready : List (Nat × List Nat)
  /-- the last refresh -/
  last : Nat
  samples : Nat
  modes : List Mode
  nextId : Nat
  excluded : Nat
deriving DecidableEq, Repr, Inhabited

def ModeSt.reset : ModeSt := ⟨[], [], [], [], [], [], [], 0, 0, [], 1, 0⟩

/-- Forced-oscillation location of one branch (R296): decimated inputs, filtered values and W, F64 patterns. -/
structure Branch where
  /-- P, Q, angle increment and ln |V| by working sample, newest first, 255 at most -/
  inputs : List (Nat × Nat × Nat × Nat)
  lastAngle : Option Nat
  filtered : Option (Nat × Nat × Nat × Nat)
  w : Nat
  /-- working-sample instant (T96) and W, newest first -/
  series : List (Nat × Nat)
deriving DecidableEq, Repr, Inhabited

def Branch.reset : Branch := ⟨[], none, none, 0, []⟩

/-- A local interharmonic detector's count (R301). -/
structure LocalDet where
  c : Nat
  state : Nat
deriving DecidableEq, Repr, Inhabited

/-- Eddy. -/
structure EddySt where
  bands : Tab Band
  mode : ModeSt
  branches : Tab Branch
  /-- raw voltage and current phasors by branch, newest last -/
  rawV : Tab (List (Nat × Bool))
  rawI : Tab (List (Nat × Bool))
  centre : Nat
  firstBus : Nat
  locals : Tab LocalDet
deriving DecidableEq, Repr, Inhabited

def EddySt.reset : EddySt := ⟨[], .reset, [], [], [], 0, 0xFFFFFFFF, []⟩

/-- A loss-of-mains row (R332–R335): f and φ of the last evaluations, newest first; counts and operated bits. -/
structure Lom where
  freqs : List Nat
  phases : List Nat
  counts : Tab Nat
  operated : Nat
  blocked : Bool
  holdUntil : Nat
deriving DecidableEq, Repr, Inhabited

def Lom.reset : Lom := ⟨[], [], [], 0, false, 0⟩

/-- What the island reports of R328 have last said of an island. -/
structure Reported where
  group : Nat
  parent : Nat
  members : List Nat
  /-- when a membership change alone was last reported -/
  reportedAt : Option Nat
  /-- a membership change not yet reported: its slot's nominal instant, members, frequency and ROCOF -/
  owed : Option (Nat × Nat × Nat × Nat)
deriving DecidableEq, Repr, Inhabited

/-- Oxbow and loss of mains. -/
structure OxbowSt where
  groups : Tab OxGroup
  /-- committed view: declared islands by ID -/
  reported : Tab Reported
  /-- edge states at the previous COMMIT by edge -/
  committedEdges : Tab Nat
  lastId : Nat
  gens : Tab Nat
  lom : Tab Lom
deriving DecidableEq, Repr, Inhabited

def OxbowSt.reset : OxbowSt := ⟨[], [], [], 0, [], []⟩

/-- A rule's alarm (R353); slots stand by their nominal instants. -/
structure Alarm where
  state : Nat
  instance_ : Nat
  /-- the raise slot j -/
  raiseT96 : Nat
  /-- the end slot e -/
  endT96 : Option Nat
  flags : Nat
  acknowledged : Bool
  degraded : Nat
  termsTrue : Nat
  lastChange : Nat
deriving DecidableEq, Repr, Inhabited

def Alarm.reset : Alarm := ⟨0, 0, 0, none, 0, false, 0, 0, 0⟩

/-- A transition waiting to be sent or repeated: payload up to its changing bytes, raised as provisional, repeats left, due instant. -/
structure Report where
  payload : List Byte
  newState : Nat
  repeatsLeft : Nat
  index : Nat
  dueAt : Nat
deriving DecidableEq, Repr, Inhabited

/-- A rule-owned pin (R357). -/
structure Pin where
  /-- when it was last de-energised, while its minimum alarm time runs -/
  minUntil : Nat
  testUntil : Option Nat
deriving DecidableEq, Repr, Inhabited

def Pin.reset : Pin := ⟨0, none⟩

/-- A GOOSE dataset (R368): values of its members (stVal, quality), next transmission, interval in ms. -/
structure Goose where
  stNum : Nat
  sqNum : Nat
  members : List (Bool × Nat)
  dueAt : Nat
  interval : Nat
  changedAt : Nat
deriving DecidableEq, Repr, Inhabited

def Goose.reset : Goose := ⟨1, 0, [], 0, 0, 0⟩

/-- A token bucket of R364, by sending port or pair: tokens, when last filled, pending rules, storm. -/
structure Bucket where
  tokens : Nat
  filledAt : Nat
  pending : Tab Report
  storm : Bool
  superseded : Nat
  emptySince : Nat
deriving DecidableEq, Repr, Inhabited

/-- The rule engine. -/
structure AlarmSt where
  spec : Tab Track
  committed : Tab Track
  alarms : Tab Alarm
  /-- rules evaluated at a COMMIT or update since entry to RUN -/
  evaluated : List Nat
  /-- during a replay: the nominal instant of the lowest slot from whose end on the rule's track has stayed raised (R353) -/
  replaySince : Tab Nat
  /-- a rule is evaluated only on slots whose boundary lies at or after this T96 (R371) -/
  notBefore : Tab Nat
  /-- repeats to come (R362) by 4,096·unit + rule -/
  repeats : Tab Report
  buckets : Tab Bucket
  frameSeq : Nat
  superseded : Nat
  pins : Tab Pin
  lastBeat : Nat
  beatLost : Bool
  goose : Tab Goose
  heartbeatAt : Nat
deriving DecidableEq, Repr, Inhabited

def AlarmSt.reset : AlarmSt := ⟨[], [], [], [], [], [], [], [], 1, 0, [], 0, false, [], 0⟩


/-! ### Chapter 10: publishing, archive, wide-area ring -/

/-- Archive records lost since the last record written (R389): group, slot and instant (T96) of the first, records, samples, bytes, and the
instant of the last. -/
structure Gap where
  group : Nat
  slot : Nat
  at_ : Nat
  records : Nat
  samples : Nat
  bytes : Nat
  last : Nat
deriving DecidableEq, Repr

/-- A committed slot held in the wide-area ring: its records of R388. -/
structure Held where
  slot : Nat
  nominal : Nat
  records : List (List Byte)
deriving DecidableEq, Repr

/-- Publishing.  The ring's state, freeze instant and rule stand in 0x2821. -/
structure PubSt where
  /-- commanded subscriber rows turned on (R383) -/
  subsOn : List Nat
  /-- SPDU number by stream (R384) -/
  spduNo : Tab Nat
  /-- the set before the last swap and the swap's T96: frames of earlier boundaries keep its layout (R381) -/
  oldSet : Option (Dict × Nat)
  gap : Option Gap
  ring : Tab (List Held)
  /-- groups that have stopped after a freeze -/
  stopped : List Nat
  freezeSeq : Nat
  /-- a group held fewer slots than its share at the freeze -/
  short : Bool
deriving DecidableEq, Repr

def PubSt.reset : PubSt := ⟨[], [], none, none, [], [], 0, false⟩

/-! ### Chapter 11: Headwater -/

/-- A sample: its instant (T96), its value in primary units (F64), its validity and whether it is overrange (R408, R412, R413). -/
structure Wave where
  at_ : Nat
  x : Nat
  valid : Bool
  exceeds : Bool
deriving DecidableEq, Repr

/-- One channel: the last return delay in 1/8 ps, the last valid forward delay in 1/16 ps, its faults, and what follows a fault into the
filters (R403–R407). -/
structure ChannelSt where
  drt : Option Nat
  /-- the delay tap at which MDATc is sampled, in 100 ps from an MCLK edge (R405) -/
  tap : Nat
  forward : Int
  modFault : Bool
  delayFault : Bool
  /-- samples whose inputs reach back before this instant are invalid -/
  badUntil : Nat
  /-- 12.8 kS/s samples, newest first -/
  waves : List Wave
  /-- overrange in the last completed cycle -/
  overCycle : Bool
  /-- overrange samples since the last event -/
  overCount : Nat
  /-- ends (T96) and RMS of the cycles published, newest first -/
  cycles : List (Nat × Nat)
deriving DecidableEq, Repr

def ChannelSt.reset : ChannelSt := ⟨none, 0, 0, false, false, 0, [], false, 0, []⟩

/-- One feeder; its state is 0x2912:01. -/
structure FeederSt where
  onAt : Nat
  /-- channels measured since STARTING began, and when the last was -/
  measured : List Nat
  measuredAt : Nat
deriving DecidableEq, Repr

def FeederSt.reset : FeederSt := ⟨0, [], 0⟩

/-- A sampled-value stream (R431–R433); its state is 0x2922:01. -/
structure SvSt where
  lastFrame : Nat
  lastCount : Option Nat
  synch : Nat
  /-- samples per second -/
  rate : Nat
  /-- samples by channel k = 0–5, newest first -/
  waves : Tab (List Wave)
deriving DecidableEq, Repr

def SvSt.reset : SvSt := ⟨0, none, 0, 0, []⟩

/-- Headwater.  The active bank is 0x2921:01 and the fade's remaining samples 0x2921:02. -/
structure HeadSt where
  channels : Tab ChannelSt
  feeders : Tab FeederSt
  sv : Tab SvSt
  /-- output sample index of the 12.8 kS/s chain -/
  index : Nat
  /-- fade length, when one is in progress, and the output samples until it begins -/
  fade : Option Nat
  fadeWait : Nat
  /-- the GAT cycle last published -/
  lastCycle : Option Nat
deriving DecidableEq, Repr

def HeadSt.reset : HeadSt := ⟨[], [], [], 0, none, 0, none⟩

/-! ### Chapter 12: capture and the Leash -/

/-- A row: instants by channel (T96), words by channel (F32), overrange marks as bits, DIN levels (R439, R440). -/
structure CapRow where
  at_ : List Nat
  words : List Nat
  exceeds : Nat
  /-- channels with a valid sample, and channels whose feeder is OFF, as bits -/
  valid : Nat
  off : Nat
  din : Nat
deriving DecidableEq, Repr

/-- A trigger: t₀, source, kind, alarm instance or Leash sequence number, Leash origin (R456); and the disposition given. -/
structure Trig where
  t0 : Nat
  source : Nat
  kind : Nat
  ref : Nat
  origin : Nat
  disp : Nat
deriving DecidableEq, Repr

/-- A record being made or closed (R455). -/
structure CapRecord where
  number : Nat
  /-- pre-trigger rows and post-trigger rows, oldest first -/
  pre : List CapRow
  post : List CapRow
  wantPre : Nat
  /-- post-trigger rows it is to hold, and their cap -/
  target : Nat
  cap : Nat
  /-- instants of extensions whose k₀ has not come -/
  extending : List Nat
  trigs : List Trig
  unlisted : Nat
  actAt : Nat
  flags : Nat
  cause : Nat
  row : Nat
deriving DecidableEq, Repr

/-- A trigger row's arming for rising and for falling, and the last value of kinds 2–4 (R443). -/
structure Arm where
  rising : Bool
  falling : Bool
deriving DecidableEq, Repr

/-- The capture engine; its states are 0x2A01:01 and :02. -/
structure CaptureSt where
  /-- pre-trigger buffer, oldest first -/
  buffer : List CapRow
  record : Option CapRecord
  /-- the record in REARM whose close has not been noticed -/
  closing : Option CapRecord
  /-- bytes reserved, and the store row reserved -/
  reserved : Nat
  reservedRow : Nat
  store : Tab CapRecord
  arms : Tab Arm
  /-- settings in force since the last entry to ARMED: pre, post, extension, maximum, policy -/
  settings : Nat × Nat × Bool × Nat × Nat
  /-- record rows released or exported, in order of export -/
  exported : List Nat
  /-- SRAM-only operation (R454) -/
  sram : Bool
  /-- the row before -/
  prev : Option CapRow
deriving DecidableEq, Repr

def CaptureSt.reset : CaptureSt := ⟨[], none, none, 0, 0, [], [], (8000, 40000, false, 160000, 0), [], false, none⟩

/-- The Leash; its state, position, members and hop table are 0x2A11. -/
structure LeashSt where
  /-- triggers waiting for the next TREF edge -/
  sends : List Trig
  seq : Nat
  /-- messages in flight from this device in a ring: sequence number and its send instant (internal ps) -/
  inFlight : List (Nat × Nat)
  /-- a message passes until this internal instant -/
  passingUntil : Nat
  /-- actions to take: internal instant, trigger, late -/
  acts : List (Nat × Trig × Bool)
deriving DecidableEq, Repr

def LeashSt.reset : LeashSt := ⟨[], 0, [], 0, []⟩

/-! ### Chapter 13: energy -/

/-- The demand interval in progress of a feeder: begin (T96), D in minutes, the total-line accumulators at the begin, flags, the instant of the
last sample in it (R484–R486, R489). -/
structure Interval where
  start : Nat
  length : Nat
  base : List Nat
  flags : Nat
  last : Nat
deriving DecidableEq, Repr

/-- What the energy save of R488 holds. -/
structure EnergyRegs where
  /-- 96-bit accumulators by register row -/
  acc : Tab Nat
  wraps : Tab Nat
  wrapped : List Nat
  clears : Tab Nat
  demand : Tab (List Byte)
  index : Tab Nat
  maxima : Tab (Nat × Nat)
  intervals : Tab Interval
deriving DecidableEq, Repr

def EnergyRegs.reset : EnergyRegs := ⟨[], [], [], [], [], [], [], []⟩

/-- One MRAM slot. -/
structure EnergySaved where
  seq : Nat
  warning : Bool
  regs : EnergyRegs
deriving DecidableEq, Repr

/-- A feeder's windows: compensated samples per channel k (instant, F64 value, valid), newest first; p′_T and s′_T by sample instant, newest
first. -/
structure MeterSt where
  series : Tab (List Wave)
  totals : List (Nat × Nat × Nat)
  unmeteredUntil : Nat
  metering : Bool
  outside : Nat
  inside : Nat
  mismatch : Bool
deriving DecidableEq, Repr

def MeterSt.reset : MeterSt := ⟨[], [], 0, false, 0, 0, false⟩

/-- A channel's compensation temperature: F32, when it was last valid, held (R482, R483). -/
structure Therm where
  value : Nat
  validAt : Nat
  ever : Bool
  held : Bool
deriving DecidableEq, Repr

/-- The energy engine. -/
structure EnergySt where
  regs : EnergyRegs
  saves : List EnergySaved
  meters : Tab MeterSt
  therms : Tab Therm
  snapshotDue : Bool
  clearsDue : List Nat
  lastSave : Nat
  /-- `TimeSt.epoch` at the last sample -/
  epoch : Nat
deriving DecidableEq, Repr

def EnergySt.reset : EnergySt := ⟨.reset, [], [], [], false, [], 0, 0⟩

/-! ### Chapter 14: jobs -/

/-- A ready, waiting or running job (R507–R511): due instant (T96), when it became due (internal ps), the tick index at which its wait began,
its first dispatch, its core while it runs, whether a Run job now started it, and the flags of the due instant. -/
structure Run where
  due : Nat
  dueAt : Nat
  waitFrom : Nat
  firstDispatch : Option Nat
  core : Option Nat
  command : Bool
  gatFlags : Nat
  /-- it goes to the first core of its mask to become free -/
  anyCore : Bool
  /-- when it last came onto a core, internal ps -/
  since : Nat
deriving DecidableEq, Repr

/-- One job. -/
structure JobRow where
  state : Nat
  /-- first due instant that counts: internal ps of the write or the entry -/
  notBefore : Nat
  /-- last due tick index or T96 period taken -/
  lastDue : Option Nat
  run : Option Run
  preferred : Option Nat
  overrun : Bool
deriving DecidableEq, Repr

def JobRow.reset : JobRow := ⟨0, 0, none, none, none, false⟩

/-- The scheduler. -/
structure JobSt where
  jobs : Tab JobRow
  /-- ready list heads put back by pre-emption, newest first -/
  preempted : List Nat
  /-- committed cells by input signal: commit T96, slot, cell, newest first -/
  history : Tab (List (Nat × Nat × Cell))
  parked : List Nat
  /-- busy time of each core in the current 100 ms, ps, and its begin -/
  busy : Tab Nat
  busyFrom : Nat
deriving DecidableEq, Repr

def JobSt.reset : JobSt := ⟨[], [], [], [], [], 0⟩

/-! ### Chapters 15–17: Imian, configuration sets, host interface, management and event log -/

/-- A kept response (R528). -/
structure Kept where
  id : Nat
  body : List Byte
  answer : List Byte
deriving DecidableEq, Repr

/-- A DTLS session (R532). -/
structure Session where
  role : Nat
  peer : List Byte
  label : List Byte
  openedAt : Nat
  lastUse : Nat
  requests : Nat
  kept : List Kept
deriving DecidableEq, Repr

/-- An open WRITE_SEG transfer (R530). -/
structure Transfer where
  key : Nat
  who : Who
  data : List Byte
  lastSegment : Nat
deriving DecidableEq, Repr

/-- A subscription (R538). -/
structure Subscription where
  session : Nat
  number : Nat
  idx : Nat
  sub : Nat
  row : Nat
  count : Nat
  mode : Nat
  interval : Nat
  seq : Nat
  /-- no NOTIFY before this internal instant -/
  notBefore : Nat
  lastValue : List Byte
deriving DecidableEq, Repr

/-- The PCIe mailbox (R533). -/
structure Mailbox where
  busy : Bool
  response : Bool
  oversize : Bool
  reqLen : Nat
  respLen : Nat
  /-- the request buffer, by 32-bit word; words not listed are 0 -/
  reqBuf : Tab Nat
  respBuf : List Byte
  kept : List Kept
  requests : Nat
deriving DecidableEq, Repr

def Mailbox.reset : Mailbox := ⟨false, false, false, 0, 0, [], [], [], 0⟩

/-- Imian: sessions, transfers, subscriptions, mailbox, CAN counters and the last summary. -/
structure ImianSt where
  sessions : Tab Session
  transfers : List Transfer
  subscriptions : List Subscription
  mailbox : Mailbox
  /-- by controller: last request counter accepted, and the key under which; kept in MRAM -/
  canRequestCounter : Tab (Nat × List Byte)
  canResponseCounter : Tab Nat
  summarySeq : Nat
  /-- the last summary taken: its fields in order, each a number or a byte string, in network byte order -/
  summary : List (Bool × List Byte)
  /-- generations of DOMAIN and OCTETS objects by key (R529), absent 1 -/
  generations : Tab Nat
  /-- content of DOMAIN and OCTETS objects when they were last read by READ_SEG -/
  seen : Tab (List Byte)
deriving DecidableEq, Repr

def ImianSt.reset : ImianSt := ⟨[], [], [], .reset, [], [], 0, [], [], []⟩

/-- A swap accepted and pending (R547). -/
structure Swap where
  base : Nat
  target : Nat
  /-- false while its validation runs, true in SWAP_PENDING -/
  validated : Bool
  /-- the shadow state before the command -/
  before : Nat
  /-- end of validation, internal instant -/
  validatedAt : Nat
deriving DecidableEq, Repr

/-- The configuration sets beside their contents (R540–R549, R724). -/
structure SetSt where
  /-- validation in progress under 0x1201:01: the shadow state before the command -/
  validating : Option Nat
  swap : Option Swap
  /-- the set that the MRAM set word names, and the set recorded as previous -/
  stored : Dict
  previous : Dict
  /-- the image recorded as holding the last valid shadow -/
  validImage : Option Dict
  /-- the validation outcome before the one in progress -/
  lastOutcome : Nat
deriving DecidableEq, Repr

def SetSt.reset : SetSt := ⟨none, none, [], [], none, 0⟩

/-- A Sluice (R559–R564): words by 15-bit pointer, with what stands in it. -/
structure Sluice where
  /-- unread packets, oldest first; the first may be partly read -/
  packets : List (List Nat)
  /-- words of the first packet already read -/
  readOfFirst : Nat
  rptr : Nat
  wptr : Nat
  lost : Bool
  underrun : Bool
  testMode : Bool
  lossOwed : Bool
  lostSinceReport : Nat
  threshold : Nat
  delay : Nat
  /-- when the oldest unread packet became visible -/
  oldestAt : Nat
  /-- the last word popped since START began -/
  lastPopped : Nat
  /-- the Q_IRQ_DELAY condition has fired for the oldest unread packet -/
  delayPassed : Bool
  /-- commit instants of the unread packets, oldest first -/
  commitAt : List Nat
deriving DecidableEq, Repr

def Sluice.reset : Sluice := ⟨[], 0, 0, 0, false, false, false, false, 0, 1, 0, 0, 0, false, []⟩

/-- A DMA ring (R566). -/
structure Ring where
  enabled : Bool
  base : Nat
  size : Nat
  wr : Nat
  rd : Nat
deriving DecidableEq, Repr

def Ring.reset : Ring := ⟨false, 0, 0, 0, 0⟩

/-- The PCIe host interface. -/
structure HostSt where
  linkUp : Bool
  sluices : Tab Sluice
  intStatus : Nat
  intMask : Nat
  /-- bits already signalled since they were set (R569) -/
  intSignalled : Nat
  /-- the MSI-X table, by word; words not listed are 0 -/
  msix : Tab Nat
  /-- low halves latched for 64-bit registers, by BAR offset (R558) -/
  latches : Tab Nat
  archive : Ring
  exportRing : Ring
  busMaster : Bool
  /-- the archive batch not yet described: bytes, records, start offset, instant of its first record -/
  batchBytes : Nat
  batchRecords : Nat
  batchStart : Nat
  batchAt : Nat
  /-- when the present export began to wait for room -/
  stallSince : Option Nat
  /-- the export in progress: 0 capture record or 1 frozen ring, and the store row; records not yet written; bytes written; begin offset -/
  exporting : Option (Nat × Nat)
  exportLeft : List (List Byte)
  exportBytes : Nat
  exportStart : Nat
deriving DecidableEq, Repr

def HostSt.reset : HostSt :=
  ⟨false, [], 0, 0x3FFF, 0, [], [], .reset, .reset, false, 0, 0, 0, 0, none, none, [], 0, 0⟩

/-- An accepted event (R589–R590). -/
structure Event where
  stamp : Nat
  internal : Bool
  code : Nat
  severity : Nat
  source : Nat
  params : List Byte
deriving DecidableEq, Repr

/-- A summary window of R720: code, key, opening instant, and the counts of its event. -/
structure Window where
  code : Nat
  key : Nat
  openedAt : Nat
  countA : Nat
  countB : Nat
deriving DecidableEq, Repr

/-- The event logger and Byrdo. -/
structure LogSt where
  /-- input FIFO, oldest first -/
  fifo : List Event
  /-- hold buffer of a freeze, oldest first -/
  hold : List Event
  /-- MRAM log: entries by index -/
  entries : Tab Event
  cursor : Nat
  base : Nat
  full : Bool
  /-- session holding the freeze (16 the mailbox), and when it began -/
  frozenBy : Option Nat
  frozenAt : Nat
  /-- events dropped since the last 0x2E0A, with its cause -/
  droppedInput : Nat
  droppedHold : Nat
  /-- last raising of rate-limited events: code, key, instant (R719) -/
  limits : List (Nat × Nat × Nat)
  windows : List Window
  lastWrite : Nat
  /-- Byrdo is being reset -/
  byrdoDown : Bool
  byrdoCause : Nat
  lastByrdoFault : Option Nat
  /-- counters of stopped C-die subsystems read from the held-counter store -/
  held : Dict
deriving DecidableEq, Repr

def LogSt.reset : LogSt :=
  ⟨[], [], [], 0, 0, false, none, 0, 0, 0, [], [], 0, false, 0, none, []⟩

/-- One housekeeping channel's limit and fault counts. -/
structure HkChannel where
  highCount : Nat
  lowCount : Nat
  faultCount : Nat
  /-- the fault limit has acted and has not ended -/
  faultActive : Bool
  value : Nat
deriving DecidableEq, Repr

def HkChannel.reset : HkChannel := ⟨0, 0, 0, false, 0⟩

/-- The housekeeping converter and test DAC (R580–R588). -/
structure HkSt where
  gain : Nat
  offset : Int
  calibrating : Bool
  calFailed : Bool
  result : Nat
  sel : Nat
  /-- conversion buffer words by index; next index; wrapped since read -/
  buffer : Dict
  wr : Nat
  wrapped : Bool
  seq : Nat
  channels : Tab HkChannel
  /-- channel test in progress: channel -/
  testing : Option Nat
  /-- end of the scan in progress -/
  scanUntil : Nat
  checkFailed : Bool
deriving DecidableEq, Repr

/-- At START the first calibration is awaited (R583). -/
def HkSt.reset : HkSt := ⟨0x40000000, 0, true, false, 0, 0, [], 0, false, 0, [], none, 0, false⟩


/-! ### Chapter 18: power, start-up, Shepherd -/

/-- The wake sequence in progress (R615). -/
structure Wake where
  source : Nat
  attempt : Nat
  /-- 1–4; 0 while the source is latched under PFW_N (R611) -/
  stage : Nat
  /-- 10 ms discharge after a failed attempt -/
  discharging : Bool
  stageAt : Nat
  /-- when the source was accepted -/
  sourceAt : Nat
deriving DecidableEq, Repr

/-- The wake record of R612, in fields. -/
structure WakeRecord where
  source : Nat
  others : Nat
  mode : Nat
  attempts : Nat
  failedStage : Nat
  flags : Nat
  stateBefore : Nat
  rtc : Nat
  rtcSpent : Nat
  observed : Nat
  required : Nat
  stageTime : Nat
  wakes : Nat
deriving DecidableEq, Repr

def WakeRecord.reset : WakeRecord := ⟨0, 0, 0, 0, 0, 0, 0, 0, 0, 0, 0, 0, 0⟩

/-- Device state, supplies, wake logic and restarts. -/
structure PowerSt where
  /-- device-state code of R28 -/
  state : Nat
  cause : Nat
  /-- when START began, and the cause it carries to RUN -/
  startAt : Nat
  startCause : Nat
  /-- RUN has been entered since START began -/
  ran : Bool
  selfTestPassed : Bool
  /-- no source qualified within the start lock timeout, or one did: the wait of R53 has ended -/
  lockWaitOver : Bool
  setLoaded : Bool
  resetLow : Bool
  vbat : Bool
  mainSupply : Bool
  pfwLow : Bool
  wake : Option Wake
  record : WakeRecord
  wakeFault : Bool
  saveAreaValid : Bool
  /-- state left without a log entry by supply loss (R604) -/
  lossFrom : Option Nat
  enteredAt : Nat
  /-- RTC count, and device state before, at the entry to KENNEL or SENTINEL -/
  enteredRtc : Nat
  before : Nat
  /-- an RTC count, and its internal instant -/
  lastRtc : Nat
  rtcAt : Nat
  sentinelByCommand : Bool
  /-- when the cause of SENTINEL or SAFE_TALK ended -/
  causeEndedAt : Option Nat
  /-- C-die restart in progress: trigger code of event 0x2F07 -/
  restart : Option Nat
  /-- instants of the automatic restarts of the last 24 h -/
  restarts : List Nat
  limitReported : Bool
  cdieOn : Bool
  faultN : Bool
  shepherdFailed : Bool
  /-- since when Shepherd's estimator has given valid output without a break, by set; rows that have completed a window (R631) -/
  shepherdSince : Tab Nat
  shepherdRows : List Nat
  lifeBits : Nat
  /-- a tamper detected in KENNEL, to be reported at START: input, state, and whether it locked the key store -/
  tamperReport : Option (Nat × Nat × Bool)
  mramLost : Bool
  vbatLostFlag : Bool
  /-- ENABLE_PENDING (bit 0) and DISABLE_PENDING (bit 1) of the four-state functions (R606), by function -/
  fourFlags : Tab Nat
deriving DecidableEq, Repr

/-- Right after reset: START with cause 0x00, both supplies present, self-test not yet run. -/
def PowerSt.reset : PowerSt :=
  { state := 1, cause := 0, startAt := 0, startCause := 0, ran := false, selfTestPassed := false, lockWaitOver := false,
    setLoaded := false, resetLow := false, vbat := true, mainSupply := true, pfwLow := false, wake := none,
    record := .reset, wakeFault := false, saveAreaValid := false, lossFrom := none, enteredAt := 0,
    enteredRtc := 0, before := 0, lastRtc := 0, rtcAt := 0, sentinelByCommand := false, causeEndedAt := none, restart := none, restarts := [],
    limitReported := false, cdieOn := true, faultN := true, shepherdFailed := false, shepherdSince := [], shepherdRows := [], lifeBits := 2, tamperReport := none,
    mramLost := false, vbatLostFlag := false, fourFlags := [] }


/-! ### Chapter 19: keys, attestation, update -/

/-- A key blob in the store, or loaded in SRAM (R652). -/
structure Blob where
  header : List Byte
  wrapped : List Byte
deriving DecidableEq, Repr

/-- A firmware bank's manifest as far as the device reads it (R659). -/
structure Bank where
  valid : Bool
  version : Nat
  rollback : Nat
  /-- part ID, flags, version, hash, bytes -/
  parts : List (Nat × Nat × Nat × List Byte × List Byte)
deriving DecidableEq, Repr

def Bank.reset : Bank := ⟨false, 0, 0, []⟩

/-- The key store and the update engine. -/
structure KeySt where
  locked : Bool
  integrityFailed : Bool
  tamperLatch : Bool
  /-- owner slots: public key and revoked -/
  owners : Tab (List Byte × Bool)
  counter : Nat
  kennelCounter : Nat
  blobs : Tab Blob
  loaded : Tab Blob
  /-- keys unwrapped at the last set load or swap, by handle: usage and key; and the handles whose unwrap then failed (R655) -/
  cache : Tab (Nat × List Byte)
  unusable : List Nat
  measuredB : List Byte
  measuredS : List Byte
  previousMeasuredB : List Byte
  previousMeasuredS : List Byte
  /-- nonce of an attestation being signed -/
  signing : Option (List Byte)
  /-- key-update types 7–9 take effect at the next START: type -/
  lifePending : Option Nat
  bankA : Bank
  bankB : Bank
  /-- bank word of R663 -/
  bankWord : Nat
  rollback : Nat
  /-- offset reached in the image under reception -/
  imageOffset : Nat
  trialUntil : Option Nat
  /-- trial time left when RUN and TRIM were left, ps -/
  trialLeft : Nat
  revertReport : Option Nat
  /-- omaven signing keys revoked, bits -/
  revokedOmaven : Nat
deriving DecidableEq, Repr

/-- A FIELD device with owner slot 0 programmed, bank A valid and running. -/
def KeySt.reset : KeySt :=
  { locked := false, integrityFailed := false, tamperLatch := false, owners := [(0, (Config.ownerKey0, false))], counter := 0,
    kennelCounter := 0, blobs := [], loaded := [], cache := [], unusable := [], measuredB := [], measuredS := [], previousMeasuredB := [],
    previousMeasuredS := [], signing := none, lifePending := none, bankA := ⟨true, 0, 0, []⟩,
    bankB := .reset, bankWord := 0xF0, rollback := 0, imageOffset := 0, trialUntil := none, trialLeft := 0,
    revertReport := none, revokedOmaven := 0 }


/-! ### Chapter 20: duplex pairs and packs -/

/-- What is known of the peer of a pair (R671). -/
structure Peer where
  identity : Nat
  role : Nat
  prefer : Bool
  pairState : Nat
  protocol : Nat
  partHashes : List (List Byte)
  setHash : List Byte
  gat : Nat
deriving DecidableEq, Repr

/-- A pack member heard (R685). -/
structure Member where
  identity : Nat
  lastHeard : Nat
  side6 : Nat
  side7 : Nat
deriving DecidableEq, Repr

/-- A transmission a Wheel holds (R676): transmit source and number, when it was built, the unit or row it is for, and what to send: an alarm frame,
a GOOSE payload or a datagram with its ports. -/
structure HeldTx where
  source : Nat
  number : Nat
  heldAt : Nat
  unit : Nat
  dst : List Byte
  payload : List Byte
  sport : Nat
  dport : Nat
deriving DecidableEq, Repr

/-- Node quantities of a type-19 or type-20 frame: slot, flags, frequency deviation and ROCOF (F32), angle (2^-32 turn). -/
structure PackNode where
  slot : Nat
  flags : Nat
  freq : Nat
  angle : Nat
  rocof : Nat
deriving DecidableEq, Repr, Inhabited

/-- A PROCESS that waits for pack frames (R688): slot, whether it is the PROCESS of a direct commit, its stage (1 before the edge tests, 2 before the
components), since when. -/
structure PackWait where
  slot : Nat
  direct : Bool
  stage : Nat
  since : Nat
deriving DecidableEq, Repr, Inhabited

/-- What pack frames have brought (R688): detector counts by (member, profile, band); node quantities by handle; node and edge states with their
slot; the placer's results by group; the frames that have come by (group, slot, type, member); the PROCESS that waits by group; and the counts
last sent by (profile, band). -/
structure PackData where
  counts : Tab Nat
  nodes : Tab PackNode
  states : Tab (Nat × Nat)
  edges : Tab (Nat × Nat)
  results : Tab (Nat × Nat)
  got : List (Nat × Nat × Nat × Nat)
  waiting : Tab PackWait
  sent : Tab Nat
deriving DecidableEq, Repr

def PackData.reset : PackData := ⟨[], [], [], [], [], [], [], []⟩

/-- Redundancy state. -/
structure DuplexSt where
  peer : Option Peer
  /-- last frame from the peer by path: 0 P6, 1 P7, 2 pair M -/
  heard : Tab Nat
  /-- sequence numbers: own next, next to be taken from the peer, and the last seen on each path -/
  txSeq : Nat
  rxSeq : Option Nat
  high : Tab Nat
  /-- frames from the peer ahead of the next one: type and payload by sequence number -/
  ahead : Tab (Nat × List Byte)
  /-- sequence numbers taken lately by pack origin, newest first -/
  packSeen : Tab (List Nat)
  /-- decision records and latched values not yet applied, oldest first: type, arrival, payload -/
  records : List (Nat × Nat × List Byte)
  /-- frames asked for and not yet received: stream, group, slot -/
  fetching : List (Nat × Nat × Nat)
  syncSince : Nat
  /-- segments of the state image by number, and how many there are -/
  image : Tab (List Byte)
  imageTotal : Nat
  /-- the Lead is to cut an image at the next group-0 boundary, and when it cut the last one for a Wheel still SYNCING -/
  imageDue : Bool
  imageCutAt : Option Nat
  /-- hand-over accepted, to be made at the next group-0 boundary -/
  handOver : Bool
  /-- a pair swap waiting for the Wheel's validation until then (R684), and the Wheel's shadow image under reception -/
  swapAckUntil : Option Nat
  swapImage : Tab (List Byte)
  heldTx : List HeldTx
  members : Tab Member
  epoch : Nat
  /-- home and mirror member by stream -/
  homes : Tab (Nat × Nat)
  lastSupervision : Nat
  pack : PackData
deriving DecidableEq, Repr

def DuplexSt.reset : DuplexSt :=
  { peer := none, heard := [], txSeq := 0, rxSeq := none, high := [], ahead := [], packSeen := [], records := [], fetching := [], syncSince := 0, image := [],
    imageTotal := 0, imageDue := false, imageCutAt := none, handOver := false, swapAckUntil := none, swapImage := [], heldTx := [], members := [], epoch := 0,
    homes := [], lastSupervision := 0, pack := .reset }



/-! ### Chapter 21: the test port -/

/-- The instructions of the test port (R714). -/
inductive TestInstr where
  | bypass
  | idcode
  | sample
  | extest
  | clamp
deriving DecidableEq, Repr, Inhabited

/-! ### The whole -/

/-- The state of the EM8640 as a block. -/
structure State where
  /-- commands waiting, first in, first out -/
  pending : List Instr
  /-- internal timebase, ps -/
  now : Nat
  /-- draws taken from `Config.freeValue` (the model's own field) -/
  draws : Nat
  /-- what left the block in the present step -/
  outs : List Out
  /-- RWS objects: the active and the shadow set -/
  active : Dict
  shadow : Dict
  /-- RW objects, in MRAM -/
  live : Dict
  /-- RO objects and counters -/
  status : Dict
  power : PowerSt
  time : TimeSt
  port : PortSt
  ingest : IngestSt
  groups : Tab Group
  place : PlaceSt
  eddy : EddySt
  oxbow : OxbowSt
  alarm : AlarmSt
  pub : PubSt
  head : HeadSt
  capture : CaptureSt
  leash : LeashSt
  energy : EnergySt
  jobs : JobSt
  imian : ImianSt
  sets : SetSt
  host : HostSt
  log : LogSt
  hk : HkSt
  keys : KeySt
  duplex : DuplexSt
  /-- the instruction the test port holds; IDCODE after its reset -/
  testPort : TestInstr
deriving DecidableEq, Repr

/-- The key of an object's row in a dictionary of values: index, subindex, row. -/
def resetKey (idx sub row : Nat) : Nat := idx * 2 ^ 32 + sub * 2 ^ 24 + row

/-- RO objects that do not read their default in the START after a power-on: spare slices, pins de-energised because the
engine does not run, the energy counters stopped, one START counted. -/
def resetStatus : Dict :=
  ([64, 65, 66, 67].map fun k => (resetKey 0x2410 0x01 k, Val.num 1)) ++
  ((List.range 8).map fun p => (resetKey 0x2711 0x02 p, Val.num 5)) ++
  [(resetKey 0x2B21 0x05 0xFFFFFF, .num 1), (resetKey 0x2F20 0x01 0xFFFFFF, .num 1)]

/-- The ports in START: those of the C-die are held down. -/
def resetPorts : PortSt := { PortSt.reset with ports := [0, 1, 2, 3, 6, 7].map fun p => (p, { Port.reset with link := 3 }) }

/-- The event of the power-on's START, waiting for the logger: 0x1020 from OFF to START, cause 0x00. -/
def resetLog : LogSt :=
  { LogSt.reset with fifo := [⟨0, true, 0x1020, 1, 0xFF, [0x00, 0x01, 0x00] ++ List.replicate 13 0x00⟩] }

/-- The block right after reset: the START of a power-on begun with cause 0x00, T96 unset, every setting at its default, no command waiting. -/
def State.reset : State :=
  { pending := [], now := 0, draws := 0, outs := [], active := [], shadow := [], live := [], status := resetStatus, power := .reset,
    time := .reset, port := resetPorts, ingest := .reset, groups := [], place := .reset, eddy := .reset, oxbow := .reset, alarm := .reset, pub := .reset, head := .reset, capture := .reset,
    leash := .reset, energy := .reset, jobs := .reset, imian := .reset,
     sets := .reset, host := .reset, log := resetLog, hk := .reset, keys := .reset, duplex := .reset, testPort := .idcode }

end Sys2Proof.Machine
end

