-- ==== Sys2Proof/Machine/Number.lean ====
section
/-! DEFINITION. Numbers: exact rationals, IEEE 754 binary32 and binary64 as bit patterns (R4), two's complement, byte
orders (R6, R7), square root and the circular and logarithmic functions to 2^-96.  Where the spec says "in binary64" without
the order of its operations, the model computes exactly and rounds once, to nearest, ties to even (assumption 6). -/

namespace Sys2Proof.Machine

/-- An exact rational, kept in lowest terms by its operations; the denominator is positive. -/
structure Q where
  num : Int
  den : Nat
deriving DecidableEq, Repr

/-- The rational n / d in lowest terms (0 when d is 0). -/
def Q.make (n : Int) (d : Nat) : Q :=
  if d = 0 then ⟨0, 1⟩ else
    let g := Nat.gcd n.natAbs d
    ⟨n / (g : Int), d / g⟩

def Q.zero : Q := ⟨0, 1⟩
def Q.one : Q := ⟨1, 1⟩
def Q.ofInt (n : Int) : Q := ⟨n, 1⟩
def Q.ofNat (n : Nat) : Q := ⟨n, 1⟩
def Q.add (a b : Q) : Q := Q.make (a.num * b.den + b.num * a.den) (a.den * b.den)
def Q.neg (a : Q) : Q := ⟨-a.num, a.den⟩
def Q.sub (a b : Q) : Q := Q.add a (Q.neg b)
def Q.mul (a b : Q) : Q := Q.make (a.num * b.num) (a.den * b.den)
/-- The quotient; 0 when the divisor is 0 (every caller tests for it first). -/
def Q.div (a b : Q) : Q :=
  if b.num < 0 then Q.make (-(a.num * b.den)) (a.den * b.num.natAbs) else Q.make (a.num * b.den) (a.den * b.num.natAbs)
def Q.lt (a b : Q) : Bool := a.num * b.den < b.num * a.den
def Q.le (a b : Q) : Bool := a.num * b.den ≤ b.num * a.den
def Q.eqv (a b : Q) : Bool := a.num * b.den == b.num * a.den
def Q.abs (a : Q) : Q := ⟨a.num.natAbs, a.den⟩
def Q.max (a b : Q) : Q := if Q.lt a b then b else a
def Q.min (a b : Q) : Q := if Q.lt b a then b else a
/-- Truncation toward minus infinity (R35). -/
def Q.floor (a : Q) : Int := a.num.fdiv a.den
/-- Nearest integer, ties to even. -/
def Q.round (a : Q) : Int :=
  let f := Q.floor a
  let r := a.num - f * a.den
  if 2 * r < a.den then f else if 2 * r > a.den then f + 1 else if f % 2 = 0 then f else f + 1
/-- Nearest integer, ties away from zero upward: ⌊a + ½⌋. -/
def Q.roundUp (a : Q) : Int := Q.floor (Q.add a ⟨1, 2⟩)
/-- The sum of a list. -/
def Q.sum : List Q → Q
  | [] => Q.zero
  | a :: l => Q.add a (Q.sum l)

/-! ### IEEE 754 formats -/

/-- An interchange format: widths of its exponent and fraction fields. -/
structure Fmt where
  expBits : Nat
  fracBits : Nat
deriving DecidableEq, Repr

def binary32 : Fmt := ⟨8, 23⟩
def binary64 : Fmt := ⟨11, 52⟩

def Fmt.bias (f : Fmt) : Nat := 2 ^ (f.expBits - 1) - 1
def Fmt.signBit (f : Fmt) : Nat := 2 ^ (f.expBits + f.fracBits)
/-- The pattern of +∞. -/
def Fmt.inf (f : Fmt) : Nat := (2 ^ f.expBits - 1) * 2 ^ f.fracBits

/-- The number a finite pattern stands for; none for an infinity or a NaN. -/
def Fmt.toQ (f : Fmt) (bits : Nat) : Option Q :=
  let frac := bits % 2 ^ f.fracBits
  let e := bits / 2 ^ f.fracBits % 2 ^ f.expBits
  let neg := bits / f.signBit % 2 = 1
  if e = 2 ^ f.expBits - 1 then none
  else
    let m : Nat := if e = 0 then frac else 2 ^ f.fracBits + frac
    let ee : Nat := if e = 0 then 1 else e
    let m' : Int := if neg then -(m : Int) else m
    -- value = m * 2^(ee - bias - fracBits)
    let s := f.bias + f.fracBits
    if ee ≥ s then some (Q.make (m' * 2 ^ (ee - s)) 1) else some (Q.make m' (2 ^ (s - ee)))

/-- The exponent e with 2^e ≤ a/d < 2^(e+1), for positive a and d. -/
def ilog (a d : Nat) : Int :=
  let l : Int := (Nat.log2 a : Int) - (Nat.log2 d : Int)
  if l ≥ 0 then (if a < d * 2 ^ l.toNat then l - 1 else l)
  else (if a * 2 ^ (-l).toNat < d then l - 1 else l)

/-- Nearest integer to a/d, ties to even. -/
def roundEven (a d : Nat) : Nat :=
  let q := a / d
  let r := a % d
  if 2 * r < d then q else if 2 * r > d then q + 1 else if q % 2 = 0 then q else q + 1

/-- The pattern nearest to a rational, ties to even; infinities on overflow; zero is +0. -/
def Fmt.ofQ (f : Fmt) (q : Q) : Nat :=
  let a := q.num.natAbs
  if a = 0 then 0 else
    let emin : Int := 1 - (f.bias : Int)
    let e := ilog a q.den
    let k : Int := (if e < emin then emin else e) - (f.fracBits : Int)
    let m := if k ≥ 0 then roundEven a (q.den * 2 ^ k.toNat) else roundEven (a * 2 ^ (-k).toNat) q.den
    let be := (k + f.fracBits + f.bias).toNat
    let bits := be * 2 ^ f.fracBits + m - 2 ^ f.fracBits
    let bits := if bits ≥ f.inf then f.inf else bits
    if q.num < 0 then f.signBit + bits else bits

/-- True of a NaN pattern. -/
def Fmt.isNaN (f : Fmt) (bits : Nat) : Bool := bits % f.signBit > f.inf

/-- A finite F32 as a rational; 0 for an infinity or a NaN (callers that must tell use `Fmt.toQ`). -/
def f32 (bits : Nat) : Q := (binary32.toQ bits).getD Q.zero
/-- A finite F64 as a rational; 0 for an infinity or a NaN. -/
def f64 (bits : Nat) : Q := (binary64.toQ bits).getD Q.zero
/-- The F32 pattern nearest to a rational. -/
def toF32 (q : Q) : Nat := binary32.ofQ q
/-- The F64 pattern nearest to a rational. -/
def toF64 (q : Q) : Nat := binary64.ofQ q
/-- The rational rounded to binary64, as a rational again. -/
def dbl (q : Q) : Q := f64 (toF64 q)
/-- The quiet NaN the object tables name as "none": 0x7FC0_0000. -/
def nanF32 : Nat := 0x7FC00000
/-- A quiet NaN in binary64. -/
def nanF64 : Nat := 0x7FF8000000000000

/-! ### Integers in fields -/

/-- The two's-complement pattern of n in w bits. -/
def toTwos (w : Nat) (n : Int) : Nat := (n % (2 ^ w : Int)).toNat
/-- The signed integer of a w-bit pattern. -/
def ofTwos (w n : Nat) : Int := let m := n % 2 ^ w; if m ≥ 2 ^ (w - 1) then (m : Int) - 2 ^ w else m
/-- Bit i of n. -/
def bit (n i : Nat) : Bool := n / 2 ^ i % 2 = 1
/-- Field [hi:lo] of n (R8). -/
def field (n hi lo : Nat) : Nat := n / 2 ^ lo % 2 ^ (hi + 1 - lo)
/-- n with bit i set to b. -/
def setBit (n i : Nat) (b : Bool) : Nat :=
  if bit n i == b then n else if b then n + 2 ^ i else n - 2 ^ i
/-- A Boolean as a bit. -/
def b2n (b : Bool) : Nat := if b then 1 else 0

/-- The n low-order bytes of v, least significant first (R7). -/
def le : Nat → Nat → List Byte
  | 0, _ => []
  | n + 1, v => BitVec.ofNat 8 v :: le n (v / 256)
/-- The n low-order bytes of v, most significant first (R6). -/
def be (n v : Nat) : List Byte := (le n v).reverse
/-- The number that bytes spell, least significant first. -/
def ofLE : List Byte → Nat
  | [] => 0
  | b :: l => b.toNat + 256 * ofLE l
/-- The number that bytes spell, most significant first. -/
def ofBE (l : List Byte) : Nat := ofLE l.reverse
/-- n bytes of l from offset o, short at the end. -/
def slice (l : List Byte) (o n : Nat) : List Byte := (l.drop o).take n
/-- The number in n bytes at offset o, network order. -/
def beAt (l : List Byte) (o n : Nat) : Nat := ofBE (slice l o n)
/-- l padded with zeros, or cut, to n bytes. -/
def fit (n : Nat) (l : List Byte) : List Byte := (l ++ List.replicate n 0).take n
/-- Byte o of l, 0 past its end. -/
def byteAt (l : List Byte) (o : Nat) : Nat := (l.getD o 0).toNat

/-! ### Check codes -/

/-- One bit of the CRC-CCITT: polynomial 0x1021, most significant bit first. -/
def crcCcittBit (c : Nat) : Nat := if c ≥ 0x8000 then (c * 2 ^^^ 0x1021) % 65536 else c * 2 % 65536
/-- CRC-CCITT of C37.118.2 (CHK): initial value 0xFFFF, no final mask. -/
def crcCcitt (l : List Byte) : Nat :=
  l.foldl (fun c b => (List.range 8).foldl (fun c _ => crcCcittBit c) (c ^^^ b.toNat * 256)) 0xFFFF
/-- One bit of a reflected CRC-32C step (polynomial 0x82F63B78). -/
def crc32cBit (c : Nat) : Nat := if c % 2 = 1 then c / 2 ^^^ 0x82F63B78 else c / 2
/-- CRC-32C over bytes. -/
def crc32c (l : List Byte) : Nat :=
  (l.foldl (fun c b => (List.range 8).foldl (fun c _ => crc32cBit c) (c ^^^ b.toNat)) 0xFFFFFFFF) ^^^ 0xFFFFFFFF

/-! ### Irrational functions, to 2^-96 -/

/-- Newton's iteration for the integer square root, on fuel. -/
def isqrtIter (n : Nat) : Nat → Nat → Nat
  | 0, x => x
  | k + 1, x => let y := (x + n / x) / 2; if y ≥ x then x else isqrtIter n k y
/-- The integer square root. -/
def isqrt (n : Nat) : Nat := if n = 0 then 0 else isqrtIter n (n.log2 + 2) (2 ^ (n.log2 / 2 + 1))
/-- The square root of a non-negative rational, truncated at 2^-96 relative to its denominator; 0 for a negative one. -/
def Q.sqrt (a : Q) : Q :=
  if a.num ≤ 0 then Q.zero else Q.make (isqrt (a.num.toNat * a.den * 2 ^ 192)) (a.den * 2 ^ 96)

/-- The fixed-point unit of the series below. -/
def fxOne : Int := 2 ^ 112
/-- A rational as a fixed-point number. -/
def Q.toFx (a : Q) : Int := (a.num * fxOne).fdiv a.den
/-- A fixed-point number as a rational. -/
def ofFx (n : Int) : Q := Q.make n (2 ^ 112)
/-- 2π in fixed point. -/
def fxTwoPi : Int := 32624163332060752803334972325496544
/-- Terms of the Taylor series Σ (±1)^k x^(2k) / (2k + p)! given the first term. -/
def fxSeries (x2 : Int) : Nat → Nat → Int → Int
  | 0, _, t => t
  | n + 1, p, t => t + fxSeries x2 n (p + 2) (-(t * x2).fdiv (fxOne * ((p + 1) * (p + 2) : Nat)))
/-- sin and cos of an angle given in turns. -/
def sincosTurn (turn : Q) : Q × Q :=
  let fr := Q.sub turn (Q.ofInt (Q.floor turn))
  let q : Int := Q.floor (Q.mul fr (Q.ofInt 4))
  let r := Q.sub fr (Q.make q 4)
  let x := (r.toFx * fxTwoPi).fdiv fxOne
  let x2 := (x * x).fdiv fxOne
  let sn := ofFx (fxSeries x2 24 1 x)
  let cs := ofFx (fxSeries x2 24 0 fxOne)
  if q = 0 then (sn, cs) else if q = 1 then (cs, sn.neg) else if q = 2 then (sn.neg, cs.neg) else (cs.neg, sn)
/-- atan of a fixed-point number of magnitude at most ½, in radians, by its series. -/
def fxAtanSeries (x2 : Int) : Nat → Nat → Int → Int
  | 0, _, _ => 0
  | n + 1, p, t => t.fdiv p + fxAtanSeries x2 n (p + 2) (-(t * x2).fdiv fxOne)
/-- atan(y/x) for 0 ≤ y ≤ x, x > 0, in radians, fixed point: halved twice by atan z = 2 atan (z / (1 + √(1 + z²))). -/
def fxAtanUnit (z : Q) : Int :=
  let half := fun (z : Q) => Q.div z (Q.add Q.one (Q.sqrt (Q.add Q.one (Q.mul z z))))
  let w := (half (ofFx (half (ofFx z.toFx)).toFx)).toFx
  4 * fxAtanSeries ((w * w).fdiv fxOne) 40 1 w
/-- atan2(y, x) in turns, in (−½, ½]; 0 for the zero vector (a zero phasor has angle 0). -/
def atan2Turn (y x : Q) : Q :=
  if y.num = 0 ∧ x.num ≥ 0 then Q.zero
  else if y.num = 0 then ⟨1, 2⟩
  else
    let ay := y.abs
    let ax := x.abs
    let t := if Q.le ay ax then Q.make (fxAtanUnit (Q.div ay ax)) fxTwoPi.natAbs
             else Q.sub ⟨1, 4⟩ (Q.make (fxAtanUnit (Q.div ax ay)) fxTwoPi.natAbs)
    let t := if x.num < 0 then Q.sub ⟨1, 2⟩ t else t
    if y.num < 0 then t.neg else t
/-- Terms of 2·artanh: Σ w^(2k+1)/(2k+1). -/
def fxArtanhSeries (w2 : Int) : Nat → Nat → Int → Int
  | 0, _, _ => 0
  | n + 1, p, t => t.fdiv p + fxArtanhSeries w2 n (p + 2) ((t * w2).fdiv fxOne)
/-- ln 2 in fixed point. -/
def fxLn2 : Int := 3599025928123676973540407451845618
/-- The natural logarithm of a positive rational; 0 for others. -/
def Q.ln (a : Q) : Q :=
  if a.num ≤ 0 then Q.zero else
    let e := ilog a.num.toNat a.den
    let m := if e ≥ 0 then Q.make a.num (a.den * 2 ^ e.toNat) else Q.make (a.num * 2 ^ (-e).toNat) a.den
    let w := (Q.div (Q.sub m Q.one) (Q.add m Q.one)).toFx
    Q.add (ofFx (2 * fxArtanhSeries ((w * w).fdiv fxOne) 40 1 w)) (Q.mul (Q.ofInt e) (ofFx fxLn2))
/-- Terms of the exponential series. -/
def fxExpSeries (x : Int) : Nat → Nat → Int → Int
  | 0, _, t => t
  | n + 1, k, t => t + fxExpSeries x n (k + 1) ((t * x).fdiv (fxOne * (k + 1 : Nat)))
/-- The exponential function. -/
def Q.exp (a : Q) : Q :=
  let k := Q.floor (Q.div a (ofFx fxLn2))
  let r := Q.sub a (Q.mul (Q.ofInt k) (ofFx fxLn2))
  let m := ofFx (fxExpSeries r.toFx 32 0 fxOne)
  if k ≥ 0 then Q.mul m (Q.ofInt (2 ^ k.toNat)) else Q.div m (Q.ofInt (2 ^ (-k).toNat))
/-- π as a rational. -/
def qPi : Q := Q.make fxTwoPi (2 ^ 113)

end Sys2Proof.Machine
end

