-- ==== Sys2Proof/Machine/ObjTable.lean ====
section
/-! DEFINITION. The object dictionary as data: one row per object of the object tables of spec/ (R87, R132, R182,
R234, R265, R308, R340, R373, R398, R437, R471, R496, R514, R554, R573, R598, R636, R668, R693), in the tables' order.
A row gives index, subindex, type (R517), access (R518) with the least role that may write or command it, the number of
rows of a table object (0: no rows), the default and the range.  A default the table leaves open ("—") is 0, a DESIGN
CHOICE (assumption 4); "Manifest" and "Manufacture" defaults are opaque bytes of Config (assumption 5). -/

namespace Sys2Proof.Machine

/-- Objects of R554, part 0 of the 0x10xx range. -/
def objects10_0 : List ObjRow :=
  [⟨0x1000, 0x01, .octets, .ro, 0, .zeros 16, .size 16⟩,
   ⟨0x1000, 0x02, .string, .ro, 0, .oct [], .chars 0 32⟩,
   ⟨0x1000, 0x03, .u8, .ro, 0, .n 0x10, .any⟩,
   ⟨0x1000, 0x04, .string, .ro, 0, .oct [0x4F,0x4D,0x41,0x56,0x45,0x4E], .chars 0 32⟩,
   ⟨0x1000, 0x05, .u16, .ro, 0, .n 0x100, .any⟩,
   ⟨0x1001, 0x01, .u8, .ro, 0, .n 0, .any⟩,
   ⟨0x1001, 0x02, .u8, .ro, 0, .n 0, .any⟩,
   ⟨0x1001, 0x03, .u8, .ro, 0, .n 0, .any⟩,
   ⟨0x1010, 0x00, .octets, .ro, 0, .zeros 1024, .size 1024⟩,
   ⟨0x1030, 0x01, .cmd, .cmd 3, 0, .n 0, .any⟩]

/-- All objects of the 0x10xx range. -/
def objects10 : List ObjRow := objects10_0

/-- Objects of R554, part 0 of the 0x11xx range. -/
def objects11_0 : List ObjRow :=
  [⟨0x1100, 0x01, .bool, .rws 3, 0, .n 1, .iv [(0,1)]⟩,
   ⟨0x1100, 0x02, .u16, .rws 3, 0, .n 41640, .iv [(1024,65535)]⟩,
   ⟨0x1100, 0x03, .u8, .rws 3, 0, .n 16, .iv [(1,16)]⟩,
   ⟨0x1100, 0x04, .u16, .rws 3, 0, .n 300, .iv [(10,3600)]⟩,
   ⟨0x1100, 0x05, .u8, .rws 3, 0, .n 3, .iv [(1,3)]⟩,
   ⟨0x1100, 0x06, .bool, .rws 3, 2, .n 0, .iv [(0,1)]⟩,
   ⟨0x1100, 0x07, .u8, .rws 3, 2, .n 0, .iv [(0,1)]⟩,
   ⟨0x1100, 0x09, .u16, .rws 3, 2, .base 0x6C0, .iv [(1,2047)]⟩,
   ⟨0x1100, 0x0A, .u16, .rws 3, 2, .base 0x6C8, .iv [(1,2047)]⟩,
   ⟨0x1100, 0x0B, .u16, .rws 3, 2, .n 0, .any⟩,
   ⟨0x1101, 0x01, .octets, .rws 4, 64, .zeros 48, .size 48⟩,
   ⟨0x1101, 0x02, .u8, .rws 4, 64, .n 0, .iv [(1,4)]⟩,
   ⟨0x1101, 0x03, .string, .rws 4, 64, .oct [], .chars 0 32⟩,
   ⟨0x1101, 0x04, .octets, .rws 4, 0, .zeros 48, .size 48⟩,
   ⟨0x1102, 0x01, .u32, .rws 3, 0, .n 0, .any⟩,
   ⟨0x1102, 0x02, .u8, .rws 3, 0, .n 24, .iv [(1,30)]⟩,
   ⟨0x1102, 0x03, .u32, .rws 3, 0, .n 0, .any⟩,
   ⟨0x1102, 0x04, .octets, .rws 3, 0, .zeros 16, .size 16⟩,
   ⟨0x1102, 0x05, .u8, .rws 3, 0, .n 64, .iv [(1,127)]⟩,
   ⟨0x1110, 0x01, .u8, .ro, 17, .n 0, .any⟩,
   ⟨0x1110, 0x02, .u8, .ro, 17, .n 0, .any⟩,
   ⟨0x1110, 0x03, .octets, .ro, 17, .oct [], .any⟩,
   ⟨0x1110, 0x04, .t96, .ro, 17, .n 0, .any⟩,
   ⟨0x1110, 0x05, .u32, .ro, 17, .n 0, .any⟩,
   ⟨0x1120, 0x01, .u64, .ro, 0, .n 0, .any⟩,
   ⟨0x1120, 0x02, .u32, .ro, 0, .n 0, .any⟩,
   ⟨0x1120, 0x03, .u32, .ro, 0, .n 0, .any⟩,
   ⟨0x1120, 0x04, .u32, .ro, 0, .n 0, .any⟩,
   ⟨0x1120, 0x05, .u32, .ro, 0, .n 0, .any⟩,
   ⟨0x1120, 0x06, .u32, .ro, 0, .n 0, .any⟩]

/-- Objects of R554, part 1 of the 0x11xx range. -/
def objects11_1 : List ObjRow :=
  [⟨0x1120, 0x07, .u32, .ro, 0, .n 0, .any⟩,
   ⟨0x1120, 0x08, .u32, .ro, 0, .n 0, .any⟩,
   ⟨0x1130, 0x01, .cmd, .cmd 3, 17, .n 0, .any⟩]

/-- All objects of the 0x11xx range. -/
def objects11 : List ObjRow := objects11_0 ++ objects11_1

/-- Objects of R554, part 0 of the 0x12xx range. -/
def objects12_0 : List ObjRow :=
  [⟨0x1200, 0x01, .u32, .rws 3, 0, .n 0, .any⟩,
   ⟨0x1200, 0x02, .u32, .ro, 0, .n 0, .any⟩,
   ⟨0x1200, 0x03, .octets, .ro, 0, .zeros 48, .size 48⟩,
   ⟨0x1200, 0x04, .octets, .ro, 0, .zeros 48, .size 48⟩,
   ⟨0x1200, 0x05, .u32, .ro, 0, .n 0, .any⟩,
   ⟨0x1200, 0x06, .u8, .ro, 0, .n 0, .any⟩,
   ⟨0x1200, 0x07, .t96, .ro, 0, .n 0, .any⟩,
   ⟨0x1200, 0x08, .t96, .ro, 0, .n 0, .any⟩,
   ⟨0x1201, 0x01, .cmd, .cmd 3, 0, .n 0, .any⟩,
   ⟨0x1201, 0x02, .octets, .cmd 3, 0, .oct [], .size 20⟩,
   ⟨0x1201, 0x03, .cmd, .cmd 3, 0, .n 0, .any⟩,
   ⟨0x1201, 0x04, .cmd, .cmd 3, 0, .n 0, .any⟩,
   ⟨0x1202, 0x01, .u8, .ro, 0, .n 0, .any⟩,
   ⟨0x1202, 0x02, .u32, .ro, 0, .n 0, .any⟩,
   ⟨0x1202, 0x03, .t96, .ro, 0, .n 0, .any⟩,
   ⟨0x1202, 0x04, .octets, .ro, 64, .zeros 16, .size 16⟩,
   ⟨0x1210, 0x01, .u32, .ro, 0, .n 0, .any⟩,
   ⟨0x1210, 0x02, .u32, .ro, 0, .n 0, .any⟩,
   ⟨0x1210, 0x03, .u32, .ro, 0, .n 0, .any⟩]

/-- All objects of the 0x12xx range. -/
def objects12 : List ObjRow := objects12_0

/-- Objects of R87, part 0 of the 0x20xx range. -/
def objects20_0 : List ObjRow :=
  [⟨0x2000, 0x01, .t96, .ro, 0, .n 0, .any⟩,
   ⟨0x2000, 0x02, .bool, .ro, 0, .n 0, .any⟩,
   ⟨0x2000, 0x03, .u8, .ro, 0, .n 0, .any⟩,
   ⟨0x2000, 0x04, .u64, .ro, 0, .n 0, .any⟩,
   ⟨0x2000, 0x05, .u8, .ro, 0, .n 0, .any⟩,
   ⟨0x2000, 0x06, .u8, .ro, 0, .n 0, .any⟩,
   ⟨0x2000, 0x07, .u32, .ro, 0, .n 0, .any⟩,
   ⟨0x2000, 0x08, .i32, .ro, 0, .n 0, .any⟩,
   ⟨0x2000, 0x09, .i32, .ro, 0, .n 0, .any⟩,
   ⟨0x2000, 0x0A, .i32, .ro, 0, .n 0, .any⟩,
   ⟨0x2000, 0x0B, .i64, .ro, 0, .n 0, .any⟩,
   ⟨0x2001, 0x01, .u8, .rws 3, 0, .n 1, .iv [(0,3)]⟩,
   ⟨0x2001, 0x02, .u8, .rws 3, 0, .n 3, .iv [(0,3)]⟩,
   ⟨0x2001, 0x03, .u8, .rws 3, 0, .n 2, .iv [(0,3)]⟩,
   ⟨0x2001, 0x04, .u8, .rws 3, 0, .n 0, .iv [(0,3)]⟩,
   ⟨0x2001, 0x05, .bool, .rws 3, 0, .n 1, .iv [(0,1)]⟩,
   ⟨0x2001, 0x06, .u16, .rws 3, 0, .n 2000, .iv [(0,60000)]⟩,
   ⟨0x2001, 0x07, .u32, .rws 3, 0, .n 10000, .iv [(1000,600000)]⟩,
   ⟨0x2001, 0x08, .u16, .rws 3, 0, .n 120, .iv [(0,3600)]⟩,
   ⟨0x2001, 0x09, .u16, .rws 3, 0, .n 50, .iv [(1,1000)]⟩,
   ⟨0x2001, 0x0A, .u32, .rws 3, 0, .n 10, .iv [(0,200000)]⟩,
   ⟨0x2001, 0x0B, .u32, .rws 3, 0, .n 1, .iv [(0,10000)]⟩,
   ⟨0x2001, 0x0C, .u32, .rws 3, 0, .n 1000, .iv [(10,10000000)]⟩,
   ⟨0x2001, 0x0D, .u32, .rws 3, 0, .n 10000, .iv [(1,1000000)]⟩,
   ⟨0x2001, 0x0E, .i32, .rws 3, 0, .n 37, .iv [(0,255)]⟩,
   ⟨0x2001, 0x0F, .octets, .rws 3, 0, .zeros 13, .size 13⟩,
   ⟨0x2002, 0x01, .bool, .rws 3, 0, .n 1, .iv [(0,1)]⟩,
   ⟨0x2002, 0x02, .u8, .rws 3, 0, .n 0, .iv [(0,1)]⟩,
   ⟨0x2002, 0x03, .u8, .rws 3, 0, .n 0, .iv [(0,0), (1,1), (2,2)]⟩,
   ⟨0x2002, 0x04, .u8, .rws 3, 0, .n 0, .iv [(0,127)]⟩,
   ⟨0x2002, 0x05, .u8, .rws 3, 0, .n 128, .iv [(0,255)]⟩]

/-- Objects of R87, part 1 of the 0x20xx range. -/
def objects20_1 : List ObjRow :=
  [⟨0x2002, 0x06, .u8, .rws 3, 0, .n 128, .iv [(0,255)]⟩,
   ⟨0x2002, 0x07, .u8, .rws 3, 0, .n 0, .iv [(0,0), (1,1)]⟩,
   ⟨0x2002, 0x08, .u8, .rws 3, 0, .n 0x30, .iv [(0,63)]⟩,
   ⟨0x2002, 0x09, .u16, .rws 3, 0, .n 0, .any⟩,
   ⟨0x2003, 0x01, .octets, .ro, 0, .zeros 10, .size 10⟩,
   ⟨0x2003, 0x02, .octets, .ro, 0, .zeros 8, .size 8⟩,
   ⟨0x2003, 0x03, .i64, .ro, 0, .n 0, .any⟩,
   ⟨0x2003, 0x04, .i64, .ro, 0, .n 0, .any⟩,
   ⟨0x2003, 0x05, .u64, .ro, 0, .n 0, .any⟩,
   ⟨0x2004, 0x01, .bool, .rws 3, 0, .n 0, .iv [(0,1)]⟩,
   ⟨0x2004, 0x02, .bool, .rws 3, 0, .n 0, .iv [(0,1)]⟩,
   ⟨0x2004, 0x03, .bool, .rws 3, 0, .n 1, .iv [(0,1)]⟩,
   ⟨0x2004, 0x04, .u8, .rws 3, 0, .n 0, .iv [(0,0), (1,1)]⟩,
   ⟨0x2004, 0x05, .i32, .rws 3, 0, .n 0, .any⟩,
   ⟨0x2004, 0x06, .i32, .rws 3, 0, .n 0, .any⟩,
   ⟨0x2005, 0x01, .cmd, .cmd 3, 0, .n 0, .any⟩,
   ⟨0x2005, 0x02, .t96, .cmd 3, 0, .n 0, .any⟩,
   ⟨0x2006, 0x01, .i32, .rws 3, 8, .n 0, .any⟩,
   ⟨0x2006, 0x02, .i32, .rws 3, 8, .n 0, .any⟩,
   ⟨0x2006, 0x03, .i32, .rws 3, 8, .n 0, .any⟩,
   ⟨0x2008, 0x01, .u8, .rws 3, 4, .n 0, .iv [(0,0), (1,1), (2,2), (3,3)]⟩,
   ⟨0x2009, 0x01, .t96, .ro, 4, .n 0, .any⟩,
   ⟨0x2009, 0x02, .u32, .ro, 4, .n 0, .any⟩,
   ⟨0x2010, 0x01, .u8, .rws 3, 0, .n 50, .iv [(50,50), (60,60)]⟩,
   ⟨0x2010, 0x02, .u8, .rws 3, 0, .n 0, .iv [(0,0), (1,1)]⟩,
   ⟨0x2010, 0x03, .u8, .rws 3, 0, .n 0, .iv [(0,3)]⟩,
   ⟨0x2010, 0x04, .u32, .rws 3, 0, .n 0, .iv [(0,5242879)]⟩,
   ⟨0x2010, 0x05, .u8, .rws 3, 0, .n 4, .iv [(0,6)]⟩,
   ⟨0x2010, 0x06, .f32, .rws 3, 0, .n 0x3E4CCCCD, .fiv 0x3D4CCCCD 0x3F666666⟩,
   ⟨0x2010, 0x07, .u16, .rws 3, 0, .n 100, .iv [(20,2000)]⟩]

/-- Objects of R87, part 2 of the 0x20xx range. -/
def objects20_2 : List ObjRow :=
  [⟨0x2010, 0x08, .u16, .rws 3, 0, .n 1000, .iv [(100,60000)]⟩,
   ⟨0x2010, 0x09, .f32, .rws 3, 0, .n 0x3F000000, .fiv 0x3D4CCCCD 0x40000000⟩,
   ⟨0x2011, 0x01, .gat, .ro, 0, .n 0, .any⟩,
   ⟨0x2011, 0x02, .u8, .ro, 0, .n 0, .any⟩,
   ⟨0x2011, 0x03, .f32, .ro, 0, .n 0, .any⟩,
   ⟨0x2011, 0x04, .f32, .ro, 0, .n 0, .any⟩,
   ⟨0x2011, 0x05, .u32, .ro, 0, .n 0, .any⟩,
   ⟨0x2020, 0x01, .u8, .rw 2, 4, .n 0, .iv [(0,4)]⟩,
   ⟨0x2020, 0x03, .t96, .rw 2, 4, .n 0, .any⟩,
   ⟨0x2020, 0x04, .gat, .rw 2, 4, .n 0, .any⟩,
   ⟨0x2020, 0x05, .t96, .rw 2, 4, .n 0x1000000000000, .any⟩,
   ⟨0x2020, 0x06, .gat, .rw 2, 4, .n 0x100000000, .any⟩,
   ⟨0x2020, 0x07, .u32, .rw 2, 4, .n 1000, .iv [(1,1000000000)]⟩,
   ⟨0x2020, 0x08, .u8, .rw 2, 4, .n 0, .iv [(0,0), (1,1)]⟩,
   ⟨0x2020, 0x09, .u32, .rw 2, 4, .n 0, .any⟩,
   ⟨0x2020, 0x0A, .bool, .rw 2, 4, .n 0, .iv [(0,1)]⟩,
   ⟨0x2020, 0x0B, .u8, .ro, 4, .n 0, .any⟩,
   ⟨0x2030, 0x01, .u32, .ro, 0, .n 0, .any⟩,
   ⟨0x2030, 0x02, .u32, .ro, 0, .n 0, .any⟩,
   ⟨0x2030, 0x03, .u32, .ro, 0, .n 0, .any⟩,
   ⟨0x2030, 0x04, .u32, .ro, 0, .n 0, .any⟩,
   ⟨0x2030, 0x05, .u32, .ro, 0, .n 0, .any⟩,
   ⟨0x2030, 0x06, .u32, .ro, 0, .n 0, .any⟩,
   ⟨0x2030, 0x07, .u32, .ro, 0, .n 0, .any⟩,
   ⟨0x2030, 0x08, .u32, .ro, 0, .n 0, .any⟩,
   ⟨0x2030, 0x09, .u32, .ro, 0, .n 0, .any⟩]

/-- All objects of the 0x20xx range. -/
def objects20 : List ObjRow := objects20_0 ++ objects20_1 ++ objects20_2

/-- Objects of R132, part 0 of the 0x21xx range. -/
def objects21_0 : List ObjRow :=
  [⟨0x2100, 0x01, .bool, .rws 3, 8, .n 1, .iv [(0,1)]⟩,
   ⟨0x2100, 0x02, .u8, .rws 3, 8, .list [1,1,1,1,2,2,1,1], .iv [(0,3)]⟩,
   ⟨0x2100, 0x03, .u8, .rws 3, 8, .n 3, .iv [(0,0), (1,1), (2,2)]⟩,
   ⟨0x2100, 0x04, .bool, .rws 3, 8, .list [0,0,0,0,1,1,0,0], .iv [(0,1)]⟩,
   ⟨0x2100, 0x05, .u16, .rws 3, 8, .n 1522, .any⟩,
   ⟨0x2100, 0x06, .bool, .rws 3, 8, .n 1, .iv [(0,1)]⟩,
   ⟨0x2100, 0x07, .u16, .rws 3, 8, .n 256, .step 64 9216 64⟩,
   ⟨0x2100, 0x08, .u32, .rws 3, 8, .n 1000, .iv [(10,1000000)]⟩,
   ⟨0x2100, 0x09, .octets, .rws 3, 8, .mac, .size 6⟩,
   ⟨0x2101, 0x01, .u8, .rws 3, 3, .n 1, .iv [(0,2)]⟩,
   ⟨0x2101, 0x02, .u16, .rws 3, 3, .n 400, .iv [(10,10000)]⟩,
   ⟨0x2101, 0x03, .u16, .rws 3, 3, .n 60, .iv [(1,3600)]⟩,
   ⟨0x2101, 0x04, .u16, .rws 3, 3, .n 2000, .iv [(100,60000)]⟩,
   ⟨0x2101, 0x05, .u8, .rws 3, 3, .n 0x0, .iv [(0,255)]⟩,
   ⟨0x2102, 0x01, .bool, .rws 3, 8, .n 0, .iv [(0,1)]⟩,
   ⟨0x2102, 0x02, .u8, .rws 3, 8, .n 0, .iv [(0,0), (1,1)]⟩,
   ⟨0x2102, 0x03, .t96, .rws 3, 8, .n 0, .any⟩,
   ⟨0x2102, 0x04, .gat, .rws 3, 8, .n 0, .any⟩,
   ⟨0x2102, 0x05, .u32, .rws 3, 8, .n 1000000, .iv [(10000,1000000000)]⟩,
   ⟨0x2102, 0x06, .u32, .rws 3, 8, .n 1048576, .iv [(16384,4294967295)]⟩,
   ⟨0x2102, 0x07, .u16, .rws 3, 8, .n 1, .iv [(1,256)]⟩,
   ⟨0x2103, 0x01, .u8, .rws 3, 2048, .n 0xFF, .iv [(0,255)]⟩,
   ⟨0x2103, 0x02, .u32, .rws 3, 2048, .n 1000000, .any⟩,
   ⟨0x2104, 0x01, .u8, .rws 3, 128, .cycle [7,7,7,6,6,5,2,1,0,0,0,0,0,0,0,0], .iv [(0,7)]⟩,
   ⟨0x2104, 0x02, .u8, .rws 3, 128, .n 0, .iv [(0,0), (1,1), (2,2)]⟩,
   ⟨0x2104, 0x03, .u16, .rws 3, 128, .n 1, .iv [(1,4094)]⟩,
   ⟨0x2104, 0x04, .u8, .rws 3, 128, .n 0, .iv [(0,7)]⟩,
   ⟨0x2105, 0x01, .u16, .rws 3, 128, .n 0, .iv [(0,4094)]⟩,
   ⟨0x2106, 0x01, .octets, .rws 3, 8192, .zeros 6, .size 6⟩,
   ⟨0x2110, 0x01, .u8, .ro, 8, .n 0, .any⟩]

/-- Objects of R132, part 1 of the 0x21xx range. -/
def objects21_1 : List ObjRow :=
  [⟨0x2110, 0x02, .u8, .ro, 8, .n 0, .any⟩,
   ⟨0x2110, 0x03, .u16, .ro, 8, .n 0, .any⟩,
   ⟨0x2110, 0x04, .u8, .ro, 8, .n 0, .any⟩,
   ⟨0x2110, 0x05, .u16, .ro, 8, .n 0, .any⟩,
   ⟨0x2110, 0x06, .u32, .ro, 8, .n 0, .any⟩,
   ⟨0x2110, 0x07, .bool, .ro, 8, .n 0, .any⟩,
   ⟨0x2111, 0x01, .u8, .ro, 3, .n 0, .any⟩,
   ⟨0x2111, 0x02, .u16, .ro, 3, .n 0, .any⟩,
   ⟨0x2111, 0x03, .u16, .ro, 3, .n 0, .any⟩,
   ⟨0x2120, 0x01, .u64, .ro, 8, .n 0, .any⟩,
   ⟨0x2120, 0x02, .u64, .ro, 8, .n 0, .any⟩,
   ⟨0x2120, 0x03, .u32, .ro, 8, .n 0, .any⟩,
   ⟨0x2120, 0x04, .u32, .ro, 8, .n 0, .any⟩,
   ⟨0x2120, 0x05, .u32, .ro, 8, .n 0, .any⟩,
   ⟨0x2120, 0x06, .u32, .ro, 8, .n 0, .any⟩,
   ⟨0x2120, 0x07, .u32, .ro, 8, .n 0, .any⟩,
   ⟨0x2120, 0x08, .u32, .ro, 8, .n 0, .any⟩,
   ⟨0x2120, 0x09, .u32, .ro, 8, .n 0, .any⟩,
   ⟨0x2120, 0x0A, .u32, .ro, 8, .n 0, .any⟩,
   ⟨0x2120, 0x0B, .u32, .ro, 8, .n 0, .any⟩,
   ⟨0x2120, 0x0C, .u64, .ro, 8, .n 0, .any⟩,
   ⟨0x2120, 0x0D, .u64, .ro, 8, .n 0, .any⟩,
   ⟨0x2120, 0x0E, .u64, .ro, 8, .n 0, .any⟩,
   ⟨0x2120, 0x0F, .u32, .ro, 8, .n 0, .any⟩,
   ⟨0x2120, 0x10, .u32, .ro, 8, .n 0, .any⟩,
   ⟨0x2120, 0x11, .u32, .ro, 8, .n 0, .any⟩,
   ⟨0x2120, 0x12, .u32, .ro, 8, .n 0, .any⟩,
   ⟨0x2120, 0x13, .u32, .ro, 8, .n 0, .any⟩,
   ⟨0x2120, 0x14, .u32, .ro, 8, .n 0, .any⟩,
   ⟨0x2120, 0x15, .u32, .ro, 8, .n 0, .any⟩]

/-- Objects of R132, part 2 of the 0x21xx range. -/
def objects21_2 : List ObjRow :=
  [⟨0x2121, 0x01, .u64, .ro, 3, .n 0, .any⟩,
   ⟨0x2121, 0x02, .u32, .ro, 3, .n 0, .any⟩,
   ⟨0x2121, 0x03, .u32, .ro, 3, .n 0, .any⟩,
   ⟨0x2121, 0x04, .u64, .ro, 3, .n 0, .any⟩,
   ⟨0x2121, 0x05, .u64, .ro, 3, .n 0, .any⟩,
   ⟨0x2121, 0x06, .u32, .ro, 3, .n 0, .any⟩,
   ⟨0x2130, 0x01, .cmd, .cmd 2, 0, .n 0, .any⟩]

/-- All objects of the 0x21xx range. -/
def objects21 : List ObjRow := objects21_0 ++ objects21_1 ++ objects21_2

/-- Objects of R182, part 0 of the 0x22xx range. -/
def objects22_0 : List ObjRow :=
  [⟨0x2200, 0x01, .u16, .rws 3, 0, .n 5000, .iv [(100,60000)]⟩,
   ⟨0x2200, 0x02, .u16, .rws 3, 0, .n 5000, .iv [(100,60000)]⟩,
   ⟨0x2200, 0x03, .u16, .rws 3, 0, .n 60, .iv [(1,3600)]⟩,
   ⟨0x2200, 0x04, .u32, .rws 3, 0, .n 5000, .iv [(100,600000)]⟩,
   ⟨0x2200, 0x05, .u16, .rws 3, 0, .n 50, .iv [(5,2000)]⟩,
   ⟨0x2200, 0x08, .u8, .rws 3, 0, .n 4, .iv [(1,6)]⟩,
   ⟨0x2201, 0x01, .bool, .rw 2, 20480, .n 0, .iv [(0,1)]⟩,
   ⟨0x2201, 0x02, .u16, .rws 3, 20480, .n 0, .iv [(1,65534)]⟩,
   ⟨0x2201, 0x03, .u8, .rws 3, 20480, .n 0, .iv [(0,0), (1,1)]⟩,
   ⟨0x2201, 0x04, .octets, .rws 3, 20480, .zeros 16, .size 16⟩,
   ⟨0x2201, 0x05, .u16, .rws 3, 20480, .n 4713, .iv [(1,65535)]⟩,
   ⟨0x2201, 0x06, .octets, .rws 3, 20480, .zeros 16, .size 16⟩,
   ⟨0x2201, 0x07, .u8, .rws 3, 20480, .n 0x3, .iv [(0,3)]⟩,
   ⟨0x2201, 0x08, .u8, .rws 3, 20480, .n 0, .iv [(0,63)]⟩,
   ⟨0x2201, 0x09, .u32, .rws 3, 20480, .n 0, .iv [(0,5242879)]⟩,
   ⟨0x2201, 0x0A, .u16, .rws 3, 20480, .n 1, .iv [(1,4096)]⟩,
   ⟨0x2201, 0x0B, .u8, .rws 3, 20480, .n 0, .iv [(0,2)]⟩,
   ⟨0x2201, 0x0C, .u16, .rws 3, 20480, .n 4712, .iv [(1,65535)]⟩,
   ⟨0x2201, 0x0D, .u8, .rws 3, 20480, .n 0, .iv [(0,0), (1,1)]⟩,
   ⟨0x2201, 0x0E, .u16, .rws 3, 20480, .n 0, .any⟩,
   ⟨0x2201, 0x0F, .u16, .rws 3, 20480, .n 0, .any⟩,
   ⟨0x2201, 0x10, .string, .rws 3, 20480, .oct [], .chars 1 64⟩,
   ⟨0x2201, 0x11, .u16, .rws 3, 20480, .n 0, .iv [(0,65535)]⟩,
   ⟨0x2202, 0x01, .domain, .rws 3, 20480, .oct [], .dom 0 65535⟩,
   ⟨0x2203, 0x01, .u8, .ro, 20480, .n 0, .any⟩,
   ⟨0x2203, 0x02, .u16, .ro, 20480, .n 0, .any⟩,
   ⟨0x2203, 0x03, .u16, .ro, 20480, .n 0, .any⟩,
   ⟨0x2203, 0x04, .t96, .ro, 20480, .n 0, .any⟩,
   ⟨0x2203, 0x05, .u16, .ro, 20480, .n 0, .any⟩,
   ⟨0x2203, 0x06, .u64, .ro, 20480, .n 0, .any⟩]

/-- Objects of R182, part 1 of the 0x22xx range. -/
def objects22_1 : List ObjRow :=
  [⟨0x2203, 0x07, .u32, .ro, 20480, .n 0, .any⟩,
   ⟨0x2203, 0x08, .u32, .ro, 20480, .n 0, .any⟩,
   ⟨0x2203, 0x09, .u32, .ro, 20480, .n 0, .any⟩,
   ⟨0x2203, 0x0A, .u32, .ro, 20480, .n 0, .any⟩,
   ⟨0x2203, 0x0B, .u32, .ro, 20480, .n 0, .any⟩,
   ⟨0x2203, 0x0C, .domain, .ro, 20480, .oct [], .dom 0 4096⟩,
   ⟨0x2203, 0x0D, .u8, .ro, 20480, .n 0, .any⟩,
   ⟨0x2203, 0x0E, .domain, .ro, 20480, .oct [], .any⟩,
   ⟨0x2203, 0x0F, .u32, .ro, 20480, .n 0, .any⟩,
   ⟨0x2204, 0x01, .u32, .rws 3, 4, .n 0, .any⟩,
   ⟨0x2204, 0x02, .u8, .rws 3, 4, .n 24, .iv [(1,30)]⟩,
   ⟨0x2204, 0x03, .u32, .rws 3, 4, .n 0, .any⟩,
   ⟨0x2204, 0x04, .octets, .rws 3, 4, .zeros 16, .size 16⟩,
   ⟨0x2204, 0x05, .u8, .rws 3, 4, .n 64, .iv [(1,127)]⟩,
   ⟨0x2230, 0x01, .u64, .ro, 0, .n 0, .any⟩,
   ⟨0x2230, 0x02, .u64, .ro, 0, .n 0, .any⟩,
   ⟨0x2230, 0x03, .u32, .ro, 0, .n 0, .any⟩,
   ⟨0x2230, 0x04, .u32, .ro, 0, .n 0, .any⟩,
   ⟨0x2230, 0x05, .u32, .ro, 0, .n 0, .any⟩,
   ⟨0x2230, 0x06, .u64, .ro, 0, .n 0, .any⟩,
   ⟨0x2230, 0x07, .u32, .ro, 0, .n 0, .any⟩,
   ⟨0x2230, 0x08, .u32, .ro, 0, .n 0, .any⟩,
   ⟨0x2230, 0x09, .u32, .ro, 0, .n 0, .any⟩,
   ⟨0x2230, 0x0A, .u32, .ro, 0, .n 0, .any⟩,
   ⟨0x2230, 0x0B, .u32, .ro, 0, .n 0, .any⟩,
   ⟨0x2230, 0x0C, .u32, .ro, 0, .n 0, .any⟩,
   ⟨0x2230, 0x0D, .u32, .ro, 0, .n 0, .any⟩,
   ⟨0x2230, 0x0E, .u32, .ro, 0, .n 0, .any⟩,
   ⟨0x2230, 0x0F, .bool, .ro, 0, .n 0, .any⟩,
   ⟨0x2230, 0x10, .u32, .ro, 0, .n 0, .any⟩]

/-- Objects of R182, part 2 of the 0x22xx range. -/
def objects22_2 : List ObjRow :=
  [⟨0x2231, 0x01, .octets, .ro, 16, .zeros 24, .size 24⟩,
   ⟨0x2240, 0x01, .octets, .ro, 16, .zeros 2560, .size 2560⟩,
   ⟨0x2240, 0x02, .u8, .ro, 16, .n 0, .any⟩,
   ⟨0x2240, 0x03, .t96, .ro, 16, .n 0, .any⟩,
   ⟨0x2240, 0x04, .u32, .ro, 0, .n 0, .any⟩,
   ⟨0x2241, 0x01, .u16, .ro, 16, .n 0, .any⟩,
   ⟨0x2250, 0x01, .u64, .ro, 0, .n 0, .any⟩,
   ⟨0x2250, 0x02, .u64, .ro, 0, .n 280000000, .any⟩,
   ⟨0x2250, 0x03, .u32, .ro, 0, .n 0, .any⟩,
   ⟨0x2250, 0x04, .u16, .ro, 0, .n 0, .any⟩,
   ⟨0x2260, 0x01, .cmd, .cmd 2, 0, .n 0, .any⟩,
   ⟨0x2260, 0x02, .cmd, .cmd 2, 20480, .n 0, .any⟩]

/-- All objects of the 0x22xx range. -/
def objects22 : List ObjRow := objects22_0 ++ objects22_1 ++ objects22_2

/-- Objects of R234, part 0 of the 0x23xx range. -/
def objects23_0 : List ObjRow :=
  [⟨0x2300, 0x01, .u16, .rws 3, 0, .n 10, .iv [(1,600)]⟩,
   ⟨0x2300, 0x02, .u16, .rws 3, 0, .n 2000, .iv [(100,10000)]⟩,
   ⟨0x2300, 0x03, .u16, .rws 3, 0, .n 10, .iv [(1,600)]⟩,
   ⟨0x2300, 0x04, .u16, .rws 3, 0, .n 60, .iv [(1,3600)]⟩,
   ⟨0x2300, 0x05, .u8, .rws 3, 0, .n 8, .iv [(2,16)]⟩,
   ⟨0x2300, 0x06, .u8, .rws 3, 0, .n 16, .iv [(1,16)]⟩,
   ⟨0x2301, 0x01, .i16, .rws 3, 64, .list [50], .rates (true)⟩,
   ⟨0x2301, 0x02, .u16, .rws 3, 64, .n 100, .iv [(10,2000)]⟩,
   ⟨0x2304, 0x01, .bool, .rws 3, 64, .n 1, .iv [(0,1)]⟩,
   ⟨0x2304, 0x02, .u16, .rws 3, 64, .n 9500, .iv [(1,10000)]⟩,
   ⟨0x2304, 0x03, .u16, .rws 3, 64, .n 32, .iv [(1,6400)]⟩,
   ⟨0x2304, 0x04, .u16, .rws 3, 64, .n 0, .iv [(0,10000)]⟩,
   ⟨0x2304, 0x05, .u8, .rws 3, 64, .n 8, .iv [(1,255)]⟩,
   ⟨0x2305, 0x01, .f32, .rws 3, 64, .n 0x3F000000, .fiv 0x3C23D70A 0x42C80000⟩,
   ⟨0x2305, 0x02, .f32, .rws 3, 64, .n 0x3F000000, .fiv 0x3C23D70A 0x43340000⟩,
   ⟨0x2305, 0x03, .f32, .rws 3, 64, .n 0x3BA3D70A, .fiv 0x38D1B717 0x40A00000⟩,
   ⟨0x2305, 0x04, .f32, .rws 3, 64, .n 0x3DCCCCCD, .fiv 0x3A83126F 0x42C80000⟩,
   ⟨0x2305, 0x05, .f32, .rws 3, 64, .n 0x3F000000, .fiv 0x3C23D70A 0x42C80000⟩,
   ⟨0x2305, 0x06, .u16, .rws 3, 64, .n 0xFFFF, .any⟩,
   ⟨0x2310, 0x01, .u8, .ro, 64, .n 0, .any⟩,
   ⟨0x2310, 0x02, .u16, .ro, 64, .n 0, .any⟩,
   ⟨0x2310, 0x03, .u16, .ro, 64, .n 0, .any⟩,
   ⟨0x2310, 0x04, .u64, .ro, 64, .n 0, .any⟩,
   ⟨0x2310, 0x05, .u64, .ro, 64, .n 0, .any⟩,
   ⟨0x2310, 0x06, .u32, .ro, 64, .n 0, .any⟩,
   ⟨0x2310, 0x07, .u8, .ro, 64, .n 0, .any⟩,
   ⟨0x2310, 0x08, .u32, .ro, 64, .n 0, .any⟩,
   ⟨0x2311, 0x01, .u8, .ro, 20484, .n 0, .any⟩,
   ⟨0x2311, 0x02, .u16, .ro, 20484, .n 0, .any⟩,
   ⟨0x2311, 0x03, .u8, .ro, 20484, .n 0, .any⟩]

/-- Objects of R234, part 1 of the 0x23xx range. -/
def objects23_1 : List ObjRow :=
  [⟨0x2311, 0x04, .u32, .ro, 20484, .n 0, .any⟩,
   ⟨0x2311, 0x05, .u32, .ro, 20484, .n 0, .any⟩,
   ⟨0x2312, 0x01, .u64, .rw 2, 64, .n 0, .any⟩,
   ⟨0x2312, 0x02, .u8, .ro, 64, .n 0, .any⟩,
   ⟨0x2312, 0x03, .u16, .ro, 64, .n 0, .any⟩,
   ⟨0x2312, 0x04, .u16, .ro, 64, .n 0, .any⟩,
   ⟨0x2312, 0x05, .u8, .ro, 64, .n 0, .any⟩,
   ⟨0x2312, 0x06, .t96, .ro, 64, .n 0, .any⟩,
   ⟨0x2312, 0x07, .t96, .ro, 64, .n 0, .any⟩,
   ⟨0x2320, 0x01, .u64, .ro, 64, .n 0, .any⟩,
   ⟨0x2320, 0x02, .u64, .ro, 64, .n 0, .any⟩,
   ⟨0x2320, 0x03, .u64, .ro, 64, .n 0, .any⟩,
   ⟨0x2320, 0x04, .u32, .ro, 64, .n 0, .any⟩,
   ⟨0x2320, 0x05, .u64, .ro, 64, .n 0, .any⟩,
   ⟨0x2320, 0x06, .u64, .ro, 64, .n 0, .any⟩,
   ⟨0x2320, 0x07, .u64, .ro, 64, .n 0, .any⟩,
   ⟨0x2320, 0x08, .u64, .ro, 64, .n 0, .any⟩,
   ⟨0x2320, 0x09, .u32, .ro, 64, .n 0, .any⟩,
   ⟨0x2320, 0x0A, .u32, .ro, 64, .n 0, .any⟩,
   ⟨0x2320, 0x0B, .u32, .ro, 64, .n 0, .any⟩,
   ⟨0x2320, 0x0C, .u64, .ro, 64, .n 0, .any⟩,
   ⟨0x2320, 0x0D, .u32, .ro, 64, .n 0, .any⟩,
   ⟨0x2321, 0x01, .bool, .ro, 0, .n 0, .any⟩,
   ⟨0x2330, 0x01, .cmd, .cmd 2, 0, .n 0, .any⟩,
   ⟨0x2330, 0x02, .cmd, .cmd 3, 64, .n 0, .any⟩]

/-- All objects of the 0x23xx range. -/
def objects23 : List ObjRow := objects23_0 ++ objects23_1

/-- Objects of R265, part 0 of the 0x24xx range. -/
def objects24_0 : List ObjRow :=
  [⟨0x2400, 0x01, .bool, .rws 3, 0, .n 1, .iv [(0,1)]⟩,
   ⟨0x2400, 0x02, .u16, .rws 3, 0, .n 8500, .iv [(5000,9500)]⟩,
   ⟨0x2400, 0x03, .u16, .rws 3, 0, .n 7000, .iv [(1000,9000)]⟩,
   ⟨0x2400, 0x04, .u16, .rws 3, 0, .n 10, .iv [(1,3600)]⟩,
   ⟨0x2400, 0x05, .bool, .rws 3, 0, .n 0, .iv [(0,1)]⟩,
   ⟨0x2400, 0x06, .u16, .rws 3, 0, .n 5000, .iv [(1000,8000)]⟩,
   ⟨0x2400, 0x07, .u16, .rws 3, 0, .n 60, .iv [(10,3600)]⟩,
   ⟨0x2400, 0x08, .u16, .rws 3, 0, .n 64, .iv [(1,256)]⟩,
   ⟨0x2401, 0x01, .u8, .rws 3, 4, .n 0xFF, .iv [(0,67), (255,255)]⟩,
   ⟨0x2402, 0x01, .u8, .rws 3, 1024, .n 0, .iv [(0,3)]⟩,
   ⟨0x2402, 0x02, .u16, .rws 3, 1024, .n 0, .iv [(0,20483)]⟩,
   ⟨0x2402, 0x03, .u16, .rws 3, 1024, .n 0, .iv [(0,20483)]⟩,
   ⟨0x2402, 0x04, .u16, .rws 3, 1024, .n 0, .any⟩,
   ⟨0x2410, 0x01, .u8, .ro, 68, .n 0, .any⟩,
   ⟨0x2410, 0x02, .u32, .ro, 68, .n 0, .any⟩,
   ⟨0x2410, 0x03, .u16, .ro, 68, .n 0, .any⟩,
   ⟨0x2410, 0x04, .u32, .ro, 68, .n 0, .any⟩,
   ⟨0x2410, 0x05, .u32, .ro, 68, .n 0, .any⟩,
   ⟨0x2410, 0x06, .u16, .ro, 68, .n 0, .any⟩,
   ⟨0x2411, 0x01, .u8, .ro, 20484, .n 0xFF, .any⟩,
   ⟨0x2411, 0x02, .u8, .ro, 20484, .n 0xFF, .any⟩,
   ⟨0x2411, 0x03, .u8, .ro, 20484, .n 0xFF, .any⟩,
   ⟨0x2411, 0x04, .u32, .ro, 20484, .n 0, .any⟩,
   ⟨0x2411, 0x05, .u8, .ro, 20484, .n 0xFF, .any⟩,
   ⟨0x2412, 0x01, .u16, .ro, 16, .n 0, .any⟩,
   ⟨0x2412, 0x02, .u32, .ro, 16, .n 0, .any⟩,
   ⟨0x2413, 0x01, .u16, .ro, 8, .n 0, .any⟩,
   ⟨0x2420, 0x01, .u32, .ro, 0, .n 0, .any⟩,
   ⟨0x2420, 0x02, .u32, .ro, 0, .n 0, .any⟩,
   ⟨0x2420, 0x03, .u32, .ro, 0, .n 0, .any⟩]

/-- Objects of R265, part 1 of the 0x24xx range. -/
def objects24_1 : List ObjRow :=
  [⟨0x2420, 0x04, .u8, .ro, 0, .n 0, .any⟩,
   ⟨0x2420, 0x05, .u8, .ro, 0, .n 4, .any⟩,
   ⟨0x2420, 0x06, .u8, .ro, 0, .n 0, .any⟩,
   ⟨0x2420, 0x07, .u64, .ro, 0, .n 0, .any⟩,
   ⟨0x2420, 0x08, .u32, .ro, 0, .n 0, .any⟩,
   ⟨0x2420, 0x09, .u32, .ro, 0, .n 0, .any⟩,
   ⟨0x2420, 0x0A, .bool, .ro, 0, .n 0, .any⟩,
   ⟨0x2430, 0x01, .cmd, .cmd 2, 0, .n 0, .any⟩,
   ⟨0x2430, 0x02, .cmd, .cmd 3, 0, .n 0, .any⟩,
   ⟨0x2430, 0x03, .cmd, .cmd 3, 0, .n 0, .any⟩]

/-- All objects of the 0x24xx range. -/
def objects24 : List ObjRow := objects24_0 ++ objects24_1

/-- Objects of R308, part 0 of the 0x25xx range. -/
def objects25_0 : List ObjRow :=
  [⟨0x2500, 0x01, .bool, .rws 3, 0, .n 1, .iv [(0,1)]⟩,
   ⟨0x2501, 0x01, .u32, .rws 3, 1048576, .n 0xFFFFFFFF, .iv [(0,5243903), (4294967295,4294967295)]⟩,
   ⟨0x2501, 0x02, .u8, .rws 3, 1048576, .n 2, .iv [(0,4)]⟩,
   ⟨0x2501, 0x03, .u8, .rws 3, 1048576, .n 0x0, .iv [(0,15)]⟩,
   ⟨0x2501, 0x04, .u8, .rws 3, 1048576, .n 0, .iv [(0,255)]⟩,
   ⟨0x2502, 0x01, .f32, .rws 3, 1024, .n 0x3C23D70A, .fpos⟩,
   ⟨0x2502, 0x02, .f32, .rws 3, 1024, .n 0x3C03126F, .fpos⟩,
   ⟨0x2502, 0x03, .f32, .rws 3, 1024, .n 0x40A00000, .fiv 0x3DCCCCCD 0x45610000⟩,
   ⟨0x2502, 0x04, .u16, .rws 3, 1024, .n 3, .iv [(1,65535)]⟩,
   ⟨0x2502, 0x05, .u16, .rws 3, 1024, .n 10, .iv [(1,65535)]⟩,
   ⟨0x2503, 0x01, .f32, .ro, 4194304, .n 0x00000000, .any⟩,
   ⟨0x2503, 0x02, .u8, .ro, 4194304, .n 3, .any⟩,
   ⟨0x2503, 0x03, .u8, .ro, 4194304, .n 0, .any⟩,
   ⟨0x2503, 0x04, .u32, .ro, 1024, .n 0, .any⟩,
   ⟨0x2504, 0x01, .octets, .ro, 256, .zeros 24, .size 24⟩,
   ⟨0x2504, 0x02, .u32, .ro, 0, .n 0, .any⟩,
   ⟨0x2510, 0x01, .bool, .rws 3, 0, .n 0, .iv [(0,1)]⟩,
   ⟨0x2510, 0x02, .u8, .rws 3, 0, .n 0, .iv [(0,63)]⟩,
   ⟨0x2510, 0x03, .u8, .rws 3, 0, .n 20, .iv [(8,40)]⟩,
   ⟨0x2510, 0x04, .u8, .rws 3, 0, .n 64, .step 8 128 2⟩,
   ⟨0x2510, 0x05, .u16, .rws 3, 0, .n 300, .iv [(30,3600)]⟩,
   ⟨0x2510, 0x06, .u16, .rws 3, 0, .n 30, .iv [(5,600)]⟩,
   ⟨0x2510, 0x07, .u16, .rws 3, 0, .n 50, .iv [(10,1000)]⟩,
   ⟨0x2510, 0x08, .u16, .rws 3, 0, .n 4000, .iv [(200,4000)]⟩,
   ⟨0x2510, 0x09, .i16, .rws 3, 0, .n 300, .iv [(10,1000)]⟩,
   ⟨0x2510, 0x0A, .u16, .rws 3, 0, .n 0, .iv [(0,4095)]⟩,
   ⟨0x2511, 0x01, .u32, .rws 3, 4096, .n 0xFFFFFFFF, .iv [(0,5243903), (4294967295,4294967295)]⟩,
   ⟨0x2511, 0x02, .u8, .rws 3, 4096, .n 2, .iv [(0,0), (2,4)]⟩,
   ⟨0x2511, 0x03, .bool, .rws 3, 4096, .n 0, .iv [(0,1)]⟩,
   ⟨0x2512, 0x01, .u16, .ro, 32, .n 0, .any⟩]

/-- Objects of R308, part 1 of the 0x25xx range. -/
def objects25_1 : List ObjRow :=
  [⟨0x2512, 0x02, .u16, .ro, 32, .n 0, .any⟩,
   ⟨0x2512, 0x03, .i16, .ro, 32, .n 0, .any⟩,
   ⟨0x2512, 0x04, .u8, .ro, 32, .n 0, .any⟩,
   ⟨0x2512, 0x05, .f32, .ro, 32, .n 0x00000000, .any⟩,
   ⟨0x2512, 0x06, .u8, .ro, 32, .n 0, .any⟩,
   ⟨0x2512, 0x07, .u32, .ro, 32, .n 0, .any⟩,
   ⟨0x2513, 0x01, .u8, .ro, 0, .n 0, .any⟩,
   ⟨0x2513, 0x02, .t96, .ro, 0, .n 0, .any⟩,
   ⟨0x2513, 0x03, .u32, .ro, 0, .n 0, .any⟩,
   ⟨0x2513, 0x04, .u8, .ro, 0, .n 0, .any⟩,
   ⟨0x2513, 0x05, .u16, .ro, 0, .n 0, .any⟩,
   ⟨0x2514, 0x01, .domain, .ro, 32, .oct [], .dom 0 32768⟩,
   ⟨0x2518, 0x01, .bool, .rws 3, 0, .n 0, .iv [(0,1)]⟩,
   ⟨0x2518, 0x02, .u16, .rws 3, 0, .n 0, .iv [(0,0), (50,4000)]⟩,
   ⟨0x2518, 0x03, .u16, .rws 3, 0, .n 0, .any⟩,
   ⟨0x2518, 0x04, .u16, .rws 3, 0, .n 100, .iv [(20,1000)]⟩,
   ⟨0x2518, 0x05, .u16, .rws 3, 0, .n 60, .iv [(10,300)]⟩,
   ⟨0x2519, 0x01, .u32, .rws 3, 2048, .n 0xFFFFFFFF, .iv [(0,5243903), (4294967295,4294967295)]⟩,
   ⟨0x2519, 0x02, .u32, .rws 3, 2048, .n 0xFFFFFFFF, .iv [(0,5243903), (4294967295,4294967295)]⟩,
   ⟨0x2519, 0x03, .u32, .rws 3, 2048, .n 0, .any⟩,
   ⟨0x2519, 0x04, .u32, .rws 3, 2048, .n 0xFFFFFFFF, .any⟩,
   ⟨0x251A, 0x01, .t96, .ro, 0, .n 0, .any⟩,
   ⟨0x251A, 0x02, .u16, .ro, 0, .n 0, .any⟩,
   ⟨0x251A, 0x03, .u8, .ro, 0, .n 0, .any⟩,
   ⟨0x251A, 0x04, .u32, .ro, 16, .n 0xFFFFFFFF, .any⟩,
   ⟨0x251A, 0x05, .f32, .ro, 16, .n 0x00000000, .any⟩,
   ⟨0x251A, 0x06, .f32, .ro, 2048, .n 0x00000000, .any⟩,
   ⟨0x2530, 0x01, .bool, .rws 3, 16, .n 0, .iv [(0,1)]⟩,
   ⟨0x2530, 0x02, .f32, .rws 3, 16, .n 0x00000000, .any⟩,
   ⟨0x2530, 0x03, .f32, .rws 3, 16, .n 0x00000000, .any⟩]

/-- Objects of R308, part 2 of the 0x25xx range. -/
def objects25_2 : List ObjRow :=
  [⟨0x2530, 0x04, .u8, .rws 3, 16, .n 3, .iv [(1,100)]⟩,
   ⟨0x2530, 0x05, .u8, .rws 3, 16, .n 10, .iv [(1,100)]⟩,
   ⟨0x2531, 0x01, .u8, .ro, 16, .n 3, .any⟩,
   ⟨0x2531, 0x02, .f32, .ro, 16, .n 0x00000000, .any⟩,
   ⟨0x2531, 0x03, .f32, .ro, 16, .n 0x00000000, .any⟩,
   ⟨0x2531, 0x04, .f32, .ro, 16, .n 0x00000000, .any⟩,
   ⟨0x2531, 0x05, .t96, .ro, 16, .n 0, .any⟩,
   ⟨0x2540, 0x01, .u64, .ro, 0, .n 0, .any⟩,
   ⟨0x2540, 0x02, .u64, .ro, 0, .n 0, .any⟩,
   ⟨0x2540, 0x03, .u64, .ro, 0, .n 0, .any⟩,
   ⟨0x2540, 0x04, .u32, .ro, 0, .n 0, .any⟩,
   ⟨0x2540, 0x05, .u32, .ro, 0, .n 0, .any⟩,
   ⟨0x2540, 0x06, .u32, .ro, 0, .n 0, .any⟩,
   ⟨0x2540, 0x07, .u64, .ro, 0, .n 0, .any⟩,
   ⟨0x2540, 0x08, .u32, .ro, 0, .n 0, .any⟩,
   ⟨0x2540, 0x09, .u64, .ro, 0, .n 0, .any⟩,
   ⟨0x2540, 0x0A, .u32, .ro, 0, .n 0, .any⟩,
   ⟨0x2540, 0x0B, .bool, .ro, 0, .n 0, .any⟩,
   ⟨0x2550, 0x01, .cmd, .cmd 2, 0, .n 0, .any⟩,
   ⟨0x2550, 0x02, .cmd, .cmd 3, 0, .n 0, .any⟩]

/-- All objects of the 0x25xx range. -/
def objects25 : List ObjRow := objects25_0 ++ objects25_1 ++ objects25_2

/-- Objects of R340, part 0 of the 0x26xx range. -/
def objects26_0 : List ObjRow :=
  [⟨0x2600, 0x01, .bool, .rws 3, 0, .n 1, .iv [(0,1)]⟩,
   ⟨0x2601, 0x01, .u32, .rws 3, 20484, .n 0xFFFFFFFF, .iv [(0,5243903), (4294967295,4294967295)]⟩,
   ⟨0x2601, 0x02, .u32, .rws 3, 20484, .n 0xFFFFFFFF, .iv [(0,5243903), (4294967295,4294967295)]⟩,
   ⟨0x2601, 0x03, .u32, .rws 3, 20484, .n 0xFFFFFFFF, .iv [(0,5243903), (4294967295,4294967295)]⟩,
   ⟨0x2601, 0x04, .u32, .rws 3, 20484, .n 0, .any⟩,
   ⟨0x2601, 0x05, .u16, .rws 3, 20484, .n 0, .iv [(0,65535)]⟩,
   ⟨0x2602, 0x01, .u16, .rws 3, 131072, .n 0xFFFF, .iv [(0,20483), (65535,65535)]⟩,
   ⟨0x2602, 0x02, .u16, .rws 3, 131072, .n 0xFFFF, .iv [(0,20483)]⟩,
   ⟨0x2602, 0x03, .u8, .rws 3, 131072, .n 0, .iv [(0,15)]⟩,
   ⟨0x2602, 0x04, .u32, .rws 3, 131072, .n 0xFFFFFFFF, .iv [(0,5243903), (4294967295,4294967295)]⟩,
   ⟨0x2602, 0x05, .u8, .rws 3, 131072, .n 0, .iv [(0,15)]⟩,
   ⟨0x2602, 0x06, .u8, .rws 3, 131072, .n 0, .iv [(0,1)]⟩,
   ⟨0x2603, 0x01, .u16, .rws 3, 64, .n 0xFFFF, .iv [(0,20483), (65535,65535)]⟩,
   ⟨0x2603, 0x02, .u8, .rws 3, 64, .n 3, .iv [(1,255)]⟩,
   ⟨0x2603, 0x03, .f32, .rws 3, 64, .n 0x3DCCCCCD, .fiv 0x3BA3D70A 0x40A00000⟩,
   ⟨0x2603, 0x04, .u16, .rws 3, 64, .n 1, .iv [(1,20480)]⟩,
   ⟨0x2603, 0x05, .u8, .rws 3, 64, .n 3, .iv [(0,255)]⟩,
   ⟨0x2604, 0x01, .f32, .rws 3, 16, .n 0x3D4CCCCD, .fiv 0x3BA3D70A 0x40A00000⟩,
   ⟨0x2604, 0x02, .f32, .rws 3, 16, .n 0x3CA3D70A, .fiv 0x3A83126F 0x40A00000⟩,
   ⟨0x2604, 0x03, .u8, .rws 3, 16, .n 1, .iv [(1,255)]⟩,
   ⟨0x2604, 0x04, .u8, .rws 3, 16, .n 5, .iv [(1,255)]⟩,
   ⟨0x2610, 0x01, .u8, .ro, 131072, .n 4, .any⟩,
   ⟨0x2610, 0x02, .f32, .ro, 131072, .n 0x00000000, .any⟩,
   ⟨0x2611, 0x01, .u8, .ro, 20484, .n 3, .any⟩,
   ⟨0x2611, 0x02, .u16, .ro, 20484, .n 0, .any⟩,
   ⟨0x2612, 0x01, .u16, .ro, 64, .n 0, .any⟩,
   ⟨0x2612, 0x02, .u16, .ro, 64, .n 0, .any⟩,
   ⟨0x2612, 0x03, .f32, .ro, 64, .n 0x00000000, .any⟩,
   ⟨0x2612, 0x04, .u16, .ro, 64, .n 0, .any⟩,
   ⟨0x2612, 0x05, .u16, .ro, 64, .n 0, .any⟩]

/-- Objects of R340, part 1 of the 0x26xx range. -/
def objects26_1 : List ObjRow :=
  [⟨0x2613, 0x01, .u16, .ro, 256, .n 0, .any⟩,
   ⟨0x2613, 0x02, .u8, .ro, 256, .n 0, .any⟩,
   ⟨0x2613, 0x03, .u8, .ro, 256, .n 0, .any⟩,
   ⟨0x2613, 0x04, .u16, .ro, 256, .n 0, .any⟩,
   ⟨0x2613, 0x05, .f32, .ro, 256, .n 0x00000000, .any⟩,
   ⟨0x2613, 0x06, .f32, .ro, 256, .n 0x00000000, .any⟩,
   ⟨0x2613, 0x07, .t96, .ro, 256, .n 0, .any⟩,
   ⟨0x2613, 0x08, .octets, .ro, 256, .zeros 2561, .size 2561⟩,
   ⟨0x2613, 0x09, .u16, .ro, 256, .n 0, .any⟩,
   ⟨0x2613, 0x0A, .u32, .ro, 256, .n 0, .any⟩,
   ⟨0x2620, 0x01, .bool, .rws 3, 4, .n 0, .iv [(0,1)]⟩,
   ⟨0x2620, 0x02, .f32, .rws 3, 4, .n 0x00000000, .any⟩,
   ⟨0x2620, 0x03, .f32, .rws 3, 4, .n 0x3E4CCCCD, .fiv 0x3D4CCCCD 0x3F666666⟩,
   ⟨0x2620, 0x04, .f32, .rws 3, 4, .n 0x3F800000, .fiv 0x3D4CCCCD 0x41200000⟩,
   ⟨0x2620, 0x05, .u8, .rws 3, 4, .n 10, .iv [(2,50)]⟩,
   ⟨0x2620, 0x06, .u16, .rws 3, 4, .n 100, .iv [(0,10000)]⟩,
   ⟨0x2620, 0x07, .f32, .rws 3, 4, .n 0x41200000, .fiv 0x40000000 0x41F00000⟩,
   ⟨0x2620, 0x08, .f32, .rws 3, 4, .n 0xC0200000, .fiv 0xC1200000 0xBD4CCCCD⟩,
   ⟨0x2620, 0x09, .u16, .rws 3, 4, .n 500, .iv [(0,60000)]⟩,
   ⟨0x2620, 0x0A, .f32, .rws 3, 4, .n 0x40000000, .fiv 0x3D4CCCCD 0x41200000⟩,
   ⟨0x2620, 0x0B, .u16, .rws 3, 4, .n 500, .iv [(0,60000)]⟩,
   ⟨0x2620, 0x0C, .f32, .rws 3, 4, .n 0x3F4CCCCD, .fiv 0x3DCCCCCD 0x3F800000⟩,
   ⟨0x2620, 0x0D, .u16, .rws 3, 4, .n 2000, .iv [(0,60000)]⟩,
   ⟨0x2620, 0x0E, .f32, .rws 3, 4, .n 0x3F933333, .fiv 0x3F800000 0x40000000⟩,
   ⟨0x2620, 0x0F, .u16, .rws 3, 4, .n 500, .iv [(0,60000)]⟩,
   ⟨0x2620, 0x10, .u8, .rws 3, 4, .n 0x3F, .iv [(0,63)]⟩,
   ⟨0x2620, 0x11, .u16, .rws 3, 4, .n 200, .iv [(20,10000)]⟩,
   ⟨0x2621, 0x01, .u8, .ro, 4, .n 0, .any⟩,
   ⟨0x2621, 0x02, .f32, .ro, 4, .n 0x00000000, .any⟩,
   ⟨0x2621, 0x03, .f32, .ro, 4, .n 0x00000000, .any⟩]

/-- Objects of R340, part 2 of the 0x26xx range. -/
def objects26_2 : List ObjRow :=
  [⟨0x2621, 0x04, .f32, .ro, 4, .n 0x00000000, .any⟩,
   ⟨0x2621, 0x05, .f32, .ro, 4, .n 0x00000000, .any⟩,
   ⟨0x2621, 0x06, .f32, .ro, 4, .n 0x00000000, .any⟩,
   ⟨0x2621, 0x07, .u32, .ro, 4, .n 0, .any⟩,
   ⟨0x2621, 0x08, .bool, .ro, 4, .n 0, .any⟩,
   ⟨0x2630, 0x01, .u64, .ro, 0, .n 0, .any⟩,
   ⟨0x2630, 0x02, .u64, .ro, 0, .n 0, .any⟩,
   ⟨0x2630, 0x03, .u32, .ro, 0, .n 0, .any⟩,
   ⟨0x2630, 0x04, .u32, .ro, 0, .n 0, .any⟩,
   ⟨0x2630, 0x05, .u32, .ro, 0, .n 0, .any⟩,
   ⟨0x2630, 0x06, .u32, .ro, 0, .n 0, .any⟩,
   ⟨0x2630, 0x07, .u64, .ro, 0, .n 0, .any⟩,
   ⟨0x2630, 0x08, .u32, .ro, 0, .n 0, .any⟩,
   ⟨0x2630, 0x09, .bool, .ro, 0, .n 0, .any⟩,
   ⟨0x2630, 0x0A, .u32, .ro, 0, .n 0, .any⟩,
   ⟨0x2640, 0x01, .cmd, .cmd 2, 0, .n 0, .any⟩]

/-- All objects of the 0x26xx range. -/
def objects26 : List ObjRow := objects26_0 ++ objects26_1 ++ objects26_2

/-- Objects of R373, part 0 of the 0x27xx range. -/
def objects27_0 : List ObjRow :=
  [⟨0x2700, 0x01, .u8, .rws 3, 8, .n 0, .iv [(0,0), (1,1)]⟩,
   ⟨0x2700, 0x02, .u16, .rws 3, 0, .n 100, .iv [(0,10000)]⟩,
   ⟨0x2700, 0x03, .octets, .rws 3, 0, .zeros 6, .size 6⟩,
   ⟨0x2700, 0x04, .u16, .rws 3, 0, .n 0x88B5, .iv [(1536,65535)]⟩,
   ⟨0x2700, 0x05, .u8, .rws 3, 0, .n 0x30, .iv [(0,63)]⟩,
   ⟨0x2700, 0x06, .u8, .rws 3, 0, .n 2, .iv [(0,15)]⟩,
   ⟨0x2700, 0x07, .u32, .rws 3, 0, .n 1000, .iv [(100,100000)]⟩,
   ⟨0x2700, 0x08, .u16, .rws 3, 0, .n 1000, .iv [(100,60000)]⟩,
   ⟨0x2700, 0x09, .u16, .rws 3, 0, .n 2000, .iv [(10,20000)]⟩,
   ⟨0x2700, 0x0A, .u16, .rws 3, 0, .n 256, .iv [(1,4096)]⟩,
   ⟨0x2700, 0x0B, .u16, .rws 3, 0, .n 0, .any⟩,
   ⟨0x2701, 0x01, .bool, .rws 3, 4096, .n 0, .iv [(0,1)]⟩,
   ⟨0x2701, 0x02, .u32, .rws 3, 4096, .n 0, .combiner⟩,
   ⟨0x2701, 0x03, .u8, .rws 3, 4096, .n 0, .iv [(0,63), (255,255)]⟩,
   ⟨0x2701, 0x04, .bool, .rws 3, 4096, .n 0, .iv [(0,1)]⟩,
   ⟨0x2701, 0x05, .u16, .rws 3, 4096, .n 1, .iv [(0,65535)]⟩,
   ⟨0x2701, 0x06, .u16, .rws 3, 4096, .n 1, .iv [(0,65535)]⟩,
   ⟨0x2701, 0x07, .u8, .rws 3, 4096, .n 0x0, .iv [(0,255)]⟩,
   ⟨0x2701, 0x08, .bool, .rws 3, 4096, .n 0, .iv [(0,1)]⟩,
   ⟨0x2701, 0x09, .bool, .rws 3, 4096, .n 0, .iv [(0,1)]⟩,
   ⟨0x2701, 0x0A, .u8, .rws 3, 4096, .n 0xFF, .iv [(0,15), (255,255)]⟩,
   ⟨0x2701, 0x0B, .u8, .rws 3, 4096, .n 0, .iv [(0,31)]⟩,
   ⟨0x2701, 0x0C, .bool, .rws 3, 4096, .n 0, .iv [(0,1)]⟩,
   ⟨0x2701, 0x0D, .u8, .rws 3, 4096, .n 0, .iv [(0,7)]⟩,
   ⟨0x2701, 0x0E, .string, .rws 3, 4096, .oct [], .chars 0 32⟩,
   ⟨0x2702, 0x01, .u8, .rws 3, 32768, .n 0, .iv [(0,15)]⟩,
   ⟨0x2702, 0x02, .u32, .rws 3, 32768, .n 0, .any⟩,
   ⟨0x2702, 0x03, .u16, .rws 3, 32768, .n 0, .any⟩,
   ⟨0x2702, 0x04, .u8, .rws 3, 32768, .n 0, .iv [(0,6)]⟩,
   ⟨0x2702, 0x05, .f32, .rws 3, 32768, .n 0x00000000, .any⟩]

/-- Objects of R373, part 1 of the 0x27xx range. -/
def objects27_1 : List ObjRow :=
  [⟨0x2702, 0x06, .u32, .rws 3, 32768, .n 0, .any⟩,
   ⟨0x2703, 0x01, .u8, .rws 3, 16, .n 0, .iv [(0,0), (1,1)]⟩,
   ⟨0x2703, 0x02, .u16, .rws 3, 16, .n 0x0, .iv [(0,16383)]⟩,
   ⟨0x2703, 0x03, .octets, .rws 3, 16, .oct [0x01,0x0C,0xCD,0x01,0x00,0x00], .size 6⟩,
   ⟨0x2703, 0x04, .string, .rws 3, 16, .oct [], .chars 1 129⟩,
   ⟨0x2703, 0x05, .string, .rws 3, 16, .oct [], .chars 1 129⟩,
   ⟨0x2703, 0x06, .string, .rws 3, 16, .oct [], .chars 1 129⟩,
   ⟨0x2703, 0x07, .u32, .rws 3, 16, .n 1, .iv [(1,4294967295)]⟩,
   ⟨0x2703, 0x08, .u16, .rws 3, 16, .n 2, .iv [(1,1000)]⟩,
   ⟨0x2703, 0x09, .u16, .rws 3, 16, .n 1000, .iv [(100,60000)]⟩,
   ⟨0x2703, 0x0A, .u8, .rws 3, 16, .n 0x30, .iv [(0,63)]⟩,
   ⟨0x2703, 0x0B, .bool, .rws 3, 16, .n 0, .iv [(0,1)]⟩,
   ⟨0x2710, 0x01, .u8, .ro, 4096, .n 0, .any⟩,
   ⟨0x2710, 0x02, .u32, .ro, 4096, .n 0, .any⟩,
   ⟨0x2710, 0x03, .t96, .ro, 4096, .n 0, .any⟩,
   ⟨0x2710, 0x04, .t96, .ro, 4096, .n 0, .any⟩,
   ⟨0x2710, 0x05, .u8, .ro, 4096, .n 0, .any⟩,
   ⟨0x2710, 0x06, .u8, .ro, 4096, .n 0, .any⟩,
   ⟨0x2710, 0x07, .u8, .ro, 4096, .n 0, .any⟩,
   ⟨0x2711, 0x01, .u8, .ro, 8, .n 0, .any⟩,
   ⟨0x2711, 0x02, .u8, .ro, 8, .n 0, .any⟩,
   ⟨0x2712, 0x01, .u32, .ro, 16, .n 0, .any⟩,
   ⟨0x2712, 0x02, .u32, .ro, 16, .n 0, .any⟩,
   ⟨0x2720, 0x01, .u32, .ro, 0, .n 0, .any⟩,
   ⟨0x2720, 0x02, .u32, .ro, 0, .n 0, .any⟩,
   ⟨0x2720, 0x03, .u32, .ro, 0, .n 0, .any⟩,
   ⟨0x2720, 0x04, .u32, .ro, 0, .n 0, .any⟩,
   ⟨0x2720, 0x05, .u64, .ro, 0, .n 0, .any⟩,
   ⟨0x2720, 0x06, .u32, .ro, 0, .n 0, .any⟩,
   ⟨0x2720, 0x07, .u64, .ro, 0, .n 0, .any⟩]

/-- Objects of R373, part 2 of the 0x27xx range. -/
def objects27_2 : List ObjRow :=
  [⟨0x2720, 0x08, .u64, .ro, 0, .n 0, .any⟩,
   ⟨0x2720, 0x09, .u32, .ro, 0, .n 0, .any⟩,
   ⟨0x2720, 0x0A, .u32, .ro, 0, .n 0, .any⟩,
   ⟨0x2720, 0x0B, .u32, .ro, 0, .n 0, .any⟩,
   ⟨0x2720, 0x0C, .u32, .ro, 0, .n 0, .any⟩,
   ⟨0x2720, 0x0D, .u32, .ro, 0, .n 0, .any⟩,
   ⟨0x2720, 0x0E, .bool, .ro, 0, .n 0, .any⟩,
   ⟨0x2730, 0x01, .cmd, .cmd 2, 4096, .n 0, .any⟩,
   ⟨0x2730, 0x02, .cmd, .cmd 2, 0, .n 0, .any⟩,
   ⟨0x2730, 0x03, .cmd, .cmd 3, 8, .n 0, .any⟩]

/-- All objects of the 0x27xx range. -/
def objects27 : List ObjRow := objects27_0 ++ objects27_1 ++ objects27_2

/-- Objects of R398, part 0 of the 0x28xx range. -/
def objects28_0 : List ObjRow :=
  [⟨0x2800, 0x01, .bool, .rws 3, 0, .n 1, .iv [(0,1)]⟩,
   ⟨0x2800, 0x02, .u16, .rws 3, 0, .n 4712, .iv [(1,65535)]⟩,
   ⟨0x2801, 0x01, .u8, .rws 3, 64, .n 0, .iv [(0,0), (1,1), (2,2)]⟩,
   ⟨0x2801, 0x02, .u8, .rws 3, 64, .n 0, .iv [(0,2)]⟩,
   ⟨0x2801, 0x03, .u16, .rws 3, 64, .n 0, .iv [(1,65534)]⟩,
   ⟨0x2801, 0x04, .u16, .rws 3, 64, .n 0, .iv [(0,63), (20480,20483)]⟩,
   ⟨0x2801, 0x05, .i16, .rws 3, 64, .n 50, .rates (false)⟩,
   ⟨0x2801, 0x06, .string, .rws 3, 64, .oct [], .chars 1 16⟩,
   ⟨0x2801, 0x07, .u32, .rws 3, 64, .n 0xFFFFFFFF, .iv [(0,5243903), (4294967295,4294967295)]⟩,
   ⟨0x2801, 0x08, .u32, .rws 3, 64, .n 0xFFFFFFFF, .iv [(0,5243903), (4294967295,4294967295)]⟩,
   ⟨0x2801, 0x09, .u32, .rws 3, 64, .n 1000000, .iv [(1,16777215)]⟩,
   ⟨0x2801, 0x0A, .string, .rws 3, 64, .oct [], .chars 1 64⟩,
   ⟨0x2801, 0x0B, .u16, .rws 3, 64, .n 0, .any⟩,
   ⟨0x2802, 0x01, .u32, .rws 3, 262144, .n 0xFFFFFFFF, .iv [(0,5243903), (4294967295,4294967295)]⟩,
   ⟨0x2803, 0x01, .u8, .rws 3, 256, .n 0xFF, .iv [(0,63), (255,255)]⟩,
   ⟨0x2803, 0x02, .u8, .rws 3, 256, .n 0, .iv [(0,0), (1,1), (2,2)]⟩,
   ⟨0x2803, 0x03, .octets, .rws 3, 256, .zeros 16, .size 16⟩,
   ⟨0x2803, 0x04, .u16, .rws 3, 256, .n 4713, .iv [(1,65535)]⟩,
   ⟨0x2803, 0x05, .u8, .rws 3, 256, .n 0, .iv [(0,0), (1,1)]⟩,
   ⟨0x2804, 0x01, .u8, .ro, 256, .n 0, .any⟩,
   ⟨0x2804, 0x02, .u64, .ro, 256, .n 0, .any⟩,
   ⟨0x2805, 0x01, .u16, .ro, 64, .n 0, .any⟩,
   ⟨0x2805, 0x02, .u32, .ro, 64, .n 0, .any⟩,
   ⟨0x2805, 0x03, .domain, .ro, 64, .oct [], .any⟩,
   ⟨0x2810, 0x01, .bool, .rws 3, 0, .n 0, .iv [(0,1)]⟩,
   ⟨0x2810, 0x02, .u64, .rws 3, 0, .n 0xFFFFFFFFFFFFFFFF, .any⟩,
   ⟨0x2810, 0x03, .bool, .rws 3, 0, .n 1, .iv [(0,1)]⟩,
   ⟨0x2820, 0x01, .bool, .rws 3, 0, .n 1, .iv [(0,1)]⟩,
   ⟨0x2820, 0x02, .u16, .rws 3, 0, .n 20000, .iv [(1000,20000)]⟩,
   ⟨0x2820, 0x03, .u16, .rws 3, 0, .n 2000, .iv [(0,10000)]⟩]

/-- Objects of R398, part 1 of the 0x28xx range. -/
def objects28_1 : List ObjRow :=
  [⟨0x2820, 0x04, .bool, .rws 3, 0, .n 0, .iv [(0,1)]⟩,
   ⟨0x2820, 0x05, .u16, .rws 3, 64, .n 0xFFFF, .iv [(0,4095), (65535,65535)]⟩,
   ⟨0x2821, 0x01, .u32, .ro, 0, .n 0, .any⟩,
   ⟨0x2821, 0x02, .u8, .ro, 0, .n 0, .any⟩,
   ⟨0x2821, 0x03, .t96, .ro, 0, .n 0, .any⟩,
   ⟨0x2821, 0x04, .u16, .ro, 0, .n 0xFFFF, .any⟩,
   ⟨0x2821, 0x05, .u32, .ro, 64, .n 0, .any⟩,
   ⟨0x2822, 0x01, .domain, .ro, 0, .oct [], .any⟩,
   ⟨0x2822, 0x02, .u64, .ro, 0, .n 0, .any⟩,
   ⟨0x2830, 0x01, .cmd, .cmd 2, 0, .n 0, .any⟩,
   ⟨0x2830, 0x02, .cmd, .cmd 2, 0, .n 0, .any⟩,
   ⟨0x2830, 0x03, .cmd, .cmd 2, 0, .n 0, .any⟩,
   ⟨0x2830, 0x04, .cmd, .cmd 2, 0, .n 0, .any⟩,
   ⟨0x2840, 0x01, .u64, .ro, 0, .n 0, .any⟩,
   ⟨0x2840, 0x02, .u32, .ro, 0, .n 0, .any⟩,
   ⟨0x2840, 0x03, .u32, .ro, 0, .n 0, .any⟩,
   ⟨0x2840, 0x04, .u32, .ro, 0, .n 0, .any⟩,
   ⟨0x2840, 0x05, .u64, .ro, 0, .n 0, .any⟩,
   ⟨0x2840, 0x06, .u64, .ro, 0, .n 0, .any⟩,
   ⟨0x2840, 0x07, .u32, .ro, 0, .n 0, .any⟩,
   ⟨0x2840, 0x08, .u64, .ro, 0, .n 0, .any⟩,
   ⟨0x2840, 0x09, .u64, .ro, 0, .n 0, .any⟩,
   ⟨0x2840, 0x0A, .u32, .ro, 0, .n 0, .any⟩,
   ⟨0x2840, 0x0B, .u32, .ro, 0, .n 0, .any⟩,
   ⟨0x2840, 0x0C, .u32, .ro, 0, .n 0, .any⟩,
   ⟨0x2840, 0x0D, .u32, .ro, 0, .n 0, .any⟩,
   ⟨0x2840, 0x0E, .bool, .ro, 0, .n 0, .any⟩]

/-- All objects of the 0x28xx range. -/
def objects28 : List ObjRow := objects28_0 ++ objects28_1

/-- Objects of R437, part 0 of the 0x29xx range. -/
def objects29_0 : List ObjRow :=
  [⟨0x2900, 0x01, .bool, .rws 3, 0, .n 1, .iv [(0,1)]⟩,
   ⟨0x2901, 0x01, .bool, .rw 2, 4, .n 0, .iv [(0,1)]⟩,
   ⟨0x2901, 0x02, .u8, .rws 3, 4, .n 0, .iv [(0,0), (1,1)]⟩,
   ⟨0x2901, 0x03, .f32, .rws 3, 4, .n 0x00000000, .any⟩,
   ⟨0x2901, 0x04, .f32, .rws 3, 4, .n 0x00000000, .any⟩,
   ⟨0x2901, 0x05, .u32, .rws 3, 4, .n 20000, .iv [(1000,1000000)]⟩,
   ⟨0x2901, 0x06, .u32, .rws 3, 4, .n 60000, .any⟩,
   ⟨0x2901, 0x07, .i32, .rws 3, 4, .n 0, .any⟩,
   ⟨0x2901, 0x08, .i32, .rws 3, 4, .n 0, .any⟩,
   ⟨0x2902, 0x01, .f32, .rws 3, 24, .n 0x3F800000, .fnonzero⟩,
   ⟨0x2902, 0x02, .f32, .rws 3, 24, .n 0x00000000, .any⟩,
   ⟨0x2902, 0x03, .i32, .rws 3, 24, .n 0, .any⟩,
   ⟨0x2902, 0x04, .u16, .rws 3, 24, .n 9500, .iv [(1000,10000)]⟩,
   ⟨0x2902, 0x05, .f32, .rws 3, 24, .n 0x3DCCCCCD, .fiv 0x3A83126F 0x42C80000⟩,
   ⟨0x2904, 0x01, .octets, .rws 3, 4, .zeros 6, .size 6⟩,
   ⟨0x2904, 0x02, .u16, .rws 3, 4, .n 0x4000, .iv [(16384,32767)]⟩,
   ⟨0x2904, 0x03, .string, .rws 3, 4, .oct [], .chars 1 64⟩,
   ⟨0x2904, 0x04, .u8, .rws 3, 4, .n 0x3, .iv [(0,63)]⟩,
   ⟨0x2904, 0x05, .f32, .rws 3, 4, .n 0x3F800000, .fpos⟩,
   ⟨0x2904, 0x06, .i32, .rws 3, 4, .n 0, .any⟩,
   ⟨0x2904, 0x07, .u16, .rws 3, 4, .n 2000, .iv [(100,20000)]⟩,
   ⟨0x2906, 0x01, .domain, .rw 2, 0, .manifest, .any⟩,
   ⟨0x2906, 0x02, .domain, .rw 2, 0, .manifest, .any⟩,
   ⟨0x2910, 0x01, .bool, .rw 2, 4, .n 0, .iv [(0,1)]⟩,
   ⟨0x2910, 0x02, .u8, .rws 3, 4, .n 0, .iv [(0,63)]⟩,
   ⟨0x2910, 0x03, .u8, .rws 3, 4, .n 0, .iv [(0,0), (1,1)]⟩,
   ⟨0x2910, 0x04, .u16, .rws 3, 4, .n 0, .iv [(1,65534)]⟩,
   ⟨0x2910, 0x05, .string, .rws 3, 4, .oct [], .chars 1 16⟩,
   ⟨0x2910, 0x06, .f32, .rws 3, 4, .n 0x3DCCCCCD, .fiv 0x3CA3D70A 0x3F666666⟩,
   ⟨0x2911, 0x01, .u8, .ro, 4, .n 0, .any⟩]

/-- Objects of R437, part 1 of the 0x29xx range. -/
def objects29_1 : List ObjRow :=
  [⟨0x2911, 0x02, .t96, .ro, 4, .n 0, .any⟩,
   ⟨0x2911, 0x03, .f32, .ro, 4, .n 0x00000000, .any⟩,
   ⟨0x2911, 0x04, .f32, .ro, 4, .n 0x00000000, .any⟩,
   ⟨0x2911, 0x05, .f32, .ro, 4, .n 0x00000000, .any⟩,
   ⟨0x2912, 0x01, .u8, .ro, 4, .n 0, .any⟩,
   ⟨0x2920, 0x01, .f32, .ro, 24, .n 0x00000000, .any⟩,
   ⟨0x2920, 0x02, .f32, .ro, 24, .n 0x7FC00000, .any⟩,
   ⟨0x2920, 0x03, .f32, .ro, 24, .n 0x7FC00000, .any⟩,
   ⟨0x2920, 0x04, .f32, .ro, 24, .n 0x00000000, .any⟩,
   ⟨0x2920, 0x05, .u8, .ro, 24, .n 0, .any⟩,
   ⟨0x2920, 0x06, .u32, .ro, 24, .n 0, .any⟩,
   ⟨0x2921, 0x01, .u8, .ro, 0, .n 0, .any⟩,
   ⟨0x2921, 0x02, .u16, .ro, 0, .n 0, .any⟩,
   ⟨0x2921, 0x03, .u32, .ro, 0, .n 145239258, .any⟩,
   ⟨0x2921, 0x04, .u64, .ro, 0, .n 1707739258, .any⟩,
   ⟨0x2921, 0x05, .bool, .ro, 0, .n 0, .any⟩,
   ⟨0x2922, 0x01, .u8, .ro, 4, .n 0, .any⟩,
   ⟨0x2922, 0x02, .u64, .ro, 4, .n 0, .any⟩,
   ⟨0x2922, 0x03, .u32, .ro, 4, .n 0, .any⟩,
   ⟨0x2922, 0x04, .u64, .ro, 4, .n 0, .any⟩,
   ⟨0x2922, 0x05, .u32, .ro, 4, .n 0, .any⟩,
   ⟨0x2930, 0x01, .cmd, .cmd 2, 0, .n 0, .any⟩,
   ⟨0x2930, 0x02, .u16, .cmd 3, 0, .n 0, .iv [(1,1024)]⟩,
   ⟨0x2940, 0x01, .u32, .ro, 0, .n 0, .any⟩,
   ⟨0x2940, 0x02, .u32, .ro, 0, .n 0, .any⟩,
   ⟨0x2940, 0x03, .u64, .ro, 0, .n 0, .any⟩,
   ⟨0x2940, 0x04, .u32, .ro, 0, .n 0, .any⟩,
   ⟨0x2940, 0x05, .u32, .ro, 0, .n 0, .any⟩]

/-- All objects of the 0x29xx range. -/
def objects29 : List ObjRow := objects29_0 ++ objects29_1

/-- Objects of R471, part 0 of the 0x2Axx range. -/
def objects2A_0 : List ObjRow :=
  [⟨0x2A00, 0x01, .bool, .rw 2, 0, .n 0, .iv [(0,1)]⟩,
   ⟨0x2A00, 0x02, .u32, .rws 3, 0, .n 8000, .iv [(0,163840)]⟩,
   ⟨0x2A00, 0x03, .u32, .rws 3, 0, .n 40000, .iv [(1,4800000)]⟩,
   ⟨0x2A00, 0x04, .bool, .rws 3, 0, .n 0, .iv [(0,1)]⟩,
   ⟨0x2A00, 0x05, .u32, .rws 3, 0, .n 160000, .any⟩,
   ⟨0x2A00, 0x06, .u8, .rws 3, 0, .n 0, .iv [(0,0), (1,1)]⟩,
   ⟨0x2A00, 0x07, .bool, .rws 3, 0, .n 0, .iv [(0,1)]⟩,
   ⟨0x2A01, 0x01, .u8, .ro, 0, .n 0, .any⟩,
   ⟨0x2A01, 0x02, .u8, .ro, 0, .n 0, .any⟩,
   ⟨0x2A01, 0x03, .u32, .ro, 0, .n 0, .any⟩,
   ⟨0x2A01, 0x04, .u32, .ro, 0, .n 1, .any⟩,
   ⟨0x2A01, 0x05, .u32, .ro, 0, .n 536870912, .any⟩,
   ⟨0x2A02, 0x01, .u8, .rws 3, 32, .n 0, .iv [(0,7)]⟩,
   ⟨0x2A02, 0x02, .u32, .rws 3, 32, .n 0, .any⟩,
   ⟨0x2A02, 0x03, .u8, .rws 3, 32, .n 0, .any⟩,
   ⟨0x2A02, 0x04, .u8, .rws 3, 32, .n 0, .iv [(0,0), (1,1), (2,2)]⟩,
   ⟨0x2A02, 0x05, .f32, .rws 3, 32, .n 0x00000000, .any⟩,
   ⟨0x2A02, 0x06, .f32, .rws 3, 32, .n 0x00000000, .fnonneg⟩,
   ⟨0x2A02, 0x07, .bool, .rws 3, 32, .n 0, .iv [(0,1)]⟩,
   ⟨0x2A10, 0x01, .bool, .rws 3, 0, .n 0, .iv [(0,1)]⟩,
   ⟨0x2A10, 0x02, .u8, .rws 3, 0, .n 0, .iv [(0,0), (1,1)]⟩,
   ⟨0x2A10, 0x03, .u8, .rws 3, 0, .n 0, .iv [(0,0), (1,1)]⟩,
   ⟨0x2A10, 0x04, .bool, .rws 3, 0, .n 1, .iv [(0,1)]⟩,
   ⟨0x2A10, 0x05, .u32, .rws 3, 0, .n 1000, .iv [(0,100000)]⟩,
   ⟨0x2A10, 0x06, .i32, .rws 3, 0, .n 0, .any⟩,
   ⟨0x2A11, 0x01, .u8, .ro, 0, .n 0, .any⟩,
   ⟨0x2A11, 0x02, .u8, .ro, 0, .n 0xFF, .any⟩,
   ⟨0x2A11, 0x03, .u8, .ro, 0, .n 0, .any⟩,
   ⟨0x2A11, 0x04, .u32, .ro, 16, .n 0, .any⟩,
   ⟨0x2A11, 0x05, .u32, .ro, 0, .n 0, .any⟩]

/-- Objects of R471, part 1 of the 0x2Axx range. -/
def objects2A_1 : List ObjRow :=
  [⟨0x2A20, 0x01, .domain, .ro, 16, .oct [], .any⟩,
   ⟨0x2A20, 0x02, .u32, .ro, 16, .n 0, .any⟩,
   ⟨0x2A20, 0x03, .u32, .ro, 16, .n 0, .any⟩,
   ⟨0x2A20, 0x04, .u8, .ro, 16, .n 0, .any⟩,
   ⟨0x2A30, 0x01, .u8, .cmd 2, 0, .n 0, .iv [(0,1)]⟩,
   ⟨0x2A30, 0x02, .cmd, .cmd 2, 16, .n 0, .any⟩,
   ⟨0x2A30, 0x03, .cmd, .cmd 2, 16, .n 0, .any⟩,
   ⟨0x2A30, 0x04, .cmd, .cmd 3, 0, .n 0, .any⟩,
   ⟨0x2A30, 0x05, .cmd, .cmd 2, 0, .n 0, .any⟩,
   ⟨0x2A40, 0x01, .u32, .ro, 0, .n 0, .any⟩,
   ⟨0x2A40, 0x02, .u32, .ro, 0, .n 0, .any⟩,
   ⟨0x2A40, 0x03, .u32, .ro, 0, .n 0, .any⟩,
   ⟨0x2A40, 0x04, .u32, .ro, 0, .n 0, .any⟩,
   ⟨0x2A40, 0x05, .u32, .ro, 0, .n 0, .any⟩,
   ⟨0x2A40, 0x06, .u32, .ro, 0, .n 0, .any⟩,
   ⟨0x2A40, 0x07, .u32, .ro, 0, .n 0, .any⟩,
   ⟨0x2A40, 0x08, .u32, .ro, 0, .n 0, .any⟩,
   ⟨0x2A40, 0x09, .u32, .ro, 0, .n 0, .any⟩,
   ⟨0x2A40, 0x0A, .u32, .ro, 0, .n 0, .any⟩,
   ⟨0x2A40, 0x0B, .bool, .ro, 0, .n 0, .any⟩,
   ⟨0x2A40, 0x0C, .u32, .ro, 0, .n 0, .any⟩,
   ⟨0x2A40, 0x0D, .u32, .ro, 0, .n 0, .any⟩]

/-- All objects of the 0x2Axx range. -/
def objects2A : List ObjRow := objects2A_0 ++ objects2A_1

/-- Objects of R496, part 0 of the 0x2Bxx range. -/
def objects2B_0 : List ObjRow :=
  [⟨0x2B00, 0x02, .u8, .rws 3, 0, .n 15, .iv [(1,60)]⟩,
   ⟨0x2B00, 0x03, .u16, .rws 3, 0, .n 200, .iv [(10,10000)]⟩,
   ⟨0x2B00, 0x04, .u16, .rws 3, 0, .n 10, .iv [(1,1000)]⟩,
   ⟨0x2B00, 0x05, .u8, .rws 3, 0, .n 3, .iv [(2,60)]⟩,
   ⟨0x2B01, 0x01, .bool, .rws 3, 4, .n 0, .iv [(0,1)]⟩,
   ⟨0x2B01, 0x02, .bool, .rws 3, 4, .n 0, .iv [(0,1)]⟩,
   ⟨0x2B02, 0x01, .u8, .rws 3, 24, .n 0xFF, .iv [(0,15), (255,255)]⟩,
   ⟨0x2B02, 0x02, .f32, .rws 3, 24, .n 0x41B80000, .fiv 0xC2200000 0x42FA0000⟩,
   ⟨0x2B02, 0x03, .u8, .rws 3, 24, .n 0, .iv [(0,0), (1,1)]⟩,
   ⟨0x2B03, 0x01, .f32, .rws 3, 384, .manifest, .fiv 0xC2200000 0x42FA0000⟩,
   ⟨0x2B03, 0x02, .f32, .rws 3, 384, .n 0x00000000, .fiv 0xC1200000 0x41200000⟩,
   ⟨0x2B03, 0x03, .f32, .rws 3, 384, .n 0x00000000, .fiv 0xC1200000 0x41200000⟩,
   ⟨0x2B10, 0x01, .u64, .ro, 128, .n 0, .any⟩,
   ⟨0x2B10, 0x02, .u32, .ro, 128, .n 0, .any⟩,
   ⟨0x2B10, 0x03, .u8, .ro, 128, .n 0, .any⟩,
   ⟨0x2B10, 0x04, .bool, .ro, 128, .n 0, .any⟩,
   ⟨0x2B11, 0x01, .u64, .ro, 128, .n 0, .any⟩,
   ⟨0x2B11, 0x02, .t96, .ro, 0, .n 0, .any⟩,
   ⟨0x2B12, 0x01, .octets, .ro, 384, .zeros 80, .size 80⟩,
   ⟨0x2B12, 0x02, .u32, .ro, 4, .n 0, .any⟩,
   ⟨0x2B13, 0x01, .f64, .ro, 32, .n 0x0000000000000000, .any⟩,
   ⟨0x2B13, 0x02, .t96, .ro, 32, .n 0, .any⟩,
   ⟨0x2B20, 0x01, .u8, .ro, 4, .n 0, .any⟩,
   ⟨0x2B20, 0x02, .f32, .ro, 24, .n 0, .any⟩,
   ⟨0x2B20, 0x03, .f32, .ro, 24, .n 0x00000000, .any⟩,
   ⟨0x2B20, 0x04, .f32, .ro, 24, .n 0x00000000, .any⟩,
   ⟨0x2B20, 0x05, .f32, .ro, 4, .n 0x00000000, .any⟩,
   ⟨0x2B21, 0x01, .u64, .ro, 4, .n 0, .any⟩,
   ⟨0x2B21, 0x02, .u32, .ro, 0, .n 0, .any⟩,
   ⟨0x2B21, 0x03, .u16, .ro, 4, .n 0, .any⟩]

/-- Objects of R496, part 1 of the 0x2Bxx range. -/
def objects2B_1 : List ObjRow :=
  [⟨0x2B21, 0x04, .u32, .ro, 0, .n 0, .any⟩,
   ⟨0x2B21, 0x05, .bool, .ro, 0, .n 0, .any⟩,
   ⟨0x2B30, 0x01, .cmd, .cmd 2, 0, .n 0, .any⟩,
   ⟨0x2B30, 0x02, .cmd, .cmd 3, 4, .n 0, .any⟩,
   ⟨0x2B30, 0x03, .cmd, .cmd 3, 4, .n 0, .any⟩,
   ⟨0x2B30, 0x04, .cmd, .cmd 3, 4, .n 0, .any⟩,
   ⟨0x2B30, 0x05, .cmd, .cmd 2, 0, .n 0, .any⟩]

/-- All objects of the 0x2Bxx range. -/
def objects2B : List ObjRow := objects2B_0 ++ objects2B_1

/-- Objects of R514, part 0 of the 0x2Cxx range. -/
def objects2C_0 : List ObjRow :=
  [⟨0x2C00, 0x01, .u16, .ro, 0, .n 0, .any⟩,
   ⟨0x2C00, 0x02, .u16, .ro, 0, .n 0, .any⟩,
   ⟨0x2C00, 0x03, .bool, .ro, 0, .n 0, .any⟩,
   ⟨0x2C01, 0x01, .u8, .rws 3, 4096, .n 0, .iv [(0,11)]⟩,
   ⟨0x2C01, 0x02, .u8, .rws 3, 4096, .n 0, .iv [(0,15)]⟩,
   ⟨0x2C01, 0x03, .u8, .rws 3, 4096, .n 0, .iv [(0,0), (1,1)]⟩,
   ⟨0x2C01, 0x04, .u32, .rws 3, 4096, .n 16, .any⟩,
   ⟨0x2C01, 0x05, .u32, .rws 3, 4096, .n 0, .any⟩,
   ⟨0x2C01, 0x06, .u16, .rws 3, 4096, .n 0xFFFF, .any⟩,
   ⟨0x2C01, 0x0A, .bool, .rw 2, 4096, .n 0, .iv [(0,1)]⟩,
   ⟨0x2C01, 0x0B, .f32, .rws 3, 4096, .n 0x00000000, .any⟩,
   ⟨0x2C01, 0x0C, .u16, .rws 3, 4096, .n 50, .iv [(1,8192)]⟩,
   ⟨0x2C01, 0x0D, .u8, .rws 3, 4096, .n 0, .iv [(0,0), (1,1), (2,2), (3,3)]⟩,
   ⟨0x2C01, 0x0E, .bool, .rws 3, 4096, .n 0, .iv [(0,1)]⟩,
   ⟨0x2C02, 0x01, .u32, .rws 3, 32768, .n 0xFFFFFFFF, .iv [(0,5243903), (4294967295,4294967295)]⟩,
   ⟨0x2C02, 0x02, .f32, .rws 3, 32768, .n 0x3F800000, .any⟩,
   ⟨0x2C02, 0x03, .u8, .rws 3, 32768, .n 0, .iv [(0,0), (1,1), (2,2), (3,3)]⟩,
   ⟨0x2C10, 0x01, .u64, .ro, 4096, .n 0, .any⟩,
   ⟨0x2C10, 0x02, .u32, .ro, 4096, .n 0, .any⟩,
   ⟨0x2C10, 0x03, .u32, .ro, 4096, .n 0, .any⟩,
   ⟨0x2C10, 0x04, .u32, .ro, 4096, .n 0, .any⟩,
   ⟨0x2C10, 0x05, .t96, .ro, 4096, .n 0, .any⟩,
   ⟨0x2C10, 0x06, .u8, .ro, 4096, .n 0, .any⟩,
   ⟨0x2C10, 0x07, .u32, .ro, 4096, .n 0, .any⟩,
   ⟨0x2C10, 0x08, .u32, .ro, 4096, .n 0, .any⟩,
   ⟨0x2C11, 0x01, .u8, .ro, 16, .n 0, .any⟩,
   ⟨0x2C11, 0x02, .u16, .ro, 16, .n 0xFFFF, .any⟩,
   ⟨0x2C11, 0x03, .u16, .ro, 16, .n 0, .any⟩,
   ⟨0x2C20, 0x01, .f32, .ro, 4096, .n 0x7FC00000, .any⟩,
   ⟨0x2C20, 0x02, .u8, .ro, 4096, .n 0, .any⟩]

/-- Objects of R514, part 1 of the 0x2Cxx range. -/
def objects2C_1 : List ObjRow :=
  [⟨0x2C20, 0x03, .t96, .ro, 4096, .n 0, .any⟩,
   ⟨0x2C30, 0x01, .cmd, .cmd 2, 0, .n 0, .any⟩,
   ⟨0x2C30, 0x02, .cmd, .cmd 2, 4096, .n 0, .any⟩]

/-- All objects of the 0x2Cxx range. -/
def objects2C : List ObjRow := objects2C_0 ++ objects2C_1

/-- Objects of R573, part 0 of the 0x2Dxx range. -/
def objects2D_0 : List ObjRow :=
  [⟨0x2D00, 0x01, .u16, .ro, 0, .n 0x1F6E, .any⟩,
   ⟨0x2D00, 0x02, .u16, .ro, 0, .n 0x8640, .any⟩,
   ⟨0x2D00, 0x03, .u16, .rws 3, 0, .n 0x0, .any⟩,
   ⟨0x2D00, 0x04, .u8, .ro, 0, .n 0, .any⟩,
   ⟨0x2D00, 0x05, .u8, .ro, 0, .n 0, .any⟩,
   ⟨0x2D01, 0x01, .u32, .rws 3, 0, .n 65536, .iv [(4096,1048576)]⟩,
   ⟨0x2D01, 0x02, .u16, .rws 3, 0, .n 1000, .iv [(100,60000)]⟩,
   ⟨0x2D10, 0x01, .u16, .ro, 8, .n 0, .any⟩,
   ⟨0x2D10, 0x02, .u64, .ro, 8, .n 0, .any⟩,
   ⟨0x2D10, 0x03, .u32, .ro, 8, .n 0, .any⟩,
   ⟨0x2D10, 0x04, .u32, .ro, 8, .n 0, .any⟩,
   ⟨0x2D10, 0x05, .u32, .ro, 0, .n 0, .any⟩,
   ⟨0x2D10, 0x06, .u32, .ro, 0, .n 0, .any⟩,
   ⟨0x2D10, 0x07, .u64, .ro, 0, .n 0, .any⟩,
   ⟨0x2D10, 0x08, .bool, .ro, 0, .n 0, .any⟩,
   ⟨0x2D20, 0x01, .u64, .ro, 8, .n 0, .any⟩,
   ⟨0x2D20, 0x02, .u16, .ro, 8, .n 0, .any⟩,
   ⟨0x2D30, 0x01, .cmd, .cmd 2, 0, .n 0, .any⟩]

/-- All objects of the 0x2Dxx range. -/
def objects2D : List ObjRow := objects2D_0

/-- Objects of R598, part 0 of the 0x2Exx range. -/
def objects2E_0 : List ObjRow :=
  [⟨0x2E00, 0x01, .u32, .ro, 0, .n 0, .any⟩,
   ⟨0x2E00, 0x02, .u32, .ro, 0, .n 0, .any⟩,
   ⟨0x2E00, 0x03, .t96, .ro, 0, .n 0, .any⟩,
   ⟨0x2E01, 0x02, .u16, .rws 3, 0, .n 10, .iv [(1,1000)]⟩,
   ⟨0x2E01, 0x03, .u32, .ro, 0, .n 0x40000000, .any⟩,
   ⟨0x2E01, 0x04, .i32, .ro, 0, .n 0, .any⟩,
   ⟨0x2E01, 0x05, .u8, .ro, 0, .n 0, .any⟩,
   ⟨0x2E01, 0x06, .t96, .ro, 0, .n 0, .any⟩,
   ⟨0x2E02, 0x01, .u8, .rws 3, 32, .n 0xFF, .iv [(0,15), (255,255)]⟩,
   ⟨0x2E02, 0x02, .u16, .rws 3, 32, .n 1, .iv [(1,256)]⟩,
   ⟨0x2E03, 0x01, .u8, .rws 3, 24, .n 0, .iv [(0,0), (1,1)]⟩,
   ⟨0x2E03, 0x02, .f32, .rws 3, 24, .n 0x3F800000, .any⟩,
   ⟨0x2E03, 0x03, .f32, .rws 3, 24, .n 0x00000000, .any⟩,
   ⟨0x2E03, 0x04, .f32, .rws 3, 24, .n 0x461C4000, .fiv 0x42C80000 0x49742400⟩,
   ⟨0x2E03, 0x05, .f32, .rws 3, 24, .n 0x3A85FDB0, .any⟩,
   ⟨0x2E03, 0x06, .f32, .rws 3, 24, .n 0x3984BB3B, .any⟩,
   ⟨0x2E03, 0x07, .f32, .rws 3, 24, .n 0x00000000, .any⟩,
   ⟨0x2E03, 0x08, .f32, .rws 3, 24, .n 0xCE6E6B28, .any⟩,
   ⟨0x2E03, 0x09, .f32, .rws 3, 24, .n 0x4E6E6B28, .any⟩,
   ⟨0x2E03, 0x0A, .f32, .rws 3, 24, .n 0x00000000, .fnonneg⟩,
   ⟨0x2E03, 0x0B, .u16, .rws 3, 24, .n 3, .iv [(1,65535)]⟩,
   ⟨0x2E03, 0x0C, .bool, .rws 3, 24, .n 0, .iv [(0,1)]⟩,
   ⟨0x2E10, 0x01, .f32, .ro, 24, .n 0x7FC00000, .any⟩,
   ⟨0x2E10, 0x02, .u16, .ro, 24, .n 0, .any⟩,
   ⟨0x2E10, 0x03, .u8, .ro, 24, .n 0x1, .any⟩,
   ⟨0x2E10, 0x04, .f32, .ro, 24, .n 0x7FC00000, .any⟩,
   ⟨0x2E10, 0x05, .f32, .ro, 24, .n 0x7FC00000, .any⟩,
   ⟨0x2E10, 0x06, .t96, .ro, 24, .n 0, .any⟩,
   ⟨0x2E11, 0x01, .domain, .ro, 0, .oct [], .dom 0 16384⟩,
   ⟨0x2E11, 0x02, .u16, .ro, 0, .n 0, .any⟩]

/-- Objects of R598, part 1 of the 0x2Exx range. -/
def objects2E_1 : List ObjRow :=
  [⟨0x2E12, 0x01, .u16, .rw 2, 0, .n 0, .iv [(0,4095)]⟩,
   ⟨0x2E12, 0x02, .u8, .rw 2, 0, .n 0, .iv [(0,2)]⟩,
   ⟨0x2E12, 0x03, .u8, .rw 2, 0, .n 0, .iv [(0,15)]⟩,
   ⟨0x2E13, 0x01, .u8, .ro, 24, .n 0, .any⟩,
   ⟨0x2E13, 0x02, .f32, .ro, 24, .n 0x00000000, .any⟩,
   ⟨0x2E13, 0x03, .t96, .ro, 24, .n 0, .any⟩,
   ⟨0x2E20, 0x01, .u32, .ro, 0, .n 0, .any⟩,
   ⟨0x2E20, 0x02, .u32, .ro, 0, .n 0, .any⟩,
   ⟨0x2E20, 0x03, .u32, .ro, 0, .n 0, .any⟩,
   ⟨0x2E20, 0x04, .u32, .ro, 0, .n 0, .any⟩,
   ⟨0x2E20, 0x05, .u8, .ro, 0, .n 0, .any⟩,
   ⟨0x2E20, 0x06, .u32, .ro, 0, .n 0, .any⟩,
   ⟨0x2E20, 0x07, .u32, .ro, 0, .n 0, .any⟩,
   ⟨0x2E20, 0x08, .u32, .ro, 0, .n 0, .any⟩,
   ⟨0x2E20, 0x09, .u32, .ro, 0, .n 0, .any⟩,
   ⟨0x2E20, 0x0A, .u16, .rws 3, 0, .n 60, .iv [(1,3600)]⟩,
   ⟨0x2E20, 0x0B, .u8, .ro, 0, .n 0xFF, .any⟩,
   ⟨0x2E21, 0x01, .u32, .rw 2, 17, .n 0, .any⟩,
   ⟨0x2E21, 0x02, .octets, .ro, 17, .zeros 512, .size 512⟩,
   ⟨0x2E22, 0x01, .domain, .ro, 0, .oct [], .any⟩,
   ⟨0x2E23, 0x01, .u8, .ro, 65536, .n 0, .any⟩,
   ⟨0x2E30, 0x01, .u64, .ro, 0, .n 0, .any⟩,
   ⟨0x2E30, 0x02, .u32, .ro, 0, .n 0, .any⟩,
   ⟨0x2E30, 0x03, .u32, .ro, 0, .n 0, .any⟩,
   ⟨0x2E30, 0x04, .u32, .ro, 0, .n 0, .any⟩,
   ⟨0x2E30, 0x05, .u32, .ro, 0, .n 0, .any⟩,
   ⟨0x2E50, 0x01, .cmd, .cmd 3, 0, .n 0, .any⟩,
   ⟨0x2E50, 0x02, .u8, .cmd 2, 0, .n 0, .iv [(0,1)]⟩,
   ⟨0x2E50, 0x03, .cmd, .cmd 3, 0, .n 0, .any⟩,
   ⟨0x2E50, 0x04, .u8, .cmd 3, 0, .n 0, .iv [(0,15)]⟩]

/-- Objects of R598, part 2 of the 0x2Exx range. -/
def objects2E_2 : List ObjRow :=
  [⟨0x2E50, 0x05, .cmd, .cmd 2, 0, .n 0, .any⟩]

/-- All objects of the 0x2Exx range. -/
def objects2E : List ObjRow := objects2E_0 ++ objects2E_1 ++ objects2E_2

/-- Objects of R636, part 0 of the 0x2Fxx range. -/
def objects2F_0 : List ObjRow :=
  [⟨0x2F00, 0x01, .u8, .rw 2, 0, .n 0, .iv [(0,0), (1,1)]⟩,
   ⟨0x2F00, 0x02, .u8, .rw 2, 0, .n 0x1F, .iv [(0,31)]⟩,
   ⟨0x2F00, 0x03, .u32, .rw 2, 0, .n 0, .iv [(0,0), (1,31536000)]⟩,
   ⟨0x2F00, 0x04, .u16, .ro, 4, .list [5000,20000,2000,1000], .any⟩,
   ⟨0x2F00, 0x05, .u16, .ro, 4, .list [50,100,10,10], .any⟩,
   ⟨0x2F01, 0x01, .bool, .rws 3, 0, .n 1, .iv [(0,1)]⟩,
   ⟨0x2F01, 0x02, .u8, .rws 3, 0, .n 3, .iv [(0,10)]⟩,
   ⟨0x2F01, 0x03, .u16, .rws 3, 0, .n 60, .iv [(10,3600)]⟩,
   ⟨0x2F01, 0x04, .bool, .rws 3, 0, .n 0, .iv [(0,1)]⟩,
   ⟨0x2F02, 0x01, .octets, .ro, 0, .zeros 32, .size 32⟩,
   ⟨0x2F02, 0x02, .bool, .ro, 0, .n 0, .any⟩,
   ⟨0x2F02, 0x03, .bool, .ro, 0, .n 0, .any⟩,
   ⟨0x2F03, 0x01, .u8, .ro, 10, .n 0, .any⟩,
   ⟨0x2F03, 0x02, .u32, .ro, 10, .n 0, .any⟩,
   ⟨0x2F03, 0x03, .u32, .ro, 0, .n 0, .any⟩,
   ⟨0x2F03, 0x04, .u8, .ro, 0, .n 0, .any⟩,
   ⟨0x2F04, 0x01, .u32, .rw 2, 0, .n 0, .iv [(0,16777215)]⟩,
   ⟨0x2F04, 0x02, .f32, .rw 2, 24, .n 0x00000000, .any⟩,
   ⟨0x2F10, 0x01, .u8, .ro, 0, .n 0, .any⟩,
   ⟨0x2F20, 0x01, .u32, .ro, 0, .n 0, .any⟩,
   ⟨0x2F20, 0x02, .u32, .ro, 0, .n 0, .any⟩,
   ⟨0x2F20, 0x03, .u32, .ro, 0, .n 0, .any⟩,
   ⟨0x2F20, 0x04, .u32, .ro, 0, .n 0, .any⟩,
   ⟨0x2F20, 0x05, .u32, .ro, 0, .n 0, .any⟩,
   ⟨0x2F20, 0x06, .u32, .ro, 0, .n 0, .any⟩,
   ⟨0x2F30, 0x01, .cmd, .cmd 3, 0, .n 0, .any⟩,
   ⟨0x2F30, 0x02, .cmd, .cmd 3, 0, .n 0, .any⟩,
   ⟨0x2F30, 0x03, .cmd, .cmd 3, 0, .n 0, .any⟩,
   ⟨0x2F30, 0x04, .cmd, .cmd 2, 0, .n 0, .any⟩,
   ⟨0x2F40, 0x01, .bool, .rws 3, 0, .n 1, .iv [(0,1)]⟩]

/-- Objects of R636, part 1 of the 0x2Fxx range. -/
def objects2F_1 : List ObjRow :=
  [⟨0x2F41, 0x01, .bool, .rws 3, 4, .n 0, .iv [(0,1)]⟩,
   ⟨0x2F41, 0x02, .f32, .rws 3, 4, .n 0x00000000, .any⟩,
   ⟨0x2F41, 0x03, .f32, .rws 3, 4, .n 0x3E4CCCCD, .fiv 0x3D4CCCCD 0x3F666666⟩,
   ⟨0x2F41, 0x04, .f32, .rws 3, 4, .n 0x3F800000, .fiv 0x3D4CCCCD 0x41200000⟩,
   ⟨0x2F41, 0x05, .u8, .rws 3, 4, .n 10, .iv [(2,50)]⟩,
   ⟨0x2F41, 0x06, .u16, .rws 3, 4, .n 100, .iv [(0,10000)]⟩,
   ⟨0x2F41, 0x07, .f32, .rws 3, 4, .n 0x41200000, .fiv 0x40000000 0x41F00000⟩,
   ⟨0x2F41, 0x08, .f32, .rws 3, 4, .n 0xC0200000, .fiv 0xC1200000 0xBD4CCCCD⟩,
   ⟨0x2F41, 0x09, .u16, .rws 3, 4, .n 500, .iv [(0,60000)]⟩,
   ⟨0x2F41, 0x0A, .f32, .rws 3, 4, .n 0x40000000, .fiv 0x3D4CCCCD 0x41200000⟩,
   ⟨0x2F41, 0x0B, .u16, .rws 3, 4, .n 500, .iv [(0,60000)]⟩,
   ⟨0x2F41, 0x0C, .f32, .rws 3, 4, .n 0x3F4CCCCD, .fiv 0x3DCCCCCD 0x3F800000⟩,
   ⟨0x2F41, 0x0D, .u16, .rws 3, 4, .n 2000, .iv [(0,60000)]⟩,
   ⟨0x2F41, 0x0E, .f32, .rws 3, 4, .n 0x3F933333, .fiv 0x3F800000 0x40000000⟩,
   ⟨0x2F41, 0x0F, .u16, .rws 3, 4, .n 500, .iv [(0,60000)]⟩,
   ⟨0x2F41, 0x10, .u8, .rws 3, 4, .n 0x3F, .iv [(0,63)]⟩,
   ⟨0x2F41, 0x11, .u16, .rws 3, 4, .n 200, .iv [(20,10000)]⟩,
   ⟨0x2F42, 0x01, .bool, .rws 3, 16, .n 0, .iv [(0,1)]⟩,
   ⟨0x2F42, 0x02, .f32, .rws 3, 16, .n 0x00000000, .any⟩,
   ⟨0x2F42, 0x03, .f32, .rws 3, 16, .n 0x00000000, .any⟩,
   ⟨0x2F42, 0x04, .u8, .rws 3, 16, .n 3, .iv [(1,100)]⟩,
   ⟨0x2F42, 0x05, .u8, .rws 3, 16, .n 10, .iv [(1,100)]⟩,
   ⟨0x2F43, 0x01, .u32, .rws 3, 8, .n 0, .iv [(0,16777215)]⟩,
   ⟨0x2F43, 0x02, .u16, .rws 3, 8, .n 0, .any⟩,
   ⟨0x2F43, 0x03, .u16, .rws 3, 8, .n 100, .iv [(0,10000)]⟩,
   ⟨0x2F44, 0x01, .u8, .rws 3, 512, .n 0xFF, .iv [(0,23), (32,47), (255,255)]⟩,
   ⟨0x2F45, 0x01, .u8, .ro, 0, .n 0, .any⟩,
   ⟨0x2F45, 0x02, .u8, .ro, 4, .n 0, .any⟩,
   ⟨0x2F45, 0x03, .u8, .ro, 16, .n 3, .any⟩,
   ⟨0x2F45, 0x04, .f32, .ro, 4, .n 0x00000000, .any⟩]

/-- All objects of the 0x2Fxx range. -/
def objects2F : List ObjRow := objects2F_0 ++ objects2F_1

/-- Objects of R668, part 0 of the 0x30xx range. -/
def objects30_0 : List ObjRow :=
  [⟨0x3000, 0x01, .u8, .ro, 0, .n 0, .any⟩,
   ⟨0x3000, 0x02, .u8, .rws 4, 0, .n 1, .iv [(0,0), (1,1)]⟩,
   ⟨0x3000, 0x03, .u8, .ro, 0, .n 0xFF, .any⟩,
   ⟨0x3000, 0x04, .u64, .ro, 0, .n 0, .any⟩,
   ⟨0x3000, 0x05, .octets, .ro, 0, .zeros 48, .size 48⟩,
   ⟨0x3000, 0x06, .octets, .ro, 0, .zeros 48, .size 48⟩,
   ⟨0x3000, 0x07, .bool, .ro, 0, .n 0, .any⟩,
   ⟨0x3000, 0x08, .octets, .ro, 0, .zeros 32, .size 32⟩,
   ⟨0x3001, 0x01, .domain, .ro, 0, .manifest, .any⟩,
   ⟨0x3001, 0x02, .octets, .ro, 0, .zeros 97, .size 97⟩,
   ⟨0x3001, 0x03, .domain, .ro, 0, .oct [], .any⟩,
   ⟨0x3001, 0x04, .octets, .ro, 0, .zeros 97, .size 97⟩,
   ⟨0x3002, 0x01, .octets, .cmd 1, 0, .zeros 32, .size 32⟩,
   ⟨0x3002, 0x02, .domain, .ro, 0, .oct [], .dom 0 1112⟩,
   ⟨0x3002, 0x03, .u32, .ro, 0, .n 0, .any⟩,
   ⟨0x3010, 0x00, .domain, .rw 2, 0, .oct [], .dom 0 8236⟩,
   ⟨0x3011, 0x01, .u8, .ro, 0, .n 0xFF, .any⟩,
   ⟨0x3020, 0x01, .u8, .ro, 1024, .n 0, .any⟩,
   ⟨0x3020, 0x02, .u8, .ro, 1024, .n 0, .any⟩,
   ⟨0x3021, 0x01, .domain, .rw 2, 1024, .oct [], .dom 40 56⟩,
   ⟨0x3021, 0x02, .domain, .ro, 1024, .oct [], .dom 40 56⟩,
   ⟨0x3030, 0x01, .cmd, .cmd 2, 0, .n 0, .any⟩,
   ⟨0x3040, 0x01, .u32, .ro, 0, .n 0, .any⟩,
   ⟨0x3040, 0x02, .u32, .ro, 0, .n 0, .any⟩,
   ⟨0x3040, 0x03, .u32, .ro, 0, .n 0, .any⟩]

/-- All objects of the 0x30xx range. -/
def objects30 : List ObjRow := objects30_0

/-- Objects of R668, part 0 of the 0x31xx range. -/
def objects31_0 : List ObjRow :=
  [⟨0x3100, 0x01, .u32, .rws 3, 0, .n 600, .iv [(60,86400)]⟩,
   ⟨0x3100, 0x02, .bool, .rws 3, 0, .n 0, .iv [(0,1)]⟩,
   ⟨0x3100, 0x03, .bool, .rws 4, 0, .n 0, .iv [(0,1)]⟩,
   ⟨0x3110, 0x00, .domain, .rw 3, 0, .oct [], .dom 0 25168896⟩,
   ⟨0x3111, 0x01, .u8, .ro, 0, .n 0, .any⟩,
   ⟨0x3111, 0x02, .u64, .ro, 0, .n 0, .any⟩,
   ⟨0x3111, 0x03, .u8, .ro, 0, .n 0xFF, .any⟩,
   ⟨0x3111, 0x04, .u32, .ro, 0, .n 0, .any⟩,
   ⟨0x3111, 0x05, .u32, .ro, 0, .n 0, .any⟩,
   ⟨0x3112, 0x01, .octets, .ro, 32, .zeros 48, .size 48⟩,
   ⟨0x3112, 0x02, .u32, .ro, 32, .n 0, .any⟩,
   ⟨0x3112, 0x03, .u8, .ro, 32, .n 0, .any⟩,
   ⟨0x3113, 0x01, .u32, .ro, 0, .n 0, .any⟩,
   ⟨0x3113, 0x02, .u64, .ro, 0, .n 0, .any⟩,
   ⟨0x3130, 0x01, .cmd, .cmd 3, 0, .n 0, .any⟩,
   ⟨0x3130, 0x02, .cmd, .cmd 3, 0, .n 0, .any⟩,
   ⟨0x3130, 0x03, .cmd, .cmd 3, 0, .n 0, .any⟩,
   ⟨0x3130, 0x04, .cmd, .cmd 3, 0, .n 0, .any⟩,
   ⟨0x3140, 0x01, .u32, .ro, 0, .n 0, .any⟩,
   ⟨0x3140, 0x02, .u32, .ro, 0, .n 0, .any⟩,
   ⟨0x3140, 0x03, .u32, .ro, 0, .n 0, .any⟩]

/-- All objects of the 0x31xx range. -/
def objects31 : List ObjRow := objects31_0

/-- Objects of R693, part 0 of the 0x32xx range. -/
def objects32_0 : List ObjRow :=
  [⟨0x3200, 0x01, .u8, .rws 3, 0, .n 0, .iv [(0,0), (1,1), (2,2)]⟩,
   ⟨0x3200, 0x02, .bool, .rws 3, 0, .n 0, .iv [(0,1)]⟩,
   ⟨0x3200, 0x03, .u8, .rws 3, 0, .n 0, .iv [(0,15)]⟩,
   ⟨0x3200, 0x04, .u16, .rws 3, 0, .n 2000, .iv [(500,10000)]⟩,
   ⟨0x3200, 0x05, .u16, .ro, 0, .n 0x88B6, .any⟩,
   ⟨0x3200, 0x06, .u16, .rws 3, 0, .n 250, .iv [(100,1000)]⟩,
   ⟨0x3210, 0x01, .u8, .ro, 0, .n 0, .any⟩,
   ⟨0x3210, 0x02, .u8, .ro, 0, .n 0, .any⟩,
   ⟨0x3210, 0x03, .octets, .ro, 0, .zeros 16, .size 16⟩,
   ⟨0x3210, 0x04, .bool, .ro, 0, .n 0, .any⟩,
   ⟨0x3210, 0x05, .u32, .ro, 0, .n 0, .any⟩,
   ⟨0x3211, 0x01, .u8, .ro, 0, .n 0, .any⟩,
   ⟨0x3211, 0x02, .u16, .ro, 0, .n 0, .any⟩,
   ⟨0x3211, 0x03, .u8, .ro, 0, .n 0xFF, .any⟩,
   ⟨0x3211, 0x04, .u8, .ro, 0, .n 2, .any⟩,
   ⟨0x3211, 0x05, .octets, .ro, 16, .zeros 16, .size 16⟩,
   ⟨0x3220, 0x01, .u32, .ro, 0, .n 0, .any⟩,
   ⟨0x3220, 0x02, .u64, .ro, 0, .n 0, .any⟩,
   ⟨0x3220, 0x03, .u32, .ro, 0, .n 0, .any⟩,
   ⟨0x3220, 0x04, .u32, .ro, 0, .n 0, .any⟩,
   ⟨0x3220, 0x05, .u32, .ro, 0, .n 0, .any⟩,
   ⟨0x3220, 0x06, .u32, .ro, 0, .n 0, .any⟩,
   ⟨0x3220, 0x07, .u32, .ro, 0, .n 0, .any⟩,
   ⟨0x3230, 0x01, .cmd, .cmd 3, 0, .n 0, .any⟩,
   ⟨0x3230, 0x02, .cmd, .cmd 3, 0, .n 0, .any⟩,
   ⟨0x3230, 0x03, .cmd, .cmd 3, 16, .n 0, .any⟩,
   ⟨0x3230, 0x04, .cmd, .cmd 2, 0, .n 0, .any⟩]

/-- All objects of the 0x32xx range. -/
def objects32 : List ObjRow := objects32_0

/-- The objects whose index has the given high byte. -/
def objectsOf (hi : Nat) : List ObjRow :=
  match hi with
  | 0x10 => objects10
  | 0x11 => objects11
  | 0x12 => objects12
  | 0x20 => objects20
  | 0x21 => objects21
  | 0x22 => objects22
  | 0x23 => objects23
  | 0x24 => objects24
  | 0x25 => objects25
  | 0x26 => objects26
  | 0x27 => objects27
  | 0x28 => objects28
  | 0x29 => objects29
  | 0x2A => objects2A
  | 0x2B => objects2B
  | 0x2C => objects2C
  | 0x2D => objects2D
  | 0x2E => objects2E
  | 0x2F => objects2F
  | 0x30 => objects30
  | 0x31 => objects31
  | 0x32 => objects32
  | _ => []

/-- The dictionary row of an object, if the object exists. -/
def findObj (idx sub : Nat) : Option ObjRow :=
  (objectsOf (idx / 256)).find? fun r => r.idx == idx && r.sub == sub

/-- Every object of the dictionary, in increasing index. -/
def allObjects : List ObjRow :=
  objects10 ++ objects11 ++ objects12 ++ objects20 ++ objects21 ++ objects22 ++ objects23 ++ objects24 ++ objects25 ++ objects26 ++ objects27 ++ objects28 ++ objects29 ++ objects2A ++ objects2B ++ objects2C ++ objects2D ++ objects2E ++ objects2F ++ objects30 ++ objects31 ++ objects32

end Sys2Proof.Machine
end

