-- ==== Sys2Proof/Machine/Store.lean ====
section
/-! DEFINITION. The stores: sparse tables in increasing key, object keys (R516), defaults, and the canonical form. -/

namespace Sys2Proof.Machine
open Sys2Proof

/-- The row that stands for "no row" (R516: 0xFF_FFFF is never a valid row). -/
def noRow : Nat := 0xFFFFFF

/-- The key of an object, in increasing index, subindex and row. -/
def okey (idx sub row : Nat) : Nat := (idx * 256 + sub) * 0x1000000 + row

/-- The entry at a key of a table. -/
def lookup {α : Type} (k : Nat) : List (Nat × α) → Option α
  | [] => none
  | (j, v) :: l => if j = k then some v else lookup k l

/-- Put an entry into a sorted table, in place of one of the same key. -/
def putKey {α : Type} (k : Nat) (v : α) : List (Nat × α) → List (Nat × α)
  | [] => [(k, v)]
  | (j, w) :: l => if j < k then (j, w) :: putKey k v l else if j = k then (k, v) :: l else (k, v) :: (j, w) :: l

/-- Remove the entry of a key from a table. -/
def delKey {α : Type} (k : Nat) (l : List (Nat × α)) : List (Nat × α) := l.filter fun e => decide (e.1 ≠ k)

/-- Every key of the table lies above k, in strictly rising order. -/
def risingFrom {α : Type} : Nat → List (Nat × α) → Bool
  | _, [] => true
  | k, (j, _) :: l => k < j && risingFrom j l

/-- The keys rise strictly. -/
def rising {α : Type} : List (Nat × α) → Bool
  | [] => true
  | (j, _) :: l => risingFrom j l

/-- The default of a row of an object. -/
def ObjRow.default (o : ObjRow) (row : Nat) : Val :=
  let i := if row = noRow then 0 else row
  let isBytes := match o.ty with | .octets => true | .string => true | .domain => true | _ => false
  match o.dflt with
  | .n v => .num v
  | .list vs => .num (vs.getD i 0)
  | .cycle vs => .num (vs.getD (i % vs.length) 0)
  | .base v => .num (v + i)
  | .oct bs => .oct (bs.map (BitVec.ofNat 8))
  | .zeros k => .oct (List.replicate k 0)
  | .mac => .oct (be 6 (Config.factoryMac + i))
  | .manifest => if isBytes then .oct (Config.manifestBytes o.idx o.sub i) else .num (Config.manifestNum o.idx o.sub i)

/-- The default of an object's row; 0 for an object that does not exist. -/
def defaultOf (idx sub row : Nat) : Val :=
  match findObj idx sub with
  | some o => o.default row
  | none => .num 0

/-- The default at a key. -/
def defaultAt (k : Nat) : Val :=
  defaultOf (k / 0x100000000) (k / 0x1000000 % 256) (k % 0x1000000)

/-- A value read in a store: the entry, or the default. -/
def readIn (d : Dict) (idx sub row : Nat) : Val := (lookup (okey idx sub row) d).getD (defaultOf idx sub row)

/-- Number, byte string, of an RWS object in a set. -/
def inSet (d : Dict) (idx sub row : Nat) : Nat := (readIn d idx sub row).bits
def bytesInSet (d : Dict) (idx sub row : Nat) : List Byte := (readIn d idx sub row).bytes

/-- A value written in a store; writing the default removes the entry. -/
def writeIn (d : Dict) (idx sub row : Nat) (v : Val) : Dict :=
  if v = defaultOf idx sub row then delKey (okey idx sub row) d else putKey (okey idx sub row) v d

/-- No entry equals the default of its key. -/
def sparse (d : Dict) : Bool := d.all fun e => decide (e.2 ≠ defaultAt e.1)

/-- The canonical form of a store: keys rise strictly and no entry equals its default. -/
def Dict.wf (d : Dict) : Bool := rising d && sparse d

/-- The entry of a table, or an initial record. -/
def tabGet {α : Type} (d : α) (t : Tab α) (k : Nat) : α := (lookup k t).getD d

/-- Rows of object idx:sub whose entry in a store is not the default. -/
def rowsOf (d : Dict) (idx sub : Nat) : List Nat :=
  (d.filter fun e => e.1 / 0x1000000 == idx * 256 + sub).map fun e => e.1 % 0x1000000

/-- Stable insertion by an order. -/
def insertBy {α : Type} (before : α → α → Bool) (x : α) : List α → List α
  | [] => [x]
  | y :: l => if before y x then y :: insertBy before x l else x :: y :: l
/-- Stable sort by an order: `before a b` when a may stand before b. -/
def sortBy {α : Type} (before : α → α → Bool) (l : List α) : List α := l.foldl (fun acc x => insertBy before x acc) []

/-- The number of bits of a numeric type (R517). -/
def Ty.width : Ty → Nat
  | .bool => 1 | .u8 => 8 | .u16 => 16 | .u32 => 32 | .u64 => 64 | .i16 => 16 | .i32 => 32 | .i64 => 64
  | .f32 => 32 | .f64 => 64 | .t96 => 96 | .gat => 64 | _ => 0

/-- The width of an object's type. -/
def widthOf (idx sub : Nat) : Nat := match findObj idx sub with | some o => o.ty.width | none => 32

end Sys2Proof.Machine
end

