-- ==== Sys2Proof/Machine/Ops.lean ====
section
/-! DEFINITION. The named operations over the state: object values, counters, outputs, free values, interrupts. -/

namespace Sys2Proof.Machine
open Sys2Proof

/-! ### Object values -/

/-- An RWS object of the active set, as a number. -/
def State.cfg (s : State) (idx sub : Nat) (row : Nat := noRow) : Nat := (readIn s.active idx sub row).bits
/-- An RWS object of the active set, as a signed integer. -/
def State.cfgInt (s : State) (idx sub : Nat) (row : Nat := noRow) : Int := ofTwos (widthOf idx sub) (s.cfg idx sub row)
/-- An RWS BOOL of the active set. -/
def State.cfgB (s : State) (idx sub : Nat) (row : Nat := noRow) : Bool := s.cfg idx sub row != 0
/-- An RWS F32 of the active set. -/
def State.cfgF (s : State) (idx sub : Nat) (row : Nat := noRow) : Q := f32 (s.cfg idx sub row)
/-- An RWS byte-string of the active set. -/
def State.cfgBytes (s : State) (idx sub : Nat) (row : Nat := noRow) : List Byte := (readIn s.active idx sub row).bytes
/-- An RW object. -/
def State.rw (s : State) (idx sub : Nat) (row : Nat := noRow) : Nat := (readIn s.live idx sub row).bits
/-- The bytes of an RW DOMAIN object. -/
def State.rwBytes (s : State) (idx sub : Nat) (row : Nat := noRow) : List Byte := (readIn s.live idx sub row).bytes
/-- An RO object or counter. -/
def State.ro (s : State) (idx sub : Nat) (row : Nat := noRow) : Nat := (readIn s.status idx sub row).bits
/-- The bytes of an RO object. -/
def State.roBytes (s : State) (idx sub : Nat) (row : Nat := noRow) : List Byte := (readIn s.status idx sub row).bytes

/-- Set an RO object. -/
def State.setRoV (s : State) (idx sub row : Nat) (v : Val) : State := { s with status := writeIn s.status idx sub row v }
/-- Set a numeric RO object of a table. -/
def State.setRow (s : State) (idx sub row n : Nat) : State := s.setRoV idx sub row (.num n)
/-- Set a numeric RO object without rows. -/
def State.setRo (s : State) (idx sub n : Nat) : State := s.setRoV idx sub noRow (.num n)
/-- Set a byte-string RO object. -/
def State.setRoBytes (s : State) (idx sub : Nat) (b : List Byte) (row : Nat := noRow) : State := s.setRoV idx sub row (.oct b)
/-- Set an RW object. -/
def State.setLive (s : State) (idx sub row : Nat) (v : Val) : State := { s with live := writeIn s.live idx sub row v }
/-- Set an RWS object of the shadow set. -/
def State.setShadow (s : State) (idx sub row : Nat) (v : Val) : State := { s with shadow := writeIn s.shadow idx sub row v }

/-- Add to a counter, which wraps at the width of its type. -/
def State.addTo (s : State) (idx sub n : Nat) (row : Nat := noRow) : State :=
  s.setRow idx sub row ((s.ro idx sub row + n) % 2 ^ widthOf idx sub)
/-- Count one. -/
def State.bump (s : State) (idx sub : Nat) (row : Nat := noRow) : State := s.addTo idx sub 1 row

/-- Remove from a store every entry of objects whose index lies in [lo, hi]. -/
def dropRange (d : Dict) (lo hi : Nat) : Dict :=
  d.filter fun e => !(lo ≤ e.1 / 0x100000000 && e.1 / 0x100000000 ≤ hi)
/-- Remove from a store every row of object idx:sub. -/
def dropObject (d : Dict) (idx sub : Nat) : Dict := d.filter fun e => e.1 / 0x1000000 != idx * 256 + sub
/-- Clear RO objects and counters to their defaults: each (index, subindex). -/
def State.clearObjects (s : State) (l : List (Nat × Nat)) : State :=
  { s with status := l.foldl (fun d o => dropObject d o.1 o.2) s.status }
/-- Clear one row of an RO object. -/
def State.clearRow (s : State) (idx sub row : Nat) : State := { s with status := delKey (okey idx sub row) s.status }
/-- Clear every RO object of an index range. -/
def State.clearRange (s : State) (lo hi : Nat) : State := { s with status := dropRange s.status lo hi }

/-! ### Outputs and free values -/

/-- Let something leave the block. -/
def State.emit (s : State) (o : Out) : State := { s with outs := s.outs ++ [o] }

/-- The present free value. -/
def State.free (s : State) : Nat := Config.freeValue s.draws
/-- Pass to the next free value. -/
def State.drawn (s : State) : State := { s with draws := s.draws + 1 }

/-! ### Sub-records -/

def State.onPower (s : State) (f : PowerSt → PowerSt) : State := { s with power := f s.power }
def State.onTime (s : State) (f : TimeSt → TimeSt) : State := { s with time := f s.time }
def State.onPorts (s : State) (f : PortSt → PortSt) : State := { s with port := f s.port }
def State.onIngest (s : State) (f : IngestSt → IngestSt) : State := { s with ingest := f s.ingest }
def State.onPlace (s : State) (f : PlaceSt → PlaceSt) : State := { s with place := f s.place }
def State.onEddy (s : State) (f : EddySt → EddySt) : State := { s with eddy := f s.eddy }
def State.onOxbow (s : State) (f : OxbowSt → OxbowSt) : State := { s with oxbow := f s.oxbow }
def State.onAlarm (s : State) (f : AlarmSt → AlarmSt) : State := { s with alarm := f s.alarm }
def State.onPub (s : State) (f : PubSt → PubSt) : State := { s with pub := f s.pub }
def State.onHead (s : State) (f : HeadSt → HeadSt) : State := { s with head := f s.head }
def State.onCapture (s : State) (f : CaptureSt → CaptureSt) : State := { s with capture := f s.capture }
def State.onLeash (s : State) (f : LeashSt → LeashSt) : State := { s with leash := f s.leash }
def State.onEnergy (s : State) (f : EnergySt → EnergySt) : State := { s with energy := f s.energy }
def State.onJobs (s : State) (f : JobSt → JobSt) : State := { s with jobs := f s.jobs }
def State.onImian (s : State) (f : ImianSt → ImianSt) : State := { s with imian := f s.imian }
def State.onSets (s : State) (f : SetSt → SetSt) : State := { s with sets := f s.sets }
def State.onHost (s : State) (f : HostSt → HostSt) : State := { s with host := f s.host }
def State.onLog (s : State) (f : LogSt → LogSt) : State := { s with log := f s.log }
def State.onHk (s : State) (f : HkSt → HkSt) : State := { s with hk := f s.hk }
def State.onKeys (s : State) (f : KeySt → KeySt) : State := { s with keys := f s.keys }
def State.onDuplex (s : State) (f : DuplexSt → DuplexSt) : State := { s with duplex := f s.duplex }

/-! ### Device states (R28) -/

def State.dev (s : State) : Nat := s.power.state
def stOff : Nat := 0
def stStart : Nat := 1
def stRun : Nat := 2
def stTrim : Nat := 3
def stSentinel : Nat := 4
def stSafeTalk : Nat := 5
def stRecovery : Nat := 6
def stKennel : Nat := 7
/-- RUN or TRIM (R629: every rule of RUN applies in TRIM), RESET_N high. -/
def State.running (s : State) : Bool := !s.power.resetLow && (s.dev == stRun || s.dev == stTrim)
/-- The G-die's fast functions run: START, RUN, TRIM, SENTINEL. -/
def State.gdieOn (s : State) : Bool := !s.power.resetLow && (s.dev == stStart || s.running || s.dev == stSentinel)
/-- Powered, not in KENNEL, and not held by RESET_N (R707). -/
def State.powered (s : State) : Bool := !(s.dev == stOff || s.dev == stKennel) && !s.power.resetLow

/-- ms, µs and s in ps. -/
def ms (n : Nat) : Nat := n * 1000000000
def us (n : Nat) : Nat := n * 1000000
def sec (n : Nat) : Nat := n * 1000000000000

/-- The nominal frequency in Hz (0x2010:01, R13). -/
def State.fnom (s : State) : Nat := s.cfg 0x2010 0x01

/-! ### Interrupts (R569) -/

/-- Signal bit n on its vector when it is set, unmasked and not yet signalled, and the link is up. -/
def State.signal (n : Nat) (s : State) : State :=
  if s.host.linkUp && bit s.host.intStatus n && !bit s.host.intMask n && !bit s.host.intSignalled n then
    (s.onHost fun h => { h with intSignalled := setBit h.intSignalled n true }).emit (.msix n)
  else s

/-- Signal every bit that is to be signalled. -/
def State.signalAll (s : State) : State := (List.range 14).foldl (fun s n => s.signal n) s

/-- Set a bit of INT_STATUS; a bit that becomes set and is unmasked is signalled on its vector. -/
def State.interrupt (s : State) (n : Nat) : State :=
  if bit s.host.intStatus n then s
  else (s.onHost fun h => { h with intStatus := setBit h.intStatus n true }).signal n

end Sys2Proof.Machine
end

