-- ==== Sys2Proof/Machine/Events.lean ====
section
/-! DEFINITION. Events: their severities (R721), their source (R589), posting (R590, R592), the once-a-second rule (R719)
and the summary windows (R720); the clock readings they carry. -/

namespace Sys2Proof.Machine
open Sys2Proof

/-- Codes of severity 0 information (R721). -/
def severity0 : List Nat :=
  [0x1101, 0x1102, 0x1201, 0x1206, 0x2201, 0x2209, 0x2305, 0x2407, 0x2802, 0x2807, 0x2809, 0x2A02, 0x2A06, 0x2C02]

/-- Codes of severity 1 notice (R721). -/
def severity1 : List Nat :=
  [0x1020, 0x1021, 0x1203, 0x1204, 0x2001, 0x2003, 0x2006, 0x2007, 0x2009, 0x200D, 0x200E, 0x2101, 0x2105, 0x210C] ++
  [0x2202, 0x2210, 0x2302, 0x2304, 0x2306, 0x2309, 0x2402, 0x2406, 0x2501, 0x2502, 0x2503, 0x2504, 0x2602, 0x2604] ++
  [0x2605, 0x260A, 0x2702, 0x2703, 0x2705, 0x2708, 0x2709, 0x270A, 0x2801, 0x2804, 0x2805, 0x2901, 0x2904, 0x2905] ++
  [0x2A01, 0x2A08, 0x2B01, 0x2B03, 0x2B05, 0x2C03, 0x2D01, 0x2D04, 0x2D06, 0x2E02, 0x2E04, 0x2E06, 0x2E08, 0x2E09] ++
  [0x2F01, 0x2F04, 0x2F09, 0x3001, 0x3003, 0x3006, 0x3101, 0x3102, 0x3104, 0x3106, 0x3201, 0x3204, 0x3205, 0x3207]

/-- Codes of severity 2 warning (R721). -/
def severity2 : List Nat :=
  [0x1104, 0x1202, 0x1205, 0x2002, 0x2004, 0x2008, 0x200A, 0x200B, 0x200F, 0x2010, 0x2011, 0x2102, 0x2103, 0x2104] ++
  [0x2107, 0x2108, 0x2109, 0x210A, 0x210B, 0x210D, 0x2203, 0x2204, 0x2205, 0x2206, 0x2207, 0x2301, 0x2303, 0x2307] ++
  [0x2308, 0x2405, 0x2505, 0x2506, 0x2507, 0x2508, 0x2603, 0x2606, 0x2607, 0x260B, 0x2701, 0x2706, 0x2806, 0x2808] ++
  [0x280A, 0x280B, 0x2906, 0x2907, 0x2908, 0x2A03, 0x2A07, 0x2A0A, 0x2A0B, 0x2B02, 0x2B04, 0x2B06, 0x2C01, 0x2C04] ++
  [0x2D02, 0x2D03, 0x2E03, 0x2E0A, 0x2F06, 0x2F07, 0x3002, 0x3206, 0x3208, 0x3209, 0x320A, 0x320B]

/-- Codes of severity 3 error (R721). -/
def severity3 : List Nat :=
  [0x1103, 0x1105, 0x1207, 0x2005, 0x200C, 0x2106, 0x2208, 0x2211, 0x2401, 0x2403, 0x2404, 0x2601, 0x2609, 0x2704] ++
  [0x2803, 0x2902, 0x2903, 0x2A04, 0x2A05, 0x2A09, 0x2D05, 0x2E01, 0x2E07, 0x2F02, 0x2F03, 0x2F05, 0x2F0A, 0x3005] ++
  [0x3103, 0x3107, 0x3108, 0x3202, 0x3203]

/-- Codes of severity 4 critical (R721). -/
def severity4 : List Nat :=
  [0x2408, 0x2707, 0x2E05, 0x2F08, 0x2F0B, 0x2F0C, 0x3004]

/-- The severity of an event code; 0 for a code the manual does not define. -/
def severityOf (code : Nat) : Nat :=
  if severity4.contains code then 4 else if severity3.contains code then 3 else if severity2.contains code then 2
  else if severity1.contains code then 1 else 0

/-- The source byte of an event: the subsystem number of R551, 0xFF for general and power events (R589).  Leash events are those of
subsystem 11, key and update events of subsystem 17 (assumption 9). -/
def sourceOf (code : Nat) : Nat :=
  match code / 256 with
  | 0x20 => 0 | 0x21 => 1 | 0x22 => 2 | 0x23 => 3 | 0x24 => 4 | 0x25 => 5 | 0x26 => 6 | 0x27 => 7 | 0x28 => 8 | 0x29 => 9
  | 0x2A => if 0x2A08 ≤ code then 11 else 10
  | 0x2B => 12 | 0x2C => 13 | 0x2D => 14 | 0x2E => 15 | 0x30 => 17 | 0x31 => 17 | 0x32 => 23
  | _ => 0xFF

/-! ### Clock readings -/

/-- ps as a duration in the T96 layout, truncated (R35). -/
def psToT96 (ps : Nat) : Nat := ps * 2 ^ 48 / 1000000000000
/-- A T96 duration in ps, truncated. -/
def t96ToPs (t : Nat) : Nat := t * 1000000000000 / 2 ^ 48
/-- T96 now (R34): the accumulator without its 32 bits below the LSB. -/
def State.t96 (s : State) : Nat := s.time.t96x / 2 ^ 32 % 2 ^ 96
/-- GAT now (R9): 32-bit cycles and 32-bit fraction. -/
def State.gat (s : State) : Nat := s.time.gatx / 2 ^ 32 % 2 ^ 64
/-- The time an event is stamped with, and whether it is from the internal timebase (R589). -/
def State.stampNow (s : State) : Nat × Bool :=
  if s.time.isSet then (s.t96, false) else (psToT96 (s.now - s.power.startAt), true)

/-! ### Posting -/

/-- Depth of the input FIFO (R590) and of the hold buffer (R593). -/
def fifoDepth : Nat := 1024
def holdDepth : Nat := 4096

/-- Post an event: it is stamped and enters the input FIFO, or is dropped and counted when the FIFO is full (R590, R592).
In OFF, KENNEL and RECOVERY nothing is recorded (R596, R597). -/
def raiseFrom (source code : Nat) (params : List Byte) (s : State) : State :=
  if !s.powered || s.dev == stRecovery then s
  else if s.log.fifo.length < fifoDepth then
    let (st, int) := s.stampNow
    s.onLog fun l => { l with fifo := l.fifo ++ [⟨st, int, code, severityOf code, source, fit 16 params⟩] }
  else ((s.onLog fun l => { l with droppedInput := l.droppedInput + 1 }).bump 0x2E20 0x04).bump 0x2E20 0x08

/-- Raise an event of the block's own. -/
def raise (code : Nat) (params : List Byte) (s : State) : State := raiseFrom (sourceOf code) code params s

/-- How many events of this code and key were raised in the preceding second, [t − 1 s, t) (R719). -/
def recent (code key : Nat) (s : State) : Nat :=
  (s.log.limits.filter fun e => e.1 == code && e.2.1 == key && s.now ≤ e.2.2 + sec 1 && e.2.2 < s.now).length

/-- Raise an event at most n times per second per key (R719). -/
def raiseUpTo (n code key : Nat) (params : List Byte) (s : State) : State :=
  if recent code key s < n then
    (raise code params s).onLog fun l =>
      { l with limits := (l.limits.filter fun e => s.now ≤ e.2.2 + sec 1) ++ [(code, key, s.now)] }
  else s

/-- Raise an event at most once per second per key (R719). -/
def raiseOnce (code key : Nat) (params : List Byte) (s : State) : State := raiseUpTo 1 code key params s

/-- The summary window [openedAt, openedAt + 1 s) of a code and key is open (R720). -/
def windowOpen (code key : Nat) (s : State) (w : Window) : Bool := w.code == code && w.key == key && s.now < w.openedAt + sec 1

/-- Count occurrences in the summary window of a code and key; the first after the last window has run out opens the next (R720). -/
def countWindow (code key a b : Nat) (s : State) : State :=
  if s.log.windows.any (windowOpen code key s) then
    let add := fun (w : Window) => if windowOpen code key s w then { w with countA := w.countA + a, countB := w.countB + b } else w
    s.onLog fun l => { l with windows := l.windows.map add }
  else s.onLog fun l => { l with windows := l.windows ++ [⟨code, key, s.now, a, b⟩] }

/-! ### Sluices (R559–R561) -/

/-- Words a Sluice holds. -/
def sluiceWords : Nat := 16384
def State.sluice (s : State) (q : Nat) : Sluice := tabGet .reset s.host.sluices q
def State.setSluice (s : State) (q : Nat) (x : Sluice) : State :=
  s.onHost fun h => { h with sluices := putKey q x h.sluices }
/-- The fill: (WPTR − RPTR) modulo 2^15. -/
def Sluice.fill (x : Sluice) : Nat := (x.wptr + 32768 - x.rptr) % 32768

/-- The interrupt condition of a Sluice (R569). -/
def Sluice.wants (x : Sluice) : Bool :=
  (x.threshold != 0 && x.fill ≥ x.threshold) || (x.fill != 0 && x.delayPassed)
/-- Set a Sluice's interrupt bit when its condition holds. -/
def sluiceInterrupt (q : Nat) (s : State) : State := if (s.sluice q).wants then s.interrupt q else s

/-- Whether the device state feeds Sluice q (R571). -/
def State.feeds (s : State) (q : Nat) : Bool :=
  s.running || (s.dev == stStart && q == 2) || (s.dev == stSentinel && (q == 2 || q == 3)) || (s.dev == stSafeTalk && q == 2)

/-- Count a packet that could not be written (R561). -/
def sluiceLose (q : Nat) (owe : Bool) (s : State) : State :=
  let x := s.sluice q
  let n := if owe then Nat.min (x.lostSinceReport + 1) 0xFFFFFFFF else x.lostSinceReport
  let s := s.setSluice q { x with lost := true, lossOwed := x.lossOwed || owe, lostSinceReport := n }
  countWindow 0x2D03 q 1 0 (s.bump 0x2D10 0x03 q)

/-- Commit words to a Sluice as packets. -/
def sluiceCommit (q : Nat) (ps : List (List Nat)) (s : State) : State :=
  let x := s.sluice q
  let n := (ps.map List.length).foldl (· + ·) 0
  let was := x.packets.isEmpty
  let x := { x with packets := x.packets ++ ps, wptr := (x.wptr + n) % 32768,
                    oldestAt := if was then s.now else x.oldestAt, commitAt := x.commitAt ++ ps.map fun _ => s.now,
                    delayPassed := if was then x.delay == 0 else x.delayPassed }
  sluiceInterrupt q (s.setSluice q x)

/-- Post a device packet to Sluice q (R560, R561, R564): written, preceded by a loss packet when one is owed, or lost. -/
def sluicePost (q : Nat) (words : List Nat) (s : State) : State :=
  if !s.feeds q then s else
  let x := s.sluice q
  if x.testMode then sluiceLose q false s
  else
    let room := sluiceWords - x.fill
    if x.lossOwed then
      if words.length + 1 ≤ room then
        let loss := 0xE * 2 ^ 60 + x.lostSinceReport
        let s := s.setSluice q { x with lossOwed := false, lostSinceReport := 0 }
        (sluiceCommit q [[loss], words] s).addTo 0x2D10 0x02 1 q
      else sluiceLose q true s
    else if words.length ≤ room then (sluiceCommit q [words] s).addTo 0x2D10 0x02 1 q
    else sluiceLose q true s

/-- T96 as two words of a packet (R328): [95:32], then [31:0] in the high half. -/
def t96Words (t : Nat) : List Nat := [t / 2 ^ 32 % 2 ^ 64, t % 2 ^ 32 * 2 ^ 32]

end Sys2Proof.Machine
end

