-- ==== Sys2Proof/Machine/Clock.lean ====
section
/-! DEFINITION. The clocks: how T96, GAT and the uncertainty advance with the internal timebase (R34–R40, R49, R68, R81, R85), and the
begin and the end every command shares. -/

namespace Sys2Proof.Machine
open Sys2Proof

/-! ### T96 -/

/-- The timing subsystem runs (R85). -/
def State.timeRuns (s : State) : Bool := s.powered && s.dev != stRecovery

/-- A signed phase in ps as T96 accumulator units (2^-80 s), truncated toward zero. -/
def psToX (ps : Int) : Int := (ps * 2 ^ 80).tdiv 1000000000000

/-- The slew made in dt ps: at most the slew limit, at most what remains (R40). -/
def slewStep (limitPpm dt : Nat) (rem : Int) : Int :=
  let m : Int := dt * limitPpm / 1000000
  if rem > m then m else if rem < -m then -m else rem

/-- T96 and the remaining slew after dt ps: 10 ns × (1 + f + s) per TREF cycle. -/
def advanceT96 (limitPpm dt : Nat) (x : TimeSt) : TimeSt :=
  let k := slewStep limitPpm dt x.slew
  let base : Int := (dt * (1000000000000 + x.f) * 2 ^ 80).fdiv (1000000000000 * 1000000000000)
  { x with t96x := ((x.t96x + base + psToX k) % 2 ^ 128).toNat, slew := x.slew - k }

/-- The 2^-32 Hz pattern of a frequency in whole Hz. -/
def hz (n : Nat) : Nat := n * 2 ^ 32

/-- The frequency GAT runs at: nominal under NOMINAL unless pulling (R68, R69), else the tracker's. -/
def gatFrequency (fnom : Nat) (x : TimeSt) : Nat := if x.nominal && !x.pulling then hz fnom else x.gatRate

/-- GAT after dt ps; strictly increasing while it runs (R66). -/
def advanceGat (fnom dt : Nat) (x : TimeSt) : TimeSt :=
  if x.gatOn then { x with gatx := (x.gatx + dt * gatFrequency fnom x * 2 ^ 32 / 1000000000000) % 2 ^ 96 } else x

/-! ### Uncertainty (R37, R49, R81) -/

/-- Upper bound of an IEEE 1588 clockAccuracy in ps; 1 ms when it is 0xFE or not defined (R37).  DESIGN CHOICE (assumption 81): 0x31, more than
10 s, names no upper bound, and the model takes 10 s. -/
def accuracyPs (a : Nat) : Nat :=
  let t := [1, 3, 10, 25, 100, 250, 1000, 2500, 10000, 25000, 100000, 250000, 1000000, 2500000, 10000000, 25000000, 100000000,
            250000000, 1000000000, 2500000000, 10000000000, 25000000000, 100000000000, 250000000000, 1000000000000,
            10000000000000]
  if 0x17 ≤ a ∧ a ≤ 0x30 then t.getD (a - 0x17) 0 else if a = 0x31 then 10000000000000 else 1000000000

/-- Uncertainty named by an IEEE 1344 time-quality code in ps (R37). -/
def qualityPs (has1344 : Bool) (q : Nat) : Nat :=
  if !has1344 then 1000000000
  else [0, 1000, 10000, 100000, 1000000, 10000000, 100000000, 1000000000, 10000000000, 100000000000, 1000000000000,
        10000000000000].getD q 10000000000000

/-- A source's record by source code. -/
def TimeSt.source (x : TimeSt) (src : Nat) : Source := if src = 1 then x.ptp else if src = 2 then x.pps else x.irig
/-- Replace a source's record. -/
def TimeSt.setSource (x : TimeSt) (src : Nat) (r : Source) : TimeSt :=
  if src = 1 then { x with ptp := r } else if src = 2 then { x with pps := r } else if src = 3 then { x with irig := r } else x

/-- The Announce dataset of the chosen PTP port. -/
def TimeSt.announce (x : TimeSt) : Option Announce := x.ptpPort.bind fun p => lookup p x.announces

/-- A source's own uncertainty in ps (R37). -/
def TimeSt.ownUncertainty (x : TimeSt) (src : Nat) : Nat :=
  if src = 1 then (match x.announce with | some a => accuracyPs a.accuracy | none => 1000000000)
  else if src = 2 then 100000
  else match x.irigLast with | some f => qualityPs f.has1344 f.quality | none => 1000000000

/-- Holdover growth a·t + ½·b·t² in ps after t ps, a in ppb and b in ppb per day (R49), rounded up. -/
def holdoverGrowth (a b t : Nat) : Nat :=
  let d := 2 * 86400 * 1000000000 * 1000000000000
  (a * t * 2 * 86400 * 1000000000000 + b * t * t + (d - 1)) / d

/-- The uncertainty of T96 in ps (R37). -/
def State.uncertaintyPs (s : State) : Nat :=
  let x := s.time
  if !x.isSet then 0
  else if x.servo = 3 then x.u0 + holdoverGrowth (if x.trefLost then 100000 else s.cfg 0x2001 0x0A) (s.cfg 0x2001 0x0B) (s.now - x.holdAt)
  else if 1 ≤ x.selected ∧ x.selected ≤ 3 then
    x.ownUncertainty x.selected + (x.source x.selected).offset.natAbs + x.slew.natAbs
  else x.u0

/-- The time-quality class of an uncertainty (R37). -/
def classOf (isSet : Bool) (ps : Nat) : Nat :=
  if !isSet then 7
  else if ps ≤ 100000 then 0 else if ps ≤ 1000000 then 1 else if ps ≤ 10000000 then 2 else if ps ≤ 100000000 then 3
  else if ps ≤ 1000000000 then 4 else if ps ≤ 10000000000 then 5 else 6

/-- The device's time-quality class now. -/
def State.timeClass (s : State) : Nat := classOf s.time.isSet s.uncertaintyPs

/-! ### TAI–UTC offset (R54) -/

/-- Δ in use: the selected PTP source's while its currentUtcOffsetValid is set, with a leap it has not announced yet; else the configured one,
with the leaps applied since. -/
def State.delta (s : State) : Int :=
  let configured := s.cfgInt 0x2001 0x0E + s.time.leapApplied
  match (if s.time.selected = 1 then s.time.announce else none) with
  | some a => if a.utcValid then a.utcOffset + s.time.ptpLeap else configured
  | none => configured

/-- T96 seconds now. -/
def State.t96Sec (s : State) : Nat := s.t96 / 2 ^ 48

/-! ### GAT flags (R70) -/

/-- 0x2011:02 GAT flags. -/
def State.gatFlags (s : State) : Nat :=
  b2n s.time.nominal + 2 * b2n s.time.pulling + 4 * b2n s.time.estimated + 8 * b2n (!s.time.gatOn)

/-! ### The begin and the end of every command -/

/-- The whole cycles GAT reached between two states of the clocks, each with the T96 instant at which it did, newest first (R76). -/
def cycleEdges (x y : TimeSt) : List (Nat × Nat) :=
  let d := (y.gatx + 2 ^ 96 - x.gatx) % 2 ^ 96
  let n := (x.gatx % 2 ^ 64 + d) / 2 ^ 64
  let dx : Int := (y.t96x : Int) - (x.t96x : Int)
  (List.range (Nat.min n 16)).map fun k =>
    let g : Nat := (n - k) * 2 ^ 64 - x.gatx % 2 ^ 64
    let at_ : Int := ((x.t96x : Int) + dx * (g : Int) / (d : Int)) / 2 ^ 32
    ((x.gatx / 2 ^ 64 + (n - k)) % 2 ^ 32, at_.toNat % 2 ^ 96)

/-- The clocks after dt ps: T96, GAT, and the cycles it reached. -/
def advanceTime (fnom limitPpm dt : Nat) (x : TimeSt) : TimeSt :=
  let y := advanceGat fnom dt (advanceT96 limitPpm dt x)
  { y with edges := (cycleEdges x y ++ x.edges).take 16 }

/-- Bring the clocks to instant t of the internal timebase; an instant in the past is taken as now.  The outputs of the step before are
gone. -/
def State.advance (t : Nat) (s : State) : State :=
  let dt := t - s.now
  let x := if s.timeRuns then advanceTime s.fnom (s.cfg 0x2001 0x09) dt s.time else s.time
  { s with now := s.now + dt, outs := [], time := x }

/-- The level of FAULT_N: true when asserted low (R605). -/
def faultLevel (p : PowerSt) : Bool :=
  p.resetLow || p.state == stStart || p.state == stSentinel || p.state == stSafeTalk || p.state == stRecovery ||
  (p.state == stKennel && p.wakeFault) || ((p.state == stRun || p.state == stTrim) && p.shepherdFailed)

/-- The power record with the FAULT_N pin at its level. -/
def PowerSt.showFault (p : PowerSt) : PowerSt := { p with faultN := faultLevel p }

/-- Event 0x2006 when the time-quality class has changed (R88). -/
def reportClass (s : State) : State :=
  if s.timeClass = s.time.lastClass then s
  else (raise 0x2006 (be 1 s.time.lastClass ++ be 1 s.timeClass) s).onTime fun x => { x with lastClass := s.timeClass }

/-- What follows from the state a command leaves: the FAULT_N pin (R605), and the event of a changed time-quality class. -/
def settle (s : State) : State := reportClass (s.onPower PowerSt.showFault)

/-- A command's outcome: its effect between the begin and the end every command shares. -/
def complete (t : Nat) (effect : State → State) (s : State) : Host.Outcome State Fault Refusal :=
  .next (settle (effect (s.advance t)))

end Sys2Proof.Machine
end

