-- ==== Sys2Proof/Machine/Gate.lean ====
section
/-! DEFINITION. The checks before an Imian operation (R521): transport and device state (R537), existence (R516), role (R518, R519,
R536), access, type, range (R11); and the frame every COMMAND shares. -/

namespace Sys2Proof.Machine
open Sys2Proof

/-- What a request does, as far as R537 tells operations apart. -/
inductive OpKind where
  | read | summary | write | command | swap | subscribe | writeSeg
deriving DecidableEq, Repr

/-! ### Ranges (check 7) -/

/-- A supported reporting rate of R143: frames per second, or negative for seconds per frame. -/
def isRate (n : Int) : Bool :=
  [1, 2, 5, 10, 12, 15, 20, 25, 30, 50, 60, 100, 120, 200, 240, -2, -5, -10, -30, -60].contains n

/-- A numeric pattern as a signed integer, under its type. -/
def Ty.toInt (ty : Ty) (n : Nat) : Int :=
  match ty with
  | .i16 => ofTwos 16 n | .i32 => ofTwos 32 n | .i64 => ofTwos 64 n | _ => n

/-- The range check of a written value (R521 check 7, R11, R517). -/
def inRange (o : ObjRow) (v : Val) : Bool :=
  let n := v.bits
  let q := match o.ty with | .f64 => binary64.toQ n | _ => binary32.toQ n
  match o.rng with
  | .any => true
  | .iv l => l.any fun p => p.1 ≤ o.ty.toInt n && o.ty.toInt n ≤ p.2
  | .fiv lo hi => match q with | some x => Q.le (f32 lo) x && Q.le x (f32 hi) | none => false
  | .fpos => match q with | some x => Q.lt Q.zero x | none => !binary32.isNaN n && !bit n 31
  | .fnonneg => match q with | some x => Q.le Q.zero x | none => !binary32.isNaN n && !bit n 31
  | .fnonzero => match q with | some x => x.num != 0 | none => !binary32.isNaN n
  | .step lo hi k => lo ≤ n && n ≤ hi && (n - lo) % k == 0
  | .rates zero => isRate (o.ty.toInt n) || (zero && n == 0)
  | .size k => v.bytes.length == k
  | .chars lo hi => lo ≤ v.bytes.length && v.bytes.length ≤ hi && v.bytes.all fun b => 0x20 ≤ b.toNat && b.toNat ≤ 0x7E
  | .dom lo hi => lo ≤ v.bytes.length && v.bytes.length ≤ hi
  | .combiner => field n 31 28 == 0 && field n 23 18 == 0 && field n 17 16 != 3

/-! ### Requesters -/

/-- The session of a DTLS requester. -/
def State.session (s : State) (n : Nat) : Option Session := lookup n s.imian.sessions

/-- The session row of a requester: the mailbox is row 16; a CAN controller has none. -/
def whoRow : Who → Nat
  | .dtls n => n
  | .mailbox => 16
  | .can _ => 0xFF

/-- The role of a requester (R532, R533, R536): the boot ROM serves its subset without sessions, as Engineer (R667, assumption 11). -/
def State.roleOf (s : State) (w : Who) : Option Nat :=
  if s.dev == stRecovery then some 3 else
  match w with
  | .dtls n => (s.session n).map (·.role)
  | .mailbox => some (s.cfg 0x1100 0x05)
  | .can _ => some 1

/-- Whether a role holds the rights an access asks for: Observer < Operator < Engineer; Security Officer has the Observer's rights and
its own (R518, R519). -/
def roleHas (role need : Nat) : Bool :=
  if need = 4 then role == 4 else if need ≤ 1 then 1 ≤ role else role != 4 && need ≤ role

/-- Whether a message from this requester reaches Byrdo at all: its session is open, its transport runs (R577, R667). -/
def State.reaches (s : State) (w : Who) : Bool :=
  s.powered && !s.log.byrdoDown && !(s.dev == stSafeTalk && s.keys.integrityFailed) &&
  (match w with
   | .dtls _ => s.dev == stRecovery || (s.roleOf w).isSome
   | .mailbox => s.host.linkUp
   | .can n => s.cfgB 0x1100 0x06 n && s.cfg 0x1100 0x0B n != 0 && s.dev != stRecovery)

/-- Operations and transports offered in each device state (R537, R536, R667); the object matters in RECOVERY. -/
def offered (s : State) (w : Who) (k : OpKind) (idx sub : Nat) : Bool :=
  let isRead := k == .read || k == .summary
  let canOk := k == .read || k == .command
  if s.dev == stStart then
    match w with
    | .dtls _ => s.power.setLoaded || (isRead && !s.keys.integrityFailed)
    | .mailbox => s.power.setLoaded || isRead
    | .can _ => s.power.setLoaded && canOk
  else if s.running then (match w with | .can _ => canOk | _ => true)
  else if s.dev == stSentinel then (match w with | .dtls _ => true | .mailbox => false | .can _ => canOk)
  else if s.dev == stSafeTalk then (match w with | .dtls _ => k != .swap | .mailbox => false | .can _ => k == .read)
  else if s.dev == stRecovery then
    (match w with
     | .can _ => false
     | _ => k == .summary || (k == .read && [0x1000, 0x1001, 0x3000, 0x3001, 0x3111, 0x3113].contains idx) ||
            (k == .writeSeg && (idx == 0x3110 || idx == 0x3010)) ||
            (k == .command && [(0x3030, 1), (0x3130, 2), (0x1030, 1)].contains (idx, sub)))
  else false

/-- Subsystems a device state stops (R571, R624, R627), by the high byte of their index: a live write or a command to one is refused
with 0x0D (R537). -/
def stopped (s : State) (idx : Nat) : Bool :=
  let cdie := [0x22, 0x23, 0x24, 0x25, 0x26, 0x28, 0x2C, 0x32]
  let gdie := [0x29, 0x2A, 0x2B]
  if s.dev == stSentinel then cdie.contains (idx / 256)
  else if s.dev == stSafeTalk then (cdie ++ gdie).contains (idx / 256)
  else false

/-- Objects whose writes are enables of the four-state rule: stored while the device state holds the function stopped (R607). -/
def isEnable (idx sub : Nat) : Bool :=
  [(0x2201, 1), (0x2901, 1), (0x2910, 1), (0x2A00, 1), (0x2C01, 0x0A)].contains (idx, sub)

/-- Row checks of checks 3 and 7: none when the row and count are right, else the status. -/
def rowStatus (o : ObjRow) (row count : Nat) : Nat :=
  if o.rows = 0 then (if row = noRow ∧ count = 1 then 0 else if row ≠ noRow then 0x01 else 0x05)
  else if row = noRow then 0x01
  else if row ≥ o.rows then 0x01
  else 0

/-- The first row of the key-blob tables is 1 (R668). -/
def rowMissing (o : ObjRow) (row : Nat) : Bool := (o.idx == 0x3020 || o.idx == 0x3021) && row == 0

/-! ### The frame of a COMMAND -/

/-- Commands a CAN FD session may issue (R536). -/
def canCommand (idx sub : Nat) : Bool := [(0x2730, 1), (0x2830, 1), (0x2A30, 1), (0x2B30, 1)].contains (idx, sub)

/-- The status of checks 2 to 7 of R521 for a COMMAND; 0 when all pass. -/
def commandStatus (idx sub row : Nat) (arg : Val) (w : Who) (s : State) : Nat :=
  let isCan := match w with | .can _ => true | _ => false
  let kind := if idx == 0x1201 && sub == 2 && !isCan then OpKind.swap else OpKind.command
  if !offered s w kind idx sub || (stopped s idx) then 0x0D
  else match findObj idx sub with
    | none => 0x01
    | some o =>
      if rowStatus o row 1 == 0x01 then 0x01
      else
        let role := (s.roleOf w).getD 0
        let need := match o.acc with | .cmd r => r | .rw r => r | .rws r => r | .ro => 1
        let allowed := match w with | .can _ => canCommand idx sub | _ => roleHas role need
        if !allowed then 0x02
        else match o.acc with
          | .cmd _ => if inRange o arg then 0 else 0x05
          | _ => 0x03

/-- Account for an executed request: counters and session (R554). -/
def account (w : Who) (code : Nat) (s : State) : State :=
  let s := s.bump 0x1120 0x01
  let s := if code = 0 then s else s.bump 0x1120 0x02
  match w with
  | .dtls n =>
    match s.session n with
    | some x => s.onImian fun i =>
        { i with sessions := putKey n { x with lastUse := s.now, requests := (x.requests + 1) % 2 ^ 32 } i.sessions }
    | none => s
  | .mailbox => s.onImian fun i => { i with mailbox := { i.mailbox with requests := (i.mailbox.requests + 1) % 2 ^ 32 } }
  | .can _ => s

/-- Check a COMMAND and carry it out: the new state and the item's status.  `body` makes check 8 and the effect. -/
def tryCommand (idx sub row : Nat) (arg : Val) (w : Who) (body : State → State × Nat) (s : State) : State × Nat :=
  let c := commandStatus idx sub row arg w s
  if c = 0 then body s else (s, c)

/-- A COMMAND from a requester: checked, carried out or refused, accounted for and answered (R521, R527). -/
def runCommand (idx sub row : Nat) (arg : Val) (w : Who) (body : State → State × Nat) (s : State) : State :=
  if s.reaches w then
    let (s', c) := tryCommand idx sub row arg w body s
    (account w c s').emit (.status w c)
  else s

/-- The status of checks 2 to 7 of R521 for a WRITE of one row of an object (R518, R540); 0 when all pass.  System job rows are not written
(R498). -/
def writeStatus (idx sub row : Nat) (v : Val) (w : Who) (s : State) : Nat :=
  if !offered s w .write idx sub then 0x0D
  else match findObj idx sub with
    | none => 0x01
    | some o =>
      if rowStatus o row 1 == 0x01 || rowMissing o row then 0x01
      else
        let role := (s.roleOf w).getD 0
        let need := match o.acc with | .cmd r => r | .rw r => r | .rws r => r | .ro => 1
        if !roleHas role need then 0x02
        else if (idx == 0x2C01 && row ≥ 3840) || (idx == 0x2C02 && row ≥ 30720) then 0x03
        else match o.acc with
          | .ro => 0x03
          | .cmd _ => 0x03
          | .rw _ => if o.ty == .domain then 0x04 else if stopped s idx && !isEnable idx sub then 0x0D else if inRange o v then 0 else 0x05
          | .rws _ => if o.ty == .domain then 0x04 else if inRange o v then 0 else 0x05

/-- A WRITE of one RW object that has a row of its own in the command table: checked, stored in the live store (R520), its effect made,
and answered. -/
def runWrite (idx sub row : Nat) (v : Val) (w : Who) (effect : State → State) (s : State) : State :=
  if s.reaches w then
    let c := writeStatus idx sub row v w s
    let s := if c = 0 then effect (s.setLive idx sub row v) else s
    (account w c s).emit (.status w c)
  else s

/-- A command without argument and without row. -/
def runPlain (idx sub : Nat) (w : Who) (body : State → State × Nat) (s : State) : State :=
  runCommand idx sub noRow (.num 0) w body s

/-- An effect that always succeeds. -/
def ok (f : State → State) (s : State) : State × Nat := (f s, 0)

end Sys2Proof.Machine
end

