-- ==== Sys2Proof/Machine/KeyStore.lean ====
section
/-! DEFINITION. The key store's pure side: life-cycles, roots, blobs and the key cache (R639, R640, R652–R655). -/

namespace Sys2Proof.Machine
open Sys2Proof

/-- The life-cycle of n blown bits (R639): 0 BLANK, 1 PROVISIONED, 2 FIELD, 3 RECOVERY, 4 RETIRED. -/
def lifeOf (n : Nat) : Nat := if n = 0 then 0 else if n = 1 then 1 else if n ≥ 15 then 4 else if n % 2 = 0 then 2 else 3
/-- The life-cycle in force. -/
def State.life (s : State) : Nat := lifeOf s.power.lifeBits

/-- The root in force, from which the transport key is derived, and in FIELD and RECOVERY the blob and DTLS keys (R640): 0 K_MFG, 1 K_FLD,
2 K_RCV. -/
def rootOf (life : Nat) : Option Nat := if life = 1 then some 0 else if life = 2 then some 1 else if life = 3 then some 2 else none

/-- The key store derives and unwraps: not LOCKED (R645), its integrity not failed (R644). -/
def State.derives (s : State) : Bool := !s.keys.locked && !s.keys.integrityFailed

/-- The measurements a binding names as salt (R653): the running one, and while in trial the previous one too (R643). -/
def saltsOf (k : KeySt) (binding : Nat) : List (List Byte) :=
  let trial := bit k.bankWord 8
  if binding = 0 then [[]]
  else if binding = 1 then k.measuredB :: (if trial then [k.previousMeasuredB] else [])
  else k.measuredS :: (if trial then [k.previousMeasuredS] else [])

/-- The blob of a handle: the loaded one before the stored one (R654). -/
def blobOf (k : KeySt) (h : Nat) : Option Blob := match lookup h k.loaded with | some b => some b | none => lookup h k.blobs
/-- A blob's usage (R652). -/
def Blob.usage (b : Blob) : Nat := byteAt b.header 2

/-- Unwrap a blob under the root in force (R653). -/
def unwrapKey (s : State) (b : Blob) : Option (List Byte) :=
  if !s.derives then none
  else match (if s.life = 2 ∨ s.life = 3 then rootOf s.life else none) with
    | none => none
    | some r => ((saltsOf s.keys (byteAt b.header 3)).filterMap fun salt => Config.unwrapBlob r salt (b.header ++ b.wrapped)).head?

/-- The objects that name key handles, with the usages they take (R655, R535, R166, R361, R384). -/
def keyNames : List (Nat × Nat × List Nat) :=
  [(0x1100, 0x0B, [2]), (0x2201, 0x0E, [0, 1]), (0x2201, 0x0F, [0, 1]), (0x2700, 0x0B, [0]), (0x2801, 0x0B, [0])]

/-- Every handle a set names, with the usages the naming object takes. -/
def namedKeys (d : Dict) : List (Nat × List Nat) :=
  keyNames.flatMap fun o => (rowsOf d o.1 o.2.1).filterMap fun r =>
    let h := (readIn d o.1 o.2.1 r).bits
    if h = 0 then none else some (h, o.2.2)

/-- The distinct handles a set names. -/
def namedHandles (d : Dict) : List Nat := ((namedKeys d).map fun p => p.1).eraseDups

/-- Fill the cache at a set load and at a swap: 256 keys at most (R655). -/
def fillCache (s : State) : State :=
  let hs := (namedHandles s.active).take 256
  let cache : Tab (Nat × List Byte) := hs.foldl (fun c h =>
    match (blobOf s.keys h).bind (fun b => (unwrapKey s b).map fun k => (b.usage, k)) with | some e => putKey h e c | none => c) []
  s.onKeys fun k => { k with cache := cache, unusable := hs.filter fun h => (blobOf k h).isSome && (lookup h cache).isNone }

/-- The key of a handle, when it is cached under a usage asked for. -/
def keyOf (s : State) (h : Nat) (usages : List Nat) : Option (List Byte) :=
  match lookup h s.keys.cache with
  | some e => if usages.contains e.1 then some e.2 else none
  | none => none

/-- A use of a handle whose key is not there is counted and raises event 0x3005 (R655). -/
def keyUsed (h : Nat) (usages : List Nat) (s : State) : State :=
  if h = 0 || (keyOf s h usages).isSome then s
  else
    let cause : Nat := match lookup h s.keys.cache with | some _ => 2 | none => if (blobOf s.keys h).isSome then 1 else 0
    raiseOnce 0x3005 h (le 2 h ++ le 1 cause) (s.bump 0x3040 0x03)

end Sys2Proof.Machine
end

