-- ==== Sys2Proof/Machine/Members.lean ====
section
/-! DEFINITION. Role, pair state, pack members and homes (R230, R263, R672, R673, R685, R687). -/

namespace Sys2Proof.Machine
open Sys2Proof

/-- Role (0x3210:01) and pair state (0x3210:02). -/
def roleNow (s : State) : Nat := s.ro 0x3210 0x01
def pairStateNow (s : State) : Nat := s.ro 0x3210 0x02
/-- A Wheel that takes its decisions from the Lead's records (R230); one in DETACHED takes them itself (R681). -/
def follows (s : State) : Bool := roleNow s == 2 && pairStateNow s != 3
/-- A Lead with a peer. -/
def leads (s : State) : Bool := roleNow s == 1 && s.duplex.peer.isSome

/-- The device is a pack member; its own ID; the IDs present, its own among them, rising. -/
def inPack (s : State) : Bool := roleNow s == 3
def memberId (s : State) : Nat := s.cfg 0x3200 0x03
def presentIds (s : State) : List Nat := (List.range 16).filter fun m => m == memberId s || (lookup m s.duplex.members).isSome
/-- The placing member: the lowest present ID (R263, R687). -/
def placerOf (s : State) : Nat := (presentIds s).headD (memberId s)
/-- This device runs what a pack's placing member alone runs; any device outside a pack does. -/
def placesHere (s : State) : Bool := !inPack s || placerOf s == memberId s
/-- A pack with other members present. -/
def packed (s : State) : Bool := inPack s && !s.duplex.members.isEmpty

/-- The home of a stream in a pack. -/
def homeOf (s : State) (h : Nat) : Option Nat := (lookup h s.duplex.homes).map (·.1)
/-- A stream whose home is this device: any outside a pack, and one without a home yet (R689). -/
def homeHere (s : State) (h : Nat) : Bool :=
  !inPack s || (match homeOf s h with | some m => m == memberId s | none => true)
/-- A stream that counts towards this device's admitted load: its home or its mirror lies here (R263). -/
def servedHere (s : State) (h : Nat) : Bool :=
  homeHere s h || (match lookup h s.duplex.homes with | some (_, m) => m == memberId s | none => true)

/-- Detectors ON of the other members (R688, type 18). -/
def countsElsewhere (s : State) (p b : Nat) : Nat :=
  if packed s then
    (s.duplex.members.map fun (m : Nat × Member) => tabGet 0 s.duplex.pack.counts (m.1 * 65536 + p * 256 + b)).foldl (fun (a n : Nat) => a + n) 0
  else 0

def State.onPack (s : State) (f : PackData → PackData) : State := s.onDuplex fun d => { d with pack := f d.pack }

end Sys2Proof.Machine
end

