-- ==== Sys2Proof/Machine/Time.lean ====
section
/-! DEFINITION. Absolute time and grid-angle time (chapter 02): sources, holdover, steps, leap seconds, GAT, pulses. -/

namespace Sys2Proof.Machine
open Sys2Proof

/-! ### Sources -/

/-- A time-source input is enabled and its decoder runs in this device state (R85). -/
def sourceEnabled (s : State) (src : Nat) : Bool :=
  if src = 1 then s.cfgB 0x2002 0x01 && s.timeRuns
  else if src = 2 then s.cfgB 0x2004 0x02 && s.gdieOn
  else src == 3 && s.cfgB 0x2004 0x01 && s.gdieOn

/-- Rank of a source in 0x2001:01–04 Source priority; 4 when it stands in none. -/
def sourceRank (s : State) (src : Nat) : Nat :=
  if s.cfg 0x2001 1 = src then 0 else if s.cfg 0x2001 2 = src then 1 else if s.cfg 0x2001 3 = src then 2
  else if s.cfg 0x2001 4 = src then 3 else 4

/-- The qualified source that stands highest in the priority list (R50). -/
def bestSource (s : State) : Option Nat :=
  [1, 2, 3].foldl (fun b k =>
    if (s.time.source k).qualified && sourceRank s k < 4 then
      match b with | some j => if sourceRank s k < sourceRank s j then some k else b | none => some k
    else b) none

/-- An Int as an I64 event parameter, little-endian (R589). -/
def i64 (n : Int) : List Byte := le 8 (toTwos 64 n)
/-- An Int as an I32 event parameter, little-endian (R589). -/
def i32 (n : Int) : List Byte := le 4 (toTwos 32 n)

/-- T96 against a T96 instant (T96 − instant), to the nearest ps. -/
def State.t96Minus (s : State) (instant : Nat) : Int :=
  (((s.time.t96x : Int) - (instant : Int) * 2 ^ 32) * 1000000000000 + 2 ^ 79).fdiv (2 ^ 80)

/-- Move T96 by a phase in ps; the sources' offsets move with it and nothing is left to slew. -/
def shiftT96 (ps : Int) (x : TimeSt) : TimeSt :=
  let sh := fun (r : Source) => { r with offset := r.offset + ps }
  { x with t96x := ((x.t96x + psToX ps) % 2 ^ 128).toNat, slew := 0, epoch := x.epoch + 1, ptp := sh x.ptp, pps := sh x.pps, irig := sh x.irig }

/-- Step T96 (R41): event 0x2002 with the signed step in ns and a count; a difference of exactly 0 makes no step. -/
def stepT96 (ps : Int) (src : Nat) (s : State) : State :=
  if ps = 0 then s.onTime fun x => { x with slew := 0 }
  else (raise 0x2002 (i64 (ps.tdiv 1000) ++ be 1 src) (s.onTime (shiftT96 ps))).bump 0x2030 0x03

/-- The reference bus meets none of the loss conditions (R67). -/
def refValid (s : State) : Bool :=
  s.time.refBits == 0 && (match s.time.refSeen with | some a => s.now ≤ a + ms (s.cfg 0x2010 0x07) | none => false)

/-- The first condition of R67 that holds, in its order. -/
def lossCondition (s : State) : Nat :=
  if bit s.time.refBits 0 then 0 else if bit s.time.refBits 1 then 1 else if bit s.time.refBits 2 then 2 else 3

/-- Set NOMINAL and raise event 0x2008 (R68). -/
def setNominal (s : State) : State :=
  raise 0x2008 (be 1 (lossCondition s)) (s.onTime fun x => { x with nominal := true, pulling := false })

/-- The reference phase now, 2^-64 cycle, from the last sample and the measured frequency. -/
def refPhaseNow (s : State) : Nat :=
  let dt := s.now - s.time.refSeen.getD s.now
  (s.time.refPhase * 2 ^ 32 + dt * s.time.refFreq * 2 ^ 32 / 1000000000000) % 2 ^ 64

/-- GAT starts at a value, in 2^-64 cycle: with the bus it tracks, or under NOMINAL (R68, R71, R72). -/
def startGat (g : Nat) (s : State) : State :=
  let valid := refValid s
  let s := s.onTime fun x => { x with gatOn := true, gatx := g % 2 ^ 96, pulling := false, nominal := false, edges := [],
                                      gatRate := if valid then x.refFreq else hz s.fnom }
  if valid then s else setNominal s

/-- Start GAT nearest a target, in 2^-64 cycle: the fraction is the reference phase when the bus is valid, else the target's (R71). -/
def startGatAt (target : Nat) (s : State) : State :=
  let d := (refPhaseNow s + 2 ^ 64 - target % 2 ^ 64) % 2 ^ 64
  startGat (if !refValid s then target else if d < 2 ^ 63 then target + d else target + 2 ^ 96 + d - 2 ^ 64) s

/-- Start GAT from T96 × nominal frequency within START (R71). -/
def startGatFromT96 (s : State) : State :=
  if s.dev == stStart && !s.time.gatOn then startGatAt (s.time.t96x * s.fnom / 2 ^ 16 % 2 ^ 96) s else s

/-- Initialise T96 (R42): event 0x2001 with the source and the uncertainty in ns; GAT starts within START (R71). -/
def initialiseT96 (ps : Int) (src : Nat) (s : State) : State :=
  let s := s.onTime fun x => { shiftT96 ps x with isSet := true, setAt := if x.isSet then x.setAt else s.now, selected := src }
  let s := raise 0x2001 (be 1 src ++ le 8 (s.uncertaintyPs / 1000)) s
  startGatFromT96 s

/-- Event 0x2003 and a count, when the selected source has changed from one source to another (R50). -/
def sourceChanged (old src reason : Nat) (s : State) : State :=
  if old = 0 ∨ old = src then s else (raise 0x2003 (be 1 old ++ be 1 src ++ be 1 reason) s).bump 0x2030 0x01
/-- The source in use, or the one whose disqualification began the holdover. -/
def TimeSt.sourceBefore (x : TimeSt) : Nat := if x.selected = 0 then x.lastSource else x.selected

/-- Whether an offset lies within the acceptance window (R47). -/
def accepted (offset : Int) (s : State) : Bool :=
  !s.time.isSet || offset.natAbs ≤ us (s.cfg 0x2001 0x0D) + s.uncertaintyPs

/-- Report a disagreement of the selected PTP source's and the configured TAI–UTC offset once per change of either (R55). -/
def reportDelta (s : State) : State :=
  let cfg := s.cfgInt 0x2001 0x0E
  match (if s.time.selected = 1 then s.time.announce else none) with
  | none => s
  | some a =>
    if !a.utcValid then s
    else if a.utcOffset = cfg then s.onTime fun x => { x with deltaReported := none }
    else if s.time.deltaReported = some (a.utcOffset, cfg) then s
    else raise 0x2011 (i32 a.utcOffset ++ i32 cfg) (s.onTime fun x => { x with deltaReported := some (a.utcOffset, cfg) })

/-- Select a source (R50, R51): its difference is slewed out, or stepped in START before RUN (R41), unless it lies outside the acceptance window,
when it is not followed (R48).  The leap of the source before is no longer scheduled (R56). -/
def selectSource (src reason : Nat) (s : State) : State :=
  let old := s.time.sourceBefore
  let r := s.time.source src
  let inside := accepted r.offset s
  let steps := s.dev == stStart && !s.power.ran
  let s := s.onTime fun x => { x with selected := src, lastSource := 0, servo := 2, limitRaised := false, leap := none,
                                      slew := if inside && !steps then -r.offset else 0 }
  let s := if steps && inside then stepT96 (-r.offset) src s else s
  reportDelta (sourceChanged old src reason s)

/-- Enter holdover from the selected source (R49): f held, slew abandoned, no source selected (assumption 10), its leap no longer scheduled
(R56). -/
def enterHoldover (s : State) : State :=
  let u := s.uncertaintyPs
  let old := s.time.selected
  let s := s.onTime fun x => { x with servo := 3, holdAt := s.now, u0 := u, slew := 0, selected := 0, lastSource := old,
                                      limitRaised := false, leap := none }
  (raise 0x2004 (be 1 old) s).bump 0x2030 0x02

/-- Disqualify a source; when it is the selected one, holdover begins at once (R49). -/
def disqualify (src : Nat) (s : State) : State :=
  let r := s.time.source src
  let s := s.onTime fun x => x.setSource src { r with qualified := false, okSince := none }
  if s.time.selected = src then enterHoldover s else s

/-- The reference oscillator measured against a source: f follows the selected source within ±200 ppm while it is accepted; beyond that limit the
instant it began is kept, and an offset back within it ends the declaration (R39, R48). -/
def measureF (src : Nat) (filtered : Int) (inside : Bool) (s : State) : State :=
  let est := Config.servoFrequency s.time.f filtered
  let far := est.natAbs > 200000000
  let f : Int := if est > 200000000 then 200000000 else if est < -200000000 then -200000000 else est
  s.onTime fun x =>
    let r := x.source src
    let x := x.setSource src { r with farSince := if far && r.qualified then some (r.farSince.getD s.now) else none }
    { x with f := if x.selected = src && inside then f else x.f, trefOutOfRange := x.trefOutOfRange && far }

/-- A source has been heard without a gap: three announce intervals of 1 s for PTP, every second for 1PPS and IRIG-B (R47). -/
def unbroken (src : Nat) (s : State) : Bool :=
  let r := s.time.source src
  if src = 1 then s.now ≤ r.lastSeen + sec 3 && s.now ≤ r.lastAnnounce + sec 3 else 2 * s.now ≤ 2 * r.lastSeen + sec 3

/-- Take a measurement of a source: filtered offset, acceptance, disagreement (R48), the condition's run without interruption (R47), and the slew
that follows the selected source (R40).  The difference of event 0x2010 is source minus T96, of the measurement itself and not the filtered one:
DESIGN CHOICE (assumption 82). -/
def measure (src : Nat) (raw filtered : Int) (steady : Bool) (s : State) : State :=
  let r := s.time.source src
  let inside := accepted filtered s
  let enters := !inside && !r.inDisagreement
  let good := steady && inside
  let since := if unbroken src s then r.okSince.getD s.now else s.now
  let s := measureF src filtered inside s
  let r := { s.time.source src with offset := filtered, lastSeen := s.now, inDisagreement := !inside, okSince := if good then some since else none }
  let s := s.onTime fun x => x.setSource src r
  let s := if enters then (raise 0x2010 (i64 ((-raw).tdiv 1000) ++ be 1 src) s).bump 0x2030 0x06 else s
  if s.time.selected = src && inside then s.onTime fun x => { x with slew := -filtered } else s

/-- The better of two Announce datasets, by the best-master-clock comparison of IEEE 1588. -/
def betterMaster (a b : Announce) : Bool :=
  let la := [a.priority1, a.clockClass, a.accuracy, a.variance, a.priority2, a.gm, a.steps, a.parent]
  let lb := [b.priority1, b.clockClass, b.accuracy, b.variance, b.priority2, b.gm, b.steps, b.parent]
  decide (la < lb)

/-- The port whose dataset is best. -/
def bestPort (t : Tab Announce) : Option Nat :=
  (t.foldl (fun b e => match b with
    | some f => if betterMaster e.2 f.2 then some e else b
    | none => some e) (none : Option (Nat × Announce))).map (·.1)

/-- Datasets heard within three announce intervals of 1 s (R44, R47). -/
def freshAnnounces (s : State) : Tab Announce := s.time.announces.filter fun e => s.now ≤ e.2.heardAt + sec 3

/-- The UTC second now. -/
def State.utcSec (s : State) : Int := s.t96Sec - s.delta

/-- Schedule the leap a selected source indicates, at a UTC second (R56). -/
def scheduleLeap (utc : Nat) (sign : Int) (s : State) : State := s.onTime fun x => { x with leap := some (utc * 2 ^ 48, sign) }

/-- The best port is chosen anew among the datasets still heard; a change of grandmaster is reported and interrupts the qualification, and a change
of the announced offset ends the correction of a leap (R44, R47, R54). -/
def choosePtp (before : Option Announce) (s : State) : State :=
  let s := s.onTime fun x => { x with ptpPort := bestPort (freshAnnounces s) }
  match s.time.announce with
  | none => s
  | some b =>
    let s := if before.map (·.gm) = some b.gm then s
      else raise 0x200E (be 8 b.gm) (s.onTime fun x => { x with ptp := { x.ptp with okSince := none } })
    let s := if before.map (·.utcOffset) = some b.utcOffset then s else s.onTime fun x => { x with ptpLeap := 0 }
    (s.setRoBytes 0x2003 0x01 (be 10 b.parent)).setRoBytes 0x2003 0x02 (be 8 b.gm)

/-- Take an Announce. -/
def takeAnnounce (port : Nat) (a : Announce) (s : State) : State :=
  let before := s.time.announce
  let s := s.onTime fun x => { x with announces := putKey port a x.announces, ptp := { x.ptp with lastAnnounce := s.now } }
  let s := choosePtp before s
  match s.time.announce with
  | none => s
  | some b =>
    let s := if b.clockClass > 187 then disqualify 1 s else s
    let s := reportDelta s
    if s.time.selected = 1 then
      if b.leap61 || b.leap59 then scheduleLeap ((s.utcSec.toNat / 86400 + 1) * 86400) (if b.leap61 then 1 else -1) s
      else s.onTime fun x => { x with leap := none }
    else s

/-- The ingress stamp of a frame on a port: T96 at the boundary, corrected by 0x2006:01 (R59), in units of 2^-80 s. -/
def State.ingressX (s : State) (port : Nat) : Int := (s.time.t96x : Int) - psToX (s.cfgInt 0x2006 0x01 port)
/-- The ingress stamp of a frame on a port as T96. -/
def State.ingressT96 (s : State) (port : Nat) : Nat := (s.ingressX port / 2 ^ 32).toNat % 2 ^ 96
/-- The egress stamp of a frame that starts now on a port, corrected by 0x2006:02 (R59), as T96. -/
def State.egressT96 (s : State) (port : Nat) : Nat :=
  (((s.time.t96x : Int) + psToX (s.cfgInt 0x2006 0x02 port)) / 2 ^ 32).toNat % 2 ^ 96

/-- The offset from the master that a Sync tells, in ps (R59, R60). -/
def syncOffset (port origin : Nat) (correction : Int) (s : State) : Int :=
  s.t96Minus origin - s.cfgInt 0x2006 0x01 port - correction - (lookup port s.time.pathDelay).getD 0 - s.cfgInt 0x2006 0x03 port

/-- Take a Sync: offset from master, servo, frequency (R39, R59, R60). -/
def takeSync (port origin : Nat) (correction : Int) (s : State) : State :=
  let raw := syncOffset port origin correction s
  let filt := Config.servoFilter s.time.ptp.offset raw
  measure 1 raw filt ((raw - filt).natAbs ≤ 1000000) s

/-- A Sync of the master chosen among those still heard is taken (R44). -/
def ptpSync (port parent origin : Nat) (correction : Int) (s : State) : State :=
  let s := choosePtp s.time.announce s
  match s.time.announce with
  | some a => if s.time.ptpPort = some port ∧ a.parent = parent then takeSync port origin correction s else s
  | none => s

/-- PTP runs on a port in this device state (R44, R85). -/
def ptpRuns (s : State) (port : Nat) : Bool :=
  port < 6 && bit (s.cfg 0x2002 0x08) port && s.cfgB 0x2002 0x01 && s.timeRuns && (s.running || port ≥ 4)

/-- The error of T96 that a 1PPS edge now tells, in ps: its stamp, corrected by 0x2004:05, against the nearest second (R46). -/
def ppsOffset (s : State) : Int :=
  let stamp : Int := (s.time.t96x : Int) - psToX (s.cfgInt 0x2004 0x05)
  let sub := stamp % 2 ^ 80
  let near := if sub < 2 ^ 79 then sub else sub - 2 ^ 80
  (near * 1000000000000).fdiv (2 ^ 80)

/-- A 1PPS edge of the selected polarity: stamped, and tested against the second the filtered error predicts (R46, R47). -/
def ppsEdge (rising : Bool) (s : State) : State :=
  if !(sourceEnabled s 2) || !s.time.isSet || rising != (s.cfg 0x2004 0x04 == 0) then s
  else
    let raw := ppsOffset s
    let r := s.time.pps
    let good := r.lastSeen == 0 || (raw - r.offset).natAbs ≤ 1000000
    let filt := if r.lastSeen == 0 then raw else Config.servoFilter r.offset raw
    let bad := if good then 0 else r.bad + 1
    let s := s.onTime fun x => { x with pps := { x.pps with bad := bad } }
    let s := measure 2 raw filt good s
    if bad ≥ 3 then disqualify 2 s else s

def execPpsEdge (t : Nat) (rising : Bool) (s : State) : Host.Outcome State Fault Refusal := complete t (ppsEdge rising) s

/-- The UTC second of an IRIG-B frame: its time less the local offset of IEEE 1344, which is local minus UTC in minutes: PRESUMED (R54). -/
def irigUtc (f : IrigFrame) : Nat := ((f.seconds : Int) - (if f.has1344 then f.localOffset * 60 else 0)).toNat
/-- The offset of T96 that an IRIG-B frame tells, in ps (R46, R54). -/
def irigOffset (f : IrigFrame) (s : State) : Int :=
  s.t96Minus (((irigUtc f : Int) + s.delta).toNat * 2 ^ 48) - f.refAgo - s.cfgInt 0x2004 0x06
/-- A frame is good: well formed, with IEEE 1344 extensions where they are required, and one second after its predecessor (R47). -/
def irigGood (f : IrigFrame) (s : State) : Bool :=
  let consistent : Bool := match s.time.irigLast with | some p => p.seconds + 1 == f.seconds || !p.wellFormed | none => true
  f.wellFormed && (f.has1344 || !s.cfgB 0x2004 0x03) && consistent

/-- An IRIG-B frame is taken; its time is converted to UTC with the local offset and then to TAI with Δ (R47, R54, R56). -/
def irigFrame (f : IrigFrame) (s : State) : State :=
  if !(sourceEnabled s 3) then s
  else
    let good := irigGood f s
    let s := s.onTime fun x => { x with irigLast := some f }
    if !good then
      let n := s.time.irig.bad + 1
      let s := (s.onTime fun x => { x with irig := { x.irig with bad := n, okSince := none } }).bump 0x2030 0x05
      if n ≥ 2 then disqualify 3 s else s
    else
      let raw := irigOffset f s
      let first := s.time.irig.lastSeen == 0
      let filt := if first then raw else Config.servoFilter s.time.irig.offset raw
      let s := s.onTime fun x => { x with irig := { x.irig with bad := 0 } }
      let s := measure 3 raw filt true s
      if s.time.selected = 3 then
        if f.leapPending then scheduleLeap ((irigUtc f / 60 + 1) * 60) (if f.leapMinus then -1 else 1) s
        else s.onTime fun x => { x with leap := none }
      else s

def execIrigBFrameRx (t : Nat) (frame : IrigFrame) (s : State) : Host.Outcome State Fault Refusal := complete t (irigFrame frame) s

/-- The silence that disqualifies a source (R47): three announce intervals of 1 s for PTP, two missing pulses, two missing frames. -/
def sourceSilent (s : State) (src : Nat) : Bool :=
  let r := s.time.source src
  if src = 1 then r.lastSeen + sec 3 < s.now || r.lastAnnounce + sec 3 < s.now
  else r.lastSeen + sec 2 < s.now

/-- A source has met its condition for the qualification time (R47) and may take over (R41, R42, R50, R51). -/
def sourceQualify (src : Nat) (s : State) : State :=
  let r := s.time.source src
  let due : Bool := match r.okSince with | some a => a + ms (s.cfg 0x2001 0x07) ≤ s.now | none => false
  let good := due && !r.qualified && 1 ≤ src && src ≤ 3 && sourceEnabled s src && !s.time.trefOutOfRange && !sourceSilent s src &&
    !(src == 2 && !s.time.isSet) && !(src == 1 && (match s.time.announce with | some a => a.clockClass > 187 | none => true))
  if !good then s
  else
    let s := s.onTime fun x => x.setSource src { r with qualified := true }
    if sourceRank s src ≥ 4 then s
    else
      let s := s.onPower fun p => { p with lockWaitOver := true }
      if !s.time.isSet then initialiseT96 (-r.offset) src (s.onTime fun x => { x with servo := 2 })
      else if s.time.servo = 3 then
        (if s.time.holdAt + ms (s.cfg 0x2001 0x06) ≤ s.now then selectSource src (if s.time.selected = 4 then 2 else 0) s else s)
      else if s.time.selected = 0 ∨ s.time.selected > 3 then selectSource src 0 s
      else if s.cfgB 0x2001 0x05 && sourceRank s src < sourceRank s s.time.selected then selectSource src 1 s
      else s


/-- A source is disqualified by silence, by a poor grandmaster, or by its decoder having stopped (R47, R85). -/
def sourceDisqualify (src : Nat) (s : State) : State :=
  let poor := src == 1 && (match s.time.announce with | some a => a.clockClass > 187 | none => true)
  if (s.time.source src).qualified && (sourceSilent s src || poor || !sourceEnabled s src) then disqualify src s else s

def execSourceDisqualified (t src : Nat) (s : State) : Host.Outcome State Fault Refusal := complete t (sourceDisqualify src) s

/-- Holdover has lasted the switch delay: the best qualified source is selected (R50); the reason is 2 when it takes over from a command, else 0:
DESIGN CHOICE (assumption 83). -/
def switchDelay (s : State) : State :=
  if s.time.servo = 3 ∧ s.time.holdAt + ms (s.cfg 0x2001 0x06) ≤ s.now then
    match bestSource s with | some src => selectSource src (if s.time.selected = 4 then 2 else 0) s | none => s
  else s

def execSwitchDelayExpiry (t : Nat) (s : State) : Host.Outcome State Fault Refusal := complete t switchDelay s

/-- The holdover uncertainty has passed its limit: event 0x2005 once per episode (R52). -/
def holdoverLimit (s : State) : State :=
  if s.time.servo = 3 ∧ s.time.limitRaised = false ∧ s.uncertaintyPs > s.cfg 0x2001 0x0C * 1000 then
    raise 0x2005 (le 8 (s.uncertaintyPs / 1000)) (s.onTime fun x => { x with limitRaised := true })
  else s

def execHoldoverLimitExceeded (t : Nat) (s : State) : Host.Outcome State Fault Refusal := complete t holdoverLimit s

/-- The measured offset has exceeded 200 ppm for 10 s: every source is disqualified (R39). -/
def trefRange (s : State) : State :=
  let far := [1, 2, 3].any fun k => match (s.time.source k).farSince with | some a => a + sec 10 ≤ s.now | none => false
  if far && !s.time.trefOutOfRange then
    let s := raise 0x200C (be 1 0) (s.onTime fun x => { x with trefOutOfRange := true })
    disqualify 3 (disqualify 2 (disqualify 1 s))
  else s

def execTrefOutOfRange (t : Nat) (s : State) : Host.Outcome State Fault Refusal := complete t trefRange s

/-- Holdover from here on at another stability: the uncertainty reached becomes U₀. -/
def reanchorHoldover (s : State) : State :=
  let u := s.uncertaintyPs
  s.onTime fun x => { x with u0 := u, holdAt := s.now }

/-- TREF is lost: the PLLs run from the backup oscillator and holdover starts with a = 100 ppm (R86); a Leash
member's TREF is LEASH_CLK_IN, so its Leash enters FAULT (R461). -/
def trefLoss (s : State) : State :=
  if s.time.trefLost || !s.timeRuns then s
  else
    let s := if s.cfgB 0x2A10 0x01 && s.cfg 0x2A10 0x02 == 0 then raiseOnce 0x2A09 0 (le 1 4 ++ le 1 (s.ro 0x2A11 0x02)) (s.setRo 0x2A11 0x01 3) else s
    let s := if !s.time.isSet then s else if s.time.servo = 3 then reanchorHoldover s else enterHoldover s
    raise 0x200C (be 1 1) (s.onTime fun x => { x with trefLost := true })

def execTrefLost (t : Nat) (s : State) : Host.Outcome State Fault Refusal := complete t trefLoss s

/-- TREF has been back within range for 10 s (R86). -/
def trefBack (s : State) : State :=
  if s.time.trefLost then
    raise 0x200D [] ((if s.time.servo = 3 then reanchorHoldover s else s).onTime fun x => { x with trefLost := false })
  else s

def execTrefRestored (t : Nat) (s : State) : Host.Outcome State Fault Refusal := complete t trefBack s

/-- The start lock timeout has passed in START: RUN need not wait any longer (R53). -/
def startLock (s : State) : State :=
  if s.dev == stStart && s.power.startAt + sec (s.cfg 0x2001 0x08) ≤ s.now then s.onPower fun p => { p with lockWaitOver := true } else s

def execStartLockTimeout (t : Nat) (s : State) : Host.Outcome State Fault Refusal := complete t startLock s

/-! ### Commands -/

/-- Refuse a step: event 0x200F and the state-conflict status (R43). -/
def stepRefused (s : State) : State × Nat := (raise 0x200F (be 1 s.dev) s, 0x06)

/-- 0x2005:01 Step to source (R41, R43). -/
def stepToSource (s : State) : State × Nat :=
  if !(s.dev == stStart || s.dev == stSafeTalk) || !s.time.isSet then stepRefused s
  else match bestSource s with
    | none => stepRefused s
    | some src =>
      let old := s.time.sourceBefore
      let off := (s.time.source src).offset
      let s := stepT96 (-off) src (s.onTime fun x => { x with selected := src, lastSource := 0, servo := 2, limitRaised := false, leap := none })
      (reportDelta (sourceChanged old src 2 s), 0)

def execStepToSource (t : Nat) (who : Who) (s : State) : Host.Outcome State Fault Refusal :=
  complete t (runPlain 0x2005 0x01 who stepToSource) s

/-- 0x2005:02 Set T96 (R722): the command becomes the selected source, in holdover at 1 ms. -/
def setT96 (value : Nat) (s : State) : State × Nat :=
  if !(s.dev == stStart || s.dev == stSafeTalk) then stepRefused s
  else
    let was := s.time.isSet
    let old := s.time.sourceBefore
    let d := -(s.t96Minus value)
    let moves := s.time.t96x != value % 2 ^ 96 * 2 ^ 32
    let s := if was && moves then (raise 0x2002 (i64 (d.tdiv 1000) ++ be 1 4) s).bump 0x2030 0x03 else s
    let s := s.onTime fun x => { (if moves then shiftT96 d x else x) with
      t96x := value % 2 ^ 96 * 2 ^ 32, selected := 4, lastSource := 0, servo := 3, holdAt := s.now, u0 := 1000000000, slew := 0,
      limitRaised := false, leap := none }
    if was then (sourceChanged old 4 2 s, 0) else (initialiseT96 0 4 s, 0)

def execSetT96 (t : Nat) (who : Who) (value : Nat) (s : State) : Host.Outcome State Fault Refusal :=
  complete t (runCommand 0x2005 0x02 noRow (.num value) who (setT96 value)) s

/-! ### Leap seconds (R56, R57, R725) -/

/-- The leap in force, a UTC instant in the T96 layout and its sign: that of the selected source, else 0x2001:0F when it has not been applied. -/
def leapDue (s : State) : Option (Nat × Int) :=
  match s.time.leap with
  | some l => some l
  | none =>
    let b := s.cfgBytes 0x2001 0x0F
    let inst := beAt b 0 12
    if byteAt b 12 = 0 ∨ s.time.leapDone = some inst then none
    else some (inst, if byteAt b 12 = 1 then 1 else -1)

/-- The leap instant has come: Δ changes by the sign and T96 goes on without a step (R57).  An inserted second begins at its UTC instant under the Δ
before, an omitted one is left out there, so that instant comes under the Δ after. -/
def leapApply (s : State) : State :=
  match leapDue s with
  | none => s
  | some (utc, sign) =>
    if s.time.isSet && (utc : Int) + (s.delta + (if sign < 0 then sign else 0)) * 2 ^ 48 ≤ s.t96 then
      let inst := beAt (s.cfgBytes 0x2001 0x0F) 0 12
      let ptp := s.time.selected == 1
      let s := s.onTime fun x => { x with leapApplied := x.leapApplied + sign, ptpLeap := if ptp then x.ptpLeap + sign else x.ptpLeap, leap := none,
                                          lastLeap := some (utc, sign), leapDone := if inst = utc then some inst else x.leapDone }
      raise 0x2007 (be 1 (toTwos 8 sign) ++ i32 s.delta) s
    else s

def execLeapSecondApplied (t : Nat) (s : State) : Host.Outcome State Fault Refusal := complete t leapApply s

/-! ### Kennel latch, GAT -/

/-- Once a second at an RTC tick, the pair and the uncertainty are latched while T96 is set, and the GAT (R81, R83). -/
def latchTime (rtc : Nat) (s : State) : State :=
  if s.timeRuns && (s.time.isSet || s.time.gatOn) then
    (s.onTime fun x => { x with latch := ⟨x.isSet, s.t96, rtc, s.uncertaintyPs, x.gatx, x.gatOn, x.f⟩ }).onPower fun p =>
      { p with lastRtc := rtc, rtcAt := s.now }
  else s

def execKennelTimeLatch (t rtc : Nat) (s : State) : Host.Outcome State Fault Refusal := complete t (latchTime rtc) s

/-- A loss condition of R67 holds: GAT runs at nominal frequency with NOMINAL set (R68). -/
def referenceLost (s : State) : State :=
  if s.time.gatOn && !s.time.nominal && !refValid s then setNominal (s.onTime fun x => { x with refOkSince := none })
  else if s.time.gatOn && s.time.pulling && !refValid s then s.onTime fun x => { x with pulling := false, refOkSince := none }
  else s

def execReferenceBusLost (t : Nat) (s : State) : Host.Outcome State Fault Refusal := complete t referenceLost s

/-- The frequency limit of the tracker, 2^-32 Hz (R66). -/
def pullLimit (s : State) : Nat := (Q.floor (Q.mul (s.cfgF 0x2010 0x09) (Q.ofInt (2 ^ 32)))).toNat

/-- The pull-in frequency: the shorter way, backward on exactly half a cycle (R69). -/
def pullRate (s : State) : Nat :=
  if s.time.refError > 0 ∧ s.time.refError ≠ 2 ^ 31 then s.time.refFreq + pullLimit s else s.time.refFreq - pullLimit s

/-- A reference sample: phase in 2^-32 cycle of GAT's definition (R64), frequency in 2^-32 Hz, magnitude too low, bad quality (R66, R67). -/
def gatReference (phase freq : Nat) (low bad : Bool) (s : State) : State :=
  if !s.timeRuns || s.dev == stSafeTalk then s else
  let off := freq + hz 5 < hz s.fnom || hz s.fnom + hz 5 < freq
  let bits := b2n off + 2 * b2n low + 4 * b2n bad
  let gap : Bool := match s.time.refSeen with | some a => a + ms (s.cfg 0x2010 0x07) < s.now | none => true
  let g := s.time.gatx / 2 ^ 32 % 2 ^ 32
  let err := ofTwos 32 ((phase + 2 ^ 32 - g) % 2 ^ 32)
  let err := if err = -(2 ^ 31) then 2 ^ 31 else err
  let okNow := bits == 0
  let s := s.onTime fun x => { x with
    refBits := bits, refPhase := phase, refFreq := freq, refError := err,
    refSeen := if bad then x.refSeen else some s.now,
    refOkSince := if okNow then (if gap then some s.now else some (x.refOkSince.getD s.now)) else none }
  if !s.time.gatOn || !okNow then s
  else if s.time.pulling then s.onTime fun x => { x with gatRate := pullRate s }
  else if s.time.nominal then s
  else
    let lim : Int := pullLimit s
    let c := Config.trackerCorrection err
    let c := if c > lim then lim else if c < -lim then -lim else c
    s.onTime fun x => { x with gatRate := ((freq : Int) + c).toNat }

/-- The reference bus has been free of loss conditions for the requalification time: PULLING starts (R69). -/
def gatRequalify (s : State) : State :=
  let due : Bool := match s.time.refOkSince with | some a => a + ms (s.cfg 0x2010 0x08) ≤ s.now | none => false
  if s.time.gatOn && s.time.nominal && !s.time.pulling && due && refValid s then
    s.onTime fun x => { x with pulling := true, pullSince := s.now, gatRate := pullRate s }
  else s

def execGatRequalification (t : Nat) (s : State) : Host.Outcome State Fault Refusal := complete t gatRequalify s

/-- Two degrees, in 2^-32 cycle. -/
def twoDegrees : Nat := 23860929

/-- The phase error is 2° or less: NOMINAL and PULLING clear (R69); ESTIMATED of a re-base clears with it (R83). -/
def nominalClear (s : State) : State :=
  if s.time.pulling && s.time.refError.natAbs ≤ twoDegrees then
    let d := (s.now - s.time.pullSince) / ms 1
    raise 0x2009 (le 4 d) (s.onTime fun x => { x with
      nominal := false, pulling := false, gatRate := x.refFreq,
      estimated := x.estimated && !x.estimatedByRebase, estimatedByRebase := false })
  else s

def execNominalCleared (t : Nat) (s : State) : Host.Outcome State Fault Refusal := complete t nominalClear s

/-! ### Output pulses (R77–R80) -/

/-- A pulse output that something ends returns to its inactive level (R77, R85). -/
def pulseOff (o : Nat) (s : State) : State :=
  if (tabGet .reset s.time.pulses o).endsAt.isSome then s.emit (.tout o (s.rw 0x2020 0x08 o != 0)) else s

def State.pulse (s : State) (o : Nat) : Pulse := tabGet .reset s.time.pulses o
def State.setPulse (s : State) (o : Nat) (p : Pulse) : State := s.onTime fun x => { x with pulses := putKey o p x.pulses }

/-- Signed difference of two 64-bit GAT values (R36). -/
def gatMinus (a b : Nat) : Int := ofTwos 64 ((a + 2 ^ 64 - b % 2 ^ 64) % 2 ^ 64)

/-- The T96 instant at which GAT stands, stood or will stand at a value, at the present rate (R76). -/
def gatInstant (s : State) (g : Nat) : Nat :=
  let rate : Int := Nat.max 1 (gatFrequency s.fnom s.time)
  ((s.t96 : Int) - (gatMinus s.gat g * 2 ^ 48).fdiv rate).toNat

/-- The first n with start + n × period at or after base. -/
def firstPeriod (start period base : Nat) : Nat :=
  if start ≥ base ∨ period = 0 then 0 else (base - start + period - 1) / period

/-- The next programmed instant of output o, in T96 or, in modes 3 and 4, in GAT (R77). -/
def pulseNext (o : Nat) (s : State) : Option Nat :=
  let p := s.pulse o
  let t := s.rw 0x2020 0x03 o
  let g := s.rw 0x2020 0x04 o
  let d := gatMinus p.baseGat g
  match s.rw 0x2020 0x01 o with
  | 1 => if p.baseT96 ≤ t then some t else none
  | 2 => some (t + firstPeriod t (s.rw 0x2020 0x05 o) p.baseT96 * s.rw 0x2020 0x05 o)
  | 3 => if d ≤ 0 then some g else none
  | 4 =>
    let per := s.rw 0x2020 0x06 o
    some ((g + (if d ≤ 0 ∨ per = 0 then 0 else (d.toNat + per - 1) / per) * per) % 2 ^ 64)
  | _ => none

/-- Whether output o has reached its next programmed instant. -/
def pulseDue (o : Nat) (s : State) : Bool :=
  let p := s.pulse o
  let m := s.rw 0x2020 0x01 o
  let cnt := s.rw 0x2020 0x09 o
  p.armed && p.endsAt.isNone && s.gdieOn && (cnt == 0 || p.fired < cnt) &&
  (match pulseNext o s with
   | none => false
   | some n => if m ≤ 2 then s.time.isSet && n ≤ s.t96 else s.time.gatOn && gatMinus s.gat n ≥ 0)

/-- The width of a pulse in ps; a GAT pulse that would reach the next instant ends 20 ns before it (R80). -/
def pulseWidth (o : Nat) (s : State) : Nat × Bool :=
  let w := s.rw 0x2020 0x07 o * 1000
  if s.rw 0x2020 0x01 o = 4 then
    let gap := s.rw 0x2020 0x06 o * 1000000000000 / (gatFrequency s.fnom s.time)
    if w ≥ gap then (gap - 20000, true) else (w, false)
  else (w, false)

/-- An armed output reaches a programmed instant and fires (R77). -/
def pulseFire (o : Nat) (s : State) : State :=
  if o < 4 && pulseDue o s then
    let p := s.pulse o
    let (w, cut) := pulseWidth o s
    let m := s.rw 0x2020 0x01 o
    let cnt := s.rw 0x2020 0x09 o
    let last := m == 1 || m == 3 || (cnt != 0 && p.fired + 1 ≥ cnt)
    let n := (pulseNext o s).getD 0
    let s := s.setPulse o { p with fired := p.fired + 1, endsAt := some (s.now + w), armed := !last, baseT96 := if m ≤ 2 then n + 1 else p.baseT96
                                   baseGat := if m ≤ 2 then p.baseGat else (n + 1) % 2 ^ 64 }
    let s := if last then s.setRow 0x2020 0x0B o 2 else s
    let s := if cut then s.bump 0x2030 0x09 else s
    s.emit (.tout o (s.rw 0x2020 0x08 o == 0))
  else s

def execPulseInstant (t out : Nat) (s : State) : Host.Outcome State Fault Refusal := complete t (pulseFire out) s

/-- A single instant that lies before the earliest one allowed does not fire: status 3 Missed and event 0x200B (R78). -/
def pulseMissed (o : Nat) (s : State) : State :=
  let m := s.rw 0x2020 0x01 o
  if (m == 1 || m == 3) && (pulseNext o s).isNone then raise 0x200B (be 1 o) ((s.setPulse o { s.pulse o with armed := false }).setRow 0x2020 0x0B o 3)
  else s

/-- Arm or disarm an output; a single instant earlier than 10 µs after arming is missed (R78).  Arming an output of mode 0 leaves its status idle:
DESIGN CHOICE (assumption 84). -/
def pulseArmNow (o : Nat) (arm : Bool) (s : State) : State :=
  let p := s.pulse o
  if !arm then (s.setPulse o { p with armed := false }).setRow 0x2020 0x0B o 0
  else
    let m := s.rw 0x2020 0x01 o
    let margin := psToT96 (us 10)
    let gm := us 10 * gatFrequency s.fnom s.time / 1000000000000
    if m = 0 then s
    else
      pulseMissed o ((s.setPulse o { p with armed := true, fired := 0, baseT96 := s.t96 + margin, baseGat := (s.gat + gm) % 2 ^ 64 }).setRow 0x2020 0x0B o 1)

/-- The effect of a write to a pulse row: at once, or when the pulse in progress has ended (R79).  The instants of an armed output are reckoned anew
from there; the pin of an output takes the inactive level of its polarity (R77). -/
def pulseWrite (o sub : Nat) (v : Val) (s : State) : State :=
  let p := s.pulse o
  if p.endsAt.isSome then s.setPulse o { p with deferred := p.deferred ++ [(sub, v)] }
  else
    let s := s.setLive 0x2020 sub o v
    if sub = 0x0A then pulseArmNow o (v.bits == 1) s
    else if sub = 0x08 then s.emit (.tout o (v.bits != 0))
    else if p.armed && [1, 3, 4, 5, 6].contains sub then pulseMissed o (s.setPulse o { p with baseT96 := s.t96, baseGat := s.gat })
    else s

/-- A value of a pulse row as it will stand once the deferred writes have taken effect (R79). -/
def pulseValue (o sub : Nat) (s : State) : Nat :=
  match ((s.pulse o).deferred.filter fun d => d.1 == sub).getLast? with | some d => d.2.bits | none => s.rw 0x2020 sub o
/-- R80: the out-of-range refusals.  A width that a T96 period would not hold is refused in every mode: DESIGN CHOICE (assumption 85). -/
def pulseRefused (o sub n : Nat) (s : State) : Bool :=
  let width := if sub = 0x07 then n else pulseValue o 0x07 s
  let per := if sub = 0x05 then n else pulseValue o 0x05 s
  let perPs := t96ToPs per
  (sub == 0x05 && (per < psToT96 100000 || perPs < width * 1000 + 20000)) ||
  (sub == 0x07 && (n == 0 || perPs < width * 1000 + 20000)) ||
  (sub == 0x06 && n < 2 ^ 26)

/-- A write of 0x2020:0A Arm: the value is stored with its effect, at once or after the pulse in progress (R79). -/
def pulseArm (who : Who) (o : Nat) (arm : Bool) (s : State) : State :=
  if s.reaches who then
    let v := Val.num (b2n arm)
    let c := writeStatus 0x2020 0x0A o v who s
    let s := if c = 0 then pulseWrite o 0x0A v s else s
    (account who c s).emit (.status who c)
  else s

def execPulseArm (t : Nat) (who : Who) (out : Nat) (arm : Bool) (s : State) : Host.Outcome State Fault Refusal :=
  complete t (pulseArm who out arm) s

/-- The width has run out: the pin returns to its inactive level and deferred writes take effect (R79). -/
def pulseFinish (o : Nat) (s : State) : State :=
  let p := s.pulse o
  match p.endsAt with
  | none => s
  | some e =>
    if s.now < e then s
    else
      let s := (s.setPulse o { p with endsAt := none, deferred := [] }).emit (.tout o (s.rw 0x2020 0x08 o != 0))
      p.deferred.foldl (fun s d => pulseWrite o d.1 d.2 s) s

def execPulseEnd (t out : Nat) (s : State) : Host.Outcome State Fault Refusal := complete t (pulseFinish out) s

end Sys2Proof.Machine
end

