-- ==== Sys2Proof/Machine/Ports.lean ====
section
/-! DEFINITION. Ethernet ports, PRP and transmit gates (chapter 03), but for the receive path, which PortsRx.lean holds. -/

namespace Sys2Proof.Machine
open Sys2Proof

def State.portOf (s : State) (p : Nat) : Port := tabGet .reset s.port.ports p
def State.setPort (s : State) (p : Nat) (x : Port) : State := s.onPorts fun a => { a with ports := putKey p x a.ports }

/-- 0x2100:03 of a set: where none is written, Clause 108 on 25GBASE-R and none elsewhere (R132). -/
def fecIn (d : Dict) (p : Nat) : Nat :=
  let f := (readIn d 0x2100 0x03 p).bits
  if f ≤ 2 then f else if (readIn d 0x2100 0x02 p).bits = 1 then 2 else 0

/-- The pair of a port: 0 A, 1 B, 2 M; none for P6 and P7 (R89). -/
def pairOf (p : Nat) : Option Nat := if p < 6 then some (p / 2) else none
/-- The other port of a pair. -/
def partnerOf (p : Nat) : Nat := if p % 2 = 0 then p + 1 else p - 1

/-- Ports a device state holds down (R129), with those that failed self-test item 5 (R620). -/
def heldByState (s : State) (p : Nat) : Bool :=
  let fast := p < 4 || p ≥ 6
  if !s.powered || bit (s.ro 0x2F03 0x02 5) p then true
  else if s.dev == stStart then fast && !s.power.setLoaded
  else if s.running then false
  else fast

/-- The device state has P4 and P5 up whatever the active set says (R129). -/
def managementUp (s : State) (p : Nat) : Bool := (p == 4 || p == 5) && (s.dev == stStart || s.dev == stSafeTalk || s.dev == stRecovery)

/-- The port is held down by the device state or by 0x2100:01 (R92, R129). -/
def portHeld (s : State) (p : Nat) : Bool := heldByState s p || (!managementUp s p && !s.cfgB 0x2100 0x01 p)

/-- PRP mode of a pair; pair M in START, every pair before the set is loaded, and RECOVERY run mode 1 (R129). -/
def prpMode (s : State) (pair : Nat) : Nat :=
  if (s.dev == stStart && (pair == 2 || !s.power.setLoaded)) || s.dev == stRecovery then 1 else s.cfg 0x2101 0x01 pair

/-- Count on a port or a pair; RECOVERY keeps no counters (R129). -/
def State.tally (s : State) (idx sub row : Nat) (n : Nat := 1) : State := if s.dev == stRecovery then s else s.addTo idx sub n row

/-- A port counts as working in its pair: link up and not silent (R128). -/
def portWorks (s : State) (p : Nat) : Bool := (s.portOf p).link == 1 && !(s.portOf p).silent

/-- The state a pair should be in: 0 UP, 1 DEGRADED, 2 DOWN (R128). -/
def pairShould (s : State) (pair : Nat) : Nat :=
  2 - (b2n (portWorks s (2 * pair)) + b2n (portWorks s (2 * pair + 1)))

/-- Bring a pair's state up to date, with its event (R128). -/
def updatePair (pair : Nat) (s : State) : State :=
  let new := pairShould s pair
  let old := tabGet 2 s.port.pairState pair
  if new = old then s
  else
    let s := s.onPorts fun a => { a with pairState := putKey pair new a.pairState }
    let failed := if portWorks s (2 * pair) then 2 * pair + 1 else 2 * pair
    let cause := if (s.portOf failed).link == 1 then 1 else 0
    if new = 0 then raise 0x2105 (le 1 pair) s
    else if new = 1 then raise 0x2104 (le 1 pair ++ le 1 failed ++ le 1 cause) s
    else raise 0x2106 (le 1 pair) s

/-- Update the pair a port belongs to. -/
def updatePairOf (p : Nat) (s : State) : State := match pairOf p with | some k => updatePair k s | none => s

/-- Set a port's link state. -/
def setLink (p l : Nat) (s : State) : State := s.setPort p { s.portOf p with link := l, silent := false, heard := false }

/-- LINK_UP (R92): the PCS has held lock for 10 ms on a port that is not held down. -/
def portUp (p : Nat) (s : State) : State :=
  if p < 8 && !portHeld s p && (s.portOf p).link != 1 then
    let s := setLink p 1 s
    updatePairOf p (raise 0x2101 (le 1 p ++ le 1 (s.cfg 0x2100 0x02 p)) (s.setPort p { s.portOf p with lastRx := s.now }))
  else s

def execLinkUp (t port : Nat) (s : State) : Host.Outcome State Fault Refusal := complete t (portUp port) s

/-- Declare a link down with a cause: counted and reported (R92). -/
def portDown (p new cause : Nat) (s : State) : State :=
  if (s.portOf p).link = 1 then
    updatePairOf p (raise 0x2102 (le 1 p ++ le 1 cause) ((setLink p new s).tally 0x2120 0x13 p))
  else setLink p new s

/-- LINK_DOWN (R92). -/
def linkLost (p cause : Nat) (s : State) : State :=
  if p < 8 && (s.portOf p).link == 1 then portDown p 0 cause s else s

def execLinkDown (t port cause : Nat) (s : State) : Host.Outcome State Fault Refusal := complete t (linkLost port cause) s

/-- The interface can report what LINK_REFUSED names (R91): SGMII a low speed (reason 0) or half duplex (1), 1000BASE-X half duplex where
auto-negotiation runs. -/
def reportsRefusal (s : State) (p reason : Nat) : Bool :=
  reason < 2 && (s.cfg 0x2100 0x02 p == 3 || (s.cfg 0x2100 0x02 p == 2 && s.cfgB 0x2100 0x04 p && reason == 1))

/-- LINK_REFUSED (R91): P4 or P5 reports half duplex or a low speed. -/
def refuseLink (p reason : Nat) (s : State) : State :=
  if (p == 4 || p == 5) && !portHeld s p && reportsRefusal s p reason then
    let s := portDown p 2 0 s
    raise 0x2103 (le 1 p ++ le 1 reason) (s.tally 0x2120 0x14 p)
  else s

def execLinkRefused (t port reason : Nat) (s : State) : Host.Outcome State Fault Refusal := complete t (refuseLink port reason) s

/-- End a port's pause at instant e: paused time, the pair's both-paused time, a long pause (R116). -/
def endPause (p e : Nat) (s : State) : State :=
  let x := s.portOf p
  match x.pausedSince with
  | none => s
  | some a =>
    let d := e - a
    let s := (s.setPort p { x with pausedSince := none, pauseUntil := e }).tally 0x2120 0x0C p (d / 1000)
    let s := match pairOf p, (s.portOf (partnerOf p)).pausedSince with
      | some k, some b => s.tally 0x2121 0x05 k ((e - Nat.max a b) / 1000)
      | _, _ => s
    if d > us (s.cfg 0x2100 0x08 p) then raise 0x210B (le 1 p ++ le 4 (d / us 1)) (s.tally 0x2120 0x15 p) else s

/-- Hold down or release a port as the device state and the active set say (R92, R129): a held port's pause ends (R116) and its queues are
emptied; its counters are frozen in SENTINEL and SAFE_TALK (R130). -/
def applyHold (p : Nat) (s : State) : State :=
  if portHeld s p then
    let s := if s.dev == stSentinel || s.dev == stSafeTalk then s.setRow 0x2110 0x07 p 1 else s
    if (s.portOf p).link = 3 then s
    else
      let s := endPause p s.now (portDown p 3 (if heldByState s p then 3 else 4) s)
      s.setPort p { s.portOf p with queues := [], sending := none, pausedSince := none }
  else if (s.portOf p).link = 3 then setLink p 0 s else s

/-- Hold down or release the ports. -/
def applyHolds (s : State) : State := (List.range 8).foldl (fun s p => applyHold p s) s

/-! ### Gates (R103–R111) -/

/-- The gate list of the active set for a port. -/
def gateOf (s : State) (p : Nat) : GateList :=
  { enabled := s.cfgB 0x2102 0x01 p, gatBased := s.cfg 0x2102 0x02 p == 1, baseT96 := s.cfg 0x2102 0x03 p,
    baseGat := s.cfg 0x2102 0x04 p, cycleT96 := s.cfg 0x2102 0x05 p, cycleGat := s.cfg 0x2102 0x06 p,
    entries := (List.range (s.cfg 0x2102 0x07 p)).map fun k => (s.cfg 0x2103 0x01 (256 * p + k), s.cfg 0x2103 0x02 (256 * p + k)) }

/-- The port runs all gates open (R103, R111). -/
def gatesOpen (s : State) (g : GateList) : Bool :=
  !g.enabled || (s.dev == stStart && !s.power.setLoaded) || s.dev == stSafeTalk || s.dev == stRecovery ||
  (g.gatBased && !s.time.gatOn)

/-- The segments (start, end, mask) of one cycle in its own units: entries in turn, the last held to the cycle's end, the list cut there (R105). -/
def segments (cycle : Nat) : Nat → List (Nat × Nat) → List (Nat × Nat × Nat)
  | _, [] => []
  | a, [(m, _)] => if a < cycle then [(a, cycle, m)] else []
  | a, (m, i) :: l => if a ≥ cycle then [] else (a, Nat.min (a + i) cycle, m) :: segments cycle (a + i) l

/-- Position in the cycle now: ps under T96, 2^-20 cycle under GAT.  The cycles go on before the base instant as after it, n being any whole number
(R104): DESIGN CHOICE (assumption 88). -/
def gatePos (s : State) (g : GateList) : Nat :=
  if g.gatBased then
    let d := gatMinus s.gat g.baseGat
    ((d.fdiv (2 ^ 12)) % (g.cycleGat : Int)).toNat
  else ((s.t96Minus g.baseT96) % ((g.cycleT96 * 1000 : Nat) : Int)).toNat

/-- Cycle length and entries in the units of `gatePos`. -/
def gateCycle (g : GateList) : Nat := if g.gatBased then g.cycleGat else g.cycleT96 * 1000
def gateSegments (g : GateList) : List (Nat × Nat × Nat) :=
  segments (gateCycle g) 0 (if g.gatBased then g.entries else g.entries.map fun e => (e.1, e.2 * 1000))

/-- Units of a gate list as ps, at the present GAT rate (R107). -/
def gatePs (s : State) (g : GateList) (u : Nat) : Nat :=
  if g.gatBased then u * 2 ^ 12 * 1000000000000 / Nat.max 1 (gatFrequency s.fnom s.time) else u

/-- The gate states in force now: mask and entry index. -/
def gateNow (s : State) (p : Nat) : Nat × Nat :=
  let g := (s.portOf p).gate
  if gatesOpen s g then (0xFF, 0)
  else
    let pos := gatePos s g
    let segs := gateSegments g
    match (List.range segs.length).zip segs |>.find? (fun e => e.2.1 ≤ pos && pos < e.2.2.1) with
    | some (k, _, _, m) => (m, k)
    | none => (0, 0)

/-- ps until queue q's gate closes; none when it stays open through two cycles (R107). -/
def closesIn (s : State) (p q : Nat) : Option Nat :=
  let g := (s.portOf p).gate
  if gatesOpen s g then none
  else
    let c := gateCycle g
    let one := gateSegments g
    let two := one ++ one.map fun e => (e.1 + c, e.2.1 + c, e.2.2)
    let pos := gatePos s g
    (two.find? fun e => pos < e.2.1 && !bit e.2.2 q).map fun e => gatePs s g (e.1 - pos)

/-- The longest window of queue q in ps: the longest run of open segments over two cycles; none when always open (R108). -/
def longestWindow (s : State) (p q : Nat) : Option Nat :=
  let g := (s.portOf p).gate
  if gatesOpen s g then none
  else
    let one := gateSegments g
    if one.all (fun e => bit e.2.2 q) then none
    else
      let r := (one ++ one).foldl (fun (a : Nat × Nat) e =>
        let run := if bit e.2.2 q then a.1 + (e.2.1 - e.1) else 0
        (run, Nat.max a.2 run)) (0, 0)
      some (gatePs s g r.2)

/-- GATE_ENTRY_CHANGE (R105): another entry applies, which 0x2110:04 and :05 show; a GAT-based gate that closes on a frame in progress counts an
overrun (R109), also when a newly effective list closes it: DESIGN CHOICE (assumption 90). -/
def gateEntry (p : Nat) (s : State) : State :=
  if p < 8 && s.timeRuns then
    let m := (gateNow s p).1
    let x := s.portOf p
    let overrun := x.gate.gatBased && x.sending.isSome && s.now < x.busyUntil && x.sendingQ < 8 && !bit m x.sendingQ
    if overrun then (s.setPort p { x with sendingQ := 8 }).tally 0x2120 0x11 p else s
  else s

def execGateEntryChange (t port : Nat) (s : State) : Host.Outcome State Fault Refusal := complete t (gateEntry port) s

/-- The first cycle start of a list at or after now (R104, R110): GAT, or T96 truncated from its exact value (R35). -/
def firstCycle (s : State) (g : GateList) : Nat :=
  if g.gatBased then
    let c : Nat := g.cycleGat * 2 ^ 12
    (s.gat + ((-(gatMinus s.gat g.baseGat)) % (c : Int)).toNat) % 2 ^ 64
  else
    let c : Int := g.cycleT96 * 2 ^ 48
    let n := -((((g.baseT96 : Int) - s.t96) * 1000000000).fdiv c)
    ((g.baseT96 : Int) + (n * c).fdiv 1000000000).toNat

/-- After a swap or at set load: a changed list waits for its first cycle start at or after now (R110); at START it applies at once. -/
def stageGates (atOnce : Bool) (s : State) : State :=
  (List.range 8).foldl (fun s p =>
    let x := s.portOf p
    let g := gateOf s p
    if atOnce then s.setPort p { x with gate := g, newGate := none }
    else if g = x.gate then s.setPort p { x with newGate := none }
    else s.setPort p { x with newGate := some g, newGateAt := firstCycle s g }) s

/-- GATE_LIST_CHANGE (R110): the first cycle start of the new list has come. -/
def gateList (p : Nat) (s : State) : State :=
  let x := s.portOf p
  match x.newGate with
  | none => s
  | some g =>
    let due : Bool := if g.gatBased then decide (gatMinus s.gat x.newGateAt ≥ 0) else decide (x.newGateAt ≤ s.t96)
    if due then
      let s := s.setPort p { x with gate := g, newGate := none }
      gateEntry p (raise 0x210C (le 1 p ++ le 1 (b2n g.gatBased) ++ le 12 (if g.gatBased then s.t96 else x.newGateAt)) s)
    else s

def execGateListChange (t port : Nat) (s : State) : Host.Outcome State Fault Refusal := complete t (gateList port) s

/-! ### Transmission (R96, R101, R102, R107, R118–R120, R122) -/

/-- ps a byte takes at the line rate of an interface. -/
def bytePs (iface : Nat) : Nat := if iface = 0 then 800 else if iface = 1 then 320 else 8000

/-- Duration of a frame of n bytes before its FCS: preamble, SFD and FCS included (R107). -/
def frameTime (s : State) (p n : Nat) : Nat := (8 + n + 4) * bytePs (s.cfg 0x2100 0x02 p)

/-- The port maximum (R94, R129). -/
def portMax (s : State) (p : Nat) : Nat := if s.dev == stRecovery then 1522 else s.cfg 0x2100 0x05 p

/-- The 802.1Q tag of a traffic class on a port (0x2104:02–04). -/
def tagOf (s : State) (p cls : Nat) : List Byte :=
  let r := 16 * p + cls
  let m := s.cfg 0x2104 0x02 r
  if m = 0 then [] else be 2 0x8100 ++ be 2 (s.cfg 0x2104 0x04 r * 2 ^ 13 + (if m = 2 then s.cfg 0x2104 0x03 r else 0))

/-- The frame of a port up to its payload: destination, own address, tag, EtherType.  Each copy of a PRP frame has its own port's address as its
source: DESIGN CHOICE (assumption 92). -/
def header (s : State) (p cls : Nat) (dst : List Byte) (etype : Nat) : List Byte :=
  fit 6 dst ++ s.cfgBytes 0x2100 0x09 p ++ tagOf s p cls ++ be 2 etype

/-- The redundancy control trailer (R122): sequence number, LAN ID, LSDU size, suffix. -/
def rct (seq lan lsdu : Nat) : List Byte := be 2 seq ++ be 2 (lan * 4096 + lsdu % 4096) ++ be 2 0x88FB

/-- Pad with zeros to n bytes. -/
def padTo (n : Nat) (l : List Byte) : List Byte := l ++ List.replicate (n - l.length) 0

/-- Put a finished frame into the queue of its class, or drop it as oversize (R96). -/
def enqueue (p cls src num : Nat) (frame : List Byte) (s : State) : State :=
  if frame.length + 4 > portMax s p then
    raiseOnce 0x210D p (le 1 p ++ le 2 (frame.length + 4)) (s.tally 0x2120 0x12 p)
  else
    let q := s.cfg 0x2104 0x01 (16 * p + cls)
    let x := s.portOf p
    s.setPort p { x with queues := putKey q (tabGet [] x.queues q ++ [⟨frame, src, num⟩]) x.queues }

/-- Send on one port without a trailer, when its link is up. -/
def sendPort (p cls src num : Nat) (dst : List Byte) (etype : Nat) (payload : List Byte) (s : State) : State :=
  if (s.portOf p).link = 1 then enqueue p cls src num (padTo 60 (header s p cls dst etype ++ payload)) s else s

/-- Send on a pair: in PRP modes 1 and 2 on both ports with one sequence number, unless the pair is DOWN (R122). -/
def sendPair (pair cls src num : Nat) (dst : List Byte) (etype : Nat) (payload : List Byte) (s : State) : State :=
  if tabGet 2 s.port.pairState pair = 2 then s
  else
    let seq := tabGet 0 s.port.txSeq pair
    let frame := fun (p : Nat) =>
      let body := padTo 54 (header s p cls dst etype ++ payload)
      body ++ rct seq (0xA + p % 2) (body.length + 6 - 14 - (tagOf s p cls).length)
    let goes := fun (p : Nat) => (s.portOf p).link == 1 && (frame p).length + 4 ≤ portMax s p
    let one := fun (s : State) (p : Nat) => if (s.portOf p).link = 1 then enqueue p cls src num (frame p) s else s
    let n := if goes (2 * pair) || goes (2 * pair + 1) then (seq + 1) % 65536 else seq
    let s := one (one s (2 * pair)) (2 * pair + 1)
    (s.onPorts fun a => { a with txSeq := putKey pair n a.txSeq }).setRow 0x2111 0x03 pair n

/-- Send on the ports a mask names: whole pairs under PRP modes 1 and 2, single ports in mode 0. -/
def sendMask (mask cls src num : Nat) (dst : List Byte) (etype : Nat) (payload : List Byte) (s : State) : State :=
  (List.range 3).foldl (fun s k =>
    if prpMode s k = 0 then
      let s := if bit mask (2 * k) then sendPort (2 * k) cls src num dst etype payload s else s
      if bit mask (2 * k + 1) then sendPort (2 * k + 1) cls src num dst etype payload s else s
    else if bit mask (2 * k) || bit mask (2 * k + 1) then sendPair k cls src num dst etype payload s else s) s

/-- Drop queue heads longer than the longest window of their queue (R108). -/
def dropTooLong (p q : Nat) (s : State) : State :=
  let x := s.portOf p
  match tabGet [] x.queues q with
  | [] => s
  | f :: rest =>
    match longestWindow s p q with
    | none => s
    | some w =>
      if frameTime s p f.bytes.length > w then
        raiseOnce 0x210A p (le 1 p ++ le 1 q ++ le 2 (f.bytes.length + 4))
          ((s.setPort p { x with queues := putKey q rest x.queues }).tally 0x2120 0x10 p)
      else s

/-- Whether the head of queue q can start now (R102, R107). -/
def eligible (s : State) (p q : Nat) : Bool :=
  match tabGet [] (s.portOf p).queues q with
  | [] => false
  | f :: _ =>
    bit (gateNow s p).1 q && (match closesIn s p q with | some c => frameTime s p f.bytes.length ≤ c | none => true)

/-- The current cut-through threshold of a port, 0x2110:03 (R118–R120). -/
def threshold (s : State) (p : Nat) : Nat := (s.portOf p).raised.getD (s.cfg 0x2100 0x07 p)

/-- The buffer of the frame in progress can run empty: the frame is longer than the threshold it was started at, so it is sent cut-through (R118). -/
def cutThrough (s : State) (p : Nat) (f : TxFrame) : Bool := threshold s p < f.bytes.length + 4

/-- The bytes of the frame in progress that are on the wire by now, its preamble and SFD left out. -/
def sentBytes (s : State) (p : Nat) (f : TxFrame) : Nat :=
  let began := (s.portOf p).busyUntil - frameTime s p f.bytes.length
  Nat.min f.bytes.length ((s.now - began) / bytePs (s.cfg 0x2100 0x02 p) - 8)

/-- TX_UNDERRUN (R119): the frame in progress ends here, after the bytes sent and the complement of their FCS, so that neither its frame nor the
bytes left out count; the threshold rises. -/
def txUnderrun (p : Nat) (s : State) : State :=
  let x := s.portOf p
  match x.sending with
  | none => s
  | some f =>
    if s.now ≥ x.busyUntil || !cutThrough s p f then s
    else
      let th := Nat.min (threshold s p + 256) (portMax s p)
      let n := sentBytes s p f
      let s := s.setPort p { x with sending := none, busyUntil := s.now, raised := some th }
      let s := ((s.tally 0x2120 0x0F p).tally 0x2120 0x0D p (2 ^ 64 - 1)).tally 0x2120 0x0E p (2 ^ 64 - (f.bytes.length - n))
      (raise 0x2109 (le 1 p ++ le 2 th) s).emit (.wire p true (f.bytes.take n))

def execTxUnderrun (t port : Nat) (s : State) : Host.Outcome State Fault Refusal := complete t (txUnderrun port) s

/-- Thresholds return to 0x2100:07 at START and at a swap (R120). -/
def resetThresholds (s : State) : State := (List.range 8).foldl (fun s p => s.setPort p { s.portOf p with raised := none }) s

/-! ### Pause (R112–R117) -/

/-- A valid pause frame with a quanta value (R112). -/
def takePause (p quanta : Nat) (s : State) : State :=
  if !s.cfgB 0x2100 0x06 p then s
  else
    let x := s.portOf p
    if quanta = 0 then endPause p s.now s
    else
      let end_ := s.now + quanta * 64 * bytePs (s.cfg 0x2100 0x02 p)
      s.setPort p { x with pauseUntil := end_, pausedSince := some (x.pausedSince.getD (Nat.max s.now x.busyUntil)) }

/-- PAUSE_EXPIRY (R112, R115). -/
def pauseOver (p : Nat) (s : State) : State :=
  let x := s.portOf p
  if x.pausedSince.isSome && x.pauseUntil ≤ s.now then endPause p x.pauseUntil s else s

def execPauseExpiry (t port : Nat) (s : State) : Host.Outcome State Fault Refusal := complete t (pauseOver port) s

/-! ### PRP (R121–R128) -/

/-- A pair's next supervision frame is due: a life-check interval after the last (R126). -/
def supervisionDue (s : State) (pair : Nat) : Bool :=
  pair < 3 && prpMode s pair != 0 && s.powered &&
  (match lookup pair s.port.supAt with | some a => a + ms (s.cfg 0x2101 0x04 pair) ≤ s.now | none => true)

/-- PRP_SUPERVISION_TX (R126): a DANP supervision frame on both ports of a pair in modes 1 and 2.  It is of traffic class 8, Other: DESIGN CHOICE
(assumption 91). -/
def prpSupervision (pair : Nat) (s : State) : State :=
  if supervisionDue s pair then
    let n := tabGet 0 s.port.supSeq pair
    let mac := s.cfgBytes 0x2100 0x09 (2 * pair)
    let ty := if prpMode s pair = 1 then 20 else 21
    let payload := be 2 1 ++ be 2 n ++ be 1 ty ++ be 1 6 ++ mac ++ be 2 0
    let s := s.onPorts fun a => { a with supSeq := putKey pair ((n + 1) % 65536) a.supSeq, supAt := putKey pair s.now a.supAt }
    sendPair pair 8 0 0 (be 5 0x01154E0001 ++ be 1 (s.cfg 0x2101 0x05 pair)) 0x88FB payload s
  else s

def execPrpSupervisionTx (t pair : Nat) (s : State) : Host.Outcome State Fault Refusal := complete t (prpSupervision pair) s

/-- Node table fill of a pair, kept in 0x2111:02. -/
def nodeFill (s : State) (pair : Nat) : Nat := (s.port.nodes.filter fun e => e.1 / 2 ^ 48 == pair).length
def showFill (pair : Nat) (s : State) : State := s.setRow 0x2111 0x02 pair (nodeFill s pair)

/-- PRP_NODE_FORGET (R125). -/
def nodeForget (pair mac : Nat) (s : State) : State :=
  let k := pair * 2 ^ 48 + mac
  match lookup k s.port.nodes with
  | none => s
  | some n =>
    if n.heardAt + sec (s.cfg 0x2101 0x03 pair) ≤ s.now then
      showFill pair (s.onPorts fun a => { a with nodes := delKey k a.nodes })
    else s

def execPrpNodeForget (t pair mac : Nat) (s : State) : Host.Outcome State Fault Refusal := complete t (nodeForget pair mac) s

/-- PRP_PORT_SILENT (R128): nothing for 3 life-check intervals while the partner has received frames. -/
def portSilent (p : Nat) (s : State) : State :=
  match pairOf p with
  | none => s
  | some k =>
    let w := 3 * ms (s.cfg 0x2101 0x04 k)
    let x := s.portOf p
    let y := s.portOf (partnerOf p)
    if x.link == 1 && !x.silent && x.lastRx + w ≤ s.now && y.heard && s.now < y.lastRx + w then
      updatePair k (s.setPort p { x with silent := true })
    else s

def execPrpPortSilent (t port : Nat) (s : State) : Host.Outcome State Fault Refusal := complete t (portSilent port) s

/-- 0x2130:01 Clear port counters (R130). -/
def clearPorts (s : State) : State := (s.clearRange 0x2120 0x2121).clearObjects [(0x2110, 0x07)]

def execClearPortCounters (t : Nat) (who : Who) (s : State) : Host.Outcome State Fault Refusal :=
  complete t (runPlain 0x2130 0x01 who (ok clearPorts)) s

end Sys2Proof.Machine
end

