-- ==== Sys2Proof/Machine/Mirror.lean ====
section
/-! DEFINITION. Mirror frames (R670): their header and sending, roles, sent marks and the transmissions a Wheel holds (R674–R676).  The spec names the
fields of the pair's payloads and not their places; the model takes them in the order named, in network byte order (assumption 20). -/

namespace Sys2Proof.Machine
open Sys2Proof

/-- Destination address of mirror frames, and their EtherType. -/
def mirrorMac : List Byte := List.replicate 6 0xFF
def mirrorType : Nat := 0x88B6

/-- Send a mirror frame on P6 and P7, and on pair M when `onM`. -/
def sendMirror (onM : Bool) (type : Nat) (payload : List Byte) (s : State) : State :=
  let f := be 1 1 ++ be 1 type ++ be 2 payload.length ++ be 4 s.duplex.txSeq ++ payload
  let s := s.onDuplex fun d => { d with txSeq := (d.txSeq + 1) % 2 ^ 32 }
  let s := [6, 7].foldl (fun s p => sendPort p 4 0 0 mirrorMac mirrorType f s) s
  if onM then sendMask 0x30 4 0 0 Config.peerMac 0x0800 (Config.peerPacket f) (s.emit (.pairM f)) else s

/-- Change the role (R672): event 0x3201. -/
def setRole (new : Nat) (s : State) : State :=
  let old := roleNow s
  if old = new then s else raise 0x3201 (le 1 old ++ le 1 new) (s.setRo 0x3210 0x01 new)

/-- What waits in a queue of a port goes out now, without its gates: nothing is sent after what follows (assumption 89). -/
def flushQueue (p q : Nat) (s : State) : State :=
  let fs := tabGet [] (s.portOf p).queues q
  let s := s.setPort p { s.portOf p with queues := delKey q (s.portOf p).queues }
  fs.foldl (fun s f => ((s.tally 0x2120 0x0D p).tally 0x2120 0x0E p (f.bytes.length + 4)).emit (.wire p false f.bytes)) s

/-- A Lead's relinquish frame (R670 type 7, R680) on P6, P7 and pair M, out of the queue of class 4 (R101) before the device goes on to what ends
its sending. -/
def relinquish (cause : Nat) (s : State) : State :=
  if leads s then
    let s := sendMirror true 7 (be 1 cause) s
    [6, 7, 4, 5].foldl (fun s p => flushQueue p (s.cfg 0x2104 0x01 (16 * p + 4)) s) s
  else s

/-- The pair or pack is left: role 0, nothing known of a peer or member (R691). -/
def leaveRole (s : State) : State :=
  let s := (setRole 0 s).onDuplex fun d => { DuplexSt.reset with txSeq := d.txSeq }
  (s.clearObjects [(0x3210, 2), (0x3210, 3), (0x3210, 4), (0x3210, 5)]).clearRange 0x3211 0x3211

/-- Streams as a bitmap: lowest handle, bytes, bit k of which is the handle lowest + k. -/
def streamBitmap (l : List Nat) : List Byte :=
  let lo := l.foldl Nat.min (l.headD 0)
  let hi := l.foldl Nat.max lo
  let n := if l.isEmpty then 0 else (hi - lo) / 8 + 1
  be 2 lo ++ be 2 n ++ (List.range n).map fun k =>
    BitVec.ofNat 8 ((List.range 8).foldl (fun b j => b + if l.contains (lo + 8 * k + j) then 2 ^ j else 0) 0)
/-- The streams of such a bitmap. -/
def bitmapStreams (l : List Byte) : List Nat :=
  (List.range (8 * beAt l 2 2)).filterMap fun k => if bit (byteAt l (4 + k / 8)) (k % 8) then some (beAt l 0 2 + k) else none

/-- A decision record (R674): kind 0 release, 1 commit, 2 recall target, 3 suspension, 4 resume, 5 lateness change. -/
def decisionRecord (g slot kind cause : Nat) (arrived : List Nat) (s : State) : State :=
  if leads s then sendMirror false 2 (be 1 g ++ be 8 slot ++ be 1 kind ++ be 1 cause ++ streamBitmap arrived) s else s

/-- Transmit sources of sent marks: alarm frames 0, a GOOSE dataset, an output stream. -/
def srcAlarm : Nat := 0
def srcGoose (d : Nat) : Nat := 0x100 + d
def srcOutput (o : Nat) : Nat := 0x200 + o

/-- After a transmission, the Lead's sent mark (R670 type 4). -/
def sentMark (source number : Nat) (s : State) : State :=
  if leads s then sendMirror false 4 (be 2 source ++ be 8 number) s else s

/-- One cycle of the nominal frequency, ps. -/
def gridCycle (s : State) : Nat := sec 1 / s.fnom

/-- A Wheel holds a transmission, at most one grid cycle of each source (R676). -/
def holdTx (x : HeldTx) (s : State) : State :=
  s.onDuplex fun d => { d with heldTx := (d.heldTx.filter fun y => y.source != x.source || s.now < y.heldAt + gridCycle s) ++ [x] }

/-- A sent mark covers the held transmissions of its source up to its number. -/
def dropHeld (source number : Nat) (s : State) : State :=
  s.onDuplex fun d => { d with heldTx := d.heldTx.filter fun y => y.source != source || number < y.number }

end Sys2Proof.Machine
end

