-- ==== Sys2Proof/Machine/C37.lean ====
section
/-! DEFINITION. C37.118.2 frames as ingest reads them: configuration frames (R149, R150), the numbering of signals (R136), data frames and their
conversion to signal words (R154–R159).  The layout of the frames is that of the outside standard (assumption 15). -/

namespace Sys2Proof.Machine
open Sys2Proof

/-- The missing sample (R156). -/
def missingWord : Nat := 2 ^ 64 - 1

/-! ### Configuration frames -/

/-- Skip n names of CFG-3, each a length byte and its characters. -/
def skipNames : Nat → List Byte → List Byte
  | 0, l => l
  | n + 1, l => match l with | [] => [] | b :: r => skipNames n (r.drop b.toNat)

/-- One PMU block of a CFG-2 frame, and the rest. -/
def block2 (l : List Byte) : Option (Block × List Byte) :=
  let ph := beAt l 20 2
  let an := beAt l 22 2
  let dg := beAt l 24 2
  let u := l.drop (26 + 16 * (ph + an + 16 * dg))
  if l.length < 26 || u.length < 4 * (ph + an + dg) + 4 then none
  else
    let phs := (List.range ph).map fun k => (⟨byteAt u (4 * k), beAt u (4 * k + 1) 3, 0, 0⟩ : Channel)
    let ans := (List.range an).map fun k => (⟨byteAt u (4 * (ph + k)), beAt u (4 * (ph + k) + 1) 3, 0, 0⟩ : Channel)
    let v := u.drop (4 * (ph + an + dg))
    some (⟨beAt l 18 2, phs, ans, dg, (List.range dg).map fun k => beAt u (4 * (ph + an + k)) 4, if bit (beAt v 0 2) 0 then 50 else 60,
           beAt v 2 2⟩, v.drop 4)

/-- One PMU block of a CFG-3 frame, and the rest. -/
def block3 (l : List Byte) : Option (Block × List Byte) :=
  let h := skipNames 1 l
  let ph := beAt h 20 2
  let an := beAt h 22 2
  let dg := beAt h 24 2
  let u := skipNames (ph + an + 16 * dg) (h.drop 26)
  if h.length < 26 || u.length < 12 * ph + 8 * an + 4 * dg + 25 then none
  else
    let phs := (List.range ph).map fun k => (⟨b2n (bit (byteAt u (12 * k + 2)) 3), 0, beAt u (12 * k + 4) 4, beAt u (12 * k + 8) 4⟩ : Channel)
    let ans := (List.range an).map fun k => (⟨0, 0, beAt u (12 * ph + 8 * k) 4, beAt u (12 * ph + 8 * k + 4) 4⟩ : Channel)
    let v := u.drop (12 * ph + 8 * an + 4 * dg + 21)
    some (⟨beAt h 18 2, phs, ans, dg, (List.range dg).map fun k => beAt u (12 * ph + 8 * an + 4 * k) 4,
           if bit (beAt v 0 2) 0 then 50 else 60, beAt v 2 2⟩, v.drop 4)

/-- n blocks. -/
def blocks (cfg3 : Bool) : Nat → List Byte → Option (List Block × List Byte)
  | 0, l => some ([], l)
  | n + 1, l =>
    match (if cfg3 then block3 l else block2 l) with
    | none => none
    | some (b, r) => (blocks cfg3 n r).map fun p => (b :: p.1, p.2)

/-- The type and the version of a frame (R142). -/
def frameType (l : List Byte) : Nat := field (byteAt l 1) 6 4
def frameVersion (l : List Byte) : Nat := field (byteAt l 1) 3 0

/-- A configuration frame taken apart, when its contents fit its length. -/
def parseCfg (l : List Byte) : Option PartnerCfg :=
  let c3 := frameType l == 5
  let o := if c3 then 16 else 14
  match blocks c3 (beAt l (o + 4) 2) (l.drop (o + 6)) with
  | none => none
  | some (bs, r) => if r.length ≠ 4 then none else some ⟨c3, beAt l 4 2, beAt l o 4, ofTwos 16 (beAt r 0 2), bs, l⟩

/-- Signals of a block (R136). -/
def Block.signals (b : Block) : Nat := b.phasors.length + b.analogs.length + b.digitals + 2
/-- The signal count of a configuration (R136). -/
def PartnerCfg.signals (c : PartnerCfg) : Nat := (c.blocks.map Block.signals).foldl (· + ·) 0

/-- Kind and frequency index of every signal from number k on (R136). -/
def kindsFrom : Nat → List Block → List (Nat × Nat)
  | _, [] => []
  | k, b :: l =>
    let f := k + b.phasors.length
    (b.phasors.map fun _ => (0, f)) ++ [(1, f), (2, f)] ++ (b.analogs.map fun _ => (3, f)) ++
      (List.range b.digitals).map (fun _ => (4, f)) ++ kindsFrom (k + b.signals) l
def PartnerCfg.kinds (c : PartnerCfg) : List (Nat × Nat) := kindsFrom 0 c.blocks

/-- CHK of a frame is right (R160 check 2). -/
def chkGood (l : List Byte) : Bool := l.length ≥ 2 && crcCcitt (l.take (l.length - 2)) == beAt l (l.length - 2) 2

/-- The first test of R150, in its order, that a configuration frame fails for a row of a set; a frame whose contents do not fit its length fails
test 0. -/
def cfgFailure (d : Dict) (row : Nat) (l : List Byte) : Option Nat :=
  match (if chkGood l then parseCfg l else none) with
  | none => some 0
  | some c =>
    let rd := fun idx sub r => (readIn d idx sub r).bits
    if c.idcode ≠ rd 0x2201 0x02 row then some 1
    else if c.rate ≠ ofTwos 16 (rd 0x2301 0x01 (rd 0x2201 0x08 row)) then some 2
    else if c.blocks.any fun b => b.fnom != rd 0x2010 0x01 noRow then some 3
    else if c.signals > rd 0x2201 0x0A row then some 4
    else if c.timeBase % 2 ^ 24 = 0 ∨ c.timeBase ≥ 2 ^ 24 then some 5
    else none

/-- The part of a configuration frame compared in R151: from the second byte after SYNC to before CHK, without SOC and FRACSEC. -/
def cfgComparable (l : List Byte) : List Byte := slice l 2 4 ++ (l.take (l.length - 2)).drop 14

/-! ### Conversion (R155, R156) -/

/-- An angle in turns as a 32-bit pattern, to nearest, ties to even. -/
def turn32 (turns : Q) : Nat := toTwos 32 (Q.round (Q.mul turns (Q.ofNat (2 ^ 32))))
/-- Radians as turns. -/
def radTurns (r : Q) : Q := Q.div r (Q.mul (Q.ofNat 2) qPi)

/-- A converted field: the word, and how many of its values made it missing. -/
def lost (n : Nat) : Nat × Nat := (missingWord, n)
/-- A word of an F32 value. -/
def word32 (f : Nat) : Nat × Nat := (f * 2 ^ 32, 0)

/-- Scale and angle adjustment of a phasor. -/
def phasorWord (cfg3 : Bool) (ch : Channel) (mag turns : Q) : Nat × Nat :=
  let m := if cfg3 then Q.mul mag (f32 ch.scale) else mag
  let t := if cfg3 then Q.add turns (radTurns (f32 ch.offset)) else turns
  let t := if m.num < 0 then Q.add t ⟨1, 2⟩ else t
  (toF32 m.abs * 2 ^ 32 + turn32 t, 0)

/-- How many of two F32 fields are NaN or infinite. -/
def nonFinite (l : List Nat) : Nat := (l.filter fun b => (binary32.toQ b).isNone).length

/-- A phasor of rectPhasor components: √(re² + im²) and atan2(im, re), each operation in binary64 (R155). -/
def rectPhasor (cfg3 : Bool) (ch : Channel) (re im : Q) : Nat × Nat :=
  let re := dbl re
  let im := dbl im
  let mag := dbl (Q.sqrt (dbl (Q.add (dbl (Q.mul re re)) (dbl (Q.mul im im)))))
  phasorWord cfg3 ch mag (radTurns (dbl (Q.mul (atan2Turn im re) (Q.mul (Q.ofNat 2) qPi))))

/-- A phasor field. -/
def phasor (cfg3 : Bool) (fmt : Nat) (ch : Channel) (l : List Byte) : Nat × Nat :=
  let unit : Q := if cfg3 then Q.one else Q.make ch.unit 100000
  if bit fmt 1 then
    let a := beAt l 0 4
    let b := beAt l 4 4
    let n := nonFinite [a, b]
    if n ≠ 0 then lost n
    else if bit fmt 0 then phasorWord cfg3 ch (f32 a) (radTurns (f32 b))
    else rectPhasor cfg3 ch (f32 a) (f32 b)
  else
    let a := beAt l 0 2
    let b := beAt l 2 2
    if bit fmt 0 then
      if b = 0x8000 then lost 1
      else phasorWord cfg3 ch (Q.mul (Q.ofNat a) unit) (radTurns (Q.make (ofTwos 16 b) 10000))
    else
      let n := b2n (a == 0x8000) + b2n (b == 0x8000)
      if n ≠ 0 then lost n
      else rectPhasor cfg3 ch (Q.mul (Q.ofInt (ofTwos 16 a)) unit) (Q.mul (Q.ofInt (ofTwos 16 b)) unit)

/-- A frequency field (deviation from nominal), or a ROCOF field with nominal 0 and its own integer scale. -/
def rateField (float : Bool) (nominal : Nat) (den : Nat) (l : List Byte) : Nat × Nat :=
  if float then
    let a := beAt l 0 4
    if nonFinite [a] ≠ 0 then lost 1
    else if nominal = 0 then word32 a else word32 (toF32 (Q.sub (f32 a) (Q.ofNat nominal)))
  else
    let a := beAt l 0 2
    if a = 0x8000 then lost 1 else word32 (toF32 (Q.make (ofTwos 16 a) den))

/-- An analog field. -/
def analog (cfg3 float : Bool) (ch : Channel) (l : List Byte) : Nat × Nat :=
  let a := if float then beAt l 0 4 else beAt l 0 2
  if float then
    if nonFinite [a] ≠ 0 then lost 1
    else if cfg3 then word32 (toF32 (Q.add (Q.mul (f32 a) (f32 ch.scale)) (f32 ch.offset))) else word32 a
  else if a = 0x8000 then lost 1
  else
    let v := Q.ofInt (ofTwos 16 a)
    if cfg3 then word32 (toF32 (Q.add (Q.mul v (f32 ch.scale)) (f32 ch.offset)))
    else word32 (toF32 (Q.mul v (Q.ofInt (ofTwos 24 ch.unit))))

/-- Widths of a block's fields. -/
def Block.phasorBytes (b : Block) : Nat := if bit b.format 1 then 8 else 4
def Block.freqBytes (b : Block) : Nat := if bit b.format 3 then 4 else 2
def Block.analogBytes (b : Block) : Nat := if bit b.format 2 then 4 else 2
/-- Bytes of a block in a data frame, STAT included. -/
def Block.bytes (b : Block) : Nat :=
  2 + b.phasors.length * b.phasorBytes + 2 * b.freqBytes + b.analogs.length * b.analogBytes + 2 * b.digitals
/-- FRAMESIZE of the data frames of a configuration. -/
def PartnerCfg.frameSize (c : PartnerCfg) : Nat := 16 + (c.blocks.map Block.bytes).foldl (· + ·) 0

/-- The fields of one block after its STAT word, in the order of R136. -/
def blockWords (cfg3 : Bool) (b : Block) (l : List Byte) : List (Nat × Nat) :=
  let pb := b.phasorBytes
  let fb := b.freqBytes
  let ab := b.analogBytes
  let o1 := b.phasors.length * pb
  let o2 := o1 + 2 * fb
  let o3 := o2 + b.analogs.length * ab
  ((List.range b.phasors.length).zip b.phasors).map (fun p => phasor cfg3 b.format p.2 (l.drop (p.1 * pb))) ++
  [rateField (bit b.format 3) b.fnom 1000 (l.drop o1), rateField (bit b.format 3) 0 100 (l.drop (o1 + fb))] ++
  ((List.range b.analogs.length).zip b.analogs).map (fun p => analog cfg3 (bit b.format 2) p.2 (l.drop (o2 + p.1 * ab))) ++
  (List.range b.digitals).map (fun k => (beAt l (o3 + 2 * k) 2, 0))

/-! ### Quality (R157, R158) -/

/-- The class of the message time-quality code. -/
def messageClass (code : Nat) : Nat := if code ≤ 3 then 0 else if code ≤ 8 then code - 3 else 6
/-- The partner's class: message code, and STAT[8:6] of version-2 frames. -/
def partnerClass (code version stat : Nat) : Nat :=
  let q := field stat 8 6
  let c := if version < 2 ∨ q = 0 then 0 else q - 1
  Nat.max (messageClass code) c
/-- Quality bits [4:0] of a block. -/
def blockQuality (deviceClass code version stat : Nat) : Nat :=
  16 * b2n (field stat 15 14 != 0) + 8 * b2n (bit stat 13 || bit stat 12) + Nat.max deviceClass (partnerClass code version stat)

/-- A data frame, parsed. -/
structure DataFrame where
  words : List Nat
  quality : List Nat
  stats : List Nat
  nonFinite : Nat
  /-- the partner's class over its blocks -/
  cls : Nat

/-- Parse the blocks of a data frame from offset 14 on. -/
def parseBlocks (cfg3 : Bool) (deviceClass code version : Nat) : List Block → List Byte → DataFrame
  | [], _ => ⟨[], [], [], 0, 0⟩
  | b :: bs, l =>
    let stat := beAt l 0 2
    let fs := blockWords cfg3 b (l.drop 2)
    let all := field stat 15 14 == 3
    let q := blockQuality deviceClass code version stat
    let r := parseBlocks cfg3 deviceClass code version bs (l.drop b.bytes)
    { words := (fs.map fun f => if all then missingWord else f.1) ++ r.words
      quality := (fs.map fun _ => q) ++ r.quality
      stats := stat :: r.stats
      nonFinite := (fs.map (·.2)).foldl (· + ·) 0 + r.nonFinite
      cls := Nat.max (partnerClass code version stat) r.cls }

/-- Parse a data frame under a configuration. -/
def parseData (c : PartnerCfg) (deviceClass : Nat) (l : List Byte) : DataFrame :=
  parseBlocks c.cfg3 deviceClass (byteAt l 10 % 16) (frameVersion l) c.blocks (l.drop 14)

/-! ### Instants (R54, R58, R159) -/

/-- Δ in force at a UTC instant, in units of 2^-48 s: that of before the last leap, the present one, or that of after the leap scheduled. -/
def State.deltaAt (s : State) (utc : Int) : Int :=
  let before : Option Int := match s.time.lastLeap with
    | some (u, sign) => if utc < u then some (s.delta - sign) else none
    | none => none
  match before, leapDue s with
  | some d, _ => d
  | none, some (u, sign) => if (u : Int) ≤ utc then s.delta + sign else s.delta
  | none, none => s.delta

/-- The T96 instant of SOC and FRACSEC (R159), with the Δ in force then (R54); the first second after an inserted leap, applied or about to be, has
two candidates (R58). -/
def socT96 (s : State) (soc frac timeBase ingress : Nat) : Nat :=
  let utc := soc * 2 ^ 48 + frac * 2 ^ 48 / timeBase
  let inst := fun (d : Int) => ((utc : Int) + d * 2 ^ 48).toNat
  let after : Option Int := match s.time.lastLeap, leapDue s with
    | some (u, sign), due =>
      if soc = u / 2 ^ 48 ∧ sign > 0 then some s.delta
      else (match due with | some (v, g) => if soc = v / 2 ^ 48 ∧ g > 0 then some (s.delta + 1) else none | none => none)
    | none, some (v, g) => if soc = v / 2 ^ 48 ∧ g > 0 then some (s.delta + 1) else none
    | none, none => none
  match after with
  | some d => if inst d ≤ ingress then inst d else inst (d - 1)
  | none => inst (s.deltaAt utc)

end Sys2Proof.Machine
end

