-- ==== Sys2Proof/Machine/Align.lean ====
section
/-! DEFINITION. Alignment groups, slot geometry (R186–R189), cells, and the Pointer (R205–R210). -/

namespace Sys2Proof.Machine
open Sys2Proof

def State.group (s : State) (g : Nat) : Group := tabGet .reset s.groups g
def State.setGroup (s : State) (g : Nat) (x : Group) : State := { s with groups := putKey g x s.groups }
def State.stream (s : State) (h : Nat) : Stream := tabGet .reset s.ingest.streams h
def State.setStream (s : State) (h : Nat) (x : Stream) : State := s.onIngest fun i => { i with streams := putKey h x i.streams }

/-! ### Streams and signals (R134–R137) -/

/-- Handle of the first local stream. -/
def firstLocal : Nat := 20480
/-- First signal handle of a stream. -/
def signalBase (s : State) (h : Nat) : Nat :=
  if h < firstLocal then s.cfg 0x2201 0x09 h else 5242880 + 256 * (h - firstLocal)
/-- The alignment group of a stream. -/
def groupOf (s : State) (h : Nat) : Nat := if h < firstLocal then s.cfg 0x2201 0x08 h else s.cfg 0x2910 0x02 (h - firstLocal)
/-- Signal handles a stream reserves. -/
def capacityOf (s : State) (h : Nat) : Nat := if h < firstLocal then s.cfg 0x2201 0x0A h else 256
/-- Stream states (R147). -/
def streamState (s : State) (h : Nat) : Nat := s.ro 0x2203 0x01 h
/-- A local stream runs: its state is ON (R430). -/
def localOn (s : State) (h : Nat) : Bool := h ≥ firstLocal && s.ro 0x2911 0x01 (h - firstLocal) == 2
/-- A stream is ACTIVE or SILENT, or a local stream that runs. -/
def streamLive (s : State) (h : Nat) : Bool :=
  if h < firstLocal then streamState s h == 3 || streamState s h == 4 else localOn s h

/-- The streams of a group that the device knows of and that are live, in increasing handle. -/
def liveStreams (s : State) (g : Nat) : List Nat :=
  (s.ingest.streams.map (·.1)).filter fun h => streamLive s h && groupOf s h == g

/-- The stream whose reserved block holds a signal handle. -/
def ownerOf (s : State) (sig : Nat) : Option Nat :=
  if sig ≥ 5242880 then (if sig < 5243904 then some (firstLocal + (sig - 5242880) / 256) else none)
  else (s.ingest.streams.map (·.1)).find? fun h => h < firstLocal && signalBase s h ≤ sig && sig < signalBase s h + capacityOf s h

/-- Kind of a signal in its stream's configuration in use, with the index of its block's frequency. -/
def kindOf (s : State) (sig : Nat) : Option (Nat × Nat) :=
  match ownerOf s sig with
  | none => none
  | some h => (s.stream h).kinds[sig - signalBase s h]?

/-! ### Slot geometry -/

/-- The reporting period in seconds (R186). -/
def periodQ (r : Int) : Q := if r > 0 then Q.make 1 r.natAbs else Q.make r.natAbs 1

/-- A UTC instant u, in s, as T96 with the Δ in force there (R35, R54). -/
def utcT96 (s : State) (u : Q) : Q := Q.add u (Q.ofInt (s.deltaAt (Q.floor (Q.mul u (Q.ofNat (2 ^ 48))))))

/-- A T96 point of slot i: t_i at q = 0, the start and the end of its window at q = −2 and 2, each converted from its own UTC instant (R186, R187),
and t_i ∓ P/4, the snap band, at q = −1 and 1 (R189). -/
def slotPoint (s : State) (r : Int) (i : Nat) (q : Int) : Nat :=
  let p := periodQ r
  let u := Q.mul (Q.ofNat i) p
  let x := if q.natAbs = 1 then Q.add (utcT96 s u) (Q.mul (Q.make q 4) p) else utcT96 s (Q.add u (Q.mul (Q.make q 4) p))
  (Q.floor (Q.mul x (Q.ofNat (2 ^ 48)))).toNat

/-- Slot i's UTC instant falls in an omitted leap second (R188). -/
def slotOmitted (s : State) (r : Int) (i : Nat) : Bool :=
  let u := Q.floor (Q.mul (Q.mul (Q.ofNat i) (periodQ r)) (Q.ofNat (2 ^ 48)))
  let hit := fun (l : Option (Nat × Int)) => match l with | some (x, sign) => sign < 0 && (x : Int) - 2 ^ 48 ≤ u && u < x | none => false
  hit s.time.lastLeap || hit (leapDue s)

/-- The index of the slot whose window holds a T96 instant under a given Δ. -/
def slotUnder (r : Int) (tau : Nat) (d : Int) : Nat :=
  (Q.floor (Q.add (Q.div (Q.sub (Q.make tau (2 ^ 48)) (Q.ofInt d)) (periodQ r)) ⟨1, 2⟩)).toNat

/-- The slot whose window contains a T96 instant; none in the second an inserted leap adds (R187, R188). -/
def slotOf (s : State) (r : Int) (tau : Nat) : Option Nat :=
  let k := slotUnder r tau s.delta
  [k, k - 1, k + 1, slotUnder r tau (s.delta - 1), slotUnder r tau (s.delta + 1)].find? fun j =>
    !slotOmitted s r j && slotPoint s r j (-2) ≤ tau && tau < slotPoint s r j 2

/-- A bound on the slots of two seconds. -/
def slotsPerTwo (r : Int) : Nat := 2 * r.natAbs + 2

/-- The first slot whose window starts at or after a T96 instant (R191). -/
def firstSlotAt (s : State) (r : Int) (t : Nat) : Nat :=
  let k := slotUnder r t s.delta
  let near := [-1, 0, 1].flatMap fun (d : Int) => let j := slotUnder r t (s.delta + d); [j, j + 1]
  (near.filter fun j => t ≤ slotPoint s r j (-2)).foldl Nat.min (k + slotsPerTwo r)

/-- The slot opened after slot i (R188). -/
def nextSlot (s : State) (r : Int) (i : Nat) : Nat :=
  ((List.range 241).map fun k => i + 1 + k).find? (fun j => !slotOmitted s r j) |>.getD (i + 1)

/-- Seconds as slots, rounded up. -/
def slotsIn (r : Int) (seconds : Nat) : Nat := (-(Q.floor (Q.neg (Q.div (Q.ofNat seconds) (periodQ r))))).toNat

/-! ### Slots of a group -/

def Group.slot? (x : Group) (i : Nat) : Option Slot := lookup i x.slots
def setSlot (g i : Nat) (x : Slot) (s : State) : State :=
  let gr := s.group g
  s.setGroup g { gr with slots := putKey i x gr.slots }
/-- Change a slot that the grid holds. -/
def onSlot (g i : Nat) (f : Slot → Slot) (s : State) : State :=
  match (s.group g).slot? i with | some x => setSlot g i (f x) s | none => s

/-- The recall horizon of slot i is open (R211); that of a slot of an earlier grid until its commit. -/
def horizonOpen (x : Group) (i : Nat) : Bool :=
  match x.slot? i with
  | some sl => sl.state != 4 && (sl.rate != x.rate || match x.newest with | some n => n < i + 32 | none => true)
  | none => false

/-- Slot i is complete (R194): every expected stream has arrived. -/
def Slot.complete (x : Slot) : Bool := x.expected.all fun h => x.arrived.contains h
/-- Streams of the quorum set that have arrived. -/
def Slot.quorumArrived (x : Slot) : Nat := (x.quorumSet.filter fun h => x.arrived.contains h).length
/-- ⌈fraction ÷ 10,000 × n⌉. -/
def share (fraction n : Nat) : Nat := (fraction * n + 9999) / 10000
/-- Quorum is met (R195). -/
def Slot.quorumMet (x : Slot) : Bool := !x.arrived.isEmpty && x.quorumArrived ≥ share x.quorum x.quorumSet.length
/-- The speculative wait in T96 units (R196): 1/64 cycles of the nominal frequency. -/
def specWaitT96 (fnom units : Nat) : Nat := units * 2 ^ 48 / (64 * fnom)
/-- The speculative wait has elapsed and the release floor is met (R196, R199). -/
def Slot.waitReleases (x : Slot) (fnom t96 : Nat) : Bool :=
  (match x.firstAt with | some a => a + specWaitT96 fnom x.specWait ≤ t96 | none => false) &&
  x.quorumArrived ≥ share x.floor x.quorumSet.length
/-- The maximum wait has elapsed (R196). -/
def Slot.waitOver (x : Slot) (t96 : Nat) : Bool := x.nominal + x.wait * 2 ^ 48 / 1000 ≤ t96

/-! ### The Pointer -/

/-- Insert a received sample in slot order; a full history loses its lowest slot; a sample older than all of a full history is not inserted
(R205). -/
def insertSample (x : Sample) (l : List Sample) : List Sample :=
  let rest := l.filter fun y => y.slot != x.slot
  let all := (rest.filter fun y => y.slot < x.slot) ++ [x] ++ (rest.filter fun y => x.slot < y.slot)
  match l with
  | y :: _ => if x.slot < y.slot then l else if all.length > 16 then all.drop 1 else all
  | [] => all

/-- Enter the received words of a frame for slot i into a stream's history (R205). -/
def enterHistory (h i : Nat) (words quals : List Nat) (s : State) : State :=
  let x := s.stream h
  let hist := ((List.range words.length).zip (words.zip quals)).foldl (fun t e =>
    if e.2.1 = missingWord then t
    else putKey e.1 (insertSample ⟨i, e.2.1, e.2.2⟩ (tabGet [] t e.1)) t) x.history
  s.setStream h { x with history := hist }

/-- Slots below j that a stream's history holds received samples from. -/
def historySlots (x : Stream) (j : Nat) : List Nat :=
  ((x.history.flatMap fun e => e.2.map (·.slot)).filter fun i => i < j).eraseDups

/-- The history of signal k below slot j (R209). -/
def below (x : Stream) (k j : Nat) : List Sample := (tabGet [] x.history k).filter fun y => y.slot < j

/-- The predictable history of signal k for slot j (R206): its samples below j, when it reaches. -/
def predictable (s : State) (x : Stream) (habitual : Bool) (k j : Nat) : Option (List Sample) :=
  let l := below x k j
  match l.getLast? with
  | none => none
  | some y =>
    if habitual || (historySlots x j).length < s.cfg 0x2300 0x05 || j - y.slot > s.cfg 0x2300 0x06 then none else some l

/-- The value of a sample in [63:32] as a rational. -/
def Sample.value (y : Sample) : Q := f32 (y.word / 2 ^ 32)
/-- The angle of a sample in [31:0]. -/
def Sample.angle (y : Sample) : Nat := y.word % 2 ^ 32

/-- x_H + n·d̄ (R207), each operation in binary64. -/
def linear (l : List Sample) (j : Nat) : Q :=
  match l.getLast? with
  | none => Q.zero
  | some y =>
    let k := Nat.min (l.length - 1) 8
    match l[l.length - 1 - k]? with
    | none => y.value
    | some z =>
      if k = 0 then y.value
      else
        let step := dbl (Q.div (dbl (Q.sub y.value z.value)) (Q.ofNat (y.slot - z.slot)))
        dbl (Q.add y.value (dbl (Q.mul (Q.ofNat (j - y.slot)) step)))

/-- The predicted angle of a phasor without a usable frequency (R207, last angle row). -/
def angleStep (l : List Sample) (j : Nat) : Nat :=
  match l.getLast? with
  | none => 0
  | some y =>
    let k := Nat.min (l.length - 1) 8
    match l[l.length - 1 - k]? with
    | none => y.angle
    | some z =>
      if k = 0 then y.angle
      else
        let d := ofTwos 32 (y.angle + 2 ^ 32 - z.angle)
        let turned := dbl (Q.ofInt (((j - y.slot : Nat) : Int) * d))
        toTwos 32 (y.angle + Q.round (dbl (Q.div turned (Q.ofNat (y.slot - z.slot)))))

/-- The predicted angle of a phasor whose block's frequency is f at its slot and f̂ at slot j, after dt s (R207, first angle row). -/
def angleTurned (angle : Nat) (f fhat dt : Q) : Nat :=
  let turns := dbl (Q.mul (dbl (Q.mul ⟨1, 2⟩ (dbl (Q.add f fhat)))) (dbl dt))
  toTwos 32 (angle + Q.round (Q.mul turns (Q.ofNat (2 ^ 32))))

/-- The predicted word of signal k for slot j (R207) and its quality byte, with the device's class at release (R208). -/
def predictSignal (s : State) (x : Stream) (habitual : Bool) (r : Int) (cls k j : Nat) : Option Cell :=
  match predictable s x habitual k j, x.kinds[k]? with
  | some l, some (kind, fk) =>
    match l.getLast? with
    | none => none
    | some y =>
      let q := 128 + y.quality / 8 % 4 * 8 + Nat.max (y.quality % 8) cls
      let word :=
        if kind = 4 then y.word
        else if kind = 0 then
          let mag := toF32 (Q.max Q.zero (linear l j))
          let fAt := (tabGet [] x.history fk).find? fun f => f.slot == y.slot
          let ang := match fAt, predictable s x habitual fk j with
            | some f, some fl =>
              angleTurned y.angle f.value (linear fl j) (Q.make ((slotPoint s r j 0 : Int) - slotPoint s r y.slot 0) (2 ^ 48))
            | _, _ => angleStep l j
          mag * 2 ^ 32 + ang
        else toF32 (linear l j) * 2 ^ 32
      some ⟨word, q⟩
  | _, _ => none

/-- Fill the predictions of slot j (R204, R206): every signal without a received cell of every live stream of the group that did not arrive. -/
def predictSlot (g j : Nat) (s : State) : State :=
  match (s.group g).slot? j with
  | none => s
  | some sl =>
    let one := fun (acc : Tab Cell × Nat) (h : Nat) =>
      if sl.arrived.contains h then acc
      else
        let x := s.stream h
        let habitual := if sl.expected.contains h then !sl.quorumSet.contains h else s.ro 0x2311 0x01 h == 1
        let b := signalBase s h
        let t := (List.range x.kinds.length).foldl (fun t k =>
          match predictSignal s x habitual sl.rate sl.cls k j with | some c => putKey (b + k) c t | none => t) acc.1
        (t, if t.length > acc.1.length then acc.2 + 1 else acc.2)
    let (t, n) := ((liveStreams s g).filter (homeHere s)).foldl one ([], 0)
    (onSlot g j (fun x => { x with predicted := t, predictedStreams := n }) s).addTo 0x2320 0x07 t.length g

/-- A cell as presented at PROCESS, or at COMMIT when `committed` (R204): the received word, else at PROCESS the prediction, else missing. -/
def Slot.present (x : Slot) (committed : Bool) (sig : Nat) : Cell :=
  match lookup sig x.cells with
  | some c => c
  | none => if committed then ⟨missingWord, 0⟩ else tabGet ⟨missingWord, 0⟩ x.predicted sig

/-- A signal as presented at slot i of group g. -/
def presented (s : State) (g i : Nat) (committed : Bool) (sig : Nat) : Cell :=
  match (s.group g).slot? i with
  | some x => x.present committed sig
  | none => ⟨missingWord, 0⟩

/-- Out of tolerance (R214): prediction and late value of a signal of a kind; the tolerances of 0x2305:01–06 as bit patterns. -/
def outOfTolerance (tolerances : List Nat) (kind : Nat) (pred got : Nat) : Bool :=
  let tol := fun k => f32 (tolerances.getD k 0)
  let a := f32 (pred / 2 ^ 32)
  let b := f32 (got / 2 ^ 32)
  let diff := Q.abs (Q.sub b a)
  let rel := fun t => Q.lt (Q.mul (Q.div t (Q.ofNat 100)) (Q.max a.abs b.abs)) diff
  if kind = 0 then
    let d := (ofTwos 32 (got % 2 ^ 32 + 2 ^ 32 - pred % 2 ^ 32)).natAbs
    rel (tol 0) || Q.lt (tol 1) (Q.make (d * 360) (2 ^ 32))
  else if kind = 1 then Q.lt (tol 2) diff
  else if kind = 2 then Q.lt (tol 3) diff
  else if kind = 3 then rel (tol 4)
  else (pred ^^^ got) % 65536 &&& tolerances.getD 5 0 != 0

/-- The total angle's GAT fraction now, from the positive-sequence angle at t_k and the frequency (R64, R65). -/
def referencePhase (s : State) (tk : Nat) (turn f : Q) : Nat :=
  let u := Q.sub (Q.make tk (2 ^ 48)) (Q.ofInt s.delta)
  let since := Q.make ((s.t96 : Int) - tk) (2 ^ 48)
  turn32 (Q.add (Q.add turn ⟨1, 4⟩) (Q.add (Q.mul (Q.ofNat s.fnom) u) (Q.mul f since)))

/-! ### Sets about a swap -/

/-- The set that holds for a slot boundary: the one before the last swap for a boundary before it (R338, R381, R435). -/
def pubSet (s : State) (boundary : Nat) : Dict := match s.pub.oldSet with | some (d, at_) => if boundary < at_ then d else s.active | none => s.active

/-- The distinct numbers of a list. -/
def distinct (l : List Nat) : List Nat := l.eraseDups

/-- A value differs between two sets. -/
def differs (a b : Dict) (idx sub row : Nat) : Bool := decide (readIn a idx sub row ≠ readIn b idx sub row)

/-- The entries of an index in a set. -/
def entriesOf (d : Dict) (idx : Nat) : Dict := d.filter fun e => e.1 / 0x100000000 == idx

/-- Rows of an index in either of two sets. -/
def rowsEither (a b : Dict) (idx : Nat) : List Nat :=
  distinct (((entriesOf a idx) ++ (entriesOf b idx)).map fun e => e.1 % 0x1000000)

/-- Rows of an index whose entries differ between two sets. -/
def rowsChanged (a b : Dict) (idx : Nat) : List Nat :=
  (rowsEither a b idx).filter fun r =>
    ((entriesOf a idx).filter fun e => e.1 % 0x1000000 == r) != ((entriesOf b idx).filter fun e => e.1 % 0x1000000 == r)

end Sys2Proof.Machine
end

