-- ==== Sys2Proof/Machine/Eddy.lean ====
section
/-! DEFINITION. Eddy's band-energy detectors (R269–R281). -/

namespace Sys2Proof.Machine
open Sys2Proof

/-! ### Filters (R271, R273) -/

/-- Frames per second of a group rate. -/
def rateQ (r : Int) : Q := Q.div Q.one (periodQ r)
/-- Taps of a band. -/
def taps (b : Nat) : Nat := if b ≤ 1 then 127 else 65
/-- Slots per block (R271). -/
def decimation (r : Int) (b : Nat) : Nat :=
  let d := match b with
    | 0 => Q.floor (Q.mul (Q.ofNat 2) (rateQ r))
    | 1 => Q.floor (Q.div (rateQ r) ⟨5, 2⟩)
    | 2 => Q.floor (Q.div (rateQ r) ⟨10, 1⟩)
    | _ => 1
  Nat.max 1 d.toNat
/-- A band is available at a rate (R271). -/
def bandAvailable (r : Int) (b : Nat) : Bool :=
  let least : Q := match b with | 0 => ⟨1, 2⟩ | 1 => ⟨2, 1⟩ | _ => ⟨10, 1⟩
  r != 0 && Q.le least (rateQ r)
/-- The working rate w. -/
def workingRate (r : Int) (b : Nat) : Q := Q.div (rateQ r) (Q.ofNat (decimation r b))

/-- The band edges. -/
def bandEdges (r : Int) (b : Nat) : Q × Q :=
  match b with
  | 0 => (⟨1, 100⟩, ⟨15, 100⟩)
  | 1 => (⟨1, 10⟩, ⟨1, 1⟩)
  | 2 => (⟨1, 1⟩, ⟨4, 1⟩)
  | _ => (⟨4, 1⟩, Q.div (workingRate r b) ⟨2, 1⟩)

/-- 2(f/w)·sinc(2f·m/w). -/
def sincTerm (f w : Q) (m : Int) : Q :=
  if m = 0 then Q.div (Q.mul (Q.ofNat 2) f) w
  else Q.div (sincosTurn (Q.div (Q.mul f (Q.ofInt m)) w)).1 (Q.mul qPi (Q.ofInt m))

/-- The window v[k] of R273. -/
def blackman (n k : Nat) : Q :=
  let c1 := (sincosTurn (Q.make k (n - 1))).2
  let c2 := (sincosTurn (Q.make (2 * k) (n - 1))).2
  Q.add (Q.sub ⟨42, 100⟩ (Q.mul ⟨1, 2⟩ c1)) (Q.mul ⟨8, 100⟩ c2)

/-- |H(f)| of coefficients at working rate w. -/
def gainAt (h : List Q) (f w : Q) : Q :=
  let ang := fun k => sincosTurn (Q.div (Q.mul f (Q.ofNat k)) w)
  let re := Q.sum (((List.range h.length).zip h).map fun p => Q.mul p.2 (ang p.1).2)
  let im := Q.sum (((List.range h.length).zip h).map fun p => Q.mul p.2 (ang p.1).1)
  Q.sqrt (Q.add (Q.mul re re) (Q.mul im im))

/-- The band-pass coefficients of R273 for edges, unit-gain frequency, working rate and taps, as F32 patterns. -/
def bandPass (fl fh fc w : Q) (n : Nat) : List Nat :=
  let m := (n - 1) / 2
  let v := (List.range n).map (blackman n)
  let g := (List.range n).map fun (k : Nat) =>
    let j : Int := (k : Int) - (m : Int)
    Q.sub (sincTerm fh w j) (sincTerm fl w j)
  let h0 := (v.zip g).map fun p => Q.mul p.1 p.2
  let ratio := Q.div (Q.sum h0) (Q.sum v)
  let h1 := (h0.zip v).map fun p => Q.sub p.1 (Q.mul p.2 ratio)
  let gain := gainAt h1 fc w
  h1.map fun x => toF32 (Q.div x gain)

/-- The coefficients of a band at a group rate. -/
def bandCoefficients (r : Int) (b : Nat) : List Nat :=
  let w := workingRate r b
  let (fl, fh) := bandEdges r b
  let fc := if b ≤ 2 then Q.sqrt (Q.mul fl fh) else Q.div (Q.add fl (Q.div w ⟨2, 1⟩)) ⟨2, 1⟩
  bandPass fl fh fc w (taps b)

/-! ### Rows (R269, R270) -/

/-- Rows in use on a group's signals, with their stream. -/
def bandRows (s : State) (g : Nat) : List (Nat × Nat) :=
  (rowsOf s.active 0x2501 0x01).filterMap fun r =>
    match ownerOf s (s.cfg 0x2501 0x01 r) with
    | some h => if groupOf s h = g && homeHere s h then some (r, h) else none
    | none => none

/-- Bands of a row. -/
def bandsOf (s : State) (rate : Int) (r : Nat) : List Nat :=
  (List.range 4).filter fun b => bit (s.cfg 0x2501 0x03 r) b && bandAvailable rate b

/-- The kind of R154 that an input kind takes (0 and 1 phasor). -/
def kindWanted (k : Nat) : Nat := if k ≤ 1 then 0 else k - 1

/-- The cause that makes a row INVALID whatever its data (R270): 4 stream not active, 3 kind mismatch, 0 none. -/
def rowCause (s : State) (r h : Nat) : Nat :=
  if !streamLive s h then 4
  else match kindOf s (s.cfg 0x2501 0x01 r) with
    | some (k, _) => if k = kindWanted (s.cfg 0x2501 0x02 r) then 0 else 3
    | none => 3

def State.band (s : State) (r b : Nat) : Band := tabGet .reset s.eddy.bands (4 * r + b)
def State.setBand (s : State) (r b : Nat) (x : Band) : State := s.onEddy fun e => { e with bands := putKey (4 * r + b) x e.bands }

/-- Group, state of a band of a detector row in use; none when the band is not configured. -/
def bandShown (s : State) (r b : Nat) : Option BandSpec :=
  match ownerOf s (s.cfg 0x2501 0x01 r) with
  | none => none
  | some h =>
    let rate := s.cfgInt 0x2301 0x01 (groupOf s h)
    if s.cfg 0x2501 0x01 r = 0xFFFFFFFF || rate = 0 || !(bandsOf s rate r).contains b then none
    else
      let c := rowCause s r h
      let x := (s.band r b).spec
      some (if c ≠ 0 then { x with state := 2, cause := c } else x)

/-- Detector rows with a signal. -/
def detectorRows (s : State) : List Nat := rowsOf s.active 0x2501 0x01

/-- 0x2540:04: bands INVALID now. -/
def bandsInvalid (s : State) : Nat :=
  (detectorRows s).foldl (fun (n : Nat) (r : Nat) =>
    n + ((List.range 4).filter fun b => match bandShown s r b with | some x => x.state == 2 | none => false).length) 0

/-! ### Working samples (R272, R274, R275) -/

/-- Put a slot's word among a band's inputs. -/
def putInput (i word : Nat) (l : List (Nat × Nat)) : List (Nat × Nat) := putKey i word (l.filter fun e => e.1 != i)

/-- The input value of slot i (R270); none when missing. -/
def inputValue (kind : Nat) (l : List (Nat × Nat)) (i : Nat) : Option Q :=
  match lookup i l with
  | none => none
  | some w =>
    if w = missingWord then none
    else if kind = 1 then
      match (if i = 0 then none else lookup (i - 1) l) with
      | some v => if v = missingWord then none else some (Q.make (ofTwos 32 (w % 2 ^ 32 + 2 ^ 32 - v % 2 ^ 32) * 360) (2 ^ 32))
      | none => none
    else binary32.toQ (w / 2 ^ 32)

/-- The working sample of block j: mean, or sum of increments; missing when fewer than half of its inputs are present. -/
def workingSample (kind d : Nat) (l : List (Nat × Nat)) (j : Nat) : Option Q :=
  let vs := (List.range d).filterMap fun k => inputValue kind l (j * d + k)
  if 2 * vs.length < d then none
  else if kind = 1 then some (Q.sum vs) else some (Q.div (Q.sum vs) (Q.ofNat vs.length))

/-- Append a working sample as F32, held when missing; nothing is appended when there is nothing to hold. -/
def pushSample (line : List Nat) (x : Option Q) : List Nat :=
  match x, line.getLast? with
  | some q, _ => line ++ [toF32 q]
  | none, some v => line ++ [v]
  | none, none => line

/-- The samples a band sees at the slot closing block j: its delay line, then the blocks from its oldest uncommitted one up to j. -/
def bandSeries (kind d : Nat) (x : Band) (j : Nat) : List Nat :=
  match x.nextBlock with
  | none => x.line
  | some a => (List.range (j + 1 - a)).foldl (fun l k => pushSample l (workingSample kind d x.inputs (a + k))) x.line

/-- Running sums of increments, oldest first, in binary64 (R270). -/
def runningSums (l : List Q) : List Q :=
  (l.foldl (fun (a : List Q × Q) x => let t := dbl (Q.add a.2 x); (a.1 ++ [t], t)) ([], Q.zero)).1

/-- Σ h[k]·x_{n−k} over inputs newest first, accumulated in binary64 in increasing k (R273). -/
def convolve (h : List Nat) (newest : List Q) : Q :=
  (h.zip newest).foldl (fun (acc : Q) p => dbl (Q.add acc (dbl (Q.mul (f32 p.1) p.2)))) Q.zero

/-- The band output over a series, oldest first; increments are summed to angles from the oldest sample of the span (R270, R273). -/
def filterOutput (kind : Nat) (h : List Nat) (series : List Nat) : Q :=
  let span := (series.drop (series.length - h.length)).map f32
  convolve h (if kind = 1 then runningSums span else span).reverse

/-! ### Update (R275–R278) -/

/-- The envelope, F32 (R276). -/
def BandSpec.envelope (x : BandSpec) : Nat := toF32 (Q.sqrt (f32 x.e2))

/-- One step of the state machine of R277, from OFF or ON. -/
def bandStep (s : State) (profileRow : Nat) (x : BandSpec) : BandSpec :=
  let e := f32 x.envelope
  if x.state = 0 then
    if Q.le (s.cfgF 0x2502 0x01 profileRow) e then
      (if x.c + 1 ≥ s.cfg 0x2502 0x04 profileRow then { x with state := 1, c := 0 } else { x with c := x.c + 1 })
    else { x with c := 0 }
  else if Q.lt e (s.cfgF 0x2502 0x02 profileRow) then
    (if x.c + 1 ≥ s.cfg 0x2502 0x05 profileRow then { x with state := 0, c := 0 } else { x with c := x.c + 1 })
  else { x with c := 0 }

/-- α of R276. -/
def envelopeAlpha (w te : Q) : Q := Q.sub Q.one (Q.exp (Q.neg (Q.div Q.one (Q.mul w te))))

/-- The update of a band at the slot that closes block j. -/
def updateBand (rate : Int) (r h b j : Nat) (s : State) : State :=
  let x := s.band r b
  let kind := s.cfg 0x2501 0x02 r
  let d := decimation rate b
  let n := taps b
  let series := bandSeries kind d x j
  let held := (workingSample kind d x.inputs j).isNone
  let frac := Q.add (f32 x.spec.h) (Q.div (Q.sub (if held then Q.one else Q.zero) (f32 x.spec.h)) (Q.ofNat n))
  let frac := if series.isEmpty then Q.zero else frac
  let sp : BandSpec := { x.spec with h := toF32 frac }
  let rc := rowCause s r h
  let tooHeld := Q.lt ⟨1, 10⟩ (f32 sp.h) || (sp.state == 2 && sp.cause == 2 && Q.lt ⟨5, 100⟩ (f32 sp.h))
  let cause := if rc ≠ 0 then rc else if series.length < n then 1 else if tooHeld then 2 else 0
  let pr := 4 * s.cfg 0x2501 0x04 r + b
  let sp : BandSpec := if sp.cause = 1 && cause ≠ 1 && n ≤ series.length then { sp with e2 := 0 } else sp
  let sp : BandSpec :=
    if cause ≠ 0 then { sp with state := 2, cause := cause, c := 0 }
    else
      let y := toF32 (filterOutput kind (bandCoefficients rate b) series)
      let a := envelopeAlpha (workingRate rate b) (s.cfgF 0x2502 0x03 pr)
      let e2 := f32 sp.e2
      let e2 := toF32 (Q.add e2 (Q.mul a (Q.sub (Q.mul (f32 y) (f32 y)) e2)))
      let sp : BandSpec := { sp with y := y, e2 := e2, cause := 0 }
      if sp.state = 2 then { sp with state := 0, c := 0 } else bandStep s pr sp
  (s.setBand r b { x with spec := sp }).bump 0x2540 0x01

/-- Eddy's PROCESS of a slot (R274, R279): every band takes its input; the bands whose block the slot closes update. -/
def eddyProcess (g i : Nat) (s : State) : State :=
  if !s.cfgB 0x2500 0x01 then s
  else
    let (rate, boundary) := match (s.group g).slot? i with | some x => (x.rate, x.boundary) | none => (0, 0)
    (bandRows s g).foldl (fun s p =>
      let w := (presented s g i false (s.cfg 0x2501 0x01 p.1)).word
      ((bandsOf s rate p.1).filter fun b => (s.band p.1 b).notBefore ≤ boundary).foldl (fun s b =>
        let d := decimation rate b
        let x := s.band p.1 b
        let x := { x with inputs := putInput i w x.inputs, nextBlock := some (x.nextBlock.getD (i / d)) }
        let s := s.setBand p.1 b x
        if (i + 1) % d = 0 then updateBand rate p.1 p.2 b (i / d) s else s) s) s

/-- The speculative band states of a group's rows (R279). -/
def eddySnapshot (g : Nat) (s : State) : Tab BandSpec :=
  (bandRows s g).foldl (fun t p => (List.range 4).foldl (fun t b =>
    match lookup (4 * p.1 + b) s.eddy.bands with | some x => putKey (4 * p.1 + b) x.spec t | none => t) t) []

/-- Put speculative band states back (R216). -/
def eddyRestore (t : Tab BandSpec) (s : State) : State :=
  t.foldl (fun s e => match lookup e.1 s.eddy.bands with
    | some x => s.onEddy fun d => { d with bands := putKey e.1 { x with spec := e.2 } d.bands }
    | none => s) s

/-- Write a transition record (R280) and count it in the summary (R281). -/
def transitionRecord (r b state env t96 : Nat) (s : State) : State :=
  let n := s.ro 0x2504 0x02
  let rec_ := be 12 t96 ++ be 4 r ++ be 1 b ++ be 1 state ++ be 2 0 ++ be 4 env
  let s := (s.setRoBytes 0x2504 0x01 rec_ (n % 256)).addTo 0x2504 0x02 1
  if state = 1 then countWindow 0x2501 0 1 0 (s.bump 0x2540 0x02)
  else if state = 0 then countWindow 0x2501 0 0 1 (s.bump 0x2540 0x03)
  else countWindow 0x2501 0 0 0 s

/-- Eddy's COMMIT of a slot: committed words take the place of those presented; a closed block's working sample enters the delay line (R274);
a band whose state as of the slot differs from that at the previous COMMIT writes a record (R280).  `at_` holds the states as of the slot. -/
def eddyCommit (g i : Nat) (at_ : Tab BandSpec) (s : State) : State :=
  if !s.cfgB 0x2500 0x01 then s
  else
    let (rate, nominal, boundary) := match (s.group g).slot? i with | some x => (x.rate, x.nominal, x.boundary) | none => (0, 0, 0)
    (bandRows s g).foldl (fun s p =>
      let w := (presented s g i true (s.cfg 0x2501 0x01 p.1)).word
      let kind := s.cfg 0x2501 0x02 p.1
      ((bandsOf s rate p.1).filter fun b => (s.band p.1 b).notBefore ≤ boundary).foldl (fun s b =>
        let d := decimation rate b
        let x := s.band p.1 b
        let x := { x with inputs := putInput i w x.inputs }
        if (i + 1) % d ≠ 0 then s.setBand p.1 b x
        else
          let j := i / d
          let line := pushSample x.line (workingSample kind d x.inputs j)
          let line := line.drop (line.length - taps b)
          let sp := tabGet x.spec at_ (4 * p.1 + b)
          let changed := sp.state != x.lastCommit
          let s := s.setBand p.1 b { x with
            line := line, nextBlock := some (j + 1), inputs := x.inputs.filter (fun e => i ≤ e.1), lastCommit := sp.state }
          if changed then transitionRecord p.1 b sp.state sp.envelope nominal s else s) s) s

/-- What is reset between two slots is gone from the undo logs too: a later RESTORE leaves it reset. -/
def scrubLogs (f : Undo → Undo) (s : State) : State :=
  { s with groups := s.groups.map fun e => (e.1, { e.2 with slots := e.2.slots.map fun x => (x.1, { x.2 with undo := x.2.undo.map f }) }) }

/-- An undo log without the bands of some keys. -/
def scrubBands (l : List Nat) (u : Undo) : Undo := { u with bands := u.bands.filter fun e => !l.contains e.1 }

/-- A band that starts again by warm-up: its envelope is held (R278), the state at the previous COMMIT stays for R280. -/
def Band.again (x : Band) : Band :=
  { Band.reset with spec := { BandSpec.reset with e2 := x.spec.e2 }, lastCommit := x.lastCommit, notBefore := x.notBefore }

/-- Bands of the rows on a stream's signals start again (R210, R278). -/
def resetBandsOf (h : Nat) (s : State) : State :=
  let rows := (rowsOf s.active 0x2501 0x01).filter fun r => ownerOf s (s.cfg 0x2501 0x01 r) == some h
  let keys := (rows.flatMap fun r => (List.range 4).map (4 * r + ·)).filter fun k => (lookup k s.eddy.bands).isSome
  let again := fun (t : Tab Band) (k : Nat) => putKey k (tabGet Band.reset t k).again t
  scrubLogs (scrubBands keys) (s.onEddy fun e => { e with bands := keys.foldl again e.bands })

/-- 0x2503:04 Detectors ON of profile p, band b (R303), summed in a pack over its members (R307). -/
def detectorsOn (s : State) (p b : Nat) : Nat :=
  (s.eddy.bands.filter fun e => e.1 % 4 == b && s.cfg 0x2501 0x04 (e.1 / 4) == p &&
    (bandShown s (e.1 / 4) b).any fun x => x.state == 1).length + countsElsewhere s p b

/-- Discard the Pointer history of a stream (R210): it warms up again under R206, its bands under R278, its lateness under R228. -/
def discardHistory (h : Nat) (s : State) : State :=
  resetBandsOf h (s.setStream h { s.stream h with history := [], lateness := [] })

/-- 0x2550:01 Clear Eddy counters: 0x2540 except :04 (R308). -/
def clearEddy (s : State) : State :=
  s.clearObjects ([1, 2, 3, 5, 6, 7, 8, 9, 10, 11].map fun k => (0x2540, k))

end Sys2Proof.Machine
end

