-- ==== Sys2Proof/Machine/Pack.lean ====
section
/-! DEFINITION. Pack frames as they are sent (R687, R688): their header, routing and payloads. -/

namespace Sys2Proof.Machine
open Sys2Proof

/-! ### Header and routing -/

/-- The pack header. -/
def packHeader (s : State) (dest g count slot : Nat) : List Byte :=
  be 1 (memberId s) ++ be 1 dest ++ be 1 g ++ be 1 count ++ be 8 slot ++ be 4 s.duplex.epoch

/-- The port towards a member: on a CLOSED ring the shorter way, P7 on a tie; on an OPEN one the side it was heard from last.  Members stand in the
ring in the order of their IDs (assumption 27). -/
def packPort (s : State) (dest : Nat) : Nat :=
  if s.ro 0x3211 0x04 = 0 then
    let l := presentIds s
    let place := fun (m : Nat) => (l.filter (· < m)).length
    let down := (place dest + l.length - place (memberId s)) % l.length
    if 2 * down ≤ l.length then 7 else 6
  else match lookup dest s.duplex.members with
    | some m => if m.side6 ≤ m.side7 then 7 else 6
    | none => 7

/-- Send the bytes of a pack frame: both ways for every member, else towards the one. -/
def routePack (dest : Nat) (f : List Byte) (s : State) : State :=
  (if dest = 0xFF then [6, 7] else [packPort s dest]).foldl (fun (s : State) (p : Nat) => sendPort p 4 0 0 mirrorMac mirrorType f s) s

/-- One pack frame. -/
def packFrame (dest type g slot : Nat) (entries : List (List Byte)) (tail : List Byte) (s : State) : State :=
  let body := packHeader s dest g entries.length slot ++ entries.flatten ++ tail
  let f := be 1 1 ++ be 1 type ++ be 2 body.length ++ be 4 s.duplex.txSeq ++ body
  routePack dest f (s.onDuplex fun d => { d with txSeq := (d.txSeq + 1) % 2 ^ 32 })

/-- The payload of a frame, of two, and so on: entries taken in order, at most 255 and `room` bytes to a frame. -/
def chunks (room : Nat) (l : List (List Byte)) : List (List (List Byte)) :=
  l.foldl (fun (a : List (List (List Byte))) e =>
    match a.getLast? with
    | some c => if c.length < 255 && c.flatten.length + e.length ≤ room then a.dropLast ++ [c ++ [e]] else a ++ [[e]]
    | none => [[e]]) []

/-- Send entries to a member, or to every member with 0xFF, in as many frames as they need (R688); the tail goes with the last. -/
def sendPack (dest type g slot : Nat) (entries : List (List Byte)) (tail : List Byte) (s : State) : State :=
  if !packed s then s
  else
    let room := Nat.min (portMax s 6) (portMax s 7) - 46 - tail.length
    match (chunks room entries).reverse with
    | [] => packFrame dest type g slot [] tail s
    | last :: first => packFrame dest type g slot last tail (first.reverse.foldl (fun (s : State) c => packFrame dest type g slot c [] s) s)

/-! ### Payloads -/

/-- A sample usable as frequency, ROCOF or status (R314, R318). -/
def usable (c : Cell) : Bool := c.word != missingWord && !bit c.quality 4
/-- A usable phasor (R314). -/
def usablePhasor (c : Cell) : Bool := usable c && !bit c.quality 3

/-- The quantities of a node's signals as presented at slot i (type 19). -/
def ownQuantities (s : State) (g i n : Nat) : PackNode :=
  let cell := fun (sub : Nat) =>
    let sig := s.cfg 0x2601 sub n
    if sig = 0xFFFFFFFF then ⟨missingWord, 0⟩ else presented s g i false sig
  let ph := cell 1
  let fr := cell 2
  let ro := cell 3
  let flags := b2n (usable fr) + 2 * b2n (usablePhasor ph) + 4 * b2n (usable ro) +
    8 * b2n ([ph, fr, ro].any fun c => c.word != missingWord && bit c.quality 7)
  ⟨i, flags, if usable fr then fr.word / 2 ^ 32 else 0, if usablePhasor ph then ph.word % 2 ^ 32 else 0,
   if usable ro then ro.word / 2 ^ 32 else 0⟩

/-- The quantities of a node at slot i: its own signals', or, where its home is another member, those received for that slot (R314). -/
def quantities (s : State) (g i n : Nat) : PackNode :=
  if homeHere s n then ownQuantities s g i n
  else
    let x := tabGet (⟨0, 0, 0, 0, 0⟩ : PackNode) s.duplex.pack.nodes n
    if x.slot = i then x else ⟨i, 0, 0, 0, 0⟩

/-- Detectors ON of this device's bands. -/
def countsHere (s : State) (p b : Nat) : Nat :=
  (s.eddy.bands.filter fun e => e.1 % 4 == b && e.2.spec.state == 1 && s.cfg 0x2501 0x04 (e.1 / 4) == p).length

/-- Type 18: the counts that have changed since they were last sent; operation 0 PROCESS, 1 COMMIT, 2 RESTORE. -/
def sendCounts (g i op : Nat) (s : State) : State :=
  if !packed s then s
  else
    let keys := ((s.eddy.bands.map fun e => s.cfg 0x2501 0x04 (e.1 / 4) * 256 + e.1 % 4) ++ s.duplex.pack.sent.map (·.1)).eraseDups
    let new := (keys.map fun k => (k, countsHere s (k / 256) (k % 256))).filter fun e => tabGet 0 s.duplex.pack.sent e.1 != e.2
    let s := s.onPack fun p => { p with sent := new.foldl (fun (t : Tab Nat) e => putKey e.1 e.2 t) p.sent }
    sendPack 0xFF 18 g i (new.map fun e => be 1 (e.1 / 256) ++ be 1 (e.1 % 256) ++ be 1 op ++ be 1 0 ++ be 4 e.2) [] s

/-- A node's entry of type 19. -/
def nodeEntry (n : Nat) (x : PackNode) : List Byte := be 2 n ++ be 1 x.flags ++ be 1 0 ++ be 4 x.freq ++ be 4 x.angle ++ be 4 x.rocof ++ be 4 0

/-- Edges of a group's graph, with the nodes they join. -/
def groupEdges (s : State) (g : Nat) : List (Nat × Nat × Nat) :=
  ((rowsOf s.active 0x2602 0x01).map fun e => (e, s.cfg 0x2602 0x01 e, s.cfg 0x2602 0x02 e)).filter fun e => groupOf s e.2.1 == g

/-- The to-nodes homed at `a` of edges whose from-node is homed at `b`. -/
def nodesOwed (s : State) (g a b : Nat) : List Nat :=
  (((groupEdges s g).filter fun e => homeOf s e.2.1 == some b && homeOf s e.2.2 == some a).map (·.2.2)).eraseDups

/-- Type 19: the to-nodes homed here, to the homes of their from-nodes. -/
def sendNodes (g i : Nat) (s : State) : State :=
  if !packed s then s
  else (s.duplex.members.map (·.1)).foldl (fun (s : State) (m : Nat) =>
    let l := nodesOwed s g (memberId s) m
    if l.isEmpty then s else sendPack m 19 g i (l.map fun n => nodeEntry n (ownQuantities s g i n)) [] s) s

/-- Type 20: the edges whose from-node is homed here and the nodes homed here, to the placer. -/
def sendEdges (g i : Nat) (s : State) : State :=
  if !packed s || placesHere s then s
  else
    let x := tabGet OxGroup.reset s.oxbow.groups g
    let es := (groupEdges s g).filter fun e => homeHere s e.2.1
    let ns := (rowsOf s.active 0x2601 0x01).filter fun n => groupOf s n == g && homeHere s n
    let edge := es.map fun e => be 4 e.1 ++ be 1 (tabGet OxEdge.reset x.edges e.1).state ++ be 3 0
    let node := ns.map fun n =>
      let q := ownQuantities s g i n
      be 2 n ++ be 1 (tabGet OxNode.reset x.nodes n).state ++ be 1 q.flags ++ be 4 q.freq ++ be 4 q.rocof
    sendPack (placerOf s) 20 g i (edge ++ node) [] s

/-- The signals selected for the mode meter and for location. -/
def selectedSignals (s : State) : List Nat :=
  ((rowsOf s.active 0x2511 0x01).map (fun r => s.cfg 0x2511 0x01 r) ++
   (rowsOf s.active 0x2519 0x01).flatMap fun r => [s.cfg 0x2519 0x01 r, s.cfg 0x2519 0x02 r]).eraseDups.filter (· != 0xFFFFFFFF)

/-- Type 21: the committed samples of selected signals of streams homed here, to the placer. -/
def sendSamples (g i : Nat) (s : State) : State :=
  if !packed s || placesHere s || g != s.cfg 0x2510 0x02 then s
  else
    let l := (selectedSignals s).filter fun sig => match ownerOf s sig with | some h => homeHere s h && groupOf s h == g | none => false
    let entry := fun (sig : Nat) =>
      let c := presented s g i true sig
      be 4 sig ++ be 1 c.quality ++ be 3 0 ++ be 8 c.word
    if l.isEmpty then s else sendPack (placerOf s) 21 g i (l.map entry) [] s

/-- Declared islands of a group and the size of the largest: the placer's, as every member's rule terms read them (R688). -/
def islandCount (s : State) (x : OxGroup) (g : Nat) : Nat :=
  if placesHere s then (x.islands.filter (·.declared)).length else (tabGet (0, 0) s.duplex.pack.results g).1
def largestIsland (s : State) (x : OxGroup) (g : Nat) : Nat :=
  if placesHere s then (x.islands.filter (·.declared)).foldl (fun (m : Nat) y => Nat.max m y.members.length) 0
  else (tabGet (0, 0) s.duplex.pack.results g).2

/-- Type 22: the engines' results; with the mode table and the first-ranked bus when they have changed. -/
def sendResults (g i : Nat) (changed : Bool) (s : State) : State :=
  if !packed s || !placesHere s then s
  else
    let x := tabGet OxGroup.reset s.oxbow.groups g
    let row := fun (n : Nat) => be 2 (s.ro 0x2512 1 n) ++ be 2 (s.ro 0x2512 2 n) ++ be 2 (s.ro 0x2512 3 n) ++ be 1 (s.ro 0x2512 4 n) ++
      be 4 (s.ro 0x2512 5 n) ++ be 1 (s.ro 0x2512 6 n) ++ be 4 (s.ro 0x2512 7 n)
    sendPack 0xFF 22 g i [be 2 (islandCount s x g) ++ be 2 (largestIsland s x g)]
      (if changed then (List.range 32).flatMap row ++ be 4 (s.ro 0x251A 4 0) ++ be 4 (s.ro 0x251A 5 0) else []) s

end Sys2Proof.Machine
end

