-- ==== Sys2Proof/Machine/ModeMeter.lean ====
section
/-! DEFINITION. Eddy's mode meter, forced-oscillation location and local interharmonic detectors (R282–R301). -/

namespace Sys2Proof.Machine
open Sys2Proof

/-! ### Decimation (R283) -/

/-- D_m of a group rate. -/
def modeDecimation (r : Int) : Nat := Nat.max 1 (Q.floor (Q.div (rateQ r) ⟨10, 1⟩)).toNat

/-- The decimating low-pass: the form of R273 with edges 0 and 5 Hz, unit gain at 0 Hz. -/
def lowPass (r : Int) : List Nat :=
  let d := modeDecimation r
  let n := 28 * d + 1
  let m := (n - 1) / 2
  let h0 := (List.range n).map fun (k : Nat) => Q.mul (blackman n k) (sincTerm ⟨5, 1⟩ (rateQ r) ((k : Int) - (m : Int)))
  h0.map fun x => toF32 (Q.div x (Q.sum h0))

/-- Append an input to the newest n, held as in R275 when missing: its bits, and whether it was present. -/
def pushInput (n : Nat) (l : List (Nat × Bool)) (x : Option Nat) : List (Nat × Bool) :=
  let l := l ++ [match x with | some v => (v, true) | none => ((l.getLast?.getD (0, false)).1, false)]
  l.drop (l.length - n)

/-- A decimated sample from the last inputs, oldest first; missing when the middle input is, or more than 10 % are held. -/
def decimate (h : List Nat) (l : List (Q × Bool)) : Option Q :=
  let n := h.length
  if l.length < n then none
  else if !((l.drop ((n - 1) / 2)).headD (Q.zero, false)).2 || (l.filter fun p => !p.2).length * 10 > n then none
  else some (convolve h (l.reverse.map (·.1)))

/-! ### Mode meter (R282–R293) -/

/-- Selection rows in use. -/
def modeRows (s : State) : List Nat := rowsOf s.active 0x2511 0x01
/-- Positions, in the selection rows, of the references. -/
def modeRefs (s : State) : List Nat :=
  (List.range (modeRows s).length).filter fun k => s.cfgB 0x2511 0x03 ((modeRows s).getD k 0)

def State.onMode (s : State) (f : ModeSt → ModeSt) : State := s.onEddy fun e => { e with mode := f e.mode }

/-- Change the mode meter's state, with its event (R292). -/
def setModeState (new cause : Nat) (s : State) : State :=
  let old := s.ro 0x2513 0x01
  if old = new then s else raise 0x2502 (le 1 old ++ le 1 new ++ le 1 cause) (s.setRo 0x2513 0x01 new)

/-- Start or reset the mode meter: covariances cleared, WARMING (R292); OFF when it is not enabled. -/
def resetMode (cause : Nat) (s : State) : State :=
  let s := s.onMode fun m => { ModeSt.reset with nextId := m.nextId }
  setModeState (if s.cfgB 0x2500 0x01 && s.cfgB 0x2510 0x01 then 1 else 0) cause s

/-- A signal whose working samples have been missing for more than 5 % of the last 60 s (R290). -/
def modeExcluded (s : State) (r : Nat) : Bool := ((tabGet [] s.eddy.mode.missing r).filter id).length > 30

/-- One scaled working sample of a row (R284): ỹ as F64, with the new mean and variance. -/
def scaleSample (beta lambda : Q) (mean var : Nat) (x : Option Q) : Nat × Nat × Nat :=
  match x with
  | none => (0, mean, var)
  | some x =>
    let mu := dbl (Q.add (f64 mean) (dbl (Q.mul beta (dbl (Q.sub x (f64 mean))))))
    let xt := dbl (Q.sub x mu)
    let v := dbl (Q.add (f64 var) (dbl (Q.mul (dbl (Q.sub Q.one lambda)) (dbl (Q.sub (dbl (Q.mul xt xt)) (f64 var))))))
    (if v.num ≤ 0 then 0 else toF64 (Q.div xt (dbl (Q.sqrt v))), toF64 mu, toF64 v)

/-- Take a working sample of every selected row: scaling (R284), covariances (R285), exclusion and state (R290, R292). -/
def modeSample (samples : List (Option Q)) (s : State) : State :=
  let rows := modeRows s
  let refs := modeRefs s
  let m := s.eddy.mode
  let beta := dbl (Q.sub Q.one (dbl (Q.exp (dbl (Q.neg (Q.make 1 (10 * s.cfg 0x2510 0x06)))))))
  let lambda := dbl (Q.exp (dbl (Q.neg (Q.make 1 (10 * s.cfg 0x2510 0x05)))))
  let out := (rows.zip samples).map fun p => (p.1, p.2.isNone, scaleSample beta lambda (tabGet 0 m.mean p.1) (tabGet 0 m.var p.1) p.2)
  let y := out.map fun e => e.2.2.1
  let depth := s.cfg 0x2510 0x03
  let n := 2 * depth - 1
  let size := n * rows.length * refs.length
  let old := if m.cov.length = size then m.cov else List.replicate size 0
  let nl := refs.length
  let cov := (List.range size).map fun q =>
    let k := q / (rows.length * nl)
    let a := q / nl % rows.length
    let b := q % nl
    let r := match m.refs[k]? with | some v => f64 (v.getD b 0) | none => Q.zero
    toF64 (Q.add (dbl (Q.mul lambda (f64 (old.getD q 0)))) (dbl (Q.mul (dbl (Q.sub Q.one lambda)) (dbl (Q.mul (f64 (y.getD a 0)) r)))))
  let s := s.onMode fun m => { m with
    mean := out.foldl (fun t e => putKey e.1 e.2.2.2.1 t) m.mean
    var := out.foldl (fun t e => putKey e.1 e.2.2.2.2 t) m.var
    missing := out.foldl (fun t e => putKey e.1 ((e.2.1 :: tabGet [] t e.1).take 600) t) m.missing
    refs := ((refs.map fun k => y.getD k 0) :: m.refs).take n
    cov := cov
    samples := m.samples + 1 }
  let s := s.addTo 0x2540 0x07 (out.filter fun e => e.2.1).length
  let ex := (rows.filter (modeExcluded s)).length
  let s := s.setRo 0x2513 0x05 ex
  let s := if ex = s.eddy.mode.excluded then s else raise 0x2508 (le 2 ex) (s.onMode fun m => { m with excluded := ex })
  let refBad := refs.any fun k => modeExcluded s (rows.getD k 0)
  if s.eddy.mode.samples < 10 * s.cfg 0x2510 0x05 then s
  else if s.ro 0x2513 0x01 = 1 then setModeState (if refBad then 3 else 2) 1 s
  else if refBad then setModeState 3 2 s else setModeState 2 3 s

/-- The latest refresh whose samples are complete before the slot with this nominal instant: b_k − W at or before it (R286). -/
def refreshBefore (s : State) (nominal : Nat) : Nat :=
  (nominal + s.cfg 0x2301 0x02 (s.cfg 0x2510 0x02) * 2 ^ 48 / 1000) / 2 ^ 46

/-- The mode meter's COMMIT of a slot; the covariances as refreshes not yet run are to see them are kept (R286). -/
def modeCommit (g i : Nat) (s : State) : State :=
  if !(s.cfgB 0x2500 0x01 && s.cfgB 0x2510 0x01 && placesHere s) || g != s.cfg 0x2510 0x02 then s
  else
    let (rate, nominal) := match (s.group g).slot? i with | some x => (x.rate, x.nominal) | none => (0, 0)
    let d := modeDecimation rate
    let n := 28 * d + 1
    let rows := modeRows s
    let val := fun r =>
      let w := (presented s g i true (s.cfg 0x2511 0x01 r)).word
      if w = missingWord then none else some (w / 2 ^ 32)
    let k := refreshBefore s nominal
    let s := s.onMode fun m => { m with
      raw := rows.foldl (fun t r => putKey r (pushInput n (tabGet [] t r) (val r)) t) m.raw
      ready := (if m.ready.any fun e => e.1 == k then m.ready else (k, m.cov) :: m.ready).take 16 }
    if i % d ≠ 0 then s
    else
      let h := lowPass rate
      modeSample (rows.map fun r => decimate h ((tabGet [] s.eddy.mode.raw r).map fun o =>
        match binary32.toQ o.1 with | some q => (q, o.2) | none => (Q.zero, false))) s

/-- A pole kept by R287: frequency and damping ratio, energy (none infinite), shape. -/
structure Pole where
  freq : Q
  damping : Q
  energy : Option Q
  shape : List (Q × Q)

/-- ‖ψ‖². -/
def norm2 (l : List (Q × Q)) : Q := Q.sum (l.map fun p => Q.add (Q.mul p.1 p.1) (Q.mul p.2 p.2))

/-- A pole from an eigenvalue and its shape (R287); none when it is not kept. -/
def poleOf (s : State) (e : (Nat × Nat) × List (Nat × Nat)) : Option Pole :=
  let re := f64 e.1.1
  let im := f64 e.1.2
  if im.num ≤ 0 then none
  else
    let mag2 := Q.add (Q.mul re re) (Q.mul im im)
    let sre := Q.mul ⟨5, 1⟩ (Q.ln mag2)
    let f := Q.mul ⟨10, 1⟩ (atan2Turn im re)
    let sim := Q.mul (Q.mul ⟨2, 1⟩ qPi) f
    let zeta := Q.div sre.neg (Q.sqrt (Q.add (Q.mul sre sre) (Q.mul sim sim)))
    let shape := e.2.map fun p => (f64 p.1, f64 p.2)
    let mhz := Q.mul f ⟨1000, 1⟩
    let pm := Q.mul zeta ⟨1000, 1⟩
    if Q.le (Q.ofNat (s.cfg 0x2510 0x07)) mhz && Q.le mhz (Q.ofNat (s.cfg 0x2510 0x08)) &&
       Q.le (Q.ofInt (-100)) pm && Q.le pm (Q.ofInt (s.cfgInt 0x2510 0x09)) then
      some ⟨f, zeta, if Q.le Q.one mag2 then none else some (Q.div (norm2 shape) (Q.sub Q.one mag2)), shape⟩
    else none

/-- Energies in decreasing order: infinite first. -/
def energyBefore (a b : Option Q) : Bool :=
  match a, b with | none, _ => true | some _, none => false | some x, some y => Q.le y x

/-- The matching cost of R288. -/
def matchCost (p : Pole) (m : Mode) : Q :=
  let sh := m.shape.map fun e => (f64 e.1, f64 e.2)
  let dotRe := Q.sum ((p.shape.zip sh).map fun e => Q.add (Q.mul e.1.1 e.2.1) (Q.mul e.1.2 e.2.2))
  let dotIm := Q.sum ((p.shape.zip sh).map fun e => Q.sub (Q.mul e.1.1 e.2.2) (Q.mul e.1.2 e.2.1))
  let mac := Q.div (Q.add (Q.mul dotRe dotRe) (Q.mul dotIm dotIm)) (Q.mul (norm2 p.shape) (norm2 sh))
  Q.add (Q.add (Q.div (Q.abs (Q.sub p.freq (f64 m.freq))) ⟨50, 1000⟩) (Q.div (Q.abs (Q.sub p.damping (f64 m.damping))) ⟨20, 1000⟩))
        (Q.sub Q.one mac)

/-- Pairs (mode position, pole position) with cost below 1, taken in increasing cost, ties to the lower mode ID, each used once (R288). -/
def matchPairs (modes : List Mode) (poles : List Pole) : List (Nat × Nat) :=
  let all := ((List.range modes.length).zip modes).flatMap fun a => ((List.range poles.length).zip poles).map fun b =>
    (matchCost b.2 a.2, a.2.id, a.1, b.1)
  let sorted := sortBy (fun (x y : Q × Nat × Nat × Nat) => Q.lt x.1 y.1 || (Q.eqv x.1 y.1 && x.2.1 ≤ y.2.1))
    (all.filter fun e => Q.lt e.1 Q.one)
  sorted.foldl (fun acc e => if acc.any fun p => p.1 == e.2.2.1 || p.2 == e.2.2.2 then acc else acc ++ [(e.2.2.1, e.2.2.2)]) []

/-- The next free mode ID from n on, skipping 0 (R288). -/
def freeModeId (used : List Nat) : Nat → Nat → Nat
  | 0, n => n
  | k + 1, n => if n = 0 || used.contains n then freeModeId used k (if n ≥ 65535 then 1 else n + 1) else n

/-- Track the poles of a refresh (R288): the modes reported now in decreasing energy, then those that coast; lost modes raise 0x2504. -/
def trackModes (poles : List Pole) (s : State) : State :=
  let old := s.eddy.mode.modes
  let pairs := matchPairs old poles
  let f64s := fun (p : Pole) => p.shape.map fun e => (toF64 e.1, toF64 e.2)
  let step := fun (a : List Mode × Nat × State) (e : Nat × Pole) =>
    let p := e.2
    let prev := (pairs.find? fun q => q.2 == e.1).bind fun q => old[q.1]?
    let used := old.map (·.id) ++ a.1.map (·.id)
    let id := match prev with | some m => m.id | none => freeModeId used 65536 a.2.1
    let next := match prev with | some _ => a.2.1 | none => if id ≥ 65535 then 1 else id + 1
    let n := match prev with | some m => if m.coasted = 0 then m.refreshes + 1 else 1 | none => 1
    let past := match prev with | some m => ((toF64 p.freq, toF64 p.damping) :: m.past).take 8 | none => [(toF64 p.freq, toF64 p.damping)]
    let m : Mode := { id := id, freq := toF64 p.freq, damping := toF64 p.damping, shape := f64s p,
                      energy := toF32 (p.energy.getD Q.zero), infinite := p.energy.isNone, refreshes := n, coasted := 0, past := past }
    let s := if n = 8 then
        raise 0x2503 (le 2 id ++ le 2 (Q.roundUp (Q.mul p.freq ⟨1000, 1⟩)).toNat ++
          le 2 (toTwos 16 (Q.roundUp (Q.mul p.damping ⟨1000, 1⟩)))) a.2.2
      else a.2.2
    (a.1 ++ [m], next, s)
  let (now, next, s) := ((List.range poles.length).zip poles).foldl step ([], s.eddy.mode.nextId, s)
  let unmatched := ((List.range old.length).zip old).filter fun e => !pairs.any fun q => q.1 == e.1
  let coasting := (unmatched.filter fun e => e.2.coasted < 4).map fun e => { e.2 with coasted := e.2.coasted + 1 }
  let s := (unmatched.filter fun e => e.2.coasted ≥ 4).foldl (fun s e => raise 0x2504 (le 2 e.2.id) s) s
  s.onMode fun m => { m with modes := (now ++ coasting).take 32, nextId := next }

/-- The standard deviation of values (R289). -/
def stdDev (l : List Q) : Q :=
  let n := Q.ofNat l.length
  let mean := Q.div (Q.sum l) n
  Q.sqrt (Q.div (Q.sum (l.map fun x => Q.mul (Q.sub x mean) (Q.sub x mean))) n)

/-- The confidence of a mode (R289, R290). -/
def modeConfidence (m : Mode) (capped : Bool) : Nat :=
  if m.refreshes < 8 then 0
  else
    let sf := stdDev (m.past.map fun p => f64 p.1)
    let sz := stdDev (m.past.map fun p => f64 p.2)
    let v := Q.sub (Q.sub Q.one (Q.div sf ⟨10, 1000⟩)) (Q.div sz ⟨1, 100⟩)
    let c := (Q.floor (Q.mul ⟨100, 1⟩ (Q.max Q.zero v))).toNat
    if capped then Nat.min c 50 else c

/-- The shape bytes of a mode, by selection row (R291), and whether it is normalised on the largest entry. -/
def shapeBytes (s : State) (m : Mode) : List Byte × Bool :=
  let rows := modeRows s
  let sh := m.shape.map fun e => (f64 e.1, f64 e.2)
  let n2 := norm2 sh
  let mag2 := fun (p : Q × Q) => Q.add (Q.mul p.1 p.1) (Q.mul p.2 p.2)
  let ref := sh.getD (rows.findIdx (· == s.cfg 0x2510 0x0A)) (Q.zero, Q.zero)
  let small := Q.lt (mag2 ref) (Q.mul n2 ⟨1, 1000000000000⟩)
  let largest := sh.foldl (fun a p => if Q.lt (mag2 a) (mag2 p) then p else a) (Q.zero, Q.zero)
  let r := if small then largest else ref
  let d := mag2 r
  let entry := fun (p : Q × Q) =>
    let re := Q.div (Q.add (Q.mul p.1 r.1) (Q.mul p.2 r.2)) d
    let im := Q.div (Q.sub (Q.mul p.2 r.1) (Q.mul p.1 r.2)) d
    toF32 (Q.sqrt (Q.add (Q.mul re re) (Q.mul im im))) * 2 ^ 32 + turn32 (atan2Turn im re)
  let byRow := (rows.zip sh).map fun p => (p.1, if modeExcluded s p.1 then missingWord else entry p.2)
  ((List.range 4096).flatMap fun k => be 8 ((byRow.find? fun e => e.1 == k).map (·.2) |>.getD 0), small)

/-- Write the mode table, the shapes and the packet of a refresh (R291). -/
def publishModes (k : Nat) (s : State) : State :=
  let capped := s.ro 0x2513 0x01 == 3
  let modes := s.eddy.mode.modes
  let rows := (List.range 32).map fun n => (n, modes[n]?)
  let put := fun (s : State) (e : Nat × Option Mode) =>
    match e.2 with
    | none => ([1, 2, 3, 4, 5, 6, 7].foldl (fun s c => s.clearRow 0x2512 c e.1) s).clearRow 0x2514 0x01 e.1
    | some m =>
      let (sh, big) := shapeBytes s m
      let flags := 8 * b2n big + 4 * b2n capped + 2 * b2n (m.coasted != 0) + b2n (m.refreshes < 8)
      let s := ((s.setRow 0x2512 1 e.1 m.id).setRow 0x2512 2 e.1 (Q.roundUp (Q.mul (f64 m.freq) ⟨1000, 1⟩)).toNat)
      let s := (s.setRow 0x2512 3 e.1 (toTwos 16 (Q.roundUp (Q.mul (f64 m.damping) ⟨1000, 1⟩)))).setRow 0x2512 4 e.1 (modeConfidence m capped)
      let s := ((s.setRow 0x2512 5 e.1 (if m.infinite then binary32.inf else m.energy)).setRow 0x2512 6 e.1 flags).setRow 0x2512 7 e.1 m.refreshes
      s.setRoBytes 0x2514 0x01 sh e.1
  let s := rows.foldl put s
  let reported := (modes.filter fun m => m.coasted == 0).length
  let t := k * 2 ^ 46
  let s := ((s.setRo 0x2513 0x02 t).setRo 0x2513 0x03 (k % 2 ^ 32)).setRo 0x2513 0x04 reported
  let best := ((List.range modes.length).filter fun n => s.ro 0x2512 4 n ≥ 50).foldl (fun (b : Option Nat) n =>
    match b with | none => some n | some m => if s.ro 0x2512 3 n |> ofTwos 16 |> (· < ofTwos 16 (s.ro 0x2512 3 m)) then some n else b) none
  let w3 := match best with
    | some n => s.ro 0x2512 1 n * 2 ^ 48 + s.ro 0x2512 2 n * 2 ^ 32 + s.ro 0x2512 3 n * 2 ^ 16 + s.ro 0x2512 4 n * 256 + s.ro 0x2512 6 n
    | none => 0
  sluicePost 5 ([0x6 * 2 ^ 60 + s.ro 0x2513 0x01 * 2 ^ 56 + reported * 2 ^ 48 + k % 2 ^ 32] ++ t96Words t ++ [w3]) (s.bump 0x2540 0x05)

/-- The greatest refresh index whose slots have been committed: b_k − W at or before the first slot not yet committed (R286). -/
def refreshReady (s : State) : Nat :=
  let x := s.group (s.cfg 0x2510 0x02)
  let w := s.cfg 0x2301 0x02 (s.cfg 0x2510 0x02) * 2 ^ 48 / 1000
  let first := match x.slots.find? fun e => e.2.state != 4 with
    | some e => e.2.nominal
    | none => slotPoint s x.rate x.next 0
  Nat.min (s.t96 / 2 ^ 46) ((first + w) / 2 ^ 46)

/-- The covariances refresh k sees: those kept for it, or for the first one after it, else the present ones (R286). -/
def covarianceAt (k : Nat) (m : ModeSt) : List Nat :=
  match m.ready.reverse.find? fun e => k ≤ e.1 with | some e => e.2 | none => m.cov

/-- MODE_REFRESH (R286–R293): the refresh after the last one, or the one that is ready when there was none. -/
def modeRefresh (s : State) : State :=
  let st := s.ro 0x2513 0x01
  if !(s.running && 1 ≤ st && st ≤ 3 && placesHere s) then s
  else
    let ready := refreshReady s
    let k := if s.eddy.mode.last = 0 then ready else s.eddy.mode.last + 1
    let s := if k = 0 || k > ready then s else s.onMode fun m => { m with last := k }
    if k = 0 || k > ready then s
    else if st = 1 then publishModes k (s.onMode fun m => { m with modes := [] })
    else
      let rows := modeRows s
      let refs := modeRefs s
      if refs.all fun j => modeExcluded s (rows.getD j 0) then publishModes k (trackModes [] s)
      else
        let (f, ev) := Config.modeSolve (covarianceAt k s.eddy.mode) rows.length refs.length (s.cfg 0x2510 0x03) (s.cfg 0x2510 0x04)
        if f ≠ 0 then raise 0x2505 (le 1 (f - 1) ++ le 4 k) (((s.bump 0x2540 0x05).bump 0x2540 0x06).setRo 0x2513 0x03 (k % 2 ^ 32))
        else
          let poles := sortBy (fun (a b : Pole) => energyBefore a.energy b.energy) (ev.filterMap (poleOf s))
          publishModes k (trackModes (poles.take 32) s)

def execModeRefresh (t : Nat) (s : State) : Host.Outcome State Fault Refusal :=
  complete t (fun s => sendResults (s.cfg 0x2510 0x02) 0 true (modeRefresh s)) s

/-- 0x2550:02 Reset mode meter (R292). -/
def execResetModeMeter (t : Nat) (who : Who) (s : State) : Host.Outcome State Fault Refusal :=
  complete t (runPlain 0x2550 0x02 who (ok (resetMode 5))) s

/-- 0x2550:01 Clear Eddy counters. -/
def execClearEddyCounters (t : Nat) (who : Who) (s : State) : Host.Outcome State Fault Refusal :=
  complete t (runPlain 0x2550 0x01 who (ok clearEddy)) s

/-! ### Forced-oscillation location (R295–R298) -/

/-- Branch rows in use. -/
def branchRows (s : State) : List Nat := rowsOf s.active 0x2519 0x01
def State.branch (s : State) (n : Nat) : Branch := tabGet .reset s.eddy.branches n
def State.setBranch (s : State) (n : Nat) (x : Branch) : State := s.onEddy fun e => { e with branches := putKey n x e.branches }

/-- The band centre in mHz (R297); 0 when the followed mode is absent. -/
def bandCentre (s : State) : Nat :=
  let c := s.cfg 0x2518 0x02
  if c ≠ 0 then c
  else match (List.range 32).find? fun n => s.ro 0x2512 1 n == s.cfg 0x2518 0x03 && s.ro 0x2512 1 n != 0 with
    | some n => s.ro 0x2512 2 n
    | none => 0

/-- Restart W of every branch (R297, R305). -/
def restartLocation (s : State) : State :=
  s.onEddy fun e => { e with branches := e.branches.map fun b => (b.1, { b.2 with filtered := none, w := 0, series := [] }) }

/-- A phasor word as a complex number. -/
def complexOf (w : Nat) : Q × Q :=
  let (sn, cs) := sincosTurn (Q.make (w % 2 ^ 32) (2 ^ 32))
  (Q.mul (f32 (w / 2 ^ 32)) cs, Q.mul (f32 (w / 2 ^ 32)) sn)

/-- A working sample of a branch (R296). -/
def branchSample (n : Nat) (t96 : Nat) (v i : Q × Q) (coef : List Nat) (s : State) : State :=
  let x := s.branch n
  let p := Q.mul ⟨3, 1000000⟩ (Q.add (Q.mul v.1 i.1) (Q.mul v.2 i.2))
  let q := Q.mul ⟨3, 1000000⟩ (Q.sub (Q.mul v.2 i.1) (Q.mul v.1 i.2))
  let ang := turn32 (atan2Turn v.2 v.1)
  let dth := match x.lastAngle with
    | some a => Q.mul (Q.mul ⟨2, 1⟩ qPi) (Q.make (ofTwos 32 (ang + 2 ^ 32 - a)) (2 ^ 32))
    | none => Q.zero
  let lnv := Q.mul ⟨1, 2⟩ (Q.ln (Q.add (Q.mul v.1 v.1) (Q.mul v.2 v.2)))
  let inputs := ((toF64 p, toF64 q, toF64 dth, toF64 lnv) :: x.inputs).take 255
  if inputs.length < 255 then s.setBranch n { x with inputs := inputs, lastAngle := some ang }
  else
    let filt := fun (sel : Nat × Nat × Nat × Nat → Nat) => toF64 (convolve coef (inputs.map fun e => f64 (sel e)))
    let fth := toF64 (convolve coef (runningSums (inputs.reverse.map fun e => f64 e.2.2.1)).reverse)
    let now := (filt (·.1), filt (·.2.1), fth, filt (·.2.2.2))
    let dw := match x.filtered with
      | none => Q.zero
      | some o =>
        Q.add (Q.mul (Q.mul ⟨1, 2⟩ (Q.add (f64 now.1) (f64 o.1))) (Q.sub (f64 now.2.2.1) (f64 o.2.2.1)))
              (Q.mul (Q.mul ⟨1, 2⟩ (Q.add (f64 now.2.1) (f64 o.2.1))) (Q.sub (f64 now.2.2.2) (f64 o.2.2.2)))
    let w := toF64 (Q.add (f64 x.w) dw)
    s.setBranch n { inputs := inputs, lastAngle := some ang, filtered := some now, w := w, series := ((t96, w) :: x.series).take 3200 }

/-- The location's COMMIT of a slot. -/
def locationCommit (g i : Nat) (s : State) : State :=
  if !(s.cfgB 0x2500 0x01 && s.cfgB 0x2518 0x01 && placesHere s) || g != s.cfg 0x2510 0x02 then s
  else
    let rate := match (s.group g).slot? i with | some x => x.rate | none => 0
    let d := modeDecimation rate
    let n := 28 * d + 1
    let word := fun sig =>
      let w := (presented s g i true sig).word
      if w = missingWord then none else some w
    let push := fun (t : Tab (List (Nat × Bool))) r w => putKey r (pushInput n (tabGet [] t r) w) t
    let rows := branchRows s
    let s := s.onEddy fun e => { e with
      rawV := rows.foldl (fun t r => push t r (word (s.cfg 0x2519 0x01 r))) e.rawV
      rawI := rows.foldl (fun t r => push t r (word (s.cfg 0x2519 0x02 r))) e.rawI }
    if i % d ≠ 0 then s
    else
      let c := bandCentre s
      let moved := (Nat.max c s.eddy.centre - Nat.min c s.eddy.centre) > 10
      let s := if moved then restartLocation (s.onEddy fun e => { e with centre := c }) else s
      let s := s.setRo 0x251A 0x02 s.eddy.centre
      if c = 0 then s
      else
        let fo := Q.make s.eddy.centre 1000
        let half := Q.make (s.cfg 0x2518 0x04) 2000
        let coef := bandPass (Q.sub fo half) (Q.add fo half) fo ⟨10, 1⟩ 255
        let h := lowPass rate
        let t := slotPoint s rate (i - 14 * d) 0
        rows.foldl (fun s r =>
          let part := fun (t : Tab (List (Nat × Bool))) (im : Bool) =>
            decimate h ((tabGet [] t r).map fun o => (if im then (complexOf o.1).2 else (complexOf o.1).1, o.2))
          match part s.eddy.rawV false, part s.eddy.rawV true, part s.eddy.rawI false, part s.eddy.rawI true with
          | some a, some b, some c, some e => branchSample r t (a, b) (c, e) coef s
          | _, _, _, _ => s) s

/-- The least-squares slope per second of (T96, W) points (R298). -/
def slope (l : List (Nat × Nat)) : Q :=
  let n := Q.ofNat l.length
  let t0 := match l.getLast? with | some p => p.1 | none => 0
  let xs := l.map fun p => (Q.make ((p.1 : Int) - t0) (2 ^ 48), f64 p.2)
  let sx := Q.sum (xs.map (·.1))
  let sy := Q.sum (xs.map (·.2))
  let sxy := Q.sum (xs.map fun p => Q.mul p.1 p.2)
  let sxx := Q.sum (xs.map fun p => Q.mul p.1 p.1)
  Q.div (Q.sub (Q.mul n sxy) (Q.mul sx sy)) (Q.sub (Q.mul n sxx) (Q.mul sx sx))

/-- LOCATION_RESULT (R298) at the last T96 second boundary. -/
def locationResult (s : State) : State :=
  if !placesHere s then s
  else if !(s.running && s.cfgB 0x2500 0x01 && s.cfgB 0x2518 0x01) then s.setRo 0x251A 0x03 0
  else
    let sNow := s.t96Sec * 2 ^ 48
    let w := s.cfg 0x2301 0x02 (s.cfg 0x2510 0x02)
    let hi := sNow - (14100 + w) * 2 ^ 48 / 1000
    let lo := hi - s.cfg 0x2518 0x05 * 2 ^ 48
    if bandCentre s = 0 then s.setRo 0x251A 0x03 3
    else
      let rows := branchRows s
      let pts := fun r => ((s.branch r).series.filter fun p => lo ≤ p.1 && p.1 < hi)
      let need := 10 * s.cfg 0x2518 0x05
      if rows.isEmpty || !rows.all fun r => (pts r).length ≥ need then s.setRo 0x251A 0x03 1
      else
        let rate := rows.map fun r => (r, slope (pts r))
        let s := rate.foldl (fun s e => s.setRow 0x251A 0x06 e.1 (toF32 e.2)) s
        let buses := ((rows.map fun r => s.cfg 0x2519 0x03 r) ++ ((rows.map fun r => s.cfg 0x2519 0x04 r).filter (· != 0xFFFFFFFF))).eraseDups
        let score := fun b => Q.sub (Q.sum ((rate.filter fun e => s.cfg 0x2519 0x03 e.1 == b).map (·.2)))
                                    (Q.sum ((rate.filter fun e => s.cfg 0x2519 0x04 e.1 == b).map (·.2)))
        let pos := (buses.map fun b => (b, score b)).filter fun e => Q.lt Q.zero e.2
        let ranked := (sortBy (fun (a b : Nat × Q) => Q.lt b.2 a.2 || (Q.eqv a.2 b.2 && a.1 ≤ b.1)) pos).take 16
        let s := s.clearObjects [(0x251A, 4), (0x251A, 5)]
        let s := ((List.range ranked.length).zip ranked).foldl (fun s e =>
          (s.setRow 0x251A 4 e.1 e.2.1).setRow 0x251A 5 e.1 (toF32 e.2.2)) s
        let s := ((s.setRo 0x251A 0x01 sNow).setRo 0x251A 0x03 2).bump 0x2540 0x08
        let first := match ranked with | e :: _ => e.1 | [] => 0xFFFFFFFF
        let sc := match ranked with | e :: _ => toF32 e.2 | [] => 0
        if first = s.eddy.firstBus then s
        else raise 0x2506 (le 4 first ++ le 2 s.eddy.centre ++ le 4 sc) (s.onEddy fun e => { e with firstBus := first })

def execLocationResult (t : Nat) (s : State) : Host.Outcome State Fault Refusal :=
  complete t (fun s => sendResults (s.cfg 0x2510 0x02) 0 true (locationResult s)) s

/-! ### Local interharmonic detectors (R299–R301) -/

/-- |X_k|² of a Hann-weighted window of samples (R299). -/
def binPower (l : List Q) (k : Nat) : Q :=
  let n := l.length
  let win := (List.range n).map fun (j : Nat) => Q.mul ⟨1, 2⟩ (Q.sub Q.one (sincosTurn (Q.make j n)).2)
  let sw := Q.sum win
  let terms := ((List.range n).zip (win.zip l)).map fun e =>
    let (sn, cs) := sincosTurn (Q.make (-(k * e.1 : Nat) : Int) n)
    let v := Q.mul e.2.1 e.2.2
    (Q.mul v cs, Q.mul v sn)
  let re := Q.div (Q.mul ⟨2, 1⟩ (Q.sum (terms.map (·.1)))) sw
  let im := Q.div (Q.mul ⟨2, 1⟩ (Q.sum (terms.map (·.2)))) sw
  Q.add (Q.mul re re) (Q.mul im im)

/-- The bins of a band (R300). -/
def bandBins (fnom band : Nat) : List Nat :=
  if band = 0 then (List.range 9).map (· + 1)
  else if fnom = 50 then (List.range 9).map (· + 11) else (List.range 11).map (· + 13)

/-- Band RMS, peak frequency and peak RMS of one phase (R300). -/
def bandMeasures (fnom band : Nat) (l : List Q) : Q × Q × Q :=
  let bins := (bandBins fnom band).map fun k => (k, binPower l k)
  let rms := Q.sqrt (Q.div (Q.sum (bins.map (·.2))) ⟨3, 1⟩)
  let peak := bins.foldl (fun (a : Nat × Q) e => if Q.lt a.2 e.2 then e else a) ((bins.headD (0, Q.zero)).1, Q.ofInt (-1))
  let k := peak.1
  let m := Q.sqrt peak.2
  let up := Q.sqrt (binPower l (k + 1))
  let dn := Q.sqrt (binPower l (k - 1))
  let delta := Q.div (Q.mul ⟨2, 1⟩ (Q.sub up dn)) (Q.add (Q.add dn (Q.mul ⟨2, 1⟩ m)) up)
  let delta := Q.max ⟨-1, 2⟩ (Q.min ⟨1, 2⟩ delta)
  (rms, Q.mul ⟨5, 1⟩ (Q.add (Q.ofNat k) delta), Q.div m (Q.sqrt ⟨2, 1⟩))

/-- One detector at a window's end (R301), with the settings in force at its begin (R305), or, with `sh`, Shepherd's copy on its rows of 0x2F42 (R630), kept under 16 + row. -/
def localWindow (sh : Bool) (t96 : Nat) (w : WaveWindow) (band : Nat) (s : State) : State :=
  let d := 2 * w.set + band
  let idx := if sh then 0x2F42 else 0x2530
  let (oi, os) := if sh then (0x2F45, 3) else (0x2531, 1)
  let set := if sh then s.active else pubSet s (t96 - 2 ^ 48 / 5)
  if inSet set idx 0x01 d = 0 then (if sh then s else s.setRow 0x2531 0x01 d 3)
  else
    let key := if sh then 16 + d else d
    let x := tabGet (LocalDet.mk 0 0) s.eddy.locals key
    let s := if sh then s.onPower fun p => { p with shepherdRows := if p.shepherdRows.contains d then p.shepherdRows else d :: p.shepherdRows }
      else (s.bump 0x2540 0x09).setRow 0x2531 0x05 d t96
    let old := s.ro oi os d
    let done := fun (s : State) (new c e f : Nat) =>
      let s := (s.onEddy fun y => { y with locals := putKey key ⟨c, new⟩ y.locals }).setRow oi os d new
      if new = old then s
      else if sh then raiseOnce 0x2F0A key (le 1 d ++ le 1 0x10 ++ le 1 new ++ le 4 e) s
      else raise 0x2507 (le 1 d ++ le 1 new ++ le 4 f ++ le 4 e) s
    if w.invalid then done (if sh then s else s.bump 0x2540 0x0A) 2 0 (s.ro 0x2531 2 d) (s.ro 0x2531 3 d)
    else
      let ms := w.phases.map fun p => bandMeasures s.fnom band (p.map f32)
      let best := ms.foldl (fun (a : Q × Q × Q) m => if Q.lt a.1 m.1 then m else a) (ms.headD (Q.zero, Q.zero, Q.zero))
      let e := toF32 best.1
      let f := toF32 best.2.1
      let s := if sh then s else ((s.setRow 0x2531 2 d e).setRow 0x2531 3 d f).setRow 0x2531 4 d (toF32 best.2.2)
      let c := if old = 3 then 0 else x.c
      if old = 2 then done s 0 0 e f
      else if old ≠ 1 then
        if Q.le (f32 (inSet set idx 2 d)) (f32 e) then (if c + 1 ≥ inSet set idx 4 d then done s 1 0 e f else done s 0 (c + 1) e f)
        else done s 0 0 e f
      else if Q.lt (f32 e) (f32 (inSet set idx 3 d)) then (if c + 1 ≥ inSet set idx 5 d then done s 0 0 e f else done s 1 (c + 1) e f)
      else done s 1 0 e f

/-- INTERHARMONIC_WINDOW_END: the windows of the sets end at the last T96 multiple of 100 ms (R299); a set fed by sampled values is invalid
(R301); Shepherd reads the same samples through its own port (R302, R630). -/
def interharmonic (ws : List WaveWindow) (s : State) : State :=
  let t := s.t96 * 10 / 2 ^ 48 * 2 ^ 48 / 10
  let ws := (ws.filter fun w => w.set < 8).map fun w => { w with invalid := w.invalid || s.cfg 0x2901 0x02 (w.set % 4) == 1 }
  let s := if s.running && s.cfgB 0x2500 0x01 then ws.foldl (fun s w => localWindow false t w 1 (localWindow false t w 0 s)) s else s
  if s.gdieOn && s.ro 0x2F45 0x01 != 0 && s.ro 0x2F45 0x01 != 3 then
    ws.foldl (fun s w => localWindow true t w 1 (localWindow true t w 0 s)) s
  else s

end Sys2Proof.Machine
end

