-- ==== Sys2Proof/Machine/Oxbow.lean ====
section
/-! DEFINITION. Oxbow: observation, edges, components, island identities and reports (R310–R331), and the local loss-of-mains elements
(R332–R336). -/

namespace Sys2Proof.Machine
open Sys2Proof

/-! ### The declared graph (R310–R313) -/

def State.ox (s : State) (g : Nat) : OxGroup := tabGet .reset s.oxbow.groups g
def State.setOx (s : State) (g : Nat) (x : OxGroup) : State := s.onOxbow fun o => { o with groups := putKey g x o.groups }

/-- Node rows of a group. -/
def nodeRows (s : State) (g : Nat) : List Nat := (rowsOf s.active 0x2601 0x01).filter fun n => groupOf s n == g
/-- Edge rows whose from-node belongs to a group. -/
def edgeRows (s : State) (g : Nat) : List Nat :=
  (rowsOf s.active 0x2602 0x01).filter fun e => groupOf s (s.cfg 0x2602 0x01 e) == g
/-- Oxbow processes the group (R313). -/
def oxbowOn (s : State) (g : Nat) : Bool := s.running && s.cfgB 0x2600 0x01 && !(edgeRows s g).isEmpty

/-- Frequency deviation, ROCOF and angle of a node at slot i, when usable (R314). -/
def nodeFreq (s : State) (g i n : Nat) : Option Q :=
  let x := quantities s g i n
  if bit x.flags 0 then binary32.toQ x.freq else none
def nodeRocof (s : State) (g i n : Nat) : Option Q :=
  let x := quantities s g i n
  if bit x.flags 2 then binary32.toQ x.rocof else none
def nodeAngle (s : State) (g i n : Nat) : Option Nat :=
  let x := quantities s g i n
  if bit x.flags 1 then some x.angle else none

/-! ### Nodes and edges at a slot (R314–R318) -/

/-- A node at slot i: observed, HELD or UNOBSERVED, with its usable angle. -/
def stepNode (s : State) (g i n : Nat) (x : OxNode) : OxNode :=
  let ang := nodeAngle s g i n
  let seen := (nodeFreq s g i n).isSome || (ang.isSome && x.angle.isSome)
  let hold := s.cfg 0x2603 0x05 g
  let held : Bool := match x.seen with | some k => i ≤ k + hold | none => false
  { x with state := if seen then 0 else if held then 1 else 2, seen := if seen then some i else x.seen, angle := ang }

/-- The test value of an edge (R316), from the nodes before and after the step. -/
def edgeTest (s : State) (g i e : Nat) (before after : Tab OxNode) : Option Q :=
  let a := s.cfg 0x2602 0x01 e
  let b := s.cfg 0x2602 0x02 e
  let df := match nodeFreq s g i a, nodeFreq s g i b with
    | some x, some y => some (Q.abs (dbl (Q.sub x y)))
    | _, _ => none
  let ang := fun (t : Tab OxNode) n => (tabGet .reset t n).angle
  let rate := match (s.group g).slot? i with | some x => x.rate | none => 0
  let rho := match ang after a, ang after b, ang before a, ang before b with
    | some x, some y, some u, some v =>
      let d := ofTwos 32 ((x + 2 ^ 32 - y) + 2 ^ 33 - (u + 2 ^ 32 - v))
      some (Q.abs (Q.div (dbl (Q.mul (Q.ofInt d) (dbl (rateQ rate)))) (Q.ofNat (2 ^ 32))))
    | _, _, _, _ => none
  match df, rho with
  | some x, some y => some (Q.max x y)
  | some x, none => some x
  | none, y => y

/-- One slot of an edge (R317). -/
def stepEdge (s : State) (g i e : Nat) (before after : Tab OxNode) (x : OxEdge) : OxEdge :=
  let gone := fun n => (tabGet OxNode.reset after n).state == 2
  let p := s.cfg 0x2602 0x03 e
  let c := edgeTest s g i e before after
  let x := { x with test := match c with | some q => toF32 q | none => nanF32 }
  let st := s.cfg 0x2602 0x04 e
  let cell := presented s g i false st
  let opened := st != 0xFFFFFFFF && usable cell && b2n (bit cell.word (s.cfg 0x2602 0x05 e)) == s.cfg 0x2602 0x06 e
  if gone (s.cfg 0x2602 0x01 e) || gone (s.cfg 0x2602 0x02 e) then { x with state := 3, k := 0 }
  else if opened then { x with state := 2, k := 0 }
  else
    let x := if x.state ≥ 2 then { x with state := 0, k := 0 } else x
    match c with
    | none => x
    | some c =>
      if x.state = 0 then
        if Q.lt (s.cfgF 0x2604 0x01 p) c then
          (if x.k + 1 ≥ s.cfg 0x2604 0x03 p then { x with state := 1, k := 0 } else { x with k := x.k + 1 })
        else { x with k := 0 }
      else if Q.le c (s.cfgF 0x2604 0x02 p) then
        (if x.k + 1 ≥ s.cfg 0x2604 0x04 p then { x with state := 0, k := 0 } else { x with k := x.k + 1 })
      else { x with k := 0 }

/-! ### Components (R319, R320) -/

/-- Join the components that hold nodes a and b. -/
def join (cs : List (List Nat)) (a b : Nat) : List (List Nat) :=
  match cs.find? (·.contains a), cs.find? (·.contains b) with
  | some x, some y => if x = y then cs else (x ++ y) :: cs.filter fun c => c != x && c != y
  | _, _ => cs

/-- Numbers in increasing order. -/
def sortNat (l : List Nat) : List Nat := sortBy (fun a b => decide (a ≤ b)) l
/-- The lowest member of a component. -/
def lowest (c : List Nat) : Nat := c.foldl Nat.min (c.headD 0)
/-- Members two components share. -/
def overlap (a b : List Nat) : Nat := (a.filter b.contains).length

/-- The components of the observed and HELD nodes along COHERENT edges, members rising, in increasing lowest member. -/
def components (s : State) (g : Nat) (nodes : Tab OxNode) (edges : Tab OxEdge) : List (List Nat) :=
  let start := ((nodeRows s g).filter fun n => (tabGet OxNode.reset nodes n).state != 2).map fun n => [n]
  let cs := (edgeRows s g).foldl (fun cs e =>
    if (tabGet OxEdge.reset edges e).state = 0 then join cs (s.cfg 0x2602 0x01 e) (s.cfg 0x2602 0x02 e) else cs) start
  sortBy (fun a b => decide (lowest a ≤ lowest b)) (cs.map sortNat)

/-- The main component (R320). -/
def mainComponent (s : State) (g : Nat) (prev : List Nat) (cs : List (List Nat)) : List Nat :=
  let anchor := s.cfg 0x2603 0x01 g
  match (if anchor = 0xFFFF then none else cs.find? (·.contains anchor)) with
  | some c => c
  | none => cs.foldl (fun a c =>
      if a.length < c.length || (a.length == c.length && overlap a prev < overlap c prev) then c else a) (cs.headD [])

/-- The mean frequency of a component, F64 (R323); none without usable frequency among its observed members. -/
def meanFrequency (s : State) (g i : Nat) (nodes : Tab OxNode) (c : List Nat) : Option Q :=
  let v := (c.filter fun n => (tabGet OxNode.reset nodes n).state == 0).filterMap fun n => nodeFreq s g i n
  if v.isEmpty then none else some (Q.add (Q.ofNat s.fnom) (Q.div (Q.sum v) (Q.ofNat v.length)))
/-- The mean ROCOF of a component (R327). -/
def meanRocof (s : State) (g i : Nat) (c : List Nat) : Option Q :=
  let v := c.filterMap fun n => nodeRocof s g i n
  if v.isEmpty then none else some (Q.div (Q.sum v) (Q.ofNat v.length))
/-- An optional quantity as F32 (R327). -/
def f32OrNone (x : Option Q) : Nat := match x with | some q => toF32 q | none => nanF32

/-! ### Identities (R321–R326) -/

/-- The component an ID passes to: greatest overlap, ties to the lowest lowest member. -/
def passesTo (cs : List (List Nat)) (x : Island) : Option (List Nat) :=
  let best := cs.foldl (fun (b : Option (List Nat)) c =>
    if overlap c x.members = 0 then b
    else match b with | some d => if overlap d x.members < overlap c x.members then some c else b | none => some c) none
  best

/-- The ID a component keeps among those it received: greatest overlap, ties to the lower ID. -/
def keeps (c : List Nat) (l : List Island) : Option Island :=
  l.foldl (fun b x => match b with
    | some y => if overlap c y.members < overlap c x.members || (overlap c y.members == overlap c x.members && x.id < y.id) then some x else b
    | none => some x) none

/-- Every ID in use in the device but those of group g. -/
def otherIds (s : State) (g : Nat) : List Nat :=
  (s.oxbow.groups.filter fun e => e.1 != g).flatMap fun e => e.2.islands.map (·.id)

/-- The next free ID after the last one issued (R322). -/
def nextIslandId (used : List Nat) : Nat → Nat → Nat
  | 0, n => n
  | k + 1, n => let m := if n ≥ 65535 then 1 else n + 1; if used.contains m then nextIslandId used k m else m

/-- Rows of 0x2613 in use by any group. -/
def rowsInUse (s : State) (g : Nat) (l : List Island) : List Nat :=
  (s.oxbow.groups.filter fun e => e.1 != g).flatMap (fun e => e.2.islands.filterMap (·.row)) ++ l.filterMap (·.row)
/-- The lowest free row. -/
def freeRow (used : List Nat) : Option Nat := (List.range 256).find? fun r => !used.contains r

/-- The persistence count and the declaration of a tracked component at a slot (R323). -/
def stepIsland (s : State) (g i nominal : Nat) (mainF f : Option Q) (rocof : Option Q) (members : List Nat) (x : Island) : Island :=
  let p := match f, mainF with
    | some a, some b => if Q.lt (s.cfgF 0x2603 0x03 g) (Q.abs (Q.sub a b)) then x.p + 1 else 0
    | _, _ => x.p
  let decl := x.declared || p ≥ s.cfg 0x2603 0x02 g
  let changed := members != x.members || (decl && !x.declared)
  { x with p := p, members := members, declared := decl, declaredAt := if decl && !x.declared then nominal else x.declaredAt,
           freq := f32OrNone f, rocof := f32OrNone rocof, changedAt := if changed then i else x.changedAt }

/-- Advance a row's generation (R327, R328). -/
def touchRow (r : Nat) (s : State) : State := s.onOxbow fun o => { o with gens := putKey r ((tabGet 0 o.gens r + 1) % 2 ^ 32) o.gens }

/-- Table declared islands without a row, in increasing ID (R326). -/
def tableIslands (g i nominal : Nat) (l : List Island) (s : State) : List Island × State :=
  (sortBy (fun (a b : Island) => decide (a.id ≤ b.id)) l).foldl (fun (a : List Island × State) x =>
    if !x.declared || x.row.isSome then (a.1 ++ [x], a.2)
    else
      let used := rowsInUse s g (l ++ a.1)
      match freeRow used with
      | some r => (a.1 ++ [{ x with row := some r, changedAt := i }], touchRow r a.2)
      | none =>
        if x.declaredAt = nominal then
          (a.1 ++ [x], raiseOnce 0x2607 0 (le 2 x.id) (a.2.bump 0x2630 0x06))
        else (a.1 ++ [x], a.2)) ([], s)

/-- Track the components of a slot (R321–R326). -/
def trackIslands (g i nominal : Nat) (nodes : Tab OxNode) (main : List Nat) (cs : List (List Nat)) (s : State) : State × List Island × List (Nat × Nat × Nat) :=
  let old := (s.ox g).islands
  let size := s.cfg 0x2603 0x04 g
  let passedTo := old.map fun x => (x, passesTo cs x)
  let mainF := meanFrequency s g i nodes main
  let eligible := cs.filter fun c => c != main && size ≤ c.length
  let outcome := fun (p : Island × Option (List Nat)) =>
    match p.2 with
    | none => some (p.1.id, 2, 0)
    | some c =>
      let got := (passedTo.filter fun q => q.2 == some c).map (·.1)
      match keeps c got with
      | some k =>
        if k.id ≠ p.1.id then some (p.1.id, 1, k.id)
        else if c = main then some (p.1.id, 0, 0)
        else if c.length < size then some (p.1.id, 2, 0)
        else none
      | none => none
  let ended := passedTo.filterMap outcome
  let kept := eligible.filterMap fun c => (keeps c ((passedTo.filter fun q => q.2 == some c).map (·.1))).map fun k => (k, c)
  let fresh := eligible.filter fun c => !(passedTo.any fun q => q.2 == some c)
  let room := 1024 - ((otherIds s g).length + kept.length)
  let chosen := (sortBy (fun (a b : List Nat) => decide (b.length < a.length) || (a.length == b.length && decide (lowest a ≤ lowest b))) fresh).take room
  let left := fresh.length - chosen.length
  let s := if left = 0 then s else raiseOnce 0x2606 0 (le 2 left) (s.addTo 0x2630 0x05 left)
  let born := (fresh.filter chosen.contains).foldl (fun (a : List (Island × List Nat) × Nat) c =>
    let used := otherIds s g ++ (kept.map fun e => e.1.id) ++ (a.1.map fun e => e.1.id)
    let id := nextIslandId used 65536 a.2
    let parent := old.foldl (fun (b : Option Island) x =>
      if overlap c x.members = 0 then b
      else match b with
        | some y => if overlap c y.members < overlap c x.members || (overlap c y.members == overlap c x.members && x.id < y.id) then some x else b
        | none => some x) none
    let p := match parent with | some y => if y.declared then Nat.min y.p (s.cfg 0x2603 0x02 g - 1) else 0 | none => 0
    let x : Island := { id := id, members := c, parent := match parent with | some y => y.id | none => 0, p := p, declared := false,
                        row := none, declaredAt := 0, freq := 0, rocof := 0, changedAt := i }
    (a.1 ++ [(x, c)], id)) ([], s.oxbow.lastId)
  let s := s.onOxbow fun o => { o with lastId := born.2 }
  let stepped := (kept ++ born.1).map fun e =>
    (e.1, stepIsland s g i nominal mainF (meanFrequency s g i nodes e.2) (meanRocof s g i e.2) e.2 e.1)
  let s := (old.filter fun x => ended.any fun e => e.1 == x.id).foldl (fun s x => match x.row with | some r => touchRow r s | none => s) s
  let s := stepped.foldl (fun s e => match e.2.row with
    | some r => if e.2.changedAt = i && (e.1.members != e.2.members) then touchRow r s else s
    | none => s) s
  let (l, s) := tableIslands g i nominal (stepped.map (·.2)) s
  (s, l, ended)

/-- A node's state as its home found it at slot i (type 20), on the placer; else as stepped here. -/
def homeState (s : State) (i n : Nat) (x : OxNode) : OxNode :=
  if homeHere s n then x
  else match lookup n s.duplex.pack.states with
    | some (k, st) => if k = i then { x with state := st } else x
    | none => x

/-- The first slot whose boundary lies at or after the last swap takes it (R338): changed edges start COHERENT with k = 0, nodes whose signals
changed start UNOBSERVED. -/
def takeOxSwap (g boundary : Nat) (s : State) : State :=
  match s.pub.oldSet with
  | none => s
  | some (d, at_) =>
    let x := s.ox g
    if boundary < at_ ∨ x.setAt = at_ then s
    else
      let edges := rowsChanged d s.active 0x2602
      let nodes := (rowsEither d s.active 0x2601).filter fun n => [1, 2, 3].any fun i => differs d s.active 0x2601 i n
      s.setOx g { x with nodes := x.nodes.filter fun e => !nodes.contains e.1, edges := x.edges.filter fun e => !edges.contains e.1, setAt := at_ }

/-- Work on slot i of a group under the set that holds for it. -/
def underSlotSet (g i : Nat) (f : State → State) (s : State) : State :=
  match (s.group g).slot? i with
  | none => f s
  | some sl =>
    let s := takeOxSwap g sl.boundary s
    { f { s with active := pubSet s sl.boundary } with active := s.active }

/-- Slot i is the first of the group's grid: every node is UNOBSERVED and every edge COHERENT with k = 0 before it (R315, R317). -/
def atGridStart (s : State) (g i : Nat) : Bool :=
  let x := s.group g
  i == x.first && (x.slot? i).any fun sl => sl.rate == x.rate

/-- The first half of Oxbow's PROCESS: nodes, and the edges whose from-node is homed here (R314–R318, R331). -/
def oxbowEdges (g i : Nat) (s : State) : State :=
  if !oxbowOn s g then s
  else underSlotSet g i (fun s =>
    let x := if atGridStart s g i then { s.ox g with nodes := [], edges := [] } else s.ox g
    let nodes := (nodeRows s g).foldl (fun t n => putKey n (stepNode s g i n (tabGet .reset x.nodes n)) t) []
    let edges := (edgeRows s g).foldl (fun t e =>
      let old := tabGet .reset x.edges e
      putKey e (if homeHere s (s.cfg 0x2602 0x01 e) then stepEdge s g i e x.nodes nodes old else old) t) []
    if oxbowOn s g then s.setOx g { x with nodes := nodes, edges := edges } else s) s

/-- The second half, of the placing member in a pack: components, islands (R319–R327). -/
def oxbowTrack (g i : Nat) (s : State) : State :=
  if !oxbowOn s g || !placesHere s then s
  else underSlotSet g i (fun s =>
    if !oxbowOn s g then s else
    let x := s.ox g
    let nominal := match (s.group g).slot? i with | some y => y.nominal | none => 0
    let nodes := x.nodes.map fun e => (e.1, homeState s i e.1 e.2)
    let edges := x.edges.map fun e =>
      if homeHere s (s.cfg 0x2602 0x01 e.1) then e
      else match lookup e.1 s.duplex.pack.edges with
        | some (k, st) => if k = i then (e.1, { e.2 with state := st }) else e
        | none => e
    let cs := components s g nodes edges
    let main := mainComponent s g x.main cs
    let (s, islands, ended) := trackIslands g i nominal nodes main cs s
    let nodes := nodes.map fun e => (e.1, { e.2 with island := match islands.find? fun y => y.members.contains e.1 with | some y => y.id | none => 0 })
    let un := (nodes.filter fun e => e.2.state == 2).length
    let s := s.setOx g { x with nodes := nodes, edges := edges, islands := islands, main := main, components := cs.length,
                                mainFreq := f32OrNone (meanFrequency s g i nodes main), ended := ended, unobserved := un }
    (s.bump 0x2630 0x01).addTo 0x2630 0x07 un) s

/-- Oxbow's PROCESS of a slot (R314–R327). -/
def oxbowProcess (g i : Nat) (s : State) : State := oxbowTrack g i (oxbowEdges g i s)

/-! ### Reports at COMMIT (R328) -/

/-- A report packet. -/
def islandPacket (kind g id parent row nominal members gen freq rocof : Nat) : List Nat :=
  [0x5 * 2 ^ 60 + kind * 2 ^ 56 + g * 2 ^ 48 + id * 2 ^ 32 + parent * 2 ^ 16 + row * 256] ++ t96Words nominal ++
  [members * 2 ^ 48 + gen, freq * 2 ^ 32 + rocof]

/-- Post the report of a live island; `other` is its parent, or for kind 3 the ID that ended. -/
def reportIsland (kind g nominal other : Nat) (x : Island) (s : State) : State :=
  sluicePost 4 (islandPacket kind g x.id other (x.row.getD 0xFF) nominal x.members.length
    (match x.row with | some r => tabGet 0 s.oxbow.gens r | none => 0) x.freq x.rocof) s

/-- Report the end of an island with its cause (R325); of a merged one, 0x2604 names the survivor, whose own packet has kind 3 (R328). -/
def reportEnd (g nominal id parent cause other : Nat) (survivor : Option Island) (s : State) : State :=
  let s := (raise 0x2602 (le 2 id ++ le 1 cause ++ le 1 g) s).bump 0x2630 0x04
  let s := sluicePost 4 (islandPacket 4 g id parent 0xFF nominal 0 0 nanF32 nanF32) s
  if cause = 1 then
    let s := raise 0x2604 (le 2 other ++ le 2 id) s
    match survivor with
    | some x => reportIsland 3 g nominal id x s
    | none => s
  else s

/-- Oxbow's COMMIT of a slot, with the group's state as of that slot. -/
def oxbowCommit (g nominal : Nat) (x : OxGroup) (s : State) : State :=
  if !oxbowOn s g then s
  else
    -- edges
    let s := x.edges.foldl (fun s e =>
      let old := tabGet 0 s.oxbow.committedEdges e.1
      let s := s.onOxbow fun o => { o with committedEdges := putKey e.1 e.2.state o.committedEdges }
      if old = 0 ∧ e.2.state = 1 then countWindow 0x2605 0 1 0 (s.bump 0x2630 0x02)
      else if old = 1 ∧ e.2.state = 0 then countWindow 0x2605 0 0 1 s else s) s
    -- ended islands
    let gone := s.oxbow.reported.filter fun e => e.2.group == g && !(x.islands.any fun y => y.id == e.1 && y.declared)
    let ends := gone.map fun e => (e, (x.ended.find? fun y => y.1 == e.1).getD (e.1, 2, 0))
    let survivor := fun (id : Nat) => x.islands.find? fun y => y.id == id && y.declared && (lookup id s.oxbow.reported).isSome
    let s := ends.foldl (fun s e =>
      let s := reportEnd g nominal e.1.1 e.1.2.parent e.2.2.1 e.2.2.2 (survivor e.2.2.2) s
      s.onOxbow fun o => { o with reported := delKey e.1.1 o.reported }) s
    -- declared islands
    (x.islands.filter (·.declared)).foldl (fun s y =>
      let keep := fun (r : Reported) (s : State) => s.onOxbow fun o => { o with reported := putKey y.id r o.reported }
      match lookup y.id s.oxbow.reported with
      | none =>
        let s := (raise 0x2601 (le 2 y.id ++ le 1 g ++ le 2 y.members.length ++ le 4 y.freq) s).bump 0x2630 0x03
        let s := if y.parent ≠ 0 then raise 0x2603 (le 2 y.parent ++ le 2 y.id ++ le 2 y.members.length) s else s
        let s := reportIsland (if y.parent ≠ 0 then 2 else 0) g nominal y.parent y s
        keep ⟨g, y.parent, y.members, none, none⟩ s
      | some r =>
        if ends.any fun e => e.2.2.1 == 1 && e.2.2.2 == y.id then keep { r with members := y.members, owed := none } s
        else
          let owed := if r.members = y.members then r.owed else some (nominal, y.members.length, y.freq, y.rocof)
          match owed with
          | some c =>
            if (match r.reportedAt with | some a => decide (a + ms 100 ≤ s.now) | none => true) then
              let gen := match y.row with | some n => tabGet 0 s.oxbow.gens n | none => 0
              keep ⟨g, y.parent, y.members, some s.now, none⟩
                (sluicePost 4 (islandPacket 1 g y.id y.parent (y.row.getD 0xFF) c.1 c.2.1 gen c.2.2.1 c.2.2.2) s)
            else keep { r with members := y.members, owed := owed } s
          | none => s) s

/-- A group stops being processed: its islands end with cause 3 (R325, R338). -/
def oxbowStop (g : Nat) (s : State) : State :=
  let mine := s.oxbow.reported.filter fun e => e.2.group == g
  let s := mine.foldl (fun s e => reportEnd g s.t96 e.1 e.2.parent 3 0 none s) s
  let s := ((s.ox g).islands.filterMap (·.row)).foldl (fun s r => touchRow r s) s
  s.onOxbow fun o => { o with groups := delKey g o.groups, reported := o.reported.filter fun e => e.2.group != g }

/-- 0x2640:01 Clear Oxbow counters (R340). -/
def clearOxbow (s : State) : State := (s.clearObjects [(0x2621, 7)]).clearRange 0x2630 0x2630

def execClearOxbowCounters (t : Nat) (who : Who) (s : State) : Host.Outcome State Fault Refusal :=
  complete t (runPlain 0x2640 0x01 who (ok clearOxbow)) s

/-! ### Local loss of mains (R332–R336), and Shepherd's own (R630)

The functions take the row m of a set: 0–3 the rows of 0x2620, 16–19 Shepherd's rows of 0x2F41. -/

/-- The settings of a row. -/
def lomObject (m : Nat) : Nat := if m < 16 then 0x2620 else 0x2F41

def State.lom (s : State) (m : Nat) : Lom := tabGet .reset s.oxbow.lom m
def State.setLom (s : State) (m : Nat) (x : Lom) : State := s.onOxbow fun o => { o with lom := putKey m x o.lom }

/-- The mean of the frequencies of evaluations n − k − 3 to n − k (R332). -/
def lomMean (l : List Nat) (k : Nat) : Option Q :=
  let v := (l.drop k).take 4
  if v.length < 4 then none else some (Q.div (Q.sum (v.map f64)) ⟨4, 1⟩)

/-- Set or clear an element's operated bit, with its event (R336). -/
def lomOperate (m e : Nat) (on : Bool) (measure : Nat) (s : State) : State :=
  let x := s.lom m
  if bit x.operated e == on then s
  else
    let o := setBit x.operated e on
    let s := s.setLom m { x with operated := o }
    if m ≥ 16 then
      raiseOnce 0x2F0A (m % 16) (le 1 (m % 16) ++ le 1 e ++ le 1 (b2n on) ++ le 4 measure)
        (s.setRow 0x2F45 0x02 (m % 16) (128 * b2n (bit (s.ro 0x2F45 0x02 (m % 16)) 7) + o))
    else
    let s := s.setRow 0x2621 0x01 m o
    if on then raise 0x2609 (le 1 m ++ le 1 e ++ le 4 measure) ((s.bump 0x2621 0x07 m).bump 0x2630 0x08)
    else raise 0x260A (le 1 m ++ le 1 e) s

/-- One element with a delay (R333, R334): condition, reset side, delay in ms. -/
def lomElement (m e : Nat) (measure : Option Q) (beyond back : Q → Bool) (delay : Nat) (s : State) : State :=
  let x := s.lom m
  let set := fun n (s : State) => s.setLom m { s.lom m with counts := putKey e n (s.lom m).counts }
  match (if bit (s.cfg (lomObject m) 0x10 (m % 16)) e then measure else none) with
  | none => lomOperate m e false 0 (set 0 s)
  | some v =>
    let need := Nat.max 1 ((delay * 4 * s.fnom + 999) / 1000)
    if bit x.operated e then (if back v then lomOperate m e false 0 (set 0 s) else s)
    else if beyond v then
      let n := tabGet 0 x.counts e + 1
      if n ≥ need then lomOperate m e true (toF32 v) (set 0 s) else set n s
    else set 0 s

/-- The vector shift of the newest of the positive-sequence angles (2^-32 turn, newest first), degrees in (−180, 180] (R332). -/
def vectorShift (phases : List Nat) : Option Q :=
  match phases with
  | n :: _ :: _ :: _ :: n4 :: _ :: _ :: _ :: n8 :: _ =>
    let pred : Int := (n4 : Int) + ofTwos 32 (n4 + 2 ^ 32 - n8)
    let d : Int := ofTwos 32 (toTwos 32 ((n : Int) - pred))
    some (Q.make ((if d = -(2 ^ 31) then (2 ^ 31 : Int) else d) * 360) (2 ^ 32))
  | _ => none

/-- One evaluation of a row (R332–R336): frequency (F64, Hz), angle (2^-32 turn), V₁ and the smallest and largest phase RMS (F64, V; a NaN
while a cycle value is missing under R419, which leaves the voltage elements as they are: assumption 101). -/
def lomEvaluate (m f phi v1 vmin vmax : Nat) (invalid : Bool) (s : State) : State :=
  if !s.cfgB (lomObject m) 0x01 (m % 16) || !(s.running || s.dev == stSentinel || (m ≥ 16 && s.dev == stStart)) then s
  else if invalid then (if m < 16 then s.bump 0x2630 0x0A else s)
  else
    let cfg := fun sub => s.cfgF (lomObject m) sub (m % 16)
    let w := s.cfg (lomObject m) 0x05 (m % 16)
    let x := s.lom m
    let freqs := (f :: x.freqs).take (4 * w + 4)
    let phases := (phi :: x.phases).take 9
    let vn := cfg 0x02
    let blocked := Q.lt (f64 v1) (Q.mul (cfg 0x03) vn)
    let s := s.setLom m { x with freqs := freqs, phases := phases, blocked := blocked }
    let s := if blocked == x.blocked || m ≥ 16 then s else raise 0x260B (le 1 m ++ le 1 (b2n blocked)) (s.setRow 0x2621 0x08 m (b2n blocked))
    let fn := lomMean freqs 0
    let rocof := match fn, lomMean freqs (4 * w) with
      | some a, some b => some (Q.div (Q.mul (Q.sub a b) (Q.ofNat s.fnom)) (Q.ofNat w))
      | _, _ => none
    let shift := vectorShift phases
    let low := (binary64.toQ vmin).map fun v => Q.div v vn
    let high := (binary64.toQ vmax).map fun v => Q.div v vn
    let show_ := fun sub v (s : State) => if m < 16 then s.setRow 0x2621 sub m v else s
    let s := if m < 16 then s else s.setRow 0x2F45 0x04 (m % 16) (toF32 (Q.mul (fn.getD Q.one) (Q.ofNat (b2n fn.isSome))))
    let s := show_ 0x03 (toF32 (rocof.getD Q.zero)) (show_ 0x02 (toF32 (fn.getD Q.zero)) s)
    let s := show_ 0x06 (f32OrNone high) (show_ 0x05 (f32OrNone low) s)
    let f0 := Q.ofNat s.fnom
    let unless_ := fun (v : Option Q) => if blocked then none else v
    let s := lomElement m 0 (unless_ rocof) (fun v => Q.lt (cfg 0x04) v.abs)
      (fun v => Q.le v.abs (Q.mul (cfg 0x04) ⟨95, 100⟩)) (s.cfg (lomObject m) 0x06 (m % 16)) s
    let s := match unless_ shift with
      | some v =>
        let s := if Q.lt (cfg 0x07) v.abs then show_ 0x04 (toF32 v) s else s
        if bit (s.cfg (lomObject m) 0x10 (m % 16)) 1 && Q.lt (cfg 0x07) v.abs then
          lomOperate m 1 true (toF32 v) (s.setLom m { s.lom m with holdUntil := s.now + ms (s.cfg (lomObject m) 0x11 (m % 16)) })
        else s
      | none => if blocked then lomOperate m 1 false 0 s else s
    let s := lomElement m 2 (unless_ fn) (fun v => Q.lt v (Q.add f0 (cfg 0x08)))
      (fun v => Q.le (Q.add (Q.add f0 (cfg 0x08)) ⟨5, 100⟩) v) (s.cfg (lomObject m) 0x09 (m % 16)) s
    let s := lomElement m 3 (unless_ fn) (fun v => Q.lt (Q.add f0 (cfg 0x0A)) v)
      (fun v => Q.le v (Q.sub (Q.add f0 (cfg 0x0A)) ⟨5, 100⟩)) (s.cfg (lomObject m) 0x0B (m % 16)) s
    if low.isNone || high.isNone then s
    else
    let s := lomElement m 4 low (fun v => Q.lt v (cfg 0x0C)) (fun v => Q.le (Q.mul (cfg 0x0C) ⟨102, 100⟩) v)
      (s.cfg (lomObject m) 0x0D (m % 16)) s
    lomElement m 5 high (fun v => Q.lt (cfg 0x0E) v) (fun v => Q.le v (Q.mul (cfg 0x0E) ⟨98, 100⟩)) (s.cfg (lomObject m) 0x0F (m % 16)) s

/-- The vector-shift hold has ended (R333). -/
def vectorHold (m : Nat) (s : State) : State :=
  if bit (s.lom m).operated 1 && (s.lom m).holdUntil ≤ s.now then lomOperate m 1 false 0 s else s

end Sys2Proof.Machine
end

