-- ==== Sys2Proof/Machine/AlarmOut.lean ====
section
/-! DEFINITION. Alarm outputs: ALM pins (R356–R359), alarm frames, repeats, heartbeats and token buckets (R361–R365), GOOSE (R366–R369). -/

namespace Sys2Proof.Machine
open Sys2Proof

def State.alarmOf (s : State) (r : Nat) : Alarm := tabGet .reset s.alarm.alarms r
def State.setAlarm (s : State) (r : Nat) (x : Alarm) : State := s.onAlarm fun a => { a with alarms := putKey r x a.alarms }
/-- Enabled rules (R342). -/
def ruleRows (s : State) : List Nat := rowsOf s.active 0x2701 0x01
/-- A rule is PROVISIONAL or COMMITTED. -/
def alarmOn (s : State) (r : Nat) : Bool := (s.alarmOf r).state == 1 || (s.alarmOf r).state == 2

/-! ### Pins -/

def State.pin (s : State) (p : Nat) : Pin := tabGet .reset s.alarm.pins p
def State.setPin (s : State) (p : Nat) (x : Pin) : State := s.onAlarm fun a => { a with pins := putKey p x a.pins }

/-- Why a rule-owned pin is de-energised (0x2711:02); 0 when it is energised (R357–R359). -/
def pinCause (s : State) (p : Nat) : Nat :=
  let mine := (ruleRows s).filter fun r => bit (s.cfg 0x2701 0x07 r) p
  let x := s.pin p
  let testing : Bool := match x.testUntil with | some e => decide (s.now < e) | none => false
  if !s.running then 5
  else if s.alarm.beatLost then 4
  else if testing then 6
  else if mine.any fun r => (s.alarmOf r).state == 2 || ((s.alarmOf r).state == 1 && s.cfgB 0x2701 0x08 r) then 1
  else if s.now < x.minUntil then 2
  else if mine.any fun r => !s.alarm.evaluated.contains r then 3
  else 0

/-- Bring one rule-owned pin up to date; a pin that becomes de-energised starts its minimum alarm time (R357). -/
def updatePin (p : Nat) (s : State) : State :=
  if s.cfg 0x2700 0x01 p ≠ 0 then s
  else
    let c := pinCause s p
    let s := if s.ro 0x2711 0x01 p = 1 ∧ c ≠ 0 then s.setPin p { s.pin p with minUntil := s.now + ms (s.cfg 0x2700 0x02) } else s
    (s.setRow 0x2711 0x01 p (b2n (c == 0))).setRow 0x2711 0x02 p c

/-- Bring every rule-owned pin up to date. -/
def updatePins (s : State) : State := (List.range 8).foldl (fun s p => updatePin p s) s

/-- MINIMUM_ALARM_TIME_EXPIRY (R357). -/
def execMinimumAlarmTimeExpiry (t pin : Nat) (s : State) : Host.Outcome State Fault Refusal :=
  complete t (fun s => if pin < 8 then updatePin pin s else s) s

/-- 0x2730:03 Pin test (R359): a Shepherd-owned pin, or a state other than RUN and TRIM, is a state conflict. -/
def startPinTest (p : Nat) (s : State) : State × Nat :=
  if !s.running || s.cfg 0x2700 0x01 p ≠ 0 then (s, 0x06)
  else (raise 0x2708 (le 1 p) (updatePin p (s.setPin p { s.pin p with testUntil := some (s.now + sec 1) })), 0)

def execPinTest (t : Nat) (who : Who) (pin : Nat) (s : State) : Host.Outcome State Fault Refusal :=
  complete t (runCommand 0x2730 0x03 pin (.num 0) who (startPinTest pin)) s

/-- The pin test has lasted 1 s. -/
def endPinTest (p : Nat) (s : State) : State :=
  match (s.pin p).testUntil with
  | some e => if e ≤ s.now then updatePin p (s.setPin p { s.pin p with testUntil := none }) else s
  | none => s

def execPinTestEnd (t pin : Nat) (s : State) : Host.Outcome State Fault Refusal := complete t (endPinTest pin) s

/-- RULE_ENGINE_HEARTBEAT (R358): pins return at the first heartbeat after a loss. -/
def heartbeat (s : State) : State :=
  if s.running then updatePins (s.onAlarm fun a => { a with lastBeat := s.now, beatLost := false }) else s

def execRuleEngineHeartbeat (t : Nat) (s : State) : Host.Outcome State Fault Refusal := complete t heartbeat s

/-- HEARTBEAT_LOSS (R358): none for 1 ms. -/
def heartbeatLoss (s : State) : State :=
  if s.running && !s.alarm.beatLost && s.alarm.lastBeat + ms 1 ≤ s.now then
    let pins := (List.range 8).foldl (fun n p => if s.cfg 0x2700 0x01 p = 0 ∧ s.ro 0x2711 0x01 p = 1 then n + 2 ^ p else n) 0
    updatePins (raise 0x2707 (le 1 pins) ((s.onAlarm fun a => { a with beatLost := true }).bump 0x2720 0x0D))
  else s

def execHeartbeatLoss (t : Nat) (s : State) : Host.Outcome State Fault Refusal := complete t heartbeatLoss s

/-! ### Alarm frames -/

/-- The device's role byte (R361). -/
def roleByte (s : State) : Nat := let r := s.ro 0x3210 0x01; if r = 3 then 0 else r

/-- Fill the bytes of a payload that differ between transmissions: sequence number, T96, repeat index (R361, R362), and its tag. -/
def stampPayload (s : State) (index superseded : Nat) (l : List Byte) : List Byte :=
  let body := l.take 20 ++ be 4 s.alarm.frameSeq ++ be 12 s.t96 ++ slice l 36 11 ++ be 1 index ++ slice l 48 100
  let h := s.cfg 0x2700 0x0B
  let key := keyOf s h [0]
  let body := body ++ be 2 (if key.isSome then h else 0) ++ be 2 0
  let tag := match key with | some k => (Config.hmacSha256 k body).take 16 | none => List.replicate 16 0
  let live := if s.running then (s.alarm.alarms.filter fun e => e.2.state == 1 || e.2.state == 2).length else 0xFFFFFFFF
  body ++ fit 16 tag ++ be 4 live ++ be 4 superseded ++ be 6 0

/-- The transmission units of the alarm ports: a pair under PRP modes 1 and 2 is 8 + pair, a single port itself (R364). -/
def alarmUnits (s : State) : List Nat :=
  let m := s.cfg 0x2700 0x05
  (List.range 3).flatMap fun k =>
    if prpMode s k = 0 then [2 * k, 2 * k + 1].filter fun p => bit m p
    else if bit m (2 * k) || bit m (2 * k + 1) then [8 + k] else []

/-- Put an alarm payload on a unit. -/
def putAlarmFrame (u : Nat) (p : List Byte) (s : State) : State :=
  let dst := s.cfgBytes 0x2700 0x03
  let ty := s.cfg 0x2700 0x04
  (if u ≥ 8 then sendPair (u - 8) 0 0 0 dst ty p s else sendPort u 0 0 0 dst ty p s).bump 0x2720 0x05

/-- Send one alarm frame on a unit; a Wheel holds it (R676). -/
def sendAlarmFrame (u index : Nat) (l : List Byte) (s : State) : State :=
  let s := keyUsed (s.cfg 0x2700 0x0B) [0] s
  let p := stampPayload s index s.alarm.superseded l
  let n := s.alarm.frameSeq
  let s := if roleNow s = 2 then holdTx ⟨srcAlarm, n, s.now, u, [], p, 0, 0⟩ s else sentMark srcAlarm n (putAlarmFrame u p s)
  s.onAlarm fun a => { a with frameSeq := (a.frameSeq + 1) % 2 ^ 32, superseded := 0 }

def State.bucket (s : State) (u : Nat) : Bucket :=
  tabGet ⟨s.cfg 0x2700 0x0A, s.now, [], false, 0, 0⟩ s.alarm.buckets u
def State.setBucket (s : State) (u : Nat) (b : Bucket) : State := s.onAlarm fun a => { a with buckets := putKey u b a.buckets }

/-- Bring a bucket's tokens up to the present (R364). -/
def fillBucket (s : State) (b : Bucket) : Bucket :=
  let n := (s.now - b.filledAt) * s.cfg 0x2700 0x09 / sec 1
  { b with tokens := Nat.min (s.cfg 0x2700 0x0A) (b.tokens + n), filledAt := if n = 0 then b.filledAt else b.filledAt + n * sec 1 / s.cfg 0x2700 0x09 }

/-- Send a transition's first frame on a unit and plan its repeats there (R362). -/
def sendFirst (u r : Nat) (x : Report) (s : State) : State :=
  let s := sendAlarmFrame u 0 x.payload s
  if x.repeatsLeft = 0 then s
  else s.onAlarm fun a => { a with
    repeats := putKey (4096 * u + r) { x with index := 1, dueAt := s.now + us (s.cfg 0x2700 0x07) } a.repeats }

/-- Offer a transition frame to a unit: sent when there is a token, else the rule's pending entry (R364, R365).  A repeat of an earlier
transition of the rule is dropped (R362). -/
def offerFrame (u r : Nat) (x : Report) (s : State) : State :=
  let s := s.onAlarm fun a => { a with repeats := delKey (4096 * u + r) a.repeats }
  let b := fillBucket s (s.bucket u)
  match lookup r b.pending with
  | some old =>
    let s := (s.onAlarm fun a => { a with superseded := a.superseded + 1 }).bump 0x2720 0x06
    if old.newState = 1 ∧ x.newState = 4 then s.setBucket u { b with pending := delKey r b.pending, superseded := b.superseded + 1, emptySince := s.now }
    else s.setBucket u { b with pending := putKey r { x with dueAt := s.now } b.pending, superseded := b.superseded + 1 }
  | none =>
    if b.tokens > 0 then sendFirst u r x (s.setBucket u { b with tokens := b.tokens - 1 })
    else
      let s := s.setBucket u { b with pending := putKey r { x with dueAt := s.now } b.pending, storm := true,
                                      superseded := if b.storm then b.superseded else 0 }
      if b.storm then s else raise 0x2704 (le 1 (if u ≥ 8 then 2 * (u - 8) else u)) s

/-- Send a transition's frame on every alarm port. -/
def sendTransition (r newState : Nat) (payload : List Byte) (s : State) : State :=
  (alarmUnits s).foldl (fun s u => offerFrame u r ⟨payload, newState, s.cfg 0x2700 0x06, 0, s.now⟩ s) s

/-- The repeat of a rule's frame that is due on a unit (R362). -/
def repeatOn (r u : Nat) (s : State) : State :=
  match lookup (4096 * u + r) s.alarm.repeats with
  | none => s
  | some x =>
    if s.now < x.dueAt then s
    else
      let s := sendAlarmFrame u x.index x.payload s
      let y := { x with repeatsLeft := x.repeatsLeft - 1, index := x.index + 1, dueAt := x.dueAt + us (s.cfg 0x2700 0x07) }
      s.onAlarm fun a => { a with repeats := if y.repeatsLeft = 0 then delKey (4096 * u + r) a.repeats else putKey (4096 * u + r) y a.repeats }

/-- ALARM_FRAME_REPEAT (R362). -/
def frameRepeat (r : Nat) (s : State) : State :=
  if s.running then (alarmUnits s).foldl (fun s u => repeatOn r u s) s else s

def execAlarmFrameRepeat (t rule : Nat) (s : State) : Host.Outcome State Fault Refusal := complete t (frameRepeat rule) s

/-- The unit a port sends alarm frames in. -/
def unitOf (s : State) (p : Nat) : Nat := if prpMode s (p / 2) = 0 then p else 8 + p / 2

/-- A pending entry leaves while there is a token (R364). -/
def leavePending (u : Nat) (s : State) (e : Nat × Report) : State :=
  let b := s.bucket u
  if b.tokens = 0 then s
  else
    let s := s.setBucket u { b with tokens := b.tokens - 1, pending := delKey e.1 b.pending, emptySince := s.now }
    sendFirst u e.1 e.2 (s.addTo 0x2720 0x07 ((s.now - e.2.dueAt) / us 1))

/-- TOKEN_REFILL (R364): pending entries leave in increasing rule number while there are tokens. -/
def tokenRefill (p : Nat) (s : State) : State :=
  let u := unitOf s p
  let b := fillBucket s (s.bucket u)
  let s := s.setBucket u b
  if s.running then b.pending.foldl (leavePending u) s else s

def execTokenRefill (t port : Nat) (s : State) : Host.Outcome State Fault Refusal := complete t (tokenRefill port) s

/-- ALARM_STORM_END (R365): no entry pending for 1 s. -/
def stormEnd (p : Nat) (s : State) : State :=
  let u := unitOf s p
  let b := s.bucket u
  if b.storm && b.pending.isEmpty && b.emptySince + sec 1 ≤ s.now then
    raise 0x2705 (le 1 p ++ le 4 b.superseded) (s.setBucket u { b with storm := false, superseded := 0 })
  else s

def execAlarmStormEnd (t port : Nat) (s : State) : Host.Outcome State Fault Refusal := complete t (stormEnd port) s

/-- A heartbeat payload (R361, R362). -/
def heartbeatPayload (s : State) : List Byte :=
  be 2 1 ++ be 1 2 ++ be 1 0 ++ be 16 Config.identity ++ be 16 0 ++ be 2 0xFFFF ++ be 4 0 ++ be 2 0 ++ be 1 0xFF ++ be 1 (roleByte s) ++
  be 1 s.timeClass ++ be 1 0 ++ be 12 0 ++ be 12 0 ++ be 8 0 ++ be 2 0 ++ be 1 0 ++ be 1 s.dev ++
  (List.range 8).flatMap (fun _ => be 4 nanF32) ++ List.replicate 32 0

/-- ALARM_HEARTBEAT (R362, R370, R372): in SENTINEL from the G-die on P4 and P5; a Wheel sends none. -/
def alarmHeartbeat (s : State) : State :=
  if !(s.running || s.dev == stSentinel) || s.now < s.alarm.heartbeatAt then s
  else
    let s := s.onAlarm fun a => { a with heartbeatAt := s.now + ms (s.cfg 0x2700 0x08) }
    if roleByte s = 2 then s
    else
      let units := if s.running then alarmUnits s else if prpMode s 2 = 0 then [4, 5] else [10]
      units.foldl (fun s u => sendAlarmFrame u 0 (heartbeatPayload s) s) s

def execAlarmHeartbeat (t : Nat) (s : State) : Host.Outcome State Fault Refusal := complete t alarmHeartbeat s

/-! ### GOOSE (R366–R369), encoded under IEC 61850-8-1 (assumption 16) -/

/-- A BER element. -/
def ber (tag : Nat) (l : List Byte) : List Byte :=
  let n := l.length
  be 1 tag ++ (if n < 128 then be 1 n else if n < 256 then be 1 0x81 ++ be 1 n else be 1 0x82 ++ be 2 n) ++ l
/-- A non-negative INTEGER in the fewest bytes. -/
def berNat (n : Nat) : List Byte := be (n.log2 / 8 + 1 + (if n.log2 % 8 = 7 then 1 else 0)) n
def berBool (b : Bool) : List Byte := be 1 (if b then 0xFF else 0)

/-- The nearest accuracy class of IEC 61850-7-2 to an uncertainty, as significant bits (R368). -/
def accuracyBits (ps : Nat) : Nat :=
  let cs : List (Nat × Nat) := [(10000000000, 7), (1000000000, 10), (100000000, 14), (25000000, 16), (4000000, 18), (1000000, 20)]
  (cs.foldl (fun (b : Nat × Nat) c =>
    let d := Nat.max c.1 ps - Nat.min c.1 ps
    if d < b.1 then (d, c.2) else b) (2 ^ 200, 7)).2

/-- The UtcTime of a GOOSE message (R368). -/
def gooseTime (s : State) (t96 : Nat) : List Byte :=
  let secs := ((t96 / 2 ^ 48 : Nat) : Int) - s.delta
  let c := s.timeClass
  let acc := if c = 7 then 31 else accuracyBits s.uncertaintyPs
  be 4 secs.toNat ++ be 3 (t96 % 2 ^ 48 / 2 ^ 24) ++ be 1 (128 + 64 * b2n (c == 7) + 32 * b2n (c ≥ 4) + acc)

/-- The APDU of a dataset's message. -/
def goosePdu (s : State) (d : Nat) (x : Goose) : List Byte :=
  let str := fun sub => s.cfgBytes 0x2703 sub d
  let data := x.members.flatMap fun m => ber 0x83 (berBool m.1) ++ ber 0x84 (be 1 3 ++ be 2 m.2)
  ber 0x61 (ber 0x80 (str 4) ++ ber 0x81 (berNat (2 * x.interval)) ++ ber 0x82 (str 5) ++ ber 0x83 (str 6) ++
    ber 0x84 (gooseTime s x.changedAt) ++ ber 0x85 (berNat x.stNum) ++ ber 0x86 (berNat x.sqNum) ++
    ber 0x87 (berBool (s.cfgB 0x2703 0x0B d)) ++ ber 0x88 (berNat (s.cfg 0x2703 0x07 d)) ++ ber 0x89 (berBool false) ++
    ber 0x8A (berNat 64) ++ ber 0xAB data)

def State.gooseOf (s : State) (d : Nat) : Goose := tabGet .reset s.alarm.goose d

/-- Put a dataset's message on the ports of a mask. -/
def putGooseFrame (mask cls : Nat) (dst frame : List Byte) (s : State) : State :=
  (sendMask mask cls 0 0 dst 0x88B8 frame s).bump 0x2720 0x08

/-- Send a dataset's message on the ports of a mask; a Wheel sends none and holds it (R370, R676). -/
def sendGoose (mask cls d : Nat) (s : State) : State :=
  let x := s.gooseOf d
  let pdu := goosePdu s d x
  let frame := be 2 (s.cfg 0x2703 0x02 d) ++ be 2 (pdu.length + 8) ++ be 4 0 ++ pdu
  let dst := s.cfgBytes 0x2703 0x03 d
  let n := x.stNum * 2 ^ 32 + x.sqNum
  if roleNow s = 2 then holdTx ⟨srcGoose d, n, s.now, mask, dst, frame, cls, 0⟩ s
  else sentMark (srcGoose d) n (putGooseFrame mask cls dst frame s)

/-- Keep a dataset's numbers in 0x2712. -/
def putGoose (d : Nat) (x : Goose) (s : State) : State :=
  ((s.onAlarm fun a => { a with goose := putKey d x a.goose }).setRow 0x2712 0x01 d x.stNum).setRow 0x2712 0x02 d x.sqNum

/-- Increment, wrapping from 2^32 − 1 to 1 (R368). -/
def wrapOne (n : Nat) : Nat := if n ≥ 2 ^ 32 - 1 then 1 else n + 1

/-- Give a dataset new member values: stNum advances, sqNum returns to 0 and the message is sent at once (R368). -/
def gooseChange (mask cls d : Nat) (members : List (Bool × Nat)) (s : State) : State :=
  let x := s.gooseOf d
  if x.members = members then s
  else
    let iv := s.cfg 0x2703 0x08 d
    let st := if x.members.isEmpty then x.stNum else wrapOne x.stNum
    sendGoose mask cls d (putGoose d ⟨st, 0, members, s.now + ms iv, iv, s.t96⟩ s)

/-- A dataset in use: its gocbRef is set. -/
def gooseUsed (s : State) (d : Nat) : Bool := !(s.cfgBytes 0x2703 0x04 d).isEmpty

/-- Quality of a bound member (R367). -/
def memberOf (s : State) (d k : Nat) : Bool × Nat :=
  match (ruleRows s).find? fun r => s.cfg 0x2701 0x0A r == d && s.cfg 0x2701 0x0B r == k with
  | none => (false, 0x4000)
  | some r =>
    let x := s.alarmOf r
    (x.state == 1 || x.state == 2, if x.degraded ≠ 0 then 0xC080 else if x.state = 1 then 0xC000 else 0)

/-- Bring the rule engine's datasets up to date after an evaluation (R367, R368). -/
def updateGoose (s : State) : State :=
  (List.range 16).foldl (fun s d =>
    if gooseUsed s d && s.cfg 0x2703 0x01 d == 0 && s.running then
      gooseChange (s.cfg 0x2703 0x0A d) 1 d ((List.range 32).map (memberOf s d)) s
    else s) s

/-- GOOSE_RETRANSMIT (R368, R369). -/
def gooseAgain (d : Nat) (s : State) : State :=
  let x := s.gooseOf d
  if x.members.isEmpty || s.now < x.dueAt || !(s.running || s.dev == stSentinel || (s.cfg 0x2703 0x01 d == 1 && s.gdieOn)) then s
  else
    let shep := s.cfg 0x2703 0x01 d == 1
    let iv := Nat.min (2 * x.interval) (s.cfg 0x2703 0x09 d)
    let s := putGoose d { x with sqNum := wrapOne x.sqNum, interval := iv, dueAt := s.now + ms iv } s
    sendGoose (if s.running then s.cfg 0x2703 0x0A d else s.cfg 0x2703 0x0A d &&& 0x30) (if shep then 2 else 1) d s

def execGooseRetransmit (t dataset : Nat) (s : State) : Host.Outcome State Fault Refusal := complete t (gooseAgain dataset) s

/-- At the entry to SENTINEL: every rule-engine dataset once more, members FALSE and invalid, then at the maximum interval (R369). -/
def gooseSentinel (s : State) : State :=
  (List.range 16).foldl (fun s d =>
    if gooseUsed s d && s.cfg 0x2703 0x01 d == 0 && !(s.gooseOf d).members.isEmpty then
      let x := s.gooseOf d
      let iv := s.cfg 0x2703 0x09 d
      sendGoose 0x30 1 d (putGoose d ⟨wrapOne x.stNum, 0, (List.range 32).map fun _ => (false, 0x4000), s.now + ms iv, iv, s.t96⟩ s)
    else s) s

end Sys2Proof.Machine
end

