-- ==== Sys2Proof/Machine/FourState.lean ====
section
/-! DEFINITION. The four-state rule for functions with a shut-down (R606, R607). -/

namespace Sys2Proof.Machine
open Sys2Proof

/-- Function numbers of the pending flags: capture 0, feeder 1 + f, local stream 8 + l, job 0x1000 + j, partner stream 0x10000 + h. -/
def fnCapture : Nat := 0
def fnFeeder (f : Nat) : Nat := 1 + f
def fnLocal (l : Nat) : Nat := 8 + l
def fnJob (j : Nat) : Nat := 0x1000 + j
def fnStream (h : Nat) : Nat := 0x10000 + h

/-- The pending flags of a function: ENABLE_PENDING, DISABLE_PENDING. -/
def State.fourFlag (s : State) (fn : Nat) : Bool × Bool :=
  let n := tabGet 0 s.power.fourFlags fn
  (bit n 0, bit n 1)
/-- Set the pending flags of a function. -/
def State.setFour (s : State) (fn : Nat) (ep dp : Bool) : State :=
  let n := b2n ep + 2 * b2n dp
  s.onPower fun p => { p with fourFlags := if n = 0 then delKey fn p.fourFlags else putKey fn n p.fourFlags }

/-- An enable written 1 or 0 in a state: 0 OFF, 1 STARTING, 2 ON, 3 STOPPING; the new state (R606). -/
def fourWrite (fn st : Nat) (on : Bool) (s : State) : State × Nat :=
  match st with
  | 0 => (s, if on then 1 else 0)
  | 1 => (s.setFour fn false (!on), 1)
  | 2 => (s, if on then 2 else 3)
  | _ => (s.setFour fn on false, 3)

/-- The work of STARTING or STOPPING has ended (R606). -/
def fourEnd (fn st : Nat) (s : State) : State × Nat :=
  let (ep, dp) := s.fourFlag fn
  match st with
  | 1 => (s.setFour fn false false, if dp then 3 else 2)
  | 3 => (s.setFour fn false false, if ep then 1 else 0)
  | _ => (s, st)

/-- The device state has stopped a function: OFF at once, both flags clear (R607). -/
def fourStop (fn : Nat) (s : State) : State := s.setFour fn false false

end Sys2Proof.Machine
end

