-- ==== Sys2Proof/Machine/HeadBase.lean ====
section
/-! DEFINITION. Headwater's channels: delays, sample instants, primary units, validity (R400–R413). -/

namespace Sys2Proof.Machine
open Sys2Proof

def State.chan (s : State) (c : Nat) : ChannelSt := tabGet .reset s.head.channels c
def State.setChan (s : State) (c : Nat) (x : ChannelSt) : State := s.onHead fun h => { h with channels := putKey c x h.channels }
def State.feeder (s : State) (f : Nat) : FeederSt := tabGet .reset s.head.feeders f
def State.setFeeder (s : State) (f : Nat) (x : FeederSt) : State := s.onHead fun h => { h with feeders := putKey f x h.feeders }
/-- Feeder state, 0x2912:01. -/
def feederState (s : State) (f : Nat) : Nat := s.ro 0x2912 0x01 f
/-- A feeder is fed by sampled values (R431). -/
def svFed (s : State) (f : Nat) : Bool := s.cfg 0x2901 0x02 f == 1
/-- Headwater can run: its enable is set and the device state runs it (R417, R436). -/
def headRuns (s : State) : Bool := s.gdieOn && s.cfgB 0x2900 0x01

/-- The forward delay in 1/16 ps from a return delay in 1/8 ps (R403). -/
def forwardDelay (s : State) (f drt : Nat) : Int := drt + 8 * (s.cfgInt 0x2901 0x08 f - s.cfgInt 0x2901 0x07 f)

/-- The active bank's coefficients, F32 patterns (R414). -/
def bankBytes (s : State) (b : Nat) : List Byte := s.rwBytes 0x2906 (b + 1)
/-- Number of coefficients of a bank. -/
def bankLength (s : State) (b : Nat) : Nat := (bankBytes s b).length / 4
/-- D₈₀ and D₁₂.₈ in ps (R410). -/
def delay80 : Nat := 145239258
def delay128 (s : State) : Nat := delay80 + (bankLength s (s.ro 0x2921 0x01) - 1) * 1562500

/-- The T96 instant of a sample whose last modulator bit is clocked now, at a chain delay in ps (R408). -/
def sampleInstant (s : State) (c d : Nat) : Nat :=
  let ps16 := (s.chan c).forward - 16 * ((d : Int) + s.cfgInt 0x2902 0x03 c)
  ((s.t96 : Int) + (ps16 * 2 ^ 48).fdiv 16000000000000).toNat

/-- A chain output in primary units (R412). -/
def primary (s : State) (c : Nat) (q : Q) : Q := Q.sub (Q.mul q (s.cfgF 0x2902 0x01 c)) (s.cfgF 0x2902 0x02 c)
/-- A contributing 320 kS/s value lies above the clip level (R412). -/
def overrange (s : State) (c : Nat) (x : Chain) : Bool := x.peak * 10000 > s.cfg 0x2902 0x04 c * 2 ^ 31
/-- The chain output as a fraction of full scale. -/
def chainValue (x : Chain) : Q := Q.make x.q (2 ^ 31)

/-- A sample that leaves the chain now is valid but for overrange, its inputs reaching back twice its group delay (R413); none is on a channel
that failed self-test item 6 (R620). -/
def sampleGood (s : State) (c d : Nat) : Bool :=
  let x := s.chan c
  let f := c / 6
  feederState s f == 2 && !svFed s f && !bit (s.ro 0x2F03 0x02 6) c && !x.modFault && !x.delayFault &&
  (x.badUntil = 0 || x.badUntil + 2 * d ≤ s.now) && (s.feeder f).onAt + ms 4 ≤ s.now

end Sys2Proof.Machine
end

