-- ==== Sys2Proof/Machine/Rings.lean ====
section
/-! DEFINITION. The DMA rings: room, records, archive descriptors, exports (R566–R568). -/

namespace Sys2Proof.Machine
open Sys2Proof

/-- Bytes in a ring not yet read by the host. -/
def Ring.used (r : Ring) : Nat := (r.wr + 2 * r.size - r.rd) % (2 * r.size)
/-- Free bytes of a ring. -/
def Ring.free (r : Ring) : Nat := r.size - r.used

/-- DMA is possible to a ring (R567, R571). -/
def dmaReady (s : State) (r : Ring) : Bool := s.running && s.host.linkUp && s.host.busMaster && r.enabled

/-- Write a whole record into a ring. -/
def Ring.push (r : Ring) (n : Nat) : Ring := { r with wr := (r.wr + n) % (2 * r.size) }

/-! ### Descriptors -/

/-- Post the descriptor of the batch not yet described (R567); INT_STATUS[9] is set with it. -/
def postDescriptor (s : State) : State :=
  if s.host.batchRecords = 0 then s
  else
    let h := s.host
    let s := s.onHost fun x => { x with batchBytes := 0, batchRecords := 0 }
    (sluicePost 7 [0x8 * 2 ^ 60 + h.batchRecords % 2 ^ 32, h.batchStart, h.batchBytes * 2 ^ 32] s).interrupt 9

/-- ARCHIVE_DESCRIPTOR_POST (R567): the batch is full, or its period has passed. -/
def descriptorDue (s : State) : State :=
  if s.running && s.host.batchRecords != 0 &&
      (s.host.batchBytes ≥ s.cfg 0x2D01 0x01 || s.host.batchAt + us (s.cfg 0x2D01 0x02) ≤ s.now) then postDescriptor s
  else s

def execArchiveDescriptorPost (t : Nat) (s : State) : Host.Outcome State Fault Refusal := complete t descriptorDue s

/-- Write a record into the archive ring, which has room for it. -/
def archivePush (l : List Byte) (s : State) : State :=
  let r := s.host.archive
  let s := s.emit (.dma 0 r.wr l)
  let s := s.onHost fun h => { h with
    archive := r.push l.length, batchBytes := h.batchBytes + l.length, batchRecords := h.batchRecords + 1
    batchStart := if h.batchRecords = 0 then r.wr else h.batchStart, batchAt := if h.batchRecords = 0 then s.now else h.batchAt }
  let s := (s.bump 0x2840 0x05).addTo 0x2840 0x06 l.length
  if s.host.batchBytes ≥ s.cfg 0x2D01 0x01 then postDescriptor s else s

/-! ### Exports (R568) -/

/-- Write the records of an export for which there is room; those left wait. -/
def exportRun : List (List Byte) → State → State
  | [], s => s.onHost fun h => { h with exportLeft := [] }
  | l :: rest, s =>
    let r := s.host.exportRing
    if dmaReady s r && l.length ≤ r.free then
      exportRun rest ((s.emit (.dma 1 r.wr l)).onHost fun h => { h with exportRing := r.push l.length, exportBytes := h.exportBytes + l.length })
    else s.onHost fun h => { h with exportLeft := l :: rest }

/-- Let a waiting export go on; the time it waited is counted in ns. -/
def exportGoOn (s : State) : State :=
  if s.host.exporting.isNone then s
  else
    let n := s.host.exportLeft.length
    let s := exportRun s.host.exportLeft s
    let moved := s.host.exportLeft.length < n
    match s.host.stallSince with
    | some t =>
      if moved then (s.addTo 0x2D10 0x07 ((s.now - t) / 1000)).onHost fun h =>
        { h with stallSince := if h.exportLeft.isEmpty then none else some s.now }
      else s
    | none => if s.host.exportLeft.isEmpty then s else s.onHost fun h => { h with stallSince := some s.now }

/-- Begin an export of records: source 0 capture record, 1 frozen ring, and its store row. -/
def exportBegin (source row : Nat) (l : List (List Byte)) (s : State) : State :=
  exportGoOn (s.onHost fun h => { h with exporting := some (source, row), exportLeft := l, exportBytes := 0, exportStart := h.exportRing.wr,
                                         stallSince := none })

/-- The export's DMA has completed: its descriptor is posted and INT_STATUS[10] set. -/
def exportDescriptor (source count : Nat) (s : State) : State :=
  let h := s.host
  (sluicePost 7 [0x8 * 2 ^ 60 + 2 ^ 56 + source * 2 ^ 48 + count % 2 ^ 32, h.exportStart, h.exportBytes * 2 ^ 32] s).interrupt 10

/-- End the export in progress. -/
def exportEnd (s : State) : State := s.onHost fun h => { h with exporting := none, exportLeft := [], stallSince := none }

/-- A DMA record can be started toward the host: PCIe is up (R459). -/
def pcieOn (s : State) : Bool := s.running && s.host.linkUp

end Sys2Proof.Machine
end

