-- ==== Sys2Proof/Machine/Capture.lean ====
section
/-! DEFINITION. Point-on-wave capture: rows, triggers, record states, the store, record format (R439–R460). -/

namespace Sys2Proof.Machine
open Sys2Proof

/-! ### States and notices -/

/-- The record states of 0x2A01:02. -/
def recArmed : Nat := 1
def recPost : Nat := 2
def recRearm : Nat := 3
def recBlocked : Nat := 4

def captureState (s : State) : Nat := s.ro 0x2A01 0x01
def recordState (s : State) : Nat := s.ro 0x2A01 0x02

/-- Capture notice (R458). -/
def captureNotice (kind row flags cause number t0 rows : Nat) (s : State) : State :=
  sluicePost 3 [0x4 * 2 ^ 60 + kind * 2 ^ 56 + row * 2 ^ 48 + flags % 256 * 2 ^ 40 + cause * 2 ^ 32 + number,
                t0 / 2 ^ 32 % 2 ^ 64, t0 % 2 ^ 32 * 2 ^ 32 + rows] s

/-- Change the capture state, with its event. -/
def setCaptureState (new : Nat) (s : State) : State :=
  let old := captureState s
  if old = new then s else raise 0x2A01 (le 1 old ++ le 1 new) (s.setRo 0x2A01 0x01 new)

/-! ### Records (R455–R457) -/

def CapRecord.rows (r : CapRecord) : List CapRow := r.pre ++ r.post
/-- t₀ of the starting trigger. -/
def CapRecord.t0 (r : CapRecord) : Nat := match r.trigs with | x :: _ => x.t0 | [] => 0
/-- Size of a record of n rows (R457). -/
def recordSize (n : Nat) : Nat := 768 + 288 * ((n + 7999) / 8000) + 100 * n

/-- Overrange rows of a channel, saturating. -/
def overRows (r : CapRecord) (c : Nat) : Nat := Nat.min 65535 ((r.rows.filter fun x => bit x.exceeds c).length)

/-- Every 8,000th row. -/
def mapRows : Nat → List CapRow → List CapRow
  | 0, _ => []
  | fuel + 1, l => match l with | [] => [] | x :: _ => x :: mapRows fuel (l.drop 8000)

/-- A trigger-list entry (R456). -/
def Trig.bytes (x : Trig) : List Byte :=
  le 12 x.t0 ++ le 2 x.source ++ le 1 x.kind ++ le 1 x.disp ++ le 4 x.ref ++ le 1 x.origin ++ List.replicate 11 0

/-- The record as it is read and exported (R455). -/
def CapRecord.bytes (r : CapRecord) : List Byte :=
  let first := match r.rows with | x :: _ => x.at_.headD 0 | [] => 0
  let start := r.trigs.headD ⟨0, 0, 0, 0, 0xFF, 0⟩
  let n := r.rows.length
  let map := mapRows (n / 8000 + 1) r.rows
  fit 256 (le 2 1 ++ le 2 256 ++ le 4 r.number ++ le 4 r.pre.length ++ le 4 r.post.length ++ le 12 start.t0 ++ le 12 first ++ le 12 r.actAt ++
    le 2 start.source ++ le 1 start.kind ++ le 1 start.origin ++ le 4 r.flags ++ le 1 r.cause ++ le 1 r.trigs.length ++ le 2 r.unlisted ++
    (List.range 24).flatMap (fun c => le 2 (overRows r c)) ++ le 4 map.length) ++
  fit 512 (r.trigs.flatMap Trig.bytes) ++
  map.flatMap (fun x => (List.range 24).flatMap fun c => le 12 (if bit x.off c then 0 else x.at_.getD c 0)) ++
  r.rows.flatMap (fun x => (List.range 24).flatMap (fun c => le 4 (x.words.getD c nanF32)) ++ le 4 x.din)

/-! ### Store (R451, R454) -/

/-- Bytes free in the store: those of closed records and of the reservation are taken. -/
def storeFree (s : State) : Nat :=
  536870912 - (s.capture.store.foldl (fun n e => n + recordSize e.2.rows.length) 0 + s.capture.reserved)
def showFree (s : State) : State := s.setRo 0x2A01 0x05 (storeFree s)

/-- Settings of the active set: pre, post, extension, maximum, policy. -/
def captureSettings (s : State) : Nat × Nat × Bool × Nat × Nat :=
  (s.cfg 0x2A00 0x02, s.cfg 0x2A00 0x03, s.cfgB 0x2A00 0x04, s.cfg 0x2A00 0x05, s.cfg 0x2A00 0x06)

/-- Rows of the largest record to reserve for (R451). -/
def reserveRows (c : Nat × Nat × Bool × Nat × Nat) : Nat := c.1 + (if c.2.2.1 then c.2.2.2.1 else c.2.1)

/-- Free a store row: notice of kind 4 (R458, R459). -/
def releaseRow (r : Nat) (s : State) : State :=
  match lookup r s.capture.store with
  | none => s
  | some x =>
    let s := s.onCapture fun c => { c with store := delKey r c.store, exported := c.exported.filter fun k => k != r }
    let s := ((s.clearRow 0x2A20 2 r).clearRow 0x2A20 3 r).clearRow 0x2A20 4 r
    showFree (captureNotice 4 r x.flags x.cause x.number x.t0 x.rows.length s)

/-- The first empty store row. -/
def emptyRow (s : State) : Option Nat := (List.range 16).find? fun r => s.ro 0x2A20 0x04 r == 0

/-- Release exported records, oldest first, until n bytes and a row are free. -/
def makeRoom (n : Nat) : List Nat → State → State
  | [], s => s
  | r :: l, s => if n ≤ storeFree s && (emptyRow s).isSome then s else makeRoom n l (releaseRow r s)

/-- Rows of exported records, oldest record first; one being exported again is none of them. -/
def oldestExported (s : State) : List Nat :=
  sortBy (fun a b => decide (s.ro 0x2A20 0x02 a ≤ s.ro 0x2A20 0x02 b)) (s.capture.exported.filter fun r => s.ro 0x2A20 0x04 r == 4)

/-- Reserve space for the next record: its row and bytes, or none (R451, R454). -/
def reserve (s : State) : Option Nat × State :=
  let c := captureSettings s
  if s.capture.sram then ((if s.capture.store.isEmpty then some 0 else none), s)
  else
    let n := recordSize (reserveRows c)
    let fits := fun (s : State) => if n ≤ storeFree s then emptyRow s else none
    match fits s with
    | some r => (some r, s.onCapture fun x => { x with reserved := n })
    | none =>
      let s := if c.2.2.2.2 = 1 then makeRoom n (oldestExported s) s else s
      match fits s with
      | some r => (some r, s.onCapture fun x => { x with reserved := n })
      | none => (none, s)

/-- Enter ARMED with an empty buffer, or BLOCKED when space cannot be reserved (R446, R447, R451). -/
def arm (s : State) : State :=
  let (row, s) := reserve s
  let c := captureSettings s
  match row with
  | some r =>
    showFree (((s.onCapture fun x => { x with buffer := [], record := none, reservedRow := r, settings := c }).setRo 0x2A01 0x02 recArmed).setRo
      0x2A01 0x03 0)
  | none =>
    let s := (s.onCapture fun x => { x with buffer := [] }).setRo 0x2A01 0x02 recBlocked
    raise 0x2A0B (le 4 (recordSize (reserveRows c)) ++ le 1 s.capture.store.length) s

/-- BLOCKED capture rearms when space has been freed. -/
def unblock (s : State) : State :=
  if captureState s = 2 ∧ recordState s = recBlocked ∧ (reserve s).1.isSome = true then arm s else s

/-! ### Triggers (R448–R450) -/

/-- Suppress a trigger (R450). -/
def suppress (x : Trig) (cause : Nat) (s : State) : State :=
  let s := captureNotice 1 0xFF 0 cause 0 x.t0 0 (s.bump 0x2A40 0x02)
  raiseUpTo 16 0x2A03 0 (le 12 x.t0 ++ le 1 cause ++ le 2 x.source) s

/-- The post-trigger fill is complete, with its close cause: every extension has found its k₀ and the rows have come (R446, R454). -/
def CapRecord.complete (r : CapRecord) (sram : Bool) : Option Nat :=
  if sram && r.pre.length + r.post.length ≥ 167772 then some 4
  else if r.extending.isEmpty && r.post.length ≥ r.target then some (if bit r.flags 7 then 2 else 0)
  else if r.post.length ≥ r.cap && !r.extending.isEmpty then some 2
  else none

/-- End the record being made: it closes and REARM begins; its notice follows (R446). -/
def endRecord (cause : Nat) (s : State) : State :=
  match s.capture.record with
  | none => s
  | some r =>
    let short := r.pre.length < r.wantPre
    let cut := r.post.take (if cause = 0 then r.target else r.cap)
    let flags := setBit (setBit r.flags 0 short) 7 (bit r.flags 7 || cause == 2)
    let r := { r with post := cut, cause := cause, flags := flags }
    let s := if short then s.bump 0x2A40 0x03 else s
    let s := s.onCapture fun c => { c with record := none, closing := some r, reserved := 0, store := putKey r.row r c.store, buffer := [] }
    let s := (s.setRow 0x2A20 0x03 r.row (recordSize r.rows.length)).setRow 0x2A20 0x04 r.row 2
    showFree ((s.setRo 0x2A01 0x02 recRearm).setRo 0x2A01 0x03 0)

/-- End the record when its fill is complete. -/
def checkRecord (s : State) : State :=
  match s.capture.record with
  | none => s
  | some r => match r.complete s.capture.sram with | some c => endRecord c s | none => s

/-- Resolve the extensions whose k₀ has come: the end moves out to k₀′ plus the post-trigger rows, capped (R449). -/
def CapRecord.extend (r : CapRecord) (postRows : Nat) : CapRecord :=
  let at_ := fun (t : Nat) => (r.post.takeWhile fun x => x.at_.headD 0 < t).length
  let come := r.extending.filter fun t => at_ t < r.post.length
  let want := come.foldl (fun n t => Nat.max n (at_ t + postRows)) r.target
  { r with extending := r.extending.filter fun t => at_ t ≥ r.post.length, target := Nat.min want r.cap,
           flags := setBit r.flags 7 (bit r.flags 7 || want > r.cap) }

/-- List a trigger in the record; the 17th and later only count. -/
def CapRecord.list (r : CapRecord) (x : Trig) : CapRecord :=
  if r.trigs.length < 16 then { r with trigs := r.trigs ++ [x] } else { r with unlisted := (r.unlisted + 1) % 65536 }

/-- Start a record (R448): the rows held before t₀ are pre-trigger rows, at most the setting; the others post-trigger rows. -/
def startRecord (x : Trig) (late : Bool) (s : State) : State :=
  let (pre, post, ext, max, _) := s.capture.settings
  let before := s.capture.buffer.takeWhile fun r => r.at_.headD 0 < x.t0
  let rest := s.capture.buffer.drop before.length
  let n := s.ro 0x2A01 0x04
  let flags := 8 * b2n s.capture.sram + 16 * b2n (!s.time.isSet) + 32 * b2n (late || s.ro 0x2A11 0x01 == 3) +
    64 * b2n ((List.range 4).any (svFed s))
  let r : CapRecord :=
    { number := n, pre := before.drop (before.length - pre), post := rest, wantPre := pre, target := post
      cap := if ext then max else post, extending := [], trigs := [{ x with disp := 0 }], unlisted := 0
      actAt := if x.source = 0xFFFE then s.t96 else 0, flags := flags, cause := 0, row := s.capture.reservedRow }
  let s := ((s.onCapture fun c => { c with record := some r, buffer := [] }).setRo 0x2A01 0x02 recPost).setRo 0x2A01 0x04 ((n + 1) % 2 ^ 32)
  checkRecord (((s.setRow 0x2A20 0x02 r.row n).setRow 0x2A20 0x04 r.row 1).setRo 0x2A01 0x03 r.pre.length)

/-- Two T96 instants lie within a window in µs. -/
def withinUs (a b us_ : Nat) : Bool := (Nat.max a b - Nat.min a b) * 1000000 ≤ us_ * 2 ^ 48

/-- Take a trigger into capture (R449). -/
def takeTrigger (x : Trig) (late : Bool) (s : State) : State :=
  if captureState s ≠ 2 then (if x.source ≥ 0xFFFE then suppress x 2 s else s)
  else if recordState s = recArmed then startRecord x late s
  else if recordState s = recPost then
    match s.capture.record with
    | none => s
    | some r =>
      let r := { r with flags := setBit r.flags 5 (bit r.flags 5 || late) }
      let put := fun (r : CapRecord) => checkRecord (s.onCapture fun c => { c with record := some r })
      if x.source = 0xFFFE ∧ withinUs x.t0 r.t0 (s.cfg 0x2A10 0x05) = true then put (r.list { x with disp := 2 })
      else if s.capture.settings.2.2.1 then
        let r := { r.list { x with disp := 1 } with extending := r.extending ++ [x.t0], flags := setBit r.flags 2 true }
        (put (r.extend s.capture.settings.2.1)).bump 0x2A40 0x05
      else put (r.list { x with disp := 3 })
  else suppress x (if recordState s = recRearm then 0 else 1) s

/-- Queue a trigger for the Leash, or count it as skipped when the Leash is not READY (R445, R466). -/
def leashForward (x : Trig) (s : State) : State :=
  if s.ro 0x2A11 0x01 = 2 then s.onLeash fun l => { l with sends := l.sends ++ [x] } else s.bump 0x2A40 0x0C

/-- A trigger of row n fires (R442, R445). -/
def rowFires (n t0 ref : Nat) (s : State) : State :=
  let x : Trig := ⟨t0, n, s.cfg 0x2A02 0x01 n, ref, 0xFF, 0⟩
  let s := takeTrigger x false s
  if s.cfgB 0x2A02 0x07 n then leashForward x s else s

/-- Trigger rows of a kind and operands A and B that are evaluated: the function is ON. -/
def triggerRows (s : State) (p : Nat → Nat → Nat → Bool) : List Nat :=
  if captureState s ≠ 2 then [] else (rowsOf s.active 0x2A02 0x01).filter fun n => p (s.cfg 0x2A02 0x01 n) (s.cfg 0x2A02 0x02 n) (s.cfg 0x2A02 0x03 n)

/-- Evaluate a level trigger at a valid value (R443): whether it fires. -/
def levelStep (n : Nat) (v : Q) (s : State) : State × Bool :=
  let l := s.cfgF 0x2A02 0x05 n
  let h := s.cfgF 0x2A02 0x06 n
  let e := s.cfg 0x2A02 0x04 n
  let a := tabGet ⟨false, false⟩ s.capture.arms n
  let up := e != 1 && a.rising && Q.le l v
  let down := e != 0 && a.falling && Q.le v l
  let b : Arm := ⟨(a.rising || Q.lt v (Q.sub l h)) && !up, (a.falling || Q.lt (Q.add l h) v) && !down⟩
  (s.onCapture fun c => { c with arms := putKey n b c.arms }, up || down)

/-- Triggers of kinds 2–4 on a quantity with an instant; a missing value is skipped. -/
def quantityTriggers (kind a b : Nat) (v : Option Q) (t0 : Nat) (s : State) : State :=
  match v with
  | none => s
  | some q =>
    (triggerRows s fun k x y => k == kind && x == a && (kind != 2 || y == b)).foldl (fun s n =>
      let (s, fires) := levelStep n q s
      if fires then rowFires n t0 0 s else s) s

/-- Triggers of kind 7 at a rule's transition; never in SENTINEL (R442, R469). -/
def alarmTrigger (rule new inst_ t0 : Nat) (s : State) : State :=
  if !s.running then s
  else (triggerRows s fun k a b => k == 7 && a == rule && (new == 2 || (b == 1 && new == 1))).foldl (fun s n => rowFires n t0 inst_ s) s

/-- Triggers of kind 6 at a stamp (R442). -/
def stampTriggers (input t0 : Nat) (rising : Bool) (s : State) : State :=
  (triggerRows s fun k a _ => k == 6 && a == input).foldl (fun s n =>
    let e := s.cfg 0x2A02 0x04 n
    if e == 2 || (e == 0) == rising then rowFires n t0 0 s else s) s

/-! ### Rows (R439–R441, R446) -/

/-- Bits of the channels a predicate holds for. -/
def channelBits (p : Nat → Bool) : Nat := (List.range 24).foldl (fun n c => if p c then n + 2 ^ c else n) 0

/-- The row that leaves the chain now. -/
def makeRow (s : State) (raw : List Chain) (din : Nat) : CapRow :=
  let get := fun (c : Nat) => raw.getD c ⟨0, 0, 0⟩
  let good := fun (c : Nat) => sampleGood s c delay80
  -- scaling, clip level and sensor delay of before a swap hold for instants before it (R435)
  let set := fun (c : Nat) => { s with active := pubSet s (sampleInstant s c delay80) }
  let exceeds := fun (c : Nat) => overrange (set c) c (get c)
  { at_ := (List.range 24).map fun c => sampleInstant (set c) c delay80, din := din
    words := (List.range 24).map fun c => if good c then toF32 (primary (set c) c (chainValue (get c))) else nanF32
    exceeds := channelBits fun c => good c && exceeds c, valid := channelBits fun c => good c && !exceeds c
    off := channelBits fun c => feederState s (c / 6) == 0 }

/-- Write a row under the record state (R446, R448). -/
def storeRow (r : CapRow) (s : State) : State :=
  if recordState s = recArmed then
    let l := s.capture.buffer ++ [r]
    let l := l.drop (l.length - 163840)
    (s.onCapture fun c => { c with buffer := l }).setRo 0x2A01 0x03 l.length
  else if recordState s = recPost then
    match s.capture.record with
    | none => s
    | some x =>
      let x := if x.post.isEmpty && r.at_.headD 0 < x.t0 then
          let l := x.pre ++ [r]
          { x with pre := l.drop (l.length - x.wantPre) }
        else { x with post := x.post ++ [r] }
      checkRecord ((s.onCapture fun c => { c with record := some (x.extend c.settings.2.1) }).setRo 0x2A01 0x03 x.pre.length)
  else s

/-- Kind-1 triggers of a row, with their instants (R443, R444). -/
def sampleTriggers (r : CapRow) (s : State) : State × List (Nat × Nat) :=
  (triggerRows s fun k _ _ => k == 1).foldl (fun (a : State × List (Nat × Nat)) n =>
    let s := a.1
    let c := s.cfg 0x2A02 0x02 n
    if c ≥ 24 || !bit r.valid c then a
    else
      let v := f32 (r.words.getD c 0)
      let (s, fires) := levelStep n v s
      if !fires then (s, a.2)
      else
        let tn := r.at_.getD c 0
        let t0 := match s.capture.prev with
          | some p =>
            if bit p.valid c then
              let w := f32 (p.words.getD c 0)
              let tp := p.at_.getD c 0
              let frac := dbl (Q.div (dbl (Q.sub (s.cfgF 0x2A02 0x05 n) w)) (dbl (Q.sub v w)))
              tp + (Q.floor (dbl (Q.mul frac (Q.ofNat (tn - tp))))).toNat
            else tn
          | none => tn
        (s, a.2 ++ [(t0, n)])) (s, [])

/-- Kind-5 triggers of the level changes since the row before (R442, R443). -/
def dinTriggers (edges : List DinEdge) (s : State) : List (Nat × Nat) :=
  edges.flatMap fun e => (triggerRows s fun k a _ => k == 5 && a == e.input).filterMap fun n =>
    let x := s.cfg 0x2A02 0x04 n
    if x == 2 || (x == 0) == e.level then some (s.t96 - psToT96 e.ago, n) else none

/-- CAPTURE_ROW (R439, R446, R449): the row is stored, then its triggers are taken in increasing t₀, rows in increasing number. -/
def captureRow (raw : List Chain) (din : Nat) (edges : List DinEdge) (s : State) : State :=
  if captureState s ≠ 2 then s
  else
    let r := makeRow s raw din
    let s := storeRow r s
    let (s, l) := sampleTriggers r s
    let l := (l ++ dinTriggers edges s).foldl (fun acc x =>
      acc.filter (fun y => y.1 < x.1 || (y.1 == x.1 && y.2 ≤ x.2)) ++ [x] ++ acc.filter (fun y => !(y.1 < x.1 || (y.1 == x.1 && y.2 ≤ x.2)))) []
    let s := l.foldl (fun s x => rowFires x.2 x.1 0 s) s
    s.onCapture fun c => { c with prev := some r }

def execCaptureRow (t : Nat) (raw : List Chain) (din : Nat) (edges : List DinEdge) (s : State) : Host.Outcome State Fault Refusal :=
  complete t (captureRow raw din edges) s

/-! ### Enable and stop -/

/-- The function enters ON: every row disarmed, ARMED (R443, R446). -/
def captureOn (s : State) : State :=
  arm (setCaptureState 2 (s.onCapture fun c => { c with arms := [], prev := none }))

/-- Follow the state the four-state rule gives; STARTING has no work of its own, and STOPPING ends when its record has closed. -/
def captureMove (new : Nat) (s : State) : State :=
  let s := setCaptureState new s
  if new = 1 then
    let (s, n) := fourEnd fnCapture 1 s
    if n = 2 then captureOn s else setCaptureState n s
  else if new = 3 then
    let s := if recordState s = recPost then endRecord 3 s else s
    if s.capture.closing.isSome then s
    else
      let (s, n) := fourEnd fnCapture 3 s
      let s := (s.onCapture fun c => { c with buffer := [], reserved := 0 }).setRo 0x2A01 0x02 0
      let s := showFree (setCaptureState n s)
      if n = 1 then captureOn s else s
  else s

/-- The device state admits capture (R469). -/
def captureAdmitted (s : State) : Bool := s.running || s.dev == stSentinel

/-- CAPTURE_ENABLE (R446, R606, R607). -/
def captureEnable (on : Bool) (s : State) : State :=
  if !captureAdmitted s then s
  else
    let old := captureState s
    let (s, new) := fourWrite fnCapture old on s
    if new = old then s else captureMove new s

def execCaptureEnable (t : Nat) (who : Who) (on : Bool) (s : State) : Host.Outcome State Fault Refusal :=
  complete t (runWrite 0x2A00 0x01 noRow (.num (b2n on)) who (captureEnable on)) s

/-- The device state stops capture at once (R607). -/
def captureStop (s : State) : State :=
  let s := (fourStop fnCapture s).onCapture fun c => { c with buffer := [], record := none, closing := none, reserved := 0 }
  setCaptureState 0 ((s.setRo 0x2A01 0x02 0).setRo 0x2A01 0x03 0)

/-- 0x2A30:01 Trigger capture (R442, R445). -/
def triggerCommand (arg : Nat) (s : State) : State :=
  let x : Trig := ⟨s.t96, 0xFFFF, 0, 0, 0xFF, 0⟩
  let s := takeTrigger x false s
  if arg = 1 then leashForward x s else s

def execTriggerCapture (t : Nat) (who : Who) (arg : Nat) (s : State) : Host.Outcome State Fault Refusal :=
  complete t (runCommand 0x2A30 0x01 noRow (.num arg) who (ok (triggerCommand arg))) s

/-- RECORD_CLOSE (R446, R458): the notice, the event and the count of a record that has closed. -/
def recordClose (s : State) : State :=
  match s.capture.closing with
  | none => s
  | some r =>
    let n := r.rows.length
    let s := captureNotice 0 r.row r.flags r.cause r.number r.t0 n (s.onCapture fun c => { c with closing := none })
    let s := raise 0x2A02 (le 4 r.number ++ le 1 r.cause ++ le 1 r.flags ++ le 4 n) (s.bump 0x2A40 0x01)
    if captureState s = 3 then captureMove 3 s else s

def execRecordClose (t : Nat) (s : State) : Host.Outcome State Fault Refusal := complete t recordClose s

/-- CAPTURE_OVERFLOW (R453): the record ends at the last row stored. -/
def captureOverflow (s : State) : State :=
  match s.capture.record with
  | none => s
  | some r =>
    let s := s.onCapture fun c => { c with record := some { r with flags := setBit r.flags 1 true } }
    endRecord 1 (raise 0x2A04 (le 4 r.number ++ le 4 r.rows.length) (s.bump 0x2A40 0x04))

def execCaptureOverflow (t : Nat) (s : State) : Host.Outcome State Fault Refusal := complete t captureOverflow s

/-- REARM_COMPLETE (R446): back to ARMED, or to BLOCKED. -/
def rearmComplete (s : State) : State :=
  if captureState s = 2 ∧ recordState s = recRearm then arm (recordClose s) else s

def execRearmComplete (t : Nat) (s : State) : Host.Outcome State Fault Refusal := complete t rearmComplete s

/-! ### Export and release (R459) -/

/-- 0x2A30:02 Export record. -/
def exportRecord (r : Nat) (s : State) : State × Nat :=
  match lookup r s.capture.store with
  | none => (s, 0x06)
  | some x =>
    if s.host.exporting.isSome || !pcieOn s then (s, 0x06)
    else (exportBegin 0 r [x.bytes] (s.setRow 0x2A20 0x04 r 3), 0)

def execExportRecord (t : Nat) (who : Who) (row : Nat) (s : State) : Host.Outcome State Fault Refusal :=
  complete t (runCommand 0x2A30 0x02 row (.num 0) who (exportRecord row)) s

/-- A record counts as exported. -/
def markExported (r : Nat) (s : State) : State :=
  (s.setRow 0x2A20 0x04 r 4).onCapture fun c => { c with exported := c.exported.filter (fun k => k != r) ++ [r] }

/-- RECORD_EXPORT_COMPLETE (R459). -/
def recordExportDone (s : State) : State :=
  match s.host.exporting with
  | some (0, r) =>
    if !s.host.exportLeft.isEmpty then s
    else
      match lookup r s.capture.store with
      | none => exportEnd s
      | some x =>
        let s := markExported r (exportEnd (exportDescriptor 0 x.number s))
        let s := raise 0x2A06 (le 4 x.number) (captureNotice 2 r x.flags x.cause x.number x.t0 x.rows.length s)
        if s.cfgB 0x2A00 0x07 then unblock (releaseRow r s) else s
  | _ => s

def execRecordExportComplete (t : Nat) (s : State) : Host.Outcome State Fault Refusal := complete t recordExportDone s

/-- A record's export ends aborted (R568). -/
def recordExportAbort (s : State) : State :=
  match s.host.exporting with
  | some (0, r) =>
    let n := s.host.exportBytes
    let s := exportEnd s
    match lookup r s.capture.store with
    | none => s
    | some x =>
      let s := s.setRow 0x2A20 0x04 r (if s.capture.exported.contains r then 4 else 2)
      raise 0x2A07 (le 4 x.number ++ le 4 n) (captureNotice 3 r x.flags x.cause x.number x.t0 x.rows.length s)
  | _ => s

/-- 0x2A30:03 Release record; refused during its export, and for a row that holds no closed record. -/
def releaseRecord (r : Nat) (s : State) : State × Nat :=
  if s.ro 0x2A20 0x04 r = 3 ∨ lookup r s.capture.store = none then (s, 0x06) else (unblock (releaseRow r s), 0)

def execReleaseRecord (t : Nat) (who : Who) (row : Nat) (s : State) : Host.Outcome State Fault Refusal :=
  complete t (runCommand 0x2A30 0x03 row (.num 0) who (releaseRecord row)) s

/-- The C-die stops: every record in package memory is lost, the one being written abandoned, and capture restarts in SRAM (R460). -/
def captureLoseStore (cause : Nat) (s : State) : State :=
  let n := s.capture.store.length + b2n s.capture.record.isSome
  let s := s.onCapture fun c => { c with store := [], record := none, closing := none, reserved := 0, exported := [], sram := cause == 0 }
  let s := showFree (s.clearObjects [(0x2A20, 2), (0x2A20, 3), (0x2A20, 4)])
  let s := if n = 0 then s else raise 0x2A05 (le 1 n ++ le 1 cause) (s.addTo 0x2A40 0x0A n)
  if captureState s = 2 then arm s else s

/-- TRIG_IN_EDGE (R62, R63): an edge of the selected polarity is stamped, and taken as a kind-6 trigger, unless it is too close;
the TDC is off in SAFE_TALK and RECOVERY (R85). -/
def trigInEdge (input : Nat) (rising : Bool) (s : State) : State :=
  let sel := s.cfg 0x2008 0x01 input
  if !(s.gdieOn && input < 4 && (sel == 2 || (sel == 0 && rising) || (sel == 1 && !rising))) then s
  else
    let close : Bool := match lookup input s.time.trigLast with | some l => decide (s.now < l + 10000) | none => false
    if close then s.bump 0x2030 0x07
    else
      let s := s.onTime fun x => { x with trigLast := putKey input s.now x.trigLast }
      let s := (s.setRow 0x2009 0x01 input s.t96).bump 0x2009 0x02 input
      stampTriggers input s.t96 rising s

def execTrigInEdge (t input : Nat) (rising : Bool) (s : State) : Host.Outcome State Fault Refusal := complete t (trigInEdge input rising) s

/-- 0x2A30:05 Clear capture counters. -/
def clearCapture (s : State) : State := s.clearRange 0x2A40 0x2A40

def execClearCaptureCounters (t : Nat) (who : Who) (s : State) : Host.Outcome State Fault Refusal :=
  complete t (runPlain 0x2A30 0x05 who (ok clearCapture)) s

end Sys2Proof.Machine
end

