-- ==== Sys2Proof/Machine/WideRing.lean ====
section
/-! DEFINITION. The records of R388 and the wide-area pre-trigger ring (R391–R395). -/

namespace Sys2Proof.Machine
open Sys2Proof

/-- A stream is admitted: it is neither DISABLED nor REFUSED; a local stream, when it is ON (R147, R169). -/
def admitted (s : State) (h : Nat) : Bool := if h < firstLocal then streamState s h ≥ 2 else localOn s h
/-- Admitted streams of a group, in increasing handle. -/
def admittedIn (s : State) (g : Nat) : List Nat := (s.ingest.streams.map (·.1)).filter fun h => admitted s h && groupOf s h == g
/-- A group's rate in frames per second. -/
def groupRate (s : State) (g : Nat) : Q := Q.div Q.one (periodQ (s.cfgInt 0x2301 0x01 g))

/-! ### Records (R388) -/

/-- A record's header and payload, padded to a multiple of 8 bytes; little-endian (R7). -/
def record (kind group flags : Nat) (w1 t96 w4 : Nat) (payload : List Byte) : List Byte :=
  let n := 40 + payload.length
  let pad := (8 - n % 8) % 8
  le 8 (kind * 2 ^ 56 + group * 2 ^ 48 + flags * 2 ^ 40 + (n + pad)) ++ le 8 w1 ++ le 8 (t96 / 2 ^ 32 % 2 ^ 64) ++ le 8 (t96 % 2 ^ 32 * 2 ^ 32) ++
  le 8 w4 ++ payload ++ List.replicate pad 0

/-- A record of kind 0 or 1: one stream's samples of a slot. -/
def sampleRecord (kind group slot nominal base h : Nat) (cells : List Cell) : List Byte :=
  let missing := cells.any fun c => c.word == missingWord
  let replaced := cells.any fun c => bit c.quality 6
  record kind group (2 * b2n missing + b2n replaced) slot nominal (base * 2 ^ 32 + h * 2 ^ 16 + cells.length)
    ((cells.flatMap fun c => le 8 c.word) ++ (cells.flatMap fun c => le 1 c.quality))

/-- The streams whose committed cells a slot's records hold: admitted ones and those that arrived, in increasing handle. -/
def recordStreams (s : State) (g : Nat) (sl : Slot) : List Nat :=
  (s.ingest.streams.map (·.1)).filter fun h =>
    groupOf s h == g && (admitted s h || sl.arrived.contains h) && !(s.stream h).kinds.isEmpty

/-- The record of a stream's committed cells in slot i. -/
def slotRecord (s : State) (g i : Nat) (sl : Slot) (h : Nat) : List Byte :=
  let b := signalBase s h
  sampleRecord 0 g i sl.nominal b h ((List.range (s.stream h).kinds.length).map fun k => sl.present true (b + k))

/-! ### Effective length -/

/-- L_eff in ms (R391). -/
def effectiveLength (s : State) : Nat :=
  let load := (List.range 64).foldl (fun q g =>
    let n := (admittedIn s g).foldl (fun n h => n + capacityOf s h) 0
    if n = 0 then q else Q.add q (Q.mul (Q.ofNat n) (groupRate s g))) Q.zero
  let len := s.cfg 0x2820 0x02
  if Q.le load Q.zero then len else Nat.min len (Q.floor (Q.div (Q.ofNat 5242880000000) load)).toNat

/-- Slots a group holds: ⌊L_eff × r_g⌋. -/
def ringShare (s : State) (g : Nat) : Nat := (Q.floor (Q.mul (Q.make (s.ro 0x2821 0x01) 1000) (groupRate s g))).toNat

/-- Drop the oldest slots over a group's share. -/
def trimRing (s : State) : State :=
  let ring := s.pub.ring.map fun e => (e.1, e.2.drop (e.2.length - ringShare s e.1))
  let s := s.onPub fun p => { p with ring := ring }
  ring.foldl (fun s e => s.setRow 0x2821 0x05 e.1 e.2.length) s

/-- Recompute L_eff, unless the ring is frozen (R391). -/
def ringResize (s : State) : State :=
  if s.ro 0x2821 0x02 ≥ 2 then s
  else
    let n := effectiveLength s
    let old := s.ro 0x2821 0x01
    let s := trimRing (s.setRo 0x2821 0x01 n)
    if n < old then raise 0x280A (le 4 n) s else s

/-- The ring's state as its enable and the device state have it, FILLING from empty (R395, R397), L_eff computed again. -/
def ringClear (s : State) : State :=
  let s := s.onPub fun p => { p with ring := [], stopped := [], short := false }
  ringResize ((s.clearObjects [(0x2821, 5), (0x2822, 2)]).setRo 0x2821 0x02 (b2n (s.running && s.cfgB 0x2820 0x01)))

/-- The ring starts, from the configured length. -/
def ringStart (s : State) : State := ringClear (s.setRo 0x2821 0x01 (s.cfg 0x2820 0x02))

/-! ### Freeze -/

/-- Groups whose grid runs. -/
def runningGroups (s : State) : List Nat := (s.groups.filter fun e => e.2.rate != 0).map (·.1)

/-- The frozen sequence: a kind-4 record, then the slots in increasing group, oldest first, increasing handle (R395). -/
def frozenRecords (s : State) : List (List Byte) :=
  if s.ro 0x2821 0x02 < 3 then []
  else
    record 4 0 (4 * b2n s.pub.short) s.pub.freezeSeq (s.ro 0x2821 0x03) (s.ro 0x2821 0x01 * 2 ^ 32 + s.ro 0x2821 0x04 * 2 ^ 16) [] ::
      s.pub.ring.flatMap fun e => e.2.flatMap (·.records)

/-- When every group has stopped, the ring is FROZEN (R393). -/
def ringFreezeEnd (s : State) : State :=
  if s.ro 0x2821 0x02 = 2 ∧ (runningGroups s).all (s.pub.stopped.contains ·) = true then
    let short := (runningGroups s).any fun g => (tabGet [] s.pub.ring g).length < ringShare s g
    let s := (s.onPub fun p => { p with short := short }).setRo 0x2821 0x02 3
    let size := (frozenRecords s).foldl (fun n l => n + l.length) 0
    raise 0x2805 (le 12 (s.ro 0x2821 0x03) ++ le 2 (s.ro 0x2821 0x04) ++ le 1 (4 * b2n s.pub.short)) (s.setRo 0x2822 0x02 size)
  else s

/-- A freeze at t_f by a rule, or by command (0xFFFF): taken in FILLING, suppressed once one has been taken (R393, R394). -/
def ringFreeze (rule t96 : Nat) (s : State) : State :=
  let st := s.ro 0x2821 0x02
  if st = 0 then s
  else if st = 1 then
    let s := (((s.setRo 0x2821 0x02 2).setRo 0x2821 0x03 t96).setRo 0x2821 0x04 rule).bump 0x2840 0x0A
    ringFreezeEnd (s.onPub fun p => { p with freezeSeq := p.freezeSeq + 1, stopped := [] })
  else raise 0x2806 (le 12 s.t96 ++ le 2 rule) (s.bump 0x2840 0x0B)

/-- A rule whose alarm has entered COMMITTED freezes the ring when 0x2820:05 names it (R393). -/
def alarmFreeze (rule t96 : Nat) (s : State) : State :=
  if (List.range 64).any fun k => s.cfg 0x2820 0x05 k == rule then ringFreeze rule t96 s else s

/-- 0x2830:01 Freeze ring; with no ring there is nothing to freeze: state conflict. -/
def freezeCommand (s : State) : State × Nat :=
  if s.ro 0x2821 0x02 = 0 then (s, 0x06) else (ringFreeze 0xFFFF s.t96 s, 0)

def execFreezeRing (t : Nat) (who : Who) (s : State) : Host.Outcome State Fault Refusal :=
  complete t (runPlain 0x2830 0x01 who freezeCommand) s

/-- A slot enters the ring at its COMMIT (R392); a group stops after its first slot at or after t_f plus the post-freeze time. -/
def ringCommit (g i : Nat) (s : State) : State :=
  let st := s.ro 0x2821 0x02
  match (s.group g).slot? i with
  | none => s
  | some sl =>
    if !(st == 1 || (st == 2 && !s.pub.stopped.contains g)) then s
    else
      let recs := (recordStreams s g sl).map (slotRecord s g i sl)
      let l := tabGet [] s.pub.ring g ++ [⟨i, sl.nominal, recs⟩]
      let l := l.drop (l.length - ringShare s g)
      let s := (s.onPub fun p => { p with ring := putKey g l p.ring }).setRow 0x2821 0x05 g l.length
      let stop := s.ro 0x2821 0x03 + s.cfg 0x2820 0x03 * 2 ^ 48 / 1000
      if st = 2 ∧ stop ≤ sl.nominal then ringFreezeEnd (s.onPub fun p => { p with stopped := p.stopped ++ [g] }) else s

/-- Clear the ring and return it to FILLING (R395). -/
def ringRelease (how : Nat) (s : State) : State := raise 0x2809 (le 1 how) (ringClear s)

/-- 0x2830:02 Release ring. -/
def releaseCommand (s : State) : State × Nat := if s.ro 0x2821 0x02 = 4 then (s, 0x06) else (ringRelease 0 s, 0)

def execReleaseRing (t : Nat) (who : Who) (s : State) : Host.Outcome State Fault Refusal :=
  complete t (runPlain 0x2830 0x02 who releaseCommand) s

/-- 0x2830:03 Export ring: the ring is FROZEN, PCIe is up and no other export runs. -/
def exportCommand (s : State) : State × Nat :=
  if s.ro 0x2821 0x02 ≠ 3 ∨ s.host.exporting.isSome = true ∨ pcieOn s = false then (s, 0x06)
  else (exportBegin 1 0 (frozenRecords s) (s.setRo 0x2821 0x02 4), 0)

def execExportRing (t : Nat) (who : Who) (s : State) : Host.Outcome State Fault Refusal :=
  complete t (runPlain 0x2830 0x03 who exportCommand) s

/-- RING_EXPORT_COMPLETE (R395): every record of the frozen ring has been written. -/
def ringExportDone (s : State) : State :=
  if s.ro 0x2821 0x02 = 4 ∧ s.host.exporting = some (1, 0) ∧ s.host.exportLeft.isEmpty = true then
    let n := (frozenRecords s).length
    let s := (exportDescriptor 1 n s).bump 0x2840 0x0C
    let s := exportEnd (raise 0x2807 (le 8 s.host.exportBytes) (s.setRo 0x2821 0x02 3))
    if s.cfgB 0x2820 0x04 then ringRelease 1 s else s
  else s

def execRingExportComplete (t : Nat) (s : State) : Host.Outcome State Fault Refusal := complete t ringExportDone s

/-- An export of the frozen ring ends aborted (R395, R568). -/
def ringExportAbort (s : State) : State :=
  if s.ro 0x2821 0x02 = 4 then
    let n := s.host.exportBytes
    exportEnd (raise 0x2808 (le 8 n) ((s.setRo 0x2821 0x02 3).bump 0x2840 0x0D))
  else s

end Sys2Proof.Machine
end

