-- ==== Sys2Proof/Machine/Alarms.lean ====
section
/-! DEFINITION. The rule engine: terms (R345–R347), combination (R349, R350), tracks (R351), alarm states (R353, R354), reports (R360). -/

namespace Sys2Proof.Machine
open Sys2Proof

/-! ### Terms -/

/-- What a slot term is computed from: the slot, whether it is evaluated at COMMIT, the band states and the Oxbow state as of the slot. -/
structure View where
  group : Nat
  slot : Nat
  committed : Bool
  bands : Tab BandSpec
  ox : OxGroup

/-- A term's value: a rational when it has one, and whether it is degraded. -/
structure TermVal where
  value : Option Q
  degraded : Bool

def TermVal.bad : TermVal := ⟨none, true⟩
def TermVal.of (n : Nat) : TermVal := ⟨some (Q.ofNat n), false⟩

/-- A term kind is latched (R345). -/
def latchedKind (k : Nat) : Bool := k == 3 || (9 ≤ k && k ≤ 15)

/-- A band as of the slot evaluated. -/
def bandTerm (s : State) (v : View) (row b : Nat) (f : BandSpec → Q) : TermVal :=
  if !(s.running && s.cfgB 0x2500 0x01) then .bad
  else match lookup (4 * row + b) v.bands with
    | some x => if x.state = 2 then .bad else ⟨some (f x), false⟩
    | none => .bad

/-- The value of signal and phasor-angle terms (kind 4). -/
def signalTerm (s : State) (v : View) (sig b : Nat) : TermVal :=
  let w := (presented s v.group v.slot v.committed sig).word
  if w = missingWord then .bad
  else if b = 1 then
    let d := ofTwos 32 (w % 2 ^ 32)
    ⟨some (Q.make ((if d = -(2 ^ 31) then (2 ^ 31 : Int) else d) * 360) (2 ^ 32)), false⟩
  else if (match kindOf s sig with | some (k, _) => k == 4 | none => false) then .of (w % 65536)
  else ⟨binary32.toQ (w / 2 ^ 32), false⟩

/-- The rows of the mode table that hold reported modes. -/
def reportedModes (s : State) : List Nat :=
  (List.range 32).filter fun n => s.ro 0x2512 1 n != 0 && !bit (s.ro 0x2512 6 n) 1

/-- The mode meter serves rule terms (R347). -/
def modeServes (s : State) : Bool := s.ro 0x2513 0x01 == 2 || s.ro 0x2513 0x01 == 3

/-- The present value of a latched quantity (R345, R347). -/
def latchedTerm (s : State) (kind a b : Nat) : TermVal :=
  match kind with
  | 3 => if s.cfgB 0x2500 0x01 then .of (detectorsOn s a b) else .bad
  | 9 =>
    if !modeServes s then .bad
    else match (reportedModes s).find? fun n => s.ro 0x2512 1 n == a with
      | some n => ⟨some (Q.make (ofTwos 16 (s.ro 0x2512 3 n)) 10), false⟩
      | none => .bad
  | 10 =>
    if !modeServes s then .bad
    else
      let ms := (reportedModes s).filter fun n => a ≤ s.ro 0x2512 2 n && s.ro 0x2512 2 n ≤ b && s.ro 0x2512 4 n ≥ 50
      ⟨ms.foldl (fun (m : Option Q) n =>
        let d := Q.make (ofTwos 16 (s.ro 0x2512 3 n)) 10
        match m with | some x => some (Q.min x d) | none => some d) none, false⟩
  | 11 =>
    if s.ro 0x251A 0x03 ≠ 2 then .bad
    else if a = 0xFFFFFFFF ∨ s.ro 0x251A 0x04 0 = a then ⟨some (f32 (s.ro 0x251A 0x05 0)), false⟩ else .of 0
  | 12 =>
    if !s.cfgB 0x2530 0x01 a || s.ro 0x2531 0x01 a ≥ 2 then .bad
    else if s.ro 0x2531 0x01 a = 1 then ⟨some (f32 (s.ro 0x2531 0x02 a)), false⟩ else .of 0
  | 13 => if s.cfgB 0x2620 0x01 a then .of (s.ro 0x2621 0x01 a) else .bad
  | 14 => .of (s.ro 0x2241 0x01 a)
  | 15 => .of (if a = 0 then s.timeClass else if a = 1 then s.gatFlags else s.ro 0x2420 0x05)
  | _ => .bad

/-- The value of a slot term (R345, R347); rule-state terms read the same track. -/
def slotTerm (s : State) (v : View) (kind a b : Nat) : TermVal :=
  match kind with
  | 1 => bandTerm s v a b fun x => Q.ofNat (b2n (x.state == 1))
  | 2 => bandTerm s v a b fun x => f32 x.envelope
  | 4 => signalTerm s v a b
  | 5 => if oxbowOn s a then .of (islandCount s v.ox a) else .bad
  | 6 => if oxbowOn s a then .of (largestIsland s v.ox a) else .bad
  | 7 =>
    if !oxbowOn s v.group then .bad
    else match lookup a v.ox.edges with | some e => .of e.state | none => .of 4
  | 8 => .of (b2n (tabGet Track.reset (if v.committed then s.alarm.committed else s.alarm.spec) a).raised)
  | _ => .bad

/-- Sample a latched term for a slot, or take the value stored with it (R345); F64 patterns, a NaN for no value. -/
def latch (v : View) (row : Nat) (x : TermVal) (s : State) : TermVal × State :=
  match ((s.group v.group).slot? v.slot).bind fun sl => lookup row sl.latched with
  | some (n, d) => (⟨binary64.toQ n, d⟩, s)
  | none =>
    let n := match x.value with | some q => toF64 q | none => 0x7FF8000000000000
    (x, onSlot v.group v.slot (fun sl => { sl with latched := putKey row (n, x.degraded) sl.latched }) s)

/-- The comparison of a term (R346). -/
def compareTerm (s : State) (row : Nat) (v : Q) : Bool :=
  let t := s.cfgF 0x2702 0x05 row
  let v := dbl v
  match s.cfg 0x2702 0x04 row with
  | 0 => Q.lt t v
  | 1 => Q.le t v
  | 2 => Q.lt v t
  | 3 => Q.le v t
  | 4 => Q.eqv v t
  | 5 => !Q.eqv v t
  | _ => (Q.floor v).toNat &&& s.cfg 0x2702 0x06 row != 0

/-- A rule's evaluation: condition, terms true, terms degraded, term values as F32. -/
structure Evaluation where
  cond : Bool
  isTrue : Nat
  degraded : Nat
  values : List Nat

/-- Combine the terms of a rule (R349, R350). -/
def combine (comb : Nat) (t d : Nat) : Bool :=
  let mask := comb % 256
  let inh := comb / 256 % 256 &&& mask
  let main := (List.range 8).filter fun i => bit mask i && !bit inh i
  let up := (main.filter fun i => bit t i && !bit d i).length
  let cond := match field comb 17 16 with
    | 0 => up == main.length
    | 1 => up != 0
    | _ => up ≥ field comb 27 24
  cond && !((List.range 8).any fun i => bit inh i && bit t i && !bit d i)

/-- Evaluate the terms of a rule: on a slot, or locally when there is no view. -/
def evaluate (r : Nat) (v : Option View) (s : State) : Evaluation × State :=
  let mask := s.cfg 0x2701 0x02 r % 256
  let out := ((List.range 8).filter fun t => bit mask t).foldl (fun (a : List (Nat × Bool × TermVal) × State) t =>
    let row := 8 * r + t
    let s := a.2
    let kind := s.cfg 0x2702 0x01 row
    let x := s.cfg 0x2702 0x02 row
    let y := s.cfg 0x2702 0x03 row
    let (val, s) := match v with
      | some w => if latchedKind kind then latch w row (latchedTerm s kind x y) s else (slotTerm s w kind x y, s)
      | none => (latchedTerm s kind x y, s)
    let yes := !val.degraded && (match val.value with | some q => compareTerm s row q | none => false)
    (a.1 ++ [(t, yes, val)], s)) ([], s)
  let t := out.1.foldl (fun n e => if e.2.1 then n + 2 ^ e.1 else n) 0
  let d := out.1.foldl (fun n e => if e.2.2.degraded then n + 2 ^ e.1 else n) 0
  let vals := (List.range 8).map fun k => match out.1.find? fun e => e.1 == k with
    | some (_, _, x) => if x.degraded then nanF32 else (match x.value with | some q => toF32 q | none => nanF32)
    | none => nanF32
  (⟨combine (s.cfg 0x2701 0x02 r) t d, t, d, vals⟩, out.2)

/-! ### Tracks (R351) -/

/-- A slot rule's track at an evaluation. -/
def Track.slotStep (x : Track) (raise clear : Nat) (cond : Bool) : Track :=
  if !x.raised then
    (if cond then (if x.c + 1 ≥ raise then { x with raised := true, c := 0 } else { x with c := x.c + 1 }) else { x with c := 0 })
  else if !cond then (if x.c + 1 ≥ clear then { x with raised := false, c := 0 } else { x with c := x.c + 1 })
  else { x with c := 0 }

/-- A local rule's track at an update: instants in T96, persistences in ms (R75, R351). -/
def Track.localStep (x : Track) (now raise clear : Nat) (cond : Bool) : Track :=
  if cond == x.raised then { x with runSince := none }
  else
    let since := x.runSince.getD now
    if (if x.raised then clear else raise) * 2 ^ 48 ≤ (now - since) * 1000 then ⟨!x.raised, 0, none⟩ else { x with runSince := some since }

/-! ### Transitions and reports (R353–R355, R360, R361) -/

/-- Post the packet of a transition (R360). -/
def alarmPacket (r old new group : Nat) (x : Alarm) (decision : Nat) (s : State) : State :=
  let retracted := new == 4
  let w0 := (if retracted then 2 else 1) * 2 ^ 60 + new * 2 ^ 56 + old * 2 ^ 52 + x.flags % 16 * 2 ^ 48 + r * 2 ^ 32 + x.instance_
  let w2 := decision % 2 ^ 32 * 2 ^ 32 + group * 2 ^ 24 + x.termsTrue * 2 ^ 16 + x.degraded * 256 + x.flags / 16 * 16
  sluicePost (if retracted then 1 else 0) [w0, decision / 2 ^ 32 % 2 ^ 64, w2] s

/-- GAT at an earlier T96 instant, at the present rate. -/
def gatAt (s : State) (t96 : Nat) : Nat :=
  let back := t96ToPs (s.t96 - t96)
  (s.gat + 2 ^ 64 - back * gatFrequency s.fnom s.time / 1000000000000 % 2 ^ 64) % 2 ^ 64

/-- The payload of a transition frame (R361), its changing bytes left 0. -/
def framePayload (s : State) (r old new group : Nat) (x : Alarm) (decision : Nat) (values : List Nat) : List Byte :=
  (be 2 1 ++ be 1 1 ++ be 1 x.flags ++ be 16 Config.identity ++ be 16 0 ++ be 2 r ++ be 4 x.instance_ ++ be 1 old ++ be 1 new ++
   be 1 group ++ be 1 (roleByte s) ++ be 1 s.timeClass ++ be 1 0 ++ be 12 x.raiseT96 ++ be 12 decision ++ be 8 (gatAt s decision) ++
   be 1 x.termsTrue ++ be 1 x.degraded ++ be 1 (s.cfg 0x2701 0x07 r) ++ be 1 s.dev) ++
  (((values ++ List.replicate 8 nanF32).take 8).flatMap fun v => be 4 v) ++ fit 32 (s.cfgBytes 0x2701 0x0E r)

/-- The flags of an alarm at a decision (R355): degraded and NOMINAL now, the others as they stand. -/
def decisionFlags (s : State) (old : Nat) (degraded : Nat) : Nat :=
  old / 4 * 4 + 2 * b2n s.time.nominal + b2n (degraded != 0)

/-- Counters and the event of a transition (R373, R374); `cause` is that of a retraction. -/
def countTransition (r new cause : Nat) (x : Alarm) (s : State) : State :=
  match new with
  | 1 => s.bump 0x2720 0x01
  | 2 => raiseOnce 0x2701 r (le 2 r ++ le 4 x.instance_ ++ le 1 (s.cfg 0x2701 0x0D r)) (s.bump 0x2720 0x02)
  | 3 => raiseOnce 0x2702 r (le 2 r ++ le 4 x.instance_ ++ le 1 x.flags) (s.bump 0x2720 0x03)
  | _ => raiseOnce 0x2703 r (le 2 r ++ le 4 x.instance_ ++ le 1 cause) (s.bump 0x2720 0x04)

/-- A transition of a rule's alarm to a new state, decided on the slot with nominal instant `decision` (R353): counted, posted, framed; CLEARED
and RETRACTED fall back to NONE once reported; freeze rules and capture triggers see it (R393, R442).  A Wheel sends no frame (R370). -/
def transition (r new decision cause : Nat) (e : Evaluation) (s : State) : State :=
  let x := s.alarmOf r
  let old := x.state
  let group := s.cfg 0x2701 0x03 r
  let fresh := old == 0
  let keep := if fresh then 0 else x.flags
  let keep := if new = 2 ∧ old = 1 then setBit keep 4 true else keep
  let x : Alarm := { x with
    state := new, instance_ := if fresh then (x.instance_ + 1) % 2 ^ 32 else x.instance_
    raiseT96 := if fresh then decision else x.raiseT96
    flags := decisionFlags s keep e.degraded, degraded := e.degraded, termsTrue := e.isTrue
    acknowledged := if fresh then false else x.acknowledged
    endT96 := if new ≥ 3 then some decision else x.endT96, lastChange := s.t96 }
  let s := alarmPacket r old new group x decision (countTransition r new cause x (s.setAlarm r x))
  let s := if s.cfgB 0x2701 0x09 r && roleByte s != 2 then sendTransition r new (framePayload s r old new group x decision e.values) s else s
  let s := if new ≥ 3 then s.setAlarm r { x with state := 0 } else s
  let s := if new = 2 then alarmFreeze r decision s else s
  if new ≤ 2 then alarmTrigger r new x.instance_ decision s else s

/-! ### Evaluation on slots -/

/-- Enabled rules of a group, in increasing number. -/
def slotRules (s : State) (g : Nat) : List Nat := (ruleRows s).filter fun r => s.cfg 0x2701 0x03 r == g
/-- A rule may be evaluated on a slot with this boundary (R371). -/
def ruleReady (s : State) (r boundary : Nat) : Bool := tabGet 0 s.alarm.notBefore r ≤ boundary
/-- A slot lies after the end slot of a rule's last instance. -/
def pastEnd (x : Alarm) (nominal : Nat) : Bool := match x.endT96 with | some e => e < nominal | none => true

/-- Move j after a replay of slot j that leaves the track raised (R353). -/
def moveRaise (r nominal : Nat) (s : State) : State :=
  s.setAlarm r { s.alarmOf r with raiseT96 := tabGet nominal s.alarm.replaySince r }

/-- One rule at the end of PROCESS of slot k (R353). -/
def ruleProcess (r nominal : Nat) (replay direct : Bool) (v : View) (s : State) : State :=
  let (e, s) := evaluate r (some v) s
  let old := tabGet Track.reset s.alarm.spec r
  let t := old.slotStep (s.cfg 0x2701 0x05 r) (s.cfg 0x2701 0x06 r) e.cond
  let since := if !t.raised then delKey r s.alarm.replaySince
               else putKey r (tabGet nominal s.alarm.replaySince r) s.alarm.replaySince
  let s := s.onAlarm fun a => { a with spec := putKey r t a.spec, replaySince := if replay then since else a.replaySince }
  let x := s.alarmOf r
  if direct then s
  else if x.state = 0 ∧ t.raised = true ∧ pastEnd x nominal = true then transition r 1 nominal 0 e s
  else if replay && x.state == 1 && x.raiseT96 == nominal then
    (if t.raised then moveRaise r nominal s else transition r 4 nominal 0 e s)
  else s

/-- The rule engine at the end of PROCESS of a slot (R343, R344): rules that allow provisional alarms. -/
def alarmProcess (g k : Nat) (replay direct : Bool) (s : State) : State :=
  match (s.group g).slot? k with
  | none => s
  | some sl =>
    let s := (slotRules s g).foldl (fun s r =>
      if s.cfgB 0x2701 0x04 r && ruleReady s r sl.boundary then
        ruleProcess r sl.nominal replay direct ⟨g, k, false, s.eddy.bands.map fun e => (e.1, e.2.spec), s.ox g⟩ s
      else s) s
    updatePins (updateGoose s)

/-- Report a change of a rule's degraded terms (R374). -/
def reportDegraded (r d : Nat) (s : State) : State :=
  let x := s.alarmOf r
  let s := s.setAlarm r { x with degraded := d }
  if (x.degraded == 0) == (d == 0) then s else raiseOnce 0x2706 r (le 2 r ++ le 1 (b2n (d != 0)) ++ le 1 d) s

/-- The decision of the committed track (R353, R354) on a slot, or at the T96 of an update. -/
def ruleDecide (r nominal : Nat) (raised : Bool) (e : Evaluation) (s : State) : State :=
  let x := s.alarmOf r
  if x.state = 0 then (if raised && pastEnd x nominal then transition r 2 nominal 0 e s else s)
  else if x.state = 1 then
    (if raised && nominal ≤ x.raiseT96 then transition r 2 nominal 0 e s
     else if nominal = x.raiseT96 ∧ raised = false then transition r 4 nominal 1 e s else s)
  else if x.state = 2 && !raised then
    (if s.cfgB 0x2701 0x0C r && !x.acknowledged then s.setAlarm r { x with flags := setBit x.flags 3 true }
     else transition r 3 nominal 0 e s)
  else if x.state = 2 then s.setAlarm r { x with flags := setBit x.flags 3 false }
  else s

/-- One rule at COMMIT of slot k. -/
def ruleCommit (r nominal : Nat) (v : View) (s : State) : State :=
  let (e, s) := evaluate r (some v) s
  let t := (tabGet Track.reset s.alarm.committed r).slotStep (s.cfg 0x2701 0x05 r) (s.cfg 0x2701 0x06 r) e.cond
  let s := s.onAlarm fun a => { a with committed := putKey r t a.committed,
                                       evaluated := if a.evaluated.contains r then a.evaluated else r :: a.evaluated }
  ruleDecide r nominal t.raised e (reportDegraded r e.degraded s)

/-- The rule engine at COMMIT of a slot, with the engines' states as of the slot (R343, R344). -/
def alarmCommit (g k : Nat) (bands : Tab BandSpec) (ox : OxGroup) (s : State) : State :=
  match (s.group g).slot? k with
  | none => s
  | some sl =>
    let s := (slotRules s g).foldl (fun s r =>
      if ruleReady s r sl.boundary then ruleCommit r sl.nominal ⟨g, k, true, bands, ox⟩ s else s) s
    updatePins (updateGoose s)

/-- LOCAL_RULE_UPDATE (R342, R351, R353): an update of a term of a local rule; the update's instant stands for the slot. -/
def localUpdate (r : Nat) (s : State) : State :=
  if !(s.running && s.cfgB 0x2701 0x01 r && s.cfg 0x2701 0x03 r == 0xFF) then s
  else
    let (e, s) := evaluate r none s
    let t := (tabGet Track.reset s.alarm.committed r).localStep s.t96 (s.cfg 0x2701 0x05 r) (s.cfg 0x2701 0x06 r) e.cond
    let s := s.onAlarm fun a => { a with committed := putKey r t a.committed,
                                         evaluated := if a.evaluated.contains r then a.evaluated else r :: a.evaluated }
    let x := s.alarmOf r
    let s := s.setAlarm r { x with endT96 := none }
    updatePins (updateGoose (ruleDecide r s.t96 t.raised e (reportDegraded r e.degraded s)))

def execLocalRuleUpdate (t rule : Nat) (s : State) : Host.Outcome State Fault Refusal := complete t (localUpdate rule) s

/-- 0x2730:01 Acknowledge (R354). -/
def acknowledge (r : Nat) (s : State) : State × Nat :=
  let x := s.alarmOf r
  if x.state ≠ 2 then (s, 0x06)
  else (raise 0x270A (le 2 r ++ le 4 x.instance_) (s.setAlarm r { x with acknowledged := true, flags := setBit (setBit x.flags 2 true) 3 false }), 0)

def execAcknowledge (t : Nat) (who : Who) (rule : Nat) (s : State) : Host.Outcome State Fault Refusal :=
  complete t (runCommand 0x2730 0x01 rule (.num 0) who (acknowledge rule)) s

/-- 0x2730:02 Clear alarm counters. -/
def clearAlarms (s : State) : State := s.clearRange 0x2720 0x2720

def execClearAlarmCounters (t : Nat) (who : Who) (s : State) : Host.Outcome State Fault Refusal :=
  complete t (runPlain 0x2730 0x02 who (ok clearAlarms)) s

/-- A rule is reset by a swap at its instant (R371): its alarm becomes CLEARED with flag [5] and its tracks restart. -/
def resetRule (r at_ : Nat) (s : State) : State :=
  let x := s.alarmOf r
  let s := if x.state = 0 then s
           else transition r 3 at_ 0 ⟨false, x.termsTrue, x.degraded, []⟩ (s.setAlarm r { x with flags := setBit x.flags 5 true })
  let s := s.setAlarm r { s.alarmOf r with endT96 := none }
  s.onAlarm fun a => { a with spec := delKey r a.spec, committed := delKey r a.committed, notBefore := putKey r at_ a.notBefore }

end Sys2Proof.Machine
end

