-- ==== Sys2Proof/Machine/Pair.lean ====
section
/-! DEFINITION. What a Lead does at a group-0 slot boundary: the state image (R677) and the hand-over (R683). -/

namespace Sys2Proof.Machine
open Sys2Proof

/-- The state words of a state image (R677): the engines, the rules, the Pointer histories and lateness of the streams, the grids with their slots
and budget windows, GAT, its flags, and the objects that show them. -/
structure Image where
  eddy : EddySt
  oxbow : OxbowSt
  alarm : AlarmSt
  histories : Tab (Tab (List Sample) × List (Nat × Bool))
  groups : Tab Group
  gat : Nat
  nominal : Bool
  estimated : Bool
  shown : Dict

end Sys2Proof.Machine

namespace Sys2Proof.Config

/-- The bytes of a state image, and the state words that bytes hold: the spec gives the image's content and not its encoding (assumption 28). -/
opaque imageBytes : Machine.Image → List Byte
opaque imageState : List Byte → Option Machine.Image

end Sys2Proof.Config

namespace Sys2Proof.Machine
open Sys2Proof

/-- Objects whose values are state words of the image. -/
def imageIndexes : List Nat := [0x2311, 0x2504, 0x2512, 0x2513, 0x2514, 0x251A, 0x2712]

/-- The image of this device's state. -/
def imageNow (s : State) : Image :=
  { eddy := s.eddy, oxbow := s.oxbow, alarm := s.alarm, histories := s.ingest.streams.map fun e => (e.1, e.2.history, e.2.lateness)
    groups := s.groups, gat := s.gat, nominal := s.time.nominal, estimated := s.time.estimated
    shown := s.status.filter fun e => imageIndexes.contains (e.1 / 0x100000000) }

/-- The Lead cuts an image and sends its segments: number, total, bytes. -/
def cutImage (s : State) : State :=
  let img := Config.imageBytes (imageNow s)
  let n := (img.length + 1399) / 1400
  let s := (List.range n).foldl (fun s k => sendMirror false 6 (be 2 k ++ be 2 n ++ slice img (1400 * k) (Nat.min 1400 (img.length - 1400 * k))) s) s
  s.onDuplex fun d => { d with imageDue := false, imageCutAt := some s.now }

/-- The Lead relinquishes with cause 0x01, becomes Wheel and stays IN_STEP (R683). -/
def handOverNow (s : State) : State :=
  let s := (setRole 2 (relinquish 0x01 s)).setRo 0x3210 0x02 2
  s.onDuplex fun d => { d with handOver := false, imageDue := false, imageCutAt := none, records := [], fetching := [], heldTx := [] }

/-- A group-0 slot boundary. -/
def pairBoundary (s : State) : State :=
  if !leads s then s
  else if s.duplex.handOver then handOverNow s
  else if s.duplex.imageDue then cutImage s
  else s

end Sys2Proof.Machine
end

