-- ==== Sys2Proof/Machine/Energy.lean ====
section
/-! DEFINITION. Energy metering (R473–R496). -/

namespace Sys2Proof.Machine
open Sys2Proof

def State.meter (s : State) (f : Nat) : MeterSt := tabGet .reset s.energy.meters f
def State.setMeter (s : State) (f : Nat) (x : MeterSt) : State := s.onEnergy fun e => { e with meters := putKey f x e.meters }
def State.onRegs (s : State) (f : EnergyRegs → EnergyRegs) : State := s.onEnergy fun e => { e with regs := f e.regs }

/-- The device state lets the engine meter (R494). -/
def energyRuns (s : State) : Bool := s.gdieOn
/-- A feeder is metered (R473). -/
def isMetered (s : State) (f : Nat) : Bool := energyRuns s && s.cfgB 0x2B01 0x01 f && feederState s f == 2 && !svFed s f

/-! ### Temperature compensation (R480–R483) -/

/-- A table value of a channel under a set: column 1 temperature, 2 ratio error, 3 phase error (R481). -/
def tableValue (d : Dict) (c j col : Nat) : Q :=
  let row := 16 * c + j
  f32 (if inSet d 0x2B02 0x03 c = 1 then inSet d 0x2B03 col row else Config.manifestNum 0x2B03 col row)

/-- Linear interpolation between points, end values outside (R480). -/
def interpolate (x : Q) : List (Q × Q) → Q
  | [] => Q.zero
  | [p] => p.2
  | p :: q :: l =>
    if Q.le x p.1 then p.2
    else if Q.lt x q.1 then Q.add p.2 (Q.mul (Q.sub q.2 p.2) (Q.div (Q.sub x p.1) (Q.sub q.1 p.1)))
    else interpolate x (q :: l)

/-- Ratio error (column 2) or phase error (column 3) of a channel at a temperature under a set. -/
def compensation (d : Dict) (c col : Nat) (t : Q) : Q :=
  dbl (interpolate t ((List.range 16).map fun j => (tableValue d c j 1, tableValue d c j col)))

def State.therm (s : State) (c : Nat) : Therm := tabGet ⟨0, 0, false, false⟩ s.energy.therms c
def State.setTherm (s : State) (c : Nat) (x : Therm) : State := s.onEnergy fun e => { e with therms := putKey c x e.therms }

/-- The compensation temperature of a channel under a set (R482, R483). -/
def temperatureOf (d : Dict) (s : State) (c : Nat) : Q :=
  let x := s.therm c
  if inSet d 0x2B02 0x01 c = 0xFF || !x.ever then f32 (inSet d 0x2B02 0x02 c) else f32 x.value
/-- The correction of a channel in use at a sample instant: tables, thermistor and fallback temperature change with the first sample at or after
the swap instant (R480–R483, R495). -/
def correction (s : State) (at_ c col : Nat) : Q :=
  let d := pubSet s at_
  compensation d c col (temperatureOf d s c)

/-- Show a channel's temperature and the corrections in use. -/
def showTherm (c : Nat) (s : State) : State :=
  let t := temperatureOf s.active s c
  let corr := fun (col : Nat) => toF32 (compensation s.active c col t)
  ((s.setRow 0x2B20 0x02 c (toF32 t)).setRow 0x2B20 0x03 c (corr 2)).setRow 0x2B20 0x04 c (corr 3)

/-- THERMISTOR_UPDATE (R482, R483). -/
def thermistorUpdate (s : State) : State :=
  if !energyRuns s then s
  else (List.range 24).foldl (fun s c =>
    let h := s.cfg 0x2B02 0x01 c
    let s := if h ≠ 0xFF ∧ bit (s.ro 0x2E10 0x03 h) 0 = false then
        let v := s.ro 0x2E10 0x01 h
        let was := (s.therm c).held
        let s := s.setTherm c ⟨v, s.now, true, false⟩
        if was then raise 0x2B03 (le 1 c ++ le 4 v) s else s
      else if h = 0xFF then s.setTherm c { s.therm c with held := false }
      else s
    showTherm c s) s

def execThermistorUpdate (t : Nat) (s : State) : Host.Outcome State Fault Refusal := complete t thermistorUpdate s

/-- TEMPERATURE_TIMEOUT (R483): no valid temperature for the timeout. -/
def temperatureTimeout (c : Nat) (s : State) : State :=
  let h := s.cfg 0x2B02 0x01 c
  let x := s.therm c
  if energyRuns s && c < 24 && h != 0xFF && bit (s.ro 0x2E10 0x03 h) 0 && !x.held &&
      Nat.max x.validAt s.power.startAt + sec (s.cfg 0x2B00 0x05) ≤ s.now then
    raiseOnce 0x2B02 c (le 1 c ++ le 4 (toF32 (temperatureOf s.active s c))) (s.setTherm c { x with held := true })
  else s

def execTemperatureTimeout (t channel : Nat) (s : State) : Host.Outcome State Fault Refusal := complete t (temperatureTimeout channel) s

/-! ### Demand intervals (R484–R487) -/

/-- The total-line accumulators of a feeder. -/
def totalLine (s : State) (f : Nat) : List Nat := (List.range 8).map fun q => tabGet 0 s.energy.regs.acc (32 * f + 24 + q)
/-- T96 units of D minutes. -/
def demandUnits (d : Nat) : Nat := 60 * d * 2 ^ 48

/-- D for a sample instant (R484, R486). -/
def demandLength (s : State) (at_ : Nat) : Nat := inSet (pubSet s at_) 0x2B00 0x02 noRow
/-- Start an interval of D minutes at a T96 instant: partial unless it starts at its boundary (R486). -/
def startInterval (f d at_ : Nat) (s : State) : State :=
  let flags := b2n (at_ % demandUnits d != 0)
  s.onRegs fun r => { r with intervals := putKey f ⟨at_, d, totalLine s f, flags, at_⟩ r.intervals }

/-- The demand record of an interval that ends at a T96 instant (R485). -/
def demandRecord (iv : Interval) (end_ flags : Nat) (fields : List Nat) : List Byte :=
  let minutes := (end_ - iv.start + demandUnits 1 - 1) / demandUnits 1
  le 12 iv.start ++ le 1 minutes ++ le 1 flags ++ le 2 0 ++ fields.flatMap fun v => le 8 v

/-- Keep the larger demand of a quantity (R487). -/
def maximum (f q : Nat) (iv : Interval) (field : Nat) (r : EnergyRegs) : EnergyRegs :=
  let v := Q.div (Q.mul (Q.ofNat field) ⟨18, 5⟩) (Q.ofNat (60 * iv.length))
  let old := tabGet (0, 0) r.maxima (8 * f + q)
  if Q.lt (f64 old.1) v then { r with maxima := putKey (8 * f + q) (toF64 v, iv.start) r.maxima } else r

/-- End the interval in progress at a T96 instant with extra flags: its record is written, its demands compared (R485–R487). -/
def endInterval (f end_ extra : Nat) (s : State) : State :=
  match lookup f s.energy.regs.intervals with
  | none => s
  | some iv =>
    let flags := iv.flags ||| extra
    let fields := ((totalLine s f).zip iv.base).map fun e => ((e.1 + 2 ^ 96 - e.2) % 2 ^ 96) / 2 ^ 32
    let rec_ := demandRecord iv end_ flags fields
    s.onRegs fun r =>
      let n := tabGet 0 r.index f
      let r := { r with intervals := delKey f r.intervals, demand := putKey (96 * f + n % 96) rec_ r.demand,
                        index := putKey f ((n + 1) % 2 ^ 32) r.index }
      if flags &&& 0x19 = 0 then ((List.range 8).zip fields).foldl (fun r e => maximum f e.1 iv e.2 r) r else r

/-- End the interval in progress at the last sample in it (R486, R489). -/
def endLast (f extra : Nat) (s : State) : State :=
  match lookup f s.energy.regs.intervals with | some iv => endInterval f iv.last extra s | none => s

/-- The boundary after an interval's start. -/
def Interval.boundary (iv : Interval) : Nat := (iv.start / demandUnits iv.length + 1) * demandUnits iv.length

/-- Bring a feeder's interval up to a sample instant: ended at its boundary, or by a change of D, and started afresh (R484–R486). -/
def followInterval (f at_ : Nat) (s : State) : State :=
  let d := demandLength s at_
  match lookup f s.energy.regs.intervals with
  | none => startInterval f d at_ s
  | some iv =>
    if iv.boundary ≤ at_ then startInterval f d (at_ / demandUnits d * demandUnits d) (endInterval f iv.boundary 0 s)
    else if iv.length ≠ d then startInterval f d at_ (endInterval f iv.last 0 s)
    else s

/-- DEMAND_INTERVAL_END (R485): the samples that leave the chain now lie past the boundary. -/
def demandEnd (s : State) : State :=
  if !(energyRuns s && s.time.isSet) then s
  else (List.range 4).foldl (fun s f =>
    if (s.meter f).metering then followInterval f (sampleInstant s (6 * f) (delay128 s)) s else s) s

def execDemandIntervalEnd (t : Nat) (s : State) : Host.Outcome State Fault Refusal := complete t demandEnd s

/-! ### Samples (R474–R479) -/

/-- A feeder starts or stops being metered (R473, R486). -/
def meterState (f : Nat) (s : State) : State :=
  let on := isMetered s f
  let m := s.meter f
  if on == m.metering then s
  else if on then s.setMeter f { MeterSt.reset with metering := true, unmeteredUntil := m.unmeteredUntil, mismatch := m.mismatch }
  else (endLast f 8 s).setMeter f { m with metering := false, series := [] }

/-- The measured local frequency, or nominal (R474). -/
def meterFrequency (s : State) (f : Nat) : Q :=
  let v := s.ro 0x2911 0x03 f
  match binary32.toQ v with
  | some q => if Q.lt Q.zero q then q else Q.ofNat s.fnom
  | none => Q.ofNat s.fnom

/-- A series at an earlier instant, interpolated linearly between its samples, newest first; none before the oldest or on an invalid one. -/
def waveAt (at_ : Nat) : List Wave → Option Q
  | [] => none
  | [_] => none
  | a :: b :: l =>
    if b.at_ ≤ at_ then
      (if a.valid && b.valid && b.at_ < a.at_ then
        some (Q.add (f64 b.x) (dbl (Q.mul (dbl (Q.sub (f64 a.x) (f64 b.x))) (dbl (Q.make (at_ - b.at_ : Nat) (a.at_ - b.at_))))))
       else none)
    else waveAt at_ (b :: l)

/-- The window mean of products over L samples, newest first: the ⌊L⌋ newest by 1, the one before by L − ⌊L⌋; none when one is invalid or
missing (R474, R475). -/
def windowMean (len : Q) (a b : List Wave) : Option Q :=
  let n := (Q.floor len).toNat
  let frac := Q.sub len (Q.ofNat n)
  let need := n + b2n (!Q.eqv frac Q.zero)
  let ps := (a.zip b).take need
  if ps.length < need || ps.any (fun p => !(p.1.valid && p.2.valid)) then none
  else
    let prod := fun (p : Wave × Wave) => dbl (Q.mul (f64 p.1.x) (f64 p.2.x))
    let whole := (ps.take n).foldl (fun acc p => dbl (Q.add acc (prod p))) Q.zero
    let all := (ps.drop n).foldl (fun acc p => dbl (Q.add acc (dbl (Q.mul frac (prod p))))) whole
    some (dbl (Q.div all len))

/-- Add an increment to a register: wraps are counted, marked and reported (R478, R479). -/
def accumulate (row : Nat) (power dt : Q) (s : State) : State :=
  let inc := dbl (Q.div (dbl (Q.mul power dt)) (dbl ⟨18, 5⟩))
  let n := tabGet 0 s.energy.regs.acc row + (Q.round (Q.mul inc (Q.ofNat (2 ^ 32)))).toNat
  let s := s.onRegs fun r => { r with acc := putKey row (n % 2 ^ 96) r.acc }
  if n < 2 ^ 96 then s
  else
    let w := (tabGet 0 s.energy.regs.wraps row + 1) % 256
    let s := s.onRegs fun r => { r with wraps := putKey row w r.wraps, wrapped := row :: r.wrapped.filter fun k => k != row }
    raise 0x2B01 (le 1 row ++ le 1 w) s

/-- Sort a line's powers into its registers (R476). -/
def sortLine (base : Nat) (p q v dt : Q) (s : State) : State :=
  let pos := Q.le Q.zero p
  let s := if Q.lt Q.zero p then accumulate base p dt s else if pos then s else accumulate (base + 1) p.neg dt s
  let quadrant := if Q.le Q.zero q then (if pos then 2 else 3) else (if pos then 5 else 4)
  let s := accumulate (base + quadrant) q.abs dt s
  accumulate (base + (if pos then 6 else 7)) v dt s

/-- Powers of a phase (p′, q′, s′), or none when it is unmetered (R474, R475). -/
def phasePowers (s : State) (f phi at_ : Nat) (m : MeterSt) : Option (Q × Q × Q) :=
  let len := dbl (Q.div (Q.ofNat 12800) (meterFrequency s f))
  let v := tabGet [] m.series phi
  let i := tabGet [] m.series (3 + phi)
  let v90 := tabGet [] m.series (6 + phi)
  match windowMean len v i, windowMean len v90 i, windowMean len v v, windowMean len i i with
  | some p, some q, some vv, some ii =>
    let c := 6 * f + phi
    let dphi := dbl (Q.div (dbl (Q.sub (correction s at_ (c + 3) 3) (correction s at_ c 3))) (Q.ofNat 100))
    let r := sincosTurn (radTurns dphi)
    let (co, si) : Q × Q := (dbl r.2, dbl r.1)
    let p' := dbl (Q.sub (dbl (Q.mul p co)) (dbl (Q.mul q si)))
    let q' := dbl (Q.add (dbl (Q.mul q co)) (dbl (Q.mul p si)))
    let sv := dbl (Q.mul (dbl (Q.sqrt vv)) (dbl (Q.sqrt ii)))
    some (if inSet (pubSet s at_) 0x2B01 0x02 f = 1 then (p'.neg, q'.neg, sv) else (p', q', sv))
  | _, _, _, _ => none

/-- Samples kept of a series. -/
def seriesDepth : Nat := 2048

/-- Put the newest samples of a feeder, compensated (R474), into its series. -/
def pushSeries (s : State) (f : Nat) (m : MeterSt) : MeterSt :=
  let quarter := (Q.floor (Q.div (Q.ofNat (2 ^ 46)) (meterFrequency s f))).toNat
  let m := (List.range 6).foldl (fun (m : MeterSt) k =>
    match (s.chan (6 * f + k)).waves with
    | [] => m
    | w :: _ =>
      let c := 6 * f + k
      let eps := dbl (Q.div (correction s w.at_ c 2) (Q.ofNat 100))
      let x := toF64 (Q.div (f64 w.x) (dbl (Q.add Q.one eps)))
      { m with series := putKey k (({ w with x := x } :: tabGet [] m.series k).take seriesDepth) m.series }) m
  (List.range 3).foldl (fun (m : MeterSt) k =>
    let v := tabGet [] m.series k
    match v with
    | [] => m
    | w :: _ =>
      let y : Wave := match waveAt (w.at_ - quarter) v with | some q => ⟨w.at_, toF64 q, true, false⟩ | none => ⟨w.at_, 0, false, false⟩
      { m with series := putKey (6 + k) ((y :: tabGet [] m.series (6 + k)).take seriesDepth) m.series }) m

/-- Δt (R477). -/
def meterDt (s : State) : Q :=
  dbl (Q.mul (dbl (Q.make 1600 20480000)) (dbl (Q.make (1000000000000 + s.time.f) 1000000000000)))

/-- Quality flags as marks of the interval in progress: 1 unmetered samples, 2 temperature held (R485). -/
def markInterval (f flags : Nat) (s : State) : State :=
  match lookup f s.energy.regs.intervals with
  | none => s
  | some iv => s.onRegs fun r => { r with intervals := putKey f { iv with flags := iv.flags ||| flags } r.intervals }

/-- A channel's temperature is held (R483). -/
def anyHeld (s : State) (f : Nat) : Bool := (List.range 6).any fun k => (s.therm (6 * f + k)).held

/-- One sample index of a metered feeder (R474–R479, R484). -/
def meterSample (f : Nat) (s : State) : State :=
  let m := pushSeries s f (s.meter f)
  let at_ := match (s.chan (6 * f)).waves with | w :: _ => w.at_ | [] => s.t96
  let s := s.setMeter f m
  let s := if s.time.isSet then followInterval f at_ s else s
  let ps := (List.range 3).map fun phi => phasePowers s f phi at_ m
  let dt := meterDt s
  let s := ((List.range 3).zip ps).foldl (fun s e =>
    match e.2 with | some (p, q, v) => sortLine (32 * f + 8 * e.1) p q v dt s | none => s) s
  let known := ps.filterMap id
  let s :=
    if known.length = 3 then
      let total := fun (l : List Q) => l.foldl (fun acc x => dbl (Q.add acc x)) Q.zero
      let (p, q, v) : Q × Q × Q := (total (known.map (·.1)), total (known.map (·.2.1)), total (known.map (·.2.2)))
      let s := sortLine (32 * f + 24) p q v dt s
      let m := s.meter f
      s.setMeter f { m with totals := ((at_, toF64 p, toF64 v) :: m.totals).take 16384 }
    else
      let ns := (Q.floor (Q.mul dt (Q.ofNat 1000000000))).toNat
      let s := (s.addTo 0x2B21 0x01 ns f).setMeter f { s.meter f with unmeteredUntil := s.now + sec 1 }
      markInterval f 2 s
  let s := if anyHeld s f then markInterval f 4 s else s
  match lookup f s.energy.regs.intervals with
  | none => s
  | some iv => s.onRegs fun r => { r with intervals := putKey f { iv with last := at_ } r.intervals }

/-! ### Saves, snapshot, clearing (R488–R491) -/

/-- Write a complete save to the older slot (R488). -/
def energySave (warning : Bool) (s : State) : State :=
  if s.power.mramLost then s
  else s.onEnergy fun e =>
    let seq := (e.saves.map (·.seq)).foldl Nat.max 0 + 1
    { e with lastSave := s.now, saves := ⟨seq % 2 ^ 32, warning, e.regs⟩ :: e.saves.take 1 }

/-- ENERGY_SAVE (R488), once a second. -/
def periodicSave (s : State) : State :=
  if energyRuns s && !s.power.mramLost && s.energy.lastSave + sec 1 ≤ s.now then (energySave false s).bump 0x2B21 0x02 else s

def execEnergySave (t : Nat) (s : State) : Host.Outcome State Fault Refusal := complete t periodicSave s

/-- Restore at START (R489): the valid slot of the higher sequence number; its interval in progress is closed with flag [3]. -/
def energyRestore (s : State) : State :=
  let s := s.onEnergy fun e => { e with meters := [], therms := [], snapshotDue := false, clearsDue := [] }
  match (if s.power.mramLost then [] else s.energy.saves) with
  | [] => raise 0x2B05 (le 1 2 ++ le 4 0) (s.onEnergy fun e => { e with regs := .reset })
  | x :: _ =>
    let s := s.onEnergy fun e => { e with regs := x.regs }
    let s := (List.range 4).foldl (fun s f => endLast f 8 s) s
    raise 0x2B05 (le 1 (b2n (!x.warning)) ++ le 4 x.seq) s

/-- Copy every accumulator into the snapshot with the sample's instant (R490). -/
def snapshotNow (at_ : Nat) (s : State) : State :=
  let s := s.onEnergy fun e => { e with snapshotDue := false }
  ((List.range 128).foldl (fun s r => s.setRow 0x2B11 0x01 r (tabGet 0 s.energy.regs.acc r / 2 ^ 32)) s).setRo 0x2B11 0x02 at_

/-- 0x2B30:01 Take snapshot. -/
def takeSnapshot (s : State) : State × Nat :=
  if s.energy.snapshotDue then (s, 0x06) else (s.onEnergy fun e => { e with snapshotDue := true }, 0)

def execTakeSnapshot (t : Nat) (who : Who) (s : State) : Host.Outcome State Fault Refusal :=
  complete t (runPlain 0x2B30 0x01 who takeSnapshot) s

/-- Whether a register row, demand row or maximum row belongs to feeder f. -/
def dropRows {α : Type} (per f : Nat) (t : Tab α) : Tab α := t.filter fun e => e.1 / per != f

/-- Clear a feeder's energy registers at a sample boundary (R491). -/
def clearNow (f at_ : Nat) (s : State) : State :=
  let n := (tabGet 0 s.energy.regs.clears f + 1) % 65536
  let s := s.onRegs fun r => { r with
    acc := dropRows 32 f r.acc, wraps := dropRows 32 f r.wraps, wrapped := r.wrapped.filter fun k => k / 32 != f
    maxima := dropRows 8 f r.maxima, demand := dropRows 96 f r.demand, clears := putKey f n r.clears }
  let s := match lookup f s.energy.regs.intervals with
    | some iv => s.onRegs fun r => { r with intervals := putKey f ⟨at_, iv.length, List.replicate 8 0, 1, at_⟩ r.intervals }
    | none => s
  raise 0x2B04 (le 1 f ++ le 2 n) (energySave false s)

/-- 0x2B30:02 Clear energy registers: at the next sample boundary, at once when no sample comes (the engine does not run). -/
def clearEnergy (f : Nat) (s : State) : State :=
  if energyRuns s then s.onEnergy fun e => { e with clearsDue := e.clearsDue.filter (fun k => k != f) ++ [f] } else clearNow f s.t96 s

def execClearEnergyRegisters (t : Nat) (who : Who) (feeder : Nat) (s : State) : Host.Outcome State Fault Refusal :=
  complete t (runCommand 0x2B30 0x02 feeder (.num 0) who (ok (clearEnergy feeder))) s

/-- 0x2B30:03 Acknowledge wraps. -/
def ackWraps (f : Nat) (s : State) : State := s.onRegs fun r => { r with wrapped := r.wrapped.filter fun k => k / 32 != f }

def execAcknowledgeWraps (t : Nat) (who : Who) (feeder : Nat) (s : State) : Host.Outcome State Fault Refusal :=
  complete t (runCommand 0x2B30 0x03 feeder (.num 0) who (ok (ackWraps feeder))) s

/-- 0x2B30:04 Reset maximum demand. -/
def resetMaxima (f : Nat) (s : State) : State := s.onRegs fun r => { r with maxima := dropRows 8 f r.maxima }

def execResetMaximumDemand (t : Nat) (who : Who) (feeder : Nat) (s : State) : Host.Outcome State Fault Refusal :=
  complete t (runCommand 0x2B30 0x04 feeder (.num 0) who (ok (resetMaxima feeder))) s

/-- 0x2B30:05 Clear energy counters. -/
def clearEnergyCounters (s : State) : State := s.clearObjects [(0x2B21, 1), (0x2B21, 2), (0x2B21, 4), (0x2B21, 5)]

def execClearEnergyCounters (t : Nat) (who : Who) (s : State) : Host.Outcome State Fault Refusal :=
  complete t (runPlain 0x2B30 0x05 who (ok clearEnergyCounters)) s

/-- The engine's part of a 12.8 kS/s sample index: steps of T96 end intervals (R486), pending clears and snapshot take effect, feeders are
metered. -/
def energySample (s : State) : State :=
  if !energyRuns s then s
  else
    let stepped := s.energy.epoch != s.time.epoch
    let s := (List.range 4).foldl (fun s f => meterState f s) s
    let s := if stepped then (List.range 4).foldl (fun s f => endLast f 16 s) s else s
    let s := s.onEnergy fun e => { e with epoch := s.time.epoch }
    let at_ := sampleInstant s 0 (delay128 s)
    let s := s.energy.clearsDue.foldl (fun s f => clearNow f at_ s) s
    let s := s.onEnergy fun e => { e with clearsDue := [] }
    let s := (List.range 4).foldl (fun s f => if (s.meter f).metering then meterSample f s else s) s
    if s.energy.snapshotDue then snapshotNow at_ s else s

/-- Metering stops with the device state: intervals closed with flag [3] (R494). -/
def energyStop (s : State) : State :=
  energySave false ((List.range 4).foldl (fun s f =>
    let m := s.meter f
    if m.metering then (endLast f 8 s).setMeter f { m with metering := false, series := [] } else s) s)

/-! ### Cross-check (R492) -/

/-- Re(V·I*) of two phasor words. -/
def realPower (v i : Nat) : Q :=
  let turn := Q.make (ofTwos 32 ((v + 2 ^ 32 - i % 2 ^ 32) % 2 ^ 32)) (2 ^ 32)
  Q.mul (Q.mul (f32 (v / 2 ^ 32)) (f32 (i / 2 ^ 32))) (sincosTurn turn).2

/-- The check of feeder f at COMMIT(i) of its local stream's group; with no apparent power the difference is not stated and is free. -/
def crossCheck (f g i : Nat) (s : State) : State :=
  match (s.group g).slot? i with
  | none => s
  | some sl =>
    let b := 5242880 + 256 * f
    let word := fun (k : Nat) => (sl.present true (b + k)).word
    let half := 2 ^ 47 / s.fnom
    let m := s.meter f
    let l := m.totals.filter fun e => sl.nominal ≤ e.1 + half && e.1 < sl.nominal + half
    if groupOf s (firstLocal + f) ≠ g || l.isEmpty || [0, 1, 2, 6, 7, 8].any (fun k => word k == missingWord) then s
    else
      let p := Q.sum ([0, 1, 2].map fun k => realPower (word k) (word (k + 6)))
      let p := if s.cfgB 0x2B01 0x02 f then p.neg else p
      let n := Q.ofNat l.length
      let pe := Q.div (Q.sum (l.map fun e => f64 e.2.1)) n
      let se := Q.div (Q.sum (l.map fun e => f64 e.2.2)) n
      let unknown := Q.eqv se Q.zero
      let pattern := if unknown then s.free % 2 ^ 32 else toF32 (Q.mul (Q.div (Q.abs (Q.sub p pe)) se) (Q.ofNat 100))
      let s := if unknown then s.drawn else s
      let s := s.setRow 0x2B20 0x05 f pattern
      let beyond := Q.lt (Q.make (s.cfg 0x2B00 0x03) 100) (f32 pattern)
      let m := s.meter f
      let m := { m with outside := if beyond then m.outside + 1 else 0, inside := if beyond then 0 else m.inside + 1 }
      let need := s.cfg 0x2B00 0x04
      if !m.mismatch && m.outside ≥ need then
        raiseOnce 0x2B06 f (le 1 f ++ le 1 1 ++ le 4 pattern) ((s.setMeter f { m with mismatch := true }).bump 0x2B21 0x04)
      else if m.mismatch && m.inside ≥ need then
        raiseOnce 0x2B06 f (le 1 f ++ le 1 0 ++ le 4 pattern) (s.setMeter f { m with mismatch := false })
      else s.setMeter f m

/-- Energy's part of COMMIT(i): RUN and TRIM only (R494). -/
def energyCommit (g i : Nat) (s : State) : State :=
  if s.running then (List.range 4).foldl (fun s f => crossCheck f g i s) s else s

/-- Energy quality (0x2B20:01). -/
def energyQuality (s : State) (f : Nat) : Nat :=
  b2n (!s.time.isSet) + 2 * b2n (anyHeld s f) + 4 * b2n (s.now < (s.meter f).unmeteredUntil) + 8 * b2n (svFed s f) +
  16 * b2n (s.meter f).mismatch

end Sys2Proof.Machine
end

