-- ==== Sys2Proof/Machine/Shepherd.lean ====
section
/-! DEFINITION. Shepherd (R630–R635): its state, its validity, its pins and its GOOSE.  Its loss-of-mains and interharmonic functions are
those of R332–R335 and R299–R301 on its own rows. -/

namespace Sys2Proof.Machine
open Sys2Proof

/-- Shepherd's states (R631). -/
def shStarting : Nat := 1
def shValid : Nat := 2
def shFailed : Nat := 3
def shepherdState (s : State) : Nat := s.ro 0x2F45 0x01
/-- Shepherd runs: it is STARTING or VALID. -/
def shepherdOn (s : State) : Bool := shepherdState s == shStarting || shepherdState s == shValid

/-- A feeder is INVALID for Shepherd: not ON, or fed by sampled values (R630). -/
def shepherdNoFeeder (s : State) (f : Nat) : Bool := feederState s f != 2 || svFed s f
/-- Set m is INVALID: its feeder is, or its estimator's last output was. -/
def shepherdSetBad (s : State) (m : Nat) : Bool := shepherdNoFeeder s m || bit (s.ro 0x2F45 0x02 m) 7
/-- Interharmonic row d is INVALID. -/
def shepherdRowBad (s : State) (d : Nat) : Bool := shepherdNoFeeder s (d / 2 % 4) || s.ro 0x2F45 0x03 d == 2
/-- Element b of set m is operated; row d is ON. -/
def shepherdElement (s : State) (m b : Nat) : Bool := bit (s.ro 0x2F45 0x02 m) b
def shepherdRow (s : State) (d : Nat) : Bool := s.ro 0x2F45 0x03 d == 1

/-! ### Pins (R632) -/

/-- Why a Shepherd-owned pin is de-energised (0x2711:02); 0 when it is energised. -/
def shepherdPinCause (s : State) (p : Nat) : Nat :=
  let elements := (List.range 24).filter fun e => bit (s.cfg 0x2F43 0x01 p) e
  let rows := (List.range 16).filter fun d => bit (s.cfg 0x2F43 0x02 p) d
  if !s.gdieOn then 5
  else if shepherdState s ≠ shValid then 7
  else if elements.any (fun e => shepherdElement s (e / 6) (e % 6) || shepherdSetBad s (e / 6)) then 7
  else if rows.any (fun d => shepherdRow s d || shepherdRowBad s d) then 7
  else if s.now < (s.pin p).minUntil then 2
  else 0

/-- Bring one Shepherd-owned pin up to date. -/
def shepherdPin (p : Nat) (s : State) : State :=
  if s.cfg 0x2700 0x01 p ≠ 1 then s
  else
    let c := shepherdPinCause s p
    let s := if s.ro 0x2711 0x01 p = 1 ∧ c ≠ 0 then s.setPin p { s.pin p with minUntil := s.now + ms (s.cfg 0x2F43 0x03 p) } else s
    (s.setRow 0x2711 0x01 p (b2n (c == 0))).setRow 0x2711 0x02 p c

/-- Every pin of either owner. -/
def allPins (s : State) : State := (List.range 8).foldl (fun s p => shepherdPin p s) (updatePins s)

/-! ### GOOSE (R633) -/

/-- The value and quality of member k of dataset d. -/
def shepherdMember (s : State) (d k : Nat) : Bool × Nat :=
  let v := s.cfg 0x2F44 0x01 (32 * d + k)
  if v ≤ 23 then (shepherdElement s (v / 6) (v % 6), if shepherdSetBad s (v / 6) then 0x4000 else 0)
  else if 32 ≤ v ∧ v ≤ 47 then (shepherdRow s (v - 32), if shepherdRowBad s (v - 32) then 0x4000 else 0)
  else (false, 0x4000)

/-- Shepherd's datasets in use. -/
def shepherdSets (s : State) : List Nat := (List.range 16).filter fun d => gooseUsed s d && s.cfg 0x2703 0x01 d == 1

/-- Publish what has changed, on P4 and P5. -/
def shepherdGoose (s : State) : State :=
  if shepherdOn s && s.gdieOn then
    (shepherdSets s).foldl (fun s d => gooseChange (s.cfg 0x2703 0x0A d &&& 0x30) 2 d ((List.range 32).map (shepherdMember s d)) s) s
  else s

/-- The G-die publisher's last message of each dataset: stNum advanced, members FALSE and invalid; then it stops. -/
def shepherdGooseEnd (s : State) : State :=
  (shepherdSets s).foldl (fun s d =>
    let x := s.gooseOf d
    if x.members.isEmpty then s
    else
      let iv := s.cfg 0x2703 0x08 d
      let last : Goose := ⟨wrapOne x.stNum, 0, (List.range 32).map fun _ => (false, 0x4000), s.now + ms iv, iv, s.t96⟩
      let s := sendGoose (s.cfg 0x2703 0x0A d &&& 0x30) 2 d (putGoose d last s)
      putGoose d { last with members := [] } s) s

/-- Pins and datasets after any change of what Shepherd detects. -/
def shepherdUpdate (s : State) : State := shepherdGoose (allPins s)

/-! ### State (R631) -/

/-- A change of Shepherd's state, with its event. -/
def setShepherd (new : Nat) (s : State) : State :=
  let old := shepherdState s
  if old = new then s else raise 0x2F09 (le 1 old ++ le 1 new) (s.setRo 0x2F45 0x01 new)

/-- Detections begin afresh. -/
def shepherdReset (s : State) : State :=
  let s := s.clearObjects [(0x2F45, 2), (0x2F45, 3), (0x2F45, 4)]
  let s := s.onPower fun p => { p with shepherdSince := [], shepherdRows := [] }
  let s := s.onOxbow fun o => { o with lom := o.lom.filter fun e => e.1 < 16 }
  s.onEddy fun e => { e with locals := e.locals.filter fun x => x.1 < 16 }

/-- Shepherd follows its enable and the device state: STARTING where it may run and was OFF, OFF where it may not. -/
def shepherdFollow (s : State) : State :=
  if s.gdieOn && s.cfgB 0x2F40 0x01 then
    (if shepherdState s = 0 then shepherdUpdate (setShepherd shStarting (shepherdReset s)) else s)
  else if shepherdState s = 0 then s
  else allPins (setShepherd 0 (shepherdReset s))

/-- The validity of set m's estimator output at an evaluation. -/
def shepherdValidity (m : Nat) (invalid : Bool) (s : State) : State :=
  let bad := invalid || shepherdNoFeeder s m
  let s := s.setRow 0x2F45 0x02 m (128 * b2n bad + s.ro 0x2F45 0x02 m % 128)
  let since := s.power.shepherdSince
  let since := if bad then delKey m since else if (lookup m since).isSome then since else putKey m s.now since
  s.onPower fun p => { p with shepherdSince := since }

/-- One output of Shepherd's P-class estimator on feeder m (R630). -/
def shepherdEvaluate (m f phi v1 vmin vmax : Nat) (invalid : Bool) (s : State) : State :=
  if shepherdOn s && s.gdieOn && s.cfgB 0x2F41 0x01 m then
    let s := shepherdValidity m invalid s
    shepherdUpdate (lomEvaluate (16 + m) f phi v1 vmin vmax (bit (s.ro 0x2F45 0x02 m) 7) s)
  else s

/-- The conditions of R631 for VALID: the set loaded, 2T₀ + 2Δ of valid output of each enabled set, a window of each enabled row. -/
def shepherdReady (s : State) : Bool :=
  s.power.setLoaded &&
  ((List.range 4).all fun m => !s.cfgB 0x2F41 0x01 m ||
    (match lookup m s.power.shepherdSince with | some a => decide (a + sec 5 / (2 * s.fnom) ≤ s.now) | none => false)) &&
  ((List.range 16).all fun d => !s.cfgB 0x2F42 0x01 d || s.power.shepherdRows.contains d)

/-- SHEPHERD_VALID (R631). -/
def shepherdValid (s : State) : State :=
  if shepherdState s = shStarting ∧ shepherdReady s = true then shepherdUpdate (setShepherd shValid s) else s

def execShepherdValid (t : Nat) (s : State) : Host.Outcome State Fault Refusal := complete t shepherdValid s

/-- SHEPHERD_FAILURE: comparator mismatch (0) or watchdog expiry (1); FAILED until reset (R634, R26). -/
def shepherdFailure (cause : Nat) (s : State) : State :=
  if shepherdOn s then
    let s := shepherdGooseEnd (setShepherd shFailed s)
    let s := (s.onPower fun p => { p with shepherdFailed := true }).bump 0x2F20 0x06
    allPins (raise 0x2F0B (le 1 cause) s)
  else s

/-- SHEPHERD_MINIMUM_ALARM_EXPIRY (R632). -/
def execShepherdMinimumAlarmExpiry (t pin : Nat) (s : State) : Host.Outcome State Fault Refusal :=
  complete t (fun s => if pin < 8 then shepherdPin pin s else s) s

/-- At a swap: Shepherd's settings take effect and operated elements are reset (R635). -/
def shepherdSwap (s : State) : State :=
  let s := s.onOxbow fun o => { o with lom := o.lom.filter fun e => e.1 < 16 }
  let s := (List.range 4).foldl (fun s m => s.setRow 0x2F45 0x02 m (128 * b2n (bit (s.ro 0x2F45 0x02 m) 7))) s
  let s := (List.range 16).foldl (fun s d => if s.cfgB 0x2F42 0x01 d then s else s.setRow 0x2F45 0x03 d 3) s
  shepherdUpdate (shepherdFollow s)

/-! ### Commands whose effect Shepherd shares -/

def execInterharmonicWindowEnd (t : Nat) (windows : List WaveWindow) (s : State) : Host.Outcome State Fault Refusal :=
  complete t (fun s => shepherdUpdate (interharmonic windows s)) s

/-- VECTOR_SHIFT_HOLD_EXPIRY: rows 0–3 of 0x2620; 16–19 are Shepherd's rows of 0x2F41. -/
def execVectorShiftHoldExpiry (t row : Nat) (s : State) : Host.Outcome State Fault Refusal :=
  complete t (fun s => shepherdUpdate (vectorHold row s)) s

end Sys2Proof.Machine
end

