-- ==== Sys2Proof/Machine/HeadState.lean ====
section
/-! DEFINITION. Headwater's feeders, channels, filter banks and local streams as they change state (R400–R417, R430, R436). -/

namespace Sys2Proof.Machine
open Sys2Proof

/-! ### Local streams (R430) -/

def localState (s : State) (l : Nat) : Nat := s.ro 0x2911 0x01 l

/-- A change of a local stream's state, with its event. -/
def setLocalState (l new : Nat) (s : State) : State :=
  let old := localState s l
  if old = new then s else raise 0x2905 (le 2 (firstLocal + l) ++ le 1 old ++ le 1 new) (s.setRow 0x2911 0x01 l new)

/-- Half the window of a class in s (R421): P one cycle; M from the reporting rate of the local stream that uses it. -/
def halfWindow (s : State) (f : Nat) (mClass : Bool) : Q :=
  let f0 := Q.ofNat s.fnom
  if !mClass then Q.div Q.one f0
  else
    let used := s.rw 0x2910 0x01 f == 1 && s.cfg 0x2910 0x03 f == 1
    let rate := if used then Q.max (Q.ofNat 10) (Q.div Q.one (periodQ (s.cfgInt 0x2301 0x01 (s.cfg 0x2910 0x02 f)))) else f0
    Q.max (Q.div (Q.ofNat 2) rate) (Q.div (Q.ofNat 3) f0)

/-- Seconds as ps, rounded up. -/
def psOf (q : Q) : Nat := (-(Q.floor (Q.neg (Q.mul q (Q.ofNat 1000000000000))))).toNat

/-- A local stream may be ON (R430). -/
def localReady (s : State) (l : Nat) : Bool :=
  let wait := psOf (Q.add (Q.mul (Q.ofNat 2) (halfWindow s l (s.cfg 0x2910 0x03 l == 1))) (Q.div Q.one (Q.ofNat (2 * s.fnom))))
  feederState s l == 2 && s.time.isSet && (s.running || s.dev == stSentinel) &&
  Nat.max (s.feeder l).onAt s.time.setAt + wait ≤ s.now

/-- Follow the state the four-state rule gives a local stream; STOPPING has no work. -/
def localMove (l new : Nat) (s : State) : State :=
  let s := setLocalState l new s
  if new = 3 then
    let (s, n) := fourEnd (fnLocal l) 3 s
    setLocalState l n s
  else s

/-- 0x2910:01 Local stream enable (R430). -/
def localEnable (l : Nat) (on : Bool) (s : State) : State :=
  if l < 4 && headRuns s then
    let (s, n) := fourWrite (fnLocal l) (localState s l) on s
    if n = localState s l then s else localMove l n s
  else s

def execLocalStreamEnable (t : Nat) (who : Who) (stream : Nat) (on : Bool) (s : State) : Host.Outcome State Fault Refusal :=
  complete t (runWrite 0x2910 0x01 stream (.num (b2n on)) who (localEnable stream on)) s

/-- LOCAL_STREAM_ON: the conditions of STARTING have ended (R430, R606). -/
def localOnNow (l : Nat) (s : State) : State :=
  if l < 4 && localState s l == 1 && localReady s l then
    let (s, n) := fourEnd (fnLocal l) 1 s
    localMove l n s
  else s

def execLocalStreamOn (t stream : Nat) (s : State) : Host.Outcome State Fault Refusal := complete t (localOnNow stream) s

/-- A local stream returns to STARTING. -/
def localRestart (l : Nat) (s : State) : State := if localState s l = 2 then setLocalState l 1 s else s

/-! ### Feeders (R402) -/

/-- A change of a feeder's state, with its event; a feeder that leaves ON takes its local stream back to STARTING. -/
def setFeederState (f new : Nat) (s : State) : State :=
  let old := feederState s f
  if old = new then s
  else
    let s := raise 0x2901 (le 1 f ++ le 1 old ++ le 1 new) (s.setRow 0x2912 0x01 f new)
    let s := if old = 2 then localRestart f s else s
    shepherdUpdate s

/-- Begin STARTING: the delays are measured afresh (R402). -/
def feederBegin (f : Nat) (s : State) : State :=
  let s := s.setFeeder f { s.feeder f with measured := [], measuredAt := s.now }
  (List.range 6).foldl (fun s k =>
    let c := 6 * f + k
    (s.setChan c { s.chan c with drt := none, delayFault := false, waves := [] }).setRow 0x2920 0x01 c 0) s

/-- Follow the state the four-state rule gives a feeder. -/
def feederMove (f new : Nat) (s : State) : State :=
  let s := setFeederState f new s
  if new = 1 then feederBegin f s
  else if new = 2 then s.setFeeder f { s.feeder f with onAt := s.now }
  else s

/-- Headwater follows the active set (R436): in START once it is loaded. -/
def headServes (s : State) : Bool := headRuns s && (s.dev != stStart || s.power.setLoaded)

/-- 0x2901:01 Feeder enable (R402). -/
def feederEnable (f : Nat) (on : Bool) (s : State) : State :=
  if f < 4 && headServes s then
    let (s, n) := fourWrite (fnFeeder f) (feederState s f) on s
    if n = feederState s f then s else feederMove f n s
  else s

def execFeederEnable (t : Nat) (who : Who) (feeder : Nat) (on : Bool) (s : State) : Host.Outcome State Fault Refusal :=
  complete t (runWrite 0x2901 0x01 feeder (.num (b2n on)) who (feederEnable feeder on)) s

/-- FEEDER_ON: 4 ms after the last of the six measurements; a feeder fed by sampled values has none to make (R402). -/
def feederOn (f : Nat) (s : State) : State :=
  let x := s.feeder f
  let done := svFed s f || (x.measured.length ≥ 6 && x.measuredAt + ms 4 ≤ s.now)
  if f < 4 && feederState s f == 1 && done then
    let (s, n) := fourEnd (fnFeeder f) 1 s
    feederMove f n s
  else s

def execFeederOn (t feeder : Nat) (s : State) : Host.Outcome State Fault Refusal := complete t (feederOn feeder) s

/-- FEEDER_STOPPED: the last sample in flight has left the chain (R402). -/
def feederStopped (f : Nat) (s : State) : State :=
  if f < 4 && feederState s f == 3 then
    let (s, n) := fourEnd (fnFeeder f) 3 s
    feederMove f n s
  else s

def execFeederStopped (t feeder : Nat) (s : State) : Host.Outcome State Fault Refusal := complete t (feederStopped feeder) s

/-- A feeder goes through STOPPING and STARTING (R435); one that is STARTING begins that afresh. -/
def feederRestart (f : Nat) (s : State) : State :=
  if feederState s f = 2 then feederMove f 3 (s.setFour (fnFeeder f) true false)
  else if feederState s f = 1 then feederBegin f s
  else s

/-- The device state, or 0x2900:01, stops Headwater at once (R607, R436); a fade is abandoned with the new bank active (R417). -/
def headStop (s : State) : State :=
  let s := (List.range 4).foldl (fun s f => setFeederState f 0 (fourStop (fnFeeder f) s)) s
  let s := (List.range 4).foldl (fun s l => setLocalState l 0 (fourStop (fnLocal l) s)) s
  let s := (List.range 4).foldl (fun s r => s.setRow 0x2922 0x01 r 0) s
  let s := if s.head.fade.isSome then s.setRo 0x2921 0x01 (1 - s.ro 0x2921 0x01) else s
  (s.onHead fun h => { h with fade := none, fadeWait := 0, sv := [] }).setRo 0x2921 0x02 0

/-- Where Headwater serves, every function whose enable is set and that is OFF enters STARTING (R607). -/
def headStart (s : State) : State :=
  if headServes s then
    let s := (List.range 4).foldl (fun s f =>
      let s := if s.rw 0x2901 0x01 f = 1 ∧ feederState s f = 0 then feederMove f 1 s else s
      if svFed s f && s.ro 0x2922 0x01 f == 0 then raise 0x2907 (le 1 f ++ le 1 1) (s.setRow 0x2922 0x01 f 1) else s) s
    (List.range 4).foldl (fun s l => if s.rw 0x2910 0x01 l = 1 ∧ localState s l = 0 then setLocalState l 1 s else s) s
  else s

/-! ### Channels -/

/-- MCLK of a channel's feeder is driven in service (R401). -/
def clocked (s : State) (c : Nat) : Bool := c < 24 && headRuns s && !svFed s (c / 6) && feederState s (c / 6) != 0

/-- The MCLK period in 1/8 ps. -/
def mclkPeriod : Nat := 390625

/-- The whole number of periods that places a measured remainder within the window of R404; 1/8 ps. -/
def placeDelay (s : State) (f measured : Nat) : Option Nat :=
  let lo := 8 * s.cfg 0x2901 0x05 f
  let hi := 8 * s.cfg 0x2901 0x06 f
  let r := 8 * measured % mclkPeriod
  let d := r + (lo + mclkPeriod - 1 - r) / mclkPeriod * mclkPeriod
  if lo ≤ d ∧ d ≤ hi then some d else none

/-- The delay tap of a return delay in 1/8 ps: half an MCLK period after the data transition it predicts, to the nearest 100 ps (R405,
assumption 95). -/
def delayTap (d : Nat) : Nat := ((2 * d + mclkPeriod) % (2 * mclkPeriod) + 800) / 1600

/-- A delay fault begins (R406). -/
def delayFault (c cause drt : Nat) (s : State) : State :=
  let x := s.chan c
  if x.delayFault then s
  else raise 0x2903 (le 1 c ++ le 1 cause ++ le 4 (drt / 8)) ((s.setChan c { x with delayFault := true }).bump 0x2940 0x02)

/-- RETURN_DELAY_MEAN: the mean over 256 edges, ps modulo the MCLK period (R404, R406). -/
def returnDelay (c measured : Nat) (s : State) : State :=
  if !clocked s c then s
  else
    let f := c / 6
    let y := s.feeder f
    let s := if feederState s f = 1 then
        s.setFeeder f { y with measured := if y.measured.contains c then y.measured else c :: y.measured, measuredAt := s.now }
      else s
    match placeDelay s f measured with
    | none =>
      let s := s.setRow 0x2920 0x06 c (measured % 2 ^ 32)
      delayFault c 0 (8 * measured) (s.setChan c { s.chan c with drt := none })
    | some d =>
      let s := s.setRow 0x2920 0x06 c ((d + 4) / 8)
      let x := s.chan c
      let near : Bool := match x.drt with | some p => decide (((d : Int) - p).natAbs ≤ 8000) | none => !x.delayFault
      let s := s.setChan c { x with drt := some d, tap := delayTap d }
      if near then
        let bad := if x.delayFault then s.now else x.badUntil
        s.setChan c { x with drt := some d, tap := delayTap d, forward := forwardDelay s f d, delayFault := false, badUntil := bad }
      else delayFault c 1 d s

def execReturnDelayMean (t channel measured : Nat) (s : State) : Host.Outcome State Fault Refusal :=
  complete t (returnDelay channel measured) s

/-- MODULATOR_FAULT: no transition for 1,024 MCLK cycles (R407). -/
def modulatorFault (c : Nat) (s : State) : State :=
  if clocked s c && !(s.chan c).modFault then
    raise 0x2902 (le 1 c ++ le 1 0) ((s.setChan c { s.chan c with modFault := true }).bump 0x2940 0x01)
  else s

def execModulatorFault (t channel : Nat) (s : State) : Host.Outcome State Fault Refusal := complete t (modulatorFault channel) s

/-- MODULATOR_FAULT_CLEARED: transitions resume (R407). -/
def modulatorBack (c : Nat) (s : State) : State :=
  if (s.chan c).modFault then
    raise 0x2902 (le 1 c ++ le 1 1) (s.setChan c { s.chan c with modFault := false, badUntil := s.now })
  else s

def execModulatorFaultCleared (t channel : Nat) (s : State) : Host.Outcome State Fault Refusal := complete t (modulatorBack channel) s

/-! ### Filter banks (R414–R416) -/

/-- The coefficients of a bank. -/
def bankTaps (s : State) (b : Nat) : List Q := (List.range (bankLength s b)).map fun k => f32 (beAt (bankBytes s b) (4 * k) 4)

/-- The tests of R415 on the inactive bank. -/
def bankValid (s : State) (b : Nat) : Bool :=
  let n := bankLength s b
  let h := bankTaps s b
  let sum := Q.abs (Q.sub (Q.sum h) (Q.ofNat 4))
  n % 2 == 1 && 129 ≤ n && n ≤ 1025 && (bankBytes s b).length == 4 * n && n == bankLength s (1 - b) &&
  (List.range n).all (fun k => nonFinite [beAt (bankBytes s b) (4 * k) 4] == 0) &&
  ((h.zip h.reverse).all fun p => Q.le p.1 p.2 && Q.le p.2 p.1) && Q.le sum (Q.make 4 1000000)

/-- 0x2930:02 Switch filter bank: the fade begins once the new bank has taken N/4 inputs (R415, R416). -/
def switchBank (fade : Nat) (s : State) : State × Nat :=
  let b := 1 - s.ro 0x2921 0x01
  if s.head.fade.isSome || s.dev == stSafeTalk || s.dev == stRecovery then (s, 0x06)
  else if fade < 1 ∨ fade > 1024 ∨ bankValid s b = false then (s, 0x05)
  else ((s.onHead fun h => { h with fade := some fade, fadeWait := (bankLength s b + 24) / 25 }).setRo 0x2921 0x02 fade, 0)

def execSwitchFilterBank (t : Nat) (who : Who) (fade : Nat) (s : State) : Host.Outcome State Fault Refusal :=
  complete t (runCommand 0x2930 0x02 noRow (.num fade) who (switchBank fade)) s

/-- BANK_FADE_COMPLETE: after sample F only the new bank runs (R416). -/
def fadeComplete (s : State) : State :=
  match s.head.fade with
  | some f =>
    if s.ro 0x2921 0x02 = 0 then
      let b := 1 - s.ro 0x2921 0x01
      raise 0x2904 (le 1 b ++ le 2 f) (((s.onHead fun h => { h with fade := none }).setRo 0x2921 0x01 b).bump 0x2940 0x05)
    else s
  | none => s

def execBankFadeComplete (t : Nat) (s : State) : Host.Outcome State Fault Refusal := complete t fadeComplete s

/-! ### The rest -/

/-- PEAK_SINCE_READ: a READ of 0x2920:01 returns the value and resets it (R418). -/
def peakRead (c : Nat) (s : State) : State × Nat :=
  if c < 24 then ((s.emit (.read (s.ro 0x2920 0x01 c))).setRow 0x2920 0x01 c 0, 0) else (s, 0x01)

/-- The reader is answered as R525 says: the state's transports, the row, the role. -/
def peakSinceRead (w : Who) (c : Nat) (s : State) : State :=
  if s.reaches w then
    let (s', n) := if !offered s w .read 0x2920 0x01 then (s, 0x0D) else if roleHas ((s.roleOf w).getD 0) 1 then peakRead c s else (s, 0x02)
    (account w n s').emit (.status w n)
  else s

def execPeakSinceRead (t : Nat) (who : Who) (channel : Nat) (s : State) : Host.Outcome State Fault Refusal :=
  complete t (peakSinceRead who channel) s

/-- SV_LOST: no frame for 10 ms (R433). -/
def svLost (r : Nat) (s : State) : State :=
  let x := tabGet SvSt.reset s.head.sv r
  if r < 4 && s.ro 0x2922 0x01 r == 2 && x.lastFrame + ms 10 ≤ s.now then raise 0x2907 (le 1 r ++ le 1 3) (s.setRow 0x2922 0x01 r 3) else s

def execSvLost (t row : Nat) (s : State) : Host.Outcome State Fault Refusal := complete t (svLost row) s

/-- 0x2930:01 Clear Headwater counters (R437). -/
def clearHeadwater (s : State) : State :=
  (s.clearRange 0x2940 0x2940).clearObjects [(0x2922, 2), (0x2922, 3), (0x2922, 4), (0x2922, 5), (0x2921, 5)]

def execClearHeadwaterCounters (t : Nat) (who : Who) (s : State) : Host.Outcome State Fault Refusal :=
  complete t (runPlain 0x2930 0x01 who (ok clearHeadwater)) s

end Sys2Proof.Machine
end

