-- ==== Sys2Proof/Machine/Jobs.lean ====
section
/-! DEFINITION. Jobs and the hardware scheduler (R498–R514). -/

namespace Sys2Proof.Machine
open Sys2Proof

def State.job (s : State) (j : Nat) : JobRow := tabGet .reset s.jobs.jobs j
def State.setJob (s : State) (j : Nat) (x : JobRow) : State := s.onJobs fun a => { a with jobs := putKey j x a.jobs }
/-- User rows in use (R498, R499). -/
def jobRows (s : State) : List Nat := (rowsOf s.active 0x2C01 0x01).filter fun j => j < 3840
def jobKind (s : State) (j : Nat) : Nat := s.cfg 0x2C01 0x01 j
def jobPriority (s : State) (j : Nat) : Nat := s.cfg 0x2C01 0x02 j
def jobMask (s : State) (j : Nat) : Nat := s.cfg 0x2C01 0x06 j

/-! ### Due instants (R502, R504) -/

/-- One tick in 2^-32 cycle (R73). -/
def tickGat (s : State) : Nat := 2 ^ 32 / 2 ^ s.cfg 0x2010 0x05
/-- The tick index now, a (32 + k)-bit number. -/
def tickIndex (s : State) : Nat := s.gat / tickGat s
/-- ps since the last tick edge, at the present rate. -/
def sinceTick (s : State) : Nat := (s.gat % tickGat s) * 1000000000000 / Nat.max 1 (gatFrequency s.fnom s.time)
/-- A tick in ps. -/
def tickPs (s : State) : Nat := tickGat s * 1000000000000 / Nat.max 1 (gatFrequency s.fnom s.time)

/-- The latest due number of a job at or before now, with its due instant as T96: the tick index, whose edge is reckoned back at the present rate,
or the T96 period number, whose instant is exact and truncated (R35).  Tick indices are numbers modulo 2^(32 + k) (R36). -/
def latestDue (s : State) (j : Nat) : Option (Nat × Nat) :=
  let per := s.cfg 0x2C01 0x04 j
  let ph := s.cfg 0x2C01 0x05 j
  if s.cfg 0x2C01 0x03 j = 0 then
    if !s.time.gatOn || per = 0 then none
    else
      let n := tickIndex s
      let back := (n + per - ph % per) % per
      let all := 2 ^ (32 + s.cfg 0x2010 0x05)
      some ((n + all - back) % all, s.t96 - psToT96 (sinceTick s + back * tickPs s))
  else
    if !s.time.isSet || per = 0 then none
    else
      let p := per * 2 ^ 48
      let x := (s.t96 + 1) * 1000000 - 1 - ph * 2 ^ 48
      if (s.t96 + 1) * 1000000 ≤ ph * 2 ^ 48 then none
      else some (x / p, (x / p * p + ph * 2 ^ 48) / 1000000)

/-! ### Cores (R507, R508, R512) -/

/-- The job running on a core. -/
def runningOn (s : State) (c : Nat) : Option Nat :=
  (s.jobs.jobs.find? fun e => match e.2.run with | some r => r.core == some c | none => false).map (·.1)
/-- Unparked cores of a mask, in increasing number. -/
def coresOf (s : State) (m : Nat) : List Nat := (List.range 16).filter fun c => bit m c && !s.jobs.parked.contains c
/-- A job's preferred core (R507, R512). -/
def preferredCore (s : State) (j : Nat) : Option Nat :=
  match (s.job j).preferred with
  | some c => if s.jobs.parked.contains c then (coresOf s (jobMask s j)).head? else some c
  | none => (coresOf s (jobMask s j)).head?

/-- A job is ready and not running. -/
def isReady (s : State) (j : Nat) : Bool := match (s.job j).run with | some r => r.core.isNone | none => false

/-- Job a is taken before job b: priority, then the pre-empted, then due instant, then row (R507, R508). -/
def takenBefore (s : State) (a b : Nat) : Bool :=
  let pa := jobPriority s a
  let pb := jobPriority s b
  let due : Nat → Nat := fun j => match (s.job j).run with | some r => r.due | none => 0
  let rank : Nat → Nat := fun j => (s.jobs.preempted.takeWhile fun k => k != j).length
  if pa ≠ pb then pb < pa
  else if rank a ≠ rank b then rank a < rank b
  else if due a ≠ due b then due a < due b
  else a < b

/-- A ready job can take a core: its preferred one, or any of its mask when it waits for the first to become free. -/
def wantsCore (s : State) (j c : Nat) : Bool :=
  isReady s j && (preferredCore s j == some c ||
    (match (s.job j).run with | some r => r.anyCore | none => false) && (coresOf s (jobMask s j)).contains c)
/-- No other ready job that is taken before it can take the core. -/
def firstFor (s : State) (j c : Nat) : Bool := (jobRows s).all fun k => k == j || !wantsCore s k c || !takenBefore s k j

/-- Add the time a job has been on its core to the core's busy time (0x2C11:03). -/
def addBusy (c : Nat) (r : Run) (s : State) : State :=
  s.onJobs fun a => { a with busy := putKey c (tabGet 0 a.busy c + (s.now - Nat.max a.busyFrom r.since)) a.busy }

/-- Start a ready job on a core; a run on another core than the preferred is a move. -/
def startOn (j c : Nat) (s : State) : State :=
  let x := s.job j
  match x.run with
  | none => s
  | some r =>
    let s := if preferredCore s j = some c then s else s.bump 0x2C10 0x07 j
    let s := s.setJob j { x with run := some { r with core := some c, firstDispatch := some (r.firstDispatch.getD s.now), anyCore := false, since := s.now } }
    let s := s.onJobs fun a => { a with preempted := a.preempted.filter fun k => k != j }
    let ns := (s.now - r.dueAt) / 1000
    if r.firstDispatch.isSome || ns ≤ s.ro 0x2C10 0x03 j then s else s.setRow 0x2C10 0x03 j (Nat.min ns 0xFFFFFFFF)

/-- Pre-empt the job on a core: it returns to the head of its priority's ready list and keeps its preferred core; its wait counts anew (R508). -/
def preempt (c : Nat) (s : State) : State :=
  match runningOn s c with
  | none => s
  | some k =>
    let x := s.job k
    match x.run with
    | none => s
    | some r =>
      let s := addBusy c r (s.setJob k { x with run := some { r with core := none, waitFrom := tickIndex s, anyCore := false } })
      (s.onJobs fun a => { a with preempted := k :: a.preempted.filter fun i => i != k }).bump 0x2C10 0x08 k

/-- JOB_DISPATCH (R507): to the preferred core when it is idle or runs a job of lower priority; a job that waits for any core of its mask takes
the first idle one; no ready job that is taken before it wants the same core. -/
def jobDispatch (j : Nat) (s : State) : State :=
  match (s.job j).run with
  | none => s
  | some r =>
    if r.core.isSome || !s.running then s
    else
      let wants := if r.anyCore then (coresOf s (jobMask s j)).find? fun c => (runningOn s c).isNone else none
      match wants.orElse (fun _ => preferredCore s j) with
      | none => s
      | some c =>
        if !firstFor s j c then s
        else match runningOn s c with
          | none => startOn j c s
          | some k => if jobPriority s k < jobPriority s j then startOn j c (preempt c s) else s

def execJobDispatch (t job : Nat) (s : State) : Host.Outcome State Fault Refusal := complete t (jobDispatch job) s

/-- The tick index at an instant `ago` ps before now. -/
def tickAt (s : State) (ago : Nat) : Nat :=
  let m := 2 ^ (32 + s.cfg 0x2010 0x05)
  let edges := (ago - sinceTick s + tickPs s - 1) / Nat.max 1 (tickPs s)
  (tickIndex s + m - edges % m) % m
/-- Tick edges that have passed since a tick index. -/
def ticksSince (s : State) (from_ : Nat) : Nat :=
  let m := 2 ^ (32 + s.cfg 0x2010 0x05)
  if s.time.gatOn then (tickIndex s + m - from_ % m) % m else 0

/-- JOB_WAIT_EXPIRY (R507): the second tick edge after readiness has passed: the first idle core of the mask, else the core that runs the lowest
priority, else the first one to become free. -/
def jobWaitOver (j : Nat) (s : State) : State :=
  let x := s.job j
  match x.run with
  | none => s
  | some r =>
    if r.core.isSome || !s.running || ticksSince s r.waitFrom < 2 then s
    else
      let cores := coresOf s (jobMask s j)
      match cores.find? fun c => (runningOn s c).isNone with
      | some c => if firstFor s j c then startOn j c s else s
      | none =>
        let pri := fun (c : Nat) => match runningOn s c with | some k => jobPriority s k | none => 16
        match cores.foldl (fun (b : Option Nat) c => match b with | some d => if pri c < pri d then some c else b | none => some c) none with
        | none => s
        | some c =>
          if pri c < jobPriority s j then startOn j c (preempt c s)
          else s.setJob j { x with run := some { r with anyCore := true } }

def execJobWaitExpiry (t job : Nat) (s : State) : Host.Outcome State Fault Refusal := complete t (jobWaitOver job) s

/-! ### Results (R499, R500) -/

/-- Input k of a job: signal or row, coefficient, part. -/
def jobInput (s : State) (j k : Nat) : Option (Nat × Q × Nat) :=
  let row := 8 * j + k
  let sig := s.cfg 0x2C02 0x01 row
  if sig = 0xFFFFFFFF then none else some (sig, s.cfgF 0x2C02 0x02 row, s.cfg 0x2C02 0x03 row)

/-- A phasor angle in degrees in (−180, 180]. -/
def degrees (turn : Nat) : Q :=
  let d := ofTwos 32 turn
  dbl (Q.make ((if d = -(2 ^ 31) then (2 ^ 31 : Int) else d) * 360) (2 ^ 32))
/-- A phasor as real and imaginary part, in binary64. -/
def rectangular (w : Nat) : Q × Q :=
  let m := f32 (w / 2 ^ 32)
  let (sn, cs) := sincosTurn (Q.make (w % 2 ^ 32) (2 ^ 32))
  (dbl (Q.mul m (dbl cs)), dbl (Q.mul m (dbl sn)))

/-- An input's value by its part. -/
def inputPart (s : State) (sig part w : Nat) : Q :=
  let digital : Bool := match kindOf s sig with | some (k, _) => k == 4 | none => false
  match part with
  | 0 => if digital then Q.ofNat (w % 65536) else f32 (w / 2 ^ 32)
  | 1 => degrees (w % 2 ^ 32)
  | 2 => (rectangular w).1
  | _ => (rectangular w).2

/-- Committed cells of a signal whose commit lies before a due instant, newest first. -/
def committedBefore (s : State) (sig due : Nat) : List Cell :=
  ((tabGet [] s.jobs.history sig).filter fun e => e.1 < due).map fun e => e.2.2

/-- A result: the value or the missing input that prevents it (0xFF no slot), and whether an input carries quality [4] or [3]. -/
structure JobResult where
  value : Option Q
  missing : Nat
  flagged : Bool

/-- A sum in binary64, from the left. -/
def sumDbl (l : List Q) : Q := l.foldl (fun acc x => dbl (Q.add acc x)) Q.zero
/-- A product in binary64. -/
def mulDbl (a b : Q) : Q := dbl (Q.mul a b)

/-- The statistic of kind 5 (R499, R500). -/
def windowStatistic (which : Nat) (l : List Q) : Q :=
  let n := Q.ofNat l.length
  match which, l with
  | _, [] => Q.zero
  | 0, _ => Q.div (sumDbl l) n
  | 1, a :: r => r.foldl Q.min a
  | 2, a :: r => r.foldl Q.max a
  | _, _ => Q.sqrt (dbl (Q.div (sumDbl (l.map fun x => mulDbl x x)) n))

/-- The result of kinds 1–5 at a due instant. -/
def jobResult (s : State) (j due : Nat) : JobResult :=
  let kind := jobKind s j
  let used := (List.range (if kind = 1 then 8 else if kind = 3 then 8 else if kind = 5 then 1 else 2)).filterMap fun k =>
    (jobInput s j k).map fun i => (k, i)
  let bad := fun (c : Cell) => bit c.quality 4 || bit c.quality 3
  if kind = 5 then
    match used with
    | [] => ⟨none, 0xFF, false⟩
    | (_, sig, _, part) :: _ =>
      let cells := (committedBefore s sig due).take (s.cfg 0x2C01 0x0C j)
      let good := cells.filter fun c => c.word != missingWord
      if cells.isEmpty then ⟨none, 0xFF, false⟩
      else if (cells.length - good.length) * 2 > cells.length then ⟨none, 0, cells.any bad⟩
      else ⟨some (windowStatistic (s.cfg 0x2C01 0x0D j) (good.map fun c => inputPart s sig part c.word)), 0, cells.any bad⟩
  else
    let cells := used.map fun u => (u.1, u.2.1, u.2.2.1, u.2.2.2, (committedBefore s u.2.1 due).head?)
    let cellOf := fun (k : Nat) => (cells.find? fun e => e.1 == k).bind fun e => e.2.2.2.2.map fun c => (e.2.1, e.2.2.1, e.2.2.2.1, c)
    let flagged := cells.any fun e => match e.2.2.2.2 with | some c => bad c | none => false
    match cells.find? fun e => match e.2.2.2.2 with | some c => c.word == missingWord | none => true with
    | some e => ⟨none, if e.2.2.2.2.isNone then 0xFF else e.1, flagged⟩
    | none =>
      let word := fun (k : Nat) => match cellOf k with | some (_, _, _, c) => c.word | none => 0
      let coef := fun (k : Nat) => match cellOf k with | some (_, a, _, _) => a | none => Q.zero
      let val := fun (k : Nat) => match cellOf k with | some (sig, _, p, c) => inputPart s sig p c.word | none => Q.zero
      let term := fun (k : Nat) => mulDbl (coef k) (val k)
      match kind with
      | 1 => ⟨some (sumDbl (s.cfgF 0x2C01 0x0B j :: (List.range 8).map term)), 0, flagged⟩
      | 2 => ⟨some (degrees ((word 0 % 2 ^ 32 + 2 ^ 32 - word 1 % 2 ^ 32) % 2 ^ 32)), 0, flagged⟩
      | 3 =>
        let pair := fun (m : Nat) =>
          match cellOf (2 * m), cellOf (2 * m + 1) with
          | some _, some _ =>
            let v := rectangular (word (2 * m))
            let i := rectangular (word (2 * m + 1))
            mulDbl (mulDbl (coef (2 * m)) (Q.ofNat 3)) (dbl (Q.add (mulDbl v.1 i.1) (mulDbl v.2 i.2)))
          | _, _ => Q.zero
        ⟨some (Q.div (sumDbl ((List.range 4).map pair)) (Q.ofNat 1000000)), 0, flagged⟩
      | 4 => if Q.eqv (term 1) Q.zero then ⟨none, 1, flagged⟩ else ⟨some (Q.div (term 0) (term 1)), 0, flagged⟩
      | _ => ⟨none, 0xFF, flagged⟩

/-- Post a job report (R508). -/
def jobReport (kind j due : Nat) (words : List Nat) (s : State) : State :=
  sluicePost 6 ([0x7 * 2 ^ 60 + kind * 2 ^ 56 + j * 2 ^ 32 + s.ro 0x2C10 0x01 j % 2 ^ 32, due / 2 ^ 32 % 2 ^ 64,
                 due % 2 ^ 32 * 2 ^ 32 + words.length * 2 ^ 24] ++ words) s

/-- The words of a report build. -/
def reportWords (s : State) (j : Nat) : List Nat :=
  (List.range 8).filterMap fun k => (jobInput s j k).map fun i =>
    s.ro 0x2C20 0x01 i.1 * 2 ^ 32 + s.ro 0x2C20 0x02 i.1 * 2 ^ 24 + i.1 % 4096 * 2 ^ 12

/-! ### States of a job (R506) -/

/-- Change a job's state, with its event. -/
def setJobState (j new : Nat) (s : State) : State :=
  let x := s.job j
  if x.state = new then s else raise 0x2C02 (le 2 j ++ le 1 x.state ++ le 1 new) (s.setJob j { x with state := new })

/-- Follow the four-state rule: STARTING looks for its first due instant, STOPPING ends with the run in progress. -/
def jobMove (j new : Nat) (s : State) : State :=
  let s := setJobState j new s
  let begin := fun (s : State) => s.setJob j { s.job j with notBefore := s.now + (if s.time.gatOn then tickPs s else 0), lastDue := none }
  if new = 1 then begin s
  else if new = 3 ∧ (s.job j).run = none then
    let (s, n) := fourEnd (fnJob j) 3 s
    let s := setJobState j n s
    if n = 1 then begin s else s
  else s

/-- JOB_ENABLE (R506, R607). -/
def jobEnable (j : Nat) (on : Bool) (s : State) : State :=
  if !s.running then s
  else
    let old := (s.job j).state
    let (s, new) := fourWrite (fnJob j) old on s
    if new = old then s else jobMove j new s

def execJobEnable (t : Nat) (who : Who) (job : Nat) (on : Bool) (s : State) : Host.Outcome State Fault Refusal :=
  complete t (runWrite 0x2C01 0x0A job (.num (b2n on)) who (jobEnable job on)) s

/-- A job becomes due: ready, or an overrun (R503, R510). -/
def becomeDue (j due ago : Nat) (command : Bool) (s : State) : State :=
  let s := s.setRow 0x2C10 0x05 j due
  let x := s.job j
  if x.run.isSome then
    let s := (s.setJob j { x with overrun := true }).bump 0x2C10 0x02 j
    let s := raiseOnce 0x2C01 j (le 2 j ++ le 4 (s.ro 0x2C10 0x02 j)) s
    if s.cfgB 0x2C01 0x0E j then jobReport 1 j due [] s else s
  else s.setJob j { x with run := some ⟨due, s.now - ago, tickAt s ago, none, none, command, s.gatFlags, false, 0⟩ }

/-- A due number is taken already: the same tick index, or a T96 period not after the last one (R504). -/
def dueTaken (s : State) (j n : Nat) : Bool :=
  match (s.job j).lastDue with
  | none => false
  | some m => if s.cfg 0x2C01 0x03 j = 0 then n == m else decide (n ≤ m)

/-- JOB_DUE (R503, R506): a due instant not yet taken, of a job that is ON, or the first one of a STARTING job. -/
def jobDue (j : Nat) (s : State) : State :=
  let x := s.job j
  if !(s.running && j < 3840 && jobKind s j != 0 && (x.state == 1 || x.state == 2)) then s
  else match latestDue s j with
    | none => s
    | some (n, due) =>
      let ago := t96ToPs (s.t96 - due)
      if dueTaken s j n || s.now < x.notBefore + ago then s
      else
        let s := s.setJob j { x with lastDue := some n }
        let (s, st) := if x.state = 1 then fourEnd (fnJob j) 1 s else (s, 2)
        let s := setJobState j st s
        if st = 3 then jobMove j 3 s
        else becomeDue j due ago false s

def execJobDue (t job : Nat) (s : State) : Host.Outcome State Fault Refusal := complete t (jobDue job) s

/-- 0x2C30:02 Run job now (R511): a user row in use whose last run has ended. -/
def runJobNow (j : Nat) (s : State) : State × Nat :=
  if j ≥ 3840 then (s, 0x05)
  else if jobKind s j = 0 ∨ (s.job j).run.isSome = true then (s, 0x06)
  else
    let x := s.job j
    (s.setJob j { x with run := some ⟨s.t96, s.now, tickIndex s, none, none, true, s.gatFlags, false, 0⟩ }, 0)

def execRunJobNow (t : Nat) (who : Who) (job : Nat) (s : State) : Host.Outcome State Fault Refusal :=
  complete t (runCommand 0x2C30 0x02 job (.num 0) who (runJobNow job)) s

/-- JOB_RUN_END (R508–R511). -/
def jobRunEnd (j : Nat) (s : State) : State :=
  let x := s.job j
  match x.run with
  | none => s
  | some r =>
    match r.core with
    | none => s
    | some c =>
      let s := s.bump 0x2C10 0x01 j
      let ns := (s.now - r.firstDispatch.getD s.now) / 1000
      let s := if ns ≤ s.ro 0x2C10 0x04 j then s else s.setRow 0x2C10 0x04 j (Nat.min ns 0xFFFFFFFF)
      let flags := 2 * b2n (bit r.gatFlags 0) + 4 * b2n (bit r.gatFlags 2) + 16 * b2n x.overrun
      let s :=
        if jobKind s j = 6 then (jobReport 0 j r.due (reportWords s j) s).setRow 0x2C20 0x02 j flags |>.setRow 0x2C20 0x03 j r.due
        else
          let y := jobResult s j r.due
          let bits := b2n y.value.isNone + 8 * b2n y.flagged + flags
          let s := (s.setRow 0x2C20 0x01 j (match y.value with | some q => toF32 q | none => nanF32)).setRow 0x2C20 0x02 j bits
          let s := s.setRow 0x2C20 0x03 j r.due
          if y.value.isNone then raiseOnce 0x2C04 j (le 2 j ++ le 1 y.missing) s else s
      let s := s.setJob j { s.job j with run := none, preferred := some c, overrun := false }
      let s := addBusy c r s
      if x.state = 3 then jobMove j 3 s else s

def execJobRunEnd (t job : Nat) (s : State) : Host.Outcome State Fault Refusal := complete t (jobRunEnd job) s

/-- 0x2C30:01 Clear job statistics. -/
def clearJobs (s : State) : State :=
  s.clearObjects [(0x2C10, 1), (0x2C10, 2), (0x2C10, 3), (0x2C10, 4), (0x2C10, 7), (0x2C10, 8), (0x2C00, 3)]

def execClearJobStatistics (t : Nat) (who : Who) (s : State) : Host.Outcome State Fault Refusal :=
  complete t (runPlain 0x2C30 0x01 who (ok clearJobs)) s

/-! ### Committed inputs, entry to RUN, swaps, stop -/

/-- Signals that user jobs take as inputs. -/
def jobSignals (s : State) : List Nat :=
  ((rowsOf s.active 0x2C02 0x01).filter fun r => jobKind s (r / 8) != 0 && jobKind s (r / 8) != 6).map fun r => s.cfg 0x2C02 0x01 r

/-- Jobs' part of COMMIT(i): the committed cells of their inputs (R500). -/
def jobsCommit (g i : Nat) (s : State) : State :=
  match (s.group g).slot? i with
  | none => s
  | some sl =>
    let mine := (jobSignals s).filter fun sig => match ownerOf s sig with | some h => groupOf s h == g | none => false
    s.onJobs fun a => { a with history := mine.foldl (fun t sig =>
      putKey sig (((s.t96, i, sl.present true sig) :: (tabGet [] t sig).filter fun e => e.2.1 != i).take 8256) t) a.history }

/-- Inputs a swap adds take the committed slots that the grid still holds (R500). -/
def seedHistory (s : State) : State :=
  let new := (distinct (jobSignals s)).filter fun sig => (lookup sig s.jobs.history).isNone
  let held := fun (sig : Nat) =>
    match ownerOf s sig with
    | none => []
    | some h => ((s.group (groupOf s h)).slots.filter fun e => e.2.state == 4).reverse.map fun e => (e.2.commitT96, e.1, e.2.present true sig)
  s.onJobs fun a => { a with history := new.foldl (fun t sig => putKey sig (held sig) t) a.history }

/-- On entry to RUN each enabled job starts from its first due instant (R513). -/
def jobsStart (s : State) : State :=
  let s := s.onJobs fun _ => .reset
  (jobRows s).foldl (fun s j => if s.rw 0x2C01 0x0A j = 1 then
    let s := jobMove j 1 s
    s.setJob j { s.job j with notBefore := s.now } else s) s

/-- The C-die stops: every job is OFF at once (R513, R607). -/
def jobsStop (s : State) : State :=
  let s := s.onPower fun p => { p with fourFlags := p.fourFlags.filter fun e => !(0x1000 ≤ e.1 && e.1 < 0x10000) }
  s.onJobs fun _ => .reset

/-- At a swap (R505): grid-tick jobs are re-based when the grid tick changes; jobs whose rows change start afresh. -/
def jobsSwap (before : Dict) (s : State) : State :=
  let k := s.cfg 0x2010 0x05
  let rebase := (readIn before 0x2010 0x05 noRow).bits ≠ k
  let part := fun (d : Dict) (j : Nat) =>
    d.filter fun e => (e.1 / 0x100000000 == 0x2C01 && e.1 % 0x1000000 == j) || (e.1 / 0x100000000 == 0x2C02 && e.1 % 0x1000000 / 8 == j)
  let live := (s.jobs.jobs.map (·.1)).filter fun j => (s.job j).state == 1 || (s.job j).state == 2
  let s := seedHistory s
  let n := (live.filter fun j => s.cfg 0x2C01 0x03 j == 0).length
  let fresh := live.filter fun j => (rebase && s.cfg 0x2C01 0x03 j == 0) || part before j != part s.active j
  let s := fresh.foldl (fun s j => s.setJob j { s.job j with notBefore := s.now, lastDue := none }) s
  let s := (jobRows s).foldl (fun s j => if s.rw 0x2C01 0x0A j = 1 ∧ (s.job j).state = 0 ∧ s.running = true then jobMove j 1 s else s) s
  if rebase then raise 0x2C03 (le 1 k ++ le 2 n) s else s

/-- Busy fractions of the last 100 ms (0x2C11:03), at the Herder's sample. -/
def busySample (s : State) : State :=
  let s := (List.range 16).foldl (fun s c =>
    let run : Nat := match (runningOn s c).bind fun j => (s.job j).run with
      | some d => s.now - Nat.max d.since s.jobs.busyFrom
      | none => 0
    s.setRow 0x2C11 0x03 c (Nat.min 10000 ((tabGet 0 s.jobs.busy c + run) * 10000 / ms 100))) s
  s.onJobs fun a => { a with busy := [], busyFrom := s.now }

end Sys2Proof.Machine
end

