-- ==== Sys2Proof/Machine/Log.lean ====
section
/-! DEFINITION. The event log (R589–R596), summary windows (R720) and their commands. -/

namespace Sys2Proof.Machine
open Sys2Proof

/-- The 32 bytes of a log entry, little-endian (R589). -/
def Event.bytes (e : Event) : List Byte :=
  le 12 e.stamp ++ le 2 e.code ++ le 1 (8 * b2n e.internal + e.severity) ++ le 1 e.source ++ fit 16 e.params

/-- The event packet of R565: type 0x3, the index, and the entry in four words. -/
def eventPacket (index : Nat) (e : Event) : List Nat :=
  (0x3 * 2 ^ 60 + index) :: [0, 8, 16, 24].map fun o => ofLE (slice e.bytes o 8)

/-- The log's fill, C − B modulo 2^32 (R591). -/
def LogSt.fill (l : LogSt) : Nat := (l.cursor + 2 ^ 32 - l.base) % 2 ^ 32

/-- MRAM and the key store have passed, so that the logger records (R596). -/
def recording (s : State) : Bool := !s.power.mramLost && !s.keys.integrityFailed

/-- An event as it is accepted now. -/
def eventNow (code : Nat) (params : List Byte) (s : State) : Event :=
  let (st, int) := s.stampNow
  ⟨st, int, code, severityOf code, sourceOf code, fit 16 params⟩

/-- Write one entry to MRAM under the next index and post it to the events Sluice (R590). -/
def putEntry (e : Event) (s : State) : State :=
  let i := s.log.cursor
  sluicePost 2 (eventPacket i e)
    (s.onLog fun l => { l with entries := putKey i e l.entries, cursor := (i + 1) % 2 ^ 32, lastWrite := s.now })

/-- Write an entry; at fill 65,535 event 0x2E07 is written as the last one and recording stops; past that an event is counted and posted
with index 0xFFFF_FFFF (R591, R596). -/
def writeEntry (e : Event) (s : State) : State :=
  if !recording s then sluicePost 2 (eventPacket 0xFFFFFFFF e) (s.onLog fun l => { l with lastWrite := s.now })
  else if s.log.full then
    sluicePost 2 (eventPacket 0xFFFFFFFF e)
      (((s.onLog fun l => { l with lastWrite := s.now }).bump 0x2E20 0x04).bump 0x2E20 0x06)
  else
    let s := putEntry e s
    if s.log.fill = 65535 then
      (putEntry (eventNow 0x2E07 (le 4 s.log.base) s) s).onLog fun l => { l with full := true }
    else s

/-- The 0x2E0A entry owed for drops, before the next entry: input FIFO first, then hold buffer (R592). -/
def payDrop (s : State) : Option State :=
  if s.log.droppedInput ≠ 0 then
    some (writeEntry (eventNow 0x2E0A (le 4 s.log.droppedInput ++ le 1 0) s) (s.onLog fun l => { l with droppedInput := 0 }))
  else if s.log.droppedHold ≠ 0 then
    some (writeEntry (eventNow 0x2E0A (le 4 s.log.droppedHold ++ le 1 1) s) (s.onLog fun l => { l with droppedHold := 0 }))
  else none

/-- Write an entry after those owed for drops. -/
def writeNext (e : Event) (s : State) : State :=
  let s := (payDrop s).getD s
  writeEntry e ((payDrop s).getD s)

/-- The logger takes one event: first the 0x2E0A entries owed for drops (R592), else the oldest accepted event, into MRAM or, while
frozen, into the hold buffer (R593).  At most one entry per µs is written (R590). -/
def logStep (s : State) : State :=
  if !s.powered || s.dev == stRecovery || (s.dev == stStart && !s.power.selfTestPassed) then s
  else if s.now < s.log.lastWrite + us 1 && s.log.lastWrite != 0 then s
  else match s.log.fifo with
    | [] => s
    | e :: rest =>
      if s.log.frozenBy.isSome then
        let s := s.onLog fun l => { l with fifo := rest }
        if s.log.hold.length < holdDepth then s.onLog fun l => { l with hold := l.hold ++ [e] }
        else ((s.onLog fun l => { l with droppedHold := l.droppedHold + 1 }).bump 0x2E20 0x04).bump 0x2E20 0x07
      else match payDrop s with
        | some s => s
        | none => writeEntry e (s.onLog fun l => { l with fifo := rest })

def execEventLogWrite (t : Nat) (s : State) : Host.Outcome State Fault Refusal := complete t logStep s

/-- A source posts an event of its own (R590). -/
def execEventPost (t code source : Nat) (params : List Byte) (s : State) : Host.Outcome State Fault Refusal :=
  complete t (raiseFrom source code params) s

/-- 0x2E50:02 with argument 1 (R593): refused with 0x06 to another session than the one that holds the freeze. -/
def freezeLog (w : Who) (s : State) : State × Nat :=
  match s.log.frozenBy with
  | some k => if k = (whoRow w) then (s, 0) else (s, 0x06)
  | none =>
    let s := writeNext (eventNow 0x2E09 (le 1 1 ++ le 1 (whoRow w)) s) s
    (s.onLog fun l => { l with frozenBy := some (whoRow w), frozenAt := s.now }, 0)

def execFreezeLog (t : Nat) (who : Who) (s : State) : Host.Outcome State Fault Refusal :=
  complete t (runCommand 0x2E50 0x02 noRow (.num 1) who (freezeLog who)) s

/-- Release the freeze: the held entries are written in order, then event 0x2E09 with state 0 and their number (R593). -/
def releaseFreeze (s : State) : State :=
  match s.log.frozenBy with
  | none => s
  | some k =>
    let held := s.log.hold
    let s := s.onLog fun l => { l with frozenBy := none, hold := [] }
    let s := held.foldl (fun s e => writeNext e s) s
    writeNext (eventNow 0x2E09 (le 1 0 ++ le 1 k ++ le 4 held.length) s) s

/-- 0x2E50:02 with argument 0: releases the freeze of the same session. -/
def releaseLog (w : Who) (s : State) : State × Nat :=
  match s.log.frozenBy with
  | some k => if k = (whoRow w) then (releaseFreeze s, 0) else (s, 0x06)
  | none => (s, 0)

def execReleaseLogFreeze (t : Nat) (who : Who) (s : State) : Host.Outcome State Fault Refusal :=
  complete t (runCommand 0x2E50 0x02 noRow (.num 0) who (releaseLog who)) s

/-- The freeze timeout has expired (R593). -/
def freezeTimeout (s : State) : State :=
  if s.log.frozenBy.isSome && s.log.frozenAt + sec (s.cfg 0x2E20 0x0A) ≤ s.now then releaseFreeze s else s

def execLogFreezeTimeout (t : Nat) (s : State) : Host.Outcome State Fault Refusal := complete t freezeTimeout s

/-- Advance the generation of an object whose content has changed (R529). -/
def touch (idx sub row : Nat) (s : State) : State :=
  let k := okey idx sub row
  s.onImian fun i => { i with generations := putKey k (tabGet 1 i.generations k + 1) i.generations }

/-- 0x2E50:03 Clear event log (R595). -/
def clearLog (s : State) : State × Nat :=
  if s.log.frozenBy.isSome then (s, 0x06)
  else
    let old := s.log.base
    let n := s.log.fill
    let d := s.ro 0x2E20 0x04
    let s := s.onLog fun l => { l with base := l.cursor, full := false, entries := [] }
    let s := s.clearObjects [(0x2E20, 0x04), (0x2E20, 0x06), (0x2E20, 0x07), (0x2E20, 0x08)]
    let s := touch 0x2E22 0x01 noRow s
    (writeEntry (eventNow 0x2E08 (le 4 old ++ le 4 n ++ le 4 d) s) s, 0)

def execClearEventLog (t : Nat) (who : Who) (s : State) : Host.Outcome State Fault Refusal :=
  complete t (runPlain 0x2E50 0x03 who clearLog) s

/-- 0x2E50:05 Clear housekeeping counters (R598). -/
def clearHousekeeping (s : State) : State :=
  s.clearObjects [(0x2E30, 0x01), (0x2E30, 0x02), (0x2E30, 0x03), (0x2E30, 0x05), (0x2E10, 0x04), (0x2E10, 0x05)]

def execClearHousekeepingCounters (t : Nat) (who : Who) (s : State) : Host.Outcome State Fault Refusal :=
  complete t (runPlain 0x2E50 0x05 who (ok clearHousekeeping)) s

/-- The parameters of a summary event (R720): its counts, and its "now" quantity at the window's end. -/
def windowParams (w : Window) (s : State) : List Byte :=
  if w.code = 0x2D03 then le 1 w.key ++ le 4 w.countA
  else if w.code = 0x2501 then
    le 4 w.countA ++ le 4 w.countB ++ le 4 (s.eddy.bands.filter fun e => e.2.spec.state == 1).length
  else
    let broken := (s.oxbow.groups.map fun g => (g.2.edges.filter fun e => e.2.state == 1).length).foldl (· + ·) 0
    le 4 w.countA ++ le 4 w.countB ++ le 4 broken

/-- A summary window ends and its event is raised (R720). -/
def windowEnd (code key : Nat) (s : State) : State :=
  match s.log.windows.find? (fun w => w.code == code && w.key == key && w.openedAt + sec 1 ≤ s.now) with
  | none => s
  | some w =>
    raise code (windowParams w s) (s.onLog fun l => { l with windows := l.windows.erase w })

def execSummaryWindowEnd (t code key : Nat) (s : State) : Host.Outcome State Fault Refusal := complete t (windowEnd code key) s

end Sys2Proof.Machine
end

