-- ==== Sys2Proof/Machine/Degrade.lean ====
section
/-! DEFINITION. Changes of device state (R27, R601, R604), the loss of the C-die, and the entries to SENTINEL (R624) and SAFE_TALK
(R627). -/

namespace Sys2Proof.Machine
open Sys2Proof

/-- The device state takes a new value, counted (R601); the trial window runs in RUN and TRIM alone (R664). -/
def setDevState (new cause : Nat) (s : State) : State :=
  let was := s.running
  let will := new == stRun || new == stTrim
  let left := match s.keys.trialUntil with | some u => u - s.now | none => s.keys.trialLeft
  let fresh := if s.keys.trialLeft = 0 then sec (s.cfg 0x3100 0x01) else s.keys.trialLeft
  let s := (s.onPower fun p => { p with state := new, cause := cause, enteredAt := s.now }).bump 0x2F20 0x01
  if was && !will then s.onKeys fun k => { k with trialUntil := none, trialLeft := left }
  else if will && !was && bit s.keys.bankWord 8 then s.onKeys fun k => { k with trialUntil := some (s.now + fresh) }
  else s

/-- A change between powered states: event 0x1020, INT_STATUS[12] (R27, R557). -/
def changeState (new cause : Nat) (s : State) : State :=
  let s := setDevState new cause (raise 0x1020 (le 1 s.dev ++ le 1 new ++ le 1 cause) s)
  if new = stStart then s else s.interrupt 12

/-- Write every event accepted to the log: the logger keeps pace with 1 event in 1 µs (R590). -/
def drainLog (s : State) : State :=
  (List.range (s.log.fifo.length + 2)).foldl (fun s _ => logStep (s.onLog fun l => { l with lastWrite := 0 })) s

/-! ### PCIe link and held counters -/

/-- The link goes off: exports abort, rings stop (R568, R571). -/
def pcieOff (cause : Nat) (s : State) : State :=
  if s.host.linkUp then
    let s := ringExportAbort (recordExportAbort s)
    let s := s.onHost fun h => { h with linkUp := false, archive := { h.archive with enabled := false },
                                        exportRing := { h.exportRing with enabled := false } }
    raise 0x2D02 (le 1 cause) ((s.bump 0x2D10 0x06).interrupt 13)
  else s

/-- Indexes whose counters Byrdo holds: Confluence, Herder, Eddy, Oxbow, alarm rules, publishing, jobs (R579). -/
def heldIndexes : List Nat := [0x2320, 0x2420, 0x2540, 0x2630, 0x2720, 0x2840, 0x2C10]
def isHeld (k : Nat) : Bool := heldIndexes.contains (k / 0x100000000)

/-- HELD_COUNTER_COPY: every 10 ms while the C-die runs (R579). -/
def copyCounters (s : State) : State :=
  if s.running then s.onLog fun l => { l with held := (s.setRo 0x2540 0x04 (bandsInvalid s)).status.filter fun e => isHeld e.1 } else s

def execHeldCounterCopy (t : Nat) (s : State) : Host.Outcome State Fault Refusal := complete t copyCounters s

/-- The C-die has stopped: those objects read from the store (R579), with every counters-stopped flag of the C-die's chapters set. -/
def holdCounters (s : State) : State :=
  let d := s.log.held.foldl (fun d e => putKey e.1 e.2 d) (s.status.filter fun e => !isHeld e.1)
  let s := { s with status := d }
  [(0x2230, 0x0F), (0x2321, 0x01), (0x2420, 0x0A), (0x2540, 0x0B), (0x2630, 0x09), (0x2720, 0x0E), (0x2840, 0x0E), (0x2C00, 0x03)].foldl
    (fun s o => s.setRo o.1 o.2 1) s

/-! ### Loss of the C-die -/

/-- The rule engine stops: alarms are lost without a report; instance and frame numbers go on until START (R372). -/
def alarmStop (s : State) : State :=
  s.onAlarm fun a => { AlarmSt.reset with
    alarms := a.alarms.map fun e => (e.1, { Alarm.reset with instance_ := e.2.instance_ })
    frameSeq := a.frameSeq, pins := a.pins, goose := a.goose, heartbeatAt := a.heartbeatAt }

/-- Everything that lives on the C-die or in package memory is lost (R233, R264, R306, R339, R397, R460, R513); stream states stay as last
shown (R180).  The mode meter is STOPPED; islands end with cause 3 and no packet (R325, R339). -/
def cdieLost (s : State) : State :=
  let s := jobsStop (alarmStop s)
  let s := ringExportAbort (recordExportAbort s)
  let s := captureLoseStore 0 s
  let s := setModeState 4 4 s
  let s := s.oxbow.reported.foldl (fun s e => raise 0x2602 (le 2 e.1 ++ le 1 3 ++ le 1 e.2.group) s) s
  let s := { s with groups := [], eddy := { EddySt.reset with locals := s.eddy.locals.filter fun e => e.1 ≥ 16 }
                    oxbow := { OxbowSt.reset with lastId := s.oxbow.lastId, gens := s.oxbow.gens, lom := s.oxbow.lom }
                    ingest := IngestSt.reset
                    pub := { PubSt.reset with spduNo := s.pub.spduNo }
                    place := { PlaceSt.reset with slices := s.place.slices, restoreRetired := s.place.restoreRetired,
                                                  unspared := s.place.unspared, interleaveKey := s.place.interleaveKey } }
  let s := s.setRo 0x2250 0x04 0
  holdCounters s

/-- The RTC count now: the last one known and the time since at the nominal rate (DESIGN CHOICE, assumption 25). -/
def rtcNow (s : State) : Nat := (s.power.lastRtc + (s.now - s.power.rtcAt) * 32768 / 1000000000000) % 2 ^ 48

/-- Note the entry to KENNEL or SENTINEL for the wake record (R612), with the registers of R609 saved. -/
def noteEntry (s : State) : State :=
  (s.onTime fun x => { x with latch := { x.latch with f := x.f } }).onPower fun p =>
    { p with before := p.state, enteredRtc := rtcNow s, saveAreaValid := true }

/-- Enter SENTINEL (R624, R691), from START, RUN or TRIM. -/
def enterSentinel (cause : Nat) (byCommand : Bool) (s : State) : State :=
  if s.dev == stStart || s.running then
    let s := leaveRole (changeState stSentinel cause (noteEntry (relinquish cause s)))
    let s := s.onPower fun p => { p with sentinelByCommand := byCommand, restart := none, limitReported := false,
                                         causeEndedAt := if cause = 8 ∨ byCommand then none else some s.now }
    let s := allPins (gooseSentinel (cdieLost s))
    let s := s.onPower fun p => { p with cdieOn := false }
    pcieOff 1 (applyHolds s)
  else s

/-! ### SAFE_TALK -/

/-- T96 keeps PTP on P4–P5 as its only source; GAT, the TDC and the pulse outputs stop (R85, R627). -/
def timeSafe (s : State) : State :=
  let s := disqualify 3 (disqualify 2 s)
  let s := (List.range 4).foldl (fun s o =>
    let p := s.pulse o
    let s := pulseOff o s
    s.setPulse o { p with armed := false, endsAt := none }) s
  s.onTime fun x => { x with gatOn := false, nominal := false, pulling := false, estimated := false }

/-- Enter SAFE_TALK (R627): everything but management stops; a record held in SRAM stays readable (R469). -/
def enterSafeTalk (cause : Nat) (s : State) : State :=
  if s.gdieOn then
    let cdie := s.dev != stSentinel
    let s := energyStop s
    let s := leaveRole (changeState stSafeTalk cause s)
    let s := s.onPower fun p => { p with restart := none, causeEndedAt := none }
    let s := if cdie then cdieLost s else s
    let s := shepherdGooseEnd (captureStop s)
    let s := headStop (setShepherd 0 (shepherdReset s))
    let s := timeSafe s
    let s := (s.onPower fun p => { p with cdieOn := false, fourFlags := [] }).onLeash fun l => { l with sends := [], acts := [] }
    let s := [(0x2921, 5), (0x2A40, 0x0B), (0x2B21, 5), (0x2630, 9)].foldl (fun s o => s.setRo o.1 o.2 1) s
    pcieOff 1 (applyHolds (allPins s))
  else s

end Sys2Proof.Machine
end

