-- ==== Sys2Proof/Machine/Placement.lean ====
section
/-! DEFINITION. The Herder (R236–R266): slices, initial placement, rebalancing, migration, takeover and retirement, parking. -/

namespace Sys2Proof.Machine
open Sys2Proof

/-! ### Slices -/

def sliceState (s : State) (k : Nat) : Nat := tabGet 0 s.place.slices k
/-- Slices in a state. -/
def slicesIn (s : State) (st : Nat) : List Nat := (List.range 68).filter fun k => sliceState s k == st
/-- Show a slice's state, and the spares remaining. -/
def showSlice (k : Nat) (s : State) : State :=
  (s.setRow 0x2410 0x01 k (sliceState s k)).setRo 0x2420 0x05 (slicesIn s 1).length
def setSlice (k st : Nat) (s : State) : State := showSlice k (s.onPlace fun p => { p with slices := putKey k st p.slices })

/-! ### Loads (R168, R238) -/

/-- A stream's declared signal-samples per second and frames per second. -/
def streamLoad (s : State) (h : Nat) : Q := Q.mul (Q.ofNat (capacityOf s h)) (groupRate s (groupOf s h))
def streamFrames (s : State) (h : Nat) : Q := groupRate s (groupOf s h)

/-- The slice a stream is to lie on: the target of its migration, else its own. -/
def plannedSlice (s : State) (h : Nat) : Option Nat :=
  match lookup h s.place.migrations with
  | some m => some m.target
  | none =>
    match s.place.waiting.find? fun e => e.1 == h with
    | some e => some e.2
    | none => lookup h s.place.placed

/-- Streams planned on a slice. -/
def plannedOn (s : State) (k : Nat) : List Nat := (s.place.placed.map (·.1)).filter fun h => plannedSlice s h == some k
/-- Streams whose context a slice holds or is to hold: those planned on it and those still on their way off it. -/
def heldOn (s : State) (k : Nat) : List Nat :=
  (s.place.placed.map (·.1)).filter fun h => plannedSlice s h == some k || lookup h s.place.placed == some k

/-- The larger of the two ratios of R239. -/
def utilisation (samples frames : Q) : Q := Q.max (Q.div samples (Q.ofNat 6250000)) (Q.div frames (Q.ofNat 93750))
/-- Planned utilisation of a slice with further streams. -/
def plannedUtil (s : State) (k : Nat) (more : List Nat) : Q :=
  let l := plannedOn s k ++ more
  utilisation (Q.sum (l.map (streamLoad s))) (Q.sum (l.map (streamFrames s)))

/-- Contexts the Herder plans for (R238, R252). -/
def contextLimit (s : State) : Nat := if s.place.unspared = 0 then 320 else 384
/-- A slice can take further streams under R238, with those that have not left it yet. -/
def sliceTakes (s : State) (k : Nat) (more : List Nat) : Bool :=
  let l := heldOn s k ++ more
  (plannedOn s k).length + more.length ≤ contextLimit s && l.length ≤ 384 &&
  Q.le (utilisation (Q.sum (l.map (streamLoad s))) (Q.sum (l.map (streamFrames s)))) Q.one

/-- The slice of least planned utilisation, ties to the lowest number. -/
def leastLoaded (s : State) (l : List Nat) : Option Nat :=
  (l.foldl (fun (best : Option (Nat × Q)) k =>
    let u := plannedUtil s k []
    match best with
    | some b => if Q.lt u b.2 then some (k, u) else best
    | none => some (k, u)) none).map (·.1)

/-! ### Hints (R242–R245) and locality sets (R240) -/

/-- Hint rows of a kind that name a stream. -/
def hintsOf (s : State) (kind h : Nat) : List Nat :=
  (rowsOf s.active 0x2402 0x01).filter fun r => s.cfg 0x2402 0x01 r == kind && s.cfg 0x2402 0x02 r ≤ h && h ≤ s.cfg 0x2402 0x03 r
def hinted (s : State) (h : Nat) : Bool := [1, 2, 3].any fun k => !(hintsOf s k h).isEmpty

/-- A hint is not honoured: counted, and reported at most once a second per row (R242). -/
def hintMissed (row reason h : Nat) (s : State) : State :=
  raiseOnce 0x2406 row (le 2 row ++ le 1 reason ++ le 2 h) (s.bump 0x2420 0x08)

/-- Slices to avoid (R244). -/
def avoided (s : State) : List Nat := (List.range 4).map fun r => s.cfg 0x2401 0x01 r

/-- A stream has a signal in the mode-meter selection. -/
def inModeMeter (s : State) (h : Nat) : Bool := (modeRows s).any fun r => ownerOf s (s.cfg 0x2511 0x01 r) == some h
/-- The declared area of a stream's primary bus; 0 none. -/
def areaOf (s : State) (h : Nat) : Nat := if s.cfg 0x2601 0x01 h = 0xFFFFFFFF then 0 else s.cfg 0x2601 0x05 h
/-- Two streams of one locality set. -/
def related (s : State) (a b : Nat) : Bool := (inModeMeter s a && inModeMeter s b) || (areaOf s a != 0 && areaOf s a == areaOf s b)

/-- The locality sets of a list of streams, each in increasing handle. -/
def localitySets (s : State) (l : List Nat) : List (List Nat) :=
  (sortNat l).foldl (fun sets h =>
    let mine := sets.filter fun x => x.any (related s h)
    let rest := sets.filter fun x => !x.any (related s h)
    rest ++ [sortNat (h :: mine.flatten)]) []

/-- Streams placed or to be placed: what keep-together rows and locality sets are taken over. -/
def placeable (s : State) : List Nat :=
  sortNat ((s.place.placed.map (·.1)) ++ ((s.ingest.streams.map (·.1)).filter fun h => admitted s h && (lookup h s.place.placed).isNone))
/-- The locality set of a stream among those placed or to be placed. -/
def localityOf (s : State) (h : Nat) : List Nat := ((localitySets s (placeable s)).find? fun x => x.contains h).getD [h]

/-- Streams with which a stream keeps together. -/
def keepWith (s : State) (h : Nat) : List Nat :=
  let rows := hintsOf s 1 h
  (placeable s).filter fun x => x != h && rows.any fun r => s.cfg 0x2402 0x02 r ≤ x && x ≤ s.cfg 0x2402 0x03 r
/-- Slices a keep-apart row forbids a stream. -/
def keepOff (s : State) (h : Nat) : List Nat :=
  let rows := hintsOf s 2 h
  ((s.place.placed.map (·.1)).filter fun x => x != h && rows.any fun r => s.cfg 0x2402 0x02 r ≤ x && x ≤ s.cfg 0x2402 0x03 r).filterMap
    (plannedSlice s)

/-! ### Choosing a slice (R246) -/

/-- Where a stream goes among some slices: to the slice of its keep-together row, else to one that takes the rest of the row; else to a
slice of its locality set, else to one that takes the rest of the set; else to the least loaded. -/
def chooseAmong (s : State) (l : List Nat) (h : Nat) (row set : List Nat) : Option Nat :=
  let fits := l.filter fun k => sliceTakes s k [h]
  let part := fun (group : List Nat) =>
    let placed := group.filterMap fun x => if x = h then none else plannedSlice s x
    let there := fits.filter placed.contains
    let free := group.filter fun x => x == h || (plannedSlice s x).isNone
    if !there.isEmpty then there else if placed.isEmpty then fits.filter fun k => sliceTakes s k free else []
  let a := if row.length > 1 then part row else []
  let b := if set.length > 1 then part set else []
  leastLoaded s (if !a.isEmpty then a else if !b.isEmpty then b else fits)

/-- The choice for a stream, not among the slices excluded, with the hints that were not honoured: row and reason (R241–R246). -/
def chooseSlice (s : State) (excluded : List Nat) (h : Nat) (set : List Nat) : Option (Nat × List (Nat × Nat)) :=
  let active := (slicesIn s 0).filter fun k => !excluded.contains k && !s.place.draining.contains k
  let row := h :: keepWith s h
  let away := keepOff s h
  let go := fun (l : List Nat) => chooseAmong s l h row set
  let apart := fun (l : List Nat) => l.filter fun k => !away.contains k
  let liked := active.filter fun k => !(avoided s).contains k
  let late := fun (k : Nat) =>
    let mates := row.filterMap fun x => if x = h then none else plannedSlice s x
    (if mates.isEmpty || mates.contains k then [] else (hintsOf s 1 h).map fun r => (r, 0)) ++
    (if away.contains k then (hintsOf s 2 h).map fun r => (r, 0) else []) ++
    (if (avoided s).contains k then [(0xFFFF, 3)] else []) ++
    (if s.cfg 0x3200 0x01 = 2 then [] else (hintsOf s 3 h).map fun r => (r, 2))
  match go (apart liked), go liked, go (apart active), go active with
  | some k, _, _, _ => some (k, late k)
  | none, some k, _, _ => some (k, late k)
  | none, none, some k, _ => some (k, late k)
  | none, none, none, some k => some (k, late k)
  | none, none, none, none => none

/-- Show where a stream lies. -/
def showPlaced (h : Nat) (s : State) : State :=
  let s := match lookup h s.place.placed with | some k => s.setRow 0x2411 0x01 h k | none => s.clearRow 0x2411 0x01 h
  (List.range 68).foldl (fun s k => s.setRow 0x2410 0x03 k (s.place.placed.filter fun e => e.2 == k).length) s

/-- The slot-grid cells of a stream's signals (R32, R33) and the bytes of their Pointer histories: 16 samples of 8 bytes each (R32). -/
def streamMemory (s : State) (h : Nat) : Nat × Nat :=
  let w := Q.mul (Q.make (s.cfg 0x2301 0x02 (groupOf s h)) 1000) (groupRate s (groupOf s h))
  (capacityOf s h * (32 + (-(Q.floor (Q.neg w))).toNat), capacityOf s h * 128)

/-- Put a stream on a slice, with its memory (R236). -/
def putOn (h k : Nat) (s : State) : State :=
  let m := streamMemory s h
  showPlaced h (s.onPlace fun p => { p with placed := putKey h k p.placed, allocated := putKey h m p.allocated })

/-! ### Lanes (R236, R251) -/

/-- Band updates a second of a stream's band-detector set. -/
def bandLoad (s : State) (h : Nat) : Q :=
  let g := groupOf s h
  let n := ((bandRows s g).filter fun e => e.2 == h).foldl (fun n e => n + (bandsOf s (s.cfgInt 0x2301 0x01 g) e.1).length) 0
  Q.mul (Q.ofNat n) (groupRate s g)
/-- Load of a lane. -/
def laneLoad (s : State) (l : Nat) : Q := Q.sum ((s.place.lanes.filter fun e => e.2 == l).map fun e => bandLoad s e.1)
/-- The Oxbow edge blocks of the active set: 1,024 consecutive rows each, with the edges declared in them (R236). -/
def edgeBlocks (s : State) : List (Nat × Nat) :=
  (rowsOf s.active 0x2602 0x01).foldl (fun (t : Tab Nat) r =>
    if s.cfg 0x2602 0x01 r = 0xFFFF then t else putKey (r / 1024) (tabGet 0 t (r / 1024) + 1) t) []
/-- Place every edge block, in increasing number, on the lane with the fewest edges; a lane holds 8,192 (R236, R251). -/
def placeEdges (s : State) : State :=
  let load := fun (t : Tab Nat) (l : Nat) => (((edgeBlocks s).filter fun b => lookup b.1 t == some l).map (·.2)).foldl (fun (a n : Nat) => a + n) 0
  let put := fun (t : Tab Nat) (b : Nat × Nat) =>
    let best := (List.range 16).foldl (fun (a l : Nat) => if load t l < load t a then l else a) 0
    if load t best + b.2 ≤ 8192 then putKey b.1 best t else t
  s.onPlace fun p => { p with edgeLanes := (edgeBlocks s).foldl put [] }

/-- Place a stream's band-detector set: on a lane of its locality set where it fits, else on the least loaded. -/
def placeLane (h : Nat) (set : List Nat) (s : State) : State :=
  if Q.le (bandLoad s h) Q.zero then
    (s.onPlace fun p => { p with lanes := delKey h p.lanes }).clearRow 0x2411 0x05 h
  else
    let fits := (List.range 16).filter fun l => Q.le (Q.add (laneLoad s l) (bandLoad s h)) (Q.ofNat 16777216)
    let mine := set.filterMap fun x => lookup x s.place.lanes
    let best := fun (l : List Nat) => (l.foldl (fun (b : Option (Nat × Q)) k =>
      let u := laneLoad s k
      match b with | some x => if Q.lt u x.2 then some (k, u) else b | none => some (k, u)) none).map (·.1)
    match best (let m := fits.filter mine.contains; if m.isEmpty then fits else m) with
    | some l => (s.onPlace fun p => { p with lanes := putKey h l p.lanes }).setRow 0x2411 0x05 h l
    | none => s

/-- A stream's lane stays: the stream has band detectors, and the lane carries them. -/
def laneStays (s : State) (h : Nat) : Bool :=
  match lookup h s.place.lanes with
  | some l => Q.lt Q.zero (bandLoad s h) && Q.le (laneLoad s l) (Q.ofNat 16777216)
  | none => false

/-- The lanes at a swap: a set without bands leaves its lane, a new one takes one, and one whose lane no longer carries it takes another; the edge
blocks are placed afresh (R236, R240, R251). -/
def lanesSwap (s : State) : State :=
  if !s.running then s
  else
    s.place.placed.foldl (fun (s : State) (e : Nat × Nat) =>
      if laneStays s e.1 then s else placeLane e.1 (localityOf s e.1) (s.onPlace fun p => { p with lanes := delKey e.1 p.lanes })) (placeEdges s)

/-! ### Parking, as far as placement needs it (R257, R258) -/

/-- Parked slices and cores. -/
def nothingParked (s : State) : Bool := (slicesIn s 2).isEmpty && s.jobs.parked.isEmpty
/-- Report a change of parking, and follow it between RUN and TRIM. -/
def parkingChanged (s : State) : State :=
  let s := raise 0x2407 (le 1 (slicesIn s 2).length ++ le 1 s.jobs.parked.length) s
  if s.dev == stRun && !nothingParked s then changeState stTrim 0x0C s
  else if s.dev == stTrim && nothingParked s then changeState stRun 0x0C s
  else s
/-- All parked slices are to be unparked; it ends within 2 ms (R258). -/
def unpark (s : State) : State :=
  let s := s.onPlace fun p => { p with draining := [], lowSince := none }
  if (slicesIn s 2).isEmpty then s else s.onPlace fun p => { p with unparking := true }

/-! ### Initial placement (R246) -/

/-- Place one stream; when no unparked slice can take it, the parked ones are unparked and it is placed then (R258). -/
def placeOne (set : List Nat) (h : Nat) (s : State) : State :=
  match chooseSlice s [] h set with
  | some (k, missed) => placeLane h set (missed.foldl (fun s e => hintMissed e.1 e.2 h s) (putOn h k s))
  | none => unpark s

/-- Streams in the order of R246: keep-together rows by row, then locality sets by lowest handle, then the rest; each with its set. -/
def placementOrder (s : State) (l : List Nat) : List (Nat × List Nat) :=
  let l := sortNat l
  let sets := (localitySets s (sortNat (l ++ (placeable s).filter fun h => !l.contains h))).filter fun x => x.any l.contains
  let setOf := fun h => (sets.find? fun x => x.contains h).getD [h]
  let rows := (rowsOf s.active 0x2402 0x01).filter fun r => s.cfg 0x2402 0x01 r == 1
  let first := (rows.flatMap fun r => l.filter fun h => s.cfg 0x2402 0x02 r ≤ h && h ≤ s.cfg 0x2402 0x03 r).eraseDups
  let big := sortBy (fun a b => decide (lowest a ≤ lowest b)) (sets.filter fun x => x.length > 1)
  let second := big.flatten.filter fun h => l.contains h && !first.contains h
  let third := l.filter fun h => !first.contains h && !second.contains h
  (first ++ second ++ third).map fun h => (h, setOf h)

/-- Place streams that have no slice (R246). -/
def placeStreams (l : List Nat) (s : State) : State :=
  (placementOrder s (l.filter fun h => (lookup h s.place.placed).isNone)).foldl (fun s e => placeOne e.2 e.1 s) s

/-- A stream leaves its slice and its lane; its migration is abandoned (R251). -/
def dropMigration (h : Nat) (s : State) : State :=
  s.onPlace fun p => { p with migrations := delKey h p.migrations, waiting := p.waiting.filter fun e => e.1 != h }
/-- Abandon a migration (R251). -/
def abandon (h reason : Nat) (s : State) : State :=
  match lookup h s.place.migrations with
  | none => dropMigration h s
  | some m =>
    let s := (dropMigration h s).onPlace fun p => { p with cutoverAt := putKey h s.now p.cutoverAt }
    raiseOnce 0x2405 h (le 2 h ++ le 1 reason ++ le 1 m.source ++ le 1 m.target) (s.bump 0x2420 0x02)
def unplaceStream (h : Nat) (s : State) : State :=
  let s := abandon h 2 s
  let s := s.onPlace fun p => { p with
    placed := delKey h p.placed, lanes := delKey h p.lanes, cutoverAt := delKey h p.cutoverAt, allocated := delKey h p.allocated
    unacknowledged := p.unacknowledged.filter fun f => f.stream != h }
  showPlaced h (s.clearRow 0x2411 0x05 h)

/-- A frame of a stream is processed: it counts on its slice, and on the slice that takes it in shadow (R239, R250). -/
def countFrame (h samples : Nat) (s : State) : State :=
  match lookup h s.place.placed with
  | none => s
  | some k =>
    let shadow := match lookup h s.place.migrations with | some m => if m.phase = 2 then [m.target] else [] | none => []
    let mark := fun (m : Migration) => if m.phase = 2 then { m with seen := true } else m
    let count := fun (t : Tab (Nat × Nat)) (x : Nat) => let c := tabGet (0, 0) t x; putKey x (c.1 + samples, c.2 + 1) t
    s.onPlace fun p => { p with
      counts := (k :: shadow).foldl count p.counts
      migrations := p.migrations.map fun e => if e.1 == h then (e.1, mark e.2) else e }

/-- The slice of a stream is being taken over: the dispatch keeps the stream's frames (R253). -/
def dispatchHolds (s : State) (h : Nat) : Bool := match lookup h s.place.placed with | some k => sliceState s k == 3 | none => false

/-! ### Migration (R248, R250) -/

/-- Begin waiting migrations, in handle order, as far as the limit allows. -/
def startWaiting (s : State) : State :=
  (sortNat (s.place.waiting.map (·.1))).foldl (fun s h =>
    match s.place.waiting.find? (fun e => e.1 == h), lookup h s.place.placed with
    | some (_, target), some source =>
      if s.place.migrations.length < s.cfg 0x2400 0x08 then
        s.onPlace fun p => { p with waiting := p.waiting.filter fun e => e.1 != h
                                    migrations := putKey h ⟨source, target, 0, 0, false, true, s.now⟩ p.migrations }
      else s
    | _, _ => dropMigration h s) s

/-- Select a stream for migration to a slice. -/
def migrate (h target : Nat) (s : State) : State := s.onPlace fun p => { p with waiting := p.waiting ++ [(h, target)] }

/-- A stream may be selected: it is not on its way, and its hold-off has passed (R248). -/
def movable (s : State) (h : Nat) : Bool :=
  (lookup h s.place.migrations).isNone && !(s.place.waiting.any fun e => e.1 == h) &&
  (match lookup h s.place.cutoverAt with | some a => decide (a + sec (s.cfg 0x2400 0x04) ≤ s.now) | none => true)

/-- The first boundary of the stream's group at or after now, as a slot index; none while T96 is unset or the grid does not run. -/
def boundaryNow (s : State) (h : Nat) : Option Nat :=
  let g := s.group (groupOf s h)
  if s.time.isSet && g.rate != 0 then some (firstSlotAt s g.rate s.t96) else none
/-- Reporting periods of the stream's group in T96 units. -/
def periodsT96 (s : State) (h n : Nat) : Nat :=
  (Q.floor (Q.mul (Q.mul (periodQ (s.cfgInt 0x2301 0x01 (groupOf s h))) (Q.ofNat n)) (Q.ofNat (2 ^ 48)))).toNat

/-- MIGRATION_CONTEXT_LOADED: b₁ is the first boundary of the group from now (R250). -/
def contextLoaded (h : Nat) (s : State) : State :=
  match lookup h s.place.migrations with
  | some m =>
    if m.phase = 0 then
      let b1 := match boundaryNow s h with | some i => slotPoint s (s.group (groupOf s h)).rate i (-2) | none => s.t96
      s.onPlace fun p => { p with migrations := putKey h { m with phase := 1, b1 := b1 } p.migrations }
    else s
  | none => s

def execMigrationContextLoaded (t stream : Nat) (s : State) : Host.Outcome State Fault Refusal := complete t (contextLoaded stream) s

/-- MIGRATION_DOUBLE_RECEIVE: b₁ has come. -/
def doubleReceive (h : Nat) (s : State) : State :=
  match lookup h s.place.migrations with
  | some m => if m.phase = 1 ∧ m.b1 ≤ s.t96 then s.onPlace fun p => { p with migrations := putKey h { m with phase := 2 } p.migrations } else s
  | none => s

def execMigrationDoubleReceive (t stream : Nat) (s : State) : Host.Outcome State Fault Refusal := complete t (doubleReceive stream) s

/-- A slice that was being emptied holds no stream: it is parked (R257). -/
def parkEmpty (s : State) : State :=
  let done := s.place.draining.filter fun k => !(s.place.placed.any fun e => e.2 == k) && (plannedOn s k).isEmpty
  if done.isEmpty then s
  else
    let s := s.onPlace fun p => { p with draining := p.draining.filter fun k => !done.contains k }
    parkingChanged (done.foldl (fun s k => if sliceState s k = 0 then setSlice k 2 s else s) s)

/-- MIGRATION_CUTOVER: b_c has come; dispatch switches the stream to its new slice alone (R250). -/
def cutover (h : Nat) (s : State) : State :=
  match lookup h s.place.migrations with
  | some m =>
    let due := if m.seen then m.b1 + periodsT96 s h 2 else m.b1 + periodsT96 s h 8
    if m.phase = 2 ∧ m.equal = true ∧ due ≤ s.t96 then
      let s := putOn h m.target (dropMigration h s)
      let s := s.onPlace fun p => { p with cutoverAt := putKey h s.now p.cutoverAt }
      parkEmpty (startWaiting ((s.bump 0x2420 0x01).bump 0x2411 0x04 h))
    else s
  | none => s

def execMigrationCutover (t stream : Nat) (s : State) : Host.Outcome State Fault Refusal := complete t (cutover stream) s

/-! ### Retirement (R252–R256) -/

/-- Streams admitted, for R255. -/
def admittedCount (s : State) : Nat := (s.ingest.streams.filter fun e => e.1 < firstLocal && admitted s e.1).length

/-- Retire a slice: cause 0 self-check, 1 uncorrectable context error, 2 shadow mismatch, 3 a spare's self-check. -/
def retire (k cause : Nat) (s : State) : State :=
  if k ≥ 68 ∨ sliceState s k = 4 then s
  else
    let was := sliceState s k
    let mine := (s.place.placed.filter fun e => e.2 == k).map (·.1)
    let s := (setSlice k 4 s).onPlace fun p => { p with draining := p.draining.filter fun x => x != k, takeovers := delKey k p.takeovers }
    let s := s.setRo 0x2420 0x04 (slicesIn s 4).length
    if was = 1 then raise 0x2401 (le 1 k ++ le 1 3 ++ le 1 0xFF ++ le 2 0) s
    else
      let s := (s.place.migrations.filter fun e => e.2.target == k).foldl (fun s e => abandon e.1 1 s) s
      let s := s.onPlace fun p => { p with waiting := p.waiting.filter fun e => e.2 != k }
      let s := mine.foldl (fun s h => dropMigration h s) s
      let s := unpark s
      match (slicesIn s 1).head? with
      | some spare =>
        let s := (setSlice spare 3 s).onPlace fun p => { p with takeovers := putKey k (spare, s.now) p.takeovers }
        let s := mine.foldl (fun s h => putOn h spare s) s
        raise 0x2401 (le 1 k ++ le 1 cause ++ le 1 spare ++ le 2 mine.length) s
      | none =>
        let first := s.place.unspared = 0
        let s := s.onPlace fun p => { p with unspared := p.unspared + 1, placed := p.placed.filter fun e => e.2 != k }
        let s := raise 0x2401 (le 1 k ++ le 1 cause ++ le 1 0xFF ++ le 2 mine.length) (placeStreams mine s)
        let s := (if first then raise 0x2403 (le 1 k) s else s).setRo 0x2420 0x06 s.place.unspared
        let limit := 280000000 - 4375000 * s.place.unspared
        let s := raise 0x2404 (le 8 limit) (s.setRo 0x2250 0x02 limit)
        let active := (slicesIn s 0).length
        let n := admittedCount s
        if s.running && active < (n + 383) / 384 then enterSentinel 5 false (raise 0x2408 (le 1 active ++ le 2 n) s) else s

/-- SLICE_FAULT (R252), while the C-die runs. -/
def sliceFault (k cause : Nat) (s : State) : State :=
  if s.dev == stStart || s.running then startWaiting (retire k (if cause > 3 then 0 else cause) s) else s

/-- The takeover of a retired slice ends: the new slice is ACTIVE (R253). -/
def takeoverDone (k : Nat) (s : State) : State :=
  match lookup k s.place.takeovers with
  | none => s
  | some (new, begun) =>
    let us_ := (s.now - begun) / 1000000
    let s := s.onPlace fun p => { p with takeovers := delKey k p.takeovers }
    let s := s.setRo 0x2420 0x09 (Nat.max us_ (s.ro 0x2420 0x09))
    let s := if sliceState s new = 3 then setSlice new 0 s else s
    raise 0x2402 (le 1 k ++ le 1 new ++ le 4 us_) s

/-- SPARE_SELF_CHECK (R256). -/
def spareCheck (k : Nat) (pass : Bool) (s : State) : State :=
  if s.running && k < 68 && sliceState s k == 1 && !pass then retire k 3 s else s

def execSpareSelfCheck (t slice : Nat) (pass : Bool) (s : State) : Host.Outcome State Fault Refusal := complete t (spareCheck slice pass) s

/-- MIGRATION_ABANDON (R251): reason 0 time, 1 the target lost, 2 the stream changed, 3 a shadow difference with the slices whose
self-check then fails. -/
def migrationAbandon (h reason : Nat) (failed : List Nat) (s : State) : State :=
  match lookup h s.place.migrations with
  | none => s
  | some m =>
    let limit := Nat.max (sec 2) (psOf (Q.mul (Q.ofNat 32) (periodQ (s.cfgInt 0x2301 0x01 (groupOf s h)))))
    let holds : Bool := match reason with
      | 0 => decide (m.startedAt + limit ≤ s.now)
      | 1 => sliceState s m.target != 0
      | 2 => !admitted s h
      | _ => m.phase == 2
    if !holds then s
    else
      let s := abandon h (Nat.min reason 3) s
      let bad := failed.filter fun k => k == m.source || k == m.target
      let s := if reason < 3 then s else if bad.isEmpty then s.bump 0x2420 0x03 else bad.foldl (fun s k => retire k 2 s) s
      startWaiting s

def execMigrationAbandon (t stream reason : Nat) (failed : List Nat) (s : State) : Host.Outcome State Fault Refusal :=
  complete t (migrationAbandon stream reason failed) s

/-! ### Rebalancing (R239, R247) -/

/-- A fraction of 0.01 %. -/
def bp (n : Nat) : Q := Q.make n 10000

/-- The fewest streams whose declared load brings a utilisation to or below low-water; among them those without hints, then the largest. -/
def selectDrain (s : State) (samples frames : Q) (l : List Nat) : List Nat :=
  let low := bp (s.cfg 0x2400 0x03)
  let big := fun (l : List Nat) => sortBy (fun a b => Q.le (streamLoad s b) (streamLoad s a)) l
  let enough := fun (m : List Nat) =>
    Q.le (utilisation (Q.sub samples (Q.sum (m.map (streamLoad s)))) (Q.sub frames (Q.sum (m.map (streamFrames s))))) low
  let all := big l
  match (List.range (all.length + 1)).find? fun n => enough (all.take n) with
  | none => all
  | some n =>
    let plain := big (l.filter fun h => !hinted s h)
    let marked := big (l.filter fun h => hinted s h)
    match (List.range (n + 1)).find? fun j => enough (marked.take j ++ plain.take (n - j)) && (marked.take j ++ plain.take (n - j)).length == n with
    | some j => marked.take j ++ plain.take (n - j)
    | none => all.take n

/-- Drain a slice whose last sample was the given signal-samples and frames per second. -/
def drainSlice (k : Nat) (samples frames : Q) (s : State) : State :=
  let l := (plannedOn s k).filter fun h => lookup h s.place.placed == some k && movable s h
  let s := (selectDrain s samples frames l).foldl (fun s h =>
    let high := (slicesIn s 0).filter fun x => x == k || Q.lt (bp (s.cfg 0x2400 0x03)) (plannedUtil s x [])
    match chooseSlice s high h (localityOf s h) with
    | some (target, missed) => missed.foldl (fun s e => hintMissed e.1 e.2 h s) (migrate h target s)
    | none => s) s
  startWaiting s

/-- Cores unparked in full. -/
def unparkCores (s : State) : State :=
  if s.jobs.parked.isEmpty then s else parkingChanged (s.onJobs fun j => { j with parked := [] })

/-- UTILISATION_SAMPLE: every 100 ms (R239, R247, R257, R258). -/
def utilisationSample (s : State) : State :=
  let elapsed := s.now - s.place.sampledAt
  if !s.running || elapsed < ms 100 then s
  else
    let s := busySample s
    let rates := (List.range 68).map fun k =>
      let c := tabGet (0, 0) s.place.counts k
      (k, c.1 * sec 1 / elapsed, c.2 * sec 1 / elapsed)
    let util := fun (e : Nat × Nat × Nat) => utilisation (Q.ofNat e.2.1) (Q.ofNat e.2.2)
    let high := bp (s.cfg 0x2400 0x02)
    let s := rates.foldl (fun s e =>
      let s := (s.setRow 0x2410 0x02 e.1 e.2.1).setRow 0x2410 0x04 e.1 e.2.2
      let s := s.setRow 0x2410 0x06 e.1 (Nat.min 65535 (Q.floor (Q.mul (util e) (Q.ofNat 10000))).toNat)
      let n := if Q.lt high (util e) then tabGet 0 s.place.exceeds e.1 + 1 else 0
      s.onPlace fun p => { p with exceeds := if n = 0 then delKey e.1 p.exceeds else putKey e.1 n p.exceeds }) s
    let s := s.onPlace fun p => { p with counts := [], sampledAt := s.now }
    let s := if (rates.any fun e => Q.lt high (util e)) && !(slicesIn s 2).isEmpty then unpark s else s
    let s := if s.cfgB 0x2400 0x01 then
        (rates.filter fun e => tabGet 0 s.place.exceeds e.1 ≥ 3).foldl (fun s e =>
          drainSlice e.1 (Q.ofNat e.2.1) (Q.ofNat e.2.2) (s.onPlace fun p => { p with exceeds := delKey e.1 p.exceeds })) s
      else s
    let active := rates.filter fun e => sliceState s e.1 == 0
    let park := bp (s.cfg 0x2400 0x06)
    let mean := fun (l : List Q) => Q.div (Q.sum l) (Q.ofNat (Nat.max 1 l.length))
    let low := s.cfgB 0x2400 0x05 && Q.lt (mean (active.map util)) park
    let cores := (List.range 16).filter fun c => !s.jobs.parked.contains c
    let busy := cores.map fun c => bp (s.ro 0x2C11 0x03 c)
    let coreLow := s.cfgB 0x2400 0x05 && Q.lt (mean busy) park
    let since := fun (on : Bool) (o : Option Nat) => if !on then none else match o with | some a => some a | none => some s.now
    let s := s.onPlace fun p => { p with lowSince := since low p.lowSince, coreLowSince := since coreLow p.coreLowSince }
    if busy.any fun b => Q.lt high b then unparkCores s else s

def execUtilisationSample (t : Nat) (s : State) : Host.Outcome State Fault Refusal := complete t utilisationSample s

/-- 0x2430:02 Rebalance now: one pass with high-water taken as low-water. -/
def rebalanceNow (s : State) : State × Nat :=
  if !s.running then (s, 0x06)
  else
    let exceeds := (slicesIn s 0).filter fun k => s.ro 0x2410 0x06 k > s.cfg 0x2400 0x03
    (exceeds.foldl (fun s k => drainSlice k (Q.ofNat (s.ro 0x2410 0x02 k)) (Q.ofNat (s.ro 0x2410 0x04 k)) s) s, 0)

def execRebalanceNow (t : Nat) (who : Who) (s : State) : Host.Outcome State Fault Refusal :=
  complete t (runPlain 0x2430 0x02 who rebalanceNow) s

/-! ### Parking (R257, R258, R512) -/

/-- Move every stream of a slice in plan; none when some slice would rise above low-water, or a stream finds no place. -/
def planEmpty (k : Nat) (s : State) : Option State :=
  let low := bp (s.cfg 0x2400 0x03)
  let s1 := s.onPlace fun p => { p with draining := k :: p.draining }
  let moved := (plannedOn s k).foldl (fun (o : Option State) h =>
    match o with
    | none => none
    | some s =>
      if lookup h s.place.placed != some k || !movable s h then none
      else match chooseSlice s [] h (localityOf s h) with
        | some (target, missed) =>
          if Q.le (plannedUtil s target [h]) low then some (missed.foldl (fun s e => hintMissed e.1 e.2 h s) (migrate h target s)) else none
        | none => none) (some s1)
  if ((slicesIn s1 0).filter fun x => !s1.place.draining.contains x).isEmpty then none else moved

/-- Select slices to park in decreasing number. -/
def parkSlices : List Nat → State → State
  | [], s => s
  | k :: l, s =>
    if sliceState s k ≠ 0 then parkSlices l s
    else match planEmpty k s with
      | some s' => parkSlices l s'
      | none => s

/-- Park cores in decreasing number: never core 0, a core that runs a job, or the last unparked core of an enabled job's mask. -/
def parkCores (s : State) : State :=
  let low := bp (s.cfg 0x2400 0x03)
  let enabled := (s.jobs.jobs.map (·.1)).filter fun j => s.rw 0x2C01 0x0A j == 1
  let total := Q.sum ((List.range 16).map fun c => bp (s.ro 0x2C11 0x03 c))
  let parked := ((List.range 15).map fun i => 15 - i).foldl (fun parked c =>
    let left := (List.range 16).filter fun x => !parked.contains x && x != c
    let last := enabled.any fun j => bit (jobMask s j) c && (left.all fun x => !bit (jobMask s j) x)
    if parked.contains c || last || (runningOn s c).isSome || Q.lt low (Q.div total (Q.ofNat (Nat.max 1 left.length))) then parked else c :: parked)
    s.jobs.parked
  if parked = s.jobs.parked then s else parkingChanged (s.onJobs fun j => { j with parked := parked })

/-- PARK_DELAY_EXPIRY. -/
def parkDelay (s : State) : State :=
  let due : Option Nat → Bool := fun o => match o with | some a => decide (a + sec (s.cfg 0x2400 0x07) ≤ s.now) | none => false
  if !(s.running && s.cfgB 0x2400 0x05) then s
  else
    let cores := due s.place.coreLowSince
    let s := if due s.place.lowSince && !s.place.unparking then
        parkEmpty (startWaiting (parkSlices ((List.range 68).map fun i => 67 - i) (s.onPlace fun p => { p with lowSince := some s.now })))
      else s
    if cores then parkCores (s.onPlace fun p => { p with coreLowSince := some s.now }) else s

def execParkDelayExpiry (t : Nat) (s : State) : Host.Outcome State Fault Refusal := complete t parkDelay s

/-- Unparking ends: the parked slices are ACTIVE, and streams that waited are placed (R258). -/
def unparkingEnd (s : State) : State :=
  if !s.place.unparking then s
  else
    let s := (slicesIn s 2).foldl (fun s k => setSlice k 0 s) (s.onPlace fun p => { p with unparking := false })
    parkingChanged (placeStreams ((s.ingest.streams.map (·.1)).filter (admitted s)) s)

def execUnparkingEnd (t : Nat) (s : State) : Host.Outcome State Fault Refusal := complete t unparkingEnd s

/-! ### Commands, START, entry to RUN -/

/-- 0x2430:03 Restore retired slices: takes effect at the next START (R256). -/
def execRestoreRetiredSlices (t : Nat) (who : Who) (s : State) : Host.Outcome State Fault Refusal :=
  complete t (runPlain 0x2430 0x03 who (ok fun s => s.onPlace fun p => { p with restoreRetired := true })) s

/-- 0x2430:01 Clear placement counters (R265). -/
def clearPlacement (s : State) : State :=
  s.clearObjects [(0x2410, 5), (0x2411, 4), (0x2420, 1), (0x2420, 2), (0x2420, 3), (0x2420, 7), (0x2420, 8), (0x2420, 9), (0x2420, 10)]

def execClearPlacementCounters (t : Nat) (who : Who) (s : State) : Host.Outcome State Fault Refusal :=
  complete t (runPlain 0x2430 0x01 who (ok clearPlacement)) s

/-- Show the counts that are kept in MRAM or follow from the slice states. -/
def showKept (s : State) : State :=
  let s := (s.setRo 0x2420 0x04 (slicesIn s 4).length).setRo 0x2420 0x06 s.place.unspared
  let s := s.setRo 0x2250 0x02 (280000000 - 4375000 * s.place.unspared)
  (List.range 68).foldl (fun s k => showSlice k s) s

/-- On entry to RUN: nothing is placed yet, and what is admitted is placed afresh (R246, R264). -/
def placeAll (s : State) : State :=
  let s := s.onPlace fun p => { PlaceSt.reset with slices := p.slices.map fun e => (e.1, if e.2 = 2 ∨ e.2 = 3 then 0 else e.2),
                                                   restoreRetired := p.restoreRetired, unspared := p.unspared, sampledAt := s.now
                                                   interleaveKey := p.interleaveKey }
  let s := showKept (s.clearObjects [(0x2411, 1), (0x2411, 5), (0x2410, 3)])
  placeEdges (placeStreams ((s.ingest.streams.map (·.1)).filter (admitted s)) s)

/-! ### Keyed memory interleave (R259, R260) -/

/-- F of R259 under an interleave key. -/
def interleaveF (key u : Nat) : Nat :=
  let x := ((u ^^^ field key 20 0) * (field key 41 21 ||| 1)) % 2 ^ 21
  field x 20 14 ^^^ field key 48 42
/-- Channel and bank of a 256-byte granule of package memory (R259). -/
def channelBank (key granule : Nat) : Nat × Nat :=
  let cb := field granule 6 0 ^^^ interleaveF key (field granule 27 7)
  (cb / 16, cb % 16)
/-- The key that START draws from the random-number generator (R260). -/
def drawInterleave (s : State) : State := (s.onPlace fun p => { p with interleaveKey := s.free % 2 ^ 64 }).drawn

end Sys2Proof.Machine
end

