-- ==== Sys2Proof/Machine/Ip.lean ====
section
/-! DEFINITION. UDP over IPv4 and IPv6 as the block sends it (R138, R382, R383): headers and checksums of the outside standards (assumption 17),
fragments of datagrams longer than the port maximum. -/

namespace Sys2Proof.Machine
open Sys2Proof

/-- A 16-byte address is an IPv4 address in IPv4-mapped form. -/
def isV4 (a : List Byte) : Bool := a.take 12 == List.replicate 10 0 ++ [0xFF, 0xFF]
/-- The 16-byte form of an IPv4 address. -/
def mapped (a : Nat) : List Byte := List.replicate 10 0 ++ [0xFF, 0xFF] ++ be 4 a

/-- Sum of the 16-bit words of a byte string. -/
def wordSum : List Byte → Nat
  | [] => 0
  | [a] => a.toNat * 256
  | a :: b :: l => a.toNat * 256 + b.toNat + wordSum l

/-- The Internet checksum. -/
def inetChecksum (l : List Byte) : Nat :=
  let n := wordSum l
  let n := n % 65536 + n / 65536
  let n := n % 65536 + n / 65536
  65535 - (n % 65536 + n / 65536)

/-- The MAC address a datagram goes to: derived for a group, resolved for a station. -/
def macFor (pair : Nat) (dst : List Byte) : List Byte :=
  if isV4 dst then
    (if 224 ≤ byteAt dst 12 ∧ byteAt dst 12 ≤ 239 then be 3 0x01005E ++ be 1 (byteAt dst 13 % 128) ++ dst.drop 14
     else Config.nextHop pair dst)
  else if byteAt dst 0 = 0xFF then be 2 0x3333 ++ dst.drop 12
  else Config.nextHop pair dst

/-- The interface's own address for a destination: pairs A and B by 0x2204 (R138), pair M by 0x1102 (R531). -/
def ownAddress (s : State) (p : Nat) (dst : List Byte) : List Byte :=
  let row := if prpMode s (p / 2) = 0 then p else p / 2 * 2
  if isV4 dst then mapped (if p < 4 then s.cfg 0x2204 0x01 row else s.cfg 0x1102 0x01)
  else fit 16 (if p < 4 then s.cfgBytes 0x2204 0x04 row else s.cfgBytes 0x1102 0x04)

/-- The last four bytes of a mapped address, or the whole address. -/
def wireAddr (a : List Byte) : List Byte := if isV4 a then a.drop 12 else a

/-- A UDP datagram with its checksum. -/
def udpBytes (src dst : List Byte) (sport dport : Nat) (payload : List Byte) : List Byte :=
  let n := 8 + payload.length
  let pseudo := wireAddr src ++ wireAddr dst ++ (if isV4 dst then be 2 17 ++ be 2 n else be 4 n ++ be 4 17)
  let body := fun (c : Nat) => be 2 sport ++ be 2 dport ++ be 2 n ++ be 2 c ++ payload
  let c := inetChecksum (pseudo ++ body 0)
  body (if c = 0 then 65535 else c)

/-- Cut a byte string into pieces of n bytes with their offsets. -/
def pieces (n : Nat) : Nat → Nat → List Byte → List (Nat × List Byte × Bool)
  | 0, _, _ => []
  | fuel + 1, o, l => if l.length ≤ n then [(o, l, true)] else (o, l.take n, false) :: pieces n fuel (o + n) (l.drop n)

/-- The IP packets of a payload of a protocol, none longer than mtu bytes; `ident` is the identification of its fragments. -/
def ipPackets (src dst : List Byte) (proto mtu ident : Nat) (payload : List Byte) : List (List Byte) :=
  if isV4 dst then
    (pieces ((mtu - 20) / 8 * 8) 70000 0 payload).map fun e =>
      let h := fun (c : Nat) => be 2 0x4500 ++ be 2 (20 + e.2.1.length) ++ be 2 ident ++ be 2 (b2n (!e.2.2) * 0x2000 + e.1 / 8) ++
        be 1 64 ++ be 1 proto ++ be 2 c ++ wireAddr src ++ wireAddr dst
      h (inetChecksum (h 0)) ++ e.2.1
  else
    let head := fun (n next : Nat) => be 4 0x60000000 ++ be 2 n ++ be 1 next ++ be 1 64 ++ src ++ dst
    if payload.length + 40 ≤ mtu then [head payload.length proto ++ payload]
    else (pieces ((mtu - 48) / 8 * 8) 70000 0 payload).map fun e =>
      head (e.2.1.length + 8) 44 ++ be 1 proto ++ be 1 0 ++ be 2 (e.1 + b2n (!e.2.2)) ++ be 4 ident ++ e.2.1

/-- The largest IP packet of a port: the port maximum less header, tag, trailer and FCS. -/
def ipMtu (s : State) (p : Nat) : Nat := portMax s p - 28

/-- Send IP packets on a pair: PRP modes 1 and 2 on both ports from one address, mode 0 on each port from its own. -/
def sendIp (pair cls proto : Nat) (dst : List Byte) (payload : List Byte → List Byte) (s : State) : State :=
  let ident := s.free
  let etype := if isV4 dst then 0x0800 else 0x86DD
  let mac := macFor pair dst
  let s := s.drawn
  if prpMode s pair = 0 then
    [2 * pair, 2 * pair + 1].foldl (fun s p =>
      let src := ownAddress s p dst
      (ipPackets src dst proto (ipMtu s p) ident (payload src)).foldl (fun s b => sendPort p cls 0 0 mac etype b s) s) s
  else
    let src := ownAddress s (2 * pair) dst
    let mtu := Nat.min (ipMtu s (2 * pair)) (ipMtu s (2 * pair + 1))
    (ipPackets src dst proto mtu ident (payload src)).foldl (fun s b => sendPair pair cls 0 0 mac etype b s) s

/-- A pair can send nothing: in PRP modes its state is DOWN, in mode 0 neither link is up. -/
def pairDown (s : State) (pair : Nat) : Bool :=
  if prpMode s pair = 0 then (s.portOf (2 * pair)).link != 1 && (s.portOf (2 * pair + 1)).link != 1
  else tabGet 2 s.port.pairState pair == 2

/-- Send a packet that an outside transport has made (assumption 89) on a pair: PRP modes 1 and 2 with trailers, mode 0 on both ports. -/
def sendPacket (pair cls : Nat) (dst packet : List Byte) (s : State) : State :=
  sendMask (3 * 4 ^ pair) cls 0 0 (macFor pair dst) (if isV4 dst then 0x0800 else 0x86DD) packet s

/-- Send packets of Imian over DTLS to an address: pair M, class 7 (R101, R531). -/
def sendDtls (peer : List Byte) (packets : List (List Byte)) (s : State) : State := packets.foldl (fun s b => sendPacket 2 7 peer b s) s

/-- Send an Imian message on a DTLS session. -/
def sendImian (n : Nat) (msg : List Byte) (s : State) : State :=
  match lookup n s.imian.sessions with | some x => sendDtls x.peer (Config.dtlsPackets n msg) s | none => s

/-- Send a UDP datagram on a pair. -/
def sendUdp (pair cls sport : Nat) (dst : List Byte) (dport : Nat) (payload : List Byte) (s : State) : State :=
  sendIp pair cls 17 dst (fun src => udpBytes src dst sport dport payload) s

/-- The group records of an IGMPv3 or MLDv2 report: each group in mode exclude without sources. -/
def groupRecords (groups : List (List Byte)) : List Byte :=
  be 2 0 ++ be 2 groups.length ++ (groups.map fun g => be 1 2 ++ be 1 0 ++ be 2 0 ++ wireAddr g).flatten

/-- Send an IGMPv3 report of IPv4 groups on a port's interface, with the router-alert option (R138, assumption 17). -/
def reportV4 (p : Nat) (groups : List (List Byte)) (s : State) : State :=
  if groups.isEmpty then s else
  let src := wireAddr (ownAddress s p (mapped 0xE0000016))
  let body := fun (c : Nat) => be 1 0x22 ++ be 1 0 ++ be 2 c ++ groupRecords groups
  let b := body (inetChecksum (body 0))
  let h := fun (c : Nat) => be 2 0x4600 ++ be 2 (24 + b.length) ++ be 2 (s.free % 65536) ++ be 2 0 ++ be 1 1 ++ be 1 2 ++ be 2 c ++ src ++
    be 4 0xE0000016 ++ be 4 0x94040000
  let f := h (inetChecksum (h 0)) ++ b
  let mac := be 6 0x01005E000016
  if prpMode s (p / 2) = 0 then sendPort p 8 0 0 mac 0x0800 f s.drawn else sendPair (p / 2) 8 0 0 mac 0x0800 f s.drawn

/-- An ICMPv6 message with its checksum. -/
def icmp6 (src dst : List Byte) (l : List Byte) : List Byte :=
  let n := l.length
  let z := l.take 2 ++ be 2 0 ++ l.drop 4
  l.take 2 ++ be 2 (inetChecksum (src ++ dst ++ be 4 n ++ be 4 58 ++ z)) ++ l.drop 4

/-- Send an MLDv2 report of IPv6 groups. -/
def reportV6 (p : Nat) (groups : List (List Byte)) (s : State) : State :=
  if groups.isEmpty then s else
  let dst := be 16 0xFF020000000000000000000000000016
  let src := ownAddress s p dst
  let b := icmp6 src dst (be 1 143 ++ be 1 0 ++ be 2 0 ++ groupRecords groups)
  let f := be 4 0x60000000 ++ be 2 (8 + b.length) ++ be 1 0 ++ be 1 1 ++ src ++ dst ++ be 8 0x3A00050200000100 ++ b
  let mac := be 6 0x333300000016
  if prpMode s (p / 2) = 0 then sendPort p 8 0 0 mac 0x86DD f s else sendPair (p / 2) 8 0 0 mac 0x86DD f s

/-- Report groups on the interface of a port. -/
def reportGroups (p : Nat) (groups : List (List Byte)) (s : State) : State :=
  reportV6 p (groups.filter fun g => !isV4 g) (reportV4 p (groups.filter isV4) s)

end Sys2Proof.Machine
end

