-- ==== Sys2Proof/Machine/Publish.lean ====
section
/-! DEFINITION. Output streams, subscribers and their commands (R375–R386), and the host archive (R387–R390).  C37.118.2 and IEC 61850-90-5
layouts are those of the outside standards (assumptions 15 and 18). -/

namespace Sys2Proof.Machine
open Sys2Proof

/-- The bytes of an ASCII string. -/
def ascii (x : String) : List Byte := x.toList.map fun c => BitVec.ofNat 8 c.toNat
/-- Left-justified and space-padded to 16 characters. -/
def pad16 (l : List Byte) : List Byte := (l ++ List.replicate 16 0x20).take 16

/-! ### Layouts -/

/-- A local stream's configuration (R427, R430). -/
def localCfg (s : State) (l : Nat) : PartnerCfg :=
  let v : Channel := ⟨0, 0, 0, 0⟩
  let i : Channel := ⟨1, 0, 0, 0⟩
  let a : Channel := ⟨1, 0, 0, 0⟩
  ⟨false, s.cfg 0x2910 0x04 l, 1000000, s.cfgInt 0x2301 0x01 (s.cfg 0x2910 0x02 l),
   [⟨0x000F, List.replicate 6 v ++ List.replicate 6 i, List.replicate 6 a, 1, [0x1FF], s.fnom, 0⟩], []⟩

/-- The configuration in use of a stream. -/
def cfgInUse (s : State) (h : Nat) : Option PartnerCfg := if h ≥ firstLocal then some (localCfg s (h - firstLocal)) else (s.stream h).cfg

/-- PHUNIT[31:24], ANUNIT[31:24] or DIGUNIT of signal k of a configuration's blocks. -/
def unitIn : List Block → Nat → Nat
  | [], _ => 0
  | b :: l, k =>
    let p := b.phasors.length
    let a := b.analogs.length
    if k < p then (b.phasors.getD k ⟨0, 0, 0, 0⟩).typ
    else if k < p + 2 then 0
    else if k < p + 2 + a then (b.analogs.getD (k - p - 2) ⟨0, 0, 0, 0⟩).typ
    else if k < b.signals then b.digUnits.getD (k - p - 2 - a) 0
    else unitIn l (k - b.signals)

/-- An output stream: IDCODE of the stream and of its block, station name, TIME_BASE, rate, members by kind with name and unit, and the
frequency and ROCOF signals. -/
structure OutStream where
  idcode : Nat
  blockId : Nat
  station : List Byte
  timeBase : Nat
  rate : Int
  phasors : List (Nat × List Byte × Nat)
  analogs : List (Nat × List Byte × Nat)
  digitals : List (Nat × List Byte × Nat)
  freq : Nat
  rocof : Nat


/-- The members of output row o in increasing k. -/
def membersOf (d : Dict) (o : Nat) : List Nat :=
  ((rowsOf d 0x2802 0x01).filter fun r => r / 4096 == o).map fun r => inSet d 0x2802 0x01 r

/-- Channel name and unit of a member (R378). -/
def memberEntry (s : State) (sig : Nat) : Nat × List Byte × Nat :=
  let unit := match ownerOf s sig with
    | some h => (match cfgInUse s h with | some c => unitIn c.blocks (sig - signalBase s h) | none => 0)
    | none => 0
  (sig, ascii ("H" ++ toString sig), unit)

/-- A built stream under a set (R378); a member whose kind is not known is laid out as an analog (assumption 19). -/
def builtStream (s : State) (d : Dict) (o : Nat) : OutStream :=
  let ms := membersOf d o
  let kind := fun (sig : Nat) => match kindOf s sig with | some (k, _) => k | none => 3
  { idcode := inSet d 0x2801 0x03 o, blockId := inSet d 0x2801 0x03 o, station := bytesInSet d 0x2801 0x06 o
    timeBase := inSet d 0x2801 0x09 o, rate := ofTwos 16 (inSet d 0x2801 0x05 o)
    phasors := (ms.filter fun m => kind m == 0).map (memberEntry s)
    analogs := (ms.filter fun m => kind m != 0 && kind m != 4).map (memberEntry s)
    digitals := (ms.filter fun m => kind m == 4).map (memberEntry s)
    freq := inSet d 0x2801 0x07 o, rocof := inSet d 0x2801 0x08 o }

/-- The names of a local stream's phasors and analogs (R427). -/
def localNames : List String := ["VA", "VB", "VC", "V1", "V2", "V0", "IA", "IB", "IC", "I1", "I2", "I0"]
def localAnalogs : List String := ["VA_RMS", "VB_RMS", "VC_RMS", "IA_RMS", "IB_RMS", "IC_RMS"]

/-- A local direct stream under a set (R386, R430). -/
def directStream (d : Dict) (o : Nat) : OutStream :=
  let l := inSet d 0x2801 0x04 o - firstLocal
  let b := 5242880 + 256 * l
  let entry := fun (k : Nat) (n : String) (u : Nat) => (b + k, ascii n, u)
  { idcode := inSet d 0x2801 0x03 o, blockId := inSet d 0x2910 0x04 l, station := bytesInSet d 0x2910 0x05 l
    timeBase := inSet d 0x2801 0x09 o, rate := ofTwos 16 (inSet d 0x2801 0x05 o)
    phasors := ((List.range 12).zip localNames).map fun e => entry e.1 e.2 (e.1 / 6)
    analogs := ((List.range 6).zip localAnalogs).map fun e => entry (14 + e.1) e.2 1
    digitals := [entry 20 "HW" 0x1FF], freq := b + 12, rocof := b + 13 }

/-- An output row as a stream. -/
def outStream (s : State) (d : Dict) (o : Nat) : OutStream := if inSet d 0x2801 0x01 o = 2 then directStream d o else builtStream s d o

/-! ### Frames -/

/-- A frame closed by its FRAMESIZE and CHK. -/
def closeFrame (sync idcode soc frac : Nat) (body : List Byte) : List Byte :=
  let l := be 2 sync ++ be 2 (16 + body.length) ++ be 2 idcode ++ be 4 soc ++ be 4 frac ++ body
  l ++ be 2 (crcCcitt l)

/-- FRACSEC[27:24] and STAT[8:6] of a class (R380). -/
def classCode (c : Nat) : Nat := if c = 7 then 0xF else c + 3
def classStat (c : Nat) : Nat := Nat.min (c + 1) 7

/-- FRACSEC[30:28]: direction, occurred, pending; a leap counts as occurred for a day (assumption 15). -/
def leapBits (s : State) : Nat :=
  let pending := (leapDue s).isSome
  let occurred : Bool := match s.time.lastLeap with | some (u, _) => decide (s.utcSec * 2 ^ 48 < (u : Int) + 86400 * 2 ^ 48) | none => false
  let minus : Bool := match leapDue s, s.time.lastLeap with
    | some (_, g), _ => decide (g < 0)
    | none, some (_, g) => occurred && decide (g < 0)
    | none, none => false
  4 * b2n minus + 2 * b2n occurred + b2n pending

/-- SOC and FRACSEC of slot i at a rate (R380). -/
def frameTimes (s : State) (rate : Int) (i timeBase : Nat) : Nat × Nat :=
  let u := Q.mul (Q.ofNat i) (periodQ rate)
  let soc := (Q.floor u).toNat
  let frac := Q.mul (Q.sub u (Q.ofNat soc)) (Q.ofNat timeBase)
  (soc, leapBits s * 2 ^ 28 + classCode s.timeClass * 2 ^ 24 + (Q.roundUp frac).toNat % 2 ^ 24)

/-- Holdover duration in s (0x2000:07). -/
def holdoverSeconds (s : State) : Nat := if s.time.servo = 3 then (s.now - s.time.holdAt) / sec 1 else 0

/-- The STAT word (R380). -/
def statWord (s : State) (noData someMissing changing : Bool) : Nat :=
  let c := s.timeClass
  let h := holdoverSeconds s
  let lock := if h < 10 then 0 else if h < 100 then 1 else if h < 1000 then 2 else 3
  b2n noData * 0xC000 + b2n (c ≥ 4) * 0x2000 + b2n changing * 0x400 + b2n someMissing * 0x200 + classStat c * 64 + lock * 16

/-- The value fields of R379. -/
def phasorField (w : Nat) : List Byte :=
  if w = missingWord then be 4 nanF32 ++ be 4 nanF32
  else
    let a := ofTwos 32 w
    let a := if a = -(2 ^ 31) then (2 ^ 31 : Int) else a
    be 4 (w / 2 ^ 32) ++ be 4 (toF32 (Q.mul (Q.make a (2 ^ 32)) (Q.mul (Q.ofNat 2) qPi)))
def freqField (fnom w : Nat) : List Byte :=
  be 4 (if w = missingWord then nanF32 else toF32 (Q.add (Q.ofNat fnom) (f32 (w / 2 ^ 32))))
def valueField (w : Nat) : List Byte := be 4 (if w = missingWord then nanF32 else w / 2 ^ 32)
def digitalField (w : Nat) : List Byte := be 2 (if w = missingWord then 0 else w % 65536)

/-- The STAT word and the fields of a data frame, signals read through `word`. -/
def frameFields (s : State) (x : OutStream) (changing : Bool) (word : Nat → Nat) : List Byte :=
  let sigs := (x.phasors ++ x.analogs ++ x.digitals).map (·.1)
  let gone := fun (m : Nat) => word m == missingWord
  be 2 (statWord s (sigs.all gone && gone x.freq) (sigs.any gone) changing) ++ x.phasors.flatMap (fun m => phasorField (word m.1)) ++
  freqField s.fnom (word x.freq) ++ valueField (word x.rocof) ++ x.analogs.flatMap (fun m => valueField (word m.1)) ++
  x.digitals.flatMap (fun m => digitalField (word m.1))

/-- A C37.118.2 data frame of slot i. -/
def dataFrame (s : State) (x : OutStream) (rate : Int) (i : Nat) (changing : Bool) (word : Nat → Nat) : List Byte :=
  let (soc, frac) := frameTimes s rate i x.timeBase
  closeFrame 0xAA02 x.idcode soc frac (frameFields s x changing word)

/-- The 16 bit names of a digital word. -/
def bitNames (n : List Byte) : List (List Byte) :=
  (List.range 16).map fun k => n ++ ascii ".b" ++ ascii (toString (k / 10)) ++ ascii (toString (k % 10))

/-- SOC and FRACSEC now. -/
def timesNow (s : State) (timeBase : Nat) : Nat × Nat :=
  (s.utcSec.toNat, leapBits s * 2 ^ 28 + classCode s.timeClass * 2 ^ 24 + s.t96 % 2 ^ 48 * timeBase / 2 ^ 48)

/-- A CFG-1 or CFG-2 frame (R378). -/
def cfg2Frame (s : State) (x : OutStream) (count type : Nat) : List Byte :=
  let (soc, frac) := timesNow s x.timeBase
  let names := (x.phasors ++ x.analogs).flatMap (fun m => pad16 m.2.1) ++ x.digitals.flatMap fun m => (bitNames m.2.1).flatMap pad16
  let unit := fun (m : Nat × List Byte × Nat) => be 4 (m.2.2 * 2 ^ 24)
  closeFrame (0xAA02 + type * 16) x.idcode soc frac
    (be 4 x.timeBase ++ be 2 1 ++ pad16 x.station ++ be 2 x.blockId ++ be 2 0x000F ++ be 2 x.phasors.length ++ be 2 x.analogs.length ++
     be 2 x.digitals.length ++ names ++ x.phasors.flatMap unit ++ x.analogs.flatMap unit ++ x.digitals.flatMap (fun m => be 4 m.2.2) ++
     be 2 (b2n (s.fnom == 50)) ++ be 2 count ++ be 2 (toTwos 16 x.rate))

/-- A CFG-3 frame. -/
def cfg3Frame (s : State) (x : OutStream) (count : Nat) : List Byte :=
  let (soc, frac) := timesNow s x.timeBase
  let name := fun (l : List Byte) => be 1 l.length ++ l
  let names := (x.phasors ++ x.analogs).flatMap (fun m => name m.2.1) ++ x.digitals.flatMap fun m => (bitNames m.2.1).flatMap name
  closeFrame 0xAA52 x.idcode soc frac
    (be 2 0 ++ be 4 x.timeBase ++ be 2 1 ++ name x.station ++ be 2 x.blockId ++ be 16 Config.identity ++ be 2 0x000F ++ be 2 x.phasors.length ++
     be 2 x.analogs.length ++ be 2 x.digitals.length ++ names ++
     x.phasors.flatMap (fun m => be 2 0 ++ be 1 (m.2.2 * 8) ++ be 1 0 ++ be 4 0x3F800000 ++ be 4 0) ++
     x.analogs.flatMap (fun _ => be 4 0x3F800000 ++ be 4 0) ++ x.digitals.flatMap (fun m => be 4 m.2.2) ++
     be 4 0x7F800000 ++ be 4 0x7F800000 ++ be 4 0x7F800000 ++ be 1 0x4D ++ be 4 0 ++ be 4 0 ++ be 2 (b2n (s.fnom == 50)) ++ be 2 count ++
     be 2 (toTwos 16 x.rate))

/-- A 90-5 SPDU of a data frame's fields, up to its signature (R384). -/
def spduMessage (s : State) (d : Dict) (o number : Nat) (fields : List Byte) : List Byte :=
  let pdu := ber 0x60 (ber 0x80 [1] ++ ber 0xA2 (ber 0x30 (ber 0x80 (bytesInSet d 0x2801 0x0A o) ++ ber 0x87 fields)))
  let payload := be 1 0x82 ++ be 1 0 ++ be 2 0 ++ be 2 (pdu.length + 2) ++ pdu
  let body := be 1 0x80 ++ be 4 (payload.length + 18) ++ be 4 number ++ be 2 1 ++ be 4 s.utcSec.toNat ++ be 2 0 ++ be 1 0 ++ be 1 3 ++
    be 4 (inSet d 0x2801 0x0B o) ++ be 4 payload.length ++ payload
  be 1 0xA2 ++ be 1 0 ++ body

/-- An SPDU under its key (R384); none while the key is not usable. -/
def spdu (s : State) (d : Dict) (o number : Nat) (fields : List Byte) : Option (List Byte) :=
  (keyOf s (inSet d 0x2801 0x0B o) [0]).map fun k =>
    let msg := spduMessage s d o number fields
    msg ++ be 1 0x85 ++ be 1 16 ++ (Config.hmacSha256 k msg).take 16

/-! ### Sending -/

/-- Entries of a row and of its members in a set. -/
def rowEntries (d : Dict) (o : Nat) : Dict :=
  d.filter fun e => (e.1 / 0x100000000 == 0x2801 && e.1 % 0x1000000 == o) || (e.1 / 0x100000000 == 0x2802 && e.1 % 0x1000000 / 4096 == o)
/-- A swap that has been accepted changes the row or its members (R381). -/
def changePending (s : State) (o : Nat) : Bool := s.sets.swap.isSome && rowEntries s.active o != rowEntries s.shadow o

/-- Output streams run on a pair in this device state (R386, R397). -/
def publishes (s : State) (kind pair : Nat) : Bool :=
  s.cfgB 0x2800 0x01 && (s.running || (s.dev == stSentinel && kind == 2 && pair == 2))
/-- Subscriber rows in use. -/
def subRows (s : State) : List Nat := rowsOf s.active 0x2803 0x01
/-- Subscriber state (0x2804:01). -/
def subState (s : State) (r : Nat) : Nat :=
  let o := s.cfg 0x2803 0x01 r
  if o = 0xFF || !publishes s (s.cfg 0x2801 0x01 o) (s.cfg 0x2803 0x02 r) then 0
  else if s.cfg 0x2803 0x05 r = 1 && !s.pub.subsOn.contains r then 2 else 1

/-- Send a payload to a subscriber row; a pair that is DOWN loses it (R382, R385). -/
def sendToSub (r : Nat) (port : Nat) (payload : List Byte) (s : State) : State :=
  let pair := s.cfg 0x2803 0x02 r
  if pairDown s pair then raiseOnce 0x280B r (le 1 r ++ le 1 pair) (s.bump 0x2840 0x02)
  else
    let s := sendUdp pair 5 port (s.cfgBytes 0x2803 0x03 r) (s.cfg 0x2803 0x04 r) payload s
    (s.bump 0x2804 0x02 r).bump 0x2840 0x01

/-- Send the frames of streams for slot i, given their fields and C37.118.2 frames, to their subscribers in increasing row number; a Wheel holds
them (R676). -/
def sendStreams (d : Dict) (i : Nat) (frames : Tab (List Byte × List Byte)) (s : State) : State :=
  let (made, s) := frames.foldl (fun (a : Tab (Option (List Byte × Nat)) × State) e =>
      let s := a.2
      if inSet d 0x2801 0x02 e.1 = 2 then
        let s := keyUsed (inSet d 0x2801 0x0B e.1) [0] s
        let n := (tabGet 0 s.pub.spduNo e.1 + 1) % 2 ^ 32
        match spdu s d e.1 n e.2.1 with
        | some l => (putKey e.1 (some (l, 102)) a.1, s.onPub fun p => { p with spduNo := putKey e.1 n p.spduNo })
        | none => (putKey e.1 none a.1, s)
      else (putKey e.1 (some (e.2.2, s.cfg 0x2800 0x02)) a.1, s)) ([], s)
  let s := (subRows s).foldl (fun s r =>
    let o := s.cfg 0x2803 0x01 r
    match tabGet none made o with
    | some (l, port) =>
      if subState s r ≠ 1 then s
      else if roleNow s = 2 then holdTx ⟨srcOutput o, i, s.now, r, [], l, port, 0⟩ s
      else sendToSub r port l s
    | none => s) s
  if roleNow s = 2 then s else frames.foldl (fun s e => sentMark (srcOutput e.1) i s) s

/-- Slot i's instant is a whole multiple of the output period (R377). -/
def atOutput (group out : Int) (i : Nat) : Bool :=
  let x := Q.div (Q.mul (Q.ofNat i) (periodQ group)) (periodQ out)
  Q.eqv x (Q.ofInt (Q.floor x))

/-- Publish the built streams of group g at COMMIT(i) (R377). -/
def publishCommit (g i : Nat) (s : State) : State :=
  match (s.group g).slot? i with
  | none => s
  | some sl =>
    let d := pubSet s sl.boundary
    let due := (rowsOf d 0x2801 0x01).filter fun o =>
      inSet d 0x2801 0x01 o == 1 && inSet d 0x2801 0x04 o == g && atOutput sl.rate (ofTwos 16 (inSet d 0x2801 0x05 o)) i
    let word := fun (sig : Nat) => if sig = 0xFFFFFFFF then missingWord else (sl.present true sig).word
    let frames := due.map fun o =>
      let x := builtStream { s with active := d } d o
      let (soc, frac) := frameTimes s sl.rate i x.timeBase
      (o, be 4 soc ++ be 4 frac ++ frameFields s x (changePending s o) word, dataFrame s x sl.rate i (changePending s o) word)
    sendStreams d i frames s

/-- Publish the local direct streams of local stream l at reporting instant i of its group, from its words (R386). -/
def publishLocal (l i : Nat) (words : List Nat) (s : State) : State :=
  let rate := s.cfgInt 0x2301 0x01 (s.cfg 0x2910 0x02 l)
  let d := pubSet s (slotPoint s rate i (-2))
  let due := (rowsOf d 0x2801 0x01).filter fun o => inSet d 0x2801 0x01 o == 2 && inSet d 0x2801 0x04 o == firstLocal + l
  let word := fun (sig : Nat) => words.getD (sig - (5242880 + 256 * l)) missingWord
  let frames := due.map fun o =>
    let x := directStream d o
    let (soc, frac) := frameTimes s rate i x.timeBase
    (o, be 4 soc ++ be 4 frac ++ frameFields s x (changePending s o) word, dataFrame s x rate i (changePending s o) word)
  sendStreams d i frames s

/-! ### Commands (R383) -/

/-- CFGCNT of a stream. -/
def cfgCount (s : State) (o : Nat) : Nat := s.ro 0x2805 0x01 o

/-- Answer a command with a frame to its sender. -/
def answer (pair : Nat) (src : List Byte) (sport : Nat) (l : List Byte) (s : State) : State :=
  sendUdp pair 6 (s.cfg 0x2800 0x02) src sport l (s.bump 0x2840 0x03)

/-- Turn the commanded-mode rows of an address on or off. -/
def switchSubs (src : List Byte) (on : Bool) (s : State) : State :=
  ((subRows s).filter fun r => s.cfg 0x2803 0x05 r == 1 && s.cfgBytes 0x2803 0x03 r == src).foldl (fun s r =>
    if s.pub.subsOn.contains r == on then s
    else
      let s := s.onPub fun p => { p with subsOn := if on then sortNat (r :: p.subsOn) else p.subsOn.filter fun k => k != r }
      raiseOnce 0x2802 r (le 1 r ++ le 1 (subState s r)) s) s

/-- OUTPUT_COMMAND_RX (R383). -/
def outputCommand (pair : Nat) (src : List Byte) (sport : Nat) (l : List Byte) (s : State) : State :=
  let id := beAt l 4 2
  let o := (rowsOf s.active 0x2801 0x01).find? fun o => s.cfg 0x2801 0x03 o == id && publishes s (s.cfg 0x2801 0x01 o) pair
  let refuse := s.bump 0x2840 0x04
  if !(s.running || s.dev == stSentinel) then s
  else if l.length < 18 || byteAt l 0 != 0xAA || frameType l != 4 || !chkGood l || beAt l 2 2 != l.length then refuse
  else match o with
    | none => refuse
    | some o =>
      if !(subRows s).any (fun r => s.cfg 0x2803 0x01 r == o && s.cfgBytes 0x2803 0x03 r == src) then refuse
      else
        let x := outStream s s.active o
        match beAt l 14 2 with
        | 1 => (switchSubs src false s).bump 0x2840 0x03
        | 2 => (switchSubs src true s).bump 0x2840 0x03
        | 3 =>
          let (soc, frac) := timesNow s x.timeBase
          answer pair src sport (closeFrame 0xAA12 x.idcode soc frac x.station) s
        | 4 => answer pair src sport (cfg2Frame s x (cfgCount s o) 2) s
        | 5 => answer pair src sport (cfg2Frame s x (cfgCount s o) 3) s
        | 6 => answer pair src sport (cfg3Frame s x (cfgCount s o)) s
        | _ => refuse

def execOutputCommandRx (t pair : Nat) (src : List Byte) (sport : Nat) (frame : List Byte) (s : State) : Host.Outcome State Fault Refusal :=
  complete t (outputCommand pair src sport frame) s

/-- At a swap: CFGCNT of the streams whose row or members change (R381). -/
def publishSwap (before : Dict) (at_ : Nat) (s : State) : State :=
  let changed := (List.range 64).filter fun o => rowEntries before o != rowEntries s.active o
  let s := s.onPub fun p => { p with oldSet := some (before, at_), subsOn := p.subsOn.filter fun r => s.cfg 0x2803 0x05 r == 1 }
  changed.foldl (fun s o =>
    let n := (cfgCount s o + 1) % 65536
    raise 0x2801 (le 1 o ++ le 2 n) (s.setRow 0x2805 0x01 o n)) s

/-! ### Archive (R387–R390) -/

/-- The gap record owed before the next record (R389). -/
def gapRecord (g : Gap) : List Byte :=
  record 2 g.group 0 g.slot g.at_ (0xFFFF * 2 ^ 16) (le 8 g.records ++ le 8 g.samples ++ le 8 g.bytes ++ le 8 ((g.last - g.at_) * 1000000000 / 2 ^ 48))

/-- Write a record to the archive, or lose it (R389). -/
def archiveWrite (group slot at_ samples : Nat) (l : List Byte) (s : State) : State :=
  let gap := match s.pub.gap with | some g => [gapRecord g] | none => []
  let need := l.length + (gap.map List.length).foldl (· + ·) 0
  if dmaReady s s.host.archive && need ≤ s.host.archive.free then
    let s := match s.pub.gap with
      | some g =>
        let s := archivePush (gapRecord g) (s.onPub fun p => { p with gap := none })
        raiseOnce 0x2803 0 (le 8 g.records ++ le 8 g.samples) (s.bump 0x2840 0x07)
      | none => s
    archivePush l s
  else
    let g : Gap := match s.pub.gap with
      | some g => { g with records := g.records + 1, samples := g.samples + samples, bytes := g.bytes + l.length, last := at_ }
      | none => ⟨group, slot, at_, 1, samples, l.length, at_⟩
    ((s.onPub fun p => { p with gap := some g }).bump 0x2840 0x08).addTo 0x2840 0x09 samples

/-- Archiving is on. -/
def archives (s : State) (g : Nat) : Bool := s.running && s.cfgB 0x2810 0x01 && bit (s.cfg 0x2810 0x02) g

/-- The records of a committed slot, streams in increasing handle (R387). -/
def archiveCommit (g i : Nat) (s : State) : State :=
  match (s.group g).slot? i with
  | none => s
  | some sl =>
    if !archives s g then s
    else (recordStreams s g sl).foldl (fun s h => archiveWrite g i sl.nominal (s.stream h).kinds.length (slotRecord s g i sl h) s) s

/-- A late record (kind 1) of a frame later than the horizon (R212, R387). -/
def archiveLate (g i nominal h : Nat) (cells : List Cell) (s : State) : State :=
  if archives s g && s.cfgB 0x2810 0x03 then archiveWrite g i nominal cells.length (sampleRecord 1 g i nominal (signalBase s h) h cells) s else s

/-- Archiving starts: its first record is of kind 3 (R390); cause 0 RUN entered, 1 enabled. -/
def archiveStart (cause : Nat) (s : State) : State :=
  if s.running && s.cfgB 0x2810 0x01 then
    raise 0x2804 (le 1 cause) (archiveWrite 0xFF cause s.t96 0 (record 3 0xFF 0 cause s.t96 (0xFFFF * 2 ^ 16) []) s)
  else s

/-- 0x2830:04 Clear publishing counters. -/
def clearPublishing (s : State) : State := (s.clearObjects [(0x2804, 2)]).clearRange 0x2840 0x2840

def execClearPublishingCounters (t : Nat) (who : Who) (s : State) : Host.Outcome State Fault Refusal :=
  complete t (runPlain 0x2830 0x04 who (ok clearPublishing)) s

end Sys2Proof.Machine
end

