-- ==== Sys2Proof/Machine/Confluence.lean ====
section
/-! DEFINITION. Confluence: the grids (R191, R232), the slot transitions (R199, R200), delivery (R202–R204), recall and its budget (R216–R226),
habitual lateness (R227–R229), and the slotting of frames (R189–R192, R211–R215). -/

namespace Sys2Proof.Machine
open Sys2Proof

/-! ### Grids -/

/-- Start group g's grid at a T96 instant (R191). -/
def startGrid (g at_ : Nat) (s : State) : State :=
  let r := s.cfgInt 0x2301 0x01 g
  let i := firstSlotAt s r at_
  let i := if slotOmitted s r i then nextSlot s r i else i
  let x := s.group g
  let s := s.setGroup g { x with rate := r, first := i, next := i, newest := none, restartAt := none }
  raise 0x2309 (le 1 g ++ le 12 (slotPoint s r i (-2))) s

/-- Start the grid of every group in use that has none: on entry to RUN, when T96 is first set in RUN, and after a swap (R191, R232). -/
def gridsFollow (s : State) : State :=
  if !(s.running && s.time.isSet) then s
  else (List.range 64).foldl (fun s g =>
    if s.cfgInt 0x2301 0x01 g != 0 && (s.group g).rate == 0 then startGrid g ((s.group g).restartAt.getD s.t96) s else s) s

def execSourceQualified (t src : Nat) (s : State) : Host.Outcome State Fault Refusal :=
  complete t (fun s => gridsFollow (sourceQualify src s)) s

/-! ### The slots of a group in their order -/

/-- Slots by boundary, oldest first: those of an earlier grid come before those of the present one. -/
def inOrder (x : Group) : List (Nat × Slot) := sortBy (fun a b => decide (a.2.boundary ≤ b.2.boundary)) x.slots
/-- The slot before a boundary that the grid holds. -/
def slotBefore (x : Group) (boundary : Nat) : Option Slot := ((inOrder x).filter fun e => e.2.boundary < boundary).getLast?.map (·.2)
/-- The slot after a boundary that the grid holds. -/
def slotAfter (x : Group) (boundary : Nat) : Option Slot := ((inOrder x).find? fun e => boundary < e.2.boundary).map (·.2)

/-- Slot i leaves OPEN: N of R211. -/
def leaveOpen (g i : Nat) (sl : Slot) (s : State) : State :=
  let x := s.group g
  if sl.rate = x.rate then s.setGroup g { x with newest := some (match x.newest with | some n => Nat.max n i | none => i) } else s

/-- Close the horizons that N has passed: logs are dropped, committed slots leave the grid (R199, R211, R216). -/
def pruneSlots (g : Nat) (s : State) : State :=
  let x := s.group g
  match x.newest with
  | none => s
  | some n =>
    let out := fun (e : Nat × Slot) => if e.2.rate = x.rate then e.1 + 32 ≤ n else e.2.state == 4
    s.setGroup g { x with slots := (x.slots.filter fun e => !(out e && e.2.state == 4)).map fun e =>
      (e.1, if out e then { e.2 with undo := none } else e.2) }

/-! ### Delivery to speculative consumers -/

/-- Rules whose tracks a group's slots move. -/
def specTracks (g : Nat) (s : State) : Tab Track := s.alarm.spec.filter fun e => (slotRules s g).contains e.1

/-- The undo log of a PROCESS, from the states before and after it (R216). -/
def undoOf (g : Nat) (before after : State) : Undo :=
  { bands := eddySnapshot g before, oxbow := before.ox g
    alloc := if after.oxbow.lastId = before.oxbow.lastId then none else some before.oxbow.lastId
    gens := (after.oxbow.gens.filter fun e => tabGet 0 before.oxbow.gens e.1 != e.2).map fun e => (e.1, tabGet 0 before.oxbow.gens e.1)
    tracks := specTracks g before }

/-- A PROCESS of the group waits for pack frames (R688). -/
def packWaits (s : State) (g : Nat) : Bool := (lookup g s.duplex.pack.waiting).isSome

/-- PROCESS(i) (R203): Eddy and Oxbow, then the rules.  In a pack it waits, after Eddy, for the other members' frames of the slot (R687, R688); a
replay takes what has come. -/
def deliverProcess (g i : Nat) (replay direct : Bool) (s : State) : State :=
  let s := sendNodes g i (sendCounts g i 0 (eddyProcess g i s))
  if packed s && !replay then
    s.onPack fun p => { p with waiting := putKey g ⟨i, direct, 1, s.now⟩ p.waiting }
  else
    let s := sendResults g i false (oxbowTrack g i (sendEdges g i (oxbowEdges g i s)))
    alarmProcess g i replay direct s

/-- Apply an undo log (R216, R218). -/
def applyUndo (g : Nat) (u : Undo) (s : State) : State :=
  let s := eddyRestore u.bands (s.setOx g u.oxbow)
  let s := s.onOxbow fun o => { o with
    lastId := u.alloc.getD o.lastId, gens := u.gens.foldl (fun t e => putKey e.1 e.2 t) o.gens }
  let mine := slotRules s g
  s.onAlarm fun a => { a with spec := u.tracks.foldl (fun t e => putKey e.1 e.2 t) (a.spec.filter fun e => !mine.contains e.1) }

/-! ### Lateness (R227–R229) -/

/-- An entry of a stream's lateness lies among the n slot indices up to i. -/
def withinLast (i n : Nat) (e : Nat × Bool) : Bool := e.1 ≤ i && i < e.1 + n

/-- Record a stream's lateness for slot i of a grid of rate r, and decide its status. -/
def recordLateness (g h i : Nat) (r : Int) (late : Bool) (s : State) : State :=
  let x := s.stream h
  let all := (i, late) :: x.lateness
  let n := slotsIn r (s.cfg 0x2300 0x03)
  let m := slotsIn r (s.cfg 0x2300 0x04)
  let kept := ((List.range all.length).zip all).filterMap fun e => if e.1 < 10 || withinLast i (Nat.max n m) e.2 then some e.2 else none
  let s := s.setStream h { x with lateness := kept }
  if all.length < 10 then s
  else
    let inN := all.filter (withinLast i n)
    let l := if inN.length < 10 then all.take 10 else inN
    let f := (l.filter (·.2)).length * 10000 / l.length
    let exceeds := s.cfg 0x2300 0x02 * l.length < (l.filter (·.2)).length * 10000
    let s := s.setRow 0x2311 0x02 h f
    if s.ro 0x2311 0x01 h = 0 then
      (if exceeds then decisionRecord g i 5 1 [h] (raise 0x2303 (le 2 h ++ le 2 f) (s.setRow 0x2311 0x01 h 1)) else s)
    else if (all.filter (withinLast i m)).all (fun e => !e.2) && (all.take 10).all (fun e => !e.2) then
      decisionRecord g i 5 0 [h] (raise 0x2304 (le 2 h) (s.setRow 0x2311 0x01 h 0))
    else s

/-! ### Release and commit -/

/-- The Lead's latched values of a slot (R670 type 3). -/
def sendLatched (g i : Nat) (s : State) : State :=
  match (s.group g).slot? i with
  | some sl =>
    if leads s && !sl.latched.isEmpty then
      sendMirror false 3 (be 1 g ++ be 8 i ++ sl.latched.flatMap fun e => be 4 e.1 ++ be 8 e.2.1 ++ be 1 (b2n e.2.2)) s
    else s
  | none => s

/-- OPEN to RELEASED (R199). -/
def releaseSlot (g i cause : Nat) (s : State) : State :=
  match (s.group g).slot? i with
  | none => s
  | some sl =>
    let s := setSlot g i { sl with state := 2, cause := cause, releaseT96 := s.t96, cls := s.timeClass, arrivedAtRelease := some sl.arrived } s
    let s := predictSlot g i (leaveOpen g i sl s)
    let before := s
    let s := deliverProcess g i false false s
    let s := onSlot g i (fun x => { x with undo := some (undoOf g before s) }) s
    let s := s.setGroup g { s.group g with newestReleased := some i }
    pruneSlots g (decisionRecord g i 0 cause sl.arrived (sendLatched g i (s.bump 0x2320 0x01 g)))

/-- Missing samples of a slot's expected and arrived streams (0x2320:0C). -/
def missingCommitted (s : State) (sl : Slot) : Nat :=
  ((sl.expected ++ sl.arrived.filter fun h => !sl.expected.contains h).map fun h =>
    ((List.range (s.stream h).kinds.length).filter fun k => (sl.present true (signalBase s h + k)).word == missingWord).length).foldl (· + ·) 0

/-- COMMIT(i) to every consumer, with the speculative state as of the slot: that before the next slot's PROCESS (R203, R279, R344). -/
def deliverCommit (g i : Nat) (sl : Slot) (s : State) : State :=
  let next := (slotAfter (s.group g) sl.boundary).bind (·.undo)
  let bands := match next with | some u => u.bands | none => eddySnapshot g s
  let ox := match next with | some u => u.oxbow | none => s.ox g
  let s := oxbowCommit g sl.nominal ox (eddyCommit g i bands s)
  let s := alarmCommit g i bands ox (locationCommit g i (modeCommit g i s))
  let s := sendSamples g i (sendCounts g i 1 s)
  jobsCommit g i (energyCommit g i (ringCommit g i (archiveCommit g i (publishCommit g i s))))

/-- The COMMIT of a slot that has had its PROCESS; `sl` is the slot as decided on. -/
def commitRest (g i : Nat) (sl : Slot) (s : State) : State :=
  let cause := if sl.state == 1 then (if sl.complete then 4 else 5) else sl.cause
  let s := onSlot g i (fun x => { x with state := 4, commitT96 := s.t96, cells := x.cells }) s
  let s := leaveOpen g i sl s
  let s := if sl.complete then s else s.bump 0x2320 0x03 g
  let s := s.addTo 0x2320 0x0C (missingCommitted s sl) g
  let s := if sl.arrived.isEmpty then raiseOnce 0x2308 g (le 1 g ++ le 8 i) s else s
  let ref := sl.arrivedAtRelease.getD sl.arrived
  let s := if follows s then s else sl.expected.foldl (fun s h => recordLateness g h i sl.rate (!ref.contains h) s) s
  let s := match (s.group g).slot? i with | some now => deliverCommit g i now s | none => s
  let s := s.setGroup g { s.group g with newestCommitted := some i }
  pruneSlots g (decisionRecord g i 1 cause sl.arrived (sendLatched g i s))

/-- To COMMITTED, from OPEN through a PROCESS of its own (R24, R199). -/
def commitSlot (g i : Nat) (s : State) : State :=
  match (s.group g).slot? i with
  | none => s
  | some sl =>
    let direct := sl.state == 1
    let cause := if direct then (if sl.complete then 4 else 5) else sl.cause
    let s := setSlot g i { sl with cause := cause } s
    let s := if direct then (deliverProcess g i false true s).bump 0x2320 0x02 g else s
    if direct && packWaits s g then s else commitRest g i sl s

/-! ### Decisions (R199, R200) -/

/-- The slot before one in its group has left OPEN or is not in the grid. -/
def predecessorLeft (x : Group) (sl : Slot) : Bool := match slotBefore x sl.boundary with | some p => p.state != 1 | none => true

/-- The first transition that applies to a slot: 1 commit, 2 release; with the release cause. -/
def slotDecision (s : State) (x : Group) (sl : Slot) : Option (Bool × Nat) :=
  let prev := slotBefore x sl.boundary
  let prevDone : Bool := match prev with | some p => p.state == 4 | none => true
  let due := sl.complete || sl.waitOver s.t96
  if (sl.state == 1 || sl.state == 2) && due && prevDone then some (true, 0)
  else if sl.state == 1 && sl.speculative && predecessorLeft x sl then
    (if sl.complete then some (false, 3) else if sl.quorumMet then some (false, 1)
     else if sl.waitReleases s.fnom s.t96 then some (false, 2) else none)
  else none

/-- Record the streams arrived when a release condition of R199 first holds (R227). -/
def noteReference (g : Nat) (s : State) : State :=
  let x := s.group g
  s.setGroup g { x with slots := x.slots.map fun e =>
    if e.2.state == 1 && e.2.arrivedAtRelease.isNone && predecessorLeft x e.2 &&
       (e.2.quorumMet || e.2.complete || e.2.waitReleases s.fnom s.t96) then
      (e.1, { e.2 with arrivedAtRelease := some e.2.arrived }) else e }

/-- Take one decision of a group, if one is possible. -/
def decideOne (g : Nat) (s : State) : Option State :=
  let x := s.group g
  if packWaits s g then none else (inOrder x).findSome? fun e =>
    match slotDecision s x e.2 with
    | some (true, _) => some (commitSlot g e.1 s)
    | some (false, cause) => some (releaseSlot g e.1 cause s)
    | none => none

/-- Take decisions until none is possible. -/
def decideLoop (g : Nat) : Nat → State → State
  | 0, s => s
  | n + 1, s => match decideOne g (noteReference g s) with | some s' => decideLoop g n s' | none => noteReference g s

/-- The FAB cycle of an instant (1.0 GHz). -/
def fabCycle (ps : Nat) : Nat := ps / 1000
/-- A command slots a frame, and its instant. -/
def frameAt : Instr → Option Nat
  | .ingestDatagram t .. => some t
  | .spduRx t .. => some t
  | .estimatorOutput t .. => some t
  | _ => none
/-- Frames of the present FAB cycle still wait in the queue. -/
def framesToCome (s : State) : Bool :=
  s.pending.any fun c => match frameAt c with | some t => decide (fabCycle t ≤ fabCycle s.now) | none => false

/-- The decisions of a group that are possible now; none while a recall waits. -/
def decideGroup (g : Nat) (s : State) : State :=
  if (s.group g).recallTarget.isSome || packWaits s g then noteReference g s
  else decideLoop g (2 * (s.group g).slots.length + 1) s

/-- The decisions of a group: none by a Wheel (R217, R230); they wait for the frames slotted in the same FAB cycle (R200). -/
def takeDecisions (g : Nat) (s : State) : State :=
  if follows s || !s.running then s
  else if framesToCome s then s.onIngest fun i => { i with deciding := if i.deciding.contains g then i.deciding else g :: i.deciding }
  else decideGroup g s

/-- After the last frame of a FAB cycle the decisions that waited for it are taken, in increasing group number. -/
def settleDecisions (s : State) : State :=
  if framesToCome s then s
  else (sortNat s.ingest.deciding).foldl (fun s g => takeDecisions g s) (s.onIngest fun i => { i with deciding := [] })

/-! ### Opening -/

/-- The group takes speculative releases for a slot of this boundary (R223, R224, R226). -/
def speculativeAt (s : State) (g boundary : Nat) : Bool :=
  let x := s.group g
  (readIn (pubSet s boundary) 0x2304 0x01 g).bits != 0 && x.resumeAt ≤ boundary && (match x.suspended with | some (_, begin_, _) => boundary ≤ begin_ | none => true)

/-- A slot's parameters as a set gives them (R232). -/
def slotParameters (d : Dict) (g : Nat) (sl : Slot) : Slot :=
  let rd := fun idx sub => (readIn d idx sub g).bits
  { sl with
    wait := rd 0x2301 0x02, specWait := rd 0x2304 0x03, quorum := rd 0x2304 0x02, floor := rd 0x2304 0x04
    tolerances := (List.range 6).map fun k => rd 0x2305 (k + 1), budget := rd 0x2304 0x05 }

/-- A new slot (R193, R195, R232). -/
def newSlot (s : State) (g i : Nat) : Slot :=
  let r := (s.group g).rate
  let b := slotPoint s r i (-2)
  let e := (liveStreams s g).filter fun h => (h ≥ firstLocal || streamState s h == 3) && homeHere s h
  slotParameters (pubSet s b) g
    { state := 1, boundary := b, nominal := slotPoint s r i 0, rate := r, wait := 0, specWait := 0, quorum := 0, floor := 0, tolerances := [], budget := 0,
      speculative := speculativeAt s g b, expected := e,
      quorumSet := e.filter fun h => s.ro 0x2311 0x01 h == 0, arrived := [], firstAt := none, arrivedAtRelease := none, frames := [],
      cells := [], predicted := [], stash := [], predictedStreams := 0, cause := 0, releaseT96 := 0, commitT96 := 0, cls := 0, undo := none,
      latched := [] }

/-- The next slot of a grid enters it, and the grid goes on to the slot after it; at a boundary of group 0 a pair does what it waited for. -/
def openSlot (g : Nat) (s : State) : State :=
  let x := s.group g
  let i := x.next
  let s := s.setGroup g { x with next := nextSlot s x.rate i, slots := putKey i (newSlot s g i) x.slots }
  if g = 0 then pairBoundary s else s

/-- SLOT_OPEN (R191, R199): the start of the next window has been reached. -/
def slotOpen (g : Nat) (s : State) : State :=
  let x := s.group g
  if !(s.running && s.time.isSet) || x.rate == 0 || s.t96 < slotPoint s x.rate x.next (-2) then s
  else takeDecisions g (openSlot g s)

def execSlotOpen (t group : Nat) (s : State) : Host.Outcome State Fault Refusal := complete t (slotOpen group) s

def execSpeculativeWaitExpiry (t group slot : Nat) (s : State) : Host.Outcome State Fault Refusal :=
  complete t (fun s => if ((s.group group).slot? slot).isSome then takeDecisions group s else s) s

def execMaximumWaitExpiry (t group slot : Nat) (s : State) : Host.Outcome State Fault Refusal :=
  complete t (fun s => if ((s.group group).slot? slot).isSome then takeDecisions group s else s) s

/-! ### Recall (R217–R226) -/

/-- Suspend speculation (R222, R225). -/
def suspend (g cause seconds : Nat) (s : State) : State :=
  let s := s.setGroup g { s.group g with suspended := some (cause, s.t96, s.t96 + seconds * 2 ^ 48) }
  let s := if cause = 0 then s.bump 0x2320 0x09 g else s
  decisionRecord g 0 3 cause [] (raise 0x2301 (le 1 g ++ le 1 cause ++ le 2 seconds) s)

/-- Replay slot k: fresh predictions, PROCESS with the present cells, a new log, and its commit where that is due (R218, R220). -/
def replaySlot (g k : Nat) (s : State) : State :=
  let s := predictSlot g k s
  let before := s
  let s := deliverProcess g k true false s
  let s := onSlot g k (fun x => { x with state := 2, undo := some (undoOf g before s) }) s
  if follows s then s
  else match (s.group g).slot? k with
  | some sl =>
    (match slotDecision s (s.group g) sl with
     | some (true, _) => commitSlot g k (s.bump 0x2320 0x0B g)
     | _ => s)
  | none => s

/-- recall(g, r) of R218; the budget counts it when `budget`. -/
def recallRun (g r : Nat) (s : State) : State :=
  let x := s.group g
  match x.slot? r with
  | none => s
  | some target =>
    let back := (inOrder x).filter fun e => target.boundary ≤ e.2.boundary && (e.2.state == 2 || e.2.state == 3) && e.2.undo.isSome
    let now := s.t96
    let second := x.recalls.filter fun a => now ≤ a + 2 ^ 48 && a < now
    let exceeds := second.length ≥ target.budget
    let s := s.setGroup g { x with recalls := second ++ [now], recallTarget := none }
    let s := decisionRecord g r 2 0 target.arrived s
    let s := back.reverse.foldl (fun s e =>
      let s := match e.2.undo with | some u => applyUndo g u s | none => s
      onSlot g e.1 (fun y => { y with state := 3, undo := none }) s) s
    let s := sendCounts g r 2 s
    let mine := slotRules s g
    let s := s.onAlarm fun a => { a with replaySince := a.replaySince.filter fun e => !mine.contains e.1 }
    let s := back.foldl (fun s e => replaySlot g e.1 s) s
    let s := (s.bump 0x2320 0x04 g).addTo 0x2320 0x05 back.length g
    let s := raiseOnce 0x2305 g (le 1 g ++ le 8 r ++ le 1 (Nat.min back.length 255)) s
    if exceeds && (s.group g).suspended.isNone && s.cfgB 0x2304 0x01 g && !follows s then suspend g 0 (s.cfg 0x2300 0x01) s else s

/-- The recall requested of a group is executed, to the lowest slot of the requests (R217). -/
def recallNow (g : Nat) (s : State) : State :=
  match (s.group g).recallTarget with
  | some r =>
    if !s.running || follows s || packWaits s g then s
    else
      let s := recallRun g r s
      takeDecisions g (s.setGroup g { s.group g with recallTarget := none })
  | none => s

/-- A recall of one group goes before that of another: by the FAB cycle of the request, then by group number (R221). -/
def recallBefore (a b : Nat × Nat) : Bool := a.1 < b.1 || (a.1 == b.1 && a.2 ≤ b.2)
/-- The groups whose recall is requested, with the cycle of the request, in the order in which the recalls are executed. -/
def recallOrder (s : State) : List (Nat × Nat) :=
  sortBy recallBefore (s.groups.filterMap fun e => if e.2.recallTarget.isSome then some (e.2.recallAt, e.1) else none)

/-- RECALL: the recalls requested up to that of a group are executed in their order (R221). -/
def recallUpTo (g : Nat) (s : State) : State :=
  match (s.group g).recallTarget with
  | none => s
  | some _ =>
    ((recallOrder s).filter fun e => recallBefore e ((s.group g).recallAt, g)).foldl (fun s e => recallNow e.2 s) s

def execRecallDue (t group : Nat) (s : State) : Host.Outcome State Fault Refusal := complete t (recallUpTo group) s

/-- Speculation resumes from the first slot whose boundary lies at or after an instant (R224). -/
def resume (g cause at_ : Nat) (s : State) : State :=
  let x := s.group g
  let s := s.setGroup g { x with
    suspended := none, recalls := [], resumeAt := at_
    slots := x.slots.map fun e => (e.1, if e.2.state == 1 && at_ ≤ e.2.boundary then { e.2 with speculative := s.cfgB 0x2304 0x01 g } else e.2) }
  takeDecisions g (decisionRecord g 0 4 cause [] (raise 0x2302 (le 1 g ++ le 1 cause) s))

/-- SUSPENSION_EXPIRY. -/
def suspensionOver (g : Nat) (s : State) : State :=
  match (s.group g).suspended with
  | some (_, _, end_) => if end_ ≤ s.t96 && !follows s then resume g 0 end_ s else s
  | none => s

def execSuspensionExpiry (t group : Nat) (s : State) : Host.Outcome State Fault Refusal := complete t (suspensionOver group) s

/-- 0x2330:02 Resume speculation; with no suspension there is nothing to resume: state conflict. -/
def resumeCommand (g : Nat) (s : State) : State × Nat :=
  if (s.group g).suspended.isSome && !follows s then (resume g 1 s.t96 s, 0) else (s, 0x06)

def execResumeSpeculation (t : Nat) (who : Who) (group : Nat) (s : State) : Host.Outcome State Fault Refusal :=
  complete t (runCommand 0x2330 0x02 group (.num 0) who (resumeCommand group)) s

/-- CHECKPOINT_ERROR (R225): the group's logs are lost; a slot that waited for its replay stands as released, and a commit-only group has no
suspension (R226). -/
def checkpointLost (g : Nat) (s : State) : State :=
  if !s.running then s
  else
    let x := s.group g
    let s := s.setGroup g { x with
      recallTarget := none
      slots := x.slots.map fun e => (e.1, { e.2 with undo := none, state := if e.2.state = 3 then 2 else e.2.state }) }
    let s := s.bump 0x2320 0x0D g
    takeDecisions g (if follows s || !s.cfgB 0x2304 0x01 g then s else suspend g 1 10 s)

def execCheckpointError (t group : Nat) (s : State) : Host.Outcome State Fault Refusal := complete t (checkpointLost group) s

/-- 0x2330:01 Clear alignment counters. -/
def clearAlignment (s : State) : State := (s.clearObjects [(0x2311, 4), (0x2311, 5), (0x2321, 1)]).clearRange 0x2320 0x2320

def execClearAlignmentCounters (t : Nat) (who : Who) (s : State) : Host.Outcome State Fault Refusal :=
  complete t (runPlain 0x2330 0x01 who (ok clearAlignment)) s

/-! ### Swaps (R210, R232) -/

/-- A group at a swap: slots from the swap on take the new parameters; at a change of rate the old slots run out and the new grid starts at the end
of the last old window. -/
def alignSwapGroup (at_ g : Nat) (s : State) : State :=
  let x := s.group g
  let new := s.cfgInt 0x2301 0x01 g
  if x.rate = new then
    let x := if s.cfgB 0x2304 0x01 g then x else { x with suspended := none, recalls := [] }
    s.setGroup g { x with slots := x.slots.map fun e =>
      if at_ ≤ e.2.boundary then
        (e.1, { slotParameters s.active g e.2 with speculative := if e.2.state = 1 then speculativeAt s g e.2.boundary else e.2.speculative })
      else e }
  else if x.rate = 0 then s.setGroup g { x with restartAt := if s.time.isSet then some at_ else none }
  else
    let last := slotPoint s x.rate (firstSlotAt s x.rate at_) (-2)
    let s := s.setGroup g { x with
      rate := 0, newest := none, restartAt := some last
      slots := x.slots.filter fun e => !(at_ ≤ e.2.boundary && e.2.state == 1) }
    (liveStreams s g).foldl (fun s h => discardHistory h s) s

def alignSwap (at_ : Nat) (s : State) : State :=
  if s.running then gridsFollow ((List.range 64).foldl (fun s g => alignSwapGroup at_ g s) s) else s

/-! ### Slotting of frames -/

/-- A repeat of a frame (R161): dropped and counted; event 0x2206 when it differs. -/
def repeatedFrame (h slotT96 : Nat) (first raw : List Byte) (s : State) : State :=
  if first = raw then s.bump 0x2203 0x07 h
  else raiseOnce 0x2206 h (le 2 h ++ le 12 slotT96) (s.bump 0x2203 0x08 h)

/-- A frame for a slot committed, removed, or earlier than the grid (R161, R192, R212). -/
def beyondHorizon (h g k : Nat) (words quals : List Nat) (raw : List Byte) (accept : State → State) (s : State) : State :=
  let x := s.stream h
  let nominal := slotPoint s (s.group g).rate k 0
  match x.lateFrames.find? fun e => e.1 == k with
  | some (_, first) => repeatedFrame h nominal first raw s
  | none =>
    let s := accept (s.setStream h { x with lateFrames := ((k, raw) :: x.lateFrames).take 16 })
    let s := raiseOnce 0x2306 h (le 2 h ++ le 8 k) (s.addTo 0x2320 0x08 words.length g)
    archiveLate g k nominal h (words.zip quals |>.map fun p => ⟨p.1, setBit p.2 5 true⟩) s

/-- The lower of two slots of a group, by the order of their windows (R217). -/
def lowerSlot (x : Group) (a b : Nat) : Nat :=
  match x.slot? a, x.slot? b with
  | some p, some q => if p.boundary ≤ q.boundary then a else b
  | some _, none => a
  | none, _ => b

/-- A recall to slot k is requested (R217, R221). -/
def requestRecall (g k : Nat) (s : State) : State :=
  let x := s.group g
  s.setGroup g (match x.recallTarget with
    | some r => { x with recallTarget := some (lowerSlot x r k) }
    | none => { x with recallTarget := some k, recallAt := fabCycle s.now })

/-- The test of a late frame's samples against the words predicted for them (R213–R215, R225): those within tolerance are counted, one out of
tolerance recalls the slot (R199). -/
def testLate (h g k : Nat) (sl : Slot) (words quals : List Nat) (s : State) : State :=
  let b := signalBase s h
  let tests := ((List.range words.length).zip (words.zip quals)).filterMap fun e =>
    match lookup (b + e.1) sl.predicted with
    | none => none
    | some p =>
      if p.word = missingWord ∨ e.2.1 = missingWord ∨ bit e.2.2 4 = true then none
      else some (outOfTolerance sl.tolerances ((s.stream h).kinds.getD e.1 (0, 0)).1 p.word e.2.1)
  let n := (tests.filter (!·)).length
  let s := (s.addTo 0x2311 0x05 n h).addTo 0x2320 0x06 n g
  if tests.any id && sl.undo.isSome && !follows s then
    (onSlot g k (fun y => { y with state := 3 }) (requestRecall g k s)).bump 0x2311 0x04 h
  else s

/-- Write a stream's cells of slot k. -/
def writeCells (h g k : Nat) (words quals : List Nat) (raw : List Byte) (ingress : Nat) (s : State) : State :=
  let b := signalBase s h
  onSlot g k (fun sl => { sl with
    cells := ((List.range words.length).zip (words.zip quals)).foldl (fun t e => putKey (b + e.1) ⟨e.2.1, e.2.2⟩ t) sl.cells
    arrived := sl.arrived ++ [h], frames := putKey h raw sl.frames, firstAt := some (sl.firstAt.getD ingress) }) s

/-- Keep a stream's cells of slot k without its arrival: a Wheel's, or a mirror device's (R675, R689). -/
def stashCells (h g k : Nat) (words quals : List Nat) (raw : List Byte) (s : State) : State :=
  let b := signalBase s h
  onSlot g k (fun sl => { sl with
    stash := ((List.range words.length).zip (words.zip quals)).foldl (fun t e => putKey (b + e.1) ⟨e.2.1, e.2.2⟩ t) sl.stash
    frames := putKey h raw sl.frames }) s

/-- The slot of a frame's instant, in the present grid or in one that still runs out (R189, R232). -/
def slotFor (s : State) (x : Group) (tau : Nat) : Option (Int × Nat) :=
  match x.slots.find? fun e => e.2.rate != x.rate && e.2.boundary ≤ tau && tau < slotPoint s e.2.rate (e.1 + 1) (-2) with
  | some (i, sl) => some (sl.rate, i)
  | none => if x.rate = 0 then none else (slotOf s x.rate tau).map fun k => (x.rate, k)

/-- A received sample of the designated remote phasor feeds the GAT tracker as it is slotted (R65, R67).  The nominal voltage its magnitude is
measured against is that of the Headwater set named (assumption 21). -/
def remoteReference (h tau : Nat) (words quals : List Nat) (s : State) : State :=
  let sig := s.cfg 0x2010 0x04
  let k := sig - signalBase s h
  if s.cfg 0x2010 0x02 != 1 || ownerOf s sig != some h then s
  else match (s.stream h).kinds[k]? with
    | some (0, j) =>
      let w := words.getD k missingWord
      let fw := words.getD j missingWord
      let q := quals.getD k 0
      if w = missingWord || fw = missingWord then s
      else
        let f := Q.add (Q.ofNat s.fnom) (f32 (fw / 2 ^ 32))
        let low := Q.lt (f32 (w / 2 ^ 32)) (Q.mul (s.cfgF 0x2010 0x06) (s.cfgF 0x2901 0x03 (s.cfg 0x2010 0x03)))
        gatReference (referencePhase s tau (Q.make (w % 2 ^ 32) (2 ^ 32)) f) (Q.round (Q.mul f (Q.ofNat (2 ^ 32)))).toNat low
          (bit q 4 || bit q 3) s
    | _ => s

/-- A frame for a slot that the grid holds and that is not committed: history, cells, arrival (R194, R205, R212).  A Wheel, and a mirror device,
only hold them. -/
def fillSlot (h g k tau : Nat) (sl : Slot) (words quals : List Nat) (raw : List Byte) (ingress : Nat) (s : State) : State :=
  let late := sl.state != 1
  let open_ := horizonOpen (s.group g) k
  let flagged := if late then quals.map fun q => setBit (setBit q 6 true) 5 (!open_) else quals
  let s := if late then s else remoteReference h tau words quals s
  if follows s then stashCells h g k words quals raw s
  else
    let s := if !late || open_ then enterHistory h k words flagged s else s
    if !homeHere s h then stashCells h g k words flagged raw s
    else
      let s := writeCells h g k words flagged raw ingress s
      if !late then s
      else if open_ then testLate h g k sl words flagged s
      else s.addTo 0x2320 0x08 words.length g

/-- Place a frame of stream h with instant tau in its slot (R161, R189–R192, R212); `accept` is what a frame that is no repeat, off-grid or ahead of
time does to its stream. -/
def placeFrame (h tau ingress : Nat) (words quals : List Nat) (raw : List Byte) (accept : State → State) (s : State) : State :=
  let g := groupOf s h
  let x := s.group g
  if !s.running || (x.rate == 0 && x.slots.isEmpty) then s
  else
    let s := countFrame h words.length s
    match slotFor s x tau with
    | none => s.bump 0x2203 0x09 h
    | some (r, k) =>
      if tau < slotPoint s r k (-1) || slotPoint s r k 1 ≤ tau then s.bump 0x2203 0x09 h
      else if r = x.rate && k < x.first then beyondHorizon h g k words quals raw accept s
      else if s.t96 < slotPoint s r k (-2) then
        raiseOnce 0x2307 h (le 2 h ++ le 12 tau) (s.bump 0x2320 0x0A g)
      else
        -- a slot whose window has begun opens no later than a frame for it is slotted
        let s := if r = x.rate && k == x.next then slotOpen g s else s
        match (s.group g).slot? k with
        | none => beyondHorizon h g k words quals raw accept s
        | some sl =>
          match lookup h sl.frames with
          | some first => repeatedFrame h sl.nominal first raw s
          | none =>
            if sl.state = 4 then beyondHorizon h g k words quals raw accept s
            else fillSlot h g k tau sl words quals raw ingress (accept s)

/-- Slot a frame, and take the decisions of its group; while its slice is being taken over the dispatch keeps it (R253). -/
def slotFrame (h tau ingress : Nat) (words quals : List Nat) (raw : List Byte) (info : Option FrameInfo) (accept : State → State) (s : State) : State :=
  if dispatchHolds s h then s.onPlace fun p => { p with unacknowledged := p.unacknowledged ++ [⟨h, tau, ingress, words, quals, raw, info⟩] }
  else takeDecisions (groupOf s h) (placeFrame h tau ingress words quals raw accept s)

end Sys2Proof.Machine
end

