-- ==== Sys2Proof/Machine/Ingest.lean ====
section
/-! DEFINITION. Partner streams (chapter 04): admission (R168–R172), sessions (R146, R148), configuration frames (R149–R152), the frame checks
(R160), IEC 61850-90-5 (R164–R167), partner status (R175–R179), swaps of the stream table (R173, R174). -/

namespace Sys2Proof.Machine
open Sys2Proof

/-! ### Admission -/

/-- What the streams of a list need under a set: signal-samples per second, frames per second, slot-grid cells, mode-1 rows (R33, R168, R169). -/
structure Need where
  samples : Q
  frames : Q
  cells : Nat
  tcp : Nat

def rateIn (d : Dict) (g : Nat) : Q :=
  let r := ofTwos 16 (readIn d 0x2301 0x01 g).bits
  if r = 0 then Q.zero else Q.div Q.one (periodQ r)
def needOf (d : Dict) (h : Nat) : Need :=
  let g := (readIn d 0x2201 0x08 h).bits
  let c := (readIn d 0x2201 0x0A h).bits
  let r := rateIn d g
  let w := Q.mul (Q.make (readIn d 0x2301 0x02 g).bits 1000) r
  ⟨Q.mul (Q.ofNat c) r, r, c * (32 + (-(Q.floor (Q.neg w))).toNat), b2n ((readIn d 0x2201 0x0B h).bits == 1)⟩
def needAll (d : Dict) (l : List Nat) : Need :=
  l.foldl (fun n h => let m := needOf d h; ⟨Q.add n.samples m.samples, Q.add n.frames m.frames, n.cells + m.cells, n.tcp + m.tcp⟩) ⟨Q.zero, Q.zero, 0, 0⟩

/-- The first test of R169 that a list of streams fails. -/
def admissionTest (d : Dict) (limit : Nat) (l : List Nat) : Option Nat :=
  let n := needAll d l
  if Q.lt (Q.ofNat limit) n.samples then some 0
  else if Q.lt (Q.ofNat 6000000) n.frames then some 1
  else if 477218588 < n.cells then some 2
  else if 2048 < n.tcp then some 3
  else none

/-- The signal-sample limit (R169). -/
def admissionLimit (s : State) : Nat := 280000000 - 4375000 * s.place.unspared
/-- Partner streams the device holds admitted: the rows whose signals make S_g (R33, R168, R172).  The signals of the local streams do not count:
DESIGN CHOICE (assumption 102). -/
def admittedPartners (s : State) : List Nat := (s.ingest.streams.map (·.1)).filter fun h => h < firstLocal && streamState s h ≥ 2 && servedHere s h

/-! ### Partner status (R175–R179) -/

/-- An onset or clearing of a condition joins the open window or opens one (R176). -/
def joinWindow (c : Nat) (clearing : Bool) (h : Nat) (s : State) : State :=
  let cyc := 2 ^ 48 / s.fnom
  let fits := fun (w : StatusWindow) => w.cond == c && w.clearing == clearing && s.t96 < w.start + cyc
  s.onIngest fun i =>
    if i.windows.any fits then { i with windows := i.windows.map fun w => if fits w then { w with streams := w.streams ++ [h] } else w }
    else { i with windows := i.windows ++ [⟨c, clearing, s.t96, [h]⟩] }

/-- Set the conditions that hold for a stream; changes enter their windows. -/
def setConds (h new : Nat) (s : State) : State :=
  let old := (s.stream h).conds
  let s := s.setStream h { s.stream h with conds := new }
  (List.range 11).foldl (fun s c =>
    if bit new c && !bit old c then joinWindow c false h s else if bit old c && !bit new c then joinWindow c true h s else s) s

/-- Streams in which a condition holds now. -/
def condCount (s : State) (c : Nat) : Nat := (s.ingest.streams.filter fun e => bit e.2.conds c).length

/-- 2,560 bytes in which bit n is stream n. -/
def streamBits (l : List Nat) : List Byte :=
  (List.range 2560).map fun k => BitVec.ofNat 8 ((l.filter fun h => h / 8 == k).foldl (fun b h => b ||| 2 ^ (h % 8)) 0)

/-- Groups of a declared time source of which more than half hold condition 1 (R178). -/
def commonSource (s : State) : State :=
  let live := (s.ingest.streams.map (·.1)).filter fun h => h < firstLocal && (streamState s h == 3 || streamState s h == 4)
  let ids := ((live.map fun h => s.cfg 0x2201 0x11 h).filter (· != 0)).eraseDups
  ids.foldl (fun s id =>
    let grp := live.filter fun h => s.cfg 0x2201 0x11 h == id
    let k := (grp.filter fun h => bit (s.stream h).conds 1).length
    if 2 * k > grp.length then
      (if s.ingest.suspected.contains id then s
       else raise 0x2211 (le 2 id ++ le 2 k ++ le 2 grp.length) (s.onIngest fun i => { i with suspected := id :: i.suspected }))
    else s.onIngest fun i => { i with suspected := i.suspected.filter (· != id) }) s

/-- PARTNER_STATUS_WINDOW_END (R177–R179). -/
def statusWindowEnd (c : Nat) (clearing : Bool) (s : State) : State :=
  match s.ingest.windows.find? fun w => w.cond == c && w.clearing == clearing with
  | none => s
  | some w =>
    if s.t96 < w.start + 2 ^ 48 / s.fnom || !s.running then s
    else
      let slot := s.ingest.bitmapNext
      let code := c + 128 * b2n clearing
      let s := s.onIngest fun i => { i with windows := i.windows.erase w, bitmapNext := (slot + 1) % 16 }
      let s := ((s.setRoBytes 0x2240 0x01 (streamBits w.streams) slot).setRow 0x2240 0x02 slot code).setRow 0x2240 0x03 slot w.start
      let s := s.addTo 0x2240 0x04 1
      let s := raise 0x2210 (le 1 code ++ le 2 w.streams.length ++ le 2 (w.streams.headD 0) ++ le 2 (w.streams.getLastD 0) ++ le 1 slot) s
      let s := (List.range 11).foldl (fun s k => s.setRow 0x2241 0x01 k (condCount s k)) s
      (if c = 1 then commonSource s else s).interrupt 11

def execPartnerStatusWindowEnd (t cond : Nat) (clearing : Bool) (s : State) : Host.Outcome State Fault Refusal :=
  complete t (statusWindowEnd cond clearing) s

/-! ### Stream states (R147) -/

/-- Set a stream's state, with its event, its conditions 8–10 and, on leaving ACTIVE and SILENT, its history (R210). -/
def setStreamState (h new : Nat) (s : State) : State :=
  let old := streamState s h
  if old = new then s
  else
    let live := fun (n : Nat) => n == 3 || n == 4
    let s := raise 0x2201 (le 2 h ++ le 1 old ++ le 1 new) (s.setRow 0x2203 0x01 h new)
    let s := if live old && !live new then discardHistory h s else s
    let s := if new = 3 && old != 4 then s.setStream h { s.stream h with lastAccept := s.now, lateness := [] } else s
    let c := (s.stream h).conds
    let c := setBit c 8 (new == 4)
    let c := setBit c 9 (new == 2 && s.cfg 0x2201 0x0B h != 0 && (live old || bit c 9))
    let c := setBit c 10 (new == 5)
    setConds h (if new = 0 then 0 else c) s

def sessionMode (s : State) (h : Nat) : Nat := if s.cfg 0x2201 0x03 h = 1 then 0 else s.cfg 0x2201 0x0B h
def sessionStep (s : State) (h : Nat) : Nat := s.ro 0x2203 0x0D h
def setStep (h n : Nat) (s : State) : State :=
  (s.setRow 0x2203 0x0D h n).setStream h { s.stream h with stepAt := s.now }

/-! ### Sessions (R146) -/

/-- A C37.118.2 command frame (assumption 15). -/
def commandFrame (s : State) (h cmd : Nat) : List Byte :=
  let (soc, frac) := timesNow s 1000000
  closeFrame (if cmd = 6 then 0xAA42 else 0xAA41) (s.cfg 0x2201 0x02 h) soc frac (be 2 cmd)

/-- The pair a row's TCP session runs on: the first of its ingest pairs. -/
def firstPair (s : State) (h : Nat) : Nat := if bit (s.cfg 0x2201 0x07 h) 0 then 0 else 1

/-- Send a command to a partner: on its TCP session, or by UDP on its ingest pairs. -/
def partnerCommand (h cmd : Nat) (s : State) : State :=
  let f := commandFrame s h cmd
  if sessionMode s h = 1 then
    (if (s.stream h).tcp then
      (Config.tcpPackets h f).foldl (fun s b => sendPacket (firstPair s h) 6 (s.cfgBytes 0x2201 0x04 h) b s) (s.emit (.tcp h f))
     else s)
  else if sessionMode s h = 2 then
    [0, 1].foldl (fun s p => if bit (s.cfg 0x2201 0x07 h) p then
      sendUdp p 6 (s.cfg 0x2201 0x05 h) (s.cfgBytes 0x2201 0x04 h) (s.cfg 0x2201 0x0C h) f s else s) s
  else s

/-- Step 2: the configuration is requested; step 3 awaits it. -/
def requestConfiguration (h : Nat) (s : State) : State :=
  setStep h 3 (partnerCommand h (if s.cfg 0x2201 0x0D h = 1 then 6 else 5) s)

/-- A stream's configuration in use, with what the objects show of it. -/
def takeConfiguration (h : Nat) (c : PartnerCfg) (s : State) : State :=
  let s := s.setStream h { s.stream h with cfg := some c, kinds := c.kinds }
  ((s.setRoBytes 0x2203 0x0E c.bytes h).setRow 0x2203 0x02 h ((c.blocks.map (·.cfgCount)).headD 0)).setRow 0x2203 0x03 h c.signals

/-- The session of a stream closes. -/
def closeSessionOf (h : Nat) (s : State) : State :=
  let s := if (s.stream h).tcp then s.emit (.tcpClose h) else s
  (s.setRow 0x2203 0x0D h 0).setStream h { s.stream h with tcp := false, backoff := 0, silentSends := 0 }

/-- A stream leaves its place: no configuration, no slice (R251). -/
def streamGone (h : Nat) (s : State) : State :=
  let s := unplaceStream h (closeSessionOf h s)
  let x := s.stream h
  ringResize (s.setStream h { Stream.reset with conds := x.conds })

/-- STOPPING: command 0x0001 is sent and the session closes; without one there is no work (R147, R170). -/
def streamStopping (h : Nat) (s : State) : State :=
  let s := setStreamState h 6 s
  if sessionMode s h = 0 then
    let (s, _) := fourEnd (fnStream h) 3 s
    setStreamState h 0 (streamGone h s)
  else partnerCommand h 1 s

/-- The work of CONFIGURING has ended (R147, R606). -/
def streamConfigured (h : Nat) (s : State) : State :=
  let (s, n) := fourEnd (fnStream h) 1 s
  if n = 3 then streamStopping h s else setStreamState h 3 s

/-- A configuration is refused: MISMATCH with the failing test (R151); a disable that waited for the end of CONFIGURING is then taken (R606). -/
def mismatch (h test : Nat) (s : State) : State :=
  let wasConfiguring := streamState s h == 2
  let s := raise 0x2203 (le 2 h ++ le 1 test) (setStreamState h 5 (setStep h 0 s))
  if !wasConfiguring then s
  else
    let (s, n) := fourEnd (fnStream h) 1 s
    if n ≠ 3 then s
    else if sessionMode s h = 0 then setStreamState h 0 (streamGone h s)
    else streamStopping h s

/-- The first step of a session, in CONFIGURING (R144, R146, R149). -/
def sessionBegin (h : Nat) (s : State) : State :=
  match sessionMode s h with
  | 0 =>
    let pre := s.cfgBytes 0x2202 0x01 h
    if pre.isEmpty then mismatch h 0 s
    else match cfgFailure s.active h pre, parseCfg pre with
      | none, some c => streamConfigured h (takeConfiguration h c s)
      | some k, _ => mismatch h k s
      | none, none => mismatch h 0 s
  | 1 => if (s.stream h).tcp then requestConfiguration h s
         else (setStep h 1 s).emit (.tcpOpen h (s.cfgBytes 0x2201 0x04 h) (s.cfg 0x2201 0x0C h))
  | _ => requestConfiguration h s

/-- SESSION_CONNECTED (R146 steps 1 and 2). -/
def sessionConnected (h : Nat) (s : State) : State :=
  if s.running && sessionMode s h == 1 && sessionStep s h == 1 then
    requestConfiguration h (s.setStream h { s.stream h with tcp := true, backoff := 0 })
  else s

def execSessionConnected (t stream : Nat) (s : State) : Host.Outcome State Fault Refusal := complete t (sessionConnected stream) s

/-- The backoff after a failure: 1 s, doubling, capped. -/
def beginBackoff (h : Nat) (s : State) : State :=
  let b := (s.stream h).backoff
  let b := Nat.min (if b = 0 then 1 else 2 * b) (s.cfg 0x2200 0x03)
  setStep h 5 (s.setStream h { s.stream h with backoff := b })

/-- SESSION_TIMEOUT (R146): no answer within the timeout of step 1 or 3. -/
def sessionTimeout (h : Nat) (s : State) : State :=
  let st := sessionStep s h
  let wait := if st = 1 then s.cfg 0x2200 0x01 else s.cfg 0x2200 0x02
  if s.running && (st == 1 || st == 3) && (s.stream h).stepAt + ms wait ≤ s.now then beginBackoff h s else s

def execSessionTimeout (t stream : Nat) (s : State) : Host.Outcome State Fault Refusal := complete t (sessionTimeout stream) s

/-- SESSION_BACKOFF_EXPIRY: the sequence is taken up again and counted. -/
def sessionRetry (h : Nat) (s : State) : State :=
  if s.running && sessionStep s h == 5 && (s.stream h).stepAt + sec (s.stream h).backoff ≤ s.now then
    sessionBegin h (s.bump 0x2203 0x0B h)
  else s

def execSessionBackoffExpiry (t stream : Nat) (s : State) : Host.Outcome State Fault Refusal := complete t (sessionRetry stream) s

/-- STREAM_SILENCE_TIMEOUT (R147, R148). -/
def streamSilence (h : Nat) (s : State) : State :=
  let x := s.stream h
  let wait := ms (s.cfg 0x2200 0x04)
  if !s.running || h ≥ firstLocal then s
  else if streamState s h = 3 then
    (if x.lastAccept + wait ≤ s.now then setStreamState h 4 (s.setStream h { x with silentSends := 0, silentAt := s.now }) else s)
  else if streamState s h = 4 && sessionMode s h != 0 && x.silentAt + wait ≤ s.now then
    (if x.silentSends < 3 then partnerCommand h 2 (s.setStream h { x with silentSends := x.silentSends + 1, silentAt := s.now })
     else sessionBegin h (setStreamState h 2 ((closeSessionOf h s).bump 0x2203 0x0B h)))
  else s

def execStreamSilenceTimeout (t stream : Nat) (s : State) : Host.Outcome State Fault Refusal := complete t (streamSilence stream) s

/-- STREAM_STOPPED (R170): DISABLED, or again CONFIGURING when the enable was written while it stopped (R606). -/
def streamStopped (h : Nat) (s : State) : State :=
  if s.running && streamState s h == 6 then
    let (s, n) := fourEnd (fnStream h) 3 s
    let s := setStreamState h 0 (streamGone h s)
    if n = 1 then s.onIngest fun i => { i with collection := some (i.collection.getD s.now), collected := h :: i.collected } else s
  else s

def execStreamStopped (t stream : Nat) (s : State) : Host.Outcome State Fault Refusal := complete t (streamStopped stream) s

/-- Admit streams together, in increasing handle order, and place them (R170, R171, R246). -/
def admitAll (l : List Nat) (s : State) : State :=
  let one := fun (s : State) (h : Nat) =>
    match admissionTest s.active (admissionLimit s) (h :: admittedPartners s) with
    | some reason => raise 0x2204 (le 2 h ++ le 1 reason) ((setStreamState h 1 s).bump 0x2230 0x0C)
    | none => setStreamState h 2 (s.setStream h { Stream.reset with conds := (s.stream h).conds })
  let l := sortNat l.eraseDups
  let s := l.foldl one s
  let good := l.filter fun h => streamState s h == 2
  let s := if good.isEmpty then s else ringResize (placeStreams good s)
  good.foldl (fun s h => sessionBegin h s) s

/-- ADMISSION_COLLECTION_CLOSE (R170). -/
def collectionClose (s : State) : State :=
  match s.ingest.collection with
  | none => s
  | some since =>
    if s.now < since + ms 1 then s
    else
      let l := s.ingest.collected
      let s := s.onIngest fun i => { i with collection := none, collected := [] }
      if s.running then admitAll (l.filter fun h => s.rw 0x2201 0x01 h == 1 && streamState s h ≤ 1) s else s

def execAdmissionCollectionClose (t : Nat) (s : State) : Host.Outcome State Fault Refusal := complete t collectionClose s

/-- The membership report of a row's group on its pairs (R138). -/
def reportRow (h : Nat) (s : State) : State :=
  let grp := s.cfgBytes 0x2201 0x06 h
  if grp = List.replicate 16 0 then s
  else [0, 1].foldl (fun s k => if bit (s.cfg 0x2201 0x07 h) k then
    (if prpMode s k = 0 then reportGroups (2 * k + 1) [grp] (reportGroups (2 * k) [grp] s) else reportGroups (2 * k) [grp] s) else s) s

/-- A live write of 0x2201:01 Enable (R170, R606). -/
def streamEnable (h : Nat) (on : Bool) (s : State) : State :=
  if !s.running then s
  else
    let st := streamState s h
    if on then
      let s := reportRow h s
      (if st ≤ 1 then
        s.onIngest fun i => { i with collection := some (i.collection.getD s.now), collected := if i.collected.contains h then i.collected else h :: i.collected }
       else if st = 2 then (fourWrite (fnStream h) 1 true s).1
       else if st = 6 then (fourWrite (fnStream h) 3 true s).1
       else s)
    else
      let s := s.onIngest fun i => { i with collected := i.collected.filter (· != h) }
      if st = 1 || (st == 5 && sessionMode s h == 0) then setStreamState h 0 (streamGone h s)
      else if st = 2 then (fourWrite (fnStream h) 1 false s).1
      else if st = 6 then (fourWrite (fnStream h) 3 false s).1
      else if st = 0 then s
      else streamStopping h s

def execStreamEnable (t : Nat) (who : Who) (stream : Nat) (on : Bool) (s : State) : Host.Outcome State Fault Refusal :=
  complete t (runWrite 0x2201 0x01 stream (.num (b2n on)) who (streamEnable stream on)) s

/-- 0x2260:02 Request header (R146): by UDP in mode 2, on an open session in mode 1; else a state conflict. -/
def requestHeader (h : Nat) (s : State) : State × Nat :=
  let m := sessionMode s h
  if s.running && ((m == 1 && (s.stream h).tcp) || (m == 2 && streamState s h ≥ 2)) then (partnerCommand h 3 s, 0) else (s, 0x06)

def execRequestHeader (t : Nat) (who : Who) (stream : Nat) (s : State) : Host.Outcome State Fault Refusal :=
  complete t (runCommand 0x2260 0x02 stream (.num 0) who (requestHeader stream)) s

/-- 0x2260:01 Clear ingest counters (R181). -/
def clearIngest (s : State) : State :=
  (s.clearRange 0x2230 0x2230).clearObjects [(0x2203, 6), (0x2203, 7), (0x2203, 8), (0x2203, 9), (0x2203, 0x0A), (0x2203, 0x0B), (0x2203, 0x0F)]

def execClearIngestCounters (t : Nat) (who : Who) (s : State) : Host.Outcome State Fault Refusal :=
  complete t (runPlain 0x2260 0x01 who (ok clearIngest)) s

/-! ### Configuration frames (R142, R151, R152) -/

/-- Event 0x2202 with its signal counts. -/
def configurationEvent (h reason old new : Nat) (s : State) : State := raise 0x2202 (le 2 h ++ le 1 reason ++ le 2 old ++ le 2 new) s

/-- A valid configuration has come.  Where step 3 awaited it, step 4 follows, and ACTIVE out of CONFIGURING; an unrequested one moves nothing on. -/
def sessionAnswered (h : Nat) (s : State) : State :=
  if sessionStep s h ≠ 3 then s
  else
    let s := setStep h 4 (s.setStream h { s.stream h with backoff := 0 })
    if streamState s h = 2 then streamConfigured h (partnerCommand h 2 s) else s

/-- A CFG-2 or CFG-3 frame of a row. -/
def configurationFrame (h : Nat) (l : List Byte) (s : State) : State :=
  let x := s.stream h
  let count := match x.cfg with | some c => c.signals | none => 0
  if sessionMode s h = 0 then
    let key := cfgComparable l
    let known := key == cfgComparable (s.cfgBytes 0x2202 0x01 h) || (!x.lastCfg.isEmpty && key == cfgComparable x.lastCfg)
    let s := s.setStream h { x with lastCfg := l }
    if known then s else configurationEvent h 0 count (match parseCfg l with | some c => c.signals | none => 0) s
  else
    let st := streamState s h
    if st < 2 || st ≥ 5 then s
    else
      let s := s.setStream h { x with lastCfg := l }
      match cfgFailure s.active h l, parseCfg l, x.cfg with
      | none, some c, none => sessionAnswered h (takeConfiguration h c s)
      | none, some c, some old =>
        if cfgComparable l = cfgComparable old.bytes then sessionAnswered h s
        else
          let s := s.setStream h { s.stream h with oldCfg := some old, adoptedAt := s.now }
          let s := configurationEvent h 1 old.signals c.signals (discardHistory h (takeConfiguration h c s))
          sessionAnswered h s
      | some k, _, some old => if cfgComparable l = cfgComparable old.bytes then sessionAnswered h s else mismatch h k s
      | some k, _, none => mismatch h k s
      | none, none, _ => mismatch h 0 s

/-- ADOPTION_GRACE_EXPIRY (R152). -/
def adoptionGrace (h : Nat) (s : State) : State :=
  let x := s.stream h
  if x.oldCfg.isSome && x.adoptedAt + sec 60 ≤ s.now then s.setStream h { x with oldCfg := none } else s

def execAdoptionGraceExpiry (t stream : Nat) (s : State) : Host.Outcome State Fault Refusal := complete t (adoptionGrace stream) s

/-! ### Matching (R139) -/

/-- Rows that are matched: those not DISABLED. -/
def matchedRows (s : State) : List Nat := (s.ingest.streams.map (·.1)).filter fun h => h < firstLocal && streamState s h != 0

/-- The row of a set that a datagram's key names, among candidates. -/
def matchRow (s : State) (d : Dict) (rows : List Nat) (port : Nat) (g : Datagram) (idcode : Nat) : Option Nat :=
  rows.find? fun h =>
    (readIn d 0x2201 0x03 h).bits == 0 && bit (readIn d 0x2201 0x07 h).bits (port / 2) && (readIn d 0x2201 0x04 h).bytes == g.src &&
    (readIn d 0x2201 0x05 h).bits == g.dport && (readIn d 0x2201 0x02 h).bits == idcode &&
    (g.dst == ownAddress s port g.dst ||
     (let grp := (readIn d 0x2201 0x06 h).bytes
      grp.any (· != 0) && g.dst == grp))

/-- A source that matches no row is recorded (R139). -/
def unknownSource (src : List Byte) (port idcode : Nat) (s : State) : State :=
  let s := s.bump 0x2230 0x02
  let key := fit 16 src ++ be 2 port ++ be 2 idcode
  let rowKey := fun k => (s.roBytes 0x2231 0x01 k).take 20
  let known := (List.range 16).find? fun k => (lookup k s.ingest.unknownHeard).isSome && rowKey k == key
  let fresh := (List.range 16).find? fun k => (lookup k s.ingest.unknownHeard).isNone
  let oldest := ((List.range 16).map fun k => (tabGet 0 s.ingest.unknownHeard k, k)).foldl (fun a b => if b.1 < a.1 then b else a)
    (tabGet 0 s.ingest.unknownHeard 0, 0)
  let row := match known, fresh with | some k, _ => k | none, some k => k | none, none => oldest.2
  let n := if known.isSome then (beAt (s.roBytes 0x2231 0x01 row) 20 4 + 1) % 2 ^ 32 else 1
  let s := s.setRoBytes 0x2231 0x01 (key ++ be 4 n) row
  let s := s.onIngest fun i => { i with unknownHeard := putKey row s.now i.unknownHeard }
  raiseOnce 0x2205 (beAt key 0 20) (le 1 row ++ le 2 idcode ++ le 2 port ++ slice (fit 16 src) 5 11) s

/-! ### Data frames -/

/-- The conditions 0–7 that a frame's blocks report (R175). -/
def frameConds (s : State) (f : FrameInfo) : Nat :=
  let some_ := fun (p : Nat → Bool) => b2n (f.stats.any p)
  some_ (fun w => field w 15 14 != 0) + 2 * some_ (fun w => bit w 13) + 4 * some_ (fun w => bit w 12) + 8 * some_ (fun w => bit w 11) +
  16 * some_ (fun w => bit w 10) + 32 * some_ (fun w => bit w 9) + 64 * b2n (s.cfg 0x2200 0x08 ≤ f.cls) +
  128 * some_ (fun w => field w 5 4 != 0)

/-- What a data frame shows of its stream when it is accepted. -/
def acceptedOf (f : DataFrame) (l : List Byte) : FrameInfo := ⟨f.stats, f.cls, bit (byteAt l 10) 4⟩

/-- A drop of R160 with event 0x2207. -/
def malformed (h order : Nat) (s : State) : State := raiseOnce 0x2207 h (le 2 h ++ le 1 order) s

/-- The configuration by which a frame of a size is parsed (R152). -/
def configurationFor (s : State) (x : Stream) (size : Nat) : Option PartnerCfg :=
  match x.cfg with
  | none => none
  | some c =>
    if c.frameSize = size then some c
    else match x.oldCfg with
      | some o => if o.frameSize = size && s.now < x.adoptedAt + sec 60 then some o else none
      | none => none

/-- What an accepted frame does to its stream: last data, SILENT ended, leap bit (R56), STAT[10] onset (R151), conditions (R175). -/
def acceptFrame (h : Nat) (f : FrameInfo) (s : State) : State :=
  let x := s.stream h
  let pend := f.stats.any fun w => bit w 10
  let s := ((s.setRow 0x2203 0x04 h s.t96).setRow 0x2203 0x05 h (f.stats.headD 0)).bump 0x2203 0x06 h
  let s := if f.leap && !x.leapBit then s.bump 0x2030 0x08 else s
  let s := s.setStream h { x with lastAccept := s.now, silentSends := 0, statPending := pend, leapBit := f.leap }
  let s := if streamState s h = 4 then setStreamState h 3 s else s
  let s := setConds h (frameConds s f + (s.stream h).conds / 256 * 256) s
  if pend && !x.statPending then
    (if sessionMode s h = 0 then configurationEvent h 0 (match x.cfg with | some c => c.signals | none => 0) 0 s
     else if sessionMode s h = 2 || x.tcp then requestConfiguration h s else s)
  else s

/-- Slot a parsed data frame at its instant; its missing values count (R156, R160). -/
def takeData (h tau stamp : Nat) (f : DataFrame) (l : List Byte) (s : State) : State :=
  slotFrame h tau stamp f.words f.quality l (some (acceptedOf f l)) (acceptFrame h (acceptedOf f l)) (s.addTo 0x2230 0x06 f.nonFinite)

/-- Checks 5–8 and the slotting of a data frame of row h received on a port (R160). -/
def dataFrameRx (port h : Nat) (l : List Byte) (s : State) : State :=
  let x := s.stream h
  let soc := beAt l 6 4
  let frac := beAt l 11 3
  if !(streamState s h == 3 || streamState s h == 4) then s.bump 0x2203 0x0F h
  else match configurationFor s x l.length with
  | none => malformed h 6 ((s.bump 0x2230 0x04).bump 0x2203 0x0A h)
  | some c =>
    if frac ≥ c.timeBase % 2 ^ 24 then malformed h 7 ((s.bump 0x2203 0x0A h).bump 0x2230 0x0D)
    else if !s.time.isSet then s.bump 0x2230 0x01
    else
      let stamp := s.ingressT96 port
      takeData h (socT96 s soc frac (c.timeBase % 2 ^ 24) stamp) stamp (parseData c s.timeClass l) l s

/-- The frames kept during a takeover go to the new slice in ingress order, each counted (R253). -/
def redispatch (s : State) : State :=
  let (kept, due) := s.place.unacknowledged.partition fun f => dispatchHolds s f.stream
  due.foldl (fun (s : State) f =>
    let accept := fun (s : State) => match f.accepted with | some a => acceptFrame f.stream a s | none => s
    slotFrame f.stream f.tau f.ingress f.words f.quality f.raw f.accepted accept (s.addTo 0x2420 0x07 1))
    (s.onPlace fun p => { p with unacknowledged := kept })

/-- SLICE_FAULT: frames kept for a slice that has failed in its turn go to the slices now chosen. -/
def execSliceFault (t slice cause : Nat) (s : State) : Host.Outcome State Fault Refusal :=
  complete t (fun s => redispatch (sliceFault slice cause s)) s

/-- TAKEOVER_COMPLETE. -/
def execTakeoverComplete (t slice : Nat) (s : State) : Host.Outcome State Fault Refusal :=
  complete t (fun s => redispatch (takeoverDone slice s)) s

/-! ### The old stream table (R174) -/

/-- The state as the old stream table had it, for the rows that changed. -/
def underOld (o : OldTable) (s : State) : State :=
  { s with active := o.set, ingest := { s.ingest with streams := o.streams.foldl (fun t e => putKey e.1 e.2 t) s.ingest.streams } }

/-- Slot a frame under the old rows and bring the present rows back; a row that the swap did not restart keeps what its stream has accepted. -/
def slotOld (o : OldTable) (port h tau : Nat) (f : DataFrame) (l : List Byte) (s : State) : State :=
  let acc := fun (s : State) => if (lookup h o.streams).isSome then s else acceptFrame h (acceptedOf f l) s
  let r := placeFrame h tau (s.ingressT96 port) f.words f.quality l acc (underOld o (s.addTo 0x2230 0x06 f.nonFinite))
  let back := o.streams.foldl (fun t e => match lookup e.1 s.ingest.streams with | some x => putKey e.1 x t | none => delKey e.1 t) r.ingest.streams
  let olds := o.streams.map fun e => (e.1, tabGet e.2 r.ingest.streams e.1)
  takeDecisions (readIn o.set 0x2201 0x08 h).bits
    { r with active := s.active, ingest := { r.ingest with streams := back, oldTable := some { o with streams := olds } } }

/-- A data frame of row h of the old table, when its slot lies before the swap: its instant and its parse. -/
def oldParse (s : State) (o : OldTable) (port h : Nat) (l : List Byte) : Option (Nat × DataFrame) :=
  (configurationFor s (tabGet (s.stream h) o.streams h) l.length).bind fun c =>
    let tau := socT96 s (beAt l 6 4) (beAt l 11 3) (c.timeBase % 2 ^ 24) (s.ingressT96 port)
    if s.time.isSet && beAt l 11 3 < c.timeBase % 2 ^ 24 && tau < o.swapAt then some (tau, parseData c s.timeClass l) else none

/-- A data frame whose slot lies before the last swap, of a row that the swap changed: its row, instant and parse under the old table. -/
def oldFrame (s : State) (port : Nat) (g : Datagram) (l : List Byte) : Option (OldTable × Nat × Nat × DataFrame) :=
  s.ingest.oldTable.bind fun o =>
    (matchRow s o.set o.rows port g (beAt l 4 2)).bind fun h => (oldParse s o port h l).map fun p => (o, h, p.1, p.2)

/-- OLD_STREAM_TABLE_EXPIRY (R174). -/
def oldTableEnd (s : State) : State :=
  match s.ingest.oldTable with
  | some o => if o.dropSlot ≤ (s.group 0).next then s.onIngest fun i => { i with oldTable := none } else s
  | none => s

def execOldStreamTableExpiry (t : Nat) (s : State) : Host.Outcome State Fault Refusal := complete t oldTableEnd s

/-! ### The checks of R160 -/

/-- The row a frame is attributed to before check 4. -/
def attributed (s : State) (g : Datagram) : Option Nat :=
  match g.session with
  | some h => some h
  | none => (matchedRows s).find? fun h =>
      sessionMode s h == 2 && sessionStep s h == 3 && s.cfgBytes 0x2201 0x04 h == g.src && s.cfg 0x2201 0x0C h == g.sport

/-- The row a frame that has passed checks 1 to 3 belongs to (check 4): the session's when the IDCODE is the row's, else by the key of R139. -/
def rowOf (s : State) (port : Nat) (g : Datagram) (idcode : Nat) : Option Nat :=
  match g.session with
  | some h => if s.cfg 0x2201 0x02 h = idcode then some h else none
  | none => matchRow s s.active (matchedRows s) port g idcode

/-- A configuration frame with a wrong CHK: the request is repeated after the backoff (R151). -/
def damagedConfiguration (h : Nat) (s : State) : State :=
  let st := streamState s h
  if sessionMode s h != 0 && 2 ≤ st && st ≤ 4 && sessionStep s h != 1 && sessionStep s h != 5 then beginBackoff h s else s

/-- A frame that fails check 1, 2 or 3. -/
def failEarly (who : Option Nat) (order sub : Nat) (s : State) : State :=
  let s := s.bump 0x2230 sub
  match who with
  | some h => malformed h order (s.bump 0x2203 0x0A h)
  | none => malformed 0xFFFF order s

/-- A whole C37.118.2 frame on the ingest path. -/
def ingestFrame (port : Nat) (g : Datagram) (l : List Byte) (s : State) : State :=
  let who := attributed s g
  let ty := frameType l
  let ver := frameVersion l
  if l.length < 16 || byteAt l 0 != 0xAA || (g.session.isNone && beAt l 2 2 != l.length) then failEarly who 1 0x04 s
  else if !chkGood l then
    let s := failEarly who 2 0x03 s
    match who with
    | some h => if ty == 3 || ty == 5 then damagedConfiguration h s else s
    | none => s
  else if ty > 5 || !(ver == 2 || (ver == 1 && ty != 5)) then failEarly who 3 0x05 s
  else
    let id := beAt l 4 2
    match rowOf s port g id with
    | none =>
      (match (if ty = 0 then oldFrame s port g l else none) with
       | some (o, h, tau, f) => slotOld o port h tau f l s
       | none => unknownSource g.src g.dport id s)
    | some h =>
      match ty with
      | 0 =>
        (match oldFrame s port g l with
         | some (o, oh, tau, f) => slotOld o port oh tau f l s
         | none => dataFrameRx port h l s)
      | 1 =>
        let text := (l.take (l.length - 2)).drop 14
        raise 0x2209 (le 2 h) (s.setRoBytes 0x2203 0x0C (text.drop (text.length - 4096)) h)
      | 2 => s.setStream h { s.stream h with cfg1 := l }
      | 4 => s.bump 0x2230 0x0B
      | _ => configurationFrame h l s

/-! ### Datagrams (R140, R141, R180) -/

/-- A reassembly that fails is dropped whole and counted once; it stands until its timeout. -/
def failReassembly (x : Reassembly) (s : State) : State :=
  let hit := fun (y : Reassembly) => if y.src == x.src && y.ident == x.ident then { y with bad := true, pieces := [] } else y
  (s.bump 0x2230 0x07).onIngest fun i => { i with reassemblies := i.reassemblies.map hit }

/-- A piece of a datagram that finds no free context: the datagram is dropped whole and counted once, however many pieces of it come. -/
def refusePiece (src : List Byte) (ident : Nat) (s : State) : State :=
  let live := s.ingest.refused.filter fun e => s.now < e.2.2 + ms (s.cfg 0x2200 0x05)
  let s := s.onIngest fun i => { i with refused := live }
  if live.any fun e => e.1 == src && e.2.1 == ident then s
  else (s.bump 0x2230 0x07).onIngest fun i => { i with refused := i.refused ++ [(src, ident, s.now)] }

/-- A datagram was dropped for want of a context, and its timeout still runs. -/
def pieceRefused (s : State) (src : List Byte) (ident : Nat) : Bool :=
  s.ingest.refused.any fun e => e.1 == src && e.2.1 == ident && s.now < e.2.2 + ms (s.cfg 0x2200 0x05)

/-- A piece of a datagram from a source: the payload once it is whole (R141). -/
def takePiece (src : List Byte) (ident off : Nat) (last : Bool) (bytes : List Byte) (s : State) : State × Option (List Byte) :=
  let same := fun (y : Reassembly) => y.src == src && y.ident == ident
  let known := s.ingest.reassemblies.find? same
  if known.isNone && (pieceRefused s src ident || s.ingest.reassemblies.length ≥ 4096) then (refusePiece src ident s, none)
  else
    let x := known.getD ⟨src, ident, s.now, [], none, false⟩
    let s := if known.isNone then s.onIngest fun i => { i with reassemblies := i.reassemblies ++ [x] } else s
    let endOf := off + bytes.length
    let clash := x.pieces.any fun p => off < p.1 + p.2.length && p.1 < endOf
    if x.bad then (s, none)
    else if clash || endOf > 65535 then (failReassembly x s, none)
    else
      let x : Reassembly := { x with pieces := (off, bytes) :: x.pieces, total := if last then some endOf else x.total }
      let have_ : Nat := (x.pieces.map fun p => p.2.length).foldl (· + ·) 0
      if x.total = some have_ then
        let whole := ((List.range (have_ + 1)).filterMap fun o => (x.pieces.find? fun p => p.1 == o && !p.2.isEmpty).map (·.2)).flatten
        (s.onIngest fun i => { i with reassemblies := i.reassemblies.filter fun y => !same y }, some whole)
      else (s.onIngest fun i => { i with reassemblies := i.reassemblies.map fun y => if same y then x else y }, none)

/-- A UDP checksum passes: it is zero, or right over the pseudo header, the UDP header and the payload (R140). -/
def udpGood (g : Datagram) (l : List Byte) : Bool :=
  let n := 8 + l.length
  let pseudo := wireAddr g.src ++ wireAddr g.dst ++ (if isV4 g.dst then be 2 17 ++ be 2 n else be 4 n ++ be 4 17)
  g.checksum % 65536 == 0 || inetChecksum (pseudo ++ be 2 g.sport ++ be 2 g.dport ++ be 2 n ++ be 2 g.checksum ++ l) == 0

/-- A whole datagram, or a frame of a mode-1 session: the UDP checksum (R140), then the checks of R160. -/
def wholeDatagram (port : Nat) (g : Datagram) (l : List Byte) (s : State) : State :=
  if g.session.isNone && !udpGood g l then s.bump 0x2230 0x0E else ingestFrame port g l s

/-- INGEST_DATAGRAM. -/
def ingestDatagram (port : Nat) (g : Datagram) (s : State) : State :=
  if port ≥ 4 then s
  else if s.dev = stStart then s.bump 0x2230 0x10
  else if !s.running then s
  else if g.ipBad then s.bump 0x2230 0x0E
  else match g.fragment with
  | none => wholeDatagram port g g.payload s
  | some (ident, off, last) =>
    match takePiece g.src ident off last g.payload s with
    | (s, some l) => wholeDatagram port g l s
    | (s, none) => s

def execIngestDatagram (t port : Nat) (d : Datagram) (s : State) : Host.Outcome State Fault Refusal :=
  complete t (fun s => settleDecisions (ingestDatagram port d s)) s

/-- REASSEMBLY_TIMEOUT (R141). -/
def reassemblyTimeout (src : List Byte) (ident : Nat) (s : State) : State :=
  match s.ingest.reassemblies.find? fun y => y.src == src && y.ident == ident with
  | none => s
  | some x =>
    if s.now < x.startedAt + ms (s.cfg 0x2200 0x05) then s
    else
      let s := if x.bad then s else s.bump 0x2230 0x07
      s.onIngest fun i => { i with reassemblies := i.reassemblies.filter fun y => !(y.src == src && y.ident == ident) }

def execReassemblyTimeout (t : Nat) (src : List Byte) (ident : Nat) (s : State) : Host.Outcome State Fault Refusal :=
  complete t (reassemblyTimeout src ident) s

/-! ### IEC 61850-90-5 (R164–R167) -/

/-- The key handles a row accepts (R167). -/
def acceptedKeys (s : State) (h : Nat) (x : Stream) (keyTime : Nat) : List Nat :=
  let cur := s.cfg 0x2201 0x0E h
  let next := s.cfg 0x2201 0x0F h
  ((if x.nextKeyUsed then [next] else if keyTime ≤ s.t96Sec then [cur, next] else [cur])).filter (· != 0)

/-- The tag of an SPDU under a key (R164). -/
def spduTag (algorithm : Nat) (key signed : List Byte) : List Byte :=
  if algorithm = 1 then (Config.hmacSha256 key signed).take 16
  else if algorithm = 2 then Config.hmacSha256 key signed
  else (Config.aesGmac key signed).take 16

/-- The key usages an algorithm takes (R652). -/
def spduUsages (algorithm : Nat) : List Nat := if algorithm = 3 then [1] else [0]

/-- An authentication failure (R164, R166). -/
def authFailure (h cause : Nat) (s : State) : State := raiseOnce 0x2208 h (le 2 h ++ le 1 cause) (s.bump 0x2230 0x08)

/-- The data frame that an SPDU's data set stands for (assumption 18). -/
def spduFrame (idcode : Nat) (d : Spdu) : List Byte := [0xAA, 0x02] ++ be 2 (d.body.length + 8) ++ be 2 idcode ++ d.body ++ be 2 0

/-- The row of a set that an SPDU names, among candidates (R165). -/
def spduRow (d : Dict) (rows : List Nat) (port : Nat) (x : Spdu) : Option Nat :=
  rows.find? fun h =>
    (readIn d 0x2201 0x03 h).bits == 1 && bit (readIn d 0x2201 0x07 h).bits (port / 2) && (readIn d 0x2201 0x04 h).bytes == x.src &&
    (readIn d 0x2201 0x10 h).bytes == x.svId

/-- The data of an SPDU of a row of the old table, when its slot lies before the last swap (R174). -/
def spduOld (s : State) (port : Nat) (d : Spdu) : Option (OldTable × Nat × Nat × DataFrame) :=
  s.ingest.oldTable.bind fun o =>
    (spduRow o.set o.rows port d).bind fun h =>
      (oldParse s o port h (spduFrame (readIn o.set 0x2201 0x02 h).bits d)).map fun p => (o, h, p.1, p.2)

/-- What an SPDU of a stream shows beside its data: authentication, then the replay test (R164–R167).  The stream, with the SPDU taken, or what
was counted in its place. -/
def spduCheck (h : Nat) (d : Spdu) (x : Stream) (s : State) : State × Option Stream :=
  if !(1 ≤ d.algorithm && d.algorithm ≤ 3) then (authFailure h 2 s, none)
  else if !(acceptedKeys s h x d.keyTime).contains d.keyId then (authFailure h 1 s, none)
  else match keyOf s d.keyId (spduUsages d.algorithm) with
  | none => (authFailure h 1 (keyUsed d.keyId (spduUsages d.algorithm) s), none)
  | some key =>
    if spduTag d.algorithm key d.signed ≠ d.tag then (authFailure h 0 s, none)
    else
      let back : Bool := match x.spduHigh with | some n => (n + 2 ^ 32 - d.number) % 2 ^ 32 < 1024 | none => false
      if back then (s.bump 0x2230 0x09, none)
      else (s, some { x with
        spduHigh := some d.number, nextKeyUsed := x.nextKeyUsed || (d.keyId == s.cfg 0x2201 0x0F h && d.keyId != s.cfg 0x2201 0x0E h) })

/-- A whole SPDU: payload kind and encryption, matching (R165), authentication and replay, then checks 5–8 of R160 on its data set. -/
def wholeSpdu (port : Nat) (d : Spdu) (s : State) : State :=
  if d.checksumBad then s.bump 0x2230 0x0E
  else if d.encrypted then s.bump 0x2230 0x0A
  else if !d.sampledValues then s.bump 0x2230 0x05
  else match spduOld s port d with
  | some (o, h, tau, f) =>
    let was := s.active
    let (s, ok_) := spduCheck h d (tabGet (s.stream h) o.streams h) { s with active := o.set }
    let s := { s with active := was }
    (match ok_ with
     | some x =>
       if (lookup h o.streams).isSome then slotOld { o with streams := putKey h x o.streams } port h tau f (spduFrame (readIn o.set 0x2201 0x02 h).bits d) s
       else slotOld o port h tau f (spduFrame (readIn o.set 0x2201 0x02 h).bits d) (s.setStream h x)
     | none => s)
  | none =>
    match spduRow s.active (matchedRows s) port d with
    | none => unknownSource d.src 102 0 s
    | some h =>
      match spduCheck h d (s.stream h) s with
      | (s, some x) => dataFrameRx port h (spduFrame (s.cfg 0x2201 0x02 h) d) (s.setStream h x)
      | (s, none) => s

/-- SPDU_RX. -/
def spduRx (port : Nat) (d : Spdu) (s : State) : State :=
  if port ≥ 4 then s
  else if s.dev = stStart then s.bump 0x2230 0x10
  else if !s.running then s
  else match d.fragment with
  | none => wholeSpdu port d s
  | some (ident, off, last, n) =>
    match takePiece d.src ident off last (List.replicate n 0) s with
    | (s, some _) => wholeSpdu port d s
    | (s, none) => s

def execSpduRx (t port : Nat) (d : Spdu) (s : State) : Host.Outcome State Fault Refusal :=
  complete t (fun s => settleDecisions (spduRx port d s)) s

/-! ### Entry to RUN and swaps -/

/-- Rows whose Enable is set. -/
def enabledRows (s : State) : List Nat := (rowsOf s.live 0x2201 0x01).filter fun h => s.rw 0x2201 0x01 h == 1

/-- The local streams in the stream table, with their layout. -/
def localRows (s : State) : State :=
  (List.range 4).foldl (fun s l =>
    if s.cfgInt 0x2301 0x01 (s.cfg 0x2910 0x02 l) != 0 then
      s.setStream (firstLocal + l) { s.stream (firstLocal + l) with kinds := (localCfg s l).kinds } else s) s

/-- On entry to RUN every enabled row is admitted in increasing handle order (R181). -/
def ingestStart (s : State) : State :=
  let was := (rowsOf s.status 0x2203 0x01).filter fun h => streamState s h != 0
  let s := localRows ((s.onIngest fun _ => .reset).setRo 0x2230 0x0F 0)
  let s := (was.filter fun h => !(enabledRows s).contains h).foldl (fun s h => setStreamState h 0 s) s
  (enabledRows s).foldl (fun s h => reportRow h s) (admitAll (enabledRows s) s)

/-- Fields whose change makes a row anew (R173): IDCODE, transport, addresses, group, signal base and capacity. -/
def rowFields : List Nat := [2, 3, 4, 6, 8, 9, 10]
def rowDiffers (a b : Dict) (fields : List Nat) (h : Nat) : Bool := fields.any fun f => decide (readIn a 0x2201 f h ≠ readIn b 0x2201 f h)

/-- A row restarted by a swap leaves its place; its state is DISABLED until it is admitted anew. -/
def rowStops (before : Dict) (h : Nat) (s : State) : State :=
  if streamState s h ≤ 1 then s
  else
    let s := { (partnerCommand h 1 { s with active := before }) with active := s.active }
    setStreamState h 0 (streamGone h s)

/-- A row of mode 0 that keeps its session takes a new preloaded configuration (R144, R149). -/
def rowReloads (h : Nat) (s : State) : State :=
  match parseCfg (s.cfgBytes 0x2202 0x01 h), (s.stream h).cfg with
  | some c, some old =>
    let s := s.setStream h { s.stream h with oldCfg := some old, adoptedAt := s.now }
    configurationEvent h 1 old.signals c.signals (discardHistory h (takeConfiguration h c s))
  | _, _ => s

/-- The stream table at a swap (R167, R171, R173, R174, R138). -/
def ingestSwap (before : Dict) (at_ : Nat) (s : State) : State :=
  if !s.running then s
  else
    let rows := (s.ingest.streams.map (·.1)).filter fun h => h < firstLocal && streamState s h != 0
    let changed := rows.filter (rowDiffers before s.active rowFields)
    let live := rows.filter fun h => streamState s h == 3 || streamState s h == 4
    let preload := fun (h : Nat) => cfgComparable (readIn before 0x2202 0x01 h).bytes != cfgComparable (s.cfgBytes 0x2202 0x01 h)
    let touched := live.filter fun h => changed.contains h || rowDiffers before s.active ((List.range 16).map (· + 2)) h || preload h
    let olds := s.ingest.streams.filter fun e => changed.contains e.1 && live.contains e.1
    let s := s.onIngest fun i => { i with oldTable := some ⟨before, touched, olds, at_, (s.group 0).next + 32⟩ }
    let again := rows.filter fun h => !changed.contains h && streamState s h == 5
    let s := (rows.filter (rowDiffers before s.active [0x0E, 0x0F])).foldl (fun s h => s.setStream h { s.stream h with nextKeyUsed := false }) s
    let s := again.foldl (fun s h => sessionBegin h (setStreamState h 2 (closeSessionOf h s))) (changed.foldl (fun s h => rowStops before h s) s)
    let fresh := rows.filter fun h => !changed.contains h && !again.contains h && sessionMode s h == 0 && streamState s h ≥ 3 && preload h
    let s := fresh.foldl (fun s h => rowReloads h s) s
    let regrouped := (enabledRows s).filter (rowDiffers before s.active [6, 7])
    let s := regrouped.foldl (fun s h => reportRow h s) s
    let retry := (rows.filter fun h => streamState s h ≤ 1).filter fun h => s.rw 0x2201 0x01 h == 1
    ringResize (localRows (admitAll retry s))

end Sys2Proof.Machine
end

