-- ==== Sys2Proof/Machine/Housekeeping.lean ====
section
/-! DEFINITION. The housekeeping converter, its limits and the test DAC (R580–R588). -/

namespace Sys2Proof.Machine
open Sys2Proof

/-- The sequencer runs: from the first calibration of START on, in every powered state but RECOVERY (R597). -/
def hkRuns (s : State) : Bool := s.powered && s.dev != stRecovery

/-- The corrected code clamp(round((raw − O) × G), 0, 65,535), O in 2^-8 LSB and G in 2^-30 (R581). -/
def corrected (s : State) (raw : Nat) : Nat :=
  let v := Q.roundUp (Q.make (((raw : Int) * 256 - s.hk.offset) * s.hk.gain) (2 ^ 38))
  if v < 0 then 0 else if v > 65535 then 65535 else v.toNat

/-- One conversion: result, buffer word, sequence and count (R581). -/
def convert (c raw : Nat) (s : State) : State :=
  let y := corrected s raw
  let w := c * 2 ^ 24 + s.hk.seq % 256 * 2 ^ 16 + y
  let s := s.onHk fun h => { h with
    result := raw % 65536 * 65536 + y, buffer := putKey h.wr (.num w) h.buffer, wrapped := h.wrapped || h.wr == 4095,
    wr := (h.wr + 1) % 4096, seq := (h.seq + 1) % 256 }
  touch 0x2E11 0x01 noRow ((s.bump 0x2E30 0x01).setRo 0x2E11 0x02 s.hk.wr)

/-- The voltage of a (mean) corrected code: y ÷ 65,536 × 2.5 V (R584). -/
def hkVolts (y : Q) : Q := Q.mul y (Q.make 5 131072)

/-- The value of an external channel from its voltage; none when invalid (R584). -/
def hkValue (s : State) (c : Nat) (v : Q) : Option Q :=
  if s.cfg 0x2E03 0x01 c = 0 then some (Q.add (Q.mul v (s.cfgF 0x2E03 0x02 c)) (s.cfgF 0x2E03 0x03 c))
  else if Q.lt v (Q.make 125 10000) || Q.lt (Q.make 24875 10000) v then none
  else
    let r := Q.div (Q.mul (s.cfgF 0x2E03 0x04 c) v) (Q.sub (Q.make 5 2) v)
    let l := Q.ln r
    let inv := Q.add (Q.add (s.cfgF 0x2E03 0x05 c) (Q.mul (s.cfgF 0x2E03 0x06 c) l))
                     (Q.mul (s.cfgF 0x2E03 0x07 c) (Q.mul l (Q.mul l l)))
    if inv.num ≤ 0 then none
    else
      let temp := Q.sub (Q.div Q.one inv) (Q.make 27315 100)
      if Q.lt temp (Q.ofInt (-55)) || Q.lt (Q.ofInt 150) temp then none else some temp

def State.hkChan (s : State) (c : Nat) : HkChannel := tabGet .reset s.hk.channels c
def State.setHkChan (s : State) (c : Nat) (x : HkChannel) : State := s.onHk fun h => { h with channels := putKey c x h.channels }

/-- Set or clear a bit of a channel's status. -/
def hkFlag (c i : Nat) (b : Bool) (s : State) : State := s.setRow 0x2E10 0x03 c (setBit (s.ro 0x2E10 0x03 c) i b)

/-- A warning limit in one direction (R585): `beyond` past the limit, `back` within hysteresis. -/
def hkLimit (c i : Nat) (beyond back : Bool) (value : Nat) (s : State) : State :=
  let x := s.hkChan c
  let n := if i = 2 then x.highCount else x.lowCount
  let on := bit (s.ro 0x2E10 0x03 c) i
  let n' := if beyond then n + 1 else 0
  let s := s.setHkChan c (if i = 2 then { x with highCount := n' } else { x with lowCount := n' })
  let dir := if i = 2 then 1 else 0
  if !on && beyond && n' ≥ s.cfg 0x2E03 0x0B c then
    raiseOnce 0x2E03 c (le 1 c ++ le 1 dir ++ le 4 value) ((hkFlag c i true s).bump 0x2E30 0x03)
  else if on && back then raiseOnce 0x2E04 c (le 1 c ++ le 1 dir ++ le 4 value) (hkFlag c i false s)
  else s

/-- Evaluate the warning limits of a channel with a valid value (R585). -/
def hkLimits (c : Nat) (v : Q) (bits : Nat) (s : State) : State :=
  if s.cfgB 0x2E03 0x0C c then
    let hi := s.cfgF 0x2E03 0x09 c
    let lo := s.cfgF 0x2E03 0x08 c
    let h := s.cfgF 0x2E03 0x0A c
    hkLimit c 1 (Q.lt v lo) (Q.le (Q.add lo h) v) bits (hkLimit c 2 (Q.lt hi v) (Q.le v (Q.sub hi h)) bits s)
  else s

/-- Keep the minimum and the maximum since clear. -/
def hkExtremes (c : Nat) (v : Q) (bits : Nat) (s : State) : State :=
  let mn := s.ro 0x2E10 0x04 c
  let mx := s.ro 0x2E10 0x05 c
  let s := if mn = nanF32 ∨ Q.lt v (f32 mn) then s.setRow 0x2E10 0x04 c bits else s
  if mx = nanF32 ∨ Q.lt (f32 mx) v then s.setRow 0x2E10 0x05 c bits else s

/-- Update a channel's value from its mean corrected code (R584); a channel with the DAC on it keeps its value (R587). -/
def hkUpdate (c : Nat) (mean : Q) (s : State) : State :=
  let y := (Q.roundUp mean).toNat
  let s := (s.setRow 0x2E10 0x02 c y).setRow 0x2E10 0x06 c s.t96
  let routed := (s.rw 0x2E12 0x02 == 1 && s.rw 0x2E12 0x03 == c) || s.hk.testing == some c
  if routed then hkFlag c 4 true (hkFlag c 0 false s)
  else
    let s := hkFlag c 4 false s
    let bits : Option Nat := if c < 16 then (hkValue s c (hkVolts mean)).map toF32 else some (Config.hkFixed c y)
    match bits with
    | some b =>
      if s.hk.calFailed || s.hk.checkFailed then hkFlag c 0 true s
      else
        let s := (hkFlag c 0 false s).setRow 0x2E10 0x01 c b
        hkLimits c (f32 b) b (hkExtremes c (f32 b) b s)
    | none => hkFlag c 0 true s

/-- Within ±pct % of nominal, by exact comparison. -/
def within (v : Q) (nominal : Q) (pct : Nat) : Bool :=
  Q.le (Q.abs (Q.sub v nominal)) (Q.mul nominal (Q.make pct 100))

/-- Whether a fixed fault limit is exceeded (R586); the nominal supplies are those of R699. -/
def faultExceeded (c : Nat) (v : Q) : Bool :=
  let limit : Nat := if Config.gradeX then 125 else 115
  match c with
  | 16 => Q.lt (Q.ofNat limit) v
  | 17 => Q.lt (Q.ofNat limit) v
  | 18 => Q.lt (Q.ofNat limit) v
  | 19 => !within v (Q.make 80 100) 10
  | 20 => !within v (Q.make 75 100) 10
  | 21 => !within v (Q.make 50 100) 10
  | 22 => !within v (Q.make 180 100) 10
  | 23 => !within v (Q.make 12 10) 3
  | _ => false

/-- Count successive exceedances of a fixed-slot conversion (R586). -/
def faultCount (c : Nat) (s : State) : State :=
  let x := s.hkChan c
  let exceeds := faultExceeded c (f32 (Config.hkFixed c (s.ro 0x2E10 0x02 c)))
  let n := if exceeds then x.faultCount + 1 else 0
  let s := s.setHkChan c { x with faultCount := n, faultActive := x.faultActive && exceeds }
  if c = 23 && !exceeds then s.onHk fun h => { h with checkFailed := false } else s

/-- Channels 16–22 one of which still holds the device in a state entered by a fault limit: for SENTINEL one whose limit has acted, for
SAFE_TALK one outside its limits (R625, R628). -/
def faultHolds (s : State) : Bool :=
  (List.range 7).any fun k => let x := s.hkChan (16 + k); if s.dev == stSafeTalk then x.faultCount > 0 else x.faultActive

/-- When a fault-limit cause has ended: from the first slot without one on (R625, R628). -/
def noteFaultEnd (s : State) : State :=
  if s.power.cause = 8 ∧ (s.dev = stSentinel ∨ s.dev = stSafeTalk) then
    s.onPower fun p => { p with causeEndedAt := if faultHolds s then none else some (p.causeEndedAt.getD s.now) }
  else s

/-- One fixed slot: channels 16–23 once each, unless calibration runs (R582, R583). -/
def hkSlot (raw : List Nat) (s : State) : State :=
  if !hkRuns s || s.hk.calibrating then s
  else noteFaultEnd ((List.range 8).foldl (fun s k =>
    let c := 16 + k
    let r := raw.getD k 0
    faultCount c (hkUpdate c (Q.ofNat (corrected s r)) (convert c r s))) s)

def execHkFixedSlot (t : Nat) (raw : List Nat) (s : State) : Host.Outcome State Fault Refusal := complete t (hkSlot raw) s

/-- Mean of the corrected codes of raw conversions. -/
def meanCode (s : State) (raw : List Nat) : Q :=
  Q.make ((raw.map (corrected s)).foldl (· + ·) 0 : Nat) raw.length

/-- Rows of the scan list in use, in row order. -/
def scanRows (s : State) : List Nat := (List.range 32).filter fun n => s.cfg 0x2E02 0x01 n ≠ 0xFF

/-- A scan: each in-use row converted Averaging times back to back; skipped while the last one still runs or calibration runs (R582, R583). -/
def hkScan (raw : List (List Nat)) (s : State) : State :=
  if !hkRuns s then s
  else if s.hk.calibrating || s.now < s.hk.scanUntil then s.bump 0x2E30 0x02
  else
    let rows := scanRows s
    let total := rows.foldl (fun a n => a + s.cfg 0x2E02 0x02 n) 0
    let s := s.onHk fun h => { h with scanUntil := s.now + us total }
    (rows.zip raw).foldl (fun s p =>
      let c := s.cfg 0x2E02 0x01 p.1
      let codes := p.2.take (s.cfg 0x2E02 0x02 p.1)
      let s := codes.foldl (fun s r => convert c r s) s
      hkUpdate c (meanCode s codes) s) s

def execHkScan (t : Nat) (raw : List (List Nat)) (s : State) : Host.Outcome State Fault Refusal := complete t (hkScan raw) s

/-- HK_CTRL CONV: one conversion of the channel HK_SEL holds (R580, R581), skipped during a calibration (R583). -/
def hkConvertOne (c raw : Nat) (s : State) : State :=
  if hkRuns s && c < 24 then
    let s := s.onHk fun h => { h with sel := c }
    if s.hk.calibrating then s else convert c raw s
  else s

def execHkConvert (t channel raw : Nat) (s : State) : Host.Outcome State Fault Refusal := complete t (hkConvertOne channel raw) s

/-- Start a self-calibration (R583). -/
def startCalibration (s : State) : State := (s.onHk fun h => { h with calibrating := true }).setRo 0x2E01 0x05 3

/-- HK_CTRL CAL starts a calibration; the register write has no effect during one or during a channel test. -/
def hkCal (s : State) : State :=
  if hkRuns s && !s.hk.calibrating && s.hk.testing.isNone then startCalibration s else s

def execHkCalibrate (t : Nat) (s : State) : Host.Outcome State Fault Refusal := complete t hkCal s

/-- 0x2E50:01 Calibrate ADC: refused with 0x06 during a calibration or a channel test (R583). -/
def calibrate (s : State) : State × Nat :=
  if s.hk.calibrating || s.hk.testing.isSome then (s, 0x06) else (startCalibration s, 0)

def execCalibrateAdc (t : Nat) (who : Who) (s : State) : Host.Outcome State Fault Refusal :=
  complete t (runPlain 0x2E50 0x01 who calibrate) s

/-- Set calibration state 2: every channel status shows it (R583). -/
def calibrationFailed (s : State) : State :=
  let s := (s.onHk fun h => { h with calFailed := true }).setRo 0x2E01 0x05 2
  (List.range 24).foldl (fun s c => hkFlag c 3 true (hkFlag c 0 true s)) s

/-- Calibration ends: O is the code of ground, G the ideal span to the 2.200 V point over the measured one, both taken from the mean codes in
2^-8 LSB (R583). -/
def calibrationResult (ground high : Int) (s : State) : State :=
  if !s.hk.calibrating then s
  else
    let s := s.onHk fun h => { h with calibrating := false }
    let span := Q.make (high - ground) 256
    let g := Q.div (Q.make 5767168 100) span
    let gain := (Q.roundUp (Q.mul g (Q.ofInt (2 ^ 30)))).toNat
    let good := span.num > 0 && Q.le (Q.make 98 100) g && Q.le g (Q.make 102 100) && ground.natAbs ≤ 256 * 256
    if good then
      let s := s.onHk fun h => { h with gain := gain, offset := ground, calFailed := false }
      let s := (((s.setRo 0x2E01 0x03 gain).setRo 0x2E01 0x04 (toTwos 32 ground)).setRo 0x2E01 0x05 1).setRo 0x2E01 0x06 s.t96
      let s := (List.range 24).foldl (fun s c => hkFlag c 3 false s) s
      raise 0x2E02 (le 1 0 ++ le 4 gain ++ le 4 (toTwos 32 ground)) s
    else
      let s := (calibrationFailed s).setRo 0x2E01 0x06 s.t96
      raise 0x2E02 (le 1 1 ++ le 4 s.hk.gain ++ le 4 (toTwos 32 s.hk.offset)) s

def execCalibrationEnd (t : Nat) (ground high : Int) (s : State) : Host.Outcome State Fault Refusal :=
  complete t (calibrationResult ground high) s

/-- 0x2E50:04 Test channel (R588). -/
def testChannel (c : Nat) (s : State) : State × Nat :=
  if s.hk.calibrating || s.hk.testing.isSome || s.rw 0x2E12 0x02 ≠ 0 then (s, 0x06)
  else (hkFlag c 4 true (s.onHk fun h => { h with testing := some c }), 0)

def execTestChannel (t : Nat) (who : Who) (channel : Nat) (s : State) : Host.Outcome State Fault Refusal :=
  complete t (runCommand 0x2E50 0x04 noRow (.num channel) who (testChannel channel)) s

/-- The channel test ends: 16 conversions at each of the three DAC codes, worst error over them, ±5 mV to pass (R588). -/
def channelTestResult (raw : List (List Nat)) (s : State) : State :=
  match s.hk.testing with
  | none => s
  | some c =>
    let err := fun (p : Nat × List Nat) => Q.abs (Q.sub (hkVolts (meanCode s p.2)) (Q.make (p.1 * 5) 8192))
    let raw := raw.map fun l => l.take 16
    let s := (raw.take 3).foldl (fun s l => l.foldl (fun s r => convert c r s) s) s
    let worst := ([410, 2048, 3686].zip raw).foldl (fun w p => Q.max w (err p)) Q.zero
    let res := if Q.le worst (Q.make 5 1000) && raw.length ≥ 3 then 1 else 2
    let mv := toF32 (Q.mul worst (Q.ofInt 1000))
    let s := hkFlag c 4 false (s.onHk fun h => { h with testing := none })
    let s := ((s.setRow 0x2E13 0x01 c res).setRow 0x2E13 0x02 c mv).setRow 0x2E13 0x03 c s.t96
    raise 0x2E06 (le 1 c ++ le 1 res ++ le 4 mv) (s.bump 0x2E30 0x05)

def execChannelTestEnd (t : Nat) (raw : List (List Nat)) (s : State) : Host.Outcome State Fault Refusal :=
  complete t (channelTestResult raw) s

end Sys2Proof.Machine
end

