-- ==== Sys2Proof/Machine/Leash.lean ====
section
/-! DEFINITION. The Leash bus: messages, calibration, sending and acting (R461–R468). -/

namespace Sys2Proof.Machine
open Sys2Proof

/-! ### Messages (R462, R463) -/

/-- One bit of CRC-8, polynomial 0x07. -/
def crc8Bit (c : Nat) : Nat := if c ≥ 128 then (c * 2 ^^^ 0x07) % 256 else c * 2 % 256
/-- CRC-8 of a byte string, initial value 0. -/
def crc8 (l : List Byte) : Nat := l.foldl (fun c b => (List.range 8).foldl (fun c _ => crc8Bit c) (c ^^^ b.toNat)) 0

/-- A message of a type from an origin: sequence number, bits 135–72, bits 71–8. -/
def leashMessage (type origin seq hi lo : Nat) : List Byte :=
  let body := be 1 (type * 16 + origin) ++ be 1 seq ++ be 8 hi ++ be 8 lo
  be 1 0xD5 ++ body ++ be 1 (crc8 body)

/-- CRC and start of a message are good. -/
def leashGood (l : List Byte) : Bool := l.length == 20 && byteAt l 0 == 0xD5 && crc8 (slice l 1 18) == byteAt l 19

/-- Bits [71:8] of a T96 value, and the T96 value nearest one's own that has them. -/
def t96Mid (t : Nat) : Nat := t / 256 % 2 ^ 64
def t96Near (own mid : Nat) : Nat :=
  let low := mid * 256
  let dist := fun (a : Nat) => Nat.max a own - Nat.min a own
  ([own / 2 ^ 72, own / 2 ^ 72 + 1].map fun h => h * 2 ^ 72 + low).foldl (fun b a => if dist a < dist b then a else b)
    ((own / 2 ^ 72 - 1) * 2 ^ 72 + low)

/-! ### State -/

def leashState (s : State) : Nat := s.ro 0x2A11 0x01
def leashRing (s : State) : Bool := s.cfg 0x2A10 0x03 == 0
def leashHead (s : State) : Bool := s.cfg 0x2A10 0x02 == 1
def leashEnabled (s : State) : Bool := s.cfgB 0x2A10 0x01
def ownPosition (s : State) : Nat := s.ro 0x2A11 0x02
/-- Messages are forwarded (R462, R469). -/
def leashForwards (s : State) : Bool := s.powered && s.dev != stRecovery
/-- Messages are sent and acted on (R469). -/
def leashActs (s : State) : Bool := (s.running || s.dev == stSentinel) && leashEnabled s && leashState s ≥ 2

/-- At set load and at a swap that changes 0x2A10: off, or CALIBRATING until the bus has been calibrated (R464, R470). -/
def leashStart (s : State) : State :=
  let s := s.onLeash fun l => { l with sends := [], inFlight := [], acts := [] }
  let s := s.clearRange 0x2A11 0x2A11
  if leashEnabled s then s.setRo 0x2A11 0x01 1 else s

/-- FAULT, with its event (R465). -/
def leashFault (cause pos : Nat) (s : State) : State := raiseOnce 0x2A09 0 (le 1 cause ++ le 1 pos) (s.setRo 0x2A11 0x01 3)

/-- The path delay p(o, m) in ps over n hops from o (R464). -/
def pathDelay (delay : Nat → Nat) (o n count : Nat) : Nat :=
  ((List.range n).foldl (fun t k => t + delay ((o + k) % count)) 0) + 40000 * (n - 1)

/-- Hops from o to m on a bus of N members: downstream in a ring, either way in a chain. -/
def hopsBetween (ring : Bool) (n o m : Nat) : Nat × Nat :=
  if ring then (o, if o < m then m - o else m + n - o) else (Nat.min o m, Nat.max o m - Nat.min o m)

/-- The path delay from a position to this device by the stored table. -/
def pathFrom (s : State) (o m : Nat) : Nat :=
  let n := s.ro 0x2A11 0x03
  let (a, k) := hopsBetween (leashRing s) n o m
  pathDelay (fun h => s.ro 0x2A11 0x04 h) a k (Nat.max n 1)

/-- The longest path of a bus. -/
def worstPath (ring : Bool) (n : Nat) (delay : Nat → Nat) : Nat :=
  (List.range n).foldl (fun w o => (List.range n).foldl (fun w m =>
    if o = m then w else
      let (a, k) := hopsBetween ring n o m
      Nat.max w (pathDelay delay a k (Nat.max n 1))) w) 0

/-! ### Calibration (R464, R465) -/

/-- The cause and position of a calibration's failure, if any, from the hop delays and the returned position. -/
def calibrationFault (ring : Bool) (ds : List Nat) (returned : Option Nat) : Option (Nat × Nat) :=
  let n := if ring then ds.length else ds.length + 1
  match (List.range ds.length).find? fun h => ds.getD h 0 > 35000 with
  | some h => some (0, h)
  | none =>
    if ring && returned.isNone then some (3, 0)
    else if n > 16 || (match returned with | some p => ring && p + 1 > 16 | none => false) then some (2, 16)
    else if worstPath ring n (fun h => ds.getD h 0) > 1150000 then some (1, n - 1)
    else none

/-- LEASH_CALIBRATE at the head: the round trips b − a − e of the hops in ps, and the position a discovery returned with. -/
def leashCalibrate (trips : List Nat) (returned : Option Nat) (s : State) : State :=
  let on := s.running || s.dev == stSentinel || (s.dev == stStart && s.power.selfTestPassed && s.power.setLoaded)
  if !(on && leashEnabled s && leashHead s) then s
  else
    let ring := leashRing s
    let ds := trips.map fun (x : Nat) => (((x : Int) + s.cfgInt 0x2A10 0x06).fdiv 2).toNat
    let s := s.emit (.leash false (leashMessage 3 0 0 0 0))
    let s := s.emit (.leash false (leashMessage 2 0 0 0 0))
    match calibrationFault ring ds returned with
    | some (c, p) => leashFault c p s
    | none =>
      let n := if ring then ds.length else ds.length + 1
      let worst := worstPath ring n fun h => ds.getD h 0
      let s := (((s.setRo 0x2A11 0x01 2).setRo 0x2A11 0x02 0).setRo 0x2A11 0x03 n).setRo 0x2A11 0x05 worst
      let s := (List.range ds.length).foldl (fun s h =>
        (s.setRow 0x2A11 0x04 h (ds.getD h 0)).emit (.leash false (leashMessage 4 0 0 (ds.getD h 0 * 2 ^ 32 + h) 0))) s
      raiseOnce 0x2A08 0 (le 1 0 ++ le 1 n ++ le 1 (b2n (!ring)) ++ le 4 worst) s

def execLeashCalibrate (t : Nat) (hops : List Nat) (returned : Option Nat) (s : State) : Host.Outcome State Fault Refusal :=
  complete t (leashCalibrate hops returned) s

/-- 0x2A30:04 Recalibrate Leash, head only. -/
def recalibrate (s : State) : State × Nat :=
  if leashEnabled s && leashHead s then (s.setRo 0x2A11 0x01 1, 0) else (s, 0x06)

def execRecalibrateLeash (t : Nat) (who : Who) (s : State) : Host.Outcome State Fault Refusal :=
  complete t (runPlain 0x2A30 0x04 who recalibrate) s

/-- A hop report at a member: its table, its members and, once the table covers the hops up to its own position, READY. -/
def takeHop (h d : Nat) (s : State) : State :=
  let s := s.setRow 0x2A11 0x04 h d
  let n := Nat.max (s.ro 0x2A11 0x03) (if leashRing s then h + 1 else h + 2)
  let worst := worstPath (leashRing s) n fun k => s.ro 0x2A11 0x04 k
  let s := (s.setRo 0x2A11 0x03 n).setRo 0x2A11 0x05 worst
  if leashState s = 1 ∧ h + 1 ≥ ownPosition s then
    raiseOnce 0x2A08 0 (le 1 (ownPosition s) ++ le 1 n ++ le 1 (b2n (!leashRing s)) ++ le 4 worst) (s.setRo 0x2A11 0x01 2)
  else s

/-! ### Triggers (R466–R468) -/

/-- Take a Leash trigger into capture (R467). -/
def leashTake (x : Trig) (late : Bool) (s : State) : State := if s.cfgB 0x2A10 0x04 then takeTrigger x late s else s

/-- A good trigger message that ended now, from another device. -/
def leashTrigger (origin seq t0 : Nat) (s : State) : State :=
  let s := s.bump 0x2A40 0x07
  let x : Trig := ⟨t0, 0xFFFE, 0, seq, origin, 0⟩
  let due := s.now - 800000 + (2000000 - pathFrom s origin (ownPosition s))
  if due < s.now + 20000 then
    leashTake x true (raiseOnce 0x2A0A 0 (le 1 origin ++ le 4 ((s.now + 20000 - due) / 1000)) (s.bump 0x2A40 0x09))
  else s.onLeash fun l => { l with acts := l.acts ++ [(due, x, false)] }

/-- The return of one's own message in a ring: removed and compared with p(o, o) + 40 ns (R468). -/
def leashReturn (seq : Nat) (s : State) : State :=
  match s.leash.inFlight.find? fun e => e.1 == seq with
  | none => s
  | some (_, at_) =>
    let s := s.onLeash fun l => { l with inFlight := l.inFlight.filter fun e => e.1 != seq }
    let got := s.now - 800000 - at_
    let p := pathFrom s (ownPosition s) (ownPosition s) + 40000
    if Nat.max got p - Nat.min got p > 1000 then
      let s := raiseOnce 0x2A09 0 (le 1 5 ++ le 1 (ownPosition s)) (s.bump 0x2A40 0x0D)
      s.setRo 0x2A11 0x01 1
    else s

/-- LEASH_MESSAGE_RX (R462): forwarded, except one's own that has come round a ring, and acted on when its CRC is good. -/
def leashRx (syn : Bool) (l : List Byte) (s : State) : State :=
  if !leashForwards s then s
  else
    let good := leashGood l
    let type := byteAt l 1 / 16
    let origin := byteAt l 1 % 16
    let me := ownPosition s
    let mine := good && type == 1 && leashRing s && origin == me && s.leash.inFlight.any fun e => e.1 == byteAt l 2
    let out := if good && type == 3 && leashEnabled s && !leashHead s then
        leashMessage 3 origin (byteAt l 2) (beAt l 3 8 / 16 * 16 + (byteAt l 10 + 1) % 16) (beAt l 11 8) else l
    let mineDiscovery := good && type == 3 && leashHead s
    let s := s.onLeash fun x => { x with passingUntil := s.now + 40000 }
    let s := if mine || mineDiscovery then s else s.emit (.leash syn out)
    if !good then s.bump 0x2A40 0x08
    else if !leashEnabled s || s.dev == stSafeTalk then s
    else match type with
      | 1 => if mine then leashReturn (byteAt l 2) s
             else if leashActs s then leashTrigger origin (byteAt l 2) (t96Near s.t96 (beAt l 3 8)) s else s
      | 2 => if !leashHead s && me == origin + 1 then s.emit (.leash true l) else s
      | 3 => if leashHead s then s else (s.setRo 0x2A11 0x02 ((byteAt l 10 % 16 + 1) % 16)).setRo 0x2A11 0x01 1
      | 4 => if leashHead s then s else takeHop (byteAt l 10) (beAt l 3 4) s
      | _ => s

def execLeashMessageRx (t : Nat) (syn : Bool) (msg : List Byte) (s : State) : Host.Outcome State Fault Refusal :=
  complete t (leashRx syn msg) s

/-- LEASH_SEND (R466): the next trigger leaves at this TREF edge, unless a message is passing; the origin acts at t_a too. -/
def leashSend (s : State) : State :=
  match s.leash.sends with
  | [] => s
  | x :: rest =>
    if s.now < s.leash.passingUntil then s
    else
      let s := s.onLeash fun l => { l with sends := rest }
      if leashState s ≠ 2 ∨ leashActs s = false then s.bump 0x2A40 0x0C
      else
        let me := ownPosition s
        let seq := s.leash.seq
        let m := leashMessage 1 me seq (t96Mid x.t0) (t96Mid (s.t96 + psToT96 2000000))
        let own : Trig := ⟨x.t0, 0xFFFE, 0, seq, me, 0⟩
        let s := s.onLeash fun l => { l with
          seq := (seq + 1) % 256, acts := l.acts ++ [(s.now + 2000000, own, false)]
          inFlight := if leashRing s then l.inFlight ++ [(seq, s.now)] else l.inFlight }
        let s := (s.emit (.leash false m)).bump 0x2A40 0x06
        if leashRing s then s else s.emit (.leash true m)

def execLeashSend (t : Nat) (s : State) : Host.Outcome State Fault Refusal := complete t leashSend s

/-- LEASH_ACT (R467): the actions whose instant has come. -/
def leashAct (s : State) : State :=
  let due := s.leash.acts.filter fun a => a.1 ≤ s.now
  let s := s.onLeash fun l => { l with acts := l.acts.filter fun a => a.1 > s.now }
  if leashActs s then due.foldl (fun s a => leashTake a.2.1 a.2.2 s) s else s

def execLeashAct (t : Nat) (s : State) : Host.Outcome State Fault Refusal := complete t leashAct s

end Sys2Proof.Machine
end

