-- ==== Sys2Proof/Machine/Sessions.lean ====
section
/-! DEFINITION. The ends of sessions, transfers and subscriptions (R530, R532, R538, R577, R593). -/

namespace Sys2Proof.Machine
open Sys2Proof

/-- 0x3111:01: 0 idle, 1 RECEIVING, 2 VERIFIED, 3 FAILED; in trial it reads 4. -/
def updateState (s : State) : Nat := s.ro 0x3111 0x01

/-- The key of the update image's transfer. -/
def imageKey : Nat := okey 0x3110 0x00 noRow

/-- An update fails (R662): its transfer ends, the bank stays invalid. -/
def updateFailed (reason : Nat) (s : State) : State :=
  let s := s.onImian fun i => { i with transfers := i.transfers.filter fun t => t.key != imageKey }
  let s := ((s.setRo 0x3111 0x01 3).setRo 0x3111 0x03 reason).bump 0x3140 0x03
  raise 0x3103 (le 1 reason ++ le 8 s.keys.imageOffset) s

/-- An update is open: RECEIVING. -/
def receiving (s : State) : Bool := updateState s == 1

/-- Transfers that end without their last segment (R530): the object keeps what it held; an update image fails with reason 8 (R662). -/
def abandonTransfers (p : Transfer → Bool) (s : State) : State :=
  let gone := s.imian.transfers.filter p
  let s := s.onImian fun i => { i with transfers := i.transfers.filter fun t => !p t }
  if (gone.any fun t => t.key == imageKey) && receiving s then updateFailed 8 s else s

/-- What ends with a session: its transfers, its subscriptions, its log freeze, its log cursor, the responses kept for it. -/
def dropSession (n : Nat) (s : State) : State :=
  let s := abandonTransfers (fun t => decide (t.who = .dtls n)) s
  let s := s.onImian fun i => { i with sessions := delKey n i.sessions, subscriptions := i.subscriptions.filter fun b => b.session != n }
  let s := if s.log.frozenBy = some n then releaseFreeze s else s
  s.setLive 0x2E21 0x01 n (.num 0)

/-- A session closes: event 0x1102 with cause 0 client, 1 idle, 2 command, 3 device state. -/
def endSession (n cause : Nat) (s : State) : State :=
  if (s.session n).isSome then raise 0x1102 (le 1 n ++ le 1 cause) (dropSession n s) else s

/-- Every DTLS session closes. -/
def endSessions (cause : Nat) (s : State) : State := (s.imian.sessions.map (·.1)).foldl (fun s n => endSession n cause s) s

/-- Every DTLS session ends without a trace in the log (R577). -/
def dropSessions (s : State) : State := (s.imian.sessions.map (·.1)).foldl (fun s n => dropSession n s) s

end Sys2Proof.Machine
end

