-- ==== Sys2Proof/Machine/Headwater.lean ====
section
/-! DEFINITION. Headwater's samples, cycle quantities, local phasor estimation, local streams and sampled values (R408–R434). -/

namespace Sys2Proof.Machine
open Sys2Proof

/-! ### Samples (R408–R418) -/

/-- An RO F32. -/
def roF (s : State) (idx sub row : Nat) : Q := f32 (s.ro idx sub row)

/-- Samples kept of a channel. -/
def waveDepth : Nat := 8192

/-- The chain's output with the fade that is in progress (R416): remaining output samples before this one. -/
def fadedValue (s : State) (x : Chain) : Q :=
  match s.head.fade with
  | none => chainValue x
  | some f =>
    if s.head.fadeWait > 0 then chainValue x
    else
      let m := f + 1 - Nat.max 1 (s.ro 0x2921 0x02)
      let m := if s.ro 0x2921 0x02 = 0 then f else m
      Q.div (Q.add (Q.mul (Q.ofNat (f - m)) (chainValue x)) (Q.mul (Q.ofNat m) (Q.make x.faded (2 ^ 31)))) (Q.ofNat (Nat.max 1 f))

/-- One channel's 12.8 kS/s sample: kept with its instant, and its peaks and envelope (R412, R413, R418). -/
def channelSample (c : Nat) (x : Chain) (s : State) : State :=
  let f := c / 6
  if feederState s f ≠ 2 || svFed s f then s
  else
    let d := delay128 s
    -- scaling and sensor delay of before a swap hold for instants before it (R435)
    let set := { s with active := pubSet s (sampleInstant s c d) }
    let at_ := sampleInstant set c d
    let exceeds := overrange set c x
    let good := sampleGood s c d && !exceeds
    let v := primary set c (fadedValue s x)
    let y := s.chan c
    let s := s.setChan c { y with waves := (⟨at_, toF64 v, good, exceeds⟩ :: y.waves).take waveDepth, overCount := y.overCount + b2n exceeds }
    let s := if exceeds then
        let s := s.bump 0x2940 0x03
        if recent 0x2906 c s < 1 then
          let n := (s.chan c).overCount
          (raiseOnce 0x2906 c (le 1 c ++ le 4 n) s).setChan c { s.chan c with overCount := 0 }
        else s
      else s
    if !good then s
    else
      let a := v.abs
      let e := Q.max a (Q.mul (roF s 0x2920 0x04 c) (Q.exp (Q.neg (Q.div Q.one (Q.mul (Q.ofNat 12800) (set.cfgF 0x2902 0x05 c))))))
      let s := if Q.lt (roF s 0x2920 0x01 c) a then s.setRow 0x2920 0x01 c (toF32 a) else s
      let s := s.setRow 0x2920 0x04 c (toF32 e)
      quantityTriggers 2 c 2 (some e) at_ s

/-- SAMPLE_12K8: one output sample index of the chain on all 24 channels. -/
def sample128 (raw : List Chain) (s : State) : State :=
  if !headRuns s then s
  else
    let s := (List.range 24).foldl (fun s c => channelSample c (raw.getD c ⟨0, 0, 0⟩) s) s
    let s := s.onHead fun h => { h with index := h.index + 1, fadeWait := h.fadeWait - 1 }
    let s := if s.head.fade.isSome && s.head.fadeWait == 0 then s.setRo 0x2921 0x02 (s.ro 0x2921 0x02 - 1) else s
    energySample s

def execSample12K8 (t : Nat) (raw : List Chain) (s : State) : Host.Outcome State Fault Refusal := complete t (sample128 raw) s

/-! ### Cycle values (R418, R419) -/

/-- The latest cycle window whose end lies D₁₂.₈ back, with the T96 instants at which GAT reached its two boundaries (R76). -/
def cycleDone (s : State) : Option (Nat × Nat × Nat) :=
  match s.time.edges.dropWhile fun e => decide (s.t96 < e.2 + psToT96 (delay128 s)) with
  | b :: a :: _ => some (a.1, a.2, b.2)
  | _ => none

/-- Peak and RMS of a channel over a window of T96, or none (R419). -/
def cycleValues (s : State) (c b0 b1 : Nat) : Option (Q × Q) × Bool :=
  let l := (s.chan c).waves.filter fun w => b0 ≤ w.at_ && w.at_ < b1
  let v := (l.filter (·.valid)).map fun w => f64 w.x
  let exceeds := l.any (·.exceeds)
  let want := Q.mul (Q.make ((b1 - b0 : Nat) : Int) (2 ^ 48)) (Q.ofNat 12800)
  if v.isEmpty || svFed s (c / 6) || Q.lt (Q.ofNat (10 * v.length)) (Q.mul (Q.ofNat 9) want) then (none, exceeds)
  else
    let peak := v.foldl (fun a x => Q.max a x.abs) Q.zero
    (some (peak, Q.sqrt (Q.div (Q.sum (v.map fun x => Q.mul x x)) (Q.ofNat v.length))), exceeds)

/-- Publish a channel's cycle. -/
def publishCycle (c b0 b1 : Nat) (s : State) : State :=
  let (v, exceeds) := cycleValues s c b0 b1
  let bits := fun (q : Option Q) => match q with | some q => toF32 q | none => nanF32
  let rms := bits (v.map (·.2))
  let s := (s.setRow 0x2920 0x02 c (bits (v.map (·.1)))).setRow 0x2920 0x03 c rms
  let y := s.chan c
  let s := s.setChan c { y with overCycle := exceeds, cycles := ((b1, rms) :: y.cycles).take 64 }
  quantityTriggers 2 c 1 (v.map (·.1)) b1 (quantityTriggers 2 c 0 (v.map (·.2)) b1 s)

/-- CYCLE_WINDOW_END. -/
def cycleEnd (s : State) : State :=
  if !headRuns s then s
  else if !s.time.gatOn then
    (List.range 24).foldl (fun s c => (s.setRow 0x2920 0x02 c nanF32).setRow 0x2920 0x03 c nanF32) s
  else match cycleDone s with
  | none => s
  | some (n, b0, b1) =>
    if s.head.lastCycle == some n then s
    else
      let s := s.onHead fun h => { h with lastCycle := some n }
      (List.range 24).foldl (fun s c => publishCycle c b0 b1 s) s

def execCycleWindowEnd (t : Nat) (s : State) : Host.Outcome State Fault Refusal := complete t cycleEnd s

/-! ### Phasors (R420–R423) -/

/-- Complex numbers over rationals. -/
def cMul (a b : Q × Q) : Q × Q := (Q.sub (Q.mul a.1 b.1) (Q.mul a.2 b.2), Q.add (Q.mul a.1 b.2) (Q.mul a.2 b.1))
def cAdd (a b : Q × Q) : Q × Q := (Q.add a.1 b.1, Q.add a.2 b.2)
def cScale (k : Q) (a : Q × Q) : Q × Q := (Q.mul k a.1, Q.mul k a.2)
/-- Magnitude, and angle in turns. -/
def cAbs (a : Q × Q) : Q := Q.sqrt (Q.add (Q.mul a.1 a.1) (Q.mul a.2 a.2))
def cTurn (a : Q × Q) : Q := atan2Turn a.2 a.1

/-- The UTC instant of T_k, T96 (R420). -/
def estimateInstant (s : State) (k : Nat) : Nat :=
  let u := Q.make k (4 * s.fnom)
  (Q.floor (Q.mul (Q.add u (Q.ofInt (s.deltaAt (Q.floor u)))) (Q.ofNat (2 ^ 48)))).toNat

/-- A class of a feeder: half its window in s, and the cut-off F_fr of the M class. -/
structure Win where
  mClass : Bool
  h : Q
  ffr : Q

/-- The class's H and F_fr (R421). -/
def winOf (s : State) (f : Nat) (mClass : Bool) : Win :=
  let f0 := Q.ofNat s.fnom
  let used := s.rw 0x2910 0x01 f == 1 && s.cfg 0x2910 0x03 f == 1
  let fs := if used then Q.max (Q.ofNat 10) (Q.div Q.one (periodQ (s.cfgInt 0x2301 0x01 (s.cfg 0x2910 0x02 f)))) else f0
  ⟨mClass, halfWindow s f mClass, Q.min (Q.div fs (Q.ofNat 4)) (Q.div f0 (Q.ofNat 2))⟩

/-- The window of a class at an offset in s (R421). -/
def windowAt (w : Win) (tau : Q) : Q :=
  if Q.le w.h tau.abs then Q.zero
  else if !w.mClass then Q.sub Q.one (Q.div tau.abs w.h)
  else
    let z := Q.mul (Q.ofNat 2) (Q.mul w.ffr tau)
    let sinc := if z.num = 0 then Q.one else Q.div (sincosTurn (Q.div z (Q.ofNat 2))).1 (Q.mul qPi z)
    Q.mul sinc (Q.add ⟨54, 100⟩ (Q.mul ⟨46, 100⟩ (sincosTurn (Q.div tau (Q.mul (Q.ofNat 2) w.h))).2))

/-- The phasor of samples at t_k (R421), and whether an overrange sample lies in its window; missing under R423. -/
def phasorAt (s : State) (w : Win) (rate : Nat) (waves : List Wave) (tk : Nat) : Option (Q × Q) × Bool :=
  let inW := waves.filterMap fun v =>
    let tau := Q.make ((v.at_ : Int) - tk) (2 ^ 48)
    if Q.lt tau.abs w.h then some (v, tau) else none
  let good := inW.filter (·.1.valid)
  let exceeds := inW.any (·.1.exceeds)
  let want := Q.mul (Q.mul (Q.ofNat 2) w.h) (Q.ofNat rate)
  if good.isEmpty || Q.lt (Q.ofNat (10 * good.length)) (Q.mul (Q.ofNat 9) want) then (none, exceeds)
  else
    let acc := good.foldl (fun (a : (Q × Q) × Q) p =>
      let k := windowAt w p.2
      let u := Q.sub (Q.make p.1.at_ (2 ^ 48)) (Q.ofInt s.delta)
      let (sn, cs) := sincosTurn (Q.neg (Q.mul (Q.ofNat s.fnom) u))
      let x := Q.mul k (f64 p.1.x)
      ((dbl (Q.add a.1.1 (Q.mul x cs)), dbl (Q.add a.1.2 (Q.mul x sn))), dbl (Q.add a.2 k))) ((Q.zero, Q.zero), Q.zero)
    (some (cScale (Q.div (Q.sqrt (Q.ofNat 2)) acc.2) acc.1), exceeds)

/-- |W(d)| of a window at 12.8 kS/s spacing. -/
def windowResponse (w : Win) (d : Q) : Q :=
  let n := (Q.floor (Q.mul w.h (Q.ofNat 12800))).toNat
  Q.abs (Q.sum ((List.range (2 * n + 1)).map fun (j : Nat) =>
    let tau := Q.make ((j : Int) - n) 12800
    dbl (Q.mul (windowAt w tau) (sincosTurn (Q.mul d tau)).2)))

/-- |W(f − f₀)| / W(0), in a table of 10 mHz steps over ±5 Hz, interpolated linearly (R422). -/
def windowRatio (s : State) (w : Win) (f : Q) : Q :=
  let d := Q.max (Q.ofInt (-5)) (Q.min (Q.ofInt 5) (Q.sub f (Q.ofNat s.fnom)))
  let i := Q.floor (Q.mul d (Q.ofNat 100))
  let at_ := fun (j : Int) => windowResponse w (Q.make j 100)
  let fr := Q.sub (Q.mul d (Q.ofNat 100)) (Q.ofInt i)
  let v := Q.add (Q.mul (Q.sub Q.one fr) (at_ i)) (Q.mul fr (at_ (i + 1)))
  Q.div v (windowResponse w Q.zero)

/-- a = e^(j2π/3). -/
def cA : Q × Q := let p := sincosTurn ⟨1, 3⟩; (p.2, p.1)
/-- Positive, negative and zero sequence of three phasors (R422). -/
def sequences (x y z : Q × Q) : (Q × Q) × (Q × Q) × (Q × Q) :=
  let a2 := cMul cA cA
  let third := cScale ⟨1, 3⟩
  (third (cAdd x (cAdd (cMul cA y) (cMul a2 z))), third (cAdd x (cAdd (cMul a2 y) (cMul cA z))), third (cAdd x (cAdd y z)))

/-- The samples of channel k (0–5) of a feeder and their rate (R431, R433). -/
def feederWaves (s : State) (f k : Nat) : List Wave × Nat :=
  if svFed s f then
    let x := tabGet SvSt.reset s.head.sv f
    (tabGet [] x.waves k, x.rate)
  else ((s.chan (6 * f + k)).waves, 12800)

/-- V1 of a feeder at t_k, before the scaling of R422. -/
def v1At (s : State) (f : Nat) (w : Win) (k : Nat) : Option (Q × Q) :=
  let tk := estimateInstant s k
  let one := fun j => let (v, r) := feederWaves s f j; (phasorAt s w r v tk).1
  match one 0, one 1, one 2 with
  | some a, some b, some c => some (sequences a b c).1
  | _, _, _ => none

/-- What an estimator output holds: phasors VA VB VC V1 V2 V0 IA IB IC I1 I2 I0, frequency and ROCOF, overrange in a window. -/
structure Estimate where
  phasors : List (Option (Q × Q))
  freq : Option Q
  rocof : Option Q
  exceeds : Bool

/-- An angle in turns wrapped into (−½, ½]. -/
def wrapTurn (q : Q) : Q := Q.neg (Q.sub (Q.sub (Q.neg q) (Q.ofInt (Q.floor (Q.add (Q.neg q) ⟨1, 2⟩)))) Q.zero)

/-- The estimator at t_k (R421–R424). -/
def estimateAt (s : State) (f : Nat) (mClass : Bool) (k : Nat) : Estimate :=
  let w := winOf s f mClass
  let tk := estimateInstant s k
  let raw := (List.range 6).map fun j => let (v, r) := feederWaves s f j; phasorAt s w r v tk
  let exceeds := raw.any (·.2)
  let ph := raw.map (·.1)
  let v1s := (List.range 5).map fun j => v1At s f w (k + j - 2)
  let limit := Q.mul (s.cfgF 0x2910 0x06 f) (s.cfgF 0x2901 0x03 f)
  let bad := v1s.any fun v => match v with | some x => Q.lt (cAbs x) limit | none => true
  let turn := fun (j : Nat) => match v1s[j]? with | some (some x) => cTurn x | _ => Q.zero
  let fr := fun (j : Nat) => Q.add (Q.ofNat s.fnom) (Q.mul (wrapTurn (Q.sub (turn (j + 1)) (turn (j - 1)))) (Q.ofNat (2 * s.fnom)))
  let freq := if bad then none else some (fr 2)
  let rocof := if bad then none else some (Q.mul (Q.sub (fr 3) (fr 1)) (Q.ofNat (2 * s.fnom)))
  let gain := match freq with | some q => windowRatio s w q | none => Q.one
  let ph := ph.map fun p => p.map fun x => cScale (Q.div Q.one gain) x
  let three := fun (a : Nat) =>
    match ph.getD a none, ph.getD (a + 1) none, ph.getD (a + 2) none with
    | some x, some y, some z => let q := sequences x y z; [some x, some y, some z, some q.1, some q.2.1, some q.2.2]
    | x, y, z => [x, y, z, none, none, none]
  ⟨three 0 ++ three 3, freq, rocof, exceeds⟩

/-! ### Delivery (R426, R434) -/

/-- Feed the GAT tracker when the feeder is its reference (R65–R67).  A V1 below the minimum magnitude whose frequency is missing for that (R424)
comes with the frequency measured last. -/
def feedTracker (f tk : Nat) (e : Estimate) (s : State) : State :=
  if s.cfg 0x2010 0x02 != 0 || s.cfg 0x2010 0x03 != f then s
  else match e.phasors.getD 3 none with
  | none => s
  | some v =>
    let low := Q.lt (cAbs v) (Q.mul (s.cfgF 0x2010 0x06) (s.cfgF 0x2901 0x03 f))
    match e.freq with
    | some q => gatReference (referencePhase s tk (cTurn v) q) (Q.round (Q.mul q (Q.ofNat (2 ^ 32)))).toNat low false s
    | none =>
      let last := if s.time.refSeen.isSome then s.time.refFreq else hz s.fnom
      if low then gatReference (referencePhase s tk (cTurn v) (Q.make last (2 ^ 32))) last true false s else s

/-- Loss of mains, and Shepherd's copy, at a P-class output (R332, R335, R630). -/
def feedLom (f : Nat) (e : Estimate) (s : State) : State :=
  let rms := (List.range 3).mapM fun k => binary32.toQ (s.ro 0x2920 0x03 (6 * f + k))
  let extreme := fun (pick : Q → Q → Q) => match rms with | some l => toF64 (l.foldl pick (l.headD Q.zero)) | none => nanF64
  let (v1, phi) := match e.phasors.getD 3 none with | some v => (cAbs v, turn32 (cTurn v)) | none => (Q.zero, 0)
  let invalid := (e.phasors.getD 3 none).isNone
  let fq := match e.freq with | some q => q | none => Q.ofNat s.fnom
  let go := fun (g : Nat → Nat → Nat → Nat → Nat → Nat → Bool → State → State) (s : State) =>
    g f (toF64 fq) phi (toF64 v1) (extreme Q.min) (extreme Q.max) invalid s
  go shepherdEvaluate (go lomEvaluate s)

/-- The digital status word of a local stream (R428). -/
def localStatus (s : State) (f : Nat) (mClass : Bool) (e : Estimate) : Nat :=
  let any := fun (p : ChannelSt → Bool) => (List.range 6).any fun k => p (s.chan (6 * f + k))
  let sync := svFed s f && (tabGet SvSt.reset s.head.sv f).synch != 2
  b2n (decide (s.timeClass ≥ 4) || sync) + 2 * b2n e.exceeds + 4 * b2n (any (·.modFault)) + 8 * b2n (any (·.delayFault)) +
  16 * b2n e.freq.isNone + 32 * b2n s.time.nominal + 64 * b2n s.head.fade.isSome + 128 * b2n mClass + 256 * b2n (svFed s f)

/-- The signal words of a local frame (R427). -/
def localWords (s : State) (f tk : Nat) (mClass : Bool) (e : Estimate) : List Nat :=
  let ph := e.phasors.map fun p => match p with | some x => toF32 (cAbs x) * 2 ^ 32 + turn32 (cTurn x) | none => missingWord
  let fw := fun (q : Option Q) => match q with | some x => toF32 x * 2 ^ 32 | none => missingWord
  let rms := (List.range 6).map fun k =>
    match (s.chan (6 * f + k)).cycles.find? fun e => e.1 ≤ tk with
    | some (_, v) => if v = nanF32 || svFed s f then missingWord else v * 2 ^ 32
    | none => missingWord
  ph ++ [fw (e.freq.map fun q => Q.sub q (Q.ofNat s.fnom)), fw e.rocof] ++ rms ++ [localStatus s f mClass e]

/-- The slot of group g whose nominal instant is t_k, when t_k is a reporting instant (R430). -/
def reportingSlot (s : State) (g k : Nat) : Option Nat :=
  let i := Q.div (Q.make k (4 * s.fnom)) (periodQ (s.cfgInt 0x2301 0x01 g))
  if Q.eqv i (Q.ofInt (Q.floor i)) then some (Q.floor i).toNat else none

/-- A local stream's frame at a reporting instant: slotted, and published directly (R386, R430). -/
def localFrame (f k tk : Nat) (mClass : Bool) (e : Estimate) (s : State) : State :=
  let h := firstLocal + f
  if !(localState s f == 2 && (s.cfg 0x2910 0x03 f == 1) == mClass) then s
  else match reportingSlot s (s.cfg 0x2910 0x02 f) k with
  | none => s
  | some i =>
    let words := localWords s f tk mClass e
    let st := words.getD 20 0
    let q := 16 * b2n (bit st 2 || bit st 3) + 8 * b2n (bit st 0) + s.timeClass
    let s := s.setRow 0x2911 0x02 f tk
    let s := slotFrame h tk s.t96 words (words.map fun _ => q) (words.flatMap (be 8)) none id s
    publishLocal f i words s

/-- ESTIMATOR_OUTPUT: the set of a feeder and class for t_k is complete (R420–R426). -/
def estimatorOutput (f : Nat) (mClass : Bool) (k : Nat) (s : State) : State :=
  let tk := estimateInstant s k
  let wait := Q.add (halfWindow s f mClass) (Q.make 2 (4 * s.fnom))
  let wait := if svFed s f then psOf wait else psOf wait + delay128 s
  if !(f < 4 && 2 ≤ k && headRuns s && feederState s f == 2 && s.time.isSet && tk + psToT96 wait ≤ s.t96) then s
  else
    let e := estimateAt s f mClass k
    let s := if e.phasors.any Option.isNone then s.bump 0x2940 0x04 else s
    let s := if mClass then s else feedLom f e (feedTracker f tk e s)
    let s := if (s.cfg 0x2910 0x03 f == 1) == mClass then
        let bits := fun (q : Option Q) => match q with | some x => toF32 x | none => nanF32
        let s := ((s.setRow 0x2911 0x03 f (bits e.freq)).setRow 0x2911 0x04 f (bits e.rocof)).setRow 0x2911 0x05 f
          (bits ((e.phasors.getD 3 none).map cAbs))
        quantityTriggers 4 f 0 e.rocof tk (quantityTriggers 3 f 0 e.freq tk s)
      else s
    localFrame f k tk mClass e s

def execEstimatorOutput (t feeder : Nat) (mClass : Bool) (k : Nat) (s : State) : Host.Outcome State Fault Refusal :=
  complete t (fun s => settleDecisions (estimatorOutput feeder mClass k s)) s

/-! ### Sampled values (R431–R433) -/

/-- The tag-length-value elements of a BER string (one-byte tags). -/
def tlvs : Nat → List Byte → Option (List (Nat × List Byte))
  | 0, l => if l.isEmpty then some [] else none
  | n + 1, l =>
    match l with
    | [] => some []
    | tag :: r =>
      let (len, o) := if byteAt r 0 < 128 then (byteAt r 0, 1) else (beAt r 1 (byteAt r 0 - 128), byteAt r 0 - 127)
      if r.length < o + len || o > 5 then none
      else (tlvs n (r.drop (o + len))).map fun m => (tag.toNat, slice r o len) :: m

/-- An ASDU: svID, smpCnt, smpSynch and its 64 bytes of data. -/
structure Asdu where
  svId : List Byte
  count : Nat
  synch : Nat
  data : List Byte

def asduOf (l : List Byte) : Option Asdu :=
  match tlvs 16 l with
  | none => none
  | some m =>
    let get := fun t => (m.find? fun e => e.1 == t).map (·.2)
    match get 0x80, get 0x82, get 0x85, get 0x87 with
    | some id, some c, some y, some d => if d.length = 64 && c.length = 2 then some ⟨id, beAt c 0 2, beAt y 0 1, d⟩ else none
    | _, _, _, _ => none

/-- The ASDUs of a savPdu, after its 8 bytes of APPID, length and reserved fields. -/
def asdusOf (l : List Byte) : Option (List Asdu) :=
  match tlvs 4 (l.drop 8) with
  | some [(0x60, pdu)] =>
    match tlvs 8 pdu with
    | none => none
    | some m => (m.find? fun e => e.1 == 0xA2).bind fun e => (tlvs 16 e.2).bind fun a => a.mapM fun x => if x.1 = 0x30 then asduOf x.2 else none
  | _ => none

/-- The feeders whose row names a frame: port, destination address, APPID. -/
def svFeeders (s : State) (port : Nat) (dst : List Byte) (appid : Nat) : List Nat :=
  (List.range 4).filter fun f => svFed s f && bit (s.cfg 0x2904 0x04 f) port && s.cfgBytes 0x2904 0x01 f == dst && s.cfg 0x2904 0x02 f == appid

/-- One sample of a feeder (R432). -/
def svSample (port f rate : Nat) (a : Asdu) (s : State) : State :=
  let x := tabGet SvSt.reset s.head.sv f
  let skipped := match x.lastCount with | some n => (a.count + rate - (n + 1) % rate) % rate | none => 0
  let s := if skipped = 0 then s else (s.bump 0x2922 0x03 f).addTo 0x2922 0x04 skipped f
  let s := if a.synch = x.synch then s else raise 0x2908 (le 1 f ++ le 1 a.synch) s
  let off := Q.add (Q.make a.count rate) (Q.make (s.cfgInt 0x2904 0x06 f) 1000000000000)
  let ingress := Q.sub (Q.make (s.ingressT96 port) (2 ^ 48)) (Q.ofInt s.delta)
  let sec_ := Q.floor (Q.sub ingress off)
  let utc := Q.add (Q.ofInt sec_) off
  let at_ := (Q.floor (Q.mul (Q.add utc (Q.ofInt s.delta)) (Q.ofNat (2 ^ 48)))).toNat
  let early := Q.le (Q.sub ingress utc) (Q.make (s.cfg 0x2904 0x07 f) 1000000)
  let ch := fun (k : Nat) =>
    let j := if k < 3 then k + 4 else k - 3
    let v := ofTwos 32 (beAt a.data (8 * j) 4)
    let q := beAt a.data (8 * j + 4) 4
    let y := Q.mul (if k < 3 then Q.make v 100 else Q.make v 1000) (s.cfgF 0x2904 0x05 f)
    (⟨at_, toF64 y, field q 1 0 == 0 && !bit q 11 && early, false⟩ : Wave)
  let s := if (List.range 6).all fun k => (ch k).valid then s else s.bump 0x2922 0x04 f
  let waves := (List.range 6).foldl (fun t k => putKey k ((ch k :: tabGet [] t k).take waveDepth) t) x.waves
  s.onHead fun h => { h with sv := putKey f { x with lastCount := some a.count, synch := a.synch, rate := rate, waves := waves, lastFrame := s.now } h.sv }

/-- A sampled-value frame from its APPID on: taken by every feeder it names; with no feeder, an unhandled EtherType (R98, R431). -/
def svFrame (port : Nat) (dst l : List Byte) (s : State) : State :=
  let rows := svFeeders s port dst (beAt l 0 2)
  let named := match asdusOf l with
    | some (a :: r) => rows.filter fun f => s.cfgBytes 0x2904 0x03 f == a.svId || r.any fun b => s.cfgBytes 0x2904 0x03 f == b.svId
    | _ => rows
  if named.isEmpty || !headRuns s then s.tally 0x2120 0x08 port
  else named.foldl (fun s f =>
    match asdusOf l with
    | some as_ =>
      let rate := if as_.length = 2 then 4800 else if as_.length = 6 then 14400 else 0
      if rate = 0 then s.bump 0x2922 0x05 f
      else
        let s := if s.ro 0x2922 0x01 f = 2 then s else raise 0x2907 (le 1 f ++ le 1 2) (s.setRow 0x2922 0x01 f 2)
        as_.foldl (fun s a => svSample port f rate a s) (s.bump 0x2922 0x02 f)
    | none => s.bump 0x2922 0x05 f) s

end Sys2Proof.Machine
end

