-- ==== Sys2Proof/Machine/Validate.lean ====
section
/-! DEFINITION. Validation of a configuration set (R543): every rule that refuses a set, evaluated on the state as it would be with that set
active.  Which object a failed relation is recorded under is the model's choice (assumption 22). -/

namespace Sys2Proof.Machine
open Sys2Proof

/-- A failure: object, row (`noRow` for none), reason, detail (R543). -/
structure Fail where
  idx : Nat
  sub : Nat
  row : Nat
  reason : Nat
  detail : Nat

/-- The 16 bytes of a failure entry. -/
def Fail.bytes (f : Fail) : List Byte :=
  be 2 f.idx ++ be 1 f.sub ++ be 1 f.reason ++ be 4 (if f.row = noRow then 0 else 2 ^ 31 + f.row) ++ be 4 f.detail ++ be 4 0

/-- Out of range (reason 0). -/
def failRange (idx sub row : Nat) : Fail := ⟨idx, sub, row, 0, 0⟩
/-- Not consistent with another object (reason 1). -/
def failWith (idx sub row oidx osub : Nat) : Fail := ⟨idx, sub, row, 1, (oidx * 256 + osub) * 256⟩
/-- A failure when a condition holds. -/
def failIf (c : Bool) (f : Fail) : List Fail := if c then [f] else []

/-! ### The state a set would make -/

/-- Partner rows whose live Enable is set. -/
def liveRows (s : State) : List Nat := (rowsOf s.live 0x2201 0x01).filter fun h => s.rw 0x2201 0x01 h == 1

/-- Partner rows a set configures. -/
def namedRows (d : Dict) : List Nat :=
  distinct ((d.filter fun e => e.1 / 0x100000000 == 0x2201).map fun e => e.1 % 0x1000000)

/-- The configuration a set gives a stream: the preloaded one under session mode 0 or transport 1, else the one in use. -/
def plannedCfg (s : State) (d : Dict) (h : Nat) : Option PartnerCfg :=
  let mode := (readIn d 0x2201 0x0B h).bits
  let l := (readIn d 0x2202 0x01 h).bytes
  if mode = 0 ∨ (readIn d 0x2201 0x03 h).bits = 1 then (if chkGood l then parseCfg l else none) else (s.stream h).cfg

/-- The device with a set active and the set's streams known; rows that are not enabled do not hide those that are. -/
def candidate (d : Dict) (s : State) : State :=
  let s := { s with active := d }
  let on := liveRows s
  let base := fun (h : Nat) => (signalBase s h, signalBase s h + capacityOf s h)
  let clash := fun (h : Nat) => on.any fun k => (base k).1 < (base h).2 && (base h).1 < (base k).2
  let rows := on ++ (namedRows d).filter fun h => !on.contains h && !clash h
  let put := fun (t : Tab Stream) (h : Nat) =>
    let c := plannedCfg s d h
    putKey h { Stream.reset with cfg := c, kinds := match c with | some x => x.kinds | none => [] } t
  let t := rows.foldl put []
  let t := (List.range 4).foldl (fun t l => putKey (firstLocal + l) { Stream.reset with kinds := (localCfg s l).kinds } t) t
  s.onIngest fun i => { i with streams := t }

/-- The group of the stream that holds a signal. -/
def signalGroup (v : State) (sig : Nat) : Option Nat := (ownerOf v sig).map (groupOf v)
/-- The kind of a signal where the set tells it: 0 phasor, 1 frequency, 2 ROCOF, 3 analog, 4 digital. -/
def signalKind (v : State) (sig : Nat) : Option Nat := (kindOf v sig).map (·.1)
/-- The signal's kind is known and is not the one wanted. -/
def wrongKind (v : State) (sig k : Nat) : Bool := match signalKind v sig with | some x => x != k | none => false
/-- The rate of a group. -/
def rateUnder (v : State) (g : Nat) : Int := v.cfgInt 0x2301 0x01 g
/-- A signal handle that names none. -/
def noSignal : Nat := 0xFFFFFFFF

/-! ### Ranges -/

/-- Every value lies in its object's range (R11, R517). -/
def checkRanges (d : Dict) : List Fail :=
  d.filterMap fun e =>
    let idx := e.1 / 0x100000000
    let sub := e.1 / 0x1000000 % 256
    let row := e.1 % 0x1000000
    match findObj idx sub with
    | some o => if inRange o e.2 && (o.rows == 0 || row < o.rows) then none else some (failRange idx sub row)
    | none => some (failRange idx sub row)

/-- Ranges that name another object. -/
def checkPairs (v : State) : List Fail :=
  let lomRows := fun (i n : Nat) => (List.range n).flatMap fun m =>
    failIf (v.cfgB i 0x01 m && !Q.lt Q.zero (v.cfgF i 0x02 m)) (failWith i 0x02 m i 0x01)
  let localRows := fun (i : Nat) => (List.range 16).flatMap fun r =>
    failIf (v.cfgB i 0x01 r && !Q.lt Q.zero (v.cfgF i 0x02 r)) (failWith i 0x02 r i 0x01) ++
    failIf (Q.lt (v.cfgF i 0x02 r) (v.cfgF i 0x03 r)) (failWith i 0x03 r i 0x02)
  (List.range 2).flatMap (fun n => failIf (v.cfg 0x1100 0x09 n == v.cfg 0x1100 0x0A n) (failWith 0x1100 0x0A n 0x1100 0x09)) ++
  lomRows 0x2620 4 ++ lomRows 0x2F41 4 ++ localRows 0x2530 ++ localRows 0x2F42 ++
  (List.range 16).flatMap (fun g => failIf (v.cfg 0x2703 0x09 g < v.cfg 0x2703 0x08 g) (failWith 0x2703 0x09 g 0x2703 0x08)) ++
  (List.range 4).flatMap (fun f =>
    failIf (v.rw 0x2901 0x01 f == 1 && !Q.lt Q.zero (v.cfgF 0x2901 0x03 f)) (failWith 0x2901 0x03 f 0x2901 0x01))

/-! ### Ports and partner streams -/

/-- Gate intervals, of every entry (R106). -/
def checkGates (v : State) : List Fail :=
  (List.range 8).flatMap fun p =>
    let least := if v.cfg 0x2102 0x02 p = 1 then 8 else 100
    ((rowsOf v.active 0x2103 0x02).filter fun r => r / 256 == p).flatMap fun r =>
      failIf (v.cfg 0x2103 0x02 r < least) (failWith 0x2103 0x02 r 0x2102 0x02)

/-- Interface, FEC, auto-negotiation, maximum frame and address of the ports (R89, R94, R132). -/
def checkPorts (v : State) : List Fail :=
  (List.range 8).flatMap (fun p =>
    let i := v.cfg 0x2100 0x02 p
    let fec := fecIn v.active p
    let m := v.cfg 0x2100 0x05 p
    let carries := if p = 4 ∨ p = 5 then [2, 3] else if p ≥ 6 then [1] else [0, 1]
    failIf (!carries.contains i) (failRange 0x2100 0x02 p) ++
    failIf (fec != 0 && (i != 1 || (p ≥ 6 && fec == 1))) (failWith 0x2100 0x03 p 0x2100 0x02) ++
    failIf (v.cfgB 0x2100 0x04 p && p != 4 && p != 5) (failRange 0x2100 0x04 p) ++
    failIf (!(m == 1518 || (1522 ≤ m && m ≤ 9216))) (failRange 0x2100 0x05 p)) ++
  (rowsOf v.active 0x2100 0x09).flatMap fun p => failIf (byteAt (v.cfgBytes 0x2100 0x09 p) 0 % 2 == 1) (failRange 0x2100 0x09 p)

/-- Blocks of signal handles and groups of rows (R135). -/
def checkBlocks (v : State) : List Fail :=
  let on := sortBy (fun a b => decide (signalBase v a ≤ signalBase v b)) (liveRows v)
  let clash := (on.zip (on.drop 1)).flatMap fun p =>
    failIf (decide (signalBase v p.2 < signalBase v p.1 + capacityOf v p.1)) (failWith 0x2201 0x09 p.2 0x2201 0x0A)
  let long := (namedRows v.active).flatMap fun h =>
    failIf (decide (h < firstLocal ∧ 5242880 < signalBase v h + capacityOf v h)) (failWith 0x2201 0x09 h 0x2201 0x0A)
  let rates := on.flatMap fun h => failIf (!isRate (rateUnder v (groupOf v h))) (failWith 0x2201 0x08 h 0x2301 0x01)
  clash ++ long ++ rates

/-- The failure that a failed test of R150 records. -/
def cfgFail (h test : Nat) : Fail :=
  let o := [(0, 0), (0x2201, 2), (0x2301, 1), (0x2010, 1), (0x2201, 0x0A), (0, 0)].getD test (0, 0)
  if o.1 = 0 then failRange 0x2202 1 h else failWith 0x2202 1 h o.1 o.2

/-- Preloaded configurations and session modes (R149, R165). -/
def checkSessions (v : State) : List Fail :=
  let loaded := (rowsOf v.active 0x2202 0x01).flatMap fun h =>
    match cfgFailure v.active h (v.cfgBytes 0x2202 0x01 h) with | some t => [cfgFail h t] | none => []
  let empty := (liveRows v).flatMap fun h =>
    failIf ((v.cfg 0x2201 0x0B h == 0 || v.cfg 0x2201 0x03 h == 1) && (v.cfgBytes 0x2202 0x01 h).isEmpty) (failWith 0x2202 1 h 0x2201 0x0B)
  let modes := (rowsOf v.active 0x2201 0x03).flatMap fun h =>
    failIf (v.cfg 0x2201 0x03 h == 1 && v.cfg 0x2201 0x0B h != 0) (failWith 0x2201 0x0B h 0x2201 0x03)
  loaded ++ empty ++ modes

/-- Admission of the enabled rows (R172). -/
def checkAdmission (s v : State) : List Fail :=
  match admissionTest v.active (admissionLimit s) (liveRows v) with
  | some r => [⟨0x2201, 0x0A, noRow, 2, r⟩]
  | none => []

/-- Groups (R184, R197). -/
def checkGroups (v : State) : List Fail :=
  failIf (rateUnder v 0 == 0) (failRange 0x2301 1 0) ++
  (List.range 64).flatMap fun g =>
    failIf (decide (64 * v.fnom * v.cfg 0x2301 0x02 g ≤ 1000 * v.cfg 0x2304 0x03 g)) (failWith 0x2304 3 g 0x2301 2)

/-! ### Placement -/

/-- The declared load of the streams of a hint, signal-samples per second (R168). -/
def hintLoad (v : State) (a b : Nat) : Q := (needAll v.active ((List.range (b + 1 - a)).map (a + ·))).samples

/-- Hints and watermarks (R242, R243, R249). -/
def checkHints (v : State) : List Fail :=
  let rows := rowsOf v.active 0x2402 0x01
  let span := fun (r : Nat) => (v.cfg 0x2402 0x02 r, v.cfg 0x2402 0x03 r)
  let kind := fun (r : Nat) => v.cfg 0x2402 0x01 r
  let shared := fun (a b : Nat × Nat) => Nat.min a.2 b.2 + 1 - Nat.max a.1 b.1
  let own := rows.flatMap fun r =>
    let (a, b) := span r
    failIf (decide (b < a)) (failWith 0x2402 3 r 0x2402 2) ++
    failIf (kind r == 1 && (b + 1 - a > 320 || Q.lt (Q.ofNat 4375000) (hintLoad v a b))) ⟨0x2402, 1, r, 3, 0⟩ ++
    failIf (kind r == 2 && b + 1 - a > 64) ⟨0x2402, 1, r, 3, 0⟩ ++
    failIf (kind r == 3 && v.cfg 0x2402 0x04 r > 15) (failWith 0x2402 4 r 0x2402 1)
  let cross := rows.flatMap fun r =>
    failIf (rows.any fun q =>
      (kind q == 1 && kind r == 1 && q < r && shared (span q) (span r) ≥ 1) ||
      (kind q == 1 && kind r == 2 && shared (span q) (span r) ≥ 2)) (failWith 0x2402 2 r 0x2402 2)
  own ++ cross ++ failIf (decide (v.cfg 0x2400 0x02 ≤ v.cfg 0x2400 0x03)) (failWith 0x2400 3 noRow 0x2400 2)

/-! ### Eddy and Oxbow -/

/-- Bands a mask names. -/
def maskBands (m : Nat) : List Nat := (List.range 4).filter (bit m)

/-- Band detectors, the mode meter and branches (R31, R269, R277, R282, R295). -/
def checkEddy (v : State) : List Fail :=
  let rows := rowsOf v.active 0x2501 0x01
  let one := rows.flatMap fun r =>
    match signalGroup v (v.cfg 0x2501 0x01 r) with
    | none => [failWith 0x2501 1 r 0x2201 9]
    | some g => failIf ((maskBands (v.cfg 0x2501 0x03 r)).any fun b => !bandAvailable (rateUnder v g) b) (failWith 0x2501 3 r 0x2301 1)
  let load := rows.foldl (fun q r =>
    match signalGroup v (v.cfg 0x2501 0x01 r) with
    | some g => if rateUnder v g = 0 then q else Q.add q (Q.mul (Q.ofNat (maskBands (v.cfg 0x2501 0x03 r)).length) (rateQ (rateUnder v g)))
    | none => q) Q.zero
  let profiles := (distinct (rowsOf v.active 0x2502 0x01 ++ rowsOf v.active 0x2502 0x02)).flatMap fun p =>
    failIf (Q.lt (v.cfgF 0x2502 0x01 p) (v.cfgF 0x2502 0x02 p)) (failWith 0x2502 2 p 0x2502 1)
  let mg := v.cfg 0x2510 0x02
  let inMode := fun (sig : Nat) => signalGroup v sig == some mg
  let sel := rowsOf v.active 0x2511 0x01
  let sigs := sel.map fun r => v.cfg 0x2511 0x01 r
  let refs := (sel.filter fun r => v.cfgB 0x2511 0x03 r).length
  let twice := (List.range sel.length).flatMap fun k =>
    failIf ((sigs.take k).contains (sigs.getD k 0)) (failWith 0x2511 1 (sel.getD k 0) 0x2511 1)
  let outside := sel.flatMap fun r => failIf (!inMode (v.cfg 0x2511 0x01 r)) (failWith 0x2511 1 r 0x2510 2)
  let meter := if v.cfgB 0x2510 0x01 then
      failIf (!([10, 20, 30, 50, 60, 100, 120, 200, 240] : List Int).contains (rateUnder v mg)) (failWith 0x2510 2 noRow 0x2301 1) ++
      failIf (refs == 0 || refs > 64) (failWith 0x2510 1 noRow 0x2511 3) ++
      failIf (v.cfg 0x2510 0x04 % 2 == 1 || v.cfg 0x2510 0x04 > refs * v.cfg 0x2510 0x03) (failWith 0x2510 4 noRow 0x2510 3) ++
      failIf (!sel.contains (v.cfg 0x2510 0x0A)) (failWith 0x2510 0x0A noRow 0x2511 1)
    else []
  let branches := (rowsOf v.active 0x2519 0x01).flatMap fun n =>
    failIf (!inMode (v.cfg 0x2519 0x01 n)) (failWith 0x2519 1 n 0x2510 2) ++
    failIf (!inMode (v.cfg 0x2519 0x02 n)) (failWith 0x2519 2 n 0x2510 2)
  one ++ failIf (Q.lt (Q.ofNat 268435456) load) ⟨0x2501, 3, noRow, 3, 0⟩ ++ profiles ++ twice ++ outside ++ meter ++ branches

/-- A signal lies in a stream's block. -/
def inBlock (v : State) (h sig : Nat) : Bool := signalBase v h ≤ sig && sig < signalBase v h + capacityOf v h

/-- The topology (R312) and its profiles (R318). -/
def checkOxbow (v : State) : List Fail :=
  let nodes := rowsOf v.active 0x2601 0x01
  let field := fun (n sub kind : Nat) =>
    let sig := v.cfg 0x2601 sub n
    failIf (sig != noSignal && (!inBlock v n sig || wrongKind v sig kind)) (failWith 0x2601 sub n 0x2201 9)
  let one := nodes.flatMap fun n => field n 1 0 ++ field n 2 1 ++ field n 3 2
  let edges := (rowsOf v.active 0x2602 0x01).flatMap fun e =>
    let a := v.cfg 0x2602 0x01 e
    let b := v.cfg 0x2602 0x02 e
    let sig := v.cfg 0x2602 0x04 e
    failIf (!nodes.contains a) (failWith 0x2602 1 e 0x2601 1) ++
    failIf (!nodes.contains b || a == b) (failWith 0x2602 2 e 0x2601 1) ++
    failIf (groupOf v a != groupOf v b) (failWith 0x2602 2 e 0x2201 8) ++
    failIf (sig != noSignal && (!(inBlock v a sig || inBlock v b sig) || wrongKind v sig 4)) (failWith 0x2602 4 e 0x2201 9) ++
    failIf (v.cfg 0x2602 0x05 e > 15) (failRange 0x2602 5 e)
  let anchors := (rowsOf v.active 0x2603 0x01).flatMap fun g =>
    let n := v.cfg 0x2603 0x01 g
    failIf (!nodes.contains n || groupOf v n != g) (failWith 0x2603 1 g 0x2601 1)
  let profiles := (List.range 16).flatMap fun p =>
    failIf (Q.lt (v.cfgF 0x2604 0x01 p) (v.cfgF 0x2604 0x02 p)) (failWith 0x2604 2 p 0x2604 1)
  failIf (nodes.length > 20480) ⟨0x2601, 1, noRow, 3, 0⟩ ++ one ++ edges ++ anchors ++ profiles

/-! ### Alarm rules -/

/-- Bits of a number below n. -/
def bitsOf (n m : Nat) : List Nat := (List.range n).filter (bit m)

/-- A combiner of R349. -/
def combinerGood (c : Nat) : Bool :=
  let terms := field c 7 0
  let inhibit := field c 15 8
  let n := (bitsOf 8 terms).length - (bitsOf 8 inhibit).length
  let k := field c 27 24
  terms != 0 && (bitsOf 8 inhibit).all (bit terms) && inhibit != terms && field c 17 16 != 3 && field c 31 28 == 0 && field c 23 18 == 0 &&
  (field c 17 16 != 2 || (1 ≤ k && k ≤ n))

/-- The group a slot term cites, as far as it cites one: none when it lies in none (R345, R348). -/
def termGroup (v : State) (n : Nat) : Option Nat :=
  let a := v.cfg 0x2702 0x02 n
  match v.cfg 0x2702 0x01 n with
  | 1 => signalGroup v (v.cfg 0x2501 0x01 a)
  | 2 => signalGroup v (v.cfg 0x2501 0x01 a)
  | 4 => signalGroup v a
  | 5 => some a
  | 6 => some a
  | 7 => if v.cfg 0x2602 0x01 a = 0xFFFF then none else some (groupOf v (v.cfg 0x2602 0x01 a))
  | 8 => some (v.cfg 0x2701 0x03 a)
  | _ => none

/-- Rules and datasets (R348); a rule that is not enabled is not checked. -/
def checkRules (v : State) : List Fail :=
  let rules := (rowsOf v.active 0x2701 0x01).filter fun r => v.cfgB 0x2701 0x01 r
  let one := rules.flatMap fun r =>
    let g := v.cfg 0x2701 0x03 r
    let terms := (bitsOf 8 (field (v.cfg 0x2701 0x02 r) 7 0)).map (8 * r + ·)
    let slotTerms := terms.filter fun n => [1, 2, 4, 5, 6, 7, 8].contains (v.cfg 0x2702 0x01 n)
    let bad := slotTerms.flatMap fun n =>
      if g = 0xFF then [failWith 0x2702 1 n 0x2701 3]
      else failIf (termGroup v n != some g || (v.cfg 0x2702 0x01 n == 8 && v.cfg 0x2702 0x02 n ≥ r)) (failWith 0x2702 2 n 0x2701 3)
    let pins := failIf ((bitsOf 8 (v.cfg 0x2701 0x07 r)).any fun p => v.cfg 0x2700 0x01 p == 1) (failWith 0x2701 7 r 0x2700 1)
    let d := v.cfg 0x2701 0x0A r
    let owner := failIf (d != 0xFF && v.cfg 0x2703 0x01 d == 1) (failWith 0x2701 0x0A r 0x2703 1)
    let twin := failIf (d != 0xFF && rules.any fun q =>
      q < r && v.cfg 0x2701 0x0A q == d && v.cfg 0x2701 0x0B q == v.cfg 0x2701 0x0B r) (failWith 0x2701 0x0B r 0x2701 0x0B)
    failIf (!combinerGood (v.cfg 0x2701 0x02 r)) (failRange 0x2701 2 r) ++ bad ++ pins ++ owner ++ twin
  one

/-! ### Output streams -/

/-- Bytes a UDP payload takes on a port of a pair, from preamble to gap, fragments included (R382). -/
def wireBytes (v : State) (p : Nat) (dst payload : List Byte) : Nat :=
  let src := ownAddress v p dst
  let prp := if prpMode v (p / 2) = 0 then 0 else 6
  let tag := (tagOf v p 5).length
  ((ipPackets src dst 17 (ipMtu v p) 0 (udpBytes src dst 0 0 payload)).map fun l => Nat.max 64 (14 + tag + l.length + prp + 4) + 20).foldl (· + ·) 0

/-- The payload of a data frame of an output row, for its length. -/
def outPayload (v : State) (o : Nat) : List Byte :=
  let x := outStream v v.active o
  if v.cfg 0x2801 0x02 o = 2 then spduMessage v v.active o 0 (frameFields v x false fun _ => 0) ++ List.replicate 18 0
  else dataFrame v x x.rate 0 false fun _ => 0

/-- Picoseconds per second that a pair's subscribers take on a port. -/
def pairLoad (v : State) (p : Nat) : Q :=
  (rowsOf v.active 0x2803 0x01).foldl (fun q r =>
    let o := v.cfg 0x2803 0x01 r
    if v.cfg 0x2803 0x02 r = p / 2 && v.cfg 0x2801 0x01 o != 0 && v.cfgInt 0x2801 0x05 o != 0 then
      Q.add q (Q.mul (rateQ (v.cfgInt 0x2801 0x05 o))
        (Q.ofNat (wireBytes v p (v.cfgBytes 0x2803 0x03 r) (outPayload v o) * bytePs (v.cfg 0x2100 0x02 p))))
    else q) Q.zero

/-- One rate divides another into a whole number of frames. -/
def rateDivides (outRate rate : Int) : Bool :=
  outRate != 0 && rate != 0 && isRate outRate && (Q.div (rateQ rate) (rateQ outRate)).den == 1

/-- Output streams and subscribers (R376, R382, R384). -/
def checkOutputs (v : State) : List Fail :=
  let rows := rowsOf v.active 0x2801 0x01
  let one := rows.flatMap fun o =>
    let src := v.cfg 0x2801 0x04 o
    let rate := v.cfgInt 0x2801 0x05 o
    if v.cfg 0x2801 0x01 o = 1 then
      let inGroup := fun (sig : Nat) => signalGroup v sig == some src
      failIf (src > 63) (failWith 0x2801 4 o 0x2801 1) ++
      failIf (!inGroup (v.cfg 0x2801 0x07 o)) (failWith 0x2801 7 o 0x2801 4) ++
      failIf (!inGroup (v.cfg 0x2801 0x08 o)) (failWith 0x2801 8 o 0x2801 4) ++
      failIf (!rateDivides rate (rateUnder v src)) (failWith 0x2801 5 o 0x2301 1) ++
      ((rowsOf v.active 0x2802 0x01).filter fun k => k / 4096 == o).flatMap fun k =>
        failIf (!inGroup (v.cfg 0x2802 0x01 k)) (failWith 0x2802 1 k 0x2801 4)
    else
      failIf (src < firstLocal) (failWith 0x2801 4 o 0x2801 1) ++
      failIf (rate != rateUnder v (v.cfg 0x2910 0x02 (src - firstLocal))) (failWith 0x2801 5 o 0x2910 2)
  let twins := rows.flatMap fun o =>
    failIf (rows.any fun q => q < o && v.cfg 0x2801 0x03 q == v.cfg 0x2801 0x03 o) (failWith 0x2801 3 o 0x2801 3)
  let members := ((rowsOf v.active 0x2802 0x01).filter fun k => rows.contains (k / 4096)).length
  let subs := (rowsOf v.active 0x2803 0x01).flatMap fun r =>
    let o := v.cfg 0x2803 0x01 r
    failIf (v.cfg 0x2803 0x02 r == 2 && v.cfg 0x2801 0x01 o != 2) (failWith 0x2803 2 r 0x2801 1) ++
    failIf (v.cfg 0x2803 0x05 r == 1 && v.cfg 0x2801 0x02 o == 2) (failWith 0x2803 5 r 0x2801 2)
  let loads := (List.range 3).flatMap fun k =>
    failIf (Q.lt (Q.ofNat 800000000000) (Q.max (pairLoad v (2 * k)) (pairLoad v (2 * k + 1)))) ⟨0x2803, 2, noRow, 3, 0⟩
  one ++ twins ++ failIf (members > 4096) ⟨0x2802, 1, noRow, 3, 0⟩ ++ subs ++ loads

/-! ### Headwater, capture, energy, jobs, management, Shepherd, keys -/

/-- Feeders, local streams and the reference (R404, R429, R433). -/
def checkHeadwater (v : State) : List Fail :=
  (List.range 4).flatMap (fun f =>
    failIf (decide (v.cfg 0x2901 0x05 f + 40000 < v.cfg 0x2901 0x06 f)) (failWith 0x2901 6 f 0x2901 5) ++
    let r := rateUnder v (v.cfg 0x2910 0x02 f)
    let n := if r = 0 then Q.one else Q.mul (periodQ r) (Q.ofNat (4 * v.fnom))
    failIf (n.den != 1 || Q.lt n Q.one) (failWith 0x2910 2 f 0x2301 1)) ++
  failIf (v.cfg 0x2010 0x02 == 0 && v.cfg 0x2901 0x02 (v.cfg 0x2010 0x03) == 1) (failWith 0x2010 3 noRow 0x2901 2)

/-- Capture lengths (R452). -/
def checkCapture (v : State) : List Fail :=
  let pre := v.cfg 0x2A00 0x02
  let post := v.cfg 0x2A00 0x03
  let max := v.cfg 0x2A00 0x05
  failIf (pre > 163840) (failRange 0x2A00 2 noRow) ++ failIf (pre + max > 4800000) (failWith 0x2A00 5 noRow 0x2A00 2) ++
  failIf (post == 0 || post > max) (failWith 0x2A00 3 noRow 0x2A00 5)

/-- Sensor tables (R480). -/
def checkTables (v : State) : List Fail :=
  (distinct ((rowsOf v.active 0x2B03 0x01).map (· / 16))).flatMap fun c =>
    (List.range 15).flatMap fun j =>
      failIf (Q.le (v.cfgF 0x2B03 0x01 (16 * c + j + 1)) (v.cfgF 0x2B03 0x01 (16 * c + j))) (failWith 0x2B03 1 (16 * c + j + 1) 0x2B03 1)

/-- The fields of a job row. -/
def jobFields : List Nat := [2, 3, 4, 5, 6, 0x0B, 0x0C, 0x0D, 0x0E]

/-- Jobs (R501, R502). -/
def checkJobs (v : State) : List Fail :=
  let rows := (distinct ((v.active.filter fun e => e.1 / 0x100000000 == 0x2C01).map fun e => e.1 % 0x1000000)).filter (· < 3840)
  rows.flatMap fun j =>
    let kind := v.cfg 0x2C01 0x01 j
    let period := v.cfg 0x2C01 0x04 j
    let input := fun (k : Nat) => v.cfg 0x2C02 0x01 (8 * j + k)
    let periodGood := if v.cfg 0x2C01 0x03 j = 0 then 1 ≤ period && period ≤ 1048576 else 100 ≤ period && period ≤ 4000000000
    let used := (List.range 8).filter fun k => input k != noSignal
    if kind = 0 then
      failIf (jobFields.any fun f => decide (readIn v.active 0x2C01 f j ≠ defaultOf 0x2C01 f j)) (failRange 0x2C01 1 j)
    else
      failIf (kind > 6) (failRange 0x2C01 1 j) ++ failIf (v.cfg 0x2C01 0x02 j > 11) (failRange 0x2C01 2 j) ++
      failIf (v.cfg 0x2C01 0x06 j == 0) (failRange 0x2C01 6 j) ++ failIf (!periodGood) (failWith 0x2C01 4 j 0x2C01 3) ++
      failIf (decide (period ≤ v.cfg 0x2C01 0x05 j)) (failWith 0x2C01 5 j 0x2C01 4) ++
      (if kind = 2 ∨ kind = 3 then
        let need := if kind = 2 then [0, 1] else used
        need.flatMap fun k =>
          failIf (input k == noSignal || (ownerOf v (input k)).isNone || wrongKind v (input k) 0) (failWith 0x2C02 1 (8 * j + k) 0x2C01 1)
       else if kind = 6 then
        used.flatMap fun k =>
          failIf (input k == j || (input k < 3840 && v.cfg 0x2C01 0x01 (input k) == 0)) (failWith 0x2C02 1 (8 * j + k) 0x2C01 1)
       else [])

/-- The scan list and the warning limits (R582, R585). -/
def checkHousekeeping (v : State) : List Fail :=
  let rows := (List.range 32).filter fun n => v.cfg 0x2E02 0x01 n != 0xFF
  let total := rows.foldl (fun a n => a + v.cfg 0x2E02 0x02 n) 0
  let twice := rows.flatMap fun n => failIf (rows.any fun m => m < n && v.cfg 0x2E02 0x01 m == v.cfg 0x2E02 0x01 n) (failWith 0x2E02 1 n 0x2E02 1)
  let limits := (List.range 24).flatMap fun c =>
    failIf (Q.le (v.cfgF 0x2E03 0x09 c) (v.cfgF 0x2E03 0x08 c)) (failWith 0x2E03 8 c 0x2E03 9) ++
    failIf (Q.lt (v.cfgF 0x2E03 0x0A c) Q.zero) (failRange 0x2E03 0x0A c)
  failIf (decide (900 * v.cfg 0x2E01 0x02 < total)) (failWith 0x2E02 2 noRow 0x2E01 2) ++ twice ++ limits

/-- Shepherd's pins and datasets (R635). -/
def checkShepherd (v : State) : List Fail :=
  (List.range 8).flatMap (fun p =>
    failIf (v.cfg 0x2700 0x01 p == 0 && v.cfg 0x2F43 0x01 p != 0) (failWith 0x2F43 1 p 0x2700 1) ++
    failIf (v.cfg 0x2700 0x01 p == 0 && v.cfg 0x2F43 0x02 p != 0) (failWith 0x2F43 2 p 0x2700 1)) ++
  (rowsOf v.active 0x2F44 0x01).flatMap (fun n => failIf (v.cfg 0x2703 0x01 (n / 32) != 1) (failWith 0x2F44 1 n 0x2703 1)) ++
  (List.range 16).flatMap fun d =>
    failIf (v.cfg 0x2703 0x01 d == 1 && (bitsOf 8 (v.cfg 0x2703 0x0A d)).any fun p => p != 4 && p != 5) (failWith 0x2703 0x0A d 0x2703 1)

/-- Key handles (R655). -/
def checkKeys (s v : State) : List Fail :=
  let named := keyNames.flatMap fun o => (rowsOf v.active o.1 o.2.1).flatMap fun r =>
    match blobOf s.keys (v.cfg o.1 o.2.1 r) with
    | some b => failIf (!o.2.2.contains b.usage) (failWith o.1 o.2.1 r 0x3020 2)
    | none => []
  failIf ((namedHandles v.active).length > 256) ⟨0x1100, 0x0B, noRow, 3, 0⟩ ++ named

/-! ### The set image (R548) -/

/-- The type code of an object in dictionary images (R517). -/
def Ty.code : Ty → Nat
  | .cmd => 0 | .bool => 0x01 | .u8 => 0x02 | .u16 => 0x03 | .u32 => 0x04 | .u64 => 0x05 | .i16 => 0x06 | .i32 => 0x07 | .i64 => 0x08
  | .f32 => 0x09 | .f64 => 0x0A | .t96 => 0x0B | .gat => 0x0C | .octets => 0x0D | .string => 0x0E | .domain => 0x10

/-- A value's bytes in network byte order (R517). -/
def valueBytes (ty : Ty) (v : Val) : List Byte :=
  match ty with
  | .octets => v.bytes
  | .string => v.bytes
  | .domain => v.bytes
  | .bool => be 1 v.bits
  | t => be (t.width / 8) v.bits

/-- The bytes of a value in a set image. -/
def imageValue (ty : Ty) (v : Val) : List Byte :=
  let b := valueBytes ty v
  match ty with
  | .octets => be 4 b.length ++ b
  | .string => be 4 b.length ++ b
  | .domain => be 4 b.length ++ b
  | _ => b

/-- The first maximal run of entries of consecutive rows of one object, and the entries after it. -/
def takeRun : Nat → Dict → Dict × Dict
  | _, [] => ([], [])
  | k, e :: l => if e.1 = k ∧ k % 0x1000000 ≠ noRow then let (a, b) := takeRun (k + 1) l; (e :: a, b) else ([], e :: l)

/-- The records of a set image. -/
def imageRecords : Nat → Dict → List Byte
  | 0, _ => []
  | _ + 1, [] => []
  | fuel + 1, e :: l =>
    let idx := e.1 / 0x100000000
    let sub := e.1 / 0x1000000 % 256
    let row := e.1 % 0x1000000
    let ty := match findObj idx sub with | some o => o.ty | none => .domain
    let (run, rest) := if row = noRow then ([], l) else takeRun (e.1 + 1) l
    let all := e :: run
    be 2 idx ++ be 1 sub ++ be 1 ty.code ++ be 4 (if row = noRow then 0xFFFFFFFF else row) ++ be 4 all.length ++
      all.flatMap (fun x => imageValue ty x.2) ++ imageRecords fuel rest

/-- The image of a set: its label, then its records. -/
def setImage (d : Dict) : List Byte :=
  be 4 (readIn d 0x1200 0x01 noRow).bits ++ imageRecords (d.length + 1) (d.filter fun e => e.1 != okey 0x1200 0x01 noRow)

/-- The set hash. -/
def setHash (d : Dict) : List Byte := Config.sha384 (setImage d)

/-! ### The whole -/

/-- Failures in increasing index, subindex and row. -/
def sortFails (l : List Fail) : List Fail :=
  sortBy (fun a b => decide (okey a.idx a.sub a.row ≤ okey b.idx b.sub b.row)) l

/-- Validate a set against the device's present capacity (R543). -/
def validateSet (d : Dict) (s : State) : List Fail :=
  let v := candidate d s
  sortFails (checkRanges d ++ checkPairs v ++ checkGates v ++ checkPorts v ++ checkBlocks v ++ checkSessions v ++ checkAdmission s v ++ checkGroups v ++
    checkHints v ++ checkEddy v ++ checkOxbow v ++ checkRules v ++ checkOutputs v ++ checkHeadwater v ++ checkCapture v ++ checkTables v ++
    checkJobs v ++ checkHousekeeping v ++ checkShepherd v ++ checkKeys s v ++
    failIf (decide (12 * 1024 * 1024 < (setImage d).length)) ⟨0x1200, 1, noRow, 4, 0⟩)

/-- Failures that refuse a set loaded at START: all but those of admission (R549). -/
def refusesStart (l : List Fail) : Bool := l.any fun f => f.reason != 2

end Sys2Proof.Machine
end

