-- ==== Sys2Proof/Machine/Sets.lean ====
section
/-! DEFINITION. Configuration sets: validation, swap, cancel and sync (R540–R548, R684, R723, R724), and what each chapter does at a swap. -/

namespace Sys2Proof.Machine
open Sys2Proof

/-! ### What each chapter does at a swap -/

/-- Eddy (R305): rows whose handle or kind changes, and bands new in a mask, start again with the slots from the swap on. -/
def eddySwap (before : Dict) (at_ : Nat) (s : State) : State :=
  let fresh := (rowsChanged before s.active 0x2501).flatMap fun r =>
    let whole := differs before s.active 0x2501 0x01 r || differs before s.active 0x2501 0x02 r
    ((List.range 4).filter fun b => bit (s.cfg 0x2501 0x03 r) b && (whole || !bit (inSet before 0x2501 0x03 r) b)).map (4 * r + ·)
  let s := s.onEddy fun e => { e with bands := fresh.foldl (fun t k => putKey k { (tabGet Band.reset e.bands k).again with notBefore := at_ } t)
                                        (e.bands.filter fun b => bit (s.cfg 0x2501 0x03 (b.1 / 4)) (b.1 % 4)) }
  let s := scrubLogs (scrubBands fresh) s
  let meter := differs before s.active 0x2500 0x01 noRow || differs before s.active 0x2510 0x01 noRow ||
    differs before s.active 0x2510 0x02 noRow || differs before s.active 0x2510 0x03 noRow ||
    entriesOf before 0x2511 != entriesOf s.active 0x2511
  let s := if meter && s.running then resetMode 0 s else s
  let restart := [1, 2, 3, 4].any (fun i => differs before s.active 0x2518 i noRow) || entriesOf before 0x2519 != entriesOf s.active 0x2519
  if restart then restartLocation s else s

/-- Oxbow and loss of mains (R338); changed rows of a group restart at its first slot from the swap on (`takeOxSwap`). -/
def oxbowSwap (before : Dict) (s : State) : State :=
  let s := (s.oxbow.groups.map (·.1)).foldl (fun s g => if oxbowOn s g then s else oxbowStop g s) s
  (rowsChanged before s.active 0x2620).foldl (fun s m =>
    if m < 4 then (s.setLom m { s.lom m with operated := 0, counts := [] }).setRow 0x2621 0x01 m 0 else s) s

/-- The alarm rules (R371). -/
def alarmSwap (before : Dict) (at_ : Nat) (s : State) : State :=
  let rules := sortNat (distinct (rowsChanged before s.active 0x2701 ++ (rowsChanged before s.active 0x2702).map (· / 8)))
  if !s.running || rules.isEmpty then s
  else
    let s := rules.foldl (fun s r => resetRule r at_ s) s
    raise 0x2709 (le 2 rules.length) (scrubLogs (fun u => { u with tracks := u.tracks.filter fun e => !rules.contains e.1 }) s)

/-- Headwater (R417, R435). -/
def headSwap (before : Dict) (s : State) : State :=
  let s := if differs before s.active 0x2900 0x01 noRow then (if s.cfgB 0x2900 0x01 then headStart s else headStop s) else s
  let s := (List.range 4).foldl (fun s f =>
    if [2, 5, 6, 7, 8].any fun i => differs before s.active 0x2901 i f then feederRestart f s else s) s
  (List.range 4).foldl (fun s l => if [2, 3].any fun i => differs before s.active 0x2910 i l then localRestart l s else s) s

/-- Capture and the Leash (R470). -/
def captureSwap (before : Dict) (s : State) : State :=
  let rows := rowsChanged before s.active 0x2A02
  let s := s.onCapture fun c => { c with arms := c.arms.filter fun e => !rows.contains e.1 }
  if entriesOf before 0x2A10 != entriesOf s.active 0x2A10 then leashStart s else s

/-- The energy engine (R486, R495): a change of metering or of D. -/
def energySwap (s : State) : State :=
  (List.range 4).foldl (fun s f =>
    let s := meterState f s
    if s.time.isSet && (s.meter f).metering then followInterval f s.t96 s else s) s

/-- The wide-area ring (R391): its enable, or its length. -/
def ringSwap (before : Dict) (s : State) : State :=
  if !s.running then s else if differs before s.active 0x2820 0x01 noRow then ringStart s else ringResize s

/-- Archiving starts when a swap sets 0x2810:01 (R390). -/
def archiveSwap (before : Dict) (s : State) : State :=
  if s.cfgB 0x2810 0x01 && inSet before 0x2810 0x01 noRow == 0 then archiveStart 1 s else s

/-- A swap that changes 0x2001:0E begins the configured offset anew; a new disagreement with the PTP source's is reported (R54, R55). -/
def timeSwap (before : Dict) (s : State) : State :=
  reportDelta (if differs before s.active 0x2001 0x0E noRow then s.onTime fun x => { x with leapApplied := 0 } else s)

/-- Every chapter's rules of a swap, at instant `at_` (T96); `before` is the set that was active. -/
def swapEffects (before : Dict) (at_ : Nat) (s : State) : State :=
  let s := lanesSwap (alignSwap at_ (ingestSwap before at_ (publishSwap before at_ s)))
  let s := alarmSwap before at_ (oxbowSwap before (eddySwap before at_ s))
  let s := jobsSwap before (energySwap (captureSwap before (headSwap before s)))
  let s := resetThresholds (stageGates false (applyHolds s))
  let s := (List.range 3).foldl (fun s k => updatePair k s) s
  timeSwap before (archiveSwap before (fillCache (ringSwap before (shepherdSwap s))))

/-! ### Shadow state -/

/-- 0x1200:06 (R541): 0 EQUAL, 1 EDITED, 2 VALIDATING, 3 VALID, 4 INVALID, 5 SWAP_PENDING, 6 PREVIOUS. -/
def shadowState (s : State) : Nat := s.ro 0x1200 0x06
def setShadowState (n : Nat) (s : State) : State := s.setRo 0x1200 0x06 n
/-- VALIDATING or SWAP_PENDING: the shadow is not to be changed (R542). -/
def shadowBusy (s : State) : Bool := shadowState s == 2 || shadowState s == 5
/-- 0x1200:05 advances (R541). -/
def nextGeneration (s : State) : State := s.bump 0x1200 0x05

/-- The shadow has been written (R540, R541): EDITED, one generation on. -/
def shadowEdited (s : State) : State := nextGeneration (setShadowState 1 s)

/-- T96 as shown: 0 while it is unset. -/
def shownT96 (s : State) : Nat := if s.time.isSet then s.t96 else 0

/-! ### Validation -/

/-- Validation begins (R543): outcome 3 until it ends. -/
def beginValidation (s : State) : State :=
  let s := s.onSets fun x => { x with lastOutcome := if s.ro 0x1202 0x01 = 3 then x.lastOutcome else s.ro 0x1202 0x01 }
  (setShadowState 2 s).setRo 0x1202 0x01 3

/-- Validation is abandoned: the outcome before it stands again. -/
def abandonValidation (s : State) : State := if s.ro 0x1202 0x01 = 3 then s.setRo 0x1202 0x01 s.sets.lastOutcome else s

/-- Record the result of a validation in 0x1202, with the first 64 failures. -/
def recordValidation (fails : List Fail) (s : State) : State :=
  let s := ((s.setRo 0x1202 0x01 (if fails.isEmpty then 1 else 2)).setRo 0x1202 0x02 fails.length).setRo 0x1202 0x03 (shownT96 s)
  let s := s.clearObjects [(0x1202, 4)]
  (((fails.take 64).map Fail.bytes).zip (List.range 64)).foldl (fun s p => s.setRoBytes 0x1202 0x04 p.1 p.2) s

/-- Validate the shadow (R543, R724): result, event, and the image written when it passes; a swap's validation unparks (R258). -/
def validateShadow (s : State) : State × Bool :=
  let fails := validateSet s.shadow s
  let s := recordValidation fails s
  match fails with
  | [] => ((raise 0x1201 (le 4 (s.ro 0x1200 0x05)) s).onSets fun x => { x with validImage := some s.shadow }, true)
  | f :: _ => (raise 0x1202 (le 4 fails.length ++ (f.bytes).take 12) (s.bump 0x1210 0x03), false)

/-! ### Cancelling (R547) -/

/-- The event of a cancelled swap, counted. -/
def swapCancelled (cause : Nat) (s : State) : State := raise 0x1205 (le 1 cause) (s.bump 0x1210 0x02)

/-- Payload of a type-8 frame: kind 0 image segment, 1 validated, 2 invalid, 3 swap pending, 4 cancelled (assumption 20). -/
def swapFrame (kind : Nat) (l : List Byte) (s : State) : State := sendMirror false 8 (be 1 kind ++ l) s

/-- Put an end to a pending swap without its event: SWAP_PENDING becomes VALID, a running validation gives back the state before. -/
def dropSwap (s : State) : State :=
  match s.sets.swap with
  | none => s
  | some w =>
    let s := setShadowState (if w.validated then 3 else w.before) (abandonValidation s)
    let s := if leads s then swapFrame 4 [] s else s
    (s.onSets fun x => { x with swap := none }).onDuplex fun d => { d with swapAckUntil := none }

/-- Cancel the pending swap. -/
def cancelSwap (cause : Nat) (s : State) : State := if s.sets.swap.isSome then swapCancelled cause (dropSwap s) else s

/-- A validation under 0x1201:01 is abandoned (R577). -/
def dropValidation (s : State) : State :=
  match s.sets.validating with
  | some b => setShadowState b (abandonValidation (s.onSets fun x => { x with validating := none }))
  | none => s

/-! ### The swap -/

/-- The T96 at which a swap's target is reached, as far as it can be told now. -/
def swapTarget (w : Swap) (s : State) : Nat := if w.base = 1 then w.target else if w.base = 2 then gatInstant s (w.target * 2 ^ 32) else 0

/-- The target has been reached (R545). -/
def targetReached (w : Swap) (s : State) : Bool :=
  if w.base = 1 then s.time.isSet && w.target ≤ s.t96
  else if w.base = 2 then s.time.gatOn && decide (0 ≤ gatMinus s.gat (w.target * 2 ^ 32))
  else true

/-- Confluence is slotting (R545): RUN or TRIM, T96 set, group 0's grid running. -/
def slotting (s : State) : Bool := s.running && s.time.isSet && (s.group 0).rate != 0

/-- The swap instant, when it has come: T96 of the boundary of group 0, or of now while Confluence is not slotting. -/
def swapDue (w : Swap) (s : State) : Option Nat :=
  if !w.validated || !targetReached w s then none
  else if slotting s then
    let r := (s.group 0).rate
    let validated := s.t96 - psToT96 (s.now - w.validatedAt)
    let b := slotPoint s r (firstSlotAt s r (Nat.max (swapTarget w s) validated)) (-2)
    if b ≤ s.t96 then some b else none
  else some (shownT96 s)

/-- Active and shadow exchange (R546): one generation on, the shadow PREVIOUS, the MRAM set word written, event 0x1204. -/
def performSwap (at_ : Nat) (s : State) : State :=
  let before := s.active
  let new := s.shadow
  let s := { s with active := new, shadow := before }
  let s := s.onSets fun x => { x with swap := none, stored := new, previous := before,
                                      validImage := if x.validImage = some new then none else x.validImage }
  let s := nextGeneration (setShadowState 6 s)
  let s := (s.setRo 0x1200 0x07 at_).bump 0x1210 0x01
  let s := swapEffects before at_ s
  raise 0x1204 (le 4 (s.cfg 0x1200 0x01) ++ le 12 at_) s

/-- SWAP_INSTANT. -/
def swapInstant (s : State) : State :=
  match s.sets.swap with
  | none => s
  | some w => match swapDue w s with | some at_ => performSwap at_ s | none => s

def execSwapInstant (t : Nat) (s : State) : Host.Outcome State Fault Refusal := complete t swapInstant s

/-! ### The commands -/

/-- 0x1201:01 Validate shadow. -/
def validateCommand (s : State) : State × Nat :=
  if shadowBusy s then (s, 0x06)
  else (beginValidation (s.onSets fun x => { x with validating := some (shadowState s) }), 0)

def execValidateShadow (t : Nat) (who : Who) (s : State) : Host.Outcome State Fault Refusal :=
  complete t (runPlain 0x1201 0x01 who validateCommand) s

/-- Segments of a shadow image for the Wheel (R684): number, total, bytes. -/
def sendSwapImage (s : State) : State :=
  let img := setImage s.shadow
  let n := (img.length + 1399) / 1400
  (List.range n).foldl (fun s k => swapFrame 0 (be 2 k ++ be 2 n ++ slice img (1400 * k) (Nat.min 1400 (img.length - 1400 * k))) s) s

/-- The swap of a pair with its instant fixed: the first boundary of group 0 from its target on, as T96 (R545, R684). -/
def fixedSwap (w : Swap) (s : State) : Swap :=
  if slotting s then
    let r := (s.group 0).rate
    { w with base := 1, target := slotPoint s r (firstSlotAt s r (Nat.max (swapTarget w s) s.t96)) (-2) }
  else w

/-- Enter SWAP_PENDING; the Lead tells the Wheel the instant (R684). -/
def swapPending (w : Swap) (s : State) : State :=
  let w := if leads s then fixedSwap w s else w
  let s := (s.onSets fun x => { x with swap := some { w with validated := true, validatedAt := s.now } }).onDuplex fun d => { d with swapAckUntil := none }
  let s := unparkCores (unpark (setShadowState 5 s))
  if leads s then swapFrame 3 (be 1 w.base ++ be 12 w.target) s else s

/-- VALIDATION_END (R543, R546, R684). -/
def validationEnd (s : State) : State :=
  match s.sets.swap with
  | some w =>
    if w.validated || s.duplex.swapAckUntil.isSome then s
    else
      let (s, good) := validateShadow s
      if !good then swapCancelled 2 (setShadowState 4 (s.onSets fun x => { x with swap := none }))
      else if leads s then (sendSwapImage s).onDuplex fun d => { d with swapAckUntil := some (s.now + sec 2) }
      else swapPending w s
  | none =>
    match s.sets.validating with
    | some _ =>
      let (s, good) := validateShadow s
      setShadowState (if good then 3 else 4) (s.onSets fun x => { x with validating := none })
    | none => s

def execValidationEnd (t : Nat) (s : State) : Host.Outcome State Fault Refusal := complete t validationEnd s

/-- The Wheel's answer has not come in 2 s (R684). -/
def swapAckLate (s : State) : State :=
  match s.duplex.swapAckUntil with
  | some u => if u ≤ s.now then cancelSwap 2 s else s
  | none => s

def execPairSwapAckTimeout (t : Nat) (s : State) : Host.Outcome State Fault Refusal := complete t swapAckLate s

/-- The distance to a swap's target exceeds 31 days, where it can be reckoned (R723). -/
def tooFar (base target : Nat) (s : State) : Bool :=
  if base = 1 then s.time.isSet && decide (s.t96 + 31 * 86400 * 2 ^ 48 < target)
  else if base = 2 then s.time.gatOn && decide (31 * 86400 * s.fnom * 2 ^ 32 < gatMinus (target * 2 ^ 32) s.gat)
  else false

/-- 0x1201:02 Swap (R544, R723). -/
def swapCommand (arg : List Byte) (s : State) : State × Nat :=
  let base := byteAt arg 0
  let gen := beAt arg 4 4
  let target := if base = 1 then beAt arg 8 12 else if base = 2 then beAt arg 8 4 else 0
  let clean := beAt arg 1 3 == 0 && (if base = 0 then beAt arg 8 12 == 0 else base == 1 || beAt arg 12 8 == 0)
  if base > 2 || !clean || tooFar base target s then (s, 0x05)
  else if gen ≠ s.ro 0x1200 0x05 then (s, 0x06)
  else if base = 1 && !s.time.isSet then (s, 0x06)
  else if base = 2 && !s.time.gatOn then (s, 0x06)
  else if shadowBusy s || roleNow s == 2 then (s, 0x06)
  else
    let w : Swap := ⟨base, target, false, shadowState s, s.now⟩
    let s := beginValidation (s.onSets fun x => { x with swap := some w })
    (raise 0x1203 (le 1 base ++ slice arg 8 12 ++ le 3 gen) s, 0)

def execSwap (t : Nat) (who : Who) (arg : List Byte) (s : State) : Host.Outcome State Fault Refusal :=
  complete t (runCommand 0x1201 0x02 noRow (.oct arg) who (swapCommand arg)) s

/-- 0x1201:03 Sync (R542, R547, R724). -/
def syncCommand (s : State) : State × Nat :=
  if shadowBusy s then (s, 0x06)
  else
    let s := nextGeneration (setShadowState 0 ({ s with shadow := s.active }.onSets fun x => { x with validImage := none }))
    (raise 0x1206 (le 4 (s.ro 0x1200 0x05)) s, 0)

def execSync (t : Nat) (who : Who) (s : State) : Host.Outcome State Fault Refusal := complete t (runPlain 0x1201 0x03 who syncCommand) s

/-- 0x1201:04 Cancel swap (R547). -/
def cancelCommand (s : State) : State × Nat := if s.sets.swap.isSome then (cancelSwap 0 s, 0) else (s, 0x06)

def execCancelSwap (t : Nat) (who : Who) (s : State) : Host.Outcome State Fault Refusal := complete t (runPlain 0x1201 0x04 who cancelCommand) s

end Sys2Proof.Machine
end

