-- ==== Sys2Proof/Machine/Start.lean ====
section
/-! DEFINITION. START (R601, R604, R619–R622): what survives, the rebuild of T96 and GAT (R81–R83), self-test, the set load (R549, R724), entry
to RUN, and the resets that begin it; with the bank word (R663, R664, R666) that START reads. -/

namespace Sys2Proof.Machine
open Sys2Proof

/-! ### Firmware banks -/

/-- The bank word's fields (R663). -/
def bankActive (w : Nat) : Nat := w % 16
def bankPrevious (w : Nat) : Nat := w / 16 % 16
def bankTrial (w : Nat) : Bool := bit w 8
def bankAttempts (w : Nat) : Nat := w / 2 ^ 16 % 256

/-- Write the bank word: one sequence number on (R663). -/
def writeBank (attempts : Nat) (trial : Bool) (prev active : Nat) (s : State) : State :=
  s.onKeys fun k => { k with bankWord := (k.bankWord / 2 ^ 32 + 1) % 2 ^ 32 * 2 ^ 32 + attempts % 256 * 2 ^ 16 + b2n trial * 256 + prev * 16 + active }

/-- A bank by number: 0 A, 1 B. -/
def bankOf (k : KeySt) (b : Nat) : Bank := if b = 0 then k.bankA else k.bankB
/-- The running bank. -/
def runningBank (k : KeySt) : Bank := bankOf k (bankActive k.bankWord)

/-- In trial (R663). -/
def inTrial (s : State) : Bool := bankTrial s.keys.bankWord

/-- Revert (R664): the previous bank active, trial clear, previous none; reported at the next START. -/
def revertWord (cause : Nat) (s : State) : State :=
  let s := writeBank 0 false 0xF (bankPrevious s.keys.bankWord) s
  (s.onKeys fun k => { k with revertReport := some cause, trialLeft := 0, trialUntil := none }).bump 0x3140 0x02

/-- The parts of a bank: part ID, delta flag, version, hash, bytes.  Those of manufacture are the manifest's own (parts 0 to 3 and what else it
names), of which the spec says nothing more. -/
def bankParts (k : KeySt) (b : Nat) : List (Nat × Nat × Nat × List Byte × List Byte) :=
  let l := (bankOf k b).parts
  if !l.isEmpty || !(bankOf k b).valid then l
  else ((List.range 10).filter fun p => p < 4 || Config.manifestNum 0x3112 0 p != 0).map fun p =>
    (p, 0, Config.manifestNum 0x3112 0x02 (16 * b + p), fit 48 (Config.manifestBytes 0x3112 0x01 (16 * b + p)), Config.manifestBytes 0x3110 p b)
/-- A part of a bank. -/
def bankPart (k : KeySt) (b p : Nat) : Option (Nat × Nat × Nat × List Byte × List Byte) := (bankParts k b).find? fun e => e.1 == p
/-- Manifest version and rollback version of a bank. -/
def bankVersion (k : KeySt) (b : Nat) : Nat :=
  if (bankOf k b).parts.isEmpty && (bankOf k b).valid then Config.manifestNum 0x3111 0x04 b else (bankOf k b).version
def bankRollback (k : KeySt) (b : Nat) : Nat :=
  if (bankOf k b).parts.isEmpty && (bankOf k b).valid then Config.manifestNum 0x3113 0x01 b else (bankOf k b).rollback

/-- The measurement of a part of the running bank (R642). -/
def measurement (k : KeySt) (part : Nat) : List Byte :=
  match bankPart k (bankActive k.bankWord) part with | some p => p.2.2.2.1 | none => []

/-! ### Time across reset and KENNEL -/

/-- Re-base GAT over the elapsed RTC ticks (R83). -/
def rebaseGat (ticks : Nat) (s : State) : State :=
  let g := s.time.latch.gat + ticks * s.fnom * 2 ^ 64 / 32768
  let s := s.onTime fun x => { x with gatOn := true, gatx := g % 2 ^ 96, gatRate := hz s.fnom, estimated := true, estimatedByRebase := true, edges := [] }
  setNominal (raise 0x200A (le 8 (ticks * s.fnom / 32768)) (s.bump 0x2011 0x05))

/-- Rebuild T96 from the latched pair (R81), which starts GAT (R71), or after a wake with a valid save area restore f (R609) and re-base GAT (R83).  A GAT that stood
still when the pair was latched (SAFE_TALK) has no running value to continue from and starts under R71: DESIGN CHOICE (assumption 87). -/
def rebuildTime (saved : Bool) (s : State) : State :=
  let l := s.time.latch
  let ticks := (rtcNow s + 2 ^ 48 - l.rtc % 2 ^ 48) % 2 ^ 48
  let s := if saved then s.onTime fun x => { x with f := l.f } else s
  let s := if saved && l.gatRan then rebaseGat ticks s else s
  if !l.valid then s
  else
    let u := l.uncertainty + (ticks * 50000000 + 32767) / 32768 + 30500000
    let s := s.onTime fun x => { x with t96x := (l.t96 * 2 ^ 32 + ticks * 2 ^ 65) % 2 ^ 128, u0 := u, servo := 1 }
    initialiseT96 0 5 s

/-- Latch the pair of R81 now, as the power-fail warning and the save of R609 do. -/
def latchNow (s : State) : State := latchTime (rtcNow s) s

/-! ### What survives a START -/

/-- Status objects kept in MRAM: the counters and records whose tables say so (R88, R265, R494, R555, R598, R636, R668). -/
def keptAcross (cold : Bool) (k : Nat) : Bool :=
  let idx := k / 0x100000000
  let sub := k / 0x1000000 % 256
  [0x2B20, 0x2B21, 0x2E20, 0x2F02, 0x3040, 0x3140].contains idx || (idx == 0x2030 && !cold) ||
  [(0x1210, 1), (0x2420, 4), (0x2420, 6), (0x2E00, 1), (0x2E00, 2), (0x2E30, 4), (0x2F20, 1), (0x2F20, 2), (0x2F20, 3), (0x2F20, 6), (0x3001, 3)].contains (idx, sub)

/-- RW objects that a reset loses: the test DAC (R587), blob loads (R654) and what stands in SRAM under DOMAIN objects. -/
def liveKept (d : Dict) : Dict :=
  let d := [(0x3021, 1), (0x2906, 1), (0x2906, 2), (0x3010, 0), (0x3110, 0)].foldl (fun d o => dropObject d o.1 o.2) d
  dropObject (dropRange d 0x2E12 0x2E12) 0x2E21 0x01

/-- What START keeps of the power record; RESET_N is high. -/
def startPower (cause : Nat) (s : State) : PowerSt :=
  let p := s.power
  { PowerSt.reset with
    state := stStart, cause := cause, startAt := s.now, startCause := cause, vbat := p.vbat, pfwLow := p.pfwLow, record := p.record,
    saveAreaValid := p.saveAreaValid, enteredAt := s.now, enteredRtc := p.enteredRtc, before := p.before, lastRtc := p.lastRtc,
    rtcAt := p.rtcAt, restarts := p.restarts, lifeBits := p.lifeBits, vbatLostFlag := p.vbatLostFlag }

/-- What START keeps of the key store (R638, R650, R654, R663). -/
def startKeys (k : KeySt) : KeySt :=
  { k with integrityFailed := false, counter := Nat.max k.counter k.kennelCounter, kennelCounter := Nat.max k.counter k.kennelCounter, loaded := [],
           cache := [], unusable := [], measuredB := [], measuredS := [], signing := none, lifePending := none, imageOffset := 0,
           trialUntil := none, revertReport := none }

/-- The links that are up when START begins: P4 and P5 stay up, the others are then held down (R92, R129). -/
def keptLinks (s : State) : PortSt :=
  let up := s.port.ports.filter fun e => s.powered && e.2.link == 1
  { PortSt.reset with ports := up.map (fun e => (e.1, { Port.reset with link := 1, lastRx := s.now })), pairState := if s.powered then s.port.pairState else [] }

/-- The block as START begins: MRAM, flash and the Kennel domain keep what they hold; everything else is as after reset. -/
def startState (cause : Nat) (s : State) : State :=
  { State.reset with
    pending := s.pending, testPort := s.testPort, now := s.now, draws := s.draws, outs := s.outs, active := s.active, shadow := s.shadow,
    live := writeIn (liveKept s.live) 0x2E21 0x01 16 (.num s.log.base)
    status := s.status.filter fun e => keptAcross (s.dev == stOff) e.1
    power := startPower cause s
    time := { TimeSt.reset with latch := s.time.latch, leapDone := s.time.leapDone }
    port := keptLinks s
    place := { PlaceSt.reset with slices := s.place.slices.map (fun e => (e.1, if e.2 = 2 ∨ e.2 = 3 then 0 else e.2)),
                                  restoreRetired := s.place.restoreRetired, unspared := s.place.unspared }
    energy := { EnergySt.reset with saves := s.energy.saves }
    imian := { ImianSt.reset with canRequestCounter := s.imian.canRequestCounter,
                                  canResponseCounter := s.imian.canResponseCounter, generations := s.imian.generations }
    sets := { SetSt.reset with stored := s.sets.stored, previous := s.sets.previous, validImage := s.sets.validImage }
    log := { LogSt.reset with entries := s.log.entries, cursor := s.log.cursor, base := s.log.base, full := s.log.full,
                              lastByrdoFault := s.log.lastByrdoFault }
    keys := startKeys s.keys }

/-! ### START begins -/

/-- Enter RECOVERY from START (R601, R666, R667): the boot ROM alone serves. -/
def enterRecovery (s : State) : State :=
  let s := leaveRole (changeState stRecovery 0x0A s)
  applyHolds (allPins (s.onPower fun p => { p with cdieOn := false }))

/-- A life-cycle change of key-update types 7–9 takes effect (R648). -/
def takeLife (pending : Option Nat) (s : State) : State :=
  match pending with
  | none => s
  | some ty =>
    let old := s.life
    let s := s.onPower fun p => { p with lifeBits := if ty = 9 then 16 else p.lifeBits + 1 }
    raise 0x3003 (le 1 old ++ le 1 s.life) s

/-- The wake's events and counts (R610, R616). -/
def reportWake (w : Wake) (saveGood : Bool) (s : State) : State :=
  let r := s.power.record
  let s := if saveGood || w.source = 0 then s else raise 0x2F06 [] s
  let s := if r.failedStage = 0 then s
           else raise 0x2F02 (le 1 (w.attempt - 1) ++ le 1 r.failedStage ++ le 1 r.observed ++ le 1 r.required) s
  let s := raise 0x2F01 (le 1 w.source ++ le 1 r.mode ++ le 1 w.attempt ++ le 4 ((s.now - w.sourceAt) / us 1)) s
  s.addTo 0x2F20 0x02 (w.attempt - 1)

/-- One START, up to the boot ROM's own checks. -/
def startOnce (cause : Nat) (wake : Option Wake) (s : State) : State :=
  let old := s.dev
  let role := roleNow s
  let cut := s.sets.swap.isSome
  let lost := s.power.lossFrom
  let life := s.keys.lifePending
  let tamper := s.power.tamperReport
  let revert := s.keys.revertReport
  let saved := s.power.saveAreaValid
  let s := if s.powered && old != stRecovery then drainLog (releaseFreeze (relinquish cause s)) else s
  let s := (List.range 4).foldl (fun s o => pulseOff o s) s
  let s := (startState cause s).bump 0x2F20 0x01
  let s := match lost with | some o => raise 0x1020 (le 1 o ++ le 1 (if saved then stKennel else stOff) ++ le 1 8) s | none => s
  let s := if cut then swapCancelled 1 s else s
  let s := raise 0x1020 (le 1 old ++ le 1 stStart ++ le 1 cause) s
  let s := if role ≠ 0 then raise 0x3201 (le 1 role ++ le 1 0) s else s
  let s := match wake with | some w => reportWake w saved s | none => s
  let s := match tamper with
    | some (i, st, locked) =>
      let s := raise 0x2F0C (le 1 i ++ le 1 st) s
      if locked then raise 0x3004 (le 1 1) s else s
    | none => s
  let s := takeLife life s
  let s := match revert with | some c => raise 0x3107 (le 1 c ++ le 1 (bankActive s.keys.bankWord)) s | none => s
  let s := if old == stOff || old == stKennel then s.setRo 0x2B21 0x05 1 else s
  let s := rebuildTime (wake.isSome && saved) s
  showKept (applyHolds (allPins s))

/-- START begins (R601).  The boot ROM counts its attempts in trial, the second of which reverts and resets (R664); without a valid bank the device
enters RECOVERY (R601). -/
def beginStart (cause : Nat) (wake : Option Wake) (s : State) : State :=
  let s := startOnce cause wake s
  let w := s.keys.bankWord
  let s :=
    if !bankTrial w then s
    else
      let n := bankAttempts w + 1
      let s := writeBank n true (bankPrevious w) (bankActive w) s
      if n ≥ 2 then startOnce 0x01 none (revertWord 3 s) else s
  if !s.keys.bankA.valid && !s.keys.bankB.valid then enterRecovery s else s

/-- Let time pass within a step. -/
def lapse (dt : Nat) (s : State) : State := { s.advance (s.now + dt) with outs := s.outs }

/-- The reset that follows 10 ms after a response (R554): made in the same step; sessions close with the device state (R555). -/
def resetLater (cause : Nat) (s : State) : State := beginStart cause none (endSessions 3 (lapse (ms 10) s))

/-- Revert and reset (R664). -/
def revert (cause : Nat) (s : State) : State := beginStart 0x01 none (revertWord cause s)

/-! ### The set load -/

/-- The set that loads (R549): the first of the candidates that validates, with event 0x1207 for each fallback taken; and whether it is that of
the defaults. -/
def chooseSet : List (Nat × Dict) → State → State × Dict × Bool
  | [], s => (s, [], true)
  | (c, d) :: rest, s =>
    let s := if c = 0xFF then s else raise 0x1207 (le 1 c) s
    if c = 2 then (s, [], true)
    else if refusesStart (validateSet d s) then chooseSet rest s
    else (s, d, false)

/-- Load the active set, and the shadow under R724.  `fallback`: 0 the first copy verifies, 1 the second, 2 the previous set, 3 none. -/
def loadSet (fallback : Nat) (s : State) : State × Bool :=
  let (s, d, defaults) := chooseSet ([(0xFF, s.sets.stored), (0, s.sets.stored), (1, s.sets.previous), (2, [])].drop fallback) s
  let image := s.sets.validImage
  let s := { s with active := d, shadow := image.getD d }
  let s := setShadowState (if image.isSome then 3 else 0) s
  let s := (s.setRo 0x1200 0x07 (shownT96 s)).onPower fun p => { p with setLoaded := true }
  let s := s.onKeys fun k => { k with measuredB := measurement k 0, measuredS := measurement k 1 }
  (stageGates true (resetThresholds (fillCache s)), defaults)

/-- What begins to serve with the set: the ports, the energy engine, Headwater, Shepherd and the Leash. -/
def serveSet (s : State) : State :=
  let s := applyHolds s
  let s := (List.range 3).foldl (fun s k => updatePair k s) s
  showKept (leashStart (shepherdFollow (headStart (energyRestore s))))

/-! ### Self-test -/

/-- Record an item that has failed, with its detail (R620, R621). -/
def itemFailed (i detail : Nat) (s : State) : State :=
  raise 0x2F03 (le 1 i ++ le 4 detail) ((s.setRow 0x2F03 0x01 i 2).setRow 0x2F03 0x02 i detail)

/-- The detail of an item: what the key store itself fails item 0 by (R644) joins what the test found; items 0, 5 and 6 show theirs. -/
def itemDetail (s : State) (failed : List (Nat × Nat)) (i : Nat) : Nat :=
  let given := ((failed.filter fun e => e.1 == i).map (·.2)).foldl (fun a b => a ||| b) 0
  if i = 0 then given ||| (8 * b2n s.keys.locked + 16 * b2n (s.life == 4))
  else if i = 5 ∨ i = 6 then given else 0

/-- Whether an item fails: the test says so, or the key store is LOCKED or RETIRED. -/
def itemFails (s : State) (failed : List (Nat × Nat)) (i : Nat) : Bool :=
  failed.any (fun e => e.1 == i) || (i == 0 && (s.keys.locked || s.life == 4))

/-- Slices that item 8 names as failed; any other operand is another failure of the item. -/
def failedSlices (failed : List (Nat × Nat)) : List Nat := (failed.filter fun e => e.1 == 8 && e.2 < 68).map (·.2)
def itemEightBad (failed : List (Nat × Nat)) : Bool := failed.any fun e => e.1 == 8 && e.2 ≥ 68

/-- An item is not run once item 0 has failed, nor, of 7 to 9, once an item has given SAFE_TALK (R620, R621). -/
def itemSkipped (s : State) (failed : List (Nat × Nat)) (i : Nat) : Bool :=
  let f := itemFails s failed
  (i > 0 && f 0) || (i ≥ 7 && (f 0 || f 1 || f 2))

/-- Run items lo to hi − 1: results, details, events. -/
def runItems (lo hi : Nat) (failed : List (Nat × Nat)) (s : State) : State :=
  ((List.range hi).drop lo).foldl (fun s' i =>
    if itemSkipped s failed i then s'.setRow 0x2F03 0x01 i 3
    else if itemFails s failed i then itemFailed i (itemDetail s failed i) s'
    else s'.setRow 0x2F03 0x01 i 1) s

/-- The slices after item 8: failed ones are retired; retired ones that passed return to SPARE when that has been commanded (R252, R256). -/
def slicesTested (failed : List (Nat × Nat)) (s : State) : State :=
  let bad := failedSlices failed
  let s :=
    if s.place.restoreRetired then
      let back := (slicesIn s 4).filter fun k => !bad.contains k
      let s := back.foldl (fun s k => setSlice k 1 s) s
      s.onPlace fun p => { p with restoreRetired := false, unspared := (p.slices.filter fun e => e.2 == 4).length - 4 }
    else s
  showKept (bad.foldl (fun s k => retire k 0 s) s)

/-- What the items' failures set beside their events. -/
def itemEffects (failed : List (Nat × Nat)) (s : State) : State :=
  let f := fun i => itemFails s failed i && !itemSkipped s failed i
  let s := s.onKeys fun k => { k with integrityFailed := f 0 }
  let s := s.onPower fun p => { p with mramLost := f 1 }
  let s := if f 4 then calibrationFailed (s.onHk fun h => { h with calibrating := false }) else s
  if itemSkipped s failed 8 then s else slicesTested failed s

/-- 0x2F03:04 (R621): 3 RECOVERY, 2 SAFE_TALK, 1 SENTINEL, 0 RUN. -/
def testOutcome (s : State) (failed : List (Nat × Nat)) : Nat :=
  let f := fun i => itemFails s failed i && !itemSkipped s failed i
  if f 3 then 3 else if f 0 || f 1 || f 2 then 2
  else if f 7 || f 9 || itemEightBad failed then 1 else 0

/-- The bank word moves to the previous bank when that one is valid and not rolled back (R666). -/
def otherBank (s : State) : Option Nat :=
  let p := bankPrevious s.keys.bankWord
  if p < 2 && (bankOf s.keys p).valid && s.keys.rollback ≤ bankRollback s.keys p then some p else none

/-- Record the outcome (R621). -/
def testRecorded (outcome duration : Nat) (s : State) : State :=
  let s := (s.setRo 0x2F03 0x03 duration).setRo 0x2F03 0x04 outcome
  raise 0x2F04 (le 1 outcome ++ le 4 duration) s

/-- SAFE_TALK, where a pending swap ends (R547). -/
def toSafeTalk (cause : Nat) (s : State) : State :=
  if s.gdieOn then cancelSwap 1 (enterSafeTalk cause s) else s

/-- Self-test is in progress: START, and its end not yet come. -/
def testing (s : State) : Bool := s.dev == stStart && s.powered && !s.power.selfTestPassed

/-- After the outcome: the set loads and the device goes where the outcome says (R601, R621, R664). -/
def afterTest (outcome fallback cause : Nat) (s : State) : State :=
  let (s, defaults) := loadSet fallback s
  if outcome = 2 then toSafeTalk cause s
  else if defaults && inTrial s then revert 1 s
  else if outcome = 1 then enterSentinel cause false (serveSet s)
  else serveSet s

/-- The voltage of a DAC code (R587). -/
def dacVolts (code : Nat) : Q := Q.make (code * 5) 8192

/-- The modulator-path check of a channel: each average of 256 chain outputs, at DAC codes 410 and 3,686, lies within 0.02 of the test gain times
the DAC voltage (R622).  Averages are F32 patterns. -/
def modulatorPasses (s : State) (c : Nat) (averages : Nat × Nat) : Bool :=
  let gain := f32 (s.rw 0x2F04 0x02 c)
  let near := fun (code average : Nat) =>
    (binary32.toQ average).isSome && Q.le (Q.abs (Q.sub (f32 average) (Q.mul gain (dacVolts code)))) (Q.make 2 100)
  near 410 averages.1 && near 3686 averages.2

/-- The wired channels that item 6 finds failed, as bits (R622); the averages by channel. -/
def modulatorsFailed (s : State) (averages : List (Nat × Nat)) : Nat :=
  ((List.range 24).filter fun c => bit (s.rw 0x2F04 0x01) c && !modulatorPasses s c (averages.getD c (0, 0))).foldl (fun n c => n + 2 ^ c) 0

/-- The items that failed: item 6 by its checks, the others as the test found them. -/
def failedItems (s : State) (failed : List (Nat × Nat)) (averages : List (Nat × Nat)) : List (Nat × Nat) :=
  let m := modulatorsFailed s averages
  (failed.filter fun e => e.1 != 6) ++ (if m = 0 then [] else [(6, m)])

/-- SELF_TEST_COMPLETE. -/
def selfTest (found : TestFindings) (duration fallback : Nat) (s : State) : State :=
  if !testing s then s
  else
    let before := s
    let failed := failedItems s found.failed found.averages
    let s := runItems 0 10 failed s
    let item3 := itemFails before failed 3 && !itemSkipped before failed 3
    let outcome := testOutcome before failed
    let part := ((failed.find? fun e => e.1 == 3).map (·.2)).getD 0
    let s := if item3 && !inTrial s then raise 0x3108 (le 1 (bankActive s.keys.bankWord) ++ le 1 part) s else s
    match (if item3 && !inTrial s then otherBank s else none) with
    | some p => beginStart 0x01 none (writeBank 0 false 0xF p s)
    | none =>
      let s := testRecorded outcome duration (itemEffects failed s)
      if outcome ≠ 0 && inTrial s then revert 0 s
      else if outcome = 3 then enterRecovery s
      else
        let s := drawInterleave (s.onPower fun p => { p with selfTestPassed := true })
        let cause := if outcome = 2 then 0x04 else if itemFails before failed 7 || itemEightBad failed then 0x02 else 0x03
        afterTest outcome fallback cause s

def execSelfTestComplete (t : Nat) (found : TestFindings) (duration fallback : Nat) (s : State) : Host.Outcome State Fault Refusal :=
  complete t (selfTest found duration fallback) s

/-! ### Entry to RUN -/

/-- GAT starts at cycle 0 with ESTIMATED when RUN is entered with T96 unset (R72). -/
def gatAtRun (s : State) : State :=
  if s.time.gatOn then s else (startGat (if refValid s then refPhaseNow s else 0) s).onTime fun x => { x with estimated := true, estimatedByRebase := false }

/-- Every chapter's rules of an entry to RUN from START or SENTINEL. -/
def enterRunState (cause : Nat) (s : State) : State :=
  let s := gatAtRun (changeState stRun cause s)
  let s := s.onPower fun p => { p with ran := true }
  let s := applyHolds s
  let s := (List.range 3).foldl (fun s k => updatePair k s) s
  let s := s.onCapture fun c => { c with sram := false }
  let s := s.onAlarm fun a => { a with lastBeat := s.now, beatLost := false, evaluated := [] }
  let s := placeAll (ingestStart s)
  let s := resetMode 0 (gridsFollow s)
  let s := jobsStart (ringStart (archiveStart 0 s))
  let s := captureEnable (s.rw 0x2A00 0x01 == 1) (headStart s)
  let s := if s.cfg 0x3200 0x01 = 2 then setRole 3 s else s
  allPins s

/-- START completes: self-test passed, the set loaded, the wait of R53 over (R601). -/
def enterRun (s : State) : State :=
  if s.dev == stStart && s.powered && s.power.selfTestPassed && s.power.setLoaded && s.power.lockWaitOver then
    enterRunState s.power.startCause s
  else s

def execEnterRun (t : Nat) (s : State) : Host.Outcome State Fault Refusal := complete t enterRun s

/-! ### Reset -/

/-- 0x1030:01 Reset device: event 0x1021 with the issuer's label (R555, R601); the device resets 10 ms after the response. -/
def labelOf (s : State) (w : Who) : List Byte :=
  match w with | .dtls n => (match s.session n with | some x => x.label | none => []) | _ => []

/-- A COMMAND without argument whose acceptance has a sequel after its answer. -/
def runThen (idx sub : Nat) (w : Who) (body : State → State × Nat) (after : State → State) (s : State) : State :=
  if s.reaches w then
    let (s', c) := tryCommand idx sub noRow (.num 0) w body s
    let s' := (account w c s').emit (.status w c)
    if c = 0 then after s' else s'
  else s

def execResetDevice (t : Nat) (who : Who) (s : State) : Host.Outcome State Fault Refusal :=
  complete t (runThen 0x1030 0x01 who (fun s => ok (raise 0x1021 (fit 16 (labelOf s who))) s) (resetLater 0x01)) s

/-- RESET_N is driven low (R708, R707): under 1 µs it is ignored, from 10 µs on it resets; between, the spec leaves it open, so it is free
(assumption 26).  Width in ns. -/
def resetAsserted (width : Nat) (s : State) : State :=
  let taken := s.powered && (width ≥ 10000 || (width ≥ 1000 && s.free % 2 == 1))
  let s := if width ≥ 1000 && width < 10000 then s.drawn else s
  if !taken then s
  else
    let s := if s.dev == stRecovery then s else drainLog (releaseFreeze (relinquish 0 s))
    let s := (List.range 4).foldl (fun s o => pulseOff o s) s
    let s := (s.onDuplex fun d => { d with peer := none }).onTime fun x => { x with pulses := [] }
    allPins ((s.onPower fun p => { p with resetLow := true }).onHost fun h => { h with linkUp := false })

def execResetNAsserted (t width : Nat) (s : State) : Host.Outcome State Fault Refusal := complete t (resetAsserted width) s

/-- RESET_N is released (R708): START, or RECOVERY when RECOVER_N is low (R601). -/
def resetReleased (recoverN : Bool) (s : State) : State :=
  if !s.power.resetLow then s
  else
    let s := beginStart 0x00 none s
    if recoverN || s.dev == stRecovery then s else enterRecovery s

def execResetNRelease (t : Nat) (recoverN : Bool) (s : State) : Host.Outcome State Fault Refusal := complete t (resetReleased recoverN) s

end Sys2Proof.Machine
end

