-- ==== Sys2Proof/Machine/Update.lean ====
section
/-! DEFINITION. Update images (R658–R662, R667): manifest, part records, deltas, and the state of the update. -/

namespace Sys2Proof.Machine
open Sys2Proof

/-- The bank an image is written into (R658, R667). -/
def targetBank (s : State) : Nat :=
  if s.dev == stRecovery && !s.keys.bankA.valid && !s.keys.bankB.valid then 0 else 1 - bankActive s.keys.bankWord

def setBank (b : Nat) (x : Bank) (s : State) : State :=
  s.onKeys fun k => if b = 0 then { k with bankA := x } else { k with bankB := x }

/-- Owner slot in use (0x3000:03): the highest slot programmed and not revoked. -/
def ownerSlot (k : KeySt) : Nat :=
  match (k.owners.filter fun e => !e.2.2).getLast? with | some e => e.1 | none => 0xFF

/-- What an image so far received amounts to: more bytes are needed, it fails with a reason, or it is whole and makes a bank. -/
inductive ImageResult where
  | more
  | fail (reason : Nat)
  | done (bank : Bank)
deriving DecidableEq, Repr

/-- A manifest's part entry: part ID, version, length, hash (R659). -/
structure PartEntry where
  id : Nat
  version : Nat
  length : Nat
  hash : List Byte
deriving DecidableEq, Repr

def partEntries (m : List Byte) : List PartEntry :=
  (List.range (byteAt m 10)).map fun k =>
    let o := 28 + 60 * k
    ⟨byteAt m o, beAt m (o + 4) 4, beAt m (o + 8) 4, slice m (o + 12) 48⟩

/-- The form of a manifest (R659, R660). -/
def manifestForm (m : List Byte) : Bool :=
  let n := byteAt m 10
  let l := partEntries m
  1 ≤ n && n ≤ 16 && (byteAt m 11 == 1 || byteAt m 11 == 2) && m.length == 28 + 60 * n + 96 * byteAt m 11 &&
  ((List.range n).all fun k => beAt m (28 + 60 * k + 2) 2 == 0) && [0, 1, 2, 3].all (fun p => l.any fun e => e.id == p) &&
  (l.all fun e => e.id < 10) && decide (l.map (·.id)).Nodup && (l.map (·.length)).foldl (· + ·) 0 ≤ 24 * 1048576

/-- The signatures of a manifest verify (R659). -/
def manifestSigned (s : State) (m : List Byte) : Bool :=
  let n := byteAt m 10
  let body := slice m 0 (28 + 60 * n)
  let omaven := (List.range 4).any fun k =>
    !bit s.keys.revokedOmaven k && Config.ecdsaVerify (Config.omavenKey k) body (slice m (28 + 60 * n) 96)
  let owner : Bool := match lookup (ownerSlot s.keys) s.keys.owners with
    | some e => Config.ecdsaVerify e.1 body (slice m (124 + 60 * n) 96)
    | none => false
  omaven && (if byteAt m 11 = 2 then owner else !s.cfgB 0x3100 0x03)

/-- Why a manifest is refused (R662); none when it is good. -/
def manifestFault (s : State) (m : List Byte) : Option Nat :=
  let binding := beAt m 12 16
  if !manifestForm m then some 5
  else if byteAt m 8 ≠ s.ro 0x1000 0x03 || !bit (byteAt m 9) s.life || (binding != 0 && binding != Config.identity) then some 2
  else if !manifestSigned s m then some 0
  else if beAt m 4 4 < s.keys.rollback then some 1
  else none

/-- The output of a delta's commands (R661); none where the delta is malformed.  Every command takes at least one byte. -/
def deltaRun (base : List Byte) : Nat → List Byte → List Byte → Option (List Byte)
  | 0, _, _ => none
  | n + 1, l, out =>
    match byteAt l 0, l with
    | _, [] => none
    | 0, _ :: rest => if rest.isEmpty then some out else none
    | 1, _ =>
      let o := beAt l 1 4
      let len := beAt l 5 4
      if l.length < 9 || base.length < o + len then none else deltaRun base n (l.drop 9) (out ++ slice base o len)
    | 2, _ =>
      let len := beAt l 1 4
      if l.length < 5 + len then none else deltaRun base n (l.drop (5 + len)) (out ++ slice l 5 len)
    | _, _ => none

/-- One part's output from its record (R661, R662): the reason it fails, or the bytes. -/
def partOutput (s : State) (e : PartEntry) (enc : Nat) (data : List Byte) : Except Nat (List Byte) :=
  let base := match bankPart s.keys (bankActive s.keys.bankWord) e.id with | some p => p.2.2.2.2 | none => []
  let checked := fun (out : List Byte) => if out.length = e.length ∧ Config.sha384 out = e.hash then Except.ok out else .error 4
  if enc = 0 then checked data
  else if enc = 2 then (if Config.sha384 base = e.hash then checked base else .error 3)
  else if s.dev == stRecovery then .error 5
  else if Config.sha384 base ≠ data.take 48 then .error 3
  else match deltaRun base data.length (data.drop 48) [] with | some out => checked out | none => .error 5

/-- The part records that follow the manifest, in manifest order. -/
def partRecords (s : State) (m : List Byte) : List PartEntry → List Byte → List (Nat × Nat × Nat × List Byte × List Byte) → ImageResult
  | [], rest, parts => if rest.isEmpty then .done ⟨true, beAt m 0 4, beAt m 4 4, parts⟩ else .fail 5
  | e :: es, l, parts =>
    if l.length < 16 then .more
    else
      let enc := byteAt l 1
      let len := beAt l 4 8
      if byteAt l 0 ≠ e.id || enc > 2 || beAt l 2 2 ≠ 0 || beAt l 12 4 ≠ 0 || (enc == 2 && len != 0) then .fail 5
      else if l.length < 16 + len then .more
      else match partOutput s e enc (slice l 16 len) with
        | .error r => .fail r
        | .ok out => partRecords s m es (l.drop (16 + len)) (parts ++ [(e.id, 2 * b2n (enc == 1), e.version, e.hash, out)])

/-- Check an image as far as it has come (R659, R662). -/
def imageCheck (s : State) (d : List Byte) : ImageResult :=
  if d.length < 64 then .more
  else if beAt d 0 4 ≠ 0x4F4D4649 || byteAt d 4 ≠ 1 || beAt d 5 3 ≠ 0 || beAt d 12 52 ≠ 0 then .fail 5
  else
    let ml := beAt d 8 4
    if ml > 28 + 60 * 16 + 192 then .fail 5
    else if d.length < 64 + ml then .more
    else
      let m := slice d 64 ml
      match manifestFault s m with
      | some r => .fail r
      | none => partRecords s m (partEntries m) (d.drop (64 + ml)) []

/-- The first segment of an image (R662). -/
def updateBegins (s : State) : State :=
  let b := targetBank s
  let s := setBank b .reset (s.onKeys fun k => { k with imageOffset := 0 })
  raise 0x3101 (le 1 b) (((s.setRo 0x3111 0x01 1).setRo 0x3111 0x03 0xFF).setRo 0x3111 0x04 0)

/-- A segment has been accepted: check what has come; the last one must complete the image (R662). -/
def updateTakes (d : List Byte) (last : Bool) (s : State) : State :=
  let s := s.onKeys fun k => { k with imageOffset := d.length }
  match imageCheck s d, last with
  | .fail r, _ => updateFailed r s
  | .more, true => updateFailed 5 s
  | .done bank, true =>
    let s := (setBank (targetBank s) bank s).setRo 0x3111 0x01 2
    raise 0x3102 (le 4 bank.version ++ le 4 bank.rollback) (s.setRo 0x3111 0x04 bank.version)
  | _, false => s

/-- 0x3110 takes segments in RUN, TRIM, SENTINEL, SAFE_TALK and, for the boot ROM, in RECOVERY; in trial and in START it does not (R662, R667). -/
def updateRefused (s : State) : Bool := inTrial s && s.dev != stRecovery || s.dev == stStart

end Sys2Proof.Machine
end

