-- ==== Sys2Proof/Machine/Keys.lean ====
section
/-! DEFINITION. Key-update messages (R646–R651), tamper (R645), attestation (R656, R657), and the commands of the firmware update
(R662–R665). -/

namespace Sys2Proof.Machine
open Sys2Proof

/-! ### Key-update messages -/

/-- The key-update message as delivered. -/
def keyMessage (s : State) : List Byte := s.rwBytes 0x3010 0x00

/-- Its fields (R646). -/
def msgType (m : List Byte) : Nat := byteAt m 3
def msgCounter (m : List Byte) : Nat := beAt m 20 8
def msgSigner (m : List Byte) : Nat := byteAt m 28
def msgHandle (m : List Byte) : Nat := beAt m 30 2
def msgPayload (m : List Byte) : List Byte := slice m 140 (beAt m 36 4)

/-- Check 1 of R647: length, magic, version, type, reserved bytes. -/
def messageForm (m : List Byte) : Bool :=
  let l := beAt m 36 4
  m.length == 236 + l && l ≤ 8000 && beAt m 0 2 == 0x4B55 && byteAt m 2 == 1 && 1 ≤ msgType m && msgType m ≤ 9 &&
  beAt m 34 2 == 0 && beAt m 137 3 == 0

/-- Check 3: the type is admitted in the life-cycle, and type 1 by the mailbox only (R639, R648). -/
def messageAdmitted (who : Who) (m : List Byte) (s : State) : Bool :=
  let life := s.life
  match msgType m with
  | 1 => life == 1 && who == .mailbox
  | 5 => life == 2
  | 7 => life == 2 && decide (s.power.lifeBits < 14)
  | 8 => life == 3
  | 9 => 1 ≤ life && life ≤ 3
  | _ => life == 2 || life == 3

/-- The signer's public key: a programmed slot that is not revoked, or the payload's own under 0x10 for type 1 (checks 4 and 5). -/
def messageKey (m : List Byte) (s : State) : Option (List Byte) :=
  if msgType m = 1 then (if msgSigner m = 0x10 then some ((msgPayload m).take 97) else none)
  else match lookup (msgSigner m) s.keys.owners with
    | some (k, revoked) => if revoked || msgSigner m > 3 then none else some k
    | none => none

/-- The key of a type-2 message, unwrapped under the transport KEK (R649). -/
def messageUnwraps (m : List Byte) (s : State) : Option (List Byte) :=
  match rootOf s.life with
  | some r => match Config.unwrapTransport r (slice m 40 97) (msgCounter m) (msgPayload m) with
    | some k => if k.length = byteAt m 33 then some k else none
    | none => none
  | none => none

/-- The lowest unprogrammed owner slot. -/
def freeSlot (s : State) : Option Nat := (List.range 4).find? fun i => (lookup i s.keys.owners).isNone

/-- Check 8: what each type asks of its own fields, and of resources. -/
def messageFits (m : List Byte) (s : State) : Bool :=
  let p := msgPayload m
  let h := msgHandle m
  match msgType m with
  | 1 =>
    let n := (p.length - 97) / 49
    p.length == 97 + 49 * n && 1 ≤ n && n ≤ 8 && (List.range n).all fun k => 1 ≤ byteAt p (97 + 49 * k + 48) && byteAt p (97 + 49 * k + 48) ≤ 4
  | 2 => 1 ≤ h && h ≤ 1023 && byteAt m 29 ≤ 2 && byteAt m 32 ≤ 2 && (byteAt m 33 == 16 || byteAt m 33 == 32) && (messageUnwraps m s).isSome
  | 3 => 1 ≤ h && h ≤ 1023
  | 4 => 1 ≤ p.length && p.length ≤ 4096
  | 5 => p.length == 97 && (freeSlot s).isSome
  | _ => p.isEmpty

/-- The first check that fails, as a reason code (R647); none when the message is accepted. -/
def messageFault (who : Who) (m : List Byte) (s : State) : Option Nat :=
  if !messageForm m then some 5
  else if beAt m 4 16 = 0 || beAt m 4 16 ≠ Config.identity then some 1
  else if !messageAdmitted who m s then some 3
  else match messageKey m s with
    | none => some 7
    | some key =>
      if !Config.ecdsaVerify key (m.take (m.length - 96)) (m.drop (m.length - 96)) then some 0
      else if msgCounter m ≤ s.keys.counter then some 2
      else if s.keys.locked && msgType m != 6 then some 6
      else if !messageFits m s then some 4
      else none

/-- The salt a new blob is wrapped under (R653). -/
def wrapSalt (k : KeySt) (binding : Nat) : List Byte := if binding = 1 then k.measuredB else if binding = 2 then k.measuredS else []

/-- The blob that a type-2 message installs (R652). -/
def messageBlob (m : List Byte) (s : State) : Blob :=
  let header := be 2 (msgHandle m) ++ be 1 (byteAt m 32) ++ be 1 (byteAt m 29) ++ be 1 s.life ++ be 1 (byteAt m 33) ++ be 2 0 ++ be 8 (msgCounter m)
  let key := (messageUnwraps m s).getD []
  ⟨header, Config.wrapBlob ((rootOf s.life).getD 0) (wrapSalt s.keys (byteAt m 29)) header key⟩

/-- Write one value into both sets, and into the set the MRAM set word names. -/
def bothSets (idx sub row : Nat) (v : Val) (s : State) : State :=
  ({ s with active := writeIn s.active idx sub row v, shadow := writeIn s.shadow idx sub row v }).onSets fun x =>
    { x with stored := writeIn x.stored idx sub row v }

/-- Take ownership (R648 type 1): owner slot 0, the credential rows, FIELD with event 0x3003. -/
def takeOwnership (m : List Byte) (s : State) : State :=
  let p := msgPayload m
  let n := (p.length - 97) / 49
  let s := s.onKeys fun k => { k with owners := putKey 0 (p.take 97, false) k.owners }
  let s := (List.range n).foldl (fun s k =>
    bothSets 0x1101 0x02 k (.num (byteAt p (97 + 49 * k + 48))) (bothSets 0x1101 0x01 k (.oct (slice p (97 + 49 * k) 48)) s)) s
  raise 0x3003 (le 1 1 ++ le 1 2) (s.onPower fun q => { q with lifeBits := 2 })

/-- Rotate the owner key (type 5, R651): the new key in the lowest free slot, the signer's revoked. -/
def rotateOwner (m : List Byte) (s : State) : State :=
  match freeSlot s with
  | none => s
  | some i =>
    let old := (lookup (msgSigner m) s.keys.owners).getD ([], false)
    let s := s.onKeys fun k => { k with owners := putKey i (msgPayload m, false) (putKey (msgSigner m) (old.1, true) k.owners) }
    raise 0x3006 (le 1 i) s

/-- The effect of an accepted message (R648). -/
def messageEffect (m : List Byte) (s : State) : State :=
  match msgType m with
  | 1 => takeOwnership m s
  | 2 =>
    let b := messageBlob m s
    touch 0x3021 0x02 (msgHandle m) (s.onKeys fun k => { k with blobs := putKey (msgHandle m) b k.blobs })
  | 3 => touch 0x3021 0x02 (msgHandle m) (s.onKeys fun k => { k with blobs := delKey (msgHandle m) k.blobs })
  | 4 => touch 0x3001 0x03 noRow (s.setRoBytes 0x3001 0x03 (msgPayload m))
  | 5 => rotateOwner m s
  | 6 => raise 0x3004 (le 1 0) (s.onKeys fun k => { k with locked := false, tamperLatch := false })
  | n => s.onKeys fun k => { k with lifePending := some n }

/-- 0x3030:01 Apply key update (R647, R650): the command itself returns OK. -/
def applyMessage (who : Who) (s : State) : State × Nat :=
  let m := keyMessage s
  match messageFault who m s with
  | some r => (raise 0x3002 (le 1 (msgType m) ++ le 1 r) ((s.setRo 0x3011 0x01 r).bump 0x3040 0x02), 0)
  | none =>
    let c := msgCounter m
    let s := s.onKeys fun k => { k with counter := c, kennelCounter := c }
    let s := raise 0x3001 (le 1 (msgType m) ++ le 2 (msgHandle m) ++ le 8 c) ((s.setRo 0x3011 0x01 0x80).bump 0x3040 0x01)
    (messageEffect m s, 0)

/-- Types 7 to 9 reset the device 10 ms after their outcome is recorded (R648). -/
def afterMessage (s : State) : State := if s.keys.lifePending.isSome then resetLater 0x01 s else s

def execApplyKeyUpdate (t : Nat) (who : Who) (s : State) : Host.Outcome State Fault Refusal :=
  complete t (runThen 0x3030 0x01 who (applyMessage who) afterMessage) s

/-! ### Tamper (R645) -/

/-- The key store locks: the cache is cleared, sessions close. -/
def lockStore (s : State) : State :=
  endSessions 3 (s.onKeys fun k => { k with locked := true, cache := [], unusable := [] })

/-- A tamper input becomes active, wherever the Kennel domain has its supply. -/
def tamperSeen (input : Nat) (s : State) : State :=
  if s.dev == stOff then s
  else
    let lock := s.cfg 0x3000 0x02 == 1 && !s.keys.locked
    let st := s.dev
    let s := s.onKeys fun k => { k with tamperLatch := true }
    if st == stKennel then
      (if lock then lockStore s else s).onPower fun p =>
        { p with tamperReport := if p.tamperReport.isNone then some (input, st, lock) else p.tamperReport }
    else
      let s := raise 0x2F0C (le 1 input ++ le 1 st) s
      if lock then raise 0x3004 (le 1 1) (lockStore s) else s

def execTamper (t input : Nat) (s : State) : Host.Outcome State Fault Refusal := complete t (tamperSeen input) s

/-! ### Attestation (R656, R657) -/

/-- The attestation key exists in this life-cycle and the key store derives it (R640, R645). -/
def attests (s : State) : Bool := (rootOf s.life).isSome && s.derives

/-- 0x3002:01 Attest. -/
def attestBegin (nonce : List Byte) (s : State) : State × Nat :=
  if !attests s then (s, 0x0D)
  else if s.keys.signing.isSome then (s, 0x07)
  else (s.onKeys fun k => { k with signing := some nonce }, 0)

def execAttest (t : Nat) (who : Who) (nonce : List Byte) (s : State) : Host.Outcome State Fault Refusal :=
  complete t (runCommand 0x3002 0x01 noRow (.oct nonce) who (attestBegin nonce)) s

/-- The statement but for its signature. -/
def statementBody (nonce : List Byte) (s : State) : List Byte :=
  let b := bankActive s.keys.bankWord
  let parts := sortBy (fun x y => decide (x.1 ≤ y.1)) ((bankParts s.keys b).take 16)
  be 2 1 ++ be 2 (184 + 52 * parts.length + 96) ++ be 16 Config.identity ++ be 1 s.life ++ be 1 b ++ be 1 (b2n (inTrial s)) ++
  be 1 parts.length ++ be 12 (shownT96 s) ++ be 1 s.timeClass ++ be 3 0 ++ fit 32 nonce ++ fit 48 (setHash s.active) ++ fit 48 (setHash s.shadow) ++
  be 4 (s.cfg 0x1200 0x01) ++ be 4 s.keys.rollback ++ be 4 (bankVersion s.keys b) ++ be 4 (s.ro 0x3002 0x03) ++
  parts.flatMap fun p => be 1 p.1 ++ be 3 0 ++ fit 48 p.2.2.2.1

/-- ATTESTATION_COMPLETE. -/
def attestEnd (s : State) : State :=
  match s.keys.signing with
  | none => s
  | some nonce =>
    let s := (s.onKeys fun k => { k with signing := none }).bump 0x3002 0x03
    let body := statementBody nonce s
    touch 0x3002 0x02 noRow (s.setRoBytes 0x3002 0x02 (body ++ fit 96 (Config.ecdsaSign 0 body)))

def execAttestationComplete (t : Nat) (s : State) : Host.Outcome State Fault Refusal := complete t attestEnd s

/-! ### The update's commands -/

/-- 0x3130:01 Abort update: the bank stays invalid (R668). -/
def abortUpdate (s : State) : State :=
  if updateState s = 1 ∨ updateState s = 2 then
    let s := s.onImian fun i => { i with transfers := i.transfers.filter fun t => t.key != imageKey }
    (setBank (targetBank s) .reset s).setRo 0x3111 0x01 0
  else s

def execAbortUpdate (t : Nat) (who : Who) (s : State) : Host.Outcome State Fault Refusal :=
  complete t (runPlain 0x3130 0x01 who (ok abortUpdate)) s

/-- 0x3130:02 Activate (R663). -/
def activateBank (s : State) : State × Nat :=
  let openNow := s.imian.transfers.any fun t => t.key == imageKey
  let swapping := s.sets.swap.isSome || shadowBusy s
  if updateState s ≠ 2 || openNow || (swapping && s.dev != stRecovery) then (s, 0x06)
  else
    let new := targetBank s
    let s := s.onKeys fun k => { k with previousMeasuredB := k.measuredB, previousMeasuredS := k.measuredS, trialLeft := 0, trialUntil := none }
    let s := (writeBank 0 true (bankActive s.keys.bankWord) new s).bump 0x3140 0x01
    (raise 0x3104 (le 1 new ++ le 4 (bankVersion s.keys new)) s, 0)

def execActivate (t : Nat) (who : Who) (s : State) : Host.Outcome State Fault Refusal :=
  complete t (runThen 0x3130 0x02 who activateBank (resetLater 0x01)) s

/-- A stored blob bound to a measurement, re-wrapped under the new one (R643). -/
def rewrapBlob (s : State) (b : Blob) : Blob :=
  let binding := byteAt b.header 3
  if binding = 0 then b
  else match unwrapKey s b with
    | some key => { b with wrapped := Config.wrapBlob ((rootOf s.life).getD 0) (wrapSalt s.keys binding) b.header key }
    | none => b

def rewrap (s : State) : State := s.onKeys fun k => { k with blobs := k.blobs.map fun e => (e.1, rewrapBlob s e.2) }

/-- The update is confirmed (R665). -/
def confirm (s : State) : State :=
  let w := s.keys.bankWord
  let s := rewrap s
  let s := s.onKeys fun k => { k with
    previousMeasuredB := [], previousMeasuredS := [], trialUntil := none, trialLeft := 0,
    rollback := Nat.min 256 (Nat.max k.rollback (bankRollback k (bankActive w))) }
  raise 0x3106 (le 4 s.keys.rollback) (writeBank 0 false (bankPrevious w) (bankActive w) s)

/-- 0x3130:03 Confirm, in trial only. -/
def confirmCommand (s : State) : State × Nat := if inTrial s then (confirm s, 0) else (s, 0x06)

def execConfirmUpdate (t : Nat) (who : Who) (s : State) : Host.Outcome State Fault Refusal :=
  complete t (runPlain 0x3130 0x03 who confirmCommand) s

/-- 0x3130:04 Revert, in trial only: the device resets once it has answered. -/
def execRevertUpdate (t : Nat) (who : Who) (s : State) : Host.Outcome State Fault Refusal :=
  complete t (runThen 0x3130 0x04 who (fun s => if inTrial s then (s, 0) else (s, 0x06)) fun s => revert 5 (endSessions 3 s)) s

/-- The trial window, counted in RUN and TRIM, has expired (R664, R665). -/
def trialOver (s : State) : State :=
  match s.keys.trialUntil with
  | none => s
  | some u =>
    if !inTrial s || s.now < u then s
    else if s.cfgB 0x3100 0x02 then confirm s
    else revert 4 s

def execTrialWindowExpiry (t : Nat) (s : State) : Host.Outcome State Fault Refusal := complete t trialOver s

end Sys2Proof.Machine
end

