-- ==== Sys2Proof/Machine/Power.lean ====
section
/-! DEFINITION. Power: faults and the states they lead to (R576–R578, R586, R601–R603), SENTINEL and the C-die restart (R624–R626), KENNEL, supply loss and
the wake sequence (R608–R618), and their commands. -/

namespace Sys2Proof.Machine
open Sys2Proof

/-! ### Byrdo (R576–R578) -/

/-- Self-test is cut short (R602): the G-die items stand as run, the C-die items are recorded as skipped, and the set loads. -/
def abortTest (outcome : Nat) (s : State) : State :=
  let s := [7, 8, 9].foldl (fun (s : State) (i : Nat) => s.setRow 0x2F03 0x01 i 3) (runItems 0 7 [] s)
  testRecorded outcome ((s.now - s.power.startAt) / us 1) s

/-- Leave START, RUN, TRIM or SENTINEL for SAFE_TALK or SENTINEL; in START the self-test is cut short and its outcome
recorded (SENTINEL also when it had ended), and in trial the device reverts (R602,
R664). -/
def degradeTo (outcome cause : Nat) (s : State) : State :=
  if testing s then
    let s := abortTest outcome s
    if inTrial s then revert 0 s else afterTest outcome 0 cause (s.onPower fun p => { p with selfTestPassed := true })
  else if outcome = 2 then toSafeTalk cause s
  else enterSentinel cause false (if s.dev == stStart then testRecorded 1 (s.ro 0x2F03 0x03) s else s)

/-- What a reset of Byrdo alone ends (R577). -/
def byrdoEffects (s : State) : State :=
  let s := dropSessions s
  let s := abandonTransfers (fun _ => true) s
  let s := s.onImian fun i => { i with mailbox := .reset, subscriptions := [] }
  cancelSwap 1 (dropValidation (releaseFreeze s))

/-- The comparator's mismatch (0) or the watchdog's expiry (1): Byrdo alone is reset; twice within 60 s SAFE_TALK; a watchdog expiry in trial
reverts. -/
def byrdoReset (cause : Nat) (s : State) : State :=
  if !s.powered || s.dev == stRecovery then s
  else
    let twice : Bool := match s.log.lastByrdoFault with | some a => decide (s.now ≤ a + sec 60) | none => false
    let s := (s.bump 0x2E00 (1 + cause)).setRoV 0x2E00 0x03 noRow (.num (shownT96 s))
    let s := byrdoEffects s
    let s := s.onLog fun l => { l with byrdoDown := true, byrdoCause := cause, lastByrdoFault := some s.now }
    if cause = 1 && inTrial s then revert 2 s
    else if twice && s.gdieOn then degradeTo 2 0x0B s
    else s

def execByrdoLockstepMismatch (t : Nat) (s : State) : Host.Outcome State Fault Refusal := complete t (byrdoReset 0) s

def execByrdoWatchdogExpiry (t : Nat) (s : State) : Host.Outcome State Fault Refusal := complete t (byrdoReset 1) s

/-- BYRDO_RESTART_COMPLETE: event 0x2E01 with the cause and both counts. -/
def byrdoBack (s : State) : State :=
  if s.log.byrdoDown && s.powered then
    let s := s.onLog fun l => { l with byrdoDown := false }
    raise 0x2E01 (le 1 s.log.byrdoCause ++ le 4 (s.ro 0x2E00 0x01) ++ le 4 (s.ro 0x2E00 0x02)) s
  else s

def execByrdoRestartComplete (t : Nat) (s : State) : Host.Outcome State Fault Refusal := complete t byrdoBack s

/-- SHEPHERD_FAILURE (R634); a watchdog expiry in trial reverts (R664). -/
def execShepherdFailure (t cause : Nat) (s : State) : Host.Outcome State Fault Refusal :=
  complete t (fun s =>
    let on := shepherdOn s
    let s := shepherdFailure cause s
    if on && cause == 1 && inTrial s then revert 2 s else s) s

/-! ### Fault limits (R586) -/

/-- The state a fault limit leads to from here; 0xFF none (R601, R603). -/
def faultTarget (s : State) (c : Nat) : Nat :=
  if [17, 18, 20, 21].contains c && (s.dev == stStart || s.running) then stSentinel
  else if [16, 19, 22].contains c && s.gdieOn then stSafeTalk
  else 0xFF

/-- FAULT_LIMIT: a channel has exceeded its limit at 10 successive conversions. -/
def faultLimit (c : Nat) (s : State) : State :=
  let x := s.hkChan c
  if !hkRuns s || c < 16 || c > 23 || x.faultCount < 10 || x.faultActive then s
  else
    let s := s.setHkChan c { x with faultActive := true }
    let new := faultTarget s c
    let s := raise 0x2E05 (le 1 c ++ le 4 (Config.hkFixed c (s.ro 0x2E10 0x02 c)) ++ le 1 new) (s.bump 0x2E30 0x04)
    if c = 23 then calibrationFailed (s.onHk fun h => { h with checkFailed := true })
    else if new = stSentinel then degradeTo 1 0x08 s
    else if new = stSafeTalk then degradeTo 2 0x08 s
    else s

def execFaultLimit (t channel : Nat) (s : State) : Host.Outcome State Fault Refusal := complete t (faultLimit channel) s

/-! ### Loss of the C-die (R21, R26) -/

/-- In RUN and TRIM alone (R601, R603). -/
def cdieFault (cause : Nat) (s : State) : State := if s.running then enterSentinel cause false s else s

def execCdieFatalError (t : Nat) (s : State) : Host.Outcome State Fault Refusal := complete t (cdieFault 0x05) s

def execD2dLinkLost (t : Nat) (s : State) : Host.Outcome State Fault Refusal := complete t (cdieFault 0x06) s

/-- PACKAGE_MEMORY_LOST: one of the eight channels of package memory. -/
def execPackageMemoryLost (t channel : Nat) (s : State) : Host.Outcome State Fault Refusal :=
  complete t (if channel < 8 then cdieFault 0x07 else id) s

/-- 0x2F30:02 Enter SENTINEL (R601, R624). -/
def sentinelCommand (s : State) : State × Nat := if s.running then (enterSentinel 0x01 true s, 0) else (s, 0x06)

def execEnterSentinel (t : Nat) (who : Who) (s : State) : Host.Outcome State Fault Refusal :=
  complete t (runPlain 0x2F30 0x02 who sentinelCommand) s

/-! ### C-die restart (R625, R626) -/

/-- CDIE_EN goes high: a restart with its trigger 0 command, 1 automatic, 2 WAKE, 3 RTC, 4 pack. -/
def startRestart (trigger : Nat) (s : State) : State := s.onPower fun p => { p with restart := some trigger, cdieOn := true }

/-- 0x2F30:03 Restart C-die. -/
def restartCommand (s : State) : State × Nat :=
  if s.dev == stSentinel && s.power.restart.isNone && !faultHolds s then (startRestart 0 s, 0) else (s, 0x06)

def execRestartCdie (t : Nat) (who : Who) (s : State) : Host.Outcome State Fault Refusal :=
  complete t (runPlain 0x2F30 0x03 who restartCommand) s

/-- Automatic restarts of the last 24 h. -/
def recentRestarts (s : State) : List Nat := s.power.restarts.filter fun a => s.now < a + sec 86400

/-- The cause has ended and the clear time has passed since (R625, R628). -/
def causeCleared (s : State) : Bool :=
  match s.power.causeEndedAt with | some a => decide (a + sec (s.cfg 0x2F01 0x03) ≤ s.now) | none => false

/-- AUTOMATIC_RESTART (R625), up to the limit (R626). -/
def automaticRestart (s : State) : State :=
  if s.dev == stSentinel && s.powered && s.power.restart.isNone && !s.power.sentinelByCommand && s.cfgB 0x2F01 0x01 && causeCleared s then
    let l := recentRestarts s
    if l.length < s.cfg 0x2F01 0x02 then startRestart 1 (s.onPower fun p => { p with restarts := l ++ [s.now] })
    else if s.power.limitReported then s
    else raise 0x2F08 (le 1 l.length) (s.onPower fun p => { p with limitReported := true })
  else s

def execAutomaticRestart (t : Nat) (s : State) : Host.Outcome State Fault Refusal := complete t automaticRestart s

/-- Counters of the C-die's subsystems start from 0, their counters-stopped flags clear; the Herder's retirements stay (R626). -/
def cdieCounters (s : State) : State :=
  let kept := [(0x2420, 0x04), (0x2420, 0x06)].map fun o => (o, s.ro o.1 o.2)
  let s := ([0x2230, 0x2840] ++ heldIndexes).foldl (fun (s : State) (i : Nat) => s.clearRange i i) s
  let s := s.clearObjects [(0x2321, 0x01), (0x2C00, 0x03)]
  let s := kept.foldl (fun (s : State) (k : (Nat × Nat) × Nat) => s.setRo k.1.1 k.1.2 k.2) s
  s.onLog fun l => { l with held := [] }

/-- CDIE_RESTART_END: items 7 to 9 have run (R626). -/
def restartEnd (failed : List (Nat × Nat)) (s : State) : State :=
  match s.power.restart with
  | none => s
  | some trigger =>
    if !(s.dev == stSentinel && s.powered) then s
    else
      let f := fun i => failed.any fun e => e.1 == i
      let before := s
      let s := ([7, 8, 9].foldl (fun (s : State) (i : Nat) => if f i then itemFailed i 0 s else s.setRow 0x2F03 0x01 i 1) s)
      let s := slicesTested failed s
      let item := if f 7 then 7 else if itemEightBad failed then 8 else if f 9 then 9 else 0xFF
      let s := (s.onPower fun p => { p with restart := none }).bump 0x2F20 0x04
      let s := raise 0x2F07 (le 1 (b2n (item != 0xFF)) ++ le 1 trigger ++ le 1 item) s
      if item = 0xFF then enterRunState (if trigger = 1 then before.power.cause else 0x01) (showKept (cdieCounters s))
      else (s.onPower fun p => { p with cdieOn := false }).bump 0x2F20 0x05

def execCdieRestartEnd (t : Nat) (failed : List (Nat × Nat)) (s : State) : Host.Outcome State Fault Refusal :=
  complete t (restartEnd failed) s

/-- AUTOMATIC_RESET (R628): SAFE_TALK of cause 0x08. -/
def automaticReset (s : State) : State :=
  if s.dev == stSafeTalk && s.powered && s.power.cause == 8 && s.cfgB 0x2F01 0x04 && causeCleared s then beginStart 0x08 none s else s

def execAutomaticReset (t : Nat) (s : State) : Host.Outcome State Fault Refusal := complete t automaticReset s

/-- 0x2F30:04 Clear power counters (R636). -/
def clearPower (s : State) : State := s.clearObjects [(0x2F20, 0x04), (0x2F20, 0x05)]

def execClearPowerCounters (t : Nat) (who : Who) (s : State) : Host.Outcome State Fault Refusal :=
  complete t (runPlain 0x2F30 0x04 who (ok clearPower)) s

/-! ### KENNEL and supply loss -/

/-- Everything but the Kennel domain goes dark: pins undriven, links gone. -/
def goDark (new cause : Nat) (s : State) : State :=
  let s := setDevState new cause s
  let s := s.onPower fun p => { p with resetLow := false, cdieOn := false, wake := none, wakeFault := false, restart := none, fourFlags := [] }
  let s := (s.onTime fun x => { x with pulses := [] }).onHost fun h => { h with linkUp := false }
  let s := (List.range 8).foldl (fun s p => setLink p 0 s) s
  allPins s

/-- The Kennel domain loses its supply: what it alone keeps is gone (R608, R650, R705). -/
def loseKennel (s : State) : State :=
  let s := s.onTime fun x => { x with latch := ⟨false, 0, 0, 0, 0, false, 0⟩ }
  let s := s.onKeys fun k => { k with kennelCounter := 0, tamperLatch := false }
  s.onPower fun p => { p with record := { WakeRecord.reset with wakes := p.record.wakes }, saveAreaValid := false, vbatLostFlag := true, lastRtc := 0,
                              rtcAt := s.now, wake := none, wakeFault := false, tamperReport := none }

/-- The main supplies leave their limits (R601, R604): KENNEL with VBAT, else OFF. -/
def suppliesLost (s : State) : State :=
  if s.dev == stOff then s
  else
    let old := s.dev
    let s := if old == stKennel then s else (goDark stKennel 0x08 (noteEntry s)).onPower fun p =>
      { p with lossFrom := some old, record := { p.record with others := 0 } }
    let s := s.onPower fun p => { p with mainSupply := false }
    if s.power.vbat then s
    else
      let s := loseKennel s
      let s := if old == stKennel then setDevState stOff 0x08 s else s.onPower fun p => { p with state := stOff }
      s.onPower fun p => { p with lossFrom := some (p.lossFrom.getD old) }

def execSupplyLoss (t : Nat) (s : State) : Host.Outcome State Fault Refusal := complete t suppliesLost s

/-- VBAT falls below 1.8 V (R705): in KENNEL, with the main regulators off, the Kennel domain goes with it; else the flag of the wake record is
set. -/
def vbatLost (s : State) : State :=
  let s := s.onPower fun p => { p with vbat := false }
  let fed : Bool := match s.power.wake with | some w => w.stage ≥ 2 && !w.discharging | none => false
  if s.dev == stOff then s
  else if s.dev == stKennel && !fed then suppliesLost s
  else s.onPower fun p => { p with vbatLostFlag := true }

def execVbatLost (t : Nat) (s : State) : Host.Outcome State Fault Refusal := complete t vbatLost s

/-- 0x2F30:01 Enter KENNEL: from RUN, TRIM, SENTINEL and SAFE_TALK (R601). -/
def kennelAdmitted (s : State) : Bool := s.running || s.dev == stSentinel || s.dev == stSafeTalk

/-- Enter KENNEL by command: the relinquish frame (R680), the pending swap cancelled (R547), sessions closed, event 0x1020, the log written, the
registers saved (R609); then the regulators go off, and without VBAT the Kennel domain with them. -/
def enterKennel (s : State) : State :=
  let s := endSessions 3 (cancelSwap 1 (relinquish 0x01 s))
  let s := raise 0x1020 (le 1 s.dev ++ le 1 stKennel ++ le 1 0x01) s
  let s := latchNow (noteEntry (drainLog (releaseFreeze (leaveRole s))))
  let s := (goDark stKennel 0x01 s).onPower fun p => { p with record := { p.record with others := 0 } }
  if s.power.vbat then s else suppliesLost s

def execEnterKennel (t : Nat) (who : Who) (s : State) : Host.Outcome State Fault Refusal :=
  complete t (runThen 0x2F30 0x01 who (fun s => if kennelAdmitted s then (s, 0) else (s, 0x06)) enterKennel) s

/-! ### Power-fail warning (R617, R618) -/

def powerFail (s : State) : State :=
  if s.power.pfwLow || s.dev == stOff then s
  else
    let s := s.onPower fun p => { p with pfwLow := true }
    if !s.powered then s
    else
      let s := if energyRuns s then energySave true s else s
      let s := (latchNow s).onPower fun p => { p with saveAreaValid := true }
      let s := if receiving s then updateFailed 7 s else s
      raise 0x2F05 (le 1 1) (s.bump 0x2F20 0x03)

def execPowerFailWarning (t : Nat) (s : State) : Host.Outcome State Fault Refusal := complete t powerFail s

/-! ### Wake (R611–R616) -/

/-- Start a wake from attempt 1 (R615), the record begun (R612). -/
def startWake (source : Nat) (s : State) : State :=
  let n := rtcNow s
  s.onPower fun p => { p with
    wake := some ⟨source, 1, 1, false, s.now, s.now⟩, wakeFault := false,
    record := { p.record with source := source, mode := s.rw 0x2F00 0x01, attempts := 0, failedStage := 0, flags := 0, stateBefore := p.before, rtc := n,
                              rtcSpent := (n + 2 ^ 48 - p.enteredRtc) % 2 ^ 48, observed := 0, required := 0, stageTime := 0 } }

/-- Note a source in byte 2 of the record. -/
def otherSource (source : Nat) (s : State) : State :=
  s.onPower fun p => { p with record := { p.record with others := setBit p.record.others source true } }

/-- A source may wake (R611): its bit is set, and an RTC alarm has its seconds. -/
def sourceWakes (source : Nat) (s : State) : Bool :=
  bit (s.rw 0x2F00 0x02) (source - 1) &&
  (source != 2 || (s.rw 0x2F00 0x03 != 0 &&
    decide (s.rw 0x2F00 0x03 * 32768 ≤ (rtcNow s + 2 ^ 48 - s.power.enteredRtc) % 2 ^ 48)))

/-- A source latched under PFW_N acts when the supply is back, code 4 being seen (R611). -/
def actLatched (s : State) : State :=
  match s.power.wake with
  | some w => if w.stage = 0 then startWake w.source (otherSource 4 s) else s
  | none => s

/-- WAKE_SOURCE: `rtc` is the RTC count, `saveGood` whether the save area's CRC holds, `vbat` whether VBAT is present at a cold power-on. -/
def wakeSource (source rtc : Nat) (saveGood vbat : Bool) (s : State) : State :=
  let clocked := fun (s : State) => s.onPower fun p => { p with lastRtc := rtc % 2 ^ 48, rtcAt := s.now }
  let waking : Bool := match s.power.wake with | some w => w.stage ≥ 1 | none => false
  if s.dev == stOff then
    (if source = 0 && s.power.wake.isNone then
      startWake 0 ((clocked s).onPower fun p => { p with mainSupply := true, pfwLow := false, vbat := vbat, saveAreaValid := false, enteredRtc := rtc % 2 ^ 48 })
     else s)
  else if s.dev == stKennel && 1 ≤ source && source ≤ 4 then
    let s := clocked s
    let s := if source = 4 then s.onPower fun p => { p with mainSupply := true, pfwLow := false } else s
    if waking then otherSource source s
    else if source = 4 && s.power.wake.isSome then actLatched s
    else if !sourceWakes source s then otherSource source s
    else
      let s := s.onPower fun p => { p with saveAreaValid := p.saveAreaValid && saveGood }
      let s := if s.power.saveAreaValid then s else s.onTime fun x => { x with latch := { x.latch with valid := false, gatRan := false } }
      if source ≠ 4 && (s.power.pfwLow || !s.power.mainSupply) then
        (if s.power.wake.isSome then otherSource source s
         else s.onPower fun p => { p with wake := some ⟨source, 1, 0, false, s.now, s.now⟩, wakeFault := false })
      else startWake source s
  else if s.dev == stSentinel && s.powered && s.power.sentinelByCommand && s.power.restart.isNone && (source == 1 || source == 2 || source == 5) then
    let s := clocked s
    if sourceWakes source s then
      let s := (startWake source s).onPower fun p => { p with wake := none, record := { p.record with attempts := 1 } }
      startRestart (if source = 1 then 2 else if source = 2 then 3 else 4) s
    else otherSource source s
  else s

def execWakeSource (t source rtc : Nat) (saveGood vbat : Bool) (s : State) : Host.Outcome State Fault Refusal :=
  complete t (wakeSource source rtc saveGood vbat) s

/-- Monitor bits a stage requires (R613). -/
def requiredBits (stage : Nat) : Nat := [0, 0x1F, 0x20, 0x40, 0x80].getD stage 0

/-- The wake has succeeded: the record is closed and START begins, or RECOVERY with RECOVER_N low (R612, R615, R708). -/
def wakeDone (w : Wake) (recoverN : Bool) (s : State) : State :=
  let s := s.onPower fun p => { p with
    wake := none, wakeFault := false, vbatLostFlag := false,
    record := { p.record with attempts := w.attempt, wakes := (p.record.wakes + 1) % 2 ^ 32,
                              flags := 64 * b2n (!p.saveAreaValid && w.source != 0) + 32 * b2n p.vbatLostFlag + 16 * b2n s.keys.tamperLatch +
                                       8 * b2n p.lossFrom.isSome } }
  let s := s.setRo 0x2F02 0x02 (b2n s.power.saveAreaValid)
  let s := beginStart (if w.source = 0 then 0x00 else 0x09) (some w) s
  if recoverN || s.dev == stRecovery then s else enterRecovery s

/-- A stage has failed: the record says which, and the device powers down for 10 ms. -/
def stageFailed (w : Wake) (monitors : Nat) (s : State) : State :=
  s.onPower fun p => { p with
    wake := some { w with discharging := true, stageAt := s.now }
    record := { p.record with attempts := w.attempt, failedStage := w.stage, observed := monitors % 256, required := requiredBits w.stage,
                              stageTime := Nat.min 65535 ((s.now - w.stageAt) / us 100) } }

/-- WAKE_STAGE_END (R613–R615): `monitors` as the mask of R612, `ready` whether the stage's ready signal has held for 3 KNL ticks. -/
def stageEnd (monitors : Nat) (ready recoverN : Bool) (s : State) : State :=
  match s.power.wake with
  | none => s
  | some w =>
    if w.stage = 0 || w.discharging then s
    else
      let scale := 2 ^ (w.attempt - 1)
      let bits := monitors &&& requiredBits w.stage == requiredBits w.stage
      let native := s.power.record.mode == 0
      let delay := if native then us (s.ro 0x2F00 0x04 (w.stage - 1)) else ms (s.ro 0x2F00 0x05 (w.stage - 1))
      let exceeds := decide (w.stageAt + delay * scale ≤ s.now)
      let passes := bits && (if native then exceeds else ready)
      if passes then
        if w.stage ≥ 4 then wakeDone w recoverN s
        else s.onPower fun p => { p with wake := some { w with stage := w.stage + 1, stageAt := s.now } }
      else if exceeds then stageFailed w monitors s
      else s

def execWakeStageEnd (t monitors : Nat) (ready recoverN : Bool) (s : State) : Host.Outcome State Fault Refusal :=
  complete t (stageEnd monitors ready recoverN) s

/-- WAKE_DISCHARGE_END: the next attempt, or WAKE_FAULT after the third (R615, R616). -/
def dischargeEnd (s : State) : State :=
  match s.power.wake with
  | none => s
  | some w =>
    if !w.discharging || s.now < w.stageAt + ms 10 then s
    else if w.attempt ≥ 3 then
      s.onPower fun p => { p with wake := none, wakeFault := true, record := { p.record with flags := setBit p.record.flags 7 true } }
    else s.onPower fun p => { p with wake := some { w with attempt := w.attempt + 1, stage := 1, discharging := false, stageAt := s.now } }

def execWakeDischargeEnd (t : Nat) (s : State) : Host.Outcome State Fault Refusal := complete t dischargeEnd s

/-- POWER_FAIL_RELEASE (R618); in KENNEL a latched source acts once the supply is there (R611). -/
def powerGood (s : State) : State :=
  if !s.power.pfwLow then s
  else
    let s := s.onPower fun p => { p with pfwLow := false }
    if s.powered then raise 0x2F05 (le 1 0) s
    else if s.dev == stKennel && s.power.mainSupply then actLatched s
    else s

def execPowerFailRelease (t : Nat) (s : State) : Host.Outcome State Fault Refusal := complete t powerGood s

end Sys2Proof.Machine
end

