-- ==== Sys2Proof/Machine/Duplex.lean ====
section
/-! DEFINITION. Duplex pairs: supervision, roles, decision records, synchronisation, takeover, swaps (R670–R684), and packs: membership, frames,
placement, home duty (R685–R690). -/

namespace Sys2Proof.Machine
open Sys2Proof

/-! ### Supervision and roles (R671, R672) -/

/-- Mirror protocol version of this model. -/
def mirrorProtocol : Nat := 1
/-- Manifest parts whose hashes supervision carries. -/
def comparedParts : List Nat := [2, 3, 6, 7, 8]

/-- Payload of a supervision frame (assumption 20). -/
def supervisionPayload (s : State) : List Byte :=
  be 16 Config.identity ++ be 1 (roleNow s) ++ be 1 (b2n (s.cfgB 0x3200 0x02)) ++ be 1 (pairStateNow s) ++ be 1 mirrorProtocol ++
  comparedParts.flatMap (fun p => fit 48 (measurement s.keys p)) ++ fit 48 (setHash s.active) ++ be 8 s.gat

/-- A peer as its supervision frame tells of it. -/
def peerOf (l : List Byte) : Peer :=
  { identity := beAt l 0 16, role := beAt l 16 1, prefer := beAt l 17 1 != 0, pairState := beAt l 18 1, protocol := beAt l 19 1
    partHashes := (List.range 5).map fun k => slice l (20 + 48 * k) 48, setHash := slice l 260 48, gat := beAt l 308 8 }

/-- A Wheel enters SYNCING (R677): its supervision frames then ask for an image. -/
def enterSyncing (s : State) : State :=
  (s.setRo 0x3210 0x02 1).onDuplex fun d => { d with records := [], fetching := [], image := [], imageTotal := 0, syncSince := s.now }

/-- The role a device without one takes when it hears a peer (R672). -/
def takeRole (p : Peer) (s : State) : State :=
  if roleNow s ≠ 0 then s
  else if p.role = 1 then enterSyncing (setRole 2 s)
  else
    let mine := s.cfgB 0x3200 0x02
    let lead := if mine != p.prefer then mine else decide (Config.identity < p.identity)
    if lead then (setRole 1 s).setRo 0x3210 0x02 0 else enterSyncing (setRole 2 s)

/-- A supervision frame is taken. -/
def takeSupervision (l : List Byte) (s : State) : State :=
  let p := peerOf l
  let fresh := s.duplex.peer.isNone
  let s := (s.onDuplex fun d => { d with peer := some p }).setRoBytes 0x3210 0x03 (be 16 p.identity)
  let s := takeRole p (if fresh then raise 0x3204 (be 16 p.identity) s else s)
  if roleNow s ≠ 1 then s
  else
    let s := s.setRo 0x3210 0x02 (if p.role = 2 then p.pairState else 0)
    if p.role = 2 ∧ p.pairState = 1 then
      let again : Bool := match s.duplex.imageCutAt with | some a => decide (a + sec 4 ≤ s.now) | none => true
      s.onDuplex fun d => { d with imageDue := d.imageDue || again }
    else s.onDuplex fun d => { d with imageDue := false, imageCutAt := none }

/-! ### Decision records (R674, R675) -/

/-- A received cell's flags by the state of its slot: late when it has left OPEN, beyond the horizon when that is closed (R204, R212). -/
def flaggedCell (late open_ : Bool) (c : Cell) : Cell := { c with quality := c.quality % 32 + 64 * b2n late + 32 * b2n (late && !open_) }

/-- The received words of a stream's cells, with their qualities, by signal. -/
def heldWords (s : State) (h : Nat) (cells : Tab Cell) : List Cell :=
  (List.range (s.stream h).kinds.length).map fun k => tabGet ⟨missingWord, 0⟩ cells (signalBase s h + k)

/-- Move a stream's cells of a slot from those held to those presented, as arrived, and into its history (R205, R231). -/
def nameStream (g i h : Nat) (s : State) : State :=
  match (s.group g).slot? i with
  | none => s
  | some sl =>
    let b := signalBase s h
    let mine := fun (e : Nat × Cell) => b ≤ e.1 && e.1 < b + capacityOf s h
    let late := sl.state != 1
    let open_ := horizonOpen (s.group g) i
    let got := (sl.stash.filter mine).map fun e => (e.1, flaggedCell late open_ e.2)
    let cells := heldWords s h got
    let s := if !late || open_ then enterHistory h i (cells.map (·.word)) (cells.map (·.quality)) s else s
    onSlot g i (fun sl => { sl with
      cells := got.foldl (fun (t : Tab Cell) e => putKey e.1 e.2 t) sl.cells
      stash := sl.stash.filter fun e => !mine e
      arrived := sl.arrived ++ [h], firstAt := some (sl.firstAt.getD s.t96) }) s

/-- A sample of a slot leaves a stream's history. -/
def leaveHistory (h i : Nat) (s : State) : State :=
  s.setStream h { s.stream h with history := (s.stream h).history.map fun e => (e.1, e.2.filter fun y => y.slot != i) }

/-- Take a stream's cells back from those presented: the record does not name it (R231). -/
def unnameStream (g i h : Nat) (s : State) : State :=
  let b := signalBase s h
  let mine := fun (e : Nat × Cell) => b ≤ e.1 && e.1 < b + capacityOf s h
  leaveHistory h i (onSlot g i (fun sl => { sl with
    stash := (sl.cells.filter mine).foldl (fun (t : Tab Cell) e => putKey e.1 e.2 t) sl.stash
    cells := sl.cells.filter fun e => !mine e
    arrived := sl.arrived.filter (· != h) }) s)

/-- A device that takes its own decisions from now on counts the frames it has held as arrived (R680, R681). -/
def adoptHeld (s : State) : State :=
  s.groups.foldl (fun (s : State) e =>
    (e.2.slots.filter fun y => y.2.state != 4).foldl (fun (s : State) y =>
      ((y.2.frames.map (·.1)).filter fun h => !y.2.arrived.contains h && homeHere s h).foldl (fun (s : State) (h : Nat) => nameStream e.1 y.1 h s) s) s) s

/-- Ask the Lead for a stream's frame of a slot (type 5). -/
def fetchFrame (g i h : Nat) (s : State) : State :=
  if s.duplex.fetching.contains (h, g, i) then s
  else
    let s := s.onDuplex fun d => { d with fetching := d.fetching ++ [(h, g, i)] }
    sendMirror false 5 (be 2 h ++ be 1 g ++ be 8 i) (s.bump 0x3220 0x02)

/-- Bring the arrivals of a slot to those a record names; the streams whose frames are missing. -/
def settleSlot (g i : Nat) (named : List Nat) (sl : Slot) (s : State) : State × List Nat :=
  let s := (sl.arrived.filter fun h => !named.contains h).foldl (fun (s : State) (h : Nat) => unnameStream g i h s) s
  let lacking := named.filter fun h => !sl.arrived.contains h
  let (held, missing) := lacking.partition fun h => (lookup h sl.frames).isSome
  (held.foldl (fun (s : State) (h : Nat) => nameStream g i h s) s, missing)

/-- What a decision record makes the Wheel do, once the slot's cells match it. -/
def obeyRecord (g i kind cause : Nat) (named : List Nat) (sl : Slot) (s : State) : State :=
  match kind with
  | 0 => if sl.state = 1 then releaseSlot g i cause s else s
  | 1 => if sl.state = 4 then s else commitSlot g i s
  | _ => if sl.undo.isSome && !named.isEmpty then recallRun g i s else s

/-- Apply the lateness change of a record: cause 1 habitually late, 0 no longer. -/
def obeyLateness (cause h : Nat) (s : State) : State :=
  let s := s.setRow 0x2311 0x01 h cause
  if cause = 1 then raise 0x2303 (le 2 h ++ le 2 (s.ro 0x2311 0x02 h)) s else raise 0x2304 (le 2 h) s

/-- Apply a type-2 or type-3 record; false while it has to wait for its slot or for frames, which are asked for when `fetch`. -/
def applyRecord (fetch : Bool) (type : Nat) (l : List Byte) (s : State) : Bool × State :=
  let g := beAt l 0 1
  let i := beAt l 1 8
  let kind := byteAt l 9
  let cause := byteAt l 10
  let s := if (type == 3 || kind ≤ 2) && i == (s.group g).next then slotOpen g s else s
  if type = 3 then
    let vals := (List.range ((l.length - 9) / 13)).map fun k => (beAt l (9 + 13 * k) 4, beAt l (13 + 13 * k) 8, beAt l (21 + 13 * k) 1 != 0)
    (true, onSlot g i (fun sl => { sl with latched := vals.foldl (fun (t : Tab (Nat × Bool)) v => putKey v.1 v.2 t) sl.latched }) s)
  else
    let named := bitmapStreams (l.drop 11)
    match kind with
    | 3 => (true, suspend g cause (if cause = 0 then s.cfg 0x2300 0x01 else 10) s)
    | 4 => (true, resume g cause s.t96 s)
    | 5 => (true, named.foldl (fun (s : State) (h : Nat) => obeyLateness cause h s) s)
    | _ =>
      match (s.group g).slot? i with
      | none => (decide (i < (s.group g).next), s)
      | some sl =>
        let (s, missing) := settleSlot g i named sl s
        if missing.isEmpty then
          (true, obeyRecord g i kind cause named (((s.group g).slot? i).getD sl) s)
        else (false, if fetch then missing.foldl (fun (s : State) (h : Nat) => fetchFrame g i h s) s else s)

/-- Apply the records received, each group's in order; those that have to wait stay.  The lag is shown in 0x3210:05. -/
def applyRecords (fetch : Bool) (s : State) : State :=
  let all := s.duplex.records
  let (left, s) := all.foldl (fun (a : List (Nat × Nat × List Byte) × State) r =>
    if a.1.any fun w => beAt w.2.2 0 1 == beAt r.2.2 0 1 then (a.1 ++ [r], a.2)
    else match applyRecord fetch r.1 r.2.2 a.2 with
      | (true, s) => (a.1, s.setRo 0x3210 0x05 ((s.now - r.2.1) / us 1))
      | (false, s) => (a.1 ++ [r], s)) (([] : List (Nat × Nat × List Byte)), s)
  s.onDuplex fun d => { d with records := left }

/-- The frame of a type-5 reply is slotted. -/
def fetchedFrame (l : List Byte) (s : State) : State :=
  let h := beAt l 0 2
  let key := (h, beAt l 2 1, beAt l 3 8)
  if !s.duplex.fetching.contains key then s
  else
    let s := s.onDuplex fun d => { d with fetching := d.fetching.filter (· != key) }
    let raw := l.drop 11
    let s := match configurationFor s (s.stream h) raw.length with
      | some c =>
        let f := parseData c s.timeClass raw
        stashCells h key.2.1 key.2.2 f.words f.quality raw s
      | none => s
    applyRecords true s

/-- The Lead answers a type-5 fetch with the frame it holds. -/
def answerFetch (l : List Byte) (s : State) : State :=
  match (s.group (beAt l 2 1)).slot? (beAt l 3 8) with
  | some sl => (match lookup (beAt l 0 2) sl.frames with | some f => sendMirror false 5 (l.take 11 ++ f) s | none => s)
  | none => s

/-! ### The state image (R677–R679) -/

/-- A slot of the image, with the Wheel's own cells held for records to name. -/
def keepOwn (mine x : Slot) : Slot :=
  let stash := mine.cells.foldl (fun (t : Tab Cell) c => if (lookup c.1 x.cells).isNone then putKey c.1 c.2 t else t) mine.stash
  let frames := mine.frames.foldl (fun (t : Tab (List Byte)) f => if (lookup f.1 t).isNone then putKey f.1 f.2 t else t) x.frames
  { x with stash := stash, frames := frames }

/-- Load an image: its state words, the Wheel's own cells kept for records to name, and GAT's cycle count (R678). -/
def loadImage (m : Image) (s : State) : State :=
  let own := s.groups
  let groups := m.groups.map fun e =>
    let slots := e.2.slots.map fun y => (y.1, match (tabGet Group.reset own e.1).slot? y.1 with | some mine => keepOwn mine y.2 | none => y.2)
    (e.1, { e.2 with slots := slots })
  let streams := s.ingest.streams.map fun e => match lookup e.1 m.histories with
    | some (hist, late) => (e.1, { e.2 with history := hist, lateness := late })
    | none => e
  let shown := m.shown.filter fun e => imageIndexes.contains (e.1 / 0x100000000)
  let status := shown.foldl (fun (d : Dict) e => putKey e.1 e.2 d) (s.status.filter fun e => !imageIndexes.contains (e.1 / 0x100000000))
  let status := status.filter fun e => decide (e.2 ≠ defaultAt e.1)
  let s := { s with eddy := m.eddy, oxbow := m.oxbow, alarm := { m.alarm with pins := s.alarm.pins, lastBeat := s.alarm.lastBeat, beatLost := s.alarm.beatLost },
                    groups := groups, ingest := { s.ingest with streams := streams }, status := status }
  let new := m.gat / 2 ^ 32 * 2 ^ 32 + s.gat % 2 ^ 32
  let s := s.onTime fun x => { x with nominal := m.nominal, estimated := m.estimated }
  if new = s.gat then s
  else
    let added := gatMinus new s.gat
    let s := s.onTime fun x => { x with gatx := x.gatx / 2 ^ 96 * 2 ^ 96 + new * 2 ^ 32 + x.gatx % 2 ^ 32, edges := [] }
    raise 0x200A (i64 (added / 2 ^ 32)) (s.bump 0x2011 0x05)

/-- WHEEL_IN_STEP: the whole image has come, and the mirror protocol version and the active set hash equal the Lead's. -/
def wheelInStep (s : State) : State :=
  match s.duplex.peer with
  | none => s
  | some p =>
    if roleNow s ≠ 2 || pairStateNow s ≠ 1 || s.duplex.imageTotal = 0 || s.duplex.image.length ≠ s.duplex.imageTotal ||
       p.protocol ≠ mirrorProtocol || p.setHash ≠ fit 48 (setHash s.active) then s
    else
      let bytes := s.duplex.image.flatMap (·.2)
      let s := match Config.imageState bytes with | some m => loadImage m s | none => s
      let differ := (comparedParts.zip p.partHashes).filter fun e => fit 48 (measurement s.keys e.1) != e.2
      let s := (s.setRo 0x3210 0x02 2).setRo 0x3210 0x04 (b2n (!differ.isEmpty))
      let took := (s.now - s.duplex.syncSince) / ms 1
      let s := applyRecords true (s.onDuplex fun d => { d with image := [], imageTotal := 0 })
      let s := raise 0x3205 (le 4 took) (s.bump 0x3220 0x04)
      if differ.isEmpty then s else raise 0x320A (le 1 (differ.foldl (fun (n : Nat) e => n + 2 ^ e.1) 0 % 256)) s

def execWheelInStep (t : Nat) (s : State) : Host.Outcome State Fault Refusal := complete t wheelInStep s

/-- A segment of the image has come; the first marks the cut, from which on records are stored. -/
def takeImage (l : List Byte) (s : State) : State :=
  if roleNow s ≠ 2 || pairStateNow s ≠ 1 then s
  else
    let s := if beAt l 0 2 = 0 then s.onDuplex fun d => { d with records := [], image := [] } else s
    s.onDuplex fun d => { d with image := putKey (beAt l 0 2) (l.drop 4) d.image, imageTotal := beAt l 2 2 }

/-! ### Takeover (R680) -/

/-- A held alarm payload as it is sent: byte 45 is 1, the tag made anew. -/
def retagged (s : State) (l : List Byte) : List Byte :=
  let body := l.take 45 ++ be 1 1 ++ slice l 46 (l.length - 76)
  let h := beAt body (body.length - 4) 2
  let tag := match keyOf s h [0] with | some k => (Config.hmacSha256 k body).take 16 | none => List.replicate 16 0
  body ++ fit 16 tag ++ l.drop (l.length - 14)

/-- Send a held transmission. -/
def sendHeld (x : HeldTx) (s : State) : State :=
  let s := if x.source = srcAlarm then putAlarmFrame x.unit (retagged s x.payload) s
           else if x.source < 0x200 then putGooseFrame x.unit x.sport x.dst x.payload s
           else sendToSub x.unit x.sport x.payload s
  sentMark x.source x.number s

/-- The Wheel takes over: cause 0 loss, 1 relinquish with its own cause. -/
def takeover (cause relinquished : Nat) (s : State) : State :=
  let st := pairStateNow s
  let s := if st = 2 then applyRecords false s else s
  let s := (setRole 1 s).setRo 0x3210 0x02 0
  let s := raise 0x3202 (le 1 st ++ le 1 cause ++ le 1 relinquished) (s.bump 0x3220 0x01)
  let held := s.duplex.heldTx.filter fun x => s.now < x.heldAt + gridCycle s
  let s := adoptHeld (s.onDuplex fun d => { d with records := [], fetching := [], image := [], imageTotal := 0, heldTx := [] })
  let s := (List.range 64).foldl (fun (s : State) (g : Nat) => takeDecisions g s) s
  held.foldl (fun (s : State) x => sendHeld x s) s

/-! ### Pair swaps (R684) -/

/-- One value of a set image. -/
def readImageValue (ty : Ty) (l : List Byte) : Val × List Byte :=
  let n := beAt l 0 4
  match ty with
  | .octets => (.oct (slice l 4 n), l.drop (4 + n))
  | .string => (.oct (slice l 4 n), l.drop (4 + n))
  | .domain => (.oct (slice l 4 n), l.drop (4 + n))
  | .bool => (.num (beAt l 0 1), l.drop 1)
  | t => (.num (beAt l 0 (t.width / 8)), l.drop (t.width / 8))

/-- The values of a run of a set image. -/
def readImageRun : Nat → Ty → Nat → Nat → Nat → List Byte → Dict → Dict × List Byte
  | 0, _, _, _, _, l, d => (d, l)
  | n + 1, ty, idx, sub, row, l, d =>
    let (v, rest) := readImageValue ty l
    readImageRun n ty idx sub (row + 1) rest (writeIn d idx sub row v)

/-- The records of a set image, with fuel for its bytes. -/
def readImageRecords : Nat → List Byte → Dict → Dict
  | 0, _, d => d
  | fuel + 1, l, d =>
    if l.length < 12 then d
    else
      let idx := beAt l 0 2
      let sub := beAt l 2 1
      let row := if beAt l 4 4 = 0xFFFFFFFF then noRow else beAt l 4 4
      match findObj idx sub with
      | none => d
      | some o =>
        let (d, rest) := readImageRun (Nat.min (beAt l 8 4) l.length) o.ty idx sub row (l.drop 12) d
        readImageRecords fuel rest d

/-- The set of an image (R548). -/
def readImage (l : List Byte) : Dict := readImageRecords l.length (l.drop 4) (writeIn [] 0x1200 0x01 noRow (.num (beAt l 0 4)))

/-- A type-8 frame. -/
def takeSwap (l : List Byte) (s : State) : State :=
  let r := roleNow s
  match byteAt l 0 with
  | 0 =>
    if r ≠ 2 then s
    else
      let s := if beAt l 1 2 = 0 then s.onDuplex fun d => { d with swapImage := [] } else s
      let s := s.onDuplex fun d => { d with swapImage := putKey (beAt l 1 2) (l.drop 5) d.swapImage }
      if s.duplex.swapImage.length ≠ beAt l 3 2 then s
      else
        let set := readImage (s.duplex.swapImage.flatMap (·.2))
        let s := nextGeneration (({ s with shadow := set }).onDuplex fun d => { d with swapImage := [] })
        let (s, good) := validateShadow (beginValidation s)
        swapFrame (if good then 1 else 2) [] (setShadowState (if good then 3 else 4) s)
  | 1 =>
    (match s.sets.swap with
     | some w => if r = 1 ∧ s.duplex.swapAckUntil.isSome = true then swapPending w s else s
     | none => s)
  | 2 => if r = 1 ∧ s.duplex.swapAckUntil.isSome = true then cancelSwap 2 s else s
  | 3 =>
    if r ≠ 2 || shadowState s ≠ 3 then s
    else swapPending ⟨beAt l 1 1, beAt l 2 12, true, 3, s.now⟩ s
  | _ => if r = 2 then cancelSwap 0 s else s

/-! ### Frames of the peer (R670, R674) -/

/-- A frame of the peer, in its sequence. -/
def takeMirror (type : Nat) (l : List Byte) (s : State) : State :=
  let r := roleNow s
  match type with
  | 1 => takeSupervision l s
  | 2 | 3 =>
    if r = 2 ∧ (pairStateNow s = 1 ∨ pairStateNow s = 2) then
      let s := s.onDuplex fun d => { d with records := d.records ++ [(type, s.now, l)] }
      if pairStateNow s = 2 then applyRecords true s else s
    else s
  | 4 => if r = 2 then dropHeld (beAt l 0 2) (beAt l 2 8) s else s
  | 5 => if r = 1 then answerFetch l s else if r = 2 then fetchedFrame l s else s
  | 6 => takeImage l s
  | 7 => if r = 2 then takeover 1 (byteAt l 0) s else s
  | 8 => takeSwap l s
  | _ => s

/-- Frames ahead of the next one that follow it without a gap are taken. -/
def takeRun' : Nat → State → State
  | 0, s => s
  | n + 1, s =>
    match s.duplex.rxSeq with
    | none => s
    | some k =>
      match lookup k s.duplex.ahead with
      | none => s
      | some (type, l) =>
        takeRun' n (takeMirror type l (s.onDuplex fun d => { d with rxSeq := some ((k + 1) % 2 ^ 32), ahead := delKey k d.ahead }))

/-- How far a sequence number lies past another. -/
def seqPast (a b : Nat) : Nat := (a + 2 ^ 32 - b % 2 ^ 32) % 2 ^ 32

/-- A path from the peer has been heard within the loss timeout. -/
def pathHeard (s : State) (p : Nat) : Bool :=
  match lookup p s.duplex.heard with | some a => decide (s.now < a + us (s.cfg 0x3200 0x04)) | none => false

/-- The next frame is lost: every mirror path heard has passed it, or, with neither heard, pair M has. -/
def nextLost (s : State) : Bool :=
  match s.duplex.rxSeq with
  | none => false
  | some k =>
    let live := if pathHeard s 0 || pathHeard s 1 then [0, 1].filter (pathHeard s) else [2]
    !s.duplex.ahead.isEmpty && live.all fun p => match lookup p s.duplex.high with | some n => seqPast n k < 2 ^ 31 | none => false

/-- The number nearest past k among those ahead. -/
def nearest (k : Nat) (l : List Nat) : Nat := l.foldl (fun (a n : Nat) => if seqPast n k < seqPast a k then n else a) (l.headD k)

/-- Pass over a frame that is lost: a gap, which moves a Wheel to SYNCING (R674); frames of pair M alone tell of none. -/
def passGap (s : State) : State :=
  match s.duplex.rxSeq with
  | none => s
  | some k =>
    let s := s.onDuplex fun d => { d with rxSeq := some (nearest k (d.ahead.map (·.1))) }
    if roleNow s = 2 && pairStateNow s ≠ 3 && (pathHeard s 0 || pathHeard s 1) then enterSyncing (s.bump 0x3220 0x03) else s

/-- A frame of the peer arrives on a path (0 P6, 1 P7, 2 pair M): the first copy of each sequence number is taken, in order. -/
def pairRx (path seq type : Nat) (l : List Byte) (s : State) : State :=
  let s := s.onDuplex fun d => { d with heard := putKey path s.now d.heard, high := putKey path seq d.high, rxSeq := some (d.rxSeq.getD seq) }
  let s := if type = 1 ∧ path < 2 ∧ roleNow s = 2 ∧ pairStateNow s = 3 then enterSyncing s else s
  let next := s.duplex.rxSeq.getD seq
  if seqPast seq next ≥ 2 ^ 31 || (lookup seq s.duplex.ahead).isSome then s
  else
    let s := s.onDuplex fun d => { d with ahead := putKey seq (type, l) d.ahead }
    let s := takeRun' (s.duplex.ahead.length) s
    if nextLost s then
      let s := passGap s
      takeRun' (s.duplex.ahead.length) s
    else s

/-! ### Packs: the exchange of a slot (R688) -/

/-- Frames of types 18 to 20 that a waiting PROCESS expects at its stage: type and member. -/
def expectedFrames (s : State) (g stage : Nat) : List (Nat × Nat) :=
  let ms := s.duplex.members.map (·.1)
  let homes := ms.filter fun m => s.duplex.homes.any fun e => e.2.1 == m && groupOf s e.1 == g
  if stage = 1 then
    homes.map (fun m => (18, m)) ++ (ms.filter fun m => !(nodesOwed s g m (memberId s)).isEmpty).map fun m => (19, m)
  else if placesHere s && oxbowOn s g then homes.map fun m => (20, m)
  else []

/-- The frames a waiting PROCESS still lacks. -/
def lackingFrames (s : State) (g : Nat) (w : PackWait) : List (Nat × Nat) :=
  (expectedFrames s g w.stage).filter fun e => !s.duplex.pack.got.contains (g, w.slot, e.1, e.2)

/-- The last part of a PROCESS that waited: components, results, rules; then the commit it belonged to, and the decisions it held up. -/
def finishProcess (g : Nat) (w : PackWait) (s : State) : State :=
  let before := s
  let s := sendResults g w.slot false (oxbowTrack g w.slot s)
  let s := onSlot g w.slot (fun x => { x with undo := x.undo.map fun u => { u with
    alloc := if s.oxbow.lastId = before.oxbow.lastId then none else some before.oxbow.lastId
    gens := (s.oxbow.gens.filter fun e => tabGet 0 before.oxbow.gens e.1 != e.2).map fun e => (e.1, tabGet 0 before.oxbow.gens e.1) } }) s
  let s := s.onPack fun p => { p with waiting := delKey g p.waiting, got := p.got.filter fun e => e.1 != g || w.slot < e.2.1 }
  let s := alarmProcess g w.slot false w.direct s
  let s := if w.direct then (match (s.group g).slot? w.slot with | some sl => commitRest g w.slot sl s | none => s) else s
  takeDecisions g s

/-- Take a waiting PROCESS on as far as the frames received allow. -/
def packAdvance (g : Nat) (s : State) : State :=
  match lookup g s.duplex.pack.waiting with
  | none => s
  | some w =>
    if !(lackingFrames s g w).isEmpty then s
    else if w.stage = 1 then
      let s := sendEdges g w.slot (oxbowEdges g w.slot s)
      let w := { w with stage := 2 }
      let s := s.onPack fun p => { p with waiting := putKey g w p.waiting }
      if (lackingFrames s g w).isEmpty then finishProcess g w s else s
    else finishProcess g w s

/-- PACK_EXCHANGE_LATE: a frame expected has not come within 40 µs; its member's counts are 0, its nodes not usable, its edges as they were. -/
def packLate (g slot type m : Nat) (s : State) : State :=
  match lookup g s.duplex.pack.waiting with
  | none => s
  | some w =>
    if w.slot ≠ slot || s.now < w.since + us 40 || !(lackingFrames s g w).contains (type, m) then s
    else
      let s := s.onPack fun p => { p with got := (g, slot, type, m) :: p.got,
                                          counts := if type = 18 then p.counts.filter fun e => e.1 / 65536 != m else p.counts }
      packAdvance g (raiseOnce 0x320B 0 (le 1 g ++ le 8 slot ++ le 1 type ++ le 1 m) (s.bump 0x3220 0x06))

def execPackExchangeLate (t group slot type member : Nat) (s : State) : Host.Outcome State Fault Refusal :=
  complete t (packLate group slot type member) s

/-! ### Packs: membership (R685, R686, R690) -/

/-- The mask of the members present, this device among them. -/
def memberMask (s : State) : Nat := (presentIds s).foldl (fun (n m : Nat) => n + 2 ^ m) 0

/-- A side of a member has been heard within the loss timeout. -/
def sideHeard (s : State) (a : Nat) : Bool := decide (s.now < a + us (s.cfg 0x3200 0x04))

/-- The ring state from what is heard: 0 CLOSED, 1 OPEN, 2 DOWN; with the lowest member not heard both ways. -/
def ringNow (s : State) : Nat × Nat :=
  let l := s.duplex.members
  if l.isEmpty then (2, 0xFF)
  else match l.find? fun e => !(sideHeard s e.2.side6 && sideHeard s e.2.side7) with
    | some e => (1, e.1)
    | none => (0, 0xFF)

/-- Show the ring state; each change raises event 0x3209. -/
def ringUpdate (s : State) : State :=
  let (r, m) := ringNow s
  if s.ro 0x3211 0x04 = r then s else raise 0x3209 (le 1 r ++ le 1 m) (s.setRo 0x3211 0x04 r)

/-- The payload of a pack supervision frame. -/
def packSupervision (s : State) : List Byte :=
  be 16 Config.identity ++ be 1 (memberId s) ++ be 1 (s.ro 0x3211 0x04) ++ be 2 (memberMask s) ++ be 1 mirrorProtocol ++ be 3 0 ++ fit 48 (setHash s.active)

/-- A member's supervision frame arrives from a side. -/
def takeMember (side m : Nat) (l : List Byte) (s : State) : State :=
  let id := beAt l 0 16
  match lookup m s.duplex.members with
  | some x =>
    if x.identity ≠ id then raiseOnce 0x3207 m (le 2 (memberMask s) ++ le 1 2) s
    else
      let x := if side = 0 then { x with side6 := s.now, lastHeard := s.now } else { x with side7 := s.now, lastHeard := s.now }
      ringUpdate (s.onDuplex fun d => { d with members := putKey m x d.members })
  | none =>
    let s := s.onDuplex fun d => { d with members := putKey m ⟨id, s.now, s.now, s.now⟩ d.members }
    ringUpdate (raise 0x3207 (le 2 (memberMask s) ++ le 1 0) (s.setRoBytes 0x3211 0x05 (be 16 id) m))

/-- A frame under this device's own ID from another device: the later joiner stays out (R685).  A device that has joined no one within the loss
timeout of its entry to RUN takes itself for it (assumption 29). -/
def duplicateId (s : State) : State :=
  let s := raiseOnce 0x3207 (memberId s) (le 2 (memberMask s) ++ le 1 2) s
  if s.duplex.members.isEmpty && s.now < s.power.enteredAt + us (s.cfg 0x3200 0x04) then leaveRole s else s

/-- Members lost within the loss timeout: the next lowest ID places when the placing member is among them (R690). -/
def membersLost (s : State) : State :=
  let gone := (s.duplex.members.filter fun e => !sideHeard s e.2.lastHeard).map (·.1)
  if gone.isEmpty then ringUpdate s
  else
    let placer := placerOf s
    let s := gone.foldl (fun (s : State) (m : Nat) =>
      let s := s.onDuplex fun d => { d with members := delKey m d.members, packSeen := delKey m d.packSeen,
                                            pack := { d.pack with counts := d.pack.counts.filter fun e => e.1 / 65536 != m } }
      raise 0x3207 (le 2 (memberMask s) ++ le 1 1) (s.setRoBytes 0x3211 0x05 (List.replicate 16 0) m)) s
    let s := if gone.contains placer then
        let s := (List.range 64).foldl (fun (s : State) (g : Nat) => oxbowStop g s) (s.onPack fun p => { p with results := [] })
        restartLocation (resetMode 1 s)
      else s
    ringUpdate ((s.duplex.pack.waiting.map (·.1)).foldl (fun (s : State) (g : Nat) => packAdvance g s) s)

/-! ### Packs: placement across members (R263, R690) -/

/-- The load a member carries: the streams whose home or mirror it is. -/
def memberLoad (s : State) (m : Nat) : Q :=
  Q.sum ((s.duplex.homes.filter fun e => e.2.1 == m || e.2.2 == m).map fun e => streamLoad s e.1)

/-- The least loaded of some members; ties to the lowest ID. -/
def leastMember (s : State) (l : List Nat) : Nat :=
  l.foldl (fun (a m : Nat) => if Q.lt (memberLoad s m) (memberLoad s a) then m else a) (l.headD 0xFF)

/-- The member a stream is pinned to (R242). -/
def pinnedMember (s : State) (h : Nat) : Option Nat := (hintsOf s 3 h).head?.map fun r => s.cfg 0x2402 0x04 r

/-- Give a stream its home, beside the others of its set, and its mirror. -/
def placeHome (h : Nat) (set : List Nat) (s : State) : State :=
  let ids := presentIds s
  let beside := (set.filterMap (homeOf s)).find? ids.contains
  let (home, s) := match pinnedMember s h with
    | some m => if ids.contains m then (m, s) else (beside.getD (leastMember s ids), hintMissed ((hintsOf s 3 h).headD 0) 2 h s)
    | none => (beside.getD (leastMember s ids), s)
  let others := ids.filter (· != home)
  let mirror := if others.isEmpty then 0xFF else leastMember s others
  s.onDuplex fun d => { d with homes := putKey h (home, mirror) d.homes }

/-- A present stream needs placing: it has no home, or its mirror is absent while another member could be it. -/
def needsHome (s : State) (h : Nat) : Bool :=
  match lookup h s.duplex.homes with
  | none => true
  | some (_, m) => !(presentIds s).contains m && (presentIds s).length > 1

/-- Choose a new mirror for a stream that keeps its home; a pin to another member that is present is not honoured: reason 1 (R242, R245). -/
def placeMirror (h home : Nat) (s : State) : State :=
  let others := (presentIds s).filter (· != home)
  let s := match pinnedMember s h with
    | some m => if m != home && others.contains m then hintMissed ((hintsOf s 3 h).headD 0) 1 h s else s
    | none => s
  s.onDuplex fun d => { d with homes := putKey h (home, if others.isEmpty then 0xFF else leastMember s others) d.homes }

/-- Drain a member above the high-water to its low-water (R247 over members): its largest streams without hints go to the least loaded member below
the low-water. -/
def drainMember : Nat → Nat → State → State
  | 0, _, s => s
  | n + 1, m, s =>
    let util := fun (k : Nat) => Q.div (memberLoad s k) (Q.ofNat (admissionLimit s))
    let low := (presentIds s).filter fun k => k != m && Q.lt (util k) (bp (s.cfg 0x2400 0x03))
    if Q.le (util m) (bp (s.cfg 0x2400 0x03)) || low.isEmpty then s
    else
      let mine := (s.duplex.homes.filter fun e => e.2.1 == m && !hinted s e.1).map (·.1)
      match mine.foldl (fun (a : Option Nat) (h : Nat) =>
        match a with | some b => if Q.lt (streamLoad s b) (streamLoad s h) then some h else some b | none => some h) none with
      | none => s
      | some h => drainMember n m (placeMirror h (leastMember s low) s)

/-- The placing member's pass: streams without a home, mirrors that are gone, members above the high-water; each change is recorded to all
(type 17), and the record's sequence number is the epoch. -/
def placePack (s : State) : State :=
  if !packed s || !placesHere s then s
  else
    let before := s.duplex.homes
    let ids := presentIds s
    let live := s.ingest.streams.map (·.1) |>.filter fun h => h < firstLocal && streamState s h ≥ 2
    let lost := live.filter fun h => match homeOf s h with | some m => !ids.contains m | none => false
    let todo := live.filter fun h => needsHome s h && !lost.contains h
    let s := (placementOrder s todo).foldl (fun (s : State) (p : Nat × List Nat) =>
      match homeOf s p.1 with | some m => placeMirror p.1 m s | none => placeHome p.1 p.2 s) s
    let exceeds := if s.cfgB 0x2400 0x01 then ids.filter fun m => Q.lt (bp (s.cfg 0x2400 0x02)) (Q.div (memberLoad s m) (Q.ofNat (admissionLimit s))) else []
    let s := exceeds.foldl (fun (s : State) (m : Nat) => drainMember s.duplex.homes.length m s) s
    let new := s.duplex.homes.filter fun e => lookup e.1 before != some e.2
    if new.isEmpty then s
    else
      let s := s.onDuplex fun d => { d with epoch := d.txSeq }
      sendPack 0xFF 17 0xFF 0 (new.map fun e => be 2 e.1 ++ be 1 e.2.1 ++ be 1 e.2.2) [] s

/-! ### Packs: home duty (R689) -/

/-- Open slots of the streams taken over are filled from the cells this device has kept. -/
def adoptCells (h : Nat) (s : State) : State :=
  let g := groupOf s h
  ((s.group g).slots.filter fun e => e.2.state != 4 && (lookup h e.2.frames).isSome && !e.2.arrived.contains h).foldl
    (fun (s : State) e => nameStream g e.1 h (onSlot g e.1 (fun sl => { sl with expected := if sl.expected.contains h then sl.expected else sl.expected ++ [h] }) s)) s

/-- HOME_DUTY_TRANSFERRED: this device becomes home of the lost member's streams that it mirrors. -/
def homeDuty (m : Nat) (s : State) : State :=
  let mine := (s.duplex.homes.filter fun e => e.2.1 == m && e.2.2 == memberId s).map (·.1)
  if !inPack s || (lookup m s.duplex.members).isSome || m == memberId s || mine.isEmpty then s
  else
    let s := s.onDuplex fun d => { d with homes := mine.foldl (fun (t : Tab (Nat × Nat)) h => putKey h (memberId s, 0xFF) t) d.homes }
    let s := mine.foldl (fun (s : State) (h : Nat) => adoptCells h s) s
    let s := raise 0x3208 (le 1 m ++ le 1 (memberId s) ++ le 2 mine.length) (s.bump 0x3220 0x05)
    let s := sendPack 0xFF 23 0xFF 0 (mine.map fun h => be 2 h ++ be 1 m ++ be 1 (memberId s)) [] s
    let s := (mine.map (groupOf s)).eraseDups.foldl (fun (s : State) (g : Nat) => takeDecisions g s) s
    placePack s

def execHomeDutyTransferred (t member : Nat) (s : State) : Host.Outcome State Fault Refusal := complete t (homeDuty member) s

/-! ### Pack frames received (R688) -/

/-- Entries of a payload. -/
def packEntries (n size : Nat) (l : List Byte) : List (List Byte) := (List.range n).map fun k => slice l (size * k) size

/-- The mode table and first-ranked bus of a type-22 frame. -/
def takeModes (l : List Byte) (s : State) : State :=
  let s := (List.range 32).foldl (fun (s : State) (n : Nat) =>
    let r := slice l (16 * n) 16
    ((((((s.setRow 0x2512 1 n (beAt r 0 2)).setRow 0x2512 2 n (beAt r 2 2)).setRow 0x2512 3 n (beAt r 4 2)).setRow 0x2512 4 n (beAt r 6 1)).setRow
      0x2512 5 n (beAt r 7 4)).setRow 0x2512 6 n (beAt r 11 1)).setRow 0x2512 7 n (beAt r 12 4)) s
  ((((s.setRo 0x2513 0x01 2).setRo 0x251A 0x03 2).setRow 0x251A 4 0 (beAt l 512 4)).setRow 0x251A 5 0 (beAt l 516 4))

/-- The payload of a pack frame of types 17 to 23. -/
def takePack (type origin g n slot seq : Nat) (l : List Byte) (s : State) : State :=
  match type with
  | 17 =>
    s.onDuplex fun d => { d with epoch := seq, homes := (packEntries n 4 l).foldl (fun (t : Tab (Nat × Nat)) e => putKey (beAt e 0 2) (beAt e 2 1, beAt e 3 1) t) d.homes }
  | 18 =>
    s.onPack fun p => { p with
      got := (g, slot, 18, origin) :: p.got
      counts := (packEntries n 8 l).foldl (fun (t : Tab Nat) e => putKey (origin * 65536 + beAt e 0 1 * 256 + beAt e 1 1) (beAt e 4 4) t) p.counts }
  | 19 =>
    s.onPack fun p => { p with
      got := (g, slot, 19, origin) :: p.got
      nodes := (packEntries n 20 l).foldl (fun (t : Tab PackNode) e => putKey (beAt e 0 2) ⟨slot, beAt e 2 1, beAt e 4 4, beAt e 8 4, beAt e 12 4⟩ t) p.nodes }
  | 20 =>
    let nodes := (l.length - 8 * n) / 4
    let edges := n - nodes
    let rest := packEntries nodes 12 (l.drop (8 * edges))
    s.onPack fun p => { p with
      got := (g, slot, 20, origin) :: p.got
      edges := (packEntries edges 8 l).foldl (fun (t : Tab (Nat × Nat)) e => putKey (beAt e 0 4) (slot, beAt e 4 1) t) p.edges,
      states := rest.foldl (fun (t : Tab (Nat × Nat)) e => putKey (beAt e 0 2) (slot, beAt e 2 1) t) p.states,
      nodes := rest.foldl (fun (t : Tab PackNode) e =>
        let old := tabGet (⟨0, 0, 0, 0, 0⟩ : PackNode) t (beAt e 0 2)
        putKey (beAt e 0 2) ⟨slot, beAt e 3 1, beAt e 4 4, old.angle, beAt e 8 4⟩ t) p.nodes }
  | 21 =>
    (packEntries n 16 l).foldl (fun (s : State) e =>
      onSlot g slot (fun sl => if sl.state = 4 then sl else { sl with cells := putKey (beAt e 0 4) ⟨beAt e 8 8, beAt e 4 1⟩ sl.cells }) s) s
  | 22 =>
    let s := s.onPack fun p => { p with results := putKey g (beAt l 0 2, beAt l 2 2) p.results }
    if l.length = 4 * n + 520 && !placesHere s then takeModes (l.drop (4 * n)) s else s
  | _ =>
    s.onDuplex fun d => { d with homes := (packEntries n 4 l).foldl (fun (t : Tab (Nat × Nat)) e => putKey (beAt e 0 2) (beAt e 3 1, 0xFF) t) d.homes }

/-- A pack frame arrives on P6 (side 0) or P7 (side 1): forwarded unless it is for this device alone or its own; the first copy of each origin and
sequence number is taken. -/
def packRx (side seq type : Nat) (frame l : List Byte) (s : State) : State :=
  let origin := byteAt l 0
  let dest := byteAt l 1
  let body := l.drop 16
  if !inPack s then s
  else if origin = memberId s then
    (if type = 16 ∧ beAt body 0 16 ≠ Config.identity then duplicateId s else s)
  else
    let s := if dest = memberId s then s else sendPort (if side = 0 then 7 else 6) 4 0 0 mirrorMac mirrorType frame s
    let s := if type = 16 then takeMember side origin body s else s
    let seen := tabGet [] s.duplex.packSeen origin
    if seen.contains seq || !(dest == 0xFF || dest == memberId s) then s
    else
      let s := s.onDuplex fun d => { d with packSeen := putKey origin ((seq :: seen).take 256) d.packSeen }
      if type = 16 then s
      else if type ≥ 24 then s.bump 0x3220 0x07
      else
        let g := byteAt l 2
        packAdvance g (takePack type origin g (byteAt l 3) (beAt l 4 8) seq body s)

/-! ### The commands of the tables -/

/-- MIRROR_FRAME_RX: `frame` from its mirror header on; path 0 P6, 1 P7, 2 pair M. -/
def mirrorRx (path : Nat) (frame : List Byte) (s : State) : State :=
  let type := byteAt frame 1
  let n := beAt frame 2 2
  let seq := beAt frame 4 4
  let l := slice frame 8 n
  if !s.running || path > 2 || (path < 2 && (s.portOf (6 + path)).link != 1) || byteAt frame 0 ≠ 1 || frame.length < 8 + n then s
  else if type ≥ 16 then (if s.cfg 0x3200 0x01 = 2 ∧ path < 2 ∧ type < 32 then packRx path seq type (frame.take (8 + n)) l s else s)
  else if s.cfg 0x3200 0x01 = 1 then pairRx path seq type l s
  else s

def execMirrorFrameRx (t path : Nat) (frame : List Byte) (s : State) : Host.Outcome State Fault Refusal := complete t (mirrorRx path frame) s

/-- MIRROR_SUPERVISION_TX (R671, R688). -/
def supervisionTx (s : State) : State :=
  let mode := s.cfg 0x3200 0x01
  if !s.running || (mode ≠ 1 && mode ≠ 2) || s.now < s.duplex.lastSupervision + us (s.cfg 0x3200 0x06) then s
  else
    let s := s.onDuplex fun d => { d with lastSupervision := s.now }
    if mode = 1 then sendMirror true 1 (supervisionPayload s) s
    else if inPack s then placePack (packFrame 0xFF 16 0xFF 0 [packSupervision s] [] (ringUpdate s))
    else s

def execMirrorSupervisionTx (t : Nat) (s : State) : Host.Outcome State Fault Refusal := complete t supervisionTx s

/-- PEER_LOSS (R671, R680): the peer is silent on all three paths; in a pack, members are. -/
def peerLost (s : State) : State :=
  if !s.running then s
  else if inPack s then membersLost s
  else match s.duplex.peer with
  | none => s
  | some p =>
    if [0, 1, 2].any (pathHeard s) then s
    else
      let s := s.onDuplex fun d => { d with peer := none, heard := [], high := [], rxSeq := none, ahead := [], handOver := false,
                                            imageDue := false, imageCutAt := none }
      let s := raise 0x3203 (be 16 p.identity) s
      if roleNow s = 2 then takeover 0 0 s else if roleNow s = 1 then s.setRo 0x3210 0x02 0 else s

def execPeerLoss (t : Nat) (s : State) : Host.Outcome State Fault Refusal := complete t peerLost s

/-- LEAD_ALONE_TIMEOUT (R672): no peer within 1 s of entering RUN. -/
def leadAlone (s : State) : State :=
  if s.running && s.cfg 0x3200 0x01 == 1 && roleNow s == 0 && s.duplex.peer.isNone && s.power.enteredAt + sec 1 ≤ s.now then
    (setRole 1 s).setRo 0x3210 0x02 0
  else s

def execLeadAloneTimeout (t : Nat) (s : State) : Host.Outcome State Fault Refusal := complete t leadAlone s

/-- DETACHED (R681): silent on both mirror links, still heard on pair M; the Wheel takes its decisions alone. -/
def detach (s : State) : State :=
  if s.running && roleNow s == 2 && pairStateNow s != 3 && s.duplex.peer.isSome && !pathHeard s 0 && !pathHeard s 1 && pathHeard s 2 then
    let s := raise 0x3206 [] (s.setRo 0x3210 0x02 3)
    let s := adoptHeld (s.onDuplex fun d => { d with records := [], fetching := [], image := [], imageTotal := 0 })
    (List.range 64).foldl (fun (s : State) (g : Nat) => takeDecisions g s) s
  else s

def execDetached (t : Nat) (s : State) : Host.Outcome State Fault Refusal := complete t detach s

/-- 0x3230:01 Hand over lead (R683). -/
def handOver (s : State) : State × Nat :=
  if leads s && pairStateNow s == 2 then (s.onDuplex fun d => { d with handOver := true }, 0) else (s, 0x06)

def execHandOverLead (t : Nat) (who : Who) (s : State) : Host.Outcome State Fault Refusal := complete t (runPlain 0x3230 0x01 who handOver) s

/-- 0x3230:02 Resynchronise: a Wheel only. -/
def resynchronise (s : State) : State × Nat := if roleNow s = 2 then (enterSyncing s, 0) else (s, 0x06)

def execResynchronise (t : Nat) (who : Who) (s : State) : Host.Outcome State Fault Refusal := complete t (runPlain 0x3230 0x02 who resynchronise) s

/-- 0x3230:03 Pack wake (R690): the placing member only; sent on pair M. -/
def packWakeNow (m : Nat) (s : State) : State × Nat :=
  if inPack s && placesHere s then (s.emit (.packWake m), 0) else (s, 0x06)

def execPackWake (t : Nat) (who : Who) (member : Nat) (s : State) : Host.Outcome State Fault Refusal :=
  complete t (runCommand 0x3230 0x03 member (.num 0) who (packWakeNow member)) s

/-- 0x3230:04 Clear redundancy counters. -/
def clearRedundancy (s : State) : State := s.clearRange 0x3220 0x3220

def execClearRedundancyCounters (t : Nat) (who : Who) (s : State) : Host.Outcome State Fault Refusal :=
  complete t (runPlain 0x3230 0x04 who (ok clearRedundancy)) s

end Sys2Proof.Machine
end

