-- ==== Sys2Proof/Machine/Host.lean ====
section
/-! DEFINITION. The PCIe host interface: Sluices as the host sees them, interrupts, plain registers, the link (R556–R565, R569–R571). -/

namespace Sys2Proof.Machine
open Sys2Proof

/-- The host reaches the BARs: the link is up (R571). -/
def hostReaches (s : State) : Bool := s.host.linkUp

/-- A host access that R558 or R563 ignores and counts. -/
def badAccess (s : State) : State := s.bump 0x2D10 0x05

/-- Whether the delay condition of a Sluice holds for its oldest unread packet (R569). -/
def delayHolds (now : Nat) (x : Sluice) : Bool := x.fill != 0 && x.oldestAt + us x.delay ≤ now

/-- Words consumed from the head of a Sluice: whole packets leave, the next becomes the oldest. -/
def consume : Nat → Sluice → Sluice
  | 0, x => x
  | n + 1, x =>
    match x.packets with
    | [] => x
    | p :: rest =>
      let x := { x with rptr := (x.rptr + 1) % 32768, lastPopped := p.getD x.readOfFirst 0 }
      if x.readOfFirst + 1 ≥ p.length then
        consume n { x with packets := rest, readOfFirst := 0, commitAt := x.commitAt.tail,
                           oldestAt := (x.commitAt.tail).headD x.oldestAt }
      else consume n { x with readOfFirst := x.readOfFirst + 1 }

/-- Re-evaluate the delay condition after words left. -/
def afterConsume (q : Nat) (x : Sluice) (s : State) : State :=
  s.setSluice q { x with delayPassed := delayHolds s.now x }

/-- A pop (R562): the word at RPTR, or the empty-queue value of the device state. -/
def popSluice (q : Nat) (s : State) : State × Nat :=
  let x := s.sluice q
  match x.packets with
  | p :: _ =>
    let w := p.getD x.readOfFirst 0
    (afterConsume q (consume 1 x) s, w)
  | [] =>
    if (s.running || s.dev == stSentinel) && !x.testMode then (s, 0xFFFFFFFFFFFFFFFF)
    else (s.setSluice q { x with underrun := true }, x.lastPopped)

/-- Q_DATA read. -/
def qDataRead (q : Nat) (s : State) : State :=
  if hostReaches s && q < 8 then
    let (s, w) := popSluice q s
    s.emit (.read w)
  else s

def execQDataRead (t q : Nat) (s : State) : Host.Outcome State Fault Refusal := complete t (qDataRead q) s

/-- Q_RPTR write: consumes up to the value, or is ignored when it lies outside RPTR to WPTR (R563). -/
def qRptrWrite (q value : Nat) (s : State) : State :=
  if !(hostReaches s && q < 8) then s
  else
    let x := s.sluice q
    let n := (value % 32768 + 32768 - x.rptr) % 32768
    if n ≤ x.fill then
      let kept := x.lastPopped
      afterConsume q { consume n x with lastPopped := kept } s
    else badAccess s

def execQRptrWrite (t q value : Nat) (s : State) : Host.Outcome State Fault Refusal := complete t (qRptrWrite q value) s

/-- Q_CTRL bit 2: the packets-lost flag clears (R559). -/
def qClearLost (q : Nat) (s : State) : State :=
  if hostReaches s && q < 8 then s.setSluice q { s.sluice q with lost := false } else s

def execQCtrlClearLost (t q : Nat) (s : State) : Host.Outcome State Fault Refusal := complete t (qClearLost q) s

/-- Q_CTRL bit 1: the underrun flag clears (R559). -/
def qClearUnderrun (q : Nat) (s : State) : State :=
  if hostReaches s && q < 8 then s.setSluice q { s.sluice q with underrun := false } else s

def execQCtrlClearUnderrun (t q : Nat) (s : State) : Host.Outcome State Fault Refusal := complete t (qClearUnderrun q) s

/-- Q_MODE write: bit 0 is test mode; each change raises event 0x2D04 (R564, R10). -/
def qModeWrite (q value : Nat) (s : State) : State :=
  if !(hostReaches s && q < 8) then s
  else
    let x := s.sluice q
    let m := bit value 0
    if m == x.testMode then s
    else raise 0x2D04 (le 1 q ++ le 1 (b2n m)) (s.setSluice q { x with testMode := m })

def execQModeWrite (t q value : Nat) (s : State) : Host.Outcome State Fault Refusal := complete t (qModeWrite q value) s

/-- Q_TEST_PUSH: in test mode the value is a 1-word packet; a full queue loses it without a loss packet owed (R564). -/
def qTestPush (q value : Nat) (s : State) : State :=
  if !(hostReaches s && q < 8) then s
  else
    let x := s.sluice q
    if !x.testMode then s
    else if x.fill < sluiceWords then sluiceCommit q [[value % 2 ^ 64]] s
    else sluiceLose q false s

def execQTestPush (t q value : Nat) (s : State) : Host.Outcome State Fault Refusal := complete t (qTestPush q value) s

/-- Q_IRQ_DELAY has passed since the oldest unread packet became visible: the Sluice bit is set (R569). -/
def sluiceDelay (q : Nat) (s : State) : State :=
  let x := s.sluice q
  if delayHolds s.now x then sluiceInterrupt q (s.setSluice q { x with delayPassed := true }) else s

def execSluiceIrqDelay (t q : Nat) (s : State) : Host.Outcome State Fault Refusal := complete t (sluiceDelay q) s

/-- Writing 1 to INT_STATUS bits clears them; a bit whose condition still holds is set again at once (R569). -/
def intClear (value : Nat) (s : State) : State :=
  if !hostReaches s then s
  else
    let left := (List.range 14).foldl (fun n i => if bit value i then setBit n i false else n) s.host.intStatus
    let s := s.onHost fun h => { h with intStatus := left, intSignalled := h.intSignalled &&& left }
    let s := (List.range 8).foldl (fun s q => sluiceInterrupt q s) s
    if s.imian.mailbox.response then s.interrupt 8 else s

def execIntStatusClear (t value : Nat) (s : State) : Host.Outcome State Fault Refusal := complete t (intClear value) s

/-- PCIe link training has ended: event 0x2D01 (R556, R571); only where the device state has the link up and the PHY
passed self-test item 5 (R620). -/
def linkUp (speed width : Nat) (s : State) : State :=
  if !(s.dev == stStart || s.running || s.dev == stRecovery) || s.power.resetLow || s.host.linkUp || bit (s.ro 0x2F03 0x02 5) 8 then s
  else
    let s := s.onHost fun h => { h with linkUp := true }
    let s := (s.setRo 0x2D00 0x04 speed).setRo 0x2D00 0x05 width
    raise 0x2D01 (le 1 speed ++ le 1 width) s.signalAll

def execPcieLinkUp (t speed width : Nat) (s : State) : Host.Outcome State Fault Refusal := complete t (linkUp speed width) s

/-- 0x2D30:01 Clear host counters (R573). -/
def clearHost (s : State) : State :=
  s.clearObjects [(0x2D10, 1), (0x2D10, 2), (0x2D10, 3), (0x2D10, 4), (0x2D10, 5), (0x2D10, 6), (0x2D10, 7), (0x2D10, 8)]

def execClearHostCounters (t : Nat) (who : Who) (s : State) : Host.Outcome State Fault Refusal :=
  complete t (runPlain 0x2D30 0x01 who (ok clearHost)) s

/-- Q_PKTLEN (R559): words remaining in the packet at RPTR in [20:16], its length in [4:0]; 0 when empty. -/
def pktLen (x : Sluice) : Nat :=
  match x.packets with
  | [] => 0
  | p :: _ => (p.length - x.readOfFirst) * 2 ^ 16 + p.length

/-- Q_STATUS (R559). -/
def qStatus (x : Sluice) : Nat :=
  32 * b2n x.testMode + 16 * b2n x.lost + 8 * b2n x.underrun + 4 * b2n (x.fill == sluiceWords) + 2 * b2n (x.fill == 0)

end Sys2Proof.Machine
end

