-- ==== Sys2Proof/Machine/HostRings.lean ====
section
/-! DEFINITION. The host's side of the DMA rings, the function reset, the link's loss, and Sluice reads over Imian (R566–R571). -/

namespace Sys2Proof.Machine
open Sys2Proof

/-- A ring by number: 0 archive, 1 export. -/
def HostSt.ring (h : HostSt) (r : Nat) : Ring := if r = 0 then h.archive else h.exportRing
def HostSt.setRing (h : HostSt) (r : Nat) (x : Ring) : HostSt := if r = 0 then { h with archive := x } else { h with exportRing := x }

/-- A ring size of R566: a power of two from 65,536 to 2^31. -/
def ringSizeOk (n : Nat) : Bool := (List.range 16).any fun k => n == 2 ^ (16 + k)

/-- Disable a ring; an export in progress ends aborted with the export ring (R568). -/
def ringDisable (r : Nat) (s : State) : State :=
  let s := if r = 1 && s.host.exporting.isSome then ringExportAbort (recordExportAbort s) else s
  s.onHost fun h => h.setRing r { h.ring r with enabled := false }

/-- Why a ring is not enabled: 0 base, 1 size, 2 bus mastering off (R566, R574). -/
def ringFault (x : Ring) (busMaster : Bool) : Option Nat :=
  if x.base % 4096 ≠ 0 then some 0 else if !ringSizeOk x.size then some 1 else if !busMaster then some 2 else none

/-- RING_CTRL write: enabling clears WR and RD, or raises a ring fault (R566); outside RUN and TRIM the rings stay disabled (R571). -/
def ringControl (r value : Nat) (busMaster : Bool) (s : State) : State :=
  if !(hostReaches s && r < 2) then s
  else
    let s := s.onHost fun h => { h with busMaster := busMaster }
    let x := s.host.ring r
    if !bit value 0 then (if x.enabled then ringDisable r s else s)
    else if x.enabled || !s.running then s
    else match ringFault x busMaster with
      | some c => (raise 0x2D05 (le 1 r ++ le 1 c) s).interrupt 13
      | none =>
        let s := if r = 0 then postDescriptor s else s
        s.onHost fun h => h.setRing r { x with enabled := true, wr := 0, rd := 0 }

def execRingEnable (t ring value : Nat) (busMaster : Bool) (s : State) : Host.Outcome State Fault Refusal :=
  complete t (ringControl ring value busMaster) s

/-- RING_RD write, the doorbell: room is freed, and a waiting export goes on (R566, R568). -/
def ringDoorbell (r value : Nat) (s : State) : State :=
  if !(hostReaches s && r < 2) then s
  else
    let s := s.onHost fun h => h.setRing r { h.ring r with rd := value % (2 * (h.ring r).size) }
    if r = 1 then exportGoOn s else s

def execRingRdDoorbell (t ring value : Nat) (s : State) : Host.Outcome State Fault Refusal := complete t (ringDoorbell ring value) s

/-- Clear the mailbox (R533, R570); the responses kept for R528 belong to its session and stay. -/
def clearMailbox (s : State) : State := s.onImian fun i => { i with mailbox := { Mailbox.reset with kept := i.mailbox.kept, requests := i.mailbox.requests } }

/-- FUNCTION_RESET (R570): event 0x2D06. -/
def functionReset (hot : Bool) (s : State) : State :=
  if !hostReaches s then s
  else
    let s := clearMailbox (ringDisable 1 (ringDisable 0 s))
    let s := s.onHost fun h => { h with intStatus := 0, intMask := 0x3FFF, intSignalled := 0, msix := [] }
    let s := (List.range 8).foldl (fun s q => sluiceInterrupt q s) s
    raise 0x2D06 (le 1 (b2n hot)) s

def execFunctionReset (t : Nat) (hot : Bool) (s : State) : Host.Outcome State Fault Refusal := complete t (functionReset hot) s

/-- PCIE_LINK_DOWN (R571). -/
def execPcieLinkDown (t : Nat) (s : State) : Host.Outcome State Fault Refusal := complete t (pcieOff 0) s

/-- SLUICE_POP: a READ of 0x2D20:01[q] pops one word; refused over CAN FD with 0x0D (R571). -/
def sluicePop (w : Who) (q : Nat) (s : State) : State :=
  if s.reaches w then
    let isCan : Bool := match w with | .can _ => true | _ => false
    let c : Nat :=
      if isCan || !offered s w .read 0x2D20 1 then 0x0D else if q ≥ 8 then 0x01 else if roleHas ((s.roleOf w).getD 0) 1 then 0 else 0x02
    if c = 0 then
      let (s, v) := popSluice q s
      ((account w 0 s).emit (.status w 0)).emit (.read v)
    else (account w c s).emit (.status w c)
  else s

def execSluicePop (t : Nat) (who : Who) (q : Nat) (s : State) : Host.Outcome State Fault Refusal := complete t (sluicePop who q) s

end Sys2Proof.Machine
end

