-- ==== Sys2Proof/Machine/Ptp.lean ====
section
/-! DEFINITION. PTP over the ports (R44–R46, R59, R60, R127): what a message does, the master function, the egress stamps, and the start of a
frame, at which they are taken.  The message layouts are those of IEEE 1588-2019: PRESUMED (assumption 86). -/

namespace Sys2Proof.Machine
open Sys2Proof

/-! ### Messages the device sends -/

/-- The multicast addresses of PTP and of the peer-delay messages. -/
def ptpMac : List Byte := be 6 0x011B19000000
def peerDelayMac : List Byte := be 6 0x0180C200000E

/-- The clock identity: the MAC address of P0 as an EUI-64. -/
def clockIdentity (s : State) : Nat :=
  let m := s.cfgBytes 0x2100 0x09 0
  beAt (m.take 3 ++ be 2 0xFFFE ++ m.drop 3) 0 8
/-- The identity of a port of this clock. -/
def portIdentity (s : State) (p : Nat) : List Byte := be 8 (clockIdentity s) ++ be 2 (p + 1)

/-- A PTP header: message type, length, flags, correction (2^-16 ns), source port, sequence number and control. -/
def ptpHeader (s : State) (p kind length flags correction seq control interval : Nat) : List Byte :=
  be 1 kind ++ be 1 0x12 ++ be 2 length ++ be 1 (s.cfg 0x2002 0x04) ++ be 1 0 ++ be 2 flags ++ be 8 correction ++ be 4 0 ++
  portIdentity s p ++ be 2 seq ++ be 1 control ++ be 1 interval

/-- A T96 instant as a PTP timestamp: 48 bits of seconds and 32 of ns. -/
def ptpStamp (t : Nat) : List Byte := be 6 (t / 2 ^ 48) ++ be 4 (t % 2 ^ 48 * 1000000000 / 2 ^ 48)
/-- What a PTP timestamp leaves out of a T96 instant, in 2^-16 ns. -/
def ptpRest (t : Nat) : Nat := t % 2 ^ 48 * 1000000000 % 2 ^ 48 / 2 ^ 32

/-- The clockClass announced (R46): 6 locked, 7 in holdover within 0x2001:0C, 187 beyond it. -/
def announcedClass (s : State) : Nat :=
  if s.time.servo != 3 then 6 else if s.uncertaintyPs ≤ s.cfg 0x2001 0x0C * 1000 then 7 else 187
/-- The clockAccuracy announced: the first whose bound holds the uncertainty of T96. -/
def announcedAccuracy (s : State) : Nat :=
  ((List.range 0x1A).map (· + 0x17)).find? (fun a => s.uncertaintyPs ≤ accuracyPs a) |>.getD 0x31

/-- The dataset the clock announces as grandmaster. -/
def ownDataset (s : State) : Announce :=
  { parent := 0, gm := clockIdentity s, priority1 := s.cfg 0x2002 0x05, clockClass := announcedClass s, accuracy := announcedAccuracy s, variance := 0xFFFF,
    priority2 := s.cfg 0x2002 0x06, steps := 0, utcOffset := s.delta, utcValid := true, leap61 := false, leap59 := false, heardAt := s.now }

/-- The dataset announced: while a PTP source is selected that of its grandmaster one step on, with the class of R46; else the clock's own. -/
def announcedDataset (s : State) : Announce :=
  match (if s.time.selected = 1 then s.time.announce else none) with
  | some a => { a with clockClass := announcedClass s, accuracy := announcedAccuracy s, steps := a.steps + 1, utcOffset := s.delta }
  | none => ownDataset s

/-- A port is a PTP master (R44, R46, R85): clock type 1 on P4 and P5, type 2 on every port of 0x2002:08, but not in SAFE_TALK, not on the slave
port, and not where a better master is heard. -/
def ptpMaster (s : State) (p : Nat) : Bool :=
  let kind := s.cfg 0x2002 0x03
  let better := fun (q : Nat) => match lookup q (freshAnnounces s) with | some a => betterMaster a (ownDataset s) | none => false
  ptpRuns s p && (s.portOf p).link == 1 && s.dev != stSafeTalk && (kind == 2 || (kind == 1 && p ≥ 4)) &&
  !(s.time.selected == 1 && s.time.ptpPort == some p) && !better p && !(kind == 1 && (better 4 || better 5 || s.time.selected == 1))

/-- The C37.238-2017 profile TLV with 0x2002:09 Grandmaster ID (R46) and the uncertainty of T96 in ns. -/
def profileTlv (s : State) : List Byte :=
  be 2 3 ++ be 2 18 ++ be 3 0x1C129D ++ be 3 2 ++ be 2 (s.cfg 0x2002 0x09) ++ be 4 0 ++ be 4 ((s.uncertaintyPs + 999) / 1000) ++ be 2 0

/-- An Announce. -/
def announceMessage (s : State) (p seq : Nat) : List Byte :=
  let d := announcedDataset s
  let tlv := if s.cfg 0x2002 0x02 = 1 then profileTlv s else []
  let leap := match leapDue s with | some (_, sign) => if sign > 0 then 1 else 2 | none => 0
  ptpHeader s p 0xB (64 + tlv.length) (leap + 4 + 8 + 16 + 32) 0 seq 5 0 ++ ptpStamp s.t96 ++ be 2 (toTwos 16 d.utcOffset) ++ be 1 0 ++
  be 1 d.priority1 ++ be 1 d.clockClass ++ be 1 d.accuracy ++ be 2 d.variance ++ be 1 d.priority2 ++ be 8 d.gm ++ be 2 d.steps ++
  be 1 (if s.time.selected = 1 then 0x20 else if s.time.selected = 4 then 0x60 else 0x90) ++ tlv

/-- A Sync, stamped as it leaves. -/
def syncMessage (s : State) (p seq : Nat) : List Byte :=
  ptpHeader s p 0 44 (if s.cfg 0x2002 0x07 = 0 then 0x200 else 0) 0 seq 0 0 ++ ptpStamp 0

/-- Hand a PTP message to a port: class 3, never with a trailer (R101, R127); marked when its egress stamp is wanted. -/
def sendPtp (p : Nat) (event : Bool) (dst l : List Byte) (s : State) : State := sendPort p 3 (b2n event) 0 dst 0x88F7 l s

/-- What the master function of a port owes by now: an Announce and a Sync each second, none while T96 is unset (R46).  It is handed to the port when
that next can start a frame: DESIGN CHOICE (assumption 86). -/
def ptpDue (p : Nat) (s : State) : State :=
  let last := lookup p s.time.ptpSent
  let due : Bool := match last with | some a => a.1 + sec 1 ≤ s.now | none => true
  if s.time.isSet && due && ptpMaster s p then
    let seq := (last.getD (0, 0)).2
    let s := sendPtp p true ptpMac (syncMessage s p seq) (sendPtp p false ptpMac (announceMessage s p seq) s)
    s.onTime fun x => { x with ptpSent := putKey p (s.now, (seq + 1) % 65536) x.ptpSent }
  else s

/-- A peer's Pdelay_Req is answered; the response carries its own reception instant until it leaves. -/
def answerPeerDelay (p requester seq : Nat) (s : State) : State :=
  sendPtp p true peerDelayMac
    (ptpHeader s p 3 54 (if s.cfg 0x2002 0x07 = 0 then 0x200 else 0) 0 seq 5 0x7F ++ ptpStamp (s.ingressT96 p) ++ be 10 requester) s

/-! ### Messages received -/

/-- A PTP message on a port (R44, R45). -/
def ptpMessage (port : Nat) (udp : Bool) (domain : Nat) (msg : PtpMsg) (s : State) : State :=
  if !ptpRuns s port then s
  else if udp || domain != s.cfg 0x2002 0x04 then s.bump 0x2030 0x04
  else match msg with
    | .announce parent gm p1 cc acc var p2 steps utc utcValid l61 l59 =>
      takeAnnounce port ⟨parent, gm, p1, cc, acc, var, p2, steps, utc, utcValid, l61, l59, s.now⟩ s
    | .sync parent origin correction => ptpSync port parent origin correction s
    | .pdelay d => s.onTime fun x => { x with pathDelay := putKey port d x.pathDelay }
    | .pdelayReq requester seq => answerPeerDelay port requester seq s
    | .other => s

def execPtpMessageRx (t port : Nat) (udp : Bool) (domain : Nat) (msg : PtpMsg) (s : State) : Host.Outcome State Fault Refusal :=
  complete t (ptpMessage port udp domain msg) s

/-! ### The start of a frame -/

/-- Where the PTP message of a frame begins, after an 802.1Q tag. -/
def ptpOffset (l : List Byte) : Nat := if beAt l 12 2 = 0x8100 then 18 else 14

/-- Replace the bytes at an offset. -/
def patch (l : List Byte) (at_ : Nat) (b : List Byte) : List Byte := l.take at_ ++ b ++ l.drop (at_ + b.length)

/-- A PTP timestamp in 2^-16 ns. -/
def stampUnits (l : List Byte) : Nat := (beAt l 0 6 * 1000000000 + beAt l 6 4) * 65536

/-- The frame as it leaves (R59): a one-step Sync takes its egress stamp, a one-step Pdelay_Resp the time it took; other frames are as queued. -/
def stampFrame (s : State) (p : Nat) (f : TxFrame) : TxFrame :=
  if f.source = 0 ∨ s.cfg 0x2002 0x07 = 0 then f
  else
    let o := ptpOffset f.bytes
    let t := s.egressT96 p
    if byteAt f.bytes o % 16 = 0 then
      { f with bytes := patch (patch f.bytes (o + 34) (ptpStamp t)) (o + 8) (be 8 (ptpRest t)) }
    else
      let d := stampUnits (ptpStamp t) + ptpRest t - stampUnits (slice f.bytes (o + 34) 10)
      { f with bytes := patch (patch f.bytes (o + 34) (be 10 0)) (o + 8) (be 8 d) }

/-- The message that follows a two-step event message with its egress stamp (R59): Follow_Up, or Pdelay_Resp_Follow_Up. -/
def followUp (p : Nat) (f : TxFrame) (s : State) : State :=
  if f.source = 0 ∨ s.cfg 0x2002 0x07 ≠ 0 then s
  else
    let l := f.bytes.drop (ptpOffset f.bytes)
    let t := s.egressT96 p
    let seq := beAt l 30 2
    if byteAt l 0 % 16 = 0 then sendPtp p false ptpMac (ptpHeader s p 8 44 0 (ptpRest t) seq 2 0 ++ ptpStamp t) s
    else sendPtp p false peerDelayMac (ptpHeader s p 0xA 54 0 (ptpRest t) seq 5 0x7F ++ ptpStamp t ++ slice l 44 10) s

/-- Start the frame at the head of a queue: on the wire from now, cut-through or whole (R118), and counted. -/
def startFrame (p q : Nat) (s : State) : State :=
  let x := s.portOf p
  match tabGet [] x.queues q with
  | [] => s
  | f :: rest =>
    let f := stampFrame s p f
    let s := s.setPort p { x with queues := putKey q rest x.queues, sending := some f, sendingQ := q,
                                  busyUntil := s.now + frameTime s p f.bytes.length }
    followUp p f (((s.tally 0x2120 0x0D p).tally 0x2120 0x0E p (f.bytes.length + 4)).emit (.wire p false f.bytes))

/-- TX_FRAME_START (R102, R107): the head of the highest open queue that can end before its gate closes. -/
def txStart (p : Nat) (s : State) : State :=
  let x := s.portOf p
  if !(p < 8 && x.link == 1 && x.busyUntil ≤ s.now && x.pausedSince.isNone) then s
  else
    let s := (List.range 8).foldl (fun s q => dropTooLong p q s) (ptpDue p s)
    match [7, 6, 5, 4, 3, 2, 1, 0].find? (eligible s p) with
    | none => s
    | some q => startFrame p q s

def execTxFrameStart (t port : Nat) (s : State) : Host.Outcome State Fault Refusal := complete t (txStart port) s

end Sys2Proof.Machine
end

