-- ==== Sys2Proof/Machine/Status.lean ====
section
/-! DEFINITION. RO objects whose value is a view of other state: one function per chapter, each answering none for an object that the
status store holds.  Rows that show nothing at present read the default of their table. -/

namespace Sys2Proof.Machine
open Sys2Proof

/-- A number in the byte order of the path (R517). -/
def numTo (little : Bool) (n v : Nat) : List Byte := if little then le n v else be n v

/-- Fields in order, each a number or a byte string in network byte order, laid out in the byte order of the path. -/
def flat (little : Bool) (l : List (Bool × List Byte)) : List Byte :=
  l.flatMap fun f => if f.1 && little then f.2.reverse else f.2

/-- A numeric field. -/
def fNum (n v : Nat) : Bool × List Byte := (true, be n v)

def some1 (n : Nat) : Option Val := some (.num n)
def someBytes (l : List Byte) : Option Val := some (.oct l)

/-! ### Chapters 02 and 03 -/

/-- IEEE 1588 portState of a port (0x2003:05): 3 disabled, 4 listening, 6 master, 7 passive, 8 uncalibrated, 9 slave (assumption 30). -/
def ptpPortState (s : State) (p : Nat) : Nat :=
  if !ptpRuns s p || (s.portOf p).link != 1 then 3
  else if ptpMaster s p then 6
  else if s.time.ptpPort = some p then (if s.time.ptp.qualified then 9 else 8)
  else if (lookup p s.time.announces).isSome then 7 else 4

/-- Time and grid angle (R87). -/
def timeObject (s : State) (idx sub row : Nat) : Option Val :=
  let x := s.time
  if idx = 0x2000 then match sub with
    | 1 => some1 (shownT96 s)
    | 2 => some1 (b2n x.isSet)
    | 3 => some1 s.timeClass
    | 4 => some1 ((s.uncertaintyPs + 999) / 1000)
    | 5 => some1 x.selected
    | 6 => some1 x.servo
    | 7 => some1 (holdoverSeconds s)
    | 8 => some1 (toTwos 32 s.delta)
    | 9 => some1 (match leapDue s with | some p => toTwos 32 p.2 | none => 0)
    | 10 => some1 (toTwos 32 (Q.round (Q.make x.f 1000)))
    | 11 => some1 (toTwos 64 x.slew)
    | _ => none
  else if idx = 0x2003 then match sub with
    | 3 => some1 (toTwos 64 x.ptp.offset)
    | 4 => some1 (match x.ptpPort with | some p => toTwos 64 (tabGet 0 x.pathDelay p) | none => 0)
    | 5 => some1 ((List.range 6).foldl (fun (n : Nat) (p : Nat) => n + ptpPortState s p * 16 ^ p) 0)
    | _ => none
  else if idx = 0x2011 then match sub with
    | 1 => some1 s.gat
    | 2 => some1 s.gatFlags
    | 3 => some1 (toF32 (Q.make x.refFreq (2 ^ 32)))
    | 4 => some1 (toF32 (Q.make (x.refError * 360) (2 ^ 32)))
    | _ => none
  else if idx = 0x2110 then
    let p := s.portOf row
    match sub with
    | 1 => some1 p.link
    | 2 => some1 (s.cfg 0x2100 0x02 row)
    | 3 => some1 (threshold s row)
    | 4 => some1 (gateNow s row).1
    | 5 => some1 (gateNow s row).2
    | 6 => some1 (if p.pausedSince.isSome then (p.pauseUntil - s.now + 999) / 1000 else 0)
    | _ => none
  else if idx = 0x2111 ∧ sub = 1 then some1 (tabGet 2 s.port.pairState row)
  else none

/-! ### Chapters 04 to 06 -/

/-- 0x2310:01 Group mode. -/
def groupMode (s : State) (g : Nat) : Nat :=
  let x := s.group g
  if s.cfg 0x2301 0x01 g = 0 then 0
  else if x.rate = 0 then 5
  else match x.suspended with
    | some c => if c.1 = 0 then 3 else 4
    | none => if s.cfgB 0x2304 0x01 g then 1 else 2

/-- Ingest, alignment, placement (R182, R234, R265). -/
def wideObject (s : State) (idx sub row : Nat) : Option Val :=
  let x := s.group row
  if idx = 0x2250 then
    let n := needAll s.active (admittedPartners s)
    match sub with
    | 1 => some1 (Q.round n.samples).toNat
    | 3 => some1 (Q.round n.frames).toNat
    | 4 => some1 (s.ingest.streams.filter fun e => e.2.tcp).length
    | _ => none
  else if idx = 0x2310 then match sub with
    | 1 => some1 (groupMode s row)
    | 2 => some1 (match (inOrder x).getLast? with | some e => e.2.expected.length | none => 0)
    | 3 => some1 ((s.ingest.streams.filter fun e => groupOf s e.1 == row && s.ro 0x2311 0x01 e.1 == 1).length)
    | 4 => some1 (x.newestReleased.getD 0)
    | 5 => some1 (x.newestCommitted.getD 0)
    | 6 => some1 (match x.suspended with | some c => ((c.2.2 - s.t96) * 1000 + 2 ^ 48 - 1) / 2 ^ 48 | none => 0)
    | 7 => some1 (Nat.min 255 (x.recalls.filter fun a => s.t96 ≤ a + 2 ^ 48 && a < s.t96).length)
    | _ => none
  else if idx = 0x2311 then
    if sub = 3 then some1 (Nat.min 16 (historySlots (s.stream row) (2 ^ 64)).length) else none
  else if idx = 0x2312 then
    match x.slot? (s.rw 0x2312 0x01 row), sub with
    | some y, 2 => some1 y.state
    | some y, 3 => some1 y.arrived.length
    | some y, 4 => some1 y.predictedStreams
    | some y, 5 => some1 y.cause
    | some y, 6 => some1 y.releaseT96
    | some y, 7 => some1 y.commitT96
    | _, _ => none
  else if idx = 0x2411 then
    let h := if inPack s then lookup row s.duplex.homes else none
    match sub with
    | 2 => some1 (match h with | some p => p.1 | none => 0xFF)
    | 3 => some1 (match h with | some p => p.2 | none => 0xFF)
    | _ => none
  else if idx = 0x2412 then match sub with
    | 1 => some1 (Q.round (Q.make ((laneLoad s row).num * 10000) ((laneLoad s row).den * 16777216))).toNat
    | 2 => some1 ((s.place.lanes.filter fun e => e.2 == row).length)
    | _ => none
  else if idx = 0x2413 then some1 (Config.freeValue (s.draws + row) % 10001)
  else none

/-! ### Chapters 07 to 09 -/

/-- Oscillation detection (R308). -/
def eddyObject (s : State) (idx sub row : Nat) : Option Val :=
  if idx = 0x2503 then
    if sub = 4 then some1 (detectorsOn s (row / 4) (row % 4))
    else match bandShown s (row / 4) (row % 4), sub with
      | some x, 1 => some1 x.envelope
      | some x, 2 => some1 x.state
      | some x, 3 => some1 x.cause
      | _, _ => none
  else if idx = 0x2540 ∧ sub = 4 ∧ s.ro 0x2540 0x0B = 0 then some1 (bandsInvalid s)
  else none

/-- The island of a row of 0x2613, with its group. -/
def islandRow (s : State) (r : Nat) : Option (Nat × Island) :=
  (s.oxbow.groups.flatMap fun e => e.2.islands.map fun x => (e.1, x)).find? fun p => p.2.row == some r

/-- The slot in which an island's row last changed has not been committed (R327). -/
def islandProvisional (s : State) (g : Nat) (x : Island) : Bool :=
  match (s.group g).newestCommitted with | some k => decide (k < x.changedAt) | none => true

/-- A bitmap over handles 0 to 20,483, bit n = handle n, in 2,561 bytes. -/
def memberBitmap (l : List Nat) : List Byte :=
  (List.range 2561).map fun k => BitVec.ofNat 8 ((List.range 8).foldl (fun (n : Nat) (i : Nat) => if l.contains (8 * k + i) then n + 2 ^ i else n) 0)

/-- Islands (R340). -/
def oxbowObject (s : State) (idx sub row : Nat) : Option Val :=
  if idx = 0x2610 then
    let g := groupOf s (s.cfg 0x2602 0x01 row)
    if oxbowOn s g && (edgeRows s g).contains row then
      let e := tabGet .reset (s.ox g).edges row
      if sub = 1 then some1 e.state else some1 e.test
    else none
  else if idx = 0x2611 then
    let g := groupOf s row
    if oxbowOn s g && (nodeRows s g).contains row then
      let n := tabGet .reset (s.ox g).nodes row
      if sub = 1 then some1 n.state else some1 n.island
    else none
  else if idx = 0x2612 then
    let x := s.ox row
    match sub with
    | 1 => some1 x.components
    | 2 => some1 x.main.length
    | 3 => some1 x.mainFreq
    | 4 => some1 ((x.islands.filter (·.declared)).length)
    | 5 => some1 x.unobserved
    | _ => none
  else if idx = 0x2613 then
    if sub = 10 then some1 (tabGet 0 s.oxbow.gens row)
    else match islandRow s row with
      | none => none
      | some (g, x) => match sub with
        | 1 => some1 x.id
        | 2 => some1 g
        | 3 => some1 (b2n (islandProvisional s g x))
        | 4 => some1 x.members.length
        | 5 => some1 x.freq
        | 6 => some1 x.rocof
        | 7 => some1 x.declaredAt
        | 8 => someBytes (memberBitmap x.members)
        | 9 => some1 x.parent
        | _ => none
  else none

/-- Alarms (R373). -/
def alarmObject (s : State) (idx sub row : Nat) : Option Val :=
  if idx = 0x2710 then
    let x := s.alarmOf row
    match sub with
    | 1 => some1 x.state
    | 2 => some1 x.instance_
    | 3 => some1 x.raiseT96
    | 4 => some1 x.lastChange
    | 5 => some1 x.flags
    | 6 => some1 (2 * b2n (tabGet .reset s.alarm.committed row).raised + b2n (tabGet .reset s.alarm.spec row).raised)
    | 7 => some1 x.termsTrue
    | _ => none
  else none

/-! ### Chapters 10 to 14 -/

/-- Publishing and the ring (R398). -/
def publishObject (s : State) (idx sub row : Nat) : Option Val :=
  if idx = 0x2804 then (if sub = 1 then some1 (subState s row) else none)
  else if idx = 0x2805 then
    let x := outStream s s.active row
    if s.cfg 0x2801 0x01 row = 0 then none
    else match sub with
      | 2 => some1 (dataFrame s x x.rate 0 false (fun _ => missingWord)).length
      | 3 => someBytes (cfg2Frame s x (cfgCount s row) 3)
      | _ => none
  else if idx = 0x2822 then someBytes (frozenRecords s).flatten
  else none

/-- Headwater and capture (R437, R471). -/
def localObject (s : State) (idx sub row : Nat) : Option Val :=
  if idx = 0x2920 ∧ sub = 5 then
    let f := row / 6
    let x := s.chan row
    some1 (b2n x.modFault + 2 * b2n x.delayFault + 4 * b2n x.overCycle + 8 * b2n (feederState s f == 1) +
           16 * b2n (feederState s f == 0 || svFed s f) + 32 * b2n s.time.nominal)
  else if idx = 0x2A20 ∧ sub = 1 then (lookup row s.capture.store).bind fun r => someBytes r.bytes
  else none

/-- Energy (R496). -/
def energyObject (s : State) (idx sub row : Nat) : Option Val :=
  let r := s.energy.regs
  if idx = 0x2B10 then match sub with
    | 1 => some1 (tabGet 0 r.acc row / 2 ^ 32 % 2 ^ 64)
    | 2 => some1 (tabGet 0 r.acc row % 2 ^ 32)
    | 3 => some1 (tabGet 0 r.wraps row)
    | 4 => some1 (b2n (r.wrapped.contains row))
    | _ => none
  else if idx = 0x2B12 then match sub with
    | 1 => (lookup row r.demand).bind someBytes
    | 2 => some1 (tabGet 0 r.index row)
    | _ => none
  else if idx = 0x2B13 then
    let m := tabGet (0, 0) r.maxima row
    if sub = 1 then some1 m.1 else some1 m.2
  else if idx = 0x2B20 ∧ sub = 1 then some1 (energyQuality s row)
  else if idx = 0x2B21 ∧ sub = 3 then some1 (tabGet 0 r.clears row)
  else none

/-- Jobs (R514). -/
def jobObject (s : State) (idx sub row : Nat) : Option Val :=
  if idx = 0x2C00 then match sub with
    | 1 => some1 (jobRows s).length
    | 2 => some1 ((s.jobs.jobs.filter fun e => isReady s e.1).length)
    | _ => none
  else if idx = 0x2C10 ∧ sub = 6 then some1 ((preferredCore s row).getD 0)
  else if idx = 0x2C11 then match sub with
    | 1 => some1 (if s.jobs.parked.contains row then 2 else if (runningOn s row).isSome then 1 else 0)
    | 2 => some1 ((runningOn s row).getD 0xFFFF)
    | _ => none
  else none

/-! ### Chapters 16 to 18 -/

/-- The host interface (R573). -/
def hostObject (s : State) (idx sub row : Nat) : Option Val :=
  if idx = 0x2D00 then
    if sub = 4 ∨ sub = 5 then (if s.host.linkUp then none else some1 0) else none
  else if idx = 0x2D10 then match sub with
    | 1 => some1 (s.sluice row).fill
    | 8 => some1 (b2n (!s.host.linkUp))
    | _ => none
  else if idx = 0x2D20 ∧ sub = 2 then
    let n := pktLen (s.sluice row)
    some1 (n / 2 ^ 16 * 256 + n % 2 ^ 16)
  else none

/-- The log window of a session (R594): 16 entries from its cursor; outside [B, C) 32 bytes of 0xFF. -/
def logWindow (s : State) (c : Nat) : List Byte :=
  (List.range 16).flatMap fun k =>
    let i := (c + k) % 2 ^ 32
    if (i + 2 ^ 32 - s.log.base) % 2 ^ 32 < s.log.fill then
      (match lookup i s.log.entries with | some e => e.bytes | none => List.replicate 32 0xFF)
    else List.replicate 32 0xFF

/-- The log as a DOMAIN: the entry with index x at offset 32 × (x − B) (R594). -/
def logDomain (s : State) : List Byte :=
  (List.range s.log.fill).flatMap fun k =>
    match lookup ((s.log.base + k) % 2 ^ 32) s.log.entries with | some e => e.bytes | none => List.replicate 32 0

/-- Management (R598). -/
def managementObject (s : State) (idx sub row : Nat) : Option Val :=
  if idx = 0x2E11 ∧ sub = 1 then
    someBytes ((List.range 4096).flatMap fun k => be 4 (match lookup k s.hk.buffer with | some v => v.bits | none => 0))
  else if idx = 0x2E20 then match sub with
    | 1 => some1 s.log.cursor
    | 2 => some1 s.log.base
    | 3 => some1 s.log.fill
    | 5 => some1 (b2n s.log.full + 2 * b2n s.log.frozenBy.isSome)
    | 11 => some1 (s.log.frozenBy.getD 0xFF)
    | _ => none
  else if idx = 0x2E21 ∧ sub = 2 then someBytes (logWindow s (s.rw 0x2E21 0x01 row))
  else if idx = 0x2E22 ∧ sub = 1 then someBytes (logDomain s)
  else if idx = 0x2E23 ∧ sub = 1 then some1 (severityOf row)
  else none

/-- The wake record of R612, field by field; all 0 before the first wake. -/
def wakeFields (s : State) : List (Bool × List Byte) :=
  let r := s.power.record
  if r = WakeRecord.reset then [(false, List.replicate 32 0)]
  else
    [(false, be 1 1 ++ be 1 r.source ++ be 1 r.others ++ be 1 r.mode ++ be 1 r.attempts ++ be 1 r.failedStage ++ be 1 r.flags ++ be 1 r.stateBefore),
     fNum 8 r.rtc, fNum 8 r.rtcSpent, (false, be 1 r.observed ++ be 1 r.required), fNum 2 r.stageTime, fNum 4 r.wakes]

/-- Power (R636). -/
def powerObject (s : State) (little : Bool) (idx sub : Nat) : Option Val :=
  if idx = 0x2F02 then match sub with
    | 1 => someBytes (flat little (wakeFields s))
    | 3 => some1 (b2n s.power.pfwLow)
    | _ => none
  else if idx = 0x2F10 ∧ sub = 1 then some1 (recentRestarts s).length
  else none

/-! ### Chapters 19 and 20 -/

/-- A part's flags (R666): [0] verified at item 3, [1] written from a delta, [2] measured under R642. -/
def partFlags (s : State) (b id delta : Nat) : Nat :=
  b2n (b == bankActive s.keys.bankWord && s.ro 0x2F03 0x01 3 == 1) + delta + 4 * b2n (b == bankActive s.keys.bankWord && id < 2)

/-- Trial time left, ps (R664). -/
def trialLeft (s : State) : Nat :=
  if !inTrial s then 0 else match s.keys.trialUntil with | some u => u - s.now | none => s.keys.trialLeft

/-- 0x3000:01 Key store state: 3 retired, 1 LOCKED, 2 integrity failed, 0 OK. -/
def keyStoreState (s : State) : Nat :=
  if s.life = 4 then 3 else if s.keys.locked then 1 else if s.keys.integrityFailed then 2 else 0

/-- Keys and update (R668). -/
def keyObject (s : State) (idx sub row : Nat) : Option Val :=
  let k := s.keys
  if idx = 0x3000 then match sub with
    | 1 => some1 (keyStoreState s)
    | 3 => some1 (ownerSlot k)
    | 4 => some1 k.counter
    | 5 => someBytes (fit 48 k.measuredB)
    | 6 => someBytes (fit 48 k.measuredS)
    | 7 => some1 (b2n k.tamperLatch)
    | 8 => someBytes (be 32 s.free)
    | _ => none
  else if idx = 0x3001 then match sub with
    | 2 => someBytes (Config.transportPublicKey s.life)
    | 4 => someBytes (Config.dtlsPublicKey s.life)
    | _ => none
  else if idx = 0x3020 then match sub with
    | 1 => some1 (if k.unusable.contains row then 3 else if (lookup row k.loaded).isSome then 2 else if (lookup row k.blobs).isSome then 1 else 0)
    | 2 => some1 (match blobOf k row with | some b => b.usage | none => 0)
    | _ => none
  else if idx = 0x3021 ∧ sub = 2 then (lookup row k.blobs).bind fun b => someBytes (b.header ++ b.wrapped)
  else if idx = 0x3111 then match sub with
    | 1 => (if inTrial s then some1 4 else none)
    | 2 => some1 k.imageOffset
    | 5 => some1 ((trialLeft s + sec 1 - 1) / sec 1)
    | _ => none
  else if idx = 0x3112 then
    (bankPart k (row / 16) (row % 16)).bind fun p => match sub with
      | 1 => someBytes (fit 48 p.2.2.2.1)
      | 2 => some1 p.2.2.1
      | 3 => some1 (partFlags s (row / 16) p.1 p.2.1)
      | _ => none
  else if idx = 0x3113 then match sub with
    | 1 => some1 k.rollback
    | 2 => some1 k.bankWord
    | _ => none
  else none

/-- Redundancy (R693). -/
def duplexObject (s : State) (idx sub : Nat) : Option Val :=
  if idx = 0x3211 then match sub with
    | 1 => some1 (if inPack s then (presentIds s).length else 0)
    | 2 => some1 (if inPack s then memberMask s else 0)
    | 3 => some1 (if inPack s then placerOf s else 0xFF)
    | _ => none
  else none

end Sys2Proof.Machine
end

