-- ==== Sys2Proof/Machine/Summary.lean ====
section
/-! DEFINITION. The general objects that are views of other state (R554), the subsystems' health (R551), and the state summary (R550,
R552). -/

namespace Sys2Proof.Machine
open Sys2Proof

/-- The 16 bytes of the device identity (R16). -/
def identityBytes : List Byte := be 16 Config.identity

/-- The ordering code EM8640-B-T-B0, T by the temperature grade (R18). -/
def orderingCode : List Byte := ascii (if Config.gradeX then "EM8640-B-X-B0" else "EM8640-B-I-B0")

/-- Sessions and sets (R554). -/
def generalObject (s : State) (idx sub row : Nat) : Option Val :=
  if idx = 0x1000 ∧ sub = 1 then someBytes identityBytes
  else if idx = 0x1000 ∧ sub = 2 then someBytes orderingCode
  else if idx = 0x1001 then match sub with
    | 1 => some1 s.dev
    | 2 => some1 s.power.cause
    | 3 => some1 s.life
    | _ => none
  else if idx = 0x1110 then
    if row = 16 then match sub with
      | 1 => some1 (b2n s.host.linkUp)
      | 2 => some1 (if s.host.linkUp then s.cfg 0x1100 0x05 else 0)
      | 5 => some1 s.imian.mailbox.requests
      | _ => none
    else match s.session row, sub with
      | some _, 1 => some1 1
      | some x, 2 => some1 x.role
      | some x, 3 => someBytes (fit 18 x.peer)
      | some x, 4 => some1 x.openedAt
      | some x, 5 => some1 x.requests
      | none, 3 => someBytes (List.replicate 18 0)
      | _, _ => none
  else if idx = 0x1200 then match sub with
    | 2 => some1 (s.cfg 0x1200 0x01)
    | 3 => someBytes (fit 48 (setHash s.active))
    | 4 => someBytes (fit 48 (setHash s.shadow))
    | 8 => some1 (match s.sets.swap with | some w => if w.validated && w.base == 1 && (leads s || follows s) then w.target else 0 | none => 0)
    | _ => none
  else none

/-! ### Health (R551) -/

/-- 2 when stopped, else 4 when not configured, else 3 when failed, else 1 when degraded, else 0. -/
def healthCode (stopped unused failed degraded : Bool) : Nat :=
  if stopped then 2 else if unused then 4 else if failed then 3 else if degraded then 1 else 0

/-- Self-test item i has failed. -/
def itemBad (s : State) (i : Nat) : Bool := s.ro 0x2F03 0x01 i == 2

/-- Health of subsystem n. -/
def health (s : State) (n : Nat) : Nat :=
  let cdie := !s.running
  let gdie := !s.gdieOn
  match n with
  | 0 => healthCode (!s.timeRuns) false false (!s.time.isSet || s.time.servo == 3 || s.time.nominal || s.time.trefLost)
  | 1 => healthCode false false (itemBad s 5) ((List.range 3).any fun k => prpMode s k != 0 && tabGet 2 s.port.pairState k != 0)
  | 2 => healthCode cdie (enabledRows s).isEmpty false (s.ingest.streams.any fun e => e.2.conds != 0)
  | 3 => healthCode cdie false false (s.groups.any fun e => e.2.suspended.isSome)
  | 4 => healthCode cdie false false (s.place.slices.any fun e => e.2 == 4)
  | 5 => healthCode cdie (!s.cfgB 0x2500 0x01) false (s.ro 0x2513 0x01 == 4)
  | 6 => healthCode cdie (!s.cfgB 0x2600 0x01) false false
  | 7 => healthCode cdie (ruleRows s).isEmpty s.alarm.beatLost (s.alarm.buckets.any fun e => e.2.storm)
  | 8 => healthCode cdie (!s.cfgB 0x2810 0x01 && !s.cfgB 0x2820 0x01 && (rowsOf s.active 0x2801 0x01).isEmpty) false s.pub.gap.isSome
  | 9 => healthCode gdie (!s.cfgB 0x2900 0x01) (itemBad s 6) (s.head.channels.any fun e => e.2.modFault || e.2.delayFault)
  | 10 => healthCode (gdie || s.dev == stStart) (s.rw 0x2A00 0x01 == 0) false (recordState s == recBlocked)
  | 11 => healthCode gdie (!leashEnabled s) false (leashState s == 3)
  | 12 => healthCode gdie (!(List.range 4).any fun f => s.cfgB 0x2B01 0x01 f) false
            ((List.range 4).any fun f => s.cfgB 0x2B01 0x01 f && energyQuality s f != 0)
  | 13 => healthCode cdie (jobRows s).isEmpty false (s.jobs.jobs.any fun e => e.2.overrun)
  | 14 => healthCode (s.dev == stSentinel || s.dev == stSafeTalk) false (bit (s.ro 0x2F03 0x02 5) 8) (!s.host.linkUp)
  | 15 => healthCode false false s.log.byrdoDown (s.log.full || s.hk.calFailed)
  | 16 => healthCode (!s.gdieOn) (!s.power.shepherdFailed && shepherdState s == 0) s.power.shepherdFailed false
  | 17 => healthCode false false (keyStoreState s != 0) false
  | 18 => healthCode false false s.power.mramLost false
  | 21 => healthCode (cdie && s.power.cause != 3 && s.power.cause != 7) false cdie false
  | 22 => healthCode (cdie && s.power.cause != 2 && s.power.cause != 6) false cdie false
  | 23 => healthCode cdie (roleNow s == 0 && s.cfg 0x3200 0x01 == 0) false (s.cfg 0x3200 0x01 == 1 && pairStateNow s != 2)
  | _ => 0

/-- Counters-stopped objects by subsystem (R550). -/
def stoppedFlags : List (Nat × Nat × Nat) :=
  [(2, 0x2230, 0x0F), (3, 0x2321, 1), (4, 0x2420, 0x0A), (5, 0x2540, 0x0B), (6, 0x2630, 9), (7, 0x2720, 0x0E), (8, 0x2840, 0x0E),
   (9, 0x2921, 5), (10, 0x2A40, 0x0B), (12, 0x2B21, 5), (13, 0x2C00, 3)]

/-- The counters-stopped mask. -/
def stoppedMask (s : State) : Nat :=
  stoppedFlags.foldl (fun (n : Nat) (f : Nat × Nat × Nat) => n + s.ro f.2.1 f.2.2 * 2 ^ f.1) (b2n (!s.host.linkUp) * 2 ^ 14)

/-! ### The summary (R550) -/

/-- Bytes 186–199: the pending swap. -/
def swapFields (s : State) : List (Bool × List Byte) :=
  match s.sets.swap with
  | none => [(false, List.replicate 14 0)]
  | some w =>
    let target := if w.base = 1 then [fNum 12 w.target] else if w.base = 2 then [fNum 4 w.target, (false, List.replicate 8 0)]
                  else [(false, List.replicate 12 0)]
    [(false, be 1 (w.base + 1) ++ [0])] ++ target

/-- A part entry: part ID, bank, flags, reserved, version. -/
def partFields (s : State) : List (Bool × List Byte) :=
  let b := bankActive s.keys.bankWord
  let l := ((bankParts s.keys b).take 16).flatMap fun p => [(false, be 1 p.1 ++ be 1 b ++ be 1 (partFlags s b p.1 p.2.1) ++ [0]), fNum 4 p.2.2.1]
  l ++ [(false, List.replicate (128 - 4 * l.length) 0)]

/-- Alarms in a state. -/
def alarmsIn (s : State) (st : Nat) : Nat := (s.alarm.alarms.filter fun e => e.2.state == st).length

/-- The fields of bytes 0 to 1,019. -/
def summaryFields (s : State) : List (Bool × List Byte) :=
  let b := bankActive s.keys.bankWord
  let one := fun (n : Nat) => (false, be 1 n)
  let outcome := if s.ro 0x1202 0x01 = 3 then s.sets.lastOutcome else s.ro 0x1202 0x01
  [fNum 2 1, fNum 2 1024, fNum 4 s.imian.summarySeq, fNum 12 (shownT96 s), (false, identityBytes),
   one s.dev, one s.power.cause, one s.life, one 0, fNum 4 ((s.now - s.power.startAt) / sec 1),
   one s.timeClass, one s.time.servo, one s.time.selected, one s.gatFlags, fNum 8 s.gat, fNum 8 ((s.uncertaintyPs + 999) / 1000),
   fNum 4 (s.cfg 0x1200 0x01), (false, fit 48 (setHash s.active)), fNum 12 (s.ro 0x1200 0x07),
   fNum 4 (readIn s.shadow 0x1200 0x01 noRow).bits, (false, fit 48 (setHash s.shadow)), fNum 4 (s.ro 0x1200 0x05), one (shadowState s), one outcome] ++
  swapFields s ++ (List.range 24).map (fun n => one (health s n)) ++
  [one (s.ro 0x2420 0x05), one (s.ro 0x2420 0x04), one (s.ro 0x2420 0x06), one (slicesIn s 2).length, one s.jobs.parked.length,
   one (roleNow s), one (if inPack s then memberId s else 0xFF), one (if inPack s then (presentIds s).length else 0),
   fNum 4 (alarmsIn s 1), fNum 4 (alarmsIn s 2), fNum 4 s.log.cursor, fNum 4 s.log.fill, fNum 4 (s.ro 0x2E20 0x04),
   one (b2n s.log.full + 2 * b2n s.log.frozenBy.isSome), one b, one (b2n (inTrial s)), one (Nat.min 16 (bankParts s.keys b).length),
   fNum 4 (bankVersion s.keys b), fNum 4 s.keys.rollback] ++
  partFields s ++ wakeFields s ++
  [fNum 4 (stoppedMask s), one s.imian.sessions.length, (false, List.replicate 591 0)]

/-- Take a summary: the sequence and the generation of 0x1010 advance (R550, R552). -/
def takeSummary (s : State) : State :=
  let s := s.onImian fun i => { i with summarySeq := (i.summarySeq + 1) % 2 ^ 32 }
  touch 0x1010 0x00 noRow (s.onImian fun i => { i with summary := summaryFields s })

/-- The last summary taken as a path carries it, with its CRC-32C. -/
def summaryBytes (s : State) (little : Bool) : List Byte :=
  let l := flat little s.imian.summary
  l ++ numTo little 4 (crc32c l)

end Sys2Proof.Machine
end

