-- ==== Sys2Proof/Machine/Read.lean ====
section
/-! DEFINITION. What an object reads (R517, R518, R521, R540): its value on a path, the checks of a read, and the effects some reads have. -/

namespace Sys2Proof.Machine
open Sys2Proof

/-- The type of a code; none for TABLE, reserved codes and Any. -/
def tyOf (c : Nat) : Option Ty :=
  [Ty.cmd, .bool, .u8, .u16, .u32, .u64, .i16, .i32, .i64, .f32, .f64, .t96, .gat, .octets, .string, .domain].find? fun t => t.code == c

/-- Bytes of a numeric type in a message. -/
def Ty.size (t : Ty) : Nat := (t.width + 7) / 8

/-- A type carried as a byte string. -/
def Ty.isBytes : Ty → Bool
  | .octets => true | .string => true | .domain => true | _ => false

/-! ### Values -/

/-- An RO object that is a view of other state. -/
def viewOf (s : State) (little : Bool) (idx sub row : Nat) : Option Val :=
  match idx / 256 with
  | 0x10 => if idx = 0x1010 then someBytes (summaryBytes s little) else generalObject s idx sub row
  | 0x11 => generalObject s idx sub row
  | 0x12 => generalObject s idx sub row
  | 0x20 => timeObject s idx sub row
  | 0x21 => timeObject s idx sub row
  | 0x22 => wideObject s idx sub row
  | 0x23 => wideObject s idx sub row
  | 0x24 => wideObject s idx sub row
  | 0x25 => eddyObject s idx sub row
  | 0x26 => oxbowObject s idx sub row
  | 0x27 => alarmObject s idx sub row
  | 0x28 => publishObject s idx sub row
  | 0x29 => localObject s idx sub row
  | 0x2A => localObject s idx sub row
  | 0x2B => energyObject s idx sub row
  | 0x2C => jobObject s idx sub row
  | 0x2D => hostObject s idx sub row
  | 0x2E => managementObject s idx sub row
  | 0x2F => powerObject s little idx sub
  | 0x30 => keyObject s idx sub row
  | 0x31 => keyObject s idx sub row
  | 0x32 => duplexObject s idx sub
  | _ => none

/-- The value of one row of an object (R518, R540); the log cursor of a row without a session reads B (R594). -/
def valueOf (s : State) (little shadow : Bool) (o : ObjRow) (row : Nat) : Val :=
  match o.acc with
  | .rws _ =>
    let d := if shadow then s.shadow else s.active
    if o.idx = 0x2100 ∧ o.sub = 3 then .num (fecIn d row) else readIn d o.idx o.sub row
  | .rw _ => if o.idx = 0x2E21 ∧ row ≠ 16 ∧ (s.session row).isNone then .num s.log.base else readIn s.live o.idx o.sub row
  | .ro => (viewOf s little o.idx o.sub row).getD (readIn s.status o.idx o.sub row)
  | .cmd _ => .num 0

/-- A value in a message: numbers in the order of the path, STRING with its length, byte strings unchanged (R517). -/
def carried (little : Bool) (o : ObjRow) (v : Val) : List Byte :=
  match o.ty with
  | .octets => v.bytes
  | .domain => v.bytes
  | .string => numTo little 2 v.bytes.length ++ v.bytes
  | t => numTo little t.size v.bits

/-- Reads with an effect: 0x2D20:01 pops a word (R571), 0x2920:01 clears its peak (R418), 0x3000:08 is new at each READ (R667), 0x1010 takes a
summary (R552). -/
def readEffect (idx sub row : Nat) (s : State) : State × Option Nat :=
  if idx = 0x2D20 ∧ sub = 1 then let (s, w) := popSluice row s; (s, some w)
  else if idx = 0x2920 ∧ sub = 1 then (s.setRow 0x2920 0x01 row 0, some (s.ro 0x2920 0x01 row))
  else if idx = 0x3000 ∧ sub = 8 then (s.drawn, none)
  else if idx = 0x1010 then (takeSummary s, none)
  else (s, none)

/-- Read one row: the state after, and the value as carried. -/
def readRow (little shadow : Bool) (o : ObjRow) (row : Nat) (s : State) : State × List Byte :=
  let (s', w) := readEffect o.idx o.sub row s
  match w with
  | some n => (s', carried little o (.num n))
  | none => (s', carried little o (valueOf s' little shadow o row))

/-- Read count rows from a first one. -/
def readRows (little shadow : Bool) (o : ObjRow) : Nat → Nat → State → State × List Byte
  | 0, _, s => (s, [])
  | n + 1, row, s =>
    let (s, v) := readRow little shadow o row s
    let (s, rest) := readRows little shadow o n (row + 1) s
    (s, v ++ rest)

/-! ### Checks of a read (R521) -/

/-- Reads that the state refuses with 0x0D whatever the transport: the log without MRAM or key store (R596), keys absent in the life-cycle
(R640), a Sluice over CAN FD (R571). -/
def unreadable (s : State) (w : Who) (idx sub : Nat) : Bool :=
  ((idx == 0x2E22 || (idx == 0x2E21 && sub == 2)) && !recording s) ||
  (idx == 0x3001 && (sub == 2 || sub == 4) && (rootOf s.life).isNone) ||
  (idx == 0x2D20 && (match w with | .can _ => true | _ => false))

/-- Checks 2 to 5 of a read: transport and device state, existence, role, access. -/
def readStatus (s : State) (w : Who) (idx sub row : Nat) : Nat :=
  if !offered s w .read idx sub || unreadable s w idx sub then 0x0D
  else match findObj idx sub with
    | none => 0x01
    | some o =>
      if rowStatus o row 1 == 0x01 || rowMissing o row then 0x01
      else if !roleHas ((s.roleOf w).getD 0) 1 then 0x02
      else match o.acc with
        | .cmd _ => 0x0E
        | _ => 0

/-- Check 7 of rows: a count that runs past the last row. -/
def countBad (o : ObjRow) (row count : Nat) : Bool := if o.rows = 0 then count != 1 else o.rows < row + count

end Sys2Proof.Machine
end

