-- ==== Sys2Proof/Machine/Commands.lean ====
section
/-! DEFINITION. The CMD objects as a table, for COMMAND items that come in a message or a CAN FD frame (R525, R533, R534): what each does
beyond check 7, and what follows its answer. -/

namespace Sys2Proof.Machine
open Sys2Proof

/-- 0x1130:01[s] Close session: event 0x1102 with cause 2; a row without a DTLS session conflicts. -/
def closeSession (n : Nat) (s : State) : State × Nat := if (s.session n).isSome then (endSession n 2 s, 0) else (s, 0x06)

/-- What a CMD object does, by index × 256 + subindex. -/
def commandBody (obj row : Nat) (arg : Val) (w : Who) : State → State × Nat :=
  match obj with
  | 0x103001 => fun s => ok (raise 0x1021 (fit 16 (labelOf s w))) s
  | 0x113001 => closeSession row
  | 0x120101 => validateCommand
  | 0x120102 => swapCommand arg.bytes
  | 0x120103 => syncCommand
  | 0x120104 => cancelCommand
  | 0x200501 => stepToSource
  | 0x200502 => setT96 arg.bits
  | 0x213001 => ok clearPorts
  | 0x226001 => ok clearIngest
  | 0x226002 => requestHeader row
  | 0x233001 => ok clearAlignment
  | 0x233002 => resumeCommand row
  | 0x243001 => ok clearPlacement
  | 0x243002 => rebalanceNow
  | 0x243003 => ok fun s => s.onPlace fun p => { p with restoreRetired := true }
  | 0x255001 => ok clearEddy
  | 0x255002 => ok (resetMode 5)
  | 0x264001 => ok clearOxbow
  | 0x273001 => acknowledge row
  | 0x273002 => ok clearAlarms
  | 0x273003 => startPinTest row
  | 0x283001 => freezeCommand
  | 0x283002 => releaseCommand
  | 0x283003 => exportCommand
  | 0x283004 => ok clearPublishing
  | 0x293001 => ok clearHeadwater
  | 0x293002 => switchBank arg.bits
  | 0x2A3001 => ok (triggerCommand arg.bits)
  | 0x2A3002 => exportRecord row
  | 0x2A3003 => releaseRecord row
  | 0x2A3004 => recalibrate
  | 0x2A3005 => ok clearCapture
  | 0x2B3001 => takeSnapshot
  | 0x2B3002 => ok (clearEnergy row)
  | 0x2B3003 => ok (ackWraps row)
  | 0x2B3004 => ok (resetMaxima row)
  | 0x2B3005 => ok clearEnergyCounters
  | 0x2C3001 => ok clearJobs
  | 0x2C3002 => runJobNow row
  | 0x2D3001 => ok clearHost
  | 0x2E5001 => calibrate
  | 0x2E5002 => if arg.bits = 1 then freezeLog w else releaseLog w
  | 0x2E5003 => clearLog
  | 0x2E5004 => testChannel arg.bits
  | 0x2E5005 => ok clearHousekeeping
  | 0x2F3001 => fun s => if kennelAdmitted s then (s, 0) else (s, 0x06)
  | 0x2F3002 => sentinelCommand
  | 0x2F3003 => restartCommand
  | 0x2F3004 => ok clearPower
  | 0x300201 => attestBegin arg.bytes
  | 0x303001 => applyMessage w
  | 0x313001 => ok abortUpdate
  | 0x313002 => activateBank
  | 0x313003 => confirmCommand
  | 0x313004 => fun s => if inTrial s then (s, 0) else (s, 0x06)
  | 0x323001 => handOver
  | 0x323002 => resynchronise
  | 0x323003 => packWakeNow row
  | 0x323004 => ok clearRedundancy
  | _ => fun s => (s, 0x01)

/-- What follows the answer of an accepted command (R554, R609, R648, R663, R664). -/
def commandAfter (obj : Nat) : State → State :=
  match obj with
  | 0x103001 => resetLater 0x01
  | 0x2F3001 => enterKennel
  | 0x303001 => afterMessage
  | 0x313002 => resetLater 0x01
  | 0x313004 => fun s => revert 5 (endSessions 3 s)
  | _ => id

def execCloseSession (t : Nat) (who : Who) (session : Nat) (s : State) : Host.Outcome State Fault Refusal :=
  complete t (runCommand 0x1130 0x01 session (.num 0) who (closeSession session)) s

end Sys2Proof.Machine
end

