-- ==== Sys2Proof/Machine/Message.lean ====
section
/-! DEFINITION. Imian messages as bytes: header and items (R523, R524), values of count rows, responses. -/

namespace Sys2Proof.Machine
open Sys2Proof

/-- A field of a message in the byte order of the path (R517, R524). -/
def numAt (little : Bool) (l : List Byte) (o n : Nat) : Nat := if little then ofLE (slice l o n) else beAt l o n

/-- An item (R524): its row field, and the row it names (`noRow` for none; 0xFF_FFFF named as a row is taken past every table). -/
structure Item where
  idx : Nat
  sub : Nat
  code : Nat
  rowField : Nat
  row : Nat
  count : Nat
  status : Nat
  flags : Nat
  value : List Byte
deriving DecidableEq, Repr

/-- The row a row field names (R516, R524). -/
def rowOfField (f : Nat) : Nat :=
  if bit f 31 then (if f % 2 ^ 24 = noRow then noRow + 1 else f % 2 ^ 24) else noRow

/-- Zero bytes that pad a value to a multiple of 4. -/
def padding (n : Nat) : List Byte := List.replicate ((4 - n % 4) % 4) 0

/-- The items of a body; none when it does not divide into items (check 1 of R521).  `fuel` bounds their number. -/
def parseItems (little : Bool) : Nat → List Byte → Option (List Item)
  | _, [] => some []
  | 0, _ => none
  | n + 1, l =>
    let len := numAt little l 12 4
    let whole := 16 + len + (padding len).length
    if l.length < whole then none
    else
      let f := numAt little l 4 4
      let i : Item := ⟨numAt little l 0 2, byteAt l 2, byteAt l 3, f, rowOfField f, numAt little l 8 2, byteAt l 10, byteAt l 11, slice l 16 len⟩
      (parseItems little n (l.drop whole)).map fun rest => i :: rest

/-- Reserved bits of an item are 0, as is its status (check 7, R11). -/
def Item.clean (i : Item) : Bool := field i.rowField 30 24 == 0 && i.flags / 2 == 0 && i.status == 0
/-- The shadow value is asked for. -/
def Item.shadow (i : Item) : Bool := bit i.flags 0
/-- The form of an item (R524): 1 to 256 rows, 1 without a row. -/
def Item.formed (i : Item) : Bool := 1 ≤ i.count && i.count ≤ 256 && (i.row != noRow || i.count == 1)
/-- The rows an item names. -/
def Item.rows (i : Item) : List Nat := (List.range i.count).map fun k => if i.row = noRow then noRow else i.row + k

/-- An item of a response: header with type and status, value, padding. -/
def Item.bytes (little : Bool) (i : Item) (code status : Nat) (value : List Byte) : List Byte :=
  numTo little 2 i.idx ++ be 1 i.sub ++ be 1 code ++ numTo little 4 i.rowField ++ numTo little 2 i.count ++ be 1 status ++ be 1 i.flags ++
  numTo little 4 value.length ++ value ++ padding value.length

/-- A message (R523). -/
def messageBytes (little : Bool) (op flags status id count : Nat) (body : List Byte) : List Byte :=
  be 1 1 ++ be 1 op ++ be 1 flags ++ be 1 status ++ numTo little 4 id ++ numTo little 2 count ++ be 2 0 ++ numTo little 4 body.length ++ body

/-- Status, number of items and body of an answer, in the order of the request's items. -/
structure Answer where
  status : Nat
  count : Nat
  body : List Byte

/-- The answer with no items. -/
def Answer.bare (status : Nat) : Answer := ⟨status, 0, []⟩

/-- The message status: that of the lowest-numbered failed item (R522). -/
def firstFailure (l : List Nat) : Nat := (l.find? fun c => c != 0).getD 0

/-- Values of count rows of a numeric or fixed-size type. -/
def splitFixed (n : Nat) (f : List Byte → Val) : Nat → List Byte → List Val
  | 0, _ => []
  | k + 1, l => f (l.take n) :: splitFixed n f k (l.drop n)

/-- Values of count rows of a STRING; none when the lengths do not add up. -/
def splitStrings (little : Bool) : Nat → List Byte → Option (List Val)
  | 0, l => if l.isEmpty then some [] else none
  | k + 1, l =>
    let n := numAt little l 0 2
    if l.length < 2 + n then none
    else (splitStrings little k (l.drop (2 + n))).map fun rest => .oct (slice l 2 n) :: rest

/-- The values an item carries under its type code; none when value length and count disagree (check 1). -/
def Item.values (little : Bool) (i : Item) : Option (List Val) :=
  match tyOf i.code with
  | none => some (List.replicate i.count (.num 0))
  | some .cmd => if i.value.isEmpty then some (List.replicate i.count (.num 0)) else none
  | some .string => splitStrings little i.count i.value
  | some .octets =>
    if i.value.length % i.count = 0 then some (splitFixed (i.value.length / i.count) (fun l => .oct l) i.count i.value) else none
  | some .domain => some (List.replicate i.count (.oct []))
  | some t =>
    if i.value.length = t.size * i.count then
      some (splitFixed t.size (fun l => .num (numAt little l 0 t.size)) i.count i.value)
    else none

end Sys2Proof.Machine
end

