-- ==== Sys2Proof/Machine/Imian.lean ====
section
/-! DEFINITION. The Imian operations (R525–R530, R538, R552) over any transport, and the rows that bring a message. -/

namespace Sys2Proof.Machine
open Sys2Proof

/-! ### READ -/

/-- The status of a READ item (R521). -/
def readItemStatus (s : State) (w : Who) (i : Item) : Nat :=
  if !i.formed || !i.value.isEmpty then 0x0C
  else
    let c := readStatus s w i.idx i.sub i.row
    if c ≠ 0 then c
    else match findObj i.idx i.sub with
      | none => 0x01
      | some o =>
        if o.ty == .domain || (i.code != 0xFF && i.code != o.ty.code) then 0x04
        else if !i.clean || countBad o i.row i.count then 0x05
        else 0

/-- Read items in order; a value that would carry the response past 8,192 bytes is refused with 0x0A. -/
def readItems (w : Who) (little : Bool) : List Item → Nat → State → State × List Nat × List Byte
  | [], _, s => (s, [], [])
  | i :: rest, used, s =>
    let c := readItemStatus s w i
    let (s', c, out) : State × Nat × List Byte :=
      match c, findObj i.idx i.sub with
      | 0, some o =>
        let (s', v) := readRows little i.shadow o i.count i.row s
        let out := i.bytes little o.ty.code 0 v
        if used + out.length + 16 * rest.length ≤ 8192 then (s', 0, out) else (s, 0x0A, i.bytes little i.code 0x0A [])
      | c, _ => (s, c, i.bytes little i.code c [])
    let (s', cs, body) := readItems w little rest (used + out.length) s'
    (s', c :: cs, out ++ body)

def doRead (w : Who) (little : Bool) (l : List Item) (s : State) : State × Answer :=
  let (s, cs, body) := readItems w little l 16 s
  (s, ⟨firstFailure cs, l.length, body⟩)

/-! ### WRITE -/

/-- Values that check 7 refuses beyond the object's own range: fixed conversions (R584), the scheduled leap (R725), pulse rows (R80). -/
def valueRefused (s : State) (idx sub row : Nat) (v : Val) : Bool :=
  (idx == 0x2E03 && 1 ≤ sub && sub ≤ 3 && 16 ≤ row && row ≤ 23) ||
  (idx == 0x2001 && sub == 0x0F &&
    !(v.bytes.all (· == 0) || byteAt v.bytes 12 == 0x01 || byteAt v.bytes 12 == 0xFF)) ||
  (idx == 0x2020 && pulseRefused row sub v.bits s)

/-- The status of one row's value in a WRITE (checks 2 to 8). -/
def rowWriteStatus (s : State) (w : Who) (idx sub row : Nat) (v : Val) : Nat :=
  let c := writeStatus idx sub row v w s
  if c ≠ 0 then c
  else if valueRefused s idx sub row v then 0x05
  else match findObj idx sub with
    | some o => match o.acc with
      | .rws _ => if shadowBusy s then 0x06 else 0
      | _ => 0
    | none => 0x01

/-- The status of a WRITE item (R521, R526). -/
def writeItemStatus (s : State) (w : Who) (little : Bool) (i : Item) : Nat :=
  if !i.formed then 0x0C
  else match i.values little, findObj i.idx i.sub with
    | none, _ => 0x0C
    | some vs, o =>
      let first := rowWriteStatus s w i.idx i.sub i.row (vs.headD (.num 0))
      if first ≠ 0 ∧ first ≠ 0x05 ∧ first ≠ 0x06 then first
      else match o with
        | none => 0x01
        | some o =>
          if i.code ≠ o.ty.code then 0x04
          else if !i.clean || countBad o i.row i.count then 0x05
          else firstFailure ((i.rows.zip vs).map fun p => rowWriteStatus s w i.idx i.sub p.1 p.2)

/-- A live write (R520): stored, and its effect made. -/
def liveWrite (idx sub row : Nat) (v : Val) (s : State) : State :=
  if idx = 0x2020 then pulseWrite row sub v s
  else
    let s := s.setLive idx sub row v
    let on := v.bits == 1
    match idx * 256 + sub with
    | 0x220101 => streamEnable row on s
    | 0x290101 => feederEnable row on s
    | 0x291001 => localEnable row on s
    | 0x2A0001 => captureEnable on s
    | 0x2C010A => jobEnable row on s
    | _ => s

/-- The object is one of the configuration set. -/
def isSetObject (idx sub : Nat) : Bool :=
  match findObj idx sub with
  | some o => match o.acc with | .rws _ => true | _ => false
  | none => false

/-- Apply one row of a WRITE (R540). -/
def applyRow (idx sub row : Nat) (v : Val) (s : State) : State :=
  if isSetObject idx sub then s.setShadow idx sub row v else liveWrite idx sub row v s

/-- Object and rows an item names, as keys. -/
def Item.keys (i : Item) : List Nat := i.rows.map fun r => okey i.idx i.sub r

/-- WRITE (R526): all items at one instant, or none. -/
def doWrite (w : Who) (little : Bool) (l : List Item) (s : State) : State × Answer :=
  if !decide (l.flatMap Item.keys).Nodup then (s, .bare 0x0C)
  else
    let cs := l.map fun i => writeItemStatus s w little i
    let bad := firstFailure cs
    let shown := if bad = 0 then cs else cs.map fun c => if c = 0 then 0x0F else c
    let body := ((l.zip shown).map fun p => p.1.bytes little p.1.code p.2 []).flatten
    if bad ≠ 0 then (s, ⟨bad, l.length, body⟩)
    else
      let s' := l.foldl (fun (s : State) (i : Item) =>
        (i.rows.zip ((i.values little).getD [])).foldl (fun (s : State) (p : Nat × Val) => applyRow i.idx i.sub p.1 p.2 s) s) s
      let s' := if l.any fun i => isSetObject i.idx i.sub then shadowEdited s' else s'
      (s', ⟨0, l.length, body⟩)

/-! ### COMMAND -/

/-- The status of a COMMAND item up to check 7. -/
def commandItemStatus (s : State) (w : Who) (little : Bool) (i : Item) : Nat :=
  if !i.formed then 0x0C
  else match i.values little with
    | none => 0x0C
    | some vs =>
      let c := commandStatus i.idx i.sub i.row (vs.headD (.num 0)) w s
      if c ≠ 0 ∧ c ≠ 0x05 then c
      else match findObj i.idx i.sub with
        | none => 0x01
        | some o => if i.code ≠ o.ty.code then 0x04 else if !i.clean || i.count ≠ 1 then 0x05 else c

def doCommand (w : Who) (little : Bool) (i : Item) (s : State) : State × Answer × (State → State) :=
  let c := commandItemStatus s w little i
  let obj := i.idx * 256 + i.sub
  let arg := (((i.values little).getD []).headD (.num 0))
  let (s, c) := if c = 0 then commandBody obj i.row arg w s else (s, c)
  (s, ⟨c, 1, i.bytes little i.code c []⟩, if c = 0 then commandAfter obj else id)

/-! ### READ_SEG (R529) -/

/-- The key under which generation and content of an object are kept; the shadow value of an RWS object has its own. -/
def segKey (o : ObjRow) (row : Nat) (shadow : Bool) : Nat := okey o.idx o.sub row + b2n shadow * 2 ^ 60

/-- The bytes of a DOMAIN or OCTETS object on a path. -/
def contentOf (s : State) (little shadow : Bool) (o : ObjRow) (row : Nat) : List Byte := (valueOf s little shadow o row).bytes

/-- Objects whose generation advances by rules of their own: the summary (R552), the conversion buffer, the event log (R594). -/
def ownGeneration (idx : Nat) : Bool := idx == 0x1010 || idx == 0x2E11 || idx == 0x2E22

/-- Advance the generation of an object whose content differs from what it was when READ_SEG last read it. -/
def noteContent (shadow : Bool) (o : ObjRow) (row : Nat) (s : State) : State :=
  if ownGeneration o.idx then s
  else
    let k := segKey o row shadow
    let l := contentOf s false shadow o row
    s.onImian fun i =>
      let changed : Bool := match lookup k i.seen with | some m => m != l | none => false
      { i with seen := putKey k l i.seen
               generations := if changed then putKey k (tabGet 1 i.generations k + 1) i.generations else i.generations }

/-- The generation, U32. -/
def generationOf (s : State) (o : ObjRow) (row : Nat) (shadow : Bool) : Nat := tabGet 1 s.imian.generations (segKey o row shadow) % 2 ^ 32

/-- The status of a segment read up to check 7. -/
def segReadStatus (s : State) (w : Who) (i : Item) (len most : Nat) : Nat :=
  if !i.formed then 0x0C
  else
    let c := readStatus s w i.idx i.sub i.row
    if c ≠ 0 then c
    else match findObj i.idx i.sub with
      | none => 0x01
      | some o =>
        if !(o.ty == .domain || o.ty == .octets) || i.code ≠ o.ty.code then 0x04
        else if !i.clean || i.count ≠ 1 || len = 0 || most < len then 0x05
        else 0

/-- Read a segment: the status; size, generation and bytes.  A read of the summary at offset 0 takes a new one (R552); a READ_SEG that returns a
record's final byte counts as its export (R459). -/
def readSegment (little shadow : Bool) (o : ObjRow) (row offset len generation : Nat) (s : State) : State × Nat × Nat × Nat × List Byte :=
  let s := noteContent shadow o row s
  if generation ≠ 0 ∧ generation ≠ generationOf s o row shadow then (s, 0x06, 0, 0, [])
  else
    let s := if offset = 0 ∨ (o.idx = 0x1010 ∧ s.imian.summary.isEmpty) then (readEffect o.idx o.sub row s).1 else s
    let l := contentOf s little shadow o row
    let d := slice l offset len
    let s := if o.idx = 0x2A20 ∧ o.sub = 1 ∧ d ≠ [] ∧ offset + d.length = l.length then markExported row s else s
    (s, 0, l.length, generationOf s o row shadow, d)

def doReadSeg (w : Who) (little : Bool) (i : Item) (s : State) : State × Answer :=
  let offset := numAt little i.value 0 8
  let len := numAt little i.value 8 4
  let c := if i.value.length ≠ 16 then 0x0C else segReadStatus s w i len 4096
  match c, findObj i.idx i.sub with
  | 0, some o =>
    let (s, c, size, gen, d) := readSegment little i.shadow o i.row offset len (numAt little i.value 12 4) s
    if c ≠ 0 then (s, ⟨c, 1, i.bytes little i.code c []⟩)
    else (s, ⟨0, 1, i.bytes little i.code 0
      (numTo little 8 offset ++ numTo little 4 d.length ++ numTo little 8 size ++ numTo little 4 gen ++ d)⟩)
  | c, _ => (s, ⟨c, 1, i.bytes little i.code c []⟩)

/-! ### WRITE_SEG (R530) -/

/-- The largest content of a DOMAIN object. -/
def domainLimit (o : ObjRow) : Nat := match o.rng with | .dom _ hi => hi | _ => 2 ^ 32

/-- The open transfer on an object. -/
def transferOn (s : State) (k : Nat) : Option Transfer := s.imian.transfers.find? fun t => t.key == k

/-- The status of a segment write up to check 7. -/
def segWriteStatus (s : State) (w : Who) (i : Item) (len flags : Nat) : Nat :=
  if !i.formed || i.value.length ≠ 20 + len then 0x0C
  else if !offered s w .writeSeg i.idx i.sub then 0x0D
  else match findObj i.idx i.sub with
    | none => 0x01
    | some o =>
      let need := match o.acc with | .cmd r => r | .rw r => r | .rws r => r | .ro => 1
      let fixed : Bool := match o.acc with | .ro => true | .cmd _ => true | _ => false
      let live : Bool := match o.acc with | .rw _ => true | _ => false
      if rowStatus o i.row 1 == 0x01 || rowMissing o i.row then 0x01
      else if !roleHas ((s.roleOf w).getD 0) need then 0x02
      else if fixed then 0x03
      else if o.ty ≠ .domain || i.code ≠ o.ty.code then 0x04
      else if live && stopped s i.idx then 0x0D
      else if !i.clean || i.count ≠ 1 || len = 0 || 4096 < len || flags > 3 then 0x05
      else 0

/-- Check 8 of a segment write: the shadow's state (R542), the active filter bank (R414), the update (R662), another session's transfer, the
segment sequence, the limit, the CRC. -/
def segWriteRefused (s : State) (w : Who) (o : ObjRow) (row offset crc : Nat) (first : Bool) (data : List Byte) : Nat :=
  let open_ := transferOn s (okey o.idx o.sub row)
  let other : Bool := match open_ with | some t => t.who != w | none => false
  let at_ : Option Nat := if first then some 0 else open_.map fun t => t.data.length
  if isSetObject o.idx o.sub && shadowBusy s then 0x06
  else if o.idx = 0x2906 ∧ o.sub = s.ro 0x2921 0x01 + 1 then 0x06
  else if o.idx = 0x3110 ∧ updateRefused s then 0x06
  else if other then 0x06
  else if at_ ≠ some offset then 0x08
  else if domainLimit o < offset + data.length then 0x0A
  else if crc32c data ≠ crc then 0x09
  else 0

/-- A closed transfer: the object holds exactly the bytes accepted, when its range takes them. -/
def closeTransfer (o : ObjRow) (row : Nat) (data : List Byte) (s : State) : State × Nat :=
  let v := Val.oct data
  -- R652, R11: a blob's reserved usages and bytes
  let blobBad := o.idx == 0x3021 && o.sub == 1 && (byteAt data 2 ≥ 3 || beAt data 6 2 != 0)
  if !inRange o v || blobBad then (s, 0x05)
  else if isSetObject o.idx o.sub then (shadowEdited (s.setShadow o.idx o.sub row v), 0)
  else if o.idx = 0x3021 then
    ((s.setLive o.idx o.sub row v).onKeys fun k => { k with loaded := putKey row ⟨data.take 16, data.drop 16⟩ k.loaded }, 0)
  else (s.setLive o.idx o.sub row v, 0)

/-- An accepted segment. -/
def takeSegment (w : Who) (o : ObjRow) (row : Nat) (first last : Bool) (data : List Byte) (s : State) : State × Nat :=
  let k := okey o.idx o.sub row
  let before := if first then [] else match transferOn s k with | some t => t.data | none => []
  let d := before ++ data
  let others := s.imian.transfers.filter fun t => t.key != k
  let s := s.onImian fun i => { i with transfers := if last then others else others ++ [⟨k, w, d, s.now⟩] }
  let image := o.idx == 0x3110
  let s := if image && first then updateBegins s else s
  let (s, c) := if last then closeTransfer o row d s else (s, 0)
  (if image then updateTakes d last s else s, c)

def doWriteSeg (w : Who) (little : Bool) (i : Item) (s : State) : State × Answer :=
  let offset := numAt little i.value 0 8
  let len := numAt little i.value 8 4
  let flags := numAt little i.value 12 4
  let data := i.value.drop 20
  let c := if i.value.length < 20 then 0x0C else segWriteStatus s w i len flags
  let (s, c) : State × Nat :=
    match c, findObj i.idx i.sub with
    | 0, some o =>
      let c := segWriteRefused s w o i.row offset (numAt little i.value 16 4) (bit flags 0) data
      if c ≠ 0 then (s, c) else takeSegment w o i.row (bit flags 0) (bit flags 1) data s
    | c, _ => (s, c)
  (s, ⟨c, 1, i.bytes little i.code c (i.value.take 20)⟩)

/-- No segment for 60 s: the transfer is abandoned. -/
def transferTimeout (k : Nat) (s : State) : State := abandonTransfers (fun t => t.key == k && decide (t.lastSegment + sec 60 ≤ s.now)) s

def execSegmentTransferTimeout (t idx sub row : Nat) (s : State) : Host.Outcome State Fault Refusal :=
  complete t (transferTimeout (okey idx sub row)) s

/-! ### SUBSCRIBE (R538) -/

/-- The value a subscription shows, or none when it is not available (R539). -/
def subscribed (s : State) (session idx sub row count : Nat) : Option (Nat × List Byte) :=
  match findObj idx sub with
  | some o =>
    if readStatus s (.dtls session) idx sub row ≠ 0 then none
    else
      let rows := (List.range count).map fun k => if row = noRow then noRow else row + k
      some (o.ty.code, rows.flatMap fun r => carried false o (valueOf s false false o r))
  | none => none

/-- The status of a SUBSCRIBE item. -/
def subscribeStatus (s : State) (n : Nat) (i : Item) : Nat :=
  let mode := byteAt i.value 0
  let ms := beAt i.value 1 4
  if !i.formed || i.value.length ≠ 5 then 0x0C
  else if !offered s (.dtls n) .subscribe i.idx i.sub then 0x0D
  else
    let c := readStatus s (.dtls n) i.idx i.sub i.row
    if c ≠ 0 then c
    else match findObj i.idx i.sub with
      | none => 0x01
      | some o =>
        if o.ty == .domain || i.code ≠ o.ty.code then 0x04
        else if !i.clean || countBad o i.row i.count || 16 < i.count || 2 < mode || (mode ≠ 2 && (ms < 10 || 3600000 < ms)) then 0x05
        else
          let mine := s.imian.subscriptions.filter fun b => b.session == n
          let known := mine.any fun b => b.idx == i.idx && b.sub == i.sub && b.row == i.row && b.count == i.count
          if mode ≠ 2 && !known && (64 ≤ mine.length || 512 ≤ s.imian.subscriptions.length) then 0x07 else 0

/-- Make, replace or cancel a subscription. -/
def subscribeItem (n : Nat) (i : Item) (s : State) : State × Nat :=
  let c := subscribeStatus s n i
  if c ≠ 0 then (s, c)
  else
    let mode := byteAt i.value 0
    let same := fun (b : Subscription) => b.session == n && b.idx == i.idx && b.sub == i.sub && b.row == i.row && b.count == i.count
    let rest := s.imian.subscriptions.filter fun b => !same b
    let used := (rest.filter fun b => b.session == n).map (·.number)
    let num := ((List.range 64).find? fun k => !used.contains k).getD 64
    let span := ms (beAt i.value 1 4)
    let start := match subscribed s n i.idx i.sub i.row i.count with | some v => v.2 | none => []
    let new : Subscription := ⟨n, num, i.idx, i.sub, i.row, i.count, mode, span, 0, if mode = 1 then s.now + span else s.now, start⟩
    (s.onImian fun x => { x with subscriptions := if mode = 2 then rest else rest ++ [new] }, 0)

/-- Subscribe item by item. -/
def subscribeItems (n : Nat) : List Item → State → State × List Nat
  | [], s => (s, [])
  | i :: rest, s =>
    let (s, c) := subscribeItem n i s
    let (s, cs) := subscribeItems n rest s
    (s, c :: cs)

/-- SUBSCRIBE is offered over DTLS only. -/
def doSubscribe (w : Who) (little : Bool) (l : List Item) (s : State) : State × Answer :=
  let (s, cs) : State × List Nat :=
    match w with
    | .dtls n => subscribeItems n l s
    | _ => (s, l.map fun _ => 0x0D)
  (s, ⟨firstFailure cs, l.length, ((l.zip cs).map fun p => p.1.bytes little p.1.code p.2 []).flatten⟩)

/-- Whether a subscription's NOTIFY is due (R539). -/
def notifyDue (s : State) (b : Subscription) : Bool :=
  let v := match subscribed s b.session b.idx b.sub b.row b.count with | some v => v.2 | none => []
  b.notBefore ≤ s.now && (b.mode == 1 || v != b.lastValue)

/-- A NOTIFY: operation 0x80, flag [6], the subscription's sequence number; 0x0D and no value while the object is not available. -/
def notifyMessage (s : State) (b : Subscription) : List Byte :=
  let f := if b.row = noRow then 0 else 2 ^ 31 + b.row
  let i : Item := ⟨b.idx, b.sub, 0, f, b.row, b.count, 0, 0, []⟩
  match subscribed s b.session b.idx b.sub b.row b.count with
  | some v => messageBytes false 0x80 0x40 0 ((b.seq + 1) % 2 ^ 32) 1 (i.bytes false v.1 0 v.2)
  | none => messageBytes false 0x80 0x40 0x0D ((b.seq + 1) % 2 ^ 32) 1 (i.bytes false ((match findObj b.idx b.sub with | some o => o.ty.code | none => 0)) 0x0D [])

/-- SUBSCRIPTION_NOTIFY: the NOTIFY of subscription k of a session, when it is due. -/
def notify (n k : Nat) (s : State) : State :=
  match s.imian.subscriptions.find? fun b => b.session == n && b.number == k with
  | none => s
  | some b =>
    if !(s.reaches (.dtls n) && notifyDue s b) then s
    else
      let v := match subscribed s n b.idx b.sub b.row b.count with | some v => v.2 | none => []
      let b' := { b with seq := (b.seq + 1) % 2 ^ 32, notBefore := s.now + b.interval, lastValue := v }
      (s.onImian fun x => { x with subscriptions := x.subscriptions.map fun y => if y = b then b' else y }) |>.emit (.notify n (notifyMessage s b)) |>
        sendImian n (notifyMessage s b)

def execSubscriptionNotify (t session n : Nat) (s : State) : Host.Outcome State Fault Refusal := complete t (notify session n) s

/-! ### SUMMARY (R525, R552) -/

def doSummary (w : Who) (little : Bool) (s : State) : State × Answer :=
  if !offered s w .summary 0x1010 0x00 then (s, .bare 0x0D)
  else if !roleHas ((s.roleOf w).getD 0) 1 then (s, .bare 0x02)
  else
    let s := takeSummary s
    let i : Item := ⟨0x1010, 0, 0x0D, 0, noRow, 1, 0, 0, []⟩
    (s, ⟨0, 1, i.bytes little 0x0D 0 (summaryBytes s little)⟩)

/-! ### Messages (R523, R527, R528) -/

/-- Items an operation takes (R525): least and most. -/
def itemBounds (op : Nat) : Option (Nat × Nat) :=
  match op with
  | 1 => some (1, 256)
  | 2 => some (1, 256)
  | 3 => some (1, 1)
  | 4 => some (1, 1)
  | 5 => some (1, 1)
  | 6 => some (1, 64)
  | 7 => some (0, 0)
  | _ => none

/-- The items of a well-formed message (check 1); none otherwise. -/
def messageItems (little : Bool) (m : List Byte) : Option (List Item) :=
  let op := byteAt m 1
  let count := numAt little m 8 2
  match itemBounds op with
  | none => none
  | some (lo, hi) =>
    if m.length < 16 || 8192 < m.length || byteAt m 0 ≠ 1 || byteAt m 2 / 64 ≠ 0 || byteAt m 3 ≠ 0 ||
       numAt little m 12 4 ≠ m.length - 16 || count < lo || hi < count then none
    else match parseItems little 256 (m.drop 16) with
      | some l => if l.length = count then some l else none
      | none => none

/-- Execute a message: the state after, the answer, and what follows the response. -/
def execute (w : Who) (little : Bool) (m : List Byte) (s : State) : State × Answer × (State → State) :=
  match messageItems little m with
  | none => (s, .bare 0x0C, id)
  | some l =>
    -- R11: reserved bits of the header
    if byteAt m 2 ≠ 0 ∨ numAt little m 10 2 ≠ 0 then (s, .bare 0x05, id) else
    let plain := fun (r : State × Answer) => (r.1, r.2, (id : State → State))
    match byteAt m 1, l with
    | 1, l => plain (doRead w little l s)
    | 2, l => plain (doWrite w little l s)
    | 3, i :: _ => plain (doReadSeg w little i s)
    | 4, i :: _ => plain (doWriteSeg w little i s)
    | 5, i :: _ => doCommand w little i s
    | 6, l => plain (doSubscribe w little l s)
    | 7, _ => plain (doSummary w little s)
    | _, _ => (s, .bare 0x0C, id)

/-- The responses kept for a requester (R528). -/
def keptOf (s : State) (w : Who) : List Kept :=
  match w with
  | .dtls n => match s.session n with | some x => x.kept | none => []
  | .mailbox => s.imian.mailbox.kept
  | .can _ => []

/-- Keep a response: the last 16 request IDs; one ID once. -/
def keep (w : Who) (k : Kept) (s : State) : State :=
  let push := fun (l : List Kept) => (k :: l.filter fun x => x.id != k.id).take 16
  match w with
  | .dtls n => match s.session n with
    | some x => s.onImian fun i => { i with sessions := putKey n { x with kept := push x.kept } i.sessions }
    | none => s
  | .mailbox => s.onImian fun i => { i with mailbox := { i.mailbox with kept := push i.mailbox.kept } }
  | .can _ => s

/-- A session is in use now (R532). -/
def useSession (w : Who) (s : State) : State :=
  match w with
  | .dtls n => match s.session n with
    | some x => s.onImian fun i => { i with sessions := putKey n { x with lastUse := s.now } i.sessions }
    | none => s
  | _ => s

/-- A message from a requester: a repeat gets the kept response (R528), any other is executed, accounted for and answered; one that is not
`taken` is malformed. -/
def takeMessage (w : Who) (little taken : Bool) (m : List Byte) (s : State) : State × List Byte × (State → State) :=
  let id_ := numAt little m 4 4
  match (keptOf s w).find? fun k => k.id == id_ && k.body == m.drop 16 with
  | some k => ((useSession w s).bump 0x1120 0x06, k.answer, id)
  | none =>
    let (s, a, after) : State × Answer × (State → State) := if taken then execute w little m s else (s, .bare 0x0C, id)
    let resp := messageBytes little (byteAt m 1) 0x80 a.status id_ a.count a.body
    (keep w ⟨id_, m.drop 16, resp⟩ (account w a.status s), resp, after)

/-- A message that a row brings under its operation code; another code is malformed there. -/
def bring (op : Nat) (w : Who) (m : List Byte) (s : State) : State :=
  let isCan : Bool := match w with | .can _ => true | _ => false
  let little := w == .mailbox
  if !s.reaches w || isCan then s
  else
    let (s, resp, after) := takeMessage w little (byteAt m 1 == op) m s
    let s := s.emit (.response w resp)
    after (match w with | .dtls n => sendImian n resp s | _ => s)

def execImianRead (t : Nat) (who : Who) (msg : List Byte) (s : State) : Host.Outcome State Fault Refusal := complete t (bring 1 who msg) s

def execImianWrite (t : Nat) (who : Who) (msg : List Byte) (s : State) : Host.Outcome State Fault Refusal := complete t (bring 2 who msg) s

def execReadSeg (t : Nat) (who : Who) (msg : List Byte) (s : State) : Host.Outcome State Fault Refusal := complete t (bring 3 who msg) s

def execWriteSeg (t : Nat) (who : Who) (msg : List Byte) (s : State) : Host.Outcome State Fault Refusal := complete t (bring 4 who msg) s

def execSubscribe (t : Nat) (who : Who) (msg : List Byte) (s : State) : Host.Outcome State Fault Refusal := complete t (bring 6 who msg) s

def execSummary (t : Nat) (who : Who) (msg : List Byte) (s : State) : Host.Outcome State Fault Refusal := complete t (bring 7 who msg) s

end Sys2Proof.Machine
end

