-- ==== Sys2Proof/Machine/Transport.lean ====
section
/-! DEFINITION. The transports of Imian (R531–R537): DTLS sessions, the PCIe mailbox, CAN FD. -/

namespace Sys2Proof.Machine
open Sys2Proof

/-! ### DTLS (R531, R532) -/

/-- The DTLS service runs (R531, R537, R640, R645): the states of R537, once the key store has passed self-test, with the DTLS identity key in the
life-cycle (FIELD, RECOVERY) and its derivation not refused. -/
def dtlsServes (s : State) : Bool :=
  s.powered && !s.log.byrdoDown && s.dev != stRecovery && s.ro 0x2F03 0x01 0 != 0 && s.derives &&
  (s.life == 2 || s.life == 3) && s.cfgB 0x1100 0x01

/-- The row of 0x1101 whose hash is that of the certificate's key, with a role. -/
def credentialOf (s : State) (cert : List Byte) : Option Nat :=
  let h := Config.sha384 (Config.spki cert)
  (List.range 64).find? fun r =>
    s.cfgBytes 0x1101 0x01 r == h && h.any (· != 0) && s.cfg 0x1101 0x02 r != 0

/-- A failed handshake: counted, event 0x1103 with cause 0 chain, 1 no credential, 2 handshake. -/
def authFailed (cause : Nat) (s : State) : State := raiseOnce 0x1103 0 (le 1 0 ++ le 1 cause) (s.bump 0x1120 0x03)

/-- Open a session under the lowest free number: event 0x1101; its log cursor stands at B (R594). -/
def openSession (n row : Nat) (peer : List Byte) (s : State) : State :=
  let role := s.cfg 0x1101 0x02 row
  let x : Session := ⟨role, peer, s.cfgBytes 0x1101 0x03 row, shownT96 s, s.now, 0, []⟩
  let s := (s.onImian fun i => { i with sessions := putKey n x i.sessions }).setLive 0x2E21 0x01 n (.num s.log.base)
  raise 0x1101 (le 1 n ++ le 1 role ++ le 1 0) s

/-- DTLS_HANDSHAKE: refused with a close alert past the maximum of sessions; else authenticated and opened, or failed (R532). -/
def handshake (peer cert : List Byte) (proved : Bool) (s : State) : State :=
  if !dtlsServes s then s
  else if s.cfg 0x1100 0x03 ≤ s.imian.sessions.length then
    sendDtls peer (Config.alertPackets peer) ((raiseOnce 0x1104 0 (fit 16 peer) (s.bump 0x1120 0x04)).emit (.closeAlert peer))
  else if !proved then authFailed 2 s
  else if !Config.chainValid (s.cfgBytes 0x1101 0x04) cert then authFailed 0 s
  else match credentialOf s cert, (List.range 16).find? fun n => (s.session n).isNone with
    | some row, some n => openSession n row peer s
    | _, _ => authFailed 1 s

def execDtlsHandshake (t : Nat) (peer : List Byte) (cert : List Byte) (proved : Bool) (s : State) : Host.Outcome State Fault Refusal :=
  complete t (handshake peer cert proved) s

/-- A session idle for the timeout is closed. -/
def idleTimeout (n : Nat) (s : State) : State :=
  match s.session n with
  | some x => if x.lastUse + sec (s.cfg 0x1100 0x04) ≤ s.now then endSession n 1 s else s
  | none => s

def execSessionIdleTimeout (t session : Nat) (s : State) : Host.Outcome State Fault Refusal := complete t (idleTimeout session) s

def execSessionClosedByClient (t session : Nat) (s : State) : Host.Outcome State Fault Refusal := complete t (endSession session 0) s

/-! ### The mailbox (R533) -/

/-- The request message in the buffer: words by number, little-endian. -/
def requestBytes (m : Mailbox) : List Byte :=
  ((List.range ((m.reqLen + 3) / 4)).flatMap fun k => le 4 (tabGet 0 m.reqBuf k)).take m.reqLen

/-- MB_STATUS[3]: Byrdo is down, or the device state does not offer the mailbox. -/
def mailboxUnavailable (s : State) : Bool := !s.reaches .mailbox || s.dev == stSentinel || s.dev == stSafeTalk

/-- Put a response into the mailbox: event bit 8. -/
def mailboxAnswer (resp : List Byte) (s : State) : State :=
  (s.onImian fun i => { i with mailbox := { i.mailbox with busy := false, response := true, respLen := resp.length, respBuf := resp } }).interrupt 8

/-- MAILBOX_GO. -/
def mailboxGo (s : State) : State :=
  let m := s.imian.mailbox
  if !hostReaches s then s
  else if m.busy || m.response then s.bump 0x1120 0x07
  else if m.reqLen < 16 || 8192 < m.reqLen then s.onImian fun i => { i with mailbox := { i.mailbox with oversize := true } }
  else if mailboxUnavailable s then s
  else
    let s := s.onImian fun i => { i with mailbox := { i.mailbox with busy := true } }
    let (s, resp, after) := takeMessage .mailbox true true (requestBytes m) s
    after (mailboxAnswer resp (s.emit (.response .mailbox resp)))

def execMailboxGo (t : Nat) (s : State) : Host.Outcome State Fault Refusal := complete t mailboxGo s

/-- MAILBOX_ACK clears RESPONSE, OVERSIZE and the response buffer. -/
def mailboxAck (s : State) : State :=
  if hostReaches s then
    s.onImian fun i => { i with mailbox := { i.mailbox with response := false, oversize := false, respLen := 0, respBuf := [] } }
  else s

def execMailboxAck (t : Nat) (s : State) : Host.Outcome State Fault Refusal := complete t mailboxAck s

/-! ### CAN FD (R534–R536) -/

/-- The tag of a frame: AES-CMAC over the identifier and bytes 0 to 55, its first 8 bytes. -/
def canTag (key : List Byte) (id_ : Nat) (l : List Byte) : List Byte := fit 8 (Config.aesCmac key (be 2 id_ ++ fit 56 l))

/-- A refused frame: counted, event 0x1105 with cause 0 tag, 1 counter; no response. -/
def canRefused (n cause : Nat) (s : State) : State := raiseOnce 0x1105 n (le 1 n ++ le 1 cause) (s.bump 0x1120 0x05)

/-- The row of a CAN request. -/
def canRow (l : List Byte) : Nat := beAt l 5 3

/-- Execute a CAN request: status and value, and what follows. -/
def canExecute (n : Nat) (l : List Byte) (s : State) : State × Nat × List Byte × (State → State) :=
  let w := Who.can n
  let op := byteAt l 0
  let idx := beAt l 2 2
  let sub := byteAt l 4
  let row := canRow l
  let operand := beAt l 8 4
  let clean := (slice l 12 40).all (· == 0)
  let item : Item := ⟨idx, sub, 0xFF, 0, row, 1, 0, 0, []⟩
  if op = 1 then
    let c := readItemStatus s w item
    match c, findObj idx sub with
    | 0, some o =>
      if !clean || operand ≠ 0 then (s, 0x05, [], id)
      else
        let (s', v) := readRow false false o row s
        if v.length ≤ 44 then (s', 0, v, id) else (s, 0x0A, [], id)
    | c, _ => (s, c, [], id)
  else if op = 3 then
    match findObj idx sub with
    | none => (s, readItemStatus s w item, [], id)
    | some o =>
      let c := segReadStatus s w { item with code := o.ty.code } 44 44
      if c ≠ 0 then (s, c, [], id)
      else if !clean then (s, 0x05, [], id)
      else
        let (s, c, _, _, d) := readSegment false false o row operand 44 0 s
        (s, c, d, id)
  else if op = 5 then
    let o := findObj idx sub
    let size := match o with | some o => if o.ty.isBytes then 0 else o.ty.size | none => 0
    let arg : Val := .num (beAt l 8 size)
    let spare := (slice l (8 + size) (44 - size)).all (· == 0)
    let c := commandStatus idx sub row arg w s
    if c ≠ 0 then (s, c, [], id)
    else if !spare then (s, 0x05, [], id)
    else
      let (s, c) := commandBody (idx * 256 + sub) row arg w s
      (s, c, [], if c = 0 then commandAfter (idx * 256 + sub) else id)
  else if op = 2 ∨ op = 4 ∨ op = 6 ∨ op = 7 then (s, 0x0D, [], id)
  else (s, 0x0C, [], id)

/-- The response frame, with the controller's own counter and tag. -/
def canResponse (n : Nat) (key : List Byte) (l : List Byte) (status : Nat) (value : List Byte) (counter : Nat) (s : State) : List Byte :=
  let body := be 1 (byteAt l 0 + 0x80) ++ slice l 1 1 ++ be 1 status ++ be 1 value.length ++ fit 48 value ++ be 4 counter
  body ++ canTag key (s.cfg 0x1100 0x0A n) body

/-- CAN_REQUEST: a frame on a controller that is on.  Frames of another form are ignored and counted, other identifiers are not its own. -/
def canRequest (n id_ : Nat) (canFd64 : Bool) (l : List Byte) (s : State) : State :=
  let handle := s.cfg 0x1100 0x0B n
  if 2 ≤ n || !s.reaches (.can n) then s
  else if !canFd64 || l.length ≠ 64 then s.bump 0x1120 0x08
  else if id_ ≠ s.cfg 0x1100 0x09 n then s
  else
    let s := keyUsed handle [2] s
    match keyOf s handle [2] with
    | none => canRefused n 0 s
    | some key =>
      let counter := beAt l 52 4
      let stale : Bool := match lookup n s.imian.canRequestCounter with | some c => c.2 == key && counter ≤ c.1 | none => false
      if canTag key id_ l ≠ slice l 56 8 then canRefused n 0 s
      else if stale then canRefused n 1 s
      else
        let s := s.onImian fun i => { i with canRequestCounter := putKey n (counter, key) i.canRequestCounter }
        let (s, status, value, after) := canExecute n l s
        let own := (tabGet 0 s.imian.canResponseCounter n + 1) % 2 ^ 32
        let s := account (.can n) status (s.onImian fun i => { i with canResponseCounter := putKey n own i.canResponseCounter })
        after (s.emit (.canFrame n (canResponse n key l status value own s)))

def execCanRequest (t controller id : Nat) (canFd64 : Bool) (frame : List Byte) (s : State) : Host.Outcome State Fault Refusal :=
  complete t (canRequest controller id canFd64 frame) s

end Sys2Proof.Machine
end

