-- ==== Sys2Proof/Machine/HostBar.lean ====
section
/-! DEFINITION. Writes of BAR registers: access widths, the latch of 64-bit registers, the registers without a row of their own (R557, R558, R559, R566, R533). -/

namespace Sys2Proof.Machine
open Sys2Proof

/-- A word of a table of 32-bit words, words of 0 not listed. -/
def putWord (k v : Nat) (t : Tab Nat) : Tab Nat := if v = 0 then delKey k t else putKey k v t

/-- The registers of a Sluice: offset in its block, bytes (R559). -/
def sluiceRegs : List (Nat × Nat) :=
  [(0x00, 8), (0x08, 4), (0x0C, 4), (0x10, 4), (0x14, 4), (0x18, 4), (0x1C, 4), (0x20, 4), (0x24, 4), (0x28, 8), (0x30, 4)]

/-- The registers of a DMA ring: offset in its block, bytes (R566). -/
def ringRegs : List (Nat × Nat) := [(0x00, 8), (0x08, 4), (0x10, 8), (0x18, 8), (0x20, 4)]

/-- The register that holds a byte in a block of registers: its offset and bytes. -/
def regIn (l : List (Nat × Nat)) (off : Nat) : Option (Nat × Nat) := l.find? fun r => r.1 ≤ off && off < r.1 + r.2

/-- A register of a block that begins at base. -/
def regOf (base : Nat) (l : List (Nat × Nat)) (off : Nat) : Option (Nat × Nat) :=
  (regIn l (off - base)).map fun r => (base + r.1, r.2)

/-- The register of a BAR that holds a byte: its offset and bytes; none at a reserved offset (R557, R533). -/
def barRegister (bar off : Nat) : Option (Nat × Nat) :=
  let word : Option (Nat × Nat) := some (off / 4 * 4, 4)
  if bar = 0 then
    if off < 0xC then word
    else if 0x1000 ≤ off && off < 0x1800 then regOf (off / 0x100 * 0x100) sluiceRegs off
    else if 0x2000 ≤ off && off < 0x2200 then regOf (off / 0x100 * 0x100) ringRegs off
    else if (0x3000 ≤ off && off < 0x3100) || (0x3800 ≤ off && off < 0x3804) then word
    else if 0x100000 ≤ off && off < 0x200000 then some (off / 8 * 8, 8)
    else none
  else if bar = 2 then
    if off < 0x10 || (0x1000 ≤ off && off < 0x3000) || (0x4000 ≤ off && off < 0x6000) then word else none
  else none

/-- INT_MASK write: a set bit that becomes unmasked is signalled (R569). -/
def intMaskWrite (value : Nat) (s : State) : State := (s.onHost fun h => { h with intMask := value % 2 ^ 14 }).signalAll

/-- Q_IRQ_THRESH write. -/
def qThresholdWrite (q value : Nat) (s : State) : State :=
  sluiceInterrupt q (s.setSluice q { s.sluice q with threshold := value % 2 ^ 15 })

/-- Q_IRQ_DELAY write: the condition is judged anew under the new delay. -/
def qDelayWrite (q value : Nat) (s : State) : State :=
  let x := { s.sluice q with delay := value % 2 ^ 16 }
  sluiceInterrupt q (s.setSluice q { x with delayPassed := delayHolds s.now x })

/-- Q_CTRL write: bit 2 clears the lost flag, bit 1 the underrun flag. -/
def qControlWrite (q value : Nat) (s : State) : State :=
  let s := if bit value 2 then qClearLost q s else s
  if bit value 1 then qClearUnderrun q s else s

/-- A write of a Sluice register. -/
def sluiceWrite (q reg value : Nat) (s : State) : State :=
  match reg with
  | 0x08 => qRptrWrite q (value % 2 ^ 15) s
  | 0x18 => qControlWrite q value s
  | 0x1C => qModeWrite q value s
  | 0x20 => qThresholdWrite q value s
  | 0x24 => qDelayWrite q value s
  | 0x28 => qTestPush q value s
  | _ => s

/-- A write of a DMA ring register. -/
def ringWrite (r reg value : Nat) (s : State) : State :=
  match reg with
  | 0x00 => s.onHost fun h => h.setRing r { h.ring r with base := value }
  | 0x08 => s.onHost fun h => h.setRing r { h.ring r with size := value }
  | 0x18 => ringDoorbell r value s
  | 0x20 => ringControl r value s.host.busMaster s
  | _ => s

/-- MB_CTRL write: bit 1 ACK, bit 0 GO. -/
def mailboxControl (value : Nat) (s : State) : State :=
  let s := if bit value 1 then mailboxAck s else s
  if bit value 0 then mailboxGo s else s

/-- A write of a whole register of BAR0. -/
def bar0Write (off value : Nat) (s : State) : State :=
  if off = 0x4 then intClear value s
  else if off = 0x8 then intMaskWrite value s
  else if 0x1000 ≤ off && off < 0x1800 then sluiceWrite ((off - 0x1000) / 0x100) (off % 0x100) value s
  else if 0x2000 ≤ off && off < 0x2200 then ringWrite ((off - 0x2000) / 0x100) (off % 0x100) value s
  else if 0x3000 ≤ off && off < 0x3100 then s.onHost fun h => { h with msix := putWord ((off - 0x3000) / 4) value h.msix }
  else s

/-- A write of a whole register of BAR2. -/
def bar2Write (off value : Nat) (s : State) : State :=
  if off = 0x0 then mailboxControl value s
  else if off = 0x8 then s.onImian fun i => { i with mailbox := { i.mailbox with reqLen := value % 2 ^ 14 } }
  else if 0x1000 ≤ off && off < 0x3000 then
    s.onImian fun i => { i with mailbox := { i.mailbox with reqBuf := putWord ((off - 0x1000) / 4) value i.mailbox.reqBuf } }
  else s

/-- A write of a whole register; a read-only one is not changed. -/
def registerWrite (bar off value : Nat) (s : State) : State := if bar = 0 then bar0Write off value s else bar2Write off value s

/-- The key of a 64-bit register's latch. -/
def latchKey (bar off : Nat) : Nat := bar * 2 ^ 24 + off

/-- Hold the low half of a 64-bit register. -/
def latchLow (bar off value : Nat) (s : State) : State :=
  s.onHost fun h => { h with latches := putKey (latchKey bar off) (value % 2 ^ 32) h.latches }

/-- Drop the latch of a 64-bit register. -/
def unlatch (bar off : Nat) (s : State) : State := s.onHost fun h => { h with latches := delKey (latchKey bar off) h.latches }

/-- A high-half write: it combines with the latch, or is ignored and counted without one. -/
def highHalf (bar off value : Nat) (s : State) : State :=
  match lookup (latchKey bar off) s.host.latches with
  | some low => registerWrite bar off (value % 2 ^ 32 * 2 ^ 32 + low) (unlatch bar off s)
  | none => badAccess s

/-- A host write of `width` bytes at an offset of a BAR (R558): another width or alignment than the register's is ignored and
counted; a reserved offset takes nothing. -/
def barStore (bar off width value : Nat) (s : State) : State :=
  if !hostReaches s then s
  else match barRegister bar off with
    | none => s
    | some (reg, 4) => if off = reg && width = 4 then registerWrite bar reg (value % 2 ^ 32) s else badAccess s
    | some (reg, _) =>
      if off = reg && width = 8 then registerWrite bar reg (value % 2 ^ 64) (unlatch bar reg s)
      else if off = reg && width = 4 then latchLow bar reg value s
      else if off = reg + 4 && width = 4 then highHalf bar reg value s
      else badAccess s

def execBarWrite (t bar offset width value : Nat) (s : State) : Host.Outcome State Fault Refusal :=
  complete t (barStore bar offset width value) s

def execBarLowHalfWrite (t bar offset value : Nat) (s : State) : Host.Outcome State Fault Refusal :=
  complete t (barStore bar offset 4 value) s

end Sys2Proof.Machine
end

