-- ==== Sys2Proof/Machine/PortsRx.lean ====
section
/-! DEFINITION. The receive path of the ports (R95–R100, R112–R114, R121–R127) and the answers of R138.  A received frame is given from its
destination address to before its FCS. -/

namespace Sys2Proof.Machine
open Sys2Proof

/-! ### Filters -/

/-- Addresses every port accepts: broadcast, PTP, MAC control (R97). -/
def fixedAddresses : List (List Byte) :=
  [be 6 0xFFFFFFFFFFFF, be 6 0x011B19000000, be 6 0x0180C200000E, be 6 0x0180C2000001]

/-- The port accepts the destination address (R97). -/
def addressAccepted (s : State) (p : Nat) (dst : List Byte) : Bool :=
  fixedAddresses.contains dst || dst == s.cfgBytes 0x2100 0x09 p ||
  (p < 6 && prpMode s (p / 2) != 0 && dst.take 5 == be 5 0x01154E0001) ||
  (dst != List.replicate 6 0 && (List.range 1024).any fun n => s.cfgBytes 0x2106 0x01 (1024 * p + n) == dst)

/-- The port accepts the VID (R99); RECOVERY has no VLAN filter (R129). -/
def vidAccepted (s : State) (p vid : Nat) : Bool :=
  vid == 0 || s.dev == stRecovery || (List.range 16).any fun n => s.cfg 0x2105 0x01 (16 * p + n) == vid

/-- The tag of a frame: its VID, and the frame without the tag; none for a second tag or an outer 0x88A8 (R99). -/
def untag (l : List Byte) : Option (Nat × List Byte) :=
  let e := beAt l 12 2
  if e = 0x88A8 then none
  else if e = 0x8100 then
    (if beAt l 16 2 = 0x8100 || beAt l 16 2 = 0x88A8 then none else some (field (beAt l 14 2) 11 0, l.take 12 ++ l.drop 16))
  else some (0, l)

/-! ### Parallel redundancy (R123–R126) -/

/-- Nodes the table of a pair holds (R125). -/
def nodeLimit (pair : Nat) : Nat := if pair = 2 then 1024 else 32768

/-- The node of a source address, entered when new; none when the table is full. -/
def hearNode (pair mac : Nat) (s : State) : Option Node × State :=
  let k := pair * 2 ^ 48 + mac
  let forget := sec (s.cfg 0x2101 0x03 pair)
  let known := (lookup k s.port.nodes).filter fun n => s.now < n.heardAt + forget
  match known with
  | some n =>
    let n := { n with heardAt := s.now }
    (some n, s.onPorts fun a => { a with nodes := putKey k n a.nodes })
  | none =>
    let s := s.onPorts fun a => { a with nodes := a.nodes.filter fun e => e.1 / 2 ^ 48 != pair || s.now < e.2.heardAt + forget }
    if nodeFill s pair ≥ nodeLimit pair then
      (none, showFill pair (raiseOnce 0x2108 pair (le 1 pair) (s.tally 0x2121 0x03 pair)))
    else
      let n : Node := ⟨s.now, [], []⟩
      (some n, showFill pair (s.onPorts fun a => { a with nodes := putKey k n a.nodes }))

/-- A trailer that is valid: suffix, LAN ID of either LAN, LSDU size of this frame; its sequence number and LAN ID (R122, R124). -/
def trailerOf (l : List Byte) : Option (Nat × Nat) :=
  let n := l.length
  let w := beAt l (n - 4) 2
  if n ≥ 20 && beAt l (n - 2) 2 == 0x88FB && w % 4096 == (n - 14) % 4096 && (w / 4096 == 0xA || w / 4096 == 0xB)
  then some (beAt l (n - 6) 2, w / 4096) else none

/-- Trailer and duplicate handling of a frame without its tag: the frame to pass on, or none for a duplicate (R123, R124).  A frame without a
trailer is not taken as something heard from a node of the table (R125): DESIGN CHOICE (assumption 93). -/
def prpReceive (p : Nat) (l : List Byte) (s : State) : Option (List Byte) × State :=
  let pair := p / 2
  match trailerOf l with
  | none => (some l, s.tally 0x2121 0x04 pair)
  | some (seq, lan) =>
    let body := l.take (l.length - 6)
    let s := if lan = 0xA + p % 2 then s else raiseOnce 0x2107 pair (le 1 pair ++ le 1 p) (s.tally 0x2121 0x02 pair)
    match hearNode pair (beAt l 6 6) s with
    | (none, s) => (some body, s)
    | (some n, s) =>
      let other := if p % 2 = 0 then n.fromB else n.fromA
      if prpMode s pair = 1 && other.any (fun e => e.1 == seq && s.now < e.2 + ms (s.cfg 0x2101 0x02 pair)) then
        (none, s.tally 0x2121 0x01 pair)
      else
        let add := fun (q : List (Nat × Nat)) => ((seq, s.now) :: q).take 64
        let n := if p % 2 = 0 then { n with fromA := add n.fromA } else { n with fromB := add n.fromB }
        (some body, s.onPorts fun a => { a with nodes := putKey (pair * 2 ^ 48 + beAt l 6 6) n a.nodes })

/-! ### Answers of the IP interfaces (R138) -/

/-- The row of the interface a port belongs to, as a port: the first port of the pair in PRP modes 1 and 2. -/
def interfacePort (s : State) (p : Nat) : Nat := if prpMode s (p / 2) = 0 then p else p / 2 * 2

/-- Answer on the interface of a port, to a MAC address. -/
def replyOn (p : Nat) (mac : List Byte) (etype : Nat) (l : List Byte) (s : State) : State :=
  if prpMode s (p / 2) = 0 then sendPort p 8 0 0 mac etype l s else sendPair (p / 2) 8 0 0 mac etype l s

/-- Groups that the enabled rows name on a port's pair. -/
def namedGroups (s : State) (p : Nat) : List (List Byte) :=
  if p ≥ 4 then [] else
  (((enabledRows s).filter fun h => bit (s.cfg 0x2201 0x07 h) (p / 2)).map fun h => s.cfgBytes 0x2201 0x06 h).eraseDups.filter
    fun g => g != List.replicate 16 0

/-- An ARP request for the own IPv4 address is answered. -/
def arpAnswer (p : Nat) (src l : List Byte) (s : State) : State :=
  let own := wireAddr (ownAddress s p (mapped 0))
  if beAt l 6 2 = 1 && slice l 24 4 == own && own != be 4 0 then
    replyOn p src 0x0806 (l.take 6 ++ be 2 2 ++ s.cfgBytes 0x2100 0x09 (interfacePort s p) ++ own ++ slice l 8 10) s
  else s

/-- An IPv4 packet: echo requests to the own address and group queries are answered; true when it has been. -/
def ipv4Answer (p : Nat) (src l : List Byte) (s : State) : Option State :=
  let h := byteAt l 0 % 16 * 4
  let body := (l.take (beAt l 2 2)).drop h
  let own := wireAddr (ownAddress s p (mapped 0))
  if byteAt l 9 = 1 && byteAt body 0 = 8 && slice l 16 4 == own then
    let echo := be 2 0 ++ be 2 0 ++ body.drop 4
    let echo := be 2 0 ++ be 2 (inetChecksum echo) ++ body.drop 4
    let passedTo := mapped (beAt l 12 4)
    let mtu := ipMtu s (interfacePort s p)
    some ((ipPackets (mapped (ofBE own)) passedTo 1 mtu (s.free % 65536) echo).foldl (fun s b => replyOn p src 0x0800 b s) s.drawn)
  else if byteAt l 9 = 2 && byteAt body 0 = 0x11 then
    some (reportV4 p ((namedGroups s p).filter fun g => isV4 g && (beAt body 4 4 == 0 || wireAddr g == slice body 4 4)) s)
  else none

/-- An IPv6 packet: echo, neighbour solicitation and listener query. -/
def ipv6Answer (p : Nat) (src l : List Byte) (s : State) : Option State :=
  let body := slice l 40 (beAt l 4 2)
  let own := ownAddress s p (List.replicate 16 0)
  let from_ := slice l 8 16
  let packet := fun (b : List Byte) => be 4 0x60000000 ++ be 2 b.length ++ be 1 58 ++ be 1 255 ++ own ++ from_ ++ b
  if byteAt l 6 = 58 && byteAt body 0 = 128 && slice l 24 16 == own then
    some (replyOn p src 0x86DD (packet (icmp6 own from_ (be 1 129 ++ be 1 0 ++ be 2 0 ++ body.drop 4))) s)
  else if byteAt l 6 = 58 && byteAt body 0 = 135 && slice body 8 16 == own then
    let b := be 1 136 ++ be 1 0 ++ be 2 0 ++ be 4 0x60000000 ++ own ++ be 2 0x0201 ++ s.cfgBytes 0x2100 0x09 (interfacePort s p)
    some (replyOn p src 0x86DD (packet (icmp6 own from_ b)) s)
  else if byteAt l 6 = 0 && byteAt (body.drop 8) 0 = 130 then
    let g := slice (body.drop 8) 8 16
    some (reportV6 p ((namedGroups s p).filter fun x => !isV4 x && (g == List.replicate 16 0 || g == x)) s)
  else none

/-! ### Reception -/

/-- A MAC control frame (R112–R114): valid for pause with length 64 and opcode 1. -/
def macControl (p : Nat) (length : Nat) (l : List Byte) (s : State) : State :=
  if beAt l 14 2 = 1 && length = 64 then takePause p (beAt l 16 2) (s.tally 0x2120 0x0A p) else s.tally 0x2120 0x0B p

/-- Hand a frame on by its EtherType (R98); the tag and the trailer are gone. -/
def dispatchFrame (p vid : Nat) (l : List Byte) (s : State) : State :=
  let e := beAt l 12 2
  let body := l.drop 14
  let src := slice l 6 6
  if p < 6 && e == 0x0806 then (arpAnswer p src body s).emit (.dispatched p e vid l)
  else if p < 6 && e == 0x0800 then (ipv4Answer p src body s).getD (s.emit (.dispatched p e vid l))
  else if p < 6 && e == 0x86DD then (ipv6Answer p src body s).getD (s.emit (.dispatched p e vid l))
  else if p < 6 && e == 0x88BA then svFrame p (l.take 6) body s
  else if p ≥ 6 && e == mirrorType then s.emit (.dispatched p e vid l)
  else s.tally 0x2120 0x08 p

/-- A frame past the receive filters: MAC control and PTP before PRP (R127), supervision (R126), then the trailer. -/
def acceptedFrame (p vid length : Nat) (l : List Byte) (s : State) : State :=
  let e := beAt l 12 2
  let paired := p < 6 && prpMode s (p / 2) != 0
  if e = 0x8808 then macControl p length l s
  else if e = 0x88F7 && p < 6 then s.emit (.dispatched p e vid l)
  else if e = 0x88FB && paired then (hearNode (p / 2) (beAt l 6 6) (s.tally 0x2121 0x06 (p / 2))).2
  else if paired then
    (match prpReceive p l s with
     | (some body, s) => dispatchFrame p vid body s
     | (none, s) => s)
  else dispatchFrame p vid l s

/-- RX_FRAME (R95–R100): on a link that is up. -/
def receiveFrame (p : Nat) (fcsGood overflow : Bool) (l : List Byte) (s : State) : State :=
  if !(p < 8 && (s.portOf p).link == 1) then s
  else
    let was := (s.portOf p).silent
    let s := s.setPort p { s.portOf p with lastRx := s.now, silent := false, heard := true }
    let s := if was then updatePairOf p s else s
    let length := l.length + 4
    if overflow then s.tally 0x2120 0x09 p
    else if length < 64 then s.tally 0x2120 0x04 p
    else if length > portMax s p then s.tally 0x2120 0x05 p
    else if !fcsGood then s.tally 0x2120 0x03 p
    else
      let s := (s.tally 0x2120 0x01 p).tally 0x2120 0x02 p length
      if !addressAccepted s p (l.take 6) then s.tally 0x2120 0x06 p
      else match untag l with
        | none => s.tally 0x2120 0x07 p
        | some (vid, m) => if vidAccepted s p vid then acceptedFrame p vid length m s else s.tally 0x2120 0x07 p

def execRxFrame (t port : Nat) (fcsGood overflow : Bool) (frame : List Byte) (s : State) : Host.Outcome State Fault Refusal :=
  complete t (receiveFrame port fcsGood overflow frame) s

end Sys2Proof.Machine
end

