-- ==== Sys2Proof/Machine/Dispatch.lean ====
section
/-! DEFINITION. The dispatch: one arm per command, one direct call of its meaning. -/

namespace Sys2Proof.Machine
open Sys2Proof

/-- The effect of a command on everything but the queue of waiting commands. -/
def exec (i : Instr) (s : State) : Host.Outcome State Fault Refusal :=
  match i with
  | .ptpMessageRx t port udp domain msg => Sys2Proof.Machine.execPtpMessageRx t port udp domain msg s
  | .ppsEdge t rising => Sys2Proof.Machine.execPpsEdge t rising s
  | .irigBFrameRx t frame => Sys2Proof.Machine.execIrigBFrameRx t frame s
  | .sourceQualified t src => Sys2Proof.Machine.execSourceQualified t src s
  | .sourceDisqualified t src => Sys2Proof.Machine.execSourceDisqualified t src s
  | .switchDelayExpiry t => Sys2Proof.Machine.execSwitchDelayExpiry t s
  | .holdoverLimitExceeded t => Sys2Proof.Machine.execHoldoverLimitExceeded t s
  | .trefOutOfRange t => Sys2Proof.Machine.execTrefOutOfRange t s
  | .trefLost t => Sys2Proof.Machine.execTrefLost t s
  | .trefRestored t => Sys2Proof.Machine.execTrefRestored t s
  | .startLockTimeout t => Sys2Proof.Machine.execStartLockTimeout t s
  | .stepToSource t who => Sys2Proof.Machine.execStepToSource t who s
  | .setT96 t who value => Sys2Proof.Machine.execSetT96 t who value s
  | .leapSecondApplied t => Sys2Proof.Machine.execLeapSecondApplied t s
  | .kennelTimeLatch t rtc => Sys2Proof.Machine.execKennelTimeLatch t rtc s
  | .referenceBusLost t => Sys2Proof.Machine.execReferenceBusLost t s
  | .gatRequalification t => Sys2Proof.Machine.execGatRequalification t s
  | .nominalCleared t => Sys2Proof.Machine.execNominalCleared t s
  | .trigInEdge t input rising => Sys2Proof.Machine.execTrigInEdge t input rising s
  | .pulseInstant t out => Sys2Proof.Machine.execPulseInstant t out s
  | .pulseArm t who out arm => Sys2Proof.Machine.execPulseArm t who out arm s
  | .linkUp t port => Sys2Proof.Machine.execLinkUp t port s
  | .linkDown t port cause => Sys2Proof.Machine.execLinkDown t port cause s
  | .linkRefused t port reason => Sys2Proof.Machine.execLinkRefused t port reason s
  | .rxFrame t port fcsGood overflow frame => Sys2Proof.Machine.execRxFrame t port fcsGood overflow frame s
  | .pauseExpiry t port => Sys2Proof.Machine.execPauseExpiry t port s
  | .txFrameStart t port => Sys2Proof.Machine.execTxFrameStart t port s
  | .txUnderrun t port => Sys2Proof.Machine.execTxUnderrun t port s
  | .gateEntryChange t port => Sys2Proof.Machine.execGateEntryChange t port s
  | .gateListChange t port => Sys2Proof.Machine.execGateListChange t port s
  | .prpSupervisionTx t pair => Sys2Proof.Machine.execPrpSupervisionTx t pair s
  | .prpNodeForget t pair mac => Sys2Proof.Machine.execPrpNodeForget t pair mac s
  | .prpPortSilent t port => Sys2Proof.Machine.execPrpPortSilent t port s
  | .clearPortCounters t who => Sys2Proof.Machine.execClearPortCounters t who s
  | .ingestDatagram t port d => Sys2Proof.Machine.execIngestDatagram t port d s
  | .spduRx t port d => Sys2Proof.Machine.execSpduRx t port d s
  | .reassemblyTimeout t src ident => Sys2Proof.Machine.execReassemblyTimeout t src ident s
  | .sessionConnected t stream => Sys2Proof.Machine.execSessionConnected t stream s
  | .sessionTimeout t stream => Sys2Proof.Machine.execSessionTimeout t stream s
  | .sessionBackoffExpiry t stream => Sys2Proof.Machine.execSessionBackoffExpiry t stream s
  | .streamSilenceTimeout t stream => Sys2Proof.Machine.execStreamSilenceTimeout t stream s
  | .streamEnable t who stream on => Sys2Proof.Machine.execStreamEnable t who stream on s
  | .admissionCollectionClose t => Sys2Proof.Machine.execAdmissionCollectionClose t s
  | .streamStopped t stream => Sys2Proof.Machine.execStreamStopped t stream s
  | .adoptionGraceExpiry t stream => Sys2Proof.Machine.execAdoptionGraceExpiry t stream s
  | .oldStreamTableExpiry t => Sys2Proof.Machine.execOldStreamTableExpiry t s
  | .partnerStatusWindowEnd t cond clearing => Sys2Proof.Machine.execPartnerStatusWindowEnd t cond clearing s
  | .requestHeader t who stream => Sys2Proof.Machine.execRequestHeader t who stream s
  | .clearIngestCounters t who => Sys2Proof.Machine.execClearIngestCounters t who s
  | .slotOpen t group => Sys2Proof.Machine.execSlotOpen t group s
  | .speculativeWaitExpiry t group slot => Sys2Proof.Machine.execSpeculativeWaitExpiry t group slot s
  | .maximumWaitExpiry t group slot => Sys2Proof.Machine.execMaximumWaitExpiry t group slot s
  | .recallDue t group => Sys2Proof.Machine.execRecallDue t group s
  | .suspensionExpiry t group => Sys2Proof.Machine.execSuspensionExpiry t group s
  | .resumeSpeculation t who group => Sys2Proof.Machine.execResumeSpeculation t who group s
  | .checkpointError t group => Sys2Proof.Machine.execCheckpointError t group s
  | .clearAlignmentCounters t who => Sys2Proof.Machine.execClearAlignmentCounters t who s
  | .utilisationSample t => Sys2Proof.Machine.execUtilisationSample t s
  | .migrationContextLoaded t stream => Sys2Proof.Machine.execMigrationContextLoaded t stream s
  | .migrationDoubleReceive t stream => Sys2Proof.Machine.execMigrationDoubleReceive t stream s
  | .migrationCutover t stream => Sys2Proof.Machine.execMigrationCutover t stream s
  | .migrationAbandon t stream reason failed => Sys2Proof.Machine.execMigrationAbandon t stream reason failed s
  | .sliceFault t slice cause => Sys2Proof.Machine.execSliceFault t slice cause s
  | .takeoverComplete t slice => Sys2Proof.Machine.execTakeoverComplete t slice s
  | .spareSelfCheck t slice pass => Sys2Proof.Machine.execSpareSelfCheck t slice pass s
  | .parkDelayExpiry t => Sys2Proof.Machine.execParkDelayExpiry t s
  | .rebalanceNow t who => Sys2Proof.Machine.execRebalanceNow t who s
  | .restoreRetiredSlices t who => Sys2Proof.Machine.execRestoreRetiredSlices t who s
  | .clearPlacementCounters t who => Sys2Proof.Machine.execClearPlacementCounters t who s
  | .modeRefresh t => Sys2Proof.Machine.execModeRefresh t s
  | .locationResult t => Sys2Proof.Machine.execLocationResult t s
  | .interharmonicWindowEnd t windows => Sys2Proof.Machine.execInterharmonicWindowEnd t windows s
  | .resetModeMeter t who => Sys2Proof.Machine.execResetModeMeter t who s
  | .clearEddyCounters t who => Sys2Proof.Machine.execClearEddyCounters t who s
  | .vectorShiftHoldExpiry t row => Sys2Proof.Machine.execVectorShiftHoldExpiry t row s
  | .clearOxbowCounters t who => Sys2Proof.Machine.execClearOxbowCounters t who s
  | .localRuleUpdate t rule => Sys2Proof.Machine.execLocalRuleUpdate t rule s
  | .acknowledge t who rule => Sys2Proof.Machine.execAcknowledge t who rule s
  | .ruleEngineHeartbeat t => Sys2Proof.Machine.execRuleEngineHeartbeat t s
  | .heartbeatLoss t => Sys2Proof.Machine.execHeartbeatLoss t s
  | .minimumAlarmTimeExpiry t pin => Sys2Proof.Machine.execMinimumAlarmTimeExpiry t pin s
  | .pinTest t who pin => Sys2Proof.Machine.execPinTest t who pin s
  | .pinTestEnd t pin => Sys2Proof.Machine.execPinTestEnd t pin s
  | .alarmFrameRepeat t rule => Sys2Proof.Machine.execAlarmFrameRepeat t rule s
  | .alarmHeartbeat t => Sys2Proof.Machine.execAlarmHeartbeat t s
  | .tokenRefill t port => Sys2Proof.Machine.execTokenRefill t port s
  | .alarmStormEnd t port => Sys2Proof.Machine.execAlarmStormEnd t port s
  | .gooseRetransmit t dataset => Sys2Proof.Machine.execGooseRetransmit t dataset s
  | .clearAlarmCounters t who => Sys2Proof.Machine.execClearAlarmCounters t who s
  | .outputCommandRx t pair src sport frame => Sys2Proof.Machine.execOutputCommandRx t pair src sport frame s
  | .archiveDescriptorPost t => Sys2Proof.Machine.execArchiveDescriptorPost t s
  | .freezeRing t who => Sys2Proof.Machine.execFreezeRing t who s
  | .releaseRing t who => Sys2Proof.Machine.execReleaseRing t who s
  | .exportRing t who => Sys2Proof.Machine.execExportRing t who s
  | .ringExportComplete t => Sys2Proof.Machine.execRingExportComplete t s
  | .clearPublishingCounters t who => Sys2Proof.Machine.execClearPublishingCounters t who s
  | .feederEnable t who feeder on => Sys2Proof.Machine.execFeederEnable t who feeder on s
  | .feederOn t feeder => Sys2Proof.Machine.execFeederOn t feeder s
  | .feederStopped t feeder => Sys2Proof.Machine.execFeederStopped t feeder s
  | .returnDelayMean t channel measured => Sys2Proof.Machine.execReturnDelayMean t channel measured s
  | .modulatorFault t channel => Sys2Proof.Machine.execModulatorFault t channel s
  | .modulatorFaultCleared t channel => Sys2Proof.Machine.execModulatorFaultCleared t channel s
  | .sample12K8 t raw => Sys2Proof.Machine.execSample12K8 t raw s
  | .cycleWindowEnd t => Sys2Proof.Machine.execCycleWindowEnd t s
  | .estimatorOutput t feeder mClass k => Sys2Proof.Machine.execEstimatorOutput t feeder mClass k s
  | .switchFilterBank t who fade => Sys2Proof.Machine.execSwitchFilterBank t who fade s
  | .bankFadeComplete t => Sys2Proof.Machine.execBankFadeComplete t s
  | .peakSinceRead t who channel => Sys2Proof.Machine.execPeakSinceRead t who channel s
  | .localStreamEnable t who stream on => Sys2Proof.Machine.execLocalStreamEnable t who stream on s
  | .localStreamOn t stream => Sys2Proof.Machine.execLocalStreamOn t stream s
  | .svLost t row => Sys2Proof.Machine.execSvLost t row s
  | .clearHeadwaterCounters t who => Sys2Proof.Machine.execClearHeadwaterCounters t who s
  | .captureRow t raw din edges => Sys2Proof.Machine.execCaptureRow t raw din edges s
  | .captureEnable t who on => Sys2Proof.Machine.execCaptureEnable t who on s
  | .triggerCapture t who arg => Sys2Proof.Machine.execTriggerCapture t who arg s
  | .recordClose t => Sys2Proof.Machine.execRecordClose t s
  | .captureOverflow t => Sys2Proof.Machine.execCaptureOverflow t s
  | .rearmComplete t => Sys2Proof.Machine.execRearmComplete t s
  | .exportRecord t who row => Sys2Proof.Machine.execExportRecord t who row s
  | .recordExportComplete t => Sys2Proof.Machine.execRecordExportComplete t s
  | .releaseRecord t who row => Sys2Proof.Machine.execReleaseRecord t who row s
  | .leashMessageRx t syn msg => Sys2Proof.Machine.execLeashMessageRx t syn msg s
  | .leashSend t => Sys2Proof.Machine.execLeashSend t s
  | .leashAct t => Sys2Proof.Machine.execLeashAct t s
  | .leashCalibrate t hops returned => Sys2Proof.Machine.execLeashCalibrate t hops returned s
  | .recalibrateLeash t who => Sys2Proof.Machine.execRecalibrateLeash t who s
  | .clearCaptureCounters t who => Sys2Proof.Machine.execClearCaptureCounters t who s
  | .demandIntervalEnd t => Sys2Proof.Machine.execDemandIntervalEnd t s
  | .thermistorUpdate t => Sys2Proof.Machine.execThermistorUpdate t s
  | .temperatureTimeout t channel => Sys2Proof.Machine.execTemperatureTimeout t channel s
  | .energySave t => Sys2Proof.Machine.execEnergySave t s
  | .takeSnapshot t who => Sys2Proof.Machine.execTakeSnapshot t who s
  | .clearEnergyRegisters t who feeder => Sys2Proof.Machine.execClearEnergyRegisters t who feeder s
  | .acknowledgeWraps t who feeder => Sys2Proof.Machine.execAcknowledgeWraps t who feeder s
  | .resetMaximumDemand t who feeder => Sys2Proof.Machine.execResetMaximumDemand t who feeder s
  | .clearEnergyCounters t who => Sys2Proof.Machine.execClearEnergyCounters t who s
  | .jobDue t job => Sys2Proof.Machine.execJobDue t job s
  | .jobDispatch t job => Sys2Proof.Machine.execJobDispatch t job s
  | .jobWaitExpiry t job => Sys2Proof.Machine.execJobWaitExpiry t job s
  | .jobRunEnd t job => Sys2Proof.Machine.execJobRunEnd t job s
  | .jobEnable t who job on => Sys2Proof.Machine.execJobEnable t who job on s
  | .runJobNow t who job => Sys2Proof.Machine.execRunJobNow t who job s
  | .clearJobStatistics t who => Sys2Proof.Machine.execClearJobStatistics t who s
  | .imianRead t who msg => Sys2Proof.Machine.execImianRead t who msg s
  | .imianWrite t who msg => Sys2Proof.Machine.execImianWrite t who msg s
  | .readSeg t who msg => Sys2Proof.Machine.execReadSeg t who msg s
  | .writeSeg t who msg => Sys2Proof.Machine.execWriteSeg t who msg s
  | .segmentTransferTimeout t idx sub row => Sys2Proof.Machine.execSegmentTransferTimeout t idx sub row s
  | .subscribe t who msg => Sys2Proof.Machine.execSubscribe t who msg s
  | .subscriptionNotify t session n => Sys2Proof.Machine.execSubscriptionNotify t session n s
  | .summary t who msg => Sys2Proof.Machine.execSummary t who msg s
  | .dtlsHandshake t peer cert proved => Sys2Proof.Machine.execDtlsHandshake t peer cert proved s
  | .sessionIdleTimeout t session => Sys2Proof.Machine.execSessionIdleTimeout t session s
  | .closeSession t who session => Sys2Proof.Machine.execCloseSession t who session s
  | .mailboxGo t => Sys2Proof.Machine.execMailboxGo t s
  | .mailboxAck t => Sys2Proof.Machine.execMailboxAck t s
  | .canRequest t controller id canFd64 frame => Sys2Proof.Machine.execCanRequest t controller id canFd64 frame s
  | .validateShadow t who => Sys2Proof.Machine.execValidateShadow t who s
  | .validationEnd t => Sys2Proof.Machine.execValidationEnd t s
  | .swap t who arg => Sys2Proof.Machine.execSwap t who arg s
  | .swapInstant t => Sys2Proof.Machine.execSwapInstant t s
  | .sync t who => Sys2Proof.Machine.execSync t who s
  | .cancelSwap t who => Sys2Proof.Machine.execCancelSwap t who s
  | .resetDevice t who => Sys2Proof.Machine.execResetDevice t who s
  | .qDataRead t q => Sys2Proof.Machine.execQDataRead t q s
  | .qRptrWrite t q value => Sys2Proof.Machine.execQRptrWrite t q value s
  | .qCtrlClearLost t q => Sys2Proof.Machine.execQCtrlClearLost t q s
  | .qCtrlClearUnderrun t q => Sys2Proof.Machine.execQCtrlClearUnderrun t q s
  | .qModeWrite t q value => Sys2Proof.Machine.execQModeWrite t q value s
  | .qTestPush t q value => Sys2Proof.Machine.execQTestPush t q value s
  | .sluiceIrqDelay t q => Sys2Proof.Machine.execSluiceIrqDelay t q s
  | .intStatusClear t value => Sys2Proof.Machine.execIntStatusClear t value s
  | .ringEnable t ring value busMaster => Sys2Proof.Machine.execRingEnable t ring value busMaster s
  | .ringRdDoorbell t ring value => Sys2Proof.Machine.execRingRdDoorbell t ring value s
  | .barLowHalfWrite t bar offset value => Sys2Proof.Machine.execBarLowHalfWrite t bar offset value s
  | .barWrite t bar offset width value => Sys2Proof.Machine.execBarWrite t bar offset width value s
  | .functionReset t hot => Sys2Proof.Machine.execFunctionReset t hot s
  | .pcieLinkUp t speed width => Sys2Proof.Machine.execPcieLinkUp t speed width s
  | .pcieLinkDown t => Sys2Proof.Machine.execPcieLinkDown t s
  | .sluicePop t who q => Sys2Proof.Machine.execSluicePop t who q s
  | .clearHostCounters t who => Sys2Proof.Machine.execClearHostCounters t who s
  | .byrdoLockstepMismatch t => Sys2Proof.Machine.execByrdoLockstepMismatch t s
  | .byrdoWatchdogExpiry t => Sys2Proof.Machine.execByrdoWatchdogExpiry t s
  | .byrdoRestartComplete t => Sys2Proof.Machine.execByrdoRestartComplete t s
  | .heldCounterCopy t => Sys2Proof.Machine.execHeldCounterCopy t s
  | .hkFixedSlot t raw => Sys2Proof.Machine.execHkFixedSlot t raw s
  | .hkScan t raw => Sys2Proof.Machine.execHkScan t raw s
  | .hkConvert t channel raw => Sys2Proof.Machine.execHkConvert t channel raw s
  | .hkCalibrate t => Sys2Proof.Machine.execHkCalibrate t s
  | .calibrateAdc t who => Sys2Proof.Machine.execCalibrateAdc t who s
  | .calibrationEnd t ground high => Sys2Proof.Machine.execCalibrationEnd t ground high s
  | .faultLimit t channel => Sys2Proof.Machine.execFaultLimit t channel s
  | .testChannel t who channel => Sys2Proof.Machine.execTestChannel t who channel s
  | .channelTestEnd t raw => Sys2Proof.Machine.execChannelTestEnd t raw s
  | .eventPost t code source params => Sys2Proof.Machine.execEventPost t code source params s
  | .eventLogWrite t => Sys2Proof.Machine.execEventLogWrite t s
  | .freezeLog t who => Sys2Proof.Machine.execFreezeLog t who s
  | .releaseLogFreeze t who => Sys2Proof.Machine.execReleaseLogFreeze t who s
  | .logFreezeTimeout t => Sys2Proof.Machine.execLogFreezeTimeout t s
  | .clearEventLog t who => Sys2Proof.Machine.execClearEventLog t who s
  | .clearHousekeepingCounters t who => Sys2Proof.Machine.execClearHousekeepingCounters t who s
  | .summaryWindowEnd t code key => Sys2Proof.Machine.execSummaryWindowEnd t code key s
  | .wakeSource t source rtc saveGood vbat => Sys2Proof.Machine.execWakeSource t source rtc saveGood vbat s
  | .wakeStageEnd t monitors ready recoverN => Sys2Proof.Machine.execWakeStageEnd t monitors ready recoverN s
  | .wakeDischargeEnd t => Sys2Proof.Machine.execWakeDischargeEnd t s
  | .supplyLoss t => Sys2Proof.Machine.execSupplyLoss t s
  | .resetNRelease t recoverN => Sys2Proof.Machine.execResetNRelease t recoverN s
  | .powerFailWarning t => Sys2Proof.Machine.execPowerFailWarning t s
  | .powerFailRelease t => Sys2Proof.Machine.execPowerFailRelease t s
  | .selfTestComplete t found duration fallback => Sys2Proof.Machine.execSelfTestComplete t found duration fallback s
  | .enterRun t => Sys2Proof.Machine.execEnterRun t s
  | .cdieFatalError t => Sys2Proof.Machine.execCdieFatalError t s
  | .d2dLinkLost t => Sys2Proof.Machine.execD2dLinkLost t s
  | .packageMemoryLost t channel => Sys2Proof.Machine.execPackageMemoryLost t channel s
  | .enterSentinel t who => Sys2Proof.Machine.execEnterSentinel t who s
  | .enterKennel t who => Sys2Proof.Machine.execEnterKennel t who s
  | .restartCdie t who => Sys2Proof.Machine.execRestartCdie t who s
  | .automaticRestart t => Sys2Proof.Machine.execAutomaticRestart t s
  | .cdieRestartEnd t failed => Sys2Proof.Machine.execCdieRestartEnd t failed s
  | .automaticReset t => Sys2Proof.Machine.execAutomaticReset t s
  | .clearPowerCounters t who => Sys2Proof.Machine.execClearPowerCounters t who s
  | .shepherdValid t => Sys2Proof.Machine.execShepherdValid t s
  | .shepherdFailure t cause => Sys2Proof.Machine.execShepherdFailure t cause s
  | .shepherdMinimumAlarmExpiry t pin => Sys2Proof.Machine.execShepherdMinimumAlarmExpiry t pin s
  | .tamper t input => Sys2Proof.Machine.execTamper t input s
  | .applyKeyUpdate t who => Sys2Proof.Machine.execApplyKeyUpdate t who s
  | .attest t who nonce => Sys2Proof.Machine.execAttest t who nonce s
  | .attestationComplete t => Sys2Proof.Machine.execAttestationComplete t s
  | .abortUpdate t who => Sys2Proof.Machine.execAbortUpdate t who s
  | .activate t who => Sys2Proof.Machine.execActivate t who s
  | .confirmUpdate t who => Sys2Proof.Machine.execConfirmUpdate t who s
  | .revertUpdate t who => Sys2Proof.Machine.execRevertUpdate t who s
  | .trialWindowExpiry t => Sys2Proof.Machine.execTrialWindowExpiry t s
  | .mirrorFrameRx t path frame => Sys2Proof.Machine.execMirrorFrameRx t path frame s
  | .mirrorSupervisionTx t => Sys2Proof.Machine.execMirrorSupervisionTx t s
  | .peerLoss t => Sys2Proof.Machine.execPeerLoss t s
  | .leadAloneTimeout t => Sys2Proof.Machine.execLeadAloneTimeout t s
  | .wheelInStep t => Sys2Proof.Machine.execWheelInStep t s
  | .handOverLead t who => Sys2Proof.Machine.execHandOverLead t who s
  | .resynchronise t who => Sys2Proof.Machine.execResynchronise t who s
  | .pairSwapAckTimeout t => Sys2Proof.Machine.execPairSwapAckTimeout t s
  | .packExchangeLate t group slot type member => Sys2Proof.Machine.execPackExchangeLate t group slot type member s
  | .homeDutyTransferred t member => Sys2Proof.Machine.execHomeDutyTransferred t member s
  | .packWake t who member => Sys2Proof.Machine.execPackWake t who member s
  | .clearRedundancyCounters t who => Sys2Proof.Machine.execClearRedundancyCounters t who s
  | .pulseEnd t out => Sys2Proof.Machine.execPulseEnd t out s
  | .unparkingEnd t => Sys2Proof.Machine.execUnparkingEnd t s
  | .resetNAsserted t width => Sys2Proof.Machine.execResetNAsserted t width s
  | .sessionClosedByClient t session => Sys2Proof.Machine.execSessionClosedByClient t session s
  | .detached t => Sys2Proof.Machine.execDetached t s
  | .vbatLost t => Sys2Proof.Machine.execVbatLost t s

end Sys2Proof.Machine
end

