-- ==== Sys2Proof/Safety.lean ====
section
/-! DEFINITION. The terms statements about the block are made in: a command completes, a command is accepted and answered, an event is
posted, an object is kept, a part of the state is left as it was; and the invariant of every step. -/

namespace Sys2Proof.Machine
open Sys2Proof

/-- The command completes: it answers a next state, in which P holds. -/
def Answers (i : Instr) (s : State) (P : State → Prop) : Prop := ∃ u, exec i s = .next u ∧ P u

/-- A COMMAND on an object's row passes checks 1 to 7 of R521 for its sender. -/
abbrev Accepted (idx sub row : Nat) (arg : Val) (w : Who) (s : State) : Prop :=
  s.reaches w = true ∧ commandStatus idx sub row arg w s = 0

/-- A COMMAND without argument and row passes them. -/
abbrev AcceptedPlain (idx sub : Nat) (w : Who) (s : State) : Prop := Accepted idx sub noRow (.num 0) w s

/-- A WRITE of one row of an object passes checks 1 to 7. -/
abbrev AcceptedWrite (idx sub row : Nat) (v : Val) (w : Who) (s : State) : Prop :=
  s.reaches w = true ∧ writeStatus idx sub row v w s = 0

/-- The sender has been answered with a status. -/
abbrev Answered (w : Who) (code : Nat) (u : State) : Prop := Out.status w code ∈ u.outs

/-- What a READ of an RO object gives: the view of other state where it is one, else the object's own value (R518). -/
def shown (s : State) (idx sub : Nat) (row : Nat := noRow) : Nat :=
  ((viewOf s false idx sub row).getD (readIn s.status idx sub row)).bits

/-- Events are taken (R596, R597), and the input FIFO has room for those of one command (R592). -/
abbrev Room (s : State) : Prop := s.powered = true ∧ s.dev ≠ stRecovery ∧ s.log.fifo.length + 8 ≤ fifoDepth

/-- Between s and u an event of this code with these parameters has entered the input FIFO. -/
abbrev Posted (code : Nat) (params : List Byte) (s u : State) : Prop :=
  ∃ e ∈ u.log.fifo.drop s.log.fifo.length, e.code = code ∧ e.params = fit 16 params

/-- Of the RO objects and counters, only those listed and the event counters 0x2E20:04 and 0x2E20:08 differ. -/
def ObjectsKept (os : List (Nat × Nat)) (s u : State) : Prop :=
  ∀ i j r, j < 256 → r < 0x1000000 → (i, j) ∉ os → (i, j) ≠ (0x2E20, 4) → (i, j) ≠ (0x2E20, 8) →
    readIn u.status i j r = readIn s.status i j r

/-- The parts of the state but for the clock reading, the outputs, the RO objects, the event log and the two things that follow from the
rest (FAULT_N, the last reported time-quality class). -/
inductive Part where
  | pending | draws | active | shadow | live | power | time | port | ingest | groups | place | eddy | oxbow | alarm | pub | head
  | capture | leash | energy | jobs | imian | sets | host | hk | keys | duplex
deriving DecidableEq, Repr

/-- A part is as it was. -/
def Part.same (s u : State) : Part → Prop
  | .pending => u.pending = s.pending
  | .draws => u.draws = s.draws
  | .active => u.active = s.active
  | .shadow => u.shadow = s.shadow
  | .live => u.live = s.live
  | .power => { u.power with faultN := s.power.faultN } = s.power
  | .time => { u.time with lastClass := s.time.lastClass } = s.time
  | .port => u.port = s.port
  | .ingest => u.ingest = s.ingest
  | .groups => u.groups = s.groups
  | .place => u.place = s.place
  | .eddy => u.eddy = s.eddy
  | .oxbow => u.oxbow = s.oxbow
  | .alarm => u.alarm = s.alarm
  | .pub => u.pub = s.pub
  | .head => u.head = s.head
  | .capture => u.capture = s.capture
  | .leash => u.leash = s.leash
  | .energy => u.energy = s.energy
  | .jobs => u.jobs = s.jobs
  | .imian => u.imian = s.imian
  | .sets => u.sets = s.sets
  | .host => u.host = s.host
  | .hk => u.hk = s.hk
  | .keys => u.keys = s.keys
  | .duplex => u.duplex = s.duplex

/-- Nothing but the parts and the RO objects listed, the event log and the outputs differs between s and u. -/
def Touches (ps : List Part) (os : List (Nat × Nat)) (s u : State) : Prop :=
  (∀ p, p ∉ ps → p.same s u) ∧ ObjectsKept os s u ∧ u.now = s.now

/-- Every subindex of an index. -/
def subsOf (idx : Nat) : List (Nat × Nat) := (List.range 256).map fun k => (idx, k)

/-- Every row of every object listed reads its default, which the tables of the specification give. -/
def Cleared (os : List (Nat × Nat)) (u : State) : Prop :=
  ∀ o ∈ os, ∀ r, r < 0x1000000 → readIn u.status o.1 o.2 r = defaultOf o.1 o.2 r

/-- A clear command has been answered OK, has cleared the objects listed, and nothing else differs but the requester's accounting. -/
def Clears (os : List (Nat × Nat)) (w : Who) (s u : State) : Prop :=
  Answered w 0 u ∧ Cleared os u ∧ Touches [.imian] (os ++ [(0x1120, 1), (0x1120, 2)]) s u

/-- The invariant of every step: FAULT_N shows the device state and Shepherd (R605), and the last reported time-quality class is the
present one (R88). -/
abbrev Inv (s : State) : Prop := s.power.faultN = faultLevel s.power ∧ s.time.lastClass = s.timeClass

end Sys2Proof.Machine
end

