-- ==== Sys2Proof/Certificates/Slice0/Obligations.lean ====
section
/-! DEFINITION. The statements for the provers, chapter by chapter of spec/. -/

open Sys2Proof Sys2Proof.Machine

/-- For every state in which PTP runs on a port and every PTP message that came over UDP or whose domain differs from 0x2002:04, PTP_MESSAGE_RX
completes, 0x2030:04 has counted one (modulo 2^32), and nothing else differs from the state at the command's instant but the event log. -/
def Obligations.PtpFramesOfAnotherKindAreIgnored : Prop :=
  ∀ (t port domain : Nat) (udp : Bool) (msg : PtpMsg) (s : State),
    port < 6 → bit (s.cfg 0x2002 0x08) port = true → s.cfgB 0x2002 0x01 = true → s.timeRuns = true → (s.running = true ∨ 4 ≤ port) →
    (udp = true ∨ domain ≠ s.cfg 0x2002 0x04) →
    Answers (.ptpMessageRx t port udp domain msg) s fun u =>
      u.ro 0x2030 0x04 = (s.ro 0x2030 0x04 + 1) % 2 ^ 32 ∧ Touches [] [(0x2030, 0x04)] (s.advance t) u

/-- PTP_MESSAGE_RX on a port PTP runs on, of the configured domain and not over UDP. An Announce is kept as the port's dataset. A Sync of the
master chosen among those heard gives PTP the filtered offset from it; a Sync on a port that is not chosen changes nothing of the
measurement. A peer-delay result becomes the port's path delay. A peer's request is answered on the port, as answerPeerDelay says. Another
message changes nothing. PPS_EDGE: an edge of the selected polarity, with the input on and T96 set, gives 1PPS the offset from the nearest
second, filtered from the second edge on; any other edge changes nothing. IRIG_B_FRAME_RX with the input on keeps the frame; a good frame
gives IRIG-B its offset, filtered from the second on; a bad one is counted in 0x2030:05, and the second in succession leaves IRIG-B
unqualified; with the input off nothing changes. TRIG_IN_EDGE of a selected polarity, at least 10 ns after the last one stamped, puts T96
into 0x2009:01 and counts in 0x2009:02; a closer one is only counted in 0x2030:07; one of a polarity that is not selected changes nothing.
START_LOCK_TIMEOUT, when its time has passed in START, ends the wait of RUN for T96; before that it changes nothing. -/
def Obligations.TimeSourcesAreMeasured : Prop :=
  (∀ (t port parent gm p1 cc acc var p2 steps : Nat) (utc : Int) (ok l61 l59 : Bool) (s : State),
    ptpRuns s port = true →
    Answers (.ptpMessageRx t port false (s.cfg 0x2002 0x04) (.announce parent gm p1 cc acc var p2 steps utc ok l61 l59)) s fun u =>
      lookup port u.time.announces = some ⟨parent, gm, p1, cc, acc, var, p2, steps, utc, ok, l61, l59, max s.now t⟩ ∧
      u.time.ptp.lastAnnounce = max s.now t ∧ Touches [.time] [(0x2003, 0x01), (0x2003, 0x02), (0x2030, 0x02)] (s.advance t) u) ∧
  (∀ (t port parent origin : Nat) (correction : Int) (s : State),
    ptpRuns s port = true → bestPort (freshAnnounces (s.advance t)) = some port →
    (lookup port s.time.announces).map (·.parent) = some parent →
    Answers (.ptpMessageRx t port false (s.cfg 0x2002 0x04) (.sync parent origin correction)) s fun u =>
      u.time.ptp.offset = Config.servoFilter s.time.ptp.offset (syncOffset port origin correction (s.advance t)) ∧
      u.time.ptp.lastSeen = max s.now t ∧ Touches [.time] [(0x2003, 0x01), (0x2003, 0x02), (0x2030, 0x06)] (s.advance t) u) ∧
  (∀ (t port parent origin : Nat) (correction : Int) (s : State),
    ptpRuns s port = true → bestPort (freshAnnounces (s.advance t)) ≠ some port →
    Answers (.ptpMessageRx t port false (s.cfg 0x2002 0x04) (.sync parent origin correction)) s fun u =>
      u.time.ptp.offset = s.time.ptp.offset ∧ u.time.ptp.lastSeen = s.time.ptp.lastSeen ∧ u.time.f = s.time.f) ∧
  (∀ (t port : Nat) (d : Int) (s : State),
    ptpRuns s port = true →
    Answers (.ptpMessageRx t port false (s.cfg 0x2002 0x04) (.pdelay d)) s fun u =>
      lookup port u.time.pathDelay = some d ∧ Touches [.time] [] (s.advance t) u) ∧
  (∀ (t port requester seq : Nat) (s : State),
    ptpRuns s port = true →
    Answers (.ptpMessageRx t port false (s.cfg 0x2002 0x04) (.pdelayReq requester seq)) s fun u =>
      u.port = (answerPeerDelay port requester seq (s.advance t)).port ∧ Touches [.port] [(0x2120, 0x12)] (s.advance t) u) ∧
  (∀ (t port : Nat) (s : State),
    Answers (.ptpMessageRx t port false (s.cfg 0x2002 0x04) .other) s fun u => Touches [] [] (s.advance t) u) ∧
  (∀ (t : Nat) (s : State),
    s.cfgB 0x2004 0x02 = true → s.gdieOn = true → s.time.isSet = true →
    Answers (.ppsEdge t (s.cfg 0x2004 0x04 == 0)) s fun u =>
      u.time.pps.lastSeen = max s.now t ∧
      u.time.pps.offset = (if s.time.pps.lastSeen = 0 then ppsOffset (s.advance t)
        else Config.servoFilter s.time.pps.offset (ppsOffset (s.advance t))) ∧
      Touches [.time] [(0x2030, 0x02), (0x2030, 0x06)] (s.advance t) u) ∧
  (∀ (t : Nat) (rising : Bool) (s : State),
    (s.cfgB 0x2004 0x02 = false ∨ s.gdieOn = false ∨ s.time.isSet = false ∨ rising ≠ (s.cfg 0x2004 0x04 == 0)) →
    Answers (.ppsEdge t rising) s fun u => Touches [] [] (s.advance t) u) ∧
  (∀ (t : Nat) (f : IrigFrame) (s : State),
    s.cfgB 0x2004 0x01 = true → s.gdieOn = true → irigGood f s = true →
    Answers (.irigBFrameRx t f) s fun u =>
      u.time.irigLast = some f ∧ u.time.irig.lastSeen = max s.now t ∧ u.time.irig.bad = 0 ∧
      u.time.irig.offset = (if s.time.irig.lastSeen = 0 then irigOffset f (s.advance t)
        else Config.servoFilter s.time.irig.offset (irigOffset f (s.advance t))) ∧
      Touches [.time] [(0x2030, 0x06)] (s.advance t) u) ∧
  (∀ (t : Nat) (f : IrigFrame) (s : State),
    s.cfgB 0x2004 0x01 = true → s.gdieOn = true → irigGood f s = false →
    Answers (.irigBFrameRx t f) s fun u =>
      u.time.irigLast = some f ∧ u.ro 0x2030 0x05 = (s.ro 0x2030 0x05 + 1) % 2 ^ 32 ∧ u.time.irig.offset = s.time.irig.offset ∧
      (1 ≤ s.time.irig.bad → u.time.irig.qualified = false) ∧ Touches [.time] [(0x2030, 0x02), (0x2030, 0x05)] (s.advance t) u) ∧
  (∀ (t : Nat) (f : IrigFrame) (s : State),
    (s.cfgB 0x2004 0x01 = false ∨ s.gdieOn = false) →
    Answers (.irigBFrameRx t f) s fun u => Touches [] [] (s.advance t) u) ∧
  (∀ (t input : Nat) (rising : Bool) (s : State),
    s.gdieOn = true → input < 4 → (s.cfg 0x2008 0x01 input = 2 ∨ s.cfg 0x2008 0x01 input = b2n (!rising)) →
    (lookup input s.time.trigLast).all (fun l => l + 10000 ≤ max s.now t) = true →
    Answers (.trigInEdge t input rising) s fun u =>
      lookup input u.time.trigLast = some (max s.now t) ∧ u.ro 0x2009 0x01 input = (s.advance t).t96 ∧
      u.ro 0x2009 0x02 input = (s.ro 0x2009 0x02 input + 1) % 2 ^ 32) ∧
  (∀ (t input l : Nat) (rising : Bool) (s : State),
    s.gdieOn = true → input < 4 → (s.cfg 0x2008 0x01 input = 2 ∨ s.cfg 0x2008 0x01 input = b2n (!rising)) →
    lookup input s.time.trigLast = some l → max s.now t < l + 10000 →
    Answers (.trigInEdge t input rising) s fun u =>
      u.ro 0x2030 0x07 = (s.ro 0x2030 0x07 + 1) % 2 ^ 32 ∧ Touches [] [(0x2030, 0x07)] (s.advance t) u) ∧
  (∀ (t input : Nat) (rising : Bool) (s : State),
    s.cfg 0x2008 0x01 input ≠ 2 → s.cfg 0x2008 0x01 input ≠ b2n (!rising) →
    Answers (.trigInEdge t input rising) s fun u => Touches [] [] (s.advance t) u) ∧
  (∀ (t : Nat) (s : State),
    s.dev = stStart → s.power.startAt + sec (s.cfg 0x2001 0x08) ≤ max s.now t →
    Answers (.startLockTimeout t) s fun u => u.power.lockWaitOver = true ∧ Touches [.power] [] (s.advance t) u) ∧
  (∀ (t : Nat) (s : State),
    (s.dev ≠ stStart ∨ max s.now t < s.power.startAt + sec (s.cfg 0x2001 0x08)) →
    Answers (.startLockTimeout t) s fun u => Touches [] [] (s.advance t) u)

/-- SOURCE_QUALIFIED, for a source that is on, not silent, not yet qualified, whose condition has held for the qualification time, with TREF in
range (1PPS with T96 set; PTP with a grandmaster of class 187 or better), leaves it qualified; in START with T96 unset a listed PTP or
IRIG-B source then sets T96 to the source's time, is selected, and the wait of START ends; before the qualification time nothing changes.
SOURCE_DISQUALIFIED for a qualified source that has gone silent leaves it unqualified; when it was the selected one, T96 is in holdover
(servo state 3) with nothing left to slew, from the uncertainty it had, and 0x2030:02 has counted; for a source that is not qualified
nothing changes. SWITCH_DELAY_EXPIRY after the switch delay in holdover, in RUN or TRIM, selects the best qualified source and slews by its
whole offset if that is accepted (else not at all), without a step of T96; before the delay nothing changes. HOLDOVER_LIMIT_EXCEEDED above
the limit marks the episode and posts event 0x2005, once in an episode. -/
def Obligations.SourcesQualifyFailAndAreSelected : Prop :=
  (∀ (t src a : Nat) (s : State),
    1 ≤ src → src ≤ 3 → sourceEnabled s src = true → s.time.trefOutOfRange = false → sourceSilent (s.advance t) src = false →
    (s.time.source src).qualified = false → (s.time.source src).okSince = some a → a + ms (s.cfg 0x2001 0x07) ≤ max s.now t →
    (src = 2 → s.time.isSet = true) → (src = 1 → s.time.announce.any (fun x => x.clockClass ≤ 187) = true) →
    Answers (.sourceQualified t src) s fun u => (u.time.source src).qualified = true) ∧
  (∀ (t src a : Nat) (s : State),
    s.dev = stStart → (src = 1 ∨ src = 3) → sourceEnabled s src = true → s.time.isSet = false → s.time.trefOutOfRange = false →
    sourceSilent (s.advance t) src = false →
    (s.time.source src).qualified = false → (s.time.source src).okSince = some a → a + ms (s.cfg 0x2001 0x07) ≤ max s.now t →
    (src = 1 → s.time.announce.any (fun x => x.clockClass ≤ 187) = true) → sourceRank s src < 4 →
    Answers (.sourceQualified t src) s fun u =>
      u.time.isSet = true ∧ u.time.selected = src ∧ (u.time.source src).qualified = true ∧ u.power.lockWaitOver = true ∧
      u.time.t96x = (((s.advance t).time.t96x + psToX (-(s.time.source src).offset)) % 2 ^ 128).toNat) ∧
  (∀ (t src a : Nat) (s : State),
    (s.time.source src).okSince = some a → max s.now t < a + ms (s.cfg 0x2001 0x07) →
    Answers (.sourceQualified t src) s fun u => Touches [] [] (s.advance t) u) ∧
  (∀ (t src : Nat) (s : State),
    1 ≤ src → src ≤ 3 → (s.time.source src).qualified = true → sourceSilent (s.advance t) src = true →
    Answers (.sourceDisqualified t src) s fun u =>
      (u.time.source src).qualified = false ∧
      (s.time.selected = src → u.time.servo = 3 ∧ u.time.selected = 0 ∧ u.time.slew = 0 ∧ u.time.lastSource = src ∧
        u.time.holdAt = max s.now t ∧ u.time.u0 = (s.advance t).uncertaintyPs ∧
        u.ro 0x2030 0x02 = (s.ro 0x2030 0x02 + 1) % 2 ^ 32)) ∧
  (∀ (t src : Nat) (s : State),
    (s.time.source src).qualified = false → Answers (.sourceDisqualified t src) s fun u => Touches [] [] (s.advance t) u) ∧
  (∀ (t src : Nat) (s : State),
    s.running = true → s.time.servo = 3 → s.time.holdAt + ms (s.cfg 0x2001 0x06) ≤ max s.now t → bestSource s = some src →
    Answers (.switchDelayExpiry t) s fun u =>
      u.time.selected = src ∧ u.time.servo = 2 ∧
      u.time.slew = (if accepted (s.time.source src).offset (s.advance t) then -(s.time.source src).offset else 0) ∧
      u.time.t96x = (s.advance t).time.t96x ∧ Touches [.time] [(0x2030, 0x01)] (s.advance t) u) ∧
  (∀ (t : Nat) (s : State),
    max s.now t < s.time.holdAt + ms (s.cfg 0x2001 0x06) →
    Answers (.switchDelayExpiry t) s fun u => Touches [] [] (s.advance t) u) ∧
  (∀ (t : Nat) (s : State),
    Room s → s.time.servo = 3 → s.time.limitRaised = false → s.cfg 0x2001 0x0C * 1000 < (s.advance t).uncertaintyPs →
    Answers (.holdoverLimitExceeded t) s fun u =>
      u.time.limitRaised = true ∧ Posted 0x2005 (le 8 ((s.advance t).uncertaintyPs / 1000)) s u ∧ Touches [.time] [] (s.advance t) u) ∧
  (∀ (t : Nat) (s : State),
    (s.time.servo ≠ 3 ∨ s.time.limitRaised = true) →
    Answers (.holdoverLimitExceeded t) s fun u => Touches [] [] (s.advance t) u)

/-- TREF_OUT_OF_RANGE, when a source's measured offset has exceeded the limit for 10 s and this is not yet declared, declares it, leaves the
three sources unqualified, posts event 0x200C with cause 0, and leaves T96 in holdover when one of them was selected; with no source beyond
the limit for 10 s nothing changes. TREF_LOST while time runs and TREF is not already lost declares it and, with T96 set, leaves T96 in
holdover from now, from the uncertainty it had, which grows at a = 100 ppm; when TREF is lost already nothing changes. TREF_RESTORED while
TREF is lost ends that and posts event 0x200D, in holdover from the uncertainty reached; when TREF is not lost nothing changes. -/
def Obligations.TheReferenceOscillatorIsWatched : Prop :=
  (∀ (t k a : Nat) (s : State),
    Room s → s.time.trefOutOfRange = false → 1 ≤ k → k ≤ 3 → (s.time.source k).farSince = some a → a + sec 10 ≤ max s.now t →
    Answers (.trefOutOfRange t) s fun u =>
      u.time.trefOutOfRange = true ∧ u.time.ptp.qualified = false ∧ u.time.pps.qualified = false ∧ u.time.irig.qualified = false ∧
      (1 ≤ s.time.selected ∧ s.time.selected ≤ 3 → u.time.servo = 3 ∧ u.time.selected = 0 ∧ u.time.lastSource = s.time.selected) ∧
      Posted 0x200C (be 1 0) s u ∧ Touches [.time] [(0x2030, 0x02)] (s.advance t) u) ∧
  (∀ (t : Nat) (s : State),
    [s.time.ptp, s.time.pps, s.time.irig].all (fun r => r.farSince.all (fun a => max s.now t < a + sec 10)) = true →
    Answers (.trefOutOfRange t) s fun u => Touches [] [] (s.advance t) u) ∧
  (∀ (t : Nat) (s : State),
    s.timeRuns = true → s.time.trefLost = false →
    Answers (.trefLost t) s fun u =>
      u.time.trefLost = true ∧
      (s.time.isSet = true →
        u.time.servo = 3 ∧ u.time.holdAt = max s.now t ∧ u.time.u0 = (s.advance t).uncertaintyPs ∧
        ∀ n, (u.advance n).uncertaintyPs = u.time.u0 + holdoverGrowth 100000 (s.cfg 0x2001 0x0B) (n - u.now)) ∧
      Touches [.time] [(0x2030, 0x02), (0x2A11, 0x01)] (s.advance t) u) ∧
  (∀ (t : Nat) (s : State),
    s.time.trefLost = true → Answers (.trefLost t) s fun u => Touches [] [] (s.advance t) u) ∧
  (∀ (t : Nat) (s : State),
    Room s → s.time.trefLost = true →
    Answers (.trefRestored t) s fun u =>
      u.time.trefLost = false ∧ Posted 0x200D [] s u ∧
      (s.time.servo = 3 → u.time.u0 = (s.advance t).uncertaintyPs ∧ u.time.holdAt = max s.now t) ∧ Touches [.time] [] (s.advance t) u) ∧
  (∀ (t : Nat) (s : State),
    s.time.trefLost = false → Answers (.trefRestored t) s fun u => Touches [] [] (s.advance t) u)

/-- 0x2005:01 Step to source, accepted in START or SAFE_TALK with T96 set and a qualified source, is answered OK, selects the best source and
leaves nothing to slew and no offset from it. 0x2005:02 Set T96, accepted in START or SAFE_TALK, is answered OK and leaves T96 set at the
value, the command selected, in holdover from now with an uncertainty of 1 ms. Both in RUN are refused with the state-conflict status 0x06,
event 0x200F is posted, and timing is as it was. LEAP_SECOND_APPLIED at the instant of a due leap changes Δ by the leap's sign, posts event
0x2007 and leaves T96 as it is; before the instant nothing changes. KENNEL_TIME_LATCH while time runs with T96 set latches T96, the RTC
count, the uncertainty, f and GAT. -/
def Obligations.TimeIsSetSteppedAndLatched : Prop :=
  (∀ (t src : Nat) (who : Who) (s : State),
    AcceptedPlain 0x2005 0x01 who (s.advance t) → (s.dev = stStart ∨ s.dev = stSafeTalk) → s.time.isSet = true → bestSource s = some src →
    Answers (.stepToSource t who) s fun u =>
      Answered who 0 u ∧ u.time.selected = src ∧ u.time.servo = 2 ∧ u.time.slew = 0 ∧ (u.time.source src).offset = 0) ∧
  (∀ (t value : Nat) (who : Who) (s : State),
    Accepted 0x2005 0x02 noRow (.num value) who (s.advance t) → (s.dev = stStart ∨ s.dev = stSafeTalk) →
    Answers (.setT96 t who value) s fun u =>
      Answered who 0 u ∧ u.time.isSet = true ∧ u.t96 = value % 2 ^ 96 ∧ u.time.selected = 4 ∧ u.time.servo = 3 ∧ u.time.holdAt = max s.now t ∧
      u.time.u0 = 1000000000) ∧
  (∀ (t : Nat) (who : Who) (s : State),
    Room s → s.running = true → AcceptedPlain 0x2005 0x01 who (s.advance t) →
    Answers (.stepToSource t who) s fun u =>
      Answered who 0x06 u ∧ Posted 0x200F (be 1 s.dev) s u ∧ Touches [.imian] [(0x1120, 1), (0x1120, 2)] (s.advance t) u) ∧
  (∀ (t value : Nat) (who : Who) (s : State),
    Room s → s.running = true → Accepted 0x2005 0x02 noRow (.num value) who (s.advance t) →
    Answers (.setT96 t who value) s fun u =>
      Answered who 0x06 u ∧ Posted 0x200F (be 1 s.dev) s u ∧ Touches [.imian] [(0x1120, 1), (0x1120, 2)] (s.advance t) u) ∧
  (∀ (t utc : Nat) (sign : Int) (s : State),
    Room s → leapDue s = some (utc, sign) → s.time.isSet = true →
    (utc : Int) + (s.delta + (if sign < 0 then sign else 0)) * 2 ^ 48 ≤ ((s.advance t).t96 : Int) →
    Answers (.leapSecondApplied t) s fun u =>
      u.delta = s.delta + sign ∧ u.time.lastLeap = some (utc, sign) ∧ u.time.leap = none ∧
      Posted 0x2007 (be 1 (toTwos 8 sign) ++ i32 u.delta) s u ∧
      u.time.t96x = (s.advance t).time.t96x ∧ Touches [.time] [] (s.advance t) u) ∧
  (∀ (t utc : Nat) (sign : Int) (s : State),
    leapDue s = some (utc, sign) → ((s.advance t).t96 : Int) < (utc : Int) + (s.delta + (if sign < 0 then sign else 0)) * 2 ^ 48 →
    Answers (.leapSecondApplied t) s fun u => Touches [] [] (s.advance t) u) ∧
  (∀ (t rtc : Nat) (s : State),
    s.time.isSet = true → s.timeRuns = true →
    Answers (.kennelTimeLatch t rtc) s fun u =>
      u.time.latch = ⟨true, (s.advance t).t96, rtc, (s.advance t).uncertaintyPs, (s.advance t).time.gatx, s.time.gatOn, s.time.f⟩ ∧
      Touches [.time, .power] [] (s.advance t) u)

/-- REFERENCE_BUS_LOST while GAT runs without NOMINAL and no valid reference bus is there sets NOMINAL, posts event 0x2008 and leaves GAT's
phase as it is; with a valid bus nothing changes. GAT_REQUALIFICATION under NOMINAL, when no loss condition has held for the requalification
time and the bus is valid, sets PULLING, from now, at the pull-in frequency; before that time nothing changes. NOMINAL_CLEARED while pulling
with a phase error of at most 2° clears NOMINAL and PULLING, posts event 0x2009 with the ms the pull-in took, and GAT runs at the measured
frequency; with a greater error nothing changes. -/
def Obligations.GatFollowsItsReference : Prop :=
  (∀ (t : Nat) (s : State),
    Room s → s.time.gatOn = true → s.time.nominal = false → refValid (s.advance t) = false →
    Answers (.referenceBusLost t) s fun u =>
      u.time.nominal = true ∧ u.time.pulling = false ∧ u.time.gatx = (s.advance t).time.gatx ∧
      Posted 0x2008 (be 1 (lossCondition s)) s u ∧ Touches [.time] [] (s.advance t) u) ∧
  (∀ (t : Nat) (s : State),
    refValid (s.advance t) = true → Answers (.referenceBusLost t) s fun u => Touches [] [] (s.advance t) u) ∧
  (∀ (t a : Nat) (s : State),
    s.time.gatOn = true → s.time.nominal = true → s.time.pulling = false → s.time.refOkSince = some a →
    a + ms (s.cfg 0x2010 0x08) ≤ max s.now t → refValid (s.advance t) = true →
    Answers (.gatRequalification t) s fun u =>
      u.time.pulling = true ∧ u.time.nominal = true ∧ u.time.pullSince = max s.now t ∧ u.time.gatRate = pullRate s ∧
      Touches [.time] [] (s.advance t) u) ∧
  (∀ (t a : Nat) (s : State),
    s.time.refOkSince = some a → max s.now t < a + ms (s.cfg 0x2010 0x08) →
    Answers (.gatRequalification t) s fun u => Touches [] [] (s.advance t) u) ∧
  (∀ (t : Nat) (s : State),
    Room s → s.time.pulling = true → s.time.refError.natAbs ≤ twoDegrees →
    Answers (.nominalCleared t) s fun u =>
      u.time.nominal = false ∧ u.time.pulling = false ∧ u.time.gatRate = s.time.refFreq ∧ u.time.gatx = (s.advance t).time.gatx ∧
      Posted 0x2009 (le 4 ((max s.now t - s.time.pullSince) / ms 1)) s u ∧ Touches [.time] [] (s.advance t) u) ∧
  (∀ (t : Nat) (s : State),
    twoDegrees < s.time.refError.natAbs → Answers (.nominalCleared t) s fun u => Touches [] [] (s.advance t) u)

/-- PULSE_INSTANT for an output whose programmed instant has come drives its pin active, counts the firing and begins a pulse of its width;
before the instant nothing changes. PULSE_END when the width has run out drives the pin inactive and ends the pulse; with no write deferred,
nothing else changes but the pulse record; before the width has run out nothing changes. PULSE_ARM, an accepted WRITE of 0x2020:0A, is
answered OK. With no pulse in progress a write of 0 disarms the output with status 0; a write of 1 arms a periodic output (modes 2 and 4)
with status 1, arms a single one (modes 1 and 3) with status 1 when its instant lies at least 10 µs ahead, else leaves it unarmed with
status 3, and leaves an output of mode 0 as it was (a choice of the model, log entry 84). During a pulse the write waits for its end. -/
def Obligations.PulsesFireAndEnd : Prop :=
  (∀ (t out : Nat) (s : State),
    out < 4 → pulseDue out (s.advance t) = true →
    Answers (.pulseInstant t out) s fun u =>
      Out.tout out (s.rw 0x2020 0x08 out == 0) ∈ u.outs ∧ (u.pulse out).fired = (s.pulse out).fired + 1 ∧
      (u.pulse out).endsAt = some (max s.now t + (pulseWidth out (s.advance t)).1) ∧
      Touches [.time] [(0x2020, 0x0B), (0x2030, 0x09)] (s.advance t) u) ∧
  (∀ (t out : Nat) (s : State),
    pulseDue out (s.advance t) = false → Answers (.pulseInstant t out) s fun u => Touches [] [] (s.advance t) u) ∧
  (∀ (t out e : Nat) (s : State),
    (s.pulse out).endsAt = some e → e ≤ max s.now t → (s.pulse out).deferred = [] →
    Answers (.pulseEnd t out) s fun u =>
      Out.tout out (s.rw 0x2020 0x08 out != 0) ∈ u.outs ∧ (u.pulse out).endsAt = none ∧ Touches [.time] [] (s.advance t) u) ∧
  (∀ (t out e : Nat) (s : State),
    (s.pulse out).endsAt = some e → max s.now t < e → Answers (.pulseEnd t out) s fun u => Touches [] [] (s.advance t) u) ∧
  (∀ (t out : Nat) (who : Who) (s : State),
    AcceptedWrite 0x2020 0x0A out (.num 0) who (s.advance t) → (s.pulse out).endsAt = none →
    Answers (.pulseArm t who out false) s fun u =>
      Answered who 0 u ∧ (u.pulse out).armed = false ∧ u.ro 0x2020 0x0B out = 0 ∧ u.rw 0x2020 0x0A out = 0) ∧
  (∀ (t out : Nat) (who : Who) (s : State),
    AcceptedWrite 0x2020 0x0A out (.num 1) who (s.advance t) → (s.pulse out).endsAt = none →
    (s.rw 0x2020 0x01 out = 2 ∨ s.rw 0x2020 0x01 out = 4) →
    Answers (.pulseArm t who out true) s fun u =>
      Answered who 0 u ∧ (u.pulse out).armed = true ∧ (u.pulse out).fired = 0 ∧ u.ro 0x2020 0x0B out = 1) ∧
  (∀ (t out : Nat) (who : Who) (s : State),
    AcceptedWrite 0x2020 0x0A out (.num 1) who (s.advance t) → (s.pulse out).endsAt = none → s.rw 0x2020 0x01 out = 1 →
    Answers (.pulseArm t who out true) s fun u =>
      Answered who 0 u ∧
      ((u.pulse out).armed = true ∧ u.ro 0x2020 0x0B out = 1 ∧ (s.advance t).t96 + psToT96 (us 10) ≤ s.rw 0x2020 0x03 out ∨
       (u.pulse out).armed = false ∧ u.ro 0x2020 0x0B out = 3 ∧ s.rw 0x2020 0x03 out < (s.advance t).t96 + psToT96 (us 10))) ∧
  (∀ (t out : Nat) (who : Who) (s : State),
    AcceptedWrite 0x2020 0x0A out (.num 1) who (s.advance t) → (s.pulse out).endsAt = none → s.rw 0x2020 0x01 out = 3 →
    Answers (.pulseArm t who out true) s fun u =>
      Answered who 0 u ∧
      ((u.pulse out).armed = true ∧ u.ro 0x2020 0x0B out = 1 ∧ gatMinus (u.pulse out).baseGat (s.rw 0x2020 0x04 out) ≤ 0 ∨
       (u.pulse out).armed = false ∧ u.ro 0x2020 0x0B out = 3 ∧ 0 < gatMinus (u.pulse out).baseGat (s.rw 0x2020 0x04 out)) ∧
      (u.pulse out).baseGat = ((s.advance t).gat + us 10 * gatFrequency s.fnom s.time / 1000000000000) % 2 ^ 64) ∧
  (∀ (t out : Nat) (who : Who) (s : State),
    AcceptedWrite 0x2020 0x0A out (.num 1) who (s.advance t) → (s.pulse out).endsAt = none → s.rw 0x2020 0x01 out = 0 →
    Answers (.pulseArm t who out true) s fun u =>
      Answered who 0 u ∧ u.pulse out = s.pulse out ∧ u.ro 0x2020 0x0B out = s.ro 0x2020 0x0B out ∧ u.rw 0x2020 0x0A out = 1) ∧
  (∀ (t out e : Nat) (who : Who) (arm : Bool) (s : State),
    AcceptedWrite 0x2020 0x0A out (.num (b2n arm)) who (s.advance t) → (s.pulse out).endsAt = some e →
    Answers (.pulseArm t who out arm) s fun u =>
      Answered who 0 u ∧ (u.pulse out).deferred = (s.pulse out).deferred ++ [(0x0A, .num (b2n arm))] ∧
      u.live = s.live ∧ (u.pulse out).endsAt = some e)

/-- LINK_UP on a port that is not held down and not up makes it up, with the present instant as the last reception, and posts event 0x2101; on a
port held down nothing changes. LINK_DOWN on a port that is up makes it down, counts in 0x2120:13 and posts event 0x2102 with port and
cause; on a port that is not up nothing changes. LINK_REFUSED on P4 or P5, not held down, with an interface that reports what is named,
makes the link refused (2), counts in 0x2120:14 and posts event 0x2103; with an interface that does not report it nothing changes.
PRP_PORT_SILENT on a port up and not silent, with nothing received for three life-check intervals while its partner has received, marks it
silent, and the pair shows the state that follows; a port that has received since stays as it is. Counts are as said outside RECOVERY, which
keeps no counters. Each touches only the ports and the objects named. -/
def Obligations.PortsComeUpAndGoDown : Prop :=
  (∀ (t port : Nat) (s : State),
    Room s → port < 8 → portHeld s port = false → (s.portOf port).link ≠ 1 →
    Answers (.linkUp t port) s fun u =>
      (u.portOf port).link = 1 ∧ (u.portOf port).silent = false ∧ (u.portOf port).lastRx = max s.now t ∧ shown u 0x2110 0x01 port = 1 ∧
      Posted 0x2101 (le 1 port ++ le 1 (s.cfg 0x2100 0x02 port)) s u ∧ Touches [.port] [] (s.advance t) u) ∧
  (∀ (t port : Nat) (s : State),
    portHeld s port = true → Answers (.linkUp t port) s fun u => Touches [] [] (s.advance t) u) ∧
  (∀ (t port cause : Nat) (s : State),
    Room s → port < 8 → (s.portOf port).link = 1 →
    Answers (.linkDown t port cause) s fun u =>
      (u.portOf port).link = 0 ∧ shown u 0x2110 0x01 port = 0 ∧ u.ro 0x2120 0x13 port = (s.ro 0x2120 0x13 port + 1) % 2 ^ 32 ∧
      Posted 0x2102 (le 1 port ++ le 1 cause) s u ∧ Touches [.port] [(0x2120, 0x13)] (s.advance t) u) ∧
  (∀ (t port cause : Nat) (s : State),
    (s.portOf port).link ≠ 1 → Answers (.linkDown t port cause) s fun u => Touches [] [] (s.advance t) u) ∧
  (∀ (t port reason : Nat) (s : State),
    Room s → (port = 4 ∨ port = 5) → portHeld s port = false → reportsRefusal s port reason = true →
    Answers (.linkRefused t port reason) s fun u =>
      (u.portOf port).link = 2 ∧ shown u 0x2110 0x01 port = 2 ∧ u.ro 0x2120 0x14 port = (s.ro 0x2120 0x14 port + 1) % 2 ^ 32 ∧
      Posted 0x2103 (le 1 port ++ le 1 reason) s u ∧ Touches [.port] [(0x2120, 0x13), (0x2120, 0x14)] (s.advance t) u) ∧
  (∀ (t port reason : Nat) (s : State),
    reportsRefusal s port reason = false → Answers (.linkRefused t port reason) s fun u => Touches [] [] (s.advance t) u) ∧
  (∀ (t port : Nat) (s : State),
    port < 6 → (s.portOf port).link = 1 → (s.portOf port).silent = false →
    (s.portOf port).lastRx + 3 * ms (s.cfg 0x2101 0x04 (port / 2)) ≤ max s.now t →
    (s.portOf (partnerOf port)).heard = true → max s.now t < (s.portOf (partnerOf port)).lastRx + 3 * ms (s.cfg 0x2101 0x04 (port / 2)) →
    Answers (.prpPortSilent t port) s fun u =>
      (u.portOf port).silent = true ∧ (u.portOf port).link = 1 ∧ shown u 0x2111 0x01 (port / 2) = pairShould u (port / 2) ∧
      Touches [.port] [] (s.advance t) u) ∧
  (∀ (t port : Nat) (s : State),
    max s.now t < (s.portOf port).lastRx + 3 * ms (s.cfg 0x2101 0x04 (port / 2)) →
    Answers (.prpPortSilent t port) s fun u => Touches [] [] (s.advance t) u)

/-- RX_FRAME on a link that is up, outside RECOVERY: a frame with a receive overflow is counted in 0x2120:09; else one shorter than 64 bytes
with its FCS in 0x2120:04; else one longer than the port's maximum in 0x2120:05; else one with a bad FCS in 0x2120:03; else one to an
address the port does not accept in 0x2120:01, :02 and :06; nothing else but the port record differs. An untagged PTP frame to the PTP
address, of 64 bytes to the maximum, with a good FCS and no overflow, on P0 to P5, is counted in 0x2120:01 and handed to the PTP engine,
before any PRP handling. A valid pause frame of 64 bytes is counted in 0x2120:0A and, with pause on, stops the port for its quanta from the
end of the frame in progress. On a link that is not up nothing changes. PAUSE_EXPIRY when a port's pause has run out ends it, and the time
stopped is added to 0x2120:0C; before that nothing changes. -/
def Obligations.FramesAreReceived : Prop :=
  (∀ (t port : Nat) (l : List Byte) (good : Bool) (s : State),
    s.dev ≠ stRecovery → port < 8 → (s.portOf port).link = 1 →
    Answers (.rxFrame t port good true l) s fun u =>
      u.ro 0x2120 0x09 port = (s.ro 0x2120 0x09 port + 1) % 2 ^ 32 ∧ Touches [.port] [(0x2120, 0x09)] (s.advance t) u) ∧
  (∀ (t port : Nat) (l : List Byte) (good : Bool) (s : State),
    s.dev ≠ stRecovery → port < 8 → (s.portOf port).link = 1 → l.length < 60 →
    Answers (.rxFrame t port good false l) s fun u =>
      u.ro 0x2120 0x04 port = (s.ro 0x2120 0x04 port + 1) % 2 ^ 32 ∧ Touches [.port] [(0x2120, 0x04)] (s.advance t) u) ∧
  (∀ (t port : Nat) (l : List Byte) (good : Bool) (s : State),
    s.dev ≠ stRecovery → port < 8 → (s.portOf port).link = 1 → 60 ≤ l.length → portMax s port < l.length + 4 →
    Answers (.rxFrame t port good false l) s fun u =>
      u.ro 0x2120 0x05 port = (s.ro 0x2120 0x05 port + 1) % 2 ^ 32 ∧ Touches [.port] [(0x2120, 0x05)] (s.advance t) u) ∧
  (∀ (t port : Nat) (l : List Byte) (s : State),
    s.dev ≠ stRecovery → port < 8 → (s.portOf port).link = 1 → 60 ≤ l.length → l.length + 4 ≤ portMax s port →
    Answers (.rxFrame t port false false l) s fun u =>
      u.ro 0x2120 0x03 port = (s.ro 0x2120 0x03 port + 1) % 2 ^ 32 ∧ Touches [.port] [(0x2120, 0x03)] (s.advance t) u) ∧
  (∀ (t port : Nat) (l : List Byte) (s : State),
    s.dev ≠ stRecovery → port < 8 → (s.portOf port).link = 1 → 60 ≤ l.length → l.length + 4 ≤ portMax s port →
    addressAccepted s port (l.take 6) = false →
    Answers (.rxFrame t port true false l) s fun u =>
      u.ro 0x2120 0x06 port = (s.ro 0x2120 0x06 port + 1) % 2 ^ 32 ∧
      Touches [.port] [(0x2120, 0x01), (0x2120, 0x02), (0x2120, 0x06)] (s.advance t) u) ∧
  (∀ (t port : Nat) (l : List Byte) (s : State),
    s.dev ≠ stRecovery → port < 6 → (s.portOf port).link = 1 → 60 ≤ l.length → l.length + 4 ≤ portMax s port →
    l.take 6 = be 6 0x011B19000000 → beAt l 12 2 = 0x88F7 →
    Answers (.rxFrame t port true false l) s fun u =>
      Out.dispatched port 0x88F7 0 l ∈ u.outs ∧ u.ro 0x2120 0x01 port = (s.ro 0x2120 0x01 port + 1) % 2 ^ 64 ∧
      Touches [.port] [(0x2120, 0x01), (0x2120, 0x02)] (s.advance t) u) ∧
  (∀ (t port : Nat) (l : List Byte) (s : State),
    s.dev ≠ stRecovery → port < 8 → (s.portOf port).link = 1 → l.length = 60 → 64 ≤ portMax s port →
    l.take 6 = be 6 0x0180C2000001 → beAt l 12 2 = 0x8808 → beAt l 14 2 = 1 → 0 < beAt l 16 2 → s.cfgB 0x2100 0x06 port = true →
    (s.portOf port).pausedSince = none →
    Answers (.rxFrame t port true false l) s fun u =>
      u.ro 0x2120 0x0A port = (s.ro 0x2120 0x0A port + 1) % 2 ^ 32 ∧
      (u.portOf port).pausedSince = some (max (max s.now t) (s.portOf port).busyUntil) ∧
      (u.portOf port).pauseUntil = max s.now t + beAt l 16 2 * 64 * bytePs (s.cfg 0x2100 0x02 port) ∧
      Touches [.port] [(0x2120, 0x01), (0x2120, 0x02), (0x2120, 0x0A)] (s.advance t) u) ∧
  (∀ (t port : Nat) (l : List Byte) (good over_ : Bool) (s : State),
    (s.portOf port).link ≠ 1 → Answers (.rxFrame t port good over_ l) s fun u => Touches [] [] (s.advance t) u) ∧
  (∀ (t port a : Nat) (s : State),
    s.dev ≠ stRecovery → port < 8 → (s.portOf port).pausedSince = some a → (s.portOf port).pauseUntil ≤ max s.now t →
    Answers (.pauseExpiry t port) s fun u =>
      (u.portOf port).pausedSince = none ∧
      u.ro 0x2120 0x0C port = (s.ro 0x2120 0x0C port + ((s.portOf port).pauseUntil - a) / 1000) % 2 ^ 64 ∧
      Touches [.port] [(0x2120, 0x0C), (0x2121, 0x05), (0x2120, 0x15)] (s.advance t) u) ∧
  (∀ (t port : Nat) (s : State),
    max s.now t < (s.portOf port).pauseUntil → Answers (.pauseExpiry t port) s fun u => Touches [] [] (s.advance t) u)

/-- TX_FRAME_START on a port that is up, idle and not paused first hands over the PTP messages due and drops the frames no window can take; then
the head of the highest eligible queue (open, and able to end before its gate closes) goes on the wire, with its stamp if it is a one-step
PTP event message; it is the frame in progress for its time on the line, has left its queue, and counts in 0x2120:0D outside RECOVERY. On a
port that is not up nothing changes. TX_UNDERRUN with a frame in progress that is sent cut-through puts the bytes sent so far on the wire
with a bad FCS, ends the frame, counts in 0x2120:0F and raises the threshold by 256 bytes up to the port's maximum; without a frame in
progress nothing changes. PRP_SUPERVISION_TX when a supervision frame is due steps the pair's supervision sequence number, keeps the
instant, and on a pair that is not DOWN puts one frame to the supervision address into the queue of class 8 (the class is a choice of the
model, log entry 91) of each port that is up; when none is due nothing changes. -/
def Obligations.FramesAreSent : Prop :=
  (∀ (t port q : Nat) (f : TxFrame) (rest : List TxFrame) (v s : State),
    port < 8 → (s.portOf port).link = 1 → (s.portOf port).busyUntil ≤ max s.now t → (s.portOf port).pausedSince = none →
    v = (List.range 8).foldl (fun s q => dropTooLong port q s) (ptpDue port (s.advance t)) →
    [7, 6, 5, 4, 3, 2, 1, 0].find? (eligible v port) = some q → tabGet [] (v.portOf port).queues q = f :: rest →
    Answers (.txFrameStart t port) s fun u =>
      Out.wire port false (stampFrame v port f).bytes ∈ u.outs ∧ (u.portOf port).sending = some (stampFrame v port f) ∧
      (u.portOf port).busyUntil = max s.now t + frameTime s port (stampFrame v port f).bytes.length ∧
      (f.source = 0 → tabGet [] (u.portOf port).queues q = rest) ∧
      (s.dev ≠ stRecovery → u.ro 0x2120 0x0D port = (s.ro 0x2120 0x0D port + 1) % 2 ^ 64) ∧
      Touches [.port, .time] [(0x2120, 0x0D), (0x2120, 0x0E), (0x2120, 0x10), (0x2120, 0x12)] (s.advance t) u) ∧
  (∀ (t port : Nat) (s : State),
    (s.portOf port).link ≠ 1 → Answers (.txFrameStart t port) s fun u => Touches [] [] (s.advance t) u) ∧
  (∀ (t port : Nat) (f : TxFrame) (s : State),
    port < 8 → s.dev ≠ stRecovery → (s.portOf port).sending = some f → max s.now t < (s.portOf port).busyUntil → cutThrough s port f = true →
    Answers (.txUnderrun t port) s fun u =>
      Out.wire port true (f.bytes.take (sentBytes (s.advance t) port f)) ∈ u.outs ∧ (u.portOf port).sending = none ∧
      shown u 0x2110 0x03 port = min (threshold s port + 256) (portMax s port) ∧
      u.ro 0x2120 0x0F port = (s.ro 0x2120 0x0F port + 1) % 2 ^ 32 ∧
      Touches [.port] [(0x2120, 0x0D), (0x2120, 0x0E), (0x2120, 0x0F)] (s.advance t) u) ∧
  (∀ (t port : Nat) (s : State),
    (s.portOf port).sending = none → Answers (.txUnderrun t port) s fun u => Touches [] [] (s.advance t) u) ∧
  (∀ (t pair : Nat) (s : State),
    supervisionDue (s.advance t) pair = true →
    Answers (.prpSupervisionTx t pair) s fun u =>
      tabGet 0 u.port.supSeq pair = (tabGet 0 s.port.supSeq pair + 1) % 65536 ∧ lookup pair u.port.supAt = some (max s.now t) ∧
      Touches [.port] [(0x2111, 0x03), (0x2120, 0x12)] (s.advance t) u) ∧
  (∀ (t pair port : Nat) (s : State),
    supervisionDue (s.advance t) pair = true → (port = 2 * pair ∨ port = 2 * pair + 1) → tabGet 2 s.port.pairState pair ≠ 2 →
    (s.portOf port).link = 1 → (s.cfgBytes 0x2100 0x09 (2 * pair)).length = 6 → (s.cfgBytes 0x2100 0x09 (2 * pair + 1)).length = 6 →
    64 ≤ portMax s (2 * pair) → 64 ≤ portMax s (2 * pair + 1) →
    Answers (.prpSupervisionTx t pair) s fun u =>
      (tabGet [] (u.portOf port).queues (s.cfg 0x2104 0x01 (16 * port + 8))).length =
        (tabGet [] (s.portOf port).queues (s.cfg 0x2104 0x01 (16 * port + 8))).length + 1 ∧
      ((tabGet [] (u.portOf port).queues (s.cfg 0x2104 0x01 (16 * port + 8))).getLast?.map fun f => f.bytes.take 6) =
        some (be 5 0x01154E0001 ++ be 1 (s.cfg 0x2101 0x05 pair))) ∧
  (∀ (t pair : Nat) (s : State),
    supervisionDue (s.advance t) pair = false → Answers (.prpSupervisionTx t pair) s fun u => Touches [] [] (s.advance t) u)

/-- GATE_ENTRY_CHANGE shows the gate states and the entry in force in 0x2110:04 and :05; a GAT-based gate that has closed on the frame in
progress counts one overrun in 0x2120:11, once for that frame, outside RECOVERY. GATE_LIST_CHANGE when the first cycle start of a staged
list has come, on T96 or on GAT, puts that list in force and posts event 0x210C; before it nothing changes. PRP_NODE_FORGET forgets a node
not heard for the forget time, and 0x2111:02 shows the fill; a node heard since stays. 0x2130:01 Clear port counters, accepted, is answered
OK and clears every counter of 0x2120 and 0x2121 and the flag 0x2110:07. -/
def Obligations.GatesAndNodesFollow : Prop :=
  (∀ (t port : Nat) (s : State),
    Answers (.gateEntryChange t port) s fun u =>
      shown u 0x2110 0x04 port = (gateNow (s.advance t) port).1 ∧ shown u 0x2110 0x05 port = (gateNow (s.advance t) port).2 ∧
      Touches [.port] [(0x2120, 0x11)] (s.advance t) u) ∧
  (∀ (t port : Nat) (s : State),
    port < 8 → s.timeRuns = true → (s.portOf port).gate.gatBased = true → (s.portOf port).sending.isSome = true →
    max s.now t < (s.portOf port).busyUntil → (s.portOf port).sendingQ < 8 →
    bit (gateNow (s.advance t) port).1 (s.portOf port).sendingQ = false →
    Answers (.gateEntryChange t port) s fun u =>
      u.ro 0x2120 0x11 port = (s.ro 0x2120 0x11 port + 1) % 2 ^ 32 ∧ (u.portOf port).sendingQ = 8 ∧ (u.portOf port).sending = (s.portOf port).sending) ∧
  (∀ (t port : Nat) (g : GateList) (s : State),
    Room s → (s.portOf port).newGate = some g → g.gatBased = false → (s.portOf port).newGateAt ≤ (s.advance t).t96 →
    Answers (.gateListChange t port) s fun u =>
      (u.portOf port).gate = g ∧ (u.portOf port).newGate = none ∧
      Posted 0x210C (le 1 port ++ le 1 0 ++ le 12 (s.portOf port).newGateAt) s u ∧ Touches [.port] [(0x2120, 0x11)] (s.advance t) u) ∧
  (∀ (t port : Nat) (g : GateList) (s : State),
    Room s → (s.portOf port).newGate = some g → g.gatBased = true → 0 ≤ gatMinus (s.advance t).gat (s.portOf port).newGateAt →
    Answers (.gateListChange t port) s fun u =>
      (u.portOf port).gate = g ∧ (u.portOf port).newGate = none ∧
      Posted 0x210C (le 1 port ++ le 1 1 ++ le 12 (s.advance t).t96) s u ∧ Touches [.port] [(0x2120, 0x11)] (s.advance t) u) ∧
  (∀ (t port : Nat) (g : GateList) (s : State),
    (s.portOf port).newGate = some g →
    (if g.gatBased then gatMinus (s.advance t).gat (s.portOf port).newGateAt < 0 else (s.advance t).t96 < (s.portOf port).newGateAt) →
    Answers (.gateListChange t port) s fun u => Touches [] [] (s.advance t) u) ∧
  (∀ (t pair mac : Nat) (n : Node) (s : State),
    lookup (pair * 2 ^ 48 + mac) s.port.nodes = some n → n.heardAt + sec (s.cfg 0x2101 0x03 pair) ≤ max s.now t →
    Answers (.prpNodeForget t pair mac) s fun u =>
      lookup (pair * 2 ^ 48 + mac) u.port.nodes = none ∧ u.ro 0x2111 0x02 pair = nodeFill u pair ∧
      Touches [.port] [(0x2111, 0x02)] (s.advance t) u) ∧
  (∀ (t pair mac : Nat) (n : Node) (s : State),
    lookup (pair * 2 ^ 48 + mac) s.port.nodes = some n → max s.now t < n.heardAt + sec (s.cfg 0x2101 0x03 pair) →
    Answers (.prpNodeForget t pair mac) s fun u => Touches [] [] (s.advance t) u) ∧
  (∀ (t : Nat) (who : Who) (s : State),
    AcceptedPlain 0x2130 0x01 who (s.advance t) →
    Answers (.clearPortCounters t who) s fun u => Clears (subsOf 0x2120 ++ subsOf 0x2121 ++ [(0x2110, 0x07)]) who (s.advance t) u)

/-- INGEST_DATAGRAM on P0 to P3, with no decision waiting: in START it is only counted in 0x2230:10; in RUN or TRIM a datagram with a bad IP
header, or a whole one with a wrong UDP checksum, is only counted in 0x2230:0E; a header frame of good form of a row, by its session or its
key, puts its text (the last 4,096 bytes) into 0x2203:0C and posts event 0x2209. In RUN or TRIM, whatever waits, a data frame of good form
of a row whose stream is ACTIVE or SILENT, that its configuration fits, with T96 set and no old row that takes it, is parsed and slotted at
its instant, and accepted there, as takeData says. SPDU_RX on P0 to P3 with no decision waiting: in START it is only counted in 0x2230:10;
in RUN or TRIM an encrypted one is only counted in 0x2230:0A; an SPDU of a row that is not ACTIVE or SILENT, with sampled values in clear,
an accepted key, a good tag and a number ahead of the highest, moves the highest number to its own and is counted in 0x2203:0F.
REASSEMBLY_TIMEOUT when a datagram's time has run out drops it and counts it once in 0x2230:07; before that nothing changes.
STREAM_SILENCE_TIMEOUT for an ACTIVE stream without data for the timeout makes it SILENT; while data has come within it nothing changes. -/
def Obligations.IngestTakesFrames : Prop :=
  (∀ (t port : Nat) (g : Datagram) (s : State),
    port < 4 → s.dev = stStart → s.ingest.deciding = [] →
    Answers (.ingestDatagram t port g) s fun u =>
      u.ro 0x2230 0x10 = (s.ro 0x2230 0x10 + 1) % 2 ^ 32 ∧ Touches [] [(0x2230, 0x10)] (s.advance t) u) ∧
  (∀ (t port : Nat) (g : Datagram) (s : State),
    port < 4 → s.running = true → s.ingest.deciding = [] →
    (g.ipBad = true ∨ g.fragment = none ∧ g.session = none ∧ udpGood g g.payload = false) →
    Answers (.ingestDatagram t port g) s fun u =>
      u.ro 0x2230 0x0E = (s.ro 0x2230 0x0E + 1) % 2 ^ 32 ∧ Touches [] [(0x2230, 0x0E)] (s.advance t) u) ∧
  (∀ (t port h : Nat) (g : Datagram) (s : State),
    port < 4 → h < firstLocal → Room s → s.running = true → s.ingest.deciding = [] → g.ipBad = false → g.fragment = none →
    (g.session.isSome = true ∨ udpGood g g.payload = true ∧ beAt g.payload 2 2 = g.payload.length) →
    16 ≤ g.payload.length → byteAt g.payload 0 = 0xAA → chkGood g.payload = true →
    frameType g.payload = 1 → (frameVersion g.payload = 1 ∨ frameVersion g.payload = 2) → rowOf s port g (beAt g.payload 4 2) = some h →
    Answers (.ingestDatagram t port g) s fun u =>
      u.roBytes 0x2203 0x0C h = (let text := (g.payload.take (g.payload.length - 2)).drop 14; text.drop (text.length - 4096)) ∧
      Posted 0x2209 (le 2 h) s u ∧ Touches [] [(0x2203, 0x0C)] (s.advance t) u) ∧
  (∀ (t port h : Nat) (g : Datagram) (c : PartnerCfg) (v s : State),
    port < 4 → v = s.advance t → s.running = true → g.ipBad = false → g.fragment = none →
    (g.session.isSome = true ∨ udpGood g g.payload = true ∧ beAt g.payload 2 2 = g.payload.length) →
    16 ≤ g.payload.length → byteAt g.payload 0 = 0xAA → chkGood g.payload = true →
    frameType g.payload = 0 → (frameVersion g.payload = 1 ∨ frameVersion g.payload = 2) → rowOf v port g (beAt g.payload 4 2) = some h →
    oldFrame v port g g.payload = none → (streamState s h = 3 ∨ streamState s h = 4) →
    configurationFor v (s.stream h) g.payload.length = some c → beAt g.payload 11 3 < c.timeBase % 2 ^ 24 → s.time.isSet = true →
    Answers (.ingestDatagram t port g) s fun u =>
      u = settle (settleDecisions (takeData h
        (socT96 v (beAt g.payload 6 4) (beAt g.payload 11 3) (c.timeBase % 2 ^ 24) (v.ingressT96 port)) (v.ingressT96 port)
        (parseData c v.timeClass g.payload) g.payload v))) ∧
  (∀ (t port : Nat) (d : Spdu) (s : State),
    port < 4 → s.dev = stStart → s.ingest.deciding = [] →
    Answers (.spduRx t port d) s fun u =>
      u.ro 0x2230 0x10 = (s.ro 0x2230 0x10 + 1) % 2 ^ 32 ∧ Touches [] [(0x2230, 0x10)] (s.advance t) u) ∧
  (∀ (t port : Nat) (d : Spdu) (s : State),
    port < 4 → s.running = true → s.ingest.deciding = [] → d.fragment = none → d.checksumBad = false → d.encrypted = true →
    Answers (.spduRx t port d) s fun u =>
      u.ro 0x2230 0x0A = (s.ro 0x2230 0x0A + 1) % 2 ^ 32 ∧ Touches [] [(0x2230, 0x0A)] (s.advance t) u) ∧
  (∀ (t port h n : Nat) (key : List Byte) (d : Spdu) (s : State),
    port < 4 → h < firstLocal → s.running = true → s.ingest.deciding = [] → d.fragment = none → d.checksumBad = false →
    d.sampledValues = true → d.encrypted = false → spduOld (s.advance t) port d = none → spduRow s.active (matchedRows s) port d = some h →
    1 ≤ d.algorithm → d.algorithm ≤ 3 →
    (acceptedKeys (s.advance t) h (s.stream h) d.keyTime).contains d.keyId = true → keyOf s d.keyId (spduUsages d.algorithm) = some key →
    spduTag d.algorithm key d.signed = d.tag → (s.stream h).spduHigh = some n → 1024 ≤ (n + 2 ^ 32 - d.number) % 2 ^ 32 →
    streamState s h ≠ 3 → streamState s h ≠ 4 →
    Answers (.spduRx t port d) s fun u =>
      (u.stream h).spduHigh = some d.number ∧ u.ro 0x2203 0x0F h = (s.ro 0x2203 0x0F h + 1) % 2 ^ 32 ∧
      Touches [.ingest] [(0x2203, 0x0F)] (s.advance t) u) ∧
  (∀ (t ident : Nat) (src : List Byte) (x : Reassembly) (s : State),
    s.ingest.reassemblies.find? (fun y => y.src == src && y.ident == ident) = some x → x.bad = false →
    x.startedAt + ms (s.cfg 0x2200 0x05) ≤ max s.now t →
    Answers (.reassemblyTimeout t src ident) s fun u =>
      u.ingest.reassemblies.find? (fun y => y.src == src && y.ident == ident) = none ∧
      u.ro 0x2230 0x07 = (s.ro 0x2230 0x07 + 1) % 2 ^ 32 ∧ Touches [.ingest] [(0x2230, 0x07)] (s.advance t) u) ∧
  (∀ (t ident : Nat) (src : List Byte) (x : Reassembly) (s : State),
    s.ingest.reassemblies.find? (fun y => y.src == src && y.ident == ident) = some x →
    max s.now t < x.startedAt + ms (s.cfg 0x2200 0x05) →
    Answers (.reassemblyTimeout t src ident) s fun u => Touches [] [] (s.advance t) u) ∧
  (∀ (t h : Nat) (s : State),
    h < firstLocal → s.running = true → streamState s h = 3 → (s.stream h).lastAccept + ms (s.cfg 0x2200 0x04) ≤ max s.now t →
    Answers (.streamSilenceTimeout t h) s fun u => streamState u h = 4 ∧ bit (u.stream h).conds 8 = true) ∧
  (∀ (t h : Nat) (s : State),
    streamState s h = 3 → max s.now t < (s.stream h).lastAccept + ms (s.cfg 0x2200 0x04) →
    Answers (.streamSilenceTimeout t h) s fun u => Touches [] [] (s.advance t) u)

/-- SESSION_CONNECTED for a mode-1 row in step 1 asks for the configuration by its session (CFG-2, or CFG-3 where 0x2201:0D says so) and stands
in step 3; in another step nothing changes. SESSION_TIMEOUT without an answer in step 1 or 3 doubles the backoff, from 1 s, up to 0x2200:03,
and stands in step 5; before the timeout nothing changes. SESSION_BACKOFF_EXPIRY for a mode-1 row without a connection opens one, counts in
0x2203:0B and stands in step 1; before the backoff has passed nothing changes. 0x2260:02 Request header, accepted in RUN or TRIM, is
answered OK and sends command 0x0003 on the open session of a mode-1 row; for a row without mode it is a state conflict, 0x06. -/
def Obligations.PartnerSessionsFollowTheirSteps : Prop :=
  (∀ (t h : Nat) (s : State),
    h < firstLocal → s.running = true → sessionMode s h = 1 → sessionStep s h = 1 →
    Answers (.sessionConnected t h) s fun u =>
      (u.stream h).tcp = true ∧ sessionStep u h = 3 ∧
      Out.tcp h (commandFrame (s.advance t) h (if s.cfg 0x2201 0x0D h = 1 then 6 else 5)) ∈ u.outs ∧
      Touches [.ingest, .port] [(0x2203, 0x0D), (0x2120, 0x12), (0x2111, 0x03)] (s.advance t) u) ∧
  (∀ (t h : Nat) (s : State),
    sessionStep s h ≠ 1 → Answers (.sessionConnected t h) s fun u => Touches [] [] (s.advance t) u) ∧
  (∀ (t h : Nat) (s : State),
    h < firstLocal → s.running = true → (sessionStep s h = 1 ∨ sessionStep s h = 3) →
    (s.stream h).stepAt + ms (if sessionStep s h = 1 then s.cfg 0x2200 0x01 else s.cfg 0x2200 0x02) ≤ max s.now t →
    Answers (.sessionTimeout t h) s fun u =>
      sessionStep u h = 5 ∧ (u.stream h).stepAt = max s.now t ∧
      (u.stream h).backoff = min (if (s.stream h).backoff = 0 then 1 else 2 * (s.stream h).backoff) (s.cfg 0x2200 0x03) ∧
      Touches [.ingest] [(0x2203, 0x0D)] (s.advance t) u) ∧
  (∀ (t h : Nat) (s : State),
    max s.now t < (s.stream h).stepAt + ms (if sessionStep s h = 1 then s.cfg 0x2200 0x01 else s.cfg 0x2200 0x02) →
    Answers (.sessionTimeout t h) s fun u => Touches [] [] (s.advance t) u) ∧
  (∀ (t h : Nat) (s : State),
    h < firstLocal → s.running = true → sessionMode s h = 1 → (s.stream h).tcp = false → sessionStep s h = 5 →
    (s.stream h).stepAt + sec (s.stream h).backoff ≤ max s.now t →
    Answers (.sessionBackoffExpiry t h) s fun u =>
      sessionStep u h = 1 ∧ Out.tcpOpen h (s.cfgBytes 0x2201 0x04 h) (s.cfg 0x2201 0x0C h) ∈ u.outs ∧
      u.ro 0x2203 0x0B h = (s.ro 0x2203 0x0B h + 1) % 2 ^ 32 ∧
      Touches [.ingest] [(0x2203, 0x0B), (0x2203, 0x0D)] (s.advance t) u) ∧
  (∀ (t h : Nat) (s : State),
    max s.now t < (s.stream h).stepAt + sec (s.stream h).backoff →
    Answers (.sessionBackoffExpiry t h) s fun u => Touches [] [] (s.advance t) u) ∧
  (∀ (t h : Nat) (who : Who) (s : State),
    Accepted 0x2260 0x02 h (.num 0) who (s.advance t) → s.running = true → sessionMode s h = 1 → (s.stream h).tcp = true →
    Answers (.requestHeader t who h) s fun u =>
      Answered who 0 u ∧ Out.tcp h (commandFrame (s.advance t) h 3) ∈ u.outs ∧
      Touches [.imian, .port] [(0x1120, 1), (0x1120, 2), (0x2120, 0x12), (0x2111, 0x03)] (s.advance t) u) ∧
  (∀ (t h : Nat) (who : Who) (s : State),
    Accepted 0x2260 0x02 h (.num 0) who (s.advance t) → sessionMode s h = 0 →
    Answers (.requestHeader t who h) s fun u =>
      Answered who 0x06 u ∧ Touches [.imian] [(0x1120, 1), (0x1120, 2)] (s.advance t) u)

/-- STREAM_ENABLE on, an accepted WRITE in RUN or TRIM to a DISABLED or refused row, is answered OK, stored, and joins the collection that is
admitted together; off, for an ACTIVE or SILENT stream, it leaves it STOPPING, or, without a session, DISABLED; outside RUN and TRIM it is
only stored. ADMISSION_COLLECTION_CLOSE 1 ms after the collection began ends it; a single collected row that fails an admission test is then
refused: its state is 1, it is counted in 0x2230:0C and event 0x2204 names the failing test; one that passes, of session mode 1, is
CONFIGURING in step 1. STREAM_STOPPED for a stream in STOPPING leaves it DISABLED, and in the collection when an enable is pending.
ADOPTION_GRACE_EXPIRY after 60 s drops the configuration before the adoption. OLD_STREAM_TABLE_EXPIRY drops the old stream table once group
0 has passed its last slot. Before its instant each of the last four changes nothing. -/
def Obligations.PartnerStreamsStartAndStop : Prop :=
  (∀ (t h : Nat) (who : Who) (s : State),
    h < firstLocal → s.running = true → AcceptedWrite 0x2201 0x01 h (.num 1) who (s.advance t) → streamState s h ≤ 1 →
    Answers (.streamEnable t who h true) s fun u =>
      Answered who 0 u ∧ u.rw 0x2201 0x01 h = 1 ∧ h ∈ u.ingest.collected ∧ u.ingest.collection.isSome = true ∧
      Touches [.live, .ingest, .imian, .port, .draws] [(0x1120, 1), (0x1120, 2), (0x2120, 0x12), (0x2111, 0x03)] (s.advance t) u) ∧
  (∀ (t h : Nat) (who : Who) (s : State),
    h < firstLocal → s.running = true → AcceptedWrite 0x2201 0x01 h (.num 0) who (s.advance t) →
    (streamState s h = 3 ∨ streamState s h = 4) →
    Answers (.streamEnable t who h false) s fun u =>
      Answered who 0 u ∧ u.rw 0x2201 0x01 h = 0 ∧ streamState u h = if sessionMode s h = 0 then 0 else 6) ∧
  (∀ (t h : Nat) (who : Who) (on : Bool) (s : State),
    s.running = false → AcceptedWrite 0x2201 0x01 h (.num (b2n on)) who (s.advance t) →
    Answers (.streamEnable t who h on) s fun u =>
      Answered who 0 u ∧ u.rw 0x2201 0x01 h = b2n on ∧ Touches [.live, .imian] [(0x1120, 1), (0x1120, 2)] (s.advance t) u) ∧
  (∀ (t a : Nat) (s : State),
    s.ingest.collection = some a → a + ms 1 ≤ max s.now t →
    Answers (.admissionCollectionClose t) s fun u => u.ingest.collection = none ∧ u.ingest.collected = []) ∧
  (∀ (t a h reason : Nat) (s : State),
    Room s → h < firstLocal → s.running = true → s.ingest.collection = some a → s.ingest.collected = [h] → a + ms 1 ≤ max s.now t →
    s.rw 0x2201 0x01 h = 1 → streamState s h = 0 → admissionTest s.active (admissionLimit s) (h :: admittedPartners s) = some reason →
    Answers (.admissionCollectionClose t) s fun u =>
      streamState u h = 1 ∧ u.ro 0x2230 0x0C = (s.ro 0x2230 0x0C + 1) % 2 ^ 32 ∧ Posted 0x2204 (le 2 h ++ le 1 reason) s u) ∧
  (∀ (t a h : Nat) (s : State),
    h < firstLocal → s.running = true → s.ingest.collection = some a → s.ingest.collected = [h] → a + ms 1 ≤ max s.now t →
    s.rw 0x2201 0x01 h = 1 → streamState s h ≤ 1 → admissionTest s.active (admissionLimit s) (h :: admittedPartners s) = none →
    sessionMode s h = 1 →
    Answers (.admissionCollectionClose t) s fun u => streamState u h = 2 ∧ sessionStep u h = 1) ∧
  (∀ (t a : Nat) (s : State),
    s.ingest.collection = some a → max s.now t < a + ms 1 →
    Answers (.admissionCollectionClose t) s fun u => Touches [] [] (s.advance t) u) ∧
  (∀ (t h : Nat) (s : State),
    h < firstLocal → s.running = true → streamState s h = 6 →
    Answers (.streamStopped t h) s fun u =>
      streamState u h = 0 ∧ ((s.fourFlag (fnStream h)).1 = true → h ∈ u.ingest.collected ∧ u.ingest.collection.isSome = true)) ∧
  (∀ (t h : Nat) (s : State),
    streamState s h ≠ 6 → Answers (.streamStopped t h) s fun u => Touches [] [] (s.advance t) u) ∧
  (∀ (t h : Nat) (s : State),
    (s.stream h).oldCfg.isSome = true → (s.stream h).adoptedAt + sec 60 ≤ max s.now t →
    Answers (.adoptionGraceExpiry t h) s fun u => (u.stream h).oldCfg = none ∧ Touches [.ingest] [] (s.advance t) u) ∧
  (∀ (t h : Nat) (s : State),
    max s.now t < (s.stream h).adoptedAt + sec 60 → Answers (.adoptionGraceExpiry t h) s fun u => Touches [] [] (s.advance t) u) ∧
  (∀ (t : Nat) (o : OldTable) (s : State),
    s.ingest.oldTable = some o → o.dropSlot ≤ (s.group 0).next →
    Answers (.oldStreamTableExpiry t) s fun u => u.ingest.oldTable = none ∧ Touches [.ingest] [] (s.advance t) u) ∧
  (∀ (t : Nat) (o : OldTable) (s : State),
    s.ingest.oldTable = some o → (s.group 0).next < o.dropSlot →
    Answers (.oldStreamTableExpiry t) s fun u => Touches [] [] (s.advance t) u)

/-- PARTNER_STATUS_WINDOW_END in RUN or TRIM, one nominal cycle after the window began, takes the window away, writes its streams as bits, its
condition code and its start into the next of the 16 rows of 0x2240, posts event 0x2210, and sets INT_STATUS[11]; before that cycle has
passed nothing changes. 0x2260:01 Clear ingest counters, accepted, is answered OK and clears every counter of 0x2230 and the per-stream
counters 0x2203:06 to :0B and :0F. -/
def Obligations.PartnerStatusIsCoalesced : Prop :=
  (∀ (t c : Nat) (clearing : Bool) (w : StatusWindow) (s : State),
    Room s → s.running = true → s.ingest.windows.find? (fun w => w.cond == c && w.clearing == clearing) = some w →
    w.start + 2 ^ 48 / s.fnom ≤ (s.advance t).t96 → s.ingest.bitmapNext < 16 →
    Answers (.partnerStatusWindowEnd t c clearing) s fun u =>
      u.ingest.windows = s.ingest.windows.erase w ∧ u.ingest.bitmapNext = (s.ingest.bitmapNext + 1) % 16 ∧
      u.roBytes 0x2240 0x01 s.ingest.bitmapNext = streamBits w.streams ∧
      u.ro 0x2240 0x02 s.ingest.bitmapNext = c + 128 * b2n clearing ∧ u.ro 0x2240 0x03 s.ingest.bitmapNext = w.start ∧
      Posted 0x2210 (le 1 (c + 128 * b2n clearing) ++ le 2 w.streams.length ++ le 2 (w.streams.headD 0) ++ le 2 (w.streams.getLastD 0) ++
        le 1 s.ingest.bitmapNext) s u ∧
      bit u.host.intStatus 11 = true ∧
      Touches [.ingest, .host] [(0x2240, 1), (0x2240, 2), (0x2240, 3), (0x2240, 4), (0x2241, 1)] (s.advance t) u) ∧
  (∀ (t c : Nat) (clearing : Bool) (w : StatusWindow) (s : State),
    s.ingest.windows.find? (fun w => w.cond == c && w.clearing == clearing) = some w → (s.advance t).t96 < w.start + 2 ^ 48 / s.fnom →
    Answers (.partnerStatusWindowEnd t c clearing) s fun u => Touches [] [] (s.advance t) u) ∧
  (∀ (t : Nat) (who : Who) (s : State),
    AcceptedPlain 0x2260 0x01 who (s.advance t) →
    Answers (.clearIngestCounters t who) s fun u =>
      Clears (subsOf 0x2230 ++ [(0x2203, 6), (0x2203, 7), (0x2203, 8), (0x2203, 9), (0x2203, 0x0A), (0x2203, 0x0B), (0x2203, 0x0F)]) who (s.advance t) u)

/-- SLOT_OPEN in RUN or TRIM for a group whose grid runs, once the next window has begun: the slot enters the grid, as openSlot says, and the
decisions of the group are taken. For a group of 1 to 63 that holds no slot and takes its own decisions now, the slot is there as a new one,
OPEN, with the live streams expected, when it is not complete at once, neither its quorum nor its speculative wait releases it, and its
maximum wait has not passed; nothing else but the group's own record differs. Before the window has begun, with no grid, or outside RUN and
TRIM nothing changes. -/
def Obligations.SlotsOpenInTheirWindow : Prop :=
  (∀ (t g : Nat) (s : State),
    s.running = true → s.time.isSet = true → (s.group g).rate ≠ 0 →
    slotPoint (s.advance t) (s.group g).rate (s.group g).next (-2) ≤ (s.advance t).t96 →
    Answers (.slotOpen t g) s (fun u => u = settle (takeDecisions g (openSlot g (s.advance t))))) ∧
  (∀ (t g : Nat) (s : State),
    g < 64 → g ≠ 0 → s.running = true → s.time.isSet = true → (s.group g).rate ≠ 0 → (s.group g).slots = [] →
    (s.group g).recallTarget = none → packWaits s g = false → follows s = false → framesToCome (s.advance t) = false →
    slotPoint (s.advance t) (s.group g).rate (s.group g).next (-2) ≤ (s.advance t).t96 →
    (newSlot (s.advance t) g (s.group g).next).complete = false → (newSlot (s.advance t) g (s.group g).next).quorumMet = false →
    (newSlot (s.advance t) g (s.group g).next).waitReleases s.fnom (s.advance t).t96 = false →
    (newSlot (s.advance t) g (s.group g).next).waitOver (s.advance t).t96 = false →
    Answers (.slotOpen t g) s fun u =>
      (u.group g).slot? (s.group g).next = some (newSlot (s.advance t) g (s.group g).next) ∧
      (u.group g).next = nextSlot (s.advance t) (s.group g).rate (s.group g).next ∧ Touches [.groups] [] (s.advance t) u) ∧
  (∀ (t g : Nat) (s : State),
    (s.running = false ∨ s.time.isSet = false ∨ (s.group g).rate = 0 ∨
      (s.advance t).t96 < slotPoint (s.advance t) (s.group g).rate (s.group g).next (-2)) →
    Answers (.slotOpen t g) s fun u => Touches [] [] (s.advance t) u)

/-- SPECULATIVE_WAIT_EXPIRY and MAXIMUM_WAIT_EXPIRY of a slot that the grid holds take the decisions of its group; for a slot it does not hold
nothing changes. For a group of a device that takes its own decisions, outside a pack, with no frame of the present cycle waiting, that
holds one slot: the first, with the slot OPEN, speculative, not complete, its maximum wait not passed, and its speculative wait passed with
the floor met, releases it; the second, with the slot OPEN or RELEASED and its maximum wait passed, commits it. RECALL of a group executes
the recalls requested up to that one, in the order of their cycle and then of the group number; where it is the only one, to the group's
only slot, with its undo log kept, it ends the request, takes it into the budget of the last second, and counts in 0x2320:04; for a group
without a request nothing changes. -/
def Obligations.SlotsAreReleasedCommittedAndRecalled : Prop :=
  (∀ (t g i : Nat) (s : State),
    ((s.group g).slot? i).isSome = true →
    Answers (.speculativeWaitExpiry t g i) s (fun u => u = settle (takeDecisions g (s.advance t)))) ∧
  (∀ (t g i : Nat) (s : State),
    ((s.group g).slot? i).isSome = true →
    Answers (.maximumWaitExpiry t g i) s (fun u => u = settle (takeDecisions g (s.advance t)))) ∧
  (∀ (t g i : Nat) (s : State),
    (s.group g).slot? i = none → Answers (.speculativeWaitExpiry t g i) s fun u => Touches [] [] (s.advance t) u) ∧
  (∀ (t g i : Nat) (s : State),
    (s.group g).slot? i = none → Answers (.maximumWaitExpiry t g i) s fun u => Touches [] [] (s.advance t) u) ∧
  (∀ (t g i : Nat) (sl : Slot) (s : State),
    g < 64 → s.running = true → follows s = false → packed s = false → packWaits s g = false → framesToCome (s.advance t) = false →
    (s.group g).recallTarget = none → (s.group g).newest = none → (s.group g).slots = [(i, sl)] → sl.state = 1 → sl.speculative = true →
    sl.complete = false → sl.quorumMet = false → sl.waitOver (s.advance t).t96 = false → sl.waitReleases s.fnom (s.advance t).t96 = true →
    Answers (.speculativeWaitExpiry t g i) s fun u =>
      (u.group g).newestReleased = some i ∧ ((u.group g).slot? i).map (·.state) = some 2 ∧
      u.ro 0x2320 0x01 g = (s.ro 0x2320 0x01 g + 1) % 2 ^ 64) ∧
  (∀ (t g i : Nat) (sl : Slot) (s : State),
    g < 64 → s.running = true → follows s = false → packed s = false → packWaits s g = false → framesToCome (s.advance t) = false →
    (s.group g).recallTarget = none → (s.group g).newest = none → (s.group g).slots = [(i, sl)] → sl.rate = (s.group g).rate →
    (sl.state = 1 ∨ sl.state = 2) → sl.waitOver (s.advance t).t96 = true →
    Answers (.maximumWaitExpiry t g i) s fun u =>
      (u.group g).newestCommitted = some i ∧ ((u.group g).slot? i).map (·.state) = some 4) ∧
  (∀ (t g r : Nat) (s : State),
    (s.group g).recallTarget = some r →
    Answers (.recallDue t g) s fun u =>
      u = settle (((recallOrder s).filter fun e => recallBefore e ((s.group g).recallAt, g)).foldl (fun s e => recallNow e.2 s) (s.advance t))) ∧
  (∀ (t g : Nat) (s : State),
    (s.group g).recallTarget = none → Answers (.recallDue t g) s fun u => Touches [] [] (s.advance t) u) ∧
  (∀ (t g r : Nat) (sl : Slot) (s : State),
    g < 64 → s.running = true → follows s = false → packed s = false → packWaits s g = false → (s.group g).recallTarget = some r →
    recallOrder s = [((s.group g).recallAt, g)] →
    (s.group g).newest = none → (s.group g).slots = [(r, sl)] → sl.state = 3 → sl.undo.isSome = true → sl.complete = false →
    sl.waitOver (s.advance t).t96 = false →
    Answers (.recallDue t g) s fun u =>
      (u.group g).recallTarget = none ∧ (s.advance t).t96 ∈ (u.group g).recalls ∧ ((u.group g).slot? r).map (·.state) = some 2 ∧
      u.ro 0x2320 0x04 g = (s.ro 0x2320 0x04 g + 1) % 2 ^ 32)

/-- For a group of a device that takes its own decisions, all of whose slots are committed: SUSPENSION_EXPIRY at the end of a suspension ends
it, and speculation resumes from that instant; 0x2330:02 Resume speculation, accepted during a suspension, is answered OK and ends it now;
CHECKPOINT_ERROR in RUN or TRIM drops the undo logs, counts in 0x2320:0D and, where speculation is enabled, suspends it for 10 s with cause
1, where it is not, suspends nothing. Before its end a suspension stays, without one the command is a state conflict (0x06), and outside RUN
and TRIM a checkpoint error changes nothing, whatever the slots. 0x2330:01 Clear alignment counters, accepted, is answered OK and clears the
counters of 0x2320, 0x2311:04 and :05, and 0x2321:01. -/
def Obligations.SpeculationIsSuspendedAndResumed : Prop :=
  (∀ (t g c b e : Nat) (s : State),
    g < 64 → follows s = false → (∀ x ∈ (s.group g).slots, x.2.state = 4) → (s.group g).suspended = some (c, b, e) → e ≤ (s.advance t).t96 →
    Answers (.suspensionExpiry t g) s fun u => (u.group g).suspended = none ∧ (u.group g).resumeAt = e ∧ (u.group g).recalls = []) ∧
  (∀ (t g c b e : Nat) (s : State),
    (s.group g).suspended = some (c, b, e) → (s.advance t).t96 < e →
    Answers (.suspensionExpiry t g) s fun u => Touches [] [] (s.advance t) u) ∧
  (∀ (t g : Nat) (who : Who) (s : State),
    g < 64 → Accepted 0x2330 0x02 g (.num 0) who (s.advance t) → follows s = false → (∀ x ∈ (s.group g).slots, x.2.state = 4) →
    (s.group g).suspended.isSome = true →
    Answers (.resumeSpeculation t who g) s fun u =>
      Answered who 0 u ∧ (u.group g).suspended = none ∧ (u.group g).resumeAt = (s.advance t).t96) ∧
  (∀ (t g : Nat) (who : Who) (s : State),
    Accepted 0x2330 0x02 g (.num 0) who (s.advance t) → (s.group g).suspended = none →
    Answers (.resumeSpeculation t who g) s fun u =>
      Answered who 0x06 u ∧ Touches [.imian] [(0x1120, 1), (0x1120, 2)] (s.advance t) u) ∧
  (∀ (t g : Nat) (s : State),
    g < 64 → s.running = true → follows s = false → s.cfgB 0x2304 0x01 g = true → (∀ x ∈ (s.group g).slots, x.2.state = 4) →
    Answers (.checkpointError t g) s fun u =>
      (u.group g).suspended = some (1, (s.advance t).t96, (s.advance t).t96 + 10 * 2 ^ 48) ∧ (∀ x ∈ (u.group g).slots, x.2.undo = none) ∧
      u.ro 0x2320 0x0D g = (s.ro 0x2320 0x0D g + 1) % 2 ^ 32) ∧
  (∀ (t g : Nat) (s : State),
    g < 64 → s.running = true → follows s = false → s.cfgB 0x2304 0x01 g = false → (∀ x ∈ (s.group g).slots, x.2.state = 4) →
    Answers (.checkpointError t g) s fun u =>
      (u.group g).suspended = (s.group g).suspended ∧ (∀ x ∈ (u.group g).slots, x.2.undo = none) ∧
      u.ro 0x2320 0x0D g = (s.ro 0x2320 0x0D g + 1) % 2 ^ 32) ∧
  (∀ (t g : Nat) (s : State),
    s.running = false → Answers (.checkpointError t g) s fun u => Touches [] [] (s.advance t) u) ∧
  (∀ (t : Nat) (who : Who) (s : State),
    AcceptedPlain 0x2330 0x01 who (s.advance t) →
    Answers (.clearAlignmentCounters t who) s fun u => Clears (subsOf 0x2320 ++ [(0x2311, 4), (0x2311, 5), (0x2321, 1)]) who (s.advance t) u)

/-- For a stream with a migration: MIGRATION_CONTEXT_LOADED in its first phase begins the second, with b1 the first boundary of the stream's
group from now (the present T96 where no grid runs). MIGRATION_DOUBLE_RECEIVE at b1 begins the third. MIGRATION_CUTOVER in the third, with
the contexts equal, two periods after b1 with frames seen or eight without, places the stream on the target alone, and counts in 0x2420:01
and 0x2411:04; nothing else but placement differs where nothing waits or is drained. MIGRATION_ABANDON with its ground there (reason 0 the
larger of 2 s and 32 periods have passed, 1 the target is not ACTIVE, 2 the stream is no longer admitted, 3 a shadow difference in the third
phase, no self-check then failing) leaves the stream where it was and counts in 0x2420:02, a shadow difference in :03 also. In another
phase, or for a stream without a migration, each changes nothing. -/
def Obligations.MigrationsRunFromLoadToCutover : Prop :=
  (∀ (t h : Nat) (m : Migration) (s : State),
    lookup h s.place.migrations = some m → m.phase = 0 →
    Answers (.migrationContextLoaded t h) s fun u =>
      lookup h u.place.migrations = some { m with phase := 1, b1 := ((boundaryNow (s.advance t) h).map fun i =>
        slotPoint (s.advance t) (s.group (groupOf s h)).rate i (-2)).getD (s.advance t).t96 } ∧
      u.place.placed = s.place.placed ∧ Touches [.place] [] (s.advance t) u) ∧
  (∀ (t h : Nat) (s : State),
    (lookup h s.place.migrations).any (fun m => m.phase = 0) = false →
    Answers (.migrationContextLoaded t h) s fun u => Touches [] [] (s.advance t) u) ∧
  (∀ (t h : Nat) (m : Migration) (s : State),
    lookup h s.place.migrations = some m → m.phase = 1 → m.b1 ≤ (s.advance t).t96 →
    Answers (.migrationDoubleReceive t h) s fun u =>
      lookup h u.place.migrations = some { m with phase := 2 } ∧ u.place.placed = s.place.placed ∧ Touches [.place] [] (s.advance t) u) ∧
  (∀ (t h : Nat) (s : State),
    (lookup h s.place.migrations).any (fun m => m.phase = 1 ∧ m.b1 ≤ (s.advance t).t96) = false →
    Answers (.migrationDoubleReceive t h) s fun u => Touches [] [] (s.advance t) u) ∧
  (∀ (t h : Nat) (m : Migration) (s : State),
    h < 20480 → lookup h s.place.migrations = some m → m.phase = 2 → m.equal = true →
    m.b1 + periodsT96 s h (if m.seen then 2 else 8) ≤ (s.advance t).t96 →
    Answers (.migrationCutover t h) s fun u =>
      lookup h u.place.placed = some m.target ∧ lookup h u.place.migrations = none ∧
      u.ro 0x2420 0x01 = (s.ro 0x2420 0x01 + 1) % 2 ^ 32 ∧ u.ro 0x2411 0x04 h = (s.ro 0x2411 0x04 h + 1) % 2 ^ 32) ∧
  (∀ (t h : Nat) (m : Migration) (s : State),
    lookup h s.place.migrations = some m → m.phase = 2 → m.equal = true →
    m.b1 + periodsT96 s h (if m.seen then 2 else 8) ≤ (s.advance t).t96 → s.place.waiting = [] → s.place.draining = [] →
    Answers (.migrationCutover t h) s fun u =>
      Touches [.place] [(0x2420, 0x01), (0x2411, 0x04), (0x2411, 0x01), (0x2410, 0x03)] (s.advance t) u) ∧
  (∀ (t h : Nat) (s : State),
    (lookup h s.place.migrations).any (fun m => m.phase = 2 ∧ m.equal = true) = false →
    Answers (.migrationCutover t h) s fun u => Touches [] [] (s.advance t) u) ∧
  (∀ (t h reason : Nat) (failed : List Nat) (m : Migration) (s : State),
    lookup h s.place.migrations = some m →
    (reason = 0 ∧ m.startedAt + Nat.max (sec 2) (psOf (Q.mul (Q.ofNat 32) (periodQ (s.cfgInt 0x2301 0x01 (groupOf s h))))) ≤ max s.now t ∨
      reason = 1 ∧ sliceState s m.target ≠ 0 ∨ reason = 2 ∧ admitted s h = false ∨ reason = 3 ∧ m.phase = 2 ∧ failed = []) →
    Answers (.migrationAbandon t h reason failed) s fun u =>
      lookup h u.place.migrations = none ∧ u.place.placed = s.place.placed ∧
      u.ro 0x2420 0x02 = (s.ro 0x2420 0x02 + 1) % 2 ^ 32 ∧
      (reason = 3 → u.ro 0x2420 0x03 = (s.ro 0x2420 0x03 + 1) % 2 ^ 32) ∧
      Touches [.place] [(0x2420, 0x02), (0x2420, 0x03)] (s.advance t) u) ∧
  (∀ (t h reason : Nat) (failed : List Nat) (s : State),
    lookup h s.place.migrations = none → Answers (.migrationAbandon t h reason failed) s fun u => Touches [] [] (s.advance t) u)

/-- In RUN or TRIM, with no migration, wait, parked slice or frame kept for a takeover: SLICE_FAULT on an ACTIVE slice, with a spare left,
retires it, leaves the lowest spare in TAKING_OVER with all its streams, and posts event 0x2401 with slice, cause, spare and the number of
streams. Outside START, RUN and TRIM it retires nothing. TAKEOVER_COMPLETE makes the taker ACTIVE and posts event 0x2402 with the duration
in us, and the frames kept are then slotted in their order; where no takeover runs and no frame is kept nothing changes. SPARE_SELF_CHECK of
a spare that fails retires it (event 0x2401 with cause 3); one that passes changes nothing. -/
def Obligations.FailedSlicesAreReplaced : Prop :=
  (∀ (t k sp cause : Nat) (s : State),
    Room s → s.running = true → k < 68 → cause ≤ 3 → sliceState s k = 0 → (slicesIn s 1).head? = some sp → slicesIn s 2 = [] →
    s.place.migrations = [] → s.place.waiting = [] → s.place.unacknowledged = [] →
    Answers (.sliceFault t k cause) s fun u =>
      sliceState u k = 4 ∧ sliceState u sp = 3 ∧ lookup k u.place.takeovers = some (sp, max s.now t) ∧
      (∀ e ∈ s.place.placed, e.2 = k → lookup e.1 u.place.placed = some sp) ∧
      Posted 0x2401 (le 1 k ++ le 1 cause ++ le 1 sp ++ le 2 (s.place.placed.filter fun e => e.2 == k).length) s u ∧
      Touches [.place] [(0x2410, 0x01), (0x2410, 0x03), (0x2411, 0x01), (0x2420, 0x04), (0x2420, 0x05)] (s.advance t) u) ∧
  (∀ (t k cause : Nat) (s : State),
    s.dev ≠ stStart → s.running = false → Answers (.sliceFault t k cause) s fun u => u.place.slices = s.place.slices ∧ u.place.placed = s.place.placed) ∧
  (∀ (t k : Nat) (s : State),
    Answers (.takeoverComplete t k) s (fun u => u = settle (redispatch (takeoverDone k (s.advance t))))) ∧
  (∀ (t k new begun : Nat) (s : State),
    Room s → lookup k s.place.takeovers = some (new, begun) → new < 68 → sliceState s new = 3 → s.place.unacknowledged = [] →
    Answers (.takeoverComplete t k) s fun u =>
      sliceState u new = 0 ∧ lookup k u.place.takeovers = none ∧
      Posted 0x2402 (le 1 k ++ le 1 new ++ le 4 ((max s.now t - begun) / 1000000)) s u ∧
      Touches [.place] [(0x2410, 0x01), (0x2420, 0x05), (0x2420, 0x09)] (s.advance t) u) ∧
  (∀ (t k : Nat) (s : State),
    lookup k s.place.takeovers = none → s.place.unacknowledged = [] →
    Answers (.takeoverComplete t k) s fun u => Touches [] [] (s.advance t) u) ∧
  (∀ (t k : Nat) (s : State),
    Room s → s.running = true → k < 68 → sliceState s k = 1 →
    Answers (.spareSelfCheck t k false) s fun u =>
      sliceState u k = 4 ∧ Posted 0x2401 (le 1 k ++ le 1 3 ++ le 1 0xFF ++ le 2 0) s u ∧
      Touches [.place] [(0x2410, 0x01), (0x2420, 0x04), (0x2420, 0x05)] (s.advance t) u) ∧
  (∀ (t k : Nat) (s : State),
    Answers (.spareSelfCheck t k true) s fun u => Touches [] [] (s.advance t) u)

/-- UTILISATION_SAMPLE in RUN or TRIM, 100 ms or more after the last, shows each slice's counts since then per second in 0x2410:02 and :04 and
begins new counts; with automatic rebalancing off and nothing parked it touches nothing but placement, the cores' load and their objects;
sooner nothing changes. 0x2430:02 Rebalance now, accepted in RUN or TRIM, is answered OK and moves no stream at once; outside them it is a
state conflict (0x06). PARK_DELAY_EXPIRY with parking on, the mean below the threshold for the delay and no stream placed, parks every
ACTIVE slice but the lowest-numbered one, which stays (at least one slice stays ACTIVE: a choice of the model, in the assumption log under
placement); with parking off nothing changes. Unparking ends with no slice PARKED. 0x2430:03 Restore retired slices, accepted, is answered
OK and only remembered for the next START. -/
def Obligations.LoadsAreMeasuredAndSlicesParked : Prop :=
  (∀ (t : Nat) (s : State),
    s.running = true → s.place.sampledAt + ms 100 ≤ max s.now t →
    Answers (.utilisationSample t) s fun u =>
      (∀ k ∈ List.range 68,
        u.ro 0x2410 0x02 k = (tabGet (0, 0) s.place.counts k).1 * sec 1 / (max s.now t - s.place.sampledAt) ∧
        u.ro 0x2410 0x04 k = (tabGet (0, 0) s.place.counts k).2 * sec 1 / (max s.now t - s.place.sampledAt)) ∧
      u.place.counts = [] ∧ u.place.sampledAt = max s.now t ∧ u.place.placed = s.place.placed) ∧
  (∀ (t : Nat) (s : State),
    s.running = true → s.cfgB 0x2400 0x01 = false → slicesIn s 2 = [] → s.jobs.parked = [] →
    Answers (.utilisationSample t) s fun u =>
      Touches [.place, .jobs] [(0x2410, 0x02), (0x2410, 0x04), (0x2410, 0x06), (0x2C11, 0x03)] (s.advance t) u) ∧
  (∀ (t : Nat) (s : State),
    max s.now t < s.place.sampledAt + ms 100 → Answers (.utilisationSample t) s fun u => Touches [] [] (s.advance t) u) ∧
  (∀ (t : Nat) (who : Who) (s : State),
    AcceptedPlain 0x2430 0x02 who (s.advance t) → s.running = true →
    Answers (.rebalanceNow t who) s fun u =>
      Answered who 0 u ∧ u.place.placed = s.place.placed ∧ u.place.slices = s.place.slices ∧ u.groups = s.groups) ∧
  (∀ (t : Nat) (who : Who) (s : State),
    AcceptedPlain 0x2430 0x02 who (s.advance t) → s.running = false →
    Answers (.rebalanceNow t who) s fun u =>
      Answered who 0x06 u ∧ Touches [.imian] [(0x1120, 1), (0x1120, 2)] (s.advance t) u) ∧
  (∀ (t a k : Nat) (s : State),
    s.running = true → s.cfgB 0x2400 0x05 = true → s.place.lowSince = some a → a + sec (s.cfg 0x2400 0x07) ≤ max s.now t →
    s.place.coreLowSince = none → s.place.unparking = false → s.place.draining = [] → s.place.placed = [] → s.place.migrations = [] →
    s.place.waiting = [] → (slicesIn s 0).head? = some k →
    Answers (.parkDelayExpiry t) s fun u => slicesIn u 0 = [k]) ∧
  (∀ (t : Nat) (s : State),
    s.cfgB 0x2400 0x05 = false → Answers (.parkDelayExpiry t) s fun u => Touches [] [] (s.advance t) u) ∧
  (∀ (t : Nat) (s : State),
    s.place.unparking = true →
    Answers (.unparkingEnd t) s fun u =>
      u.place.unparking = false ∧ slicesIn u 2 = [] ∧ (∀ k ∈ slicesIn s 2, sliceState u k = 0)) ∧
  (∀ (t : Nat) (s : State),
    s.place.unparking = false → Answers (.unparkingEnd t) s fun u => Touches [] [] (s.advance t) u) ∧
  (∀ (t : Nat) (who : Who) (s : State),
    AcceptedPlain 0x2430 0x03 who (s.advance t) →
    Answers (.restoreRetiredSlices t who) s fun u =>
      Answered who 0 u ∧ u.place.restoreRetired = true ∧ u.place.slices = s.place.slices ∧
      Touches [.place, .imian] [(0x1120, 1), (0x1120, 2)] (s.advance t) u)

/-- Outside a pack: MODE_REFRESH in RUN or TRIM in the states 1 to 3 of the mode meter, when the slots of the next refresh k are committed,
takes refresh k, shows its number in 0x2513:03, and counts it; in state 1 (WARMING) it shows its instant k / 4 s and no mode; when they are
not committed, or in state 0, nothing changes. LOCATION_RESULT in RUN or TRIM with Eddy and location on: with no band centre it shows state
3; with a band centre and too few points of a branch row, or no branch row, state 1; with enough points of every one, state 2, the last
second as its instant, and each branch row's slope; with either off, state 0. INTERHARMONIC_WINDOW_END of one window of one phase, valid, of
a set not fed by sampled values, with Shepherd off, shows band RMS, peak frequency, peak RMS and the instant of every detector of the set
that was enabled at the window's begin, and state 3 of one that was not. VECTOR_SHIFT_HOLD_EXPIRY of a row of 0x2620 whose element has
operated and whose hold has passed resets the element with event 0x260A; before the hold has passed the row stays as it is. 0x2550:02 Reset
mode meter, accepted, is answered OK: nothing is kept but the next mode ID, and the state is 1 where Eddy and the meter are enabled. -/
def Obligations.EnginesReportAndReset : Prop :=
  (∀ (t k : Nat) (s : State),
    s.running = true → 1 ≤ s.ro 0x2513 0x01 → s.ro 0x2513 0x01 ≤ 3 → packed s = false → placesHere s = true →
    k = (if s.eddy.mode.last = 0 then refreshReady (s.advance t) else s.eddy.mode.last + 1) → k ≠ 0 → k ≤ refreshReady (s.advance t) →
    Answers (.modeRefresh t) s fun u =>
      u.eddy.mode.last = k ∧ u.ro 0x2513 0x03 = k % 2 ^ 32 ∧ u.ro 0x2540 0x05 = (s.ro 0x2540 0x05 + 1) % 2 ^ 32 ∧
      (s.ro 0x2513 0x01 = 1 → u.ro 0x2513 0x02 = k * 2 ^ 46 ∧ u.ro 0x2513 0x04 = 0 ∧ u.eddy.mode.modes = [])) ∧
  (∀ (t : Nat) (s : State),
    packed s = false → s.eddy.mode.last ≠ 0 → refreshReady (s.advance t) ≤ s.eddy.mode.last →
    Answers (.modeRefresh t) s fun u => Touches [] [] (s.advance t) u) ∧
  (∀ (t : Nat) (s : State),
    packed s = false → s.ro 0x2513 0x01 = 0 → Answers (.modeRefresh t) s fun u => Touches [] [] (s.advance t) u) ∧
  (∀ (t : Nat) (s : State),
    s.running = true → packed s = false → placesHere s = true → s.cfgB 0x2500 0x01 = true → s.cfgB 0x2518 0x01 = true → bandCentre s = 0 →
    Answers (.locationResult t) s fun u => u.ro 0x251A 0x03 = 3 ∧ Touches [] [(0x251A, 0x03)] (s.advance t) u) ∧
  (∀ (t hi : Nat) (s : State),
    s.running = true → packed s = false → placesHere s = true → s.cfgB 0x2500 0x01 = true → s.cfgB 0x2518 0x01 = true → bandCentre s ≠ 0 →
    branchRows s ≠ [] →
    hi = (s.advance t).t96Sec * 2 ^ 48 - (14100 + s.cfg 0x2301 0x02 (s.cfg 0x2510 0x02)) * 2 ^ 48 / 1000 →
    (∀ r ∈ branchRows s, 10 * s.cfg 0x2518 0x05 ≤
      ((s.branch r).series.filter fun p => hi - s.cfg 0x2518 0x05 * 2 ^ 48 ≤ p.1 && p.1 < hi).length) →
    Answers (.locationResult t) s fun u =>
      u.ro 0x251A 0x01 = (s.advance t).t96Sec * 2 ^ 48 ∧
      u.ro 0x251A 0x03 = 2 ∧ u.ro 0x2540 0x08 = (s.ro 0x2540 0x08 + 1) % 2 ^ 32 ∧
      (∀ r ∈ branchRows s, r < 2 ^ 24 → u.ro 0x251A 0x06 r =
        toF32 (slope ((s.branch r).series.filter fun p => hi - s.cfg 0x2518 0x05 * 2 ^ 48 ≤ p.1 && p.1 < hi)))) ∧
  (∀ (t hi : Nat) (s : State),
    s.running = true → packed s = false → placesHere s = true → s.cfgB 0x2500 0x01 = true → s.cfgB 0x2518 0x01 = true → bandCentre s ≠ 0 →
    hi = (s.advance t).t96Sec * 2 ^ 48 - (14100 + s.cfg 0x2301 0x02 (s.cfg 0x2510 0x02)) * 2 ^ 48 / 1000 →
    (branchRows s = [] ∨ ∃ r ∈ branchRows s,
      ((s.branch r).series.filter fun p => hi - s.cfg 0x2518 0x05 * 2 ^ 48 ≤ p.1 && p.1 < hi).length < 10 * s.cfg 0x2518 0x05) →
    Answers (.locationResult t) s fun u => u.ro 0x251A 0x03 = 1 ∧ Touches [] [(0x251A, 0x03)] (s.advance t) u) ∧
  (∀ (t : Nat) (s : State),
    packed s = false → placesHere s = true → (s.cfgB 0x2500 0x01 = false ∨ s.cfgB 0x2518 0x01 = false) →
    Answers (.locationResult t) s fun u => u.ro 0x251A 0x03 = 0 ∧ Touches [] [(0x251A, 0x03)] (s.advance t) u) ∧
  (∀ (t e : Nat) (w : WaveWindow) (p : List Nat) (s : State),
    s.running = true → s.cfgB 0x2500 0x01 = true → s.ro 0x2F45 0x01 = 0 → w.set < 8 → w.invalid = false →
    s.cfg 0x2901 0x02 (w.set % 4) ≠ 1 → w.phases = [p] → e = (s.advance t).t96 * 10 / 2 ^ 48 * 2 ^ 48 / 10 →
    Answers (.interharmonicWindowEnd t [w]) s fun u =>
      ∀ b ∈ List.range 2,
        if inSet (pubSet (s.advance t) (e - 2 ^ 48 / 5)) 0x2530 0x01 (2 * w.set + b) = 0 then u.ro 0x2531 0x01 (2 * w.set + b) = 3
        else
          u.ro 0x2531 0x02 (2 * w.set + b) = toF32 (bandMeasures s.fnom b (p.map f32)).1 ∧
          u.ro 0x2531 0x03 (2 * w.set + b) = toF32 (bandMeasures s.fnom b (p.map f32)).2.1 ∧
          u.ro 0x2531 0x04 (2 * w.set + b) = toF32 (bandMeasures s.fnom b (p.map f32)).2.2 ∧
          u.ro 0x2531 0x05 (2 * w.set + b) = e) ∧
  (∀ (t m : Nat) (s : State),
    Room s → m < 4 → bit (s.lom m).operated 1 = true → (s.lom m).holdUntil ≤ max s.now t →
    Answers (.vectorShiftHoldExpiry t m) s fun u =>
      bit (u.lom m).operated 1 = false ∧ u.ro 0x2621 0x01 m = (u.lom m).operated ∧ Posted 0x260A (le 1 m ++ le 1 1) s u) ∧
  (∀ (t m : Nat) (s : State),
    max s.now t < (s.lom m).holdUntil → Answers (.vectorShiftHoldExpiry t m) s fun u => u.lom m = s.lom m) ∧
  (∀ (t : Nat) (who : Who) (s : State),
    AcceptedPlain 0x2550 0x02 who (s.advance t) →
    Answers (.resetModeMeter t who) s fun u =>
      Answered who 0 u ∧ u.eddy.mode = { ModeSt.reset with nextId := s.eddy.mode.nextId } ∧
      u.ro 0x2513 0x01 = b2n (s.cfgB 0x2500 0x01 && s.cfgB 0x2510 0x01) ∧
      Touches [.eddy, .imian] [(0x2513, 0x01), (0x1120, 1), (0x1120, 2)] (s.advance t) u)

/-- In RUN or TRIM, for an enabled local rule, LOCAL_RULE_UPDATE does the following. While the condition does not hold, the track is clear and
the alarm NONE, no persistence is running, the alarm stays NONE, and the rule counts as evaluated. When the condition holds from a fresh
track with a raise time of 0, the track is raised, the alarm is COMMITTED in the next instance, raised at the T96 of the update and
unacknowledged, and 0x2720:02 counts. When the condition holds for the first time with a raise time above 0, only the begin of its
persistence is kept and the alarm stays NONE. When the condition no longer holds for a raised track, with a clear time of 0, a COMMITTED
alarm that is not latched is cleared, back in NONE, counted in 0x2720:03; a latched one that is not acknowledged stays COMMITTED with flag
[3]. An update of a rule that is not enabled, not local, or in another device state changes nothing. 0x2730:01 Acknowledge, accepted, of a
rule whose alarm is COMMITTED is answered OK, marks the alarm acknowledged with flag [2] set and flag [3] clear, and posts event 0x270A; of
any other alarm it is answered 0x06 and changes no alarm. -/
def Obligations.LocalRulesAreDecided : Prop :=
  (∀ (t r : Nat) (s : State),
    s.running = true → s.cfgB 0x2701 0x01 r = true → s.cfg 0x2701 0x03 r = 0xFF → (s.alarmOf r).state = 0 →
    (tabGet Track.reset s.alarm.committed r).raised = false → (evaluate r none (s.advance t)).1.cond = false →
    Answers (.localRuleUpdate t r) s fun u =>
      tabGet Track.reset u.alarm.committed r = { tabGet Track.reset s.alarm.committed r with runSince := none } ∧
      (u.alarmOf r).state = 0 ∧ r ∈ u.alarm.evaluated) ∧
  (∀ (t r : Nat) (s : State),
    s.running = true → s.cfgB 0x2701 0x01 r = true → s.cfg 0x2701 0x03 r = 0xFF → (s.alarmOf r).state = 0 →
    tabGet Track.reset s.alarm.committed r = Track.reset → s.cfg 0x2701 0x05 r = 0 → (evaluate r none (s.advance t)).1.cond = true →
    Answers (.localRuleUpdate t r) s fun u =>
      tabGet Track.reset u.alarm.committed r = ⟨true, 0, none⟩ ∧ (u.alarmOf r).state = 2 ∧ (u.alarmOf r).acknowledged = false ∧
      (u.alarmOf r).instance_ = ((s.alarmOf r).instance_ + 1) % 2 ^ 32 ∧ (u.alarmOf r).raiseT96 = (s.advance t).t96 ∧
      u.ro 0x2720 0x02 = (s.ro 0x2720 0x02 + 1) % 2 ^ 32) ∧
  (∀ (t r : Nat) (s : State),
    s.running = true → s.cfgB 0x2701 0x01 r = true → s.cfg 0x2701 0x03 r = 0xFF → (s.alarmOf r).state = 0 →
    tabGet Track.reset s.alarm.committed r = Track.reset → 0 < s.cfg 0x2701 0x05 r → (evaluate r none (s.advance t)).1.cond = true →
    Answers (.localRuleUpdate t r) s fun u =>
      tabGet Track.reset u.alarm.committed r = { Track.reset with runSince := some (s.advance t).t96 } ∧ (u.alarmOf r).state = 0 ∧
      r ∈ u.alarm.evaluated) ∧
  (∀ (t r : Nat) (s : State),
    s.running = true → s.cfgB 0x2701 0x01 r = true → s.cfg 0x2701 0x03 r = 0xFF → (s.alarmOf r).state = 2 →
    (tabGet Track.reset s.alarm.committed r).raised = true → s.cfg 0x2701 0x06 r = 0 → (evaluate r none (s.advance t)).1.cond = false →
    Answers (.localRuleUpdate t r) s fun u =>
      tabGet Track.reset u.alarm.committed r = ⟨false, 0, none⟩ ∧ (u.alarmOf r).instance_ = (s.alarmOf r).instance_ ∧
      (if s.cfgB 0x2701 0x0C r = true ∧ (s.alarmOf r).acknowledged = false then
        (u.alarmOf r).state = 2 ∧ bit (u.alarmOf r).flags 3 = true
      else (u.alarmOf r).state = 0 ∧ u.ro 0x2720 0x03 = (s.ro 0x2720 0x03 + 1) % 2 ^ 32)) ∧
  (∀ (t r : Nat) (s : State),
    (s.running = false ∨ s.cfgB 0x2701 0x01 r = false ∨ s.cfg 0x2701 0x03 r ≠ 0xFF) →
    Answers (.localRuleUpdate t r) s fun u => Touches [] [] (s.advance t) u) ∧
  (∀ (t r : Nat) (who : Who) (s : State),
    Room s → Accepted 0x2730 0x01 r (.num 0) who (s.advance t) → (s.alarmOf r).state = 2 →
    Answers (.acknowledge t who r) s fun u =>
      Answered who 0 u ∧
      u.alarmOf r = { s.alarmOf r with acknowledged := true, flags := setBit (setBit (s.alarmOf r).flags 2 true) 3 false } ∧
      Posted 0x270A (le 2 r ++ le 4 (s.alarmOf r).instance_) s u ∧
      Touches [.alarm, .imian] [(0x1120, 1), (0x1120, 2)] (s.advance t) u) ∧
  (∀ (t r : Nat) (who : Who) (s : State),
    Accepted 0x2730 0x01 r (.num 0) who (s.advance t) → (s.alarmOf r).state ≠ 2 →
    Answers (.acknowledge t who r) s fun u =>
      Answered who 6 u ∧ Touches [.imian] [(0x1120, 1), (0x1120, 2)] (s.advance t) u)

/-- RULE_ENGINE_HEARTBEAT in RUN or TRIM keeps its instant, ends a loss of heartbeats and brings every pin owned by rules up to date; in another
state it changes nothing. HEARTBEAT_LOSS in RUN or TRIM, 1 ms after the last heartbeat, de-energises every pin owned by rules, with cause 4,
counts in 0x2720:0D, and posts event 0x2707 with the pins that were energised; before that, or when the loss is already known, it changes
nothing. MINIMUM_ALARM_TIME_EXPIRY of a pin owned by rules brings its cause and level up to date, energised exactly where there is no cause;
of another pin it changes nothing. 0x2730:03 Pin test, accepted in RUN or TRIM for a pin owned by rules while heartbeats come, is answered
OK and de-energises the pin for 1 s with cause 6 and event 0x2708; accepted in another state or for a pin of Shepherd it is answered 0x06.
The end of the test, once 1 s has passed, takes that cause away; before, or with no test, nothing changes. -/
def Obligations.RuleOwnedPinsFailSafe : Prop :=
  (∀ (t : Nat) (s : State),
    s.running = true →
    Answers (.ruleEngineHeartbeat t) s fun u =>
      u.alarm.lastBeat = max s.now t ∧ u.alarm.beatLost = false ∧
      (∀ p ∈ List.range 8, s.cfg 0x2700 0x01 p = 0 → u.ro 0x2711 0x02 p ≠ 4 ∧ (u.ro 0x2711 0x01 p = 1 ↔ u.ro 0x2711 0x02 p = 0)) ∧
      Touches [.alarm] [(0x2711, 1), (0x2711, 2)] (s.advance t) u) ∧
  (∀ (t : Nat) (s : State),
    s.running = false → Answers (.ruleEngineHeartbeat t) s fun u => Touches [] [] (s.advance t) u) ∧
  (∀ (t : Nat) (s : State),
    Room s → s.running = true → s.alarm.beatLost = false → s.alarm.lastBeat + ms 1 ≤ max s.now t →
    Answers (.heartbeatLoss t) s fun u =>
      (∀ p ∈ List.range 8, s.cfg 0x2700 0x01 p = 0 → u.ro 0x2711 0x01 p = 0 ∧ u.ro 0x2711 0x02 p = 4) ∧
      u.alarm.beatLost = true ∧ u.ro 0x2720 0x0D = (s.ro 0x2720 0x0D + 1) % 2 ^ 32 ∧
      Posted 0x2707 (le 1 ((List.range 8).foldl (fun (n p : Nat) =>
        if s.cfg 0x2700 0x01 p = 0 ∧ s.ro 0x2711 0x01 p = 1 then n + 2 ^ p else n) 0)) s u ∧
      Touches [.alarm] [(0x2711, 1), (0x2711, 2), (0x2720, 0x0D)] (s.advance t) u) ∧
  (∀ (t : Nat) (s : State),
    (s.running = false ∨ s.alarm.beatLost = true ∨ max s.now t < s.alarm.lastBeat + ms 1) →
    Answers (.heartbeatLoss t) s fun u => Touches [] [] (s.advance t) u) ∧
  (∀ (t p : Nat) (s : State),
    p < 8 → s.cfg 0x2700 0x01 p = 0 →
    Answers (.minimumAlarmTimeExpiry t p) s fun u =>
      u.ro 0x2711 0x02 p = pinCause (s.advance t) p ∧ (u.ro 0x2711 0x01 p = 1 ↔ u.ro 0x2711 0x02 p = 0) ∧
      Touches [.alarm] [(0x2711, 1), (0x2711, 2)] (s.advance t) u) ∧
  (∀ (t p : Nat) (s : State),
    (8 ≤ p ∨ s.cfg 0x2700 0x01 p ≠ 0) → Answers (.minimumAlarmTimeExpiry t p) s fun u => Touches [] [] (s.advance t) u) ∧
  (∀ (t p : Nat) (who : Who) (s : State),
    Room s → Accepted 0x2730 0x03 p (.num 0) who (s.advance t) → s.running = true → p < 8 → s.cfg 0x2700 0x01 p = 0 → s.alarm.beatLost = false →
    Answers (.pinTest t who p) s fun u =>
      Answered who 0 u ∧ u.ro 0x2711 0x01 p = 0 ∧ u.ro 0x2711 0x02 p = 6 ∧ (u.pin p).testUntil = some (max s.now t + sec 1) ∧
      Posted 0x2708 (le 1 p) s u ∧ Touches [.alarm, .imian] [(0x2711, 1), (0x2711, 2), (0x1120, 1), (0x1120, 2)] (s.advance t) u) ∧
  (∀ (t p : Nat) (who : Who) (s : State),
    Accepted 0x2730 0x03 p (.num 0) who (s.advance t) → (s.running = false ∨ s.cfg 0x2700 0x01 p ≠ 0) →
    Answers (.pinTest t who p) s fun u => Answered who 6 u ∧ Touches [.imian] [(0x1120, 1), (0x1120, 2)] (s.advance t) u) ∧
  (∀ (t p e : Nat) (s : State),
    p < 8 → s.cfg 0x2700 0x01 p = 0 → (s.pin p).testUntil = some e → e ≤ max s.now t →
    Answers (.pinTestEnd t p) s fun u =>
      (u.pin p).testUntil = none ∧ u.ro 0x2711 0x02 p ≠ 6 ∧ (u.ro 0x2711 0x01 p = 1 ↔ u.ro 0x2711 0x02 p = 0) ∧
      Touches [.alarm] [(0x2711, 1), (0x2711, 2)] (s.advance t) u) ∧
  (∀ (t p : Nat) (s : State),
    ((s.pin p).testUntil = none ∨ max s.now t < (s.pin p).testUntil.getD 0) →
    Answers (.pinTestEnd t p) s fun u => Touches [] [] (s.advance t) u)

/-- With one transmission unit p for alarm frames (a port, or 8 + k for pair k under PRP modes 1 and 2), in RUN or TRIM, ALARM_FRAME_REPEAT of a
due repeat of the rule hands one frame to p with the next sequence number and leaves one repeat fewer, due one repeat interval later, none
after the last; it counts in 0x2720:05, except in a Wheel, which holds the frame. When none is due, or in another state, nothing changes.
ALARM_HEARTBEAT when due, in RUN, TRIM or SENTINEL, hands one frame to every unit (in SENTINEL: pair M) and fixes the next instant; a Wheel
sends none; not due, or in another state, nothing changes. TOKEN_REFILL fills the bucket of the port's unit and, in RUN or TRIM, lets as
many pending entries leave as there are tokens, in increasing rule number, one token and one frame each. ALARM_STORM_END after 1 s without a
pending entry ends the storm with event 0x2705; otherwise nothing changes. GOOSE_RETRANSMIT of a due dataset in RUN, TRIM or SENTINEL, or of
Shepherd while the G-die runs, sends it again with the next sqNum, at twice the interval up to the maximum, counted in 0x2720:08 except in a
Wheel, which holds it; before its instant, or without a dataset, nothing changes. -/
def Obligations.AlarmFramesAreRepeatedAndLimited : Prop :=
  (∀ (t r p : Nat) (x : Report) (s : State),
    s.running = true → lookup (4096 * p + r) s.alarm.repeats = some x → x.dueAt ≤ max s.now t → alarmUnits s = [p] →
    Answers (.alarmFrameRepeat t r) s fun u =>
      lookup (4096 * p + r) u.alarm.repeats = (if x.repeatsLeft ≤ 1 then none
        else some { x with repeatsLeft := x.repeatsLeft - 1, index := x.index + 1, dueAt := x.dueAt + us (s.cfg 0x2700 0x07) }) ∧
      u.alarm.frameSeq = (s.alarm.frameSeq + 1) % 2 ^ 32 ∧ u.alarm.superseded = 0 ∧
      u.ro 0x2720 0x05 = (if roleNow s = 2 then s.ro 0x2720 0x05 else (s.ro 0x2720 0x05 + 1) % 2 ^ 64)) ∧
  (∀ (t r : Nat) (s : State),
    (s.running = false ∨ (alarmUnits s).all (fun p => match lookup (4096 * p + r) s.alarm.repeats with
      | some x => decide (max s.now t < x.dueAt)
      | none => true) = true) →
    Answers (.alarmFrameRepeat t r) s fun u => Touches [] [] (s.advance t) u) ∧
  (∀ (t : Nat) (units : List Nat) (s : State),
    (s.running = true ∨ s.dev = stSentinel) → roleNow s ≠ 2 → roleByte s ≠ 2 → s.alarm.heartbeatAt ≤ max s.now t →
    units = (if s.running then alarmUnits s else if prpMode s 2 = 0 then [4, 5] else [10]) → units ≠ [] →
    Answers (.alarmHeartbeat t) s fun u =>
      u.alarm.heartbeatAt = max s.now t + ms (s.cfg 0x2700 0x08) ∧
      u.alarm.frameSeq = (s.alarm.frameSeq + units.length) % 2 ^ 32 ∧ u.ro 0x2720 0x05 = (s.ro 0x2720 0x05 + units.length) % 2 ^ 64) ∧
  (∀ (t : Nat) (s : State),
    (s.running = true ∨ s.dev = stSentinel) → roleByte s = 2 → s.alarm.heartbeatAt ≤ max s.now t →
    Answers (.alarmHeartbeat t) s fun u =>
      u.alarm = { s.alarm with heartbeatAt := max s.now t + ms (s.cfg 0x2700 0x08) } ∧ Touches [.alarm] [] (s.advance t) u) ∧
  (∀ (t : Nat) (s : State),
    ((s.running = false ∧ s.dev ≠ stSentinel) ∨ max s.now t < s.alarm.heartbeatAt) →
    Answers (.alarmHeartbeat t) s fun u => Touches [] [] (s.advance t) u) ∧
  (∀ (t p q : Nat) (b : Bucket) (s : State),
    s.running = true → roleNow s ≠ 2 → q = unitOf s p → b = fillBucket (s.advance t) ((s.advance t).bucket q) →
    b.pending ≠ [] → 0 < b.tokens → b.pending.Pairwise (fun x y => x.1 < y.1) →
    Answers (.tokenRefill t p) s fun u =>
      (u.bucket q).pending = b.pending.drop b.tokens ∧ (u.bucket q).tokens = b.tokens - b.pending.length ∧
      u.alarm.frameSeq = (s.alarm.frameSeq + min b.tokens b.pending.length) % 2 ^ 32 ∧
      u.ro 0x2720 0x05 = (s.ro 0x2720 0x05 + min b.tokens b.pending.length) % 2 ^ 64) ∧
  (∀ (t p q : Nat) (b : Bucket) (s : State),
    q = unitOf s p → b = fillBucket (s.advance t) ((s.advance t).bucket q) → (s.running = false ∨ b.pending = [] ∨ b.tokens = 0) →
    Answers (.tokenRefill t p) s fun u => u.bucket q = b ∧ Touches [.alarm] [] (s.advance t) u) ∧
  (∀ (t p : Nat) (s : State),
    Room s → (s.bucket (unitOf s p)).storm = true → (s.bucket (unitOf s p)).pending = [] →
    (s.bucket (unitOf s p)).emptySince + sec 1 ≤ max s.now t →
    Answers (.alarmStormEnd t p) s fun u =>
      (u.bucket (unitOf s p)).storm = false ∧ Posted 0x2705 (le 1 p ++ le 4 (s.bucket (unitOf s p)).superseded) s u ∧
      Touches [.alarm] [] (s.advance t) u) ∧
  (∀ (t p : Nat) (s : State),
    ((s.bucket (unitOf s p)).storm = false ∨ (s.bucket (unitOf s p)).pending ≠ [] ∨ max s.now t < (s.bucket (unitOf s p)).emptySince + sec 1) →
    Answers (.alarmStormEnd t p) s fun u => Touches [] [] (s.advance t) u) ∧
  (∀ (t d : Nat) (s : State),
    d < 16 → (s.running = true ∨ s.dev = stSentinel ∨ (s.cfg 0x2703 0x01 d = 1 ∧ s.gdieOn = true)) →
    (s.gooseOf d).members ≠ [] → (s.gooseOf d).dueAt ≤ max s.now t →
    Answers (.gooseRetransmit t d) s fun u =>
      u.gooseOf d = { s.gooseOf d with
        sqNum := wrapOne (s.gooseOf d).sqNum, interval := min (2 * (s.gooseOf d).interval) (s.cfg 0x2703 0x09 d),
        dueAt := max s.now t + ms (min (2 * (s.gooseOf d).interval) (s.cfg 0x2703 0x09 d)) } ∧
      u.ro 0x2712 0x01 d = (s.gooseOf d).stNum ∧ u.ro 0x2712 0x02 d = wrapOne (s.gooseOf d).sqNum ∧
      u.ro 0x2720 0x08 = (if roleNow s = 2 then s.ro 0x2720 0x08 else (s.ro 0x2720 0x08 + 1) % 2 ^ 64)) ∧
  (∀ (t d : Nat) (s : State),
    ((s.gooseOf d).members = [] ∨ max s.now t < (s.gooseOf d).dueAt) →
    Answers (.gooseRetransmit t d) s fun u => Touches [] [] (s.advance t) u)

/-- 0x2830:01 Freeze ring, accepted while the ring is FILLING, is answered OK: the present T96 is the freeze instant and 0xFFFF the rule,
counted in 0x2840:0A, and the ring is FREEZING, or FROZEN at once where no grid runs; while it is FREEZING, FROZEN or EXPORTING the command
is answered OK, counted in 0x2840:0B, with event 0x2806, and the ring goes on as it was; with no ring it is answered 0x06. 0x2830:03 Export
ring, accepted in RUN or TRIM with the link up, no export and the ring FROZEN, is answered OK: the ring is EXPORTING and its records are the
export's; in every other case it is answered 0x06. RING_EXPORT_COMPLETE with every record written leaves the ring FROZEN, or released where
automatic release is on, ends the export, sets INT_STATUS[10], counts in 0x2840:0C, and posts event 0x2807; without a ring export whose
records are all written nothing changes. 0x2830:02 Release ring, accepted in another state than EXPORTING, is answered OK: the ring is
empty, FILLING where it is enabled in RUN or TRIM, with event 0x2809; in EXPORTING it is answered 0x06. ARCHIVE_DESCRIPTOR_POST in RUN or
TRIM of a batch that has its bytes or its period posts the batch's descriptor and sets INT_STATUS[9]; before that, or with no batch, nothing
changes. -/
def Obligations.RingFreezesExportsAndReleases : Prop :=
  (∀ (t : Nat) (who : Who) (s : State),
    AcceptedPlain 0x2830 0x01 who (s.advance t) → s.ro 0x2821 0x02 = 1 →
    Answers (.freezeRing t who) s fun u =>
      Answered who 0 u ∧ u.ro 0x2821 0x02 = (if runningGroups s = [] then 3 else 2) ∧ u.ro 0x2821 0x03 = (s.advance t).t96 ∧
      u.ro 0x2821 0x04 = 0xFFFF ∧ u.pub.freezeSeq = s.pub.freezeSeq + 1 ∧ u.pub.ring = s.pub.ring ∧
      u.ro 0x2840 0x0A = (s.ro 0x2840 0x0A + 1) % 2 ^ 32 ∧
      Touches [.pub, .imian] [(0x2821, 2), (0x2821, 3), (0x2821, 4), (0x2822, 2), (0x2840, 0x0A), (0x1120, 1), (0x1120, 2)] (s.advance t) u) ∧
  (∀ (t : Nat) (who : Who) (s : State),
    Room s → AcceptedPlain 0x2830 0x01 who (s.advance t) → 2 ≤ s.ro 0x2821 0x02 →
    Answers (.freezeRing t who) s fun u =>
      Answered who 0 u ∧ u.ro 0x2840 0x0B = (s.ro 0x2840 0x0B + 1) % 2 ^ 32 ∧ Posted 0x2806 (le 12 (s.advance t).t96 ++ le 2 0xFFFF) s u ∧
      Touches [.imian] [(0x2840, 0x0B), (0x1120, 1), (0x1120, 2)] (s.advance t) u) ∧
  (∀ (t : Nat) (who : Who) (s : State),
    AcceptedPlain 0x2830 0x01 who (s.advance t) → s.ro 0x2821 0x02 = 0 →
    Answers (.freezeRing t who) s fun u => Answered who 6 u ∧ Touches [.imian] [(0x1120, 1), (0x1120, 2)] (s.advance t) u) ∧
  (∀ (t : Nat) (who : Who) (s : State),
    AcceptedPlain 0x2830 0x03 who (s.advance t) → s.ro 0x2821 0x02 = 3 → s.host.exporting = none → pcieOn s = true →
    Answers (.exportRing t who) s fun u =>
      Answered who 0 u ∧ u.ro 0x2821 0x02 = 4 ∧ u.host.exporting = some (1, 0) ∧ u.host.exportStart = s.host.exportRing.wr ∧ u.pub = s.pub ∧
      u.host.exportBytes + (u.host.exportLeft.map List.length).sum = ((frozenRecords s).map List.length).sum) ∧
  (∀ (t : Nat) (who : Who) (s : State),
    AcceptedPlain 0x2830 0x03 who (s.advance t) → (s.ro 0x2821 0x02 ≠ 3 ∨ s.host.exporting ≠ none ∨ pcieOn s = false) →
    Answers (.exportRing t who) s fun u => Answered who 6 u ∧ Touches [.imian] [(0x1120, 1), (0x1120, 2)] (s.advance t) u) ∧
  (∀ (t : Nat) (s : State),
    Room s → s.ro 0x2821 0x02 = 4 → s.host.exporting = some (1, 0) → s.host.exportLeft = [] →
    Answers (.ringExportComplete t) s fun u =>
      u.ro 0x2821 0x02 = (if s.cfgB 0x2820 0x04 then b2n (s.running && s.cfgB 0x2820 0x01) else 3) ∧
      u.pub.ring = (if s.cfgB 0x2820 0x04 then [] else s.pub.ring) ∧ u.host.exporting = none ∧ bit u.host.intStatus 10 = true ∧
      u.ro 0x2840 0x0C = (s.ro 0x2840 0x0C + 1) % 2 ^ 32 ∧ Posted 0x2807 (le 8 s.host.exportBytes) s u) ∧
  (∀ (t : Nat) (s : State),
    (s.ro 0x2821 0x02 ≠ 4 ∨ s.host.exporting ≠ some (1, 0) ∨ s.host.exportLeft ≠ []) →
    Answers (.ringExportComplete t) s fun u => Touches [] [] (s.advance t) u) ∧
  (∀ (t : Nat) (who : Who) (s : State),
    Room s → AcceptedPlain 0x2830 0x02 who (s.advance t) → s.ro 0x2821 0x02 ≠ 4 →
    Answers (.releaseRing t who) s fun u =>
      Answered who 0 u ∧ u.pub.ring = [] ∧ u.pub.stopped = [] ∧ u.ro 0x2821 0x02 = b2n (s.running && s.cfgB 0x2820 0x01) ∧
      Posted 0x2809 (le 1 0) s u) ∧
  (∀ (t : Nat) (who : Who) (s : State),
    AcceptedPlain 0x2830 0x02 who (s.advance t) → s.ro 0x2821 0x02 = 4 →
    Answers (.releaseRing t who) s fun u => Answered who 6 u ∧ Touches [.imian] [(0x1120, 1), (0x1120, 2)] (s.advance t) u) ∧
  (∀ (t : Nat) (s : State),
    s.running = true → s.host.batchRecords ≠ 0 →
    (s.cfg 0x2D01 0x01 ≤ s.host.batchBytes ∨ s.host.batchAt + us (s.cfg 0x2D01 0x02) ≤ max s.now t) →
    Answers (.archiveDescriptorPost t) s fun u =>
      u.host.batchRecords = 0 ∧ u.host.batchBytes = 0 ∧ bit u.host.intStatus 9 = true ∧ u.host.archive = s.host.archive ∧
      u = settle ((sluicePost 7 [0x8 * 2 ^ 60 + s.host.batchRecords % 2 ^ 32, s.host.batchStart, s.host.batchBytes * 2 ^ 32]
        ((s.advance t).onHost fun x => { x with batchBytes := 0, batchRecords := 0 })).interrupt 9)) ∧
  (∀ (t : Nat) (s : State),
    (s.running = false ∨ s.host.batchRecords = 0 ∨
      (s.host.batchBytes < s.cfg 0x2D01 0x01 ∧ max s.now t < s.host.batchAt + us (s.cfg 0x2D01 0x02))) →
    Answers (.archiveDescriptorPost t) s fun u => Touches [] [] (s.advance t) u)

/-- OUTPUT_COMMAND_RX in RUN, TRIM or SENTINEL, of a frame of 18 bytes or more, of a command's form with good length and CHK, whose IDCODE is
that of an enabled output stream published on the pair, from an address of one of its subscriber rows: command 2 turns on every
commanded-mode row of that address and command 1 turns them off, counted in 0x2840:03; commands 3 to 6 are answered with the header frame,
CFG-1, CFG-2 and CFG-3 at the present time, to the source address and port, counted in 0x2840:03; any other word is counted in 0x2840:04 and
changes nothing else. A frame of another form, of no such stream or from no such address changes nothing but 0x2840:04; in another device
state nothing changes. -/
def Obligations.OutputCommandsSwitchSubscribers : Prop :=
  (∀ (t pair sport o : Nat) (src l : List Byte) (s : State),
    (s.running = true ∨ s.dev = stSentinel) →
    18 ≤ l.length → byteAt l 0 = 0xAA → frameType l = 4 → chkGood l = true → beAt l 2 2 = l.length → beAt l 14 2 = 2 →
    (rowsOf s.active 0x2801 0x01).find? (fun o => s.cfg 0x2801 0x03 o == beAt l 4 2 && publishes s (s.cfg 0x2801 0x01 o) pair) = some o →
    (subRows s).any (fun r => s.cfg 0x2803 0x01 r == o && s.cfgBytes 0x2803 0x03 r == src) = true →
    Answers (.outputCommandRx t pair src sport l) s fun u =>
      u.ro 0x2840 0x03 = (s.ro 0x2840 0x03 + 1) % 2 ^ 32 ∧
      (∀ r ∈ subRows s, s.cfg 0x2803 0x05 r = 1 → s.cfgBytes 0x2803 0x03 r = src → r ∈ u.pub.subsOn) ∧
      Touches [.pub] [(0x2840, 3)] (s.advance t) u) ∧
  (∀ (t pair sport o : Nat) (src l : List Byte) (s : State),
    (s.running = true ∨ s.dev = stSentinel) →
    18 ≤ l.length → byteAt l 0 = 0xAA → frameType l = 4 → chkGood l = true → beAt l 2 2 = l.length → beAt l 14 2 = 1 →
    (rowsOf s.active 0x2801 0x01).find? (fun o => s.cfg 0x2801 0x03 o == beAt l 4 2 && publishes s (s.cfg 0x2801 0x01 o) pair) = some o →
    (subRows s).any (fun r => s.cfg 0x2803 0x01 r == o && s.cfgBytes 0x2803 0x03 r == src) = true →
    Answers (.outputCommandRx t pair src sport l) s fun u =>
      u.ro 0x2840 0x03 = (s.ro 0x2840 0x03 + 1) % 2 ^ 32 ∧
      (∀ r ∈ subRows s, s.cfg 0x2803 0x05 r = 1 → s.cfgBytes 0x2803 0x03 r = src → r ∉ u.pub.subsOn) ∧
      Touches [.pub] [(0x2840, 3)] (s.advance t) u) ∧
  (∀ (t pair sport o : Nat) (src l : List Byte) (s : State),
    (s.running = true ∨ s.dev = stSentinel) →
    18 ≤ l.length → byteAt l 0 = 0xAA → frameType l = 4 → chkGood l = true → beAt l 2 2 = l.length → 3 ≤ beAt l 14 2 → beAt l 14 2 ≤ 6 →
    (rowsOf s.active 0x2801 0x01).find? (fun o => s.cfg 0x2801 0x03 o == beAt l 4 2 && publishes s (s.cfg 0x2801 0x01 o) pair) = some o →
    (subRows s).any (fun r => s.cfg 0x2803 0x01 r == o && s.cfgBytes 0x2803 0x03 r == src) = true →
    Answers (.outputCommandRx t pair src sport l) s fun u =>
      u.ro 0x2840 0x03 = (s.ro 0x2840 0x03 + 1) % 2 ^ 32 ∧
      u = settle (answer pair src sport
        (let x := outStream s s.active o; if beAt l 14 2 = 3 then closeFrame 0xAA12 x.idcode (timesNow (s.advance t) x.timeBase).1 (timesNow (s.advance t) x.timeBase).2 x.station
         else if beAt l 14 2 = 4 then cfg2Frame (s.advance t) x (cfgCount s o) 2
         else if beAt l 14 2 = 5 then cfg2Frame (s.advance t) x (cfgCount s o) 3
         else cfg3Frame (s.advance t) x (cfgCount s o)) (s.advance t))) ∧
  (∀ (t pair sport : Nat) (src l : List Byte) (s : State),
    (s.running = true ∨ s.dev = stSentinel) →
    (l.length < 18 ∨ byteAt l 0 ≠ 0xAA ∨ frameType l ≠ 4 ∨ chkGood l = false ∨ beAt l 2 2 ≠ l.length ∨ beAt l 14 2 = 0 ∨ 6 < beAt l 14 2 ∨
      (rowsOf s.active 0x2801 0x01).all (fun o => !(s.cfg 0x2801 0x03 o == beAt l 4 2 && publishes s (s.cfg 0x2801 0x01 o) pair)) = true ∨
      (subRows s).all (fun r => !(s.cfgBytes 0x2803 0x03 r == src)) = true) →
    Answers (.outputCommandRx t pair src sport l) s fun u =>
      u.ro 0x2840 0x04 = (s.ro 0x2840 0x04 + 1) % 2 ^ 32 ∧ Touches [] [(0x2840, 4)] (s.advance t) u) ∧
  (∀ (t pair sport : Nat) (src l : List Byte) (s : State),
    s.running = false → s.dev ≠ stSentinel →
    Answers (.outputCommandRx t pair src sport l) s fun u => Touches [] [] (s.advance t) u)

/-- 0x2901:01 Feeder enable, an accepted WRITE where Headwater serves, is answered OK and kept: 1 takes a feeder from OFF to STARTING with no
delay measured, 0 from ON to STOPPING; in STARTING 0 makes a disable pending and 1 takes it back, in STOPPING 1 makes an enable pending and
0 takes it back. FEEDER_ON of a feeder that is STARTING, 4 ms after the sixth measurement or fed by sampled values, makes it ON now, or
STOPPING where a disable is pending; FEEDER_STOPPED of one that is STOPPING makes it OFF, or STARTING where an enable is pending; both clear
the pending flags, and otherwise change nothing. 0x2910:01 Local stream enable, an accepted WRITE while Headwater runs, is answered OK and
kept: 1 takes a stream from OFF to STARTING, 0 from ON to OFF, since STOPPING has no work; in STARTING 0 makes a disable pending and 1 takes
it back. LOCAL_STREAM_ON of a stream that is STARTING with its conditions met makes it ON, or OFF where a disable is pending; otherwise it
changes nothing. SV_LOST 10 ms after the last frame of a row that receives puts it into state 3 with event 0x2907; otherwise it changes
nothing. 0x2930:02 Switch filter bank, accepted with no fade in progress outside SAFE_TALK and RECOVERY, with a valid inactive bank and 1 to
1,024 samples, is answered OK and begins the fade of that many samples once the new bank has taken a quarter of its length; with an invalid
bank or another number it is answered 0x05, and with a fade in progress 0x06, and no fade begins. BANK_FADE_COMPLETE after the last sample
of the fade makes the new bank the active one, counts in 0x2940:05 and posts event 0x2904; before it, or with no fade, it changes nothing. -/
def Obligations.FeedersAndLocalStreamsChangeState : Prop :=
  (∀ (t f : Nat) (on : Bool) (who : Who) (s : State),
    f < 4 → AcceptedWrite 0x2901 0x01 f (.num (b2n on)) who (s.advance t) → headServes s = true → feederState s f ≤ 3 →
    Answers (.feederEnable t who f on) s fun u =>
      Answered who 0 u ∧ u.rw 0x2901 0x01 f = b2n on ∧
      feederState u f = (if feederState s f = 0 ∧ on = true then 1 else if feederState s f = 2 ∧ on = false then 3 else feederState s f) ∧
      u.fourFlag (fnFeeder f) = (if feederState s f = 1 then (false, !on) else if feederState s f = 3 then (on, false) else s.fourFlag (fnFeeder f)) ∧
      (feederState s f = 0 → on = true → (u.feeder f).measured = [] ∧ ∀ k ∈ List.range 6, (u.chan (6 * f + k)).drt = none)) ∧
  (∀ (t f : Nat) (s : State),
    f < 4 → feederState s f = 1 → (svFed s f = true ∨ (6 ≤ (s.feeder f).measured.length ∧ (s.feeder f).measuredAt + ms 4 ≤ max s.now t)) →
    Answers (.feederOn t f) s fun u =>
      feederState u f = (if (s.fourFlag (fnFeeder f)).2 then 3 else 2) ∧ u.fourFlag (fnFeeder f) = (false, false) ∧
      u.feeder f = (if (s.fourFlag (fnFeeder f)).2 then s.feeder f else { s.feeder f with onAt := max s.now t })) ∧
  (∀ (t f : Nat) (s : State),
    (4 ≤ f ∨ feederState s f ≠ 1 ∨ (svFed s f = false ∧ ((s.feeder f).measured.length < 6 ∨ max s.now t < (s.feeder f).measuredAt + ms 4))) →
    Answers (.feederOn t f) s fun u => Touches [] [] (s.advance t) u) ∧
  (∀ (t f : Nat) (s : State),
    f < 4 → feederState s f = 3 →
    Answers (.feederStopped t f) s fun u =>
      feederState u f = b2n (s.fourFlag (fnFeeder f)).1 ∧ u.fourFlag (fnFeeder f) = (false, false)) ∧
  (∀ (t f : Nat) (s : State),
    (4 ≤ f ∨ feederState s f ≠ 3) → Answers (.feederStopped t f) s fun u => Touches [] [] (s.advance t) u) ∧
  (∀ (t l : Nat) (on : Bool) (who : Who) (s : State),
    l < 4 → AcceptedWrite 0x2910 0x01 l (.num (b2n on)) who (s.advance t) → headRuns s = true → localState s l ≤ 2 →
    s.fourFlag (fnLocal l) = (false, false) →
    Answers (.localStreamEnable t who l on) s fun u =>
      Answered who 0 u ∧ u.rw 0x2910 0x01 l = b2n on ∧
      localState u l = (if localState s l = 0 ∧ on = true then 1 else if localState s l = 2 ∧ on = false then 0 else localState s l) ∧
      u.fourFlag (fnLocal l) = (false, localState s l == 1 && !on) ∧
      Touches [.live, .power, .imian] [(0x2911, 1), (0x1120, 1), (0x1120, 2)] (s.advance t) u) ∧
  (∀ (t l : Nat) (s : State),
    l < 4 → localState s l = 1 → localReady (s.advance t) l = true →
    Answers (.localStreamOn t l) s fun u =>
      localState u l = (if (s.fourFlag (fnLocal l)).2 then 0 else 2) ∧ u.fourFlag (fnLocal l) = (false, false) ∧
      Touches [.power] [(0x2911, 1)] (s.advance t) u) ∧
  (∀ (t l : Nat) (s : State),
    (4 ≤ l ∨ localState s l ≠ 1 ∨ localReady (s.advance t) l = false) →
    Answers (.localStreamOn t l) s fun u => Touches [] [] (s.advance t) u) ∧
  (∀ (t r : Nat) (s : State),
    Room s → r < 4 → s.ro 0x2922 0x01 r = 2 → (tabGet SvSt.reset s.head.sv r).lastFrame + ms 10 ≤ max s.now t →
    Answers (.svLost t r) s fun u =>
      u.ro 0x2922 0x01 r = 3 ∧ Posted 0x2907 (le 1 r ++ le 1 3) s u ∧ Touches [] [(0x2922, 1)] (s.advance t) u) ∧
  (∀ (t r : Nat) (s : State),
    (4 ≤ r ∨ s.ro 0x2922 0x01 r ≠ 2 ∨ max s.now t < (tabGet SvSt.reset s.head.sv r).lastFrame + ms 10) →
    Answers (.svLost t r) s fun u => Touches [] [] (s.advance t) u) ∧
  (∀ (t n : Nat) (who : Who) (s : State),
    Accepted 0x2930 0x02 noRow (.num n) who (s.advance t) → s.head.fade = none → s.dev ≠ stSafeTalk → s.dev ≠ stRecovery →
    1 ≤ n → n ≤ 1024 → bankValid s (1 - s.ro 0x2921 0x01) = true →
    Answers (.switchFilterBank t who n) s fun u =>
      Answered who 0 u ∧ u.head = { s.head with fade := some n, fadeWait := (bankLength s (1 - s.ro 0x2921 0x01) + 24) / 25 } ∧
      u.ro 0x2921 0x02 = n ∧
      Touches [.head, .imian] [(0x2921, 2), (0x1120, 1), (0x1120, 2)] (s.advance t) u) ∧
  (∀ (t n : Nat) (who : Who) (s : State),
    Accepted 0x2930 0x02 noRow (.num n) who (s.advance t) → s.head.fade = none → s.dev ≠ stSafeTalk → s.dev ≠ stRecovery →
    (n < 1 ∨ 1024 < n ∨ bankValid s (1 - s.ro 0x2921 0x01) = false) →
    Answers (.switchFilterBank t who n) s fun u =>
      Answered who 5 u ∧ Touches [.imian] [(0x1120, 1), (0x1120, 2)] (s.advance t) u) ∧
  (∀ (t n : Nat) (who : Who) (s : State),
    Accepted 0x2930 0x02 noRow (.num n) who (s.advance t) → s.head.fade ≠ none →
    Answers (.switchFilterBank t who n) s fun u =>
      Answered who 6 u ∧ Touches [.imian] [(0x1120, 1), (0x1120, 2)] (s.advance t) u) ∧
  (∀ (t n : Nat) (s : State),
    Room s → s.head.fade = some n → s.ro 0x2921 0x02 = 0 →
    Answers (.bankFadeComplete t) s fun u =>
      u.head = { s.head with fade := none } ∧ u.ro 0x2921 0x01 = 1 - s.ro 0x2921 0x01 ∧
      u.ro 0x2940 0x05 = (s.ro 0x2940 0x05 + 1) % 2 ^ 32 ∧
      Posted 0x2904 (le 1 (1 - s.ro 0x2921 0x01) ++ le 2 n) s u ∧ Touches [.head] [(0x2921, 1), (0x2940, 5)] (s.advance t) u) ∧
  (∀ (t : Nat) (s : State),
    (s.head.fade = none ∨ s.ro 0x2921 0x02 ≠ 0) → Answers (.bankFadeComplete t) s fun u => Touches [] [] (s.advance t) u)

/-- RETURN_DELAY_MEAN of a clocked channel whose measured remainder can be placed shows the delay in 0x2920:06 and sets it and the delay tap;
without a delay before and no delay fault, or within 1 ns of the delay before, it sets the forward delay and ends a delay fault, and
otherwise it is a delay fault of cause 1; a remainder that cannot be placed leaves the channel without a delay and is a delay fault of cause
0; of a channel that is not clocked it changes nothing. MODULATOR_FAULT of a clocked channel marks it, counts in 0x2940:01 and posts event
0x2902; MODULATOR_FAULT_CLEARED ends it with event 0x2902; without a change they change nothing. SAMPLE_12K8 while Headwater runs takes one
sample index, and every channel of a feeder that is ON and has modulators keeps a sample at its sample instant under the set in force there;
otherwise nothing changes. CYCLE_WINDOW_END shows each channel's peak and RMS over the last cycle window that is complete, once, and missing
values while GAT is stopped; it changes nothing while Headwater does not run. ESTIMATOR_OUTPUT at its time, of the class the local stream
uses, shows frequency, ROCOF and V1 magnitude; before its time it only settles decisions that wait. A READ of 0x2920:01 by a Viewer or
better answers the value and resets it; one that is turned away is answered and resets nothing. -/
def Obligations.ChannelsAreMeasured : Prop :=
  (∀ (t c d m : Nat) (s : State),
    clocked s c = true → placeDelay s (c / 6) m = some d →
    (((s.chan c).drt = none ∧ (s.chan c).delayFault = false) ∨
      ((s.chan c).drt ≠ none ∧ ((d : Int) - ((s.chan c).drt.getD 0 : Nat)).natAbs ≤ 8000)) →
    Answers (.returnDelayMean t c m) s fun u =>
      u.chan c = { s.chan c with
        drt := some d, tap := delayTap d, forward := forwardDelay s (c / 6) d, delayFault := false,
        badUntil := if (s.chan c).delayFault then max s.now t else (s.chan c).badUntil } ∧
      u.ro 0x2920 0x06 c = (d + 4) / 8 ∧
      (feederState s (c / 6) = 1 → c ∈ (u.feeder (c / 6)).measured ∧ (u.feeder (c / 6)).measuredAt = max s.now t) ∧
      Touches [.head] [(0x2920, 6)] (s.advance t) u) ∧
  (∀ (t c d m : Nat) (s : State),
    Room s → clocked s c = true → placeDelay s (c / 6) m = some d → (s.chan c).delayFault = false → (s.chan c).drt ≠ none →
    8000 < ((d : Int) - ((s.chan c).drt.getD 0 : Nat)).natAbs →
    Answers (.returnDelayMean t c m) s fun u =>
      u.chan c = { s.chan c with drt := some d, tap := delayTap d, delayFault := true } ∧ u.ro 0x2920 0x06 c = (d + 4) / 8 ∧
      u.ro 0x2940 0x02 = (s.ro 0x2940 0x02 + 1) % 2 ^ 32 ∧ Posted 0x2903 (le 1 c ++ le 1 1 ++ le 4 (d / 8)) s u ∧
      Touches [.head] [(0x2920, 6), (0x2940, 2)] (s.advance t) u) ∧
  (∀ (t c m : Nat) (s : State),
    Room s → clocked s c = true → placeDelay s (c / 6) m = none → (s.chan c).delayFault = false →
    Answers (.returnDelayMean t c m) s fun u =>
      u.chan c = { s.chan c with drt := none, delayFault := true } ∧ u.ro 0x2920 0x06 c = m % 2 ^ 32 ∧
      u.ro 0x2940 0x02 = (s.ro 0x2940 0x02 + 1) % 2 ^ 32 ∧ Posted 0x2903 (le 1 c ++ le 1 0 ++ le 4 (8 * m / 8)) s u ∧
      Touches [.head] [(0x2920, 6), (0x2940, 2)] (s.advance t) u) ∧
  (∀ (t c m : Nat) (s : State),
    clocked s c = false → Answers (.returnDelayMean t c m) s fun u => Touches [] [] (s.advance t) u) ∧
  (∀ (t c : Nat) (s : State),
    Room s → clocked s c = true → (s.chan c).modFault = false →
    Answers (.modulatorFault t c) s fun u =>
      u.chan c = { s.chan c with modFault := true } ∧ u.ro 0x2940 0x01 = (s.ro 0x2940 0x01 + 1) % 2 ^ 32 ∧
      Posted 0x2902 (le 1 c ++ le 1 0) s u ∧ Touches [.head] [(0x2940, 1)] (s.advance t) u) ∧
  (∀ (t c : Nat) (s : State),
    (clocked s c = false ∨ (s.chan c).modFault = true) → Answers (.modulatorFault t c) s fun u => Touches [] [] (s.advance t) u) ∧
  (∀ (t c : Nat) (s : State),
    Room s → (s.chan c).modFault = true →
    Answers (.modulatorFaultCleared t c) s fun u =>
      u.chan c = { s.chan c with modFault := false, badUntil := max s.now t } ∧
      Posted 0x2902 (le 1 c ++ le 1 1) s u ∧ Touches [.head] [] (s.advance t) u) ∧
  (∀ (t c : Nat) (s : State),
    (s.chan c).modFault = false → Answers (.modulatorFaultCleared t c) s fun u => Touches [] [] (s.advance t) u) ∧
  (∀ (t : Nat) (raw : List Chain) (s : State),
    headRuns s = true →
    Answers (.sample12K8 t raw) s fun u =>
      u.head.index = s.head.index + 1 ∧
      (∀ c ∈ List.range 24, feederState s (c / 6) = 2 → svFed s (c / 6) = false →
        ((u.chan c).waves.map (·.at_)).head? = some (sampleInstant
          { s.advance t with active := pubSet (s.advance t) (sampleInstant (s.advance t) c (delay128 s)) } c (delay128 s)))) ∧
  (∀ (t : Nat) (raw : List Chain) (s : State),
    headRuns s = false → Answers (.sample12K8 t raw) s fun u => Touches [] [] (s.advance t) u) ∧
  (∀ (t n b0 b1 : Nat) (s : State),
    headRuns s = true → s.time.gatOn = true → cycleDone (s.advance t) = some (n, b0, b1) → s.head.lastCycle ≠ some n →
    Answers (.cycleWindowEnd t) s fun u =>
      u.head.lastCycle = some n ∧
      (∀ c ∈ List.range 24,
        u.ro 0x2920 0x02 c = ((cycleValues (s.advance t) c b0 b1).1.map fun v => toF32 v.1).getD nanF32 ∧
        u.ro 0x2920 0x03 c = ((cycleValues (s.advance t) c b0 b1).1.map fun v => toF32 v.2).getD nanF32)) ∧
  (∀ (t : Nat) (s : State),
    headRuns s = true → s.time.gatOn = false →
    Answers (.cycleWindowEnd t) s fun u =>
      (∀ c ∈ List.range 24, u.ro 0x2920 0x02 c = nanF32 ∧ u.ro 0x2920 0x03 c = nanF32) ∧
      Touches [] [(0x2920, 2), (0x2920, 3)] (s.advance t) u) ∧
  (∀ (t : Nat) (s : State),
    (headRuns s = false ∨ (s.time.gatOn = true ∧ (cycleDone (s.advance t) = none ∨ (cycleDone (s.advance t)).map (·.1) = s.head.lastCycle))) →
    Answers (.cycleWindowEnd t) s fun u => Touches [] [] (s.advance t) u) ∧
  (∀ (t f k : Nat) (mClass : Bool) (s : State),
    f < 4 → 2 ≤ k → headRuns s = true → feederState s f = 2 → s.time.isSet = true → (s.cfg 0x2910 0x03 f == 1) = mClass →
    estimateInstant s k + psToT96 (psOf (Q.add (halfWindow s f mClass) (Q.make 2 (4 * s.fnom))) + (if svFed s f then 0 else delay128 s)) ≤
      (s.advance t).t96 →
    Answers (.estimatorOutput t f mClass k) s fun u =>
      u.ro 0x2911 0x03 f = ((estimateAt (s.advance t) f mClass k).freq.map toF32).getD nanF32 ∧
      u.ro 0x2911 0x04 f = ((estimateAt (s.advance t) f mClass k).rocof.map toF32).getD nanF32 ∧
      u.ro 0x2911 0x05 f = ((((estimateAt (s.advance t) f mClass k).phasors.getD 3 none).map cAbs).map toF32).getD nanF32) ∧
  (∀ (t f k : Nat) (mClass : Bool) (s : State),
    (4 ≤ f ∨ k < 2 ∨ headRuns s = false ∨ feederState s f ≠ 2 ∨ s.time.isSet = false ∨
      (s.advance t).t96 < estimateInstant s k +
        psToT96 (psOf (Q.add (halfWindow s f mClass) (Q.make 2 (4 * s.fnom))) + (if svFed s f then 0 else delay128 s))) →
    Answers (.estimatorOutput t f mClass k) s fun u => u = settle (settleDecisions (s.advance t))) ∧
  (∀ (t c : Nat) (who : Who) (s : State),
    c < 24 → (s.advance t).reaches who = true → offered (s.advance t) who .read 0x2920 0x01 = true →
    roleHas (((s.advance t).roleOf who).getD 0) 1 = true →
    Answers (.peakSinceRead t who c) s fun u =>
      Answered who 0 u ∧ Out.read (s.ro 0x2920 0x01 c) ∈ u.outs ∧ u.ro 0x2920 0x01 c = 0 ∧
      Touches [.imian] [(0x2920, 1), (0x1120, 1), (0x1120, 2)] (s.advance t) u) ∧
  (∀ (t c : Nat) (who : Who) (s : State),
    (s.advance t).reaches who = true →
    (offered (s.advance t) who .read 0x2920 0x01 = false ∨ roleHas (((s.advance t).roleOf who).getD 0) 1 = false ∨ 24 ≤ c) →
    Answers (.peakSinceRead t who c) s fun u =>
      Answered who (if offered (s.advance t) who .read 0x2920 0x01 = false then 0x0D
        else if roleHas (((s.advance t).roleOf who).getD 0) 1 = false then 2 else 1) u ∧
      Touches [.imian] [(0x1120, 1), (0x1120, 2)] (s.advance t) u)

/-- 0x2A00:01 Capture enable, an accepted WRITE where capture is admitted and has no pending flag, is answered OK and kept: 1 takes it from OFF
to ON, ARMED where space can be reserved and BLOCKED where not; 0 takes it from ON to OFF with an empty buffer, or, while a record is being
made, to STOPPING with the record ended by cause 3; where capture is not admitted the WRITE is only kept. CAPTURE_ROW while ON without
trigger rows: ARMED appends the row to the buffer, which keeps the last 163,840; in POST a row at or after t0 is a post-trigger row of the
record, which goes on while its fill is not complete; while capture is not ON nothing changes. 0x2A30:01 Trigger capture, accepted while
ARMED with a post-trigger setting and every buffered row before the present T96, is answered OK, starts a record at that T96 whose
pre-trigger rows are the last of the buffer, and takes the next record number; in REARM or BLOCKED the trigger is suppressed and counted in
0x2A40:02. CAPTURE_OVERFLOW ends the record being made, counts in 0x2A40:04 and posts event 0x2A04. RECORD_CLOSE of a closed record counts
in 0x2A40:01 and posts event 0x2A02; while STOPPING, capture is then OFF. REARM_COMPLETE returns to ARMED with an empty buffer where space
can be reserved, else to BLOCKED. Without a record, a closed record or REARM these change nothing. -/
def Obligations.CaptureRecordsAreMade : Prop :=
  (∀ (t : Nat) (who : Who) (s : State),
    AcceptedWrite 0x2A00 0x01 noRow (.num 1) who (s.advance t) → captureAdmitted s = true → captureState s = 0 →
    s.fourFlag fnCapture = (false, false) →
    Answers (.captureEnable t who true) s fun u =>
      Answered who 0 u ∧ u.rw 0x2A00 0x01 = 1 ∧ captureState u = 2 ∧ u.capture.buffer = [] ∧
      recordState u = (if (reserve (s.advance t)).1.isSome then recArmed else recBlocked)) ∧
  (∀ (t : Nat) (who : Who) (s : State),
    AcceptedWrite 0x2A00 0x01 noRow (.num 0) who (s.advance t) → captureAdmitted s = true → captureState s = 2 →
    s.fourFlag fnCapture = (false, false) → s.capture.closing = none → (recordState s = recPost → s.capture.record ≠ none) →
    Answers (.captureEnable t who false) s fun u =>
      Answered who 0 u ∧ u.rw 0x2A00 0x01 = 0 ∧
      (if recordState s = recPost then captureState u = 3 ∧ u.capture.closing.map (·.cause) = some 3 ∧ recordState u = recRearm
       else captureState u = 0 ∧ recordState u = 0 ∧ u.capture.buffer = [])) ∧
  (∀ (t : Nat) (on : Bool) (who : Who) (s : State),
    AcceptedWrite 0x2A00 0x01 noRow (.num (b2n on)) who (s.advance t) → captureAdmitted s = false →
    Answers (.captureEnable t who on) s fun u =>
      Answered who 0 u ∧ u.rw 0x2A00 0x01 = b2n on ∧ Touches [.live, .imian] [(0x1120, 1), (0x1120, 2)] (s.advance t) u) ∧
  (∀ (t din : Nat) (raw : List Chain) (edges : List DinEdge) (s : State),
    captureState s = 2 → recordState s = recArmed → rowsOf s.active 0x2A02 0x01 = [] →
    Answers (.captureRow t raw din edges) s fun u =>
      u.capture = { s.capture with
        buffer := (s.capture.buffer ++ [makeRow (s.advance t) raw din]).drop (s.capture.buffer.length + 1 - 163840),
        prev := some (makeRow (s.advance t) raw din) } ∧
      u.ro 0x2A01 0x03 = u.capture.buffer.length ∧ Touches [.capture] [(0x2A01, 3)] (s.advance t) u) ∧
  (∀ (t din : Nat) (raw : List Chain) (edges : List DinEdge) (x y : CapRecord) (s : State),
    captureState s = 2 → recordState s = recPost → rowsOf s.active 0x2A02 0x01 = [] → s.capture.record = some x →
    x.t0 ≤ (makeRow (s.advance t) raw din).at_.headD 0 →
    y = ({ x with post := x.post ++ [makeRow (s.advance t) raw din] } : CapRecord).extend s.capture.settings.2.1 →
    y.complete s.capture.sram = none →
    Answers (.captureRow t raw din edges) s fun u =>
      u.capture = { s.capture with record := some y, prev := some (makeRow (s.advance t) raw din) } ∧
      Touches [.capture] [(0x2A01, 3)] (s.advance t) u) ∧
  (∀ (t din : Nat) (raw : List Chain) (edges : List DinEdge) (s : State),
    captureState s ≠ 2 → Answers (.captureRow t raw din edges) s fun u => Touches [] [] (s.advance t) u) ∧
  (∀ (t arg : Nat) (who : Who) (s : State),
    Accepted 0x2A30 0x01 noRow (.num arg) who (s.advance t) → captureState s = 2 → recordState s = recArmed → s.capture.sram = false →
    s.capture.buffer.all (fun r => decide (r.at_.headD 0 < (s.advance t).t96)) = true → s.capture.settings.2.1 ≠ 0 →
    Answers (.triggerCapture t who arg) s fun u =>
      Answered who 0 u ∧ recordState u = recPost ∧ u.capture.record.map (·.trigs) = some [⟨(s.advance t).t96, 0xFFFF, 0, 0, 0xFF, 0⟩] ∧
      u.capture.record.map (·.pre) = some (s.capture.buffer.drop (s.capture.buffer.length - s.capture.settings.1)) ∧
      u.ro 0x2A01 0x04 = (s.ro 0x2A01 0x04 + 1) % 2 ^ 32 ∧
      u.leash.sends = (if arg = 1 ∧ s.ro 0x2A11 0x01 = 2 then s.leash.sends ++ [⟨(s.advance t).t96, 0xFFFF, 0, 0, 0xFF, 0⟩] else s.leash.sends)) ∧
  (∀ (t arg : Nat) (who : Who) (s : State),
    Accepted 0x2A30 0x01 noRow (.num arg) who (s.advance t) → captureState s = 2 → recordState s ≠ recArmed → recordState s ≠ recPost →
    Answers (.triggerCapture t who arg) s fun u =>
      Answered who 0 u ∧ u.ro 0x2A40 0x02 = (s.ro 0x2A40 0x02 + 1) % 2 ^ 32 ∧ u.capture = s.capture) ∧
  (∀ (t : Nat) (r : CapRecord) (s : State),
    Room s → s.capture.record = some r →
    Answers (.captureOverflow t) s fun u =>
      u.capture.record = none ∧ u.capture.closing.isSome = true ∧ (lookup r.row u.capture.store).isSome = true ∧ recordState u = recRearm ∧
      u.ro 0x2A40 0x04 = (s.ro 0x2A40 0x04 + 1) % 2 ^ 32 ∧ Posted 0x2A04 (le 4 r.number ++ le 4 r.rows.length) s u) ∧
  (∀ (t : Nat) (s : State),
    s.capture.record = none → Answers (.captureOverflow t) s fun u => Touches [] [] (s.advance t) u) ∧
  (∀ (t : Nat) (r : CapRecord) (s : State),
    Room s → s.capture.closing = some r → captureState s ≠ 3 →
    Answers (.recordClose t) s fun u =>
      u.capture = { s.capture with closing := none } ∧ u.ro 0x2A40 0x01 = (s.ro 0x2A40 0x01 + 1) % 2 ^ 32 ∧
      Posted 0x2A02 (le 4 r.number ++ le 1 r.cause ++ le 1 r.flags ++ le 4 r.rows.length) s u) ∧
  (∀ (t : Nat) (r : CapRecord) (s : State),
    s.capture.closing = some r → captureState s = 3 → recordState s ≠ recPost → s.fourFlag fnCapture = (false, false) →
    Answers (.recordClose t) s fun u =>
      captureState u = 0 ∧ recordState u = 0 ∧ u.capture.closing = none ∧ u.capture.buffer = [] ∧
      u.ro 0x2A40 0x01 = (s.ro 0x2A40 0x01 + 1) % 2 ^ 32) ∧
  (∀ (t : Nat) (s : State),
    s.capture.closing = none → Answers (.recordClose t) s fun u => Touches [] [] (s.advance t) u) ∧
  (∀ (t : Nat) (s : State),
    captureState s = 2 → recordState s = recRearm →
    Answers (.rearmComplete t) s fun u =>
      u.capture.buffer = [] ∧ u.capture.closing = none ∧
      recordState u = (if (reserve (s.advance t)).1.isSome then recArmed else recBlocked)) ∧
  (∀ (t : Nat) (s : State),
    (captureState s ≠ 2 ∨ recordState s ≠ recRearm) → Answers (.rearmComplete t) s fun u => Touches [] [] (s.advance t) u)

/-- 0x2A30:02 Export record, accepted for a stored record in RUN or TRIM with the link up and no export in progress, is answered OK and begins
its export (state 3 in 0x2A20:04); in every other case it is answered 0x06. RECORD_EXPORT_COMPLETE with every byte written ends it, sets
INT_STATUS[10], posts event 0x2A06 and leaves the row in state 4, or frees it where automatic release is on and capture is not BLOCKED; with
no export of a record, or one that still has bytes to write, nothing changes. 0x2A30:03 Release record, accepted for a stored record not
being exported, is answered OK and frees its row, and BLOCKED capture is ARMED again where space can then be reserved; otherwise it is
answered 0x06. -/
def Obligations.CaptureRecordsLeaveTheStore : Prop :=
  (∀ (t r : Nat) (x : CapRecord) (who : Who) (s : State),
    Accepted 0x2A30 0x02 r (.num 0) who (s.advance t) → r < 16 → lookup r s.capture.store = some x → s.host.exporting = none → pcieOn s = true →
    Answers (.exportRecord t who r) s fun u =>
      Answered who 0 u ∧ u.host.exporting = some (0, r) ∧ u.host.exportStart = s.host.exportRing.wr ∧ u.ro 0x2A20 0x04 r = 3 ∧
      u.capture = s.capture) ∧
  (∀ (t r : Nat) (who : Who) (s : State),
    Accepted 0x2A30 0x02 r (.num 0) who (s.advance t) →
    ((lookup r s.capture.store).isNone = true ∨ s.host.exporting ≠ none ∨ pcieOn s = false) →
    Answers (.exportRecord t who r) s fun u => Answered who 6 u ∧ Touches [.imian] [(0x1120, 1), (0x1120, 2)] (s.advance t) u) ∧
  (∀ (t r : Nat) (x : CapRecord) (s : State),
    Room s → r < 16 → s.host.exporting = some (0, r) → s.host.exportLeft = [] → lookup r s.capture.store = some x →
    (s.cfgB 0x2A00 0x07 = true → recordState s ≠ recBlocked) →
    Answers (.recordExportComplete t) s fun u =>
      u.host.exporting = none ∧ bit u.host.intStatus 10 = true ∧ Posted 0x2A06 (le 4 x.number) s u ∧
      (if s.cfgB 0x2A00 0x07 then u.ro 0x2A20 0x04 r = 0 ∧ u.capture.store = delKey r s.capture.store
       else u.ro 0x2A20 0x04 r = 4 ∧ r ∈ u.capture.exported ∧ u.capture.store = s.capture.store)) ∧
  (∀ (t : Nat) (s : State),
    (s.host.exporting.map (·.1) ≠ some 0 ∨ s.host.exportLeft ≠ []) →
    Answers (.recordExportComplete t) s fun u => Touches [] [] (s.advance t) u) ∧
  (∀ (t r : Nat) (x : CapRecord) (who : Who) (s : State),
    Accepted 0x2A30 0x03 r (.num 0) who (s.advance t) → r < 16 → lookup r s.capture.store = some x → s.ro 0x2A20 0x04 r ≠ 3 →
    Answers (.releaseRecord t who r) s fun u =>
      Answered who 0 u ∧ (lookup r u.capture.store).isNone = true ∧ u.ro 0x2A20 0x04 r = 0 ∧ r ∉ u.capture.exported ∧
      (recordState s ≠ recBlocked → u.capture.store = delKey r s.capture.store) ∧
      (recordState s = recBlocked → captureState s = 2 → (reserve (releaseRow r (s.advance t))).1.isSome = true → recordState u = recArmed)) ∧
  (∀ (t r : Nat) (who : Who) (s : State),
    Accepted 0x2A30 0x03 r (.num 0) who (s.advance t) → ((lookup r s.capture.store).isNone = true ∨ s.ro 0x2A20 0x04 r = 3) →
    Answers (.releaseRecord t who r) s fun u => Answered who 6 u ∧ Touches [.imian] [(0x1120, 1), (0x1120, 2)] (s.advance t) u)

/-- LEASH_CALIBRATE at an enabled head in RUN, TRIM or SENTINEL makes the Leash READY at position 0 with its members and longest path where the
measured hops pass the limits, and puts it into FAULT where they do not; at a device that is no enabled head it changes nothing. 0x2A30:04
Recalibrate Leash, accepted at an enabled head, is answered OK and begins CALIBRATING; elsewhere it is answered 0x06. LEASH_SEND with
nothing passing takes the first waiting trigger: a READY Leash sends it downstream, and in a chain upstream too, with its sequence number,
and plans its own action 2 us later; one that is not READY skips it, counted in 0x2A40:0C; with none waiting, or while a message passes,
nothing changes. LEASH_MESSAGE_RX forwards a message with a bad CRC and counts it in 0x2A40:08; a good trigger of another device is
forwarded and counted in 0x2A40:07, and its action planned at 2 us after its send instant less the path delay, or, where that leaves less
than 20 ns, counted late in 0x2A40:09; a discovery gives a member the next position and CALIBRATING; a hop report gives it the hop's delay;
where messages are not forwarded nothing changes. LEASH_ACT takes due actions away, and one due action while ARMED and allowed starts a
record; where the Leash does not act it only takes them away. -/
def Obligations.LeashCarriesTriggers : Prop :=
  (∀ (t : Nat) (trips ds : List Nat) (returned : Option Nat) (s : State),
    (s.running = true ∨ s.dev = stSentinel) → leashEnabled s = true → leashHead s = true →
    ds = trips.map (fun (x : Nat) => (((x : Int) + s.cfgInt 0x2A10 0x06).fdiv 2).toNat) → calibrationFault (leashRing s) ds returned = none →
    Answers (.leashCalibrate t trips returned) s fun u =>
      leashState u = 2 ∧ ownPosition u = 0 ∧ u.ro 0x2A11 0x03 = (if leashRing s then ds.length else ds.length + 1) ∧
      u.ro 0x2A11 0x05 = worstPath (leashRing s) (if leashRing s then ds.length else ds.length + 1) (fun h => ds.getD h 0) ∧
      Touches [] [(0x2A11, 1), (0x2A11, 2), (0x2A11, 3), (0x2A11, 4), (0x2A11, 5)] (s.advance t) u) ∧
  (∀ (t : Nat) (trips ds : List Nat) (returned : Option Nat) (s : State),
    (s.running = true ∨ s.dev = stSentinel) → leashEnabled s = true → leashHead s = true →
    ds = trips.map (fun (x : Nat) => (((x : Int) + s.cfgInt 0x2A10 0x06).fdiv 2).toNat) → calibrationFault (leashRing s) ds returned ≠ none →
    Answers (.leashCalibrate t trips returned) s fun u => leashState u = 3 ∧ Touches [] [(0x2A11, 1)] (s.advance t) u) ∧
  (∀ (t : Nat) (trips : List Nat) (returned : Option Nat) (s : State),
    (leashEnabled s = false ∨ leashHead s = false) →
    Answers (.leashCalibrate t trips returned) s fun u => Touches [] [] (s.advance t) u) ∧
  (∀ (t : Nat) (who : Who) (s : State),
    AcceptedPlain 0x2A30 0x04 who (s.advance t) →
    Answers (.recalibrateLeash t who) s fun u =>
      if leashEnabled s = true ∧ leashHead s = true then
        Answered who 0 u ∧ leashState u = 1 ∧ Touches [.imian] [(0x2A11, 1), (0x1120, 1), (0x1120, 2)] (s.advance t) u
      else Answered who 6 u ∧ Touches [.imian] [(0x1120, 1), (0x1120, 2)] (s.advance t) u) ∧
  (∀ (t : Nat) (x : Trig) (rest : List Trig) (s : State),
    s.leash.sends = x :: rest → s.leash.passingUntil ≤ max s.now t → leashState s = 2 → leashActs s = true →
    Answers (.leashSend t) s fun u =>
      u.leash.sends = rest ∧ u.leash.seq = (s.leash.seq + 1) % 256 ∧
      u.leash.acts = s.leash.acts ++ [(max s.now t + 2000000, ⟨x.t0, 0xFFFE, 0, s.leash.seq, ownPosition s, 0⟩, false)] ∧
      Out.leash false (leashMessage 1 (ownPosition s) s.leash.seq (t96Mid x.t0) (t96Mid ((s.advance t).t96 + psToT96 2000000))) ∈ u.outs ∧
      (leashRing s = false →
        Out.leash true (leashMessage 1 (ownPosition s) s.leash.seq (t96Mid x.t0) (t96Mid ((s.advance t).t96 + psToT96 2000000))) ∈ u.outs) ∧
      u.ro 0x2A40 0x06 = (s.ro 0x2A40 0x06 + 1) % 2 ^ 32 ∧ Touches [.leash] [(0x2A40, 6)] (s.advance t) u) ∧
  (∀ (t : Nat) (x : Trig) (rest : List Trig) (s : State),
    s.leash.sends = x :: rest → s.leash.passingUntil ≤ max s.now t → (leashState s ≠ 2 ∨ leashActs s = false) →
    Answers (.leashSend t) s fun u =>
      u.leash = { s.leash with sends := rest } ∧ u.ro 0x2A40 0x0C = (s.ro 0x2A40 0x0C + 1) % 2 ^ 32 ∧
      Touches [.leash] [(0x2A40, 0x0C)] (s.advance t) u) ∧
  (∀ (t : Nat) (s : State),
    (s.leash.sends = [] ∨ max s.now t < s.leash.passingUntil) → Answers (.leashSend t) s fun u => Touches [] [] (s.advance t) u) ∧
  (∀ (t : Nat) (syn : Bool) (msg : List Byte) (s : State),
    leashForwards s = true → leashGood msg = false →
    Answers (.leashMessageRx t syn msg) s fun u =>
      Out.leash syn msg ∈ u.outs ∧ u.ro 0x2A40 0x08 = (s.ro 0x2A40 0x08 + 1) % 2 ^ 32 ∧
      u.leash = { s.leash with passingUntil := max s.now t + 40000 } ∧ Touches [.leash] [(0x2A40, 8)] (s.advance t) u) ∧
  (∀ (t due : Nat) (syn : Bool) (msg : List Byte) (s : State),
    leashForwards s = true → leashGood msg = true → byteAt msg 1 / 16 = 1 → byteAt msg 1 % 16 ≠ ownPosition s → leashActs s = true →
    due = max s.now t - 800000 + (2000000 - pathFrom s (byteAt msg 1 % 16) (ownPosition s)) → max s.now t + 20000 ≤ due →
    Answers (.leashMessageRx t syn msg) s fun u =>
      Out.leash syn msg ∈ u.outs ∧ u.ro 0x2A40 0x07 = (s.ro 0x2A40 0x07 + 1) % 2 ^ 32 ∧
      u.leash.acts = s.leash.acts ++
        [(due, ⟨t96Near (s.advance t).t96 (beAt msg 3 8), 0xFFFE, 0, byteAt msg 2, byteAt msg 1 % 16, 0⟩, false)] ∧
      Touches [.leash] [(0x2A40, 7)] (s.advance t) u) ∧
  (∀ (t due : Nat) (syn : Bool) (msg : List Byte) (s : State),
    leashForwards s = true → leashGood msg = true → byteAt msg 1 / 16 = 1 → byteAt msg 1 % 16 ≠ ownPosition s → leashActs s = true →
    due = max s.now t - 800000 + (2000000 - pathFrom s (byteAt msg 1 % 16) (ownPosition s)) → due < max s.now t + 20000 →
    Answers (.leashMessageRx t syn msg) s fun u =>
      Out.leash syn msg ∈ u.outs ∧ u.ro 0x2A40 0x07 = (s.ro 0x2A40 0x07 + 1) % 2 ^ 32 ∧
      u.ro 0x2A40 0x09 = (s.ro 0x2A40 0x09 + 1) % 2 ^ 32 ∧ u.leash.acts = s.leash.acts) ∧
  (∀ (t : Nat) (syn : Bool) (msg : List Byte) (s : State),
    leashForwards s = true → leashGood msg = true → leashEnabled s = true → leashHead s = false → s.dev ≠ stSafeTalk → byteAt msg 1 / 16 = 3 →
    Answers (.leashMessageRx t syn msg) s fun u =>
      ownPosition u = (byteAt msg 10 % 16 + 1) % 16 ∧ leashState u = 1 ∧ Touches [.leash] [(0x2A11, 1), (0x2A11, 2)] (s.advance t) u) ∧
  (∀ (t : Nat) (syn : Bool) (msg : List Byte) (s : State),
    leashForwards s = true → leashGood msg = true → leashEnabled s = true → leashHead s = false → s.dev ≠ stSafeTalk → byteAt msg 1 / 16 = 4 →
    Answers (.leashMessageRx t syn msg) s fun u =>
      Out.leash syn msg ∈ u.outs ∧ u.ro 0x2A11 0x04 (byteAt msg 10) = beAt msg 3 4 ∧
      u.ro 0x2A11 0x03 = max (s.ro 0x2A11 0x03) (if leashRing s then byteAt msg 10 + 1 else byteAt msg 10 + 2) ∧
      Touches [.leash] [(0x2A11, 1), (0x2A11, 3), (0x2A11, 4), (0x2A11, 5)] (s.advance t) u) ∧
  (∀ (t : Nat) (syn : Bool) (msg : List Byte) (s : State),
    leashForwards s = false → Answers (.leashMessageRx t syn msg) s fun u => Touches [] [] (s.advance t) u) ∧
  (∀ (t a : Nat) (x : Trig) (s : State),
    s.leash.acts = [(a, x, false)] → a ≤ max s.now t → leashActs s = true → s.cfgB 0x2A10 0x04 = true → captureState s = 2 →
    recordState s = recArmed →
    Answers (.leashAct t) s fun u => u.leash.acts = [] ∧ u.ro 0x2A01 0x04 = (s.ro 0x2A01 0x04 + 1) % 2 ^ 32) ∧
  (∀ (t : Nat) (s : State),
    (leashActs s = false ∨ s.leash.acts.all (fun a => decide (max s.now t < a.1)) = true) →
    Answers (.leashAct t) s fun u =>
      u.leash = { s.leash with acts := s.leash.acts.filter fun a => a.1 > max s.now t } ∧ Touches [.leash] [] (s.advance t) u)

/-- While the engine runs, THERMISTOR_UPDATE takes the temperature of every channel whose sensor is valid; TEMPERATURE_TIMEOUT of a channel
without a valid temperature for the timeout holds the last one; DEMAND_INTERVAL_END of a metered feeder whose samples have passed its
boundary writes the interval's record, advances its index and starts the next interval at the last boundary passed; ENERGY_SAVE, 1 s after
the last with the MRAM present, writes a complete save ahead of the newest one kept and counts in 0x2B21:02. While the engine does not run,
and for the timeout and the save before their instant, nothing changes. 0x2B30:01 Take snapshot, accepted, is answered OK and waits for the
next sample, or is answered 0x06 while one is pending; 0x2B30:02 Clear energy registers, accepted, while the engine runs, is answered OK and
waits for the next sample; 0x2B30:03 Acknowledge wraps and 0x2B30:04 Reset maximum demand of a feeder, accepted, are answered OK: the
feeder's wrap marks and its maxima are gone at once. -/
def Obligations.EnergyIsSavedSnapshotAndCleared : Prop :=
  (∀ (t : Nat) (s : State),
    energyRuns s = true →
    Answers (.thermistorUpdate t) s fun u =>
      (∀ c ∈ List.range 24, s.cfg 0x2B02 0x01 c ≠ 0xFF → bit (s.ro 0x2E10 0x03 (s.cfg 0x2B02 0x01 c)) 0 = false →
        u.therm c = ⟨s.ro 0x2E10 0x01 (s.cfg 0x2B02 0x01 c), max s.now t, true, false⟩ ∧
        u.ro 0x2B20 0x02 c = toF32 (f32 (s.ro 0x2E10 0x01 (s.cfg 0x2B02 0x01 c)))) ∧
      Touches [.energy] [(0x2B20, 2), (0x2B20, 3), (0x2B20, 4)] (s.advance t) u) ∧
  (∀ (t : Nat) (s : State),
    energyRuns s = false → Answers (.thermistorUpdate t) s fun u => Touches [] [] (s.advance t) u) ∧
  (∀ (t c : Nat) (s : State),
    energyRuns s = true → c < 24 → s.cfg 0x2B02 0x01 c ≠ 0xFF → bit (s.ro 0x2E10 0x03 (s.cfg 0x2B02 0x01 c)) 0 = true → (s.therm c).held = false →
    Nat.max (s.therm c).validAt s.power.startAt + sec (s.cfg 0x2B00 0x05) ≤ max s.now t →
    Answers (.temperatureTimeout t c) s fun u => u.therm c = { s.therm c with held := true } ∧ Touches [.energy] [] (s.advance t) u) ∧
  (∀ (t c : Nat) (s : State),
    (energyRuns s = false ∨ 24 ≤ c ∨ s.cfg 0x2B02 0x01 c = 0xFF ∨ bit (s.ro 0x2E10 0x03 (s.cfg 0x2B02 0x01 c)) 0 = false ∨ (s.therm c).held = true ∨
      max s.now t < Nat.max (s.therm c).validAt s.power.startAt + sec (s.cfg 0x2B00 0x05)) →
    Answers (.temperatureTimeout t c) s fun u => Touches [] [] (s.advance t) u) ∧
  (∀ (t f at_ d : Nat) (iv : Interval) (s : State),
    energyRuns s = true → s.time.isSet = true → f < 4 → (s.meter f).metering = true → lookup f s.energy.regs.intervals = some iv →
    at_ = sampleInstant (s.advance t) (6 * f) (delay128 s) → d = demandLength (s.advance t) at_ → iv.boundary ≤ at_ →
    Answers (.demandIntervalEnd t) s fun u =>
      tabGet 0 u.energy.regs.index f = (tabGet 0 s.energy.regs.index f + 1) % 2 ^ 32 ∧
      lookup (96 * f + tabGet 0 s.energy.regs.index f % 96) u.energy.regs.demand = some (demandRecord iv iv.boundary iv.flags
        (((totalLine s f).zip iv.base).map fun e => ((e.1 + 2 ^ 96 - e.2) % 2 ^ 96) / 2 ^ 32)) ∧
      lookup f u.energy.regs.intervals =
        some ⟨at_ / demandUnits d * demandUnits d, d, totalLine s f, 0, at_ / demandUnits d * demandUnits d⟩ ∧
      Touches [.energy] [] (s.advance t) u) ∧
  (∀ (t : Nat) (s : State),
    (energyRuns s = false ∨ s.time.isSet = false) → Answers (.demandIntervalEnd t) s fun u => Touches [] [] (s.advance t) u) ∧
  (∀ (t : Nat) (s : State),
    energyRuns s = true → s.power.mramLost = false → s.energy.lastSave + sec 1 ≤ max s.now t →
    Answers (.energySave t) s fun u =>
      u.energy.saves.head?.map (·.regs) = some s.energy.regs ∧ u.energy.saves.tail = s.energy.saves.take 1 ∧
      u.energy.lastSave = max s.now t ∧ u.ro 0x2B21 0x02 = (s.ro 0x2B21 0x02 + 1) % 2 ^ 32 ∧
      Touches [.energy] [(0x2B21, 2)] (s.advance t) u) ∧
  (∀ (t : Nat) (s : State),
    (energyRuns s = false ∨ s.power.mramLost = true ∨ max s.now t < s.energy.lastSave + sec 1) →
    Answers (.energySave t) s fun u => Touches [] [] (s.advance t) u) ∧
  (∀ (t : Nat) (who : Who) (s : State),
    AcceptedPlain 0x2B30 0x01 who (s.advance t) → s.energy.snapshotDue = false →
    Answers (.takeSnapshot t who) s fun u =>
      Answered who 0 u ∧ u.energy = { s.energy with snapshotDue := true } ∧
      Touches [.energy, .imian] [(0x1120, 1), (0x1120, 2)] (s.advance t) u) ∧
  (∀ (t : Nat) (who : Who) (s : State),
    AcceptedPlain 0x2B30 0x01 who (s.advance t) → s.energy.snapshotDue = true →
    Answers (.takeSnapshot t who) s fun u => Answered who 6 u ∧ Touches [.imian] [(0x1120, 1), (0x1120, 2)] (s.advance t) u) ∧
  (∀ (t f : Nat) (who : Who) (s : State),
    Accepted 0x2B30 0x02 f (.num 0) who (s.advance t) → energyRuns s = true →
    Answers (.clearEnergyRegisters t who f) s fun u =>
      Answered who 0 u ∧ f ∈ u.energy.clearsDue ∧ u.energy.regs = s.energy.regs ∧
      Touches [.energy, .imian] [(0x1120, 1), (0x1120, 2)] (s.advance t) u) ∧
  (∀ (t f : Nat) (who : Who) (s : State),
    Accepted 0x2B30 0x03 f (.num 0) who (s.advance t) →
    Answers (.acknowledgeWraps t who f) s fun u =>
      Answered who 0 u ∧ u.energy.regs = { s.energy.regs with wrapped := s.energy.regs.wrapped.filter fun k => k / 32 != f } ∧
      Touches [.energy, .imian] [(0x1120, 1), (0x1120, 2)] (s.advance t) u) ∧
  (∀ (t f : Nat) (who : Who) (s : State),
    Accepted 0x2B30 0x04 f (.num 0) who (s.advance t) →
    Answers (.resetMaximumDemand t who f) s fun u =>
      Answered who 0 u ∧ u.energy.regs = { s.energy.regs with maxima := s.energy.regs.maxima.filter fun e => e.1 / 8 != f } ∧
      Touches [.energy, .imian] [(0x1120, 1), (0x1120, 2)] (s.advance t) u)

/-- For a user job in RUN or TRIM: its enable, an accepted WRITE, without pending flags, is answered OK and kept: 1 takes it from OFF to
STARTING with no due instant taken, 0 from ON to OFF, or to STOPPING while it runs; in STARTING 0 makes a disable pending, in STOPPING 1 an
enable. JOB_DUE of an ON or STARTING job at a due instant not yet taken makes it ON and ready and shows the due instant; where its last run
has not ended it is an overrun, counted in 0x2C10:02; where a disable is pending it is OFF. JOB_DISPATCH of a ready job that no other ready
job precedes starts it on its preferred core when that is idle, or in place of a running job of lower priority, which is ready again,
counted in its 0x2C10:08. JOB_WAIT_EXPIRY after two ticks starts it on the first idle core of its mask, when no ready job that is taken
before it can take that core; with every core busy at its priority or above it waits for the first to become free. JOB_RUN_END ends a run,
counts in 0x2C10:01, and shows its due instant and, of kinds 1 to 5, its result; a STOPPING job is then OFF, or STARTING where an enable is
pending. 0x2C30:02 Run job now, accepted for a job in use whose run has ended, is answered OK and makes it ready now; otherwise it is
answered 0x05 (a row of no user job) or 0x06. Where none of this applies, nothing changes. -/
def Obligations.JobsRun : Prop :=
  (∀ (t j : Nat) (on : Bool) (who : Who) (s : State),
    s.running = true → AcceptedWrite 0x2C01 0x0A j (.num (b2n on)) who (s.advance t) → (s.job j).state ≤ 3 → s.fourFlag (fnJob j) = (false, false) →
    Answers (.jobEnable t who j on) s fun u =>
      Answered who 0 u ∧ u.rw 0x2C01 0x0A j = b2n on ∧
      (u.job j).state = (if (s.job j).state = 0 ∧ on = true then 1
        else if (s.job j).state = 2 ∧ on = false then (if (s.job j).run = none then 0 else 3) else (s.job j).state) ∧
      u.fourFlag (fnJob j) = ((s.job j).state == 3 && on, (s.job j).state == 1 && !on) ∧
      ((s.job j).state = 0 → on = true → (u.job j).lastDue = none) ∧
      Touches [.live, .jobs, .power, .imian] [(0x1120, 1), (0x1120, 2)] (s.advance t) u) ∧
  (∀ (t j : Nat) (on : Bool) (who : Who) (s : State),
    s.running = false → AcceptedWrite 0x2C01 0x0A j (.num (b2n on)) who (s.advance t) →
    Answers (.jobEnable t who j on) s fun u =>
      Answered who 0 u ∧ u.rw 0x2C01 0x0A j = b2n on ∧ Touches [.live, .imian] [(0x1120, 1), (0x1120, 2)] (s.advance t) u) ∧
  (∀ (t j n due ago : Nat) (s : State),
    s.running = true → j < 3840 → jobKind s j ≠ 0 →
    ((s.job j).state = 2 ∨ ((s.job j).state = 1 ∧ (s.fourFlag (fnJob j)).2 = false)) → (s.job j).run = none →
    latestDue (s.advance t) j = some (n, due) → ago = t96ToPs ((s.advance t).t96 - due) →
    dueTaken s j n = false → (s.job j).notBefore + ago ≤ max s.now t →
    Answers (.jobDue t j) s fun u =>
      u.job j = { s.job j with
        state := 2, lastDue := some n,
        run := some ⟨due, max s.now t - ago, tickAt (s.advance t) ago, none, none, false, (s.advance t).gatFlags, false, 0⟩ } ∧
      u.ro 0x2C10 0x05 j = due ∧ Touches [.jobs, .power] [(0x2C10, 5)] (s.advance t) u) ∧
  (∀ (t j n due ago : Nat) (s : State),
    s.running = true → j < 3840 → jobKind s j ≠ 0 → (s.job j).state = 2 → (s.job j).run ≠ none →
    latestDue (s.advance t) j = some (n, due) → ago = t96ToPs ((s.advance t).t96 - due) →
    dueTaken s j n = false → (s.job j).notBefore + ago ≤ max s.now t →
    Answers (.jobDue t j) s fun u =>
      u.job j = { s.job j with lastDue := some n, overrun := true } ∧ u.ro 0x2C10 0x05 j = due ∧
      u.ro 0x2C10 0x02 j = (s.ro 0x2C10 0x02 j + 1) % 2 ^ 32) ∧
  (∀ (t j n due ago : Nat) (s : State),
    s.running = true → j < 3840 → jobKind s j ≠ 0 → (s.job j).state = 1 → (s.fourFlag (fnJob j)).2 = true → (s.job j).run = none →
    latestDue (s.advance t) j = some (n, due) → ago = t96ToPs ((s.advance t).t96 - due) →
    dueTaken s j n = false → (s.job j).notBefore + ago ≤ max s.now t →
    Answers (.jobDue t j) s fun u =>
      (u.job j).state = 0 ∧ (u.job j).run = none ∧ u.fourFlag (fnJob j) = (false, false) ∧ Touches [.jobs, .power] [] (s.advance t) u) ∧
  (∀ (t j : Nat) (s : State),
    (s.running = false ∨ 3840 ≤ j ∨ jobKind s j = 0 ∨ (s.job j).state = 0 ∨ (s.job j).state = 3 ∨ latestDue (s.advance t) j = none ∨
      (latestDue (s.advance t) j).any (fun e => dueTaken s j e.1) = true) →
    Answers (.jobDue t j) s fun u => Touches [] [] (s.advance t) u) ∧
  (∀ (t j c : Nat) (r : Run) (s : State),
    s.running = true → j < 3840 → (s.job j).run = some r → r.core = none → r.anyCore = false → preferredCore s j = some c → runningOn s c = none →
    firstFor s j c = true →
    Answers (.jobDispatch t j) s fun u =>
      (u.job j).run = some { r with core := some c, firstDispatch := some (r.firstDispatch.getD (max s.now t)), since := max s.now t } ∧
      j ∉ u.jobs.preempted ∧ Touches [.jobs] [(0x2C10, 3)] (s.advance t) u) ∧
  (∀ (t j k c : Nat) (r q : Run) (s : State),
    s.running = true → j < 3840 → k < 3840 → (s.job j).run = some r → r.core = none → r.anyCore = false → preferredCore s j = some c →
    runningOn s c = some k → k ≠ j → (s.job k).run = some q → jobPriority s k < jobPriority s j → firstFor s j c = true →
    Answers (.jobDispatch t j) s fun u =>
      (u.job j).run = some { r with core := some c, firstDispatch := some (r.firstDispatch.getD (max s.now t)), since := max s.now t } ∧
      (u.job k).run = some { q with core := none, waitFrom := tickIndex (s.advance t), anyCore := false } ∧ k ∈ u.jobs.preempted ∧
      u.ro 0x2C10 0x08 k = (s.ro 0x2C10 0x08 k + 1) % 2 ^ 32 ∧ Touches [.jobs] [(0x2C10, 3), (0x2C10, 8)] (s.advance t) u) ∧
  (∀ (t j : Nat) (s : State),
    (s.running = false ∨ (s.job j).run.all (fun r => r.core.isSome) = true) →
    Answers (.jobDispatch t j) s fun u => Touches [] [] (s.advance t) u) ∧
  (∀ (t j c : Nat) (r : Run) (s : State),
    s.running = true → j < 3840 → (s.job j).run = some r → r.core = none → 2 ≤ ticksSince (s.advance t) r.waitFrom →
    (coresOf s (jobMask s j)).find? (fun c => (runningOn s c).isNone) = some c → firstFor s j c = true →
    Answers (.jobWaitExpiry t j) s fun u =>
      (u.job j).run = some { r with core := some c, firstDispatch := some (r.firstDispatch.getD (max s.now t)), anyCore := false, since := max s.now t } ∧
      Touches [.jobs] [(0x2C10, 3), (0x2C10, 7)] (s.advance t) u) ∧
  (∀ (t j : Nat) (r : Run) (s : State),
    s.running = true → (s.job j).run = some r → r.core = none → 2 ≤ ticksSince (s.advance t) r.waitFrom → coresOf s (jobMask s j) ≠ [] →
    (coresOf s (jobMask s j)).all (fun c => (runningOn s c).any fun k => decide (jobPriority s j ≤ jobPriority s k)) = true →
    Answers (.jobWaitExpiry t j) s fun u =>
      u.job j = { s.job j with run := some { r with anyCore := true } } ∧ Touches [.jobs] [] (s.advance t) u) ∧
  (∀ (t j : Nat) (s : State),
    (s.running = false ∨ (s.job j).run.all (fun r => r.core.isSome || decide (ticksSince (s.advance t) r.waitFrom < 2)) = true) →
    Answers (.jobWaitExpiry t j) s fun u => Touches [] [] (s.advance t) u) ∧
  (∀ (t j c : Nat) (r : Run) (s : State),
    j < 3840 → (s.job j).run = some r → r.core = some c → (s.job j).state ≠ 3 →
    Answers (.jobRunEnd t j) s fun u =>
      u.job j = { s.job j with run := none, preferred := some c, overrun := false } ∧
      u.ro 0x2C10 0x01 j = (s.ro 0x2C10 0x01 j + 1) % 2 ^ 64 ∧ u.ro 0x2C20 0x03 j = r.due ∧
      (jobKind s j ≠ 6 → u.ro 0x2C20 0x01 j = ((jobResult s j r.due).value.map toF32).getD nanF32)) ∧
  (∀ (t j c : Nat) (r : Run) (s : State),
    j < 3840 → (s.job j).run = some r → r.core = some c → (s.job j).state = 3 →
    Answers (.jobRunEnd t j) s fun u =>
      (u.job j).run = none ∧ (u.job j).state = b2n (s.fourFlag (fnJob j)).1 ∧ u.fourFlag (fnJob j) = (false, false) ∧
      u.ro 0x2C10 0x01 j = (s.ro 0x2C10 0x01 j + 1) % 2 ^ 64 ∧ u.ro 0x2C20 0x03 j = r.due) ∧
  (∀ (t j : Nat) (s : State),
    (s.job j).run.all (fun r => r.core.isNone) = true → Answers (.jobRunEnd t j) s fun u => Touches [] [] (s.advance t) u) ∧
  (∀ (t j : Nat) (who : Who) (s : State),
    Accepted 0x2C30 0x02 j (.num 0) who (s.advance t) → j < 3840 → jobKind s j ≠ 0 → (s.job j).run = none →
    Answers (.runJobNow t who j) s fun u =>
      Answered who 0 u ∧
      u.job j = { s.job j with run := some ⟨(s.advance t).t96, max s.now t, tickIndex (s.advance t), none, none, true, (s.advance t).gatFlags, false, 0⟩ } ∧
      Touches [.jobs, .imian] [(0x1120, 1), (0x1120, 2)] (s.advance t) u) ∧
  (∀ (t j : Nat) (who : Who) (s : State),
    Accepted 0x2C30 0x02 j (.num 0) who (s.advance t) → (3840 ≤ j ∨ jobKind s j = 0 ∨ (s.job j).run ≠ none) →
    Answers (.runJobNow t who j) s fun u =>
      Answered who (if 3840 ≤ j then 5 else 6) u ∧ Touches [.imian] [(0x1120, 1), (0x1120, 2)] (s.advance t) u)

/-- Every operation, from a requester that does not reach the device or over CAN, changes nothing; with a request ID and body answered before,
it gets the kept response and counts in 0x1120:06; malformed, or brought by a row of another operation, it is answered 0x0C, and with
reserved header bits 0x05, and executes nothing. Else, with a clean header: IMIAN_READ of one item is answered with the rows' value where
the item passes its checks, and with its status where not. IMIAN_WRITE of one row that passes stores it in the shadow (an object of the
configuration set) or live (any other, but the pulse rows); with any item refused it stores nothing. READ_SEG that passes is answered with
the segment, the size and the generation. WRITE_SEG of a first and last segment of an object of the set leaves exactly its data in the
shadow; of a first segment alone it keeps the data in a transfer; refused, it stores nothing. SUBSCRIBE of one item over DTLS, not
cancelling, leaves a subscription of that object and mode in the session; cancelling, it leaves none of that object; refused, it leaves them
as they were. SUMMARY is answered with the summary taken now by a Viewer or better, with 0x02 by another role, with 0x0D where it is not
offered. -/
def Obligations.ImianOperationsAreAnswered : Prop :=
  (∀ (t : Nat) (who : Who) (m : List Byte) (c : Instr) (s : State),
    c ∈ [.imianRead t who m, .imianWrite t who m, .readSeg t who m, .writeSeg t who m, .subscribe t who m, .summary t who m] →
    ((s.advance t).reaches who = false ∨ (match who with | .can _ => true | _ => false) = true) →
    Answers c s fun u => Touches [] [] (s.advance t) u) ∧
  (∀ (t : Nat) (who : Who) (m : List Byte) (k : Kept) (c : Instr) (s : State),
    c ∈ [.imianRead t who m, .imianWrite t who m, .readSeg t who m, .writeSeg t who m, .subscribe t who m, .summary t who m] →
    (s.advance t).reaches who = true → (match who with | .can _ => false | _ => true) = true →
    (keptOf s who).find? (fun k => k.id == numAt (who == .mailbox) m 4 4 && k.body == m.drop 16) = some k →
    Answers c s fun u =>
      Out.response who k.answer ∈ u.outs ∧ u.ro 0x1120 0x06 = (s.ro 0x1120 0x06 + 1) % 2 ^ 32 ∧
      Touches [.imian, .port] [(0x1120, 6), (0x2120, 0x12), (0x2111, 3)] (s.advance t) u) ∧
  (∀ (t op : Nat) (who : Who) (m : List Byte) (c : Instr) (s : State),
    (op, c) ∈ [(1, .imianRead t who m), (2, .imianWrite t who m), (3, .readSeg t who m), (4, .writeSeg t who m), (6, .subscribe t who m),
      (7, .summary t who m)] →
    (s.advance t).reaches who = true → (match who with | .can _ => false | _ => true) = true →
    (keptOf s who).find? (fun k => k.id == numAt (who == .mailbox) m 4 4 && k.body == m.drop 16) = none →
    (byteAt m 1 ≠ op ∨ (messageItems (who == .mailbox) m).isNone = true ∨ byteAt m 2 ≠ 0 ∨ numAt (who == .mailbox) m 10 2 ≠ 0) →
    Answers c s fun u =>
      Out.response who (messageBytes (who == .mailbox) (byteAt m 1) 0x80
        (if byteAt m 1 ≠ op ∨ (messageItems (who == .mailbox) m).isNone = true then 0x0C else 0x05) (numAt (who == .mailbox) m 4 4) 0 []) ∈ u.outs ∧
      Touches [.imian, .port] [(0x1120, 1), (0x1120, 2), (0x2120, 0x12), (0x2111, 3)] (s.advance t) u) ∧
  (∀ (t : Nat) (who : Who) (m v : List Byte) (i : Item) (o : ObjRow) (s s' : State),
    (s.advance t).reaches who = true → (match who with | .can _ => false | _ => true) = true →
    (keptOf s who).find? (fun k => k.id == numAt (who == .mailbox) m 4 4 && k.body == m.drop 16) = none → byteAt m 1 = 1 → byteAt m 2 = 0 →
    numAt (who == .mailbox) m 10 2 = 0 →
    messageItems (who == .mailbox) m = some [i] → readItemStatus (s.advance t) who i = 0 → findObj i.idx i.sub = some o →
    readRows (who == .mailbox) i.shadow o i.count i.row (s.advance t) = (s', v) →
    16 + (i.bytes (who == .mailbox) o.ty.code 0 v).length ≤ 8192 →
    Answers (.imianRead t who m) s fun u =>
      Out.response who (messageBytes (who == .mailbox) 1 0x80 0 (numAt (who == .mailbox) m 4 4) 1 (i.bytes (who == .mailbox) o.ty.code 0 v)) ∈ u.outs) ∧
  (∀ (t : Nat) (who : Who) (m : List Byte) (i : Item) (s : State),
    (s.advance t).reaches who = true → (match who with | .can _ => false | _ => true) = true →
    (keptOf s who).find? (fun k => k.id == numAt (who == .mailbox) m 4 4 && k.body == m.drop 16) = none → byteAt m 1 = 1 → byteAt m 2 = 0 →
    numAt (who == .mailbox) m 10 2 = 0 →
    messageItems (who == .mailbox) m = some [i] → readItemStatus (s.advance t) who i ≠ 0 →
    Answers (.imianRead t who m) s fun u =>
      Out.response who (messageBytes (who == .mailbox) 1 0x80 (readItemStatus (s.advance t) who i) (numAt (who == .mailbox) m 4 4) 1
        (i.bytes (who == .mailbox) i.code (readItemStatus (s.advance t) who i) [])) ∈ u.outs ∧
      Touches [.imian, .port] [(0x1120, 1), (0x1120, 2), (0x2120, 0x12), (0x2111, 3)] (s.advance t) u) ∧
  (∀ (t : Nat) (who : Who) (m : List Byte) (v : Val) (i : Item) (s : State),
    (s.advance t).reaches who = true → (match who with | .can _ => false | _ => true) = true →
    (keptOf s who).find? (fun k => k.id == numAt (who == .mailbox) m 4 4 && k.body == m.drop 16) = none → byteAt m 1 = 2 → byteAt m 2 = 0 →
    numAt (who == .mailbox) m 10 2 = 0 →
    messageItems (who == .mailbox) m = some [i] → i.count = 1 → i.values (who == .mailbox) = some [v] →
    writeItemStatus (s.advance t) who (who == .mailbox) i = 0 → isSetObject i.idx i.sub = true →
    Answers (.imianWrite t who m) s fun u =>
      readIn u.shadow i.idx i.sub i.row = v ∧ u.active = s.active ∧ shadowState u = 1 ∧
      Touches [.shadow, .imian, .port] [(0x1200, 5), (0x1200, 6), (0x1120, 1), (0x1120, 2), (0x2120, 0x12), (0x2111, 3)] (s.advance t) u) ∧
  (∀ (t : Nat) (who : Who) (m : List Byte) (v : Val) (i : Item) (s : State),
    (s.advance t).reaches who = true → (match who with | .can _ => false | _ => true) = true →
    (keptOf s who).find? (fun k => k.id == numAt (who == .mailbox) m 4 4 && k.body == m.drop 16) = none → byteAt m 1 = 2 → byteAt m 2 = 0 →
    numAt (who == .mailbox) m 10 2 = 0 →
    messageItems (who == .mailbox) m = some [i] → i.count = 1 → i.values (who == .mailbox) = some [v] →
    writeItemStatus (s.advance t) who (who == .mailbox) i = 0 → isSetObject i.idx i.sub = false → i.idx ≠ 0x2020 →
    Answers (.imianWrite t who m) s fun u =>
      readIn u.live i.idx i.sub i.row = v ∧ u.shadow = s.shadow ∧ u.active = s.active) ∧
  (∀ (t : Nat) (who : Who) (m : List Byte) (l : List Item) (s : State),
    (s.advance t).reaches who = true → (match who with | .can _ => false | _ => true) = true →
    (keptOf s who).find? (fun k => k.id == numAt (who == .mailbox) m 4 4 && k.body == m.drop 16) = none → byteAt m 1 = 2 → byteAt m 2 = 0 →
    numAt (who == .mailbox) m 10 2 = 0 →
    messageItems (who == .mailbox) m = some l → l.any (fun i => writeItemStatus (s.advance t) who (who == .mailbox) i != 0) = true →
    Answers (.imianWrite t who m) s fun u =>
      Touches [.imian, .port] [(0x1120, 1), (0x1120, 2), (0x2120, 0x12), (0x2111, 3)] (s.advance t) u) ∧
  (∀ (t size gen : Nat) (who : Who) (m d : List Byte) (i : Item) (o : ObjRow) (s s' : State),
    (s.advance t).reaches who = true → (match who with | .can _ => false | _ => true) = true →
    (keptOf s who).find? (fun k => k.id == numAt (who == .mailbox) m 4 4 && k.body == m.drop 16) = none → byteAt m 1 = 3 → byteAt m 2 = 0 →
    numAt (who == .mailbox) m 10 2 = 0 →
    messageItems (who == .mailbox) m = some [i] → i.value.length = 16 → findObj i.idx i.sub = some o →
    segReadStatus (s.advance t) who i (numAt (who == .mailbox) i.value 8 4) 4096 = 0 →
    readSegment (who == .mailbox) i.shadow o i.row (numAt (who == .mailbox) i.value 0 8) (numAt (who == .mailbox) i.value 8 4)
      (numAt (who == .mailbox) i.value 12 4) (s.advance t) = (s', 0, size, gen, d) →
    Answers (.readSeg t who m) s fun u =>
      Out.response who (messageBytes (who == .mailbox) 3 0x80 0 (numAt (who == .mailbox) m 4 4) 1 (i.bytes (who == .mailbox) i.code 0
        (numTo (who == .mailbox) 8 (numAt (who == .mailbox) i.value 0 8) ++ numTo (who == .mailbox) 4 d.length ++
         numTo (who == .mailbox) 8 size ++ numTo (who == .mailbox) 4 gen ++ d))) ∈ u.outs) ∧
  (∀ (t : Nat) (who : Who) (m : List Byte) (i : Item) (o : ObjRow) (s : State),
    (s.advance t).reaches who = true → (match who with | .can _ => false | _ => true) = true →
    (keptOf s who).find? (fun k => k.id == numAt (who == .mailbox) m 4 4 && k.body == m.drop 16) = none → byteAt m 1 = 4 → byteAt m 2 = 0 →
    numAt (who == .mailbox) m 10 2 = 0 →
    messageItems (who == .mailbox) m = some [i] → 20 ≤ i.value.length → findObj i.idx i.sub = some o → isSetObject i.idx i.sub = true →
    o.idx = i.idx → o.sub = i.sub → i.idx ≠ 0x3110 → numAt (who == .mailbox) i.value 12 4 = 3 →
    segWriteStatus (s.advance t) who i (numAt (who == .mailbox) i.value 8 4) 3 = 0 →
    segWriteRefused (s.advance t) who o i.row (numAt (who == .mailbox) i.value 0 8) (numAt (who == .mailbox) i.value 16 4) true (i.value.drop 20) = 0 →
    inRange o (.oct (i.value.drop 20)) = true →
    Answers (.writeSeg t who m) s fun u =>
      readIn u.shadow i.idx i.sub i.row = .oct (i.value.drop 20) ∧ u.active = s.active ∧ shadowState u = 1 ∧
      Touches [.shadow, .imian, .port] [(0x1200, 5), (0x1200, 6), (0x1120, 1), (0x1120, 2), (0x2120, 0x12), (0x2111, 3)] (s.advance t) u) ∧
  (∀ (t : Nat) (who : Who) (m : List Byte) (i : Item) (o : ObjRow) (s : State),
    (s.advance t).reaches who = true → (match who with | .can _ => false | _ => true) = true →
    (keptOf s who).find? (fun k => k.id == numAt (who == .mailbox) m 4 4 && k.body == m.drop 16) = none → byteAt m 1 = 4 → byteAt m 2 = 0 →
    numAt (who == .mailbox) m 10 2 = 0 →
    messageItems (who == .mailbox) m = some [i] → 20 ≤ i.value.length → findObj i.idx i.sub = some o → o.idx = i.idx → o.sub = i.sub →
    i.idx ≠ 0x3110 → numAt (who == .mailbox) i.value 12 4 = 1 →
    segWriteStatus (s.advance t) who i (numAt (who == .mailbox) i.value 8 4) 1 = 0 →
    segWriteRefused (s.advance t) who o i.row (numAt (who == .mailbox) i.value 0 8) (numAt (who == .mailbox) i.value 16 4) true (i.value.drop 20) = 0 →
    Answers (.writeSeg t who m) s fun u =>
      transferOn u (okey i.idx i.sub i.row) = some ⟨okey i.idx i.sub i.row, who, i.value.drop 20, max s.now t⟩ ∧
      Touches [.imian, .port] [(0x1120, 1), (0x1120, 2), (0x2120, 0x12), (0x2111, 3)] (s.advance t) u) ∧
  (∀ (t : Nat) (who : Who) (m : List Byte) (i : Item) (s : State),
    (s.advance t).reaches who = true → (match who with | .can _ => false | _ => true) = true →
    (keptOf s who).find? (fun k => k.id == numAt (who == .mailbox) m 4 4 && k.body == m.drop 16) = none → byteAt m 1 = 4 → byteAt m 2 = 0 →
    numAt (who == .mailbox) m 10 2 = 0 → messageItems (who == .mailbox) m = some [i] →
    (i.value.length < 20 ∨
      segWriteStatus (s.advance t) who i (numAt (who == .mailbox) i.value 8 4) (numAt (who == .mailbox) i.value 12 4) ≠ 0 ∨
      (findObj i.idx i.sub).any (fun o => segWriteRefused (s.advance t) who o i.row (numAt (who == .mailbox) i.value 0 8)
        (numAt (who == .mailbox) i.value 16 4) (bit (numAt (who == .mailbox) i.value 12 4) 0) (i.value.drop 20) != 0) = true) →
    Answers (.writeSeg t who m) s fun u =>
      u.imian.transfers = s.imian.transfers ∧
      Touches [.imian, .port] [(0x1120, 1), (0x1120, 2), (0x2120, 0x12), (0x2111, 3)] (s.advance t) u) ∧
  (∀ (t n : Nat) (m : List Byte) (i : Item) (s : State),
    (s.advance t).reaches (.dtls n) = true → (keptOf s (.dtls n)).find? (fun k => k.id == numAt false m 4 4 && k.body == m.drop 16) = none →
    byteAt m 1 = 6 → byteAt m 2 = 0 → numAt false m 10 2 = 0 → messageItems false m = some [i] → subscribeStatus (s.advance t) n i = 0 →
    Answers (.subscribe t (.dtls n) m) s fun u =>
      (u.imian.subscriptions.any fun b => b.session == n && b.idx == i.idx && b.sub == i.sub && b.row == i.row && b.count == i.count &&
        (b.mode == byteAt i.value 0 || byteAt i.value 0 == 2)) = (byteAt i.value 0 != 2) ∧
      Touches [.imian, .port] [(0x1120, 1), (0x1120, 2), (0x2120, 0x12), (0x2111, 3)] (s.advance t) u) ∧
  (∀ (t n : Nat) (m : List Byte) (i : Item) (s : State),
    (s.advance t).reaches (.dtls n) = true → (keptOf s (.dtls n)).find? (fun k => k.id == numAt false m 4 4 && k.body == m.drop 16) = none →
    byteAt m 1 = 6 → byteAt m 2 = 0 → numAt false m 10 2 = 0 → messageItems false m = some [i] → subscribeStatus (s.advance t) n i ≠ 0 →
    Answers (.subscribe t (.dtls n) m) s fun u =>
      u.imian.subscriptions = s.imian.subscriptions ∧
      Touches [.imian, .port] [(0x1120, 1), (0x1120, 2), (0x2120, 0x12), (0x2111, 3)] (s.advance t) u) ∧
  (∀ (t : Nat) (who : Who) (m : List Byte) (s : State),
    (s.advance t).reaches who = true → (match who with | .can _ => false | _ => true) = true →
    (keptOf s who).find? (fun k => k.id == numAt (who == .mailbox) m 4 4 && k.body == m.drop 16) = none → byteAt m 1 = 7 → byteAt m 2 = 0 →
    numAt (who == .mailbox) m 10 2 = 0 →
    messageItems (who == .mailbox) m = some [] → offered (s.advance t) who .summary 0x1010 0x00 = true →
    roleHas (((s.advance t).roleOf who).getD 0) 1 = true →
    Answers (.summary t who m) s fun u =>
      Out.response who (messageBytes (who == .mailbox) 7 0x80 0 (numAt (who == .mailbox) m 4 4) 1
        ((⟨0x1010, 0, 0x0D, 0, noRow, 1, 0, 0, []⟩ : Item).bytes (who == .mailbox) 0x0D 0
          (summaryBytes (takeSummary (s.advance t)) (who == .mailbox)))) ∈ u.outs) ∧
  (∀ (t : Nat) (who : Who) (m : List Byte) (s : State),
    (s.advance t).reaches who = true → (match who with | .can _ => false | _ => true) = true →
    (keptOf s who).find? (fun k => k.id == numAt (who == .mailbox) m 4 4 && k.body == m.drop 16) = none → byteAt m 1 = 7 → byteAt m 2 = 0 →
    numAt (who == .mailbox) m 10 2 = 0 →
    messageItems (who == .mailbox) m = some [] →
    (offered (s.advance t) who .summary 0x1010 0x00 = false ∨ roleHas (((s.advance t).roleOf who).getD 0) 1 = false) →
    Answers (.summary t who m) s fun u =>
      Out.response who (messageBytes (who == .mailbox) 7 0x80 (if offered (s.advance t) who .summary 0x1010 0x00 = false then 0x0D else 2)
        (numAt (who == .mailbox) m 4 4) 0 []) ∈ u.outs ∧
      Touches [.imian, .port] [(0x1120, 1), (0x1120, 2), (0x2120, 0x12), (0x2111, 3)] (s.advance t) u)

/-- DTLS_HANDSHAKE while the service runs: a proved certificate, while a session is free, opens the lowest free session with the role and label
of the certificate's row, or counts in 0x1120:03 where its chain or its row is missing; one that proves nothing is counted there; past the
maximum of sessions it is counted in 0x1120:04 and answered with a close alert; while the service does not run nothing changes.
SESSION_IDLE_TIMEOUT of a session after the timeout, the client's close of an open session, and 0x1130:01 Close session, accepted for an
open session, end it with its subscriptions and transfers and event 0x1102 of cause 1, 0 and 2; a session in use, or none, is left, and
0x1130:01 of none is answered 0x06. SEGMENT_TRANSFER_TIMEOUT after 60 s drops the transfer of an object; of the update image, while
RECEIVING, the update fails with reason 8. SUBSCRIPTION_NOTIFY of a due subscription sends its NOTIFY under the next sequence number; of one
that is not due, or of none, nothing changes. -/
def Obligations.SessionsTransfersAndSubscriptionsEnd : Prop :=
  (∀ (t n : Nat) (peer cert : List Byte) (s : State),
    dtlsServes s = true → s.imian.sessions.length < s.cfg 0x1100 0x03 → (List.range 16).find? (fun n => (s.session n).isNone) = some n →
    Answers (.dtlsHandshake t peer cert true) s fun u =>
      if Config.chainValid (s.cfgBytes 0x1101 0x04) cert = true ∧ (credentialOf s cert).isSome = true then
        u.session n = some ⟨s.cfg 0x1101 0x02 ((credentialOf s cert).getD 0), peer, s.cfgBytes 0x1101 0x03 ((credentialOf s cert).getD 0),
          shownT96 (s.advance t), max s.now t, 0, []⟩ ∧ Touches [.imian, .live] [] (s.advance t) u
      else u.ro 0x1120 0x03 = (s.ro 0x1120 0x03 + 1) % 2 ^ 32 ∧ Touches [] [(0x1120, 3)] (s.advance t) u) ∧
  (∀ (t : Nat) (peer cert : List Byte) (s : State),
    dtlsServes s = true → s.imian.sessions.length < s.cfg 0x1100 0x03 →
    Answers (.dtlsHandshake t peer cert false) s fun u =>
      u.ro 0x1120 0x03 = (s.ro 0x1120 0x03 + 1) % 2 ^ 32 ∧ Touches [] [(0x1120, 3)] (s.advance t) u) ∧
  (∀ (t : Nat) (proved : Bool) (peer cert : List Byte) (s : State),
    dtlsServes s = true → s.cfg 0x1100 0x03 ≤ s.imian.sessions.length →
    Answers (.dtlsHandshake t peer cert proved) s fun u =>
      u.ro 0x1120 0x04 = (s.ro 0x1120 0x04 + 1) % 2 ^ 32 ∧ Out.closeAlert peer ∈ u.outs ∧
      Touches [.port] [(0x1120, 4), (0x2120, 0x12), (0x2111, 3)] (s.advance t) u) ∧
  (∀ (t : Nat) (proved : Bool) (peer cert : List Byte) (s : State),
    dtlsServes s = false → Answers (.dtlsHandshake t peer cert proved) s fun u => Touches [] [] (s.advance t) u) ∧
  (∀ (t n : Nat) (x : Session) (s : State),
    Room s → s.session n = some x → x.lastUse + sec (s.cfg 0x1100 0x04) ≤ max s.now t →
    Answers (.sessionIdleTimeout t n) s fun u =>
      u.session n = none ∧ u.imian.subscriptions = s.imian.subscriptions.filter (fun b => b.session != n) ∧
      u.imian.transfers.all (fun x => x.who != .dtls n) = true ∧ Posted 0x1102 (le 1 n ++ le 1 1) s u ∧
      (s.imian.transfers = [] → s.log.frozenBy ≠ some n → Touches [.imian, .live] [] (s.advance t) u)) ∧
  (∀ (t n : Nat) (s : State),
    (s.session n).all (fun x => decide (max s.now t < x.lastUse + sec (s.cfg 0x1100 0x04))) = true →
    Answers (.sessionIdleTimeout t n) s fun u => Touches [] [] (s.advance t) u) ∧
  (∀ (t n : Nat) (s : State),
    Room s → (s.session n).isSome = true →
    Answers (.sessionClosedByClient t n) s fun u =>
      u.session n = none ∧ u.imian.subscriptions = s.imian.subscriptions.filter (fun b => b.session != n) ∧
      u.imian.transfers.all (fun x => x.who != .dtls n) = true ∧ Posted 0x1102 (le 1 n ++ le 1 0) s u ∧
      (s.imian.transfers = [] → s.log.frozenBy ≠ some n → Touches [.imian, .live] [] (s.advance t) u)) ∧
  (∀ (t n : Nat) (s : State),
    s.session n = none → Answers (.sessionClosedByClient t n) s fun u => Touches [] [] (s.advance t) u) ∧
  (∀ (t n : Nat) (who : Who) (s : State),
    Room s → Accepted 0x1130 0x01 n (.num 0) who (s.advance t) → (s.session n).isSome = true →
    Answers (.closeSession t who n) s fun u =>
      Answered who 0 u ∧ u.session n = none ∧ u.imian.subscriptions = s.imian.subscriptions.filter (fun b => b.session != n) ∧
      u.imian.transfers.all (fun x => x.who != .dtls n) = true ∧ Posted 0x1102 (le 1 n ++ le 1 2) s u ∧
      (s.imian.transfers = [] → s.log.frozenBy ≠ some n → Touches [.imian, .live] [(0x1120, 1), (0x1120, 2)] (s.advance t) u)) ∧
  (∀ (t n : Nat) (who : Who) (s : State),
    Accepted 0x1130 0x01 n (.num 0) who (s.advance t) → s.session n = none →
    Answers (.closeSession t who n) s fun u => Answered who 6 u ∧ Touches [.imian] [(0x1120, 1), (0x1120, 2)] (s.advance t) u) ∧
  (∀ (t idx sub row : Nat) (s : State),
    okey idx sub row ≠ imageKey →
    Answers (.segmentTransferTimeout t idx sub row) s fun u =>
      u.imian.transfers = s.imian.transfers.filter (fun x => !(x.key == okey idx sub row && decide (x.lastSegment + sec 60 ≤ max s.now t))) ∧
      Touches [.imian] [] (s.advance t) u) ∧
  (∀ (t : Nat) (x : Transfer) (s : State),
    s.imian.transfers = [x] → x.key = imageKey → x.lastSegment + sec 60 ≤ max s.now t → receiving s = true →
    Answers (.segmentTransferTimeout t 0x3110 0x00 noRow) s fun u =>
      u.imian.transfers = [] ∧ updateState u = 3 ∧ u.ro 0x3111 0x03 = 8 ∧ u.ro 0x3140 0x03 = (s.ro 0x3140 0x03 + 1) % 2 ^ 32 ∧
      Touches [.imian] [(0x3111, 1), (0x3111, 3), (0x3140, 3)] (s.advance t) u) ∧
  (∀ (t n k : Nat) (b : Subscription) (s : State),
    (s.advance t).reaches (.dtls n) = true → s.imian.subscriptions.find? (fun b => b.session == n && b.number == k) = some b →
    notifyDue (s.advance t) b = true →
    Answers (.subscriptionNotify t n k) s fun u =>
      Out.notify n (notifyMessage (s.advance t) b) ∈ u.outs ∧
      (u.imian.subscriptions.any fun y => y.session == n && y.number == k && y.seq == (b.seq + 1) % 2 ^ 32 && y.notBefore == max s.now t + b.interval) =
        true ∧
      Touches [.imian, .port] [(0x2120, 0x12), (0x2111, 3)] (s.advance t) u) ∧
  (∀ (t n k : Nat) (s : State),
    ((s.advance t).reaches (.dtls n) = false ∨
      (s.imian.subscriptions.find? (fun b => b.session == n && b.number == k)).all (fun b => !notifyDue (s.advance t) b) = true) →
    Answers (.subscriptionNotify t n k) s fun u => Touches [] [] (s.advance t) u)

/-- MAILBOX_GO with the link up: neither BUSY nor RESPONSE, a request of 16 to 8,192 bytes that is no COMMAND, and the mailbox available:
RESPONSE is set with the response in the buffer, and INT_STATUS[8]; while BUSY or RESPONSE it is counted in 0x1120:07; with another length
OVERSIZE is set; while the mailbox is not available, or the host does not reach it, nothing changes. MAILBOX_ACK with the link up clears
RESPONSE, OVERSIZE and the buffer. CAN_REQUEST that is no 64-byte CAN FD frame is only counted in 0x1120:08; under another identifier, or on
a controller that is off, it changes nothing; without a usable key, with a wrong tag, or with a counter not above the last under its key, it
is counted in 0x1120:05 and not answered; else a READ is answered under the controller's next counter, and its own counter is kept. -/
def Obligations.MailboxAndCanRequestsAreTaken : Prop :=
  (∀ (t : Nat) (s : State),
    hostReaches s = true → s.imian.mailbox.busy = false → s.imian.mailbox.response = false → 16 ≤ s.imian.mailbox.reqLen →
    s.imian.mailbox.reqLen ≤ 8192 → mailboxUnavailable s = false → byteAt (requestBytes s.imian.mailbox) 1 ≠ 5 →
    Answers (.mailboxGo t) s fun u =>
      u.imian.mailbox.busy = false ∧ u.imian.mailbox.response = true ∧ bit u.host.intStatus 8 = true ∧
      Out.response .mailbox u.imian.mailbox.respBuf ∈ u.outs ∧ u.imian.mailbox.respLen = u.imian.mailbox.respBuf.length) ∧
  (∀ (t : Nat) (s : State),
    hostReaches s = true → (s.imian.mailbox.busy = true ∨ s.imian.mailbox.response = true) →
    Answers (.mailboxGo t) s fun u => u.ro 0x1120 0x07 = (s.ro 0x1120 0x07 + 1) % 2 ^ 32 ∧ Touches [] [(0x1120, 7)] (s.advance t) u) ∧
  (∀ (t : Nat) (s : State),
    hostReaches s = true → s.imian.mailbox.busy = false → s.imian.mailbox.response = false →
    (s.imian.mailbox.reqLen < 16 ∨ 8192 < s.imian.mailbox.reqLen) →
    Answers (.mailboxGo t) s fun u =>
      u.imian = { s.imian with mailbox := { s.imian.mailbox with oversize := true } } ∧ Touches [.imian] [] (s.advance t) u) ∧
  (∀ (t : Nat) (s : State),
    (hostReaches s = false ∨ (s.imian.mailbox.busy = false ∧ s.imian.mailbox.response = false ∧ 16 ≤ s.imian.mailbox.reqLen ∧
      s.imian.mailbox.reqLen ≤ 8192 ∧ mailboxUnavailable s = true)) →
    Answers (.mailboxGo t) s fun u => Touches [] [] (s.advance t) u) ∧
  (∀ (t : Nat) (s : State),
    hostReaches s = true →
    Answers (.mailboxAck t) s fun u =>
      u.imian = { s.imian with mailbox := { s.imian.mailbox with response := false, oversize := false, respLen := 0, respBuf := [] } } ∧
      Touches [.imian] [] (s.advance t) u) ∧
  (∀ (t : Nat) (s : State),
    hostReaches s = false → Answers (.mailboxAck t) s fun u => Touches [] [] (s.advance t) u) ∧
  (∀ (t n id_ : Nat) (fd : Bool) (l : List Byte) (s : State),
    n < 2 → (s.advance t).reaches (.can n) = true → (fd = false ∨ l.length ≠ 64) →
    Answers (.canRequest t n id_ fd l) s fun u =>
      u.ro 0x1120 0x08 = (s.ro 0x1120 0x08 + 1) % 2 ^ 32 ∧ Touches [] [(0x1120, 8)] (s.advance t) u) ∧
  (∀ (t n id_ : Nat) (fd : Bool) (l : List Byte) (s : State),
    (2 ≤ n ∨ (s.advance t).reaches (.can n) = false ∨ (fd = true ∧ l.length = 64 ∧ id_ ≠ s.cfg 0x1100 0x09 n)) →
    Answers (.canRequest t n id_ fd l) s fun u => Touches [] [] (s.advance t) u) ∧
  (∀ (t n : Nat) (l : List Byte) (s : State),
    n < 2 → (s.advance t).reaches (.can n) = true → l.length = 64 → keyOf s (s.cfg 0x1100 0x0B n) [2] = none →
    Answers (.canRequest t n (s.cfg 0x1100 0x09 n) true l) s fun u =>
      u.ro 0x1120 0x05 = (s.ro 0x1120 0x05 + 1) % 2 ^ 32 ∧ Touches [] [(0x1120, 5), (0x3040, 3)] (s.advance t) u) ∧
  (∀ (t n : Nat) (key l : List Byte) (s : State),
    n < 2 → (s.advance t).reaches (.can n) = true → l.length = 64 → keyOf s (s.cfg 0x1100 0x0B n) [2] = some key → byteAt l 0 = 1 →
    Answers (.canRequest t n (s.cfg 0x1100 0x09 n) true l) s fun u =>
      if canTag key (s.cfg 0x1100 0x09 n) l = slice l 56 8 ∧
          (lookup n s.imian.canRequestCounter).all (fun c => !(c.2 == key && decide (beAt l 52 4 ≤ c.1))) = true then
        lookup n u.imian.canRequestCounter = some (beAt l 52 4, key) ∧
        lookup n u.imian.canResponseCounter = some ((tabGet 0 s.imian.canResponseCounter n + 1) % 2 ^ 32) ∧
        u.ro 0x1120 0x01 = (s.ro 0x1120 0x01 + 1) % 2 ^ 64
      else u.ro 0x1120 0x05 = (s.ro 0x1120 0x05 + 1) % 2 ^ 32 ∧ Touches [] [(0x1120, 5)] (s.advance t) u)

/-- 0x1201:01 Validate shadow, accepted while the shadow is not busy, is answered OK and puts it into VALIDATING, else 0x06; VALIDATION_END then
shows VALID or INVALID as the set passes or not. 0x1201:02 Swap, accepted for the shadow's present generation, outside a Wheel, with a clean
argument of base 0, of base 1 with T96 set or of base 2 with GAT running, and a target within 31 days, is answered OK and begins its
validation with event 0x1203; with another base, a field that is not 0 where it must be, or a target too far off it is answered 0x05, and
with another generation or a busy shadow 0x06. VALIDATION_END of a swap's validation outside a Lead leaves it pending where the set passes,
and ends it with event 0x1205 of cause 2 and the shadow INVALID where not; with no validation nothing changes. SWAP_INSTANT of a pending
swap whose instant has come exchanges active and shadow, shows the instant in 0x1200:07, and the shadow is PREVIOUS; before it nothing
changes. 0x1201:03 Sync, accepted while the shadow is not busy, is answered OK: the shadow equals the active set, state 0, event 0x1206;
else 0x06. 0x1201:04 Cancel swap, accepted with a swap pending, is answered OK and ends it; else 0x06. 0x1030:01 Reset device, accepted with
bank A valid and no trial, is answered OK and leaves the device in START without sessions. -/
def Obligations.ConfigurationSetsAreValidatedAndSwapped : Prop :=
  (∀ (t : Nat) (who : Who) (s : State),
    AcceptedPlain 0x1201 0x01 who (s.advance t) → shadowBusy s = false →
    Answers (.validateShadow t who) s fun u =>
      Answered who 0 u ∧ shadowState u = 2 ∧ u.sets.validating = some (shadowState s) ∧ u.ro 0x1202 0x01 = 3 ∧ u.shadow = s.shadow ∧
      Touches [.sets, .imian] [(0x1200, 6), (0x1202, 1), (0x1120, 1), (0x1120, 2)] (s.advance t) u) ∧
  (∀ (t : Nat) (who : Who) (s : State),
    AcceptedPlain 0x1201 0x01 who (s.advance t) → shadowBusy s = true →
    Answers (.validateShadow t who) s fun u => Answered who 6 u ∧ Touches [.imian] [(0x1120, 1), (0x1120, 2)] (s.advance t) u) ∧
  (∀ (t b : Nat) (s : State),
    s.sets.swap = none → s.sets.validating = some b →
    Answers (.validationEnd t) s fun u =>
      shadowState u = (if validateSet s.shadow (s.advance t) = [] then 3 else 4) ∧ u.sets.validating = none ∧ u.shadow = s.shadow ∧
      u.active = s.active ∧ u.ro 0x1202 0x02 = (validateSet s.shadow (s.advance t)).length ∧
      Touches [.sets] ([(0x1200, 6), (0x1210, 3)] ++ subsOf 0x1202) (s.advance t) u) ∧
  (∀ (t : Nat) (w : Swap) (s : State),
    s.sets.swap = some w → w.validated = false → s.duplex.swapAckUntil = none → leads s = false →
    Answers (.validationEnd t) s fun u =>
      if validateSet s.shadow (s.advance t) = [] then
        shadowState u = 5 ∧ u.sets.swap = some { w with validated := true, validatedAt := max s.now t } ∧ u.shadow = s.shadow ∧ u.active = s.active
      else shadowState u = 4 ∧ u.sets.swap = none ∧ u.ro 0x1210 0x02 = (s.ro 0x1210 0x02 + 1) % 2 ^ 32 ∧ u.shadow = s.shadow ∧ u.active = s.active) ∧
  (∀ (t : Nat) (s : State),
    s.sets.swap = none → s.sets.validating = none → Answers (.validationEnd t) s fun u => Touches [] [] (s.advance t) u) ∧
  (∀ (t : Nat) (who : Who) (arg : List Byte) (s : State),
    Room s → Accepted 0x1201 0x02 noRow (.oct arg) who (s.advance t) → byteAt arg 0 ≤ 2 → beAt arg 1 3 = 0 →
    (byteAt arg 0 = 0 → beAt arg 8 12 = 0) → (byteAt arg 0 = 1 → s.time.isSet = true) →
    (byteAt arg 0 = 2 → s.time.gatOn = true ∧ beAt arg 12 8 = 0) →
    tooFar (byteAt arg 0) (if byteAt arg 0 = 1 then beAt arg 8 12 else if byteAt arg 0 = 2 then beAt arg 8 4 else 0) (s.advance t) = false →
    beAt arg 4 4 = s.ro 0x1200 0x05 → shadowBusy s = false → roleNow s ≠ 2 →
    Answers (.swap t who arg) s fun u =>
      Answered who 0 u ∧ u.sets.swap = some ⟨byteAt arg 0, if byteAt arg 0 = 1 then beAt arg 8 12 else if byteAt arg 0 = 2 then beAt arg 8 4 else 0,
        false, shadowState s, max s.now t⟩ ∧ shadowState u = 2 ∧
      Posted 0x1203 (le 1 (byteAt arg 0) ++ slice arg 8 12 ++ le 3 (s.ro 0x1200 0x05)) s u ∧
      Touches [.sets, .imian] [(0x1200, 6), (0x1202, 1), (0x1120, 1), (0x1120, 2)] (s.advance t) u) ∧
  (∀ (t : Nat) (who : Who) (arg : List Byte) (s : State),
    Accepted 0x1201 0x02 noRow (.oct arg) who (s.advance t) →
    (2 < byteAt arg 0 ∨ beAt arg 1 3 ≠ 0 ∨ (byteAt arg 0 = 0 ∧ beAt arg 8 12 ≠ 0) ∨ (byteAt arg 0 = 2 ∧ beAt arg 12 8 ≠ 0)) →
    Answers (.swap t who arg) s fun u => Answered who 5 u ∧ Touches [.imian] [(0x1120, 1), (0x1120, 2)] (s.advance t) u) ∧
  (∀ (t : Nat) (who : Who) (arg : List Byte) (s : State),
    Accepted 0x1201 0x02 noRow (.oct arg) who (s.advance t) → byteAt arg 0 = 0 → beAt arg 1 3 = 0 → beAt arg 8 12 = 0 →
    (beAt arg 4 4 ≠ s.ro 0x1200 0x05 ∨ shadowBusy s = true ∨ roleNow s = 2) →
    Answers (.swap t who arg) s fun u => Answered who 6 u ∧ Touches [.imian] [(0x1120, 1), (0x1120, 2)] (s.advance t) u) ∧
  (∀ (t a : Nat) (w : Swap) (s : State),
    s.sets.swap = some w → swapDue w (s.advance t) = some a →
    Answers (.swapInstant t) s fun u =>
      u.active = s.shadow ∧ u.shadow = s.active ∧ shadowState u = 6 ∧ u.ro 0x1200 0x07 = a ∧ u.sets.swap = none) ∧
  (∀ (t : Nat) (s : State),
    s.sets.swap.all (fun w => (swapDue w (s.advance t)).isNone) = true →
    Answers (.swapInstant t) s fun u => Touches [] [] (s.advance t) u) ∧
  (∀ (t : Nat) (who : Who) (s : State),
    Room s → AcceptedPlain 0x1201 0x03 who (s.advance t) → shadowBusy s = false →
    Answers (.sync t who) s fun u =>
      Answered who 0 u ∧ u.shadow = s.active ∧ u.active = s.active ∧ shadowState u = 0 ∧
      Posted 0x1206 (le 4 ((s.ro 0x1200 0x05 + 1) % 2 ^ 32)) s u ∧
      Touches [.shadow, .sets, .imian] [(0x1200, 5), (0x1200, 6), (0x1120, 1), (0x1120, 2)] (s.advance t) u) ∧
  (∀ (t : Nat) (who : Who) (s : State),
    AcceptedPlain 0x1201 0x03 who (s.advance t) → shadowBusy s = true →
    Answers (.sync t who) s fun u => Answered who 6 u ∧ Touches [.imian] [(0x1120, 1), (0x1120, 2)] (s.advance t) u) ∧
  (∀ (t : Nat) (w : Swap) (who : Who) (s : State),
    Room s → AcceptedPlain 0x1201 0x04 who (s.advance t) → s.sets.swap = some w →
    Answers (.cancelSwap t who) s fun u =>
      Answered who 0 u ∧ u.sets.swap = none ∧ shadowState u = (if w.validated then 3 else w.before) ∧ Posted 0x1205 (le 1 0) s u ∧
      u.ro 0x1210 0x02 = (s.ro 0x1210 0x02 + 1) % 2 ^ 32 ∧ u.active = s.active ∧ u.shadow = s.shadow) ∧
  (∀ (t : Nat) (who : Who) (s : State),
    AcceptedPlain 0x1201 0x04 who (s.advance t) → s.sets.swap = none →
    Answers (.cancelSwap t who) s fun u => Answered who 6 u ∧ Touches [.imian] [(0x1120, 1), (0x1120, 2)] (s.advance t) u) ∧
  (∀ (t : Nat) (who : Who) (s : State),
    AcceptedPlain 0x1030 0x01 who (s.advance t) → bankTrial s.keys.bankWord = false → s.keys.bankA.valid = true →
    Answers (.resetDevice t who) s fun u => Answered who 0 u ∧ u.dev = stStart ∧ u.imian.sessions = [])

/-- While the link is up, for every Sluice: a read of Q_DATA with an unread word at RPTR returns that word and advances RPTR by 1 modulo 2^15;
WPTR and the words after it stay. With no unread packet it leaves RPTR, and in RUN, TRIM or SENTINEL outside test mode it returns the idle
item and changes nothing; in any other state, or in test mode, it returns the last word popped since START began (0 before the first), sets
Q_STATUS[3], and Q_STATUS[1] is set. -/
def Obligations.ReadsOfQDataFollowR562 : Prop :=
  (∀ (t q : Nat) (p : List Nat) (rest : List (List Nat)) (s : State),
    hostReaches s = true → q < 8 → (s.sluice q).packets = p :: rest → (s.sluice q).readOfFirst < p.length →
    Answers (.qDataRead t q) s fun u =>
      Out.read (p.getD (s.sluice q).readOfFirst 0) ∈ u.outs ∧ (u.sluice q).rptr = ((s.sluice q).rptr + 1) % 2 ^ 15 ∧
      (u.sluice q).wptr = (s.sluice q).wptr ∧ (u.sluice q).lastPopped = p.getD (s.sluice q).readOfFirst 0 ∧
      (u.sluice q).packets.flatten.drop (u.sluice q).readOfFirst = (s.sluice q).packets.flatten.drop ((s.sluice q).readOfFirst + 1) ∧
      Touches [.host] [] (s.advance t) u) ∧
  (∀ (t q : Nat) (s : State),
    hostReaches s = true → q < 8 → (s.sluice q).packets = [] → (s.running || s.dev == stSentinel) = true → (s.sluice q).testMode = false →
    Answers (.qDataRead t q) s fun u => Out.read 0xFFFFFFFFFFFFFFFF ∈ u.outs ∧ Touches [] [] (s.advance t) u) ∧
  (∀ (t q : Nat) (s : State),
    hostReaches s = true → q < 8 → (s.sluice q).packets = [] → (s.sluice q).fill = 0 →
    ((s.running || s.dev == stSentinel) = false ∨ (s.sluice q).testMode = true) →
    Answers (.qDataRead t q) s fun u =>
      Out.read (s.sluice q).lastPopped ∈ u.outs ∧ u.sluice q = { s.sluice q with underrun := true } ∧
      bit (qStatus (u.sluice q)) 3 = true ∧ bit (qStatus (u.sluice q)) 1 = true ∧ Touches [.host] [] (s.advance t) u) ∧
  (∀ (cause q : Nat) (s : State),
    q < 8 →
    ((startState cause s).sluice q).lastPopped = 0)

/-- For every Sluice: a write of Q_MODE with another bit 0 than the mode changes the mode and posts event 0x2D04. In test mode a device packet
to a queue that the device state feeds leaves no word, is counted in 0x2D10:03, sets Q_STATUS[4] and counts toward event 0x2D03, and owes no
loss packet. Q_TEST_PUSH in test mode commits its value as a packet of 1 word; when the queue is full it is lost in the same way. A write of
Q_MODE with the mode's own bit, and Q_TEST_PUSH out of test mode, change nothing. -/
def Obligations.SluiceTestModeFollowsR564 : Prop :=
  (∀ (t q v : Nat) (s : State),
    Room s → hostReaches s = true → q < 8 → bit v 0 ≠ (s.sluice q).testMode →
    Answers (.qModeWrite t q v) s fun u =>
      u.sluice q = { s.sluice q with testMode := bit v 0 } ∧ Posted 0x2D04 (le 1 q ++ le 1 (b2n (bit v 0))) s u ∧
      Touches [.host] [] (s.advance t) u) ∧
  (∀ (t q v : Nat) (s : State),
    hostReaches s = true → q < 8 → (s.sluice q).testMode = true → (s.sluice q).fill < sluiceWords →
    Answers (.qTestPush t q v) s fun u =>
      (u.sluice q).packets = (s.sluice q).packets ++ [[v % 2 ^ 64]] ∧ (u.sluice q).wptr = ((s.sluice q).wptr + 1) % 2 ^ 15 ∧
      Touches [.host] [] (s.advance t) u) ∧
  (∀ (t q v : Nat) (s : State),
    hostReaches s = true → q < 8 → (s.sluice q).testMode = true → sluiceWords ≤ (s.sluice q).fill →
    Answers (.qTestPush t q v) s fun u =>
      u.sluice q = { s.sluice q with lost := true } ∧ u.ro 0x2D10 0x03 q = (s.ro 0x2D10 0x03 q + 1) % 2 ^ 32 ∧
      (u.log.windows.any fun w => w.code == 0x2D03 && w.key == q) = true ∧ Touches [.host] [(0x2D10, 3)] (s.advance t) u) ∧
  (∀ (t q v : Nat) (s : State),
    hostReaches s = true → q < 8 → bit v 0 = (s.sluice q).testMode →
    Answers (.qModeWrite t q v) s fun u => Touches [] [] (s.advance t) u) ∧
  (∀ (t q v : Nat) (s : State),
    hostReaches s = true → q < 8 → (s.sluice q).testMode = false →
    Answers (.qTestPush t q v) s fun u => Touches [] [] (s.advance t) u) ∧
  (∀ (q : Nat) (words : List Nat) (s : State),
    q < 8 → s.feeds q = true → (s.sluice q).testMode = true →
    (sluicePost q words s).sluice q = { s.sluice q with lost := true } ∧
      (sluicePost q words s).ro 0x2D10 0x03 q = (s.ro 0x2D10 0x03 q + 1) % 2 ^ 32 ∧
      ((sluicePost q words s).log.windows.any fun w => w.code == 0x2D03 && w.key == q) = true)

/-- While the link is up: a write of Q_RPTR with a value from RPTR to WPTR makes it RPTR: that many words are consumed without a read, and WPTR
and the last word popped stay; one outside changes nothing but 0x2D10:05. Q_CTRL bits 2 and 1 clear the lost and underrun flags. Once the
delay since a Sluice's oldest unread packet became visible has passed, SLUICE_IRQ_DELAY sets its bit of INT_STATUS; before, or on an empty
Sluice, it changes nothing. Writing 1 to bits of INT_STATUS clears them, but for those of a Sluice or of the mailbox whose condition holds.
While the link is down, or for a queue number above 7, no write or read of these registers, of Q_DATA, Q_MODE or Q_TEST_PUSH has an effect.
A READ of 0x2D20:01 over DTLS or the mailbox by a Viewer or better pops the word at RPTR, or answers the idle item of an empty Sluice in
RUN, TRIM or SENTINEL; it is refused with 0x0D over CAN FD and with 0x01 for a queue number above 7. -/
def Obligations.SluiceRegistersTakeTheirWrites : Prop :=
  (∀ (t q v : Nat) (s : State),
    hostReaches s = true → q < 8 → (s.sluice q).rptr < 2 ^ 15 → (s.sluice q).packets.all (fun p => !p.isEmpty) = true →
    (s.sluice q).readOfFirst < ((s.sluice q).packets.headD [0]).length →
    (s.sluice q).fill = (s.sluice q).packets.flatten.length - (s.sluice q).readOfFirst →
    (v % 2 ^ 15 + 2 ^ 15 - (s.sluice q).rptr) % 2 ^ 15 ≤ (s.sluice q).fill →
    Answers (.qRptrWrite t q v) s fun u =>
      (u.sluice q).rptr = v % 2 ^ 15 ∧ (u.sluice q).wptr = (s.sluice q).wptr ∧ (u.sluice q).lastPopped = (s.sluice q).lastPopped ∧
      (u.sluice q).packets.flatten.drop (u.sluice q).readOfFirst =
        (s.sluice q).packets.flatten.drop ((s.sluice q).readOfFirst + (v % 2 ^ 15 + 2 ^ 15 - (s.sluice q).rptr) % 2 ^ 15) ∧
      Touches [.host] [] (s.advance t) u) ∧
  (∀ (t q v : Nat) (s : State),
    hostReaches s = true → q < 8 → (s.sluice q).fill < (v % 2 ^ 15 + 2 ^ 15 - (s.sluice q).rptr) % 2 ^ 15 →
    Answers (.qRptrWrite t q v) s fun u =>
      u.ro 0x2D10 0x05 = (s.ro 0x2D10 0x05 + 1) % 2 ^ 32 ∧ Touches [] [(0x2D10, 5)] (s.advance t) u) ∧
  (∀ (t q : Nat) (s : State),
    hostReaches s = true → q < 8 →
    Answers (.qCtrlClearLost t q) s fun u => u.sluice q = { s.sluice q with lost := false } ∧ Touches [.host] [] (s.advance t) u) ∧
  (∀ (t q : Nat) (s : State),
    hostReaches s = true → q < 8 →
    Answers (.qCtrlClearUnderrun t q) s fun u => u.sluice q = { s.sluice q with underrun := false } ∧ Touches [.host] [] (s.advance t) u) ∧
  (∀ (t q : Nat) (s : State),
    q < 8 → (s.sluice q).fill ≠ 0 → (s.sluice q).oldestAt + us (s.sluice q).delay ≤ max s.now t →
    Answers (.sluiceIrqDelay t q) s fun u => bit u.host.intStatus q = true ∧ Touches [.host] [] (s.advance t) u) ∧
  (∀ (t q : Nat) (s : State),
    ((s.sluice q).fill = 0 ∨ max s.now t < (s.sluice q).oldestAt + us (s.sluice q).delay) →
    Answers (.sluiceIrqDelay t q) s fun u => Touches [] [] (s.advance t) u) ∧
  (∀ (t v : Nat) (s : State),
    hostReaches s = true →
    Answers (.intStatusClear t v) s fun u =>
      (∀ i ∈ List.range 14, bit u.host.intStatus i =
        ((bit s.host.intStatus i && !bit v i) || (decide (i < 8) && (s.sluice i).wants) || (i == 8 && s.imian.mailbox.response))) ∧
      Touches [.host] [] (s.advance t) u) ∧
  (∀ (t q v : Nat) (c : Instr) (s : State),
    (hostReaches s = false ∨ 8 ≤ q) →
    c ∈ [.qDataRead t q, .qRptrWrite t q v, .qCtrlClearLost t q, .qCtrlClearUnderrun t q, .qModeWrite t q v, .qTestPush t q v] →
    Answers c s fun u => Touches [] [] (s.advance t) u) ∧
  (∀ (t v : Nat) (s : State),
    hostReaches s = false → Answers (.intStatusClear t v) s fun u => Touches [] [] (s.advance t) u) ∧
  (∀ (t q : Nat) (who : Who) (p : List Nat) (rest : List (List Nat)) (s : State),
    (s.advance t).reaches who = true → (match who with | .can _ => false | _ => true) = true →
    offered (s.advance t) who .read 0x2D20 1 = true → roleHas (((s.advance t).roleOf who).getD 0) 1 = true → q < 8 →
    (s.sluice q).packets = p :: rest →
    Answers (.sluicePop t who q) s fun u =>
      Answered who 0 u ∧ Out.read (p.getD (s.sluice q).readOfFirst 0) ∈ u.outs ∧ (u.sluice q).rptr = ((s.sluice q).rptr + 1) % 2 ^ 15 ∧
      Touches [.host, .imian] [(0x1120, 1), (0x1120, 2)] (s.advance t) u) ∧
  (∀ (t q : Nat) (who : Who) (s : State),
    (s.advance t).reaches who = true → (match who with | .can _ => false | _ => true) = true →
    offered (s.advance t) who .read 0x2D20 1 = true → roleHas (((s.advance t).roleOf who).getD 0) 1 = true → q < 8 →
    (s.sluice q).packets = [] → (s.running || s.dev == stSentinel) = true → (s.sluice q).testMode = false →
    Answers (.sluicePop t who q) s fun u =>
      Answered who 0 u ∧ Out.read 0xFFFFFFFFFFFFFFFF ∈ u.outs ∧ Touches [.imian] [(0x1120, 1), (0x1120, 2)] (s.advance t) u) ∧
  (∀ (t q : Nat) (who : Who) (s : State),
    (s.advance t).reaches who = true → (match who with | .can _ => false | _ => true) = true →
    offered (s.advance t) who .read 0x2D20 1 = true → 8 ≤ q →
    Answers (.sluicePop t who q) s fun u => Answered who 1 u ∧ Touches [.imian] [(0x1120, 1), (0x1120, 2)] (s.advance t) u) ∧
  (∀ (t q n : Nat) (s : State),
    (s.advance t).reaches (.can n) = true →
    Answers (.sluicePop t (.can n) q) s fun u =>
      Answered (.can n) 0x0D u ∧ Touches [.imian] [(0x1120, 1), (0x1120, 2)] (s.advance t) u)

/-- While the link is up: RING_CTRL bit 0 enables a good ring in RUN or TRIM from empty pointers, or posts event 0x2D05 with what is wrong; bit
0 clear disables the ring, and where no export runs changes nothing else. Of an enabled ring, or outside RUN and TRIM, bit 0 set changes no
ring. The doorbell sets RING_RD. The low half of a 64-bit register is held in its latch; the high half that follows makes the two one 64-bit
write, with effect as one, and one without a low half before it, or another width or alignment than the register's, is ignored and counted
in 0x2D10:05; a reserved offset takes nothing. A function reset sets INT_MASK, clears the MSI-X table, the mailbox and INT_STATUS but for
Sluice bits whose condition holds, disables both rings, and leaves the Sluices; with no export in progress it touches nothing else, and
posts event 0x2D06. Link training in START, RUN, TRIM or RECOVERY with self-test item 5 passed brings the link up with its speed and width
and posts event 0x2D01. A link loss disables both rings and sets INT_STATUS[13]; with no export in progress it counts in 0x2D10:06, posts
event 0x2D02 and touches nothing else. With the link down none of these but training has an effect, and training none with the link up. -/
def Obligations.RingsRegistersAndLinkFollowTheHost : Prop :=
  (∀ (t r v : Nat) (b : Bool) (s : State),
    hostReaches s = true → r < 2 → bit v 0 = true → (s.host.ring r).enabled = false → s.running = true → ringFault (s.host.ring r) b = none →
    Answers (.ringEnable t r v b) s fun u =>
      u.host.ring r = { s.host.ring r with enabled := true, wr := 0, rd := 0 } ∧ u.host.busMaster = b ∧
      Touches [.host] [(0x2D10, 2), (0x2D10, 3)] (s.advance t) u) ∧
  (∀ (t r v c : Nat) (b : Bool) (s : State),
    Room s → hostReaches s = true → r < 2 → bit v 0 = true → (s.host.ring r).enabled = false → s.running = true →
    ringFault (s.host.ring r) b = some c →
    Answers (.ringEnable t r v b) s fun u =>
      u.host.ring r = s.host.ring r ∧ Posted 0x2D05 (le 1 r ++ le 1 c) s u ∧ bit u.host.intStatus 13 = true ∧
      Touches [.host] [] (s.advance t) u) ∧
  (∀ (t r v : Nat) (b : Bool) (s : State),
    hostReaches s = true → r < 2 → bit v 0 = false → Answers (.ringEnable t r v b) s fun u => (u.host.ring r).enabled = false) ∧
  (∀ (t r v : Nat) (b : Bool) (s : State),
    hostReaches s = true → r < 2 → bit v 0 = false → s.host.exporting = none →
    Answers (.ringEnable t r v b) s fun u => u.host.ring r = { s.host.ring r with enabled := false } ∧ Touches [.host] [] (s.advance t) u) ∧
  (∀ (t r v : Nat) (b : Bool) (s : State),
    hostReaches s = true → r < 2 → bit v 0 = true → ((s.host.ring r).enabled = true ∨ s.running = false) →
    Answers (.ringEnable t r v b) s fun u => u.host = { s.host with busMaster := b } ∧ Touches [.host] [] (s.advance t) u) ∧
  (∀ (t r v : Nat) (s : State),
    hostReaches s = true → r < 2 → (r = 0 ∨ s.host.exporting = none) →
    Answers (.ringRdDoorbell t r v) s fun u =>
      u.host.ring r = { s.host.ring r with rd := v % (2 * (s.host.ring r).size) } ∧ Touches [.host] [] (s.advance t) u) ∧
  (∀ (t v : Nat) (s : State),
    hostReaches s = true → s.host.exporting ≠ none → (s.host.exportLeft.all fun l => s.host.exportRing.size < l.length) = true →
    Answers (.ringRdDoorbell t 1 v) s fun u => u.host.exportRing.rd = v % (2 * s.host.exportRing.size)) ∧
  (∀ (t bar off v : Nat) (s : State),
    hostReaches s = true → barRegister bar off = some (off, 8) →
    Answers (.barLowHalfWrite t bar off v) s fun u =>
      lookup (latchKey bar off) u.host.latches = some (v % 2 ^ 32) ∧ (u.host.ring 0) = (s.host.ring 0) ∧ (u.host.ring 1) = (s.host.ring 1) ∧
      u.host.sluices = s.host.sluices ∧ Touches [.host] [] (s.advance t) u) ∧
  (∀ (t r v low : Nat) (s : State),
    hostReaches s = true → r < 2 → lookup (latchKey 0 (0x2000 + 0x100 * r)) s.host.latches = some low →
    Answers (.barWrite t 0 (0x2004 + 0x100 * r) 4 v) s fun u =>
      u.host.ring r = { s.host.ring r with base := v % 2 ^ 32 * 2 ^ 32 + low } ∧
      lookup (latchKey 0 (0x2000 + 0x100 * r)) u.host.latches = none ∧ Touches [.host] [] (s.advance t) u) ∧
  (∀ (t r v : Nat) (s : State),
    hostReaches s = true → r < 2 →
    Answers (.barWrite t 0 (0x2008 + 0x100 * r) 4 v) s fun u =>
      u.host.ring r = { s.host.ring r with size := v % 2 ^ 32 } ∧ Touches [.host] [] (s.advance t) u) ∧
  (∀ (t bar reg v : Nat) (s : State),
    hostReaches s = true → barRegister bar (reg + 4) = some (reg, 8) → lookup (latchKey bar reg) s.host.latches = none →
    Answers (.barWrite t bar (reg + 4) 4 v) s fun u =>
      u.ro 0x2D10 0x05 = (s.ro 0x2D10 0x05 + 1) % 2 ^ 32 ∧ Touches [] [(0x2D10, 5)] (s.advance t) u) ∧
  (∀ (t bar off reg width v : Nat) (s : State),
    hostReaches s = true → barRegister bar off = some (reg, 4) → (off ≠ reg ∨ width ≠ 4) →
    Answers (.barWrite t bar off width v) s fun u =>
      u.ro 0x2D10 0x05 = (s.ro 0x2D10 0x05 + 1) % 2 ^ 32 ∧ Touches [] [(0x2D10, 5)] (s.advance t) u) ∧
  (∀ (t bar off width v : Nat) (s : State),
    (hostReaches s = false ∨ barRegister bar off = none) →
    Answers (.barWrite t bar off width v) s fun u => Touches [] [] (s.advance t) u) ∧
  (∀ (t bar off v : Nat) (s : State),
    (hostReaches s = false ∨ barRegister bar off = none) →
    Answers (.barLowHalfWrite t bar off v) s fun u => Touches [] [] (s.advance t) u) ∧
  (∀ (t : Nat) (hot : Bool) (s : State),
    hostReaches s = true →
    Answers (.functionReset t hot) s fun u =>
      u.host.intMask = 0x3FFF ∧ u.host.msix = [] ∧ u.host.archive.enabled = false ∧ u.host.exportRing.enabled = false ∧
      u.imian.mailbox = { Mailbox.reset with kept := s.imian.mailbox.kept, requests := s.imian.mailbox.requests }) ∧
  (∀ (t : Nat) (hot : Bool) (s : State),
    Room s → hostReaches s = true → s.host.exporting = none → s.ro 0x2821 0x02 ≠ 4 →
    Answers (.functionReset t hot) s fun u =>
      u.host.intMask = 0x3FFF ∧ u.host.msix = [] ∧ u.host.archive.enabled = false ∧ u.host.exportRing.enabled = false ∧
      u.imian.mailbox = { Mailbox.reset with kept := s.imian.mailbox.kept, requests := s.imian.mailbox.requests } ∧
      u.host.sluices = s.host.sluices ∧ (∀ i ∈ List.range 14, bit u.host.intStatus i = (decide (i < 8) && (s.sluice i).wants)) ∧
      Posted 0x2D06 (le 1 (b2n hot)) s u ∧ Touches [.host, .imian] [] (s.advance t) u) ∧
  (∀ (t speed width : Nat) (s : State),
    Room s → (s.dev = stStart ∨ s.running = true) → s.power.resetLow = false → s.host.linkUp = false →
    bit (s.ro 0x2F03 0x02 5) 8 = false →
    Answers (.pcieLinkUp t speed width) s fun u =>
      u.host.linkUp = true ∧ u.ro 0x2D00 0x04 = speed ∧ u.ro 0x2D00 0x05 = width ∧ Posted 0x2D01 (le 1 speed ++ le 1 width) s u ∧
      Touches [.host] [(0x2D00, 4), (0x2D00, 5)] (s.advance t) u) ∧
  (∀ (t speed width : Nat) (s : State),
    s.dev = stRecovery → s.power.resetLow = false → s.host.linkUp = false → bit (s.ro 0x2F03 0x02 5) 8 = false →
    Answers (.pcieLinkUp t speed width) s fun u =>
      u.host.linkUp = true ∧ u.ro 0x2D00 0x04 = speed ∧ u.ro 0x2D00 0x05 = width ∧
      Touches [.host] [(0x2D00, 4), (0x2D00, 5)] (s.advance t) u) ∧
  (∀ (t : Nat) (s : State),
    s.host.linkUp = true →
    Answers (.pcieLinkDown t) s fun u =>
      u.host.linkUp = false ∧ u.host.archive.enabled = false ∧ u.host.exportRing.enabled = false ∧ bit u.host.intStatus 13 = true) ∧
  (∀ (t : Nat) (s : State),
    Room s → s.host.linkUp = true → s.host.exporting = none → s.ro 0x2821 0x02 ≠ 4 →
    Answers (.pcieLinkDown t) s fun u =>
      u.host.linkUp = false ∧ u.host.archive.enabled = false ∧ u.host.exportRing.enabled = false ∧ bit u.host.intStatus 13 = true ∧
      u.ro 0x2D10 0x06 = (s.ro 0x2D10 0x06 + 1) % 2 ^ 32 ∧ Posted 0x2D02 (le 1 0) s u ∧ Touches [.host] [(0x2D10, 6)] (s.advance t) u) ∧
  (∀ (t speed width : Nat) (s : State),
    s.host.linkUp = true → Answers (.pcieLinkUp t speed width) s fun u => Touches [] [] (s.advance t) u) ∧
  (∀ (t r v : Nat) (b hot : Bool) (c : Instr) (s : State),
    s.host.linkUp = false → c ∈ [.ringEnable t r v b, .ringRdDoorbell t r v, .functionReset t hot, .pcieLinkDown t] →
    Answers c s fun u => Touches [] [] (s.advance t) u)

/-- A COMMAND of one of the clear objects listed here, by a requester that passes checks 1 to 7 of R521 is answered OK; every row of every
object that the command's table entry names (2430:01, 2550:01, 2640:01, 2730:02, 2830:04, 2930:01, 2A30:05, 2B30:05, 2C30:01, 2D30:01,
2E50:05, 2F30:04, 3230:04) then reads its default (0 for a counter, the table's NaN for 0x2E10:04 and :05), and nothing else changes but the
requester's own accounting (session or mailbox, 0x1120:01 and :02) and the event log. -/
def Obligations.ClearCommandsClearWhatTheyName : Prop :=
  (∀ (t : Nat) (who : Who) (s : State),
    AcceptedPlain 0x2430 1 who (s.advance t) →
    Answers (.clearPlacementCounters t who) s fun u => Clears [(0x2410, 5), (0x2411, 4), (0x2420, 1), (0x2420, 2), (0x2420, 3), (0x2420, 7), (0x2420, 8), (0x2420, 9), (0x2420, 10)] who (s.advance t) u) ∧
  (∀ (t : Nat) (who : Who) (s : State),
    AcceptedPlain 0x2550 1 who (s.advance t) →
    Answers (.clearEddyCounters t who) s fun u => Clears ([1, 2, 3, 5, 6, 7, 8, 9, 10, 11].map fun k => (0x2540, k)) who (s.advance t) u) ∧
  (∀ (t : Nat) (who : Who) (s : State),
    AcceptedPlain 0x2640 1 who (s.advance t) →
    Answers (.clearOxbowCounters t who) s fun u => Clears ((0x2621, 7) :: subsOf 0x2630) who (s.advance t) u) ∧
  (∀ (t : Nat) (who : Who) (s : State),
    AcceptedPlain 0x2730 2 who (s.advance t) →
    Answers (.clearAlarmCounters t who) s fun u => Clears (subsOf 0x2720) who (s.advance t) u) ∧
  (∀ (t : Nat) (who : Who) (s : State),
    AcceptedPlain 0x2830 4 who (s.advance t) →
    Answers (.clearPublishingCounters t who) s fun u => Clears ((0x2804, 2) :: subsOf 0x2840) who (s.advance t) u) ∧
  (∀ (t : Nat) (who : Who) (s : State),
    AcceptedPlain 0x2930 1 who (s.advance t) →
    Answers (.clearHeadwaterCounters t who) s fun u => Clears ([(0x2922, 2), (0x2922, 3), (0x2922, 4), (0x2922, 5), (0x2921, 5)] ++ subsOf 0x2940) who (s.advance t) u) ∧
  (∀ (t : Nat) (who : Who) (s : State),
    AcceptedPlain 0x2A30 5 who (s.advance t) →
    Answers (.clearCaptureCounters t who) s fun u => Clears (subsOf 0x2A40) who (s.advance t) u) ∧
  (∀ (t : Nat) (who : Who) (s : State),
    AcceptedPlain 0x2B30 5 who (s.advance t) →
    Answers (.clearEnergyCounters t who) s fun u => Clears [(0x2B21, 1), (0x2B21, 2), (0x2B21, 4), (0x2B21, 5)] who (s.advance t) u) ∧
  (∀ (t : Nat) (who : Who) (s : State),
    AcceptedPlain 0x2C30 1 who (s.advance t) →
    Answers (.clearJobStatistics t who) s fun u => Clears [(0x2C10, 1), (0x2C10, 2), (0x2C10, 3), (0x2C10, 4), (0x2C10, 7), (0x2C10, 8), (0x2C00, 3)] who (s.advance t) u) ∧
  (∀ (t : Nat) (who : Who) (s : State),
    AcceptedPlain 0x2D30 1 who (s.advance t) →
    Answers (.clearHostCounters t who) s fun u => Clears ([1, 2, 3, 4, 5, 6, 7, 8].map fun k => (0x2D10, k)) who (s.advance t) u) ∧
  (∀ (t : Nat) (who : Who) (s : State),
    AcceptedPlain 0x2E50 5 who (s.advance t) →
    Answers (.clearHousekeepingCounters t who) s fun u => Clears [(0x2E30, 1), (0x2E30, 2), (0x2E30, 3), (0x2E30, 5), (0x2E10, 4), (0x2E10, 5)] who (s.advance t) u) ∧
  (∀ (t : Nat) (who : Who) (s : State),
    AcceptedPlain 0x2F30 4 who (s.advance t) →
    Answers (.clearPowerCounters t who) s fun u => Clears [(0x2F20, 4), (0x2F20, 5)] who (s.advance t) u) ∧
  (∀ (t : Nat) (who : Who) (s : State),
    AcceptedPlain 0x3230 4 who (s.advance t) →
    Answers (.clearRedundancyCounters t who) s fun u => Clears (subsOf 0x3220) who (s.advance t) u)

/-- EVENT_POST in a powered state other than RECOVERY stamps an event with T96, or with the internal timebase while T96 is unset, and it enters
the input FIFO, or is dropped and counted when that is full; elsewhere it has no effect. EVENT_LOG_WRITE, at least 1 us after the last
entry, writes the oldest event at index C, which advances, after the 0x2E0A entry owed for events dropped; the entry that brings the fill to
65,535 is followed by event 0x2E07, and recording stops: later events are counted in 0x2E20:04 and :06 and posted with index 0xFFFF_FFFF.
With nothing waiting, or too soon, it changes nothing. 0x2E50:02 with 1 freezes, after event 0x2E09; events then go to the hold buffer, or
are dropped and counted in 0x2E20:07. A freeze or release by another session is answered 0x06; a freeze again by the same changes nothing.
Release by the same session, or the timeout, writes the held events in order, then event 0x2E09. 0x2E50:03 moves the base to C and writes
event 0x2E08; while frozen it is answered 0x06. A summary window 1 s old ends with its event, and a younger one stays. For entries named at
an index: the log is recording, has room, and owes no 0x2E0A entry. -/
def Obligations.EventsEnterTheLogInOrder : Prop :=
  (∀ (t code source : Nat) (params : List Byte) (s : State),
    s.powered = true → s.dev ≠ stRecovery → s.log.fifo.length < fifoDepth →
    Answers (.eventPost t code source params) s fun u =>
      u.log.fifo.take (s.log.fifo.length + 1) = s.log.fifo ++
        [⟨(s.advance t).stampNow.1, (s.advance t).stampNow.2, code, severityOf code, source, fit 16 params⟩] ∧
      Touches [] [] (s.advance t) u) ∧
  (∀ (t code source : Nat) (params : List Byte) (s : State),
    s.powered = true → s.dev ≠ stRecovery → fifoDepth ≤ s.log.fifo.length →
    Answers (.eventPost t code source params) s fun u =>
      u.log.fifo = s.log.fifo ∧ s.log.droppedInput < u.log.droppedInput ∧ Touches [] [] (s.advance t) u) ∧
  (∀ (t code source : Nat) (params : List Byte) (s : State),
    (s.powered = false ∨ s.dev = stRecovery) →
    Answers (.eventPost t code source params) s fun u => u.log.fifo = s.log.fifo ∧ Touches [] [] (s.advance t) u) ∧
  (∀ (t : Nat) (e : Event) (rest : List Event) (s : State),
    s.powered = true → s.dev ≠ stRecovery → (s.dev = stStart → s.power.selfTestPassed = true) → s.log.lastWrite + us 1 ≤ max s.now t → s.log.fifo = e :: rest →
    s.log.frozenBy = none → s.log.droppedInput = 0 → s.log.droppedHold = 0 → recording s = true → s.log.full = false → s.log.fill < 65534 →
    Answers (.eventLogWrite t) s fun u =>
      lookup s.log.cursor u.log.entries = some e ∧ u.log.cursor = (s.log.cursor + 1) % 2 ^ 32 ∧ u.log.base = s.log.base ∧
      u.log.fifo.take rest.length = rest ∧ u.log.full = false ∧
      (s.feeds 2 = true → (s.sluice 2).testMode = false → (s.sluice 2).lossOwed = false → (s.sluice 2).fill + 5 ≤ sluiceWords →
        (u.sluice 2).packets = (s.sluice 2).packets ++ [eventPacket s.log.cursor e]) ∧
      Touches [.host] [(0x2D10, 2), (0x2D10, 3)] (s.advance t) u) ∧
  (∀ (t : Nat) (e : Event) (rest : List Event) (s : State),
    s.powered = true → s.dev ≠ stRecovery → (s.dev = stStart → s.power.selfTestPassed = true) → s.log.lastWrite + us 1 ≤ max s.now t → s.log.fifo = e :: rest →
    s.log.frozenBy = none → s.log.droppedInput = 0 → s.log.droppedHold = 0 → recording s = true → s.log.full = false →
    s.log.base < 2 ^ 32 → s.log.cursor = (s.log.base + 65534) % 2 ^ 32 →
    Answers (.eventLogWrite t) s fun u =>
      lookup s.log.cursor u.log.entries = some e ∧ ((lookup ((s.log.cursor + 1) % 2 ^ 32) u.log.entries).map (·.code)) = some 0x2E07 ∧
      u.log.cursor = (s.log.cursor + 2) % 2 ^ 32 ∧ u.log.full = true) ∧
  (∀ (t : Nat) (e : Event) (rest : List Event) (k : Nat) (s : State),
    s.powered = true → s.dev ≠ stRecovery → (s.dev = stStart → s.power.selfTestPassed = true) → s.log.lastWrite + us 1 ≤ max s.now t → s.log.fifo = e :: rest →
    s.log.frozenBy = some k → s.log.hold.length < holdDepth →
    Answers (.eventLogWrite t) s fun u =>
      u.log.hold = s.log.hold ++ [e] ∧ u.log.cursor = s.log.cursor ∧ u.log.entries = s.log.entries ∧ Touches [] [] (s.advance t) u) ∧
  (∀ (t : Nat) (e : Event) (rest : List Event) (k : Nat) (s : State),
    s.powered = true → s.dev ≠ stRecovery → (s.dev = stStart → s.power.selfTestPassed = true) → s.log.lastWrite + us 1 ≤ max s.now t → s.log.fifo = e :: rest →
    s.log.frozenBy = some k → holdDepth ≤ s.log.hold.length →
    Answers (.eventLogWrite t) s fun u =>
      u.log.hold = s.log.hold ∧ u.log.cursor = s.log.cursor ∧ u.log.entries = s.log.entries ∧ u.log.droppedHold = s.log.droppedHold + 1 ∧
      u.log.fifo.take rest.length = rest ∧ u.ro 0x2E20 0x07 = (s.ro 0x2E20 0x07 + 1) % 2 ^ 32 ∧ Touches [] [(0x2E20, 7)] (s.advance t) u) ∧
  (∀ (t : Nat) (e : Event) (rest : List Event) (s : State),
    s.powered = true → s.dev ≠ stRecovery → (s.dev = stStart → s.power.selfTestPassed = true) → s.log.lastWrite + us 1 ≤ max s.now t → s.log.fifo = e :: rest →
    s.log.frozenBy = none → s.log.droppedInput ≠ 0 → recording s = true → s.log.full = false → s.log.fill < 65534 →
    Answers (.eventLogWrite t) s fun u =>
      ((lookup s.log.cursor u.log.entries).map fun e => (e.code, e.params)) = some (0x2E0A, fit 16 (le 4 s.log.droppedInput ++ le 1 0)) ∧
      u.log.cursor = (s.log.cursor + 1) % 2 ^ 32 ∧ u.log.fifo.take s.log.fifo.length = s.log.fifo ∧ u.log.droppedInput = 0 ∧
      Touches [.host] [(0x2D10, 2), (0x2D10, 3)] (s.advance t) u) ∧
  (∀ (t : Nat) (e : Event) (rest : List Event) (s : State),
    s.powered = true → s.dev ≠ stRecovery → (s.dev = stStart → s.power.selfTestPassed = true) → s.log.lastWrite + us 1 ≤ max s.now t → s.log.fifo = e :: rest →
    s.log.frozenBy = none → s.log.droppedInput = 0 → s.log.droppedHold = 0 → recording s = true → s.log.full = true →
    Answers (.eventLogWrite t) s fun u =>
      u.log.cursor = s.log.cursor ∧ u.log.entries = s.log.entries ∧ u.log.fifo.take rest.length = rest ∧ u.ro 0x2E20 0x06 = (s.ro 0x2E20 0x06 + 1) % 2 ^ 32 ∧
      (s.feeds 2 = true → (s.sluice 2).testMode = false → (s.sluice 2).lossOwed = false → (s.sluice 2).fill + 5 ≤ sluiceWords →
        (u.sluice 2).packets = (s.sluice 2).packets ++ [eventPacket 0xFFFFFFFF e]) ∧
      Touches [.host] [(0x2D10, 2), (0x2D10, 3), (0x2E20, 6)] (s.advance t) u) ∧
  (∀ (t : Nat) (s : State),
    (s.log.fifo = [] ∨ s.powered = false ∨ s.dev = stRecovery ∨ (s.dev = stStart ∧ s.power.selfTestPassed = false) ∨
      (s.log.lastWrite ≠ 0 ∧ max s.now t < s.log.lastWrite + us 1)) →
    Answers (.eventLogWrite t) s fun u => u.log.fifo.take s.log.fifo.length = s.log.fifo ∧ u.log.entries = s.log.entries ∧ Touches [] [] (s.advance t) u) ∧
  (∀ (t : Nat) (who : Who) (s : State),
    Accepted 0x2E50 0x02 noRow (.num 1) who (s.advance t) → s.log.frozenBy = none → recording s = true → s.log.full = false → s.log.fill < 65534 →
    s.log.droppedInput = 0 → s.log.droppedHold = 0 →
    Answers (.freezeLog t who) s fun u =>
      Answered who 0 u ∧ u.log.frozenBy = some (whoRow who) ∧ u.log.cursor = (s.log.cursor + 1) % 2 ^ 32 ∧
      ((lookup s.log.cursor u.log.entries).map fun e => (e.code, e.params)) = some (0x2E09, fit 16 (le 1 1 ++ le 1 (whoRow who))) ∧
      Touches [.imian, .host] [(0x2D10, 2), (0x2D10, 3), (0x1120, 1), (0x1120, 2)] (s.advance t) u) ∧
  (∀ (t : Nat) (who : Who) (s : State),
    Accepted 0x2E50 0x02 noRow (.num 1) who (s.advance t) → s.log.frozenBy = none →
    Answers (.freezeLog t who) s fun u => Answered who 0 u ∧ u.log.frozenBy = some (whoRow who)) ∧
  (∀ (t : Nat) (who : Who) (s : State),
    Accepted 0x2E50 0x02 noRow (.num 1) who (s.advance t) → s.log.frozenBy = some (whoRow who) →
    Answers (.freezeLog t who) s fun u =>
      Answered who 0 u ∧ u.log.frozenBy = s.log.frozenBy ∧ u.log.frozenAt = s.log.frozenAt ∧
      Touches [.imian] [(0x1120, 1), (0x1120, 2)] (s.advance t) u) ∧
  (∀ (t k : Nat) (who : Who) (s : State),
    Accepted 0x2E50 0x02 noRow (.num 1) who (s.advance t) → s.log.frozenBy = some k → k ≠ whoRow who →
    Answers (.freezeLog t who) s fun u =>
      Answered who 6 u ∧ u.log.frozenBy = s.log.frozenBy ∧ Touches [.imian] [(0x1120, 1), (0x1120, 2)] (s.advance t) u) ∧
  (∀ (t : Nat) (who : Who) (e : Event) (s : State),
    Accepted 0x2E50 0x02 noRow (.num 0) who (s.advance t) → s.log.frozenBy = some (whoRow who) → s.log.hold = [e] →
    s.log.droppedInput = 0 → s.log.droppedHold = 0 →
    recording s = true → s.log.full = false → s.log.fill < 65533 → s.log.cursor < 2 ^ 32 →
    Answers (.releaseLogFreeze t who) s fun u =>
      Answered who 0 u ∧ u.log.frozenBy = none ∧ u.log.hold = [] ∧ lookup s.log.cursor u.log.entries = some e ∧
      ((lookup ((s.log.cursor + 1) % 2 ^ 32) u.log.entries).map fun e => (e.code, e.params)) =
        some (0x2E09, fit 16 (le 1 0 ++ le 1 (whoRow who) ++ le 4 1)) ∧
      u.log.cursor = (s.log.cursor + 2) % 2 ^ 32) ∧
  (∀ (t : Nat) (who : Who) (s : State),
    Accepted 0x2E50 0x02 noRow (.num 0) who (s.advance t) → s.log.frozenBy = some (whoRow who) →
    Answers (.releaseLogFreeze t who) s fun u => Answered who 0 u ∧ u.log.frozenBy = none ∧ u.log.hold = []) ∧
  (∀ (t k : Nat) (who : Who) (s : State),
    Accepted 0x2E50 0x02 noRow (.num 0) who (s.advance t) → s.log.frozenBy = some k → k ≠ whoRow who →
    Answers (.releaseLogFreeze t who) s fun u =>
      Answered who 6 u ∧ u.log.frozenBy = s.log.frozenBy ∧ u.log.hold = s.log.hold ∧
      Touches [.imian] [(0x1120, 1), (0x1120, 2)] (s.advance t) u) ∧
  (∀ (t k : Nat) (s : State),
    s.log.frozenBy = some k → s.log.frozenAt + sec (s.cfg 0x2E20 0x0A) ≤ max s.now t →
    Answers (.logFreezeTimeout t) s fun u => u.log.frozenBy = none ∧ u.log.hold = []) ∧
  (∀ (t : Nat) (s : State),
    (s.log.frozenBy = none ∨ max s.now t < s.log.frozenAt + sec (s.cfg 0x2E20 0x0A)) →
    Answers (.logFreezeTimeout t) s fun u =>
      u.log.frozenBy = s.log.frozenBy ∧ u.log.hold = s.log.hold ∧ Touches [] [] (s.advance t) u) ∧
  (∀ (t k : Nat) (s : State),
    s.log.frozenBy = some k → s.log.frozenAt + sec (s.cfg 0x2E20 0x0A) ≤ max s.now t → s.log.hold = [] → s.log.droppedInput = 0 → s.log.droppedHold = 0 →
    recording s = true → s.log.full = false → s.log.fill < 65534 →
    Answers (.logFreezeTimeout t) s fun u =>
      u.log.frozenBy = none ∧ ((lookup s.log.cursor u.log.entries).map fun e => (e.code, e.params)) =
        some (0x2E09, fit 16 (le 1 0 ++ le 1 k ++ le 4 0)) ∧
      Touches [.host] [(0x2D10, 2), (0x2D10, 3)] (s.advance t) u) ∧
  (∀ (t : Nat) (who : Who) (s : State),
    AcceptedPlain 0x2E50 0x03 who (s.advance t) → s.log.frozenBy = none → recording s = true → s.log.cursor < 2 ^ 32 →
    Answers (.clearEventLog t who) s fun u =>
      Answered who 0 u ∧ u.log.base = s.log.cursor ∧ u.log.cursor = (s.log.cursor + 1) % 2 ^ 32 ∧ u.log.full = false ∧
      (u.log.entries.map fun e => (e.1, e.2.code, e.2.params)) =
        [(s.log.cursor, 0x2E08, fit 16 (le 4 s.log.base ++ le 4 s.log.fill ++ le 4 (s.ro 0x2E20 0x04)))] ∧
      u.ro 0x2E20 0x06 = 0 ∧ u.ro 0x2E20 0x07 = 0 ∧
      Touches [.imian, .host] [(0x2D10, 2), (0x2D10, 3), (0x1120, 1), (0x1120, 2), (0x2E20, 6), (0x2E20, 7)] (s.advance t) u) ∧
  (∀ (t : Nat) (who : Who) (s : State),
    AcceptedPlain 0x2E50 0x03 who (s.advance t) → s.log.frozenBy ≠ none →
    Answers (.clearEventLog t who) s fun u =>
      Answered who 6 u ∧ u.log.base = s.log.base ∧ u.log.entries = s.log.entries ∧
      Touches [.imian] [(0x1120, 1), (0x1120, 2)] (s.advance t) u) ∧
  (∀ (t code key : Nat) (w : Window) (s : State),
    Room s → (s.log.windows.find? fun w => w.code == code && w.key == key) = some w → w.openedAt + sec 1 ≤ max s.now t →
    Answers (.summaryWindowEnd t code key) s fun u =>
      Posted code (windowParams w s) s u ∧ u.log.windows = s.log.windows.erase w ∧
      Touches [] [] (s.advance t) u) ∧
  (∀ (t code key : Nat) (s : State),
    (s.log.windows.all fun w => w.code != code || w.key != key || decide (max s.now t < w.openedAt + sec 1)) = true →
    Answers (.summaryWindowEnd t code key) s fun u => u.log.windows = s.log.windows ∧ Touches [] [] (s.advance t) u)

/-- The sequencer runs in every powered state but RECOVERY, and each of these acts only while it runs. HK_CONVERT selects a channel and, outside
calibration, puts raw and corrected codes in the result and a word in the buffer, and counts. HK_FIXED_SLOT converts channels 16-23, whose
codes and instants it shows; during calibration it has no effect. HK_SCAN shows the mean code of each in-use row and its instant, or is
skipped and counted during calibration or the scan before it. HK_CALIBRATE and 0x2E50:01 start a calibration; during one, or during a
channel test, the first has no effect and the second is answered 0x06. CALIBRATION_END with gain and offset within limits takes them, with
event 0x2E02 result 0; else result 1, the factors stay, and every channel is invalid. 0x2E50:04 starts a channel test, or is answered 0x06
during a calibration or test or with the DAC routed; its end shows pass where the mean of 16 conversions at each of three codes lies within
5 mV, else fail, with event 0x2E06. FAULT_LIMIT after 10 exceedances of channel 17, 18, 20 or 21 in RUN or TRIM gives SENTINEL, of 16, 19 or
22 in RUN, TRIM or SENTINEL SAFE_TALK, both of cause 8, with event 0x2E05; channel 23 fails the calibration; with fewer, or when it has
acted, nothing changes. -/
def Obligations.TheConverterFollowsItsSequence : Prop :=
  (∀ (t c raw : Nat) (s : State),
    hkRuns s = true → c < 24 → s.hk.calibrating = false →
    Answers (.hkConvert t c raw) s fun u =>
      u.hk.sel = c ∧ u.hk.result = raw % 65536 * 65536 + corrected s raw ∧ u.hk.seq = (s.hk.seq + 1) % 256 ∧ u.hk.wr = (s.hk.wr + 1) % 4096 ∧
      lookup s.hk.wr u.hk.buffer = some (.num (c * 2 ^ 24 + s.hk.seq % 256 * 2 ^ 16 + corrected s raw)) ∧
      u.ro 0x2E30 0x01 = (s.ro 0x2E30 0x01 + 1) % 2 ^ 64 ∧ Touches [.hk, .imian] [(0x2E30, 1), (0x2E11, 2)] (s.advance t) u) ∧
  (∀ (t c raw : Nat) (s : State),
    hkRuns s = true → c < 24 → s.hk.calibrating = true →
    Answers (.hkConvert t c raw) s fun u => u.hk = { s.hk with sel := c } ∧ Touches [.hk] [] (s.advance t) u) ∧
  (∀ (t c raw : Nat) (s : State),
    (hkRuns s = false ∨ 24 ≤ c) → Answers (.hkConvert t c raw) s fun u => Touches [] [] (s.advance t) u) ∧
  (∀ (t : Nat) (raw : List Nat) (s : State),
    hkRuns s = true → s.hk.calibrating = false →
    Answers (.hkFixedSlot t raw) s fun u =>
      (∀ k ∈ List.range 8, u.ro 0x2E10 0x02 (16 + k) = corrected s (raw.getD k 0) ∧ u.ro 0x2E10 0x06 (16 + k) = (s.advance t).t96) ∧
      u.ro 0x2E30 0x01 = (s.ro 0x2E30 0x01 + 8) % 2 ^ 64 ∧
      Touches [.hk, .imian, .power] [(0x2E30, 1), (0x2E30, 3), (0x2E11, 2), (0x2E10, 1), (0x2E10, 2), (0x2E10, 3), (0x2E10, 4), (0x2E10, 5), (0x2E10, 6)]
        (s.advance t) u) ∧
  (∀ (t : Nat) (raw : List Nat) (s : State),
    (hkRuns s = false ∨ s.hk.calibrating = true) → Answers (.hkFixedSlot t raw) s fun u => Touches [] [] (s.advance t) u) ∧
  (∀ (t : Nat) (raw : List (List Nat)) (s : State),
    hkRuns s = true → s.hk.calibrating = false → s.hk.scanUntil ≤ max s.now t → raw.flatten ≠ [] →
    ((scanRows s).map fun n => s.cfg 0x2E02 0x02 n) = raw.map List.length → ((scanRows s).map fun n => s.cfg 0x2E02 0x01 n).Nodup →
    Answers (.hkScan t raw) s fun u =>
      (∀ k ∈ List.range raw.length,
        u.ro 0x2E10 0x02 (s.cfg 0x2E02 0x01 ((scanRows s).getD k 0)) = (Q.roundUp (meanCode s (raw.getD k []))).toNat ∧
        u.ro 0x2E10 0x06 (s.cfg 0x2E02 0x01 ((scanRows s).getD k 0)) = (s.advance t).t96) ∧
      u.ro 0x2E30 0x01 = (s.ro 0x2E30 0x01 + raw.flatten.length) % 2 ^ 64 ∧
      u.hk.scanUntil = max s.now t + us raw.flatten.length ∧
      Touches [.hk, .imian] [(0x2E30, 1), (0x2E30, 3), (0x2E11, 2), (0x2E10, 1), (0x2E10, 2), (0x2E10, 3), (0x2E10, 4), (0x2E10, 5), (0x2E10, 6)]
        (s.advance t) u) ∧
  (∀ (t : Nat) (raw : List (List Nat)) (s : State),
    hkRuns s = true → (s.hk.calibrating = true ∨ max s.now t < s.hk.scanUntil) →
    Answers (.hkScan t raw) s fun u => u.ro 0x2E30 0x02 = (s.ro 0x2E30 0x02 + 1) % 2 ^ 32 ∧ Touches [] [(0x2E30, 2)] (s.advance t) u) ∧
  (∀ (t : Nat) (raw : List (List Nat)) (s : State),
    hkRuns s = false → Answers (.hkScan t raw) s fun u => Touches [] [] (s.advance t) u) ∧
  (∀ (t : Nat) (s : State),
    (hkRuns s = false ∨ s.hk.calibrating = true ∨ s.hk.testing ≠ none) →
    Answers (.hkCalibrate t) s fun u => Touches [] [] (s.advance t) u) ∧
  (∀ (t : Nat) (who : Who) (s : State),
    AcceptedPlain 0x2E50 0x01 who (s.advance t) → (s.hk.calibrating = true ∨ s.hk.testing ≠ none) →
    Answers (.calibrateAdc t who) s fun u => Answered who 6 u ∧ Touches [.imian] [(0x1120, 1), (0x1120, 2)] (s.advance t) u) ∧
  (∀ (t : Nat) (s : State),
    hkRuns s = true → s.hk.calibrating = false → s.hk.testing = none →
    Answers (.hkCalibrate t) s fun u =>
      u.hk = { s.hk with calibrating := true } ∧ u.ro 0x2E01 0x05 = 3 ∧ Touches [.hk] [(0x2E01, 5)] (s.advance t) u) ∧
  (∀ (t : Nat) (who : Who) (s : State),
    AcceptedPlain 0x2E50 0x01 who (s.advance t) → s.hk.calibrating = false → s.hk.testing = none →
    Answers (.calibrateAdc t who) s fun u =>
      Answered who 0 u ∧ u.hk = { s.hk with calibrating := true } ∧ u.ro 0x2E01 0x05 = 3 ∧
      Touches [.hk, .imian] [(0x2E01, 5), (0x1120, 1), (0x1120, 2)] (s.advance t) u) ∧
  (∀ (t : Nat) (ground high : Int) (s : State),
    Room s → s.hk.calibrating = true → ground < high → ground.natAbs ≤ 65536 →
    Q.le (Q.make 98 100) (Q.div (Q.make 5767168 100) (Q.make (high - ground) 256)) = true →
    Q.le (Q.div (Q.make 5767168 100) (Q.make (high - ground) 256)) (Q.make 102 100) = true →
    Answers (.calibrationEnd t ground high) s fun u =>
      u.hk.calibrating = false ∧ u.hk.offset = ground ∧ u.hk.calFailed = false ∧ u.ro 0x2E01 0x05 = 1 ∧ u.ro 0x2E01 0x03 = u.hk.gain ∧
      u.hk.gain = (Q.roundUp (Q.mul (Q.div (Q.make 5767168 100) (Q.make (high - ground) 256)) (Q.ofInt (2 ^ 30)))).toNat ∧
      (∀ c ∈ List.range 24, bit (u.ro 0x2E10 0x03 c) 3 = false) ∧ u.ro 0x2E01 0x04 = toTwos 32 ground ∧
      Posted 0x2E02 (le 1 0 ++ le 4 u.hk.gain ++ le 4 (toTwos 32 ground)) s u ∧
      Touches [.hk] [(0x2E01, 3), (0x2E01, 4), (0x2E01, 5), (0x2E01, 6), (0x2E10, 3)] (s.advance t) u) ∧
  (∀ (t : Nat) (ground high : Int) (s : State),
    Room s → s.hk.calibrating = true →
    (65536 < ground.natAbs ∨ high ≤ ground ∨ Q.lt (Q.div (Q.make 5767168 100) (Q.make (high - ground) 256)) (Q.make 98 100) = true ∨
      Q.lt (Q.make 102 100) (Q.div (Q.make 5767168 100) (Q.make (high - ground) 256)) = true) →
    Answers (.calibrationEnd t ground high) s fun u =>
      u.hk.calibrating = false ∧ u.hk.calFailed = true ∧ u.hk.gain = s.hk.gain ∧ u.hk.offset = s.hk.offset ∧ u.ro 0x2E01 0x05 = 2 ∧
      (∀ c ∈ List.range 24, bit (u.ro 0x2E10 0x03 c) 3 = true ∧ bit (u.ro 0x2E10 0x03 c) 0 = true) ∧
      Posted 0x2E02 (le 1 1 ++ le 4 s.hk.gain ++ le 4 (toTwos 32 s.hk.offset)) s u ∧
      Touches [.hk] [(0x2E01, 5), (0x2E01, 6), (0x2E10, 3)] (s.advance t) u) ∧
  (∀ (t : Nat) (ground high : Int) (s : State),
    s.hk.calibrating = false → Answers (.calibrationEnd t ground high) s fun u => Touches [] [] (s.advance t) u) ∧
  (∀ (t c : Nat) (who : Who) (s : State),
    c < 16 → Accepted 0x2E50 0x04 noRow (.num c) who (s.advance t) → s.hk.calibrating = false → s.hk.testing = none → s.rw 0x2E12 0x02 = 0 →
    Answers (.testChannel t who c) s fun u =>
      Answered who 0 u ∧ u.hk = { s.hk with testing := some c } ∧ bit (u.ro 0x2E10 0x03 c) 4 = true ∧
      Touches [.hk, .imian] [(0x2E10, 3), (0x1120, 1), (0x1120, 2)] (s.advance t) u) ∧
  (∀ (t c : Nat) (who : Who) (s : State),
    c < 16 → Accepted 0x2E50 0x04 noRow (.num c) who (s.advance t) → (s.hk.calibrating = true ∨ s.hk.testing ≠ none ∨ s.rw 0x2E12 0x02 ≠ 0) →
    Answers (.testChannel t who c) s fun u => Answered who 6 u ∧ Touches [.imian] [(0x1120, 1), (0x1120, 2)] (s.advance t) u) ∧
  (∀ (t c : Nat) (raw : List (List Nat)) (s : State),
    Room s → c < 24 → s.hk.testing = some c → raw.length = 3 → (raw.all fun l => l.length == 16) = true →
    Answers (.channelTestEnd t raw) s fun u =>
      u.hk.testing = none ∧ u.hk.gain = s.hk.gain ∧ u.hk.offset = s.hk.offset ∧ u.hk.channels = s.hk.channels ∧
      u.ro 0x2E13 0x01 c =
        (if ([410, 2048, 3686].zip raw).all fun p => Q.le (Q.abs (Q.sub (hkVolts (meanCode s p.2)) (Q.make (p.1 * 5) 8192))) (Q.make 5 1000)
         then 1 else 2) ∧
      bit (u.ro 0x2E10 0x03 c) 4 = false ∧ u.ro 0x2E30 0x05 = (s.ro 0x2E30 0x05 + 1) % 2 ^ 32 ∧
      u.ro 0x2E30 0x01 = (s.ro 0x2E30 0x01 + 48) % 2 ^ 64 ∧
      Posted 0x2E06 (le 1 c ++ le 1 (u.ro 0x2E13 0x01 c) ++ le 4 (u.ro 0x2E13 0x02 c)) s u ∧
      Touches [.hk, .imian] [(0x2E10, 3), (0x2E11, 2), (0x2E13, 1), (0x2E13, 2), (0x2E13, 3), (0x2E30, 1), (0x2E30, 5)] (s.advance t) u) ∧
  (∀ (t : Nat) (raw : List (List Nat)) (s : State),
    s.hk.testing = none → Answers (.channelTestEnd t raw) s fun u => Touches [] [] (s.advance t) u) ∧
  (∀ (t c : Nat) (s : State),
    Room s → s.running = true → (c = 17 ∨ c = 18 ∨ c = 20 ∨ c = 21) → 10 ≤ (s.hkChan c).faultCount → (s.hkChan c).faultActive = false →
    Answers (.faultLimit t c) s fun u =>
      u.dev = stSentinel ∧ u.power.cause = 8 ∧ (u.hkChan c).faultActive = true ∧ u.ro 0x2E30 0x04 = (s.ro 0x2E30 0x04 + 1) % 2 ^ 32 ∧
      Posted 0x2E05 (le 1 c ++ le 4 (Config.hkFixed c (s.ro 0x2E10 0x02 c)) ++ le 1 stSentinel) s u) ∧
  (∀ (t c : Nat) (s : State),
    Room s → (s.running = true ∨ s.dev = stSentinel) → (c = 16 ∨ c = 19 ∨ c = 22) → 10 ≤ (s.hkChan c).faultCount → (s.hkChan c).faultActive = false →
    Answers (.faultLimit t c) s fun u =>
      u.dev = stSafeTalk ∧ u.power.cause = 8 ∧ u.ro 0x2E30 0x04 = (s.ro 0x2E30 0x04 + 1) % 2 ^ 32 ∧
      Posted 0x2E05 (le 1 c ++ le 4 (Config.hkFixed c (s.ro 0x2E10 0x02 c)) ++ le 1 stSafeTalk) s u) ∧
  (∀ (t : Nat) (s : State),
    Room s → hkRuns s = true → 10 ≤ (s.hkChan 23).faultCount → (s.hkChan 23).faultActive = false →
    Answers (.faultLimit t 23) s fun u =>
      u.dev = s.dev ∧ u.hk.calFailed = true ∧ u.hk.checkFailed = true ∧ u.ro 0x2E01 0x05 = 2 ∧
      Posted 0x2E05 (le 1 23 ++ le 4 (Config.hkFixed 23 (s.ro 0x2E10 0x02 23)) ++ le 1 0xFF) s u ∧
      Touches [.hk] [(0x2E01, 5), (0x2E10, 3), (0x2E30, 4)] (s.advance t) u) ∧
  (∀ (t c : Nat) (s : State),
    (hkRuns s = false ∨ c < 16 ∨ 23 < c ∨ (s.hkChan c).faultCount < 10 ∨ (s.hkChan c).faultActive = true) →
    Answers (.faultLimit t c) s fun u => Touches [] [] (s.advance t) u) ∧
  (∀ (t c : Nat) (s : State),
    Room s → hkRuns s = true → (c = 17 ∨ c = 18 ∨ c = 20 ∨ c = 21) → (s.dev = stSentinel ∨ s.dev = stSafeTalk) →
    10 ≤ (s.hkChan c).faultCount → (s.hkChan c).faultActive = false →
    Answers (.faultLimit t c) s fun u =>
      u.dev = s.dev ∧ (u.hkChan c).faultActive = true ∧ u.ro 0x2E30 0x04 = (s.ro 0x2E30 0x04 + 1) % 2 ^ 32 ∧
      Posted 0x2E05 (le 1 c ++ le 4 (Config.hkFixed c (s.ro 0x2E10 0x02 c)) ++ le 1 0xFF) s u ∧ Touches [.hk] [(0x2E30, 4)] (s.advance t) u)

/-- In a powered state other than RECOVERY: BYRDO_LOCKSTEP_MISMATCH, and BYRDO_WATCHDOG_EXPIRY outside trial, with no Byrdo fault in the 60 s
before, count in 0x2E00:01 or :02, show the instant in 0x2E00:03, close every session, end the subscriptions, clear the mailbox, end the
freeze and a pending swap, and, with no swap, validation or transfer in progress, leave every part of the measurement, the ports, the
housekeeping and the sets as they are. Within 60 s of the last one, in RUN or TRIM, either one makes the device enter SAFE_TALK of cause
0x0B. BYRDO_RESTART_COMPLETE posts event 0x2E01 with the cause and both counts. HELD_COUNTER_COPY in RUN or TRIM copies the C-die's
counters. Elsewhere they have no effect. -/
def Obligations.ByrdoRestartsAlone : Prop :=
  (∀ (t : Nat) (s : State),
    s.powered = true → s.dev ≠ stRecovery → (s.log.lastByrdoFault.all fun a => decide (a + sec 60 < max s.now t)) = true →
    Answers (.byrdoLockstepMismatch t) s fun u =>
      u.ro 0x2E00 0x01 = (s.ro 0x2E00 0x01 + 1) % 2 ^ 32 ∧ u.ro 0x2E00 0x03 = shownT96 (s.advance t) ∧ u.log.byrdoDown = true ∧ u.log.byrdoCause = 0 ∧
      u.log.lastByrdoFault = some (max s.now t) ∧ u.log.frozenBy = none ∧ u.sets.swap = none ∧ u.sets.validating = none ∧
      u.imian.sessions = [] ∧ u.imian.subscriptions = [] ∧ u.imian.transfers = [] ∧ u.imian.mailbox = Mailbox.reset ∧ u.dev = s.dev) ∧
  (∀ (t : Nat) (s : State),
    s.powered = true → s.dev ≠ stRecovery → (s.log.lastByrdoFault.all fun a => decide (a + sec 60 < max s.now t)) = true → inTrial s = false →
    Answers (.byrdoWatchdogExpiry t) s fun u =>
      u.ro 0x2E00 0x02 = (s.ro 0x2E00 0x02 + 1) % 2 ^ 32 ∧ u.ro 0x2E00 0x03 = shownT96 (s.advance t) ∧ u.log.byrdoDown = true ∧ u.log.byrdoCause = 1 ∧
      u.log.lastByrdoFault = some (max s.now t) ∧ u.log.frozenBy = none ∧ u.sets.swap = none ∧ u.sets.validating = none ∧
      u.imian.sessions = [] ∧ u.imian.subscriptions = [] ∧ u.imian.transfers = [] ∧ u.imian.mailbox = Mailbox.reset ∧ u.dev = s.dev) ∧
  (∀ (t : Nat) (c : Instr) (s : State),
    c ∈ [.byrdoLockstepMismatch t, .byrdoWatchdogExpiry t] →
    s.powered = true → s.dev ≠ stRecovery → (s.log.lastByrdoFault.all fun a => decide (a + sec 60 < max s.now t)) = true → inTrial s = false →
    s.log.frozenBy = none → s.sets.swap = none → s.sets.validating = none → s.imian.transfers = [] →
    Answers c s fun u => Touches [.imian, .live] [(0x2E00, 1), (0x2E00, 2), (0x2E00, 3)] (s.advance t) u) ∧
  (∀ (t a : Nat) (c : Instr) (s : State),
    c ∈ [.byrdoLockstepMismatch t, .byrdoWatchdogExpiry t] →
    s.running = true → s.power.resetLow = false → inTrial s = false → s.log.lastByrdoFault = some a → max s.now t ≤ a + sec 60 →
    Answers c s fun u =>
      u.dev = stSafeTalk ∧ u.power.cause = 0x0B ∧ u.log.byrdoDown = true ∧ u.imian.sessions = [] ∧ u.log.lastByrdoFault = some (max s.now t)) ∧
  (∀ (t : Nat) (s : State),
    Room s → s.log.byrdoDown = true →
    Answers (.byrdoRestartComplete t) s fun u =>
      u.log.byrdoDown = false ∧ Posted 0x2E01 (le 1 s.log.byrdoCause ++ le 4 (s.ro 0x2E00 0x01) ++ le 4 (s.ro 0x2E00 0x02)) s u ∧
      Touches [] [] (s.advance t) u) ∧
  (∀ (t : Nat) (s : State),
    s.running = true →
    Answers (.heldCounterCopy t) s fun u =>
      u.log.held = (s.status.filter fun e => [0x2320, 0x2420, 0x2540, 0x2630, 0x2720, 0x2840, 0x2C10].contains (e.1 / 0x100000000)) ∧
      Touches [] [] (s.advance t) u) ∧
  (∀ (t : Nat) (s : State),
    (s.powered = false ∨ s.dev = stRecovery) →
    Answers (.byrdoLockstepMismatch t) s fun u => Touches [] [] (s.advance t) u) ∧
  (∀ (t : Nat) (s : State),
    (s.powered = false ∨ s.dev = stRecovery) →
    Answers (.byrdoWatchdogExpiry t) s fun u => Touches [] [] (s.advance t) u) ∧
  (∀ (t : Nat) (s : State),
    (s.log.byrdoDown = false ∨ s.powered = false) →
    Answers (.byrdoRestartComplete t) s fun u => u.log.byrdoDown = s.log.byrdoDown ∧ Touches [] [] (s.advance t) u) ∧
  (∀ (t : Nat) (s : State),
    s.running = false → Answers (.heldCounterCopy t) s fun u => u.log.held = s.log.held ∧ Touches [] [] (s.advance t) u)

/-- ENTER_RUN in START with self-test passed, the set loaded and the wait of R53 over gives RUN with the cause START carries, with event 0x1020.
In RUN or TRIM 0x2F30:02, a C-die fatal error, a lost die-to-die link and a lost memory channel give SENTINEL of causes 1, 5, 6, 7 with the
C-die off and the slots and ingest lost; elsewhere the command is answered 0x06 and the faults change nothing. 0x2F30:03 in SENTINEL without
a fault limit and no restart under way raises CDIE_EN, else is answered 0x06. The automatic restart does so after the clear time, up to the
limit, then posts event 0x2F08 once; it does nothing after an entry by command or before that time. CDIE_RESTART_END without failure gives
RUN, of the ended condition's cause after an automatic restart, else 1, with item results and event 0x2F07; with item 7, item 9 or item 8
beyond its slices failed SENTINEL stays with the C-die off, counted in 0x2F20:05; with no restart it changes nothing. SAFE_TALK of cause 8
resets by itself, out of trial, after the clear time where 0x2F01:04 is set, and not otherwise. -/
def Obligations.DeviceStateFollowsR601 : Prop :=
  (∀ (t : Nat) (s : State),
    Room s → s.dev = stStart → s.power.selfTestPassed = true → s.power.setLoaded = true → s.power.lockWaitOver = true →
    Answers (.enterRun t) s fun u =>
      u.dev = stRun ∧ u.power.cause = s.power.startCause ∧ u.power.ran = true ∧ u.time.gatOn = true ∧
      Posted 0x1020 (le 1 stStart ++ le 1 stRun ++ le 1 s.power.startCause) s u) ∧
  (∀ (t : Nat) (s : State),
    (s.dev ≠ stStart ∨ s.powered = false ∨ s.power.selfTestPassed = false ∨ s.power.setLoaded = false ∨ s.power.lockWaitOver = false) →
    Answers (.enterRun t) s fun u => Touches [] [] (s.advance t) u) ∧
  (∀ (t : Nat) (who : Who) (s : State),
    AcceptedPlain 0x2F30 0x02 who (s.advance t) → s.running = true →
    Answers (.enterSentinel t who) s fun u =>
      Answered who 0 u ∧ u.dev = stSentinel ∧ u.power.cause = 1 ∧ u.power.sentinelByCommand = true ∧ u.power.cdieOn = false ∧
      u.groups = [] ∧ u.ingest = IngestSt.reset ∧ u.host.linkUp = false ∧ u.active = s.active) ∧
  (∀ (t : Nat) (who : Who) (s : State),
    AcceptedPlain 0x2F30 0x02 who (s.advance t) → s.running = false →
    Answers (.enterSentinel t who) s fun u => Answered who 6 u ∧ Touches [.imian] [(0x1120, 1), (0x1120, 2)] (s.advance t) u) ∧
  (∀ (t : Nat) (s : State),
    Room s → s.running = true →
    Answers (.cdieFatalError t) s fun u =>
      u.dev = stSentinel ∧ u.power.cause = 5 ∧ u.power.sentinelByCommand = false ∧ u.power.causeEndedAt = some (max s.now t) ∧ u.power.cdieOn = false ∧
      u.groups = [] ∧ Posted 0x1020 (le 1 s.dev ++ le 1 stSentinel ++ le 1 5) s u) ∧
  (∀ (t : Nat) (s : State),
    Room s → s.running = true →
    Answers (.d2dLinkLost t) s fun u =>
      u.dev = stSentinel ∧ u.power.cause = 6 ∧ u.power.sentinelByCommand = false ∧ u.power.cdieOn = false ∧ u.groups = [] ∧
      Posted 0x1020 (le 1 s.dev ++ le 1 stSentinel ++ le 1 6) s u) ∧
  (∀ (t channel : Nat) (s : State),
    Room s → s.running = true → channel < 8 →
    Answers (.packageMemoryLost t channel) s fun u =>
      u.dev = stSentinel ∧ u.power.cause = 7 ∧ u.power.sentinelByCommand = false ∧ u.power.cdieOn = false ∧ u.groups = [] ∧
      Posted 0x1020 (le 1 s.dev ++ le 1 stSentinel ++ le 1 7) s u) ∧
  (∀ (t channel : Nat) (c : Instr) (s : State),
    s.running = false → c ∈ [.cdieFatalError t, .d2dLinkLost t, .packageMemoryLost t channel] →
    Answers c s fun u => Touches [] [] (s.advance t) u) ∧
  (∀ (t channel : Nat) (s : State),
    8 ≤ channel → Answers (.packageMemoryLost t channel) s fun u => Touches [] [] (s.advance t) u) ∧
  (∀ (t : Nat) (who : Who) (s : State),
    AcceptedPlain 0x2F30 0x03 who (s.advance t) → s.dev = stSentinel → s.power.restart = none → faultHolds s = false →
    Answers (.restartCdie t who) s fun u =>
      Answered who 0 u ∧ u.power.restart = some 0 ∧ u.power.cdieOn = true ∧ u.dev = stSentinel ∧
      Touches [.power, .imian] [(0x1120, 1), (0x1120, 2)] (s.advance t) u) ∧
  (∀ (t : Nat) (who : Who) (s : State),
    AcceptedPlain 0x2F30 0x03 who (s.advance t) → (s.dev ≠ stSentinel ∨ s.power.restart ≠ none ∨ faultHolds s = true) →
    Answers (.restartCdie t who) s fun u => Answered who 6 u ∧ Touches [.imian] [(0x1120, 1), (0x1120, 2)] (s.advance t) u) ∧
  (∀ (t : Nat) (s : State),
    s.dev = stSentinel → s.powered = true → s.power.restart = none → s.power.sentinelByCommand = false → s.cfgB 0x2F01 0x01 = true →
    causeCleared (s.advance t) = true → (recentRestarts (s.advance t)).length < s.cfg 0x2F01 0x02 →
    Answers (.automaticRestart t) s fun u =>
      u.power.restart = some 1 ∧ u.power.cdieOn = true ∧ u.power.restarts = recentRestarts (s.advance t) ++ [max s.now t] ∧
      u.dev = stSentinel ∧ Touches [.power] [] (s.advance t) u) ∧
  (∀ (t : Nat) (s : State),
    Room s → s.dev = stSentinel → s.power.restart = none → s.power.sentinelByCommand = false → s.cfgB 0x2F01 0x01 = true →
    causeCleared (s.advance t) = true → s.cfg 0x2F01 0x02 ≤ (recentRestarts (s.advance t)).length → s.power.limitReported = false →
    Answers (.automaticRestart t) s fun u =>
      u.power.restart = none ∧ u.power.limitReported = true ∧ Posted 0x2F08 (le 1 (recentRestarts (s.advance t)).length) s u ∧
      u.dev = stSentinel ∧ Touches [.power] [] (s.advance t) u) ∧
  (∀ (t : Nat) (s : State),
    (s.dev ≠ stSentinel ∨ s.powered = false ∨ s.power.restart ≠ none ∨ s.power.sentinelByCommand = true ∨ s.cfgB 0x2F01 0x01 = false ∨
      causeCleared (s.advance t) = false ∨ (s.cfg 0x2F01 0x02 ≤ (recentRestarts (s.advance t)).length ∧ s.power.limitReported = true)) →
    Answers (.automaticRestart t) s fun u => Touches [] [] (s.advance t) u) ∧
  (∀ (t k : Nat) (s : State),
    Room s → s.dev = stSentinel → s.power.restart = some k → s.place.restoreRetired = false →
    Answers (.cdieRestartEnd t []) s fun u =>
      u.dev = stRun ∧ u.power.cause = (if k = 1 then s.power.cause else 1) ∧ u.power.restart = none ∧
      u.ro 0x2F20 0x04 = (s.ro 0x2F20 0x04 + 1) % 2 ^ 32 ∧ u.ro 0x2F20 0x05 = s.ro 0x2F20 0x05 ∧
      (∀ i ∈ [7, 8, 9], u.ro 0x2F03 0x01 i = 1) ∧ Posted 0x2F07 (le 1 0 ++ le 1 k ++ le 1 0xFF) s u) ∧
  (∀ (t k : Nat) (failed : List (Nat × Nat)) (s : State),
    Room s → s.dev = stSentinel → s.power.restart = some k → s.place.restoreRetired = false →
    (failed.all fun e => e.1 != 8 || decide (68 ≤ e.2)) = true → (failed.any fun e => e.1 == 7 || e.1 == 8 || e.1 == 9) = true →
    Answers (.cdieRestartEnd t failed) s fun u =>
      u.dev = stSentinel ∧ u.power.restart = none ∧ u.power.cdieOn = false ∧
      u.ro 0x2F20 0x04 = (s.ro 0x2F20 0x04 + 1) % 2 ^ 32 ∧ u.ro 0x2F20 0x05 = (s.ro 0x2F20 0x05 + 1) % 2 ^ 32 ∧
      (∀ i ∈ [7, 8, 9], u.ro 0x2F03 0x01 i = if failed.any fun e => e.1 == i then 2 else 1) ∧
      Posted 0x2F07 (le 1 1 ++ le 1 k ++ le 1 (if failed.any fun e => e.1 == 7 then 7 else if failed.any fun e => e.1 == 8 then 8 else 9)) s u) ∧
  (∀ (t : Nat) (failed : List (Nat × Nat)) (s : State),
    (s.power.restart = none ∨ s.dev ≠ stSentinel) →
    Answers (.cdieRestartEnd t failed) s fun u => Touches [] [] (s.advance t) u) ∧
  (∀ (t : Nat) (s : State),
    (s.dev ≠ stSafeTalk ∨ s.powered = false ∨ s.power.cause ≠ 8 ∨ s.cfgB 0x2F01 0x04 = false ∨ causeCleared (s.advance t) = false) →
    Answers (.automaticReset t) s fun u => Touches [] [] (s.advance t) u) ∧
  (∀ (t : Nat) (s : State),
    s.dev = stSafeTalk → s.powered = true → s.power.cause = 8 → s.cfgB 0x2F01 0x04 = true → causeCleared (s.advance t) = true →
    bankTrial s.keys.bankWord = false → s.keys.bankA.valid = true →
    Answers (.automaticReset t) s fun u =>
      u.dev = stStart ∧ u.power.cause = 8 ∧ u.power.startCause = 8 ∧ u.power.selfTestPassed = false ∧ u.imian.sessions = [] ∧ u.active = s.active)

/-- RESET_N low for 10 us or more holds the powered block, below 1 us it does nothing; between, one free value decides whether it holds. Its
release begins START, or RECOVERY with RECOVER_N low, with what MRAM keeps and slots, Sluices and sessions empty; without a reset held it
does nothing. SELF_TEST_COMPLETE in START before its end: with no item failed and no set that verifies it loads the defaults, with every
item passed and event 0x2F04 (out of trial); with item 1 failed it gives SAFE_TALK of cause 4, with item 7 or 9 SENTINEL of cause 2 or 3,
with item 3 and no other bank RECOVERY, each with its item's event 0x2F03; in trial any of those gives START of cause 1 on the previous
bank; elsewhere it does nothing. 0x2F30:01 gives KENNEL of cause 1 with sessions closed, T96 latched while set, or OFF without VBAT; in
START or RECOVERY it is answered 0x06. Supply loss gives KENNEL of cause 8, or OFF without VBAT, where the latched time is lost; in OFF it
does nothing. VBAT lost sets its flag, and in KENNEL with the regulators off gives OFF. The power-fail warning marks the save area valid,
latches T96 while set, and both its edges raise event 0x2F05; a second edge of one kind does nothing. -/
def Obligations.ResetAndSupplyFollowR708 : Prop :=
  (∀ (t width : Nat) (s : State),
    s.powered = true → 10000 ≤ width →
    Answers (.resetNAsserted t width) s fun u => u.power.resetLow = true ∧ u.host.linkUp = false ∧ u.time.pulses = [] ∧ u.powered = false) ∧
  (∀ (t width : Nat) (s : State),
    width < 1000 →
    Answers (.resetNAsserted t width) s fun u => u.outs = [] ∧ Touches [] [] (s.advance t) u) ∧
  (∀ (t width : Nat) (s : State),
    s.powered = true → 1000 ≤ width → width < 10000 →
    Answers (.resetNAsserted t width) s fun u =>
      u.draws = s.draws + 1 ∧ u.power.resetLow = (s.free % 2 == 1) ∧ (u.power.resetLow = false → Touches [.draws] [] (s.advance t) u)) ∧
  (∀ (t : Nat) (b : Bool) (s : State),
    s.power.resetLow = false → Answers (.resetNRelease t b) s fun u => Touches [] [] (s.advance t) u) ∧
  (∀ (t : Nat) (s : State),
    s.power.resetLow = true → bankTrial s.keys.bankWord = false → s.keys.bankA.valid = true →
    Answers (.resetNRelease t true) s fun u =>
      u.dev = stStart ∧ u.power.resetLow = false ∧ u.power.cause = 0 ∧ u.power.startAt = max s.now t ∧ u.power.selfTestPassed = false ∧
      u.active = s.active ∧ u.sets.stored = s.sets.stored ∧ u.log.cursor = s.log.cursor ∧ u.log.base = s.log.base ∧ u.keys.blobs = s.keys.blobs ∧
      u.imian.sessions = [] ∧ u.groups = [] ∧ u.host.sluices = []) ∧
  (∀ (t : Nat) (s : State),
    s.power.resetLow = true → bankTrial s.keys.bankWord = false → s.keys.bankA.valid = true →
    Answers (.resetNRelease t false) s fun u =>
      u.dev = stRecovery ∧ u.power.resetLow = false ∧ u.power.cause = 0x0A ∧ u.active = s.active) ∧
  (∀ (t d : Nat) (averages : List (Nat × Nat)) (s : State),
    Room s → testing s = true → inTrial s = false → s.keys.locked = false → s.life ≠ 4 → modulatorsFailed s averages = 0 →
    Answers (.selfTestComplete t ⟨[], averages⟩ d 3) s fun u =>
      u.dev = stStart ∧ u.power.selfTestPassed = true ∧ u.power.setLoaded = true ∧ u.active = [] ∧ u.ro 0x2F03 0x04 = 0 ∧ u.ro 0x2F03 0x03 = d ∧
      (∀ i ∈ List.range 10, u.ro 0x2F03 0x01 i = 1) ∧ Posted 0x2F04 (le 1 0 ++ le 4 d) s u) ∧
  (∀ (t d : Nat) (averages : List (Nat × Nat)) (s : State),
    Room s → testing s = true → inTrial s = false → s.keys.locked = false → s.life ≠ 4 → modulatorsFailed s averages ≠ 0 →
    Answers (.selfTestComplete t ⟨[], averages⟩ d 3) s fun u =>
      u.dev = stStart ∧ u.power.selfTestPassed = true ∧ u.ro 0x2F03 0x04 = 0 ∧ u.ro 0x2F03 0x01 6 = 2 ∧
      u.ro 0x2F03 0x02 6 = modulatorsFailed s averages ∧ Posted 0x2F03 (le 1 6 ++ le 4 (modulatorsFailed s averages)) s u) ∧
  (∀ (t d : Nat) (averages : List (Nat × Nat)) (s : State),
    Room s → testing s = true → inTrial s = false → s.keys.locked = false → s.life ≠ 4 →
    Answers (.selfTestComplete t ⟨[(1, 0)], averages⟩ d 3) s fun u =>
      u.dev = stSafeTalk ∧ u.power.cause = 4 ∧ u.power.mramLost = true ∧ u.ro 0x2F03 0x04 = 2 ∧ u.ro 0x2F03 0x01 1 = 2 ∧
      (∀ i ∈ [7, 8, 9], u.ro 0x2F03 0x01 i = 3) ∧ Posted 0x2F03 (le 1 1 ++ le 4 0) s u) ∧
  (∀ (t d i : Nat) (averages : List (Nat × Nat)) (s : State),
    Room s → testing s = true → inTrial s = false → s.keys.locked = false → s.life ≠ 4 → (i = 7 ∨ i = 9) →
    Answers (.selfTestComplete t ⟨[(i, 0)], averages⟩ d 3) s fun u =>
      u.dev = stSentinel ∧ u.power.cause = (if i = 7 then 2 else 3) ∧ u.power.cdieOn = false ∧ u.ro 0x2F03 0x04 = 1 ∧ u.ro 0x2F03 0x01 i = 2 ∧
      Posted 0x2F03 (le 1 i ++ le 4 0) s u) ∧
  (∀ (t d part : Nat) (averages : List (Nat × Nat)) (s : State),
    Room s → testing s = true → inTrial s = false → s.keys.locked = false → s.life ≠ 4 → otherBank s = none →
    Answers (.selfTestComplete t ⟨[(3, part)], averages⟩ d 3) s fun u =>
      u.dev = stRecovery ∧ u.power.cause = 0x0A ∧ u.ro 0x2F03 0x01 3 = 2 ∧
      Posted 0x3108 (le 1 (bankActive s.keys.bankWord) ++ le 1 part) s u) ∧
  (∀ (t d i : Nat) (averages : List (Nat × Nat)) (s : State),
    testing s = true → inTrial s = true → s.keys.locked = false → s.life ≠ 4 → i ∈ [1, 2, 3, 7, 9] →
    (s.keys.bankA.valid || s.keys.bankB.valid) = true →
    Answers (.selfTestComplete t ⟨[(i, 0)], averages⟩ d 3) s fun u =>
      u.dev = stStart ∧ u.power.cause = 1 ∧ bankActive u.keys.bankWord = bankPrevious s.keys.bankWord ∧ inTrial u = false ∧
      u.power.selfTestPassed = false) ∧
  (∀ (t d fallback : Nat) (failed averages : List (Nat × Nat)) (s : State),
    testing s = false → Answers (.selfTestComplete t ⟨failed, averages⟩ d fallback) s fun u => Touches [] [] (s.advance t) u) ∧
  (∀ (s : State),
    refusesStart (validateSet s.sets.stored s) = false →
    (loadSet 0 s).1.active = s.sets.stored ∧ (loadSet 0 s).2 = false ∧ (loadSet 0 s).1.power.setLoaded = true) ∧
  (∀ (t : Nat) (who : Who) (s : State),
    AcceptedPlain 0x2F30 0x01 who (s.advance t) → kennelAdmitted s = true → s.power.vbat = true →
    Answers (.enterKennel t who) s fun u =>
      Answered who 0 u ∧ u.dev = stKennel ∧ u.power.cause = 1 ∧ u.power.before = s.dev ∧ u.power.cdieOn = false ∧ u.host.linkUp = false ∧
      u.imian.sessions = [] ∧ u.power.saveAreaValid = true ∧ u.active = s.active ∧
      (s.time.isSet = true → u.time.latch.valid = true ∧ u.time.latch.t96 = (s.advance t).t96)) ∧
  (∀ (t : Nat) (who : Who) (s : State),
    AcceptedPlain 0x2F30 0x01 who (s.advance t) → kennelAdmitted s = true → s.power.vbat = false →
    Answers (.enterKennel t who) s fun u =>
      Answered who 0 u ∧ u.dev = stOff ∧ u.imian.sessions = [] ∧ u.time.latch.valid = false ∧ u.power.saveAreaValid = false ∧ u.active = s.active) ∧
  (∀ (t : Nat) (who : Who) (s : State),
    AcceptedPlain 0x2F30 0x01 who (s.advance t) → kennelAdmitted s = false →
    Answers (.enterKennel t who) s fun u => Answered who 6 u ∧ Touches [.imian] [(0x1120, 1), (0x1120, 2)] (s.advance t) u) ∧
  (∀ (t : Nat) (s : State),
    s.dev ≠ stOff → s.dev ≠ stKennel → s.power.vbat = true →
    Answers (.supplyLoss t) s fun u =>
      u.dev = stKennel ∧ u.power.cause = 8 ∧ u.power.mainSupply = false ∧ u.power.lossFrom = some s.dev ∧ u.power.before = s.dev ∧
      u.time.latch.valid = s.time.latch.valid ∧ u.time.latch.t96 = s.time.latch.t96 ∧ u.time.latch.rtc = s.time.latch.rtc ∧ u.active = s.active) ∧
  (∀ (t : Nat) (s : State),
    s.dev ≠ stOff → s.dev ≠ stKennel → s.power.vbat = false →
    Answers (.supplyLoss t) s fun u =>
      u.dev = stOff ∧ u.power.mainSupply = false ∧ u.power.lossFrom = some s.dev ∧ u.time.latch.valid = false ∧ u.keys.kennelCounter = 0 ∧
      u.power.saveAreaValid = false ∧ u.active = s.active) ∧
  (∀ (t : Nat) (s : State),
    s.dev = stKennel → s.power.vbat = true →
    Answers (.supplyLoss t) s fun u => u.power = { s.power with mainSupply := false, faultN := u.power.faultN } ∧ Touches [.power] [] (s.advance t) u) ∧
  (∀ (t : Nat) (s : State),
    s.dev = stOff → Answers (.supplyLoss t) s fun u => Touches [] [] (s.advance t) u) ∧
  (∀ (t : Nat) (s : State),
    s.dev ≠ stOff → s.dev ≠ stKennel →
    Answers (.vbatLost t) s fun u =>
      u.power.vbat = false ∧ u.power.vbatLostFlag = true ∧ u.dev = s.dev ∧ Touches [.power] [] (s.advance t) u) ∧
  (∀ (t : Nat) (s : State),
    s.dev = stKennel → (s.power.wake.all fun w => decide (w.stage < 2) || w.discharging) = true →
    Answers (.vbatLost t) s fun u => u.power.vbat = false ∧ u.dev = stOff ∧ u.time.latch.valid = false) ∧
  (∀ (t : Nat) (w : Wake) (s : State),
    s.dev = stKennel → s.power.wake = some w → 2 ≤ w.stage → w.discharging = false →
    Answers (.vbatLost t) s fun u =>
      u.power.vbat = false ∧ u.power.vbatLostFlag = true ∧ u.dev = stKennel ∧ u.power.wake = s.power.wake ∧ Touches [.power] [] (s.advance t) u) ∧
  (∀ (t : Nat) (s : State),
    Room s → s.power.pfwLow = false →
    Answers (.powerFailWarning t) s fun u =>
      u.power.pfwLow = true ∧ u.power.saveAreaValid = true ∧ (s.time.isSet = true → u.time.latch.valid = true ∧ u.time.latch.t96 = (s.advance t).t96) ∧
      u.ro 0x2F20 0x03 = (s.ro 0x2F20 0x03 + 1) % 2 ^ 32 ∧ Posted 0x2F05 (le 1 1) s u ∧ u.dev = s.dev) ∧
  (∀ (t : Nat) (s : State),
    (s.power.pfwLow = true ∨ s.dev = stOff) → Answers (.powerFailWarning t) s fun u => Touches [] [] (s.advance t) u) ∧
  (∀ (t : Nat) (s : State),
    Room s → s.power.pfwLow = true →
    Answers (.powerFailRelease t) s fun u => u.power.pfwLow = false ∧ Posted 0x2F05 (le 1 0) s u ∧ Touches [.power] [] (s.advance t) u) ∧
  (∀ (t : Nat) (s : State),
    s.power.pfwLow = false → Answers (.powerFailRelease t) s fun u => Touches [] [] (s.advance t) u)

/-- A cold power-on in OFF, the enabled WAKE pin or tamper source in KENNEL with the supply good, and the enabled return of the supply, start a
wake at attempt 1, stage 1, with the record begun; a source whose bit is clear, or that comes during a wake, is noted in the record and
otherwise ignored; one that comes with PFW_N low is latched, and acts, with code 4 noted, when PFW_N returns with the supply there. In
SENTINEL entered by command the enabled WAKE pin (trigger 2), RTC alarm (3, when its seconds have passed) or pack command (4) starts a C-die
restart. Elsewhere a source does nothing. A stage whose monitors are good when its delay has passed (native), or whose ready signal and
monitors are good (compatibility), gives the next one, the fourth START of cause 9 (0 from OFF), out of trial, with the record closed, or
RECOVERY with RECOVER_N low; one whose delay or timeout has passed without fails, recorded, and the device discharges for 10 ms; before that
it waits. WAKE_DISCHARGE_END after those 10 ms starts the next attempt, or after the third gives WAKE_FAULT; before it, or without a wake,
it does nothing. -/
def Obligations.WakeFollowsR611 : Prop :=
  (∀ (t rtc : Nat) (good vbat : Bool) (s : State),
    s.dev = stOff → s.power.wake = none →
    Answers (.wakeSource t 0 rtc good vbat) s fun u =>
      u.power.wake = some ⟨0, 1, 1, false, max s.now t, max s.now t⟩ ∧ u.power.mainSupply = true ∧ u.power.vbat = vbat ∧ u.dev = stOff ∧
      Touches [.power] [] (s.advance t) u) ∧
  (∀ (t source rtc : Nat) (good vbat : Bool) (s : State),
    s.dev = stKennel → (source = 1 ∨ source = 3) → bit (s.rw 0x2F00 0x02) (source - 1) = true → s.power.wake = none → s.power.mainSupply = true →
    s.power.pfwLow = false →
    Answers (.wakeSource t source rtc good vbat) s fun u =>
      u.power.wake = some ⟨source, 1, 1, false, max s.now t, max s.now t⟩ ∧ u.power.record.source = source ∧
      u.power.record.mode = s.rw 0x2F00 0x01 ∧ u.power.record.attempts = 0 ∧ u.power.saveAreaValid = (s.power.saveAreaValid && good) ∧
      u.dev = stKennel ∧ Touches [.power] [] (s.advance t) u) ∧
  (∀ (t source rtc : Nat) (good vbat : Bool) (s : State),
    s.dev = stKennel → (source = 1 ∨ source = 2 ∨ source = 3) → bit (s.rw 0x2F00 0x02) (source - 1) = false → s.power.wake = none →
    Answers (.wakeSource t source rtc good vbat) s fun u =>
      u.power.wake = none ∧ bit u.power.record.others source = true ∧ Touches [.power] [] (s.advance t) u) ∧
  (∀ (t source rtc : Nat) (good vbat : Bool) (w : Wake) (s : State),
    s.dev = stKennel → source ∈ [1, 2, 3, 4] → s.power.wake = some w → 1 ≤ w.stage →
    Answers (.wakeSource t source rtc good vbat) s fun u =>
      u.power.wake = some w ∧ bit u.power.record.others source = true ∧ Touches [.power] [] (s.advance t) u) ∧
  (∀ (t rtc : Nat) (good vbat : Bool) (s : State),
    s.dev = stKennel → bit (s.rw 0x2F00 0x02) 3 = true → s.power.wake = none →
    Answers (.wakeSource t 4 rtc good vbat) s fun u =>
      u.power.wake = some ⟨4, 1, 1, false, max s.now t, max s.now t⟩ ∧ u.power.record.source = 4 ∧ u.power.mainSupply = true ∧ u.power.pfwLow = false ∧
      u.power.saveAreaValid = (s.power.saveAreaValid && good) ∧ u.dev = stKennel) ∧
  (∀ (t source rtc : Nat) (good vbat : Bool) (s : State),
    s.dev = stKennel → (source = 1 ∨ source = 3) → bit (s.rw 0x2F00 0x02) (source - 1) = true → s.power.wake = none →
    s.power.mainSupply = true → s.power.pfwLow = true →
    Answers (.wakeSource t source rtc good vbat) s fun u =>
      u.power.wake = some ⟨source, 1, 0, false, max s.now t, max s.now t⟩ ∧ u.dev = stKennel) ∧
  (∀ (t : Nat) (w : Wake) (s : State),
    s.dev = stKennel → s.power.wake = some w → w.stage = 0 → s.power.pfwLow = true → s.power.mainSupply = true →
    Answers (.powerFailRelease t) s fun u =>
      u.power.pfwLow = false ∧ u.power.wake = some ⟨w.source, 1, 1, false, max s.now t, max s.now t⟩ ∧ u.power.record.source = w.source ∧
      bit u.power.record.others 4 = true ∧ Touches [.power] [] (s.advance t) u) ∧
  (∀ (t source rtc : Nat) (good vbat : Bool) (s : State),
    s.dev = stSentinel → s.powered = true → s.power.sentinelByCommand = true → s.power.restart = none →
    (source = 1 ∨ source = 5) → bit (s.rw 0x2F00 0x02) (source - 1) = true →
    Answers (.wakeSource t source rtc good vbat) s fun u =>
      u.power.restart = some (if source = 1 then 2 else 4) ∧ u.power.cdieOn = true ∧ u.power.record.source = source ∧
      u.power.record.attempts = 1 ∧ u.dev = stSentinel ∧ Touches [.power] [] (s.advance t) u) ∧
  (∀ (t rtc : Nat) (good vbat : Bool) (s : State),
    s.dev = stSentinel → s.powered = true → s.power.sentinelByCommand = true → s.power.restart = none →
    bit (s.rw 0x2F00 0x02) 1 = true → s.rw 0x2F00 0x03 ≠ 0 →
    s.rw 0x2F00 0x03 * 32768 ≤ (rtc % 2 ^ 48 + 2 ^ 48 - s.power.enteredRtc) % 2 ^ 48 →
    Answers (.wakeSource t 2 rtc good vbat) s fun u =>
      u.power.restart = some 3 ∧ u.power.cdieOn = true ∧ u.power.record.source = 2 ∧ u.dev = stSentinel ∧ Touches [.power] [] (s.advance t) u) ∧
  (∀ (t source rtc : Nat) (good vbat : Bool) (s : State),
    ((s.dev = stOff ∧ source ≠ 0) ∨ (s.dev = stKennel ∧ (source = 0 ∨ 4 < source)) ∨
      (s.dev = stSentinel ∧ (s.power.sentinelByCommand = false ∨ s.power.restart ≠ none ∨ source ∈ [0, 3, 4])) ∨
      s.running = true ∨ s.dev = stStart ∨ s.dev = stSafeTalk ∨ s.dev = stRecovery) →
    Answers (.wakeSource t source rtc good vbat) s fun u => Touches [] [] (s.advance t) u) ∧
  (∀ (t m : Nat) (r rec : Bool) (w : Wake) (s : State),
    s.power.wake = some w → 1 ≤ w.stage → w.stage ≤ 3 → w.discharging = false →
    m &&& requiredBits w.stage = requiredBits w.stage →
    (if s.power.record.mode = 0 then decide (w.stageAt + us (s.ro 0x2F00 0x04 (w.stage - 1)) * 2 ^ (w.attempt - 1) ≤ max s.now t) else r) = true →
    Answers (.wakeStageEnd t m r rec) s fun u =>
      u.power.wake = some { w with stage := w.stage + 1, stageAt := max s.now t } ∧ u.dev = s.dev ∧ Touches [.power] [] (s.advance t) u) ∧
  (∀ (t m : Nat) (r : Bool) (w : Wake) (s : State),
    s.power.wake = some w → w.stage = 4 → w.discharging = false →
    m &&& requiredBits 4 = requiredBits 4 →
    (if s.power.record.mode = 0 then decide (w.stageAt + us (s.ro 0x2F00 0x04 3) * 2 ^ (w.attempt - 1) ≤ max s.now t) else r) = true →
    bankTrial s.keys.bankWord = false → s.keys.bankA.valid = true → s.power.resetLow = false →
    Answers (.wakeStageEnd t m r true) s fun u =>
      u.dev = stStart ∧ u.power.cause = (if w.source = 0 then 0 else 9) ∧ u.power.wake = none ∧ u.power.record.attempts = w.attempt ∧
      u.power.record.wakes = (s.power.record.wakes + 1) % 2 ^ 32 ∧ u.power.record.source = s.power.record.source ∧
      u.ro 0x2F02 0x02 = b2n s.power.saveAreaValid) ∧
  (∀ (t m : Nat) (r : Bool) (w : Wake) (s : State),
    s.power.wake = some w → w.stage = 4 → w.discharging = false →
    m &&& requiredBits 4 = requiredBits 4 →
    (if s.power.record.mode = 0 then decide (w.stageAt + us (s.ro 0x2F00 0x04 3) * 2 ^ (w.attempt - 1) ≤ max s.now t) else r) = true →
    Answers (.wakeStageEnd t m r false) s fun u => u.dev = stRecovery ∧ u.power.cause = 0x0A ∧ u.power.wake = none) ∧
  (∀ (t m : Nat) (r rec : Bool) (w : Wake) (s : State),
    s.power.wake = some w → 1 ≤ w.stage → w.stage ≤ 4 → w.discharging = false →
    (m &&& requiredBits w.stage ≠ requiredBits w.stage ∨ (s.power.record.mode ≠ 0 ∧ r = false)) →
    w.stageAt + (if s.power.record.mode = 0 then us (s.ro 0x2F00 0x04 (w.stage - 1)) else ms (s.ro 0x2F00 0x05 (w.stage - 1))) * 2 ^ (w.attempt - 1) ≤ max s.now t →
    Answers (.wakeStageEnd t m r rec) s fun u =>
      u.power.wake = some { w with discharging := true, stageAt := max s.now t } ∧ u.power.record.failedStage = w.stage ∧
      u.power.record.attempts = w.attempt ∧ u.power.record.observed = m % 256 ∧ u.power.record.required = requiredBits w.stage ∧
      u.dev = s.dev ∧ Touches [.power] [] (s.advance t) u) ∧
  (∀ (t m : Nat) (r rec : Bool) (s : State),
    (s.power.wake.all fun w => w.stage == 0 || w.discharging ||
      (decide (max s.now t < w.stageAt + (if s.power.record.mode = 0 then us (s.ro 0x2F00 0x04 (w.stage - 1)) else ms (s.ro 0x2F00 0x05 (w.stage - 1))) *
        2 ^ (w.attempt - 1)) && (s.power.record.mode == 0 || !r))) = true →
    Answers (.wakeStageEnd t m r rec) s fun u => Touches [] [] (s.advance t) u) ∧
  (∀ (t : Nat) (w : Wake) (s : State),
    s.power.wake = some w → w.discharging = true → w.stageAt + ms 10 ≤ max s.now t → w.attempt < 3 →
    Answers (.wakeDischargeEnd t) s fun u =>
      u.power.wake = some { w with attempt := w.attempt + 1, stage := 1, discharging := false, stageAt := max s.now t } ∧
      Touches [.power] [] (s.advance t) u) ∧
  (∀ (t : Nat) (w : Wake) (s : State),
    s.power.wake = some w → w.discharging = true → w.stageAt + ms 10 ≤ max s.now t → 3 ≤ w.attempt →
    Answers (.wakeDischargeEnd t) s fun u =>
      u.power.wake = none ∧ u.power.wakeFault = true ∧ bit u.power.record.flags 7 = true ∧ (s.dev = stKennel → u.power.faultN = true) ∧
      Touches [.power] [] (s.advance t) u) ∧
  (∀ (t : Nat) (s : State),
    (s.power.wake.all fun w => !w.discharging || decide (max s.now t < w.stageAt + ms 10)) = true →
    Answers (.wakeDischargeEnd t) s fun u => Touches [] [] (s.advance t) u)

/-- SHEPHERD_VALID in STARTING, once the conditions of R631 hold, gives VALID with event 0x2F09; otherwise it does nothing. SHEPHERD_FAILURE
while Shepherd runs in START, RUN, TRIM or SENTINEL, by mismatch, or by watchdog expiry out of trial, gives FAILED, de-energises each of its
pins with cause 7, counts in 0x2F20:06 and posts event 0x2F0B; while it does not run nothing changes. SHEPHERD_MINIMUM_ALARM_EXPIRY
energises a Shepherd pin that nothing holds any more, leaves one that is held de-energised with its cause, and a pin that another owner
drives stays. -/
def Obligations.ShepherdFollowsR631 : Prop :=
  (∀ (t : Nat) (s : State),
    Room s → shepherdState s = 1 → shepherdReady (s.advance t) = true →
    Answers (.shepherdValid t) s fun u => shepherdState u = 2 ∧ Posted 0x2F09 (le 1 1 ++ le 1 2) s u ∧ u.dev = s.dev) ∧
  (∀ (t : Nat) (s : State),
    (shepherdState s ≠ 1 ∨ shepherdReady (s.advance t) = false) →
    Answers (.shepherdValid t) s fun u => Touches [] [] (s.advance t) u) ∧
  (∀ (t cause : Nat) (s : State),
    Room s → shepherdOn s = true → s.gdieOn = true → (cause = 1 → inTrial s = false) →
    Answers (.shepherdFailure t cause) s fun u =>
      shepherdState u = 3 ∧ u.power.shepherdFailed = true ∧ u.ro 0x2F20 0x06 = (s.ro 0x2F20 0x06 + 1) % 2 ^ 32 ∧
      (∀ p ∈ List.range 8, s.cfg 0x2700 0x01 p = 1 → u.ro 0x2711 0x01 p = 0 ∧ u.ro 0x2711 0x02 p = 7) ∧
      Posted 0x2F0B (le 1 cause) s u ∧ (s.dev = stRun → u.power.faultN = true) ∧ u.dev = s.dev) ∧
  (∀ (t cause : Nat) (s : State),
    shepherdOn s = false → Answers (.shepherdFailure t cause) s fun u => Touches [] [] (s.advance t) u) ∧
  (∀ (t p : Nat) (s : State),
    p < 8 → s.cfg 0x2700 0x01 p = 1 → shepherdPinCause (s.advance t) p = 0 →
    Answers (.shepherdMinimumAlarmExpiry t p) s fun u =>
      u.ro 0x2711 0x01 p = 1 ∧ u.ro 0x2711 0x02 p = 0 ∧ Touches [] [(0x2711, 1), (0x2711, 2)] (s.advance t) u) ∧
  (∀ (t p : Nat) (s : State),
    p < 8 → s.cfg 0x2700 0x01 p = 1 → shepherdPinCause (s.advance t) p ≠ 0 → s.ro 0x2711 0x01 p = 0 →
    Answers (.shepherdMinimumAlarmExpiry t p) s fun u =>
      u.ro 0x2711 0x01 p = 0 ∧ u.ro 0x2711 0x02 p = shepherdPinCause (s.advance t) p ∧ Touches [] [(0x2711, 2)] (s.advance t) u) ∧
  (∀ (t p : Nat) (s : State),
    (8 ≤ p ∨ s.cfg 0x2700 0x01 p ≠ 1) →
    Answers (.shepherdMinimumAlarmExpiry t p) s fun u => Touches [] [] (s.advance t) u)

/-- 0x3030:01 answers OK. A message that fails a check records its reason in 0x3011:01, counts in 0x3040:02, posts event 0x3002 and leaves the
keys; one that passes records 0x80, counts in 0x3040:01, posts event 0x3001 and, of types 1 to 6, takes its effect on the keys with its
counter; of types 7 to 9 it resets the device (out of trial), in which one more life-cycle bit is blown, of type 9 all. The effects on the
keys: type 3 deletes the blob, type 4 stores its payload in 0x3001:03, type 5 puts the new owner key in the lowest free slot and revokes the
signer's, type 6 clears LOCKED and the tamper latch, types 7 to 9 await the reset. A tamper sets the latch and posts event 0x2F0C; under
policy 1 it locks the key store, clears the cache and closes the sessions; in KENNEL it is kept for START; in OFF it does nothing. 0x3002:01
begins a signature, refused with 0x0D without a key and with 0x07 during one; ATTESTATION_COMPLETE stores a statement with the nonce, and
counts, or without one begun does nothing. -/
def Obligations.KeyUpdatesTakeEffectAsR648 : Prop :=
  (∀ (t : Nat) (who : Who) (s : State),
    AcceptedPlain 0x3030 0x01 who (s.advance t) → Room s → s.keys.lifePending = none →
    Answers (.applyKeyUpdate t who) s fun u =>
      Answered who 0 u ∧
      ((messageFault who (keyMessage s) (s.advance t)).isSome = true →
        u.ro 0x3011 0x01 = (messageFault who (keyMessage s) (s.advance t)).getD 0 ∧ u.ro 0x3040 0x02 = (s.ro 0x3040 0x02 + 1) % 2 ^ 32 ∧
        Posted 0x3002 (le 1 (msgType (keyMessage s)) ++ le 1 ((messageFault who (keyMessage s) (s.advance t)).getD 0)) s u ∧
        Touches [.imian] [(0x3011, 1), (0x3040, 2), (0x1120, 1), (0x1120, 2)] (s.advance t) u) ∧
      (messageFault who (keyMessage s) (s.advance t) = none → msgType (keyMessage s) ≤ 6 →
        u.ro 0x3011 0x01 = 0x80 ∧ u.ro 0x3040 0x01 = (s.ro 0x3040 0x01 + 1) % 2 ^ 32 ∧
        Posted 0x3001 (le 1 (msgType (keyMessage s)) ++ le 2 (msgHandle (keyMessage s)) ++ le 8 (msgCounter (keyMessage s))) s u ∧
        u.keys = (messageEffect (keyMessage s)
          (s.onKeys fun k => { k with counter := msgCounter (keyMessage s), kennelCounter := msgCounter (keyMessage s) })).keys) ∧
      (messageFault who (keyMessage s) (s.advance t) = none → 6 < msgType (keyMessage s) → bankTrial s.keys.bankWord = false →
        s.keys.bankA.valid = true →
        u.dev = stStart ∧ u.power.lifeBits = (if msgType (keyMessage s) = 9 then 16 else s.power.lifeBits + 1))) ∧
  (∀ (m : List Byte) (s : State),
    msgType m = 3 →
    lookup (msgHandle m) (messageEffect m s).keys.blobs = none ∧ (messageEffect m s).keys.owners = s.keys.owners) ∧
  (∀ (m : List Byte) (s : State),
    msgType m = 4 →
    (messageEffect m s).roBytes 0x3001 0x03 = msgPayload m ∧ (messageEffect m s).keys = s.keys) ∧
  (∀ (m key : List Byte) (i : Nat) (s : State),
    msgType m = 5 → freeSlot s = some i → lookup (msgSigner m) s.keys.owners = some (key, false) →
    lookup i (messageEffect m s).keys.owners = some (msgPayload m, false) ∧
      lookup (msgSigner m) (messageEffect m s).keys.owners = some (key, true) ∧ (messageEffect m s).keys.blobs = s.keys.blobs) ∧
  (∀ (m : List Byte) (s : State),
    msgType m = 6 →
    (messageEffect m s).keys = { s.keys with locked := false, tamperLatch := false }) ∧
  (∀ (m : List Byte) (s : State),
    7 ≤ msgType m →
    (messageEffect m s).keys = { s.keys with lifePending := some (msgType m) }) ∧
  (∀ (t input : Nat) (s : State),
    Room s → s.cfg 0x3000 0x02 = 1 → s.keys.locked = false →
    Answers (.tamper t input) s fun u =>
      u.keys.locked = true ∧ u.keys.cache = [] ∧ u.keys.tamperLatch = true ∧ u.imian.sessions = [] ∧ u.keys.blobs = s.keys.blobs ∧
      Posted 0x2F0C (le 1 input ++ le 1 s.dev) s u) ∧
  (∀ (t input : Nat) (s : State),
    Room s → (s.cfg 0x3000 0x02 = 0 ∨ s.keys.locked = true) →
    Answers (.tamper t input) s fun u =>
      u.keys = { s.keys with tamperLatch := true } ∧ Posted 0x2F0C (le 1 input ++ le 1 s.dev) s u ∧ Touches [.keys] [] (s.advance t) u) ∧
  (∀ (t input : Nat) (s : State),
    s.dev = stOff → Answers (.tamper t input) s fun u => Touches [] [] (s.advance t) u) ∧
  (∀ (t input : Nat) (s : State),
    s.dev = stKennel → s.cfg 0x3000 0x02 = 1 → s.keys.locked = false → s.power.tamperReport = none →
    Answers (.tamper t input) s fun u =>
      u.keys.locked = true ∧ u.keys.tamperLatch = true ∧ u.power.tamperReport = some (input, stKennel, true)) ∧
  (∀ (t : Nat) (who : Who) (nonce : List Byte) (s : State),
    Accepted 0x3002 0x01 noRow (.oct nonce) who (s.advance t) → attests s = true → s.keys.signing = none →
    Answers (.attest t who nonce) s fun u =>
      Answered who 0 u ∧ u.keys = { s.keys with signing := some nonce } ∧
      Touches [.keys, .imian] [(0x1120, 1), (0x1120, 2)] (s.advance t) u) ∧
  (∀ (t : Nat) (who : Who) (nonce : List Byte) (s : State),
    Accepted 0x3002 0x01 noRow (.oct nonce) who (s.advance t) → attests s = false →
    Answers (.attest t who nonce) s fun u => Answered who 0x0D u ∧ Touches [.imian] [(0x1120, 1), (0x1120, 2)] (s.advance t) u) ∧
  (∀ (t : Nat) (who : Who) (nonce : List Byte) (s : State),
    Accepted 0x3002 0x01 noRow (.oct nonce) who (s.advance t) → attests s = true → s.keys.signing ≠ none →
    Answers (.attest t who nonce) s fun u => Answered who 7 u ∧ Touches [.imian] [(0x1120, 1), (0x1120, 2)] (s.advance t) u) ∧
  (∀ (t : Nat) (s : State),
    s.keys.signing = none → Answers (.attestationComplete t) s fun u => Touches [] [] (s.advance t) u) ∧
  (∀ (t : Nat) (nonce : List Byte) (s : State),
    s.keys.signing = some nonce →
    Answers (.attestationComplete t) s fun u =>
      u.keys = { s.keys with signing := none } ∧ u.ro 0x3002 0x03 = (s.ro 0x3002 0x03 + 1) % 2 ^ 32 ∧
      slice (u.roBytes 0x3002 0x02) 0 2 = be 2 1 ∧ slice (u.roBytes 0x3002 0x02) 4 16 = be 16 Config.identity ∧
      slice (u.roBytes 0x3002 0x02) 20 1 = be 1 s.life ∧ slice (u.roBytes 0x3002 0x02) 40 32 = fit 32 nonce ∧
      Touches [.keys, .imian] [(0x3002, 2), (0x3002, 3)] (s.advance t) u)

/-- Each of these commands is accepted by checks 1 to 7 of R521. 0x3130:01 during an update makes the target bank invalid and the update idle;
without one it changes nothing. 0x3130:02 on a verified image, with no transfer, validation or swap open, makes the target bank active in
trial with the running one as previous, and resets; with no verified image, or with a transfer open, it is answered 0x06. 0x3130:03 in trial
ends it with the running bank confirmed and the rollback version raised, at most to 256. 0x3130:04 in trial, and the end of the trial window
without automatic confirmation, make the previous bank active and reset; with it, the window's end confirms. Out of trial 0x3130:03 and :04
are answered 0x06, and before its end, or out of trial, the window does nothing. -/
def Obligations.UpdatesFollowTheBankWord : Prop :=
  (∀ (t : Nat) (who : Who) (s : State),
    AcceptedPlain 0x3130 0x01 who (s.advance t) → (updateState s = 1 ∨ updateState s = 2) →
    Answers (.abortUpdate t who) s fun u =>
      Answered who 0 u ∧ updateState u = 0 ∧ bankOf u.keys (targetBank s) = Bank.reset ∧ u.keys.bankWord = s.keys.bankWord ∧
      (u.imian.transfers.all fun x => x.key != imageKey) = true ∧ Touches [.keys, .imian] [(0x3111, 1), (0x1120, 1), (0x1120, 2)] (s.advance t) u) ∧
  (∀ (t : Nat) (who : Who) (s : State),
    AcceptedPlain 0x3130 0x01 who (s.advance t) → updateState s ≠ 1 → updateState s ≠ 2 →
    Answers (.abortUpdate t who) s fun u => Answered who 0 u ∧ Touches [.imian] [(0x1120, 1), (0x1120, 2)] (s.advance t) u) ∧
  (∀ (t : Nat) (who : Who) (s : State),
    AcceptedPlain 0x3130 0x02 who (s.advance t) →
    (updateState s ≠ 2 ∨ (s.imian.transfers.any fun x => x.key == imageKey) = true ∨ (s.dev ≠ stRecovery ∧ (s.sets.swap ≠ none ∨ shadowBusy s = true))) →
    Answers (.activate t who) s fun u => Answered who 6 u ∧ Touches [.imian] [(0x1120, 1), (0x1120, 2)] (s.advance t) u) ∧
  (∀ (t : Nat) (who : Who) (s : State),
    AcceptedPlain 0x3130 0x03 who (s.advance t) → inTrial s = false →
    Answers (.confirmUpdate t who) s fun u => Answered who 6 u ∧ Touches [.imian] [(0x1120, 1), (0x1120, 2)] (s.advance t) u) ∧
  (∀ (t : Nat) (who : Who) (s : State),
    AcceptedPlain 0x3130 0x04 who (s.advance t) → inTrial s = false →
    Answers (.revertUpdate t who) s fun u => Answered who 6 u ∧ Touches [.imian] [(0x1120, 1), (0x1120, 2)] (s.advance t) u) ∧
  (∀ (t : Nat) (s : State),
    (inTrial s = false ∨ (s.keys.trialUntil.all fun a => decide (max s.now t < a)) = true) →
    Answers (.trialWindowExpiry t) s fun u => Touches [] [] (s.advance t) u) ∧
  (∀ (t : Nat) (who : Who) (s : State),
    AcceptedPlain 0x3130 0x02 who (s.advance t) → updateState s = 2 → (s.imian.transfers.any fun x => x.key == imageKey) = false →
    s.sets.swap = none → shadowBusy s = false → (s.keys.bankA.valid || s.keys.bankB.valid) = true → bankActive s.keys.bankWord ≤ 1 →
    Answers (.activate t who) s fun u =>
      Answered who 0 u ∧ u.dev = stStart ∧ u.power.cause = 1 ∧ inTrial u = true ∧ bankActive u.keys.bankWord = 1 - bankActive s.keys.bankWord ∧
      bankPrevious u.keys.bankWord = bankActive s.keys.bankWord ∧ bankAttempts u.keys.bankWord = 1 ∧ u.active = s.active ∧
      u.ro 0x3140 0x01 = (s.ro 0x3140 0x01 + 1) % 2 ^ 32) ∧
  (∀ (t : Nat) (who : Who) (s : State),
    AcceptedPlain 0x3130 0x03 who (s.advance t) → Room s → inTrial s = true →
    Answers (.confirmUpdate t who) s fun u =>
      Answered who 0 u ∧ inTrial u = false ∧ bankActive u.keys.bankWord = bankActive s.keys.bankWord ∧ bankAttempts u.keys.bankWord = 0 ∧
      u.keys.rollback = Nat.min 256 (Nat.max s.keys.rollback (bankRollback s.keys (bankActive s.keys.bankWord))) ∧
      Posted 0x3106 (le 4 u.keys.rollback) s u ∧ Touches [.keys, .imian] [(0x1120, 1), (0x1120, 2)] (s.advance t) u) ∧
  (∀ (t : Nat) (who : Who) (s : State),
    AcceptedPlain 0x3130 0x04 who (s.advance t) → inTrial s = true → (s.keys.bankA.valid || s.keys.bankB.valid) = true →
    Answers (.revertUpdate t who) s fun u =>
      Answered who 0 u ∧ u.dev = stStart ∧ inTrial u = false ∧ bankActive u.keys.bankWord = bankPrevious s.keys.bankWord ∧
      bankPrevious u.keys.bankWord = 0xF ∧ u.ro 0x3140 0x02 = (s.ro 0x3140 0x02 + 1) % 2 ^ 32 ∧ u.active = s.active) ∧
  (∀ (t a : Nat) (s : State),
    Room s → s.keys.trialUntil = some a → a ≤ max s.now t → inTrial s = true → s.cfgB 0x3100 0x02 = true →
    Answers (.trialWindowExpiry t) s fun u =>
      inTrial u = false ∧ bankActive u.keys.bankWord = bankActive s.keys.bankWord ∧ u.keys.trialUntil = none ∧ u.dev = s.dev ∧
      Posted 0x3106 (le 4 u.keys.rollback) s u ∧ Touches [.keys] [] (s.advance t) u) ∧
  (∀ (t a : Nat) (s : State),
    s.keys.trialUntil = some a → a ≤ max s.now t → inTrial s = true → s.cfgB 0x3100 0x02 = false → (s.keys.bankA.valid || s.keys.bankB.valid) = true →
    Answers (.trialWindowExpiry t) s fun u =>
      u.dev = stStart ∧ u.power.cause = 1 ∧ inTrial u = false ∧ bankActive u.keys.bankWord = bankPrevious s.keys.bankWord ∧ u.active = s.active)

/-- In RUN or TRIM of a pair: the first supervision frame from a Lead makes a device without a role Wheel in SYNCING; from a device without one,
the preferred device Lead. A sent mark, next in sequence, ends a Wheel's holding of that source's transmissions up to its number. A copy of
a frame already taken changes nothing but what was heard; a frame out of RUN and TRIM, of another version or on a link that is not up does
nothing. Supervision is sent in sequence when its period has passed, on pair M too, and not before. No peer for 1 s of RUN makes a device
without a role Lead; otherwise the timeout does nothing. A Wheel in SYNCING, holding no transmissions, that loses its peer on all paths
takes over with event 0x3203, a Lead goes on ALONE; while any path is heard, nothing changes. A Wheel heard on pair M alone is DETACHED with
event 0x3206, and only then. WHEEL_IN_STEP with the whole image, equal protocol and set and no record waiting gives IN_STEP, and does
nothing on an incomplete image or another set. 0x3230:01 at a Lead in step makes the hand-over due; 0x3230:02 at a Wheel gives SYNCING;
elsewhere both are answered 0x06. A Wheel's answer missing for 2 s cancels the swap of cause 2; before that nothing changes. -/
def Obligations.PairRolesFollowR672 : Prop :=
  (∀ (t seq : Nat) (l : List Byte) (s : State),
    s.running = true → s.cfg 0x3200 0x01 = 1 → (s.portOf 6).link = 1 → l.length = 316 → seq < 2 ^ 32 → roleNow s = 0 → s.duplex.rxSeq = none →
    s.duplex.ahead = [] → (peerOf l).role = 1 →
    Answers (.mirrorFrameRx t 0 (be 1 1 ++ be 1 1 ++ be 2 l.length ++ be 4 seq ++ l)) s fun u =>
      roleNow u = 2 ∧ pairStateNow u = 1 ∧ u.duplex.peer = some (peerOf l) ∧ u.duplex.rxSeq = some ((seq + 1) % 2 ^ 32) ∧
      u.roBytes 0x3210 0x03 = be 16 (peerOf l).identity) ∧
  (∀ (t seq : Nat) (l : List Byte) (s : State),
    s.running = true → s.cfg 0x3200 0x01 = 1 → s.cfgB 0x3200 0x02 = true → (s.portOf 7).link = 1 → l.length = 316 → seq < 2 ^ 32 → roleNow s = 0 →
    s.duplex.rxSeq = none → s.duplex.ahead = [] → (peerOf l).role = 0 → (peerOf l).prefer = false →
    Answers (.mirrorFrameRx t 1 (be 1 1 ++ be 1 1 ++ be 2 l.length ++ be 4 seq ++ l)) s fun u =>
      roleNow u = 1 ∧ pairStateNow u = 0 ∧ u.duplex.peer = some (peerOf l)) ∧
  (∀ (t seq source n : Nat) (l : List Byte) (s : State),
    s.running = true → s.cfg 0x3200 0x01 = 1 → (s.portOf 6).link = 1 → roleNow s = 2 → seq < 2 ^ 32 → s.duplex.rxSeq = some seq → s.duplex.ahead = [] →
    pairStateNow s ≠ 3 → source < 2 ^ 16 → n < 2 ^ 64 → l = be 2 source ++ be 8 n →
    Answers (.mirrorFrameRx t 0 (be 1 1 ++ be 1 4 ++ be 2 10 ++ be 4 seq ++ l)) s fun u =>
      u.duplex.heldTx = (s.duplex.heldTx.filter fun y => y.source != source || decide (n < y.number)) ∧
      u.duplex.rxSeq = some ((seq + 1) % 2 ^ 32) ∧ Touches [.duplex] [] (s.advance t) u) ∧
  (∀ (t path : Nat) (frame : List Byte) (s : State),
    (s.running = false ∨ 2 < path ∨ byteAt frame 0 ≠ 1 ∨ (path < 2 ∧ (s.portOf (6 + path)).link ≠ 1)) →
    Answers (.mirrorFrameRx t path frame) s fun u => Touches [] [] (s.advance t) u) ∧
  (∀ (t seq type k : Nat) (l : List Byte) (s : State),
    s.running = true → s.cfg 0x3200 0x01 = 1 → l.length < 65536 → seq < 2 ^ 32 → type < 16 → s.duplex.rxSeq = some k →
    k < 2 ^ 32 → seqPast seq k ≥ 2 ^ 31 →
    Answers (.mirrorFrameRx t 2 (be 1 1 ++ be 1 type ++ be 2 l.length ++ be 4 seq ++ l)) s fun u =>
      u.duplex = { s.duplex with heard := putKey 2 (max s.now t) s.duplex.heard, high := putKey 2 seq s.duplex.high } ∧
      Touches [.duplex] [] (s.advance t) u) ∧
  (∀ (t : Nat) (s : State),
    s.running = true → s.cfg 0x3200 0x01 = 1 → s.duplex.lastSupervision + us (s.cfg 0x3200 0x06) ≤ max s.now t →
    Answers (.mirrorSupervisionTx t) s fun u =>
      u.duplex = { s.duplex with lastSupervision := max s.now t, txSeq := (s.duplex.txSeq + 1) % 2 ^ 32 } ∧
      Out.pairM (be 1 1 ++ be 1 1 ++ be 2 (supervisionPayload (s.advance t)).length ++ be 4 s.duplex.txSeq ++
        supervisionPayload (s.advance t)) ∈ u.outs) ∧
  (∀ (t : Nat) (s : State),
    (s.running = false ∨ (s.cfg 0x3200 0x01 ≠ 1 ∧ s.cfg 0x3200 0x01 ≠ 2) ∨ max s.now t < s.duplex.lastSupervision + us (s.cfg 0x3200 0x06)) →
    Answers (.mirrorSupervisionTx t) s fun u => Touches [] [] (s.advance t) u) ∧
  (∀ (t : Nat) (p : Peer) (s : State),
    Room s → s.running = true → roleNow s = 2 → pairStateNow s = 1 → s.duplex.peer = some p → s.duplex.heldTx = [] →
    ([0, 1, 2].any (pathHeard (s.advance t))) = false →
    Answers (.peerLoss t) s fun u =>
      roleNow u = 1 ∧ pairStateNow u = 0 ∧ u.duplex.peer = none ∧ u.ro 0x3220 0x01 = (s.ro 0x3220 0x01 + 1) % 2 ^ 32 ∧
      Posted 0x3203 (be 16 p.identity) s u) ∧
  (∀ (t : Nat) (p : Peer) (s : State),
    Room s → s.running = true → roleNow s = 1 → s.duplex.peer = some p → ([0, 1, 2].any (pathHeard (s.advance t))) = false →
    Answers (.peerLoss t) s fun u =>
      roleNow u = 1 ∧ pairStateNow u = 0 ∧ u.duplex.peer = none ∧ u.duplex.rxSeq = none ∧ u.duplex.handOver = false ∧
      Posted 0x3203 (be 16 p.identity) s u ∧ Touches [.duplex] [(0x3210, 2)] (s.advance t) u) ∧
  (∀ (t : Nat) (s : State),
    roleNow s ≠ 3 → (s.running = false ∨ s.duplex.peer = none ∨ ([0, 1, 2].any (pathHeard (s.advance t))) = true) →
    Answers (.peerLoss t) s fun u => Touches [] [] (s.advance t) u) ∧
  (∀ (t : Nat) (s : State),
    Room s → s.running = true → s.cfg 0x3200 0x01 = 1 → roleNow s = 0 → s.duplex.peer = none → s.power.enteredAt + sec 1 ≤ max s.now t →
    Answers (.leadAloneTimeout t) s fun u =>
      roleNow u = 1 ∧ pairStateNow u = 0 ∧ Posted 0x3201 (le 1 0 ++ le 1 1) s u ∧ Touches [] [(0x3210, 1), (0x3210, 2)] (s.advance t) u) ∧
  (∀ (t : Nat) (s : State),
    (s.running = false ∨ s.cfg 0x3200 0x01 ≠ 1 ∨ roleNow s ≠ 0 ∨ s.duplex.peer ≠ none ∨ max s.now t < s.power.enteredAt + sec 1) →
    Answers (.leadAloneTimeout t) s fun u => Touches [] [] (s.advance t) u) ∧
  (∀ (t : Nat) (s : State),
    (roleNow s ≠ 2 ∨ pairStateNow s ≠ 1 ∨ s.duplex.imageTotal = 0 ∨ s.duplex.image.length ≠ s.duplex.imageTotal ∨
      (s.duplex.peer.all fun p => p.protocol != mirrorProtocol || p.setHash != fit 48 (setHash s.active)) = true) →
    Answers (.wheelInStep t) s fun u => Touches [] [] (s.advance t) u) ∧
  (∀ (t : Nat) (who : Who) (s : State),
    AcceptedPlain 0x3230 0x01 who (s.advance t) → (leads s = false ∨ pairStateNow s ≠ 2) →
    Answers (.handOverLead t who) s fun u => Answered who 6 u ∧ Touches [.imian] [(0x1120, 1), (0x1120, 2)] (s.advance t) u) ∧
  (∀ (t : Nat) (who : Who) (s : State),
    AcceptedPlain 0x3230 0x02 who (s.advance t) → roleNow s ≠ 2 →
    Answers (.resynchronise t who) s fun u => Answered who 6 u ∧ Touches [.imian] [(0x1120, 1), (0x1120, 2)] (s.advance t) u) ∧
  (∀ (t : Nat) (s : State),
    (s.duplex.swapAckUntil.all fun a => decide (max s.now t < a)) = true →
    Answers (.pairSwapAckTimeout t) s fun u => Touches [] [] (s.advance t) u) ∧
  (∀ (t : Nat) (s : State),
    (s.running = false ∨ roleNow s ≠ 2 ∨ pairStateNow s = 3 ∨ s.duplex.peer = none ∨ pathHeard (s.advance t) 0 = true ∨
      pathHeard (s.advance t) 1 = true ∨ pathHeard (s.advance t) 2 = false) →
    Answers (.detached t) s fun u => Touches [] [] (s.advance t) u) ∧
  (∀ (t : Nat) (p : Peer) (s : State),
    s.duplex.peer = some p → roleNow s = 2 → pairStateNow s = 1 → s.duplex.image.length = s.duplex.imageTotal → s.duplex.imageTotal ≠ 0 →
    p.protocol = mirrorProtocol → p.setHash = fit 48 (setHash s.active) → s.duplex.records = [] →
    Answers (.wheelInStep t) s fun u =>
      roleNow u = 2 ∧ pairStateNow u = 2 ∧ u.duplex.image = [] ∧ u.duplex.imageTotal = 0 ∧
      u.ro 0x3220 0x04 = (s.ro 0x3220 0x04 + 1) % 2 ^ 32 ∧ u.active = s.active) ∧
  (∀ (t : Nat) (who : Who) (s : State),
    AcceptedPlain 0x3230 0x01 who (s.advance t) → leads s = true → pairStateNow s = 2 →
    Answers (.handOverLead t who) s fun u =>
      Answered who 0 u ∧ u.duplex = { s.duplex with handOver := true } ∧ roleNow u = 1 ∧
      Touches [.duplex, .imian] [(0x1120, 1), (0x1120, 2)] (s.advance t) u) ∧
  (∀ (t : Nat) (who : Who) (s : State),
    AcceptedPlain 0x3230 0x02 who (s.advance t) → roleNow s = 2 →
    Answers (.resynchronise t who) s fun u =>
      Answered who 0 u ∧ pairStateNow u = 1 ∧ u.duplex.records = [] ∧ u.duplex.image = [] ∧ u.duplex.syncSince = max s.now t ∧
      Touches [.duplex, .imian] [(0x3210, 2), (0x1120, 1), (0x1120, 2)] (s.advance t) u) ∧
  (∀ (t a : Nat) (w : Swap) (s : State),
    Room s → s.duplex.swapAckUntil = some a → a ≤ max s.now t → s.sets.swap = some w →
    Answers (.pairSwapAckTimeout t) s fun u =>
      u.sets.swap = none ∧ u.duplex.swapAckUntil = none ∧ shadowState u = (if w.validated then 3 else w.before) ∧ u.ro 0x1210 0x02 = (s.ro 0x1210 0x02 + 1) % 2 ^ 32 ∧
      Posted 0x1205 (le 1 2) s u ∧ u.active = s.active ∧ u.shadow = s.shadow) ∧
  (∀ (t : Nat) (s : State),
    Room s → s.running = true → roleNow s = 2 → pairStateNow s ≠ 3 → s.duplex.peer.isSome = true →
    pathHeard (s.advance t) 0 = false → pathHeard (s.advance t) 1 = false → pathHeard (s.advance t) 2 = true →
    Answers (.detached t) s fun u =>
      roleNow u = 2 ∧ pairStateNow u = 3 ∧ u.duplex.records = [] ∧ u.duplex.fetching = [] ∧ Posted 0x3206 [] s u)

/-- In RUN or TRIM of a pack: a first supervision frame under another ID makes its sender a member with event 0x3207; one of a member under its
own identity only marks it heard, and a pack frame of an unknown type is counted in 0x3220:07. Alone, the device sends supervision in
sequence and shows the ring down. Members silent for the loss timeout, none of them placing and no PROCESS waiting, leave with event 0x3207,
and the others stay; with all heard and the ring as shown nothing changes. PACK_EXCHANGE_LATE of a frame that a waiting PROCESS lacks for 40
us counts in 0x3220:06; of one that is not awaited, of another slot or too soon it does nothing. HOME_DUTY_TRANSFERRED of the last other
member, lost, makes this device home of the streams it mirrors, with event 0x3208; of a member that is present, of this device or of none
mirrored here it does nothing. 0x3230:03 at the placing member sends the wake on pair M; elsewhere it is answered 0x06. -/
def Obligations.PackMembersFollowR685 : Prop :=
  (∀ (t seq m : Nat) (l : List Byte) (s : State),
    Room s → s.running = true → s.cfg 0x3200 0x01 = 2 → roleNow s = 3 → (s.portOf 6).link = 1 → 32 ≤ l.length → l.length < 65536 → seq < 2 ^ 32 →
    byteAt l 0 = m → byteAt l 1 = 0xFF → m ≠ memberId s → lookup m s.duplex.members = none → (tabGet [] s.duplex.packSeen m).contains seq = false →
    Answers (.mirrorFrameRx t 0 (be 1 1 ++ be 1 16 ++ be 2 l.length ++ be 4 seq ++ l)) s fun u =>
      lookup m u.duplex.members = some ⟨beAt l 16 16, max s.now t, max s.now t, max s.now t⟩ ∧ roleNow u = 3 ∧
      ((u.log.fifo.drop s.log.fifo.length).any fun e => e.code == 0x3207) = true) ∧
  (∀ (t seq m : Nat) (x : Member) (l : List Byte) (s : State),
    s.running = true → s.cfg 0x3200 0x01 = 2 → roleNow s = 3 → (s.portOf 6).link = 1 → 32 ≤ l.length → l.length < 65536 → seq < 2 ^ 32 →
    byteAt l 0 = m → byteAt l 1 = 0xFF → m ≠ memberId s → lookup m s.duplex.members = some x → x.identity = beAt l 16 16 →
    Answers (.mirrorFrameRx t 0 (be 1 1 ++ be 1 16 ++ be 2 l.length ++ be 4 seq ++ l)) s fun u =>
      lookup m u.duplex.members = some { x with side6 := max s.now t, lastHeard := max s.now t } ∧ roleNow u = 3 ∧ u.active = s.active) ∧
  (∀ (t seq type m : Nat) (l : List Byte) (s : State),
    s.running = true → s.cfg 0x3200 0x01 = 2 → roleNow s = 3 → (s.portOf 6).link = 1 → 2 ≤ l.length → l.length < 65536 → seq < 2 ^ 32 →
    24 ≤ type → type < 32 → byteAt l 0 = m → byteAt l 1 = memberId s → m ≠ memberId s → (tabGet [] s.duplex.packSeen m).contains seq = false →
    Answers (.mirrorFrameRx t 0 (be 1 1 ++ be 1 type ++ be 2 l.length ++ be 4 seq ++ l)) s fun u =>
      u.ro 0x3220 0x07 = (s.ro 0x3220 0x07 + 1) % 2 ^ 32 ∧ Touches [.duplex] [(0x3220, 7)] (s.advance t) u) ∧
  (∀ (t : Nat) (s : State),
    s.running = true → s.cfg 0x3200 0x01 = 2 → roleNow s = 3 → s.duplex.members = [] →
    s.duplex.lastSupervision + us (s.cfg 0x3200 0x06) ≤ max s.now t →
    Answers (.mirrorSupervisionTx t) s fun u =>
      u.duplex = { s.duplex with lastSupervision := max s.now t, txSeq := (s.duplex.txSeq + 1) % 2 ^ 32 } ∧ u.ro 0x3211 0x04 = 2) ∧
  (∀ (t : Nat) (s : State),
    Room s → s.running = true → roleNow s = 3 → s.duplex.pack.waiting = [] → (s.duplex.members.map (·.1)).Nodup →
    (s.duplex.members.any fun e => !sideHeard (s.advance t) e.2.lastHeard) = true →
    (s.duplex.members.all fun e => sideHeard (s.advance t) e.2.lastHeard || e.1 != placerOf s) = true →
    Answers (.peerLoss t) s fun u =>
      u.duplex.members = (s.duplex.members.filter fun e => sideHeard (s.advance t) e.2.lastHeard) ∧
      (s.duplex.members.all fun e => sideHeard (s.advance t) e.2.lastHeard || u.roBytes 0x3211 0x05 e.1 == List.replicate 16 0) = true ∧
      ((u.log.fifo.drop s.log.fifo.length).any fun e => e.code == 0x3207) = true) ∧
  (∀ (t : Nat) (s : State),
    roleNow s = 3 → (s.duplex.members.all fun e => sideHeard (s.advance t) e.2.lastHeard) = true →
    s.ro 0x3211 0x04 = (ringNow (s.advance t)).1 →
    Answers (.peerLoss t) s fun u => Touches [] [] (s.advance t) u) ∧
  (∀ (t g type m : Nat) (w : PackWait) (s : State),
    lookup g s.duplex.pack.waiting = some w → w.since + us 40 ≤ max s.now t → (lackingFrames s g w).contains (type, m) = true →
    Answers (.packExchangeLate t g w.slot type m) s fun u => u.ro 0x3220 0x06 = (s.ro 0x3220 0x06 + 1) % 2 ^ 32) ∧
  (∀ (t g slot type m : Nat) (w : PackWait) (s : State),
    lookup g s.duplex.pack.waiting = some w → ((lackingFrames s g w).contains (type, m) = false ∨ w.slot ≠ slot ∨ max s.now t < w.since + us 40) →
    Answers (.packExchangeLate t g slot type m) s fun u => Touches [] [] (s.advance t) u) ∧
  (∀ (t g slot type m : Nat) (s : State),
    lookup g s.duplex.pack.waiting = none → Answers (.packExchangeLate t g slot type m) s fun u => Touches [] [] (s.advance t) u) ∧
  (∀ (t m : Nat) (s : State),
    Room s → roleNow s = 3 → m ≠ memberId s → s.duplex.members = [] →
    (s.duplex.homes.filter fun e => e.2.1 == m && e.2.2 == memberId s) ≠ [] →
    Answers (.homeDutyTransferred t m) s fun u =>
      u.duplex.homes = ((s.duplex.homes.filter fun e => e.2.1 == m && e.2.2 == memberId s).map (·.1)).foldl
        (fun (d : Tab (Nat × Nat)) h => putKey h (memberId s, 0xFF) d) s.duplex.homes ∧
      u.ro 0x3220 0x05 = (s.ro 0x3220 0x05 + 1) % 2 ^ 32 ∧
      ((u.log.fifo.drop s.log.fifo.length).any fun e => e.code == 0x3208) = true) ∧
  (∀ (t m : Nat) (s : State),
    (roleNow s ≠ 3 ∨ (lookup m s.duplex.members).isSome = true ∨ m = memberId s ∨
      (s.duplex.homes.filter fun e => e.2.1 == m && e.2.2 == memberId s) = []) →
    Answers (.homeDutyTransferred t m) s fun u => Touches [] [] (s.advance t) u) ∧
  (∀ (t m : Nat) (who : Who) (s : State),
    Accepted 0x3230 0x03 m (.num 0) who (s.advance t) → (inPack s = false ∨ placesHere s = false) →
    Answers (.packWake t who m) s fun u => Answered who 6 u ∧ Touches [.imian] [(0x1120, 1), (0x1120, 2)] (s.advance t) u) ∧
  (∀ (t m : Nat) (who : Who) (s : State),
    Accepted 0x3230 0x03 m (.num 0) who (s.advance t) → inPack s = true → placesHere s = true →
    Answers (.packWake t who m) s fun u =>
      Answered who 0 u ∧ Out.packWake m ∈ u.outs ∧ Touches [.imian] [(0x1120, 1), (0x1120, 2)] (s.advance t) u)

/-- For every command c, queue and state: a step with c at the front of the queue is exec of c on the state with the rest of the queue; on an
empty queue the step leaves the state as it is (assumption 1: the model's choice). -/
def Obligations.StepRunsTheCommandAtTheFront : Prop :=
  (∀ (c : Instr) (rest : List Instr) (s : State),
    step { s with pending := c :: rest } = exec c { s with pending := rest }) ∧
  (∀ (s : State),
    s.pending = [] → step s = .next s)

/-- The invariant of every step holds at reset: FAULT_N is at the level the device state gives (asserted in START), and the last reported
time-quality class is the present one, that of an unset T96. -/
def Obligations.InvariantHoldsAtReset : Prop :=
  (∀ (s : State),
    s = State.reset → Inv s ∧ s.power.faultN = true ∧ s.time.lastClass = 7)

/-- From every state in which the invariant holds, a step answers a next state, in which it holds again: FAULT_N shows the device state and
Shepherd, and the last reported time-quality class is the present one. -/
def Obligations.EveryStepKeepsTheInvariant : Prop :=
  (∀ (s : State),
    Inv s → ∃ u, step s = .next u ∧ Inv u)

/-- For every command and state: exec answers a next state whose queue of waiting commands is that of the state it ran on, and whose internal
timebase has not gone back (assumption 1: the queue is the model's; an instant in the past is taken as now). -/
def Obligations.NoCommandTouchesTheQueue : Prop :=
  (∀ (c : Instr) (s : State),
    ∃ u, exec c s = .next u ∧ u.pending = s.pending ∧ s.now ≤ u.now)

/-- A COMMAND that passes checks 2 to 7 of R521 over DTLS, or by the mailbox outside RECOVERY, names a CMD object whose role the requester has,
and over CAN is one of 0x2730:01, 0x2830:01, 0x2A30:01 and 0x2B30:01. A COMMAND that does not pass is answered with its status, and whatever
its object would do, nothing else changes but the requester's own accounting and 0x1120:01 and :02, which count it. -/
def Obligations.CommandsNeedTheirRole : Prop :=
  (∀ (idx sub row n : Nat) (arg : Val) (s : State),
    commandStatus idx sub row arg (.dtls n) s = 0 →
    (match findObj idx sub with | some o => (match o.acc with | .cmd r => roleHas ((s.roleOf (.dtls n)).getD 0) r | _ => false) | none => false) = true) ∧
  (∀ (idx sub row : Nat) (arg : Val) (s : State),
    commandStatus idx sub row arg .mailbox s = 0 →
    (match findObj idx sub with | some o => (match o.acc with | .cmd r => roleHas (s.cfg 0x1100 0x05) r | _ => false) | none => false) = true ∨
      s.dev = stRecovery) ∧
  (∀ (idx sub row n : Nat) (arg : Val) (s : State),
    commandStatus idx sub row arg (.can n) s = 0 → (idx, sub) ∈ [(0x2730, 1), (0x2830, 1), (0x2A30, 1), (0x2B30, 1)]) ∧
  (∀ (idx sub row : Nat) (arg : Val) (who : Who) (body : State → State × Nat) (s : State),
    s.reaches who = true → commandStatus idx sub row arg who s ≠ 0 →
    Answered who (commandStatus idx sub row arg who s) (runCommand idx sub row arg who body s) ∧
      (runCommand idx sub row arg who body s).ro 0x1120 0x01 = (s.ro 0x1120 0x01 + 1) % 2 ^ 64 ∧
      Touches [.imian] [(0x1120, 1), (0x1120, 2)] s (runCommand idx sub row arg who body s))

/-- The objects stand in stores of entries with rising keys, none of which equals its object's default. Writing a value keeps that form, the
value reads back, and every other object and row reads as before. -/
def Obligations.StoresKeepTheirForm : Prop :=
  (∀ (d : Dict) (i j r a b c : Nat) (v : Val),
    j < 256 → r < 0x1000000 → b < 256 → c < 0x1000000 → (a, b, c) ≠ (i, j, r) → Dict.wf d →
    Dict.wf (writeIn d i j r v) ∧ readIn (writeIn d i j r v) i j r = v ∧ readIn (writeIn d i j r v) a b c = readIn d a b c)
end

