-- ==== Sys2Proof/Laws/State.lean ====
section
/-! SUPPORT. What each update of the state leaves as it was, and what it writes: simp lemmas, true by rfl. -/

namespace Sys2Proof.Machine
open Sys2Proof

@[simp] theorem State.onPower_frame (s : State) (f : PowerSt → PowerSt) :
    (s.onPower f).power = f s.power ∧ (s.onPower f).pending = s.pending ∧ (s.onPower f).now = s.now ∧ (s.onPower f).draws = s.draws ∧
    (s.onPower f).outs = s.outs ∧ (s.onPower f).active = s.active ∧ (s.onPower f).shadow = s.shadow ∧ (s.onPower f).live = s.live ∧
    (s.onPower f).status = s.status ∧ (s.onPower f).time = s.time ∧ (s.onPower f).port = s.port ∧ (s.onPower f).ingest = s.ingest ∧
    (s.onPower f).groups = s.groups ∧ (s.onPower f).place = s.place ∧ (s.onPower f).eddy = s.eddy ∧ (s.onPower f).oxbow = s.oxbow ∧
    (s.onPower f).alarm = s.alarm ∧ (s.onPower f).pub = s.pub ∧ (s.onPower f).head = s.head ∧ (s.onPower f).capture = s.capture ∧
    (s.onPower f).leash = s.leash ∧ (s.onPower f).energy = s.energy ∧ (s.onPower f).jobs = s.jobs ∧ (s.onPower f).imian = s.imian ∧
    (s.onPower f).sets = s.sets ∧ (s.onPower f).host = s.host ∧ (s.onPower f).log = s.log ∧ (s.onPower f).hk = s.hk ∧ (s.onPower f).keys = s.keys ∧
    (s.onPower f).duplex = s.duplex ∧ (s.onPower f).testPort = s.testPort ∧ (∀ a b c, (s.onPower f).cfg a b c = s.cfg a b c) ∧
    (∀ a b c, (s.onPower f).cfgB a b c = s.cfgB a b c) ∧ (∀ a b c, (s.onPower f).cfgInt a b c = s.cfgInt a b c) ∧
    (∀ a b c, (s.onPower f).cfgBytes a b c = s.cfgBytes a b c) ∧ (∀ a b c, (s.onPower f).cfgF a b c = s.cfgF a b c) ∧
    (∀ a b c, (s.onPower f).rw a b c = s.rw a b c) ∧ (∀ a b c, (s.onPower f).rwBytes a b c = s.rwBytes a b c) ∧
    (∀ a b c, (s.onPower f).ro a b c = s.ro a b c) ∧ (∀ a b c, (s.onPower f).roBytes a b c = s.roBytes a b c) ∧ (s.onPower f).fnom = s.fnom ∧
    (s.onPower f).t96 = s.t96 ∧ (s.onPower f).gat = s.gat := by
  and_intros <;> intros <;> rfl

@[simp] theorem State.onTime_frame (s : State) (f : TimeSt → TimeSt) :
    (s.onTime f).time = f s.time ∧ (s.onTime f).pending = s.pending ∧ (s.onTime f).now = s.now ∧ (s.onTime f).draws = s.draws ∧
    (s.onTime f).outs = s.outs ∧ (s.onTime f).active = s.active ∧ (s.onTime f).shadow = s.shadow ∧ (s.onTime f).live = s.live ∧
    (s.onTime f).status = s.status ∧ (s.onTime f).power = s.power ∧ (s.onTime f).port = s.port ∧ (s.onTime f).ingest = s.ingest ∧
    (s.onTime f).groups = s.groups ∧ (s.onTime f).place = s.place ∧ (s.onTime f).eddy = s.eddy ∧ (s.onTime f).oxbow = s.oxbow ∧
    (s.onTime f).alarm = s.alarm ∧ (s.onTime f).pub = s.pub ∧ (s.onTime f).head = s.head ∧ (s.onTime f).capture = s.capture ∧
    (s.onTime f).leash = s.leash ∧ (s.onTime f).energy = s.energy ∧ (s.onTime f).jobs = s.jobs ∧ (s.onTime f).imian = s.imian ∧
    (s.onTime f).sets = s.sets ∧ (s.onTime f).host = s.host ∧ (s.onTime f).log = s.log ∧ (s.onTime f).hk = s.hk ∧ (s.onTime f).keys = s.keys ∧
    (s.onTime f).duplex = s.duplex ∧ (s.onTime f).testPort = s.testPort ∧ (∀ a b c, (s.onTime f).cfg a b c = s.cfg a b c) ∧
    (∀ a b c, (s.onTime f).cfgB a b c = s.cfgB a b c) ∧ (∀ a b c, (s.onTime f).cfgInt a b c = s.cfgInt a b c) ∧
    (∀ a b c, (s.onTime f).cfgBytes a b c = s.cfgBytes a b c) ∧ (∀ a b c, (s.onTime f).cfgF a b c = s.cfgF a b c) ∧
    (∀ a b c, (s.onTime f).rw a b c = s.rw a b c) ∧ (∀ a b c, (s.onTime f).rwBytes a b c = s.rwBytes a b c) ∧
    (∀ a b c, (s.onTime f).ro a b c = s.ro a b c) ∧ (∀ a b c, (s.onTime f).roBytes a b c = s.roBytes a b c) ∧ (s.onTime f).dev = s.dev ∧
    (s.onTime f).running = s.running ∧ (s.onTime f).powered = s.powered ∧ (s.onTime f).gdieOn = s.gdieOn ∧ (s.onTime f).timeRuns = s.timeRuns ∧
    (s.onTime f).fnom = s.fnom := by
  and_intros <;> intros <;> rfl

@[simp] theorem State.onPorts_frame (s : State) (f : PortSt → PortSt) :
    (s.onPorts f).port = f s.port ∧ (s.onPorts f).pending = s.pending ∧ (s.onPorts f).now = s.now ∧ (s.onPorts f).draws = s.draws ∧
    (s.onPorts f).outs = s.outs ∧ (s.onPorts f).active = s.active ∧ (s.onPorts f).shadow = s.shadow ∧ (s.onPorts f).live = s.live ∧
    (s.onPorts f).status = s.status ∧ (s.onPorts f).power = s.power ∧ (s.onPorts f).time = s.time ∧ (s.onPorts f).ingest = s.ingest ∧
    (s.onPorts f).groups = s.groups ∧ (s.onPorts f).place = s.place ∧ (s.onPorts f).eddy = s.eddy ∧ (s.onPorts f).oxbow = s.oxbow ∧
    (s.onPorts f).alarm = s.alarm ∧ (s.onPorts f).pub = s.pub ∧ (s.onPorts f).head = s.head ∧ (s.onPorts f).capture = s.capture ∧
    (s.onPorts f).leash = s.leash ∧ (s.onPorts f).energy = s.energy ∧ (s.onPorts f).jobs = s.jobs ∧ (s.onPorts f).imian = s.imian ∧
    (s.onPorts f).sets = s.sets ∧ (s.onPorts f).host = s.host ∧ (s.onPorts f).log = s.log ∧ (s.onPorts f).hk = s.hk ∧ (s.onPorts f).keys = s.keys ∧
    (s.onPorts f).duplex = s.duplex ∧ (s.onPorts f).testPort = s.testPort ∧ (∀ a b c, (s.onPorts f).cfg a b c = s.cfg a b c) ∧
    (∀ a b c, (s.onPorts f).cfgB a b c = s.cfgB a b c) ∧ (∀ a b c, (s.onPorts f).cfgInt a b c = s.cfgInt a b c) ∧
    (∀ a b c, (s.onPorts f).cfgBytes a b c = s.cfgBytes a b c) ∧ (∀ a b c, (s.onPorts f).cfgF a b c = s.cfgF a b c) ∧
    (∀ a b c, (s.onPorts f).rw a b c = s.rw a b c) ∧ (∀ a b c, (s.onPorts f).rwBytes a b c = s.rwBytes a b c) ∧
    (∀ a b c, (s.onPorts f).ro a b c = s.ro a b c) ∧ (∀ a b c, (s.onPorts f).roBytes a b c = s.roBytes a b c) ∧ (s.onPorts f).dev = s.dev ∧
    (s.onPorts f).running = s.running ∧ (s.onPorts f).powered = s.powered ∧ (s.onPorts f).gdieOn = s.gdieOn ∧ (s.onPorts f).timeRuns = s.timeRuns ∧
    (s.onPorts f).fnom = s.fnom ∧ (s.onPorts f).t96 = s.t96 ∧ (s.onPorts f).gat = s.gat := by
  and_intros <;> intros <;> rfl

@[simp] theorem State.onIngest_frame (s : State) (f : IngestSt → IngestSt) :
    (s.onIngest f).ingest = f s.ingest ∧ (s.onIngest f).pending = s.pending ∧ (s.onIngest f).now = s.now ∧ (s.onIngest f).draws = s.draws ∧
    (s.onIngest f).outs = s.outs ∧ (s.onIngest f).active = s.active ∧ (s.onIngest f).shadow = s.shadow ∧ (s.onIngest f).live = s.live ∧
    (s.onIngest f).status = s.status ∧ (s.onIngest f).power = s.power ∧ (s.onIngest f).time = s.time ∧ (s.onIngest f).port = s.port ∧
    (s.onIngest f).groups = s.groups ∧ (s.onIngest f).place = s.place ∧ (s.onIngest f).eddy = s.eddy ∧ (s.onIngest f).oxbow = s.oxbow ∧
    (s.onIngest f).alarm = s.alarm ∧ (s.onIngest f).pub = s.pub ∧ (s.onIngest f).head = s.head ∧ (s.onIngest f).capture = s.capture ∧
    (s.onIngest f).leash = s.leash ∧ (s.onIngest f).energy = s.energy ∧ (s.onIngest f).jobs = s.jobs ∧ (s.onIngest f).imian = s.imian ∧
    (s.onIngest f).sets = s.sets ∧ (s.onIngest f).host = s.host ∧ (s.onIngest f).log = s.log ∧ (s.onIngest f).hk = s.hk ∧
    (s.onIngest f).keys = s.keys ∧ (s.onIngest f).duplex = s.duplex ∧ (s.onIngest f).testPort = s.testPort ∧
    (∀ a b c, (s.onIngest f).cfg a b c = s.cfg a b c) ∧ (∀ a b c, (s.onIngest f).cfgB a b c = s.cfgB a b c) ∧
    (∀ a b c, (s.onIngest f).cfgInt a b c = s.cfgInt a b c) ∧ (∀ a b c, (s.onIngest f).cfgBytes a b c = s.cfgBytes a b c) ∧
    (∀ a b c, (s.onIngest f).cfgF a b c = s.cfgF a b c) ∧ (∀ a b c, (s.onIngest f).rw a b c = s.rw a b c) ∧
    (∀ a b c, (s.onIngest f).rwBytes a b c = s.rwBytes a b c) ∧ (∀ a b c, (s.onIngest f).ro a b c = s.ro a b c) ∧
    (∀ a b c, (s.onIngest f).roBytes a b c = s.roBytes a b c) ∧ (s.onIngest f).dev = s.dev ∧ (s.onIngest f).running = s.running ∧
    (s.onIngest f).powered = s.powered ∧ (s.onIngest f).gdieOn = s.gdieOn ∧ (s.onIngest f).timeRuns = s.timeRuns ∧ (s.onIngest f).fnom = s.fnom ∧
    (s.onIngest f).t96 = s.t96 ∧ (s.onIngest f).gat = s.gat := by
  and_intros <;> intros <;> rfl

@[simp] theorem State.onPlace_frame (s : State) (f : PlaceSt → PlaceSt) :
    (s.onPlace f).place = f s.place ∧ (s.onPlace f).pending = s.pending ∧ (s.onPlace f).now = s.now ∧ (s.onPlace f).draws = s.draws ∧
    (s.onPlace f).outs = s.outs ∧ (s.onPlace f).active = s.active ∧ (s.onPlace f).shadow = s.shadow ∧ (s.onPlace f).live = s.live ∧
    (s.onPlace f).status = s.status ∧ (s.onPlace f).power = s.power ∧ (s.onPlace f).time = s.time ∧ (s.onPlace f).port = s.port ∧
    (s.onPlace f).ingest = s.ingest ∧ (s.onPlace f).groups = s.groups ∧ (s.onPlace f).eddy = s.eddy ∧ (s.onPlace f).oxbow = s.oxbow ∧
    (s.onPlace f).alarm = s.alarm ∧ (s.onPlace f).pub = s.pub ∧ (s.onPlace f).head = s.head ∧ (s.onPlace f).capture = s.capture ∧
    (s.onPlace f).leash = s.leash ∧ (s.onPlace f).energy = s.energy ∧ (s.onPlace f).jobs = s.jobs ∧ (s.onPlace f).imian = s.imian ∧
    (s.onPlace f).sets = s.sets ∧ (s.onPlace f).host = s.host ∧ (s.onPlace f).log = s.log ∧ (s.onPlace f).hk = s.hk ∧ (s.onPlace f).keys = s.keys ∧
    (s.onPlace f).duplex = s.duplex ∧ (s.onPlace f).testPort = s.testPort ∧ (∀ a b c, (s.onPlace f).cfg a b c = s.cfg a b c) ∧
    (∀ a b c, (s.onPlace f).cfgB a b c = s.cfgB a b c) ∧ (∀ a b c, (s.onPlace f).cfgInt a b c = s.cfgInt a b c) ∧
    (∀ a b c, (s.onPlace f).cfgBytes a b c = s.cfgBytes a b c) ∧ (∀ a b c, (s.onPlace f).cfgF a b c = s.cfgF a b c) ∧
    (∀ a b c, (s.onPlace f).rw a b c = s.rw a b c) ∧ (∀ a b c, (s.onPlace f).rwBytes a b c = s.rwBytes a b c) ∧
    (∀ a b c, (s.onPlace f).ro a b c = s.ro a b c) ∧ (∀ a b c, (s.onPlace f).roBytes a b c = s.roBytes a b c) ∧ (s.onPlace f).dev = s.dev ∧
    (s.onPlace f).running = s.running ∧ (s.onPlace f).powered = s.powered ∧ (s.onPlace f).gdieOn = s.gdieOn ∧ (s.onPlace f).timeRuns = s.timeRuns ∧
    (s.onPlace f).fnom = s.fnom ∧ (s.onPlace f).t96 = s.t96 ∧ (s.onPlace f).gat = s.gat := by
  and_intros <;> intros <;> rfl

@[simp] theorem State.onEddy_frame (s : State) (f : EddySt → EddySt) :
    (s.onEddy f).eddy = f s.eddy ∧ (s.onEddy f).pending = s.pending ∧ (s.onEddy f).now = s.now ∧ (s.onEddy f).draws = s.draws ∧
    (s.onEddy f).outs = s.outs ∧ (s.onEddy f).active = s.active ∧ (s.onEddy f).shadow = s.shadow ∧ (s.onEddy f).live = s.live ∧
    (s.onEddy f).status = s.status ∧ (s.onEddy f).power = s.power ∧ (s.onEddy f).time = s.time ∧ (s.onEddy f).port = s.port ∧
    (s.onEddy f).ingest = s.ingest ∧ (s.onEddy f).groups = s.groups ∧ (s.onEddy f).place = s.place ∧ (s.onEddy f).oxbow = s.oxbow ∧
    (s.onEddy f).alarm = s.alarm ∧ (s.onEddy f).pub = s.pub ∧ (s.onEddy f).head = s.head ∧ (s.onEddy f).capture = s.capture ∧
    (s.onEddy f).leash = s.leash ∧ (s.onEddy f).energy = s.energy ∧ (s.onEddy f).jobs = s.jobs ∧ (s.onEddy f).imian = s.imian ∧
    (s.onEddy f).sets = s.sets ∧ (s.onEddy f).host = s.host ∧ (s.onEddy f).log = s.log ∧ (s.onEddy f).hk = s.hk ∧ (s.onEddy f).keys = s.keys ∧
    (s.onEddy f).duplex = s.duplex ∧ (s.onEddy f).testPort = s.testPort ∧ (∀ a b c, (s.onEddy f).cfg a b c = s.cfg a b c) ∧
    (∀ a b c, (s.onEddy f).cfgB a b c = s.cfgB a b c) ∧ (∀ a b c, (s.onEddy f).cfgInt a b c = s.cfgInt a b c) ∧
    (∀ a b c, (s.onEddy f).cfgBytes a b c = s.cfgBytes a b c) ∧ (∀ a b c, (s.onEddy f).cfgF a b c = s.cfgF a b c) ∧
    (∀ a b c, (s.onEddy f).rw a b c = s.rw a b c) ∧ (∀ a b c, (s.onEddy f).rwBytes a b c = s.rwBytes a b c) ∧
    (∀ a b c, (s.onEddy f).ro a b c = s.ro a b c) ∧ (∀ a b c, (s.onEddy f).roBytes a b c = s.roBytes a b c) ∧ (s.onEddy f).dev = s.dev ∧
    (s.onEddy f).running = s.running ∧ (s.onEddy f).powered = s.powered ∧ (s.onEddy f).gdieOn = s.gdieOn ∧ (s.onEddy f).timeRuns = s.timeRuns ∧
    (s.onEddy f).fnom = s.fnom ∧ (s.onEddy f).t96 = s.t96 ∧ (s.onEddy f).gat = s.gat := by
  and_intros <;> intros <;> rfl

@[simp] theorem State.onOxbow_frame (s : State) (f : OxbowSt → OxbowSt) :
    (s.onOxbow f).oxbow = f s.oxbow ∧ (s.onOxbow f).pending = s.pending ∧ (s.onOxbow f).now = s.now ∧ (s.onOxbow f).draws = s.draws ∧
    (s.onOxbow f).outs = s.outs ∧ (s.onOxbow f).active = s.active ∧ (s.onOxbow f).shadow = s.shadow ∧ (s.onOxbow f).live = s.live ∧
    (s.onOxbow f).status = s.status ∧ (s.onOxbow f).power = s.power ∧ (s.onOxbow f).time = s.time ∧ (s.onOxbow f).port = s.port ∧
    (s.onOxbow f).ingest = s.ingest ∧ (s.onOxbow f).groups = s.groups ∧ (s.onOxbow f).place = s.place ∧ (s.onOxbow f).eddy = s.eddy ∧
    (s.onOxbow f).alarm = s.alarm ∧ (s.onOxbow f).pub = s.pub ∧ (s.onOxbow f).head = s.head ∧ (s.onOxbow f).capture = s.capture ∧
    (s.onOxbow f).leash = s.leash ∧ (s.onOxbow f).energy = s.energy ∧ (s.onOxbow f).jobs = s.jobs ∧ (s.onOxbow f).imian = s.imian ∧
    (s.onOxbow f).sets = s.sets ∧ (s.onOxbow f).host = s.host ∧ (s.onOxbow f).log = s.log ∧ (s.onOxbow f).hk = s.hk ∧ (s.onOxbow f).keys = s.keys ∧
    (s.onOxbow f).duplex = s.duplex ∧ (s.onOxbow f).testPort = s.testPort ∧ (∀ a b c, (s.onOxbow f).cfg a b c = s.cfg a b c) ∧
    (∀ a b c, (s.onOxbow f).cfgB a b c = s.cfgB a b c) ∧ (∀ a b c, (s.onOxbow f).cfgInt a b c = s.cfgInt a b c) ∧
    (∀ a b c, (s.onOxbow f).cfgBytes a b c = s.cfgBytes a b c) ∧ (∀ a b c, (s.onOxbow f).cfgF a b c = s.cfgF a b c) ∧
    (∀ a b c, (s.onOxbow f).rw a b c = s.rw a b c) ∧ (∀ a b c, (s.onOxbow f).rwBytes a b c = s.rwBytes a b c) ∧
    (∀ a b c, (s.onOxbow f).ro a b c = s.ro a b c) ∧ (∀ a b c, (s.onOxbow f).roBytes a b c = s.roBytes a b c) ∧ (s.onOxbow f).dev = s.dev ∧
    (s.onOxbow f).running = s.running ∧ (s.onOxbow f).powered = s.powered ∧ (s.onOxbow f).gdieOn = s.gdieOn ∧ (s.onOxbow f).timeRuns = s.timeRuns ∧
    (s.onOxbow f).fnom = s.fnom ∧ (s.onOxbow f).t96 = s.t96 ∧ (s.onOxbow f).gat = s.gat := by
  and_intros <;> intros <;> rfl

@[simp] theorem State.onAlarm_frame (s : State) (f : AlarmSt → AlarmSt) :
    (s.onAlarm f).alarm = f s.alarm ∧ (s.onAlarm f).pending = s.pending ∧ (s.onAlarm f).now = s.now ∧ (s.onAlarm f).draws = s.draws ∧
    (s.onAlarm f).outs = s.outs ∧ (s.onAlarm f).active = s.active ∧ (s.onAlarm f).shadow = s.shadow ∧ (s.onAlarm f).live = s.live ∧
    (s.onAlarm f).status = s.status ∧ (s.onAlarm f).power = s.power ∧ (s.onAlarm f).time = s.time ∧ (s.onAlarm f).port = s.port ∧
    (s.onAlarm f).ingest = s.ingest ∧ (s.onAlarm f).groups = s.groups ∧ (s.onAlarm f).place = s.place ∧ (s.onAlarm f).eddy = s.eddy ∧
    (s.onAlarm f).oxbow = s.oxbow ∧ (s.onAlarm f).pub = s.pub ∧ (s.onAlarm f).head = s.head ∧ (s.onAlarm f).capture = s.capture ∧
    (s.onAlarm f).leash = s.leash ∧ (s.onAlarm f).energy = s.energy ∧ (s.onAlarm f).jobs = s.jobs ∧ (s.onAlarm f).imian = s.imian ∧
    (s.onAlarm f).sets = s.sets ∧ (s.onAlarm f).host = s.host ∧ (s.onAlarm f).log = s.log ∧ (s.onAlarm f).hk = s.hk ∧ (s.onAlarm f).keys = s.keys ∧
    (s.onAlarm f).duplex = s.duplex ∧ (s.onAlarm f).testPort = s.testPort ∧ (∀ a b c, (s.onAlarm f).cfg a b c = s.cfg a b c) ∧
    (∀ a b c, (s.onAlarm f).cfgB a b c = s.cfgB a b c) ∧ (∀ a b c, (s.onAlarm f).cfgInt a b c = s.cfgInt a b c) ∧
    (∀ a b c, (s.onAlarm f).cfgBytes a b c = s.cfgBytes a b c) ∧ (∀ a b c, (s.onAlarm f).cfgF a b c = s.cfgF a b c) ∧
    (∀ a b c, (s.onAlarm f).rw a b c = s.rw a b c) ∧ (∀ a b c, (s.onAlarm f).rwBytes a b c = s.rwBytes a b c) ∧
    (∀ a b c, (s.onAlarm f).ro a b c = s.ro a b c) ∧ (∀ a b c, (s.onAlarm f).roBytes a b c = s.roBytes a b c) ∧ (s.onAlarm f).dev = s.dev ∧
    (s.onAlarm f).running = s.running ∧ (s.onAlarm f).powered = s.powered ∧ (s.onAlarm f).gdieOn = s.gdieOn ∧ (s.onAlarm f).timeRuns = s.timeRuns ∧
    (s.onAlarm f).fnom = s.fnom ∧ (s.onAlarm f).t96 = s.t96 ∧ (s.onAlarm f).gat = s.gat := by
  and_intros <;> intros <;> rfl

@[simp] theorem State.onPub_frame (s : State) (f : PubSt → PubSt) :
    (s.onPub f).pub = f s.pub ∧ (s.onPub f).pending = s.pending ∧ (s.onPub f).now = s.now ∧ (s.onPub f).draws = s.draws ∧ (s.onPub f).outs = s.outs ∧
    (s.onPub f).active = s.active ∧ (s.onPub f).shadow = s.shadow ∧ (s.onPub f).live = s.live ∧ (s.onPub f).status = s.status ∧
    (s.onPub f).power = s.power ∧ (s.onPub f).time = s.time ∧ (s.onPub f).port = s.port ∧ (s.onPub f).ingest = s.ingest ∧
    (s.onPub f).groups = s.groups ∧ (s.onPub f).place = s.place ∧ (s.onPub f).eddy = s.eddy ∧ (s.onPub f).oxbow = s.oxbow ∧
    (s.onPub f).alarm = s.alarm ∧ (s.onPub f).head = s.head ∧ (s.onPub f).capture = s.capture ∧ (s.onPub f).leash = s.leash ∧
    (s.onPub f).energy = s.energy ∧ (s.onPub f).jobs = s.jobs ∧ (s.onPub f).imian = s.imian ∧ (s.onPub f).sets = s.sets ∧ (s.onPub f).host = s.host ∧
    (s.onPub f).log = s.log ∧ (s.onPub f).hk = s.hk ∧ (s.onPub f).keys = s.keys ∧ (s.onPub f).duplex = s.duplex ∧ (s.onPub f).testPort = s.testPort ∧
    (∀ a b c, (s.onPub f).cfg a b c = s.cfg a b c) ∧ (∀ a b c, (s.onPub f).cfgB a b c = s.cfgB a b c) ∧
    (∀ a b c, (s.onPub f).cfgInt a b c = s.cfgInt a b c) ∧ (∀ a b c, (s.onPub f).cfgBytes a b c = s.cfgBytes a b c) ∧
    (∀ a b c, (s.onPub f).cfgF a b c = s.cfgF a b c) ∧ (∀ a b c, (s.onPub f).rw a b c = s.rw a b c) ∧
    (∀ a b c, (s.onPub f).rwBytes a b c = s.rwBytes a b c) ∧ (∀ a b c, (s.onPub f).ro a b c = s.ro a b c) ∧
    (∀ a b c, (s.onPub f).roBytes a b c = s.roBytes a b c) ∧ (s.onPub f).dev = s.dev ∧ (s.onPub f).running = s.running ∧
    (s.onPub f).powered = s.powered ∧ (s.onPub f).gdieOn = s.gdieOn ∧ (s.onPub f).timeRuns = s.timeRuns ∧ (s.onPub f).fnom = s.fnom ∧
    (s.onPub f).t96 = s.t96 ∧ (s.onPub f).gat = s.gat := by
  and_intros <;> intros <;> rfl

@[simp] theorem State.onHead_frame (s : State) (f : HeadSt → HeadSt) :
    (s.onHead f).head = f s.head ∧ (s.onHead f).pending = s.pending ∧ (s.onHead f).now = s.now ∧ (s.onHead f).draws = s.draws ∧
    (s.onHead f).outs = s.outs ∧ (s.onHead f).active = s.active ∧ (s.onHead f).shadow = s.shadow ∧ (s.onHead f).live = s.live ∧
    (s.onHead f).status = s.status ∧ (s.onHead f).power = s.power ∧ (s.onHead f).time = s.time ∧ (s.onHead f).port = s.port ∧
    (s.onHead f).ingest = s.ingest ∧ (s.onHead f).groups = s.groups ∧ (s.onHead f).place = s.place ∧ (s.onHead f).eddy = s.eddy ∧
    (s.onHead f).oxbow = s.oxbow ∧ (s.onHead f).alarm = s.alarm ∧ (s.onHead f).pub = s.pub ∧ (s.onHead f).capture = s.capture ∧
    (s.onHead f).leash = s.leash ∧ (s.onHead f).energy = s.energy ∧ (s.onHead f).jobs = s.jobs ∧ (s.onHead f).imian = s.imian ∧
    (s.onHead f).sets = s.sets ∧ (s.onHead f).host = s.host ∧ (s.onHead f).log = s.log ∧ (s.onHead f).hk = s.hk ∧ (s.onHead f).keys = s.keys ∧
    (s.onHead f).duplex = s.duplex ∧ (s.onHead f).testPort = s.testPort ∧ (∀ a b c, (s.onHead f).cfg a b c = s.cfg a b c) ∧
    (∀ a b c, (s.onHead f).cfgB a b c = s.cfgB a b c) ∧ (∀ a b c, (s.onHead f).cfgInt a b c = s.cfgInt a b c) ∧
    (∀ a b c, (s.onHead f).cfgBytes a b c = s.cfgBytes a b c) ∧ (∀ a b c, (s.onHead f).cfgF a b c = s.cfgF a b c) ∧
    (∀ a b c, (s.onHead f).rw a b c = s.rw a b c) ∧ (∀ a b c, (s.onHead f).rwBytes a b c = s.rwBytes a b c) ∧
    (∀ a b c, (s.onHead f).ro a b c = s.ro a b c) ∧ (∀ a b c, (s.onHead f).roBytes a b c = s.roBytes a b c) ∧ (s.onHead f).dev = s.dev ∧
    (s.onHead f).running = s.running ∧ (s.onHead f).powered = s.powered ∧ (s.onHead f).gdieOn = s.gdieOn ∧ (s.onHead f).timeRuns = s.timeRuns ∧
    (s.onHead f).fnom = s.fnom ∧ (s.onHead f).t96 = s.t96 ∧ (s.onHead f).gat = s.gat := by
  and_intros <;> intros <;> rfl

@[simp] theorem State.onCapture_frame (s : State) (f : CaptureSt → CaptureSt) :
    (s.onCapture f).capture = f s.capture ∧ (s.onCapture f).pending = s.pending ∧ (s.onCapture f).now = s.now ∧ (s.onCapture f).draws = s.draws ∧
    (s.onCapture f).outs = s.outs ∧ (s.onCapture f).active = s.active ∧ (s.onCapture f).shadow = s.shadow ∧ (s.onCapture f).live = s.live ∧
    (s.onCapture f).status = s.status ∧ (s.onCapture f).power = s.power ∧ (s.onCapture f).time = s.time ∧ (s.onCapture f).port = s.port ∧
    (s.onCapture f).ingest = s.ingest ∧ (s.onCapture f).groups = s.groups ∧ (s.onCapture f).place = s.place ∧ (s.onCapture f).eddy = s.eddy ∧
    (s.onCapture f).oxbow = s.oxbow ∧ (s.onCapture f).alarm = s.alarm ∧ (s.onCapture f).pub = s.pub ∧ (s.onCapture f).head = s.head ∧
    (s.onCapture f).leash = s.leash ∧ (s.onCapture f).energy = s.energy ∧ (s.onCapture f).jobs = s.jobs ∧ (s.onCapture f).imian = s.imian ∧
    (s.onCapture f).sets = s.sets ∧ (s.onCapture f).host = s.host ∧ (s.onCapture f).log = s.log ∧ (s.onCapture f).hk = s.hk ∧
    (s.onCapture f).keys = s.keys ∧ (s.onCapture f).duplex = s.duplex ∧ (s.onCapture f).testPort = s.testPort ∧
    (∀ a b c, (s.onCapture f).cfg a b c = s.cfg a b c) ∧ (∀ a b c, (s.onCapture f).cfgB a b c = s.cfgB a b c) ∧
    (∀ a b c, (s.onCapture f).cfgInt a b c = s.cfgInt a b c) ∧ (∀ a b c, (s.onCapture f).cfgBytes a b c = s.cfgBytes a b c) ∧
    (∀ a b c, (s.onCapture f).cfgF a b c = s.cfgF a b c) ∧ (∀ a b c, (s.onCapture f).rw a b c = s.rw a b c) ∧
    (∀ a b c, (s.onCapture f).rwBytes a b c = s.rwBytes a b c) ∧ (∀ a b c, (s.onCapture f).ro a b c = s.ro a b c) ∧
    (∀ a b c, (s.onCapture f).roBytes a b c = s.roBytes a b c) ∧ (s.onCapture f).dev = s.dev ∧ (s.onCapture f).running = s.running ∧
    (s.onCapture f).powered = s.powered ∧ (s.onCapture f).gdieOn = s.gdieOn ∧ (s.onCapture f).timeRuns = s.timeRuns ∧ (s.onCapture f).fnom = s.fnom ∧
    (s.onCapture f).t96 = s.t96 ∧ (s.onCapture f).gat = s.gat := by
  and_intros <;> intros <;> rfl

@[simp] theorem State.onLeash_frame (s : State) (f : LeashSt → LeashSt) :
    (s.onLeash f).leash = f s.leash ∧ (s.onLeash f).pending = s.pending ∧ (s.onLeash f).now = s.now ∧ (s.onLeash f).draws = s.draws ∧
    (s.onLeash f).outs = s.outs ∧ (s.onLeash f).active = s.active ∧ (s.onLeash f).shadow = s.shadow ∧ (s.onLeash f).live = s.live ∧
    (s.onLeash f).status = s.status ∧ (s.onLeash f).power = s.power ∧ (s.onLeash f).time = s.time ∧ (s.onLeash f).port = s.port ∧
    (s.onLeash f).ingest = s.ingest ∧ (s.onLeash f).groups = s.groups ∧ (s.onLeash f).place = s.place ∧ (s.onLeash f).eddy = s.eddy ∧
    (s.onLeash f).oxbow = s.oxbow ∧ (s.onLeash f).alarm = s.alarm ∧ (s.onLeash f).pub = s.pub ∧ (s.onLeash f).head = s.head ∧
    (s.onLeash f).capture = s.capture ∧ (s.onLeash f).energy = s.energy ∧ (s.onLeash f).jobs = s.jobs ∧ (s.onLeash f).imian = s.imian ∧
    (s.onLeash f).sets = s.sets ∧ (s.onLeash f).host = s.host ∧ (s.onLeash f).log = s.log ∧ (s.onLeash f).hk = s.hk ∧ (s.onLeash f).keys = s.keys ∧
    (s.onLeash f).duplex = s.duplex ∧ (s.onLeash f).testPort = s.testPort ∧ (∀ a b c, (s.onLeash f).cfg a b c = s.cfg a b c) ∧
    (∀ a b c, (s.onLeash f).cfgB a b c = s.cfgB a b c) ∧ (∀ a b c, (s.onLeash f).cfgInt a b c = s.cfgInt a b c) ∧
    (∀ a b c, (s.onLeash f).cfgBytes a b c = s.cfgBytes a b c) ∧ (∀ a b c, (s.onLeash f).cfgF a b c = s.cfgF a b c) ∧
    (∀ a b c, (s.onLeash f).rw a b c = s.rw a b c) ∧ (∀ a b c, (s.onLeash f).rwBytes a b c = s.rwBytes a b c) ∧
    (∀ a b c, (s.onLeash f).ro a b c = s.ro a b c) ∧ (∀ a b c, (s.onLeash f).roBytes a b c = s.roBytes a b c) ∧ (s.onLeash f).dev = s.dev ∧
    (s.onLeash f).running = s.running ∧ (s.onLeash f).powered = s.powered ∧ (s.onLeash f).gdieOn = s.gdieOn ∧ (s.onLeash f).timeRuns = s.timeRuns ∧
    (s.onLeash f).fnom = s.fnom ∧ (s.onLeash f).t96 = s.t96 ∧ (s.onLeash f).gat = s.gat := by
  and_intros <;> intros <;> rfl

@[simp] theorem State.onEnergy_frame (s : State) (f : EnergySt → EnergySt) :
    (s.onEnergy f).energy = f s.energy ∧ (s.onEnergy f).pending = s.pending ∧ (s.onEnergy f).now = s.now ∧ (s.onEnergy f).draws = s.draws ∧
    (s.onEnergy f).outs = s.outs ∧ (s.onEnergy f).active = s.active ∧ (s.onEnergy f).shadow = s.shadow ∧ (s.onEnergy f).live = s.live ∧
    (s.onEnergy f).status = s.status ∧ (s.onEnergy f).power = s.power ∧ (s.onEnergy f).time = s.time ∧ (s.onEnergy f).port = s.port ∧
    (s.onEnergy f).ingest = s.ingest ∧ (s.onEnergy f).groups = s.groups ∧ (s.onEnergy f).place = s.place ∧ (s.onEnergy f).eddy = s.eddy ∧
    (s.onEnergy f).oxbow = s.oxbow ∧ (s.onEnergy f).alarm = s.alarm ∧ (s.onEnergy f).pub = s.pub ∧ (s.onEnergy f).head = s.head ∧
    (s.onEnergy f).capture = s.capture ∧ (s.onEnergy f).leash = s.leash ∧ (s.onEnergy f).jobs = s.jobs ∧ (s.onEnergy f).imian = s.imian ∧
    (s.onEnergy f).sets = s.sets ∧ (s.onEnergy f).host = s.host ∧ (s.onEnergy f).log = s.log ∧ (s.onEnergy f).hk = s.hk ∧
    (s.onEnergy f).keys = s.keys ∧ (s.onEnergy f).duplex = s.duplex ∧ (s.onEnergy f).testPort = s.testPort ∧
    (∀ a b c, (s.onEnergy f).cfg a b c = s.cfg a b c) ∧ (∀ a b c, (s.onEnergy f).cfgB a b c = s.cfgB a b c) ∧
    (∀ a b c, (s.onEnergy f).cfgInt a b c = s.cfgInt a b c) ∧ (∀ a b c, (s.onEnergy f).cfgBytes a b c = s.cfgBytes a b c) ∧
    (∀ a b c, (s.onEnergy f).cfgF a b c = s.cfgF a b c) ∧ (∀ a b c, (s.onEnergy f).rw a b c = s.rw a b c) ∧
    (∀ a b c, (s.onEnergy f).rwBytes a b c = s.rwBytes a b c) ∧ (∀ a b c, (s.onEnergy f).ro a b c = s.ro a b c) ∧
    (∀ a b c, (s.onEnergy f).roBytes a b c = s.roBytes a b c) ∧ (s.onEnergy f).dev = s.dev ∧ (s.onEnergy f).running = s.running ∧
    (s.onEnergy f).powered = s.powered ∧ (s.onEnergy f).gdieOn = s.gdieOn ∧ (s.onEnergy f).timeRuns = s.timeRuns ∧ (s.onEnergy f).fnom = s.fnom ∧
    (s.onEnergy f).t96 = s.t96 ∧ (s.onEnergy f).gat = s.gat := by
  and_intros <;> intros <;> rfl

@[simp] theorem State.onJobs_frame (s : State) (f : JobSt → JobSt) :
    (s.onJobs f).jobs = f s.jobs ∧ (s.onJobs f).pending = s.pending ∧ (s.onJobs f).now = s.now ∧ (s.onJobs f).draws = s.draws ∧
    (s.onJobs f).outs = s.outs ∧ (s.onJobs f).active = s.active ∧ (s.onJobs f).shadow = s.shadow ∧ (s.onJobs f).live = s.live ∧
    (s.onJobs f).status = s.status ∧ (s.onJobs f).power = s.power ∧ (s.onJobs f).time = s.time ∧ (s.onJobs f).port = s.port ∧
    (s.onJobs f).ingest = s.ingest ∧ (s.onJobs f).groups = s.groups ∧ (s.onJobs f).place = s.place ∧ (s.onJobs f).eddy = s.eddy ∧
    (s.onJobs f).oxbow = s.oxbow ∧ (s.onJobs f).alarm = s.alarm ∧ (s.onJobs f).pub = s.pub ∧ (s.onJobs f).head = s.head ∧
    (s.onJobs f).capture = s.capture ∧ (s.onJobs f).leash = s.leash ∧ (s.onJobs f).energy = s.energy ∧ (s.onJobs f).imian = s.imian ∧
    (s.onJobs f).sets = s.sets ∧ (s.onJobs f).host = s.host ∧ (s.onJobs f).log = s.log ∧ (s.onJobs f).hk = s.hk ∧ (s.onJobs f).keys = s.keys ∧
    (s.onJobs f).duplex = s.duplex ∧ (s.onJobs f).testPort = s.testPort ∧ (∀ a b c, (s.onJobs f).cfg a b c = s.cfg a b c) ∧
    (∀ a b c, (s.onJobs f).cfgB a b c = s.cfgB a b c) ∧ (∀ a b c, (s.onJobs f).cfgInt a b c = s.cfgInt a b c) ∧
    (∀ a b c, (s.onJobs f).cfgBytes a b c = s.cfgBytes a b c) ∧ (∀ a b c, (s.onJobs f).cfgF a b c = s.cfgF a b c) ∧
    (∀ a b c, (s.onJobs f).rw a b c = s.rw a b c) ∧ (∀ a b c, (s.onJobs f).rwBytes a b c = s.rwBytes a b c) ∧
    (∀ a b c, (s.onJobs f).ro a b c = s.ro a b c) ∧ (∀ a b c, (s.onJobs f).roBytes a b c = s.roBytes a b c) ∧ (s.onJobs f).dev = s.dev ∧
    (s.onJobs f).running = s.running ∧ (s.onJobs f).powered = s.powered ∧ (s.onJobs f).gdieOn = s.gdieOn ∧ (s.onJobs f).timeRuns = s.timeRuns ∧
    (s.onJobs f).fnom = s.fnom ∧ (s.onJobs f).t96 = s.t96 ∧ (s.onJobs f).gat = s.gat := by
  and_intros <;> intros <;> rfl

@[simp] theorem State.onImian_frame (s : State) (f : ImianSt → ImianSt) :
    (s.onImian f).imian = f s.imian ∧ (s.onImian f).pending = s.pending ∧ (s.onImian f).now = s.now ∧ (s.onImian f).draws = s.draws ∧
    (s.onImian f).outs = s.outs ∧ (s.onImian f).active = s.active ∧ (s.onImian f).shadow = s.shadow ∧ (s.onImian f).live = s.live ∧
    (s.onImian f).status = s.status ∧ (s.onImian f).power = s.power ∧ (s.onImian f).time = s.time ∧ (s.onImian f).port = s.port ∧
    (s.onImian f).ingest = s.ingest ∧ (s.onImian f).groups = s.groups ∧ (s.onImian f).place = s.place ∧ (s.onImian f).eddy = s.eddy ∧
    (s.onImian f).oxbow = s.oxbow ∧ (s.onImian f).alarm = s.alarm ∧ (s.onImian f).pub = s.pub ∧ (s.onImian f).head = s.head ∧
    (s.onImian f).capture = s.capture ∧ (s.onImian f).leash = s.leash ∧ (s.onImian f).energy = s.energy ∧ (s.onImian f).jobs = s.jobs ∧
    (s.onImian f).sets = s.sets ∧ (s.onImian f).host = s.host ∧ (s.onImian f).log = s.log ∧ (s.onImian f).hk = s.hk ∧ (s.onImian f).keys = s.keys ∧
    (s.onImian f).duplex = s.duplex ∧ (s.onImian f).testPort = s.testPort ∧ (∀ a b c, (s.onImian f).cfg a b c = s.cfg a b c) ∧
    (∀ a b c, (s.onImian f).cfgB a b c = s.cfgB a b c) ∧ (∀ a b c, (s.onImian f).cfgInt a b c = s.cfgInt a b c) ∧
    (∀ a b c, (s.onImian f).cfgBytes a b c = s.cfgBytes a b c) ∧ (∀ a b c, (s.onImian f).cfgF a b c = s.cfgF a b c) ∧
    (∀ a b c, (s.onImian f).rw a b c = s.rw a b c) ∧ (∀ a b c, (s.onImian f).rwBytes a b c = s.rwBytes a b c) ∧
    (∀ a b c, (s.onImian f).ro a b c = s.ro a b c) ∧ (∀ a b c, (s.onImian f).roBytes a b c = s.roBytes a b c) ∧ (s.onImian f).dev = s.dev ∧
    (s.onImian f).running = s.running ∧ (s.onImian f).powered = s.powered ∧ (s.onImian f).gdieOn = s.gdieOn ∧ (s.onImian f).timeRuns = s.timeRuns ∧
    (s.onImian f).fnom = s.fnom ∧ (s.onImian f).t96 = s.t96 ∧ (s.onImian f).gat = s.gat := by
  and_intros <;> intros <;> rfl

@[simp] theorem State.onSets_frame (s : State) (f : SetSt → SetSt) :
    (s.onSets f).sets = f s.sets ∧ (s.onSets f).pending = s.pending ∧ (s.onSets f).now = s.now ∧ (s.onSets f).draws = s.draws ∧
    (s.onSets f).outs = s.outs ∧ (s.onSets f).active = s.active ∧ (s.onSets f).shadow = s.shadow ∧ (s.onSets f).live = s.live ∧
    (s.onSets f).status = s.status ∧ (s.onSets f).power = s.power ∧ (s.onSets f).time = s.time ∧ (s.onSets f).port = s.port ∧
    (s.onSets f).ingest = s.ingest ∧ (s.onSets f).groups = s.groups ∧ (s.onSets f).place = s.place ∧ (s.onSets f).eddy = s.eddy ∧
    (s.onSets f).oxbow = s.oxbow ∧ (s.onSets f).alarm = s.alarm ∧ (s.onSets f).pub = s.pub ∧ (s.onSets f).head = s.head ∧
    (s.onSets f).capture = s.capture ∧ (s.onSets f).leash = s.leash ∧ (s.onSets f).energy = s.energy ∧ (s.onSets f).jobs = s.jobs ∧
    (s.onSets f).imian = s.imian ∧ (s.onSets f).host = s.host ∧ (s.onSets f).log = s.log ∧ (s.onSets f).hk = s.hk ∧ (s.onSets f).keys = s.keys ∧
    (s.onSets f).duplex = s.duplex ∧ (s.onSets f).testPort = s.testPort ∧ (∀ a b c, (s.onSets f).cfg a b c = s.cfg a b c) ∧
    (∀ a b c, (s.onSets f).cfgB a b c = s.cfgB a b c) ∧ (∀ a b c, (s.onSets f).cfgInt a b c = s.cfgInt a b c) ∧
    (∀ a b c, (s.onSets f).cfgBytes a b c = s.cfgBytes a b c) ∧ (∀ a b c, (s.onSets f).cfgF a b c = s.cfgF a b c) ∧
    (∀ a b c, (s.onSets f).rw a b c = s.rw a b c) ∧ (∀ a b c, (s.onSets f).rwBytes a b c = s.rwBytes a b c) ∧
    (∀ a b c, (s.onSets f).ro a b c = s.ro a b c) ∧ (∀ a b c, (s.onSets f).roBytes a b c = s.roBytes a b c) ∧ (s.onSets f).dev = s.dev ∧
    (s.onSets f).running = s.running ∧ (s.onSets f).powered = s.powered ∧ (s.onSets f).gdieOn = s.gdieOn ∧ (s.onSets f).timeRuns = s.timeRuns ∧
    (s.onSets f).fnom = s.fnom ∧ (s.onSets f).t96 = s.t96 ∧ (s.onSets f).gat = s.gat := by
  and_intros <;> intros <;> rfl

@[simp] theorem State.onHost_frame (s : State) (f : HostSt → HostSt) :
    (s.onHost f).host = f s.host ∧ (s.onHost f).pending = s.pending ∧ (s.onHost f).now = s.now ∧ (s.onHost f).draws = s.draws ∧
    (s.onHost f).outs = s.outs ∧ (s.onHost f).active = s.active ∧ (s.onHost f).shadow = s.shadow ∧ (s.onHost f).live = s.live ∧
    (s.onHost f).status = s.status ∧ (s.onHost f).power = s.power ∧ (s.onHost f).time = s.time ∧ (s.onHost f).port = s.port ∧
    (s.onHost f).ingest = s.ingest ∧ (s.onHost f).groups = s.groups ∧ (s.onHost f).place = s.place ∧ (s.onHost f).eddy = s.eddy ∧
    (s.onHost f).oxbow = s.oxbow ∧ (s.onHost f).alarm = s.alarm ∧ (s.onHost f).pub = s.pub ∧ (s.onHost f).head = s.head ∧
    (s.onHost f).capture = s.capture ∧ (s.onHost f).leash = s.leash ∧ (s.onHost f).energy = s.energy ∧ (s.onHost f).jobs = s.jobs ∧
    (s.onHost f).imian = s.imian ∧ (s.onHost f).sets = s.sets ∧ (s.onHost f).log = s.log ∧ (s.onHost f).hk = s.hk ∧ (s.onHost f).keys = s.keys ∧
    (s.onHost f).duplex = s.duplex ∧ (s.onHost f).testPort = s.testPort ∧ (∀ a b c, (s.onHost f).cfg a b c = s.cfg a b c) ∧
    (∀ a b c, (s.onHost f).cfgB a b c = s.cfgB a b c) ∧ (∀ a b c, (s.onHost f).cfgInt a b c = s.cfgInt a b c) ∧
    (∀ a b c, (s.onHost f).cfgBytes a b c = s.cfgBytes a b c) ∧ (∀ a b c, (s.onHost f).cfgF a b c = s.cfgF a b c) ∧
    (∀ a b c, (s.onHost f).rw a b c = s.rw a b c) ∧ (∀ a b c, (s.onHost f).rwBytes a b c = s.rwBytes a b c) ∧
    (∀ a b c, (s.onHost f).ro a b c = s.ro a b c) ∧ (∀ a b c, (s.onHost f).roBytes a b c = s.roBytes a b c) ∧ (s.onHost f).dev = s.dev ∧
    (s.onHost f).running = s.running ∧ (s.onHost f).powered = s.powered ∧ (s.onHost f).gdieOn = s.gdieOn ∧ (s.onHost f).timeRuns = s.timeRuns ∧
    (s.onHost f).fnom = s.fnom ∧ (s.onHost f).t96 = s.t96 ∧ (s.onHost f).gat = s.gat := by
  and_intros <;> intros <;> rfl

@[simp] theorem State.onLog_frame (s : State) (f : LogSt → LogSt) :
    (s.onLog f).log = f s.log ∧ (s.onLog f).pending = s.pending ∧ (s.onLog f).now = s.now ∧ (s.onLog f).draws = s.draws ∧ (s.onLog f).outs = s.outs ∧
    (s.onLog f).active = s.active ∧ (s.onLog f).shadow = s.shadow ∧ (s.onLog f).live = s.live ∧ (s.onLog f).status = s.status ∧
    (s.onLog f).power = s.power ∧ (s.onLog f).time = s.time ∧ (s.onLog f).port = s.port ∧ (s.onLog f).ingest = s.ingest ∧
    (s.onLog f).groups = s.groups ∧ (s.onLog f).place = s.place ∧ (s.onLog f).eddy = s.eddy ∧ (s.onLog f).oxbow = s.oxbow ∧
    (s.onLog f).alarm = s.alarm ∧ (s.onLog f).pub = s.pub ∧ (s.onLog f).head = s.head ∧ (s.onLog f).capture = s.capture ∧
    (s.onLog f).leash = s.leash ∧ (s.onLog f).energy = s.energy ∧ (s.onLog f).jobs = s.jobs ∧ (s.onLog f).imian = s.imian ∧
    (s.onLog f).sets = s.sets ∧ (s.onLog f).host = s.host ∧ (s.onLog f).hk = s.hk ∧ (s.onLog f).keys = s.keys ∧ (s.onLog f).duplex = s.duplex ∧
    (s.onLog f).testPort = s.testPort ∧ (∀ a b c, (s.onLog f).cfg a b c = s.cfg a b c) ∧ (∀ a b c, (s.onLog f).cfgB a b c = s.cfgB a b c) ∧
    (∀ a b c, (s.onLog f).cfgInt a b c = s.cfgInt a b c) ∧ (∀ a b c, (s.onLog f).cfgBytes a b c = s.cfgBytes a b c) ∧
    (∀ a b c, (s.onLog f).cfgF a b c = s.cfgF a b c) ∧ (∀ a b c, (s.onLog f).rw a b c = s.rw a b c) ∧
    (∀ a b c, (s.onLog f).rwBytes a b c = s.rwBytes a b c) ∧ (∀ a b c, (s.onLog f).ro a b c = s.ro a b c) ∧
    (∀ a b c, (s.onLog f).roBytes a b c = s.roBytes a b c) ∧ (s.onLog f).dev = s.dev ∧ (s.onLog f).running = s.running ∧
    (s.onLog f).powered = s.powered ∧ (s.onLog f).gdieOn = s.gdieOn ∧ (s.onLog f).timeRuns = s.timeRuns ∧ (s.onLog f).fnom = s.fnom ∧
    (s.onLog f).t96 = s.t96 ∧ (s.onLog f).gat = s.gat := by
  and_intros <;> intros <;> rfl

@[simp] theorem State.onHk_frame (s : State) (f : HkSt → HkSt) :
    (s.onHk f).hk = f s.hk ∧ (s.onHk f).pending = s.pending ∧ (s.onHk f).now = s.now ∧ (s.onHk f).draws = s.draws ∧ (s.onHk f).outs = s.outs ∧
    (s.onHk f).active = s.active ∧ (s.onHk f).shadow = s.shadow ∧ (s.onHk f).live = s.live ∧ (s.onHk f).status = s.status ∧
    (s.onHk f).power = s.power ∧ (s.onHk f).time = s.time ∧ (s.onHk f).port = s.port ∧ (s.onHk f).ingest = s.ingest ∧ (s.onHk f).groups = s.groups ∧
    (s.onHk f).place = s.place ∧ (s.onHk f).eddy = s.eddy ∧ (s.onHk f).oxbow = s.oxbow ∧ (s.onHk f).alarm = s.alarm ∧ (s.onHk f).pub = s.pub ∧
    (s.onHk f).head = s.head ∧ (s.onHk f).capture = s.capture ∧ (s.onHk f).leash = s.leash ∧ (s.onHk f).energy = s.energy ∧
    (s.onHk f).jobs = s.jobs ∧ (s.onHk f).imian = s.imian ∧ (s.onHk f).sets = s.sets ∧ (s.onHk f).host = s.host ∧ (s.onHk f).log = s.log ∧
    (s.onHk f).keys = s.keys ∧ (s.onHk f).duplex = s.duplex ∧ (s.onHk f).testPort = s.testPort ∧ (∀ a b c, (s.onHk f).cfg a b c = s.cfg a b c) ∧
    (∀ a b c, (s.onHk f).cfgB a b c = s.cfgB a b c) ∧ (∀ a b c, (s.onHk f).cfgInt a b c = s.cfgInt a b c) ∧
    (∀ a b c, (s.onHk f).cfgBytes a b c = s.cfgBytes a b c) ∧ (∀ a b c, (s.onHk f).cfgF a b c = s.cfgF a b c) ∧
    (∀ a b c, (s.onHk f).rw a b c = s.rw a b c) ∧ (∀ a b c, (s.onHk f).rwBytes a b c = s.rwBytes a b c) ∧
    (∀ a b c, (s.onHk f).ro a b c = s.ro a b c) ∧ (∀ a b c, (s.onHk f).roBytes a b c = s.roBytes a b c) ∧ (s.onHk f).dev = s.dev ∧
    (s.onHk f).running = s.running ∧ (s.onHk f).powered = s.powered ∧ (s.onHk f).gdieOn = s.gdieOn ∧ (s.onHk f).timeRuns = s.timeRuns ∧
    (s.onHk f).fnom = s.fnom ∧ (s.onHk f).t96 = s.t96 ∧ (s.onHk f).gat = s.gat := by
  and_intros <;> intros <;> rfl

@[simp] theorem State.onKeys_frame (s : State) (f : KeySt → KeySt) :
    (s.onKeys f).keys = f s.keys ∧ (s.onKeys f).pending = s.pending ∧ (s.onKeys f).now = s.now ∧ (s.onKeys f).draws = s.draws ∧
    (s.onKeys f).outs = s.outs ∧ (s.onKeys f).active = s.active ∧ (s.onKeys f).shadow = s.shadow ∧ (s.onKeys f).live = s.live ∧
    (s.onKeys f).status = s.status ∧ (s.onKeys f).power = s.power ∧ (s.onKeys f).time = s.time ∧ (s.onKeys f).port = s.port ∧
    (s.onKeys f).ingest = s.ingest ∧ (s.onKeys f).groups = s.groups ∧ (s.onKeys f).place = s.place ∧ (s.onKeys f).eddy = s.eddy ∧
    (s.onKeys f).oxbow = s.oxbow ∧ (s.onKeys f).alarm = s.alarm ∧ (s.onKeys f).pub = s.pub ∧ (s.onKeys f).head = s.head ∧
    (s.onKeys f).capture = s.capture ∧ (s.onKeys f).leash = s.leash ∧ (s.onKeys f).energy = s.energy ∧ (s.onKeys f).jobs = s.jobs ∧
    (s.onKeys f).imian = s.imian ∧ (s.onKeys f).sets = s.sets ∧ (s.onKeys f).host = s.host ∧ (s.onKeys f).log = s.log ∧ (s.onKeys f).hk = s.hk ∧
    (s.onKeys f).duplex = s.duplex ∧ (s.onKeys f).testPort = s.testPort ∧ (∀ a b c, (s.onKeys f).cfg a b c = s.cfg a b c) ∧
    (∀ a b c, (s.onKeys f).cfgB a b c = s.cfgB a b c) ∧ (∀ a b c, (s.onKeys f).cfgInt a b c = s.cfgInt a b c) ∧
    (∀ a b c, (s.onKeys f).cfgBytes a b c = s.cfgBytes a b c) ∧ (∀ a b c, (s.onKeys f).cfgF a b c = s.cfgF a b c) ∧
    (∀ a b c, (s.onKeys f).rw a b c = s.rw a b c) ∧ (∀ a b c, (s.onKeys f).rwBytes a b c = s.rwBytes a b c) ∧
    (∀ a b c, (s.onKeys f).ro a b c = s.ro a b c) ∧ (∀ a b c, (s.onKeys f).roBytes a b c = s.roBytes a b c) ∧ (s.onKeys f).dev = s.dev ∧
    (s.onKeys f).running = s.running ∧ (s.onKeys f).powered = s.powered ∧ (s.onKeys f).gdieOn = s.gdieOn ∧ (s.onKeys f).timeRuns = s.timeRuns ∧
    (s.onKeys f).fnom = s.fnom ∧ (s.onKeys f).t96 = s.t96 ∧ (s.onKeys f).gat = s.gat := by
  and_intros <;> intros <;> rfl

@[simp] theorem State.onDuplex_frame (s : State) (f : DuplexSt → DuplexSt) :
    (s.onDuplex f).duplex = f s.duplex ∧ (s.onDuplex f).pending = s.pending ∧ (s.onDuplex f).now = s.now ∧ (s.onDuplex f).draws = s.draws ∧
    (s.onDuplex f).outs = s.outs ∧ (s.onDuplex f).active = s.active ∧ (s.onDuplex f).shadow = s.shadow ∧ (s.onDuplex f).live = s.live ∧
    (s.onDuplex f).status = s.status ∧ (s.onDuplex f).power = s.power ∧ (s.onDuplex f).time = s.time ∧ (s.onDuplex f).port = s.port ∧
    (s.onDuplex f).ingest = s.ingest ∧ (s.onDuplex f).groups = s.groups ∧ (s.onDuplex f).place = s.place ∧ (s.onDuplex f).eddy = s.eddy ∧
    (s.onDuplex f).oxbow = s.oxbow ∧ (s.onDuplex f).alarm = s.alarm ∧ (s.onDuplex f).pub = s.pub ∧ (s.onDuplex f).head = s.head ∧
    (s.onDuplex f).capture = s.capture ∧ (s.onDuplex f).leash = s.leash ∧ (s.onDuplex f).energy = s.energy ∧ (s.onDuplex f).jobs = s.jobs ∧
    (s.onDuplex f).imian = s.imian ∧ (s.onDuplex f).sets = s.sets ∧ (s.onDuplex f).host = s.host ∧ (s.onDuplex f).log = s.log ∧
    (s.onDuplex f).hk = s.hk ∧ (s.onDuplex f).keys = s.keys ∧ (s.onDuplex f).testPort = s.testPort ∧
    (∀ a b c, (s.onDuplex f).cfg a b c = s.cfg a b c) ∧ (∀ a b c, (s.onDuplex f).cfgB a b c = s.cfgB a b c) ∧
    (∀ a b c, (s.onDuplex f).cfgInt a b c = s.cfgInt a b c) ∧ (∀ a b c, (s.onDuplex f).cfgBytes a b c = s.cfgBytes a b c) ∧
    (∀ a b c, (s.onDuplex f).cfgF a b c = s.cfgF a b c) ∧ (∀ a b c, (s.onDuplex f).rw a b c = s.rw a b c) ∧
    (∀ a b c, (s.onDuplex f).rwBytes a b c = s.rwBytes a b c) ∧ (∀ a b c, (s.onDuplex f).ro a b c = s.ro a b c) ∧
    (∀ a b c, (s.onDuplex f).roBytes a b c = s.roBytes a b c) ∧ (s.onDuplex f).dev = s.dev ∧ (s.onDuplex f).running = s.running ∧
    (s.onDuplex f).powered = s.powered ∧ (s.onDuplex f).gdieOn = s.gdieOn ∧ (s.onDuplex f).timeRuns = s.timeRuns ∧ (s.onDuplex f).fnom = s.fnom ∧
    (s.onDuplex f).t96 = s.t96 ∧ (s.onDuplex f).gat = s.gat := by
  and_intros <;> intros <;> rfl

@[simp] theorem State.emit_frame (s : State) (x : Out) :
    (s.emit x).outs = s.outs ++ [x] ∧ (s.emit x).pending = s.pending ∧ (s.emit x).now = s.now ∧ (s.emit x).draws = s.draws ∧
    (s.emit x).active = s.active ∧ (s.emit x).shadow = s.shadow ∧ (s.emit x).live = s.live ∧ (s.emit x).status = s.status ∧
    (s.emit x).power = s.power ∧ (s.emit x).time = s.time ∧ (s.emit x).port = s.port ∧ (s.emit x).ingest = s.ingest ∧ (s.emit x).groups = s.groups ∧
    (s.emit x).place = s.place ∧ (s.emit x).eddy = s.eddy ∧ (s.emit x).oxbow = s.oxbow ∧ (s.emit x).alarm = s.alarm ∧ (s.emit x).pub = s.pub ∧
    (s.emit x).head = s.head ∧ (s.emit x).capture = s.capture ∧ (s.emit x).leash = s.leash ∧ (s.emit x).energy = s.energy ∧
    (s.emit x).jobs = s.jobs ∧ (s.emit x).imian = s.imian ∧ (s.emit x).sets = s.sets ∧ (s.emit x).host = s.host ∧ (s.emit x).log = s.log ∧
    (s.emit x).hk = s.hk ∧ (s.emit x).keys = s.keys ∧ (s.emit x).duplex = s.duplex ∧ (s.emit x).testPort = s.testPort ∧
    (∀ a b c, (s.emit x).cfg a b c = s.cfg a b c) ∧ (∀ a b c, (s.emit x).cfgB a b c = s.cfgB a b c) ∧
    (∀ a b c, (s.emit x).cfgInt a b c = s.cfgInt a b c) ∧ (∀ a b c, (s.emit x).cfgBytes a b c = s.cfgBytes a b c) ∧
    (∀ a b c, (s.emit x).cfgF a b c = s.cfgF a b c) ∧ (∀ a b c, (s.emit x).rw a b c = s.rw a b c) ∧
    (∀ a b c, (s.emit x).rwBytes a b c = s.rwBytes a b c) ∧ (∀ a b c, (s.emit x).ro a b c = s.ro a b c) ∧
    (∀ a b c, (s.emit x).roBytes a b c = s.roBytes a b c) ∧ (s.emit x).dev = s.dev ∧ (s.emit x).running = s.running ∧
    (s.emit x).powered = s.powered ∧ (s.emit x).gdieOn = s.gdieOn ∧ (s.emit x).timeRuns = s.timeRuns ∧ (s.emit x).fnom = s.fnom ∧
    (s.emit x).t96 = s.t96 ∧ (s.emit x).gat = s.gat := by
  and_intros <;> intros <;> rfl

@[simp] theorem State.drawn_frame (s : State)  :
    (s.drawn).draws = s.draws + 1 ∧ (s.drawn).pending = s.pending ∧ (s.drawn).now = s.now ∧ (s.drawn).outs = s.outs ∧ (s.drawn).active = s.active ∧
    (s.drawn).shadow = s.shadow ∧ (s.drawn).live = s.live ∧ (s.drawn).status = s.status ∧ (s.drawn).power = s.power ∧ (s.drawn).time = s.time ∧
    (s.drawn).port = s.port ∧ (s.drawn).ingest = s.ingest ∧ (s.drawn).groups = s.groups ∧ (s.drawn).place = s.place ∧ (s.drawn).eddy = s.eddy ∧
    (s.drawn).oxbow = s.oxbow ∧ (s.drawn).alarm = s.alarm ∧ (s.drawn).pub = s.pub ∧ (s.drawn).head = s.head ∧ (s.drawn).capture = s.capture ∧
    (s.drawn).leash = s.leash ∧ (s.drawn).energy = s.energy ∧ (s.drawn).jobs = s.jobs ∧ (s.drawn).imian = s.imian ∧ (s.drawn).sets = s.sets ∧
    (s.drawn).host = s.host ∧ (s.drawn).log = s.log ∧ (s.drawn).hk = s.hk ∧ (s.drawn).keys = s.keys ∧ (s.drawn).duplex = s.duplex ∧
    (s.drawn).testPort = s.testPort ∧ (∀ a b c, (s.drawn).cfg a b c = s.cfg a b c) ∧ (∀ a b c, (s.drawn).cfgB a b c = s.cfgB a b c) ∧
    (∀ a b c, (s.drawn).cfgInt a b c = s.cfgInt a b c) ∧ (∀ a b c, (s.drawn).cfgBytes a b c = s.cfgBytes a b c) ∧
    (∀ a b c, (s.drawn).cfgF a b c = s.cfgF a b c) ∧ (∀ a b c, (s.drawn).rw a b c = s.rw a b c) ∧
    (∀ a b c, (s.drawn).rwBytes a b c = s.rwBytes a b c) ∧ (∀ a b c, (s.drawn).ro a b c = s.ro a b c) ∧
    (∀ a b c, (s.drawn).roBytes a b c = s.roBytes a b c) ∧ (s.drawn).dev = s.dev ∧ (s.drawn).running = s.running ∧ (s.drawn).powered = s.powered ∧
    (s.drawn).gdieOn = s.gdieOn ∧ (s.drawn).timeRuns = s.timeRuns ∧ (s.drawn).fnom = s.fnom ∧ (s.drawn).t96 = s.t96 ∧ (s.drawn).gat = s.gat := by
  and_intros <;> intros <;> rfl

@[simp] theorem State.setRoV_frame (s : State) (i j r : Nat) (v : Val) :
    (s.setRoV i j r v).status = writeIn s.status i j r v ∧ (s.setRoV i j r v).pending = s.pending ∧ (s.setRoV i j r v).now = s.now ∧
    (s.setRoV i j r v).draws = s.draws ∧ (s.setRoV i j r v).outs = s.outs ∧ (s.setRoV i j r v).active = s.active ∧
    (s.setRoV i j r v).shadow = s.shadow ∧ (s.setRoV i j r v).live = s.live ∧ (s.setRoV i j r v).power = s.power ∧ (s.setRoV i j r v).time = s.time ∧
    (s.setRoV i j r v).port = s.port ∧ (s.setRoV i j r v).ingest = s.ingest ∧ (s.setRoV i j r v).groups = s.groups ∧
    (s.setRoV i j r v).place = s.place ∧ (s.setRoV i j r v).eddy = s.eddy ∧ (s.setRoV i j r v).oxbow = s.oxbow ∧ (s.setRoV i j r v).alarm = s.alarm ∧
    (s.setRoV i j r v).pub = s.pub ∧ (s.setRoV i j r v).head = s.head ∧ (s.setRoV i j r v).capture = s.capture ∧ (s.setRoV i j r v).leash = s.leash ∧
    (s.setRoV i j r v).energy = s.energy ∧ (s.setRoV i j r v).jobs = s.jobs ∧ (s.setRoV i j r v).imian = s.imian ∧ (s.setRoV i j r v).sets = s.sets ∧
    (s.setRoV i j r v).host = s.host ∧ (s.setRoV i j r v).log = s.log ∧ (s.setRoV i j r v).hk = s.hk ∧ (s.setRoV i j r v).keys = s.keys ∧
    (s.setRoV i j r v).duplex = s.duplex ∧ (s.setRoV i j r v).testPort = s.testPort ∧ (∀ a b c, (s.setRoV i j r v).cfg a b c = s.cfg a b c) ∧
    (∀ a b c, (s.setRoV i j r v).cfgB a b c = s.cfgB a b c) ∧ (∀ a b c, (s.setRoV i j r v).cfgInt a b c = s.cfgInt a b c) ∧
    (∀ a b c, (s.setRoV i j r v).cfgBytes a b c = s.cfgBytes a b c) ∧ (∀ a b c, (s.setRoV i j r v).cfgF a b c = s.cfgF a b c) ∧
    (∀ a b c, (s.setRoV i j r v).rw a b c = s.rw a b c) ∧ (∀ a b c, (s.setRoV i j r v).rwBytes a b c = s.rwBytes a b c) ∧
    (s.setRoV i j r v).dev = s.dev ∧ (s.setRoV i j r v).running = s.running ∧ (s.setRoV i j r v).powered = s.powered ∧
    (s.setRoV i j r v).gdieOn = s.gdieOn ∧ (s.setRoV i j r v).timeRuns = s.timeRuns ∧ (s.setRoV i j r v).fnom = s.fnom ∧
    (s.setRoV i j r v).t96 = s.t96 ∧ (s.setRoV i j r v).gat = s.gat := by
  and_intros <;> intros <;> rfl

@[simp] theorem State.setLive_frame (s : State) (i j r : Nat) (v : Val) :
    (s.setLive i j r v).live = writeIn s.live i j r v ∧ (s.setLive i j r v).pending = s.pending ∧ (s.setLive i j r v).now = s.now ∧
    (s.setLive i j r v).draws = s.draws ∧ (s.setLive i j r v).outs = s.outs ∧ (s.setLive i j r v).active = s.active ∧
    (s.setLive i j r v).shadow = s.shadow ∧ (s.setLive i j r v).status = s.status ∧ (s.setLive i j r v).power = s.power ∧
    (s.setLive i j r v).time = s.time ∧ (s.setLive i j r v).port = s.port ∧ (s.setLive i j r v).ingest = s.ingest ∧
    (s.setLive i j r v).groups = s.groups ∧ (s.setLive i j r v).place = s.place ∧ (s.setLive i j r v).eddy = s.eddy ∧
    (s.setLive i j r v).oxbow = s.oxbow ∧ (s.setLive i j r v).alarm = s.alarm ∧ (s.setLive i j r v).pub = s.pub ∧ (s.setLive i j r v).head = s.head ∧
    (s.setLive i j r v).capture = s.capture ∧ (s.setLive i j r v).leash = s.leash ∧ (s.setLive i j r v).energy = s.energy ∧
    (s.setLive i j r v).jobs = s.jobs ∧ (s.setLive i j r v).imian = s.imian ∧ (s.setLive i j r v).sets = s.sets ∧ (s.setLive i j r v).host = s.host ∧
    (s.setLive i j r v).log = s.log ∧ (s.setLive i j r v).hk = s.hk ∧ (s.setLive i j r v).keys = s.keys ∧ (s.setLive i j r v).duplex = s.duplex ∧
    (s.setLive i j r v).testPort = s.testPort ∧ (∀ a b c, (s.setLive i j r v).cfg a b c = s.cfg a b c) ∧
    (∀ a b c, (s.setLive i j r v).cfgB a b c = s.cfgB a b c) ∧ (∀ a b c, (s.setLive i j r v).cfgInt a b c = s.cfgInt a b c) ∧
    (∀ a b c, (s.setLive i j r v).cfgBytes a b c = s.cfgBytes a b c) ∧ (∀ a b c, (s.setLive i j r v).cfgF a b c = s.cfgF a b c) ∧
    (∀ a b c, (s.setLive i j r v).ro a b c = s.ro a b c) ∧ (∀ a b c, (s.setLive i j r v).roBytes a b c = s.roBytes a b c) ∧
    (s.setLive i j r v).dev = s.dev ∧ (s.setLive i j r v).running = s.running ∧ (s.setLive i j r v).powered = s.powered ∧
    (s.setLive i j r v).gdieOn = s.gdieOn ∧ (s.setLive i j r v).timeRuns = s.timeRuns ∧ (s.setLive i j r v).fnom = s.fnom ∧
    (s.setLive i j r v).t96 = s.t96 ∧ (s.setLive i j r v).gat = s.gat := by
  and_intros <;> intros <;> rfl

@[simp] theorem State.setShadow_frame (s : State) (i j r : Nat) (v : Val) :
    (s.setShadow i j r v).shadow = writeIn s.shadow i j r v ∧ (s.setShadow i j r v).pending = s.pending ∧ (s.setShadow i j r v).now = s.now ∧
    (s.setShadow i j r v).draws = s.draws ∧ (s.setShadow i j r v).outs = s.outs ∧ (s.setShadow i j r v).active = s.active ∧
    (s.setShadow i j r v).live = s.live ∧ (s.setShadow i j r v).status = s.status ∧ (s.setShadow i j r v).power = s.power ∧
    (s.setShadow i j r v).time = s.time ∧ (s.setShadow i j r v).port = s.port ∧ (s.setShadow i j r v).ingest = s.ingest ∧
    (s.setShadow i j r v).groups = s.groups ∧ (s.setShadow i j r v).place = s.place ∧ (s.setShadow i j r v).eddy = s.eddy ∧
    (s.setShadow i j r v).oxbow = s.oxbow ∧ (s.setShadow i j r v).alarm = s.alarm ∧ (s.setShadow i j r v).pub = s.pub ∧
    (s.setShadow i j r v).head = s.head ∧ (s.setShadow i j r v).capture = s.capture ∧ (s.setShadow i j r v).leash = s.leash ∧
    (s.setShadow i j r v).energy = s.energy ∧ (s.setShadow i j r v).jobs = s.jobs ∧ (s.setShadow i j r v).imian = s.imian ∧
    (s.setShadow i j r v).sets = s.sets ∧ (s.setShadow i j r v).host = s.host ∧ (s.setShadow i j r v).log = s.log ∧ (s.setShadow i j r v).hk = s.hk ∧
    (s.setShadow i j r v).keys = s.keys ∧ (s.setShadow i j r v).duplex = s.duplex ∧ (s.setShadow i j r v).testPort = s.testPort ∧
    (∀ a b c, (s.setShadow i j r v).cfg a b c = s.cfg a b c) ∧ (∀ a b c, (s.setShadow i j r v).cfgB a b c = s.cfgB a b c) ∧
    (∀ a b c, (s.setShadow i j r v).cfgInt a b c = s.cfgInt a b c) ∧ (∀ a b c, (s.setShadow i j r v).cfgBytes a b c = s.cfgBytes a b c) ∧
    (∀ a b c, (s.setShadow i j r v).cfgF a b c = s.cfgF a b c) ∧ (∀ a b c, (s.setShadow i j r v).rw a b c = s.rw a b c) ∧
    (∀ a b c, (s.setShadow i j r v).rwBytes a b c = s.rwBytes a b c) ∧ (∀ a b c, (s.setShadow i j r v).ro a b c = s.ro a b c) ∧
    (∀ a b c, (s.setShadow i j r v).roBytes a b c = s.roBytes a b c) ∧ (s.setShadow i j r v).dev = s.dev ∧
    (s.setShadow i j r v).running = s.running ∧ (s.setShadow i j r v).powered = s.powered ∧ (s.setShadow i j r v).gdieOn = s.gdieOn ∧
    (s.setShadow i j r v).timeRuns = s.timeRuns ∧ (s.setShadow i j r v).fnom = s.fnom ∧ (s.setShadow i j r v).t96 = s.t96 ∧
    (s.setShadow i j r v).gat = s.gat := by
  and_intros <;> intros <;> rfl

@[simp] theorem State.setRow_frame (s : State) (i j r n : Nat) :
    (s.setRow i j r n).status = writeIn s.status i j r (.num n) ∧ (s.setRow i j r n).pending = s.pending ∧ (s.setRow i j r n).now = s.now ∧
    (s.setRow i j r n).draws = s.draws ∧ (s.setRow i j r n).outs = s.outs ∧ (s.setRow i j r n).active = s.active ∧
    (s.setRow i j r n).shadow = s.shadow ∧ (s.setRow i j r n).live = s.live ∧ (s.setRow i j r n).power = s.power ∧ (s.setRow i j r n).time = s.time ∧
    (s.setRow i j r n).port = s.port ∧ (s.setRow i j r n).ingest = s.ingest ∧ (s.setRow i j r n).groups = s.groups ∧
    (s.setRow i j r n).place = s.place ∧ (s.setRow i j r n).eddy = s.eddy ∧ (s.setRow i j r n).oxbow = s.oxbow ∧ (s.setRow i j r n).alarm = s.alarm ∧
    (s.setRow i j r n).pub = s.pub ∧ (s.setRow i j r n).head = s.head ∧ (s.setRow i j r n).capture = s.capture ∧ (s.setRow i j r n).leash = s.leash ∧
    (s.setRow i j r n).energy = s.energy ∧ (s.setRow i j r n).jobs = s.jobs ∧ (s.setRow i j r n).imian = s.imian ∧ (s.setRow i j r n).sets = s.sets ∧
    (s.setRow i j r n).host = s.host ∧ (s.setRow i j r n).log = s.log ∧ (s.setRow i j r n).hk = s.hk ∧ (s.setRow i j r n).keys = s.keys ∧
    (s.setRow i j r n).duplex = s.duplex ∧ (s.setRow i j r n).testPort = s.testPort ∧ (∀ a b c, (s.setRow i j r n).cfg a b c = s.cfg a b c) ∧
    (∀ a b c, (s.setRow i j r n).cfgB a b c = s.cfgB a b c) ∧ (∀ a b c, (s.setRow i j r n).cfgInt a b c = s.cfgInt a b c) ∧
    (∀ a b c, (s.setRow i j r n).cfgBytes a b c = s.cfgBytes a b c) ∧ (∀ a b c, (s.setRow i j r n).cfgF a b c = s.cfgF a b c) ∧
    (∀ a b c, (s.setRow i j r n).rw a b c = s.rw a b c) ∧ (∀ a b c, (s.setRow i j r n).rwBytes a b c = s.rwBytes a b c) ∧
    (s.setRow i j r n).dev = s.dev ∧ (s.setRow i j r n).running = s.running ∧ (s.setRow i j r n).powered = s.powered ∧
    (s.setRow i j r n).gdieOn = s.gdieOn ∧ (s.setRow i j r n).timeRuns = s.timeRuns ∧ (s.setRow i j r n).fnom = s.fnom ∧
    (s.setRow i j r n).t96 = s.t96 ∧ (s.setRow i j r n).gat = s.gat := by
  and_intros <;> intros <;> rfl

@[simp] theorem State.setRo_frame (s : State) (i j n : Nat) :
    (s.setRo i j n).status = writeIn s.status i j noRow (.num n) ∧ (s.setRo i j n).pending = s.pending ∧ (s.setRo i j n).now = s.now ∧
    (s.setRo i j n).draws = s.draws ∧ (s.setRo i j n).outs = s.outs ∧ (s.setRo i j n).active = s.active ∧ (s.setRo i j n).shadow = s.shadow ∧
    (s.setRo i j n).live = s.live ∧ (s.setRo i j n).power = s.power ∧ (s.setRo i j n).time = s.time ∧ (s.setRo i j n).port = s.port ∧
    (s.setRo i j n).ingest = s.ingest ∧ (s.setRo i j n).groups = s.groups ∧ (s.setRo i j n).place = s.place ∧ (s.setRo i j n).eddy = s.eddy ∧
    (s.setRo i j n).oxbow = s.oxbow ∧ (s.setRo i j n).alarm = s.alarm ∧ (s.setRo i j n).pub = s.pub ∧ (s.setRo i j n).head = s.head ∧
    (s.setRo i j n).capture = s.capture ∧ (s.setRo i j n).leash = s.leash ∧ (s.setRo i j n).energy = s.energy ∧ (s.setRo i j n).jobs = s.jobs ∧
    (s.setRo i j n).imian = s.imian ∧ (s.setRo i j n).sets = s.sets ∧ (s.setRo i j n).host = s.host ∧ (s.setRo i j n).log = s.log ∧
    (s.setRo i j n).hk = s.hk ∧ (s.setRo i j n).keys = s.keys ∧ (s.setRo i j n).duplex = s.duplex ∧ (s.setRo i j n).testPort = s.testPort ∧
    (∀ a b c, (s.setRo i j n).cfg a b c = s.cfg a b c) ∧ (∀ a b c, (s.setRo i j n).cfgB a b c = s.cfgB a b c) ∧
    (∀ a b c, (s.setRo i j n).cfgInt a b c = s.cfgInt a b c) ∧ (∀ a b c, (s.setRo i j n).cfgBytes a b c = s.cfgBytes a b c) ∧
    (∀ a b c, (s.setRo i j n).cfgF a b c = s.cfgF a b c) ∧ (∀ a b c, (s.setRo i j n).rw a b c = s.rw a b c) ∧
    (∀ a b c, (s.setRo i j n).rwBytes a b c = s.rwBytes a b c) ∧ (s.setRo i j n).dev = s.dev ∧ (s.setRo i j n).running = s.running ∧
    (s.setRo i j n).powered = s.powered ∧ (s.setRo i j n).gdieOn = s.gdieOn ∧ (s.setRo i j n).timeRuns = s.timeRuns ∧ (s.setRo i j n).fnom = s.fnom ∧
    (s.setRo i j n).t96 = s.t96 ∧ (s.setRo i j n).gat = s.gat := by
  and_intros <;> intros <;> rfl

@[simp] theorem State.setRoBytes_frame (s : State) (i j : Nat) (l : List Byte) (r : Nat) :
    (s.setRoBytes i j l r).status = writeIn s.status i j r (.oct l) ∧ (s.setRoBytes i j l r).pending = s.pending ∧
    (s.setRoBytes i j l r).now = s.now ∧ (s.setRoBytes i j l r).draws = s.draws ∧ (s.setRoBytes i j l r).outs = s.outs ∧
    (s.setRoBytes i j l r).active = s.active ∧ (s.setRoBytes i j l r).shadow = s.shadow ∧ (s.setRoBytes i j l r).live = s.live ∧
    (s.setRoBytes i j l r).power = s.power ∧ (s.setRoBytes i j l r).time = s.time ∧ (s.setRoBytes i j l r).port = s.port ∧
    (s.setRoBytes i j l r).ingest = s.ingest ∧ (s.setRoBytes i j l r).groups = s.groups ∧ (s.setRoBytes i j l r).place = s.place ∧
    (s.setRoBytes i j l r).eddy = s.eddy ∧ (s.setRoBytes i j l r).oxbow = s.oxbow ∧ (s.setRoBytes i j l r).alarm = s.alarm ∧
    (s.setRoBytes i j l r).pub = s.pub ∧ (s.setRoBytes i j l r).head = s.head ∧ (s.setRoBytes i j l r).capture = s.capture ∧
    (s.setRoBytes i j l r).leash = s.leash ∧ (s.setRoBytes i j l r).energy = s.energy ∧ (s.setRoBytes i j l r).jobs = s.jobs ∧
    (s.setRoBytes i j l r).imian = s.imian ∧ (s.setRoBytes i j l r).sets = s.sets ∧ (s.setRoBytes i j l r).host = s.host ∧
    (s.setRoBytes i j l r).log = s.log ∧ (s.setRoBytes i j l r).hk = s.hk ∧ (s.setRoBytes i j l r).keys = s.keys ∧
    (s.setRoBytes i j l r).duplex = s.duplex ∧ (s.setRoBytes i j l r).testPort = s.testPort ∧
    (∀ a b c, (s.setRoBytes i j l r).cfg a b c = s.cfg a b c) ∧ (∀ a b c, (s.setRoBytes i j l r).cfgB a b c = s.cfgB a b c) ∧
    (∀ a b c, (s.setRoBytes i j l r).cfgInt a b c = s.cfgInt a b c) ∧ (∀ a b c, (s.setRoBytes i j l r).cfgBytes a b c = s.cfgBytes a b c) ∧
    (∀ a b c, (s.setRoBytes i j l r).cfgF a b c = s.cfgF a b c) ∧ (∀ a b c, (s.setRoBytes i j l r).rw a b c = s.rw a b c) ∧
    (∀ a b c, (s.setRoBytes i j l r).rwBytes a b c = s.rwBytes a b c) ∧ (s.setRoBytes i j l r).dev = s.dev ∧
    (s.setRoBytes i j l r).running = s.running ∧ (s.setRoBytes i j l r).powered = s.powered ∧ (s.setRoBytes i j l r).gdieOn = s.gdieOn ∧
    (s.setRoBytes i j l r).timeRuns = s.timeRuns ∧ (s.setRoBytes i j l r).fnom = s.fnom ∧ (s.setRoBytes i j l r).t96 = s.t96 ∧
    (s.setRoBytes i j l r).gat = s.gat := by
  and_intros <;> intros <;> rfl

@[simp] theorem State.addTo_frame (s : State) (i j n r : Nat) :
    (s.addTo i j n r).pending = s.pending ∧ (s.addTo i j n r).now = s.now ∧ (s.addTo i j n r).draws = s.draws ∧ (s.addTo i j n r).outs = s.outs ∧
    (s.addTo i j n r).active = s.active ∧ (s.addTo i j n r).shadow = s.shadow ∧ (s.addTo i j n r).live = s.live ∧ (s.addTo i j n r).power = s.power ∧
    (s.addTo i j n r).time = s.time ∧ (s.addTo i j n r).port = s.port ∧ (s.addTo i j n r).ingest = s.ingest ∧ (s.addTo i j n r).groups = s.groups ∧
    (s.addTo i j n r).place = s.place ∧ (s.addTo i j n r).eddy = s.eddy ∧ (s.addTo i j n r).oxbow = s.oxbow ∧ (s.addTo i j n r).alarm = s.alarm ∧
    (s.addTo i j n r).pub = s.pub ∧ (s.addTo i j n r).head = s.head ∧ (s.addTo i j n r).capture = s.capture ∧ (s.addTo i j n r).leash = s.leash ∧
    (s.addTo i j n r).energy = s.energy ∧ (s.addTo i j n r).jobs = s.jobs ∧ (s.addTo i j n r).imian = s.imian ∧ (s.addTo i j n r).sets = s.sets ∧
    (s.addTo i j n r).host = s.host ∧ (s.addTo i j n r).log = s.log ∧ (s.addTo i j n r).hk = s.hk ∧ (s.addTo i j n r).keys = s.keys ∧
    (s.addTo i j n r).duplex = s.duplex ∧ (s.addTo i j n r).testPort = s.testPort ∧ (∀ a b c, (s.addTo i j n r).cfg a b c = s.cfg a b c) ∧
    (∀ a b c, (s.addTo i j n r).cfgB a b c = s.cfgB a b c) ∧ (∀ a b c, (s.addTo i j n r).cfgInt a b c = s.cfgInt a b c) ∧
    (∀ a b c, (s.addTo i j n r).cfgBytes a b c = s.cfgBytes a b c) ∧ (∀ a b c, (s.addTo i j n r).cfgF a b c = s.cfgF a b c) ∧
    (∀ a b c, (s.addTo i j n r).rw a b c = s.rw a b c) ∧ (∀ a b c, (s.addTo i j n r).rwBytes a b c = s.rwBytes a b c) ∧
    (s.addTo i j n r).dev = s.dev ∧ (s.addTo i j n r).running = s.running ∧ (s.addTo i j n r).powered = s.powered ∧
    (s.addTo i j n r).gdieOn = s.gdieOn ∧ (s.addTo i j n r).timeRuns = s.timeRuns ∧ (s.addTo i j n r).fnom = s.fnom ∧ (s.addTo i j n r).t96 = s.t96 ∧
    (s.addTo i j n r).gat = s.gat := by
  and_intros <;> intros <;> rfl

@[simp] theorem State.bump_frame (s : State) (i j r : Nat) :
    (s.bump i j r).pending = s.pending ∧ (s.bump i j r).now = s.now ∧ (s.bump i j r).draws = s.draws ∧ (s.bump i j r).outs = s.outs ∧
    (s.bump i j r).active = s.active ∧ (s.bump i j r).shadow = s.shadow ∧ (s.bump i j r).live = s.live ∧ (s.bump i j r).power = s.power ∧
    (s.bump i j r).time = s.time ∧ (s.bump i j r).port = s.port ∧ (s.bump i j r).ingest = s.ingest ∧ (s.bump i j r).groups = s.groups ∧
    (s.bump i j r).place = s.place ∧ (s.bump i j r).eddy = s.eddy ∧ (s.bump i j r).oxbow = s.oxbow ∧ (s.bump i j r).alarm = s.alarm ∧
    (s.bump i j r).pub = s.pub ∧ (s.bump i j r).head = s.head ∧ (s.bump i j r).capture = s.capture ∧ (s.bump i j r).leash = s.leash ∧
    (s.bump i j r).energy = s.energy ∧ (s.bump i j r).jobs = s.jobs ∧ (s.bump i j r).imian = s.imian ∧ (s.bump i j r).sets = s.sets ∧
    (s.bump i j r).host = s.host ∧ (s.bump i j r).log = s.log ∧ (s.bump i j r).hk = s.hk ∧ (s.bump i j r).keys = s.keys ∧
    (s.bump i j r).duplex = s.duplex ∧ (s.bump i j r).testPort = s.testPort ∧ (∀ a b c, (s.bump i j r).cfg a b c = s.cfg a b c) ∧
    (∀ a b c, (s.bump i j r).cfgB a b c = s.cfgB a b c) ∧ (∀ a b c, (s.bump i j r).cfgInt a b c = s.cfgInt a b c) ∧
    (∀ a b c, (s.bump i j r).cfgBytes a b c = s.cfgBytes a b c) ∧ (∀ a b c, (s.bump i j r).cfgF a b c = s.cfgF a b c) ∧
    (∀ a b c, (s.bump i j r).rw a b c = s.rw a b c) ∧ (∀ a b c, (s.bump i j r).rwBytes a b c = s.rwBytes a b c) ∧ (s.bump i j r).dev = s.dev ∧
    (s.bump i j r).running = s.running ∧ (s.bump i j r).powered = s.powered ∧ (s.bump i j r).gdieOn = s.gdieOn ∧
    (s.bump i j r).timeRuns = s.timeRuns ∧ (s.bump i j r).fnom = s.fnom ∧ (s.bump i j r).t96 = s.t96 ∧ (s.bump i j r).gat = s.gat := by
  and_intros <;> intros <;> rfl

@[simp] theorem State.clearObjects_frame (s : State) (l : List (Nat × Nat)) :
    (s.clearObjects l).pending = s.pending ∧ (s.clearObjects l).now = s.now ∧ (s.clearObjects l).draws = s.draws ∧ (s.clearObjects l).outs = s.outs ∧
    (s.clearObjects l).active = s.active ∧ (s.clearObjects l).shadow = s.shadow ∧ (s.clearObjects l).live = s.live ∧
    (s.clearObjects l).power = s.power ∧ (s.clearObjects l).time = s.time ∧ (s.clearObjects l).port = s.port ∧ (s.clearObjects l).ingest = s.ingest ∧
    (s.clearObjects l).groups = s.groups ∧ (s.clearObjects l).place = s.place ∧ (s.clearObjects l).eddy = s.eddy ∧
    (s.clearObjects l).oxbow = s.oxbow ∧ (s.clearObjects l).alarm = s.alarm ∧ (s.clearObjects l).pub = s.pub ∧ (s.clearObjects l).head = s.head ∧
    (s.clearObjects l).capture = s.capture ∧ (s.clearObjects l).leash = s.leash ∧ (s.clearObjects l).energy = s.energy ∧
    (s.clearObjects l).jobs = s.jobs ∧ (s.clearObjects l).imian = s.imian ∧ (s.clearObjects l).sets = s.sets ∧ (s.clearObjects l).host = s.host ∧
    (s.clearObjects l).log = s.log ∧ (s.clearObjects l).hk = s.hk ∧ (s.clearObjects l).keys = s.keys ∧ (s.clearObjects l).duplex = s.duplex ∧
    (s.clearObjects l).testPort = s.testPort ∧ (∀ a b c, (s.clearObjects l).cfg a b c = s.cfg a b c) ∧
    (∀ a b c, (s.clearObjects l).cfgB a b c = s.cfgB a b c) ∧ (∀ a b c, (s.clearObjects l).cfgInt a b c = s.cfgInt a b c) ∧
    (∀ a b c, (s.clearObjects l).cfgBytes a b c = s.cfgBytes a b c) ∧ (∀ a b c, (s.clearObjects l).cfgF a b c = s.cfgF a b c) ∧
    (∀ a b c, (s.clearObjects l).rw a b c = s.rw a b c) ∧ (∀ a b c, (s.clearObjects l).rwBytes a b c = s.rwBytes a b c) ∧
    (s.clearObjects l).dev = s.dev ∧ (s.clearObjects l).running = s.running ∧ (s.clearObjects l).powered = s.powered ∧
    (s.clearObjects l).gdieOn = s.gdieOn ∧ (s.clearObjects l).timeRuns = s.timeRuns ∧ (s.clearObjects l).fnom = s.fnom ∧
    (s.clearObjects l).t96 = s.t96 ∧ (s.clearObjects l).gat = s.gat := by
  and_intros <;> intros <;> rfl

@[simp] theorem State.clearRow_frame (s : State) (i j r : Nat) :
    (s.clearRow i j r).pending = s.pending ∧ (s.clearRow i j r).now = s.now ∧ (s.clearRow i j r).draws = s.draws ∧ (s.clearRow i j r).outs = s.outs ∧
    (s.clearRow i j r).active = s.active ∧ (s.clearRow i j r).shadow = s.shadow ∧ (s.clearRow i j r).live = s.live ∧
    (s.clearRow i j r).power = s.power ∧ (s.clearRow i j r).time = s.time ∧ (s.clearRow i j r).port = s.port ∧ (s.clearRow i j r).ingest = s.ingest ∧
    (s.clearRow i j r).groups = s.groups ∧ (s.clearRow i j r).place = s.place ∧ (s.clearRow i j r).eddy = s.eddy ∧
    (s.clearRow i j r).oxbow = s.oxbow ∧ (s.clearRow i j r).alarm = s.alarm ∧ (s.clearRow i j r).pub = s.pub ∧ (s.clearRow i j r).head = s.head ∧
    (s.clearRow i j r).capture = s.capture ∧ (s.clearRow i j r).leash = s.leash ∧ (s.clearRow i j r).energy = s.energy ∧
    (s.clearRow i j r).jobs = s.jobs ∧ (s.clearRow i j r).imian = s.imian ∧ (s.clearRow i j r).sets = s.sets ∧ (s.clearRow i j r).host = s.host ∧
    (s.clearRow i j r).log = s.log ∧ (s.clearRow i j r).hk = s.hk ∧ (s.clearRow i j r).keys = s.keys ∧ (s.clearRow i j r).duplex = s.duplex ∧
    (s.clearRow i j r).testPort = s.testPort ∧ (∀ a b c, (s.clearRow i j r).cfg a b c = s.cfg a b c) ∧
    (∀ a b c, (s.clearRow i j r).cfgB a b c = s.cfgB a b c) ∧ (∀ a b c, (s.clearRow i j r).cfgInt a b c = s.cfgInt a b c) ∧
    (∀ a b c, (s.clearRow i j r).cfgBytes a b c = s.cfgBytes a b c) ∧ (∀ a b c, (s.clearRow i j r).cfgF a b c = s.cfgF a b c) ∧
    (∀ a b c, (s.clearRow i j r).rw a b c = s.rw a b c) ∧ (∀ a b c, (s.clearRow i j r).rwBytes a b c = s.rwBytes a b c) ∧
    (s.clearRow i j r).dev = s.dev ∧ (s.clearRow i j r).running = s.running ∧ (s.clearRow i j r).powered = s.powered ∧
    (s.clearRow i j r).gdieOn = s.gdieOn ∧ (s.clearRow i j r).timeRuns = s.timeRuns ∧ (s.clearRow i j r).fnom = s.fnom ∧
    (s.clearRow i j r).t96 = s.t96 ∧ (s.clearRow i j r).gat = s.gat := by
  and_intros <;> intros <;> rfl

@[simp] theorem State.clearRange_frame (s : State) (lo hi : Nat) :
    (s.clearRange lo hi).pending = s.pending ∧ (s.clearRange lo hi).now = s.now ∧ (s.clearRange lo hi).draws = s.draws ∧
    (s.clearRange lo hi).outs = s.outs ∧ (s.clearRange lo hi).active = s.active ∧ (s.clearRange lo hi).shadow = s.shadow ∧
    (s.clearRange lo hi).live = s.live ∧ (s.clearRange lo hi).power = s.power ∧ (s.clearRange lo hi).time = s.time ∧
    (s.clearRange lo hi).port = s.port ∧ (s.clearRange lo hi).ingest = s.ingest ∧ (s.clearRange lo hi).groups = s.groups ∧
    (s.clearRange lo hi).place = s.place ∧ (s.clearRange lo hi).eddy = s.eddy ∧ (s.clearRange lo hi).oxbow = s.oxbow ∧
    (s.clearRange lo hi).alarm = s.alarm ∧ (s.clearRange lo hi).pub = s.pub ∧ (s.clearRange lo hi).head = s.head ∧
    (s.clearRange lo hi).capture = s.capture ∧ (s.clearRange lo hi).leash = s.leash ∧ (s.clearRange lo hi).energy = s.energy ∧
    (s.clearRange lo hi).jobs = s.jobs ∧ (s.clearRange lo hi).imian = s.imian ∧ (s.clearRange lo hi).sets = s.sets ∧
    (s.clearRange lo hi).host = s.host ∧ (s.clearRange lo hi).log = s.log ∧ (s.clearRange lo hi).hk = s.hk ∧ (s.clearRange lo hi).keys = s.keys ∧
    (s.clearRange lo hi).duplex = s.duplex ∧ (s.clearRange lo hi).testPort = s.testPort ∧ (∀ a b c, (s.clearRange lo hi).cfg a b c = s.cfg a b c) ∧
    (∀ a b c, (s.clearRange lo hi).cfgB a b c = s.cfgB a b c) ∧ (∀ a b c, (s.clearRange lo hi).cfgInt a b c = s.cfgInt a b c) ∧
    (∀ a b c, (s.clearRange lo hi).cfgBytes a b c = s.cfgBytes a b c) ∧ (∀ a b c, (s.clearRange lo hi).cfgF a b c = s.cfgF a b c) ∧
    (∀ a b c, (s.clearRange lo hi).rw a b c = s.rw a b c) ∧ (∀ a b c, (s.clearRange lo hi).rwBytes a b c = s.rwBytes a b c) ∧
    (s.clearRange lo hi).dev = s.dev ∧ (s.clearRange lo hi).running = s.running ∧ (s.clearRange lo hi).powered = s.powered ∧
    (s.clearRange lo hi).gdieOn = s.gdieOn ∧ (s.clearRange lo hi).timeRuns = s.timeRuns ∧ (s.clearRange lo hi).fnom = s.fnom ∧
    (s.clearRange lo hi).t96 = s.t96 ∧ (s.clearRange lo hi).gat = s.gat := by
  and_intros <;> intros <;> rfl

end Sys2Proof.Machine
end

