-- ==== Sys2Proof/Laws/Frames.lean ====
section
/-! SUPPORT. What the shared operations (events, interrupts, Sluices, the begin and the end of a command) leave as it was. -/

namespace Sys2Proof.Machine
open Sys2Proof

@[simp] theorem raiseFrom_frame (src code : Nat) (ps : List Byte) (s : State) :
    (raiseFrom src code ps s).pending = s.pending ∧ (raiseFrom src code ps s).now = s.now ∧ (raiseFrom src code ps s).draws = s.draws ∧
    (raiseFrom src code ps s).outs = s.outs ∧ (raiseFrom src code ps s).active = s.active ∧ (raiseFrom src code ps s).shadow = s.shadow ∧
    (raiseFrom src code ps s).live = s.live ∧ (raiseFrom src code ps s).power = s.power ∧ (raiseFrom src code ps s).time = s.time ∧
    (raiseFrom src code ps s).port = s.port ∧ (raiseFrom src code ps s).ingest = s.ingest ∧ (raiseFrom src code ps s).groups = s.groups ∧
    (raiseFrom src code ps s).place = s.place ∧ (raiseFrom src code ps s).eddy = s.eddy ∧ (raiseFrom src code ps s).oxbow = s.oxbow ∧
    (raiseFrom src code ps s).alarm = s.alarm ∧ (raiseFrom src code ps s).pub = s.pub ∧ (raiseFrom src code ps s).head = s.head ∧
    (raiseFrom src code ps s).capture = s.capture ∧ (raiseFrom src code ps s).leash = s.leash ∧ (raiseFrom src code ps s).energy = s.energy ∧
    (raiseFrom src code ps s).jobs = s.jobs ∧ (raiseFrom src code ps s).imian = s.imian ∧ (raiseFrom src code ps s).sets = s.sets ∧
    (raiseFrom src code ps s).host = s.host ∧ (raiseFrom src code ps s).hk = s.hk ∧ (raiseFrom src code ps s).keys = s.keys ∧
    (raiseFrom src code ps s).duplex = s.duplex ∧ (raiseFrom src code ps s).testPort = s.testPort ∧
    (∀ a b c, (raiseFrom src code ps s).cfg a b c = s.cfg a b c) ∧ (∀ a b c, (raiseFrom src code ps s).cfgB a b c = s.cfgB a b c) ∧
    (∀ a b c, (raiseFrom src code ps s).cfgInt a b c = s.cfgInt a b c) ∧ (∀ a b c, (raiseFrom src code ps s).cfgBytes a b c = s.cfgBytes a b c) ∧
    (∀ a b c, (raiseFrom src code ps s).cfgF a b c = s.cfgF a b c) ∧ (∀ a b c, (raiseFrom src code ps s).rw a b c = s.rw a b c) ∧
    (∀ a b c, (raiseFrom src code ps s).rwBytes a b c = s.rwBytes a b c) ∧ (raiseFrom src code ps s).dev = s.dev ∧
    (raiseFrom src code ps s).running = s.running ∧ (raiseFrom src code ps s).powered = s.powered ∧ (raiseFrom src code ps s).gdieOn = s.gdieOn ∧
    (raiseFrom src code ps s).timeRuns = s.timeRuns ∧ (raiseFrom src code ps s).fnom = s.fnom ∧ (raiseFrom src code ps s).t96 = s.t96 ∧
    (raiseFrom src code ps s).gat = s.gat := by
  unfold raiseFrom; split
  · simp
  · split <;> simp

@[simp] theorem raise_frame (code : Nat) (ps : List Byte) (s : State) :
    (raise code ps s).pending = s.pending ∧ (raise code ps s).now = s.now ∧ (raise code ps s).draws = s.draws ∧ (raise code ps s).outs = s.outs ∧
    (raise code ps s).active = s.active ∧ (raise code ps s).shadow = s.shadow ∧ (raise code ps s).live = s.live ∧ (raise code ps s).power = s.power ∧
    (raise code ps s).time = s.time ∧ (raise code ps s).port = s.port ∧ (raise code ps s).ingest = s.ingest ∧ (raise code ps s).groups = s.groups ∧
    (raise code ps s).place = s.place ∧ (raise code ps s).eddy = s.eddy ∧ (raise code ps s).oxbow = s.oxbow ∧ (raise code ps s).alarm = s.alarm ∧
    (raise code ps s).pub = s.pub ∧ (raise code ps s).head = s.head ∧ (raise code ps s).capture = s.capture ∧ (raise code ps s).leash = s.leash ∧
    (raise code ps s).energy = s.energy ∧ (raise code ps s).jobs = s.jobs ∧ (raise code ps s).imian = s.imian ∧ (raise code ps s).sets = s.sets ∧
    (raise code ps s).host = s.host ∧ (raise code ps s).hk = s.hk ∧ (raise code ps s).keys = s.keys ∧ (raise code ps s).duplex = s.duplex ∧
    (raise code ps s).testPort = s.testPort ∧ (∀ a b c, (raise code ps s).cfg a b c = s.cfg a b c) ∧
    (∀ a b c, (raise code ps s).cfgB a b c = s.cfgB a b c) ∧ (∀ a b c, (raise code ps s).cfgInt a b c = s.cfgInt a b c) ∧
    (∀ a b c, (raise code ps s).cfgBytes a b c = s.cfgBytes a b c) ∧ (∀ a b c, (raise code ps s).cfgF a b c = s.cfgF a b c) ∧
    (∀ a b c, (raise code ps s).rw a b c = s.rw a b c) ∧ (∀ a b c, (raise code ps s).rwBytes a b c = s.rwBytes a b c) ∧
    (raise code ps s).dev = s.dev ∧ (raise code ps s).running = s.running ∧ (raise code ps s).powered = s.powered ∧
    (raise code ps s).gdieOn = s.gdieOn ∧ (raise code ps s).timeRuns = s.timeRuns ∧ (raise code ps s).fnom = s.fnom ∧ (raise code ps s).t96 = s.t96 ∧
    (raise code ps s).gat = s.gat := by
  simp [raise]

@[simp] theorem raiseUpTo_frame (n code key : Nat) (ps : List Byte) (s : State) :
    (raiseUpTo n code key ps s).pending = s.pending ∧ (raiseUpTo n code key ps s).now = s.now ∧ (raiseUpTo n code key ps s).draws = s.draws ∧
    (raiseUpTo n code key ps s).outs = s.outs ∧ (raiseUpTo n code key ps s).active = s.active ∧ (raiseUpTo n code key ps s).shadow = s.shadow ∧
    (raiseUpTo n code key ps s).live = s.live ∧ (raiseUpTo n code key ps s).power = s.power ∧ (raiseUpTo n code key ps s).time = s.time ∧
    (raiseUpTo n code key ps s).port = s.port ∧ (raiseUpTo n code key ps s).ingest = s.ingest ∧ (raiseUpTo n code key ps s).groups = s.groups ∧
    (raiseUpTo n code key ps s).place = s.place ∧ (raiseUpTo n code key ps s).eddy = s.eddy ∧ (raiseUpTo n code key ps s).oxbow = s.oxbow ∧
    (raiseUpTo n code key ps s).alarm = s.alarm ∧ (raiseUpTo n code key ps s).pub = s.pub ∧ (raiseUpTo n code key ps s).head = s.head ∧
    (raiseUpTo n code key ps s).capture = s.capture ∧ (raiseUpTo n code key ps s).leash = s.leash ∧ (raiseUpTo n code key ps s).energy = s.energy ∧
    (raiseUpTo n code key ps s).jobs = s.jobs ∧ (raiseUpTo n code key ps s).imian = s.imian ∧ (raiseUpTo n code key ps s).sets = s.sets ∧
    (raiseUpTo n code key ps s).host = s.host ∧ (raiseUpTo n code key ps s).hk = s.hk ∧ (raiseUpTo n code key ps s).keys = s.keys ∧
    (raiseUpTo n code key ps s).duplex = s.duplex ∧ (raiseUpTo n code key ps s).testPort = s.testPort ∧
    (∀ a b c, (raiseUpTo n code key ps s).cfg a b c = s.cfg a b c) ∧ (∀ a b c, (raiseUpTo n code key ps s).cfgB a b c = s.cfgB a b c) ∧
    (∀ a b c, (raiseUpTo n code key ps s).cfgInt a b c = s.cfgInt a b c) ∧ (∀ a b c, (raiseUpTo n code key ps s).cfgBytes a b c = s.cfgBytes a b c) ∧
    (∀ a b c, (raiseUpTo n code key ps s).cfgF a b c = s.cfgF a b c) ∧ (∀ a b c, (raiseUpTo n code key ps s).rw a b c = s.rw a b c) ∧
    (∀ a b c, (raiseUpTo n code key ps s).rwBytes a b c = s.rwBytes a b c) ∧ (raiseUpTo n code key ps s).dev = s.dev ∧
    (raiseUpTo n code key ps s).running = s.running ∧ (raiseUpTo n code key ps s).powered = s.powered ∧
    (raiseUpTo n code key ps s).gdieOn = s.gdieOn ∧ (raiseUpTo n code key ps s).timeRuns = s.timeRuns ∧ (raiseUpTo n code key ps s).fnom = s.fnom ∧
    (raiseUpTo n code key ps s).t96 = s.t96 ∧ (raiseUpTo n code key ps s).gat = s.gat := by
  unfold raiseUpTo; split <;> simp

@[simp] theorem raiseOnce_frame (code key : Nat) (ps : List Byte) (s : State) :
    (raiseOnce code key ps s).pending = s.pending ∧ (raiseOnce code key ps s).now = s.now ∧ (raiseOnce code key ps s).draws = s.draws ∧
    (raiseOnce code key ps s).outs = s.outs ∧ (raiseOnce code key ps s).active = s.active ∧ (raiseOnce code key ps s).shadow = s.shadow ∧
    (raiseOnce code key ps s).live = s.live ∧ (raiseOnce code key ps s).power = s.power ∧ (raiseOnce code key ps s).time = s.time ∧
    (raiseOnce code key ps s).port = s.port ∧ (raiseOnce code key ps s).ingest = s.ingest ∧ (raiseOnce code key ps s).groups = s.groups ∧
    (raiseOnce code key ps s).place = s.place ∧ (raiseOnce code key ps s).eddy = s.eddy ∧ (raiseOnce code key ps s).oxbow = s.oxbow ∧
    (raiseOnce code key ps s).alarm = s.alarm ∧ (raiseOnce code key ps s).pub = s.pub ∧ (raiseOnce code key ps s).head = s.head ∧
    (raiseOnce code key ps s).capture = s.capture ∧ (raiseOnce code key ps s).leash = s.leash ∧ (raiseOnce code key ps s).energy = s.energy ∧
    (raiseOnce code key ps s).jobs = s.jobs ∧ (raiseOnce code key ps s).imian = s.imian ∧ (raiseOnce code key ps s).sets = s.sets ∧
    (raiseOnce code key ps s).host = s.host ∧ (raiseOnce code key ps s).hk = s.hk ∧ (raiseOnce code key ps s).keys = s.keys ∧
    (raiseOnce code key ps s).duplex = s.duplex ∧ (raiseOnce code key ps s).testPort = s.testPort ∧
    (∀ a b c, (raiseOnce code key ps s).cfg a b c = s.cfg a b c) ∧ (∀ a b c, (raiseOnce code key ps s).cfgB a b c = s.cfgB a b c) ∧
    (∀ a b c, (raiseOnce code key ps s).cfgInt a b c = s.cfgInt a b c) ∧ (∀ a b c, (raiseOnce code key ps s).cfgBytes a b c = s.cfgBytes a b c) ∧
    (∀ a b c, (raiseOnce code key ps s).cfgF a b c = s.cfgF a b c) ∧ (∀ a b c, (raiseOnce code key ps s).rw a b c = s.rw a b c) ∧
    (∀ a b c, (raiseOnce code key ps s).rwBytes a b c = s.rwBytes a b c) ∧ (raiseOnce code key ps s).dev = s.dev ∧
    (raiseOnce code key ps s).running = s.running ∧ (raiseOnce code key ps s).powered = s.powered ∧ (raiseOnce code key ps s).gdieOn = s.gdieOn ∧
    (raiseOnce code key ps s).timeRuns = s.timeRuns ∧ (raiseOnce code key ps s).fnom = s.fnom ∧ (raiseOnce code key ps s).t96 = s.t96 ∧
    (raiseOnce code key ps s).gat = s.gat := by
  simp [raiseOnce]

@[simp] theorem countWindow_frame (code key x y : Nat) (s : State) :
    (countWindow code key x y s).pending = s.pending ∧ (countWindow code key x y s).now = s.now ∧ (countWindow code key x y s).draws = s.draws ∧
    (countWindow code key x y s).outs = s.outs ∧ (countWindow code key x y s).active = s.active ∧ (countWindow code key x y s).shadow = s.shadow ∧
    (countWindow code key x y s).live = s.live ∧ (countWindow code key x y s).status = s.status ∧ (countWindow code key x y s).power = s.power ∧
    (countWindow code key x y s).time = s.time ∧ (countWindow code key x y s).port = s.port ∧ (countWindow code key x y s).ingest = s.ingest ∧
    (countWindow code key x y s).groups = s.groups ∧ (countWindow code key x y s).place = s.place ∧ (countWindow code key x y s).eddy = s.eddy ∧
    (countWindow code key x y s).oxbow = s.oxbow ∧ (countWindow code key x y s).alarm = s.alarm ∧ (countWindow code key x y s).pub = s.pub ∧
    (countWindow code key x y s).head = s.head ∧ (countWindow code key x y s).capture = s.capture ∧ (countWindow code key x y s).leash = s.leash ∧
    (countWindow code key x y s).energy = s.energy ∧ (countWindow code key x y s).jobs = s.jobs ∧ (countWindow code key x y s).imian = s.imian ∧
    (countWindow code key x y s).sets = s.sets ∧ (countWindow code key x y s).host = s.host ∧ (countWindow code key x y s).hk = s.hk ∧
    (countWindow code key x y s).keys = s.keys ∧ (countWindow code key x y s).duplex = s.duplex ∧
    (countWindow code key x y s).testPort = s.testPort ∧ (∀ a b c, (countWindow code key x y s).cfg a b c = s.cfg a b c) ∧
    (∀ a b c, (countWindow code key x y s).cfgB a b c = s.cfgB a b c) ∧ (∀ a b c, (countWindow code key x y s).cfgInt a b c = s.cfgInt a b c) ∧
    (∀ a b c, (countWindow code key x y s).cfgBytes a b c = s.cfgBytes a b c) ∧ (∀ a b c, (countWindow code key x y s).cfgF a b c = s.cfgF a b c) ∧
    (∀ a b c, (countWindow code key x y s).rw a b c = s.rw a b c) ∧ (∀ a b c, (countWindow code key x y s).rwBytes a b c = s.rwBytes a b c) ∧
    (∀ a b c, (countWindow code key x y s).ro a b c = s.ro a b c) ∧ (∀ a b c, (countWindow code key x y s).roBytes a b c = s.roBytes a b c) ∧
    (countWindow code key x y s).dev = s.dev ∧ (countWindow code key x y s).running = s.running ∧ (countWindow code key x y s).powered = s.powered ∧
    (countWindow code key x y s).gdieOn = s.gdieOn ∧ (countWindow code key x y s).timeRuns = s.timeRuns ∧
    (countWindow code key x y s).fnom = s.fnom ∧ (countWindow code key x y s).t96 = s.t96 ∧ (countWindow code key x y s).gat = s.gat := by
  unfold countWindow; split <;> simp

@[simp] theorem State.signal_frame (n : Nat) (s : State) :
    (s.signal n).pending = s.pending ∧ (s.signal n).now = s.now ∧ (s.signal n).draws = s.draws ∧ (s.signal n).active = s.active ∧
    (s.signal n).shadow = s.shadow ∧ (s.signal n).live = s.live ∧ (s.signal n).status = s.status ∧ (s.signal n).power = s.power ∧
    (s.signal n).time = s.time ∧ (s.signal n).port = s.port ∧ (s.signal n).ingest = s.ingest ∧ (s.signal n).groups = s.groups ∧
    (s.signal n).place = s.place ∧ (s.signal n).eddy = s.eddy ∧ (s.signal n).oxbow = s.oxbow ∧ (s.signal n).alarm = s.alarm ∧
    (s.signal n).pub = s.pub ∧ (s.signal n).head = s.head ∧ (s.signal n).capture = s.capture ∧ (s.signal n).leash = s.leash ∧
    (s.signal n).energy = s.energy ∧ (s.signal n).jobs = s.jobs ∧ (s.signal n).imian = s.imian ∧ (s.signal n).sets = s.sets ∧
    (s.signal n).log = s.log ∧ (s.signal n).hk = s.hk ∧ (s.signal n).keys = s.keys ∧ (s.signal n).duplex = s.duplex ∧
    (s.signal n).testPort = s.testPort ∧ (∀ a b c, (s.signal n).cfg a b c = s.cfg a b c) ∧ (∀ a b c, (s.signal n).cfgB a b c = s.cfgB a b c) ∧
    (∀ a b c, (s.signal n).cfgInt a b c = s.cfgInt a b c) ∧ (∀ a b c, (s.signal n).cfgBytes a b c = s.cfgBytes a b c) ∧
    (∀ a b c, (s.signal n).cfgF a b c = s.cfgF a b c) ∧ (∀ a b c, (s.signal n).rw a b c = s.rw a b c) ∧
    (∀ a b c, (s.signal n).rwBytes a b c = s.rwBytes a b c) ∧ (∀ a b c, (s.signal n).ro a b c = s.ro a b c) ∧
    (∀ a b c, (s.signal n).roBytes a b c = s.roBytes a b c) ∧ (s.signal n).dev = s.dev ∧ (s.signal n).running = s.running ∧
    (s.signal n).powered = s.powered ∧ (s.signal n).gdieOn = s.gdieOn ∧ (s.signal n).timeRuns = s.timeRuns ∧ (s.signal n).fnom = s.fnom ∧
    (s.signal n).t96 = s.t96 ∧ (s.signal n).gat = s.gat := by
  unfold State.signal; split <;> simp

@[simp] theorem State.interrupt_frame (n : Nat) (s : State) :
    (s.interrupt n).pending = s.pending ∧ (s.interrupt n).now = s.now ∧ (s.interrupt n).draws = s.draws ∧ (s.interrupt n).active = s.active ∧
    (s.interrupt n).shadow = s.shadow ∧ (s.interrupt n).live = s.live ∧ (s.interrupt n).status = s.status ∧ (s.interrupt n).power = s.power ∧
    (s.interrupt n).time = s.time ∧ (s.interrupt n).port = s.port ∧ (s.interrupt n).ingest = s.ingest ∧ (s.interrupt n).groups = s.groups ∧
    (s.interrupt n).place = s.place ∧ (s.interrupt n).eddy = s.eddy ∧ (s.interrupt n).oxbow = s.oxbow ∧ (s.interrupt n).alarm = s.alarm ∧
    (s.interrupt n).pub = s.pub ∧ (s.interrupt n).head = s.head ∧ (s.interrupt n).capture = s.capture ∧ (s.interrupt n).leash = s.leash ∧
    (s.interrupt n).energy = s.energy ∧ (s.interrupt n).jobs = s.jobs ∧ (s.interrupt n).imian = s.imian ∧ (s.interrupt n).sets = s.sets ∧
    (s.interrupt n).log = s.log ∧ (s.interrupt n).hk = s.hk ∧ (s.interrupt n).keys = s.keys ∧ (s.interrupt n).duplex = s.duplex ∧
    (s.interrupt n).testPort = s.testPort ∧ (∀ a b c, (s.interrupt n).cfg a b c = s.cfg a b c) ∧
    (∀ a b c, (s.interrupt n).cfgB a b c = s.cfgB a b c) ∧ (∀ a b c, (s.interrupt n).cfgInt a b c = s.cfgInt a b c) ∧
    (∀ a b c, (s.interrupt n).cfgBytes a b c = s.cfgBytes a b c) ∧ (∀ a b c, (s.interrupt n).cfgF a b c = s.cfgF a b c) ∧
    (∀ a b c, (s.interrupt n).rw a b c = s.rw a b c) ∧ (∀ a b c, (s.interrupt n).rwBytes a b c = s.rwBytes a b c) ∧
    (∀ a b c, (s.interrupt n).ro a b c = s.ro a b c) ∧ (∀ a b c, (s.interrupt n).roBytes a b c = s.roBytes a b c) ∧ (s.interrupt n).dev = s.dev ∧
    (s.interrupt n).running = s.running ∧ (s.interrupt n).powered = s.powered ∧ (s.interrupt n).gdieOn = s.gdieOn ∧
    (s.interrupt n).timeRuns = s.timeRuns ∧ (s.interrupt n).fnom = s.fnom ∧ (s.interrupt n).t96 = s.t96 ∧ (s.interrupt n).gat = s.gat := by
  unfold State.interrupt; split <;> simp

@[simp] theorem State.setSluice_frame (q : Nat) (x : Sluice) (s : State) :
    (s.setSluice q x).pending = s.pending ∧ (s.setSluice q x).now = s.now ∧ (s.setSluice q x).draws = s.draws ∧ (s.setSluice q x).outs = s.outs ∧
    (s.setSluice q x).active = s.active ∧ (s.setSluice q x).shadow = s.shadow ∧ (s.setSluice q x).live = s.live ∧
    (s.setSluice q x).status = s.status ∧ (s.setSluice q x).power = s.power ∧ (s.setSluice q x).time = s.time ∧ (s.setSluice q x).port = s.port ∧
    (s.setSluice q x).ingest = s.ingest ∧ (s.setSluice q x).groups = s.groups ∧ (s.setSluice q x).place = s.place ∧ (s.setSluice q x).eddy = s.eddy ∧
    (s.setSluice q x).oxbow = s.oxbow ∧ (s.setSluice q x).alarm = s.alarm ∧ (s.setSluice q x).pub = s.pub ∧ (s.setSluice q x).head = s.head ∧
    (s.setSluice q x).capture = s.capture ∧ (s.setSluice q x).leash = s.leash ∧ (s.setSluice q x).energy = s.energy ∧
    (s.setSluice q x).jobs = s.jobs ∧ (s.setSluice q x).imian = s.imian ∧ (s.setSluice q x).sets = s.sets ∧ (s.setSluice q x).log = s.log ∧
    (s.setSluice q x).hk = s.hk ∧ (s.setSluice q x).keys = s.keys ∧ (s.setSluice q x).duplex = s.duplex ∧ (s.setSluice q x).testPort = s.testPort ∧
    (∀ a b c, (s.setSluice q x).cfg a b c = s.cfg a b c) ∧ (∀ a b c, (s.setSluice q x).cfgB a b c = s.cfgB a b c) ∧
    (∀ a b c, (s.setSluice q x).cfgInt a b c = s.cfgInt a b c) ∧ (∀ a b c, (s.setSluice q x).cfgBytes a b c = s.cfgBytes a b c) ∧
    (∀ a b c, (s.setSluice q x).cfgF a b c = s.cfgF a b c) ∧ (∀ a b c, (s.setSluice q x).rw a b c = s.rw a b c) ∧
    (∀ a b c, (s.setSluice q x).rwBytes a b c = s.rwBytes a b c) ∧ (∀ a b c, (s.setSluice q x).ro a b c = s.ro a b c) ∧
    (∀ a b c, (s.setSluice q x).roBytes a b c = s.roBytes a b c) ∧ (s.setSluice q x).dev = s.dev ∧ (s.setSluice q x).running = s.running ∧
    (s.setSluice q x).powered = s.powered ∧ (s.setSluice q x).gdieOn = s.gdieOn ∧ (s.setSluice q x).timeRuns = s.timeRuns ∧
    (s.setSluice q x).fnom = s.fnom ∧ (s.setSluice q x).t96 = s.t96 ∧ (s.setSluice q x).gat = s.gat := by
  simp [State.setSluice]

@[simp] theorem sluiceInterrupt_frame (q : Nat) (s : State) :
    (sluiceInterrupt q s).pending = s.pending ∧ (sluiceInterrupt q s).now = s.now ∧ (sluiceInterrupt q s).draws = s.draws ∧
    (sluiceInterrupt q s).active = s.active ∧ (sluiceInterrupt q s).shadow = s.shadow ∧ (sluiceInterrupt q s).live = s.live ∧
    (sluiceInterrupt q s).status = s.status ∧ (sluiceInterrupt q s).power = s.power ∧ (sluiceInterrupt q s).time = s.time ∧
    (sluiceInterrupt q s).port = s.port ∧ (sluiceInterrupt q s).ingest = s.ingest ∧ (sluiceInterrupt q s).groups = s.groups ∧
    (sluiceInterrupt q s).place = s.place ∧ (sluiceInterrupt q s).eddy = s.eddy ∧ (sluiceInterrupt q s).oxbow = s.oxbow ∧
    (sluiceInterrupt q s).alarm = s.alarm ∧ (sluiceInterrupt q s).pub = s.pub ∧ (sluiceInterrupt q s).head = s.head ∧
    (sluiceInterrupt q s).capture = s.capture ∧ (sluiceInterrupt q s).leash = s.leash ∧ (sluiceInterrupt q s).energy = s.energy ∧
    (sluiceInterrupt q s).jobs = s.jobs ∧ (sluiceInterrupt q s).imian = s.imian ∧ (sluiceInterrupt q s).sets = s.sets ∧
    (sluiceInterrupt q s).log = s.log ∧ (sluiceInterrupt q s).hk = s.hk ∧ (sluiceInterrupt q s).keys = s.keys ∧
    (sluiceInterrupt q s).duplex = s.duplex ∧ (sluiceInterrupt q s).testPort = s.testPort ∧
    (∀ a b c, (sluiceInterrupt q s).cfg a b c = s.cfg a b c) ∧ (∀ a b c, (sluiceInterrupt q s).cfgB a b c = s.cfgB a b c) ∧
    (∀ a b c, (sluiceInterrupt q s).cfgInt a b c = s.cfgInt a b c) ∧ (∀ a b c, (sluiceInterrupt q s).cfgBytes a b c = s.cfgBytes a b c) ∧
    (∀ a b c, (sluiceInterrupt q s).cfgF a b c = s.cfgF a b c) ∧ (∀ a b c, (sluiceInterrupt q s).rw a b c = s.rw a b c) ∧
    (∀ a b c, (sluiceInterrupt q s).rwBytes a b c = s.rwBytes a b c) ∧ (∀ a b c, (sluiceInterrupt q s).ro a b c = s.ro a b c) ∧
    (∀ a b c, (sluiceInterrupt q s).roBytes a b c = s.roBytes a b c) ∧ (sluiceInterrupt q s).dev = s.dev ∧
    (sluiceInterrupt q s).running = s.running ∧ (sluiceInterrupt q s).powered = s.powered ∧ (sluiceInterrupt q s).gdieOn = s.gdieOn ∧
    (sluiceInterrupt q s).timeRuns = s.timeRuns ∧ (sluiceInterrupt q s).fnom = s.fnom ∧ (sluiceInterrupt q s).t96 = s.t96 ∧
    (sluiceInterrupt q s).gat = s.gat := by
  unfold sluiceInterrupt; split <;> simp

@[simp] theorem sluiceLose_frame (q : Nat) (owe : Bool) (s : State) :
    (sluiceLose q owe s).pending = s.pending ∧ (sluiceLose q owe s).now = s.now ∧ (sluiceLose q owe s).draws = s.draws ∧
    (sluiceLose q owe s).outs = s.outs ∧ (sluiceLose q owe s).active = s.active ∧ (sluiceLose q owe s).shadow = s.shadow ∧
    (sluiceLose q owe s).live = s.live ∧ (sluiceLose q owe s).power = s.power ∧ (sluiceLose q owe s).time = s.time ∧
    (sluiceLose q owe s).port = s.port ∧ (sluiceLose q owe s).ingest = s.ingest ∧ (sluiceLose q owe s).groups = s.groups ∧
    (sluiceLose q owe s).place = s.place ∧ (sluiceLose q owe s).eddy = s.eddy ∧ (sluiceLose q owe s).oxbow = s.oxbow ∧
    (sluiceLose q owe s).alarm = s.alarm ∧ (sluiceLose q owe s).pub = s.pub ∧ (sluiceLose q owe s).head = s.head ∧
    (sluiceLose q owe s).capture = s.capture ∧ (sluiceLose q owe s).leash = s.leash ∧ (sluiceLose q owe s).energy = s.energy ∧
    (sluiceLose q owe s).jobs = s.jobs ∧ (sluiceLose q owe s).imian = s.imian ∧ (sluiceLose q owe s).sets = s.sets ∧ (sluiceLose q owe s).hk = s.hk ∧
    (sluiceLose q owe s).keys = s.keys ∧ (sluiceLose q owe s).duplex = s.duplex ∧ (sluiceLose q owe s).testPort = s.testPort ∧
    (∀ a b c, (sluiceLose q owe s).cfg a b c = s.cfg a b c) ∧ (∀ a b c, (sluiceLose q owe s).cfgB a b c = s.cfgB a b c) ∧
    (∀ a b c, (sluiceLose q owe s).cfgInt a b c = s.cfgInt a b c) ∧ (∀ a b c, (sluiceLose q owe s).cfgBytes a b c = s.cfgBytes a b c) ∧
    (∀ a b c, (sluiceLose q owe s).cfgF a b c = s.cfgF a b c) ∧ (∀ a b c, (sluiceLose q owe s).rw a b c = s.rw a b c) ∧
    (∀ a b c, (sluiceLose q owe s).rwBytes a b c = s.rwBytes a b c) ∧ (sluiceLose q owe s).dev = s.dev ∧ (sluiceLose q owe s).running = s.running ∧
    (sluiceLose q owe s).powered = s.powered ∧ (sluiceLose q owe s).gdieOn = s.gdieOn ∧ (sluiceLose q owe s).timeRuns = s.timeRuns ∧
    (sluiceLose q owe s).fnom = s.fnom ∧ (sluiceLose q owe s).t96 = s.t96 ∧ (sluiceLose q owe s).gat = s.gat := by
  simp [sluiceLose]

@[simp] theorem sluiceCommit_frame (q : Nat) (ps : List (List Nat)) (s : State) :
    (sluiceCommit q ps s).pending = s.pending ∧ (sluiceCommit q ps s).now = s.now ∧ (sluiceCommit q ps s).draws = s.draws ∧
    (sluiceCommit q ps s).active = s.active ∧ (sluiceCommit q ps s).shadow = s.shadow ∧ (sluiceCommit q ps s).live = s.live ∧
    (sluiceCommit q ps s).status = s.status ∧ (sluiceCommit q ps s).power = s.power ∧ (sluiceCommit q ps s).time = s.time ∧
    (sluiceCommit q ps s).port = s.port ∧ (sluiceCommit q ps s).ingest = s.ingest ∧ (sluiceCommit q ps s).groups = s.groups ∧
    (sluiceCommit q ps s).place = s.place ∧ (sluiceCommit q ps s).eddy = s.eddy ∧ (sluiceCommit q ps s).oxbow = s.oxbow ∧
    (sluiceCommit q ps s).alarm = s.alarm ∧ (sluiceCommit q ps s).pub = s.pub ∧ (sluiceCommit q ps s).head = s.head ∧
    (sluiceCommit q ps s).capture = s.capture ∧ (sluiceCommit q ps s).leash = s.leash ∧ (sluiceCommit q ps s).energy = s.energy ∧
    (sluiceCommit q ps s).jobs = s.jobs ∧ (sluiceCommit q ps s).imian = s.imian ∧ (sluiceCommit q ps s).sets = s.sets ∧
    (sluiceCommit q ps s).log = s.log ∧ (sluiceCommit q ps s).hk = s.hk ∧ (sluiceCommit q ps s).keys = s.keys ∧
    (sluiceCommit q ps s).duplex = s.duplex ∧ (sluiceCommit q ps s).testPort = s.testPort ∧
    (∀ a b c, (sluiceCommit q ps s).cfg a b c = s.cfg a b c) ∧ (∀ a b c, (sluiceCommit q ps s).cfgB a b c = s.cfgB a b c) ∧
    (∀ a b c, (sluiceCommit q ps s).cfgInt a b c = s.cfgInt a b c) ∧ (∀ a b c, (sluiceCommit q ps s).cfgBytes a b c = s.cfgBytes a b c) ∧
    (∀ a b c, (sluiceCommit q ps s).cfgF a b c = s.cfgF a b c) ∧ (∀ a b c, (sluiceCommit q ps s).rw a b c = s.rw a b c) ∧
    (∀ a b c, (sluiceCommit q ps s).rwBytes a b c = s.rwBytes a b c) ∧ (∀ a b c, (sluiceCommit q ps s).ro a b c = s.ro a b c) ∧
    (∀ a b c, (sluiceCommit q ps s).roBytes a b c = s.roBytes a b c) ∧ (sluiceCommit q ps s).dev = s.dev ∧
    (sluiceCommit q ps s).running = s.running ∧ (sluiceCommit q ps s).powered = s.powered ∧ (sluiceCommit q ps s).gdieOn = s.gdieOn ∧
    (sluiceCommit q ps s).timeRuns = s.timeRuns ∧ (sluiceCommit q ps s).fnom = s.fnom ∧ (sluiceCommit q ps s).t96 = s.t96 ∧
    (sluiceCommit q ps s).gat = s.gat := by
  simp [sluiceCommit]

@[simp] theorem sluicePost_frame (q : Nat) (ws : List Nat) (s : State) :
    (sluicePost q ws s).pending = s.pending ∧ (sluicePost q ws s).now = s.now ∧ (sluicePost q ws s).draws = s.draws ∧
    (sluicePost q ws s).active = s.active ∧ (sluicePost q ws s).shadow = s.shadow ∧ (sluicePost q ws s).live = s.live ∧
    (sluicePost q ws s).power = s.power ∧ (sluicePost q ws s).time = s.time ∧ (sluicePost q ws s).port = s.port ∧
    (sluicePost q ws s).ingest = s.ingest ∧ (sluicePost q ws s).groups = s.groups ∧ (sluicePost q ws s).place = s.place ∧
    (sluicePost q ws s).eddy = s.eddy ∧ (sluicePost q ws s).oxbow = s.oxbow ∧ (sluicePost q ws s).alarm = s.alarm ∧ (sluicePost q ws s).pub = s.pub ∧
    (sluicePost q ws s).head = s.head ∧ (sluicePost q ws s).capture = s.capture ∧ (sluicePost q ws s).leash = s.leash ∧
    (sluicePost q ws s).energy = s.energy ∧ (sluicePost q ws s).jobs = s.jobs ∧ (sluicePost q ws s).imian = s.imian ∧
    (sluicePost q ws s).sets = s.sets ∧ (sluicePost q ws s).hk = s.hk ∧ (sluicePost q ws s).keys = s.keys ∧ (sluicePost q ws s).duplex = s.duplex ∧
    (sluicePost q ws s).testPort = s.testPort ∧ (∀ a b c, (sluicePost q ws s).cfg a b c = s.cfg a b c) ∧
    (∀ a b c, (sluicePost q ws s).cfgB a b c = s.cfgB a b c) ∧ (∀ a b c, (sluicePost q ws s).cfgInt a b c = s.cfgInt a b c) ∧
    (∀ a b c, (sluicePost q ws s).cfgBytes a b c = s.cfgBytes a b c) ∧ (∀ a b c, (sluicePost q ws s).cfgF a b c = s.cfgF a b c) ∧
    (∀ a b c, (sluicePost q ws s).rw a b c = s.rw a b c) ∧ (∀ a b c, (sluicePost q ws s).rwBytes a b c = s.rwBytes a b c) ∧
    (sluicePost q ws s).dev = s.dev ∧ (sluicePost q ws s).running = s.running ∧ (sluicePost q ws s).powered = s.powered ∧
    (sluicePost q ws s).gdieOn = s.gdieOn ∧ (sluicePost q ws s).timeRuns = s.timeRuns ∧ (sluicePost q ws s).fnom = s.fnom ∧
    (sluicePost q ws s).t96 = s.t96 ∧ (sluicePost q ws s).gat = s.gat := by
  unfold sluicePost; dsimp only; repeat' split
  all_goals simp

@[simp] theorem reportClass_frame  (s : State) :
    (reportClass s).pending = s.pending ∧ (reportClass s).now = s.now ∧ (reportClass s).draws = s.draws ∧ (reportClass s).outs = s.outs ∧
    (reportClass s).active = s.active ∧ (reportClass s).shadow = s.shadow ∧ (reportClass s).live = s.live ∧ (reportClass s).power = s.power ∧
    (reportClass s).port = s.port ∧ (reportClass s).ingest = s.ingest ∧ (reportClass s).groups = s.groups ∧ (reportClass s).place = s.place ∧
    (reportClass s).eddy = s.eddy ∧ (reportClass s).oxbow = s.oxbow ∧ (reportClass s).alarm = s.alarm ∧ (reportClass s).pub = s.pub ∧
    (reportClass s).head = s.head ∧ (reportClass s).capture = s.capture ∧ (reportClass s).leash = s.leash ∧ (reportClass s).energy = s.energy ∧
    (reportClass s).jobs = s.jobs ∧ (reportClass s).imian = s.imian ∧ (reportClass s).sets = s.sets ∧ (reportClass s).host = s.host ∧
    (reportClass s).hk = s.hk ∧ (reportClass s).keys = s.keys ∧ (reportClass s).duplex = s.duplex ∧ (reportClass s).testPort = s.testPort ∧
    (∀ a b c, (reportClass s).cfg a b c = s.cfg a b c) ∧ (∀ a b c, (reportClass s).cfgB a b c = s.cfgB a b c) ∧
    (∀ a b c, (reportClass s).cfgInt a b c = s.cfgInt a b c) ∧ (∀ a b c, (reportClass s).cfgBytes a b c = s.cfgBytes a b c) ∧
    (∀ a b c, (reportClass s).cfgF a b c = s.cfgF a b c) ∧ (∀ a b c, (reportClass s).rw a b c = s.rw a b c) ∧
    (∀ a b c, (reportClass s).rwBytes a b c = s.rwBytes a b c) ∧ (reportClass s).dev = s.dev ∧ (reportClass s).running = s.running ∧
    (reportClass s).powered = s.powered ∧ (reportClass s).gdieOn = s.gdieOn ∧ (reportClass s).timeRuns = s.timeRuns ∧ (reportClass s).fnom = s.fnom := by
  unfold reportClass; split <;> simp

@[simp] theorem settle_frame  (s : State) :
    (settle s).pending = s.pending ∧ (settle s).now = s.now ∧ (settle s).draws = s.draws ∧ (settle s).outs = s.outs ∧ (settle s).active = s.active ∧
    (settle s).shadow = s.shadow ∧ (settle s).live = s.live ∧ (settle s).port = s.port ∧ (settle s).ingest = s.ingest ∧
    (settle s).groups = s.groups ∧ (settle s).place = s.place ∧ (settle s).eddy = s.eddy ∧ (settle s).oxbow = s.oxbow ∧ (settle s).alarm = s.alarm ∧
    (settle s).pub = s.pub ∧ (settle s).head = s.head ∧ (settle s).capture = s.capture ∧ (settle s).leash = s.leash ∧ (settle s).energy = s.energy ∧
    (settle s).jobs = s.jobs ∧ (settle s).imian = s.imian ∧ (settle s).sets = s.sets ∧ (settle s).host = s.host ∧ (settle s).hk = s.hk ∧
    (settle s).keys = s.keys ∧ (settle s).duplex = s.duplex ∧ (settle s).testPort = s.testPort ∧ (∀ a b c, (settle s).cfg a b c = s.cfg a b c) ∧
    (∀ a b c, (settle s).cfgB a b c = s.cfgB a b c) ∧ (∀ a b c, (settle s).cfgInt a b c = s.cfgInt a b c) ∧
    (∀ a b c, (settle s).cfgBytes a b c = s.cfgBytes a b c) ∧ (∀ a b c, (settle s).cfgF a b c = s.cfgF a b c) ∧
    (∀ a b c, (settle s).rw a b c = s.rw a b c) ∧ (∀ a b c, (settle s).rwBytes a b c = s.rwBytes a b c) ∧ (settle s).fnom = s.fnom := by
  simp [settle]

@[simp] theorem account_frame (w : Who) (n : Nat) (s : State) :
    (account w n s).pending = s.pending ∧ (account w n s).now = s.now ∧ (account w n s).draws = s.draws ∧ (account w n s).outs = s.outs ∧
    (account w n s).active = s.active ∧ (account w n s).shadow = s.shadow ∧ (account w n s).live = s.live ∧ (account w n s).power = s.power ∧
    (account w n s).time = s.time ∧ (account w n s).port = s.port ∧ (account w n s).ingest = s.ingest ∧ (account w n s).groups = s.groups ∧
    (account w n s).place = s.place ∧ (account w n s).eddy = s.eddy ∧ (account w n s).oxbow = s.oxbow ∧ (account w n s).alarm = s.alarm ∧
    (account w n s).pub = s.pub ∧ (account w n s).head = s.head ∧ (account w n s).capture = s.capture ∧ (account w n s).leash = s.leash ∧
    (account w n s).energy = s.energy ∧ (account w n s).jobs = s.jobs ∧ (account w n s).sets = s.sets ∧ (account w n s).host = s.host ∧
    (account w n s).log = s.log ∧ (account w n s).hk = s.hk ∧ (account w n s).keys = s.keys ∧ (account w n s).duplex = s.duplex ∧
    (account w n s).testPort = s.testPort ∧ (∀ a b c, (account w n s).cfg a b c = s.cfg a b c) ∧
    (∀ a b c, (account w n s).cfgB a b c = s.cfgB a b c) ∧ (∀ a b c, (account w n s).cfgInt a b c = s.cfgInt a b c) ∧
    (∀ a b c, (account w n s).cfgBytes a b c = s.cfgBytes a b c) ∧ (∀ a b c, (account w n s).cfgF a b c = s.cfgF a b c) ∧
    (∀ a b c, (account w n s).rw a b c = s.rw a b c) ∧ (∀ a b c, (account w n s).rwBytes a b c = s.rwBytes a b c) ∧ (account w n s).dev = s.dev ∧
    (account w n s).running = s.running ∧ (account w n s).powered = s.powered ∧ (account w n s).gdieOn = s.gdieOn ∧
    (account w n s).timeRuns = s.timeRuns ∧ (account w n s).fnom = s.fnom ∧ (account w n s).t96 = s.t96 ∧ (account w n s).gat = s.gat := by
  unfold account; dsimp only; repeat' split
  all_goals simp

@[simp] theorem State.advance_frame (t : Nat) (s : State) :
    (s.advance t).now = max s.now t ∧ (s.advance t).outs = [] ∧ (s.advance t).pending = s.pending ∧ (s.advance t).draws = s.draws ∧
    (s.advance t).active = s.active ∧ (s.advance t).shadow = s.shadow ∧ (s.advance t).live = s.live ∧ (s.advance t).status = s.status ∧
    (s.advance t).power = s.power ∧ (s.advance t).port = s.port ∧ (s.advance t).ingest = s.ingest ∧ (s.advance t).groups = s.groups ∧
    (s.advance t).place = s.place ∧ (s.advance t).eddy = s.eddy ∧ (s.advance t).oxbow = s.oxbow ∧ (s.advance t).alarm = s.alarm ∧
    (s.advance t).pub = s.pub ∧ (s.advance t).head = s.head ∧ (s.advance t).capture = s.capture ∧ (s.advance t).leash = s.leash ∧
    (s.advance t).energy = s.energy ∧ (s.advance t).jobs = s.jobs ∧ (s.advance t).imian = s.imian ∧ (s.advance t).sets = s.sets ∧
    (s.advance t).host = s.host ∧ (s.advance t).log = s.log ∧ (s.advance t).hk = s.hk ∧ (s.advance t).keys = s.keys ∧
    (s.advance t).duplex = s.duplex ∧ (s.advance t).testPort = s.testPort ∧ (∀ a b c, (s.advance t).cfg a b c = s.cfg a b c) ∧
    (∀ a b c, (s.advance t).cfgB a b c = s.cfgB a b c) ∧ (∀ a b c, (s.advance t).cfgInt a b c = s.cfgInt a b c) ∧
    (∀ a b c, (s.advance t).cfgBytes a b c = s.cfgBytes a b c) ∧ (∀ a b c, (s.advance t).cfgF a b c = s.cfgF a b c) ∧
    (∀ a b c, (s.advance t).rw a b c = s.rw a b c) ∧ (∀ a b c, (s.advance t).rwBytes a b c = s.rwBytes a b c) ∧
    (∀ a b c, (s.advance t).ro a b c = s.ro a b c) ∧ (∀ a b c, (s.advance t).roBytes a b c = s.roBytes a b c) ∧ (s.advance t).dev = s.dev ∧
    (s.advance t).running = s.running ∧ (s.advance t).powered = s.powered ∧ (s.advance t).gdieOn = s.gdieOn ∧ (s.advance t).timeRuns = s.timeRuns ∧
    (s.advance t).fnom = s.fnom := by
  simp [State.advance, State.cfg, State.cfgB, State.cfgInt, State.cfgBytes, State.cfgF, State.rw, State.rwBytes, State.ro, State.roBytes, State.dev, State.running, State.powered, State.gdieOn, State.timeRuns, State.fnom]
  omega

@[simp] theorem advance_time (t : Nat) (s : State) :
    (s.advance t).time.isSet = s.time.isSet ∧ (s.advance t).time.setAt = s.time.setAt ∧ (s.advance t).time.f = s.time.f ∧
    (s.advance t).time.selected = s.time.selected ∧ (s.advance t).time.lastSource = s.time.lastSource ∧ (s.advance t).time.servo = s.time.servo ∧
    (s.advance t).time.holdAt = s.time.holdAt ∧ (s.advance t).time.u0 = s.time.u0 ∧ (s.advance t).time.limitRaised = s.time.limitRaised ∧
    (s.advance t).time.ptp = s.time.ptp ∧ (s.advance t).time.pps = s.time.pps ∧ (s.advance t).time.irig = s.time.irig ∧
    (s.advance t).time.announces = s.time.announces ∧ (s.advance t).time.ptpPort = s.time.ptpPort ∧ (s.advance t).time.pathDelay = s.time.pathDelay ∧
    (s.advance t).time.ptpSent = s.time.ptpSent ∧ (s.advance t).time.irigLast = s.time.irigLast ∧ (s.advance t).time.leap = s.time.leap ∧
    (s.advance t).time.leapApplied = s.time.leapApplied ∧ (s.advance t).time.leapDone = s.time.leapDone ∧
    (s.advance t).time.ptpLeap = s.time.ptpLeap ∧ (s.advance t).time.lastLeap = s.time.lastLeap ∧
    (s.advance t).time.deltaReported = s.time.deltaReported ∧ (s.advance t).time.lastClass = s.time.lastClass ∧
    (s.advance t).time.trefLost = s.time.trefLost ∧ (s.advance t).time.trefOutOfRange = s.time.trefOutOfRange ∧
    (s.advance t).time.gatOn = s.time.gatOn ∧ (s.advance t).time.gatRate = s.time.gatRate ∧ (s.advance t).time.nominal = s.time.nominal ∧
    (s.advance t).time.pulling = s.time.pulling ∧ (s.advance t).time.estimated = s.time.estimated ∧
    (s.advance t).time.estimatedByRebase = s.time.estimatedByRebase ∧ (s.advance t).time.refSeen = s.time.refSeen ∧
    (s.advance t).time.refOkSince = s.time.refOkSince ∧ (s.advance t).time.refFreq = s.time.refFreq ∧ (s.advance t).time.refError = s.time.refError ∧
    (s.advance t).time.refBits = s.time.refBits ∧ (s.advance t).time.refPhase = s.time.refPhase ∧ (s.advance t).time.pullSince = s.time.pullSince ∧
    (s.advance t).time.trigLast = s.time.trigLast ∧ (s.advance t).time.pulses = s.time.pulses ∧ (s.advance t).time.latch = s.time.latch ∧
    (s.advance t).time.epoch = s.time.epoch := by
  unfold State.advance advanceTime advanceGat advanceT96; dsimp only; repeat' split
  all_goals simp

@[simp] theorem reportClass_time (s : State) :
    (reportClass s).time.isSet = s.time.isSet ∧ (reportClass s).time.setAt = s.time.setAt ∧ (reportClass s).time.t96x = s.time.t96x ∧
    (reportClass s).time.f = s.time.f ∧ (reportClass s).time.slew = s.time.slew ∧ (reportClass s).time.selected = s.time.selected ∧
    (reportClass s).time.lastSource = s.time.lastSource ∧ (reportClass s).time.servo = s.time.servo ∧ (reportClass s).time.holdAt = s.time.holdAt ∧
    (reportClass s).time.u0 = s.time.u0 ∧ (reportClass s).time.limitRaised = s.time.limitRaised ∧ (reportClass s).time.ptp = s.time.ptp ∧
    (reportClass s).time.pps = s.time.pps ∧ (reportClass s).time.irig = s.time.irig ∧ (reportClass s).time.announces = s.time.announces ∧
    (reportClass s).time.ptpPort = s.time.ptpPort ∧ (reportClass s).time.pathDelay = s.time.pathDelay ∧
    (reportClass s).time.ptpSent = s.time.ptpSent ∧ (reportClass s).time.irigLast = s.time.irigLast ∧ (reportClass s).time.leap = s.time.leap ∧
    (reportClass s).time.leapApplied = s.time.leapApplied ∧ (reportClass s).time.leapDone = s.time.leapDone ∧
    (reportClass s).time.ptpLeap = s.time.ptpLeap ∧ (reportClass s).time.lastLeap = s.time.lastLeap ∧
    (reportClass s).time.deltaReported = s.time.deltaReported ∧ (reportClass s).time.trefLost = s.time.trefLost ∧
    (reportClass s).time.trefOutOfRange = s.time.trefOutOfRange ∧ (reportClass s).time.gatOn = s.time.gatOn ∧
    (reportClass s).time.gatx = s.time.gatx ∧ (reportClass s).time.gatRate = s.time.gatRate ∧ (reportClass s).time.edges = s.time.edges ∧
    (reportClass s).time.nominal = s.time.nominal ∧ (reportClass s).time.pulling = s.time.pulling ∧
    (reportClass s).time.estimated = s.time.estimated ∧ (reportClass s).time.estimatedByRebase = s.time.estimatedByRebase ∧
    (reportClass s).time.refSeen = s.time.refSeen ∧ (reportClass s).time.refOkSince = s.time.refOkSince ∧
    (reportClass s).time.refFreq = s.time.refFreq ∧ (reportClass s).time.refError = s.time.refError ∧ (reportClass s).time.refBits = s.time.refBits ∧
    (reportClass s).time.refPhase = s.time.refPhase ∧ (reportClass s).time.pullSince = s.time.pullSince ∧
    (reportClass s).time.trigLast = s.time.trigLast ∧ (reportClass s).time.pulses = s.time.pulses ∧ (reportClass s).time.latch = s.time.latch ∧
    (reportClass s).time.epoch = s.time.epoch := by
  unfold reportClass; split <;> simp

@[simp] theorem settle_time_fields (s : State) :
    (settle s).time.isSet = s.time.isSet ∧ (settle s).time.setAt = s.time.setAt ∧ (settle s).time.t96x = s.time.t96x ∧ (settle s).time.f = s.time.f ∧
    (settle s).time.slew = s.time.slew ∧ (settle s).time.selected = s.time.selected ∧ (settle s).time.lastSource = s.time.lastSource ∧
    (settle s).time.servo = s.time.servo ∧ (settle s).time.holdAt = s.time.holdAt ∧ (settle s).time.u0 = s.time.u0 ∧
    (settle s).time.limitRaised = s.time.limitRaised ∧ (settle s).time.ptp = s.time.ptp ∧ (settle s).time.pps = s.time.pps ∧
    (settle s).time.irig = s.time.irig ∧ (settle s).time.announces = s.time.announces ∧ (settle s).time.ptpPort = s.time.ptpPort ∧
    (settle s).time.pathDelay = s.time.pathDelay ∧ (settle s).time.ptpSent = s.time.ptpSent ∧ (settle s).time.irigLast = s.time.irigLast ∧
    (settle s).time.leap = s.time.leap ∧ (settle s).time.leapApplied = s.time.leapApplied ∧ (settle s).time.leapDone = s.time.leapDone ∧
    (settle s).time.ptpLeap = s.time.ptpLeap ∧ (settle s).time.lastLeap = s.time.lastLeap ∧ (settle s).time.deltaReported = s.time.deltaReported ∧
    (settle s).time.trefLost = s.time.trefLost ∧ (settle s).time.trefOutOfRange = s.time.trefOutOfRange ∧ (settle s).time.gatOn = s.time.gatOn ∧
    (settle s).time.gatx = s.time.gatx ∧ (settle s).time.gatRate = s.time.gatRate ∧ (settle s).time.edges = s.time.edges ∧
    (settle s).time.nominal = s.time.nominal ∧ (settle s).time.pulling = s.time.pulling ∧ (settle s).time.estimated = s.time.estimated ∧
    (settle s).time.estimatedByRebase = s.time.estimatedByRebase ∧ (settle s).time.refSeen = s.time.refSeen ∧
    (settle s).time.refOkSince = s.time.refOkSince ∧ (settle s).time.refFreq = s.time.refFreq ∧ (settle s).time.refError = s.time.refError ∧
    (settle s).time.refBits = s.time.refBits ∧ (settle s).time.refPhase = s.time.refPhase ∧ (settle s).time.pullSince = s.time.pullSince ∧
    (settle s).time.trigLast = s.time.trigLast ∧ (settle s).time.pulses = s.time.pulses ∧ (settle s).time.latch = s.time.latch ∧
    (settle s).time.epoch = s.time.epoch := by
  simp [settle]

@[simp] theorem settle_power_fields (s : State) :
    (settle s).power.state = s.power.state ∧ (settle s).power.cause = s.power.cause ∧ (settle s).power.startAt = s.power.startAt ∧
    (settle s).power.startCause = s.power.startCause ∧ (settle s).power.ran = s.power.ran ∧
    (settle s).power.selfTestPassed = s.power.selfTestPassed ∧ (settle s).power.lockWaitOver = s.power.lockWaitOver ∧
    (settle s).power.setLoaded = s.power.setLoaded ∧ (settle s).power.resetLow = s.power.resetLow ∧ (settle s).power.vbat = s.power.vbat ∧
    (settle s).power.mainSupply = s.power.mainSupply ∧ (settle s).power.pfwLow = s.power.pfwLow ∧ (settle s).power.wake = s.power.wake ∧
    (settle s).power.record = s.power.record ∧ (settle s).power.wakeFault = s.power.wakeFault ∧
    (settle s).power.saveAreaValid = s.power.saveAreaValid ∧ (settle s).power.lossFrom = s.power.lossFrom ∧
    (settle s).power.enteredAt = s.power.enteredAt ∧ (settle s).power.enteredRtc = s.power.enteredRtc ∧ (settle s).power.before = s.power.before ∧
    (settle s).power.lastRtc = s.power.lastRtc ∧ (settle s).power.rtcAt = s.power.rtcAt ∧
    (settle s).power.sentinelByCommand = s.power.sentinelByCommand ∧ (settle s).power.causeEndedAt = s.power.causeEndedAt ∧
    (settle s).power.restart = s.power.restart ∧ (settle s).power.restarts = s.power.restarts ∧
    (settle s).power.limitReported = s.power.limitReported ∧ (settle s).power.cdieOn = s.power.cdieOn ∧
    (settle s).power.shepherdFailed = s.power.shepherdFailed ∧ (settle s).power.shepherdSince = s.power.shepherdSince ∧
    (settle s).power.shepherdRows = s.power.shepherdRows ∧ (settle s).power.lifeBits = s.power.lifeBits ∧
    (settle s).power.tamperReport = s.power.tamperReport ∧ (settle s).power.mramLost = s.power.mramLost ∧
    (settle s).power.vbatLostFlag = s.power.vbatLostFlag ∧ (settle s).power.fourFlags = s.power.fourFlags := by
  simp [settle, PowerSt.showFault]

end Sys2Proof.Machine
end

