-- ==== Sys2Proof/Laws/Store.lean ====
section
/-! SUPPORT. The stores: a read after a write, and the canonical form kept. -/

namespace Sys2Proof.Machine
open Sys2Proof

@[simp] theorem lookup_putKey_self {α : Type} (k : Nat) (v : α) (l : List (Nat × α)) : lookup k (putKey k v l) = some v := by
  induction l with
  | nil => simp [putKey, lookup]
  | cons e l ih =>
    unfold putKey
    split
    · rename_i h; simp [lookup, ih, Nat.ne_of_lt h]
    · split <;> simp [lookup]

theorem lookup_putKey_ne {α : Type} {k j : Nat} (h : k ≠ j) (v : α) (l : List (Nat × α)) :
    lookup k (putKey j v l) = lookup k l := by
  induction l with
  | nil => simp [putKey, lookup, h.symm]
  | cons e l ih =>
    unfold putKey
    split
    · simp [lookup, ih]
    · split <;> simp_all [lookup, Ne.symm h]

@[simp] theorem lookup_delKey_self {α : Type} (k : Nat) (l : List (Nat × α)) : lookup k (delKey k l) = none := by
  induction l with
  | nil => simp [delKey, lookup]
  | cons e l ih => by_cases h : e.1 = k <;> simp_all [delKey, lookup]

theorem lookup_delKey_ne {α : Type} {k j : Nat} (h : k ≠ j) (l : List (Nat × α)) : lookup k (delKey j l) = lookup k l := by
  induction l with
  | nil => simp [delKey, lookup]
  | cons e l ih => by_cases g : e.1 = j <;> simp_all [delKey, lookup, Ne.symm h]

@[simp] theorem tabGet_putKey_self {α : Type} (d : α) (k : Nat) (v : α) (t : Tab α) : tabGet d (putKey k v t) k = v := by
  simp [tabGet]

theorem tabGet_putKey_ne {α : Type} {k j : Nat} (h : k ≠ j) (d v : α) (t : Tab α) : tabGet d (putKey j v t) k = tabGet d t k := by
  simp [tabGet, lookup_putKey_ne h]

/-- A value written is the value read. -/
@[simp] theorem readIn_writeIn_self (d : Dict) (i j r : Nat) (v : Val) : readIn (writeIn d i j r v) i j r = v := by
  unfold writeIn readIn
  split <;> simp_all

/-- A write leaves every other object and row as it was. -/
theorem readIn_writeIn_ne (d : Dict) {i j r a b c : Nat} (h : okey a b c ≠ okey i j r) (v : Val) :
    readIn (writeIn d i j r v) a b c = readIn d a b c := by
  unfold writeIn readIn
  split <;> simp [lookup_delKey_ne h, lookup_putKey_ne h]

/-- Keys differ where index, subindex or row do, within their widths. -/
theorem okey_eq {i j r a b c : Nat} (hj : j < 256) (hr : r < 0x1000000) (hb : b < 256) (hc : c < 0x1000000)
    (h : okey a b c = okey i j r) : a = i ∧ b = j ∧ c = r := by
  unfold okey at h; omega

theorem risingFrom_putKey {α : Type} {m k : Nat} (v : α) (hm : m < k) (l : List (Nat × α)) :
    risingFrom m l → risingFrom m (putKey k v l) := by
  induction l generalizing m with
  | nil => simp [risingFrom, putKey, hm]
  | cons e l ih =>
    intro hl
    simp only [risingFrom, Bool.and_eq_true, decide_eq_true_eq] at hl
    unfold putKey
    split
    · rename_i hk; simp [risingFrom, hl.1, ih hk hl.2]
    · split
      · subst_vars; simp_all [risingFrom]
      · simp only [risingFrom, Bool.and_eq_true, decide_eq_true_eq]
        exact ⟨hm, by omega, hl.2⟩

theorem rising_putKey {α : Type} (k : Nat) (v : α) (l : List (Nat × α)) (h : rising l) : rising (putKey k v l) := by
  cases l with
  | nil => simp [putKey, rising, risingFrom]
  | cons e l =>
    simp only [rising] at h
    unfold putKey
    split
    · rename_i hk; simpa [rising] using risingFrom_putKey v hk l h
    · split
      · subst_vars; simpa [rising] using h
      · simp only [rising, risingFrom, Bool.and_eq_true, decide_eq_true_eq]
        exact ⟨by omega, h⟩

theorem risingFrom_weaken {α : Type} {m n : Nat} (h : m ≤ n) (l : List (Nat × α)) (hl : risingFrom n l) : risingFrom m l := by
  cases l with
  | nil => simp [risingFrom]
  | cons e l => simp only [risingFrom, Bool.and_eq_true, decide_eq_true_eq] at *; exact ⟨by omega, hl.2⟩

theorem risingFrom_delKey {α : Type} (k : Nat) : ∀ (m : Nat) (l : List (Nat × α)), risingFrom m l → risingFrom m (delKey k l) := by
  intro m l
  induction l generalizing m with
  | nil => simp [delKey]
  | cons e l ih =>
    intro hl
    simp only [risingFrom, Bool.and_eq_true, decide_eq_true_eq] at hl
    by_cases h : e.1 = k
    · simpa [delKey, h] using ih m (risingFrom_weaken (by omega) l hl.2)
    · simp only [delKey, List.filter, h, ne_eq, not_false_eq_true, decide_true, risingFrom, Bool.and_eq_true, decide_eq_true_eq]
      exact ⟨hl.1, ih e.1 hl.2⟩

theorem rising_delKey {α : Type} (k : Nat) (l : List (Nat × α)) (h : rising l) : rising (delKey k l) := by
  cases l with
  | nil => simp [delKey, rising]
  | cons e l =>
    simp only [rising] at h
    by_cases g : e.1 = k
    · have h2 : ∀ l' : List (Nat × α), risingFrom e.1 l' → rising l' := by
        intro l' hl; cases l' with
        | nil => rfl
        | cons x l' => simp only [risingFrom, Bool.and_eq_true] at hl; exact hl.2
      have := h2 _ (risingFrom_delKey k e.1 l h)
      simpa [delKey, g] using this
    · simpa [delKey, g, rising] using risingFrom_delKey k e.1 l h

/-- The default at the key of an object and row is its default. -/
theorem defaultAt_okey {i j r : Nat} (hj : j < 256) (hr : r < 0x1000000) : defaultAt (okey i j r) = defaultOf i j r := by
  unfold defaultAt okey
  congr 1 <;> omega

theorem sparse_putKey (k : Nat) (v : Val) (d : Dict) (hv : v ≠ defaultAt k) (h : sparse d) : sparse (putKey k v d) := by
  induction d with
  | nil => simp [putKey, sparse, hv]
  | cons e d ih =>
    simp only [sparse, List.all_cons, Bool.and_eq_true, decide_eq_true_eq] at h
    unfold putKey
    split
    · simp_all [sparse]
    · split <;> simp_all [sparse]

theorem sparse_delKey (k : Nat) (d : Dict) (h : sparse d) : sparse (delKey k d) := by
  simp only [sparse, delKey, List.all_eq_true, List.mem_filter] at *
  exact fun e he => h e he.1

/-- A write keeps the canonical form of a store. -/
theorem wf_writeIn (d : Dict) {i j r : Nat} (hj : j < 256) (hr : r < 0x1000000) (v : Val) (h : Dict.wf d) :
    Dict.wf (writeIn d i j r v) := by
  simp only [Dict.wf, Bool.and_eq_true] at *
  unfold writeIn
  split
  · exact ⟨rising_delKey _ _ h.1, sparse_delKey _ _ h.2⟩
  · exact ⟨rising_putKey _ _ _ h.1, sparse_putKey _ _ _ (by rwa [defaultAt_okey hj hr]) h.2⟩

end Sys2Proof.Machine
end

