-- ==== Sys2Proof/Laws/Answers.lean ====
section
/-! SUPPORT. Lemmas for statements about commands: what a completed command has done is what its effect has done, what an accepted COMMAND
does, posted events, kept objects and touched parts. -/

namespace Sys2Proof.Machine
open Sys2Proof

/-- A command whose meaning is an effect between begin and end completes, with what holds after the end. -/
theorem Answers.of {i : Instr} {s : State} {P : State → Prop} {t : Nat} {f : State → State} (h : exec i s = complete t f s)
    (p : P (settle (f (s.advance t)))) : Answers i s P := ⟨_, h, p⟩

/-! ### Objects after updates -/

theorem State.ro_def (s : State) (i j r : Nat) : s.ro i j r = (readIn s.status i j r).bits := rfl
theorem State.roBytes_def (s : State) (i j r : Nat) : s.roBytes i j r = (readIn s.status i j r).bytes := rfl

@[simp] theorem ro_setRow_self (s : State) (i j r n : Nat) : (s.setRow i j r n).ro i j r = n := by
  simp [State.ro_def, State.setRow, State.setRoV, Val.bits]
@[simp] theorem ro_setRo_self (s : State) (i j n : Nat) : (s.setRo i j n).ro i j = n := by
  simp [State.ro_def, State.setRo, State.setRoV, Val.bits]
@[simp] theorem roBytes_setRoBytes_self (s : State) (i j r : Nat) (l : List Byte) : (s.setRoBytes i j l r).roBytes i j r = l := by
  simp [State.roBytes_def, State.setRoBytes, State.setRoV, Val.bytes]
theorem ro_setRow_ne (s : State) {i j r n a b c : Nat} (h : okey a b c ≠ okey i j r) : (s.setRow i j r n).ro a b c = s.ro a b c := by
  simp [State.ro_def, State.setRow, State.setRoV, readIn_writeIn_ne _ h]
@[simp] theorem ro_bump_self (s : State) (i j r : Nat) : (s.bump i j r).ro i j r = (s.ro i j r + 1) % 2 ^ widthOf i j := by
  simp [State.bump, State.addTo]
@[simp] theorem ro_addTo_self (s : State) (i j n r : Nat) : (s.addTo i j n r).ro i j r = (s.ro i j r + n) % 2 ^ widthOf i j := by
  simp [State.addTo]

/-! ### Kept objects -/

theorem ObjectsKept.refl (os : List (Nat × Nat)) (s : State) : ObjectsKept os s s := fun _ _ _ _ _ _ _ _ => rfl
theorem ObjectsKept.trans {os : List (Nat × Nat)} {s u v : State} (h : ObjectsKept os s u) (g : ObjectsKept os u v) : ObjectsKept os s v :=
  fun i j r a b c d e => (g i j r a b c d e).trans (h i j r a b c d e)
theorem ObjectsKept.of_status {os : List (Nat × Nat)} {s u v : State} (h : ObjectsKept os s u) (g : v.status = u.status) : ObjectsKept os s v :=
  fun i j r a b c d e => by rw [g]; exact h i j r a b c d e

/-- An update of a listed object keeps the others. -/
theorem ObjectsKept.write {os : List (Nat × Nat)} {s u : State} {i j r : Nat} (h : ObjectsKept os s u)
    (m : (i, j) ∈ os ∨ (i, j) = (0x2E20, 4) ∨ (i, j) = (0x2E20, 8)) (hj : j < 256) (hr : r < 0x1000000) (v : Val) (w : State)
    (g : w.status = writeIn u.status i j r v) : ObjectsKept os s w := by
  intro a b c hb hc ha h4 h8
  rw [g, readIn_writeIn_ne, h a b c hb hc ha h4 h8]
  intro e
  obtain ⟨rfl, rfl, rfl⟩ := okey_eq hj hr hb hc e
  rcases m with m | m | m
  · exact ha m
  · exact h4 m
  · exact h8 m

theorem ObjectsKept.bump {os : List (Nat × Nat)} {s u : State} {i j r : Nat} (h : ObjectsKept os s u)
    (m : (i, j) ∈ os ∨ (i, j) = (0x2E20, 4) ∨ (i, j) = (0x2E20, 8)) (hj : j < 256) (hr : r < 0x1000000) : ObjectsKept os s (u.bump i j r) :=
  h.write m hj hr _ _ rfl

theorem ObjectsKept.raiseFrom {os : List (Nat × Nat)} {s u : State} (h : ObjectsKept os s u) (src code : Nat) (ps : List Byte) :
    ObjectsKept os s (raiseFrom src code ps u) := by
  unfold Machine.raiseFrom
  split
  · exact h
  · split
    · exact h.of_status (by simp)
    · refine (ObjectsKept.bump ?_ (.inr (.inl rfl)) (by omega) (by decide)).bump (.inr (.inr rfl)) (by omega) (by decide)
      exact h.of_status (by simp)

theorem ObjectsKept.raise {os : List (Nat × Nat)} {s u : State} (h : ObjectsKept os s u) (code : Nat) (ps : List Byte) :
    ObjectsKept os s (raise code ps u) := h.raiseFrom _ _ _

theorem ObjectsKept.settle {os : List (Nat × Nat)} {s u : State} (h : ObjectsKept os s u) : ObjectsKept os s (settle u) := by
  have h : ObjectsKept os s (u.onPower PowerSt.showFault) := h.of_status (by simp)
  unfold Machine.settle reportClass; split
  · exact h
  · exact (h.raise _ _).of_status (by simp; rfl)

/-- An object that no event counts reads the same after the end of a command. -/
theorem settle_ro {i j r : Nat} (s : State) (hi : i ≠ 0x2E20) (hj : j < 256) (hr : r < 0x1000000) : (settle s).ro i j r = s.ro i j r := by
  rw [State.ro_def, State.ro_def, (ObjectsKept.refl [] s).settle i j r hj hr (by simp) (by simp [hi]) (by simp [hi])]

theorem raise_ro {i j r : Nat} (code : Nat) (ps : List Byte) (s : State) (hi : i ≠ 0x2E20) (hj : j < 256) (hr : r < 0x1000000) :
    (raise code ps s).ro i j r = s.ro i j r := by
  rw [State.ro_def, State.ro_def, (ObjectsKept.refl [] s).raise code ps i j r hj hr (by simp) (by simp [hi]) (by simp [hi])]

theorem ro_bump_ne (s : State) {i j r a b c : Nat} (h : okey a b c ≠ okey i j r) : (s.bump i j r).ro a b c = s.ro a b c :=
  ro_setRow_ne s h

/-! ### Posted events -/

/-- While the FIFO has room and events are taken, an event enters it. -/
theorem raise_fifo (code : Nat) (ps : List Byte) (s : State) (h : s.powered = true ∧ s.dev ≠ stRecovery ∧ s.log.fifo.length < fifoDepth) :
    (raise code ps s).log.fifo =
      s.log.fifo ++ [⟨s.stampNow.1, s.stampNow.2, code, severityOf code, sourceOf code, fit 16 ps⟩] := by
  simp [raise, raiseFrom, h.1, h.2.1, h.2.2]

/-- The begin of a command adds no event. -/
@[simp] theorem advance_log (t : Nat) (s : State) : (s.advance t).log = s.log := by simp [State.advance]

/-- The end of a command keeps the events posted. -/
theorem settle_fifo (s : State) : ∃ l, (settle s).log.fifo = s.log.fifo ++ l := by
  unfold settle reportClass
  generalize hu : s.onPower PowerSt.showFault = u
  have : u.log = s.log := by simp [← hu]
  rw [← this]
  split
  · exact ⟨[], by simp⟩
  · unfold raise raiseFrom; split
    · exact ⟨[], by simp⟩
    · split
      · exact ⟨_, by simp; rfl⟩
      · exact ⟨[], by simp [State.bump, State.addTo]⟩

theorem Posted.settle {code : Nat} {ps : List Byte} {s u : State} (h : Posted code ps s u) : Posted code ps s (settle u) := by
  obtain ⟨e, he, h⟩ := h
  obtain ⟨l, hl⟩ := settle_fifo u
  refine ⟨e, ?_, h⟩
  rw [hl, List.drop_append]
  exact List.mem_append_left _ he

/-- An event raised on a state whose FIFO begins with that of s is posted since s. -/
theorem Posted.raise {s u : State} (l : List Event) (hu : u.log.fifo = s.log.fifo ++ l)
    (h : u.powered = true ∧ u.dev ≠ stRecovery ∧ u.log.fifo.length < fifoDepth) (code : Nat) (ps : List Byte) :
    Posted code ps s (raise code ps u) := by
  refine ⟨⟨u.stampNow.1, u.stampNow.2, code, severityOf code, sourceOf code, fit 16 ps⟩, ?_, rfl, rfl⟩
  rw [raise_fifo code ps u h, hu]
  simp

/-! ### The end of a command -/

/-- FAULT_N shows the device state and Shepherd, and nothing else of the power record changes. -/
theorem settle_power (s : State) : (settle s).power = s.power.showFault := by
  unfold settle reportClass; split <;> simp

/-- Of the timing record, only the last reported class may change. -/
theorem settle_time (s : State) : ∃ c, (settle s).time = { s.time with lastClass := c } := by
  unfold settle reportClass; split
  · exact ⟨s.time.lastClass, by simp⟩
  · exact ⟨_, by simp; rfl⟩

/-! ### Accepted commands -/

/-- An accepted COMMAND does what its body does, is accounted for and answered with the body's status. -/
theorem runCommand_accepted {i j r : Nat} {v : Val} {w : Who} {s : State} (h : Accepted i j r v w s) (body : State → State × Nat) :
    runCommand i j r v w body s = (account w (body s).2 (body s).1).emit (.status w (body s).2) := by
  simp [runCommand, tryCommand, h.1, h.2]

theorem runPlain_accepted {i j : Nat} {w : Who} {s : State} (h : AcceptedPlain i j w s) (body : State → State × Nat) :
    runPlain i j w body s = (account w (body s).2 (body s).1).emit (.status w (body s).2) := runCommand_accepted h body

/-- What is emitted last has left the block at the end of the command. -/
theorem answered_settle (w : Who) (c : Nat) (s : State) : Answered w c (settle (s.emit (.status w c))) := by simp [Answered]

/-! ### Touched parts -/

theorem Touches.refl (ps : List Part) (os : List (Nat × Nat)) (s : State) : Touches ps os s s :=
  ⟨fun p _ => by cases p <;> rfl, .refl _ _, rfl⟩

theorem Touches.trans {ps : List Part} {os : List (Nat × Nat)} {s u v : State} (h : Touches ps os s u) (g : Touches ps os u v) :
    Touches ps os s v := by
  refine ⟨fun p hp => ?_, h.2.1.trans g.2.1, g.2.2.trans h.2.2⟩
  have a := h.1 p hp
  have b := g.1 p hp
  cases p
  case power =>
    have b' := congrArg (fun x : PowerSt => { x with faultN := s.power.faultN }) b
    dsimp only [Part.same] at a b' ⊢; exact b'.trans a
  case time =>
    have b' := congrArg (fun x : TimeSt => { x with lastClass := s.time.lastClass }) b
    dsimp only [Part.same] at a b' ⊢; exact b'.trans a
  all_goals exact b.trans a

/-- What the parts of u are, parts and clock of v are; the objects of v are kept. -/
theorem Touches.of_parts {ps : List Part} {os : List (Nat × Nat)} {s u : State} (h : ∀ p, p ∉ ps → p.same s u)
    (g : ObjectsKept os s u) (k : u.now = s.now) : Touches ps os s u := ⟨h, g, k⟩

/-- The end of a command touches nothing that counts. -/
theorem Touches.settle {ps : List Part} {os : List (Nat × Nat)} {s u : State} (h : Touches ps os s u) : Touches ps os s (settle u) := by
  refine h.trans ⟨fun p _ => ?_, (ObjectsKept.refl os u).settle, by simp⟩
  obtain ⟨c, hc⟩ := settle_time u
  cases p <;> simp [Part.same, settle_power, PowerSt.showFault, hc]

theorem Touches.raise {ps : List Part} {os : List (Nat × Nat)} {s u : State} (h : Touches ps os s u) (code : Nat) (l : List Byte) :
    Touches ps os s (raise code l u) :=
  h.trans ⟨fun p _ => by cases p <;> simp [Part.same], (ObjectsKept.refl os u).raise _ _, by simp⟩

theorem Touches.emit {ps : List Part} {os : List (Nat × Nat)} {s u : State} (h : Touches ps os s u) (o : Out) : Touches ps os s (u.emit o) :=
  h.trans ⟨fun p _ => by cases p <;> simp [Part.same], (ObjectsKept.refl os u).of_status (by simp), by simp⟩

theorem Touches.setRow {ps : List Part} {os : List (Nat × Nat)} {s u : State} {i j r : Nat} (h : Touches ps os s u)
    (m : (i, j) ∈ os) (hj : j < 256) (hr : r < 0x1000000) (n : Nat) : Touches ps os s (u.setRow i j r n) :=
  h.trans ⟨fun p _ => by cases p <;> simp [Part.same], (ObjectsKept.refl os u).write (.inl m) hj hr _ _ rfl, by simp⟩

theorem Touches.bump {ps : List Part} {os : List (Nat × Nat)} {s u : State} {i j r : Nat} (h : Touches ps os s u)
    (m : (i, j) ∈ os) (hj : j < 256) (hr : r < 0x1000000) : Touches ps os s (u.bump i j r) := h.setRow m hj hr _

theorem Touches.onPower {ps : List Part} {os : List (Nat × Nat)} {s u : State} (h : Touches ps os s u) (m : Part.power ∈ ps)
    (f : PowerSt → PowerSt) : Touches ps os s (u.onPower f) :=
  h.trans ⟨fun p hp => by cases p <;> first | exact absurd m hp | simp [Part.same], (ObjectsKept.refl os u).of_status (by simp), by simp⟩

theorem Touches.onTime {ps : List Part} {os : List (Nat × Nat)} {s u : State} (h : Touches ps os s u) (m : Part.time ∈ ps)
    (f : TimeSt → TimeSt) : Touches ps os s (u.onTime f) :=
  h.trans ⟨fun p hp => by cases p <;> first | exact absurd m hp | simp [Part.same], (ObjectsKept.refl os u).of_status (by simp), by simp⟩

theorem Touches.onPorts {ps : List Part} {os : List (Nat × Nat)} {s u : State} (h : Touches ps os s u) (m : Part.port ∈ ps)
    (f : PortSt → PortSt) : Touches ps os s (u.onPorts f) :=
  h.trans ⟨fun p hp => by cases p <;> first | exact absurd m hp | simp [Part.same], (ObjectsKept.refl os u).of_status (by simp), by simp⟩

theorem Touches.onIngest {ps : List Part} {os : List (Nat × Nat)} {s u : State} (h : Touches ps os s u) (m : Part.ingest ∈ ps)
    (f : IngestSt → IngestSt) : Touches ps os s (u.onIngest f) :=
  h.trans ⟨fun p hp => by cases p <;> first | exact absurd m hp | simp [Part.same], (ObjectsKept.refl os u).of_status (by simp), by simp⟩

theorem Touches.onPlace {ps : List Part} {os : List (Nat × Nat)} {s u : State} (h : Touches ps os s u) (m : Part.place ∈ ps)
    (f : PlaceSt → PlaceSt) : Touches ps os s (u.onPlace f) :=
  h.trans ⟨fun p hp => by cases p <;> first | exact absurd m hp | simp [Part.same], (ObjectsKept.refl os u).of_status (by simp), by simp⟩

theorem Touches.onEddy {ps : List Part} {os : List (Nat × Nat)} {s u : State} (h : Touches ps os s u) (m : Part.eddy ∈ ps)
    (f : EddySt → EddySt) : Touches ps os s (u.onEddy f) :=
  h.trans ⟨fun p hp => by cases p <;> first | exact absurd m hp | simp [Part.same], (ObjectsKept.refl os u).of_status (by simp), by simp⟩

theorem Touches.onOxbow {ps : List Part} {os : List (Nat × Nat)} {s u : State} (h : Touches ps os s u) (m : Part.oxbow ∈ ps)
    (f : OxbowSt → OxbowSt) : Touches ps os s (u.onOxbow f) :=
  h.trans ⟨fun p hp => by cases p <;> first | exact absurd m hp | simp [Part.same], (ObjectsKept.refl os u).of_status (by simp), by simp⟩

theorem Touches.onAlarm {ps : List Part} {os : List (Nat × Nat)} {s u : State} (h : Touches ps os s u) (m : Part.alarm ∈ ps)
    (f : AlarmSt → AlarmSt) : Touches ps os s (u.onAlarm f) :=
  h.trans ⟨fun p hp => by cases p <;> first | exact absurd m hp | simp [Part.same], (ObjectsKept.refl os u).of_status (by simp), by simp⟩

theorem Touches.onPub {ps : List Part} {os : List (Nat × Nat)} {s u : State} (h : Touches ps os s u) (m : Part.pub ∈ ps)
    (f : PubSt → PubSt) : Touches ps os s (u.onPub f) :=
  h.trans ⟨fun p hp => by cases p <;> first | exact absurd m hp | simp [Part.same], (ObjectsKept.refl os u).of_status (by simp), by simp⟩

theorem Touches.onHead {ps : List Part} {os : List (Nat × Nat)} {s u : State} (h : Touches ps os s u) (m : Part.head ∈ ps)
    (f : HeadSt → HeadSt) : Touches ps os s (u.onHead f) :=
  h.trans ⟨fun p hp => by cases p <;> first | exact absurd m hp | simp [Part.same], (ObjectsKept.refl os u).of_status (by simp), by simp⟩

theorem Touches.onCapture {ps : List Part} {os : List (Nat × Nat)} {s u : State} (h : Touches ps os s u) (m : Part.capture ∈ ps)
    (f : CaptureSt → CaptureSt) : Touches ps os s (u.onCapture f) :=
  h.trans ⟨fun p hp => by cases p <;> first | exact absurd m hp | simp [Part.same], (ObjectsKept.refl os u).of_status (by simp), by simp⟩

theorem Touches.onLeash {ps : List Part} {os : List (Nat × Nat)} {s u : State} (h : Touches ps os s u) (m : Part.leash ∈ ps)
    (f : LeashSt → LeashSt) : Touches ps os s (u.onLeash f) :=
  h.trans ⟨fun p hp => by cases p <;> first | exact absurd m hp | simp [Part.same], (ObjectsKept.refl os u).of_status (by simp), by simp⟩

theorem Touches.onEnergy {ps : List Part} {os : List (Nat × Nat)} {s u : State} (h : Touches ps os s u) (m : Part.energy ∈ ps)
    (f : EnergySt → EnergySt) : Touches ps os s (u.onEnergy f) :=
  h.trans ⟨fun p hp => by cases p <;> first | exact absurd m hp | simp [Part.same], (ObjectsKept.refl os u).of_status (by simp), by simp⟩

theorem Touches.onJobs {ps : List Part} {os : List (Nat × Nat)} {s u : State} (h : Touches ps os s u) (m : Part.jobs ∈ ps)
    (f : JobSt → JobSt) : Touches ps os s (u.onJobs f) :=
  h.trans ⟨fun p hp => by cases p <;> first | exact absurd m hp | simp [Part.same], (ObjectsKept.refl os u).of_status (by simp), by simp⟩

theorem Touches.onImian {ps : List Part} {os : List (Nat × Nat)} {s u : State} (h : Touches ps os s u) (m : Part.imian ∈ ps)
    (f : ImianSt → ImianSt) : Touches ps os s (u.onImian f) :=
  h.trans ⟨fun p hp => by cases p <;> first | exact absurd m hp | simp [Part.same], (ObjectsKept.refl os u).of_status (by simp), by simp⟩

theorem Touches.onSets {ps : List Part} {os : List (Nat × Nat)} {s u : State} (h : Touches ps os s u) (m : Part.sets ∈ ps)
    (f : SetSt → SetSt) : Touches ps os s (u.onSets f) :=
  h.trans ⟨fun p hp => by cases p <;> first | exact absurd m hp | simp [Part.same], (ObjectsKept.refl os u).of_status (by simp), by simp⟩

theorem Touches.onHost {ps : List Part} {os : List (Nat × Nat)} {s u : State} (h : Touches ps os s u) (m : Part.host ∈ ps)
    (f : HostSt → HostSt) : Touches ps os s (u.onHost f) :=
  h.trans ⟨fun p hp => by cases p <;> first | exact absurd m hp | simp [Part.same], (ObjectsKept.refl os u).of_status (by simp), by simp⟩

theorem Touches.onHk {ps : List Part} {os : List (Nat × Nat)} {s u : State} (h : Touches ps os s u) (m : Part.hk ∈ ps)
    (f : HkSt → HkSt) : Touches ps os s (u.onHk f) :=
  h.trans ⟨fun p hp => by cases p <;> first | exact absurd m hp | simp [Part.same], (ObjectsKept.refl os u).of_status (by simp), by simp⟩

theorem Touches.onKeys {ps : List Part} {os : List (Nat × Nat)} {s u : State} (h : Touches ps os s u) (m : Part.keys ∈ ps)
    (f : KeySt → KeySt) : Touches ps os s (u.onKeys f) :=
  h.trans ⟨fun p hp => by cases p <;> first | exact absurd m hp | simp [Part.same], (ObjectsKept.refl os u).of_status (by simp), by simp⟩

theorem Touches.onDuplex {ps : List Part} {os : List (Nat × Nat)} {s u : State} (h : Touches ps os s u) (m : Part.duplex ∈ ps)
    (f : DuplexSt → DuplexSt) : Touches ps os s (u.onDuplex f) :=
  h.trans ⟨fun p hp => by cases p <;> first | exact absurd m hp | simp [Part.same], (ObjectsKept.refl os u).of_status (by simp), by simp⟩

theorem Touches.onLog {ps : List Part} {os : List (Nat × Nat)} {s u : State} (h : Touches ps os s u) (f : LogSt → LogSt) :
    Touches ps os s (u.onLog f) :=
  h.trans ⟨fun p _ => by cases p <;> simp [Part.same], (ObjectsKept.refl os u).of_status (by simp), by simp⟩

theorem Touches.setLive {ps : List Part} {os : List (Nat × Nat)} {s u : State} (h : Touches ps os s u) (m : Part.live ∈ ps) (i j r : Nat)
    (v : Val) : Touches ps os s (u.setLive i j r v) :=
  h.trans ⟨fun p hp => by cases p <;> first | exact absurd m hp | simp [Part.same], (ObjectsKept.refl os u).of_status (by simp), by simp⟩

/-- An accounted request: counters 0x1120:01 and :02, and its session's use. -/
theorem Touches.account {ps : List Part} {os : List (Nat × Nat)} {s u : State} (h : Touches ps os s u) (m : Part.imian ∈ ps)
    (h1 : (0x1120, 1) ∈ os) (h2 : (0x1120, 2) ∈ os) (w : Who) (n : Nat) : Touches ps os s (account w n u) := by
  have a := h.bump (r := noRow) h1 (by omega) (by decide)
  have b : Touches ps os s (if n = 0 then u.bump 0x1120 0x01 else (u.bump 0x1120 0x01).bump 0x1120 0x02) := by
    split
    · exact a
    · exact a.bump h2 (by omega) (by decide)
  unfold Machine.account
  dsimp only
  split
  · split
    · exact b.onImian m _
    · exact b
  · exact b.onImian m _
  · exact b

end Sys2Proof.Machine
end

