-- ==== Sys2Proof/Machine/TestPort.lean ====
section
/-! DEFINITION. The IEEE 1149.1 test port (R714).  The opcode table has no command for its pins, so no command changes its instruction
(assumption 94). -/

namespace Sys2Proof.Machine
open Sys2Proof

/-- The identification code. -/
def testIdcode : Nat := 0x18640A3B

/-- What an instruction of the test port acts as: EXTEST and CLAMP take effect only while RESET_N is low, else they act as BYPASS. -/
def testActs (resetLow : Bool) (i : TestInstr) : TestInstr :=
  match i with
  | .extest => if resetLow then .extest else .bypass
  | .clamp => if resetLow then .clamp else .bypass
  | .bypass => .bypass
  | .idcode => .idcode
  | .sample => .sample

/-- The instruction in effect now. -/
def State.testActs (s : State) : TestInstr := Machine.testActs s.power.resetLow s.testPort

/-- The bits the selected data register captures, as width and value: BYPASS and CLAMP one bit 0, IDCODE the 32-bit code; the boundary register,
whose cells the spec does not list in order, gives none. -/
def testCapture (i : TestInstr) : Option (Nat × Nat) :=
  match i with
  | .bypass => some (1, 0)
  | .clamp => some (1, 0)
  | .idcode => some (32, testIdcode)
  | .sample => none
  | .extest => none

/-- The test port drives the pins from its boundary register. -/
def testDrivesPins (s : State) : Bool := s.testActs == .extest || s.testActs == .clamp

end Sys2Proof.Machine
end

