-- ==== Sys2Proof/WellFormed.lean ====
section
/-! DEFINITION. Well-formed commands: numbers in the ranges the spec gives the things they name, senders that exist, access widths of a bus. -/

namespace Sys2Proof

/-- A sender that exists: DTLS sessions 0 to 15, the mailbox, CAN FD controllers 0 and 1 (R532, R534). -/
def Who.exists_ : Who → Bool
  | .dtls n => n < 16
  | .mailbox => true
  | .can n => n < 2

/-- The sender of a command that has one. -/
def Instr.sender : Instr → Option Who
  | .stepToSource _ who => some who
  | .setT96 _ who _ => some who
  | .pulseArm _ who _ _ => some who
  | .clearPortCounters _ who => some who
  | .streamEnable _ who _ _ => some who
  | .requestHeader _ who _ => some who
  | .clearIngestCounters _ who => some who
  | .resumeSpeculation _ who _ => some who
  | .clearAlignmentCounters _ who => some who
  | .rebalanceNow _ who => some who
  | .restoreRetiredSlices _ who => some who
  | .clearPlacementCounters _ who => some who
  | .resetModeMeter _ who => some who
  | .clearEddyCounters _ who => some who
  | .clearOxbowCounters _ who => some who
  | .acknowledge _ who _ => some who
  | .pinTest _ who _ => some who
  | .clearAlarmCounters _ who => some who
  | .freezeRing _ who => some who
  | .releaseRing _ who => some who
  | .exportRing _ who => some who
  | .clearPublishingCounters _ who => some who
  | .feederEnable _ who _ _ => some who
  | .switchFilterBank _ who _ => some who
  | .peakSinceRead _ who _ => some who
  | .localStreamEnable _ who _ _ => some who
  | .clearHeadwaterCounters _ who => some who
  | .captureEnable _ who _ => some who
  | .triggerCapture _ who _ => some who
  | .exportRecord _ who _ => some who
  | .releaseRecord _ who _ => some who
  | .recalibrateLeash _ who => some who
  | .clearCaptureCounters _ who => some who
  | .takeSnapshot _ who => some who
  | .clearEnergyRegisters _ who _ => some who
  | .acknowledgeWraps _ who _ => some who
  | .resetMaximumDemand _ who _ => some who
  | .clearEnergyCounters _ who => some who
  | .jobEnable _ who _ _ => some who
  | .runJobNow _ who _ => some who
  | .clearJobStatistics _ who => some who
  | .imianRead _ who _ => some who
  | .imianWrite _ who _ => some who
  | .readSeg _ who _ => some who
  | .writeSeg _ who _ => some who
  | .subscribe _ who _ => some who
  | .summary _ who _ => some who
  | .closeSession _ who _ => some who
  | .validateShadow _ who => some who
  | .swap _ who _ => some who
  | .sync _ who => some who
  | .cancelSwap _ who => some who
  | .resetDevice _ who => some who
  | .sluicePop _ who _ => some who
  | .clearHostCounters _ who => some who
  | .calibrateAdc _ who => some who
  | .testChannel _ who _ => some who
  | .freezeLog _ who => some who
  | .releaseLogFreeze _ who => some who
  | .clearEventLog _ who => some who
  | .clearHousekeepingCounters _ who => some who
  | .enterSentinel _ who => some who
  | .enterKennel _ who => some who
  | .restartCdie _ who => some who
  | .clearPowerCounters _ who => some who
  | .applyKeyUpdate _ who => some who
  | .attest _ who _ => some who
  | .abortUpdate _ who => some who
  | .activate _ who => some who
  | .confirmUpdate _ who => some who
  | .revertUpdate _ who => some who
  | .handOverLead _ who => some who
  | .resynchronise _ who => some who
  | .packWake _ who _ => some who
  | .clearRedundancyCounters _ who => some who
  | .ptpMessageRx .. | .ppsEdge .. | .irigBFrameRx .. | .sourceQualified .. | .sourceDisqualified .. | .switchDelayExpiry .. |
    .holdoverLimitExceeded .. | .trefOutOfRange .. | .trefLost .. | .trefRestored .. | .startLockTimeout .. | .leapSecondApplied .. |
    .kennelTimeLatch .. | .referenceBusLost .. | .gatRequalification .. | .nominalCleared .. | .trigInEdge .. | .pulseInstant .. | .linkUp .. |
    .linkDown .. | .linkRefused .. | .rxFrame .. | .pauseExpiry .. | .txFrameStart .. | .txUnderrun .. | .gateEntryChange .. | .gateListChange .. |
    .prpSupervisionTx .. | .prpNodeForget .. | .prpPortSilent .. | .ingestDatagram .. | .spduRx .. | .reassemblyTimeout .. | .sessionConnected .. |
    .sessionTimeout .. | .sessionBackoffExpiry .. | .streamSilenceTimeout .. | .admissionCollectionClose .. | .streamStopped .. |
    .adoptionGraceExpiry .. | .oldStreamTableExpiry .. | .partnerStatusWindowEnd .. | .slotOpen .. | .speculativeWaitExpiry .. |
    .maximumWaitExpiry .. | .recallDue .. | .suspensionExpiry .. | .checkpointError .. | .utilisationSample .. | .migrationContextLoaded .. |
    .migrationDoubleReceive .. | .migrationCutover .. | .migrationAbandon .. | .sliceFault .. | .takeoverComplete .. | .spareSelfCheck .. |
    .parkDelayExpiry .. | .modeRefresh .. | .locationResult .. | .interharmonicWindowEnd .. | .vectorShiftHoldExpiry .. | .localRuleUpdate .. |
    .ruleEngineHeartbeat .. | .heartbeatLoss .. | .minimumAlarmTimeExpiry .. | .pinTestEnd .. | .alarmFrameRepeat .. | .alarmHeartbeat .. |
    .tokenRefill .. | .alarmStormEnd .. | .gooseRetransmit .. | .outputCommandRx .. | .archiveDescriptorPost .. | .ringExportComplete .. |
    .feederOn .. | .feederStopped .. | .returnDelayMean .. | .modulatorFault .. | .modulatorFaultCleared .. | .sample12K8 .. | .cycleWindowEnd .. |
    .estimatorOutput .. | .bankFadeComplete .. | .localStreamOn .. | .svLost .. | .captureRow .. | .recordClose .. | .captureOverflow .. |
    .rearmComplete .. | .recordExportComplete .. | .leashMessageRx .. | .leashSend .. | .leashAct .. | .leashCalibrate .. | .demandIntervalEnd .. |
    .thermistorUpdate .. | .temperatureTimeout .. | .energySave .. | .jobDue .. | .jobDispatch .. | .jobWaitExpiry .. | .jobRunEnd .. |
    .segmentTransferTimeout .. | .subscriptionNotify .. | .dtlsHandshake .. | .sessionIdleTimeout .. | .mailboxGo .. | .mailboxAck .. |
    .canRequest .. | .validationEnd .. | .swapInstant .. | .qDataRead .. | .qRptrWrite .. | .qCtrlClearLost .. | .qCtrlClearUnderrun .. |
    .qModeWrite .. | .qTestPush .. | .sluiceIrqDelay .. | .intStatusClear .. | .ringEnable .. | .ringRdDoorbell .. | .barLowHalfWrite .. |
    .barWrite .. | .functionReset .. | .pcieLinkUp .. | .pcieLinkDown .. | .byrdoLockstepMismatch .. | .byrdoWatchdogExpiry .. |
    .byrdoRestartComplete .. | .heldCounterCopy .. | .hkFixedSlot .. | .hkScan .. | .hkConvert .. | .hkCalibrate .. | .calibrationEnd .. |
    .faultLimit .. | .channelTestEnd .. | .eventPost .. | .eventLogWrite .. | .logFreezeTimeout .. | .summaryWindowEnd .. | .wakeSource .. |
    .wakeStageEnd .. | .wakeDischargeEnd .. | .supplyLoss .. | .resetNRelease .. | .powerFailWarning .. | .powerFailRelease .. |
    .selfTestComplete .. | .enterRun .. | .cdieFatalError .. | .d2dLinkLost .. | .packageMemoryLost .. | .automaticRestart .. | .cdieRestartEnd .. |
    .automaticReset .. | .shepherdValid .. | .shepherdFailure .. | .shepherdMinimumAlarmExpiry .. | .tamper .. | .attestationComplete .. |
    .trialWindowExpiry .. | .mirrorFrameRx .. | .mirrorSupervisionTx .. | .peerLoss .. | .leadAloneTimeout .. | .wheelInStep .. |
    .pairSwapAckTimeout .. | .packExchangeLate .. | .homeDutyTransferred .. | .pulseEnd .. | .unparkingEnd .. | .resetNAsserted .. |
    .sessionClosedByClient .. | .detached .. | .vbatLost .. => none

/-- The numbered things a command names, each with the count of such things (ports, streams, rules, rows …; the object tables give the
counts); a row a request names has 24 bits, whatever the object has. -/
def Instr.numbers : Instr → List (Nat × Nat)
  | .ptpMessageRx _ port _ _ _ => [(port, 8)]
  | .sourceQualified _ src => [(src, 8)]
  | .sourceDisqualified _ src => [(src, 8)]
  | .trigInEdge _ input _ => [(input, 4)]
  | .pulseInstant _ out => [(out, 4)]
  | .pulseArm _ _ out _ => [(out, 16777216)]
  | .linkUp _ port => [(port, 8)]
  | .linkDown _ port _ => [(port, 8)]
  | .linkRefused _ port _ => [(port, 8)]
  | .rxFrame _ port _ _ _ => [(port, 8)]
  | .pauseExpiry _ port => [(port, 8)]
  | .txFrameStart _ port => [(port, 8)]
  | .txUnderrun _ port => [(port, 8)]
  | .gateEntryChange _ port => [(port, 8)]
  | .gateListChange _ port => [(port, 8)]
  | .prpSupervisionTx _ pair => [(pair, 3)]
  | .prpNodeForget _ pair _ => [(pair, 3)]
  | .prpPortSilent _ port => [(port, 8)]
  | .ingestDatagram _ port _ => [(port, 8)]
  | .spduRx _ port _ => [(port, 8)]
  | .sessionConnected _ stream => [(stream, 20484)]
  | .sessionTimeout _ stream => [(stream, 20484)]
  | .sessionBackoffExpiry _ stream => [(stream, 20484)]
  | .streamSilenceTimeout _ stream => [(stream, 20484)]
  | .streamEnable _ _ stream _ => [(stream, 16777216)]
  | .streamStopped _ stream => [(stream, 20484)]
  | .adoptionGraceExpiry _ stream => [(stream, 20484)]
  | .requestHeader _ _ stream => [(stream, 16777216)]
  | .slotOpen _ group => [(group, 64)]
  | .speculativeWaitExpiry _ group _ => [(group, 64)]
  | .maximumWaitExpiry _ group _ => [(group, 64)]
  | .recallDue _ group => [(group, 64)]
  | .suspensionExpiry _ group => [(group, 64)]
  | .resumeSpeculation _ _ group => [(group, 16777216)]
  | .checkpointError _ group => [(group, 64)]
  | .migrationContextLoaded _ stream => [(stream, 20484)]
  | .migrationDoubleReceive _ stream => [(stream, 20484)]
  | .migrationCutover _ stream => [(stream, 20484)]
  | .migrationAbandon _ stream _ _ => [(stream, 20484)]
  | .sliceFault _ slice _ => [(slice, 68)]
  | .takeoverComplete _ slice => [(slice, 68)]
  | .spareSelfCheck _ slice _ => [(slice, 68)]
  | .vectorShiftHoldExpiry _ row => [(row, 4)]
  | .localRuleUpdate _ rule => [(rule, 4096)]
  | .acknowledge _ _ rule => [(rule, 16777216)]
  | .minimumAlarmTimeExpiry _ pin => [(pin, 8)]
  | .pinTest _ _ pin => [(pin, 16777216)]
  | .pinTestEnd _ pin => [(pin, 8)]
  | .alarmFrameRepeat _ rule => [(rule, 4096)]
  | .tokenRefill _ port => [(port, 8)]
  | .alarmStormEnd _ port => [(port, 8)]
  | .gooseRetransmit _ dataset => [(dataset, 16)]
  | .outputCommandRx _ pair _ _ _ => [(pair, 3)]
  | .feederEnable _ _ feeder _ => [(feeder, 16777216)]
  | .feederOn _ feeder => [(feeder, 4)]
  | .feederStopped _ feeder => [(feeder, 4)]
  | .returnDelayMean _ channel _ => [(channel, 24)]
  | .modulatorFault _ channel => [(channel, 24)]
  | .modulatorFaultCleared _ channel => [(channel, 24)]
  | .estimatorOutput _ feeder _ _ => [(feeder, 4)]
  | .peakSinceRead _ _ channel => [(channel, 16777216)]
  | .localStreamEnable _ _ stream _ => [(stream, 16777216)]
  | .localStreamOn _ stream => [(stream, 20484)]
  | .svLost _ row => [(row, 4)]
  | .exportRecord _ _ row => [(row, 16777216)]
  | .releaseRecord _ _ row => [(row, 16777216)]
  | .temperatureTimeout _ channel => [(channel, 24)]
  | .clearEnergyRegisters _ _ feeder => [(feeder, 16777216)]
  | .acknowledgeWraps _ _ feeder => [(feeder, 16777216)]
  | .resetMaximumDemand _ _ feeder => [(feeder, 16777216)]
  | .jobDue _ job => [(job, 4096)]
  | .jobDispatch _ job => [(job, 4096)]
  | .jobWaitExpiry _ job => [(job, 4096)]
  | .jobRunEnd _ job => [(job, 4096)]
  | .jobEnable _ _ job _ => [(job, 16777216)]
  | .runJobNow _ _ job => [(job, 16777216)]
  | .segmentTransferTimeout _ idx sub row => [(idx, 65536), (sub, 256), (row, 16777216)]
  | .subscriptionNotify _ session _ => [(session, 16)]
  | .sessionIdleTimeout _ session => [(session, 16)]
  | .closeSession _ _ session => [(session, 16777216)]
  | .canRequest _ controller id _ _ => [(controller, 2), (id, 2048)]
  | .qDataRead _ q => [(q, 8)]
  | .qRptrWrite _ q _ => [(q, 8)]
  | .qCtrlClearLost _ q => [(q, 8)]
  | .qCtrlClearUnderrun _ q => [(q, 8)]
  | .qModeWrite _ q _ => [(q, 8)]
  | .qTestPush _ q _ => [(q, 8)]
  | .sluiceIrqDelay _ q => [(q, 8)]
  | .ringEnable _ ring _ _ => [(ring, 2)]
  | .ringRdDoorbell _ ring _ => [(ring, 2)]
  | .barLowHalfWrite _ _ offset _ => [(offset, 4194304)]
  | .barWrite _ _ offset _ _ => [(offset, 4194304)]
  | .pcieLinkUp _ speed width => [(speed, 5), (width, 5)]
  | .sluicePop _ _ q => [(q, 16777216)]
  | .hkConvert _ channel _ => [(channel, 32)]
  | .faultLimit _ channel => [(channel, 24)]
  | .testChannel _ _ channel => [(channel, 16777216)]
  | .eventPost _ code _ _ => [(code, 65536)]
  | .packageMemoryLost _ channel => [(channel, 8)]
  | .shepherdMinimumAlarmExpiry _ pin => [(pin, 8)]
  | .tamper _ input => [(input, 4)]
  | .mirrorFrameRx _ path _ => [(path, 3)]
  | .packExchangeLate _ group _ _ member => [(group, 64), (member, 16)]
  | .homeDutyTransferred _ member => [(member, 16)]
  | .packWake _ _ member => [(member, 16777216)]
  | .pulseEnd _ out => [(out, 4)]
  | .sessionClosedByClient _ session => [(session, 16)]
  | .ppsEdge .. | .irigBFrameRx .. | .switchDelayExpiry .. | .holdoverLimitExceeded .. | .trefOutOfRange .. | .trefLost .. | .trefRestored .. |
    .startLockTimeout .. | .stepToSource .. | .setT96 .. | .leapSecondApplied .. | .kennelTimeLatch .. | .referenceBusLost .. |
    .gatRequalification .. | .nominalCleared .. | .clearPortCounters .. | .reassemblyTimeout .. | .admissionCollectionClose .. |
    .oldStreamTableExpiry .. | .partnerStatusWindowEnd .. | .clearIngestCounters .. | .clearAlignmentCounters .. | .utilisationSample .. |
    .parkDelayExpiry .. | .rebalanceNow .. | .restoreRetiredSlices .. | .clearPlacementCounters .. | .modeRefresh .. | .locationResult .. |
    .interharmonicWindowEnd .. | .resetModeMeter .. | .clearEddyCounters .. | .clearOxbowCounters .. | .ruleEngineHeartbeat .. | .heartbeatLoss .. |
    .alarmHeartbeat .. | .clearAlarmCounters .. | .archiveDescriptorPost .. | .freezeRing .. | .releaseRing .. | .exportRing .. |
    .ringExportComplete .. | .clearPublishingCounters .. | .sample12K8 .. | .cycleWindowEnd .. | .switchFilterBank .. | .bankFadeComplete .. |
    .clearHeadwaterCounters .. | .captureRow .. | .captureEnable .. | .triggerCapture .. | .recordClose .. | .captureOverflow .. |
    .rearmComplete .. | .recordExportComplete .. | .leashMessageRx .. | .leashSend .. | .leashAct .. | .leashCalibrate .. | .recalibrateLeash .. |
    .clearCaptureCounters .. | .demandIntervalEnd .. | .thermistorUpdate .. | .energySave .. | .takeSnapshot .. | .clearEnergyCounters .. |
    .clearJobStatistics .. | .imianRead .. | .imianWrite .. | .readSeg .. | .writeSeg .. | .subscribe .. | .summary .. | .dtlsHandshake .. |
    .mailboxGo .. | .mailboxAck .. | .validateShadow .. | .validationEnd .. | .swap .. | .swapInstant .. | .sync .. | .cancelSwap .. |
    .resetDevice .. | .intStatusClear .. | .functionReset .. | .pcieLinkDown .. | .clearHostCounters .. | .byrdoLockstepMismatch .. |
    .byrdoWatchdogExpiry .. | .byrdoRestartComplete .. | .heldCounterCopy .. | .hkFixedSlot .. | .hkScan .. | .hkCalibrate .. | .calibrateAdc .. |
    .calibrationEnd .. | .channelTestEnd .. | .eventLogWrite .. | .freezeLog .. | .releaseLogFreeze .. | .logFreezeTimeout .. | .clearEventLog .. |
    .clearHousekeepingCounters .. | .summaryWindowEnd .. | .wakeSource .. | .wakeStageEnd .. | .wakeDischargeEnd .. | .supplyLoss .. |
    .resetNRelease .. | .powerFailWarning .. | .powerFailRelease .. | .selfTestComplete .. | .enterRun .. | .cdieFatalError .. | .d2dLinkLost .. |
    .enterSentinel .. | .enterKennel .. | .restartCdie .. | .automaticRestart .. | .cdieRestartEnd .. | .automaticReset .. | .clearPowerCounters .. |
    .shepherdValid .. | .shepherdFailure .. | .applyKeyUpdate .. | .attest .. | .attestationComplete .. | .abortUpdate .. | .activate .. |
    .confirmUpdate .. | .revertUpdate .. | .trialWindowExpiry .. | .mirrorSupervisionTx .. | .peerLoss .. | .leadAloneTimeout .. | .wheelInStep .. |
    .handOverLead .. | .resynchronise .. | .pairSwapAckTimeout .. | .clearRedundancyCounters .. | .unparkingEnd .. | .resetNAsserted .. |
    .detached .. | .vbatLost .. => []

/-- The width of a BAR access, 4 where the command has none. -/
def Instr.accessWidth : Instr → Nat
  | .barWrite _ _ _ width _ => width
  | .ptpMessageRx .. | .ppsEdge .. | .irigBFrameRx .. | .sourceQualified .. | .sourceDisqualified .. | .switchDelayExpiry .. |
    .holdoverLimitExceeded .. | .trefOutOfRange .. | .trefLost .. | .trefRestored .. | .startLockTimeout .. | .stepToSource .. | .setT96 .. |
    .leapSecondApplied .. | .kennelTimeLatch .. | .referenceBusLost .. | .gatRequalification .. | .nominalCleared .. | .trigInEdge .. |
    .pulseInstant .. | .pulseArm .. | .linkUp .. | .linkDown .. | .linkRefused .. | .rxFrame .. | .pauseExpiry .. | .txFrameStart .. |
    .txUnderrun .. | .gateEntryChange .. | .gateListChange .. | .prpSupervisionTx .. | .prpNodeForget .. | .prpPortSilent .. |
    .clearPortCounters .. | .ingestDatagram .. | .spduRx .. | .reassemblyTimeout .. | .sessionConnected .. | .sessionTimeout .. |
    .sessionBackoffExpiry .. | .streamSilenceTimeout .. | .streamEnable .. | .admissionCollectionClose .. | .streamStopped .. |
    .adoptionGraceExpiry .. | .oldStreamTableExpiry .. | .partnerStatusWindowEnd .. | .requestHeader .. | .clearIngestCounters .. | .slotOpen .. |
    .speculativeWaitExpiry .. | .maximumWaitExpiry .. | .recallDue .. | .suspensionExpiry .. | .resumeSpeculation .. | .checkpointError .. |
    .clearAlignmentCounters .. | .utilisationSample .. | .migrationContextLoaded .. | .migrationDoubleReceive .. | .migrationCutover .. |
    .migrationAbandon .. | .sliceFault .. | .takeoverComplete .. | .spareSelfCheck .. | .parkDelayExpiry .. | .rebalanceNow .. |
    .restoreRetiredSlices .. | .clearPlacementCounters .. | .modeRefresh .. | .locationResult .. | .interharmonicWindowEnd .. | .resetModeMeter .. |
    .clearEddyCounters .. | .vectorShiftHoldExpiry .. | .clearOxbowCounters .. | .localRuleUpdate .. | .acknowledge .. | .ruleEngineHeartbeat .. |
    .heartbeatLoss .. | .minimumAlarmTimeExpiry .. | .pinTest .. | .pinTestEnd .. | .alarmFrameRepeat .. | .alarmHeartbeat .. | .tokenRefill .. |
    .alarmStormEnd .. | .gooseRetransmit .. | .clearAlarmCounters .. | .outputCommandRx .. | .archiveDescriptorPost .. | .freezeRing .. |
    .releaseRing .. | .exportRing .. | .ringExportComplete .. | .clearPublishingCounters .. | .feederEnable .. | .feederOn .. | .feederStopped .. |
    .returnDelayMean .. | .modulatorFault .. | .modulatorFaultCleared .. | .sample12K8 .. | .cycleWindowEnd .. | .estimatorOutput .. |
    .switchFilterBank .. | .bankFadeComplete .. | .peakSinceRead .. | .localStreamEnable .. | .localStreamOn .. | .svLost .. |
    .clearHeadwaterCounters .. | .captureRow .. | .captureEnable .. | .triggerCapture .. | .recordClose .. | .captureOverflow .. |
    .rearmComplete .. | .exportRecord .. | .recordExportComplete .. | .releaseRecord .. | .leashMessageRx .. | .leashSend .. | .leashAct .. |
    .leashCalibrate .. | .recalibrateLeash .. | .clearCaptureCounters .. | .demandIntervalEnd .. | .thermistorUpdate .. | .temperatureTimeout .. |
    .energySave .. | .takeSnapshot .. | .clearEnergyRegisters .. | .acknowledgeWraps .. | .resetMaximumDemand .. | .clearEnergyCounters .. |
    .jobDue .. | .jobDispatch .. | .jobWaitExpiry .. | .jobRunEnd .. | .jobEnable .. | .runJobNow .. | .clearJobStatistics .. | .imianRead .. |
    .imianWrite .. | .readSeg .. | .writeSeg .. | .segmentTransferTimeout .. | .subscribe .. | .subscriptionNotify .. | .summary .. |
    .dtlsHandshake .. | .sessionIdleTimeout .. | .closeSession .. | .mailboxGo .. | .mailboxAck .. | .canRequest .. | .validateShadow .. |
    .validationEnd .. | .swap .. | .swapInstant .. | .sync .. | .cancelSwap .. | .resetDevice .. | .qDataRead .. | .qRptrWrite .. |
    .qCtrlClearLost .. | .qCtrlClearUnderrun .. | .qModeWrite .. | .qTestPush .. | .sluiceIrqDelay .. | .intStatusClear .. | .ringEnable .. |
    .ringRdDoorbell .. | .barLowHalfWrite .. | .functionReset .. | .pcieLinkUp .. | .pcieLinkDown .. | .sluicePop .. | .clearHostCounters .. |
    .byrdoLockstepMismatch .. | .byrdoWatchdogExpiry .. | .byrdoRestartComplete .. | .heldCounterCopy .. | .hkFixedSlot .. | .hkScan .. |
    .hkConvert .. | .hkCalibrate .. | .calibrateAdc .. | .calibrationEnd .. | .faultLimit .. | .testChannel .. | .channelTestEnd .. | .eventPost .. |
    .eventLogWrite .. | .freezeLog .. | .releaseLogFreeze .. | .logFreezeTimeout .. | .clearEventLog .. | .clearHousekeepingCounters .. |
    .summaryWindowEnd .. | .wakeSource .. | .wakeStageEnd .. | .wakeDischargeEnd .. | .supplyLoss .. | .resetNRelease .. | .powerFailWarning .. |
    .powerFailRelease .. | .selfTestComplete .. | .enterRun .. | .cdieFatalError .. | .d2dLinkLost .. | .packageMemoryLost .. | .enterSentinel .. |
    .enterKennel .. | .restartCdie .. | .automaticRestart .. | .cdieRestartEnd .. | .automaticReset .. | .clearPowerCounters .. | .shepherdValid .. |
    .shepherdFailure .. | .shepherdMinimumAlarmExpiry .. | .tamper .. | .applyKeyUpdate .. | .attest .. | .attestationComplete .. | .abortUpdate .. |
    .activate .. | .confirmUpdate .. | .revertUpdate .. | .trialWindowExpiry .. | .mirrorFrameRx .. | .mirrorSupervisionTx .. | .peerLoss .. |
    .leadAloneTimeout .. | .wheelInStep .. | .handOverLead .. | .resynchronise .. | .pairSwapAckTimeout .. | .packExchangeLate .. |
    .homeDutyTransferred .. | .packWake .. | .clearRedundancyCounters .. | .pulseEnd .. | .unparkingEnd .. | .resetNAsserted .. |
    .sessionClosedByClient .. | .detached .. | .vbatLost .. => 4

/-- A well-formed command. -/
def Instr.wellFormed (i : Instr) : Bool :=
  i.numbers.all (fun p => decide (p.1 < p.2)) && (match i.sender with | some w => w.exists_ | none => true) &&
    [1, 2, 4, 8].contains i.accessWidth

end Sys2Proof
end

