-- ==== Sys2Proof/Tests/Slice0.lean ====
section
/-! SUPPORT. Tests: the well-formedness smoke test, a few steps held against the rules, and for every hypothesis of every obligation a state
and operands that meet it. -/

namespace Sys2Proof.Machine
open Sys2Proof

section
set_option linter.unusedVariables false
set_option Elab.async false

/-! ### Well-formedness: each check refuses a term that breaks it -/

theorem test_wellFormed_accepts : (Instr.barWrite 0 0 0x2004 4 1).wellFormed = true ∧ (Instr.clearPortCounters 0 (.dtls 15)).wellFormed = true := by decide
/-- Port 8 does not exist (R93). -/
theorem test_wellFormed_refuses_a_number : (Instr.linkDown 0 8 0).wellFormed = false := by decide
/-- DTLS session 16 does not exist (R532). -/
theorem test_wellFormed_refuses_a_sender : (Instr.clearPortCounters 0 (.dtls 16)).wellFormed = false := by decide
/-- A BAR access of 3 bytes does not exist (R558). -/
theorem test_wellFormed_refuses_a_width : (Instr.barWrite 0 0 0x2004 3 1).wellFormed = false := by decide

/-! ### Values the rules give -/

/-- R639: the life-cycle of 0, 1, 2, 3 and 15 blown bits. -/
theorem test_life : [0, 1, 2, 3, 15].map lifeOf = [0, 1, 2, 3, 4] := by decide
/-- R721: severities of events that the table names, one of each class. -/
theorem test_severity : [0x1101, 0x1020, 0x2002, 0x2005, 0x2E05].map severityOf = [0, 1, 2, 3, 4] := by decide
/-- R559: a fill of WPTR 1 and RPTR 32,767 is 2 words. -/
theorem test_fill : ({ Sluice.reset with rptr := 32767, wptr := 1 } : Sluice).fill = 2 := by decide
/-- R518: Security Officer has not the Operator's rights, Engineer has. -/
theorem test_roles : roleHas 4 2 = false ∧ roleHas 3 2 = true ∧ roleHas 1 1 = true ∧ roleHas 4 4 = true := by decide
/-- R663: the fields of a bank word. -/
theorem test_bank_word : bankActive 0x10101 = 1 ∧ bankPrevious 0x10101 = 0 ∧ bankTrial 0x10101 = true ∧ bankAttempts 0x10101 = 1 := by decide
/-- A step on the empty queue idles (assumption 1). -/
theorem test_idle : step State.reset = .next State.reset := rfl

/-! ### Small states for the hypotheses -/

/-- A state in RUN with T96 set and GAT running, and a DTLS session 0 of an Engineer. -/
def wRun : State :=
  { State.reset with
    now := 10 ^ 15
    power := { PowerSt.reset with state := 2, selfTestPassed := true, setLoaded := true, ran := true, lockWaitOver := true }
    time := { TimeSt.reset with isSet := true, t96x := 5000 * 2 ^ 80, gatOn := true, gatx := 5000 * 50 * 2 ^ 64, gatRate := 50 * 2 ^ 32 }
    imian := { ImianSt.reset with sessions := [(0, ⟨3, [], [], 0, 0, 0, []⟩)] } }

/-- A state in START, T96 unset, self-test passed and the set loaded, with the same session. -/
def wStart : State :=
  { State.reset with
    now := 10 ^ 15, power := { PowerSt.reset with selfTestPassed := true, setLoaded := true }
    imian := wRun.imian }

/-- A state with objects of the active set changed. -/
def withCfg (s : State) (l : List (Nat × Nat × Nat × Nat)) : State :=
  { s with active := l.foldl (fun d e => writeIn d e.1 e.2.1 e.2.2.1 (.num e.2.2.2)) s.active }
/-- With RW objects changed. -/
def withLive (s : State) (l : List (Nat × Nat × Nat × Nat)) : State :=
  { s with live := l.foldl (fun d e => writeIn d e.1 e.2.1 e.2.2.1 (.num e.2.2.2)) s.live }
/-- With RO objects changed. -/
def withRo (s : State) (l : List (Nat × Nat × Nat × Nat)) : State :=
  { s with status := l.foldl (fun d e => writeIn d e.1 e.2.1 e.2.2.1 (.num e.2.2.2)) s.status }

/-- P4 has the address 77, and its link is up. -/
def wMac : State := { wRun.setPort 4 { Port.reset with link := 1 } with active := putKey (okey 0x2100 9 4) (.oct (be 6 77)) wRun.active }
/-- PTP runs on P4 and P5. -/
def wPtp : State := withCfg wRun [(0x2002, 8, noRow, 0x30), (0x2002, 1, noRow, 1)]
/-- A master is heard on P4. -/
def wMaster : State :=
  wPtp.onTime fun x => { x with ptpPort := some 4, announces := [(4, ⟨7, 8, 128, 6, 0x21, 100, 128, 1, 37, true, false, false, 10 ^ 15⟩)] }
/-- In START IRIG-B, first in the list, has been good for the qualification time, and is heard now. -/
def wIrig : State :=
  (withCfg wStart [(0x2004, 1, noRow, 1), (0x2001, 1, noRow, 3)]).onTime fun x =>
    { x with irig := { x.irig with okSince := some 0, offset := -10^18, lastSeen := 10 ^ 15 } }

/-- P4 is up with frames in two queues. -/
def wQueued : State := wRun.setPort 4 { Port.reset with link := 1, queues := [(2, [⟨be 60 9, 0, 0⟩]), (3, [⟨be 60 1, 0, 0⟩])] }
/-- Pair M sends supervision frames on both ports. -/
def wDanp : State :=
  let s := withCfg wRun [(0x2101, 1, 2, 1)]
  let s := { s with active := putKey (okey 0x2100 9 5) (.oct (be 6 78)) (putKey (okey 0x2100 9 4) (.oct (be 6 77)) s.active) }
  ((s.setPort 4 { Port.reset with link := 1 }).setPort 5 { Port.reset with link := 1 }).onPorts fun a => { a with pairState := [(2, 0)] }

/-- A SPDU row 7 in CONFIGURING, with the SPDU's number before. -/
def wSpdu : State :=
  let s := withRo (withCfg wRun [(0x2201, 3, 7, 1), (0x2201, 7, 7, 1), (0x2201, 0x0E, 7, 5)]) [(0x2203, 1, 7, 2)]
  let s := { s with active := writeIn (writeIn s.active 0x2201 4 7 (.oct (be 16 5))) 0x2201 0x10 7 (.oct (be 2 3)) }
  s.setStream 7 { Stream.reset with spduHigh := some 5000 }

/-- An ACTIVE stream 7 with a configuration without blocks. -/
def wCfg : PartnerCfg := ⟨false, 9, 1000, 50, [], []⟩
def wFed : State := (withRo (withCfg wRun [(0x2201, 2, 7, 9)]) [(0x2203, 1, 7, 3)]).setStream 7 { Stream.reset with cfg := some wCfg }

/-- An OPEN slot with one expected stream that has not arrived, whose speculative wait of 0 has passed with a floor of 0. -/
def wSlot : Slot :=
  { (default : Slot) with
    state := 1, boundary := 4999 * 2 ^ 48, nominal := 5000 * 2 ^ 48, rate := 50, wait := 1000, quorum := 10000, speculative := true
    expected := [7], quorumSet := [7], firstAt := some 0 }

/-- The grids of groups 0 and 3 run, with stream 7 ACTIVE in group 3. -/
def wGrid : State :=
  let s := withRo (withCfg wRun [(0x2301, 1, 3, 50), (0x2301, 2, 3, 200), (0x2201, 8, 7, 3)]) [(0x2203, 1, 7, 3)]
  let s := s.setStream 7 Stream.reset
  let x : Group := { Group.reset with rate := 50, first := 5000 * 50 - 50 * 37, next := 5000 * 50 - 50 * 37 }
  (s.setGroup 3 x).setGroup 0 x
/-- A recall of group 3 to its slot 9 is requested. -/
def wRecall : State :=
  wRun.setGroup 3 { Group.reset with rate := 50, recallTarget := some 9, slots := [(9, { wSlot with state := 3, undo := some default })] }

/-- Stream 7 of group 3 goes from slice 3 to 5, received doubly since T96 0. -/
def wMigrating (seen : Bool) : State :=
  withCfg (wRun.onPlace fun p => { p with migrations := [(7, ⟨3, 5, 2, 0, seen, true, 0⟩)], placed := [(7, 3)] }) [(0x2201, 8, 7, 3), (0x2301, 1, 3, 50)]

/-- The mode meter is WARMING, five refreshes taken, the grid of its group far ahead. -/
def wMeter : State :=
  ((withRo wRun [(0x2513, 1, noRow, 1), (0x2513, 3, noRow, 5)]).onMode fun m => { m with last := 5 }).setGroup 0
    { Group.reset with rate := 50, first := 5000 * 50 - 50 * 37, next := 5000 * 50 - 50 * 37 }

/-- Location on, a band centre, and one branch row with ten points within the window of 1 s. -/
def wBranch : State :=
  (withCfg wRun [(0x2500, 1, noRow, 1), (0x2518, 1, noRow, 1), (0x2518, 2, noRow, 500), (0x2518, 5, noRow, 1), (0x2519, 1, 3, 9)]).setBranch 3
    { Branch.reset with series := (List.range 10).map fun j => (4985 * 2 ^ 48 + j * 2 ^ 40, 0) }

/-- An output stream 3 with IDCODE 77 on the pairs of its group, and a commanded-mode row 2 for the address 5. -/
def wSub : State :=
  let s := withCfg wRun [(0x2801, 1, 3, 2), (0x2801, 3, 3, 77), (0x2803, 1, 2, 3), (0x2803, 5, 2, 1)]
  { s with active := writeIn s.active 0x2803 3 2 (.oct (be 16 5)) }

/-- Both filter banks hold one coefficient of 4 amid 128 of 0. -/
def wFir : Dict :=
  let l := (List.range 129).flatMap fun k => be 4 (if k = 64 then 0x40800000 else 0)
  [(okey 0x2906 1 noRow, .oct l), (okey 0x2906 2 noRow, .oct l)]
def wBank : State := { wRun with live := wFir }
/-- Headwater running. -/
def wHead : State := { withRo (withCfg wRun [(0x2900, 1, noRow, 1)]) [(0x2912, 1, 3, 2)] with live := wFir }

/-- An empty record of row 15. -/
def wRecord : CapRecord := ⟨7, [], [], 0, 5, 5, [], [⟨5, 3, 1, 0, 0xFF, 0⟩], 0, 0, 0, 0, 15⟩
/-- It is stored and closed. -/
def wStored : State := (withCfg (withRo wRun [(0x2A20, 4, 15, 2)]) [(0x2A00, 7, noRow, 0)]).onCapture fun c => { c with store := [(15, wRecord)] }
/-- A Leash that is READY in a ring of two, and takes triggers. -/
def wLeash : State :=
  withRo (withCfg wRun [(0x2A10, 1, noRow, 1), (0x2A10, 4, noRow, 1)]) [(0x2A11, 1, noRow, 2), (0x2A11, 2, noRow, 0), (0x2A11, 3, noRow, 2), (0x2A11, 4, 0, 10000), (0x2A11, 4, 1, 10000)]

/-- The object of an index and subindex. -/
def wObj (idx sub : Nat) : ObjRow := (findObj idx sub).getD ⟨idx, sub, .bool, .ro, 0, .n 0, .any⟩
/-- A message of one item with ID 9. -/
def wMsg (op : Nat) (i : Item) (v : List Byte) : List Byte := messageBytes false op 0 0 9 1 (i.bytes false i.code 0 v)
/-- READ of 0x1200:06. -/
def wGet : Item := ⟨0x1200, 6, 0xFF, 0, noRow, 1, 0, 0, []⟩
/-- WRITE of 500 to 0x2301:02 of group 3. -/
def wPut : Item := ⟨0x2301, 2, (wObj 0x2301 2).ty.code, 2 ^ 31 + 3, 3, 1, 0, 0, be 2 500⟩
/-- READ_SEG of 8 bytes of 0x1202:04 of row 0. -/
def wSegValue : List Byte := be 8 0 ++ be 4 8 ++ be 4 0
def wSeg : Item := ⟨0x1202, 4, (wObj 0x1202 4).ty.code, 2 ^ 31, 0, 1, 0, 0, wSegValue⟩
/-- WRITE_SEG of one byte, first and last, to 0x2202:01 of row 7. -/
def wStoreValue : List Byte := be 8 0 ++ be 4 1 ++ be 4 3 ++ be 4 (crc32c [7]) ++ [7]
def wStoreSeg : Item := ⟨0x2202, 1, (wObj 0x2202 1).ty.code, 2 ^ 31 + 7, 7, 1, 0, 0, wStoreValue⟩
/-- SUBSCRIBE of 0x1200:06, periodic at 10 ms. -/
def wWatch : Item := ⟨0x1200, 6, (wObj 0x1200 6).ty.code, 0, noRow, 1, 0, 0, be 1 1 ++ be 4 10⟩
/-- A periodic subscription of session 0. -/
def wTold : Subscription := ⟨0, 0, 0x1200, 6, noRow, 1, 1, 10, 0, 0, []⟩
/-- CAN controller 1 on, with key 5. -/
def wCan : State :=
  { withCfg wRun [(0x1100, 6, 1, 1), (0x1100, 9, 1, 0x77), (0x1100, 0x0B, 1, 5)] with keys := { KeySt.reset with cache := [(5, (2, [1, 2]))] } }

/-- The PCIe link up. -/
def wLink : State := wRun.onHost fun h => { h with linkUp := true }
/-- No calibration in progress. -/
def wHk : State := wRun.onHk fun h => { h with calibrating := false }
/-- SENTINEL, entered by a fault that ended at once. -/
def wSentinel : State :=
  wRun.onPower fun p => { p with state := 4, cause := 5, cdieOn := false, causeEndedAt := some 0, sentinelByCommand := false }
/-- SAFE_TALK of cause 8. -/
def wSafe : State := wRun.onPower fun p => { p with state := 5, cause := 8, cdieOn := false, causeEndedAt := some 0 }
/-- KENNEL. -/
def wKennel : State := { wRun with power := { wRun.power with state := 7, cause := 1, cdieOn := false }, imian := ImianSt.reset }
/-- START with self-test not yet passed. -/
def wTest : State := { State.reset with now := 10 ^ 15 }
/-- RESET_N low in RUN. -/
def wHeld : State := wRun.onPower fun p => { p with resetLow := true }
/-- In KENNEL a wake at a stage. -/
def wWake (attempt stage : Nat) (d : Bool) : State := wKennel.onPower fun p => { p with wake := some ⟨1, attempt, stage, d, 0, 0⟩ }
/-- Shepherd in a state, in RUN, owning pin 3. -/
def wSheep (k : Nat) : State := withCfg (withRo wRun [(0x2F45, 1, noRow, k)]) [(0x2F40, 1, noRow, 1), (0x2700, 1, 3, 1)]
/-- In trial of bank B, A the previous one. -/
def wTrial : State := wRun.onKeys fun k => { k with bankWord := 2 ^ 16 + 256 + 1, trialUntil := some (10 ^ 15), bankB := { Bank.reset with valid := true } }
/-- A key-update message of a type and handle with a payload; its signature does not matter to its effect. -/
def wKeyMsg (type handle : Nat) (p : List Byte) : List Byte :=
  be 2 0x4B55 ++ be 1 1 ++ be 1 type ++ be 16 7 ++ be 8 9 ++ be 1 0 ++ be 1 0 ++ be 2 handle ++ be 1 0 ++ be 1 0 ++ be 2 0 ++ be 4 p.length ++
  List.replicate 100 0 ++ p ++ List.replicate 96 0
/-- A pair in RUN, with both mirror links up. -/
def wPair (role st : Nat) : State :=
  let s := withCfg (withRo wRun [(0x3210, 1, noRow, role), (0x3210, 2, noRow, st)]) [(0x3200, 1, noRow, 1)]
  [6, 7].foldl (fun (s : State) (p : Nat) => s.setPort p { (s.portOf p) with link := 1 }) s
/-- The peer a supervision payload of zeros tells of, with this protocol and set. -/
def wPeer (s : State) : Peer := { peerOf [] with protocol := mirrorProtocol, setHash := fit 48 (setHash s.active) }
/-- A supervision payload with a role and a preference. -/
def wSuper (role prefer : Nat) : List Byte := be 16 9 ++ be 1 role ++ be 1 prefer ++ List.replicate 298 0
/-- A pack of member 1 alone. -/
def wPack : State :=
  let s := withCfg (withRo wRun [(0x3210, 1, noRow, 3)]) [(0x3200, 1, noRow, 2), (0x3200, 3, noRow, 1)]
  [6, 7].foldl (fun (s : State) (p : Nat) => s.setPort p { (s.portOf p) with link := 1 }) s
/-- With member 2, the home of stream 5, mirrored here, and a PROCESS of group 0 that waits. -/
def wPacked : State :=
  wPack.onDuplex fun d => { d with members := [(2, ⟨9, 0, 0, 0⟩)], homes := [(5, (2, 1))], pack := { d.pack with waiting := [(0, ⟨3, false, 1, 0⟩)] } }
/-- Local rule 5 with one true term and a raise time. -/
def wRule (raise : Nat) : State :=
  withCfg wRun [(0x2701, 1, 5, 1), (0x2701, 3, 5, 255), (0x2701, 2, 5, 1), (0x2701, 5, 5, raise), (0x2702, 1, 40, 15), (0x2702, 4, 40, 1)]
/-- Alarm frames go to P3 alone. -/
def wAlarmPort : State := withCfg wRun [(0x2700, 5, noRow, 8), (0x2101, 1, 1, 0)]
/-- Feeder 3 is STARTING, its channels clocked, with a delay window of 1 ps to 50 ns. -/
def wClocked : State := withRo (withCfg wRun [(0x2900, 1, noRow, 1), (0x2901, 5, 3, 1), (0x2901, 6, 3, 50000)]) [(0x2912, 1, 3, 1)]
/-- A record being made, before its post-trigger fill is complete, and the state that makes it. -/
def wPostRecord : CapRecord := ⟨7, [], [], 0, 5, 5, [], [⟨5, 3, 1, 0, 0xFF, 0⟩], 0, 0, 0, 0, 15⟩
def wFilling : State := (withRo wRun [(0x2A01, 1, noRow, 2), (0x2A01, 2, noRow, 2)]).onCapture fun c => { c with record := some wPostRecord }
/-- The same Leash with hops so long that a trigger comes late. -/
def wFar : State := withRo wLeash [(0x2A11, 4, 1, 1500000)]
/-- Feeder 3 is metered, in an interval of one minute that began at T96 0, its index at its last row. -/
def wDemand : State :=
  wBank.onEnergy fun e => { e with meters := [(3, { MeterSt.reset with metering := true })], regs := { e.regs with intervals := [(3, ⟨0, 1, List.replicate 8 0, 1, 0⟩)], index := [(3, 95)] } }
/-- User job 3,839 runs each second of T96 on core 15, at priority 9; a run of it that waits. -/
def wPeriodic : State := withCfg wRun [(0x2C01, 1, 3839, 1), (0x2C01, 2, 3839, 9), (0x2C01, 3, 3839, 1), (0x2C01, 4, 3839, 1000000), (0x2C01, 6, 3839, 0x8000), (0x2C01, 2, 7, 1)]
def wReady : Run := ⟨5, 5, 5, none, none, false, 0, false, 0⟩
/-- Session 0 has been answered the READ of 0x1200:06 with ID 9. -/
def wAnswered : State := { wRun with imian := { ImianSt.reset with sessions := [(0, ⟨3, [], [], 0, 0, 0, [⟨9, (wMsg 1 wGet []).drop 16, [5]⟩]⟩)] } }
/-- WRITE of 1 to 0x2A00:01. -/
def wPutLive : Item := ⟨0x2A00, 1, (wObj 0x2A00 1).ty.code, 0, noRow, 1, 0, 0, be 1 1⟩
/-- WRITE_SEG of one byte with flags to 0x2202:01 of row 7. -/
def wFirstValue (flags : Nat) : List Byte := be 8 0 ++ be 4 1 ++ be 4 flags ++ be 4 (crc32c [7]) ++ [7]
def wFirstSeg (flags : Nat) : Item := { wStoreSeg with value := wFirstValue flags }
/-- SUBSCRIBE of 0x1200:06 at 9 ms. -/
def wWatch9 : Item := { wWatch with value := be 1 1 ++ be 4 9 }
/-- A frozen ring is being exported and waits for room: its next record is larger than the ring. -/
def wExport : State :=
  (withRo wLink [(0x2821, 2, noRow, 4)]).onHost fun h =>
    { h with exporting := some (1, 0), exportLeft := [be 2000 1], exportRing := { h.exportRing with enabled := true, base := 4096, size := 1024 } }

/-! ### Each hypothesis is met -/

theorem witness_PtpFramesOfAnotherKindAreIgnored_1 : ∃ (t port domain : Nat) (udp : Bool) (msg : PtpMsg) (s : State),
    (port < 6) ∧ (bit (s.cfg 0x2002 0x08) port = true) ∧ (s.cfgB 0x2002 0x01 = true) ∧ (s.timeRuns = true) ∧ ((s.running = true ∨ 4 ≤ port)) ∧ ((udp = true ∨ domain ≠ s.cfg 0x2002 0x04)) :=
  ⟨10^15+1, 4, 200, false, .other, wPtp, by decide +kernel⟩

theorem witness_TimeSourcesAreMeasured_1 : ∃ (t port parent gm p1 cc acc var p2 steps : Nat) (utc : Int) (ok l61 l59 : Bool) (s : State),
    (ptpRuns s port = true) :=
  ⟨10^15+1, 4, 7, 8, 128, 6, 0x21, 100, 128, 1, 37, true, true, false, wPtp, by decide +kernel⟩

theorem witness_TimeSourcesAreMeasured_2 : ∃ (t port parent origin : Nat) (correction : Int) (s : State),
    (ptpRuns s port = true) ∧ (bestPort (freshAnnounces (s.advance t)) = some port) ∧ ((lookup port s.time.announces).map (·.parent) = some parent) :=
  ⟨10^15+1, 4, 7, 5000 * 2^48, 12, wMaster, by decide +kernel⟩

theorem witness_TimeSourcesAreMeasured_3 : ∃ (t port parent origin : Nat) (correction : Int) (s : State),
    (ptpRuns s port = true) ∧ (bestPort (freshAnnounces (s.advance t)) ≠ some port) :=
  ⟨10^15+1, 5, 7, 5000 * 2^48, 12, wMaster, by decide +kernel⟩

theorem witness_TimeSourcesAreMeasured_4 : ∃ (t port : Nat) (d : Int) (s : State),
    (ptpRuns s port = true) :=
  ⟨10^15+1, 4, 700, wPtp, by decide +kernel⟩

theorem witness_TimeSourcesAreMeasured_5 : ∃ (t port requester seq : Nat) (s : State),
    (ptpRuns s port = true) :=
  ⟨10^15+1, 4, 77, 3, wPtp.setPort 4 { (wPtp.portOf 4) with link := 1 }, by decide +kernel⟩

theorem witness_TimeSourcesAreMeasured_7 : ∃ (t : Nat) (s : State),
    (s.cfgB 0x2004 0x02 = true) ∧ (s.gdieOn = true) ∧ (s.time.isSet = true) :=
  ⟨10^15+5, withCfg wRun [(0x2004, 2, noRow, 1)], by decide +kernel⟩

theorem witness_TimeSourcesAreMeasured_8 : ∃ (t : Nat) (rising : Bool) (s : State),
    ((s.cfgB 0x2004 0x02 = false ∨ s.gdieOn = false ∨ s.time.isSet = false ∨ rising ≠ (s.cfg 0x2004 0x04 == 0))) :=
  ⟨10^15+5, false, withCfg wRun [(0x2004, 2, noRow, 1)], by decide +kernel⟩

theorem witness_TimeSourcesAreMeasured_9 : ∃ (t : Nat) (f : IrigFrame) (s : State),
    (s.cfgB 0x2004 0x01 = true) ∧ (s.gdieOn = true) ∧ (irigGood f s = true) :=
  ⟨10^15+5, ⟨true, 100, true, 60, 3, false, false, 0⟩, withCfg wRun [(0x2004, 1, noRow, 1)], by decide +kernel⟩

theorem witness_TimeSourcesAreMeasured_10 : ∃ (t : Nat) (f : IrigFrame) (s : State),
    (s.cfgB 0x2004 0x01 = true) ∧ (s.gdieOn = true) ∧ (irigGood f s = false) :=
  ⟨10^15+5, ⟨false, 100, false, 0, 0, false, false, 0⟩, (withCfg wRun [(0x2004, 1, noRow, 1)]).onTime fun x => { x with irig := { x.irig with bad := 1, qualified := true } }, by decide +kernel⟩

theorem witness_TimeSourcesAreMeasured_11 : ∃ (t : Nat) (f : IrigFrame) (s : State),
    ((s.cfgB 0x2004 0x01 = false ∨ s.gdieOn = false)) :=
  ⟨10^15+5, ⟨true, 100, true, 60, 3, false, false, 0⟩, wRun, by decide +kernel⟩

theorem witness_TimeSourcesAreMeasured_12 : ∃ (t input : Nat) (rising : Bool) (s : State),
    (s.gdieOn = true) ∧ (input < 4) ∧ ((s.cfg 0x2008 0x01 input = 2 ∨ s.cfg 0x2008 0x01 input = b2n (!rising))) ∧ ((lookup input s.time.trigLast).all (fun l => l + 10000 ≤ max s.now t) = true) :=
  ⟨10^15+5, 2, true, withCfg wRun [(0x2008, 1, 2, 2)], by decide +kernel⟩

theorem witness_TimeSourcesAreMeasured_13 : ∃ (t input l : Nat) (rising : Bool) (s : State),
    (s.gdieOn = true) ∧ (input < 4) ∧ ((s.cfg 0x2008 0x01 input = 2 ∨ s.cfg 0x2008 0x01 input = b2n (!rising))) ∧ (lookup input s.time.trigLast = some l) ∧ (max s.now t < l + 10000) :=
  ⟨10^15+5, 2, 10^15, true, (withCfg wRun [(0x2008, 1, 2, 2)]).onTime fun x => { x with trigLast := [(2, 10 ^ 15)] }, by decide +kernel⟩

theorem witness_TimeSourcesAreMeasured_14 : ∃ (t input : Nat) (rising : Bool) (s : State),
    (s.cfg 0x2008 0x01 input ≠ 2) ∧ (s.cfg 0x2008 0x01 input ≠ b2n (!rising)) :=
  ⟨10^15+5, 2, false, wRun, by decide +kernel⟩

theorem witness_TimeSourcesAreMeasured_15 : ∃ (t : Nat) (s : State),
    (s.dev = stStart) ∧ (s.power.startAt + sec (s.cfg 0x2001 0x08) ≤ max s.now t) :=
  ⟨10^15, wStart, by decide +kernel⟩

theorem witness_TimeSourcesAreMeasured_16 : ∃ (t : Nat) (s : State),
    ((s.dev ≠ stStart ∨ max s.now t < s.power.startAt + sec (s.cfg 0x2001 0x08))) :=
  ⟨10^15, wRun, by decide +kernel⟩

theorem witness_SourcesQualifyFailAndAreSelected_1 : ∃ (t src a : Nat) (s : State),
    (1 ≤ src) ∧ (src ≤ 3) ∧ (sourceEnabled s src = true) ∧ (s.time.trefOutOfRange = false) ∧ (sourceSilent (s.advance t) src = false) ∧ ((s.time.source src).qualified = false) ∧ ((s.time.source src).okSince = some a) ∧ (a + ms (s.cfg 0x2001 0x07) ≤ max s.now t) ∧ ((src = 2 → s.time.isSet = true)) ∧ ((src = 1 → s.time.announce.any (fun x => x.clockClass ≤ 187) = true)) :=
  ⟨10^15, 3, 0, wIrig.onTime fun x => { x with isSet := true }, by decide +kernel⟩

theorem witness_SourcesQualifyFailAndAreSelected_2 : ∃ (t src a : Nat) (s : State),
    (s.dev = stStart) ∧ ((src = 1 ∨ src = 3)) ∧ (sourceEnabled s src = true) ∧ (s.time.isSet = false) ∧ (s.time.trefOutOfRange = false) ∧ (sourceSilent (s.advance t) src = false) ∧ ((s.time.source src).qualified = false) ∧ ((s.time.source src).okSince = some a) ∧ (a + ms (s.cfg 0x2001 0x07) ≤ max s.now t) ∧ ((src = 1 → s.time.announce.any (fun x => x.clockClass ≤ 187) = true)) ∧ (sourceRank s src < 4) :=
  ⟨10^15, 3, 0, wIrig, by decide +kernel⟩

theorem witness_SourcesQualifyFailAndAreSelected_3 : ∃ (t src a : Nat) (s : State),
    ((s.time.source src).okSince = some a) ∧ (max s.now t < a + ms (s.cfg 0x2001 0x07)) :=
  ⟨10^15, 3, 10^15, wIrig.onTime fun x => { x with irig := { x.irig with okSince := some (10^15) } }, by decide +kernel⟩

theorem witness_SourcesQualifyFailAndAreSelected_4 : ∃ (t src : Nat) (s : State),
    (1 ≤ src) ∧ (src ≤ 3) ∧ ((s.time.source src).qualified = true) ∧ (sourceSilent (s.advance t) src = true) :=
  ⟨10^15, 1, wRun.onTime fun x => { x with selected := 1, servo := 2, ptp := { x.ptp with qualified := true } }, by decide +kernel⟩

theorem witness_SourcesQualifyFailAndAreSelected_5 : ∃ (t src : Nat) (s : State),
    ((s.time.source src).qualified = false) :=
  ⟨10^15, 1, wRun, by decide +kernel⟩

theorem witness_SourcesQualifyFailAndAreSelected_6 : ∃ (t src : Nat) (s : State),
    (s.running = true) ∧ (s.time.servo = 3) ∧ (s.time.holdAt + ms (s.cfg 0x2001 0x06) ≤ max s.now t) ∧ (bestSource s = some src) :=
  ⟨10^15, 3, (withCfg wRun [(0x2001, 1, noRow, 3)]).onTime fun x => { x with servo := 3, lastSource := 1, irig := { x.irig with qualified := true, offset := 777 } }, by decide +kernel⟩

theorem witness_SourcesQualifyFailAndAreSelected_7 : ∃ (t : Nat) (s : State),
    (max s.now t < s.time.holdAt + ms (s.cfg 0x2001 0x06)) :=
  ⟨10^15, wRun.onTime fun x => { x with servo := 3, holdAt := 10^15 }, by decide +kernel⟩

theorem witness_SourcesQualifyFailAndAreSelected_8 : ∃ (t : Nat) (s : State),
    (Room s) ∧ (s.time.servo = 3) ∧ (s.time.limitRaised = false) ∧ (s.cfg 0x2001 0x0C * 1000 < (s.advance t).uncertaintyPs) :=
  ⟨2*10^15, wRun.onTime fun x => { x with servo := 3, u0 := 10^12 }, by decide +kernel⟩

theorem witness_SourcesQualifyFailAndAreSelected_9 : ∃ (t : Nat) (s : State),
    ((s.time.servo ≠ 3 ∨ s.time.limitRaised = true)) :=
  ⟨2*10^15, wRun, by decide +kernel⟩

theorem witness_TheReferenceOscillatorIsWatched_1 : ∃ (t k a : Nat) (s : State),
    (Room s) ∧ (s.time.trefOutOfRange = false) ∧ (1 ≤ k) ∧ (k ≤ 3) ∧ ((s.time.source k).farSince = some a) ∧ (a + sec 10 ≤ max s.now t) :=
  ⟨10^15, 1, 0, wRun.onTime fun x => { x with selected := 1, servo := 2, ptp := { x.ptp with qualified := true, farSince := some 0 } }, by decide +kernel⟩

theorem witness_TheReferenceOscillatorIsWatched_2 : ∃ (t : Nat) (s : State),
    ([s.time.ptp, s.time.pps, s.time.irig].all (fun r => r.farSince.all (fun a => max s.now t < a + sec 10)) = true) :=
  ⟨10^15, wRun.onTime fun x => { x with ptp := { x.ptp with farSince := some (10^15) } }, by decide +kernel⟩

theorem witness_TheReferenceOscillatorIsWatched_3 : ∃ (t : Nat) (s : State),
    (s.timeRuns = true) ∧ (s.time.trefLost = false) :=
  ⟨10^15, wRun.onTime fun x => { x with selected := 1, servo := 2 }, by decide +kernel⟩

theorem witness_TheReferenceOscillatorIsWatched_4 : ∃ (t : Nat) (s : State),
    (s.time.trefLost = true) :=
  ⟨10^15, wRun.onTime fun x => { x with trefLost := true }, by decide +kernel⟩

theorem witness_TheReferenceOscillatorIsWatched_5 : ∃ (t : Nat) (s : State),
    (Room s) ∧ (s.time.trefLost = true) :=
  ⟨10^15, wRun.onTime fun x => { x with trefLost := true, servo := 3 }, by decide +kernel⟩

theorem witness_TheReferenceOscillatorIsWatched_6 : ∃ (t : Nat) (s : State),
    (s.time.trefLost = false) :=
  ⟨10^15, wRun, by decide +kernel⟩

theorem witness_TimeIsSetSteppedAndLatched_1 : ∃ (t src : Nat) (who : Who) (s : State),
    (AcceptedPlain 0x2005 0x01 who (s.advance t)) ∧ ((s.dev = stStart ∨ s.dev = stSafeTalk)) ∧ (s.time.isSet = true) ∧ (bestSource s = some src) :=
  ⟨10^15, 3, .dtls 0, (withCfg wStart [(0x2001, 1, noRow, 3)]).onTime fun x => { x with isSet := true, lastSource := 1, irig := { x.irig with qualified := true, offset := 777000 } }, by decide +kernel⟩

theorem witness_TimeIsSetSteppedAndLatched_2 : ∃ (t value : Nat) (who : Who) (s : State),
    (Accepted 0x2005 0x02 noRow (.num value) who (s.advance t)) ∧ ((s.dev = stStart ∨ s.dev = stSafeTalk)) :=
  ⟨10^15, 77 * 2^48, .dtls 0, wStart.onTime fun x => { x with isSet := true, selected := 1 }, by decide +kernel⟩

theorem witness_TimeIsSetSteppedAndLatched_3 : ∃ (t : Nat) (who : Who) (s : State),
    (Room s) ∧ (s.running = true) ∧ (AcceptedPlain 0x2005 0x01 who (s.advance t)) :=
  ⟨10^15, .dtls 0, wRun, by decide +kernel⟩

theorem witness_TimeIsSetSteppedAndLatched_4 : ∃ (t value : Nat) (who : Who) (s : State),
    (Room s) ∧ (s.running = true) ∧ (Accepted 0x2005 0x02 noRow (.num value) who (s.advance t)) :=
  ⟨10^15, 77 * 2^48, .dtls 0, wRun, by decide +kernel⟩

theorem witness_TimeIsSetSteppedAndLatched_5 : ∃ (t utc : Nat) (sign : Int) (s : State),
    (Room s) ∧ (leapDue s = some (utc, sign)) ∧ (s.time.isSet = true) ∧ ((utc : Int) + (s.delta + (if sign < 0 then sign else 0)) * 2 ^ 48 ≤ ((s.advance t).t96 : Int)) :=
  ⟨10^15, 4900 * 2^48, 1, wRun.onTime fun x => { x with leap := some (4900 * 2^48, 1) }, by decide +kernel⟩

theorem witness_TimeIsSetSteppedAndLatched_6 : ∃ (t utc : Nat) (sign : Int) (s : State),
    (leapDue s = some (utc, sign)) ∧ (((s.advance t).t96 : Int) < (utc : Int) + (s.delta + (if sign < 0 then sign else 0)) * 2 ^ 48) :=
  ⟨10^15, 5900 * 2^48, 1, wRun.onTime fun x => { x with leap := some (5900 * 2^48, 1) }, by decide +kernel⟩

theorem witness_TimeIsSetSteppedAndLatched_7 : ∃ (t rtc : Nat) (s : State),
    (s.time.isSet = true) ∧ (s.timeRuns = true) :=
  ⟨10^15 + 7, 12345, wRun, by decide +kernel⟩

theorem witness_GatFollowsItsReference_1 : ∃ (t : Nat) (s : State),
    (Room s) ∧ (s.time.gatOn = true) ∧ (s.time.nominal = false) ∧ (refValid (s.advance t) = false) :=
  ⟨10^15, wRun.onTime fun x => { x with refSeen := some 0 }, by decide +kernel⟩

theorem witness_GatFollowsItsReference_2 : ∃ (t : Nat) (s : State),
    (refValid (s.advance t) = true) :=
  ⟨10^15, wRun.onTime fun x => { x with refSeen := some (10^15) }, by decide +kernel⟩

theorem witness_GatFollowsItsReference_3 : ∃ (t a : Nat) (s : State),
    (s.time.gatOn = true) ∧ (s.time.nominal = true) ∧ (s.time.pulling = false) ∧ (s.time.refOkSince = some a) ∧ (a + ms (s.cfg 0x2010 0x08) ≤ max s.now t) ∧ (refValid (s.advance t) = true) :=
  ⟨10^15, 0, wRun.onTime fun x => { x with nominal := true, refSeen := some (10 ^ 15), refOkSince := some 0, refFreq := 50 * 2^32 }, by decide +kernel⟩

theorem witness_GatFollowsItsReference_4 : ∃ (t a : Nat) (s : State),
    (s.time.refOkSince = some a) ∧ (max s.now t < a + ms (s.cfg 0x2010 0x08)) :=
  ⟨10^15, 10^15, wRun.onTime fun x => { x with nominal := true, refSeen := some (10 ^ 15), refOkSince := some (10^15), refFreq := 50 * 2^32 }, by decide +kernel⟩

theorem witness_GatFollowsItsReference_5 : ∃ (t : Nat) (s : State),
    (Room s) ∧ (s.time.pulling = true) ∧ (s.time.refError.natAbs ≤ twoDegrees) :=
  ⟨10^15, wRun.onTime fun x => { x with nominal := true, pulling := true, refFreq := 50 * 2^32, refError := 5 }, by decide +kernel⟩

theorem witness_GatFollowsItsReference_6 : ∃ (t : Nat) (s : State),
    (twoDegrees < s.time.refError.natAbs) :=
  ⟨10^15, wRun.onTime fun x => { x with nominal := true, pulling := true, refFreq := 50 * 2^32, refError := 2^30 }, by decide +kernel⟩

theorem witness_PulsesFireAndEnd_1 : ∃ (t out : Nat) (s : State),
    (out < 4) ∧ (pulseDue out (s.advance t) = true) :=
  ⟨10^15, 1, (withLive wRun [(0x2020, 1, 1, 1), (0x2020, 3, 1, 4000 * 2^48), (0x2020, 7, 1, 100)]).setPulse 1 { Pulse.reset with armed := true }, by decide +kernel⟩

theorem witness_PulsesFireAndEnd_2 : ∃ (t out : Nat) (s : State),
    (pulseDue out (s.advance t) = false) :=
  ⟨10^15, 1, wRun, by decide +kernel⟩

theorem witness_PulsesFireAndEnd_3 : ∃ (t out e : Nat) (s : State),
    ((s.pulse out).endsAt = some e) ∧ (e ≤ max s.now t) ∧ ((s.pulse out).deferred = []) :=
  ⟨10^15, 1, 10^15 - 3, wRun.setPulse 1 { Pulse.reset with endsAt := some (10^15 - 3) }, by decide +kernel⟩

theorem witness_PulsesFireAndEnd_4 : ∃ (t out e : Nat) (s : State),
    ((s.pulse out).endsAt = some e) ∧ (max s.now t < e) :=
  ⟨10^15, 1, 10^15 + 3, wRun.setPulse 1 { Pulse.reset with endsAt := some (10^15 + 3) }, by decide +kernel⟩

theorem witness_PulsesFireAndEnd_5 : ∃ (t out : Nat) (who : Who) (s : State),
    (AcceptedWrite 0x2020 0x0A out (.num 0) who (s.advance t)) ∧ ((s.pulse out).endsAt = none) :=
  ⟨10^15, 1, .dtls 0, wRun.setPulse 1 { Pulse.reset with armed := true }, by decide +kernel⟩

theorem witness_PulsesFireAndEnd_6 : ∃ (t out : Nat) (who : Who) (s : State),
    (AcceptedWrite 0x2020 0x0A out (.num 1) who (s.advance t)) ∧ ((s.pulse out).endsAt = none) ∧ ((s.rw 0x2020 0x01 out = 2 ∨ s.rw 0x2020 0x01 out = 4)) :=
  ⟨10^15, 1, .dtls 0, withLive wRun [(0x2020, 1, 1, 2)], by decide +kernel⟩

theorem witness_PulsesFireAndEnd_7 : ∃ (t out : Nat) (who : Who) (s : State),
    (AcceptedWrite 0x2020 0x0A out (.num 1) who (s.advance t)) ∧ ((s.pulse out).endsAt = none) ∧ (s.rw 0x2020 0x01 out = 1) :=
  ⟨10^15, 1, .dtls 0, withLive wRun [(0x2020, 1, 1, 1), (0x2020, 3, 1, 9000 * 2^48)], by decide +kernel⟩

theorem witness_PulsesFireAndEnd_8 : ∃ (t out : Nat) (who : Who) (s : State),
    (AcceptedWrite 0x2020 0x0A out (.num 1) who (s.advance t)) ∧ ((s.pulse out).endsAt = none) ∧ (s.rw 0x2020 0x01 out = 3) :=
  ⟨10^15, 1, .dtls 0, withLive wRun [(0x2020, 1, 1, 3)], by decide +kernel⟩

theorem witness_PulsesFireAndEnd_9 : ∃ (t out : Nat) (who : Who) (s : State),
    (AcceptedWrite 0x2020 0x0A out (.num 1) who (s.advance t)) ∧ ((s.pulse out).endsAt = none) ∧ (s.rw 0x2020 0x01 out = 0) :=
  ⟨10^15, 1, .dtls 0, wRun, by decide +kernel⟩

theorem witness_PulsesFireAndEnd_10 : ∃ (t out e : Nat) (who : Who) (arm : Bool) (s : State),
    (AcceptedWrite 0x2020 0x0A out (.num (b2n arm)) who (s.advance t)) ∧ ((s.pulse out).endsAt = some e) :=
  ⟨10^15, 1, 10^15 + 3, .dtls 0, true, wRun.setPulse 1 { Pulse.reset with endsAt := some (10^15 + 3) }, by decide +kernel⟩

theorem witness_PortsComeUpAndGoDown_1 : ∃ (t port : Nat) (s : State),
    (Room s) ∧ (port < 8) ∧ (portHeld s port = false) ∧ ((s.portOf port).link ≠ 1) :=
  ⟨10^15, 4, wRun, by decide +kernel⟩

theorem witness_PortsComeUpAndGoDown_2 : ∃ (t port : Nat) (s : State),
    (portHeld s port = true) :=
  ⟨10^15, 6, wSafe, by decide +kernel⟩

theorem witness_PortsComeUpAndGoDown_3 : ∃ (t port cause : Nat) (s : State),
    (Room s) ∧ (port < 8) ∧ ((s.portOf port).link = 1) :=
  ⟨10^15, 4, 2, wRun.setPort 4 { Port.reset with link := 1 }, by decide +kernel⟩

theorem witness_PortsComeUpAndGoDown_4 : ∃ (t port cause : Nat) (s : State),
    ((s.portOf port).link ≠ 1) :=
  ⟨10^15, 4, 2, wRun, by decide +kernel⟩

theorem witness_PortsComeUpAndGoDown_5 : ∃ (t port reason : Nat) (s : State),
    (Room s) ∧ ((port = 4 ∨ port = 5)) ∧ (portHeld s port = false) ∧ (reportsRefusal s port reason = true) :=
  ⟨10^15, 5, 1, (withCfg wRun [(0x2100, 2, 5, 3)]).setPort 5 { Port.reset with link := 1 }, by decide +kernel⟩

theorem witness_PortsComeUpAndGoDown_6 : ∃ (t port reason : Nat) (s : State),
    (reportsRefusal s port reason = false) :=
  ⟨10^15, 5, 1, withCfg wRun [(0x2100, 2, 5, 2), (0x2100, 4, 5, 0)], by decide +kernel⟩

theorem witness_PortsComeUpAndGoDown_7 : ∃ (t port : Nat) (s : State),
    (port < 6) ∧ ((s.portOf port).link = 1) ∧ ((s.portOf port).silent = false) ∧ ((s.portOf port).lastRx + 3 * ms (s.cfg 0x2101 0x04 (port / 2)) ≤ max s.now t) ∧ ((s.portOf (partnerOf port)).heard = true) ∧ (max s.now t < (s.portOf (partnerOf port)).lastRx + 3 * ms (s.cfg 0x2101 0x04 (port / 2))) :=
  ⟨10^15, 4, (wRun.setPort 4 { Port.reset with link := 1 }).setPort 5 { Port.reset with link := 1, heard := true, lastRx := 10^15 }, by decide +kernel⟩

theorem witness_PortsComeUpAndGoDown_8 : ∃ (t port : Nat) (s : State),
    (max s.now t < (s.portOf port).lastRx + 3 * ms (s.cfg 0x2101 0x04 (port / 2))) :=
  ⟨10^15, 4, wRun.setPort 4 { Port.reset with link := 1, lastRx := 10^15 }, by decide +kernel⟩

theorem witness_FramesAreReceived_1 : ∃ (t port : Nat) (l : List Byte) (good : Bool) (s : State),
    (s.dev ≠ stRecovery) ∧ (port < 8) ∧ ((s.portOf port).link = 1) :=
  ⟨10^15, 4, List.replicate 60 0, true, wRun.setPort 4 { Port.reset with link := 1, silent := true }, by decide +kernel⟩

theorem witness_FramesAreReceived_2 : ∃ (t port : Nat) (l : List Byte) (good : Bool) (s : State),
    (s.dev ≠ stRecovery) ∧ (port < 8) ∧ ((s.portOf port).link = 1) ∧ (l.length < 60) :=
  ⟨10^15, 4, List.replicate 20 0, true, wRun.setPort 4 { Port.reset with link := 1 }, by decide +kernel⟩

theorem witness_FramesAreReceived_3 : ∃ (t port : Nat) (l : List Byte) (good : Bool) (s : State),
    (s.dev ≠ stRecovery) ∧ (port < 8) ∧ ((s.portOf port).link = 1) ∧ (60 ≤ l.length) ∧ (portMax s port < l.length + 4) :=
  ⟨10^15, 4, List.replicate 1600 0, true, withCfg (wRun.setPort 4 { Port.reset with link := 1 }) [(0x2100, 5, 4, 1518)], by decide +kernel⟩

theorem witness_FramesAreReceived_4 : ∃ (t port : Nat) (l : List Byte) (s : State),
    (s.dev ≠ stRecovery) ∧ (port < 8) ∧ ((s.portOf port).link = 1) ∧ (60 ≤ l.length) ∧ (l.length + 4 ≤ portMax s port) :=
  ⟨10^15, 4, List.replicate 60 0, wRun.setPort 4 { Port.reset with link := 1 }, by decide +kernel⟩

theorem witness_FramesAreReceived_5 : ∃ (t port : Nat) (l : List Byte) (s : State),
    (s.dev ≠ stRecovery) ∧ (port < 8) ∧ ((s.portOf port).link = 1) ∧ (60 ≤ l.length) ∧ (l.length + 4 ≤ portMax s port) ∧ (addressAccepted s port (l.take 6) = false) :=
  ⟨10^15, 4, List.replicate 60 2, wMac, by decide +kernel⟩

theorem witness_FramesAreReceived_6 : ∃ (t port : Nat) (l : List Byte) (s : State),
    (s.dev ≠ stRecovery) ∧ (port < 6) ∧ ((s.portOf port).link = 1) ∧ (60 ≤ l.length) ∧ (l.length + 4 ≤ portMax s port) ∧ (l.take 6 = be 6 0x011B19000000) ∧ (beAt l 12 2 = 0x88F7) :=
  ⟨10^15, 4, be 6 0x011B19000000 ++ be 6 7 ++ be 2 0x88F7 ++ List.replicate 46 0, wRun.setPort 4 { Port.reset with link := 1 }, by decide +kernel⟩

theorem witness_FramesAreReceived_7 : ∃ (t port : Nat) (l : List Byte) (s : State),
    (s.dev ≠ stRecovery) ∧ (port < 8) ∧ ((s.portOf port).link = 1) ∧ (l.length = 60) ∧ (64 ≤ portMax s port) ∧ (l.take 6 = be 6 0x0180C2000001) ∧ (beAt l 12 2 = 0x8808) ∧ (beAt l 14 2 = 1) ∧ (0 < beAt l 16 2) ∧ (s.cfgB 0x2100 0x06 port = true) ∧ ((s.portOf port).pausedSince = none) :=
  ⟨10^15, 4, be 6 0x0180C2000001 ++ be 6 7 ++ be 2 0x8808 ++ be 2 1 ++ be 2 9 ++ List.replicate 42 0, withCfg (wRun.setPort 4 { Port.reset with link := 1 }) [(0x2100, 6, 4, 1)], by decide +kernel⟩

theorem witness_FramesAreReceived_8 : ∃ (t port : Nat) (l : List Byte) (good over_ : Bool) (s : State),
    ((s.portOf port).link ≠ 1) :=
  ⟨10^15, 4, List.replicate 60 2, true, false, wRun, by decide +kernel⟩

theorem witness_FramesAreReceived_9 : ∃ (t port a : Nat) (s : State),
    (s.dev ≠ stRecovery) ∧ (port < 8) ∧ ((s.portOf port).pausedSince = some a) ∧ ((s.portOf port).pauseUntil ≤ max s.now t) :=
  ⟨10^15, 4, 5, wRun.setPort 4 { Port.reset with pausedSince := some 5, pauseUntil := 10^15 }, by decide +kernel⟩

theorem witness_FramesAreReceived_10 : ∃ (t port : Nat) (s : State),
    (max s.now t < (s.portOf port).pauseUntil) :=
  ⟨10^15, 4, wRun.setPort 4 { Port.reset with pausedSince := some 5, pauseUntil := 10^15 + 1 }, by decide +kernel⟩

theorem witness_FramesAreSent_1 : ∃ (t port q : Nat) (f : TxFrame) (rest : List TxFrame) (v s : State),
    (port < 8) ∧ ((s.portOf port).link = 1) ∧ ((s.portOf port).busyUntil ≤ max s.now t) ∧ ((s.portOf port).pausedSince = none) ∧ (v = (List.range 8).foldl (fun s q => dropTooLong port q s) (ptpDue port (s.advance t))) ∧ ([7, 6, 5, 4, 3, 2, 1, 0].find? (eligible v port) = some q) ∧ (tabGet [] (v.portOf port).queues q = f :: rest) :=
  ⟨10^15, 4, 3, ⟨be 60 1, 0, 0⟩, [], wQueued.advance (10^15), wQueued, by
    and_intros <;> first | decide +kernel | rfl⟩

theorem witness_FramesAreSent_2 : ∃ (t port : Nat) (s : State),
    ((s.portOf port).link ≠ 1) :=
  ⟨10^15, 4, wRun, by decide +kernel⟩

theorem witness_FramesAreSent_3 : ∃ (t port : Nat) (f : TxFrame) (s : State),
    (port < 8) ∧ (s.dev ≠ stRecovery) ∧ ((s.portOf port).sending = some f) ∧ (max s.now t < (s.portOf port).busyUntil) ∧ (cutThrough s port f = true) :=
  ⟨10^15, 4, ⟨be 60 1, 0, 0⟩, withCfg (wRun.setPort 4 { Port.reset with link := 1, sending := some ⟨be 60 1, 0, 0⟩, busyUntil := 10^15 + 30000 }) [(0x2100, 7, 4, 60)], by decide +kernel⟩

theorem witness_FramesAreSent_4 : ∃ (t port : Nat) (s : State),
    ((s.portOf port).sending = none) :=
  ⟨10^15, 4, wRun, by decide +kernel⟩

theorem witness_FramesAreSent_5 : ∃ (t pair : Nat) (s : State),
    (supervisionDue (s.advance t) pair = true) :=
  ⟨10^15, 2, withCfg wRun [(0x2101, 1, 2, 1)], by decide +kernel⟩

theorem witness_FramesAreSent_6 : ∃ (t pair port : Nat) (s : State),
    (supervisionDue (s.advance t) pair = true) ∧ ((port = 2 * pair ∨ port = 2 * pair + 1)) ∧ (tabGet 2 s.port.pairState pair ≠ 2) ∧ ((s.portOf port).link = 1) ∧ ((s.cfgBytes 0x2100 0x09 (2 * pair)).length = 6) ∧ ((s.cfgBytes 0x2100 0x09 (2 * pair + 1)).length = 6) ∧ (64 ≤ portMax s (2 * pair)) ∧ (64 ≤ portMax s (2 * pair + 1)) :=
  ⟨10^15, 2, 4, wDanp, by decide +kernel⟩

theorem witness_FramesAreSent_7 : ∃ (t pair : Nat) (s : State),
    (supervisionDue (s.advance t) pair = false) :=
  ⟨10^15, 2, withCfg wRun [(0x2101, 1, 2, 0)], by decide +kernel⟩

theorem witness_GatesAndNodesFollow_2 : ∃ (t port : Nat) (s : State),
    (port < 8) ∧ (s.timeRuns = true) ∧ ((s.portOf port).gate.gatBased = true) ∧ ((s.portOf port).sending.isSome = true) ∧ (max s.now t < (s.portOf port).busyUntil) ∧ ((s.portOf port).sendingQ < 8) ∧ (bit (gateNow (s.advance t) port).1 (s.portOf port).sendingQ = false) :=
  ⟨10^15, 4, wRun.setPort 4 { Port.reset with gate := ⟨true, true, 0, 0, 1000, 1048576, [(5, 400), (0, 600)]⟩, sending := some ⟨be 60 1, 0, 0⟩, busyUntil := 10^16, sendingQ := 3 }, by decide +kernel⟩

theorem witness_GatesAndNodesFollow_3 : ∃ (t port : Nat) (g : GateList) (s : State),
    (Room s) ∧ ((s.portOf port).newGate = some g) ∧ (g.gatBased = false) ∧ ((s.portOf port).newGateAt ≤ (s.advance t).t96) :=
  ⟨10^15, 4, ⟨true, false, 0, 0, 1000, 0, [(5, 400), (7, 600)]⟩, wRun.setPort 4 { Port.reset with newGate := some ⟨true, false, 0, 0, 1000, 0, [(5, 400), (7, 600)]⟩, newGateAt := 7 }, by decide +kernel⟩

theorem witness_GatesAndNodesFollow_4 : ∃ (t port : Nat) (g : GateList) (s : State),
    (Room s) ∧ ((s.portOf port).newGate = some g) ∧ (g.gatBased = true) ∧ (0 ≤ gatMinus (s.advance t).gat (s.portOf port).newGateAt) :=
  ⟨10^15, 4, ⟨true, true, 0, 0, 1000, 1048576, [(5, 400), (7, 600)]⟩, wRun.setPort 4 { Port.reset with newGate := some ⟨true, true, 0, 0, 1000, 1048576, [(5, 400), (7, 600)]⟩, newGateAt := 7 }, by decide +kernel⟩

theorem witness_GatesAndNodesFollow_5 : ∃ (t port : Nat) (g : GateList) (s : State),
    ((s.portOf port).newGate = some g) ∧ ((if g.gatBased then gatMinus (s.advance t).gat (s.portOf port).newGateAt < 0 else (s.advance t).t96 < (s.portOf port).newGateAt)) :=
  ⟨10^15, 4, ⟨true, false, 0, 0, 1000, 0, [(5, 400), (7, 600)]⟩, wRun.setPort 4 { Port.reset with newGate := some ⟨true, false, 0, 0, 1000, 0, [(5, 400), (7, 600)]⟩, newGateAt := 2 ^ 90 }, by decide +kernel⟩

theorem witness_GatesAndNodesFollow_6 : ∃ (t pair mac : Nat) (n : Node) (s : State),
    (lookup (pair * 2 ^ 48 + mac) s.port.nodes = some n) ∧ (n.heardAt + sec (s.cfg 0x2101 0x03 pair) ≤ max s.now t) :=
  ⟨10^15, 1, 99, ⟨0, [], []⟩, wRun.onPorts fun a => { a with nodes := [(2 ^ 48 + 99, ⟨0, [], []⟩)] }, by decide +kernel⟩

theorem witness_GatesAndNodesFollow_7 : ∃ (t pair mac : Nat) (n : Node) (s : State),
    (lookup (pair * 2 ^ 48 + mac) s.port.nodes = some n) ∧ (max s.now t < n.heardAt + sec (s.cfg 0x2101 0x03 pair)) :=
  ⟨10^15, 1, 99, ⟨10^15, [], []⟩, wRun.onPorts fun a => { a with nodes := [(2 ^ 48 + 99, ⟨10^15, [], []⟩)] }, by decide +kernel⟩

theorem witness_GatesAndNodesFollow_8 : ∃ (t : Nat) (who : Who) (s : State),
    (AcceptedPlain 0x2130 0x01 who (s.advance t)) :=
  ⟨10^15, .dtls 0, withRo wRun [(0x2120, 1, 4, 9), (0x2120, 0x13, 2, 8)], by decide +kernel⟩

theorem witness_IngestTakesFrames_1 : ∃ (t port : Nat) (g : Datagram) (s : State),
    (port < 4) ∧ (s.dev = stStart) ∧ (s.ingest.deciding = []) :=
  ⟨10^15, 1, ⟨be 16 1, be 16 2, 1, 2, false, 0, none, none, []⟩, wStart, by decide +kernel⟩

theorem witness_IngestTakesFrames_2 : ∃ (t port : Nat) (g : Datagram) (s : State),
    (port < 4) ∧ (s.running = true) ∧ (s.ingest.deciding = []) ∧ ((g.ipBad = true ∨ g.fragment = none ∧ g.session = none ∧ udpGood g g.payload = false)) :=
  ⟨10^15, 1, ⟨be 16 1, be 16 2, 1, 2, false, 7, none, none, []⟩, wRun, by decide +kernel⟩

theorem witness_IngestTakesFrames_3 : ∃ (t port h : Nat) (g : Datagram) (s : State),
    (port < 4) ∧ (h < firstLocal) ∧ (Room s) ∧ (s.running = true) ∧ (s.ingest.deciding = []) ∧ (g.ipBad = false) ∧ (g.fragment = none) ∧ ((g.session.isSome = true ∨ udpGood g g.payload = true ∧ beAt g.payload 2 2 = g.payload.length)) ∧ (16 ≤ g.payload.length) ∧ (byteAt g.payload 0 = 0xAA) ∧ (chkGood g.payload = true) ∧ (frameType g.payload = 1) ∧ ((frameVersion g.payload = 1 ∨ frameVersion g.payload = 2)) ∧ (rowOf s port g (beAt g.payload 4 2) = some h) :=
  ⟨10^15, 1, 7, ⟨[], [], 1, 2, false, 0, none, some 7, closeFrame 0xAA12 9 0 0 (be 8 5)⟩, withCfg wRun [(0x2201, 2, 7, 9)], by decide +kernel⟩

theorem witness_IngestTakesFrames_4 : ∃ (t port h : Nat) (g : Datagram) (c : PartnerCfg) (v s : State),
    (port < 4) ∧ (v = s.advance t) ∧ (s.running = true) ∧ (g.ipBad = false) ∧ (g.fragment = none) ∧ ((g.session.isSome = true ∨ udpGood g g.payload = true ∧ beAt g.payload 2 2 = g.payload.length)) ∧ (16 ≤ g.payload.length) ∧ (byteAt g.payload 0 = 0xAA) ∧ (chkGood g.payload = true) ∧ (frameType g.payload = 0) ∧ ((frameVersion g.payload = 1 ∨ frameVersion g.payload = 2)) ∧ (rowOf v port g (beAt g.payload 4 2) = some h) ∧ (oldFrame v port g g.payload = none) ∧ ((streamState s h = 3 ∨ streamState s h = 4)) ∧ (configurationFor v (s.stream h) g.payload.length = some c) ∧ (beAt g.payload 11 3 < c.timeBase % 2 ^ 24) ∧ (s.time.isSet = true) :=
  ⟨10^15, 1, 7, ⟨[], [], 1, 2, false, 0, none, some 7, closeFrame 0xAA02 9 5 0 []⟩, wCfg, wFed.advance (10^15), wFed, by
    and_intros <;> first | decide +kernel | rfl⟩

theorem witness_IngestTakesFrames_5 : ∃ (t port : Nat) (d : Spdu) (s : State),
    (port < 4) ∧ (s.dev = stStart) ∧ (s.ingest.deciding = []) :=
  ⟨10^15, 1, ⟨be 16 5, be 16 2, false, none, be 2 3, 20, 5, 1, false, true, 0, [9], spduTag 1 [1, 2] [9], []⟩, wStart, by decide +kernel⟩

theorem witness_IngestTakesFrames_6 : ∃ (t port : Nat) (d : Spdu) (s : State),
    (port < 4) ∧ (s.running = true) ∧ (s.ingest.deciding = []) ∧ (d.fragment = none) ∧ (d.checksumBad = false) ∧ (d.encrypted = true) :=
  ⟨10^15, 1, ⟨be 16 5, be 16 2, false, none, be 2 3, 20, 5, 1, true, true, 0, [9], spduTag 1 [1, 2] [9], []⟩, wRun, by decide +kernel⟩

theorem witness_IngestTakesFrames_7 : ∃ (t port h n : Nat) (key : List Byte) (d : Spdu) (s : State),
    (port < 4) ∧ (h < firstLocal) ∧ (s.running = true) ∧ (s.ingest.deciding = []) ∧ (d.fragment = none) ∧ (d.checksumBad = false) ∧ (d.sampledValues = true) ∧ (d.encrypted = false) ∧ (spduOld (s.advance t) port d = none) ∧ (spduRow s.active (matchedRows s) port d = some h) ∧ (1 ≤ d.algorithm) ∧ (d.algorithm ≤ 3) ∧ ((acceptedKeys (s.advance t) h (s.stream h) d.keyTime).contains d.keyId = true) ∧ (keyOf s d.keyId (spduUsages d.algorithm) = some key) ∧ (spduTag d.algorithm key d.signed = d.tag) ∧ ((s.stream h).spduHigh = some n) ∧ (1024 ≤ (n + 2 ^ 32 - d.number) % 2 ^ 32) ∧ (streamState s h ≠ 3) ∧ (streamState s h ≠ 4) :=
  ⟨10^15, 1, 7, 5000, [1, 2], ⟨be 16 5, be 16 2, false, none, be 2 3, 20, 5, 1, false, true, 0, [9], spduTag 1 [1, 2] [9], []⟩, { wSpdu with keys := { KeySt.reset with cache := [(5, (0, [1, 2]))] } }, by
    and_intros <;> first | decide +kernel | rfl⟩

theorem witness_IngestTakesFrames_8 : ∃ (t ident : Nat) (src : List Byte) (x : Reassembly) (s : State),
    (s.ingest.reassemblies.find? (fun y => y.src == src && y.ident == ident) = some x) ∧ (x.bad = false) ∧ (x.startedAt + ms (s.cfg 0x2200 0x05) ≤ max s.now t) :=
  ⟨10^15, 4, be 16 1, ⟨be 16 1, 4, 0, [], none, false⟩, wRun.onIngest fun i => { i with reassemblies := [⟨be 16 1, 4, 0, [], none, false⟩] }, by decide +kernel⟩

theorem witness_IngestTakesFrames_9 : ∃ (t ident : Nat) (src : List Byte) (x : Reassembly) (s : State),
    (s.ingest.reassemblies.find? (fun y => y.src == src && y.ident == ident) = some x) ∧ (max s.now t < x.startedAt + ms (s.cfg 0x2200 0x05)) :=
  ⟨10^15, 4, be 16 1, ⟨be 16 1, 4, 10^15, [], none, false⟩, wRun.onIngest fun i => { i with reassemblies := [⟨be 16 1, 4, 10^15, [], none, false⟩] }, by decide +kernel⟩

theorem witness_IngestTakesFrames_10 : ∃ (t h : Nat) (s : State),
    (h < firstLocal) ∧ (s.running = true) ∧ (streamState s h = 3) ∧ ((s.stream h).lastAccept + ms (s.cfg 0x2200 0x04) ≤ max s.now t) :=
  ⟨10^15, 7, withRo wRun [(0x2203, 1, 7, 3)], by decide +kernel⟩

theorem witness_IngestTakesFrames_11 : ∃ (t h : Nat) (s : State),
    (streamState s h = 3) ∧ (max s.now t < (s.stream h).lastAccept + ms (s.cfg 0x2200 0x04)) :=
  ⟨10^15, 7, (withRo wRun [(0x2203, 1, 7, 3)]).setStream 7 { Stream.reset with lastAccept := 10^15 }, by decide +kernel⟩

theorem witness_PartnerSessionsFollowTheirSteps_1 : ∃ (t h : Nat) (s : State),
    (h < firstLocal) ∧ (s.running = true) ∧ (sessionMode s h = 1) ∧ (sessionStep s h = 1) :=
  ⟨10^15, 7, withRo (withCfg wRun [(0x2201, 0x0B, 7, 1)]) [(0x2203, 0x0D, 7, 1)], by decide +kernel⟩

theorem witness_PartnerSessionsFollowTheirSteps_2 : ∃ (t h : Nat) (s : State),
    (sessionStep s h ≠ 1) :=
  ⟨10^15, 7, wRun, by decide +kernel⟩

theorem witness_PartnerSessionsFollowTheirSteps_3 : ∃ (t h : Nat) (s : State),
    (h < firstLocal) ∧ (s.running = true) ∧ ((sessionStep s h = 1 ∨ sessionStep s h = 3)) ∧ ((s.stream h).stepAt + ms (if sessionStep s h = 1 then s.cfg 0x2200 0x01 else s.cfg 0x2200 0x02) ≤ max s.now t) :=
  ⟨10^15, 7, withRo (withCfg wRun [(0x2201, 0x0B, 7, 1)]) [(0x2203, 0x0D, 7, 3)], by decide +kernel⟩

theorem witness_PartnerSessionsFollowTheirSteps_4 : ∃ (t h : Nat) (s : State),
    (max s.now t < (s.stream h).stepAt + ms (if sessionStep s h = 1 then s.cfg 0x2200 0x01 else s.cfg 0x2200 0x02)) :=
  ⟨10^15, 7, (withRo (withCfg wRun [(0x2201, 0x0B, 7, 1)]) [(0x2203, 0x0D, 7, 3)]).setStream 7 { Stream.reset with stepAt := 10^15 }, by decide +kernel⟩

theorem witness_PartnerSessionsFollowTheirSteps_5 : ∃ (t h : Nat) (s : State),
    (h < firstLocal) ∧ (s.running = true) ∧ (sessionMode s h = 1) ∧ ((s.stream h).tcp = false) ∧ (sessionStep s h = 5) ∧ ((s.stream h).stepAt + sec (s.stream h).backoff ≤ max s.now t) :=
  ⟨10^15, 7, withRo (withCfg wRun [(0x2201, 0x0B, 7, 1)]) [(0x2203, 0x0D, 7, 5)], by decide +kernel⟩

theorem witness_PartnerSessionsFollowTheirSteps_6 : ∃ (t h : Nat) (s : State),
    (max s.now t < (s.stream h).stepAt + sec (s.stream h).backoff) :=
  ⟨10^15, 7, (withRo (withCfg wRun [(0x2201, 0x0B, 7, 1)]) [(0x2203, 0x0D, 7, 5)]).setStream 7 { Stream.reset with stepAt := 10^15, backoff := 4 }, by decide +kernel⟩

theorem witness_PartnerSessionsFollowTheirSteps_7 : ∃ (t h : Nat) (who : Who) (s : State),
    (Accepted 0x2260 0x02 h (.num 0) who (s.advance t)) ∧ (s.running = true) ∧ (sessionMode s h = 1) ∧ ((s.stream h).tcp = true) :=
  ⟨10^15, 7, .dtls 0, (withRo (withCfg wRun [(0x2201, 0x0B, 7, 1)]) [(0x2203, 1, 7, 3)]).setStream 7 { Stream.reset with tcp := true }, by decide +kernel⟩

theorem witness_PartnerSessionsFollowTheirSteps_8 : ∃ (t h : Nat) (who : Who) (s : State),
    (Accepted 0x2260 0x02 h (.num 0) who (s.advance t)) ∧ (sessionMode s h = 0) :=
  ⟨10^15, 7, .dtls 0, withCfg wRun [(0x2201, 0x0B, 7, 0)], by decide +kernel⟩

theorem witness_PartnerStreamsStartAndStop_1 : ∃ (t h : Nat) (who : Who) (s : State),
    (h < firstLocal) ∧ (s.running = true) ∧ (AcceptedWrite 0x2201 0x01 h (.num 1) who (s.advance t)) ∧ (streamState s h ≤ 1) :=
  ⟨10^15, 7, .dtls 0, wRun, by decide +kernel⟩

theorem witness_PartnerStreamsStartAndStop_2 : ∃ (t h : Nat) (who : Who) (s : State),
    (h < firstLocal) ∧ (s.running = true) ∧ (AcceptedWrite 0x2201 0x01 h (.num 0) who (s.advance t)) ∧ ((streamState s h = 3 ∨ streamState s h = 4)) :=
  ⟨10^15, 7, .dtls 0, withRo (withCfg wRun [(0x2201, 0x0B, 7, 0)]) [(0x2203, 1, 7, 3)], by decide +kernel⟩

theorem witness_PartnerStreamsStartAndStop_3 : ∃ (t h : Nat) (who : Who) (on : Bool) (s : State),
    (s.running = false) ∧ (AcceptedWrite 0x2201 0x01 h (.num (b2n on)) who (s.advance t)) :=
  ⟨10^15, 7, .dtls 0, true, wStart, by decide +kernel⟩

theorem witness_PartnerStreamsStartAndStop_4 : ∃ (t a : Nat) (s : State),
    (s.ingest.collection = some a) ∧ (a + ms 1 ≤ max s.now t) :=
  ⟨10^15, 0, wRun.onIngest fun i => { i with collection := some 0 }, by decide +kernel⟩

theorem witness_PartnerStreamsStartAndStop_5 : ∃ (t a h reason : Nat) (s : State),
    (Room s) ∧ (h < firstLocal) ∧ (s.running = true) ∧ (s.ingest.collection = some a) ∧ (s.ingest.collected = [h]) ∧ (a + ms 1 ≤ max s.now t) ∧ (s.rw 0x2201 0x01 h = 1) ∧ (streamState s h = 0) ∧ (admissionTest s.active (admissionLimit s) (h :: admittedPartners s) = some reason) :=
  ⟨10^15, 0, 7, 2, (withLive (withCfg wRun [(0x2201, 8, 7, 0), (0x2201, 0x0A, 7, 10 ^ 8), (0x2301, 1, 0, 1)]) [(0x2201, 1, 7, 1)]).onIngest fun i => { i with collection := some 0, collected := [7] }, by decide +kernel⟩

theorem witness_PartnerStreamsStartAndStop_6 : ∃ (t a h : Nat) (s : State),
    (h < firstLocal) ∧ (s.running = true) ∧ (s.ingest.collection = some a) ∧ (s.ingest.collected = [h]) ∧ (a + ms 1 ≤ max s.now t) ∧ (s.rw 0x2201 0x01 h = 1) ∧ (streamState s h ≤ 1) ∧ (admissionTest s.active (admissionLimit s) (h :: admittedPartners s) = none) ∧ (sessionMode s h = 1) :=
  ⟨10^15, 0, 7, (withLive (withCfg wRun [(0x2201, 0x0B, 7, 1)]) [(0x2201, 1, 7, 1)]).onIngest fun i => { i with collection := some 0, collected := [7] }, by decide +kernel⟩

theorem witness_PartnerStreamsStartAndStop_7 : ∃ (t a : Nat) (s : State),
    (s.ingest.collection = some a) ∧ (max s.now t < a + ms 1) :=
  ⟨10^15, 10^15, wRun.onIngest fun i => { i with collection := some (10^15) }, by decide +kernel⟩

theorem witness_PartnerStreamsStartAndStop_8 : ∃ (t h : Nat) (s : State),
    (h < firstLocal) ∧ (s.running = true) ∧ (streamState s h = 6) :=
  ⟨10^15, 7, withRo wRun [(0x2203, 1, 7, 6)], by decide +kernel⟩

theorem witness_PartnerStreamsStartAndStop_9 : ∃ (t h : Nat) (s : State),
    (streamState s h ≠ 6) :=
  ⟨10^15, 7, wRun, by decide +kernel⟩

theorem witness_PartnerStreamsStartAndStop_10 : ∃ (t h : Nat) (s : State),
    ((s.stream h).oldCfg.isSome = true) ∧ ((s.stream h).adoptedAt + sec 60 ≤ max s.now t) :=
  ⟨10^15, 7, wRun.setStream 7 { Stream.reset with oldCfg := some default }, by decide +kernel⟩

theorem witness_PartnerStreamsStartAndStop_11 : ∃ (t h : Nat) (s : State),
    (max s.now t < (s.stream h).adoptedAt + sec 60) :=
  ⟨10^15, 7, wRun.setStream 7 { Stream.reset with oldCfg := some default, adoptedAt := 10^15 }, by decide +kernel⟩

theorem witness_PartnerStreamsStartAndStop_12 : ∃ (t : Nat) (o : OldTable) (s : State),
    (s.ingest.oldTable = some o) ∧ (o.dropSlot ≤ (s.group 0).next) :=
  ⟨10^15, default, wRun.onIngest fun i => { i with oldTable := some default }, by decide +kernel⟩

theorem witness_PartnerStreamsStartAndStop_13 : ∃ (t : Nat) (o : OldTable) (s : State),
    (s.ingest.oldTable = some o) ∧ ((s.group 0).next < o.dropSlot) :=
  ⟨10^15, { (default : OldTable) with dropSlot := 9 }, wRun.onIngest fun i => { i with oldTable := some { (default : OldTable) with dropSlot := 9 } }, by decide +kernel⟩

theorem witness_PartnerStatusIsCoalesced_1 : ∃ (t c : Nat) (clearing : Bool) (w : StatusWindow) (s : State),
    (Room s) ∧ (s.running = true) ∧ (s.ingest.windows.find? (fun w => w.cond == c && w.clearing == clearing) = some w) ∧ (w.start + 2 ^ 48 / s.fnom ≤ (s.advance t).t96) ∧ (s.ingest.bitmapNext < 16) :=
  ⟨10^15, 2, true, ⟨2, true, 5, [3]⟩, wRun.onIngest fun i => { i with windows := [⟨2, true, 5, [3]⟩], bitmapNext := 15 }, by decide +kernel⟩

theorem witness_PartnerStatusIsCoalesced_2 : ∃ (t c : Nat) (clearing : Bool) (w : StatusWindow) (s : State),
    (s.ingest.windows.find? (fun w => w.cond == c && w.clearing == clearing) = some w) ∧ ((s.advance t).t96 < w.start + 2 ^ 48 / s.fnom) :=
  ⟨10^15, 2, true, ⟨2, true, 2 ^ 90, [3]⟩, wRun.onIngest fun i => { i with windows := [⟨2, true, 2 ^ 90, [3]⟩] }, by decide +kernel⟩

theorem witness_PartnerStatusIsCoalesced_3 : ∃ (t : Nat) (who : Who) (s : State),
    (AcceptedPlain 0x2260 0x01 who (s.advance t)) :=
  ⟨10^15, .dtls 0, withRo wRun [(0x2230, 1, noRow, 5), (0x2203, 6, 2, 7)], by decide +kernel⟩

theorem witness_SlotsOpenInTheirWindow_1 : ∃ (t g : Nat) (s : State),
    (s.running = true) ∧ (s.time.isSet = true) ∧ ((s.group g).rate ≠ 0) ∧ (slotPoint (s.advance t) (s.group g).rate (s.group g).next (-2) ≤ (s.advance t).t96) :=
  ⟨10^15, 0, wGrid, by decide +kernel⟩

theorem witness_SlotsOpenInTheirWindow_2 : ∃ (t g : Nat) (s : State),
    (g < 64) ∧ (g ≠ 0) ∧ (s.running = true) ∧ (s.time.isSet = true) ∧ ((s.group g).rate ≠ 0) ∧ ((s.group g).slots = []) ∧ ((s.group g).recallTarget = none) ∧ (packWaits s g = false) ∧ (follows s = false) ∧ (framesToCome (s.advance t) = false) ∧ (slotPoint (s.advance t) (s.group g).rate (s.group g).next (-2) ≤ (s.advance t).t96) ∧ ((newSlot (s.advance t) g (s.group g).next).complete = false) ∧ ((newSlot (s.advance t) g (s.group g).next).quorumMet = false) ∧ ((newSlot (s.advance t) g (s.group g).next).waitReleases s.fnom (s.advance t).t96 = false) ∧ ((newSlot (s.advance t) g (s.group g).next).waitOver (s.advance t).t96 = false) :=
  ⟨10^15, 3, wGrid, by decide +kernel⟩

theorem witness_SlotsOpenInTheirWindow_3 : ∃ (t g : Nat) (s : State),
    ((s.running = false ∨ s.time.isSet = false ∨ (s.group g).rate = 0 ∨ (s.advance t).t96 < slotPoint (s.advance t) (s.group g).rate (s.group g).next (-2))) :=
  ⟨10^15, 3, wRun, by decide +kernel⟩

theorem witness_SlotsAreReleasedCommittedAndRecalled_1 : ∃ (t g i : Nat) (s : State),
    (((s.group g).slot? i).isSome = true) :=
  ⟨10^15, 3, 9, wRun.setGroup 3 { Group.reset with rate := 50, slots := [(9, wSlot)] }, by decide +kernel⟩

theorem witness_SlotsAreReleasedCommittedAndRecalled_2 : ∃ (t g i : Nat) (s : State),
    (((s.group g).slot? i).isSome = true) :=
  ⟨10^15, 3, 9, wRun.setGroup 3 { Group.reset with rate := 50, slots := [(9, wSlot)] }, by decide +kernel⟩

theorem witness_SlotsAreReleasedCommittedAndRecalled_3 : ∃ (t g i : Nat) (s : State),
    ((s.group g).slot? i = none) :=
  ⟨10^15, 3, 9, wRun, by decide +kernel⟩

theorem witness_SlotsAreReleasedCommittedAndRecalled_4 : ∃ (t g i : Nat) (s : State),
    ((s.group g).slot? i = none) :=
  ⟨10^15, 3, 9, wRun, by decide +kernel⟩

theorem witness_SlotsAreReleasedCommittedAndRecalled_5 : ∃ (t g i : Nat) (sl : Slot) (s : State),
    (g < 64) ∧ (s.running = true) ∧ (follows s = false) ∧ (packed s = false) ∧ (packWaits s g = false) ∧ (framesToCome (s.advance t) = false) ∧ ((s.group g).recallTarget = none) ∧ ((s.group g).newest = none) ∧ ((s.group g).slots = [(i, sl)]) ∧ (sl.state = 1) ∧ (sl.speculative = true) ∧ (sl.complete = false) ∧ (sl.quorumMet = false) ∧ (sl.waitOver (s.advance t).t96 = false) ∧ (sl.waitReleases s.fnom (s.advance t).t96 = true) :=
  ⟨10^15, 3, 9, wSlot, wRun.setGroup 3 { Group.reset with rate := 50, slots := [(9, wSlot)] }, by decide +kernel⟩

theorem witness_SlotsAreReleasedCommittedAndRecalled_6 : ∃ (t g i : Nat) (sl : Slot) (s : State),
    (g < 64) ∧ (s.running = true) ∧ (follows s = false) ∧ (packed s = false) ∧ (packWaits s g = false) ∧ (framesToCome (s.advance t) = false) ∧ ((s.group g).recallTarget = none) ∧ ((s.group g).newest = none) ∧ ((s.group g).slots = [(i, sl)]) ∧ (sl.rate = (s.group g).rate) ∧ ((sl.state = 1 ∨ sl.state = 2)) ∧ (sl.waitOver (s.advance t).t96 = true) :=
  ⟨10^15, 3, 9, { wSlot with wait := 0, nominal := 0 }, wRun.setGroup 3 { Group.reset with rate := 50, slots := [(9, { wSlot with wait := 0, nominal := 0 })] }, by decide +kernel⟩

theorem witness_SlotsAreReleasedCommittedAndRecalled_7 : ∃ (t g r : Nat) (s : State),
    ((s.group g).recallTarget = some r) :=
  ⟨10^15, 3, 9, wRecall, by decide +kernel⟩

theorem witness_SlotsAreReleasedCommittedAndRecalled_8 : ∃ (t g : Nat) (s : State),
    ((s.group g).recallTarget = none) :=
  ⟨10^15, 3, wRun, by decide +kernel⟩

theorem witness_SlotsAreReleasedCommittedAndRecalled_9 : ∃ (t g r : Nat) (sl : Slot) (s : State),
    (g < 64) ∧ (s.running = true) ∧ (follows s = false) ∧ (packed s = false) ∧ (packWaits s g = false) ∧ ((s.group g).recallTarget = some r) ∧ (recallOrder s = [((s.group g).recallAt, g)]) ∧ ((s.group g).newest = none) ∧ ((s.group g).slots = [(r, sl)]) ∧ (sl.state = 3) ∧ (sl.undo.isSome = true) ∧ (sl.complete = false) ∧ (sl.waitOver (s.advance t).t96 = false) :=
  ⟨10^15, 3, 9, { wSlot with state := 3, undo := some default }, wRecall, by decide +kernel⟩

theorem witness_SpeculationIsSuspendedAndResumed_1 : ∃ (t g c b e : Nat) (s : State),
    (g < 64) ∧ (follows s = false) ∧ ((∀ x ∈ (s.group g).slots, x.2.state = 4)) ∧ ((s.group g).suspended = some (c, b, e)) ∧ (e ≤ (s.advance t).t96) :=
  ⟨10^15, 3, 0, 0, 7, wRun.setGroup 3 { Group.reset with rate := 50, suspended := some (0, 0, 7), slots := [(9, { wSlot with state := 4 })] }, by decide +kernel⟩

theorem witness_SpeculationIsSuspendedAndResumed_2 : ∃ (t g c b e : Nat) (s : State),
    ((s.group g).suspended = some (c, b, e)) ∧ ((s.advance t).t96 < e) :=
  ⟨10^15, 3, 0, 0, 2 ^ 90, wRun.setGroup 3 { Group.reset with rate := 50, suspended := some (0, 0, 2 ^ 90) }, by decide +kernel⟩

theorem witness_SpeculationIsSuspendedAndResumed_3 : ∃ (t g : Nat) (who : Who) (s : State),
    (g < 64) ∧ (Accepted 0x2330 0x02 g (.num 0) who (s.advance t)) ∧ (follows s = false) ∧ ((∀ x ∈ (s.group g).slots, x.2.state = 4)) ∧ ((s.group g).suspended.isSome = true) :=
  ⟨10^15, 3, .dtls 0, wRun.setGroup 3 { Group.reset with rate := 50, suspended := some (0, 0, 7), slots := [(9, { wSlot with state := 4 })] }, by decide +kernel⟩

theorem witness_SpeculationIsSuspendedAndResumed_4 : ∃ (t g : Nat) (who : Who) (s : State),
    (Accepted 0x2330 0x02 g (.num 0) who (s.advance t)) ∧ ((s.group g).suspended = none) :=
  ⟨10^15, 3, .dtls 0, wRun, by decide +kernel⟩

theorem witness_SpeculationIsSuspendedAndResumed_5 : ∃ (t g : Nat) (s : State),
    (g < 64) ∧ (s.running = true) ∧ (follows s = false) ∧ (s.cfgB 0x2304 0x01 g = true) ∧ ((∀ x ∈ (s.group g).slots, x.2.state = 4)) :=
  ⟨10^15, 3, (withCfg wRun [(0x2304, 1, 3, 1)]).setGroup 3 { Group.reset with rate := 50, slots := [(9, { wSlot with state := 4 })] }, by decide +kernel⟩

theorem witness_SpeculationIsSuspendedAndResumed_6 : ∃ (t g : Nat) (s : State),
    (g < 64) ∧ (s.running = true) ∧ (follows s = false) ∧ (s.cfgB 0x2304 0x01 g = false) ∧ ((∀ x ∈ (s.group g).slots, x.2.state = 4)) :=
  ⟨10^15, 3, (withCfg wRun [(0x2304, 1, 3, 0)]).setGroup 3 { Group.reset with rate := 50, slots := [(9, { wSlot with state := 4 })] }, by decide +kernel⟩

theorem witness_SpeculationIsSuspendedAndResumed_7 : ∃ (t g : Nat) (s : State),
    (s.running = false) :=
  ⟨10^15, 3, wStart, by decide +kernel⟩

theorem witness_SpeculationIsSuspendedAndResumed_8 : ∃ (t : Nat) (who : Who) (s : State),
    (AcceptedPlain 0x2330 0x01 who (s.advance t)) :=
  ⟨10^15, .dtls 0, withRo wRun [(0x2320, 1, 7, 5)], by decide +kernel⟩

theorem witness_MigrationsRunFromLoadToCutover_1 : ∃ (t h : Nat) (m : Migration) (s : State),
    (lookup h s.place.migrations = some m) ∧ (m.phase = 0) :=
  ⟨10^15, 7, ⟨3, 5, 0, 0, false, true, 0⟩, wRun.onPlace fun p => { p with migrations := [(7, ⟨3, 5, 0, 0, false, true, 0⟩)], placed := [(7, 3)] }, by decide +kernel⟩

theorem witness_MigrationsRunFromLoadToCutover_2 : ∃ (t h : Nat) (s : State),
    ((lookup h s.place.migrations).any (fun m => m.phase = 0) = false) :=
  ⟨10^15, 7, wRun.onPlace fun p => { p with migrations := [(7, ⟨3, 5, 1, 0, false, true, 0⟩)], placed := [(7, 3)] }, by decide +kernel⟩

theorem witness_MigrationsRunFromLoadToCutover_3 : ∃ (t h : Nat) (m : Migration) (s : State),
    (lookup h s.place.migrations = some m) ∧ (m.phase = 1) ∧ (m.b1 ≤ (s.advance t).t96) :=
  ⟨10^15, 7, ⟨3, 5, 1, 0, false, true, 0⟩, wRun.onPlace fun p => { p with migrations := [(7, ⟨3, 5, 1, 0, false, true, 0⟩)], placed := [(7, 3)] }, by decide +kernel⟩

theorem witness_MigrationsRunFromLoadToCutover_4 : ∃ (t h : Nat) (s : State),
    ((lookup h s.place.migrations).any (fun m => m.phase = 1 ∧ m.b1 ≤ (s.advance t).t96) = false) :=
  ⟨10^15, 7, wRun.onPlace fun p => { p with migrations := [(7, ⟨3, 5, 1, 2 ^ 90, false, true, 0⟩)], placed := [(7, 3)] }, by decide +kernel⟩

theorem witness_MigrationsRunFromLoadToCutover_5 : ∃ (t h : Nat) (m : Migration) (s : State),
    (h < 20480) ∧ (lookup h s.place.migrations = some m) ∧ (m.phase = 2) ∧ (m.equal = true) ∧ (m.b1 + periodsT96 s h (if m.seen then 2 else 8) ≤ (s.advance t).t96) :=
  ⟨10^15, 7, ⟨3, 5, 2, 0, false, true, 0⟩, wMigrating false, by decide +kernel⟩

theorem witness_MigrationsRunFromLoadToCutover_6 : ∃ (t h : Nat) (m : Migration) (s : State),
    (lookup h s.place.migrations = some m) ∧ (m.phase = 2) ∧ (m.equal = true) ∧ (m.b1 + periodsT96 s h (if m.seen then 2 else 8) ≤ (s.advance t).t96) ∧ (s.place.waiting = []) ∧ (s.place.draining = []) :=
  ⟨10^15, 7, ⟨3, 5, 2, 0, true, true, 0⟩, wMigrating true, by decide +kernel⟩

theorem witness_MigrationsRunFromLoadToCutover_7 : ∃ (t h : Nat) (s : State),
    ((lookup h s.place.migrations).any (fun m => m.phase = 2 ∧ m.equal = true) = false) :=
  ⟨10^15, 7, wRun.onPlace fun p => { p with migrations := [(7, ⟨3, 5, 1, 0, false, true, 0⟩)], placed := [(7, 3)] }, by decide +kernel⟩

theorem witness_MigrationsRunFromLoadToCutover_8 : ∃ (t h reason : Nat) (failed : List Nat) (m : Migration) (s : State),
    (lookup h s.place.migrations = some m) ∧ ((reason = 0 ∧ m.startedAt + Nat.max (sec 2) (psOf (Q.mul (Q.ofNat 32) (periodQ (s.cfgInt 0x2301 0x01 (groupOf s h))))) ≤ max s.now t ∨ reason = 1 ∧ sliceState s m.target ≠ 0 ∨ reason = 2 ∧ admitted s h = false ∨ reason = 3 ∧ m.phase = 2 ∧ failed = [])) :=
  ⟨10^15, 7, 3, [], ⟨3, 5, 2, 0, true, true, 0⟩, wMigrating true, by decide +kernel⟩

theorem witness_MigrationsRunFromLoadToCutover_9 : ∃ (t h reason : Nat) (failed : List Nat) (s : State),
    (lookup h s.place.migrations = none) :=
  ⟨10^15, 7, 3, [], wRun, by decide +kernel⟩

theorem witness_FailedSlicesAreReplaced_1 : ∃ (t k sp cause : Nat) (s : State),
    (Room s) ∧ (s.running = true) ∧ (k < 68) ∧ (cause ≤ 3) ∧ (sliceState s k = 0) ∧ ((slicesIn s 1).head? = some sp) ∧ (slicesIn s 2 = []) ∧ (s.place.migrations = []) ∧ (s.place.waiting = []) ∧ (s.place.unacknowledged = []) :=
  ⟨10^15, 3, 64, 1, wRun.onPlace fun p => { p with placed := [(7, 3), (8, 4), (9, 3)] }, by decide +kernel⟩

theorem witness_FailedSlicesAreReplaced_2 : ∃ (t k cause : Nat) (s : State),
    (s.dev ≠ stStart) ∧ (s.running = false) :=
  ⟨10^15, 3, 1, wSafe, by decide +kernel⟩

theorem witness_FailedSlicesAreReplaced_4 : ∃ (t k new begun : Nat) (s : State),
    (Room s) ∧ (lookup k s.place.takeovers = some (new, begun)) ∧ (new < 68) ∧ (sliceState s new = 3) ∧ (s.place.unacknowledged = []) :=
  ⟨10^15, 3, 64, 5, wRun.onPlace fun p => { p with slices := [(3, 4), (64, 3), (65, 1)], takeovers := [(3, (64, 5))] }, by decide +kernel⟩

theorem witness_FailedSlicesAreReplaced_5 : ∃ (t k : Nat) (s : State),
    (lookup k s.place.takeovers = none) ∧ (s.place.unacknowledged = []) :=
  ⟨10^15, 3, wRun, by decide +kernel⟩

theorem witness_FailedSlicesAreReplaced_6 : ∃ (t k : Nat) (s : State),
    (Room s) ∧ (s.running = true) ∧ (k < 68) ∧ (sliceState s k = 1) :=
  ⟨10^15, 67, wRun, by decide +kernel⟩

theorem witness_LoadsAreMeasuredAndSlicesParked_1 : ∃ (t : Nat) (s : State),
    (s.running = true) ∧ (s.place.sampledAt + ms 100 ≤ max s.now t) :=
  ⟨10^15, wRun.onPlace fun p => { p with counts := [(3, (40, 2))], sampledAt := 9 * 10^14 }, by decide +kernel⟩

theorem witness_LoadsAreMeasuredAndSlicesParked_2 : ∃ (t : Nat) (s : State),
    (s.running = true) ∧ (s.cfgB 0x2400 0x01 = false) ∧ (slicesIn s 2 = []) ∧ (s.jobs.parked = []) :=
  ⟨10^15, (withCfg wRun [(0x2400, 1, noRow, 0)]).onPlace fun p => { p with counts := [(3, (40, 2))] }, by decide +kernel⟩

theorem witness_LoadsAreMeasuredAndSlicesParked_3 : ∃ (t : Nat) (s : State),
    (max s.now t < s.place.sampledAt + ms 100) :=
  ⟨10^15, wRun.onPlace fun p => { p with sampledAt := 10^15 }, by decide +kernel⟩

theorem witness_LoadsAreMeasuredAndSlicesParked_4 : ∃ (t : Nat) (who : Who) (s : State),
    (AcceptedPlain 0x2430 0x02 who (s.advance t)) ∧ (s.running = true) :=
  ⟨10^15, .dtls 0, wRun, by decide +kernel⟩

theorem witness_LoadsAreMeasuredAndSlicesParked_5 : ∃ (t : Nat) (who : Who) (s : State),
    (AcceptedPlain 0x2430 0x02 who (s.advance t)) ∧ (s.running = false) :=
  ⟨10^15, .dtls 0, wStart, by decide +kernel⟩

theorem witness_LoadsAreMeasuredAndSlicesParked_6 : ∃ (t a k : Nat) (s : State),
    (s.running = true) ∧ (s.cfgB 0x2400 0x05 = true) ∧ (s.place.lowSince = some a) ∧ (a + sec (s.cfg 0x2400 0x07) ≤ max s.now t) ∧ (s.place.coreLowSince = none) ∧ (s.place.unparking = false) ∧ (s.place.draining = []) ∧ (s.place.placed = []) ∧ (s.place.migrations = []) ∧ (s.place.waiting = []) ∧ ((slicesIn s 0).head? = some k) :=
  ⟨10^15, 0, 0, (withCfg wRun [(0x2400, 5, noRow, 1)]).onPlace fun p => { p with lowSince := some 0 }, by decide +kernel⟩

theorem witness_LoadsAreMeasuredAndSlicesParked_7 : ∃ (t : Nat) (s : State),
    (s.cfgB 0x2400 0x05 = false) :=
  ⟨10^15, withCfg wRun [(0x2400, 5, noRow, 0)], by decide +kernel⟩

theorem witness_LoadsAreMeasuredAndSlicesParked_8 : ∃ (t : Nat) (s : State),
    (s.place.unparking = true) :=
  ⟨10^15, wRun.onPlace fun p => { p with unparking := true, slices := [(3, 2), (67, 2)] }, by decide +kernel⟩

theorem witness_LoadsAreMeasuredAndSlicesParked_9 : ∃ (t : Nat) (s : State),
    (s.place.unparking = false) :=
  ⟨10^15, wRun, by decide +kernel⟩

theorem witness_LoadsAreMeasuredAndSlicesParked_10 : ∃ (t : Nat) (who : Who) (s : State),
    (AcceptedPlain 0x2430 0x03 who (s.advance t)) :=
  ⟨10^15, .dtls 0, wRun, by decide +kernel⟩

theorem witness_EnginesReportAndReset_1 : ∃ (t k : Nat) (s : State),
    (s.running = true) ∧ (1 ≤ s.ro 0x2513 0x01) ∧ (s.ro 0x2513 0x01 ≤ 3) ∧ (packed s = false) ∧ (placesHere s = true) ∧ (k = (if s.eddy.mode.last = 0 then refreshReady (s.advance t) else s.eddy.mode.last + 1)) ∧ (k ≠ 0) ∧ (k ≤ refreshReady (s.advance t)) :=
  ⟨10^15, 6, wMeter, by decide +kernel⟩

theorem witness_EnginesReportAndReset_2 : ∃ (t : Nat) (s : State),
    (packed s = false) ∧ (s.eddy.mode.last ≠ 0) ∧ (refreshReady (s.advance t) ≤ s.eddy.mode.last) :=
  ⟨10^15, wMeter.onMode fun m => { m with last := 50000 }, by decide +kernel⟩

theorem witness_EnginesReportAndReset_3 : ∃ (t : Nat) (s : State),
    (packed s = false) ∧ (s.ro 0x2513 0x01 = 0) :=
  ⟨10^15, wRun, by decide +kernel⟩

theorem witness_EnginesReportAndReset_4 : ∃ (t : Nat) (s : State),
    (s.running = true) ∧ (packed s = false) ∧ (placesHere s = true) ∧ (s.cfgB 0x2500 0x01 = true) ∧ (s.cfgB 0x2518 0x01 = true) ∧ (bandCentre s = 0) :=
  ⟨10^15, withCfg wRun [(0x2500, 1, noRow, 1), (0x2518, 1, noRow, 1)], by decide +kernel⟩

theorem witness_EnginesReportAndReset_5 : ∃ (t hi : Nat) (s : State),
    (s.running = true) ∧ (packed s = false) ∧ (placesHere s = true) ∧ (s.cfgB 0x2500 0x01 = true) ∧ (s.cfgB 0x2518 0x01 = true) ∧ (bandCentre s ≠ 0) ∧ (branchRows s ≠ []) ∧ (hi = (s.advance t).t96Sec * 2 ^ 48 - (14100 + s.cfg 0x2301 0x02 (s.cfg 0x2510 0x02)) * 2 ^ 48 / 1000) ∧ ((∀ r ∈ branchRows s, 10 * s.cfg 0x2518 0x05 ≤ ((s.branch r).series.filter fun p => hi - s.cfg 0x2518 0x05 * 2 ^ 48 ≤ p.1 && p.1 < hi).length)) :=
  ⟨10^15, 5000 * 2 ^ 48 - (14100 + (wBranch.cfg 0x2301 2 0)) * 2 ^ 48 / 1000, wBranch, by decide +kernel⟩

theorem witness_EnginesReportAndReset_6 : ∃ (t hi : Nat) (s : State),
    (s.running = true) ∧ (packed s = false) ∧ (placesHere s = true) ∧ (s.cfgB 0x2500 0x01 = true) ∧ (s.cfgB 0x2518 0x01 = true) ∧ (bandCentre s ≠ 0) ∧ (hi = (s.advance t).t96Sec * 2 ^ 48 - (14100 + s.cfg 0x2301 0x02 (s.cfg 0x2510 0x02)) * 2 ^ 48 / 1000) ∧ ((branchRows s = [] ∨ ∃ r ∈ branchRows s, ((s.branch r).series.filter fun p => hi - s.cfg 0x2518 0x05 * 2 ^ 48 ≤ p.1 && p.1 < hi).length < 10 * s.cfg 0x2518 0x05)) :=
  ⟨10^15, 5000 * 2 ^ 48 - (14100 + (wBranch.cfg 0x2301 2 0)) * 2 ^ 48 / 1000, wBranch.setBranch 3 Branch.reset, by decide +kernel⟩

theorem witness_EnginesReportAndReset_7 : ∃ (t : Nat) (s : State),
    (packed s = false) ∧ (placesHere s = true) ∧ ((s.cfgB 0x2500 0x01 = false ∨ s.cfgB 0x2518 0x01 = false)) :=
  ⟨10^15, wRun, by decide +kernel⟩

theorem witness_EnginesReportAndReset_8 : ∃ (t e : Nat) (w : WaveWindow) (p : List Nat) (s : State),
    (s.running = true) ∧ (s.cfgB 0x2500 0x01 = true) ∧ (s.ro 0x2F45 0x01 = 0) ∧ (w.set < 8) ∧ (w.invalid = false) ∧ (s.cfg 0x2901 0x02 (w.set % 4) ≠ 1) ∧ (w.phases = [p]) ∧ (e = (s.advance t).t96 * 10 / 2 ^ 48 * 2 ^ 48 / 10) :=
  ⟨10^15, 5000 * 2 ^ 48, ⟨1, false, [[0x3F800000, 0x3F800000]]⟩, [0x3F800000, 0x3F800000], withCfg wRun [(0x2500, 1, noRow, 1), (0x2530, 1, 2, 1)], by decide +kernel⟩

theorem witness_EnginesReportAndReset_9 : ∃ (t m : Nat) (s : State),
    (Room s) ∧ (m < 4) ∧ (bit (s.lom m).operated 1 = true) ∧ ((s.lom m).holdUntil ≤ max s.now t) :=
  ⟨10^15, 3, wRun.setLom 3 { Lom.reset with operated := 2 }, by decide +kernel⟩

theorem witness_EnginesReportAndReset_10 : ∃ (t m : Nat) (s : State),
    (max s.now t < (s.lom m).holdUntil) :=
  ⟨10^15, 3, wRun.setLom 3 { Lom.reset with operated := 2, holdUntil := 2 * 10^15 }, by decide +kernel⟩

theorem witness_EnginesReportAndReset_11 : ∃ (t : Nat) (who : Who) (s : State),
    (AcceptedPlain 0x2550 0x02 who (s.advance t)) :=
  ⟨10^15, .dtls 0, withCfg wRun [(0x2500, 1, noRow, 1), (0x2510, 1, noRow, 1)], by decide +kernel⟩

theorem witness_LocalRulesAreDecided_1 : ∃ (t r : Nat) (s : State),
    (s.running = true) ∧ (s.cfgB 0x2701 0x01 r = true) ∧ (s.cfg 0x2701 0x03 r = 0xFF) ∧ ((s.alarmOf r).state = 0) ∧ ((tabGet Track.reset s.alarm.committed r).raised = false) ∧ ((evaluate r none (s.advance t)).1.cond = false) :=
  ⟨10^15, 5, withCfg wRun [(0x2701, 1, 5, 1), (0x2701, 3, 5, 255), (0x2701, 2, 5, 1), (0x2702, 1, 40, 13)], by decide +kernel⟩

theorem witness_LocalRulesAreDecided_2 : ∃ (t r : Nat) (s : State),
    (s.running = true) ∧ (s.cfgB 0x2701 0x01 r = true) ∧ (s.cfg 0x2701 0x03 r = 0xFF) ∧ ((s.alarmOf r).state = 0) ∧ (tabGet Track.reset s.alarm.committed r = Track.reset) ∧ (s.cfg 0x2701 0x05 r = 0) ∧ ((evaluate r none (s.advance t)).1.cond = true) :=
  ⟨10^15, 5, wRule 0, by decide +kernel⟩

theorem witness_LocalRulesAreDecided_3 : ∃ (t r : Nat) (s : State),
    (s.running = true) ∧ (s.cfgB 0x2701 0x01 r = true) ∧ (s.cfg 0x2701 0x03 r = 0xFF) ∧ ((s.alarmOf r).state = 0) ∧ (tabGet Track.reset s.alarm.committed r = Track.reset) ∧ (0 < s.cfg 0x2701 0x05 r) ∧ ((evaluate r none (s.advance t)).1.cond = true) :=
  ⟨10^15, 5, wRule 20, by decide +kernel⟩

theorem witness_LocalRulesAreDecided_4 : ∃ (t r : Nat) (s : State),
    (s.running = true) ∧ (s.cfgB 0x2701 0x01 r = true) ∧ (s.cfg 0x2701 0x03 r = 0xFF) ∧ ((s.alarmOf r).state = 2) ∧ ((tabGet Track.reset s.alarm.committed r).raised = true) ∧ (s.cfg 0x2701 0x06 r = 0) ∧ ((evaluate r none (s.advance t)).1.cond = false) :=
  ⟨10^15, 5, ((withCfg (wRule 0) [(0x2702, 4, 40, 0), (0x2701, 6, 5, 0), (0x2701, 0x0C, 5, 1)]).setAlarm 5 { Alarm.reset with state := 2 }).onAlarm fun a => { a with committed := [(5, ⟨true, 0, none⟩)] }, by decide +kernel⟩

theorem witness_LocalRulesAreDecided_5 : ∃ (t r : Nat) (s : State),
    ((s.running = false ∨ s.cfgB 0x2701 0x01 r = false ∨ s.cfg 0x2701 0x03 r ≠ 0xFF)) :=
  ⟨10^15, 5, wRun, by decide +kernel⟩

theorem witness_LocalRulesAreDecided_6 : ∃ (t r : Nat) (who : Who) (s : State),
    (Room s) ∧ (Accepted 0x2730 0x01 r (.num 0) who (s.advance t)) ∧ ((s.alarmOf r).state = 2) :=
  ⟨10^15, 5, .dtls 0, wRun.setAlarm 5 { Alarm.reset with state := 2 }, by decide +kernel⟩

theorem witness_LocalRulesAreDecided_7 : ∃ (t r : Nat) (who : Who) (s : State),
    (Accepted 0x2730 0x01 r (.num 0) who (s.advance t)) ∧ ((s.alarmOf r).state ≠ 2) :=
  ⟨10^15, 5, .dtls 0, wRun.setAlarm 5 { Alarm.reset with state := 1 }, by decide +kernel⟩

theorem witness_RuleOwnedPinsFailSafe_1 : ∃ (t : Nat) (s : State),
    (s.running = true) :=
  ⟨10^15, wRun, by decide +kernel⟩

theorem witness_RuleOwnedPinsFailSafe_2 : ∃ (t : Nat) (s : State),
    (s.running = false) :=
  ⟨10^15, wStart, by decide +kernel⟩

theorem witness_RuleOwnedPinsFailSafe_3 : ∃ (t : Nat) (s : State),
    (Room s) ∧ (s.running = true) ∧ (s.alarm.beatLost = false) ∧ (s.alarm.lastBeat + ms 1 ≤ max s.now t) :=
  ⟨10^15, wRun, by decide +kernel⟩

theorem witness_RuleOwnedPinsFailSafe_4 : ∃ (t : Nat) (s : State),
    ((s.running = false ∨ s.alarm.beatLost = true ∨ max s.now t < s.alarm.lastBeat + ms 1)) :=
  ⟨10^15, wRun.onAlarm fun a => { a with lastBeat := 10^15 }, by decide +kernel⟩

theorem witness_RuleOwnedPinsFailSafe_5 : ∃ (t p : Nat) (s : State),
    (p < 8) ∧ (s.cfg 0x2700 0x01 p = 0) :=
  ⟨10^15, 7, withCfg wRun [(0x2700, 1, 7, 0)], by decide +kernel⟩

theorem witness_RuleOwnedPinsFailSafe_6 : ∃ (t p : Nat) (s : State),
    ((8 ≤ p ∨ s.cfg 0x2700 0x01 p ≠ 0)) :=
  ⟨10^15, 7, withCfg wRun [(0x2700, 1, 7, 1)], by decide +kernel⟩

theorem witness_RuleOwnedPinsFailSafe_7 : ∃ (t p : Nat) (who : Who) (s : State),
    (Room s) ∧ (Accepted 0x2730 0x03 p (.num 0) who (s.advance t)) ∧ (s.running = true) ∧ (p < 8) ∧ (s.cfg 0x2700 0x01 p = 0) ∧ (s.alarm.beatLost = false) :=
  ⟨10^15, 7, .dtls 0, withCfg wRun [(0x2700, 1, 7, 0)], by decide +kernel⟩

theorem witness_RuleOwnedPinsFailSafe_8 : ∃ (t p : Nat) (who : Who) (s : State),
    (Accepted 0x2730 0x03 p (.num 0) who (s.advance t)) ∧ ((s.running = false ∨ s.cfg 0x2700 0x01 p ≠ 0)) :=
  ⟨10^15, 7, .dtls 0, withCfg wRun [(0x2700, 1, 7, 1)], by decide +kernel⟩

theorem witness_RuleOwnedPinsFailSafe_9 : ∃ (t p e : Nat) (s : State),
    (p < 8) ∧ (s.cfg 0x2700 0x01 p = 0) ∧ ((s.pin p).testUntil = some e) ∧ (e ≤ max s.now t) :=
  ⟨10^15, 7, 5, (withCfg wRun [(0x2700, 1, 7, 0)]).setPin 7 ⟨0, some 5⟩, by decide +kernel⟩

theorem witness_RuleOwnedPinsFailSafe_10 : ∃ (t p : Nat) (s : State),
    (((s.pin p).testUntil = none ∨ max s.now t < (s.pin p).testUntil.getD 0)) :=
  ⟨10^15, 7, wRun, by decide +kernel⟩

theorem witness_AlarmFramesAreRepeatedAndLimited_1 : ∃ (t r p : Nat) (x : Report) (s : State),
    (s.running = true) ∧ (lookup (4096 * p + r) s.alarm.repeats = some x) ∧ (x.dueAt ≤ max s.now t) ∧ (alarmUnits s = [p]) :=
  ⟨10^15, 5, 3, ⟨[], 1, 2, 1, 0⟩, wAlarmPort.onAlarm fun a => { a with repeats := [(4096 * 3 + 5, ⟨[], 1, 2, 1, 0⟩)] }, by decide +kernel⟩

theorem witness_AlarmFramesAreRepeatedAndLimited_2 : ∃ (t r : Nat) (s : State),
    ((s.running = false ∨ (alarmUnits s).all (fun p => match lookup (4096 * p + r) s.alarm.repeats with | some x => decide (max s.now t < x.dueAt) | none => true) = true)) :=
  ⟨10^15, 5, wAlarmPort.onAlarm fun a => { a with repeats := [(4096 * 3 + 5, ⟨[], 1, 2, 1, 2 * 10^15⟩)] }, by decide +kernel⟩

theorem witness_AlarmFramesAreRepeatedAndLimited_3 : ∃ (t : Nat) (units : List Nat) (s : State),
    ((s.running = true ∨ s.dev = stSentinel)) ∧ (roleNow s ≠ 2) ∧ (roleByte s ≠ 2) ∧ (s.alarm.heartbeatAt ≤ max s.now t) ∧ (units = (if s.running then alarmUnits s else if prpMode s 2 = 0 then [4, 5] else [10])) ∧ (units ≠ []) :=
  ⟨10^15, [4, 5], (withCfg wSentinel [(0x2101, 1, 2, 0)]), by decide +kernel⟩

theorem witness_AlarmFramesAreRepeatedAndLimited_4 : ∃ (t : Nat) (s : State),
    ((s.running = true ∨ s.dev = stSentinel)) ∧ (roleByte s = 2) ∧ (s.alarm.heartbeatAt ≤ max s.now t) :=
  ⟨10^15, withRo wAlarmPort [(0x3210, 1, noRow, 2)], by decide +kernel⟩

theorem witness_AlarmFramesAreRepeatedAndLimited_5 : ∃ (t : Nat) (s : State),
    (((s.running = false ∧ s.dev ≠ stSentinel) ∨ max s.now t < s.alarm.heartbeatAt)) :=
  ⟨10^15, wStart, by decide +kernel⟩

theorem witness_AlarmFramesAreRepeatedAndLimited_6 : ∃ (t p q : Nat) (b : Bucket) (s : State),
    (s.running = true) ∧ (roleNow s ≠ 2) ∧ (q = unitOf s p) ∧ (b = fillBucket (s.advance t) ((s.advance t).bucket q)) ∧ (b.pending ≠ []) ∧ (0 < b.tokens) ∧ (b.pending.Pairwise (fun x y => x.1 < y.1)) :=
  ⟨10^15, 3, 3, ⟨1, 0, [(5, ⟨[], 1, 2, 1, 0⟩), (9, ⟨[], 1, 0, 1, 0⟩)], true, 0, 0⟩, (withCfg wAlarmPort [(0x2700, 9, noRow, 0)]).setBucket 3 ⟨1, 0, [(5, ⟨[], 1, 2, 1, 0⟩), (9, ⟨[], 1, 0, 1, 0⟩)], true, 0, 0⟩, by decide +kernel⟩

theorem witness_AlarmFramesAreRepeatedAndLimited_7 : ∃ (t p q : Nat) (b : Bucket) (s : State),
    (q = unitOf s p) ∧ (b = fillBucket (s.advance t) ((s.advance t).bucket q)) ∧ ((s.running = false ∨ b.pending = [] ∨ b.tokens = 0)) :=
  ⟨10^15, 3, 3, ⟨0, 0, [(5, ⟨[], 1, 2, 1, 0⟩)], true, 0, 0⟩, (withCfg wAlarmPort [(0x2700, 9, noRow, 0)]).setBucket 3 ⟨0, 0, [(5, ⟨[], 1, 2, 1, 0⟩)], true, 0, 0⟩, by decide +kernel⟩

theorem witness_AlarmFramesAreRepeatedAndLimited_8 : ∃ (t p : Nat) (s : State),
    (Room s) ∧ ((s.bucket (unitOf s p)).storm = true) ∧ ((s.bucket (unitOf s p)).pending = []) ∧ ((s.bucket (unitOf s p)).emptySince + sec 1 ≤ max s.now t) :=
  ⟨10^15, 3, (withCfg wRun [(0x2101, 1, 1, 0)]).setBucket 3 ⟨1, 0, [], true, 0, 0⟩, by decide +kernel⟩

theorem witness_AlarmFramesAreRepeatedAndLimited_9 : ∃ (t p : Nat) (s : State),
    (((s.bucket (unitOf s p)).storm = false ∨ (s.bucket (unitOf s p)).pending ≠ [] ∨ max s.now t < (s.bucket (unitOf s p)).emptySince + sec 1)) :=
  ⟨10^15, 3, wRun, by decide +kernel⟩

theorem witness_AlarmFramesAreRepeatedAndLimited_10 : ∃ (t d : Nat) (s : State),
    (d < 16) ∧ ((s.running = true ∨ s.dev = stSentinel ∨ (s.cfg 0x2703 0x01 d = 1 ∧ s.gdieOn = true))) ∧ ((s.gooseOf d).members ≠ []) ∧ ((s.gooseOf d).dueAt ≤ max s.now t) :=
  ⟨10^15, 15, wRun.onAlarm fun a => { a with goose := [(15, ⟨1, 0, [(true, 0)], 0, 2, 0⟩)] }, by decide +kernel⟩

theorem witness_AlarmFramesAreRepeatedAndLimited_11 : ∃ (t d : Nat) (s : State),
    (((s.gooseOf d).members = [] ∨ max s.now t < (s.gooseOf d).dueAt)) :=
  ⟨10^15, 15, wRun, by decide +kernel⟩

theorem witness_RingFreezesExportsAndReleases_1 : ∃ (t : Nat) (who : Who) (s : State),
    (AcceptedPlain 0x2830 0x01 who (s.advance t)) ∧ (s.ro 0x2821 0x02 = 1) :=
  ⟨10^15, .dtls 0, (withRo wRun [(0x2821, 2, noRow, 1)]).setGroup 3 { Group.reset with rate := 50 }, by decide +kernel⟩

theorem witness_RingFreezesExportsAndReleases_2 : ∃ (t : Nat) (who : Who) (s : State),
    (Room s) ∧ (AcceptedPlain 0x2830 0x01 who (s.advance t)) ∧ (2 ≤ s.ro 0x2821 0x02) :=
  ⟨10^15, .dtls 0, withRo wRun [(0x2821, 2, noRow, 4)], by decide +kernel⟩

theorem witness_RingFreezesExportsAndReleases_3 : ∃ (t : Nat) (who : Who) (s : State),
    (AcceptedPlain 0x2830 0x01 who (s.advance t)) ∧ (s.ro 0x2821 0x02 = 0) :=
  ⟨10^15, .dtls 0, withRo wRun [(0x2821, 2, noRow, 0)], by decide +kernel⟩

theorem witness_RingFreezesExportsAndReleases_4 : ∃ (t : Nat) (who : Who) (s : State),
    (AcceptedPlain 0x2830 0x03 who (s.advance t)) ∧ (s.ro 0x2821 0x02 = 3) ∧ (s.host.exporting = none) ∧ (pcieOn s = true) :=
  ⟨10^15, .dtls 0, (withRo wRun [(0x2821, 2, noRow, 3)]).onHost fun h => { h with linkUp := true }, by decide +kernel⟩

theorem witness_RingFreezesExportsAndReleases_5 : ∃ (t : Nat) (who : Who) (s : State),
    (AcceptedPlain 0x2830 0x03 who (s.advance t)) ∧ ((s.ro 0x2821 0x02 ≠ 3 ∨ s.host.exporting ≠ none ∨ pcieOn s = false)) :=
  ⟨10^15, .dtls 0, wRun, by decide +kernel⟩

theorem witness_RingFreezesExportsAndReleases_6 : ∃ (t : Nat) (s : State),
    (Room s) ∧ (s.ro 0x2821 0x02 = 4) ∧ (s.host.exporting = some (1, 0)) ∧ (s.host.exportLeft = []) :=
  ⟨10^15, (withCfg (withRo wRun [(0x2821, 2, noRow, 4)]) [(0x2820, 4, noRow, 0)]).onHost fun h => { h with linkUp := true, exporting := some (1, 0) }, by decide +kernel⟩

theorem witness_RingFreezesExportsAndReleases_7 : ∃ (t : Nat) (s : State),
    ((s.ro 0x2821 0x02 ≠ 4 ∨ s.host.exporting ≠ some (1, 0) ∨ s.host.exportLeft ≠ [])) :=
  ⟨10^15, wRun, by decide +kernel⟩

theorem witness_RingFreezesExportsAndReleases_8 : ∃ (t : Nat) (who : Who) (s : State),
    (Room s) ∧ (AcceptedPlain 0x2830 0x02 who (s.advance t)) ∧ (s.ro 0x2821 0x02 ≠ 4) :=
  ⟨10^15, .dtls 0, withRo wRun [(0x2821, 2, noRow, 3)], by decide +kernel⟩

theorem witness_RingFreezesExportsAndReleases_9 : ∃ (t : Nat) (who : Who) (s : State),
    (AcceptedPlain 0x2830 0x02 who (s.advance t)) ∧ (s.ro 0x2821 0x02 = 4) :=
  ⟨10^15, .dtls 0, withRo wRun [(0x2821, 2, noRow, 4)], by decide +kernel⟩

theorem witness_RingFreezesExportsAndReleases_10 : ∃ (t : Nat) (s : State),
    (s.running = true) ∧ (s.host.batchRecords ≠ 0) ∧ ((s.cfg 0x2D01 0x01 ≤ s.host.batchBytes ∨ s.host.batchAt + us (s.cfg 0x2D01 0x02) ≤ max s.now t)) :=
  ⟨10^15, wRun.onHost fun h => { h with batchRecords := 1, batchBytes := 48 }, by decide +kernel⟩

theorem witness_RingFreezesExportsAndReleases_11 : ∃ (t : Nat) (s : State),
    ((s.running = false ∨ s.host.batchRecords = 0 ∨ (s.host.batchBytes < s.cfg 0x2D01 0x01 ∧ max s.now t < s.host.batchAt + us (s.cfg 0x2D01 0x02)))) :=
  ⟨10^15, wRun, by decide +kernel⟩

theorem witness_OutputCommandsSwitchSubscribers_1 : ∃ (t pair sport o : Nat) (src l : List Byte) (s : State),
    ((s.running = true ∨ s.dev = stSentinel)) ∧ (18 ≤ l.length) ∧ (byteAt l 0 = 0xAA) ∧ (frameType l = 4) ∧ (chkGood l = true) ∧ (beAt l 2 2 = l.length) ∧ (beAt l 14 2 = 2) ∧ ((rowsOf s.active 0x2801 0x01).find? (fun o => s.cfg 0x2801 0x03 o == beAt l 4 2 && publishes s (s.cfg 0x2801 0x01 o) pair) = some o) ∧ ((subRows s).any (fun r => s.cfg 0x2803 0x01 r == o && s.cfgBytes 0x2803 0x03 r == src) = true) :=
  ⟨10^15, 1, 4712, 3, be 16 5, closeFrame 0xAA42 77 0 0 (be 2 2), wSub, by decide +kernel⟩

theorem witness_OutputCommandsSwitchSubscribers_2 : ∃ (t pair sport o : Nat) (src l : List Byte) (s : State),
    ((s.running = true ∨ s.dev = stSentinel)) ∧ (18 ≤ l.length) ∧ (byteAt l 0 = 0xAA) ∧ (frameType l = 4) ∧ (chkGood l = true) ∧ (beAt l 2 2 = l.length) ∧ (beAt l 14 2 = 1) ∧ ((rowsOf s.active 0x2801 0x01).find? (fun o => s.cfg 0x2801 0x03 o == beAt l 4 2 && publishes s (s.cfg 0x2801 0x01 o) pair) = some o) ∧ ((subRows s).any (fun r => s.cfg 0x2803 0x01 r == o && s.cfgBytes 0x2803 0x03 r == src) = true) :=
  ⟨10^15, 1, 4712, 3, be 16 5, closeFrame 0xAA42 77 0 0 (be 2 1), wSub.onPub fun p => { p with subsOn := [2] }, by decide +kernel⟩

theorem witness_OutputCommandsSwitchSubscribers_3 : ∃ (t pair sport o : Nat) (src l : List Byte) (s : State),
    ((s.running = true ∨ s.dev = stSentinel)) ∧ (18 ≤ l.length) ∧ (byteAt l 0 = 0xAA) ∧ (frameType l = 4) ∧ (chkGood l = true) ∧ (beAt l 2 2 = l.length) ∧ (3 ≤ beAt l 14 2) ∧ (beAt l 14 2 ≤ 6) ∧ ((rowsOf s.active 0x2801 0x01).find? (fun o => s.cfg 0x2801 0x03 o == beAt l 4 2 && publishes s (s.cfg 0x2801 0x01 o) pair) = some o) ∧ ((subRows s).any (fun r => s.cfg 0x2803 0x01 r == o && s.cfgBytes 0x2803 0x03 r == src) = true) :=
  ⟨10^15, 1, 4712, 3, be 16 5, closeFrame 0xAA42 77 0 0 (be 2 5), wSub, by decide +kernel⟩

theorem witness_OutputCommandsSwitchSubscribers_4 : ∃ (t pair sport : Nat) (src l : List Byte) (s : State),
    ((s.running = true ∨ s.dev = stSentinel)) ∧ ((l.length < 18 ∨ byteAt l 0 ≠ 0xAA ∨ frameType l ≠ 4 ∨ chkGood l = false ∨ beAt l 2 2 ≠ l.length ∨ beAt l 14 2 = 0 ∨ 6 < beAt l 14 2 ∨ (rowsOf s.active 0x2801 0x01).all (fun o => !(s.cfg 0x2801 0x03 o == beAt l 4 2 && publishes s (s.cfg 0x2801 0x01 o) pair)) = true ∨ (subRows s).all (fun r => !(s.cfgBytes 0x2803 0x03 r == src)) = true)) :=
  ⟨10^15, 1, 4712, be 16 5, [], wRun, by decide +kernel⟩

theorem witness_OutputCommandsSwitchSubscribers_5 : ∃ (t pair sport : Nat) (src l : List Byte) (s : State),
    (s.running = false) ∧ (s.dev ≠ stSentinel) :=
  ⟨10^15, 1, 4712, be 16 5, [], wStart, by decide +kernel⟩

theorem witness_FeedersAndLocalStreamsChangeState_1 : ∃ (t f : Nat) (on : Bool) (who : Who) (s : State),
    (f < 4) ∧ (AcceptedWrite 0x2901 0x01 f (.num (b2n on)) who (s.advance t)) ∧ (headServes s = true) ∧ (feederState s f ≤ 3) :=
  ⟨10^15, 3, true, .dtls 0, withCfg wRun [(0x2900, 1, noRow, 1)], by decide +kernel⟩

theorem witness_FeedersAndLocalStreamsChangeState_2 : ∃ (t f : Nat) (s : State),
    (f < 4) ∧ (feederState s f = 1) ∧ ((svFed s f = true ∨ (6 ≤ (s.feeder f).measured.length ∧ (s.feeder f).measuredAt + ms 4 ≤ max s.now t))) :=
  ⟨10^15, 3, (withRo wRun [(0x2912, 1, 3, 1)]).setFeeder 3 { FeederSt.reset with measured := [18, 19, 20, 21, 22, 23] }, by decide +kernel⟩

theorem witness_FeedersAndLocalStreamsChangeState_3 : ∃ (t f : Nat) (s : State),
    ((4 ≤ f ∨ feederState s f ≠ 1 ∨ (svFed s f = false ∧ ((s.feeder f).measured.length < 6 ∨ max s.now t < (s.feeder f).measuredAt + ms 4)))) :=
  ⟨10^15, 3, withRo wRun [(0x2912, 1, 3, 1)], by decide +kernel⟩

theorem witness_FeedersAndLocalStreamsChangeState_4 : ∃ (t f : Nat) (s : State),
    (f < 4) ∧ (feederState s f = 3) :=
  ⟨10^15, 3, (withRo wRun [(0x2912, 1, 3, 3)]).setFour (fnFeeder 3) true false, by decide +kernel⟩

theorem witness_FeedersAndLocalStreamsChangeState_5 : ∃ (t f : Nat) (s : State),
    ((4 ≤ f ∨ feederState s f ≠ 3)) :=
  ⟨10^15, 3, wRun, by decide +kernel⟩

theorem witness_FeedersAndLocalStreamsChangeState_6 : ∃ (t l : Nat) (on : Bool) (who : Who) (s : State),
    (l < 4) ∧ (AcceptedWrite 0x2910 0x01 l (.num (b2n on)) who (s.advance t)) ∧ (headRuns s = true) ∧ (localState s l ≤ 2) ∧ (s.fourFlag (fnLocal l) = (false, false)) :=
  ⟨10^15, 3, false, .dtls 0, withRo (withCfg wRun [(0x2900, 1, noRow, 1)]) [(0x2911, 1, 3, 2)], by decide +kernel⟩

theorem witness_FeedersAndLocalStreamsChangeState_7 : ∃ (t l : Nat) (s : State),
    (l < 4) ∧ (localState s l = 1) ∧ (localReady (s.advance t) l = true) :=
  ⟨10^15, 3, withRo wRun [(0x2911, 1, 3, 1), (0x2912, 1, 3, 2)], by decide +kernel⟩

theorem witness_FeedersAndLocalStreamsChangeState_8 : ∃ (t l : Nat) (s : State),
    ((4 ≤ l ∨ localState s l ≠ 1 ∨ localReady (s.advance t) l = false)) :=
  ⟨10^15, 3, wRun, by decide +kernel⟩

theorem witness_FeedersAndLocalStreamsChangeState_9 : ∃ (t r : Nat) (s : State),
    (Room s) ∧ (r < 4) ∧ (s.ro 0x2922 0x01 r = 2) ∧ ((tabGet SvSt.reset s.head.sv r).lastFrame + ms 10 ≤ max s.now t) :=
  ⟨10^15, 3, withRo wRun [(0x2922, 1, 3, 2)], by decide +kernel⟩

theorem witness_FeedersAndLocalStreamsChangeState_10 : ∃ (t r : Nat) (s : State),
    ((4 ≤ r ∨ s.ro 0x2922 0x01 r ≠ 2 ∨ max s.now t < (tabGet SvSt.reset s.head.sv r).lastFrame + ms 10)) :=
  ⟨10^15, 3, wRun, by decide +kernel⟩

theorem witness_FeedersAndLocalStreamsChangeState_11 : ∃ (t n : Nat) (who : Who) (s : State),
    (Accepted 0x2930 0x02 noRow (.num n) who (s.advance t)) ∧ (s.head.fade = none) ∧ (s.dev ≠ stSafeTalk) ∧ (s.dev ≠ stRecovery) ∧ (1 ≤ n) ∧ (n ≤ 1024) ∧ (bankValid s (1 - s.ro 0x2921 0x01) = true) :=
  ⟨10^15, 1024, .dtls 0, wBank, by decide +kernel⟩

theorem witness_FeedersAndLocalStreamsChangeState_12 : ∃ (t n : Nat) (who : Who) (s : State),
    (Accepted 0x2930 0x02 noRow (.num n) who (s.advance t)) ∧ (s.head.fade = none) ∧ (s.dev ≠ stSafeTalk) ∧ (s.dev ≠ stRecovery) ∧ ((n < 1 ∨ 1024 < n ∨ bankValid s (1 - s.ro 0x2921 0x01) = false)) :=
  ⟨10^15, 1, .dtls 0, { wRun with live := putKey (okey 0x2906 2 noRow) (.oct []) (putKey (okey 0x2906 1 noRow) (.oct []) wRun.live) }, by decide +kernel⟩

theorem witness_FeedersAndLocalStreamsChangeState_13 : ∃ (t n : Nat) (who : Who) (s : State),
    (Accepted 0x2930 0x02 noRow (.num n) who (s.advance t)) ∧ (s.head.fade ≠ none) :=
  ⟨10^15, 1, .dtls 0, wBank.onHead fun h => { h with fade := some 3 }, by decide +kernel⟩

theorem witness_FeedersAndLocalStreamsChangeState_14 : ∃ (t n : Nat) (s : State),
    (Room s) ∧ (s.head.fade = some n) ∧ (s.ro 0x2921 0x02 = 0) :=
  ⟨10^15, 1024, wRun.onHead fun h => { h with fade := some 1024 }, by decide +kernel⟩

theorem witness_FeedersAndLocalStreamsChangeState_15 : ∃ (t : Nat) (s : State),
    ((s.head.fade = none ∨ s.ro 0x2921 0x02 ≠ 0)) :=
  ⟨10^15, wRun, by decide +kernel⟩

theorem witness_ChannelsAreMeasured_1 : ∃ (t c d m : Nat) (s : State),
    (clocked s c = true) ∧ (placeDelay s (c / 6) m = some d) ∧ ((((s.chan c).drt = none ∧ (s.chan c).delayFault = false) ∨ ((s.chan c).drt ≠ none ∧ ((d : Int) - ((s.chan c).drt.getD 0 : Nat)).natAbs ≤ 8000))) :=
  ⟨10^15, 23, 390625, 0, wClocked, by decide +kernel⟩

theorem witness_ChannelsAreMeasured_2 : ∃ (t c d m : Nat) (s : State),
    (Room s) ∧ (clocked s c = true) ∧ (placeDelay s (c / 6) m = some d) ∧ ((s.chan c).delayFault = false) ∧ ((s.chan c).drt ≠ none) ∧ (8000 < ((d : Int) - ((s.chan c).drt.getD 0 : Nat)).natAbs) :=
  ⟨10^15, 23, 390625, 0, wClocked.setChan 23 { ChannelSt.reset with drt := some 5 }, by decide +kernel⟩

theorem witness_ChannelsAreMeasured_3 : ∃ (t c m : Nat) (s : State),
    (Room s) ∧ (clocked s c = true) ∧ (placeDelay s (c / 6) m = none) ∧ ((s.chan c).delayFault = false) :=
  ⟨10^15, 23, 7, withCfg wClocked [(0x2901, 5, 3, 2), (0x2901, 6, 3, 3)], by decide +kernel⟩

theorem witness_ChannelsAreMeasured_4 : ∃ (t c m : Nat) (s : State),
    (clocked s c = false) :=
  ⟨10^15, 24, 7, wClocked, by decide +kernel⟩

theorem witness_ChannelsAreMeasured_5 : ∃ (t c : Nat) (s : State),
    (Room s) ∧ (clocked s c = true) ∧ ((s.chan c).modFault = false) :=
  ⟨10^15, 23, wHead, by decide +kernel⟩

theorem witness_ChannelsAreMeasured_6 : ∃ (t c : Nat) (s : State),
    ((clocked s c = false ∨ (s.chan c).modFault = true)) :=
  ⟨10^15, 24, wHead, by decide +kernel⟩

theorem witness_ChannelsAreMeasured_7 : ∃ (t c : Nat) (s : State),
    (Room s) ∧ ((s.chan c).modFault = true) :=
  ⟨10^15, 23, wRun.setChan 23 { ChannelSt.reset with modFault := true }, by decide +kernel⟩

theorem witness_ChannelsAreMeasured_8 : ∃ (t c : Nat) (s : State),
    ((s.chan c).modFault = false) :=
  ⟨10^15, 23, wRun, by decide +kernel⟩

theorem witness_ChannelsAreMeasured_9 : ∃ (t : Nat) (raw : List Chain) (s : State),
    (headRuns s = true) :=
  ⟨10^15, [], wHead, by decide +kernel⟩

theorem witness_ChannelsAreMeasured_10 : ∃ (t : Nat) (raw : List Chain) (s : State),
    (headRuns s = false) :=
  ⟨10^15, [], wSafe, by decide +kernel⟩

theorem witness_ChannelsAreMeasured_11 : ∃ (t n b0 b1 : Nat) (s : State),
    (headRuns s = true) ∧ (s.time.gatOn = true) ∧ (cycleDone (s.advance t) = some (n, b0, b1)) ∧ (s.head.lastCycle ≠ some n) :=
  ⟨10^15, 7, 4998 * 2 ^ 48, 4999 * 2 ^ 48, wHead.onTime fun x => { x with edges := [(8, 4999 * 2 ^ 48), (7, 4998 * 2 ^ 48)] }, by decide +kernel⟩

theorem witness_ChannelsAreMeasured_12 : ∃ (t : Nat) (s : State),
    (headRuns s = true) ∧ (s.time.gatOn = false) :=
  ⟨10^15, wHead.onTime fun x => { x with gatOn := false }, by decide +kernel⟩

theorem witness_ChannelsAreMeasured_13 : ∃ (t : Nat) (s : State),
    ((headRuns s = false ∨ (s.time.gatOn = true ∧ (cycleDone (s.advance t) = none ∨ (cycleDone (s.advance t)).map (·.1) = s.head.lastCycle)))) :=
  ⟨10^15, wHead, by decide +kernel⟩

theorem witness_ChannelsAreMeasured_14 : ∃ (t f k : Nat) (mClass : Bool) (s : State),
    (f < 4) ∧ (2 ≤ k) ∧ (headRuns s = true) ∧ (feederState s f = 2) ∧ (s.time.isSet = true) ∧ ((s.cfg 0x2910 0x03 f == 1) = mClass) ∧ (estimateInstant s k + psToT96 (psOf (Q.add (halfWindow s f mClass) (Q.make 2 (4 * s.fnom))) + (if svFed s f then 0 else delay128 s)) ≤ (s.advance t).t96) :=
  ⟨10^15, 3, 2, false, wHead, by decide +kernel⟩

theorem witness_ChannelsAreMeasured_15 : ∃ (t f k : Nat) (mClass : Bool) (s : State),
    ((4 ≤ f ∨ k < 2 ∨ headRuns s = false ∨ feederState s f ≠ 2 ∨ s.time.isSet = false ∨ (s.advance t).t96 < estimateInstant s k + psToT96 (psOf (Q.add (halfWindow s f mClass) (Q.make 2 (4 * s.fnom))) + (if svFed s f then 0 else delay128 s)))) :=
  ⟨10^15, 4, 2, false, wHead, by decide +kernel⟩

theorem witness_ChannelsAreMeasured_16 : ∃ (t c : Nat) (who : Who) (s : State),
    (c < 24) ∧ ((s.advance t).reaches who = true) ∧ (offered (s.advance t) who .read 0x2920 0x01 = true) ∧ (roleHas (((s.advance t).roleOf who).getD 0) 1 = true) :=
  ⟨10^15, 23, .dtls 0, withRo wRun [(0x2920, 1, 23, 7)], by decide +kernel⟩

theorem witness_ChannelsAreMeasured_17 : ∃ (t c : Nat) (who : Who) (s : State),
    ((s.advance t).reaches who = true) ∧ ((offered (s.advance t) who .read 0x2920 0x01 = false ∨ roleHas (((s.advance t).roleOf who).getD 0) 1 = false ∨ 24 ≤ c)) :=
  ⟨10^15, 24, .dtls 0, wRun, by decide +kernel⟩

theorem witness_CaptureRecordsAreMade_1 : ∃ (t : Nat) (who : Who) (s : State),
    (AcceptedWrite 0x2A00 0x01 noRow (.num 1) who (s.advance t)) ∧ (captureAdmitted s = true) ∧ (captureState s = 0) ∧ (s.fourFlag fnCapture = (false, false)) :=
  ⟨10^15, .dtls 0, wRun, by decide +kernel⟩

theorem witness_CaptureRecordsAreMade_2 : ∃ (t : Nat) (who : Who) (s : State),
    (AcceptedWrite 0x2A00 0x01 noRow (.num 0) who (s.advance t)) ∧ (captureAdmitted s = true) ∧ (captureState s = 2) ∧ (s.fourFlag fnCapture = (false, false)) ∧ (s.capture.closing = none) ∧ ((recordState s = recPost → s.capture.record ≠ none)) :=
  ⟨10^15, .dtls 0, (withRo wRun [(0x2A01, 1, noRow, 2), (0x2A01, 2, noRow, 2)]).onCapture fun c => { c with record := some wRecord }, by decide +kernel⟩

theorem witness_CaptureRecordsAreMade_3 : ∃ (t : Nat) (on : Bool) (who : Who) (s : State),
    (AcceptedWrite 0x2A00 0x01 noRow (.num (b2n on)) who (s.advance t)) ∧ (captureAdmitted s = false) :=
  ⟨10^15, true, .dtls 0, wStart, by decide +kernel⟩

theorem witness_CaptureRecordsAreMade_4 : ∃ (t din : Nat) (raw : List Chain) (edges : List DinEdge) (s : State),
    (captureState s = 2) ∧ (recordState s = recArmed) ∧ (rowsOf s.active 0x2A02 0x01 = []) :=
  ⟨10^15, 3, [], [], withRo wRun [(0x2A01, 1, noRow, 2), (0x2A01, 2, noRow, 1)], by decide +kernel⟩

theorem witness_CaptureRecordsAreMade_5 : ∃ (t din : Nat) (raw : List Chain) (edges : List DinEdge) (x y : CapRecord) (s : State),
    (captureState s = 2) ∧ (recordState s = recPost) ∧ (rowsOf s.active 0x2A02 0x01 = []) ∧ (s.capture.record = some x) ∧ (x.t0 ≤ (makeRow (s.advance t) raw din).at_.headD 0) ∧ (y = ({ x with post := x.post ++ [makeRow (s.advance t) raw din] } : CapRecord).extend s.capture.settings.2.1) ∧ (y.complete s.capture.sram = none) :=
  ⟨10^15, 3, [], [], wPostRecord, ({ wPostRecord with post := wPostRecord.post ++ [makeRow wFilling [] 3] } : CapRecord).extend wFilling.capture.settings.2.1, wFilling, by decide +kernel⟩

theorem witness_CaptureRecordsAreMade_6 : ∃ (t din : Nat) (raw : List Chain) (edges : List DinEdge) (s : State),
    (captureState s ≠ 2) :=
  ⟨10^15, 3, [], [], wStart, by decide +kernel⟩

theorem witness_CaptureRecordsAreMade_7 : ∃ (t arg : Nat) (who : Who) (s : State),
    (Accepted 0x2A30 0x01 noRow (.num arg) who (s.advance t)) ∧ (captureState s = 2) ∧ (recordState s = recArmed) ∧ (s.capture.sram = false) ∧ (s.capture.buffer.all (fun r => decide (r.at_.headD 0 < (s.advance t).t96)) = true) ∧ (s.capture.settings.2.1 ≠ 0) :=
  ⟨10^15, 1, .dtls 0, withRo wRun [(0x2A01, 1, noRow, 2), (0x2A01, 2, noRow, 1)], by decide +kernel⟩

theorem witness_CaptureRecordsAreMade_8 : ∃ (t arg : Nat) (who : Who) (s : State),
    (Accepted 0x2A30 0x01 noRow (.num arg) who (s.advance t)) ∧ (captureState s = 2) ∧ (recordState s ≠ recArmed) ∧ (recordState s ≠ recPost) :=
  ⟨10^15, 1, .dtls 0, withRo wRun [(0x2A01, 1, noRow, 2), (0x2A01, 2, noRow, 4)], by decide +kernel⟩

theorem witness_CaptureRecordsAreMade_9 : ∃ (t : Nat) (r : CapRecord) (s : State),
    (Room s) ∧ (s.capture.record = some r) :=
  ⟨10^15, wRecord, wRun.onCapture fun c => { c with record := some wRecord }, by decide +kernel⟩

theorem witness_CaptureRecordsAreMade_10 : ∃ (t : Nat) (s : State),
    (s.capture.record = none) :=
  ⟨10^15, wRun, by decide +kernel⟩

theorem witness_CaptureRecordsAreMade_11 : ∃ (t : Nat) (r : CapRecord) (s : State),
    (Room s) ∧ (s.capture.closing = some r) ∧ (captureState s ≠ 3) :=
  ⟨10^15, wRecord, (withRo wRun [(0x2A01, 1, noRow, 2)]).onCapture fun c => { c with closing := some wRecord }, by decide +kernel⟩

theorem witness_CaptureRecordsAreMade_12 : ∃ (t : Nat) (r : CapRecord) (s : State),
    (s.capture.closing = some r) ∧ (captureState s = 3) ∧ (recordState s ≠ recPost) ∧ (s.fourFlag fnCapture = (false, false)) :=
  ⟨10^15, wRecord, (withRo wRun [(0x2A01, 1, noRow, 3), (0x2A01, 2, noRow, 3)]).onCapture fun c => { c with closing := some wRecord }, by decide +kernel⟩

theorem witness_CaptureRecordsAreMade_13 : ∃ (t : Nat) (s : State),
    (s.capture.closing = none) :=
  ⟨10^15, wRun, by decide +kernel⟩

theorem witness_CaptureRecordsAreMade_14 : ∃ (t : Nat) (s : State),
    (captureState s = 2) ∧ (recordState s = recRearm) :=
  ⟨10^15, withRo wRun [(0x2A01, 1, noRow, 2), (0x2A01, 2, noRow, 3)], by decide +kernel⟩

theorem witness_CaptureRecordsAreMade_15 : ∃ (t : Nat) (s : State),
    ((captureState s ≠ 2 ∨ recordState s ≠ recRearm)) :=
  ⟨10^15, wRun, by decide +kernel⟩

theorem witness_CaptureRecordsLeaveTheStore_1 : ∃ (t r : Nat) (x : CapRecord) (who : Who) (s : State),
    (Accepted 0x2A30 0x02 r (.num 0) who (s.advance t)) ∧ (r < 16) ∧ (lookup r s.capture.store = some x) ∧ (s.host.exporting = none) ∧ (pcieOn s = true) :=
  ⟨10^15, 15, wRecord, .dtls 0, wStored.onHost fun h => { h with linkUp := true }, by decide +kernel⟩

theorem witness_CaptureRecordsLeaveTheStore_2 : ∃ (t r : Nat) (who : Who) (s : State),
    (Accepted 0x2A30 0x02 r (.num 0) who (s.advance t)) ∧ (((lookup r s.capture.store).isNone = true ∨ s.host.exporting ≠ none ∨ pcieOn s = false)) :=
  ⟨10^15, 15, .dtls 0, wStored, by decide +kernel⟩

theorem witness_CaptureRecordsLeaveTheStore_3 : ∃ (t r : Nat) (x : CapRecord) (s : State),
    (Room s) ∧ (r < 16) ∧ (s.host.exporting = some (0, r)) ∧ (s.host.exportLeft = []) ∧ (lookup r s.capture.store = some x) ∧ ((s.cfgB 0x2A00 0x07 = true → recordState s ≠ recBlocked)) :=
  ⟨10^15, 15, wRecord, wStored.onHost fun h => { h with linkUp := true, exporting := some (0, 15) }, by decide +kernel⟩

theorem witness_CaptureRecordsLeaveTheStore_4 : ∃ (t : Nat) (s : State),
    ((s.host.exporting.map (·.1) ≠ some 0 ∨ s.host.exportLeft ≠ [])) :=
  ⟨10^15, wRun, by decide +kernel⟩

theorem witness_CaptureRecordsLeaveTheStore_5 : ∃ (t r : Nat) (x : CapRecord) (who : Who) (s : State),
    (Accepted 0x2A30 0x03 r (.num 0) who (s.advance t)) ∧ (r < 16) ∧ (lookup r s.capture.store = some x) ∧ (s.ro 0x2A20 0x04 r ≠ 3) :=
  ⟨10^15, 15, wRecord, .dtls 0, withRo wStored [(0x2A01, 1, noRow, 2), (0x2A01, 2, noRow, 4)], by decide +kernel⟩

theorem witness_CaptureRecordsLeaveTheStore_6 : ∃ (t r : Nat) (who : Who) (s : State),
    (Accepted 0x2A30 0x03 r (.num 0) who (s.advance t)) ∧ (((lookup r s.capture.store).isNone = true ∨ s.ro 0x2A20 0x04 r = 3)) :=
  ⟨10^15, 14, .dtls 0, wStored, by decide +kernel⟩

theorem witness_LeashCarriesTriggers_1 : ∃ (t : Nat) (trips ds : List Nat) (returned : Option Nat) (s : State),
    ((s.running = true ∨ s.dev = stSentinel)) ∧ (leashEnabled s = true) ∧ (leashHead s = true) ∧ (ds = trips.map (fun (x : Nat) => (((x : Int) + s.cfgInt 0x2A10 0x06).fdiv 2).toNat)) ∧ (calibrationFault (leashRing s) ds returned = none) :=
  ⟨10^15, [20000, 20000], [10000, 10000], some 1, withCfg wRun [(0x2A10, 1, noRow, 1), (0x2A10, 2, noRow, 1), (0x2A10, 6, noRow, 0)], by decide +kernel⟩

theorem witness_LeashCarriesTriggers_2 : ∃ (t : Nat) (trips ds : List Nat) (returned : Option Nat) (s : State),
    ((s.running = true ∨ s.dev = stSentinel)) ∧ (leashEnabled s = true) ∧ (leashHead s = true) ∧ (ds = trips.map (fun (x : Nat) => (((x : Int) + s.cfgInt 0x2A10 0x06).fdiv 2).toNat)) ∧ (calibrationFault (leashRing s) ds returned ≠ none) :=
  ⟨10^15, [200000], [100000], some 1, withCfg wRun [(0x2A10, 1, noRow, 1), (0x2A10, 2, noRow, 1), (0x2A10, 6, noRow, 0)], by decide +kernel⟩

theorem witness_LeashCarriesTriggers_3 : ∃ (t : Nat) (trips : List Nat) (returned : Option Nat) (s : State),
    ((leashEnabled s = false ∨ leashHead s = false)) :=
  ⟨10^15, [], none, wRun, by decide +kernel⟩

theorem witness_LeashCarriesTriggers_4 : ∃ (t : Nat) (who : Who) (s : State),
    (AcceptedPlain 0x2A30 0x04 who (s.advance t)) :=
  ⟨10^15, .dtls 0, withCfg wRun [(0x2A10, 1, noRow, 1), (0x2A10, 2, noRow, 1)], by decide +kernel⟩

theorem witness_LeashCarriesTriggers_5 : ∃ (t : Nat) (x : Trig) (rest : List Trig) (s : State),
    (s.leash.sends = x :: rest) ∧ (s.leash.passingUntil ≤ max s.now t) ∧ (leashState s = 2) ∧ (leashActs s = true) :=
  ⟨10^15, ⟨5, 3, 1, 0, 0xFF, 0⟩, [], wLeash.onLeash fun l => { l with sends := [⟨5, 3, 1, 0, 0xFF, 0⟩] }, by decide +kernel⟩

theorem witness_LeashCarriesTriggers_6 : ∃ (t : Nat) (x : Trig) (rest : List Trig) (s : State),
    (s.leash.sends = x :: rest) ∧ (s.leash.passingUntil ≤ max s.now t) ∧ ((leashState s ≠ 2 ∨ leashActs s = false)) :=
  ⟨10^15, ⟨5, 3, 1, 0, 0xFF, 0⟩, [], wRun.onLeash fun l => { l with sends := [⟨5, 3, 1, 0, 0xFF, 0⟩] }, by decide +kernel⟩

theorem witness_LeashCarriesTriggers_7 : ∃ (t : Nat) (s : State),
    ((s.leash.sends = [] ∨ max s.now t < s.leash.passingUntil)) :=
  ⟨10^15, wLeash, by decide +kernel⟩

theorem witness_LeashCarriesTriggers_8 : ∃ (t : Nat) (syn : Bool) (msg : List Byte) (s : State),
    (leashForwards s = true) ∧ (leashGood msg = false) :=
  ⟨10^15, true, [1, 2], wRun, by decide +kernel⟩

theorem witness_LeashCarriesTriggers_9 : ∃ (t due : Nat) (syn : Bool) (msg : List Byte) (s : State),
    (leashForwards s = true) ∧ (leashGood msg = true) ∧ (byteAt msg 1 / 16 = 1) ∧ (byteAt msg 1 % 16 ≠ ownPosition s) ∧ (leashActs s = true) ∧ (due = max s.now t - 800000 + (2000000 - pathFrom s (byteAt msg 1 % 16) (ownPosition s))) ∧ (max s.now t + 20000 ≤ due) :=
  ⟨10^15, 10^15 - 800000 + (2000000 - pathFrom wLeash 1 0), false, leashMessage 1 1 7 (t96Mid 5) 0, wLeash, by decide +kernel⟩

theorem witness_LeashCarriesTriggers_10 : ∃ (t due : Nat) (syn : Bool) (msg : List Byte) (s : State),
    (leashForwards s = true) ∧ (leashGood msg = true) ∧ (byteAt msg 1 / 16 = 1) ∧ (byteAt msg 1 % 16 ≠ ownPosition s) ∧ (leashActs s = true) ∧ (due = max s.now t - 800000 + (2000000 - pathFrom s (byteAt msg 1 % 16) (ownPosition s))) ∧ (due < max s.now t + 20000) :=
  ⟨10^15, 10^15 - 800000 + (2000000 - pathFrom wFar 1 0), false, leashMessage 1 1 7 (t96Mid 5) 0, wFar, by decide +kernel⟩

theorem witness_LeashCarriesTriggers_11 : ∃ (t : Nat) (syn : Bool) (msg : List Byte) (s : State),
    (leashForwards s = true) ∧ (leashGood msg = true) ∧ (leashEnabled s = true) ∧ (leashHead s = false) ∧ (s.dev ≠ stSafeTalk) ∧ (byteAt msg 1 / 16 = 3) :=
  ⟨10^15, false, leashMessage 3 0 0 15 0, wLeash, by decide +kernel⟩

theorem witness_LeashCarriesTriggers_12 : ∃ (t : Nat) (syn : Bool) (msg : List Byte) (s : State),
    (leashForwards s = true) ∧ (leashGood msg = true) ∧ (leashEnabled s = true) ∧ (leashHead s = false) ∧ (s.dev ≠ stSafeTalk) ∧ (byteAt msg 1 / 16 = 4) :=
  ⟨10^15, false, leashMessage 4 0 0 (9000 * 2 ^ 32 + 255) 0, wLeash, by decide +kernel⟩

theorem witness_LeashCarriesTriggers_13 : ∃ (t : Nat) (syn : Bool) (msg : List Byte) (s : State),
    (leashForwards s = false) :=
  ⟨10^15, false, [], wHeld, by decide +kernel⟩

theorem witness_LeashCarriesTriggers_14 : ∃ (t a : Nat) (x : Trig) (s : State),
    (s.leash.acts = [(a, x, false)]) ∧ (a ≤ max s.now t) ∧ (leashActs s = true) ∧ (s.cfgB 0x2A10 0x04 = true) ∧ (captureState s = 2) ∧ (recordState s = recArmed) :=
  ⟨10^15, 5, ⟨5, 0xFFFE, 0, 0, 1, 0⟩, withRo (wLeash.onLeash fun l => { l with acts := [(5, ⟨5, 0xFFFE, 0, 0, 1, 0⟩, false)] }) [(0x2A01, 1, noRow, 2), (0x2A01, 2, noRow, 1)], by decide +kernel⟩

theorem witness_LeashCarriesTriggers_15 : ∃ (t : Nat) (s : State),
    ((leashActs s = false ∨ s.leash.acts.all (fun a => decide (max s.now t < a.1)) = true)) :=
  ⟨10^15, wRun.onLeash fun l => { l with acts := [(5, ⟨5, 0xFFFE, 0, 0, 1, 0⟩, false)] }, by decide +kernel⟩

theorem witness_EnergyIsSavedSnapshotAndCleared_1 : ∃ (t : Nat) (s : State),
    (energyRuns s = true) :=
  ⟨10^15, withCfg wRun [(0x2B02, 1, 23, 5)], by decide +kernel⟩

theorem witness_EnergyIsSavedSnapshotAndCleared_2 : ∃ (t : Nat) (s : State),
    (energyRuns s = false) :=
  ⟨10^15, wSafe, by decide +kernel⟩

theorem witness_EnergyIsSavedSnapshotAndCleared_3 : ∃ (t c : Nat) (s : State),
    (energyRuns s = true) ∧ (c < 24) ∧ (s.cfg 0x2B02 0x01 c ≠ 0xFF) ∧ (bit (s.ro 0x2E10 0x03 (s.cfg 0x2B02 0x01 c)) 0 = true) ∧ ((s.therm c).held = false) ∧ (Nat.max (s.therm c).validAt s.power.startAt + sec (s.cfg 0x2B00 0x05) ≤ max s.now t) :=
  ⟨10^15, 23, withRo (withCfg wRun [(0x2B02, 1, 23, 5)]) [(0x2E10, 3, 5, 1)], by decide +kernel⟩

theorem witness_EnergyIsSavedSnapshotAndCleared_4 : ∃ (t c : Nat) (s : State),
    ((energyRuns s = false ∨ 24 ≤ c ∨ s.cfg 0x2B02 0x01 c = 0xFF ∨ bit (s.ro 0x2E10 0x03 (s.cfg 0x2B02 0x01 c)) 0 = false ∨ (s.therm c).held = true ∨ max s.now t < Nat.max (s.therm c).validAt s.power.startAt + sec (s.cfg 0x2B00 0x05))) :=
  ⟨10^15, 24, wRun, by decide +kernel⟩

theorem witness_EnergyIsSavedSnapshotAndCleared_5 : ∃ (t f at_ d : Nat) (iv : Interval) (s : State),
    (energyRuns s = true) ∧ (s.time.isSet = true) ∧ (f < 4) ∧ ((s.meter f).metering = true) ∧ (lookup f s.energy.regs.intervals = some iv) ∧ (at_ = sampleInstant (s.advance t) (6 * f) (delay128 s)) ∧ (d = demandLength (s.advance t) at_) ∧ (iv.boundary ≤ at_) :=
  ⟨10^15, 3, sampleInstant wDemand 18 (delay128 wDemand), demandLength wDemand (sampleInstant wDemand 18 (delay128 wDemand)), ⟨0, 1, List.replicate 8 0, 1, 0⟩, wDemand, by decide +kernel⟩

theorem witness_EnergyIsSavedSnapshotAndCleared_6 : ∃ (t : Nat) (s : State),
    ((energyRuns s = false ∨ s.time.isSet = false)) :=
  ⟨10^15, wSafe, by decide +kernel⟩

theorem witness_EnergyIsSavedSnapshotAndCleared_7 : ∃ (t : Nat) (s : State),
    (energyRuns s = true) ∧ (s.power.mramLost = false) ∧ (s.energy.lastSave + sec 1 ≤ max s.now t) :=
  ⟨10^15, wRun, by decide +kernel⟩

theorem witness_EnergyIsSavedSnapshotAndCleared_8 : ∃ (t : Nat) (s : State),
    ((energyRuns s = false ∨ s.power.mramLost = true ∨ max s.now t < s.energy.lastSave + sec 1)) :=
  ⟨10^15, wRun.onEnergy fun e => { e with lastSave := 10^15 }, by decide +kernel⟩

theorem witness_EnergyIsSavedSnapshotAndCleared_9 : ∃ (t : Nat) (who : Who) (s : State),
    (AcceptedPlain 0x2B30 0x01 who (s.advance t)) ∧ (s.energy.snapshotDue = false) :=
  ⟨10^15, .dtls 0, wRun, by decide +kernel⟩

theorem witness_EnergyIsSavedSnapshotAndCleared_10 : ∃ (t : Nat) (who : Who) (s : State),
    (AcceptedPlain 0x2B30 0x01 who (s.advance t)) ∧ (s.energy.snapshotDue = true) :=
  ⟨10^15, .dtls 0, wRun.onEnergy fun e => { e with snapshotDue := true }, by decide +kernel⟩

theorem witness_EnergyIsSavedSnapshotAndCleared_11 : ∃ (t f : Nat) (who : Who) (s : State),
    (Accepted 0x2B30 0x02 f (.num 0) who (s.advance t)) ∧ (energyRuns s = true) :=
  ⟨10^15, 3, .dtls 0, wRun, by decide +kernel⟩

theorem witness_EnergyIsSavedSnapshotAndCleared_12 : ∃ (t f : Nat) (who : Who) (s : State),
    (Accepted 0x2B30 0x03 f (.num 0) who (s.advance t)) :=
  ⟨10^15, 3, .dtls 0, wRun.onRegs fun r => { r with wrapped := [1, 97] }, by decide +kernel⟩

theorem witness_EnergyIsSavedSnapshotAndCleared_13 : ∃ (t f : Nat) (who : Who) (s : State),
    (Accepted 0x2B30 0x04 f (.num 0) who (s.advance t)) :=
  ⟨10^15, 3, .dtls 0, wRun.onRegs fun r => { r with maxima := [(1, (5, 5)), (24, (6, 6))] }, by decide +kernel⟩

theorem witness_JobsRun_1 : ∃ (t j : Nat) (on : Bool) (who : Who) (s : State),
    (s.running = true) ∧ (AcceptedWrite 0x2C01 0x0A j (.num (b2n on)) who (s.advance t)) ∧ ((s.job j).state ≤ 3) ∧ (s.fourFlag (fnJob j) = (false, false)) :=
  ⟨10^15, 3839, false, .dtls 0, wRun.setJob 3839 { JobRow.reset with state := 2 }, by decide +kernel⟩

theorem witness_JobsRun_2 : ∃ (t j : Nat) (on : Bool) (who : Who) (s : State),
    (s.running = false) ∧ (AcceptedWrite 0x2C01 0x0A j (.num (b2n on)) who (s.advance t)) :=
  ⟨10^15, 3839, true, .dtls 0, wSentinel, by decide +kernel⟩

theorem witness_JobsRun_3 : ∃ (t j n due ago : Nat) (s : State),
    (s.running = true) ∧ (j < 3840) ∧ (jobKind s j ≠ 0) ∧ (((s.job j).state = 2 ∨ ((s.job j).state = 1 ∧ (s.fourFlag (fnJob j)).2 = false))) ∧ ((s.job j).run = none) ∧ (latestDue (s.advance t) j = some (n, due)) ∧ (ago = t96ToPs ((s.advance t).t96 - due)) ∧ (dueTaken s j n = false) ∧ ((s.job j).notBefore + ago ≤ max s.now t) :=
  ⟨10^15, 3839, 5000, 5000 * 2 ^ 48, 0, wPeriodic.setJob 3839 { JobRow.reset with state := 1 }, by decide +kernel⟩

theorem witness_JobsRun_4 : ∃ (t j n due ago : Nat) (s : State),
    (s.running = true) ∧ (j < 3840) ∧ (jobKind s j ≠ 0) ∧ ((s.job j).state = 2) ∧ ((s.job j).run ≠ none) ∧ (latestDue (s.advance t) j = some (n, due)) ∧ (ago = t96ToPs ((s.advance t).t96 - due)) ∧ (dueTaken s j n = false) ∧ ((s.job j).notBefore + ago ≤ max s.now t) :=
  ⟨10^15, 3839, 5000, 5000 * 2 ^ 48, 0, wPeriodic.setJob 3839 { JobRow.reset with state := 2, run := some wReady }, by decide +kernel⟩

theorem witness_JobsRun_5 : ∃ (t j n due ago : Nat) (s : State),
    (s.running = true) ∧ (j < 3840) ∧ (jobKind s j ≠ 0) ∧ ((s.job j).state = 1) ∧ ((s.fourFlag (fnJob j)).2 = true) ∧ ((s.job j).run = none) ∧ (latestDue (s.advance t) j = some (n, due)) ∧ (ago = t96ToPs ((s.advance t).t96 - due)) ∧ (dueTaken s j n = false) ∧ ((s.job j).notBefore + ago ≤ max s.now t) :=
  ⟨10^15, 3839, 5000, 5000 * 2 ^ 48, 0, (wPeriodic.setJob 3839 { JobRow.reset with state := 1 }).setFour (fnJob 3839) false true, by decide +kernel⟩

theorem witness_JobsRun_6 : ∃ (t j : Nat) (s : State),
    ((s.running = false ∨ 3840 ≤ j ∨ jobKind s j = 0 ∨ (s.job j).state = 0 ∨ (s.job j).state = 3 ∨ latestDue (s.advance t) j = none ∨ (latestDue (s.advance t) j).any (fun e => dueTaken s j e.1) = true)) :=
  ⟨10^15, 3839, wPeriodic, by decide +kernel⟩

theorem witness_JobsRun_7 : ∃ (t j c : Nat) (r : Run) (s : State),
    (s.running = true) ∧ (j < 3840) ∧ ((s.job j).run = some r) ∧ (r.core = none) ∧ (r.anyCore = false) ∧ (preferredCore s j = some c) ∧ (runningOn s c = none) ∧ (firstFor s j c = true) :=
  ⟨10^15, 3839, 15, wReady, wPeriodic.setJob 3839 { JobRow.reset with state := 2, run := some wReady }, by decide +kernel⟩

theorem witness_JobsRun_8 : ∃ (t j k c : Nat) (r q : Run) (s : State),
    (s.running = true) ∧ (j < 3840) ∧ (k < 3840) ∧ ((s.job j).run = some r) ∧ (r.core = none) ∧ (r.anyCore = false) ∧ (preferredCore s j = some c) ∧ (runningOn s c = some k) ∧ (k ≠ j) ∧ ((s.job k).run = some q) ∧ (jobPriority s k < jobPriority s j) ∧ (firstFor s j c = true) :=
  ⟨10^15, 3839, 7, 15, wReady, { wReady with core := some 15 }, (wPeriodic.setJob 3839 { JobRow.reset with state := 2, run := some wReady }).setJob 7 { JobRow.reset with state := 2, run := some { wReady with core := some 15 } }, by decide +kernel⟩

theorem witness_JobsRun_9 : ∃ (t j : Nat) (s : State),
    ((s.running = false ∨ (s.job j).run.all (fun r => r.core.isSome) = true)) :=
  ⟨10^15, 3839, wRun, by decide +kernel⟩

theorem witness_JobsRun_10 : ∃ (t j c : Nat) (r : Run) (s : State),
    (s.running = true) ∧ (j < 3840) ∧ ((s.job j).run = some r) ∧ (r.core = none) ∧ (2 ≤ ticksSince (s.advance t) r.waitFrom) ∧ ((coresOf s (jobMask s j)).find? (fun c => (runningOn s c).isNone) = some c) ∧ (firstFor s j c = true) :=
  ⟨10^15, 3839, 15, wReady, wPeriodic.setJob 3839 { JobRow.reset with state := 2, run := some wReady }, by decide +kernel⟩

theorem witness_JobsRun_11 : ∃ (t j : Nat) (r : Run) (s : State),
    (s.running = true) ∧ ((s.job j).run = some r) ∧ (r.core = none) ∧ (2 ≤ ticksSince (s.advance t) r.waitFrom) ∧ (coresOf s (jobMask s j) ≠ []) ∧ ((coresOf s (jobMask s j)).all (fun c => (runningOn s c).any fun k => decide (jobPriority s j ≤ jobPriority s k)) = true) :=
  ⟨10^15, 3839, wReady, ((withCfg wPeriodic [(0x2C01, 2, 7, 15)]).setJob 3839 { JobRow.reset with state := 2, run := some wReady }).setJob 7 { JobRow.reset with state := 2, run := some { wReady with core := some 15 } }, by decide +kernel⟩

theorem witness_JobsRun_12 : ∃ (t j : Nat) (s : State),
    ((s.running = false ∨ (s.job j).run.all (fun r => r.core.isSome || decide (ticksSince (s.advance t) r.waitFrom < 2)) = true)) :=
  ⟨10^15, 3839, wRun, by decide +kernel⟩

theorem witness_JobsRun_13 : ∃ (t j c : Nat) (r : Run) (s : State),
    (j < 3840) ∧ ((s.job j).run = some r) ∧ (r.core = some c) ∧ ((s.job j).state ≠ 3) :=
  ⟨10^15, 3839, 15, { wReady with core := some 15, firstDispatch := some 6 }, wPeriodic.setJob 3839 { JobRow.reset with state := 2, run := some { wReady with core := some 15, firstDispatch := some 6 } }, by decide +kernel⟩

theorem witness_JobsRun_14 : ∃ (t j c : Nat) (r : Run) (s : State),
    (j < 3840) ∧ ((s.job j).run = some r) ∧ (r.core = some c) ∧ ((s.job j).state = 3) :=
  ⟨10^15, 3839, 15, { wReady with core := some 15, firstDispatch := some 6 }, (wPeriodic.setJob 3839 { JobRow.reset with state := 3, run := some { wReady with core := some 15, firstDispatch := some 6 } }).setFour (fnJob 3839) true false, by decide +kernel⟩

theorem witness_JobsRun_15 : ∃ (t j : Nat) (s : State),
    ((s.job j).run.all (fun r => r.core.isNone) = true) :=
  ⟨10^15, 3839, wRun, by decide +kernel⟩

theorem witness_JobsRun_16 : ∃ (t j : Nat) (who : Who) (s : State),
    (Accepted 0x2C30 0x02 j (.num 0) who (s.advance t)) ∧ (j < 3840) ∧ (jobKind s j ≠ 0) ∧ ((s.job j).run = none) :=
  ⟨10^15, 3839, .dtls 0, withCfg wRun [(0x2C01, 1, 3839, 1)], by decide +kernel⟩

theorem witness_JobsRun_17 : ∃ (t j : Nat) (who : Who) (s : State),
    (Accepted 0x2C30 0x02 j (.num 0) who (s.advance t)) ∧ ((3840 ≤ j ∨ jobKind s j = 0 ∨ (s.job j).run ≠ none)) :=
  ⟨10^15, 3839, .dtls 0, wRun, by decide +kernel⟩

theorem witness_ImianOperationsAreAnswered_1 : ∃ (t : Nat) (who : Who) (m : List Byte) (c : Instr) (s : State),
    (c ∈ [.imianRead t who m, .imianWrite t who m, .readSeg t who m, .writeSeg t who m, .subscribe t who m, .summary t who m]) ∧ (((s.advance t).reaches who = false ∨ (match who with | .can _ => true | _ => false) = true)) :=
  ⟨10^15, .can 0, [], .imianRead (10^15) (.can 0) [], wRun, by decide +kernel⟩

theorem witness_ImianOperationsAreAnswered_2 : ∃ (t : Nat) (who : Who) (m : List Byte) (k : Kept) (c : Instr) (s : State),
    (c ∈ [.imianRead t who m, .imianWrite t who m, .readSeg t who m, .writeSeg t who m, .subscribe t who m, .summary t who m]) ∧ ((s.advance t).reaches who = true) ∧ ((match who with | .can _ => false | _ => true) = true) ∧ ((keptOf s who).find? (fun k => k.id == numAt (who == .mailbox) m 4 4 && k.body == m.drop 16) = some k) :=
  ⟨10^15, .dtls 0, wMsg 1 wGet [], ⟨9, (wMsg 1 wGet []).drop 16, [5]⟩, .imianRead (10^15) (.dtls 0) (wMsg 1 wGet []), wAnswered, by decide +kernel⟩

theorem witness_ImianOperationsAreAnswered_3 : ∃ (t op : Nat) (who : Who) (m : List Byte) (c : Instr) (s : State),
    ((op, c) ∈ [(1, .imianRead t who m), (2, .imianWrite t who m), (3, .readSeg t who m), (4, .writeSeg t who m), (6, .subscribe t who m), (7, .summary t who m)]) ∧ ((s.advance t).reaches who = true) ∧ ((match who with | .can _ => false | _ => true) = true) ∧ ((keptOf s who).find? (fun k => k.id == numAt (who == .mailbox) m 4 4 && k.body == m.drop 16) = none) ∧ ((byteAt m 1 ≠ op ∨ (messageItems (who == .mailbox) m).isNone = true ∨ byteAt m 2 ≠ 0 ∨ numAt (who == .mailbox) m 10 2 ≠ 0)) :=
  ⟨10^15, 7, .dtls 0, wMsg 1 wGet [], .summary (10^15) (.dtls 0) (wMsg 1 wGet []), wRun, by decide +kernel⟩

theorem witness_ImianOperationsAreAnswered_4 : ∃ (t : Nat) (who : Who) (m v : List Byte) (i : Item) (o : ObjRow) (s s' : State),
    ((s.advance t).reaches who = true) ∧ ((match who with | .can _ => false | _ => true) = true) ∧ ((keptOf s who).find? (fun k => k.id == numAt (who == .mailbox) m 4 4 && k.body == m.drop 16) = none) ∧ (byteAt m 1 = 1) ∧ (byteAt m 2 = 0) ∧ (numAt (who == .mailbox) m 10 2 = 0) ∧ (messageItems (who == .mailbox) m = some [i]) ∧ (readItemStatus (s.advance t) who i = 0) ∧ (findObj i.idx i.sub = some o) ∧ (readRows (who == .mailbox) i.shadow o i.count i.row (s.advance t) = (s', v)) ∧ (16 + (i.bytes (who == .mailbox) o.ty.code 0 v).length ≤ 8192) :=
  ⟨10^15, .dtls 0, wMsg 1 wGet [], (readRows false false (wObj 0x1200 6) 1 noRow (wRun.advance (10^15))).2, wGet, wObj 0x1200 6, wRun, (readRows false false (wObj 0x1200 6) 1 noRow (wRun.advance (10^15))).1, by
    and_intros <;> first | decide +kernel | rfl⟩

theorem witness_ImianOperationsAreAnswered_5 : ∃ (t : Nat) (who : Who) (m : List Byte) (i : Item) (s : State),
    ((s.advance t).reaches who = true) ∧ ((match who with | .can _ => false | _ => true) = true) ∧ ((keptOf s who).find? (fun k => k.id == numAt (who == .mailbox) m 4 4 && k.body == m.drop 16) = none) ∧ (byteAt m 1 = 1) ∧ (byteAt m 2 = 0) ∧ (numAt (who == .mailbox) m 10 2 = 0) ∧ (messageItems (who == .mailbox) m = some [i]) ∧ (readItemStatus (s.advance t) who i ≠ 0) :=
  ⟨10^15, .dtls 0, wMsg 1 { wGet with sub := 0xEE } [], { wGet with sub := 0xEE }, wRun, by decide +kernel⟩

theorem witness_ImianOperationsAreAnswered_6 : ∃ (t : Nat) (who : Who) (m : List Byte) (v : Val) (i : Item) (s : State),
    ((s.advance t).reaches who = true) ∧ ((match who with | .can _ => false | _ => true) = true) ∧ ((keptOf s who).find? (fun k => k.id == numAt (who == .mailbox) m 4 4 && k.body == m.drop 16) = none) ∧ (byteAt m 1 = 2) ∧ (byteAt m 2 = 0) ∧ (numAt (who == .mailbox) m 10 2 = 0) ∧ (messageItems (who == .mailbox) m = some [i]) ∧ (i.count = 1) ∧ (i.values (who == .mailbox) = some [v]) ∧ (writeItemStatus (s.advance t) who (who == .mailbox) i = 0) ∧ (isSetObject i.idx i.sub = true) :=
  ⟨10^15, .dtls 0, wMsg 2 wPut (be 2 500), .num 500, wPut, wRun, by decide +kernel⟩

theorem witness_ImianOperationsAreAnswered_7 : ∃ (t : Nat) (who : Who) (m : List Byte) (v : Val) (i : Item) (s : State),
    ((s.advance t).reaches who = true) ∧ ((match who with | .can _ => false | _ => true) = true) ∧ ((keptOf s who).find? (fun k => k.id == numAt (who == .mailbox) m 4 4 && k.body == m.drop 16) = none) ∧ (byteAt m 1 = 2) ∧ (byteAt m 2 = 0) ∧ (numAt (who == .mailbox) m 10 2 = 0) ∧ (messageItems (who == .mailbox) m = some [i]) ∧ (i.count = 1) ∧ (i.values (who == .mailbox) = some [v]) ∧ (writeItemStatus (s.advance t) who (who == .mailbox) i = 0) ∧ (isSetObject i.idx i.sub = false) ∧ (i.idx ≠ 0x2020) :=
  ⟨10^15, .dtls 0, wMsg 2 wPutLive (be 1 1), .num 1, wPutLive, wRun, by decide +kernel⟩

theorem witness_ImianOperationsAreAnswered_8 : ∃ (t : Nat) (who : Who) (m : List Byte) (l : List Item) (s : State),
    ((s.advance t).reaches who = true) ∧ ((match who with | .can _ => false | _ => true) = true) ∧ ((keptOf s who).find? (fun k => k.id == numAt (who == .mailbox) m 4 4 && k.body == m.drop 16) = none) ∧ (byteAt m 1 = 2) ∧ (byteAt m 2 = 0) ∧ (numAt (who == .mailbox) m 10 2 = 0) ∧ (messageItems (who == .mailbox) m = some l) ∧ (l.any (fun i => writeItemStatus (s.advance t) who (who == .mailbox) i != 0) = true) :=
  ⟨10^15, .dtls 0, wMsg 2 { wPut with sub := 0xEE } (be 2 500), [{ wPut with sub := 0xEE }], wRun, by decide +kernel⟩

theorem witness_ImianOperationsAreAnswered_9 : ∃ (t size gen : Nat) (who : Who) (m d : List Byte) (i : Item) (o : ObjRow) (s s' : State),
    ((s.advance t).reaches who = true) ∧ ((match who with | .can _ => false | _ => true) = true) ∧ ((keptOf s who).find? (fun k => k.id == numAt (who == .mailbox) m 4 4 && k.body == m.drop 16) = none) ∧ (byteAt m 1 = 3) ∧ (byteAt m 2 = 0) ∧ (numAt (who == .mailbox) m 10 2 = 0) ∧ (messageItems (who == .mailbox) m = some [i]) ∧ (i.value.length = 16) ∧ (findObj i.idx i.sub = some o) ∧ (segReadStatus (s.advance t) who i (numAt (who == .mailbox) i.value 8 4) 4096 = 0) ∧ (readSegment (who == .mailbox) i.shadow o i.row (numAt (who == .mailbox) i.value 0 8) (numAt (who == .mailbox) i.value 8 4) (numAt (who == .mailbox) i.value 12 4) (s.advance t) = (s', 0, size, gen, d)) :=
  ⟨10^15, (readSegment false false (wObj 0x1202 4) 0 0 8 0 (wRun.advance (10^15))).2.2.1, (readSegment false false (wObj 0x1202 4) 0 0 8 0 (wRun.advance (10^15))).2.2.2.1, .dtls 0, wMsg 3 wSeg wSegValue, (readSegment false false (wObj 0x1202 4) 0 0 8 0 (wRun.advance (10^15))).2.2.2.2, wSeg, wObj 0x1202 4, wRun, (readSegment false false (wObj 0x1202 4) 0 0 8 0 (wRun.advance (10^15))).1, by
    and_intros <;> first | decide +kernel | rfl⟩

theorem witness_ImianOperationsAreAnswered_10 : ∃ (t : Nat) (who : Who) (m : List Byte) (i : Item) (o : ObjRow) (s : State),
    ((s.advance t).reaches who = true) ∧ ((match who with | .can _ => false | _ => true) = true) ∧ ((keptOf s who).find? (fun k => k.id == numAt (who == .mailbox) m 4 4 && k.body == m.drop 16) = none) ∧ (byteAt m 1 = 4) ∧ (byteAt m 2 = 0) ∧ (numAt (who == .mailbox) m 10 2 = 0) ∧ (messageItems (who == .mailbox) m = some [i]) ∧ (20 ≤ i.value.length) ∧ (findObj i.idx i.sub = some o) ∧ (isSetObject i.idx i.sub = true) ∧ (o.idx = i.idx) ∧ (o.sub = i.sub) ∧ (i.idx ≠ 0x3110) ∧ (numAt (who == .mailbox) i.value 12 4 = 3) ∧ (segWriteStatus (s.advance t) who i (numAt (who == .mailbox) i.value 8 4) 3 = 0) ∧ (segWriteRefused (s.advance t) who o i.row (numAt (who == .mailbox) i.value 0 8) (numAt (who == .mailbox) i.value 16 4) true (i.value.drop 20) = 0) ∧ (inRange o (.oct (i.value.drop 20)) = true) :=
  ⟨10^15, .dtls 0, wMsg 4 wStoreSeg wStoreValue, wStoreSeg, wObj 0x2202 1, wRun, by decide +kernel⟩

theorem witness_ImianOperationsAreAnswered_11 : ∃ (t : Nat) (who : Who) (m : List Byte) (i : Item) (o : ObjRow) (s : State),
    ((s.advance t).reaches who = true) ∧ ((match who with | .can _ => false | _ => true) = true) ∧ ((keptOf s who).find? (fun k => k.id == numAt (who == .mailbox) m 4 4 && k.body == m.drop 16) = none) ∧ (byteAt m 1 = 4) ∧ (byteAt m 2 = 0) ∧ (numAt (who == .mailbox) m 10 2 = 0) ∧ (messageItems (who == .mailbox) m = some [i]) ∧ (20 ≤ i.value.length) ∧ (findObj i.idx i.sub = some o) ∧ (o.idx = i.idx) ∧ (o.sub = i.sub) ∧ (i.idx ≠ 0x3110) ∧ (numAt (who == .mailbox) i.value 12 4 = 1) ∧ (segWriteStatus (s.advance t) who i (numAt (who == .mailbox) i.value 8 4) 1 = 0) ∧ (segWriteRefused (s.advance t) who o i.row (numAt (who == .mailbox) i.value 0 8) (numAt (who == .mailbox) i.value 16 4) true (i.value.drop 20) = 0) :=
  ⟨10^15, .dtls 0, wMsg 4 (wFirstSeg 1) (wFirstValue 1), wFirstSeg 1, wObj 0x2202 1, wRun, by decide +kernel⟩

theorem witness_ImianOperationsAreAnswered_12 : ∃ (t : Nat) (who : Who) (m : List Byte) (i : Item) (s : State),
    ((s.advance t).reaches who = true) ∧ ((match who with | .can _ => false | _ => true) = true) ∧ ((keptOf s who).find? (fun k => k.id == numAt (who == .mailbox) m 4 4 && k.body == m.drop 16) = none) ∧ (byteAt m 1 = 4) ∧ (byteAt m 2 = 0) ∧ (numAt (who == .mailbox) m 10 2 = 0) ∧ (messageItems (who == .mailbox) m = some [i]) ∧ ((i.value.length < 20 ∨ segWriteStatus (s.advance t) who i (numAt (who == .mailbox) i.value 8 4) (numAt (who == .mailbox) i.value 12 4) ≠ 0 ∨ (findObj i.idx i.sub).any (fun o => segWriteRefused (s.advance t) who o i.row (numAt (who == .mailbox) i.value 0 8) (numAt (who == .mailbox) i.value 16 4) (bit (numAt (who == .mailbox) i.value 12 4) 0) (i.value.drop 20) != 0) = true)) :=
  ⟨10^15, .dtls 0, wMsg 4 (wFirstSeg 0) (wFirstValue 0), wFirstSeg 0, wRun, by decide +kernel⟩

theorem witness_ImianOperationsAreAnswered_13 : ∃ (t n : Nat) (m : List Byte) (i : Item) (s : State),
    ((s.advance t).reaches (.dtls n) = true) ∧ ((keptOf s (.dtls n)).find? (fun k => k.id == numAt false m 4 4 && k.body == m.drop 16) = none) ∧ (byteAt m 1 = 6) ∧ (byteAt m 2 = 0) ∧ (numAt false m 10 2 = 0) ∧ (messageItems false m = some [i]) ∧ (subscribeStatus (s.advance t) n i = 0) :=
  ⟨10^15, 0, wMsg 6 wWatch (be 1 1 ++ be 4 10), wWatch, wRun, by decide +kernel⟩

theorem witness_ImianOperationsAreAnswered_14 : ∃ (t n : Nat) (m : List Byte) (i : Item) (s : State),
    ((s.advance t).reaches (.dtls n) = true) ∧ ((keptOf s (.dtls n)).find? (fun k => k.id == numAt false m 4 4 && k.body == m.drop 16) = none) ∧ (byteAt m 1 = 6) ∧ (byteAt m 2 = 0) ∧ (numAt false m 10 2 = 0) ∧ (messageItems false m = some [i]) ∧ (subscribeStatus (s.advance t) n i ≠ 0) :=
  ⟨10^15, 0, wMsg 6 wWatch9 (be 1 1 ++ be 4 9), wWatch9, wRun, by decide +kernel⟩

theorem witness_ImianOperationsAreAnswered_15 : ∃ (t : Nat) (who : Who) (m : List Byte) (s : State),
    ((s.advance t).reaches who = true) ∧ ((match who with | .can _ => false | _ => true) = true) ∧ ((keptOf s who).find? (fun k => k.id == numAt (who == .mailbox) m 4 4 && k.body == m.drop 16) = none) ∧ (byteAt m 1 = 7) ∧ (byteAt m 2 = 0) ∧ (numAt (who == .mailbox) m 10 2 = 0) ∧ (messageItems (who == .mailbox) m = some []) ∧ (offered (s.advance t) who .summary 0x1010 0x00 = true) ∧ (roleHas (((s.advance t).roleOf who).getD 0) 1 = true) :=
  ⟨10^15, .dtls 0, messageBytes false 7 0 0 9 0 [], wRun, by decide +kernel⟩

theorem witness_ImianOperationsAreAnswered_16 : ∃ (t : Nat) (who : Who) (m : List Byte) (s : State),
    ((s.advance t).reaches who = true) ∧ ((match who with | .can _ => false | _ => true) = true) ∧ ((keptOf s who).find? (fun k => k.id == numAt (who == .mailbox) m 4 4 && k.body == m.drop 16) = none) ∧ (byteAt m 1 = 7) ∧ (byteAt m 2 = 0) ∧ (numAt (who == .mailbox) m 10 2 = 0) ∧ (messageItems (who == .mailbox) m = some []) ∧ ((offered (s.advance t) who .summary 0x1010 0x00 = false ∨ roleHas (((s.advance t).roleOf who).getD 0) 1 = false)) :=
  ⟨10^15, .mailbox, messageBytes true 7 0 0 9 0 [], wSentinel.onHost fun h => { h with linkUp := true }, by decide +kernel⟩

theorem witness_SessionsTransfersAndSubscriptionsEnd_1 : ∃ (t n : Nat) (peer cert : List Byte) (s : State),
    (dtlsServes s = true) ∧ (s.imian.sessions.length < s.cfg 0x1100 0x03) ∧ ((List.range 16).find? (fun n => (s.session n).isNone) = some n) :=
  ⟨10^15, 1, be 16 5, [1], withRo (withCfg wRun [(0x1100, 1, noRow, 1)]) [(0x2F03, 1, 0, 1)], by decide +kernel⟩

theorem witness_SessionsTransfersAndSubscriptionsEnd_2 : ∃ (t : Nat) (peer cert : List Byte) (s : State),
    (dtlsServes s = true) ∧ (s.imian.sessions.length < s.cfg 0x1100 0x03) :=
  ⟨10^15, be 16 5, [1], withRo (withCfg wRun [(0x1100, 1, noRow, 1)]) [(0x2F03, 1, 0, 1)], by decide +kernel⟩

theorem witness_SessionsTransfersAndSubscriptionsEnd_3 : ∃ (t : Nat) (proved : Bool) (peer cert : List Byte) (s : State),
    (dtlsServes s = true) ∧ (s.cfg 0x1100 0x03 ≤ s.imian.sessions.length) :=
  ⟨10^15, true, be 16 5, [1], withRo (withCfg wRun [(0x1100, 1, noRow, 1), (0x1100, 3, noRow, 1)]) [(0x2F03, 1, 0, 1)], by decide +kernel⟩

theorem witness_SessionsTransfersAndSubscriptionsEnd_4 : ∃ (t : Nat) (proved : Bool) (peer cert : List Byte) (s : State),
    (dtlsServes s = false) :=
  ⟨10^15, true, be 16 5, [1], wHeld, by decide +kernel⟩

theorem witness_SessionsTransfersAndSubscriptionsEnd_5 : ∃ (t n : Nat) (x : Session) (s : State),
    (Room s) ∧ (s.session n = some x) ∧ (x.lastUse + sec (s.cfg 0x1100 0x04) ≤ max s.now t) :=
  ⟨10^15, 0, ⟨3, [], [], 0, 0, 0, []⟩, wRun, by decide +kernel⟩

theorem witness_SessionsTransfersAndSubscriptionsEnd_6 : ∃ (t n : Nat) (s : State),
    ((s.session n).all (fun x => decide (max s.now t < x.lastUse + sec (s.cfg 0x1100 0x04))) = true) :=
  ⟨10^15, 5, wRun, by decide +kernel⟩

theorem witness_SessionsTransfersAndSubscriptionsEnd_7 : ∃ (t n : Nat) (s : State),
    (Room s) ∧ ((s.session n).isSome = true) :=
  ⟨10^15, 0, wRun.onImian fun i => { i with transfers := [⟨okey 0x1101 4 noRow, .dtls 0, [1], 0⟩] }, by decide +kernel⟩

theorem witness_SessionsTransfersAndSubscriptionsEnd_8 : ∃ (t n : Nat) (s : State),
    (s.session n = none) :=
  ⟨10^15, 5, wRun, by decide +kernel⟩

theorem witness_SessionsTransfersAndSubscriptionsEnd_9 : ∃ (t n : Nat) (who : Who) (s : State),
    (Room s) ∧ (Accepted 0x1130 0x01 n (.num 0) who (s.advance t)) ∧ ((s.session n).isSome = true) :=
  ⟨10^15, 0, .dtls 0, wRun, by decide +kernel⟩

theorem witness_SessionsTransfersAndSubscriptionsEnd_10 : ∃ (t n : Nat) (who : Who) (s : State),
    (Accepted 0x1130 0x01 n (.num 0) who (s.advance t)) ∧ (s.session n = none) :=
  ⟨10^15, 5, .dtls 0, wRun, by decide +kernel⟩

theorem witness_SessionsTransfersAndSubscriptionsEnd_11 : ∃ (t idx sub row : Nat) (s : State),
    (okey idx sub row ≠ imageKey) :=
  ⟨10^15, 0x1101, 4, noRow, wRun.onImian fun i => { i with transfers := [⟨okey 0x1101 4 noRow, .dtls 0, [1], 0⟩] }, by decide +kernel⟩

theorem witness_SessionsTransfersAndSubscriptionsEnd_12 : ∃ (t : Nat) (x : Transfer) (s : State),
    (s.imian.transfers = [x]) ∧ (x.key = imageKey) ∧ (x.lastSegment + sec 60 ≤ max s.now t) ∧ (receiving s = true) :=
  ⟨10^15, ⟨imageKey, .dtls 0, [1], 0⟩, (withRo wRun [(0x3111, 1, noRow, 1)]).onImian fun i => { i with transfers := [⟨imageKey, .dtls 0, [1], 0⟩] }, by decide +kernel⟩

theorem witness_SessionsTransfersAndSubscriptionsEnd_13 : ∃ (t n k : Nat) (b : Subscription) (s : State),
    ((s.advance t).reaches (.dtls n) = true) ∧ (s.imian.subscriptions.find? (fun b => b.session == n && b.number == k) = some b) ∧ (notifyDue (s.advance t) b = true) :=
  ⟨10^15, 0, 0, wTold, wRun.onImian fun i => { i with subscriptions := [wTold] }, by decide +kernel⟩

theorem witness_SessionsTransfersAndSubscriptionsEnd_14 : ∃ (t n k : Nat) (s : State),
    (((s.advance t).reaches (.dtls n) = false ∨ (s.imian.subscriptions.find? (fun b => b.session == n && b.number == k)).all (fun b => !notifyDue (s.advance t) b) = true)) :=
  ⟨10^15, 0, 1, wRun.onImian fun i => { i with subscriptions := [wTold] }, by decide +kernel⟩

theorem witness_MailboxAndCanRequestsAreTaken_1 : ∃ (t : Nat) (s : State),
    (hostReaches s = true) ∧ (s.imian.mailbox.busy = false) ∧ (s.imian.mailbox.response = false) ∧ (16 ≤ s.imian.mailbox.reqLen) ∧ (s.imian.mailbox.reqLen ≤ 8192) ∧ (mailboxUnavailable s = false) ∧ (byteAt (requestBytes s.imian.mailbox) 1 ≠ 5) :=
  ⟨10^15, (wRun.onHost fun h => { h with linkUp := true }).onImian fun i => { i with mailbox := { Mailbox.reset with reqLen := 16, reqBuf := [(0, 0x701)] } }, by decide +kernel⟩

theorem witness_MailboxAndCanRequestsAreTaken_2 : ∃ (t : Nat) (s : State),
    (hostReaches s = true) ∧ ((s.imian.mailbox.busy = true ∨ s.imian.mailbox.response = true)) :=
  ⟨10^15, (wRun.onHost fun h => { h with linkUp := true }).onImian fun i => { i with mailbox := { Mailbox.reset with response := true } }, by decide +kernel⟩

theorem witness_MailboxAndCanRequestsAreTaken_3 : ∃ (t : Nat) (s : State),
    (hostReaches s = true) ∧ (s.imian.mailbox.busy = false) ∧ (s.imian.mailbox.response = false) ∧ ((s.imian.mailbox.reqLen < 16 ∨ 8192 < s.imian.mailbox.reqLen)) :=
  ⟨10^15, (wRun.onHost fun h => { h with linkUp := true }).onImian fun i => { i with mailbox := { Mailbox.reset with reqLen := 15 } }, by decide +kernel⟩

theorem witness_MailboxAndCanRequestsAreTaken_4 : ∃ (t : Nat) (s : State),
    ((hostReaches s = false ∨ (s.imian.mailbox.busy = false ∧ s.imian.mailbox.response = false ∧ 16 ≤ s.imian.mailbox.reqLen ∧ s.imian.mailbox.reqLen ≤ 8192 ∧ mailboxUnavailable s = true))) :=
  ⟨10^15, (wSentinel.onHost fun h => { h with linkUp := true }).onImian fun i => { i with mailbox := { Mailbox.reset with reqLen := 16 } }, by decide +kernel⟩

theorem witness_MailboxAndCanRequestsAreTaken_5 : ∃ (t : Nat) (s : State),
    (hostReaches s = true) :=
  ⟨10^15, (wRun.onHost fun h => { h with linkUp := true }).onImian fun i => { i with mailbox := { Mailbox.reset with response := true, respLen := 1, respBuf := [1] } }, by decide +kernel⟩

theorem witness_MailboxAndCanRequestsAreTaken_6 : ∃ (t : Nat) (s : State),
    (hostReaches s = false) :=
  ⟨10^15, wRun, by decide +kernel⟩

theorem witness_MailboxAndCanRequestsAreTaken_7 : ∃ (t n id_ : Nat) (fd : Bool) (l : List Byte) (s : State),
    (n < 2) ∧ ((s.advance t).reaches (.can n) = true) ∧ ((fd = false ∨ l.length ≠ 64)) :=
  ⟨10^15, 1, 0x77, true, [], wCan, by decide +kernel⟩

theorem witness_MailboxAndCanRequestsAreTaken_8 : ∃ (t n id_ : Nat) (fd : Bool) (l : List Byte) (s : State),
    ((2 ≤ n ∨ (s.advance t).reaches (.can n) = false ∨ (fd = true ∧ l.length = 64 ∧ id_ ≠ s.cfg 0x1100 0x09 n))) :=
  ⟨10^15, 1, 0x78, true, be 64 0, wCan, by decide +kernel⟩

theorem witness_MailboxAndCanRequestsAreTaken_9 : ∃ (t n : Nat) (l : List Byte) (s : State),
    (n < 2) ∧ ((s.advance t).reaches (.can n) = true) ∧ (l.length = 64) ∧ (keyOf s (s.cfg 0x1100 0x0B n) [2] = none) :=
  ⟨10^15, 1, be 64 0, { wCan with keys := KeySt.reset }, by decide +kernel⟩

theorem witness_MailboxAndCanRequestsAreTaken_10 : ∃ (t n : Nat) (key l : List Byte) (s : State),
    (n < 2) ∧ ((s.advance t).reaches (.can n) = true) ∧ (l.length = 64) ∧ (keyOf s (s.cfg 0x1100 0x0B n) [2] = some key) ∧ (byteAt l 0 = 1) :=
  ⟨10^15, 1, [1, 2], be 1 1 ++ be 63 0, wCan, by decide +kernel⟩

theorem witness_ConfigurationSetsAreValidatedAndSwapped_1 : ∃ (t : Nat) (who : Who) (s : State),
    (AcceptedPlain 0x1201 0x01 who (s.advance t)) ∧ (shadowBusy s = false) :=
  ⟨10^15, .dtls 0, wRun, by decide +kernel⟩

theorem witness_ConfigurationSetsAreValidatedAndSwapped_2 : ∃ (t : Nat) (who : Who) (s : State),
    (AcceptedPlain 0x1201 0x01 who (s.advance t)) ∧ (shadowBusy s = true) :=
  ⟨10^15, .dtls 0, withRo wRun [(0x1200, 6, noRow, 5)], by decide +kernel⟩

theorem witness_ConfigurationSetsAreValidatedAndSwapped_3 : ∃ (t b : Nat) (s : State),
    (s.sets.swap = none) ∧ (s.sets.validating = some b) :=
  ⟨10^15, 1, withRo wRun [(0x1200, 6, noRow, 2)] |>.onSets fun x => { x with validating := some 1 }, by decide +kernel⟩

theorem witness_ConfigurationSetsAreValidatedAndSwapped_4 : ∃ (t : Nat) (w : Swap) (s : State),
    (s.sets.swap = some w) ∧ (w.validated = false) ∧ (s.duplex.swapAckUntil = none) ∧ (leads s = false) :=
  ⟨10^15, ⟨0, 0, false, 1, 0⟩, wRun.onSets fun x => { x with swap := some ⟨0, 0, false, 1, 0⟩ }, by decide +kernel⟩

theorem witness_ConfigurationSetsAreValidatedAndSwapped_5 : ∃ (t : Nat) (s : State),
    (s.sets.swap = none) ∧ (s.sets.validating = none) :=
  ⟨10^15, wRun, by decide +kernel⟩

theorem witness_ConfigurationSetsAreValidatedAndSwapped_6 : ∃ (t : Nat) (who : Who) (arg : List Byte) (s : State),
    (Room s) ∧ (Accepted 0x1201 0x02 noRow (.oct arg) who (s.advance t)) ∧ (byteAt arg 0 ≤ 2) ∧ (beAt arg 1 3 = 0) ∧ ((byteAt arg 0 = 0 → beAt arg 8 12 = 0)) ∧ ((byteAt arg 0 = 1 → s.time.isSet = true)) ∧ ((byteAt arg 0 = 2 → s.time.gatOn = true ∧ beAt arg 12 8 = 0)) ∧ (tooFar (byteAt arg 0) (if byteAt arg 0 = 1 then beAt arg 8 12 else if byteAt arg 0 = 2 then beAt arg 8 4 else 0) (s.advance t) = false) ∧ (beAt arg 4 4 = s.ro 0x1200 0x05) ∧ (shadowBusy s = false) ∧ (roleNow s ≠ 2) :=
  ⟨10^15, .dtls 0, be 4 0x01000000 ++ be 4 (wRun.ro 0x1200 5) ++ be 12 (5001 * 2 ^ 48), wRun, by decide +kernel⟩

theorem witness_ConfigurationSetsAreValidatedAndSwapped_7 : ∃ (t : Nat) (who : Who) (arg : List Byte) (s : State),
    (Accepted 0x1201 0x02 noRow (.oct arg) who (s.advance t)) ∧ ((2 < byteAt arg 0 ∨ beAt arg 1 3 ≠ 0 ∨ (byteAt arg 0 = 0 ∧ beAt arg 8 12 ≠ 0) ∨ (byteAt arg 0 = 2 ∧ beAt arg 12 8 ≠ 0))) :=
  ⟨10^15, .dtls 0, be 20 (3 * 2 ^ 152), wRun, by decide +kernel⟩

theorem witness_ConfigurationSetsAreValidatedAndSwapped_8 : ∃ (t : Nat) (who : Who) (arg : List Byte) (s : State),
    (Accepted 0x1201 0x02 noRow (.oct arg) who (s.advance t)) ∧ (byteAt arg 0 = 0) ∧ (beAt arg 1 3 = 0) ∧ (beAt arg 8 12 = 0) ∧ ((beAt arg 4 4 ≠ s.ro 0x1200 0x05 ∨ shadowBusy s = true ∨ roleNow s = 2)) :=
  ⟨10^15, .dtls 0, be 20 (77 * 2 ^ 96), wRun, by decide +kernel⟩

theorem witness_ConfigurationSetsAreValidatedAndSwapped_9 : ∃ (t a : Nat) (w : Swap) (s : State),
    (s.sets.swap = some w) ∧ (swapDue w (s.advance t) = some a) :=
  ⟨10^15, 5000 * 2 ^ 48, ⟨0, 0, true, 1, 0⟩, wRun.onSets fun x => { x with swap := some ⟨0, 0, true, 1, 0⟩ }, by decide +kernel⟩

theorem witness_ConfigurationSetsAreValidatedAndSwapped_10 : ∃ (t : Nat) (s : State),
    (s.sets.swap.all (fun w => (swapDue w (s.advance t)).isNone) = true) :=
  ⟨10^15, wRun, by decide +kernel⟩

theorem witness_ConfigurationSetsAreValidatedAndSwapped_11 : ∃ (t : Nat) (who : Who) (s : State),
    (Room s) ∧ (AcceptedPlain 0x1201 0x03 who (s.advance t)) ∧ (shadowBusy s = false) :=
  ⟨10^15, .dtls 0, wRun, by decide +kernel⟩

theorem witness_ConfigurationSetsAreValidatedAndSwapped_12 : ∃ (t : Nat) (who : Who) (s : State),
    (AcceptedPlain 0x1201 0x03 who (s.advance t)) ∧ (shadowBusy s = true) :=
  ⟨10^15, .dtls 0, withRo wRun [(0x1200, 6, noRow, 2)], by decide +kernel⟩

theorem witness_ConfigurationSetsAreValidatedAndSwapped_13 : ∃ (t : Nat) (w : Swap) (who : Who) (s : State),
    (Room s) ∧ (AcceptedPlain 0x1201 0x04 who (s.advance t)) ∧ (s.sets.swap = some w) :=
  ⟨10^15, ⟨0, 0, true, 1, 0⟩, .dtls 0, wRun.onSets fun x => { x with swap := some ⟨0, 0, true, 1, 0⟩ }, by decide +kernel⟩

theorem witness_ConfigurationSetsAreValidatedAndSwapped_14 : ∃ (t : Nat) (who : Who) (s : State),
    (AcceptedPlain 0x1201 0x04 who (s.advance t)) ∧ (s.sets.swap = none) :=
  ⟨10^15, .dtls 0, wRun, by decide +kernel⟩

theorem witness_ConfigurationSetsAreValidatedAndSwapped_15 : ∃ (t : Nat) (who : Who) (s : State),
    (AcceptedPlain 0x1030 0x01 who (s.advance t)) ∧ (bankTrial s.keys.bankWord = false) ∧ (s.keys.bankA.valid = true) :=
  ⟨10^15, .dtls 0, wRun, by decide +kernel⟩

theorem witness_ReadsOfQDataFollowR562_1 : ∃ (t q : Nat) (p : List Nat) (rest : List (List Nat)) (s : State),
    (hostReaches s = true) ∧ (q < 8) ∧ ((s.sluice q).packets = p :: rest) ∧ ((s.sluice q).readOfFirst < p.length) :=
  ⟨10^15, 7, [5, 6], [], wLink.setSluice 7 { Sluice.reset with packets := [[5, 6]], readOfFirst := 1, rptr := 32767, wptr := 1 }, by decide +kernel⟩

theorem witness_ReadsOfQDataFollowR562_2 : ∃ (t q : Nat) (s : State),
    (hostReaches s = true) ∧ (q < 8) ∧ ((s.sluice q).packets = []) ∧ ((s.running || s.dev == stSentinel) = true) ∧ ((s.sluice q).testMode = false) :=
  ⟨10^15, 7, wLink, by decide +kernel⟩

theorem witness_ReadsOfQDataFollowR562_3 : ∃ (t q : Nat) (s : State),
    (hostReaches s = true) ∧ (q < 8) ∧ ((s.sluice q).packets = []) ∧ ((s.sluice q).fill = 0) ∧ (((s.running || s.dev == stSentinel) = false ∨ (s.sluice q).testMode = true)) :=
  ⟨10^15, 7, wLink.setSluice 7 { Sluice.reset with testMode := true, lastPopped := 9 }, by decide +kernel⟩

theorem witness_ReadsOfQDataFollowR562_4 : ∃ (cause q : Nat) (s : State),
    (q < 8) :=
  ⟨0, 7, wRun, by decide +kernel⟩

theorem witness_SluiceTestModeFollowsR564_1 : ∃ (t q v : Nat) (s : State),
    (Room s) ∧ (hostReaches s = true) ∧ (q < 8) ∧ (bit v 0 ≠ (s.sluice q).testMode) :=
  ⟨10^15, 7, 1, wLink, by decide +kernel⟩

theorem witness_SluiceTestModeFollowsR564_2 : ∃ (t q v : Nat) (s : State),
    (hostReaches s = true) ∧ (q < 8) ∧ ((s.sluice q).testMode = true) ∧ ((s.sluice q).fill < sluiceWords) :=
  ⟨10^15, 7, 2 ^ 64 - 1, wLink.setSluice 7 { Sluice.reset with testMode := true, rptr := 16384 + 7, wptr := 6 }, by decide +kernel⟩

theorem witness_SluiceTestModeFollowsR564_3 : ∃ (t q v : Nat) (s : State),
    (hostReaches s = true) ∧ (q < 8) ∧ ((s.sluice q).testMode = true) ∧ (sluiceWords ≤ (s.sluice q).fill) :=
  ⟨10^15, 7, 1, wLink.setSluice 7 { Sluice.reset with testMode := true, wptr := 16384 }, by decide +kernel⟩

theorem witness_SluiceTestModeFollowsR564_4 : ∃ (t q v : Nat) (s : State),
    (hostReaches s = true) ∧ (q < 8) ∧ (bit v 0 = (s.sluice q).testMode) :=
  ⟨10^15, 7, 2, wLink, by decide +kernel⟩

theorem witness_SluiceTestModeFollowsR564_5 : ∃ (t q v : Nat) (s : State),
    (hostReaches s = true) ∧ (q < 8) ∧ ((s.sluice q).testMode = false) :=
  ⟨10^15, 7, 2, wLink, by decide +kernel⟩

theorem witness_SluiceTestModeFollowsR564_6 : ∃ (q : Nat) (words : List Nat) (s : State),
    (q < 8) ∧ (s.feeds q = true) ∧ ((s.sluice q).testMode = true) :=
  ⟨7, [1], wLink.setSluice 7 { Sluice.reset with testMode := true }, by decide +kernel⟩

theorem witness_SluiceRegistersTakeTheirWrites_1 : ∃ (t q v : Nat) (s : State),
    (hostReaches s = true) ∧ (q < 8) ∧ ((s.sluice q).rptr < 2 ^ 15) ∧ ((s.sluice q).packets.all (fun p => !p.isEmpty) = true) ∧ ((s.sluice q).readOfFirst < ((s.sluice q).packets.headD [0]).length) ∧ ((s.sluice q).fill = (s.sluice q).packets.flatten.length - (s.sluice q).readOfFirst) ∧ ((v % 2 ^ 15 + 2 ^ 15 - (s.sluice q).rptr) % 2 ^ 15 ≤ (s.sluice q).fill) :=
  ⟨10^15, 7, 0, wLink.setSluice 7 { Sluice.reset with packets := [[5, 6], [8, 9]], readOfFirst := 1, rptr := 32766, wptr := 1, lastPopped := 3 }, by decide +kernel⟩

theorem witness_SluiceRegistersTakeTheirWrites_2 : ∃ (t q v : Nat) (s : State),
    (hostReaches s = true) ∧ (q < 8) ∧ ((s.sluice q).fill < (v % 2 ^ 15 + 2 ^ 15 - (s.sluice q).rptr) % 2 ^ 15) :=
  ⟨10^15, 7, 2, wLink.setSluice 7 { Sluice.reset with packets := [[5, 6]], rptr := 32767, wptr := 1 }, by decide +kernel⟩

theorem witness_SluiceRegistersTakeTheirWrites_3 : ∃ (t q : Nat) (s : State),
    (hostReaches s = true) ∧ (q < 8) :=
  ⟨10^15, 7, wLink, by decide +kernel⟩

theorem witness_SluiceRegistersTakeTheirWrites_4 : ∃ (t q : Nat) (s : State),
    (hostReaches s = true) ∧ (q < 8) :=
  ⟨10^15, 7, wLink, by decide +kernel⟩

theorem witness_SluiceRegistersTakeTheirWrites_5 : ∃ (t q : Nat) (s : State),
    (q < 8) ∧ ((s.sluice q).fill ≠ 0) ∧ ((s.sluice q).oldestAt + us (s.sluice q).delay ≤ max s.now t) :=
  ⟨10^15, 7, wLink.setSluice 7 { Sluice.reset with packets := [[5, 6]], rptr := 32767, wptr := 1, threshold := 0 }, by decide +kernel⟩

theorem witness_SluiceRegistersTakeTheirWrites_6 : ∃ (t q : Nat) (s : State),
    (((s.sluice q).fill = 0 ∨ max s.now t < (s.sluice q).oldestAt + us (s.sluice q).delay)) :=
  ⟨10^15, 7, wLink, by decide +kernel⟩

theorem witness_SluiceRegistersTakeTheirWrites_7 : ∃ (t v : Nat) (s : State),
    (hostReaches s = true) :=
  ⟨10^15, 0x2100, wLink.onHost fun h => { h with intStatus := 0x2101 }, by decide +kernel⟩

theorem witness_SluiceRegistersTakeTheirWrites_8 : ∃ (t q v : Nat) (c : Instr) (s : State),
    ((hostReaches s = false ∨ 8 ≤ q)) ∧ (c ∈ [.qDataRead t q, .qRptrWrite t q v, .qCtrlClearLost t q, .qCtrlClearUnderrun t q, .qModeWrite t q v, .qTestPush t q v]) :=
  ⟨10^15, 8, 5, .qDataRead (10^15) 8, wLink, by decide +kernel⟩

theorem witness_SluiceRegistersTakeTheirWrites_9 : ∃ (t v : Nat) (s : State),
    (hostReaches s = false) :=
  ⟨10^15, 5, wRun, by decide +kernel⟩

theorem witness_SluiceRegistersTakeTheirWrites_10 : ∃ (t q : Nat) (who : Who) (p : List Nat) (rest : List (List Nat)) (s : State),
    ((s.advance t).reaches who = true) ∧ ((match who with | .can _ => false | _ => true) = true) ∧ (offered (s.advance t) who .read 0x2D20 1 = true) ∧ (roleHas (((s.advance t).roleOf who).getD 0) 1 = true) ∧ (q < 8) ∧ ((s.sluice q).packets = p :: rest) :=
  ⟨10^15, 7, .dtls 0, [5, 6], [], wRun.setSluice 7 { Sluice.reset with packets := [[5, 6]], rptr := 32767, wptr := 1 }, by decide +kernel⟩

theorem witness_SluiceRegistersTakeTheirWrites_11 : ∃ (t q : Nat) (who : Who) (s : State),
    ((s.advance t).reaches who = true) ∧ ((match who with | .can _ => false | _ => true) = true) ∧ (offered (s.advance t) who .read 0x2D20 1 = true) ∧ (roleHas (((s.advance t).roleOf who).getD 0) 1 = true) ∧ (q < 8) ∧ ((s.sluice q).packets = []) ∧ ((s.running || s.dev == stSentinel) = true) ∧ ((s.sluice q).testMode = false) :=
  ⟨10^15, 7, .dtls 0, wRun, by decide +kernel⟩

theorem witness_SluiceRegistersTakeTheirWrites_12 : ∃ (t q : Nat) (who : Who) (s : State),
    ((s.advance t).reaches who = true) ∧ ((match who with | .can _ => false | _ => true) = true) ∧ (offered (s.advance t) who .read 0x2D20 1 = true) ∧ (8 ≤ q) :=
  ⟨10^15, 8, .dtls 0, wRun, by decide +kernel⟩

theorem witness_SluiceRegistersTakeTheirWrites_13 : ∃ (t q n : Nat) (s : State),
    ((s.advance t).reaches (.can n) = true) :=
  ⟨10^15, 7, 1, wCan, by decide +kernel⟩

theorem witness_RingsRegistersAndLinkFollowTheHost_1 : ∃ (t r v : Nat) (b : Bool) (s : State),
    (hostReaches s = true) ∧ (r < 2) ∧ (bit v 0 = true) ∧ ((s.host.ring r).enabled = false) ∧ (s.running = true) ∧ (ringFault (s.host.ring r) b = none) :=
  ⟨10^15, 0, 1, true, wLink.onHost fun h => { h with archive := { h.archive with base := 4096, size := 65536 }, batchRecords := 2 }, by decide +kernel⟩

theorem witness_RingsRegistersAndLinkFollowTheHost_2 : ∃ (t r v c : Nat) (b : Bool) (s : State),
    (Room s) ∧ (hostReaches s = true) ∧ (r < 2) ∧ (bit v 0 = true) ∧ ((s.host.ring r).enabled = false) ∧ (s.running = true) ∧ (ringFault (s.host.ring r) b = some c) :=
  ⟨10^15, 1, 1, 2, false, wLink.onHost fun h => { h with exportRing := { h.exportRing with base := 4096, size := 65536 } }, by decide +kernel⟩

theorem witness_RingsRegistersAndLinkFollowTheHost_3 : ∃ (t r v : Nat) (b : Bool) (s : State),
    (hostReaches s = true) ∧ (r < 2) ∧ (bit v 0 = false) :=
  ⟨10^15, 1, 0, true, wExport, by decide +kernel⟩

theorem witness_RingsRegistersAndLinkFollowTheHost_4 : ∃ (t r v : Nat) (b : Bool) (s : State),
    (hostReaches s = true) ∧ (r < 2) ∧ (bit v 0 = false) ∧ (s.host.exporting = none) :=
  ⟨10^15, 1, 0, true, wLink, by decide +kernel⟩

theorem witness_RingsRegistersAndLinkFollowTheHost_5 : ∃ (t r v : Nat) (b : Bool) (s : State),
    (hostReaches s = true) ∧ (r < 2) ∧ (bit v 0 = true) ∧ (((s.host.ring r).enabled = true ∨ s.running = false)) :=
  ⟨10^15, 1, 1, true, wExport, by decide +kernel⟩

theorem witness_RingsRegistersAndLinkFollowTheHost_6 : ∃ (t r v : Nat) (s : State),
    (hostReaches s = true) ∧ (r < 2) ∧ ((r = 0 ∨ s.host.exporting = none)) :=
  ⟨10^15, 1, 8, wLink.onHost fun h => { h with exportRing := { h.exportRing with base := 4096, size := 65536 } }, by decide +kernel⟩

theorem witness_RingsRegistersAndLinkFollowTheHost_7 : ∃ (t v : Nat) (s : State),
    (hostReaches s = true) ∧ (s.host.exporting ≠ none) ∧ ((s.host.exportLeft.all fun l => s.host.exportRing.size < l.length) = true) :=
  ⟨10^15, 8, wExport, by decide +kernel⟩

theorem witness_RingsRegistersAndLinkFollowTheHost_8 : ∃ (t bar off v : Nat) (s : State),
    (hostReaches s = true) ∧ (barRegister bar off = some (off, 8)) :=
  ⟨10^15, 0, 0x2118, 7, wLink, by decide +kernel⟩

theorem witness_RingsRegistersAndLinkFollowTheHost_9 : ∃ (t r v low : Nat) (s : State),
    (hostReaches s = true) ∧ (r < 2) ∧ (lookup (latchKey 0 (0x2000 + 0x100 * r)) s.host.latches = some low) :=
  ⟨10^15, 1, 1, 4096, wLink.onHost fun h => { h with latches := [(latchKey 0 0x2100, 4096)] }, by decide +kernel⟩

theorem witness_RingsRegistersAndLinkFollowTheHost_10 : ∃ (t r v : Nat) (s : State),
    (hostReaches s = true) ∧ (r < 2) :=
  ⟨10^15, 1, 65536, wLink, by decide +kernel⟩

theorem witness_RingsRegistersAndLinkFollowTheHost_11 : ∃ (t bar reg v : Nat) (s : State),
    (hostReaches s = true) ∧ (barRegister bar (reg + 4) = some (reg, 8)) ∧ (lookup (latchKey bar reg) s.host.latches = none) :=
  ⟨10^15, 0, 0x1728, 7, wLink, by decide +kernel⟩

theorem witness_RingsRegistersAndLinkFollowTheHost_12 : ∃ (t bar off reg width v : Nat) (s : State),
    (hostReaches s = true) ∧ (barRegister bar off = some (reg, 4)) ∧ ((off ≠ reg ∨ width ≠ 4)) :=
  ⟨10^15, 0, 8, 8, 2, 0, wLink, by decide +kernel⟩

theorem witness_RingsRegistersAndLinkFollowTheHost_13 : ∃ (t bar off width v : Nat) (s : State),
    ((hostReaches s = false ∨ barRegister bar off = none)) :=
  ⟨10^15, 0, 12, 4, 0, wLink, by decide +kernel⟩

theorem witness_RingsRegistersAndLinkFollowTheHost_14 : ∃ (t bar off v : Nat) (s : State),
    ((hostReaches s = false ∨ barRegister bar off = none)) :=
  ⟨10^15, 1, 0, 0, wLink, by decide +kernel⟩

theorem witness_RingsRegistersAndLinkFollowTheHost_15 : ∃ (t : Nat) (hot : Bool) (s : State),
    (hostReaches s = true) :=
  ⟨10^15, true, wExport, by decide +kernel⟩

theorem witness_RingsRegistersAndLinkFollowTheHost_16 : ∃ (t : Nat) (hot : Bool) (s : State),
    (Room s) ∧ (hostReaches s = true) ∧ (s.host.exporting = none) ∧ (s.ro 0x2821 0x02 ≠ 4) :=
  ⟨10^15, true, wLink, by decide +kernel⟩

theorem witness_RingsRegistersAndLinkFollowTheHost_17 : ∃ (t speed width : Nat) (s : State),
    (Room s) ∧ ((s.dev = stStart ∨ s.running = true)) ∧ (s.power.resetLow = false) ∧ (s.host.linkUp = false) ∧ (bit (s.ro 0x2F03 0x02 5) 8 = false) :=
  ⟨10^15, 4, 4, wRun, by decide +kernel⟩

theorem witness_RingsRegistersAndLinkFollowTheHost_18 : ∃ (t speed width : Nat) (s : State),
    (s.dev = stRecovery) ∧ (s.power.resetLow = false) ∧ (s.host.linkUp = false) ∧ (bit (s.ro 0x2F03 0x02 5) 8 = false) :=
  ⟨10^15, 4, 4, { wRun with power := { wRun.power with state := stRecovery } }, by decide +kernel⟩

theorem witness_RingsRegistersAndLinkFollowTheHost_19 : ∃ (t : Nat) (s : State),
    (s.host.linkUp = true) :=
  ⟨10^15, wExport, by decide +kernel⟩

theorem witness_RingsRegistersAndLinkFollowTheHost_20 : ∃ (t : Nat) (s : State),
    (Room s) ∧ (s.host.linkUp = true) ∧ (s.host.exporting = none) ∧ (s.ro 0x2821 0x02 ≠ 4) :=
  ⟨10^15, wLink, by decide +kernel⟩

theorem witness_RingsRegistersAndLinkFollowTheHost_21 : ∃ (t speed width : Nat) (s : State),
    (s.host.linkUp = true) :=
  ⟨10^15, 4, 4, wLink, by decide +kernel⟩

theorem witness_RingsRegistersAndLinkFollowTheHost_22 : ∃ (t r v : Nat) (b hot : Bool) (c : Instr) (s : State),
    (s.host.linkUp = false) ∧ (c ∈ [.ringEnable t r v b, .ringRdDoorbell t r v, .functionReset t hot, .pcieLinkDown t]) :=
  ⟨10^15, 1, 1, true, true, .functionReset (10^15) true, wRun, by decide +kernel⟩

theorem witness_ClearCommandsClearWhatTheyName_1 : ∃ (t : Nat) (who : Who) (s : State),
    (AcceptedPlain 0x2430 1 who (s.advance t)) :=
  ⟨10^15, .dtls 0, withRo wRun [(0x2410, 5, 3, 9), (0x2120, 1, 3, 9)], by decide +kernel⟩

theorem witness_ClearCommandsClearWhatTheyName_2 : ∃ (t : Nat) (who : Who) (s : State),
    (AcceptedPlain 0x2550 1 who (s.advance t)) :=
  ⟨10^15, .dtls 0, withRo wRun [(0x2540, 11, 2, 9), (0x2120, 1, 3, 9)], by decide +kernel⟩

theorem witness_ClearCommandsClearWhatTheyName_3 : ∃ (t : Nat) (who : Who) (s : State),
    (AcceptedPlain 0x2640 1 who (s.advance t)) :=
  ⟨10^15, .dtls 0, withRo wRun [(0x2621, 7, 3, 9), (0x2120, 1, 3, 9)], by decide +kernel⟩

theorem witness_ClearCommandsClearWhatTheyName_4 : ∃ (t : Nat) (who : Who) (s : State),
    (AcceptedPlain 0x2730 2 who (s.advance t)) :=
  ⟨10^15, .dtls 0, withRo wRun [(0x2720, 5, 3, 9), (0x2120, 1, 3, 9)], by decide +kernel⟩

theorem witness_ClearCommandsClearWhatTheyName_5 : ∃ (t : Nat) (who : Who) (s : State),
    (AcceptedPlain 0x2830 4 who (s.advance t)) :=
  ⟨10^15, .dtls 0, withRo wRun [(0x2804, 2, 3, 9), (0x2120, 1, 3, 9)], by decide +kernel⟩

theorem witness_ClearCommandsClearWhatTheyName_6 : ∃ (t : Nat) (who : Who) (s : State),
    (AcceptedPlain 0x2930 1 who (s.advance t)) :=
  ⟨10^15, .dtls 0, withRo wRun [(0x2921, 5, 3, 9), (0x2120, 1, 3, 9)], by decide +kernel⟩

theorem witness_ClearCommandsClearWhatTheyName_7 : ∃ (t : Nat) (who : Who) (s : State),
    (AcceptedPlain 0x2A30 5 who (s.advance t)) :=
  ⟨10^15, .dtls 0, withRo wRun [(0x2A40, 3, 0, 9), (0x2120, 1, 3, 9)], by decide +kernel⟩

theorem witness_ClearCommandsClearWhatTheyName_8 : ∃ (t : Nat) (who : Who) (s : State),
    (AcceptedPlain 0x2B30 5 who (s.advance t)) :=
  ⟨10^15, .dtls 0, withRo wRun [(0x2B21, 1, 3, 9), (0x2120, 1, 3, 9)], by decide +kernel⟩

theorem witness_ClearCommandsClearWhatTheyName_9 : ∃ (t : Nat) (who : Who) (s : State),
    (AcceptedPlain 0x2C30 1 who (s.advance t)) :=
  ⟨10^15, .dtls 0, withRo wRun [(0x2C10, 1, 3, 9), (0x2120, 1, 3, 9)], by decide +kernel⟩

theorem witness_ClearCommandsClearWhatTheyName_10 : ∃ (t : Nat) (who : Who) (s : State),
    (AcceptedPlain 0x2D30 1 who (s.advance t)) :=
  ⟨10^15, .dtls 0, withRo wRun [(0x2D10, 3, 7, 9), (0x2120, 1, 3, 9)], by decide +kernel⟩

theorem witness_ClearCommandsClearWhatTheyName_11 : ∃ (t : Nat) (who : Who) (s : State),
    (AcceptedPlain 0x2E50 5 who (s.advance t)) :=
  ⟨10^15, .dtls 0, withRo wRun [(0x2E30, 1, 3, 9), (0x2120, 1, 3, 9)], by decide +kernel⟩

theorem witness_ClearCommandsClearWhatTheyName_12 : ∃ (t : Nat) (who : Who) (s : State),
    (AcceptedPlain 0x2F30 4 who (s.advance t)) :=
  ⟨10^15, .dtls 0, withRo wRun [(0x2F20, 4, 3, 9), (0x2120, 1, 3, 9)], by decide +kernel⟩

theorem witness_ClearCommandsClearWhatTheyName_13 : ∃ (t : Nat) (who : Who) (s : State),
    (AcceptedPlain 0x3230 4 who (s.advance t)) :=
  ⟨10^15, .dtls 0, withRo wRun [(0x3220, 5, 3, 9), (0x2120, 1, 3, 9)], by decide +kernel⟩

theorem witness_EventsEnterTheLogInOrder_1 : ∃ (t code source : Nat) (params : List Byte) (s : State),
    (s.powered = true) ∧ (s.dev ≠ stRecovery) ∧ (s.log.fifo.length < fifoDepth) :=
  ⟨10^15, 0x1234, 5, [1], wRun, by decide +kernel⟩

theorem witness_EventsEnterTheLogInOrder_2 : ∃ (t code source : Nat) (params : List Byte) (s : State),
    (s.powered = true) ∧ (s.dev ≠ stRecovery) ∧ (fifoDepth ≤ s.log.fifo.length) :=
  ⟨10^15, 0x1234, 5, [1], wRun.onLog fun l => { l with fifo := List.replicate 1024 ⟨0, false, 1, 0, 0, []⟩ }, by decide +kernel⟩

theorem witness_EventsEnterTheLogInOrder_3 : ∃ (t code source : Nat) (params : List Byte) (s : State),
    ((s.powered = false ∨ s.dev = stRecovery)) :=
  ⟨10^15, 0x1234, 5, [1], { wRun with power := { wRun.power with state := stRecovery } }, by decide +kernel⟩

theorem witness_EventsEnterTheLogInOrder_4 : ∃ (t : Nat) (e : Event) (rest : List Event) (s : State),
    (s.powered = true) ∧ (s.dev ≠ stRecovery) ∧ ((s.dev = stStart → s.power.selfTestPassed = true)) ∧ (s.log.lastWrite + us 1 ≤ max s.now t) ∧ (s.log.fifo = e :: rest) ∧ (s.log.frozenBy = none) ∧ (s.log.droppedInput = 0) ∧ (s.log.droppedHold = 0) ∧ (recording s = true) ∧ (s.log.full = false) ∧ (s.log.fill < 65534) :=
  ⟨10^15, ⟨7, false, 0x2001, 1, 0, []⟩, [], wRun.onLog fun l => { l with fifo := [⟨7, false, 0x2001, 1, 0, []⟩], cursor := 2 ^ 32 - 1, base := 2 ^ 32 - 2 }, by decide +kernel⟩

theorem witness_EventsEnterTheLogInOrder_5 : ∃ (t : Nat) (e : Event) (rest : List Event) (s : State),
    (s.powered = true) ∧ (s.dev ≠ stRecovery) ∧ ((s.dev = stStart → s.power.selfTestPassed = true)) ∧ (s.log.lastWrite + us 1 ≤ max s.now t) ∧ (s.log.fifo = e :: rest) ∧ (s.log.frozenBy = none) ∧ (s.log.droppedInput = 0) ∧ (s.log.droppedHold = 0) ∧ (recording s = true) ∧ (s.log.full = false) ∧ (s.log.base < 2 ^ 32) ∧ (s.log.cursor = (s.log.base + 65534) % 2 ^ 32) :=
  ⟨10^15, ⟨7, false, 0x2001, 1, 0, []⟩, [], wRun.onLog fun l => { l with fifo := [⟨7, false, 0x2001, 1, 0, []⟩], cursor := 65533, base := 2 ^ 32 - 1 }, by decide +kernel⟩

theorem witness_EventsEnterTheLogInOrder_6 : ∃ (t : Nat) (e : Event) (rest : List Event) (k : Nat) (s : State),
    (s.powered = true) ∧ (s.dev ≠ stRecovery) ∧ ((s.dev = stStart → s.power.selfTestPassed = true)) ∧ (s.log.lastWrite + us 1 ≤ max s.now t) ∧ (s.log.fifo = e :: rest) ∧ (s.log.frozenBy = some k) ∧ (s.log.hold.length < holdDepth) :=
  ⟨10^15, ⟨7, false, 0x2001, 1, 0, []⟩, [], 3, wRun.onLog fun l => { l with fifo := [⟨7, false, 0x2001, 1, 0, []⟩], frozenBy := some 3 }, by decide +kernel⟩

theorem witness_EventsEnterTheLogInOrder_7 : ∃ (t : Nat) (e : Event) (rest : List Event) (k : Nat) (s : State),
    (s.powered = true) ∧ (s.dev ≠ stRecovery) ∧ ((s.dev = stStart → s.power.selfTestPassed = true)) ∧ (s.log.lastWrite + us 1 ≤ max s.now t) ∧ (s.log.fifo = e :: rest) ∧ (s.log.frozenBy = some k) ∧ (holdDepth ≤ s.log.hold.length) :=
  ⟨10^15, ⟨7, false, 0x2001, 1, 0, []⟩, [], 3, wRun.onLog fun l => { l with fifo := [⟨7, false, 0x2001, 1, 0, []⟩], frozenBy := some 3, hold := List.replicate 4096 ⟨7, false, 0x2001, 1, 0, []⟩ }, by decide +kernel⟩

theorem witness_EventsEnterTheLogInOrder_8 : ∃ (t : Nat) (e : Event) (rest : List Event) (s : State),
    (s.powered = true) ∧ (s.dev ≠ stRecovery) ∧ ((s.dev = stStart → s.power.selfTestPassed = true)) ∧ (s.log.lastWrite + us 1 ≤ max s.now t) ∧ (s.log.fifo = e :: rest) ∧ (s.log.frozenBy = none) ∧ (s.log.droppedInput ≠ 0) ∧ (recording s = true) ∧ (s.log.full = false) ∧ (s.log.fill < 65534) :=
  ⟨10^15, ⟨7, false, 0x2001, 1, 0, []⟩, [], wRun.onLog fun l => { l with fifo := [⟨7, false, 0x2001, 1, 0, []⟩], cursor := 2 ^ 32 - 1, base := 2 ^ 32 - 2, droppedInput := 7 }, by decide +kernel⟩

theorem witness_EventsEnterTheLogInOrder_9 : ∃ (t : Nat) (e : Event) (rest : List Event) (s : State),
    (s.powered = true) ∧ (s.dev ≠ stRecovery) ∧ ((s.dev = stStart → s.power.selfTestPassed = true)) ∧ (s.log.lastWrite + us 1 ≤ max s.now t) ∧ (s.log.fifo = e :: rest) ∧ (s.log.frozenBy = none) ∧ (s.log.droppedInput = 0) ∧ (s.log.droppedHold = 0) ∧ (recording s = true) ∧ (s.log.full = true) :=
  ⟨10^15, ⟨7, false, 0x2001, 1, 0, []⟩, [], wRun.onLog fun l => { l with fifo := [⟨7, false, 0x2001, 1, 0, []⟩], cursor := 65535, base := 0, full := true }, by decide +kernel⟩

theorem witness_EventsEnterTheLogInOrder_10 : ∃ (t : Nat) (s : State),
    ((s.log.fifo = [] ∨ s.powered = false ∨ s.dev = stRecovery ∨ (s.dev = stStart ∧ s.power.selfTestPassed = false) ∨ (s.log.lastWrite ≠ 0 ∧ max s.now t < s.log.lastWrite + us 1))) :=
  ⟨10^15, wRun.onLog fun l => { l with fifo := [⟨7, false, 0x2001, 1, 0, []⟩], lastWrite := 10 ^ 15 - 999999 }, by decide +kernel⟩

theorem witness_EventsEnterTheLogInOrder_11 : ∃ (t : Nat) (who : Who) (s : State),
    (Accepted 0x2E50 0x02 noRow (.num 1) who (s.advance t)) ∧ (s.log.frozenBy = none) ∧ (recording s = true) ∧ (s.log.full = false) ∧ (s.log.fill < 65534) ∧ (s.log.droppedInput = 0) ∧ (s.log.droppedHold = 0) :=
  ⟨10^15, .dtls 0, wRun, by decide +kernel⟩

theorem witness_EventsEnterTheLogInOrder_12 : ∃ (t : Nat) (who : Who) (s : State),
    (Accepted 0x2E50 0x02 noRow (.num 1) who (s.advance t)) ∧ (s.log.frozenBy = none) :=
  ⟨10^15, .dtls 0, wRun.onLog fun l => { l with full := true }, by decide +kernel⟩

theorem witness_EventsEnterTheLogInOrder_13 : ∃ (t : Nat) (who : Who) (s : State),
    (Accepted 0x2E50 0x02 noRow (.num 1) who (s.advance t)) ∧ (s.log.frozenBy = some (whoRow who)) :=
  ⟨10^15, .dtls 0, wRun.onLog fun l => { l with frozenBy := some (whoRow (.dtls 0)) }, by decide +kernel⟩

theorem witness_EventsEnterTheLogInOrder_14 : ∃ (t k : Nat) (who : Who) (s : State),
    (Accepted 0x2E50 0x02 noRow (.num 1) who (s.advance t)) ∧ (s.log.frozenBy = some k) ∧ (k ≠ whoRow who) :=
  ⟨10^15, 16, .dtls 0, wRun.onLog fun l => { l with frozenBy := some 16 }, by decide +kernel⟩

theorem witness_EventsEnterTheLogInOrder_15 : ∃ (t : Nat) (who : Who) (e : Event) (s : State),
    (Accepted 0x2E50 0x02 noRow (.num 0) who (s.advance t)) ∧ (s.log.frozenBy = some (whoRow who)) ∧ (s.log.hold = [e]) ∧ (s.log.droppedInput = 0) ∧ (s.log.droppedHold = 0) ∧ (recording s = true) ∧ (s.log.full = false) ∧ (s.log.fill < 65533) ∧ (s.log.cursor < 2 ^ 32) :=
  ⟨10^15, .dtls 0, ⟨7, false, 0x2001, 1, 0, []⟩, wRun.onLog fun l => { l with hold := [⟨7, false, 0x2001, 1, 0, []⟩], frozenBy := some (whoRow (.dtls 0)) }, by decide +kernel⟩

theorem witness_EventsEnterTheLogInOrder_16 : ∃ (t : Nat) (who : Who) (s : State),
    (Accepted 0x2E50 0x02 noRow (.num 0) who (s.advance t)) ∧ (s.log.frozenBy = some (whoRow who)) :=
  ⟨10^15, .dtls 0, wRun.onLog fun l => { l with hold := [⟨7, false, 0x2001, 1, 0, []⟩, ⟨7, false, 0x2001, 1, 0, []⟩], frozenBy := some (whoRow (.dtls 0)), droppedHold := 2 }, by decide +kernel⟩

theorem witness_EventsEnterTheLogInOrder_17 : ∃ (t k : Nat) (who : Who) (s : State),
    (Accepted 0x2E50 0x02 noRow (.num 0) who (s.advance t)) ∧ (s.log.frozenBy = some k) ∧ (k ≠ whoRow who) :=
  ⟨10^15, 16, .dtls 0, wRun.onLog fun l => { l with frozenBy := some 16, hold := [⟨7, false, 0x2001, 1, 0, []⟩] }, by decide +kernel⟩

theorem witness_EventsEnterTheLogInOrder_18 : ∃ (t k : Nat) (s : State),
    (s.log.frozenBy = some k) ∧ (s.log.frozenAt + sec (s.cfg 0x2E20 0x0A) ≤ max s.now t) :=
  ⟨10^15 + sec 3600, 0, wRun.onLog fun l => { l with frozenBy := some 0, frozenAt := 10^15, hold := [⟨7, false, 0x2001, 1, 0, []⟩], droppedInput := 1 }, by decide +kernel⟩

theorem witness_EventsEnterTheLogInOrder_19 : ∃ (t : Nat) (s : State),
    ((s.log.frozenBy = none ∨ max s.now t < s.log.frozenAt + sec (s.cfg 0x2E20 0x0A))) :=
  ⟨10^15, wRun.onLog fun l => { l with frozenBy := some 0, frozenAt := 10^15, hold := [⟨7, false, 0x2001, 1, 0, []⟩] }, by decide +kernel⟩

theorem witness_EventsEnterTheLogInOrder_20 : ∃ (t k : Nat) (s : State),
    (s.log.frozenBy = some k) ∧ (s.log.frozenAt + sec (s.cfg 0x2E20 0x0A) ≤ max s.now t) ∧ (s.log.hold = []) ∧ (s.log.droppedInput = 0) ∧ (s.log.droppedHold = 0) ∧ (recording s = true) ∧ (s.log.full = false) ∧ (s.log.fill < 65534) :=
  ⟨10^15 + sec 3600, 0, wRun.onLog fun l => { l with frozenBy := some 0, frozenAt := 10^15 }, by decide +kernel⟩

theorem witness_EventsEnterTheLogInOrder_21 : ∃ (t : Nat) (who : Who) (s : State),
    (AcceptedPlain 0x2E50 0x03 who (s.advance t)) ∧ (s.log.frozenBy = none) ∧ (recording s = true) ∧ (s.log.cursor < 2 ^ 32) :=
  ⟨10^15, .dtls 0, wRun.onLog fun l => { l with entries := [(5, ⟨7, false, 0x2001, 1, 0, []⟩)], cursor := 6, base := 5 }, by decide +kernel⟩

theorem witness_EventsEnterTheLogInOrder_22 : ∃ (t : Nat) (who : Who) (s : State),
    (AcceptedPlain 0x2E50 0x03 who (s.advance t)) ∧ (s.log.frozenBy ≠ none) :=
  ⟨10^15, .dtls 0, wRun.onLog fun l => { l with entries := [(5, ⟨7, false, 0x2001, 1, 0, []⟩)], cursor := 6, base := 5, frozenBy := some 16 }, by decide +kernel⟩

theorem witness_EventsEnterTheLogInOrder_23 : ∃ (t code key : Nat) (w : Window) (s : State),
    (Room s) ∧ ((s.log.windows.find? fun w => w.code == code && w.key == key) = some w) ∧ (w.openedAt + sec 1 ≤ max s.now t) :=
  ⟨10^15, 0x2D03, 2, ⟨0x2D03, 2, 10^15 - sec 1, 4, 0⟩, wRun.onLog fun l => { l with windows := [⟨0x2501, 0, 10^15, 4, 0⟩, ⟨0x2D03, 2, 10^15 - sec 1, 4, 0⟩] }, by decide +kernel⟩

theorem witness_EventsEnterTheLogInOrder_24 : ∃ (t code key : Nat) (s : State),
    ((s.log.windows.all fun w => w.code != code || w.key != key || decide (max s.now t < w.openedAt + sec 1)) = true) :=
  ⟨10^15, 0x2D03, 2, wRun.onLog fun l => { l with windows := [⟨0x2501, 0, 5, 4, 0⟩, ⟨0x2D03, 2, 10^15 - sec 1 + 1, 4, 0⟩] }, by decide +kernel⟩

theorem witness_TheConverterFollowsItsSequence_1 : ∃ (t c raw : Nat) (s : State),
    (hkRuns s = true) ∧ (c < 24) ∧ (s.hk.calibrating = false) :=
  ⟨10^15, 23, 65536, wHk.onHk fun h => { h with wr := 4095, seq := 255 }, by decide +kernel⟩

theorem witness_TheConverterFollowsItsSequence_2 : ∃ (t c raw : Nat) (s : State),
    (hkRuns s = true) ∧ (c < 24) ∧ (s.hk.calibrating = true) :=
  ⟨10^15, 23, 65536, wRun.onHk fun h => { h with calibrating := true }, by decide +kernel⟩

theorem witness_TheConverterFollowsItsSequence_3 : ∃ (t c raw : Nat) (s : State),
    ((hkRuns s = false ∨ 24 ≤ c)) :=
  ⟨10^15, 24, 65536, wHk, by decide +kernel⟩

theorem witness_TheConverterFollowsItsSequence_4 : ∃ (t : Nat) (raw : List Nat) (s : State),
    (hkRuns s = true) ∧ (s.hk.calibrating = false) :=
  ⟨10^15, [1000, 2, 65535], wHk, by decide +kernel⟩

theorem witness_TheConverterFollowsItsSequence_5 : ∃ (t : Nat) (raw : List Nat) (s : State),
    ((hkRuns s = false ∨ s.hk.calibrating = true)) :=
  ⟨10^15, [1000, 2, 65535], wRun.onHk fun h => { h with calibrating := true }, by decide +kernel⟩

theorem witness_TheConverterFollowsItsSequence_6 : ∃ (t : Nat) (raw : List (List Nat)) (s : State),
    (hkRuns s = true) ∧ (s.hk.calibrating = false) ∧ (s.hk.scanUntil ≤ max s.now t) ∧ (raw.flatten ≠ []) ∧ (((scanRows s).map fun n => s.cfg 0x2E02 0x02 n) = raw.map List.length) ∧ (((scanRows s).map fun n => s.cfg 0x2E02 0x01 n).Nodup) :=
  ⟨10^15, [[7], [1000, 1003]], withCfg wHk [(0x2E02, 1, 4, 0), (0x2E02, 1, 31, 15), (0x2E02, 2, 31, 2)], by decide +kernel⟩

theorem witness_TheConverterFollowsItsSequence_7 : ∃ (t : Nat) (raw : List (List Nat)) (s : State),
    (hkRuns s = true) ∧ ((s.hk.calibrating = true ∨ max s.now t < s.hk.scanUntil)) :=
  ⟨10^15, [], wHk.onHk fun h => { h with scanUntil := 10 ^ 15 + 1 }, by decide +kernel⟩

theorem witness_TheConverterFollowsItsSequence_8 : ∃ (t : Nat) (raw : List (List Nat)) (s : State),
    (hkRuns s = false) :=
  ⟨10^15, [], { wRun with power := { wRun.power with state := stRecovery } }, by decide +kernel⟩

theorem witness_TheConverterFollowsItsSequence_9 : ∃ (t : Nat) (s : State),
    ((hkRuns s = false ∨ s.hk.calibrating = true ∨ s.hk.testing ≠ none)) :=
  ⟨10^15, wHk.onHk fun h => { h with testing := some 3 }, by decide +kernel⟩

theorem witness_TheConverterFollowsItsSequence_10 : ∃ (t : Nat) (who : Who) (s : State),
    (AcceptedPlain 0x2E50 0x01 who (s.advance t)) ∧ ((s.hk.calibrating = true ∨ s.hk.testing ≠ none)) :=
  ⟨10^15, .dtls 0, wRun.onHk fun h => { h with calibrating := true }, by decide +kernel⟩

theorem witness_TheConverterFollowsItsSequence_11 : ∃ (t : Nat) (s : State),
    (hkRuns s = true) ∧ (s.hk.calibrating = false) ∧ (s.hk.testing = none) :=
  ⟨10^15, wHk, by decide +kernel⟩

theorem witness_TheConverterFollowsItsSequence_12 : ∃ (t : Nat) (who : Who) (s : State),
    (AcceptedPlain 0x2E50 0x01 who (s.advance t)) ∧ (s.hk.calibrating = false) ∧ (s.hk.testing = none) :=
  ⟨10^15, .dtls 0, wHk, by decide +kernel⟩

theorem witness_TheConverterFollowsItsSequence_13 : ∃ (t : Nat) (ground high : Int) (s : State),
    (Room s) ∧ (s.hk.calibrating = true) ∧ (ground < high) ∧ (ground.natAbs ≤ 65536) ∧ (Q.le (Q.make 98 100) (Q.div (Q.make 5767168 100) (Q.make (high - ground) 256)) = true) ∧ (Q.le (Q.div (Q.make 5767168 100) (Q.make (high - ground) 256)) (Q.make 102 100) = true) :=
  ⟨10^15, 65536, 65536 + 14763950, wRun.onHk fun h => { h with calibrating := true }, by decide +kernel⟩

theorem witness_TheConverterFollowsItsSequence_14 : ∃ (t : Nat) (ground high : Int) (s : State),
    (Room s) ∧ (s.hk.calibrating = true) ∧ ((65536 < ground.natAbs ∨ high ≤ ground ∨ Q.lt (Q.div (Q.make 5767168 100) (Q.make (high - ground) 256)) (Q.make 98 100) = true ∨ Q.lt (Q.make 102 100) (Q.div (Q.make 5767168 100) (Q.make (high - ground) 256)) = true)) :=
  ⟨10^15, 0, 14000000, wRun.onHk fun h => { h with calibrating := true }, by decide +kernel⟩

theorem witness_TheConverterFollowsItsSequence_15 : ∃ (t : Nat) (ground high : Int) (s : State),
    (s.hk.calibrating = false) :=
  ⟨10^15, 0, 14000000, wHk, by decide +kernel⟩

theorem witness_TheConverterFollowsItsSequence_16 : ∃ (t c : Nat) (who : Who) (s : State),
    (c < 16) ∧ (Accepted 0x2E50 0x04 noRow (.num c) who (s.advance t)) ∧ (s.hk.calibrating = false) ∧ (s.hk.testing = none) ∧ (s.rw 0x2E12 0x02 = 0) :=
  ⟨10^15, 15, .dtls 0, wHk, by decide +kernel⟩

theorem witness_TheConverterFollowsItsSequence_17 : ∃ (t c : Nat) (who : Who) (s : State),
    (c < 16) ∧ (Accepted 0x2E50 0x04 noRow (.num c) who (s.advance t)) ∧ ((s.hk.calibrating = true ∨ s.hk.testing ≠ none ∨ s.rw 0x2E12 0x02 ≠ 0)) :=
  ⟨10^15, 15, .dtls 0, withLive wHk [(0x2E12, 2, noRow, 2)], by decide +kernel⟩

theorem witness_TheConverterFollowsItsSequence_18 : ∃ (t c : Nat) (raw : List (List Nat)) (s : State),
    (Room s) ∧ (c < 24) ∧ (s.hk.testing = some c) ∧ (raw.length = 3) ∧ ((raw.all fun l => l.length == 16) = true) :=
  ⟨10^15, 23, [List.replicate 16 6560, List.replicate 8 32768 ++ List.replicate 8 32769, List.replicate 16 58976], wHk.onHk fun h => { h with testing := some 23 }, by decide +kernel⟩

theorem witness_TheConverterFollowsItsSequence_19 : ∃ (t : Nat) (raw : List (List Nat)) (s : State),
    (s.hk.testing = none) :=
  ⟨10^15, [], wHk, by decide +kernel⟩

theorem witness_TheConverterFollowsItsSequence_20 : ∃ (t c : Nat) (s : State),
    (Room s) ∧ (s.running = true) ∧ ((c = 17 ∨ c = 18 ∨ c = 20 ∨ c = 21)) ∧ (10 ≤ (s.hkChan c).faultCount) ∧ ((s.hkChan c).faultActive = false) :=
  ⟨10^15, 21, wRun.setHkChan 21 { (wRun.hkChan 21) with faultCount := 10 }, by decide +kernel⟩

theorem witness_TheConverterFollowsItsSequence_21 : ∃ (t c : Nat) (s : State),
    (Room s) ∧ ((s.running = true ∨ s.dev = stSentinel)) ∧ ((c = 16 ∨ c = 19 ∨ c = 22)) ∧ (10 ≤ (s.hkChan c).faultCount) ∧ ((s.hkChan c).faultActive = false) :=
  ⟨10^15, 16, wRun.setHkChan 16 { (wRun.hkChan 16) with faultCount := 10 }, by decide +kernel⟩

theorem witness_TheConverterFollowsItsSequence_22 : ∃ (t : Nat) (s : State),
    (Room s) ∧ (hkRuns s = true) ∧ (10 ≤ (s.hkChan 23).faultCount) ∧ ((s.hkChan 23).faultActive = false) :=
  ⟨10^15, wRun.setHkChan 23 { (wRun.hkChan 23) with faultCount := 10 }, by decide +kernel⟩

theorem witness_TheConverterFollowsItsSequence_23 : ∃ (t c : Nat) (s : State),
    ((hkRuns s = false ∨ c < 16 ∨ 23 < c ∨ (s.hkChan c).faultCount < 10 ∨ (s.hkChan c).faultActive = true)) :=
  ⟨10^15, 22, wRun.setHkChan 22 { (wRun.hkChan 22) with faultCount := 9 }, by decide +kernel⟩

theorem witness_TheConverterFollowsItsSequence_24 : ∃ (t c : Nat) (s : State),
    (Room s) ∧ (hkRuns s = true) ∧ ((c = 17 ∨ c = 18 ∨ c = 20 ∨ c = 21)) ∧ ((s.dev = stSentinel ∨ s.dev = stSafeTalk)) ∧ (10 ≤ (s.hkChan c).faultCount) ∧ ((s.hkChan c).faultActive = false) :=
  ⟨10^15, 21, { wRun.setHkChan 21 { (wRun.hkChan 21) with faultCount := 10 } with power := { wRun.power with state := stSafeTalk } }, by decide +kernel⟩

theorem witness_ByrdoRestartsAlone_1 : ∃ (t : Nat) (s : State),
    (s.powered = true) ∧ (s.dev ≠ stRecovery) ∧ ((s.log.lastByrdoFault.all fun a => decide (a + sec 60 < max s.now t)) = true) :=
  ⟨10^15, wRun.onLog fun l => { l with lastByrdoFault := some (10^15 - sec 60 - 1), frozenBy := some 0 }, by decide +kernel⟩

theorem witness_ByrdoRestartsAlone_2 : ∃ (t : Nat) (s : State),
    (s.powered = true) ∧ (s.dev ≠ stRecovery) ∧ ((s.log.lastByrdoFault.all fun a => decide (a + sec 60 < max s.now t)) = true) ∧ (inTrial s = false) :=
  ⟨10^15, wRun.onLog fun l => { l with lastByrdoFault := some (10^15 - sec 60 - 1), frozenBy := some 0 }, by decide +kernel⟩

theorem witness_ByrdoRestartsAlone_3 : ∃ (t : Nat) (c : Instr) (s : State),
    (c ∈ [.byrdoLockstepMismatch t, .byrdoWatchdogExpiry t]) ∧ (s.powered = true) ∧ (s.dev ≠ stRecovery) ∧ ((s.log.lastByrdoFault.all fun a => decide (a + sec 60 < max s.now t)) = true) ∧ (inTrial s = false) ∧ (s.log.frozenBy = none) ∧ (s.sets.swap = none) ∧ (s.sets.validating = none) ∧ (s.imian.transfers = []) :=
  ⟨10^15, .byrdoWatchdogExpiry (10^15), wRun, by decide +kernel⟩

theorem witness_ByrdoRestartsAlone_4 : ∃ (t a : Nat) (c : Instr) (s : State),
    (c ∈ [.byrdoLockstepMismatch t, .byrdoWatchdogExpiry t]) ∧ (s.running = true) ∧ (s.power.resetLow = false) ∧ (inTrial s = false) ∧ (s.log.lastByrdoFault = some a) ∧ (max s.now t ≤ a + sec 60) :=
  ⟨10^15, 10^15 - sec 60, .byrdoLockstepMismatch (10^15), wRun.onLog fun l => { l with lastByrdoFault := some (10^15 - sec 60) }, by decide +kernel⟩

theorem witness_ByrdoRestartsAlone_5 : ∃ (t : Nat) (s : State),
    (Room s) ∧ (s.log.byrdoDown = true) :=
  ⟨10^15, wRun.onLog fun l => { l with byrdoDown := true }, by decide +kernel⟩

theorem witness_ByrdoRestartsAlone_6 : ∃ (t : Nat) (s : State),
    (s.running = true) :=
  ⟨10^15, withRo wRun [(0x2540, 1, noRow, 7), (0x2D10, 1, 0, 7)], by decide +kernel⟩

theorem witness_ByrdoRestartsAlone_7 : ∃ (t : Nat) (s : State),
    ((s.powered = false ∨ s.dev = stRecovery)) :=
  ⟨10^15, { wRun with power := { wRun.power with state := stRecovery } }, by decide +kernel⟩

theorem witness_ByrdoRestartsAlone_8 : ∃ (t : Nat) (s : State),
    ((s.powered = false ∨ s.dev = stRecovery)) :=
  ⟨10^15, { wRun with power := { wRun.power with state := stRecovery } }, by decide +kernel⟩

theorem witness_ByrdoRestartsAlone_9 : ∃ (t : Nat) (s : State),
    ((s.log.byrdoDown = false ∨ s.powered = false)) :=
  ⟨10^15, wRun, by decide +kernel⟩

theorem witness_ByrdoRestartsAlone_10 : ∃ (t : Nat) (s : State),
    (s.running = false) :=
  ⟨10^15, wSentinel, by decide +kernel⟩

theorem witness_DeviceStateFollowsR601_1 : ∃ (t : Nat) (s : State),
    (Room s) ∧ (s.dev = stStart) ∧ (s.power.selfTestPassed = true) ∧ (s.power.setLoaded = true) ∧ (s.power.lockWaitOver = true) :=
  ⟨10^15, wStart.onPower fun p => { p with lockWaitOver := true, startCause := 9 }, by decide +kernel⟩

theorem witness_DeviceStateFollowsR601_2 : ∃ (t : Nat) (s : State),
    ((s.dev ≠ stStart ∨ s.powered = false ∨ s.power.selfTestPassed = false ∨ s.power.setLoaded = false ∨ s.power.lockWaitOver = false)) :=
  ⟨10^15, wStart.onPower fun p => { p with lockWaitOver := false }, by decide +kernel⟩

theorem witness_DeviceStateFollowsR601_3 : ∃ (t : Nat) (who : Who) (s : State),
    (AcceptedPlain 0x2F30 0x02 who (s.advance t)) ∧ (s.running = true) :=
  ⟨10^15, .dtls 0, wRun, by decide +kernel⟩

theorem witness_DeviceStateFollowsR601_4 : ∃ (t : Nat) (who : Who) (s : State),
    (AcceptedPlain 0x2F30 0x02 who (s.advance t)) ∧ (s.running = false) :=
  ⟨10^15, .dtls 0, wSentinel, by decide +kernel⟩

theorem witness_DeviceStateFollowsR601_5 : ∃ (t : Nat) (s : State),
    (Room s) ∧ (s.running = true) :=
  ⟨10^15, wRun, by decide +kernel⟩

theorem witness_DeviceStateFollowsR601_6 : ∃ (t : Nat) (s : State),
    (Room s) ∧ (s.running = true) :=
  ⟨10^15, wRun, by decide +kernel⟩

theorem witness_DeviceStateFollowsR601_7 : ∃ (t channel : Nat) (s : State),
    (Room s) ∧ (s.running = true) ∧ (channel < 8) :=
  ⟨10^15, 7, wRun, by decide +kernel⟩

theorem witness_DeviceStateFollowsR601_8 : ∃ (t channel : Nat) (c : Instr) (s : State),
    (s.running = false) ∧ (c ∈ [.cdieFatalError t, .d2dLinkLost t, .packageMemoryLost t channel]) :=
  ⟨10^15, 1, .packageMemoryLost (10^15) 1, wSafe, by decide +kernel⟩

theorem witness_DeviceStateFollowsR601_9 : ∃ (t channel : Nat) (s : State),
    (8 ≤ channel) :=
  ⟨10^15, 8, wRun, by decide +kernel⟩

theorem witness_DeviceStateFollowsR601_10 : ∃ (t : Nat) (who : Who) (s : State),
    (AcceptedPlain 0x2F30 0x03 who (s.advance t)) ∧ (s.dev = stSentinel) ∧ (s.power.restart = none) ∧ (faultHolds s = false) :=
  ⟨10^15, .dtls 0, wSentinel, by decide +kernel⟩

theorem witness_DeviceStateFollowsR601_11 : ∃ (t : Nat) (who : Who) (s : State),
    (AcceptedPlain 0x2F30 0x03 who (s.advance t)) ∧ ((s.dev ≠ stSentinel ∨ s.power.restart ≠ none ∨ faultHolds s = true)) :=
  ⟨10^15, .dtls 0, wSentinel.onPower fun p => { p with restart := some 1 }, by decide +kernel⟩

theorem witness_DeviceStateFollowsR601_12 : ∃ (t : Nat) (s : State),
    (s.dev = stSentinel) ∧ (s.powered = true) ∧ (s.power.restart = none) ∧ (s.power.sentinelByCommand = false) ∧ (s.cfgB 0x2F01 0x01 = true) ∧ (causeCleared (s.advance t) = true) ∧ ((recentRestarts (s.advance t)).length < s.cfg 0x2F01 0x02) :=
  ⟨10^15, withCfg wSentinel [(0x2F01, 1, noRow, 1), (0x2F01, 2, noRow, 3)], by decide +kernel⟩

theorem witness_DeviceStateFollowsR601_13 : ∃ (t : Nat) (s : State),
    (Room s) ∧ (s.dev = stSentinel) ∧ (s.power.restart = none) ∧ (s.power.sentinelByCommand = false) ∧ (s.cfgB 0x2F01 0x01 = true) ∧ (causeCleared (s.advance t) = true) ∧ (s.cfg 0x2F01 0x02 ≤ (recentRestarts (s.advance t)).length) ∧ (s.power.limitReported = false) :=
  ⟨10^15, withCfg (wSentinel.onPower fun p => { p with restarts := [10^15 - 1, 10^15 - 1, 10^15 - 1] }) [(0x2F01, 1, noRow, 1), (0x2F01, 2, noRow, 3)], by decide +kernel⟩

theorem witness_DeviceStateFollowsR601_14 : ∃ (t : Nat) (s : State),
    ((s.dev ≠ stSentinel ∨ s.powered = false ∨ s.power.restart ≠ none ∨ s.power.sentinelByCommand = true ∨ s.cfgB 0x2F01 0x01 = false ∨ causeCleared (s.advance t) = false ∨ (s.cfg 0x2F01 0x02 ≤ (recentRestarts (s.advance t)).length ∧ s.power.limitReported = true))) :=
  ⟨10^15, withCfg wSentinel [(0x2F01, 1, noRow, 0)], by decide +kernel⟩

theorem witness_DeviceStateFollowsR601_15 : ∃ (t k : Nat) (s : State),
    (Room s) ∧ (s.dev = stSentinel) ∧ (s.power.restart = some k) ∧ (s.place.restoreRetired = false) :=
  ⟨10^15, 1, wSentinel.onPower fun p => { p with restart := some 1, cdieOn := true }, by decide +kernel⟩

theorem witness_DeviceStateFollowsR601_16 : ∃ (t k : Nat) (failed : List (Nat × Nat)) (s : State),
    (Room s) ∧ (s.dev = stSentinel) ∧ (s.power.restart = some k) ∧ (s.place.restoreRetired = false) ∧ ((failed.all fun e => e.1 != 8 || decide (68 ≤ e.2)) = true) ∧ ((failed.any fun e => e.1 == 7 || e.1 == 8 || e.1 == 9) = true) :=
  ⟨10^15, 4, [(9, 0), (8, 68)], wSentinel.onPower fun p => { p with restart := some 4, cdieOn := true }, by decide +kernel⟩

theorem witness_DeviceStateFollowsR601_17 : ∃ (t : Nat) (failed : List (Nat × Nat)) (s : State),
    ((s.power.restart = none ∨ s.dev ≠ stSentinel)) :=
  ⟨10^15, [(9, 0)], wSentinel, by decide +kernel⟩

theorem witness_DeviceStateFollowsR601_18 : ∃ (t : Nat) (s : State),
    ((s.dev ≠ stSafeTalk ∨ s.powered = false ∨ s.power.cause ≠ 8 ∨ s.cfgB 0x2F01 0x04 = false ∨ causeCleared (s.advance t) = false)) :=
  ⟨10^15, withCfg wSafe [(0x2F01, 4, noRow, 0)], by decide +kernel⟩

theorem witness_DeviceStateFollowsR601_19 : ∃ (t : Nat) (s : State),
    (s.dev = stSafeTalk) ∧ (s.powered = true) ∧ (s.power.cause = 8) ∧ (s.cfgB 0x2F01 0x04 = true) ∧ (causeCleared (s.advance t) = true) ∧ (bankTrial s.keys.bankWord = false) ∧ (s.keys.bankA.valid = true) :=
  ⟨10^15, withCfg wSafe [(0x2F01, 4, noRow, 1)], by decide +kernel⟩

theorem witness_ResetAndSupplyFollowR708_1 : ∃ (t width : Nat) (s : State),
    (s.powered = true) ∧ (10000 ≤ width) :=
  ⟨10^15, 10000, wRun, by decide +kernel⟩

theorem witness_ResetAndSupplyFollowR708_2 : ∃ (t width : Nat) (s : State),
    (width < 1000) :=
  ⟨10^15, 999, wRun, by decide +kernel⟩

theorem witness_ResetAndSupplyFollowR708_3 : ∃ (t width : Nat) (s : State),
    (s.powered = true) ∧ (1000 ≤ width) ∧ (width < 10000) :=
  ⟨10^15, 1000, wRun, by decide +kernel⟩

theorem witness_ResetAndSupplyFollowR708_4 : ∃ (t : Nat) (b : Bool) (s : State),
    (s.power.resetLow = false) :=
  ⟨10^15, true, wRun, by decide +kernel⟩

theorem witness_ResetAndSupplyFollowR708_5 : ∃ (t : Nat) (s : State),
    (s.power.resetLow = true) ∧ (bankTrial s.keys.bankWord = false) ∧ (s.keys.bankA.valid = true) :=
  ⟨10^15, wHeld, by decide +kernel⟩

theorem witness_ResetAndSupplyFollowR708_6 : ∃ (t : Nat) (s : State),
    (s.power.resetLow = true) ∧ (bankTrial s.keys.bankWord = false) ∧ (s.keys.bankA.valid = true) :=
  ⟨10^15, wHeld, by decide +kernel⟩

theorem witness_ResetAndSupplyFollowR708_7 : ∃ (t d : Nat) (averages : List (Nat × Nat)) (s : State),
    (Room s) ∧ (testing s = true) ∧ (inTrial s = false) ∧ (s.keys.locked = false) ∧ (s.life ≠ 4) ∧ (modulatorsFailed s averages = 0) :=
  ⟨10^15, 5000, [], wTest, by decide +kernel⟩

theorem witness_ResetAndSupplyFollowR708_8 : ∃ (t d : Nat) (averages : List (Nat × Nat)) (s : State),
    (Room s) ∧ (testing s = true) ∧ (inTrial s = false) ∧ (s.keys.locked = false) ∧ (s.life ≠ 4) ∧ (modulatorsFailed s averages ≠ 0) :=
  ⟨10^15, 5000, [], withLive wTest [(0x2F04, 1, noRow, 1), (0x2F04, 2, 0, 0x3F800000)], by decide +kernel⟩

theorem witness_ResetAndSupplyFollowR708_9 : ∃ (t d : Nat) (averages : List (Nat × Nat)) (s : State),
    (Room s) ∧ (testing s = true) ∧ (inTrial s = false) ∧ (s.keys.locked = false) ∧ (s.life ≠ 4) :=
  ⟨10^15, 5000, [], wTest, by decide +kernel⟩

theorem witness_ResetAndSupplyFollowR708_10 : ∃ (t d i : Nat) (averages : List (Nat × Nat)) (s : State),
    (Room s) ∧ (testing s = true) ∧ (inTrial s = false) ∧ (s.keys.locked = false) ∧ (s.life ≠ 4) ∧ ((i = 7 ∨ i = 9)) :=
  ⟨10^15, 5000, 7, [], wTest, by decide +kernel⟩

theorem witness_ResetAndSupplyFollowR708_11 : ∃ (t d part : Nat) (averages : List (Nat × Nat)) (s : State),
    (Room s) ∧ (testing s = true) ∧ (inTrial s = false) ∧ (s.keys.locked = false) ∧ (s.life ≠ 4) ∧ (otherBank s = none) :=
  ⟨10^15, 5000, 2, [], wTest, by decide +kernel⟩

theorem witness_ResetAndSupplyFollowR708_12 : ∃ (t d i : Nat) (averages : List (Nat × Nat)) (s : State),
    (testing s = true) ∧ (inTrial s = true) ∧ (s.keys.locked = false) ∧ (s.life ≠ 4) ∧ (i ∈ [1, 2, 3, 7, 9]) ∧ ((s.keys.bankA.valid || s.keys.bankB.valid) = true) :=
  ⟨10^15, 5000, 9, [], wTest.onKeys fun k => { k with bankWord := 2 ^ 16 + 256 + 1, bankB := { Bank.reset with valid := true } }, by decide +kernel⟩

theorem witness_ResetAndSupplyFollowR708_13 : ∃ (t d fallback : Nat) (failed averages : List (Nat × Nat)) (s : State),
    (testing s = false) :=
  ⟨10^15, 5000, 0, [(1, 0)], [], wRun, by decide +kernel⟩

theorem witness_ResetAndSupplyFollowR708_14 : ∃ (s : State),
    (refusesStart (validateSet s.sets.stored s) = false) :=
  ⟨wTest, by decide +kernel⟩

theorem witness_ResetAndSupplyFollowR708_15 : ∃ (t : Nat) (who : Who) (s : State),
    (AcceptedPlain 0x2F30 0x01 who (s.advance t)) ∧ (kennelAdmitted s = true) ∧ (s.power.vbat = true) :=
  ⟨10^15, .dtls 0, wRun, by decide +kernel⟩

theorem witness_ResetAndSupplyFollowR708_16 : ∃ (t : Nat) (who : Who) (s : State),
    (AcceptedPlain 0x2F30 0x01 who (s.advance t)) ∧ (kennelAdmitted s = true) ∧ (s.power.vbat = false) :=
  ⟨10^15, .dtls 0, wSafe.onPower fun p => { p with vbat := false }, by decide +kernel⟩

theorem witness_ResetAndSupplyFollowR708_17 : ∃ (t : Nat) (who : Who) (s : State),
    (AcceptedPlain 0x2F30 0x01 who (s.advance t)) ∧ (kennelAdmitted s = false) :=
  ⟨10^15, .dtls 0, wStart, by decide +kernel⟩

theorem witness_ResetAndSupplyFollowR708_18 : ∃ (t : Nat) (s : State),
    (s.dev ≠ stOff) ∧ (s.dev ≠ stKennel) ∧ (s.power.vbat = true) :=
  ⟨10^15, wRun, by decide +kernel⟩

theorem witness_ResetAndSupplyFollowR708_19 : ∃ (t : Nat) (s : State),
    (s.dev ≠ stOff) ∧ (s.dev ≠ stKennel) ∧ (s.power.vbat = false) :=
  ⟨10^15, wRun.onPower fun p => { p with vbat := false }, by decide +kernel⟩

theorem witness_ResetAndSupplyFollowR708_20 : ∃ (t : Nat) (s : State),
    (s.dev = stKennel) ∧ (s.power.vbat = true) :=
  ⟨10^15, wKennel, by decide +kernel⟩

theorem witness_ResetAndSupplyFollowR708_21 : ∃ (t : Nat) (s : State),
    (s.dev = stOff) :=
  ⟨10^15, { State.reset with power := { PowerSt.reset with state := 0 } }, by decide +kernel⟩

theorem witness_ResetAndSupplyFollowR708_22 : ∃ (t : Nat) (s : State),
    (s.dev ≠ stOff) ∧ (s.dev ≠ stKennel) :=
  ⟨10^15, wRun, by decide +kernel⟩

theorem witness_ResetAndSupplyFollowR708_23 : ∃ (t : Nat) (s : State),
    (s.dev = stKennel) ∧ ((s.power.wake.all fun w => decide (w.stage < 2) || w.discharging) = true) :=
  ⟨10^15, wWake 2 1 false, by decide +kernel⟩

theorem witness_ResetAndSupplyFollowR708_24 : ∃ (t : Nat) (w : Wake) (s : State),
    (s.dev = stKennel) ∧ (s.power.wake = some w) ∧ (2 ≤ w.stage) ∧ (w.discharging = false) :=
  ⟨10^15, ⟨1, 1, 2, false, 0, 0⟩, wWake 1 2 false, by decide +kernel⟩

theorem witness_ResetAndSupplyFollowR708_25 : ∃ (t : Nat) (s : State),
    (Room s) ∧ (s.power.pfwLow = false) :=
  ⟨10^15, wRun, by decide +kernel⟩

theorem witness_ResetAndSupplyFollowR708_26 : ∃ (t : Nat) (s : State),
    ((s.power.pfwLow = true ∨ s.dev = stOff)) :=
  ⟨10^15, wRun.onPower fun p => { p with pfwLow := true }, by decide +kernel⟩

theorem witness_ResetAndSupplyFollowR708_27 : ∃ (t : Nat) (s : State),
    (Room s) ∧ (s.power.pfwLow = true) :=
  ⟨10^15, wRun.onPower fun p => { p with pfwLow := true }, by decide +kernel⟩

theorem witness_ResetAndSupplyFollowR708_28 : ∃ (t : Nat) (s : State),
    (s.power.pfwLow = false) :=
  ⟨10^15, wRun, by decide +kernel⟩

theorem witness_WakeFollowsR611_1 : ∃ (t rtc : Nat) (good vbat : Bool) (s : State),
    (s.dev = stOff) ∧ (s.power.wake = none) :=
  ⟨10^15, 5, true, false, { State.reset with power := { PowerSt.reset with state := 0 } }, by decide +kernel⟩

theorem witness_WakeFollowsR611_2 : ∃ (t source rtc : Nat) (good vbat : Bool) (s : State),
    (s.dev = stKennel) ∧ ((source = 1 ∨ source = 3)) ∧ (bit (s.rw 0x2F00 0x02) (source - 1) = true) ∧ (s.power.wake = none) ∧ (s.power.mainSupply = true) ∧ (s.power.pfwLow = false) :=
  ⟨10^15, 1, 5, false, true, withLive wKennel [(0x2F00, 2, noRow, 5)], by decide +kernel⟩

theorem witness_WakeFollowsR611_3 : ∃ (t source rtc : Nat) (good vbat : Bool) (s : State),
    (s.dev = stKennel) ∧ ((source = 1 ∨ source = 2 ∨ source = 3)) ∧ (bit (s.rw 0x2F00 0x02) (source - 1) = false) ∧ (s.power.wake = none) :=
  ⟨10^15, 2, 5, false, true, withLive wKennel [(0x2F00, 2, noRow, 5)], by decide +kernel⟩

theorem witness_WakeFollowsR611_4 : ∃ (t source rtc : Nat) (good vbat : Bool) (w : Wake) (s : State),
    (s.dev = stKennel) ∧ (source ∈ [1, 2, 3, 4]) ∧ (s.power.wake = some w) ∧ (1 ≤ w.stage) :=
  ⟨10^15, 4, 5, false, true, ⟨1, 3, 1, false, 0, 0⟩, wWake 3 1 false, by decide +kernel⟩

theorem witness_WakeFollowsR611_5 : ∃ (t rtc : Nat) (good vbat : Bool) (s : State),
    (s.dev = stKennel) ∧ (bit (s.rw 0x2F00 0x02) 3 = true) ∧ (s.power.wake = none) :=
  ⟨10^15, 5, true, true, withLive wKennel [(0x2F00, 2, noRow, 8)], by decide +kernel⟩

theorem witness_WakeFollowsR611_6 : ∃ (t source rtc : Nat) (good vbat : Bool) (s : State),
    (s.dev = stKennel) ∧ ((source = 1 ∨ source = 3)) ∧ (bit (s.rw 0x2F00 0x02) (source - 1) = true) ∧ (s.power.wake = none) ∧ (s.power.mainSupply = true) ∧ (s.power.pfwLow = true) :=
  ⟨10^15, 3, 5, true, true, withLive (wKennel.onPower fun p => { p with pfwLow := true }) [(0x2F00, 2, noRow, 4)], by decide +kernel⟩

theorem witness_WakeFollowsR611_7 : ∃ (t : Nat) (w : Wake) (s : State),
    (s.dev = stKennel) ∧ (s.power.wake = some w) ∧ (w.stage = 0) ∧ (s.power.pfwLow = true) ∧ (s.power.mainSupply = true) :=
  ⟨10^15, ⟨3, 1, 0, false, 0, 0⟩, wKennel.onPower fun p => { p with pfwLow := true, wake := some ⟨3, 1, 0, false, 0, 0⟩ }, by decide +kernel⟩

theorem witness_WakeFollowsR611_8 : ∃ (t source rtc : Nat) (good vbat : Bool) (s : State),
    (s.dev = stSentinel) ∧ (s.powered = true) ∧ (s.power.sentinelByCommand = true) ∧ (s.power.restart = none) ∧ ((source = 1 ∨ source = 5)) ∧ (bit (s.rw 0x2F00 0x02) (source - 1) = true) :=
  ⟨10^15, 5, 7, true, true, withLive (wSentinel.onPower fun p => { p with sentinelByCommand := true }) [(0x2F00, 2, noRow, 16)], by decide +kernel⟩

theorem witness_WakeFollowsR611_9 : ∃ (t rtc : Nat) (good vbat : Bool) (s : State),
    (s.dev = stSentinel) ∧ (s.powered = true) ∧ (s.power.sentinelByCommand = true) ∧ (s.power.restart = none) ∧ (bit (s.rw 0x2F00 0x02) 1 = true) ∧ (s.rw 0x2F00 0x03 ≠ 0) ∧ (s.rw 0x2F00 0x03 * 32768 ≤ (rtc % 2 ^ 48 + 2 ^ 48 - s.power.enteredRtc) % 2 ^ 48) :=
  ⟨10^15, 65536, true, true, withLive (wSentinel.onPower fun p => { p with sentinelByCommand := true }) [(0x2F00, 2, noRow, 2), (0x2F00, 3, noRow, 2)], by decide +kernel⟩

theorem witness_WakeFollowsR611_10 : ∃ (t source rtc : Nat) (good vbat : Bool) (s : State),
    (((s.dev = stOff ∧ source ≠ 0) ∨ (s.dev = stKennel ∧ (source = 0 ∨ 4 < source)) ∨ (s.dev = stSentinel ∧ (s.power.sentinelByCommand = false ∨ s.power.restart ≠ none ∨ source ∈ [0, 3, 4])) ∨ s.running = true ∨ s.dev = stStart ∨ s.dev = stSafeTalk ∨ s.dev = stRecovery)) :=
  ⟨10^15, 1, 7, true, true, withLive wSentinel [(0x2F00, 2, noRow, 1)], by decide +kernel⟩

theorem witness_WakeFollowsR611_11 : ∃ (t m : Nat) (r rec : Bool) (w : Wake) (s : State),
    (s.power.wake = some w) ∧ (1 ≤ w.stage) ∧ (w.stage ≤ 3) ∧ (w.discharging = false) ∧ (m &&& requiredBits w.stage = requiredBits w.stage) ∧ ((if s.power.record.mode = 0 then decide (w.stageAt + us (s.ro 0x2F00 0x04 (w.stage - 1)) * 2 ^ (w.attempt - 1) ≤ max s.now t) else r) = true) :=
  ⟨10^15, 0x1F, false, true, ⟨1, 3, 1, false, 0, 0⟩, wWake 3 1 false, by decide +kernel⟩

theorem witness_WakeFollowsR611_12 : ∃ (t m : Nat) (r : Bool) (w : Wake) (s : State),
    (s.power.wake = some w) ∧ (w.stage = 4) ∧ (w.discharging = false) ∧ (m &&& requiredBits 4 = requiredBits 4) ∧ ((if s.power.record.mode = 0 then decide (w.stageAt + us (s.ro 0x2F00 0x04 3) * 2 ^ (w.attempt - 1) ≤ max s.now t) else r) = true) ∧ (bankTrial s.keys.bankWord = false) ∧ (s.keys.bankA.valid = true) ∧ (s.power.resetLow = false) :=
  ⟨10^15, 0x80, false, ⟨1, 3, 4, false, 0, 0⟩, wWake 3 4 false, by decide +kernel⟩

theorem witness_WakeFollowsR611_13 : ∃ (t m : Nat) (r : Bool) (w : Wake) (s : State),
    (s.power.wake = some w) ∧ (w.stage = 4) ∧ (w.discharging = false) ∧ (m &&& requiredBits 4 = requiredBits 4) ∧ ((if s.power.record.mode = 0 then decide (w.stageAt + us (s.ro 0x2F00 0x04 3) * 2 ^ (w.attempt - 1) ≤ max s.now t) else r) = true) :=
  ⟨10^15, 0x80, false, ⟨1, 3, 4, false, 0, 0⟩, wWake 3 4 false, by decide +kernel⟩

theorem witness_WakeFollowsR611_14 : ∃ (t m : Nat) (r rec : Bool) (w : Wake) (s : State),
    (s.power.wake = some w) ∧ (1 ≤ w.stage) ∧ (w.stage ≤ 4) ∧ (w.discharging = false) ∧ ((m &&& requiredBits w.stage ≠ requiredBits w.stage ∨ (s.power.record.mode ≠ 0 ∧ r = false))) ∧ (w.stageAt + (if s.power.record.mode = 0 then us (s.ro 0x2F00 0x04 (w.stage - 1)) else ms (s.ro 0x2F00 0x05 (w.stage - 1))) * 2 ^ (w.attempt - 1) ≤ max s.now t) :=
  ⟨10^15, 0x1E, true, true, ⟨1, 3, 1, false, 0, 0⟩, wWake 3 1 false, by decide +kernel⟩

theorem witness_WakeFollowsR611_15 : ∃ (t m : Nat) (r rec : Bool) (s : State),
    ((s.power.wake.all fun w => w.stage == 0 || w.discharging || (decide (max s.now t < w.stageAt + (if s.power.record.mode = 0 then us (s.ro 0x2F00 0x04 (w.stage - 1)) else ms (s.ro 0x2F00 0x05 (w.stage - 1))) * 2 ^ (w.attempt - 1)) && (s.power.record.mode == 0 || !r))) = true) :=
  ⟨1, 0x1E, true, true, { wWake 1 1 false with now := 1 }, by decide +kernel⟩

theorem witness_WakeFollowsR611_16 : ∃ (t : Nat) (w : Wake) (s : State),
    (s.power.wake = some w) ∧ (w.discharging = true) ∧ (w.stageAt + ms 10 ≤ max s.now t) ∧ (w.attempt < 3) :=
  ⟨10^15, ⟨1, 2, 1, true, 0, 0⟩, wWake 2 1 true, by decide +kernel⟩

theorem witness_WakeFollowsR611_17 : ∃ (t : Nat) (w : Wake) (s : State),
    (s.power.wake = some w) ∧ (w.discharging = true) ∧ (w.stageAt + ms 10 ≤ max s.now t) ∧ (3 ≤ w.attempt) :=
  ⟨10^15, ⟨1, 3, 1, true, 0, 0⟩, wWake 3 1 true, by decide +kernel⟩

theorem witness_WakeFollowsR611_18 : ∃ (t : Nat) (s : State),
    ((s.power.wake.all fun w => !w.discharging || decide (max s.now t < w.stageAt + ms 10)) = true) :=
  ⟨10^15, wWake 3 1 false, by decide +kernel⟩

theorem witness_ShepherdFollowsR631_1 : ∃ (t : Nat) (s : State),
    (Room s) ∧ (shepherdState s = 1) ∧ (shepherdReady (s.advance t) = true) :=
  ⟨10^15, wSheep 1, by decide +kernel⟩

theorem witness_ShepherdFollowsR631_2 : ∃ (t : Nat) (s : State),
    ((shepherdState s ≠ 1 ∨ shepherdReady (s.advance t) = false)) :=
  ⟨10^15, wSheep 2, by decide +kernel⟩

theorem witness_ShepherdFollowsR631_3 : ∃ (t cause : Nat) (s : State),
    (Room s) ∧ (shepherdOn s = true) ∧ (s.gdieOn = true) ∧ ((cause = 1 → inTrial s = false)) :=
  ⟨10^15, 1, wSheep 2, by decide +kernel⟩

theorem witness_ShepherdFollowsR631_4 : ∃ (t cause : Nat) (s : State),
    (shepherdOn s = false) :=
  ⟨10^15, 1, wSheep 3, by decide +kernel⟩

theorem witness_ShepherdFollowsR631_5 : ∃ (t p : Nat) (s : State),
    (p < 8) ∧ (s.cfg 0x2700 0x01 p = 1) ∧ (shepherdPinCause (s.advance t) p = 0) :=
  ⟨10^15, 3, wSheep 2, by decide +kernel⟩

theorem witness_ShepherdFollowsR631_6 : ∃ (t p : Nat) (s : State),
    (p < 8) ∧ (s.cfg 0x2700 0x01 p = 1) ∧ (shepherdPinCause (s.advance t) p ≠ 0) ∧ (s.ro 0x2711 0x01 p = 0) :=
  ⟨10^15, 3, withRo (wSheep 3) [(0x2711, 1, 3, 0)], by decide +kernel⟩

theorem witness_ShepherdFollowsR631_7 : ∃ (t p : Nat) (s : State),
    ((8 ≤ p ∨ s.cfg 0x2700 0x01 p ≠ 1)) :=
  ⟨10^15, 4, wSheep 2, by decide +kernel⟩

theorem witness_KeyUpdatesTakeEffectAsR648_1 : ∃ (t : Nat) (who : Who) (s : State),
    (AcceptedPlain 0x3030 0x01 who (s.advance t)) ∧ (Room s) ∧ (s.keys.lifePending = none) :=
  ⟨10^15, .dtls 0, wRun, by decide +kernel⟩

theorem witness_KeyUpdatesTakeEffectAsR648_2 : ∃ (m : List Byte) (s : State),
    (msgType m = 3) :=
  ⟨wKeyMsg 3 1023 [], wRun.onKeys fun k => { k with blobs := [(1023, ⟨[], []⟩)] }, by decide +kernel⟩

theorem witness_KeyUpdatesTakeEffectAsR648_3 : ∃ (m : List Byte) (s : State),
    (msgType m = 4) :=
  ⟨wKeyMsg 4 0 [1, 2], wRun, by decide +kernel⟩

theorem witness_KeyUpdatesTakeEffectAsR648_4 : ∃ (m key : List Byte) (i : Nat) (s : State),
    (msgType m = 5) ∧ (freeSlot s = some i) ∧ (lookup (msgSigner m) s.keys.owners = some (key, false)) :=
  ⟨wKeyMsg 5 0 [1, 2], [3], 2, wRun.onKeys fun k => { k with owners := [(0, ([3], false)), (1, ([4], true))] }, by decide +kernel⟩

theorem witness_KeyUpdatesTakeEffectAsR648_5 : ∃ (m : List Byte) (s : State),
    (msgType m = 6) :=
  ⟨wKeyMsg 6 0 [], wRun.onKeys fun k => { k with locked := true }, by decide +kernel⟩

theorem witness_KeyUpdatesTakeEffectAsR648_6 : ∃ (m : List Byte) (s : State),
    (7 ≤ msgType m) :=
  ⟨wKeyMsg 9 0 [], wRun, by decide +kernel⟩

theorem witness_KeyUpdatesTakeEffectAsR648_7 : ∃ (t input : Nat) (s : State),
    (Room s) ∧ (s.cfg 0x3000 0x02 = 1) ∧ (s.keys.locked = false) :=
  ⟨10^15, 1, withCfg wRun [(0x3000, 2, noRow, 1)], by decide +kernel⟩

theorem witness_KeyUpdatesTakeEffectAsR648_8 : ∃ (t input : Nat) (s : State),
    (Room s) ∧ ((s.cfg 0x3000 0x02 = 0 ∨ s.keys.locked = true)) :=
  ⟨10^15, 1, withCfg wRun [(0x3000, 2, noRow, 0)], by decide +kernel⟩

theorem witness_KeyUpdatesTakeEffectAsR648_9 : ∃ (t input : Nat) (s : State),
    (s.dev = stOff) :=
  ⟨10^15, 1, { State.reset with power := { PowerSt.reset with state := 0 } }, by decide +kernel⟩

theorem witness_KeyUpdatesTakeEffectAsR648_10 : ∃ (t input : Nat) (s : State),
    (s.dev = stKennel) ∧ (s.cfg 0x3000 0x02 = 1) ∧ (s.keys.locked = false) ∧ (s.power.tamperReport = none) :=
  ⟨10^15, 1, withCfg wKennel [(0x3000, 2, noRow, 1)], by decide +kernel⟩

theorem witness_KeyUpdatesTakeEffectAsR648_11 : ∃ (t : Nat) (who : Who) (nonce : List Byte) (s : State),
    (Accepted 0x3002 0x01 noRow (.oct nonce) who (s.advance t)) ∧ (attests s = true) ∧ (s.keys.signing = none) :=
  ⟨10^15, .dtls 0, List.replicate 32 5, wRun, by decide +kernel⟩

theorem witness_KeyUpdatesTakeEffectAsR648_12 : ∃ (t : Nat) (who : Who) (nonce : List Byte) (s : State),
    (Accepted 0x3002 0x01 noRow (.oct nonce) who (s.advance t)) ∧ (attests s = false) :=
  ⟨10^15, .dtls 0, List.replicate 32 5, wRun.onKeys fun k => { k with locked := true }, by decide +kernel⟩

theorem witness_KeyUpdatesTakeEffectAsR648_13 : ∃ (t : Nat) (who : Who) (nonce : List Byte) (s : State),
    (Accepted 0x3002 0x01 noRow (.oct nonce) who (s.advance t)) ∧ (attests s = true) ∧ (s.keys.signing ≠ none) :=
  ⟨10^15, .dtls 0, List.replicate 32 5, wRun.onKeys fun k => { k with signing := some [] }, by decide +kernel⟩

theorem witness_KeyUpdatesTakeEffectAsR648_14 : ∃ (t : Nat) (s : State),
    (s.keys.signing = none) :=
  ⟨10^15, wRun, by decide +kernel⟩

theorem witness_KeyUpdatesTakeEffectAsR648_15 : ∃ (t : Nat) (nonce : List Byte) (s : State),
    (s.keys.signing = some nonce) :=
  ⟨10^15, List.replicate 32 5, wRun.onKeys fun k => { k with signing := some (List.replicate 32 5) }, by decide +kernel⟩

theorem witness_UpdatesFollowTheBankWord_1 : ∃ (t : Nat) (who : Who) (s : State),
    (AcceptedPlain 0x3130 0x01 who (s.advance t)) ∧ ((updateState s = 1 ∨ updateState s = 2)) :=
  ⟨10^15, .dtls 0, withRo wRun [(0x3111, 1, noRow, 2)], by decide +kernel⟩

theorem witness_UpdatesFollowTheBankWord_2 : ∃ (t : Nat) (who : Who) (s : State),
    (AcceptedPlain 0x3130 0x01 who (s.advance t)) ∧ (updateState s ≠ 1) ∧ (updateState s ≠ 2) :=
  ⟨10^15, .dtls 0, wRun, by decide +kernel⟩

theorem witness_UpdatesFollowTheBankWord_3 : ∃ (t : Nat) (who : Who) (s : State),
    (AcceptedPlain 0x3130 0x02 who (s.advance t)) ∧ ((updateState s ≠ 2 ∨ (s.imian.transfers.any fun x => x.key == imageKey) = true ∨ (s.dev ≠ stRecovery ∧ (s.sets.swap ≠ none ∨ shadowBusy s = true)))) :=
  ⟨10^15, .dtls 0, wRun, by decide +kernel⟩

theorem witness_UpdatesFollowTheBankWord_4 : ∃ (t : Nat) (who : Who) (s : State),
    (AcceptedPlain 0x3130 0x03 who (s.advance t)) ∧ (inTrial s = false) :=
  ⟨10^15, .dtls 0, wRun, by decide +kernel⟩

theorem witness_UpdatesFollowTheBankWord_5 : ∃ (t : Nat) (who : Who) (s : State),
    (AcceptedPlain 0x3130 0x04 who (s.advance t)) ∧ (inTrial s = false) :=
  ⟨10^15, .dtls 0, wRun, by decide +kernel⟩

theorem witness_UpdatesFollowTheBankWord_6 : ∃ (t : Nat) (s : State),
    ((inTrial s = false ∨ (s.keys.trialUntil.all fun a => decide (max s.now t < a)) = true)) :=
  ⟨10^15, wTrial.onKeys fun k => { k with trialUntil := some (10 ^ 15 + 1) }, by decide +kernel⟩

theorem witness_UpdatesFollowTheBankWord_7 : ∃ (t : Nat) (who : Who) (s : State),
    (AcceptedPlain 0x3130 0x02 who (s.advance t)) ∧ (updateState s = 2) ∧ ((s.imian.transfers.any fun x => x.key == imageKey) = false) ∧ (s.sets.swap = none) ∧ (shadowBusy s = false) ∧ ((s.keys.bankA.valid || s.keys.bankB.valid) = true) ∧ (bankActive s.keys.bankWord ≤ 1) :=
  ⟨10^15, .dtls 0, withRo (wRun.onKeys fun k => { k with bankB := { Bank.reset with valid := true } }) [(0x3111, 1, noRow, 2)], by decide +kernel⟩

theorem witness_UpdatesFollowTheBankWord_8 : ∃ (t : Nat) (who : Who) (s : State),
    (AcceptedPlain 0x3130 0x03 who (s.advance t)) ∧ (Room s) ∧ (inTrial s = true) :=
  ⟨10^15, .dtls 0, wTrial, by decide +kernel⟩

theorem witness_UpdatesFollowTheBankWord_9 : ∃ (t : Nat) (who : Who) (s : State),
    (AcceptedPlain 0x3130 0x04 who (s.advance t)) ∧ (inTrial s = true) ∧ ((s.keys.bankA.valid || s.keys.bankB.valid) = true) :=
  ⟨10^15, .dtls 0, wTrial, by decide +kernel⟩

theorem witness_UpdatesFollowTheBankWord_10 : ∃ (t a : Nat) (s : State),
    (Room s) ∧ (s.keys.trialUntil = some a) ∧ (a ≤ max s.now t) ∧ (inTrial s = true) ∧ (s.cfgB 0x3100 0x02 = true) :=
  ⟨10^15, 10^15, withCfg wTrial [(0x3100, 2, noRow, 1)], by decide +kernel⟩

theorem witness_UpdatesFollowTheBankWord_11 : ∃ (t a : Nat) (s : State),
    (s.keys.trialUntil = some a) ∧ (a ≤ max s.now t) ∧ (inTrial s = true) ∧ (s.cfgB 0x3100 0x02 = false) ∧ ((s.keys.bankA.valid || s.keys.bankB.valid) = true) :=
  ⟨10^15, 10^15, withCfg wTrial [(0x3100, 2, noRow, 0)], by decide +kernel⟩

theorem witness_PairRolesFollowR672_1 : ∃ (t seq : Nat) (l : List Byte) (s : State),
    (s.running = true) ∧ (s.cfg 0x3200 0x01 = 1) ∧ ((s.portOf 6).link = 1) ∧ (l.length = 316) ∧ (seq < 2 ^ 32) ∧ (roleNow s = 0) ∧ (s.duplex.rxSeq = none) ∧ (s.duplex.ahead = []) ∧ ((peerOf l).role = 1) :=
  ⟨10^15, 2 ^ 32 - 1, wSuper 1 0, wPair 0 0, by decide +kernel⟩

theorem witness_PairRolesFollowR672_2 : ∃ (t seq : Nat) (l : List Byte) (s : State),
    (s.running = true) ∧ (s.cfg 0x3200 0x01 = 1) ∧ (s.cfgB 0x3200 0x02 = true) ∧ ((s.portOf 7).link = 1) ∧ (l.length = 316) ∧ (seq < 2 ^ 32) ∧ (roleNow s = 0) ∧ (s.duplex.rxSeq = none) ∧ (s.duplex.ahead = []) ∧ ((peerOf l).role = 0) ∧ ((peerOf l).prefer = false) :=
  ⟨10^15, 5, wSuper 0 0, withCfg (wPair 0 0) [(0x3200, 2, noRow, 1)], by decide +kernel⟩

theorem witness_PairRolesFollowR672_3 : ∃ (t seq source n : Nat) (l : List Byte) (s : State),
    (s.running = true) ∧ (s.cfg 0x3200 0x01 = 1) ∧ ((s.portOf 6).link = 1) ∧ (roleNow s = 2) ∧ (seq < 2 ^ 32) ∧ (s.duplex.rxSeq = some seq) ∧ (s.duplex.ahead = []) ∧ (pairStateNow s ≠ 3) ∧ (source < 2 ^ 16) ∧ (n < 2 ^ 64) ∧ (l = be 2 source ++ be 8 n) :=
  ⟨10^15, 4, 7, 9, be 2 7 ++ be 8 9, (wPair 2 2).onDuplex fun d => { d with rxSeq := some 4, peer := some (peerOf []) }, by decide +kernel⟩

theorem witness_PairRolesFollowR672_4 : ∃ (t path : Nat) (frame : List Byte) (s : State),
    ((s.running = false ∨ 2 < path ∨ byteAt frame 0 ≠ 1 ∨ (path < 2 ∧ (s.portOf (6 + path)).link ≠ 1))) :=
  ⟨10^15, 3, be 1 1 ++ be 7 0, wPair 2 2, by decide +kernel⟩

theorem witness_PairRolesFollowR672_5 : ∃ (t seq type k : Nat) (l : List Byte) (s : State),
    (s.running = true) ∧ (s.cfg 0x3200 0x01 = 1) ∧ (l.length < 65536) ∧ (seq < 2 ^ 32) ∧ (type < 16) ∧ (s.duplex.rxSeq = some k) ∧ (k < 2 ^ 32) ∧ (seqPast seq k ≥ 2 ^ 31) :=
  ⟨10^15, 4, 15, 5, [1], (wPair 2 2).onDuplex fun d => { d with rxSeq := some 5 }, by decide +kernel⟩

theorem witness_PairRolesFollowR672_6 : ∃ (t : Nat) (s : State),
    (s.running = true) ∧ (s.cfg 0x3200 0x01 = 1) ∧ (s.duplex.lastSupervision + us (s.cfg 0x3200 0x06) ≤ max s.now t) :=
  ⟨10^15, wPair 1 0, by decide +kernel⟩

theorem witness_PairRolesFollowR672_7 : ∃ (t : Nat) (s : State),
    ((s.running = false ∨ (s.cfg 0x3200 0x01 ≠ 1 ∧ s.cfg 0x3200 0x01 ≠ 2) ∨ max s.now t < s.duplex.lastSupervision + us (s.cfg 0x3200 0x06))) :=
  ⟨10^15, (wPair 1 0).onDuplex fun d => { d with lastSupervision := 10 ^ 15 }, by decide +kernel⟩

theorem witness_PairRolesFollowR672_8 : ∃ (t : Nat) (p : Peer) (s : State),
    (Room s) ∧ (s.running = true) ∧ (roleNow s = 2) ∧ (pairStateNow s = 1) ∧ (s.duplex.peer = some p) ∧ (s.duplex.heldTx = []) ∧ (([0, 1, 2].any (pathHeard (s.advance t))) = false) :=
  ⟨10^15, peerOf [], (wPair 2 1).onDuplex fun d => { d with peer := some (peerOf []) }, by decide +kernel⟩

theorem witness_PairRolesFollowR672_9 : ∃ (t : Nat) (p : Peer) (s : State),
    (Room s) ∧ (s.running = true) ∧ (roleNow s = 1) ∧ (s.duplex.peer = some p) ∧ (([0, 1, 2].any (pathHeard (s.advance t))) = false) :=
  ⟨10^15, peerOf [], (wPair 1 2).onDuplex fun d => { d with peer := some (peerOf []), handOver := true }, by decide +kernel⟩

theorem witness_PairRolesFollowR672_10 : ∃ (t : Nat) (s : State),
    (roleNow s ≠ 3) ∧ ((s.running = false ∨ s.duplex.peer = none ∨ ([0, 1, 2].any (pathHeard (s.advance t))) = true)) :=
  ⟨10^15, (wPair 2 2).onDuplex fun d => { d with peer := some (peerOf []), heard := [(2, 10 ^ 15)] }, by decide +kernel⟩

theorem witness_PairRolesFollowR672_11 : ∃ (t : Nat) (s : State),
    (Room s) ∧ (s.running = true) ∧ (s.cfg 0x3200 0x01 = 1) ∧ (roleNow s = 0) ∧ (s.duplex.peer = none) ∧ (s.power.enteredAt + sec 1 ≤ max s.now t) :=
  ⟨10^15, wPair 0 0, by decide +kernel⟩

theorem witness_PairRolesFollowR672_12 : ∃ (t : Nat) (s : State),
    ((s.running = false ∨ s.cfg 0x3200 0x01 ≠ 1 ∨ roleNow s ≠ 0 ∨ s.duplex.peer ≠ none ∨ max s.now t < s.power.enteredAt + sec 1)) :=
  ⟨10^15, wPair 1 0, by decide +kernel⟩

theorem witness_PairRolesFollowR672_13 : ∃ (t : Nat) (s : State),
    ((roleNow s ≠ 2 ∨ pairStateNow s ≠ 1 ∨ s.duplex.imageTotal = 0 ∨ s.duplex.image.length ≠ s.duplex.imageTotal ∨ (s.duplex.peer.all fun p => p.protocol != mirrorProtocol || p.setHash != fit 48 (setHash s.active)) = true)) :=
  ⟨10^15, (wPair 2 1).onDuplex fun d => { d with peer := some (wPeer (wPair 2 1)), imageTotal := 2, image := [(0, [1])] }, by decide +kernel⟩

theorem witness_PairRolesFollowR672_14 : ∃ (t : Nat) (who : Who) (s : State),
    (AcceptedPlain 0x3230 0x01 who (s.advance t)) ∧ ((leads s = false ∨ pairStateNow s ≠ 2)) :=
  ⟨10^15, .dtls 0, wPair 1 2, by decide +kernel⟩

theorem witness_PairRolesFollowR672_15 : ∃ (t : Nat) (who : Who) (s : State),
    (AcceptedPlain 0x3230 0x02 who (s.advance t)) ∧ (roleNow s ≠ 2) :=
  ⟨10^15, .dtls 0, wPair 1 2, by decide +kernel⟩

theorem witness_PairRolesFollowR672_16 : ∃ (t : Nat) (s : State),
    ((s.duplex.swapAckUntil.all fun a => decide (max s.now t < a)) = true) :=
  ⟨10^15, (wPair 1 2).onDuplex fun d => { d with swapAckUntil := some (10 ^ 15 + 1) }, by decide +kernel⟩

theorem witness_PairRolesFollowR672_17 : ∃ (t : Nat) (s : State),
    ((s.running = false ∨ roleNow s ≠ 2 ∨ pairStateNow s = 3 ∨ s.duplex.peer = none ∨ pathHeard (s.advance t) 0 = true ∨ pathHeard (s.advance t) 1 = true ∨ pathHeard (s.advance t) 2 = false)) :=
  ⟨10^15, wPair 2 2, by decide +kernel⟩

theorem witness_PairRolesFollowR672_18 : ∃ (t : Nat) (p : Peer) (s : State),
    (s.duplex.peer = some p) ∧ (roleNow s = 2) ∧ (pairStateNow s = 1) ∧ (s.duplex.image.length = s.duplex.imageTotal) ∧ (s.duplex.imageTotal ≠ 0) ∧ (p.protocol = mirrorProtocol) ∧ (p.setHash = fit 48 (setHash s.active)) ∧ (s.duplex.records = []) :=
  ⟨10^15, wPeer (wPair 2 1), (wPair 2 1).onDuplex fun d => { d with peer := some (wPeer (wPair 2 1)), imageTotal := 1, image := [(0, [1])] }, by
    and_intros <;> first | decide +kernel | rfl⟩

theorem witness_PairRolesFollowR672_19 : ∃ (t : Nat) (who : Who) (s : State),
    (AcceptedPlain 0x3230 0x01 who (s.advance t)) ∧ (leads s = true) ∧ (pairStateNow s = 2) :=
  ⟨10^15, .dtls 0, (wPair 1 2).onDuplex fun d => { d with peer := some (peerOf []) }, by decide +kernel⟩

theorem witness_PairRolesFollowR672_20 : ∃ (t : Nat) (who : Who) (s : State),
    (AcceptedPlain 0x3230 0x02 who (s.advance t)) ∧ (roleNow s = 2) :=
  ⟨10^15, .dtls 0, wPair 2 2, by decide +kernel⟩

theorem witness_PairRolesFollowR672_21 : ∃ (t a : Nat) (w : Swap) (s : State),
    (Room s) ∧ (s.duplex.swapAckUntil = some a) ∧ (a ≤ max s.now t) ∧ (s.sets.swap = some w) :=
  ⟨10^15, 10^15, ⟨1, 5, false, 1, 0⟩, ((wPair 1 2).onSets fun x => { x with swap := some ⟨1, 5, false, 1, 0⟩ }).onDuplex fun d => { d with swapAckUntil := some (10 ^ 15) }, by decide +kernel⟩

theorem witness_PairRolesFollowR672_22 : ∃ (t : Nat) (s : State),
    (Room s) ∧ (s.running = true) ∧ (roleNow s = 2) ∧ (pairStateNow s ≠ 3) ∧ (s.duplex.peer.isSome = true) ∧ (pathHeard (s.advance t) 0 = false) ∧ (pathHeard (s.advance t) 1 = false) ∧ (pathHeard (s.advance t) 2 = true) :=
  ⟨10^15, (wPair 2 2).onDuplex fun d => { d with peer := some (peerOf []), heard := [(2, 10 ^ 15)] }, by decide +kernel⟩

theorem witness_PackMembersFollowR685_1 : ∃ (t seq m : Nat) (l : List Byte) (s : State),
    (Room s) ∧ (s.running = true) ∧ (s.cfg 0x3200 0x01 = 2) ∧ (roleNow s = 3) ∧ ((s.portOf 6).link = 1) ∧ (32 ≤ l.length) ∧ (l.length < 65536) ∧ (seq < 2 ^ 32) ∧ (byteAt l 0 = m) ∧ (byteAt l 1 = 0xFF) ∧ (m ≠ memberId s) ∧ (lookup m s.duplex.members = none) ∧ ((tabGet [] s.duplex.packSeen m).contains seq = false) :=
  ⟨10^15, 7, 2, be 1 2 ++ be 1 0xFF ++ be 14 0 ++ be 16 9, wPack, by decide +kernel⟩

theorem witness_PackMembersFollowR685_2 : ∃ (t seq m : Nat) (x : Member) (l : List Byte) (s : State),
    (s.running = true) ∧ (s.cfg 0x3200 0x01 = 2) ∧ (roleNow s = 3) ∧ ((s.portOf 6).link = 1) ∧ (32 ≤ l.length) ∧ (l.length < 65536) ∧ (seq < 2 ^ 32) ∧ (byteAt l 0 = m) ∧ (byteAt l 1 = 0xFF) ∧ (m ≠ memberId s) ∧ (lookup m s.duplex.members = some x) ∧ (x.identity = beAt l 16 16) :=
  ⟨10^15, 7, 2, ⟨9, 0, 0, 0⟩, be 1 2 ++ be 1 0xFF ++ be 14 0 ++ be 16 9, wPacked, by decide +kernel⟩

theorem witness_PackMembersFollowR685_3 : ∃ (t seq type m : Nat) (l : List Byte) (s : State),
    (s.running = true) ∧ (s.cfg 0x3200 0x01 = 2) ∧ (roleNow s = 3) ∧ ((s.portOf 6).link = 1) ∧ (2 ≤ l.length) ∧ (l.length < 65536) ∧ (seq < 2 ^ 32) ∧ (24 ≤ type) ∧ (type < 32) ∧ (byteAt l 0 = m) ∧ (byteAt l 1 = memberId s) ∧ (m ≠ memberId s) ∧ ((tabGet [] s.duplex.packSeen m).contains seq = false) :=
  ⟨10^15, 7, 31, 2, be 1 2 ++ be 1 1, wPacked, by decide +kernel⟩

theorem witness_PackMembersFollowR685_4 : ∃ (t : Nat) (s : State),
    (s.running = true) ∧ (s.cfg 0x3200 0x01 = 2) ∧ (roleNow s = 3) ∧ (s.duplex.members = []) ∧ (s.duplex.lastSupervision + us (s.cfg 0x3200 0x06) ≤ max s.now t) :=
  ⟨10^15, wPack, by decide +kernel⟩

theorem witness_PackMembersFollowR685_5 : ∃ (t : Nat) (s : State),
    (Room s) ∧ (s.running = true) ∧ (roleNow s = 3) ∧ (s.duplex.pack.waiting = []) ∧ ((s.duplex.members.map (·.1)).Nodup) ∧ ((s.duplex.members.any fun e => !sideHeard (s.advance t) e.2.lastHeard) = true) ∧ ((s.duplex.members.all fun e => sideHeard (s.advance t) e.2.lastHeard || e.1 != placerOf s) = true) :=
  ⟨10^15, wPack.onDuplex fun d => { d with members := [(2, ⟨9, 0, 0, 0⟩), (5, ⟨9, 10 ^ 15, 10 ^ 15, 10 ^ 15⟩)] }, by decide +kernel⟩

theorem witness_PackMembersFollowR685_6 : ∃ (t : Nat) (s : State),
    (roleNow s = 3) ∧ ((s.duplex.members.all fun e => sideHeard (s.advance t) e.2.lastHeard) = true) ∧ (s.ro 0x3211 0x04 = (ringNow (s.advance t)).1) :=
  ⟨10^15, withRo (wPack.onDuplex fun d => { d with members := [(5, ⟨9, 10 ^ 15, 10 ^ 15, 10 ^ 15⟩)] }) [(0x3211, 4, noRow, 0)], by decide +kernel⟩

theorem witness_PackMembersFollowR685_7 : ∃ (t g type m : Nat) (w : PackWait) (s : State),
    (lookup g s.duplex.pack.waiting = some w) ∧ (w.since + us 40 ≤ max s.now t) ∧ ((lackingFrames s g w).contains (type, m) = true) :=
  ⟨10^15, 0, 18, 2, ⟨3, false, 1, 0⟩, wPacked, by decide +kernel⟩

theorem witness_PackMembersFollowR685_8 : ∃ (t g slot type m : Nat) (w : PackWait) (s : State),
    (lookup g s.duplex.pack.waiting = some w) ∧ (((lackingFrames s g w).contains (type, m) = false ∨ w.slot ≠ slot ∨ max s.now t < w.since + us 40)) :=
  ⟨10^15, 0, 3, 18, 3, ⟨3, false, 1, 0⟩, wPacked, by decide +kernel⟩

theorem witness_PackMembersFollowR685_9 : ∃ (t g slot type m : Nat) (s : State),
    (lookup g s.duplex.pack.waiting = none) :=
  ⟨10^15, 1, 3, 18, 3, wPacked, by decide +kernel⟩

theorem witness_PackMembersFollowR685_10 : ∃ (t m : Nat) (s : State),
    (Room s) ∧ (roleNow s = 3) ∧ (m ≠ memberId s) ∧ (s.duplex.members = []) ∧ ((s.duplex.homes.filter fun e => e.2.1 == m && e.2.2 == memberId s) ≠ []) :=
  ⟨10^15, 2, wPack.onDuplex fun d => { d with homes := [(5, (2, 1)), (6, (1, 2)), (7, (2, 1))] }, by decide +kernel⟩

theorem witness_PackMembersFollowR685_11 : ∃ (t m : Nat) (s : State),
    ((roleNow s ≠ 3 ∨ (lookup m s.duplex.members).isSome = true ∨ m = memberId s ∨ (s.duplex.homes.filter fun e => e.2.1 == m && e.2.2 == memberId s) = [])) :=
  ⟨10^15, 1, wPack, by decide +kernel⟩

theorem witness_PackMembersFollowR685_12 : ∃ (t m : Nat) (who : Who) (s : State),
    (Accepted 0x3230 0x03 m (.num 0) who (s.advance t)) ∧ ((inPack s = false ∨ placesHere s = false)) :=
  ⟨10^15, 15, .dtls 0, wRun, by decide +kernel⟩

theorem witness_PackMembersFollowR685_13 : ∃ (t m : Nat) (who : Who) (s : State),
    (Accepted 0x3230 0x03 m (.num 0) who (s.advance t)) ∧ (inPack s = true) ∧ (placesHere s = true) :=
  ⟨10^15, 15, .dtls 0, wPack, by decide +kernel⟩

theorem witness_StepRunsTheCommandAtTheFront_2 : ∃ (s : State),
    (s.pending = []) :=
  ⟨State.reset, by decide +kernel⟩

theorem witness_InvariantHoldsAtReset_1 : ∃ (s : State),
    (s = State.reset) :=
  ⟨State.reset, rfl⟩

theorem witness_EveryStepKeepsTheInvariant_1 : ∃ (s : State),
    (Inv s) :=
  ⟨State.reset, by decide +kernel⟩

theorem witness_CommandsNeedTheirRole_1 : ∃ (idx sub row n : Nat) (arg : Val) (s : State),
    (commandStatus idx sub row arg (.dtls n) s = 0) :=
  ⟨0x2730, 2, noRow, 0, .num 0, wRun, by decide +kernel⟩

theorem witness_CommandsNeedTheirRole_2 : ∃ (idx sub row : Nat) (arg : Val) (s : State),
    (commandStatus idx sub row arg .mailbox s = 0) :=
  ⟨0x2730, 2, noRow, .num 0, withCfg wLink [(0x1100, 5, noRow, 2)], by decide +kernel⟩

theorem witness_CommandsNeedTheirRole_3 : ∃ (idx sub row n : Nat) (arg : Val) (s : State),
    (commandStatus idx sub row arg (.can n) s = 0) :=
  ⟨0x2B30, 1, noRow, 1, .num 0, wCan, by decide +kernel⟩

theorem witness_CommandsNeedTheirRole_4 : ∃ (idx sub row : Nat) (arg : Val) (who : Who) (body : State → State × Nat) (s : State),
    (s.reaches who = true) ∧ (commandStatus idx sub row arg who s ≠ 0) :=
  ⟨0x2730, 2, noRow, .num 0, .can 1, ok id, wCan, by decide +kernel⟩

theorem witness_StoresKeepTheirForm_1 : ∃ (d : Dict) (i j r a b c : Nat) (v : Val),
    (j < 256) ∧ (r < 0x1000000) ∧ (b < 256) ∧ (c < 0x1000000) ∧ ((a, b, c) ≠ (i, j, r)) ∧ (Dict.wf d) :=
  ⟨[(okey 1 2 3, .num 5)], 1, 2, 4, 1, 2, 3, .num 7, by decide +kernel⟩

end

end Sys2Proof.Machine
end

section
/-! PTP messages of another kind: over UDP, or of a domain that is not the configured one (R45). -/

namespace Sys2Proof.Machine
open Sys2Proof

/-- PTP_MESSAGE_RX completes with the effect `ptpMessage`. -/
theorem exec_ptpMessageRx (t port domain : Nat) (udp : Bool) (msg : PtpMsg) (s : State) :
    exec (.ptpMessageRx t port udp domain msg) s = complete t (ptpMessage port udp domain msg) s := rfl

theorem ptpRuns_iff (s : State) (port : Nat) :
    ptpRuns s port = true ↔
      port < 6 ∧ bit (s.cfg 0x2002 0x08) port = true ∧ s.cfgB 0x2002 0x01 = true ∧ s.timeRuns = true ∧ (s.running = true ∨ 4 ≤ port) := by
  simp [ptpRuns, and_assoc]

/-- Whether PTP runs on a port does not depend on the clocks. -/
@[simp] theorem ptpRuns_advance (t port : Nat) (s : State) : ptpRuns (s.advance t) port = ptpRuns s port := by
  simp [ptpRuns]

/-- Where PTP runs, a message over UDP or of another domain is counted and discarded, whatever it says (R45). -/
theorem ptpMessage_otherKind {port domain : Nat} {udp : Bool} {s : State} (hruns : ptpRuns s port = true)
    (hkind : udp = true ∨ domain ≠ s.cfg 0x2002 0x04) (msg : PtpMsg) :
    ptpMessage port udp domain msg s = s.bump 0x2030 0x04 := by
  have hkind : (udp || domain != s.cfg 0x2002 0x04) = true := by simpa using hkind
  simp [ptpMessage, hruns, hkind]

/-- 0x2030:04 is a U32. -/
theorem widthOf_ptpFramesIgnored : widthOf 0x2030 0x04 = 32 := rfl

/-- Settles O1: the message is only counted, and the end of the command touches nothing that counts. -/
theorem ptpFramesOfAnotherKindAreIgnored : Obligations.PtpFramesOfAnotherKindAreIgnored := by
  intro t port domain udp msg s hport hbit hon htime hstate hkind
  have hruns : ptpRuns s port = true := (ptpRuns_iff s port).2 ⟨hport, hbit, hon, htime, hstate⟩
  have heffect : ptpMessage port udp domain msg (s.advance t) = (s.advance t).bump 0x2030 0x04 :=
    ptpMessage_otherKind (by simpa using hruns) (by simpa using hkind) msg
  refine .of (exec_ptpMessageRx t port domain udp msg s) ?_
  rw [heffect]
  refine ⟨?_, ((Touches.refl _ _ _).bump (by simp) (by decide) (by decide)).settle⟩
  rw [settle_ro _ (by decide) (by decide) (by decide), ro_bump_self, widthOf_ptpFramesIgnored]
  simp

end Sys2Proof.Machine
end

section
/-! The Sluices: what their operations write and leave, for reads of Q_DATA (R562) and test mode (R564). -/

namespace Sys2Proof.Machine
open Sys2Proof

/-! ### A Sluice after an update of the state -/

@[simp] theorem sluice_setSluice_self (q : Nat) (x : Sluice) (s : State) : (s.setSluice q x).sluice q = x := by
  simp [State.sluice, State.setSluice]

/-- A Sluice is read from the host record alone. -/
theorem sluice_of_host {s u : State} (h : u.host = s.host) (q : Nat) : u.sluice q = s.sluice q := by
  simp [State.sluice, h]

@[simp] theorem sluice_advance (t q : Nat) (s : State) : (s.advance t).sluice q = s.sluice q := sluice_of_host (by simp) q
@[simp] theorem sluice_settle (q : Nat) (s : State) : (settle s).sluice q = s.sluice q := sluice_of_host (by simp) q
@[simp] theorem sluice_emit (o : Out) (q : Nat) (s : State) : (s.emit o).sluice q = s.sluice q := sluice_of_host (by simp) q
@[simp] theorem sluice_bump (i j r q : Nat) (s : State) : (s.bump i j r).sluice q = s.sluice q := rfl
@[simp] theorem sluice_raise (code : Nat) (ps : List Byte) (q : Nat) (s : State) : (raise code ps s).sluice q = s.sluice q :=
  sluice_of_host (by simp) q
@[simp] theorem sluice_countWindow (code key a b q : Nat) (s : State) : (countWindow code key a b s).sluice q = s.sluice q :=
  sluice_of_host (by simp) q

@[simp] theorem sluice_signal (n q : Nat) (s : State) : (s.signal n).sluice q = s.sluice q := by
  unfold State.signal; split <;> rfl

@[simp] theorem sluice_interrupt (n q : Nat) (s : State) : (s.interrupt n).sluice q = s.sluice q := by
  unfold State.interrupt
  split
  · rfl
  · exact sluice_signal n q _

@[simp] theorem sluice_sluiceInterrupt (p q : Nat) (s : State) : (sluiceInterrupt p s).sluice q = s.sluice q := by
  unfold sluiceInterrupt
  split
  · exact sluice_interrupt p q s
  · rfl

@[simp] theorem hostReaches_advance (t : Nat) (s : State) : hostReaches (s.advance t) = hostReaches s := by simp [hostReaches]

/-! ### What the Sluice operations touch -/

theorem Touches.setSluice {ps : List Part} {os : List (Nat × Nat)} {s u : State} (h : Touches ps os s u) (m : Part.host ∈ ps)
    (q : Nat) (x : Sluice) : Touches ps os s (u.setSluice q x) := h.onHost m _

theorem Touches.signal {ps : List Part} {os : List (Nat × Nat)} {s u : State} (h : Touches ps os s u) (m : Part.host ∈ ps) (n : Nat) :
    Touches ps os s (u.signal n) := by
  unfold State.signal
  split
  · exact (h.onHost m _).emit _
  · exact h

theorem Touches.interrupt {ps : List Part} {os : List (Nat × Nat)} {s u : State} (h : Touches ps os s u) (m : Part.host ∈ ps) (n : Nat) :
    Touches ps os s (u.interrupt n) := by
  unfold State.interrupt
  split
  · exact h
  · exact (h.onHost m _).signal m n

theorem Touches.sluiceInterrupt {ps : List Part} {os : List (Nat × Nat)} {s u : State} (h : Touches ps os s u) (m : Part.host ∈ ps)
    (q : Nat) : Touches ps os s (sluiceInterrupt q u) := by
  unfold Machine.sluiceInterrupt
  split
  · exact h.interrupt m q
  · exact h

theorem Touches.sluiceCommit {ps : List Part} {os : List (Nat × Nat)} {s u : State} (h : Touches ps os s u) (m : Part.host ∈ ps)
    (q : Nat) (packets : List (List Nat)) : Touches ps os s (sluiceCommit q packets u) :=
  (h.setSluice m q _).sluiceInterrupt m q

/-- A count in a summary window changes the log alone. -/
theorem Touches.countWindow {ps : List Part} {os : List (Nat × Nat)} {s u : State} (h : Touches ps os s u) (code key a b : Nat) :
    Touches ps os s (countWindow code key a b u) := by
  unfold Machine.countWindow
  split <;> exact h.onLog _

theorem Touches.sluiceLose {ps : List Part} {os : List (Nat × Nat)} {s u : State} (h : Touches ps os s u) (m : Part.host ∈ ps)
    (hlost : (0x2D10, 3) ∈ os) {q : Nat} (hq : q < 0x1000000) (owe : Bool) : Touches ps os s (sluiceLose q owe u) :=
  ((h.setSluice m q _).bump hlost (by decide) hq).countWindow _ _ _ _

/-! ### Commands on Q_DATA, Q_MODE and Q_TEST_PUSH complete -/

theorem exec_qDataRead (t q : Nat) (s : State) : exec (.qDataRead t q) s = complete t (qDataRead q) s := rfl
theorem exec_qModeWrite (t q v : Nat) (s : State) : exec (.qModeWrite t q v) s = complete t (qModeWrite q v) s := rfl
theorem exec_qTestPush (t q v : Nat) (s : State) : exec (.qTestPush t q v) s = complete t (qTestPush q v) s := rfl

/-! ### One word consumed -/

/-- The next word is popped: RPTR passes it and it becomes the last word popped; WPTR stays. -/
theorem consume_one_pops {x : Sluice} {p : List Nat} {rest : List (List Nat)} (h : x.packets = p :: rest) :
    (consume 1 x).rptr = (x.rptr + 1) % 2 ^ 15 ∧ (consume 1 x).wptr = x.wptr ∧
    (consume 1 x).lastPopped = p.getD x.readOfFirst 0 := by
  simp only [consume, h]
  split <;> simp

/-- The unread words after it stay, whether the packet at RPTR ends with it or goes on. -/
theorem consume_one_unread {x : Sluice} {p : List Nat} {rest : List (List Nat)} (h : x.packets = p :: rest)
    (hlt : x.readOfFirst < p.length) :
    (consume 1 x).packets.flatten.drop (consume 1 x).readOfFirst = x.packets.flatten.drop (x.readOfFirst + 1) := by
  simp only [consume, h]
  split
  next hlast =>
    have hend : x.readOfFirst + 1 = p.length := by omega
    simp [hend]
  next => rfl

/-! ### Q_DATA read (R562) -/

/-- With an unread word, the read gives the word at RPTR and consumes it. -/
theorem qDataRead_unread {q : Nat} {s : State} {p : List Nat} {rest : List (List Nat)} (hlink : hostReaches s = true) (hq : q < 8)
    (h : (s.sluice q).packets = p :: rest) :
    qDataRead q s = (afterConsume q (consume 1 (s.sluice q)) s).emit (.read (p.getD (s.sluice q).readOfFirst 0)) := by
  simp [qDataRead, hlink, hq, popSluice, h]

/-- With no packet, in RUN, TRIM or SENTINEL outside test mode, the read gives the idle item. -/
theorem qDataRead_idle {q : Nat} {s : State} (hlink : hostReaches s = true) (hq : q < 8) (h : (s.sluice q).packets = [])
    (hstate : (s.running || s.dev == stSentinel) = true) (hmode : (s.sluice q).testMode = false) :
    qDataRead q s = s.emit (.read 0xFFFFFFFFFFFFFFFF) := by
  have hidle : ((s.running || s.dev == stSentinel) && !(s.sluice q).testMode) = true := by rw [hstate, hmode]; rfl
  simp only [qDataRead, hlink, hq, popSluice, h, hidle, decide_true, Bool.and_self, if_true]

/-- With no packet, in any other state or in test mode, the read repeats the last word popped and sets the underrun flag. -/
theorem qDataRead_underrun {q : Nat} {s : State} (hlink : hostReaches s = true) (hq : q < 8) (h : (s.sluice q).packets = [])
    (hstate : (s.running || s.dev == stSentinel) = false ∨ (s.sluice q).testMode = true) :
    qDataRead q s = (s.setSluice q { s.sluice q with underrun := true }).emit (.read (s.sluice q).lastPopped) := by
  have hidle : ((s.running || s.dev == stSentinel) && !(s.sluice q).testMode) = false := by
    rcases hstate with hstate | hmode
    · rw [hstate]; rfl
    · rw [hmode, Bool.not_true, Bool.and_false]
  simp only [qDataRead, hlink, hq, popSluice, h, hidle, decide_true, Bool.and_self, if_true, Bool.false_eq_true, if_false]

/-- Q_STATUS[3] is the underrun flag (R559). -/
theorem qStatus_bit3 (x : Sluice) : bit (qStatus x) 3 = x.underrun := by
  unfold qStatus bit
  generalize (x.fill == sluiceWords) = full, (x.fill == 0) = empty, x.testMode = m, x.lost = l, x.underrun = u
  revert full empty m l u
  decide

/-- Q_STATUS[1] tells that the queue is empty (R559). -/
theorem qStatus_bit1 (x : Sluice) : bit (qStatus x) 1 = (x.fill == 0) := by
  unfold qStatus bit
  generalize (x.fill == sluiceWords) = full, (x.fill == 0) = empty, x.testMode = m, x.lost = l, x.underrun = u
  revert full empty m l u
  decide

/-- START resets every Sluice. -/
theorem sluice_startState (cause q : Nat) (s : State) : (startState cause s).sluice q = Sluice.reset := rfl

/-- Settles O39: the read by the case of the queue at the command's instant; the end of the command keeps Sluices and outputs. -/
theorem readsOfQDataFollowR562 : Obligations.ReadsOfQDataFollowR562 := by
  refine ⟨?unread, ?idle, ?underrun, fun cause q s _ => congrArg Sluice.lastPopped (sluice_startState cause q s)⟩
  case unread =>
    intro t q p rest s hlink hq hpackets hword
    refine .of (exec_qDataRead t q s) ?_
    rw [qDataRead_unread (by simpa using hlink) hq (by simpa using hpackets)]
    obtain ⟨hrptr, hwptr, hlast⟩ := consume_one_pops hpackets
    have hunread := consume_one_unread hpackets hword
    exact ⟨by simp, by simpa [afterConsume] using hrptr, by simpa [afterConsume] using hwptr, by simpa [afterConsume] using hlast,
      by simpa [afterConsume] using hunread, (((Touches.refl _ _ _).setSluice (by simp) q _).emit _).settle⟩
  case idle =>
    intro t q s hlink hq hpackets hstate hmode
    refine .of (exec_qDataRead t q s) ?_
    rw [qDataRead_idle (by simpa using hlink) hq (by simpa using hpackets) (by simpa using hstate) (by simpa using hmode)]
    exact ⟨by simp, ((Touches.refl _ _ _).emit _).settle⟩
  case underrun =>
    intro t q s hlink hq hpackets hfill hstate
    refine .of (exec_qDataRead t q s) ?_
    rw [qDataRead_underrun (by simpa using hlink) hq (by simpa using hpackets) (by simpa using hstate), qStatus_bit3, qStatus_bit1]
    have hempty : ({ s.sluice q with underrun := true } : Sluice).fill = 0 := hfill
    exact ⟨by simp, by simp, by simp, by simp [hempty], (((Touches.refl _ _ _).setSluice (by simp) q _).emit _).settle⟩

/-! ### Packets lost and summary windows -/

/-- 0x2D10:03 is a U32. -/
theorem widthOf_packetsLost : widthOf 0x2D10 0x03 = 32 := rfl

/-- After a count, a window of that code and key stands in the log: the open one, or a new one (R720). -/
theorem countWindow_windows (code key a b : Nat) (s : State) :
    ((countWindow code key a b s).log.windows.any fun w => w.code == code && w.key == key) = true := by
  unfold countWindow
  split
  next hopen =>
    obtain ⟨w, hw, hwopen⟩ := List.any_eq_true.1 hopen
    have hkey : (w.code == code && w.key == key) = true := by
      simp only [windowOpen, Bool.and_eq_true] at hwopen ⊢
      exact hwopen.1
    refine List.any_eq_true.2 ⟨_, List.mem_map_of_mem hw, ?_⟩
    simpa [hwopen] using hkey
  next => simp

/-- An event posted, or dropped by a full FIFO, leaves the summary windows. -/
@[simp] theorem raise_windows (code : Nat) (ps : List Byte) (s : State) : (raise code ps s).log.windows = s.log.windows := by
  unfold raise raiseFrom
  split
  · rfl
  · split <;> rfl

@[simp] theorem settle_windows (s : State) : (settle s).log.windows = s.log.windows := by
  unfold settle reportClass
  split <;> simp

/-- A packet lost with no loss packet owed sets the lost flag alone. -/
theorem sluice_sluiceLose_false (q : Nat) (s : State) : (sluiceLose q false s).sluice q = { s.sluice q with lost := true } := by
  simp [sluiceLose]

/-- A packet lost is counted in 0x2D10:03. -/
theorem ro_sluiceLose (q : Nat) (owe : Bool) (s : State) :
    (sluiceLose q owe s).ro 0x2D10 0x03 q = (s.ro 0x2D10 0x03 q + 1) % 2 ^ 32 := by
  rw [← widthOf_packetsLost]
  simp [sluiceLose, State.setSluice]

/-- A packet lost counts toward event 0x2D03. -/
theorem sluiceLose_windows (q : Nat) (owe : Bool) (s : State) :
    ((sluiceLose q owe s).log.windows.any fun w => w.code == 0x2D03 && w.key == q) = true := countWindow_windows _ _ _ _ _

/-! ### Test mode (R564) -/

/-- A write of Q_MODE with another bit 0 sets the mode and raises event 0x2D04. -/
theorem qModeWrite_changes {q v : Nat} {s : State} (hlink : hostReaches s = true) (hq : q < 8) (h : bit v 0 ≠ (s.sluice q).testMode) :
    qModeWrite q v s = raise 0x2D04 (le 1 q ++ le 1 (b2n (bit v 0))) (s.setSluice q { s.sluice q with testMode := bit v 0 }) := by
  simp [qModeWrite, hlink, hq, h]

/-- A write of Q_MODE with the mode's own bit changes nothing. -/
theorem qModeWrite_same {q v : Nat} {s : State} (h : bit v 0 = (s.sluice q).testMode) : qModeWrite q v s = s := by
  simp [qModeWrite, h]

/-- Q_TEST_PUSH in test mode with room commits its value as a packet of 1 word. -/
theorem qTestPush_commits {q : Nat} {s : State} (hlink : hostReaches s = true) (hq : q < 8) (hmode : (s.sluice q).testMode = true)
    (hroom : (s.sluice q).fill < sluiceWords) (v : Nat) : qTestPush q v s = sluiceCommit q [[v % 2 ^ 64]] s := by
  simp [qTestPush, hlink, hq, hmode, hroom]

/-- Q_TEST_PUSH in test mode on a full queue is lost, with no loss packet owed. -/
theorem qTestPush_full {q : Nat} {s : State} (hlink : hostReaches s = true) (hq : q < 8) (hmode : (s.sluice q).testMode = true)
    (hfull : sluiceWords ≤ (s.sluice q).fill) (v : Nat) : qTestPush q v s = sluiceLose q false s := by
  simp [qTestPush, hlink, hq, hmode, Nat.not_lt.2 hfull]

/-- Q_TEST_PUSH out of test mode changes nothing. -/
theorem qTestPush_outOfTestMode {q : Nat} {s : State} (hmode : (s.sluice q).testMode = false) (v : Nat) : qTestPush q v s = s := by
  simp [qTestPush, hmode]

/-- A device packet to a fed queue in test mode is lost, with no loss packet owed. -/
theorem sluicePost_testMode {q : Nat} {s : State} (hfeeds : s.feeds q = true) (hmode : (s.sluice q).testMode = true) (words : List Nat) :
    sluicePost q words s = sluiceLose q false s := by
  simp [sluicePost, hfeeds, hmode]

/-- A packet of one word committed follows the unread ones, and WPTR passes it. -/
theorem sluice_sluiceCommit_word (q w : Nat) (s : State) :
    ((sluiceCommit q [[w]] s).sluice q).packets = (s.sluice q).packets ++ [[w]] ∧
    ((sluiceCommit q [[w]] s).sluice q).wptr = ((s.sluice q).wptr + 1) % 2 ^ 15 := by
  simp [sluiceCommit]

/-- Settles O40: each write and each device packet by its case at the command's instant, then what that case leaves. -/
theorem sluiceTestModeFollowsR564 : Obligations.SluiceTestModeFollowsR564 := by
  refine ⟨?changes, ?commits, ?full, ?same, ?outOfTestMode, ?device⟩
  case changes =>
    intro t q v s ⟨hpowered, hdev, hfifo⟩ hlink hq hmode
    refine .of (exec_qModeWrite t q v s) ?_
    rw [qModeWrite_changes (by simpa using hlink) hq (by simpa using hmode)]
    have hroom : s.log.fifo.length < fifoDepth := by omega
    exact ⟨by simp, (Posted.raise [] (by simp) (by simp [hpowered, hdev, hroom]) _ _).settle,
      (((Touches.refl _ _ _).setSluice (by simp) q _).raise _ _).settle⟩
  case commits =>
    intro t q v s hlink hq hmode hroom
    refine .of (exec_qTestPush t q v s) ?_
    rw [qTestPush_commits (by simpa using hlink) hq (by simpa using hmode) (by simpa using hroom)]
    obtain ⟨hpackets, hwptr⟩ := sluice_sluiceCommit_word q (v % 2 ^ 64) (s.advance t)
    exact ⟨by simpa using hpackets, by simpa using hwptr, ((Touches.refl _ _ _).sluiceCommit (by simp) q _).settle⟩
  case full =>
    intro t q v s hlink hq hmode hfull
    refine .of (exec_qTestPush t q v s) ?_
    rw [qTestPush_full (by simpa using hlink) hq (by simpa using hmode) (by simpa using hfull),
      settle_ro _ (by decide) (by decide) (by omega), ro_sluiceLose, settle_windows]
    exact ⟨by simp [sluice_sluiceLose_false], by simp, sluiceLose_windows q false _,
      ((Touches.refl _ _ _).sluiceLose (by simp) (by simp) (by omega) false).settle⟩
  case same =>
    intro t q v s _ _ hmode
    refine .of (exec_qModeWrite t q v s) ?_
    rw [qModeWrite_same (by simpa using hmode)]
    exact (Touches.refl _ _ _).settle
  case outOfTestMode =>
    intro t q v s _ _ hmode
    refine .of (exec_qTestPush t q v s) ?_
    rw [qTestPush_outOfTestMode (by simpa using hmode)]
    exact (Touches.refl _ _ _).settle
  case device =>
    intro q words s _ hfeeds hmode
    rw [sluicePost_testMode hfeeds hmode]
    exact ⟨sluice_sluiceLose_false q s, ro_sluiceLose q false s, sluiceLose_windows q false s⟩

end Sys2Proof.Machine
end

section
/-! What every step keeps: the queue's front command runs, and the end of a command brings FAULT_N and the time-quality report up to date. -/

namespace Sys2Proof.Machine
open Sys2Proof

/-- Settles O55: by the definition of a step. -/
theorem stepRunsTheCommandAtTheFront : Obligations.StepRunsTheCommandAtTheFront :=
  ⟨fun _ _ _ => rfl, fun s h => by simp [step, h]⟩

/-- Every command is its effect between the begin and the end that all commands share. -/
theorem exec_completes (i : Instr) (s : State) : ∃ t f, exec i s = complete t f s := by
  unfold exec
  split <;> exact ⟨_, _, rfl⟩

/-- The level of FAULT_N does not depend on what the pin shows. -/
theorem faultLevel_showFault (p : PowerSt) : faultLevel p.showFault = faultLevel p := rfl

/-- The time-quality class is a function of T96, its uncertainty and the clock, and not of the class reported last. -/
theorem timeClass_onTime_lastClass (s : State) (c : Nat) :
    (s.onTime fun x => { x with lastClass := c }).timeClass = s.timeClass := rfl

theorem timeClass_raise (code : Nat) (ps : List Byte) (s : State) : (raise code ps s).timeClass = s.timeClass := by
  simp [State.timeClass, State.uncertaintyPs]

/-- After the report, the class reported last is the present one. -/
theorem reportClass_lastClass (s : State) : (reportClass s).time.lastClass = (reportClass s).timeClass := by
  unfold reportClass
  split
  next h => exact h.symm
  next =>
    rw [timeClass_onTime_lastClass, timeClass_raise]
    simp

/-- The end of a command establishes the invariant, whatever the command has done. -/
theorem settle_inv (s : State) : Inv (settle s) :=
  ⟨by rw [settle_power]; rfl, reportClass_lastClass _⟩

/-- Settles O56: the record of the reset state is in START with T96 unset. -/
theorem invariantHoldsAtReset : Obligations.InvariantHoldsAtReset := by
  rintro s rfl
  exact ⟨⟨rfl, rfl⟩, rfl, rfl⟩

/-- Settles O57: an idle step keeps the state, and every command ends in `settle`, which establishes the invariant. -/
theorem everyStepKeepsTheInvariant : Obligations.EveryStepKeepsTheInvariant := by
  intro s hs
  unfold step
  split
  next => exact ⟨s, rfl, hs⟩
  next c rest _ =>
    obtain ⟨t, f, h⟩ := exec_completes c { s with pending := rest }
    exact ⟨_, h, settle_inv _⟩

/-- Settles O60: a write keeps the form, reads back, and leaves what has another key. -/
theorem storesKeepTheirForm : Obligations.StoresKeepTheirForm := by
  intro d i j r a b c v hj hr hb hc hne hwf
  refine ⟨wf_writeIn d hj hr v hwf, readIn_writeIn_self d i j r v, readIn_writeIn_ne d (fun h => hne ?_) v⟩
  obtain ⟨ha, hb, hc⟩ := okey_eq hj hr hb hc h
  rw [ha, hb, hc]

end Sys2Proof.Machine
end

section
/-! Checks 2 to 7 of R521 for a COMMAND: what a command that passes names, and what one that does not pass leaves. -/

namespace Sys2Proof.Machine
open Sys2Proof

/-- A COMMAND that passes is of an object there is, of access CMD, for which the requester is allowed: by its role, or by the CAN list. -/
theorem commandStatus_zero {idx sub row : Nat} {arg : Val} {w : Who} {s : State} (h : commandStatus idx sub row arg w s = 0) :
    ∃ o r, findObj idx sub = some o ∧ o.acc = .cmd r ∧
      (match w with | .can _ => canCommand idx sub | _ => roleHas ((s.roleOf w).getD 0) r) = true := by
  unfold commandStatus at h
  extract_lets isCan kind role at h
  split at h
  · simp at h
  split at h
  · simp at h
  next o ho =>
  split at h
  · simp at h
  extract_lets need allowed at h
  split at h
  · simp at h
  next hallowed =>
  split at h
  next r hacc =>
    refine ⟨o, r, ho, hacc, ?_⟩
    cases w <;> simpa [allowed, role, need, hacc] using hallowed
  next => simp at h

/-- A COMMAND that does not pass is only accounted for and answered with its status. -/
theorem runCommand_refused {idx sub row : Nat} {arg : Val} {w : Who} {s : State} (hreach : s.reaches w = true)
    (h : commandStatus idx sub row arg w s ≠ 0) (body : State → State × Nat) :
    runCommand idx sub row arg w body s =
      (account w (commandStatus idx sub row arg w s) s).emit (.status w (commandStatus idx sub row arg w s)) := by
  simp [runCommand, tryCommand, hreach, h]

/-- 0x1120:01 is a U64. -/
theorem widthOf_requests : widthOf 0x1120 0x01 = 64 := rfl

/-- An accounted request counts in 0x1120:01. -/
theorem account_ro_requests (w : Who) (code : Nat) (s : State) :
    (account w code s).ro 0x1120 0x01 = (s.ro 0x1120 0x01 + 1) % 2 ^ 64 := by
  have hcount : (if code = 0 then s.bump 0x1120 0x01 else (s.bump 0x1120 0x01).bump 0x1120 0x02).ro 0x1120 0x01 =
      (s.ro 0x1120 0x01 + 1) % 2 ^ 64 := by
    split
    · rw [ro_bump_self, widthOf_requests]
    · rw [ro_bump_ne _ (by decide), ro_bump_self, widthOf_requests]
  unfold account
  dsimp only
  rw [← hcount]
  split
  · split <;> simp
  · simp
  · rfl

/-- Settles O59: a COMMAND that passes by what passing means, one that does not by its accounting alone. -/
theorem commandsNeedTheirRole : Obligations.CommandsNeedTheirRole := by
  refine ⟨?dtls, ?mailbox, ?can, ?refused⟩
  case dtls =>
    intro idx sub row n arg s h
    obtain ⟨o, r, ho, hacc, hrole⟩ := commandStatus_zero h
    simpa [ho, hacc] using hrole
  case mailbox =>
    intro idx sub row arg s h
    obtain ⟨o, r, ho, hacc, hrole⟩ := commandStatus_zero h
    by_cases hrec : s.dev = stRecovery
    · exact .inr hrec
    · left
      simpa [ho, hacc, State.roleOf, hrec] using hrole
  case can =>
    intro idx sub row n arg s h
    obtain ⟨o, r, ho, hacc, hlist⟩ := commandStatus_zero h
    simpa [canCommand] using hlist
  case refused =>
    intro idx sub row arg w body s hreach h
    rw [runCommand_refused hreach h]
    exact ⟨by simp [Answered], by simpa using account_ro_requests w _ s,
      ((Touches.refl _ _ _).account (by simp) (by simp) (by simp) w _).emit _⟩

end Sys2Proof.Machine
end

section
/-! `Touches` as an equivalence: each update of the state that stays within the parts and objects listed can be taken away.  As simp lemmas these
rules settle what a command leaves unchanged by following its text. -/

namespace Sys2Proof.Machine
open Sys2Proof

@[simp] theorem noRow_lt : noRow < 0x1000000 := by decide

theorem ObjectsKept.symm {os : List (Nat × Nat)} {s u : State} (h : ObjectsKept os s u) : ObjectsKept os u s :=
  fun i j r a b c d e => (h i j r a b c d e).symm

theorem Touches.symm {ps : List Part} {os : List (Nat × Nat)} {s u : State} (h : Touches ps os s u) : Touches ps os u s := by
  obtain ⟨hparts, hobjects, hnow⟩ := h
  refine ⟨fun p hp => ?_, hobjects.symm, hnow.symm⟩
  have hsame := hparts p hp
  cases p
  case power =>
    simp only [Part.same] at hsame ⊢
    rw [← hsame]
  case time =>
    simp only [Part.same] at hsame ⊢
    rw [← hsame]
  all_goals exact hsame.symm

/-- What a further step leaves within the listed parts can be taken away from what is to be compared. -/
theorem Touches.iff_of {ps : List Part} {os : List (Nat × Nat)} {s u v : State} (h : Touches ps os u v) :
    Touches ps os s v ↔ Touches ps os s u := ⟨fun g => g.trans h.symm, fun g => g.trans h⟩

@[simp] theorem touches_refl (ps : List Part) (os : List (Nat × Nat)) (s : State) : Touches ps os s s := .refl ps os s

section
variable {ps : List Part} {os : List (Nat × Nat)} {s u : State}

/-- Listing more parts and objects says less. -/
theorem Touches.mono {ps' : List Part} {os' : List (Nat × Nat)} (h : Touches ps os s u) (hps : ps ⊆ ps') (hos : os ⊆ os') : Touches ps' os' s u :=
  ⟨fun p hp => h.1 p fun m => hp (hps m), fun i j r hj hr hm => h.2.1 i j r hj hr fun m => hm (hos m), h.2.2⟩

@[simp] theorem touches_settle : Touches ps os s (settle u) ↔ Touches ps os s u := (Touches.refl ps os u).settle.iff_of
@[simp] theorem touches_raise (code : Nat) (l : List Byte) : Touches ps os s (raise code l u) ↔ Touches ps os s u :=
  ((Touches.refl ps os u).raise code l).iff_of
@[simp] theorem touches_emit (o : Out) : Touches ps os s (u.emit o) ↔ Touches ps os s u := ((Touches.refl ps os u).emit o).iff_of
@[simp] theorem touches_onLog (f : LogSt → LogSt) : Touches ps os s (u.onLog f) ↔ Touches ps os s u := ((Touches.refl ps os u).onLog f).iff_of
@[simp] theorem touches_countWindow (code key a b : Nat) : Touches ps os s (countWindow code key a b u) ↔ Touches ps os s u :=
  ((Touches.refl ps os u).countWindow code key a b).iff_of
@[simp] theorem touches_raiseUpTo (n code key : Nat) (l : List Byte) : Touches ps os s (raiseUpTo n code key l u) ↔ Touches ps os s u := by
  unfold raiseUpTo
  split <;> simp
@[simp] theorem touches_raiseOnce (code key : Nat) (l : List Byte) : Touches ps os s (raiseOnce code key l u) ↔ Touches ps os s u :=
  touches_raiseUpTo 1 code key l

@[simp] theorem touches_ite (c : Prop) [Decidable c] (v : State) :
    Touches ps os s (if c then u else v) ↔ if c then Touches ps os s u else Touches ps os s v := by
  split <;> rfl

@[simp] theorem touches_onPower (m : Part.power ∈ ps) (f : PowerSt → PowerSt) : Touches ps os s (u.onPower f) ↔ Touches ps os s u :=
  ((Touches.refl ps os u).onPower m f).iff_of
@[simp] theorem touches_onTime (m : Part.time ∈ ps) (f : TimeSt → TimeSt) : Touches ps os s (u.onTime f) ↔ Touches ps os s u :=
  ((Touches.refl ps os u).onTime m f).iff_of
@[simp] theorem touches_onPorts (m : Part.port ∈ ps) (f : PortSt → PortSt) : Touches ps os s (u.onPorts f) ↔ Touches ps os s u :=
  ((Touches.refl ps os u).onPorts m f).iff_of
@[simp] theorem touches_onIngest (m : Part.ingest ∈ ps) (f : IngestSt → IngestSt) : Touches ps os s (u.onIngest f) ↔ Touches ps os s u :=
  ((Touches.refl ps os u).onIngest m f).iff_of
@[simp] theorem touches_onPlace (m : Part.place ∈ ps) (f : PlaceSt → PlaceSt) : Touches ps os s (u.onPlace f) ↔ Touches ps os s u :=
  ((Touches.refl ps os u).onPlace m f).iff_of
@[simp] theorem touches_onEddy (m : Part.eddy ∈ ps) (f : EddySt → EddySt) : Touches ps os s (u.onEddy f) ↔ Touches ps os s u :=
  ((Touches.refl ps os u).onEddy m f).iff_of
@[simp] theorem touches_onOxbow (m : Part.oxbow ∈ ps) (f : OxbowSt → OxbowSt) : Touches ps os s (u.onOxbow f) ↔ Touches ps os s u :=
  ((Touches.refl ps os u).onOxbow m f).iff_of
@[simp] theorem touches_onAlarm (m : Part.alarm ∈ ps) (f : AlarmSt → AlarmSt) : Touches ps os s (u.onAlarm f) ↔ Touches ps os s u :=
  ((Touches.refl ps os u).onAlarm m f).iff_of
@[simp] theorem touches_onPub (m : Part.pub ∈ ps) (f : PubSt → PubSt) : Touches ps os s (u.onPub f) ↔ Touches ps os s u :=
  ((Touches.refl ps os u).onPub m f).iff_of
@[simp] theorem touches_onHead (m : Part.head ∈ ps) (f : HeadSt → HeadSt) : Touches ps os s (u.onHead f) ↔ Touches ps os s u :=
  ((Touches.refl ps os u).onHead m f).iff_of
@[simp] theorem touches_onCapture (m : Part.capture ∈ ps) (f : CaptureSt → CaptureSt) : Touches ps os s (u.onCapture f) ↔ Touches ps os s u :=
  ((Touches.refl ps os u).onCapture m f).iff_of
@[simp] theorem touches_onLeash (m : Part.leash ∈ ps) (f : LeashSt → LeashSt) : Touches ps os s (u.onLeash f) ↔ Touches ps os s u :=
  ((Touches.refl ps os u).onLeash m f).iff_of
@[simp] theorem touches_onEnergy (m : Part.energy ∈ ps) (f : EnergySt → EnergySt) : Touches ps os s (u.onEnergy f) ↔ Touches ps os s u :=
  ((Touches.refl ps os u).onEnergy m f).iff_of
@[simp] theorem touches_onJobs (m : Part.jobs ∈ ps) (f : JobSt → JobSt) : Touches ps os s (u.onJobs f) ↔ Touches ps os s u :=
  ((Touches.refl ps os u).onJobs m f).iff_of
@[simp] theorem touches_onImian (m : Part.imian ∈ ps) (f : ImianSt → ImianSt) : Touches ps os s (u.onImian f) ↔ Touches ps os s u :=
  ((Touches.refl ps os u).onImian m f).iff_of
@[simp] theorem touches_onSets (m : Part.sets ∈ ps) (f : SetSt → SetSt) : Touches ps os s (u.onSets f) ↔ Touches ps os s u :=
  ((Touches.refl ps os u).onSets m f).iff_of
@[simp] theorem touches_onHost (m : Part.host ∈ ps) (f : HostSt → HostSt) : Touches ps os s (u.onHost f) ↔ Touches ps os s u :=
  ((Touches.refl ps os u).onHost m f).iff_of
@[simp] theorem touches_onHk (m : Part.hk ∈ ps) (f : HkSt → HkSt) : Touches ps os s (u.onHk f) ↔ Touches ps os s u :=
  ((Touches.refl ps os u).onHk m f).iff_of
@[simp] theorem touches_onKeys (m : Part.keys ∈ ps) (f : KeySt → KeySt) : Touches ps os s (u.onKeys f) ↔ Touches ps os s u :=
  ((Touches.refl ps os u).onKeys m f).iff_of
@[simp] theorem touches_onDuplex (m : Part.duplex ∈ ps) (f : DuplexSt → DuplexSt) : Touches ps os s (u.onDuplex f) ↔ Touches ps os s u :=
  ((Touches.refl ps os u).onDuplex m f).iff_of

@[simp] theorem touches_setSluice (m : Part.host ∈ ps) (q : Nat) (x : Sluice) : Touches ps os s (u.setSluice q x) ↔ Touches ps os s u :=
  touches_onHost m _
@[simp] theorem touches_signal (m : Part.host ∈ ps) (n : Nat) : Touches ps os s (u.signal n) ↔ Touches ps os s u :=
  ((Touches.refl ps os u).signal m n).iff_of
@[simp] theorem touches_interrupt (m : Part.host ∈ ps) (n : Nat) : Touches ps os s (u.interrupt n) ↔ Touches ps os s u :=
  ((Touches.refl ps os u).interrupt m n).iff_of
@[simp] theorem touches_setLive (m : Part.live ∈ ps) (i j r : Nat) (v : Val) : Touches ps os s (u.setLive i j r v) ↔ Touches ps os s u :=
  ((Touches.refl ps os u).setLive m i j r v).iff_of
@[simp] theorem touches_drawn (m : Part.draws ∈ ps) : Touches ps os s u.drawn ↔ Touches ps os s u := by
  refine Touches.iff_of ⟨fun p hp => ?_, (ObjectsKept.refl os u).of_status (by simp), by simp⟩
  cases p
  case draws => exact absurd m hp
  all_goals simp [Part.same]

@[simp] theorem touches_account (m : Part.imian ∈ ps) (h1 : (0x1120, 1) ∈ os) (h2 : (0x1120, 2) ∈ os) (w : Who) (n : Nat) :
    Touches ps os s (account w n u) ↔ Touches ps os s u := ((Touches.refl ps os u).account m h1 h2 w n).iff_of

/-! An RO object that is listed. -/

@[simp] theorem touches_setRoV {i j r : Nat} (m : (i, j) ∈ os) (hj : j < 256) (hr : r < 0x1000000) (v : Val) :
    Touches ps os s (u.setRoV i j r v) ↔ Touches ps os s u :=
  Touches.iff_of ⟨fun p _ => by cases p <;> simp [Part.same], (ObjectsKept.refl os u).write (.inl m) hj hr v _ (by simp), by simp⟩
@[simp] theorem touches_setRow {i j r : Nat} (m : (i, j) ∈ os) (hj : j < 256) (hr : r < 0x1000000) (n : Nat) :
    Touches ps os s (u.setRow i j r n) ↔ Touches ps os s u := touches_setRoV m hj hr _
@[simp] theorem touches_setRo {i j : Nat} (m : (i, j) ∈ os) (hj : j < 256) (n : Nat) : Touches ps os s (u.setRo i j n) ↔ Touches ps os s u :=
  touches_setRoV m hj noRow_lt _
@[simp] theorem touches_setRoBytes {i j r : Nat} (m : (i, j) ∈ os) (hj : j < 256) (hr : r < 0x1000000) (b : List Byte) :
    Touches ps os s (u.setRoBytes i j b r) ↔ Touches ps os s u := touches_setRoV m hj hr _
@[simp] theorem touches_addTo {i j r : Nat} (m : (i, j) ∈ os) (hj : j < 256) (hr : r < 0x1000000) (n : Nat) :
    Touches ps os s (u.addTo i j n r) ↔ Touches ps os s u := touches_setRow m hj hr _
@[simp] theorem touches_bump {i j r : Nat} (m : (i, j) ∈ os) (hj : j < 256) (hr : r < 0x1000000) :
    Touches ps os s (u.bump i j r) ↔ Touches ps os s u := touches_addTo m hj hr 1

/-- Steps of a fold that stay within the listed parts can all be taken away. -/
theorem touches_foldl {α : Type} {f : State → α → State} {l : List α} (h : ∀ u, ∀ a ∈ l, Touches ps os u (f u a)) :
    Touches ps os s (l.foldl f u) ↔ Touches ps os s u := by
  refine Touches.iff_of ?_
  induction l generalizing u with
  | nil => exact .refl ps os u
  | cons a l ih => exact (h u a (by simp)).trans (ih fun v b hb => h v b (by simp [hb]))

end

/-- A command whose effect leaves the state it runs on touches nothing. -/
theorem Answers.unchanged {i : Instr} {s : State} {t : Nat} {f : State → State} (h : exec i s = complete t f s)
    (hf : f (s.advance t) = s.advance t) : Answers i s fun u => Touches [] [] (s.advance t) u :=
  .of h (by simp [hf])

/-! ### RO objects read after updates -/

theorem okey_ne {i j r a b c : Nat} (hne : (a, b) ≠ (i, j)) (hj : j < 256) (hr : r < 0x1000000) (hb : b < 256) (hc : c < 0x1000000) :
    okey a b c ≠ okey i j r := by
  intro h
  obtain ⟨rfl, rfl, -⟩ := okey_eq hj hr hb hc h
  exact hne rfl

theorem okey_ne_row {i j r c : Nat} (hne : c ≠ r) : okey i j c ≠ okey i j r := by
  unfold okey
  omega

section
variable {i j r a b c : Nat}

@[simp] theorem ro_setRow_of_ne (hne : (a, b) ≠ (i, j)) (hj : j < 256) (hr : r < 0x1000000) (hb : b < 256) (hc : c < 0x1000000) (s : State) (n : Nat) :
    (s.setRow i j r n).ro a b c = s.ro a b c := ro_setRow_ne s (okey_ne hne hj hr hb hc)
@[simp] theorem ro_setRo_of_ne (hne : (a, b) ≠ (i, j)) (hj : j < 256) (hb : b < 256) (hc : c < 0x1000000) (s : State) (n : Nat) :
    (s.setRo i j n).ro a b c = s.ro a b c := ro_setRow_of_ne hne hj noRow_lt hb hc s n
@[simp] theorem ro_bump_of_ne (hne : (a, b) ≠ (i, j)) (hj : j < 256) (hr : r < 0x1000000) (hb : b < 256) (hc : c < 0x1000000) (s : State) :
    (s.bump i j r).ro a b c = s.ro a b c := ro_setRow_of_ne hne hj hr hb hc s _
@[simp] theorem ro_addTo_of_ne (hne : (a, b) ≠ (i, j)) (hj : j < 256) (hr : r < 0x1000000) (hb : b < 256) (hc : c < 0x1000000) (s : State) (n : Nat) :
    (s.addTo i j n r).ro a b c = s.ro a b c := ro_setRow_of_ne hne hj hr hb hc s _
@[simp] theorem ro_setRoBytes_of_ne (hne : (a, b) ≠ (i, j)) (hj : j < 256) (hr : r < 0x1000000) (hb : b < 256) (hc : c < 0x1000000) (s : State)
    (l : List Byte) : (s.setRoBytes i j l r).ro a b c = s.ro a b c :=
  congrArg Val.bits (readIn_writeIn_ne s.status (okey_ne hne hj hr hb hc) _)

/-- A write to an object of a higher index, whatever its row, leaves an object. -/
@[simp] theorem ro_setRow_above (h : a < i) (hb : b < 256) (hc : c < 0x1000000) (s : State) (n : Nat) : (s.setRow i j r n).ro a b c = s.ro a b c :=
  ro_setRow_ne s (by unfold okey; omega)
@[simp] theorem ro_bump_above (h : a < i) (hb : b < 256) (hc : c < 0x1000000) (s : State) : (s.bump i j r).ro a b c = s.ro a b c :=
  ro_setRow_above h hb hc s _
@[simp] theorem ro_addTo_above (h : a < i) (hb : b < 256) (hc : c < 0x1000000) (s : State) (n : Nat) : (s.addTo i j n r).ro a b c = s.ro a b c :=
  ro_setRow_above h hb hc s _

/-- An event counts, at most, in 0x2E20. -/
@[simp] theorem ro_raise (ha : a ≠ 0x2E20) (hb : b < 256) (hc : c < 0x1000000) (code : Nat) (l : List Byte) (s : State) :
    (raise code l s).ro a b c = s.ro a b c := raise_ro code l s ha hb hc
@[simp] theorem ro_settle (ha : a ≠ 0x2E20) (hb : b < 256) (hc : c < 0x1000000) (s : State) : (settle s).ro a b c = s.ro a b c :=
  settle_ro s ha hb hc
@[simp] theorem ro_raiseUpTo (ha : a ≠ 0x2E20) (hb : b < 256) (hc : c < 0x1000000) (n code key : Nat) (l : List Byte) (s : State) :
    (raiseUpTo n code key l s).ro a b c = s.ro a b c := by
  unfold raiseUpTo
  split <;> simp [ha, hb, hc]
@[simp] theorem ro_raiseOnce (ha : a ≠ 0x2E20) (hb : b < 256) (hc : c < 0x1000000) (code key : Nat) (l : List Byte) (s : State) :
    (raiseOnce code key l s).ro a b c = s.ro a b c := ro_raiseUpTo ha hb hc 1 code key l s
/-- Accounting counts in 0x1120. -/
@[simp] theorem ro_account (ha : a ≠ 0x1120) (hb : b < 256) (hc : c < 0x1000000) (w : Who) (n : Nat) (s : State) :
    (account w n s).ro a b c = s.ro a b c := by
  have hcount : (if n = 0 then s.bump 0x1120 0x01 else (s.bump 0x1120 0x01).bump 0x1120 0x02).ro a b c = s.ro a b c := by
    split <;> simp [ha, hb, hc, noRow_lt]
  unfold account
  dsimp only
  rw [← hcount]
  split
  · split <;> simp
  · simp
  · rfl

end

end Sys2Proof.Machine
end

section
/-! What a capture trigger leaves as it was: time, the alarms, and the RO objects of the chapters before capture's. -/

namespace Sys2Proof.Machine
open Sys2Proof

section
variable {a b c : Nat} (ha : a < 0x2A00) (hb : b < 256) (hc : c < 0x1000000)
include ha hb hc

theorem sluicePost_leaves (q : Nat) (words : List Nat) (s : State) :
    (sluicePost q words s).time = s.time ∧ (sluicePost q words s).ro a b c = s.ro a b c ∧ (sluicePost q words s).alarm = s.alarm := by
  have hlose (owe : Bool) : (sluiceLose q owe s).ro a b c = s.ro a b c := by simp [sluiceLose, show a < 0x2D10 by omega, hb, hc]
  unfold sluicePost
  dsimp only
  repeat' split
  all_goals simp [hlose, show a < 0x2D10 by omega, hb, hc]

theorem captureNotice_leaves (kind row flags cause number t0 rows : Nat) (s : State) :
    (captureNotice kind row flags cause number t0 rows s).time = s.time ∧
    (captureNotice kind row flags cause number t0 rows s).ro a b c = s.ro a b c ∧ (captureNotice kind row flags cause number t0 rows s).alarm = s.alarm := sluicePost_leaves ha hb hc 3 _ s

theorem suppress_leaves (x : Trig) (cause : Nat) (s : State) :
    (suppress x cause s).time = s.time ∧ (suppress x cause s).ro a b c = s.ro a b c ∧ (suppress x cause s).alarm = s.alarm := by
  simp [suppress, captureNotice_leaves ha hb hc, show a < 0x2A40 by omega, show a ≠ 0x2E20 by omega, hb, hc]

theorem showFree_leaves (s : State) : (showFree s).time = s.time ∧ (showFree s).ro a b c = s.ro a b c ∧ (showFree s).alarm = s.alarm := by
  simp [showFree, show a ≠ 0x2A01 by omega, hb, hc]

theorem endRecord_leaves (cause : Nat) (s : State) : (endRecord cause s).time = s.time ∧ (endRecord cause s).ro a b c = s.ro a b c ∧ (endRecord cause s).alarm = s.alarm := by
  unfold endRecord
  dsimp only
  split
  · simp
  · split <;> simp [showFree_leaves ha hb hc, show a < 0x2A40 by omega, show a ≠ 0x2A01 by omega, show a < 0x2A20 by omega, hb, hc]

theorem checkRecord_leaves (s : State) : (checkRecord s).time = s.time ∧ (checkRecord s).ro a b c = s.ro a b c ∧ (checkRecord s).alarm = s.alarm := by
  unfold checkRecord
  repeat' split
  all_goals simp [endRecord_leaves ha hb hc]

theorem startRecord_leaves (x : Trig) (late : Bool) (s : State) :
    (startRecord x late s).time = s.time ∧ (startRecord x late s).ro a b c = s.ro a b c ∧ (startRecord x late s).alarm = s.alarm := by
  simp [startRecord, checkRecord_leaves ha hb hc, show a ≠ 0x2A01 by omega, show a < 0x2A20 by omega, hb, hc]

theorem takeTrigger_leaves (x : Trig) (late : Bool) (s : State) :
    (takeTrigger x late s).time = s.time ∧ (takeTrigger x late s).ro a b c = s.ro a b c ∧ (takeTrigger x late s).alarm = s.alarm := by
  unfold takeTrigger
  dsimp only
  repeat' split
  all_goals simp [suppress_leaves ha hb hc, startRecord_leaves ha hb hc, checkRecord_leaves ha hb hc, show a < 0x2A40 by omega, hb, hc]

theorem rowFires_leaves (n t0 ref : Nat) (s : State) :
    (rowFires n t0 ref s).time = s.time ∧ (rowFires n t0 ref s).ro a b c = s.ro a b c ∧ (rowFires n t0 ref s).alarm = s.alarm := by
  unfold rowFires leashForward
  dsimp only
  repeat' split
  all_goals simp [takeTrigger_leaves ha hb hc, show a < 0x2A40 by omega, hb, hc]

theorem stampTriggers_leaves (input t0 : Nat) (rising : Bool) (s : State) :
    (stampTriggers input t0 rising s).time = s.time ∧ (stampTriggers input t0 rising s).ro a b c = s.ro a b c ∧ (stampTriggers input t0 rising s).alarm = s.alarm := by
  unfold stampTriggers
  generalize triggerRows s _ = rows
  induction rows generalizing s with
  | nil => simp
  | cons n rows ih =>
    rw [List.foldl_cons, (ih _).1, (ih _).2.1, (ih _).2.2]
    dsimp only
    split
    · exact rowFires_leaves ha hb hc n t0 0 s
    · exact ⟨rfl, rfl, rfl⟩

end

end Sys2Proof.Machine
end

section
/-! The time sources (R44–R48): what PTP messages, 1PPS edges, IRIG-B frames and TRIG_IN edges measure. -/

namespace Sys2Proof.Machine
open Sys2Proof

/-! ### The shared operations of the sources -/

section
variable {ps : List Part} {os : List (Nat × Nat)} {s u : State}

theorem touches_enterHoldover (m : Part.time ∈ ps) (h : (0x2030, 2) ∈ os) : Touches ps os s (enterHoldover u) ↔ Touches ps os s u := by
  simp [enterHoldover, m, h]

theorem touches_disqualify (m : Part.time ∈ ps) (h : (0x2030, 2) ∈ os) (src : Nat) :
    Touches ps os s (disqualify src u) ↔ Touches ps os s u := by
  simp [disqualify, touches_enterHoldover, m, h]

theorem touches_measure (m : Part.time ∈ ps) (h : (0x2030, 6) ∈ os) (src : Nat) (raw filtered : Int) (steady : Bool) :
    Touches ps os s (measure src raw filtered steady u) ↔ Touches ps os s u := by
  simp [measure, measureF, m, h]

theorem touches_choosePtp (m : Part.time ∈ ps) (h1 : (0x2003, 1) ∈ os) (h2 : (0x2003, 2) ∈ os) (before : Option Announce) :
    Touches ps os s (choosePtp before u) ↔ Touches ps os s u := by
  unfold choosePtp
  dsimp only
  split <;> simp [m, h1, h2]

theorem touches_reportDelta (m : Part.time ∈ ps) : Touches ps os s (reportDelta u) ↔ Touches ps os s u := by
  unfold reportDelta
  dsimp only
  split <;> simp [m]

theorem touches_takeAnnounce (m : Part.time ∈ ps) (h1 : (0x2003, 1) ∈ os) (h2 : (0x2003, 2) ∈ os) (h3 : (0x2030, 2) ∈ os) (port : Nat) (a : Announce) :
    Touches ps os s (takeAnnounce port a u) ↔ Touches ps os s u := by
  unfold takeAnnounce
  dsimp only
  split <;> simp [m, h1, h2, h3, touches_choosePtp, touches_disqualify, touches_reportDelta, scheduleLeap]

end

/-- The choice of the PTP port writes its port, what a new grandmaster interrupts and a leap's correction; nothing that was measured. -/
theorem choosePtp_time (before : Option Announce) (s : State) :
    (choosePtp before s).time.announces = s.time.announces ∧ (choosePtp before s).time.ptpPort = bestPort (freshAnnounces s) ∧
    (choosePtp before s).time.ptp.lastAnnounce = s.time.ptp.lastAnnounce ∧ (choosePtp before s).time.ptp.offset = s.time.ptp.offset ∧
    (choosePtp before s).time.ptp.lastSeen = s.time.ptp.lastSeen ∧ (choosePtp before s).time.f = s.time.f ∧
    (choosePtp before s).time.t96x = s.time.t96x ∧ (choosePtp before s).time.pathDelay = s.time.pathDelay ∧
    (choosePtp before s).now = s.now ∧ (choosePtp before s).active = s.active := by
  unfold choosePtp
  dsimp only
  split
  · simp
  · repeat' split
    all_goals simp


/-! ### PTP messages (R44, R45, R59) -/

/-- Disqualifying a source leaves what it and every source was heard and measured to be. -/
theorem disqualify_time (src : Nat) (s : State) :
    (disqualify src s).time.announces = s.time.announces ∧ (disqualify src s).time.irigLast = s.time.irigLast ∧
    (disqualify src s).time.ptp.lastAnnounce = s.time.ptp.lastAnnounce ∧ (disqualify src s).time.pps.offset = s.time.pps.offset ∧
    (disqualify src s).time.pps.lastSeen = s.time.pps.lastSeen ∧ (disqualify src s).time.irig.offset = s.time.irig.offset := by
  unfold disqualify enterHoldover TimeSt.setSource TimeSt.source
  dsimp only
  repeat' split
  all_goals simp [*]

/-- A source's record written is the one read. -/
theorem source_setSource_self {src : Nat} (h1 : 1 ≤ src) (h3 : src ≤ 3) (x : TimeSt) (r : Source) : (x.setSource src r).source src = r := by
  obtain rfl | rfl | rfl : src = 1 ∨ src = 2 ∨ src = 3 := by omega
  all_goals simp [TimeSt.source, TimeSt.setSource]

/-- A source disqualified is not qualified. -/
theorem disqualify_qualified {src : Nat} (h1 : 1 ≤ src) (h3 : src ≤ 3) (s : State) : ((disqualify src s).time.source src).qualified = false := by
  unfold disqualify
  extract_lets r s1
  have hwritten : (s1.time.source src).qualified = false := by simp [s1, source_setSource_self h1 h3]
  split
  · rw [← hwritten]
    simp [enterHoldover, TimeSt.source]
  · exact hwritten

theorem reportDelta_announces (s : State) :
    (reportDelta s).time.announces = s.time.announces ∧ (reportDelta s).time.ptp = s.time.ptp := by
  unfold reportDelta
  dsimp only
  repeat' split
  all_goals simp

/-- An Announce taken is the dataset of its port, heard now. -/
theorem takeAnnounce_announces (port : Nat) (a : Announce) (s : State) :
    (takeAnnounce port a s).time.announces = putKey port a s.time.announces ∧ (takeAnnounce port a s).time.ptp.lastAnnounce = s.now := by
  unfold takeAnnounce
  dsimp only
  split
  · simp [choosePtp_time]
  · repeat' split
    all_goals simp [choosePtp_time, disqualify_time, reportDelta_announces, scheduleLeap]

@[simp] theorem setSource_irigLast (src : Nat) (x : TimeSt) (r : Source) : (x.setSource src r).irigLast = x.irigLast := by
  unfold TimeSt.setSource
  repeat' split
  all_goals rfl

theorem measureF_bad {src : Nat} (h1 : 1 ≤ src) (h3 : src ≤ 3) (filtered : Int) (inside : Bool) (s : State) :
    ((measureF src filtered inside s).time.source src).bad = (s.time.source src).bad := by
  obtain rfl | rfl | rfl : src = 1 ∨ src = 2 ∨ src = 3 := by omega
  all_goals simp [measureF, TimeSt.source, TimeSt.setSource]

/-- A measurement leaves the source with the filtered offset, seen now; it says nothing of bad frames. -/
theorem measure_source {src : Nat} (h1 : 1 ≤ src) (h3 : src ≤ 3) (raw filtered : Int) (steady : Bool) (s : State) :
    ((measure src raw filtered steady s).time.source src).offset = filtered ∧
    ((measure src raw filtered steady s).time.source src).lastSeen = s.now ∧
    ((measure src raw filtered steady s).time.source src).bad = (s.time.source src).bad := by
  unfold measure
  extract_lets r inside enters good since s1 before r1 s2 s3
  have hwritten : s2.time.source src = r1 := by simp [s2, source_setSource_self h1 h3]
  have hevent : s3.time.source src = r1 := by
    rw [← hwritten]
    unfold s3
    split <;> simp
  have hnow : s1.now = s.now := by simp [s1, measureF]
  have hbad : before.bad = (s.time.source src).bad := measureF_bad h1 h3 filtered inside s
  suffices h : (if s3.time.selected = src && inside then s3.onTime fun x => { x with slew := -filtered } else s3).time.source src = r1 by
    rw [h]
    simp [r1, hnow, hbad]
  rw [← hevent]
  split <;> simp [TimeSt.source]

theorem measure_irigLast (src : Nat) (raw filtered : Int) (steady : Bool) (s : State) :
    (measure src raw filtered steady s).time.irigLast = s.time.irigLast := by
  unfold measure
  extract_lets r inside enters good since s1 before r1 s2 s3
  have hevent : s3.time.irigLast = s.time.irigLast := by
    unfold s3
    split <;> simp [s2, s1, measureF]
  rw [← hevent]
  split <;> simp

/-- A Sync of the chosen master is measured. -/
theorem ptpSync_chosen {port parent : Nat} {s : State} (hbest : bestPort (freshAnnounces s) = some port)
    (hparent : (lookup port s.time.announces).map (·.parent) = some parent) (origin : Nat) (correction : Int) :
    ptpSync port parent origin correction s = takeSync port origin correction (choosePtp s.time.announce s) := by
  obtain ⟨a, ha, hap⟩ := Option.map_eq_some_iff.1 hparent
  simp [ptpSync, TimeSt.announce, choosePtp_time, hbest, ha, hap]

/-- A Sync on another port is not. -/
theorem ptpSync_notChosen {port : Nat} {s : State} (hbest : bestPort (freshAnnounces s) ≠ some port) (parent origin : Nat) (correction : Int) :
    ptpSync port parent origin correction s = choosePtp s.time.announce s := by
  unfold ptpSync
  dsimp only
  split <;> simp [choosePtp_time, hbest]

theorem syncOffset_choosePtp (port origin : Nat) (correction : Int) (before : Option Announce) (s : State) :
    syncOffset port origin correction (choosePtp before s) = syncOffset port origin correction s := by
  simp [syncOffset, State.t96Minus, State.cfgInt, State.cfg, choosePtp_time]

theorem takeSync_ptp (port origin : Nat) (correction : Int) (s : State) :
    (takeSync port origin correction s).time.ptp.offset = Config.servoFilter s.time.ptp.offset (syncOffset port origin correction s) ∧
    (takeSync port origin correction s).time.ptp.lastSeen = s.now :=
  have h := measure_source (src := 1) (by omega) (by omega) (syncOffset port origin correction s)
    (Config.servoFilter s.time.ptp.offset (syncOffset port origin correction s)) _ s
  ⟨h.1, h.2.1⟩

/-! ### 1PPS edges (R46, R47) -/

/-- A 1PPS edge taken leaves 1PPS with the offset, filtered from the second edge on, seen now. -/
theorem ppsEdge_taken {s : State} (hon : sourceEnabled s 2 = true) (hset : s.time.isSet = true) :
    (ppsEdge (s.cfg 0x2004 0x04 == 0) s).time.pps.lastSeen = s.now ∧
    (ppsEdge (s.cfg 0x2004 0x04 == 0) s).time.pps.offset =
      if s.time.pps.lastSeen = 0 then ppsOffset s else Config.servoFilter s.time.pps.offset (ppsOffset s) := by
  unfold ppsEdge
  rw [if_neg (by simp [hon, hset])]
  extract_lets raw r good filt bad s1
  have hmeasured := measure_source (src := 2) (by omega) (by omega) raw filt good s1
  have hfilt : filt = if s.time.pps.lastSeen = 0 then ppsOffset s else Config.servoFilter s.time.pps.offset (ppsOffset s) := by
    simp [filt, raw, r]
  rw [← hfilt]
  obtain ⟨hoffset, hseen, -⟩ := hmeasured
  split <;> simpa [disqualify_time, TimeSt.source, s1] using And.intro hseen hoffset

theorem touches_takeSync {ps : List Part} {os : List (Nat × Nat)} {s u : State} (m : Part.time ∈ ps) (h : (0x2030, 6) ∈ os) (port origin : Nat)
    (correction : Int) : Touches ps os s (takeSync port origin correction u) ↔ Touches ps os s u := by
  simp [takeSync, touches_measure, m, h]

/-! ### IRIG-B frames (R46, R47) -/

/-- A good IRIG-B frame is kept and leaves IRIG-B with the offset, filtered from the second frame on, seen now. -/
theorem irigFrame_good {f : IrigFrame} {s : State} (hon : sourceEnabled s 3 = true) (hgood : irigGood f s = true) :
    (irigFrame f s).time.irigLast = some f ∧ (irigFrame f s).time.irig.lastSeen = s.now ∧ (irigFrame f s).time.irig.bad = 0 ∧
    (irigFrame f s).time.irig.offset =
      if s.time.irig.lastSeen = 0 then irigOffset f s else Config.servoFilter s.time.irig.offset (irigOffset f s) := by
  unfold irigFrame
  rw [if_neg (by simp [hon])]
  extract_lets good s1 n s2 raw first filt s3 s4
  have hgoodness : good = true := hgood
  obtain ⟨hoffset, hseen, hbad⟩ := measure_source (src := 3) (by omega) (by omega) raw filt true s3
  have hlast : s4.time.irigLast = some f := by simp [s4, measure_irigLast, s3, s1]
  have hfilt : filt = if s.time.irig.lastSeen = 0 then irigOffset f s else Config.servoFilter s.time.irig.offset (irigOffset f s) := by
    simp [filt, first, raw, s1, irigOffset, State.t96Minus, State.delta, State.cfgInt, State.cfg, TimeSt.announce]
  have hzero : s4.time.irig.bad = 0 := by simpa [TimeSt.source, s3] using hbad
  have hmeasured : s4.time.irig.offset = filt ∧ s4.time.irig.lastSeen = s.now := by simpa [TimeSt.source, s3, s1] using And.intro hoffset hseen
  rw [if_neg (by simp [hgoodness]), ← hfilt]
  repeat' split
  all_goals simp [scheduleLeap, hlast, hzero, hmeasured]

/-- A bad IRIG-B frame is kept and counted; the second in succession leaves IRIG-B unqualified. -/
theorem irigFrame_bad {f : IrigFrame} {s : State} (hon : sourceEnabled s 3 = true) (hbad : irigGood f s = false) :
    (irigFrame f s).time.irigLast = some f ∧ (irigFrame f s).ro 0x2030 0x05 = (s.ro 0x2030 0x05 + 1) % 2 ^ 32 ∧
    (irigFrame f s).time.irig.offset = s.time.irig.offset ∧
    (1 ≤ s.time.irig.bad → (irigFrame f s).time.irig.qualified = false) := by
  unfold irigFrame
  rw [if_neg (by simp [hon])]
  extract_lets good s1 n s2 raw first filt s3 s4
  have hbadness : good = false := hbad
  have hcount : s2.ro 0x2030 0x05 = (s.ro 0x2030 0x05 + 1) % 2 ^ 32 := by
    rw [show s2 = _ from rfl, ro_bump_self, show widthOf 0x2030 0x05 = 32 from rfl]
    simp [s1]
  rw [if_pos (by simp [hbadness])]
  split
  next htwice =>
    refine ⟨by simp [disqualify_time, s2, s1], ?_, by simp [disqualify_time, s2, s1], fun _ => ?_⟩
    · rw [← hcount]
      unfold disqualify enterHoldover
      dsimp only
      split <;> simp
    · exact disqualify_qualified (src := 3) (by omega) (by omega) s2
  next honce =>
    refine ⟨by simp [s2, s1], hcount, by simp [s2, s1], fun h => absurd h ?_⟩
    have hn : n = s.time.irig.bad + 1 := by simp [n, s1]
    omega

/-! ### TRIG_IN edges (R62, R63) -/

/-- The polarity selected for an input takes this edge. -/
theorem trigSelected {sel : Nat} {rising : Bool} (h : sel = 2 ∨ sel = b2n (!rising)) :
    (sel == 2 || (sel == 0 && rising) || (sel == 1 && !rising)) = true := by
  rcases h with rfl | rfl <;> cases rising <;> rfl

/-- An edge of the selected polarity, apart from the last one stamped, is stamped and counted, and triggers. -/
theorem trigInEdge_taken {input : Nat} {rising : Bool} {s : State} (hgdie : s.gdieOn = true) (hinput : input < 4)
    (hsel : s.cfg 0x2008 0x01 input = 2 ∨ s.cfg 0x2008 0x01 input = b2n (!rising))
    (hapart : (lookup input s.time.trigLast).all (fun l => l + 10000 ≤ s.now) = true) :
    trigInEdge input rising s = stampTriggers input s.t96 rising
      (((s.onTime fun x => { x with trigLast := putKey input s.now x.trigLast }).setRow 0x2009 0x01 input s.t96).bump 0x2009 0x02 input) := by
  cases hlast : lookup input s.time.trigLast with
  | none => simp [trigInEdge, hgdie, hinput, trigSelected hsel, hlast, State.t96]
  | some l =>
    have hnot : ¬ s.now < l + 10000 := by simpa [hlast] using hapart
    simp [trigInEdge, hgdie, hinput, trigSelected hsel, hlast, hnot, State.t96]

/-- A closer one is only counted. -/
theorem trigInEdge_close {input l : Nat} {rising : Bool} {s : State} (hgdie : s.gdieOn = true) (hinput : input < 4)
    (hsel : s.cfg 0x2008 0x01 input = 2 ∨ s.cfg 0x2008 0x01 input = b2n (!rising)) (hlast : lookup input s.time.trigLast = some l)
    (hclose : s.now < l + 10000) : trigInEdge input rising s = s.bump 0x2030 0x07 := by
  simp [trigInEdge, hgdie, hinput, trigSelected hsel, hlast, hclose]

/-- Settles O2: each message, edge or frame by the rule of its measurement, and by the parts that measuring touches. -/
theorem timeSourcesAreMeasured : Obligations.TimeSourcesAreMeasured := by
  refine ⟨?announce, ?sync, ?syncElsewhere, ?pdelay, ?pdelayReq, ?other, ?pps, ?ppsOther, ?irigGood, ?irigBad, ?irigOff, ?trig, ?trigClose,
    ?trigOther, ?lock, ?lockBefore⟩
  case announce =>
    intro t port parent gm p1 cc acc var p2 steps utc ok l61 l59 s hruns
    refine .of (f := ptpMessage port false _ _) rfl ?_
    simp [ptpMessage, hruns, takeAnnounce_announces, touches_takeAnnounce, settle_time_fields]
  case sync =>
    intro t port parent origin correction s hruns hbest hparent
    refine .of (f := ptpMessage port false _ _) rfl ?_
    simp [ptpMessage, hruns, ptpSync_chosen hbest (by simpa using hparent), takeSync_ptp, syncOffset_choosePtp, choosePtp_time, touches_takeSync,
      touches_choosePtp]
  case syncElsewhere =>
    intro t port parent origin correction s hruns hbest
    refine .of (f := ptpMessage port false _ _) rfl ?_
    simp [ptpMessage, hruns, ptpSync_notChosen hbest, choosePtp_time]
  case pdelay =>
    intro t port d s hruns
    refine .of (f := ptpMessage port false _ _) rfl ?_
    simp [ptpMessage, hruns]
  case pdelayReq =>
    intro t port requester seq s hruns
    refine .of (f := ptpMessage port false _ _) rfl ?_
    have hport : port < 0x1000000 := by
      have := ((ptpRuns_iff s port).1 hruns).1
      omega
    simp [ptpMessage, hruns, answerPeerDelay, sendPtp, sendPort, enqueue, State.tally, State.setPort, hport]
  case other =>
    intro t port s
    refine .unchanged (f := ptpMessage port false _ _) rfl ?_
    simp [ptpMessage]
  case pps =>
    intro t s hon hgdie hset
    refine .of (f := ppsEdge _) rfl ?_
    have htaken := ppsEdge_taken (s := s.advance t) (by simp [sourceEnabled, hon, hgdie]) (by simpa using hset)
    have htouches : Touches [.time] [(0x2030, 0x02), (0x2030, 0x06)] (s.advance t) (ppsEdge (s.cfg 0x2004 0x04 == 0) (s.advance t)) := by
      simp [ppsEdge, touches_measure, touches_disqualify]
    simpa [htouches] using htaken
  case ppsOther =>
    intro t rising s hoff
    refine .unchanged (f := ppsEdge _) rfl ?_
    rw [ppsEdge, if_pos]
    rcases hoff with h | h | h | h <;> simp [sourceEnabled, h]
  case irigGood =>
    intro t f s hon hgdie hgood
    refine .of (f := irigFrame _) rfl ?_
    have htaken := irigFrame_good (s := s.advance t) (by simp [sourceEnabled, hon, hgdie]) (by simpa [irigGood] using hgood)
    have htouches : Touches [.time] [(0x2030, 0x06)] (s.advance t) (irigFrame f (s.advance t)) := by
      have hgood' : irigGood f (s.advance t) = true := by simpa [irigGood] using hgood
      simp [irigFrame, hgood', touches_measure, scheduleLeap]
    simpa [htouches] using htaken
  case irigBad =>
    intro t f s hon hgdie hbad
    refine .of (f := irigFrame _) rfl ?_
    have hbad' : irigGood f (s.advance t) = false := by simpa [irigGood] using hbad
    have htaken := irigFrame_bad (s := s.advance t) (by simp [sourceEnabled, hon, hgdie]) hbad'
    have htouches : Touches [.time] [(0x2030, 0x02), (0x2030, 0x05)] (s.advance t) (irigFrame f (s.advance t)) := by
      simp [irigFrame, hbad', touches_disqualify]
    simpa [htouches] using htaken
  case irigOff =>
    intro t f s hoff
    refine .unchanged (f := irigFrame _) rfl ?_
    rw [irigFrame, if_pos]
    rcases hoff with h | h <;> simp [sourceEnabled, h]
  case trig =>
    intro t input rising s hgdie hinput hsel hapart
    refine .of (f := trigInEdge _ _) rfl ?_
    rw [trigInEdge_taken (by simpa using hgdie) hinput (by simpa using hsel) (by simpa using hapart)]
    have hrow : input < 0x1000000 := by omega
    have htime (u : State) := (stampTriggers_leaves (a := 0x2009) (b := 0x01) (c := input) (by decide) (by decide) hrow input (s.advance t).t96 rising u).1
    simp [htime, stampTriggers_leaves, hrow, show widthOf 0x2009 0x02 = 32 from rfl]
  case trigClose =>
    intro t input l rising s hgdie hinput hsel hlast hclose
    refine .of (f := trigInEdge _ _) rfl ?_
    rw [trigInEdge_close (by simpa using hgdie) hinput (by simpa using hsel) (by simpa using hlast) (by simpa using hclose)]
    simp [show widthOf 0x2030 0x07 = 32 from rfl]
  case trigOther =>
    intro t input rising s hboth hone
    refine .unchanged (f := trigInEdge _ _) rfl ?_
    rw [trigInEdge, if_pos]
    cases rising <;> simp_all [b2n]
  case lock =>
    intro t s hstart hpassed
    refine .of (f := startLock) rfl ?_
    simp [startLock, hstart, hpassed]
  case lockBefore =>
    intro t s hbefore
    refine .unchanged (f := startLock) rfl ?_
    rw [startLock, if_neg]
    rcases hbefore with h | h
    · simp [h]
    · simp
      omega

end Sys2Proof.Machine
end

section
/-! SOURCE_QUALIFIED also starts the grids that are due, whether or not the source qualifies. -/

namespace Sys2Proof.Machine
open Sys2Proof

/-- The group in step of the start of grids: one in use without a grid gets one. -/
theorem startGrid_group_self (g t : Nat) (s : State) : ((startGrid g t s).group g).rate = s.cfgInt 0x2301 0x01 g := by
  simp [startGrid, State.group, State.setGroup]

theorem startGrid_group_ne {g k : Nat} (h : k ≠ g) (t : Nat) (s : State) : (startGrid g t s).group k = s.group k := by
  simp [startGrid, State.group, State.setGroup, tabGet_putKey_ne h]

/-- In RUN or TRIM with T96 set, group 0 has a grid after the grids due have been started, where the active set has it in use. -/
theorem gridsFollow_group_zero {s : State} (hrun : s.running = true) (hset : s.time.isSet = true) (huse : s.cfgInt 0x2301 0x01 0 ≠ 0) :
    ((gridsFollow s).group 0).rate ≠ 0 := by
  have hrange : List.range 64 = 0 :: List.range' 1 63 := by decide
  rw [gridsFollow, if_neg (by simp [hrun, hset]), hrange, List.foldl_cons]
  generalize hu : (if s.cfgInt 0x2301 0x01 0 != 0 && (s.group 0).rate == 0 then startGrid 0 ((s.group 0).restartAt.getD s.t96) s else s) = u
  have hfirst : (u.group 0).rate ≠ 0 := by
    rw [← hu]
    split
    · rw [startGrid_group_self]
      exact huse
    next h => simpa [huse] using h
  have hothers : ∀ g ∈ List.range' 1 63, 0 ≠ g := by decide
  clear hu
  generalize List.range' 1 63 = l at hothers
  induction l generalizing u with
  | nil => exact hfirst
  | cons g l ih =>
    rw [List.foldl_cons]
    refine ih _ ?_ fun k hk => hothers k (List.mem_cons_of_mem g hk)
    split
    · rw [startGrid_group_ne (hothers g List.mem_cons_self)]
      exact hfirst
    · exact hfirst

/-- Before the qualification time has passed a source does not qualify. -/
theorem sourceQualify_notDue {src a : Nat} {s : State} (hsince : (s.time.source src).okSince = some a) (hbefore : s.now < a + ms (s.cfg 0x2001 0x07)) :
    sourceQualify src s = s := by
  simp [sourceQualify, hsince, Nat.not_le.2 hbefore]

theorem settle_groups (s : State) : (settle s).groups = s.groups := by simp

/-- RUN with T96 just set and no grid started, and PTP whose qualification time has begun but not passed. -/
def runWithoutGrids : State :=
  { State.reset with power := { PowerSt.reset with state := stRun }, time := { TimeSt.reset with isSet := true, ptp := { Source.reset with okSince := some 0 } } }

/-- Refutes O3: where a group in use has no grid yet, SOURCE_QUALIFIED starts its grid although the qualification time has not passed. -/
theorem not_sourcesQualifyFailAndAreSelected : ¬ Obligations.SourcesQualifyFailAndAreSelected := by
  intro h
  obtain ⟨-, -, hbefore, -⟩ := h
  have hwait : max runWithoutGrids.now 0 < 0 + ms (runWithoutGrids.cfg 0x2001 0x07) := by
    rw [show runWithoutGrids.cfg 0x2001 0x07 = 10000 from rfl]
    decide
  obtain ⟨u, hu, htouches⟩ := hbefore 0 1 0 runWithoutGrids rfl hwait
  obtain rfl : settle (gridsFollow (sourceQualify 1 (runWithoutGrids.advance 0))) = u := Host.Outcome.next.inj hu
  have hidle : sourceQualify 1 (runWithoutGrids.advance 0) = runWithoutGrids.advance 0 :=
    sourceQualify_notDue (a := 0) (by simp [runWithoutGrids, TimeSt.source]) (by simpa using hwait)
  rw [hidle] at htouches
  have hgroups : (settle (gridsFollow (runWithoutGrids.advance 0))).groups = [] := htouches.1 .groups (by simp)
  refine gridsFollow_group_zero (s := runWithoutGrids.advance 0) rfl rfl (by rw [show (runWithoutGrids.advance 0).cfgInt 0x2301 0x01 0 = 50 from rfl]; decide) ?_
  rw [State.group, ← settle_groups, hgroups]
  rfl

end Sys2Proof.Machine
end

section
/-! Posted events: an event stays posted while later operations only add to the input FIFO. -/

namespace Sys2Proof.Machine
open Sys2Proof

/-- A later state whose FIFO goes on from that of an earlier one has every event posted by then. -/
theorem Posted.later {code : Nat} {ps : List Byte} {s u v : State} (h : Posted code ps s u) (g : u.log.fifo <+: v.log.fifo) :
    Posted code ps s v := by
  obtain ⟨e, he, hcode⟩ := h
  obtain ⟨l, hl⟩ := g
  refine ⟨e, ?_, hcode⟩
  rw [← hl, List.drop_append]
  exact List.mem_append_left _ he

/-- With room in the FIFO an event raised on a state that has posted none yet is posted. -/
theorem Posted.first {s u : State} (hroom : Room s) (hlog : u.log = s.log) (hpower : u.power = s.power) (code : Nat) (ps : List Byte) :
    Posted code ps s (Machine.raise code ps u) := by
  obtain ⟨hpowered, hdev, hfifo⟩ := hroom
  refine .raise [] (by simp [hlog]) ⟨by simpa [State.powered, State.dev, hpower] using hpowered, by simpa [State.dev, hpower] using hdev, ?_⟩ code ps
  rw [hlog]
  omega

theorem fifo_settle (u : State) : u.log.fifo <+: (settle u).log.fifo := by
  obtain ⟨l, hl⟩ := settle_fifo u
  exact ⟨l, hl.symm⟩

theorem fifo_raiseFrom (src code : Nat) (ps : List Byte) (u : State) : u.log.fifo <+: (raiseFrom src code ps u).log.fifo := by
  unfold raiseFrom
  split
  · exact List.prefix_rfl
  · split
    · exact ⟨_, rfl⟩
    · simp [State.bump, State.addTo]

theorem fifo_raise (code : Nat) (ps : List Byte) (u : State) : u.log.fifo <+: (raise code ps u).log.fifo := fifo_raiseFrom _ _ _ _

theorem fifo_raiseUpTo (n code key : Nat) (ps : List Byte) (u : State) : u.log.fifo <+: (raiseUpTo n code key ps u).log.fifo := by
  unfold raiseUpTo
  split
  · exact fifo_raise code ps u
  · exact List.prefix_rfl

end Sys2Proof.Machine
end

section
/-! The reference oscillator (R39, R86): out of range, lost and restored. -/

namespace Sys2Proof.Machine
open Sys2Proof

theorem fifo_disqualify (src : Nat) (u : State) : u.log.fifo <+: (disqualify src u).log.fifo := by
  unfold disqualify enterHoldover
  dsimp only
  split
  · refine List.IsPrefix.trans ?_ (fifo_raise _ _ _)
    simp
  · simp

/-- Holdover from a source that is disqualified while selected, or from none. -/
theorem disqualify_selected (src : Nat) (s : State) :
    (disqualify src s).time.selected = (if s.time.selected = src then 0 else s.time.selected) ∧
    (disqualify src s).time.servo = (if s.time.selected = src then 3 else s.time.servo) ∧
    (disqualify src s).time.lastSource = (if s.time.selected = src then src else s.time.lastSource) ∧
    (disqualify src s).time.trefOutOfRange = s.time.trefOutOfRange := by
  have hset (r : Source) : (s.time.setSource src r).selected = s.time.selected ∧ (s.time.setSource src r).servo = s.time.servo ∧
      (s.time.setSource src r).lastSource = s.time.lastSource ∧ (s.time.setSource src r).trefOutOfRange = s.time.trefOutOfRange := by
    unfold TimeSt.setSource
    repeat' split
    all_goals simp
  unfold disqualify
  dsimp only
  split <;> simp_all [enterHoldover]

/-- Disqualifying one source leaves whether another is qualified. -/
theorem disqualify_other {src k : Nat} (h1 : 1 ≤ k) (h3 : k ≤ 3) (hs1 : 1 ≤ src) (hs3 : src ≤ 3) (hne : k ≠ src) (s : State) :
    ((disqualify src s).time.source k).qualified = (s.time.source k).qualified := by
  have hwritten (r : Source) : (s.time.setSource src r).source k = s.time.source k := by
    obtain rfl | rfl | rfl : src = 1 ∨ src = 2 ∨ src = 3 := by omega
    all_goals
      obtain rfl | rfl | rfl : k = 1 ∨ k = 2 ∨ k = 3 := by omega
      all_goals simp_all [TimeSt.source, TimeSt.setSource]
  unfold disqualify
  extract_lets r s1
  split
  · rw [← hwritten { r with qualified := false, okSince := none }]
    simp [enterHoldover, TimeSt.source, s1]
  · simp [s1, hwritten]

/-- A source beyond the limit for 10 s: TREF is out of range, which is reported, and every source is disqualified. -/
theorem trefRange_declares {k a : Nat} {s : State} (hnot : s.time.trefOutOfRange = false) (hk1 : 1 ≤ k) (hk3 : k ≤ 3)
    (hfar : (s.time.source k).farSince = some a) (hlong : a + sec 10 ≤ s.now) :
    trefRange s = disqualify 3 (disqualify 2 (disqualify 1 (raise 0x200C (be 1 0) (s.onTime fun x => { x with trefOutOfRange := true })))) := by
  unfold trefRange
  generalize sec 10 = d at hlong ⊢
  obtain rfl | rfl | rfl : k = 1 ∨ k = 2 ∨ k = 3 := by omega
  all_goals simp [hfar, hlong, hnot]

/-- An instant whose delay has not run out by now has not. -/
theorem not_elapsed_of_all {o : Option Nat} {d now : Nat} (h : o.all (fun a => decide (now < a + d)) = true) (a : Nat) (ha : o = some a) :
    ¬ a + d ≤ now := by
  subst ha
  simpa using h

theorem trefRange_quiet {s : State} (hnear : [s.time.ptp, s.time.pps, s.time.irig].all (fun r => r.farSince.all (fun a => s.now < a + sec 10)) = true) :
    trefRange s = s := by
  simp only [List.all_cons, List.all_nil, Bool.and_true, Bool.and_eq_true] at hnear
  obtain ⟨hptp, hpps, hirig⟩ := hnear
  have hnone (k : Nat) (hk : k = 1 ∨ k = 2 ∨ k = 3) (a : Nat) (ha : (s.time.source k).farSince = some a) : ¬ a + sec 10 ≤ s.now := by
    obtain rfl | rfl | rfl := hk
    · exact not_elapsed_of_all hptp a ha
    · exact not_elapsed_of_all hpps a ha
    · exact not_elapsed_of_all hirig a ha
  clear hptp hpps hirig
  unfold trefRange
  generalize sec 10 = d at hnone ⊢
  rw [if_neg]
  intro hfar
  simp only [List.any_eq_true, Bool.and_eq_true, List.mem_cons, List.not_mem_nil, or_false] at hfar
  obtain ⟨⟨k, hk, hfar⟩, -⟩ := hfar
  cases hk' : (s.time.source k).farSince with
  | none => simp [hk'] at hfar
  | some a => exact hnone k hk a hk' (by simpa [hk'] using hfar)

/-- While no source is selected in holdover, the uncertainty is that at its begin and the growth since (R49). -/
theorem uncertaintyPs_holdover {s : State} (hset : s.time.isSet = true) (hservo : s.time.servo = 3) :
    s.uncertaintyPs = s.time.u0 +
      holdoverGrowth (if s.time.trefLost then 100000 else s.cfg 0x2001 0x0A) (s.cfg 0x2001 0x0B) (s.now - s.time.holdAt) := by
  simp [State.uncertaintyPs, hset, hservo]

/-- The holdover of a lost TREF runs from now, from the uncertainty T96 had. -/
theorem trefLoss_holdover {s : State} (hruns : s.timeRuns = true) (hnot : s.time.trefLost = false) (hset : s.time.isSet = true) :
    (trefLoss s).time.servo = 3 ∧ (trefLoss s).time.holdAt = s.now ∧ (trefLoss s).time.u0 = s.uncertaintyPs ∧
    (trefLoss s).time.isSet = true := by
  unfold trefLoss
  rw [if_neg (by simp [hruns, hnot])]
  extract_lets s1 s2
  have htime : s1.time = s.time ∧ s1.now = s.now ∧ s1.uncertaintyPs = s.uncertaintyPs := by
    unfold s1
    split <;> simp [State.uncertaintyPs]
  obtain ⟨htime, hnow, huncertainty⟩ := htime
  have hheld : s2.time.servo = 3 ∧ s2.time.holdAt = s.now ∧ s2.time.u0 = s.uncertaintyPs ∧ s2.time.isSet = true := by
    unfold s2
    rw [if_neg (by simp [htime, hset])]
    split
    next hservo => simp [reanchorHoldover, hnow, huncertainty, htime, hset, htime ▸ hservo]
    next => simp [enterHoldover, hnow, huncertainty, htime, hset]
  simpa using hheld

/-- Settles O4: what is declared disqualifies the sources in turn; what is lost or restored anchors the holdover anew. -/
theorem theReferenceOscillatorIsWatched : Obligations.TheReferenceOscillatorIsWatched := by
  refine ⟨?outOfRange, ?inRange, ?lost, ?lostAlready, ?restored, ?notLost⟩
  case outOfRange =>
    intro t k a s hroom hnot hk1 hk3 hfar hlong
    refine .of (f := trefRange) rfl ?_
    rw [trefRange_declares (k := k) (by simpa using hnot) hk1 hk3 (a := a) (by simpa [TimeSt.source] using hfar) (by simpa using hlong)]
    generalize hu : raise 0x200C (be 1 0) ((s.advance t).onTime fun x => { x with trefOutOfRange := true }) = u
    have hposted : Posted 0x200C (be 1 0) s u := hu ▸ .first hroom (by simp) (by simp) _ _
    have htime : u.time.trefOutOfRange = true ∧ u.time.selected = s.time.selected := by simp [← hu]
    have hptp : ((disqualify 3 (disqualify 2 (disqualify 1 u))).time.source 1).qualified = false := by
      rw [disqualify_other, disqualify_other, disqualify_qualified] <;> omega
    have hpps : ((disqualify 3 (disqualify 2 (disqualify 1 u))).time.source 2).qualified = false := by
      rw [disqualify_other, disqualify_qualified] <;> omega
    have hirig := disqualify_qualified (src := 3) (by omega) (by omega) (disqualify 2 (disqualify 1 u))
    have hfifo := ((fifo_disqualify 1 u).trans (fifo_disqualify 2 _)).trans (fifo_disqualify 3 _)
    refine ⟨by simp [disqualify_selected, htime], by simpa [TimeSt.source] using hptp, by simpa [TimeSt.source] using hpps,
      by simpa [TimeSt.source] using hirig, fun hsel => ?_, (hposted.later hfifo).settle, ?_⟩
    · obtain h | h | h : s.time.selected = 1 ∨ s.time.selected = 2 ∨ s.time.selected = 3 := by omega
      all_goals simp [disqualify_selected, htime, h]
    · simp [touches_disqualify, ← hu]
  case inRange =>
    intro t s hnear
    exact .unchanged (f := trefRange) rfl (trefRange_quiet (by simpa using hnear))
  case lost =>
    intro t s hruns hnot
    refine .of (f := trefLoss) rfl ⟨?_, fun hset => ?_, ?_⟩
    · simp [trefLoss, hruns, hnot]
    · obtain ⟨hservo, hholdAt, hu0, hisSet⟩ := trefLoss_holdover (s := s.advance t) (by simpa using hruns) (by simpa using hnot) (by simpa using hset)
      refine ⟨by simpa using hservo, by simpa using hholdAt, by simpa using hu0, fun n => ?_⟩
      rw [uncertaintyPs_holdover (by simpa using hisSet) (by simpa using hservo)]
      have hlost : (trefLoss (s.advance t)).time.trefLost = true := by simp [trefLoss, hruns, hnot]
      have hkept : (trefLoss (s.advance t)).now = max s.now t ∧ (trefLoss (s.advance t)).active = s.active := by
        unfold trefLoss
        dsimp only
        repeat' split
        all_goals simp [reanchorHoldover, enterHoldover]
      have hsince : max s.now (max t n) - max s.now t = n - max s.now t := by omega
      simp [hlost, hholdAt, hkept, State.cfg, hsince]
    · simp [trefLoss, hruns, hnot, reanchorHoldover, touches_enterHoldover]
  case lostAlready =>
    intro t s hlost
    exact .unchanged (f := trefLoss) rfl (by simp [trefLoss, hlost])
  case restored =>
    intro t s hroom hlost
    refine .of (f := trefBack) rfl ?_
    rw [trefBack, if_pos (by simpa using hlost)]
    refine ⟨by simp, (Posted.first hroom ?_ ?_ _ _).settle, fun hservo => ?_, ?_⟩
    · split <;> simp [reanchorHoldover]
    · split <;> simp [reanchorHoldover]
    · simp [hservo, reanchorHoldover]
    · simp [reanchorHoldover]
  case notLost =>
    intro t s hnot
    exact .unchanged (f := trefBack) rfl (by simp [trefBack, hnot])

end Sys2Proof.Machine
end

section
/-! Time set and stepped by command, leap seconds and the Kennel latch (R41, R43, R57, R81, R722). -/

namespace Sys2Proof.Machine
open Sys2Proof

/-- A step leaves nothing to slew, and moves every source's offset by it. -/
theorem stepT96_time (ps : Int) (src : Nat) (s : State) :
    (stepT96 ps src s).time.slew = 0 ∧ (stepT96 ps src s).time.selected = s.time.selected ∧ (stepT96 ps src s).time.servo = s.time.servo ∧
    ∀ k, ((stepT96 ps src s).time.source k).offset = (s.time.source k).offset + ps := by
  unfold stepT96
  split
  next h => simp [h, TimeSt.source]
  next =>
    refine ⟨by simp [shiftT96], by simp [shiftT96], by simp [shiftT96], fun k => ?_⟩
    simp only [TimeSt.source, State.bump_frame, raise_frame, State.onTime_frame, shiftT96]
    repeat' split
    all_goals rfl

@[simp] theorem sourceChanged_time (old src reason : Nat) (s : State) : (sourceChanged old src reason s).time = s.time := by
  unfold sourceChanged
  split <;> simp

theorem reportDelta_time (s : State) :
    (reportDelta s).time.selected = s.time.selected ∧ (reportDelta s).time.servo = s.time.servo ∧
    (reportDelta s).time.slew = s.time.slew ∧ ∀ k, (reportDelta s).time.source k = s.time.source k := by
  unfold reportDelta
  extract_lets cfg
  split
  · simp
  next a _ =>
    by_cases h : a.utcOffset = cfg
    all_goals
      repeat' split
      all_goals simp [TimeSt.source]

@[simp] theorem advance_sourceRank (t k : Nat) (s : State) : sourceRank (s.advance t) k = sourceRank s k := by
  simp [sourceRank]

@[simp] theorem advance_source (t k : Nat) (s : State) : (s.advance t).time.source k = s.time.source k := by
  simp [TimeSt.source]

@[simp] theorem advance_bestSource (t : Nat) (s : State) : bestSource (s.advance t) = bestSource s := by
  simp [bestSource]

theorem stepToSource_accepted {src : Nat} {s : State} (hdev : s.dev = stStart ∨ s.dev = stSafeTalk) (hset : s.time.isSet = true)
    (hbest : bestSource s = some src) :
    (stepToSource s).2 = 0 ∧ (stepToSource s).1.time.selected = src ∧ (stepToSource s).1.time.servo = 2 ∧
    (stepToSource s).1.time.slew = 0 ∧ ((stepToSource s).1.time.source src).offset = 0 := by
  unfold stepToSource
  rw [if_neg (by simpa [hset, ← Decidable.or_iff_not_imp_left] using hdev)]
  simp only [hbest]
  refine ⟨trivial, by simp [reportDelta_time, stepT96_time], by simp [reportDelta_time, stepT96_time], by simp [reportDelta_time, stepT96_time], ?_⟩
  simp only [reportDelta_time, sourceChanged_time, stepT96_time, State.onTime_frame]
  have hsame (f : TimeSt → TimeSt) (hptp : (f s.time).ptp = s.time.ptp) (hpps : (f s.time).pps = s.time.pps) (hirig : (f s.time).irig = s.time.irig) :
      (f s.time).source src = s.time.source src := by simp [TimeSt.source, hptp, hpps, hirig]
  rw [hsame (fun x => { x with selected := src, lastSource := 0, servo := 2, limitRaised := false, leap := none }) rfl rfl rfl]
  omega

theorem stepToSource_running {s : State} (hrun : s.running = true) : stepToSource s = stepRefused s := by
  have hdev : ¬ (s.dev = stStart ∨ s.dev = stSafeTalk) := by
    intro h
    obtain h | h := h <;> simp [State.running, h, stStart, stSafeTalk, stRun, stTrim] at hrun
  unfold stepToSource
  rw [if_pos (by simp at hdev; simp [hdev])]

theorem setT96_running {value : Nat} {s : State} (hrun : s.running = true) : setT96 value s = stepRefused s := by
  have hdev : ¬ (s.dev = stStart ∨ s.dev = stSafeTalk) := by
    intro h
    obtain h | h := h <;> simp [State.running, h, stStart, stSafeTalk, stRun, stTrim] at hrun
  unfold setT96
  rw [if_pos (by simp at hdev; simp [hdev])]

theorem startGat_time (g : Nat) (s : State) :
    (startGat g s).time.isSet = s.time.isSet ∧ (startGat g s).time.t96x = s.time.t96x ∧
    (startGat g s).time.selected = s.time.selected ∧ (startGat g s).time.servo = s.time.servo ∧
    (startGat g s).time.holdAt = s.time.holdAt ∧ (startGat g s).time.u0 = s.time.u0 := by
  unfold startGat
  dsimp only
  split <;> simp [setNominal]

/-- GAT that starts leaves T96 as it stands. -/
theorem startGatFromT96_time (s : State) :
    (startGatFromT96 s).time.isSet = s.time.isSet ∧ (startGatFromT96 s).time.t96x = s.time.t96x ∧
    (startGatFromT96 s).time.selected = s.time.selected ∧ (startGatFromT96 s).time.servo = s.time.servo ∧
    (startGatFromT96 s).time.holdAt = s.time.holdAt ∧ (startGatFromT96 s).time.u0 = s.time.u0 := by
  unfold startGatFromT96
  split <;> simp [startGatAt, startGat_time]

theorem setT96_accepted {value : Nat} {s : State} (hdev : s.dev = stStart ∨ s.dev = stSafeTalk) :
    (setT96 value s).2 = 0 ∧ (setT96 value s).1.time.isSet = true ∧ (setT96 value s).1.time.t96x = value % 2 ^ 96 * 2 ^ 32 ∧
    (setT96 value s).1.time.selected = 4 ∧ (setT96 value s).1.time.servo = 3 ∧ (setT96 value s).1.time.holdAt = s.now ∧
    (setT96 value s).1.time.u0 = 1000000000 := by
  unfold setT96
  rw [if_neg (by simpa [← Decidable.or_iff_not_imp_left] using hdev)]
  extract_lets was old d moves s1 s2
  have h1 : s1.time = s.time ∧ s1.now = s.now := by unfold s1; split <;> simp
  have h2 : s2.time.isSet = s.time.isSet ∧ s2.time.t96x = value % 2 ^ 96 * 2 ^ 32 ∧ s2.time.selected = 4 ∧ s2.time.servo = 3 ∧
      s2.time.holdAt = s.now ∧ s2.time.u0 = 1000000000 := by
    refine ⟨?_, rfl, rfl, rfl, h1.2, rfl⟩
    rw [← h1.1]
    unfold s2
    cases hmoves : moves <;> simp [shiftT96]
  clear_value s2
  obtain ⟨hset, ht96, hsel, hservo, hhold, hu0⟩ := h2
  split
  next hwas => simp [sourceChanged_time, hset, ht96, hsel, hservo, hhold, hu0, show s.time.isSet = true from hwas]
  next =>
    simp only [initialiseT96]
    simp [startGatFromT96_time, shiftT96, psToX, ht96, hservo, hhold, hu0]
    omega

/-- The leap's correction moves Δ by its sign, whichever source Δ comes from. -/
theorem leapApply_due {utc : Nat} {sign : Int} {s : State} (hdue : leapDue s = some (utc, sign)) (hset : s.time.isSet = true)
    (hcome : (utc : Int) + (s.delta + (if sign < 0 then sign else 0)) * 2 ^ 48 ≤ (s.t96 : Int)) :
    ∃ f : TimeSt → TimeSt, leapApply s = raise 0x2007 (be 1 (toTwos 8 sign) ++ i32 (s.onTime f).delta) (s.onTime f) ∧
      (s.onTime f).delta = s.delta + sign ∧ (f s.time).lastLeap = some (utc, sign) ∧ (f s.time).leap = none ∧ (f s.time).t96x = s.time.t96x := by
  unfold leapApply
  simp only [hdue, hset, Bool.true_and, decide_eq_true_eq]
  rw [if_pos hcome]
  refine ⟨_, rfl, ?_, rfl, rfl, rfl⟩
  simp only [State.delta, State.onTime_frame, TimeSt.announce]
  by_cases hsel : s.time.selected = 1
  · simp only [hsel, if_true, beq_self_eq_true]
    split
    · split <;> omega
    · omega
  · simp only [hsel, if_false]
    omega

theorem leapApply_early {utc : Nat} {sign : Int} {s : State} (hdue : leapDue s = some (utc, sign))
    (hcome : (s.t96 : Int) < (utc : Int) + (s.delta + (if sign < 0 then sign else 0)) * 2 ^ 48) : leapApply s = s := by
  unfold leapApply
  simp only [hdue]
  rw [if_neg]
  simp only [Bool.and_eq_true, decide_eq_true_eq, not_and, Int.not_le]
  exact fun _ => hcome

/-- What a command posts stands in the log after its answer. -/
theorem Posted.answered {code : Nat} {ps : List Byte} {s u : State} (h : Posted code ps s u) (w : Who) (c : Nat) (o : Out) :
    Posted code ps s (Machine.settle ((account w c u).emit o)) := by
  refine Posted.settle ?_
  have hlog : ((account w c u).emit o).log = u.log := by simp
  simpa only [Posted, hlog] using h

@[simp] theorem advance_leapDue (t : Nat) (s : State) : leapDue (s.advance t) = leapDue s := by
  simp [leapDue]

@[simp] theorem advance_delta (t : Nat) (s : State) : (s.advance t).delta = s.delta := by
  simp [State.delta, TimeSt.announce]

/-- Settles O5: each command and instant by the equation of its effect. -/
theorem timeIsSetSteppedAndLatched : Obligations.TimeIsSetSteppedAndLatched := by
  refine ⟨?step, ?set, ?stepRefused, ?setRefused, ?leap, ?leapEarly, ?latch⟩
  case step =>
    intro t src who s hacc hdev hset hbest
    refine .of (f := runPlain 0x2005 0x01 who stepToSource) rfl ?_
    obtain ⟨hcode, hsel, hservo, hslew, hoff⟩ :=
      stepToSource_accepted (s := s.advance t) (by simpa using hdev) (by simpa using hset) (by simpa using hbest)
    rw [runPlain_accepted hacc, hcode]
    exact ⟨answered_settle _ _ _, by simpa using hsel, by simpa using hservo, by simpa using hslew, by simpa [TimeSt.source] using hoff⟩
  case set =>
    intro t value who s hacc hdev
    refine .of (f := runCommand 0x2005 0x02 noRow (.num value) who (setT96 value)) rfl ?_
    obtain ⟨hcode, hset, ht96, hsel, hservo, hhold, hu0⟩ := setT96_accepted (value := value) (s := s.advance t) (by simpa using hdev)
    rw [runCommand_accepted hacc, hcode]
    refine ⟨answered_settle _ _ _, by simpa using hset, ?_, by simpa using hsel, by simpa using hservo, by simpa using hhold, by simpa using hu0⟩
    simp [State.t96, ht96]
  case stepRefused =>
    intro t who s hroom hrun hacc
    refine .of (f := runPlain 0x2005 0x01 who stepToSource) rfl ?_
    rw [runPlain_accepted hacc, stepToSource_running (by simpa using hrun), stepRefused]
    refine ⟨answered_settle _ _ _, ?_, by simp⟩
    exact (Posted.first hroom (by simp) (by simp) _ _).answered _ _ _
  case setRefused =>
    intro t value who s hroom hrun hacc
    refine .of (f := runCommand 0x2005 0x02 noRow (.num value) who (setT96 value)) rfl ?_
    rw [runCommand_accepted hacc, setT96_running (by simpa using hrun), stepRefused]
    refine ⟨answered_settle _ _ _, ?_, by simp⟩
    exact (Posted.first hroom (by simp) (by simp) _ _).answered _ _ _
  case leap =>
    intro t utc sign s hroom hdue hset hcome
    refine .of (f := leapApply) rfl ?_
    obtain ⟨f, heq, hdelta, hlast, hleap, ht96⟩ := leapApply_due (s := s.advance t) (utc := utc) (sign := sign)
      (by simpa using hdue) (by simpa using hset) (by simpa using hcome)
    rw [heq]
    have hshown : (settle (raise 0x2007 (be 1 (toTwos 8 sign) ++ i32 ((s.advance t).onTime f).delta) ((s.advance t).onTime f))).delta =
        ((s.advance t).onTime f).delta := by simp [State.delta, TimeSt.announce]
    rw [hshown]
    exact ⟨by simpa using hdelta, by simpa using hlast, by simpa using hleap, (Posted.first hroom (by simp) (by simp) _ _).settle,
      by simpa using ht96, by simp⟩
  case leapEarly =>
    intro t utc sign s hdue hcome
    exact .unchanged (f := leapApply) rfl (leapApply_early (utc := utc) (sign := sign) (by simpa using hdue) (by simpa using hcome))
  case latch =>
    intro t rtc s hset hruns
    refine .of (f := latchTime rtc) rfl ?_
    simp [latchTime, hset, hruns]

end Sys2Proof.Machine
end

section
/-! Rows of accepted operations, and reads of a live store after a write. -/

namespace Sys2Proof.Machine
open Sys2Proof

variable {idx sub row n a b c i j r : Nat} {w : Who} {s : State}

theorem rowStatus_lt {o : ObjRow} (hn : 0 < o.rows) (h : rowStatus o row 1 ≠ 0x01) : row < o.rows := by
  unfold rowStatus at h
  rw [if_neg (by omega)] at h
  split at h
  · simp at h
  split at h
  · simp at h
  · omega

/-- An accepted write of an object of rows names one of them. -/
theorem writeStatus_row {v : Val} (ho : (findObj idx sub).map (·.rows) = some n) (hn : 0 < n) (h : writeStatus idx sub row v w s = 0) :
    row < n := by
  obtain ⟨o, hobj, rfl⟩ := Option.map_eq_some_iff.mp ho
  unfold writeStatus at h
  split at h
  · simp at h
  simp only [hobj] at h
  refine rowStatus_lt hn fun hrow => ?_
  simp [hrow] at h

/-- An accepted command of an object of rows names one of them. -/
theorem commandStatus_row {v : Val} (ho : (findObj idx sub).map (·.rows) = some n) (hn : 0 < n) (h : commandStatus idx sub row v w s = 0) :
    row < n := by
  obtain ⟨o, hobj, rfl⟩ := Option.map_eq_some_iff.mp ho
  unfold commandStatus at h
  extract_lets isCan kind at h
  split at h
  · simp at h
  simp only [hobj] at h
  refine rowStatus_lt hn fun hrow => ?_
  simp [hrow] at h

@[simp] theorem rw_setLive_self (s : State) (i j r : Nat) (v : Val) : (s.setLive i j r v).rw i j r = v.bits := by
  simp [State.rw, State.setLive]

@[simp] theorem rw_setLive_of_ne (hne : (a, b) ≠ (i, j)) (hj : j < 256) (hr : r < 0x1000000) (hb : b < 256) (hc : c < 0x1000000)
    (s : State) (v : Val) : (s.setLive i j r v).rw a b c = s.rw a b c := by
  simp only [State.rw, State.setLive]
  rw [readIn_writeIn_ne _ (okey_ne hne hj hr hb hc)]

end Sys2Proof.Machine
end

section
/-! GAT and its reference (R67 to R69), and the output pulses (R77 to R80). -/

namespace Sys2Proof.Machine
open Sys2Proof

/-! ### GAT -/

@[simp] theorem advance_refBits (t : Nat) (s : State) : lossCondition (s.advance t) = lossCondition s := by simp [lossCondition]

@[simp] theorem advance_pullRate (t : Nat) (s : State) : pullRate (s.advance t) = pullRate s := by simp [pullRate, pullLimit]

@[simp] theorem advance_gatFrequency (fnom t : Nat) (s : State) : gatFrequency fnom (s.advance t).time = gatFrequency fnom s.time := by
  simp [gatFrequency]

theorem referenceLost_invalid {s : State} (hon : s.time.gatOn = true) (hnominal : s.time.nominal = false) (hbus : refValid s = false) :
    referenceLost s = setNominal (s.onTime fun x => { x with refOkSince := none }) := by
  simp [referenceLost, hon, hnominal, hbus]

theorem gatRequalify_due {a : Nat} {s : State} (hon : s.time.gatOn = true) (hnominal : s.time.nominal = true) (hpull : s.time.pulling = false)
    (hok : s.time.refOkSince = some a) (hdue : a + ms (s.cfg 0x2010 0x08) ≤ s.now) (hbus : refValid s = true) :
    gatRequalify s = s.onTime fun x => { x with pulling := true, pullSince := s.now, gatRate := pullRate s } := by
  simp [gatRequalify, hon, hnominal, hpull, hok, hdue, hbus]

theorem gatRequalify_early {a : Nat} {s : State} (hok : s.time.refOkSince = some a) (hdue : s.now < a + ms (s.cfg 0x2010 0x08)) :
    gatRequalify s = s := by
  simp [gatRequalify, hok, Nat.not_le.mpr hdue]

/-- Settles O6: the reference is lost, comes back, and the phase closes in. -/
theorem gatFollowsItsReference : Obligations.GatFollowsItsReference := by
  refine ⟨?lost, ?valid, ?requalified, ?early, ?cleared, ?far⟩
  case lost =>
    intro t s hroom hon hnominal hbus
    refine .of (f := referenceLost) rfl ?_
    rw [referenceLost_invalid (by simpa using hon) (by simpa using hnominal) hbus, setNominal]
    refine ⟨by simp, by simp, by simp, ?_, by simp⟩
    have hcause : lossCondition ((s.advance t).onTime fun x => { x with refOkSince := none }) = lossCondition s := by simp [lossCondition]
    rw [hcause]
    exact (Posted.first hroom (by simp) (by simp) _ _).settle
  case valid =>
    intro t s hbus
    exact .unchanged (f := referenceLost) rfl (by simp [referenceLost, hbus])
  case requalified =>
    intro t a s hon hnominal hpull hok hdue hbus
    refine .of (f := gatRequalify) rfl ?_
    rw [gatRequalify_due (a := a) (by simpa using hon) (by simpa using hnominal) (by simpa using hpull) (by simpa using hok)
      (by simpa using hdue) hbus]
    simp [hnominal]
  case early =>
    intro t a s hok hdue
    exact .unchanged (f := gatRequalify) rfl (gatRequalify_early (a := a) (by simpa using hok) (by simpa using hdue))
  case cleared =>
    intro t s hroom hpull herror
    refine .of (f := nominalClear) rfl ?_
    rw [nominalClear, if_pos (by simp [hpull, herror])]
    refine ⟨by simp, by simp, by simp, by simp, ?_, by simp⟩
    have hpull : (s.advance t).now = max s.now t ∧ (s.advance t).time.pullSince = s.time.pullSince := by simp
    rw [hpull.1, hpull.2]
    exact (Posted.first hroom (by simp) (by simp) _ _).settle
  case far =>
    intro t s herror
    exact .unchanged (f := nominalClear) rfl (by rw [nominalClear, if_neg]; simp [Nat.not_le.mpr herror])

/-! ### Output pulses -/

@[simp] theorem pulse_setPulse (s : State) (o : Nat) (p : Pulse) : (s.setPulse o p).pulse o = p := by simp [State.pulse, State.setPulse]

@[simp] theorem pulse_advance (s : State) (t o : Nat) : (s.advance t).pulse o = s.pulse o := by simp [State.pulse]

theorem pulse_of_time {s u : State} (h : u.time.pulses = s.time.pulses) (o : Nat) : u.pulse o = s.pulse o := by simp [State.pulse, h]

@[simp] theorem touches_setPulse {ps : List Part} {os : List (Nat × Nat)} {s u : State} (m : Part.time ∈ ps) (o : Nat) (p : Pulse) :
    Touches ps os s (u.setPulse o p) ↔ Touches ps os s u := by simp [State.setPulse, m]

/-- An output that is due fires: its pin goes active, the firing is counted, a pulse of its width begins. -/
theorem pulseFire_due {o : Nat} {s : State} (ho : o < 4) (hdue : pulseDue o s = true) :
    Out.tout o (s.rw 0x2020 0x08 o == 0) ∈ (pulseFire o s).outs ∧ ((pulseFire o s).pulse o).fired = (s.pulse o).fired + 1 ∧
    ((pulseFire o s).pulse o).endsAt = some (s.now + (pulseWidth o s).1) ∧
    Touches [.time] [(0x2020, 0x0B), (0x2030, 0x09)] s (pulseFire o s) := by
  have hrow : o < 0x1000000 := by omega
  unfold pulseFire
  rw [if_pos (by simp [ho, hdue])]
  generalize pulseWidth o s = width
  obtain ⟨w, cut⟩ := width
  dsimp only
  split <;> split <;> simp [hrow, State.pulse, State.setPulse]

theorem pulseFire_notDue {o : Nat} {s : State} (hdue : pulseDue o s = false) : pulseFire o s = s := by
  rw [pulseFire, if_neg (by simp [hdue])]

theorem pulseFinish_due {o e : Nat} {s : State} (hend : (s.pulse o).endsAt = some e) (hdue : e ≤ s.now) (hnone : (s.pulse o).deferred = []) :
    pulseFinish o s = (s.setPulse o { s.pulse o with endsAt := none, deferred := [] }).emit (.tout o (s.rw 0x2020 0x08 o != 0)) := by
  simp [pulseFinish, hend, Nat.not_lt.mpr hdue, hnone]

theorem pulseFinish_early {o e : Nat} {s : State} (hend : (s.pulse o).endsAt = some e) (hdue : s.now < e) : pulseFinish o s = s := by
  simp [pulseFinish, hend, hdue]

/-- An accepted write of 0x2020:0A is answered OK after its effect. -/
theorem pulseArm_accepted {o : Nat} {who : Who} {arm : Bool} {s : State} (h : AcceptedWrite 0x2020 0x0A o (.num (b2n arm)) who s) :
    o < 4 ∧ pulseArm who o arm s = (account who 0 (pulseWrite o 0x0A (.num (b2n arm)) s)).emit (.status who 0) := by
  obtain ⟨hreach, hstatus⟩ := h
  exact ⟨writeStatus_row (n := 4) rfl (by omega) hstatus, by simp [pulseArm, hreach, hstatus]⟩

/-- Without a pulse in progress the write takes effect at once. -/
theorem pulseWrite_arm {o : Nat} {arm : Bool} {s : State} (hend : (s.pulse o).endsAt = none) :
    pulseWrite o 0x0A (.num (b2n arm)) s = pulseArmNow o arm (s.setLive 0x2020 0x0A o (.num (b2n arm))) := by
  cases arm <;> simp [pulseWrite, hend, Val.bits, b2n]

theorem pulseWrite_deferred {o e : Nat} {v : Val} {s : State} (hend : (s.pulse o).endsAt = some e) :
    pulseWrite o 0x0A v s = s.setPulse o { s.pulse o with deferred := (s.pulse o).deferred ++ [(0x0A, v)] } := by
  simp [pulseWrite, hend]

/-- Arming an output of a mode that is not 0: armed, and then missed when its single instant lies too early. -/
def armedOutput (o : Nat) (s : State) : State :=
  (s.setPulse o { s.pulse o with
    armed := true, fired := 0, baseT96 := s.t96 + psToT96 (us 10),
    baseGat := (s.gat + us 10 * gatFrequency s.fnom s.time / 1000000000000) % 2 ^ 64 }).setRow 0x2020 0x0B o 1

theorem pulseArmNow_off (o : Nat) (s : State) : pulseArmNow o false s = (s.setPulse o { s.pulse o with armed := false }).setRow 0x2020 0x0B o 0 := by
  simp [pulseArmNow]

theorem pulseArmNow_idle {o : Nat} {s : State} (hmode : s.rw 0x2020 0x01 o = 0) : pulseArmNow o true s = s := by simp [pulseArmNow, hmode]

theorem pulseArmNow_on {o : Nat} {s : State} (hmode : s.rw 0x2020 0x01 o ≠ 0) : pulseArmNow o true s = pulseMissed o (armedOutput o s) := by
  simp [pulseArmNow, hmode, armedOutput]

theorem armedOutput_reads {o : Nat} (s : State) :
    (armedOutput o s).pulse o = { s.pulse o with
      armed := true, fired := 0, baseT96 := s.t96 + psToT96 (us 10),
      baseGat := (s.gat + us 10 * gatFrequency s.fnom s.time / 1000000000000) % 2 ^ 64 } ∧
    (armedOutput o s).ro 0x2020 0x0B o = 1 ∧ ∀ a b c, (armedOutput o s).rw a b c = s.rw a b c := by
  simp [armedOutput, State.pulse, State.setPulse]

/-- A periodic output is never missed. -/
theorem pulseMissed_periodic {o : Nat} {s : State} (hmode : s.rw 0x2020 0x01 o = 2 ∨ s.rw 0x2020 0x01 o = 4) : pulseMissed o s = s := by
  obtain h | h := hmode <;> simp [pulseMissed, h]

/-- A single output is missed exactly where its instant lies before the earliest one allowed. -/
theorem pulseMissed_single {o : Nat} {s : State} (hmode : s.rw 0x2020 0x01 o = 1 ∨ s.rw 0x2020 0x01 o = 3) (harmed : (s.pulse o).armed = true)
    (ho : o < 4) :
    (pulseMissed o s).pulse o = { s.pulse o with armed := (pulseNext o s).isSome } ∧
    (pulseMissed o s).ro 0x2020 0x0B o = (if (pulseNext o s).isSome then s.ro 0x2020 0x0B o else 3) := by
  have hrow : o < 0x1000000 := by omega
  have hsingle : (s.rw 0x2020 0x01 o == 1 || s.rw 0x2020 0x01 o == 3) = true := by simpa using hmode
  unfold pulseMissed
  cases hnext : pulseNext o s with
  | none => simp [hsingle, State.pulse, State.setPulse, hrow]
  | some n =>
    rw [if_neg (by simp)]
    refine ⟨?_, by simp⟩
    generalize s.pulse o = p at harmed ⊢
    cases p
    simpa using harmed

theorem pulseNext_t96 {o : Nat} {s : State} (hmode : s.rw 0x2020 0x01 o = 1) :
    (pulseNext o s).isSome = decide ((s.pulse o).baseT96 ≤ s.rw 0x2020 0x03 o) := by
  simp only [pulseNext, hmode]
  split <;> simp_all

theorem pulseNext_gat {o : Nat} {s : State} (hmode : s.rw 0x2020 0x01 o = 3) :
    (pulseNext o s).isSome = decide (gatMinus (s.pulse o).baseGat (s.rw 0x2020 0x04 o) ≤ 0) := by
  simp only [pulseNext, hmode]
  split <;> simp_all

/-- Storing the arm bit leaves the other settings of the output and its pulse record. -/
theorem storedArm_reads {o : Nat} (ho : o < 4) (v : Val) (s : State) :
    (s.setLive 0x2020 0x0A o v).pulse o = s.pulse o ∧ (s.setLive 0x2020 0x0A o v).ro 0x2020 0x0B o = s.ro 0x2020 0x0B o ∧
    ∀ b, b ≠ 0x0A → b < 256 → (s.setLive 0x2020 0x0A o v).rw 0x2020 b o = s.rw 0x2020 b o := by
  have hrow : o < 0x1000000 := by omega
  exact ⟨by simp [State.pulse], by simp, fun b hb hb' => rw_setLive_of_ne (by simp [hb]) (by omega) hrow hb' hrow s v⟩

/-- The answer of a write leaves pulse record, settings and status. -/
theorem answered_reads {o : Nat} (ho : o < 4) (w : Who) (x : Out) (u : State) :
    (settle ((account w 0 u).emit x)).pulse o = u.pulse o ∧ (settle ((account w 0 u).emit x)).ro 0x2020 0x0B o = u.ro 0x2020 0x0B o ∧
    ∀ b, (settle ((account w 0 u).emit x)).rw 0x2020 b o = u.rw 0x2020 b o := by
  have hrow : o < 0x1000000 := by omega
  exact ⟨pulse_of_time (by simp) o, by simp [hrow], fun b => by simp⟩

/-- An accepted arming of an output that has a mode, with no pulse in progress. -/
theorem pulseArm_on {o : Nat} {who : Who} {s : State} (hacc : AcceptedWrite 0x2020 0x0A o (.num 1) who s) (hend : (s.pulse o).endsAt = none)
    (hmode : s.rw 0x2020 0x01 o ≠ 0) :
    o < 4 ∧ Answered who 0 (settle (pulseArm who o true s)) ∧
    (settle (pulseArm who o true s)).pulse o = (pulseMissed o (armedOutput o (s.setLive 0x2020 0x0A o (.num 1)))).pulse o ∧
    (settle (pulseArm who o true s)).ro 0x2020 0x0B o = (pulseMissed o (armedOutput o (s.setLive 0x2020 0x0A o (.num 1)))).ro 0x2020 0x0B o := by
  obtain ⟨ho, heq⟩ := pulseArm_accepted (arm := true) hacc
  obtain ⟨hpulse, hstatus, -⟩ := answered_reads ho who (.status who 0) (pulseWrite o 0x0A (.num (b2n true)) s)
  obtain ⟨-, -, hrw⟩ := storedArm_reads ho (.num (b2n true)) s
  rw [heq, hpulse, hstatus, pulseWrite_arm hend, pulseArmNow_on (by rwa [hrw 0x01 (by omega) (by omega)])]
  exact ⟨ho, answered_settle _ _ _, rfl, rfl⟩

/-- What an output that is being armed reads, before it may be missed. -/
theorem armedOutput_stored {o : Nat} (ho : o < 4) (s : State) :
    ((armedOutput o (s.setLive 0x2020 0x0A o (.num 1))).pulse o).armed = true ∧
    ((armedOutput o (s.setLive 0x2020 0x0A o (.num 1))).pulse o).fired = 0 ∧
    ((armedOutput o (s.setLive 0x2020 0x0A o (.num 1))).pulse o).baseT96 = s.t96 + psToT96 (us 10) ∧
    ((armedOutput o (s.setLive 0x2020 0x0A o (.num 1))).pulse o).baseGat =
      (s.gat + us 10 * gatFrequency s.fnom s.time / 1000000000000) % 2 ^ 64 ∧
    (armedOutput o (s.setLive 0x2020 0x0A o (.num 1))).ro 0x2020 0x0B o = 1 ∧
    ∀ b, b ≠ 0x0A → b < 256 → (armedOutput o (s.setLive 0x2020 0x0A o (.num 1))).rw 0x2020 b o = s.rw 0x2020 b o := by
  obtain ⟨hpulse, hstatus, hreads⟩ := armedOutput_reads (o := o) (s.setLive 0x2020 0x0A o (.num 1))
  obtain ⟨-, -, hrw⟩ := storedArm_reads ho (.num 1) s
  rw [hpulse, hstatus]
  exact ⟨rfl, rfl, rfl, rfl, rfl, fun b hb hb' => (hreads _ _ _).trans (hrw b hb hb')⟩

/-- Settles O7: each instant and each write by the equation of its effect. -/
theorem pulsesFireAndEnd : Obligations.PulsesFireAndEnd := by
  refine ⟨?fire, ?early, ?finish, ?running, ?disarm, ?periodic, ?single, ?singleGat, ?idle, ?deferred⟩
  case fire =>
    intro t o s ho hdue
    refine .of (f := pulseFire o) rfl ?_
    obtain ⟨hpin, hfired, hend, htouch⟩ := pulseFire_due ho hdue
    exact ⟨by simpa using hpin, by simpa [State.pulse] using hfired, by simpa [State.pulse] using hend, by simpa using htouch⟩
  case early =>
    intro t o s hdue
    exact .unchanged (f := pulseFire o) rfl (pulseFire_notDue hdue)
  case finish =>
    intro t o e s hend hdue hnone
    refine .of (f := pulseFinish o) rfl ?_
    rw [pulseFinish_due (e := e) (by simpa using hend) (by simpa using hdue) (by simpa using hnone)]
    simp [State.pulse, State.setPulse]
  case running =>
    intro t o e s hend hdue
    exact .unchanged (f := pulseFinish o) rfl (pulseFinish_early (e := e) (by simpa using hend) (by simpa using hdue))
  case disarm =>
    intro t o who s hacc hend
    refine .of (f := pulseArm who o false) rfl ?_
    obtain ⟨ho, heq⟩ := pulseArm_accepted (arm := false) hacc
    obtain ⟨hpulse, hstatus, hrw⟩ := answered_reads ho who (.status who 0) (pulseWrite o 0x0A (.num (b2n false)) (s.advance t))
    rw [heq, hpulse, hstatus, hrw, pulseWrite_arm (by simpa using hend), pulseArmNow_off]
    exact ⟨answered_settle _ _ _, by simp [State.pulse, State.setPulse], by simp, by simp [State.setPulse, b2n, Val.bits]⟩
  case periodic =>
    intro t o who s hacc hend hmode
    refine .of (f := pulseArm who o true) rfl ?_
    obtain ⟨ho, hanswer, hpulse, hstatus⟩ := pulseArm_on hacc (by simpa using hend) (by obtain h | h := hmode <;> simp [h])
    obtain ⟨harmed, hfired, -, -, hone, hrw⟩ := armedOutput_stored ho (s.advance t)
    rw [pulseMissed_periodic (by rw [hrw 0x01 (by omega) (by omega)]; simpa using hmode)] at hpulse hstatus
    rw [hpulse, hstatus]
    exact ⟨hanswer, harmed, hfired, hone⟩
  case single =>
    intro t o who s hacc hend hmode
    refine .of (f := pulseArm who o true) rfl ?_
    obtain ⟨ho, hanswer, hpulse, hstatus⟩ := pulseArm_on hacc (by simpa using hend) (by simp [hmode])
    obtain ⟨harmed, -, hbase, -, hone, hrw⟩ := armedOutput_stored ho (s.advance t)
    have hmode' : (armedOutput o ((s.advance t).setLive 0x2020 0x0A o (.num 1))).rw 0x2020 0x01 o = 1 := by
      rw [hrw 0x01 (by omega) (by omega)]; simpa using hmode
    obtain ⟨hmissed, hshown⟩ := pulseMissed_single (.inl hmode') harmed ho
    rw [hpulse, hstatus, hmissed, hshown, hone, pulseNext_t96 hmode', hbase, hrw 0x03 (by omega) (by omega)]
    refine ⟨hanswer, ?_⟩
    generalize psToT96 (us 10) = margin
    by_cases h : (s.advance t).t96 + margin ≤ (s.advance t).rw 0x2020 0x03 o
    · exact .inl ⟨by simpa using h, by simpa using h, by simpa using h⟩
    · exact .inr ⟨by simpa using h, by simpa using h, by simpa using h⟩
  case singleGat =>
    intro t o who s hacc hend hmode
    refine .of (f := pulseArm who o true) rfl ?_
    obtain ⟨ho, hanswer, hpulse, hstatus⟩ := pulseArm_on hacc (by simpa using hend) (by simp [hmode])
    obtain ⟨harmed, -, -, hbase, hone, hrw⟩ := armedOutput_stored ho (s.advance t)
    have hmode' : (armedOutput o ((s.advance t).setLive 0x2020 0x0A o (.num 1))).rw 0x2020 0x01 o = 3 := by
      rw [hrw 0x01 (by omega) (by omega)]; simpa using hmode
    obtain ⟨hmissed, hshown⟩ := pulseMissed_single (.inr hmode') harmed ho
    rw [hpulse, hstatus, hmissed, hshown, hone, pulseNext_gat hmode', hrw 0x04 (by omega) (by omega)]
    rw [advance_gatFrequency] at hbase
    refine ⟨hanswer, ?_, hbase⟩
    rw [hbase]
    generalize ((s.advance t).gat + us 10 * gatFrequency (s.advance t).fnom s.time / 1000000000000) % 2 ^ 64 = base
    by_cases h : gatMinus base ((s.advance t).rw 0x2020 0x04 o) ≤ 0
    · exact .inl ⟨by simpa using h, by simpa using h, by simpa using h⟩
    · exact .inr ⟨by simpa using h, by simpa using h, by simpa using h⟩
  case idle =>
    intro t o who s hacc hend hmode
    refine .of (f := pulseArm who o true) rfl ?_
    obtain ⟨ho, heq⟩ := pulseArm_accepted (arm := true) hacc
    obtain ⟨hpulse, hstatus, hrw⟩ := answered_reads ho who (.status who 0) (pulseWrite o 0x0A (.num (b2n true)) (s.advance t))
    obtain ⟨hpulse', hstatus', hrw'⟩ := storedArm_reads ho (.num (b2n true)) (s.advance t)
    rw [heq, hpulse, hstatus, hrw, pulseWrite_arm (by simpa using hend),
      pulseArmNow_idle (by rw [hrw' 0x01 (by omega) (by omega)]; simpa using hmode), hpulse', hstatus']
    exact ⟨answered_settle _ _ _, by simp, by simp, by simp [b2n, Val.bits]⟩
  case deferred =>
    intro t o e who arm s hacc hend
    refine .of (f := pulseArm who o arm) rfl ?_
    obtain ⟨ho, heq⟩ := pulseArm_accepted hacc
    obtain ⟨hpulse, -, -⟩ := answered_reads ho who (.status who 0) (pulseWrite o 0x0A (.num (b2n arm)) (s.advance t))
    rw [heq, hpulse, pulseWrite_deferred (e := e) (by simpa using hend)]
    exact ⟨answered_settle _ _ _, by simp, by simp [State.setPulse], by simpa using hend⟩

end Sys2Proof.Machine
end

section
/-! Ports: what the operations on them leave, and the events and counts of links (R91, R92, R128). -/

namespace Sys2Proof.Machine
open Sys2Proof

section operations
variable {ps : List Part} {os : List (Nat × Nat)} {s u : State} {p k i j r a b c : Nat}

/-! ### The operations on a port record, and the counters of a port -/

@[simp] theorem portOf_setPort (s : State) (p : Nat) (x : Port) : (s.setPort p x).portOf p = x := by simp [State.portOf, State.setPort]

theorem portOf_setPort_ne (h : k ≠ p) (s : State) (x : Port) : (s.setPort p x).portOf k = s.portOf k := by
  simp [State.portOf, State.setPort, tabGet_putKey_ne h]

theorem portOf_of_port (h : u.port.ports = s.port.ports) (p : Nat) : u.portOf p = s.portOf p := by simp [State.portOf, h]

@[simp] theorem setPort_frame (s : State) (p : Nat) (x : Port) :
    (s.setPort p x).now = s.now ∧ (s.setPort p x).time = s.time ∧ (s.setPort p x).power = s.power ∧ (s.setPort p x).log = s.log ∧
    (s.setPort p x).outs = s.outs ∧ (s.setPort p x).status = s.status ∧ (s.setPort p x).dev = s.dev ∧ (s.setPort p x).powered = s.powered ∧
    (s.setPort p x).running = s.running ∧ (s.setPort p x).timeRuns = s.timeRuns ∧ (s.setPort p x).fnom = s.fnom ∧
    (s.setPort p x).t96 = s.t96 ∧ (s.setPort p x).gat = s.gat ∧ (s.setPort p x).gdieOn = s.gdieOn ∧
    (s.setPort p x).port.pairState = s.port.pairState ∧ (s.setPort p x).port.txSeq = s.port.txSeq ∧
    (s.setPort p x).port.supSeq = s.port.supSeq ∧ (s.setPort p x).port.supAt = s.port.supAt ∧ (s.setPort p x).port.nodes = s.port.nodes ∧
    (∀ a b c, (s.setPort p x).cfg a b c = s.cfg a b c) ∧ (∀ a b c, (s.setPort p x).cfgB a b c = s.cfgB a b c) ∧
    (∀ a b c, (s.setPort p x).cfgBytes a b c = s.cfgBytes a b c) ∧ (∀ a b c, (s.setPort p x).ro a b c = s.ro a b c) := by
  simp [State.setPort]

@[simp] theorem touches_setPort (m : Part.port ∈ ps) (p : Nat) (x : Port) : Touches ps os s (u.setPort p x) ↔ Touches ps os s u := by
  simp [State.setPort, m]

@[simp] theorem tally_frame (s : State) (i j r n : Nat) :
    (s.tally i j r n).now = s.now ∧ (s.tally i j r n).time = s.time ∧ (s.tally i j r n).power = s.power ∧ (s.tally i j r n).log = s.log ∧
    (s.tally i j r n).outs = s.outs ∧ (s.tally i j r n).port = s.port ∧ (s.tally i j r n).dev = s.dev ∧
    (s.tally i j r n).powered = s.powered ∧ (s.tally i j r n).running = s.running ∧ (s.tally i j r n).timeRuns = s.timeRuns ∧
    (s.tally i j r n).fnom = s.fnom ∧ (s.tally i j r n).t96 = s.t96 ∧ (s.tally i j r n).gat = s.gat ∧
    (∀ a b c, (s.tally i j r n).cfg a b c = s.cfg a b c) ∧ (∀ a b c, (s.tally i j r n).cfgB a b c = s.cfgB a b c) ∧
    (∀ a b c, (s.tally i j r n).cfgBytes a b c = s.cfgBytes a b c) := by
  unfold State.tally
  split <;> simp

@[simp] theorem portOf_tally (s : State) (i j r n p : Nat) : (s.tally i j r n).portOf p = s.portOf p := portOf_of_port (by simp) p

@[simp] theorem portOf_raise (code : Nat) (l : List Byte) (s : State) (p : Nat) : (raise code l s).portOf p = s.portOf p :=
  portOf_of_port (by simp) p

@[simp] theorem portOf_settle (s : State) (p : Nat) : (settle s).portOf p = s.portOf p := portOf_of_port (by simp) p

@[simp] theorem portOf_advance (t : Nat) (s : State) (p : Nat) : (s.advance t).portOf p = s.portOf p := portOf_of_port (by simp) p

@[simp] theorem portOf_emit (o : Out) (s : State) (p : Nat) : (s.emit o).portOf p = s.portOf p := portOf_of_port (by simp) p

@[simp] theorem touches_tally (m : (i, j) ∈ os) (hj : j < 256) (hr : r < 0x1000000) (n : Nat) :
    Touches ps os s (u.tally i j r n) ↔ Touches ps os s u := by
  unfold State.tally
  split <;> simp [m, hj, hr]

theorem ro_tally (hdev : s.dev ≠ stRecovery) (i j r n : Nat) : (s.tally i j r n).ro i j r = (s.ro i j r + n) % 2 ^ widthOf i j := by
  simp [State.tally, hdev]

@[simp] theorem ro_tally_of_ne (hne : (a, b) ≠ (i, j)) (hj : j < 256) (hr : r < 0x1000000) (hb : b < 256) (hc : c < 0x1000000)
    (s : State) (n : Nat) : (s.tally i j r n).ro a b c = s.ro a b c := by
  unfold State.tally
  split <;> simp [hne, hj, hr, hb, hc]

/-! ### Pairs -/

/-- Bringing a pair up to date writes its state and may report it. -/
theorem updatePair_writes (k : Nat) (s : State) :
    ∃ v code l, updatePair k s = s ∧ tabGet 2 s.port.pairState k = pairShould s k ∨
      updatePair k s = raise code l (s.onPorts fun a => { a with pairState := putKey k v a.pairState }) ∧ v = pairShould s k := by
  unfold updatePair
  extract_lets new old s1 failed cause
  split
  next h => exact ⟨0, 0, [], .inl ⟨rfl, h.symm⟩⟩
  · repeat' split
    all_goals exact ⟨new, _, _, .inr ⟨rfl, rfl⟩⟩

@[simp] theorem updatePair_frame (k : Nat) (s : State) :
    (updatePair k s).now = s.now ∧ (updatePair k s).time = s.time ∧ (updatePair k s).power = s.power ∧ (updatePair k s).outs = s.outs ∧
    (updatePair k s).dev = s.dev ∧ (updatePair k s).powered = s.powered ∧ (updatePair k s).running = s.running ∧
    (updatePair k s).port.ports = s.port.ports ∧ (∀ a b c, (updatePair k s).cfg a b c = s.cfg a b c) ∧
    (∀ a b c, (updatePair k s).cfgB a b c = s.cfgB a b c) ∧ (∀ a b c, (updatePair k s).cfgBytes a b c = s.cfgBytes a b c) := by
  obtain ⟨v, code, l, ⟨h, -⟩ | ⟨h, -⟩⟩ := updatePair_writes k s <;> simp [h]

@[simp] theorem updatePair_portOf (k : Nat) (s : State) (p : Nat) : (updatePair k s).portOf p = s.portOf p := portOf_of_port (by simp) p

@[simp] theorem touches_updatePair (m : Part.port ∈ ps) (k : Nat) : Touches ps os s (updatePair k u) ↔ Touches ps os s u := by
  obtain ⟨v, code, l, ⟨h, -⟩ | ⟨h, -⟩⟩ := updatePair_writes k u <;> simp [h, m]

theorem fifo_updatePair (k : Nat) (s : State) : s.log.fifo <+: (updatePair k s).log.fifo := by
  obtain ⟨v, code, l, ⟨h, -⟩ | ⟨h, -⟩⟩ := updatePair_writes k s
  · simp [h]
  · rw [h]
    exact .trans (by simp) (fifo_raise code l _)

theorem updatePair_pairState (k : Nat) (s : State) : tabGet 2 (updatePair k s).port.pairState k = pairShould s k := by
  obtain ⟨v, code, l, ⟨h, g⟩ | ⟨h, rfl⟩⟩ := updatePair_writes k s <;> simp_all

theorem pairShould_of_ports (h : u.port = s.port) (k : Nat) : pairShould u k = pairShould s k := by
  simp [pairShould, portWorks, State.portOf, h]

/-- A pair brought up to date shows the state it should be in. -/
theorem updatePair_shows (k : Nat) (s : State) : tabGet 2 (updatePair k s).port.pairState k = pairShould (updatePair k s) k := by
  rw [updatePair_pairState]
  simp [pairShould, portWorks]

@[simp] theorem ro_updatePair (ha : a ≠ 0x2E20) (hb : b < 256) (hc : c < 0x1000000) (k : Nat) (s : State) :
    (updatePair k s).ro a b c = s.ro a b c := by
  obtain ⟨v, code, l, ⟨h, -⟩ | ⟨h, -⟩⟩ := updatePair_writes k s <;> simp [h, ha, hb, hc]

theorem updatePairOf_eq (p : Nat) (s : State) : updatePairOf p s = s ∨ ∃ k, pairOf p = some k ∧ updatePairOf p s = updatePair k s := by
  unfold updatePairOf
  split
  next k h => exact .inr ⟨k, h, rfl⟩
  next => exact .inl rfl

@[simp] theorem updatePairOf_frame (p : Nat) (s : State) :
    (updatePairOf p s).now = s.now ∧ (updatePairOf p s).time = s.time ∧ (updatePairOf p s).power = s.power ∧
    (updatePairOf p s).outs = s.outs ∧ (updatePairOf p s).dev = s.dev ∧ (updatePairOf p s).port.ports = s.port.ports ∧
    (∀ a b c, (updatePairOf p s).cfg a b c = s.cfg a b c) ∧ (∀ a b c, (updatePairOf p s).cfgB a b c = s.cfgB a b c) ∧
    (∀ a b c, (updatePairOf p s).cfgBytes a b c = s.cfgBytes a b c) := by
  obtain h | ⟨k, -, h⟩ := updatePairOf_eq p s <;> simp [h]

@[simp] theorem updatePairOf_portOf (p : Nat) (s : State) (k : Nat) : (updatePairOf p s).portOf k = s.portOf k := portOf_of_port (by simp) k

@[simp] theorem touches_updatePairOf (m : Part.port ∈ ps) (p : Nat) : Touches ps os s (updatePairOf p u) ↔ Touches ps os s u := by
  obtain h | ⟨k, -, h⟩ := updatePairOf_eq p u <;> simp [h, m]

@[simp] theorem ro_updatePairOf (ha : a ≠ 0x2E20) (hb : b < 256) (hc : c < 0x1000000) (p : Nat) (s : State) :
    (updatePairOf p s).ro a b c = s.ro a b c := by
  obtain h | ⟨k, -, h⟩ := updatePairOf_eq p s <;> simp [h, ha, hb, hc]

/-! ### What a few events add to the log -/

theorem fifo_raise_length (code : Nat) (l : List Byte) (u : State) : (raise code l u).log.fifo.length ≤ u.log.fifo.length + 1 := by
  unfold raise raiseFrom
  split
  · omega
  split
  · simp
  · simp

/-- What begins with the log s had and adds at most n events. -/
def FewEvents (n : Nat) (s u : State) : Prop := s.log.fifo <+: u.log.fifo ∧ u.log.fifo.length ≤ s.log.fifo.length + n

theorem FewEvents.of_log {s u : State} (h : u.log = s.log) : FewEvents 0 s u := by simp [FewEvents, h]

theorem FewEvents.raise {n : Nat} {s u : State} (h : FewEvents n s u) (code : Nat) (l : List Byte) : FewEvents (n + 1) s (raise code l u) :=
  ⟨h.1.trans (fifo_raise code l u), by have := fifo_raise_length code l u; have := h.2; omega⟩

theorem FewEvents.updatePair {n : Nat} {s u : State} (h : FewEvents n s u) (k : Nat) : FewEvents (n + 1) s (updatePair k u) := by
  obtain ⟨v, code, l, ⟨hk, -⟩ | ⟨hk, -⟩⟩ := updatePair_writes k u
  · rw [hk]; exact ⟨h.1, by have := h.2; omega⟩
  · rw [hk]; exact FewEvents.raise (u := u.onPorts fun a => { a with pairState := putKey k v a.pairState }) (by simpa [FewEvents] using h) code l

theorem FewEvents.updatePairOf {n : Nat} {s u : State} (h : FewEvents n s u) (p : Nat) : FewEvents (n + 1) s (updatePairOf p u) := by
  obtain hp | ⟨k, -, hp⟩ := updatePairOf_eq p u
  · rw [hp]; exact ⟨h.1, by have := h.2; omega⟩
  · rw [hp]; exact h.updatePair k

/-- An event raised after a few others still finds room. -/
theorem FewEvents.posted {n : Nat} {s u : State} (h : FewEvents n s u) (hroom : Room s) (hn : n < 8) (hpower : u.power = s.power)
    (code : Nat) (l : List Byte) : Posted code l s (Machine.raise code l u) := by
  obtain ⟨⟨rest, hrest⟩, hlen⟩ := h
  obtain ⟨hpowered, hdev, hfree⟩ := hroom
  refine Posted.raise rest hrest.symm ⟨?_, ?_, by omega⟩ code l
  · simpa [State.powered, State.dev, hpower] using hpowered
  · simpa [State.dev, hpower] using hdev

end operations

/-! ### Links -/

theorem portUp_free {p : Nat} {s : State} (hp : p < 8) (hheld : portHeld s p = false) (hlink : (s.portOf p).link ≠ 1) :
    portUp p s = updatePairOf p (raise 0x2101 (le 1 p ++ le 1 (s.cfg 0x2100 0x02 p))
      ((setLink p 1 s).setPort p { (setLink p 1 s).portOf p with lastRx := s.now })) := by
  unfold portUp
  rw [if_pos (by simp [hp, hheld, hlink])]
  simp [setLink]

theorem linkLost_up {p cause : Nat} {s : State} (hp : p < 8) (hlink : (s.portOf p).link = 1) :
    linkLost p cause s = updatePairOf p (raise 0x2102 (le 1 p ++ le 1 cause) ((setLink p 0 s).tally 0x2120 0x13 p)) := by
  simp [linkLost, portDown, hp, hlink]

@[simp] theorem advance_heldByState (t p : Nat) (s : State) : heldByState (s.advance t) p = heldByState s p := by
  simp [heldByState]

@[simp] theorem advance_portHeld (t p : Nat) (s : State) : portHeld (s.advance t) p = portHeld s p := by
  simp [portHeld, managementUp]

/-- Declaring a link down: one record, one counter, at most two events. -/
theorem portDown_writes (p new cause : Nat) (s : State) :
    (portDown p new cause s).power = s.power ∧ (portDown p new cause s).dev = s.dev ∧ ((portDown p new cause s).portOf p).link = new ∧
    FewEvents 2 s (portDown p new cause s) := by
  unfold portDown
  split
  · refine ⟨by simp [setLink], by simp [setLink], by simp [setLink], ?_⟩
    exact ((FewEvents.of_log (by simp [setLink])).raise _ _).updatePairOf p
  · exact ⟨by simp [setLink], by simp [setLink], by simp [setLink], ⟨by simp [setLink], by simp [setLink]⟩⟩

theorem touches_portDown {ps : List Part} {os : List (Nat × Nat)} {p : Nat} (m : Part.port ∈ ps) (h : (0x2120, 0x13) ∈ os) (hp : p < 8)
    (new cause : Nat) (s u : State) : Touches ps os s (portDown p new cause u) ↔ Touches ps os s u := by
  have hrow : p < 0x1000000 := by omega
  unfold portDown setLink
  split <;> simp [m, h, hrow]

@[simp] theorem ro_portDown {a b c : Nat} (ha : a ≠ 0x2E20) (hne : (a, b) ≠ (0x2120, 0x13)) (hb : b < 256) (hc : c < 0x1000000) {p : Nat}
    (hp : p < 8) (new cause : Nat) (s : State) : (portDown p new cause s).ro a b c = s.ro a b c := by
  have hrow : p < 0x1000000 := by omega
  unfold portDown setLink
  split <;> simp [ha, hb, hc, hne, hrow]

theorem refuseLink_reports {p reason : Nat} {s : State} (hp : p = 4 ∨ p = 5) (hheld : portHeld s p = false)
    (hreports : reportsRefusal s p reason = true) :
    refuseLink p reason s = raise 0x2103 (le 1 p ++ le 1 reason) ((portDown p 2 0 s).tally 0x2120 0x14 p) := by
  unfold refuseLink
  rw [if_pos (by simp [hp, hheld, hreports])]

theorem portSilent_due {p : Nat} {s : State} (hp : p < 6) (hlink : (s.portOf p).link = 1) (hsilent : (s.portOf p).silent = false)
    (hdue : (s.portOf p).lastRx + 3 * ms (s.cfg 0x2101 0x04 (p / 2)) ≤ s.now) (hheard : (s.portOf (partnerOf p)).heard = true)
    (hpartner : s.now < (s.portOf (partnerOf p)).lastRx + 3 * ms (s.cfg 0x2101 0x04 (p / 2))) :
    portSilent p s = updatePair (p / 2) (s.setPort p { s.portOf p with silent := true }) := by
  simp [portSilent, pairOf, hp, hlink, hsilent, hdue, hheard, hpartner]

theorem portSilent_heard {p : Nat} {s : State} (hdue : s.now < (s.portOf p).lastRx + 3 * ms (s.cfg 0x2101 0x04 (p / 2))) :
    portSilent p s = s := by
  unfold portSilent pairOf
  split
  · rfl
  next k h =>
    obtain ⟨-, rfl⟩ : p < 6 ∧ p / 2 = k := by simpa using h
    rw [if_neg (by simp [Nat.not_le.mpr hdue])]

/-- What 0x2110:01 and 0x2111:01 show. -/
theorem shown_link (s : State) (p : Nat) : shown s 0x2110 0x01 p = (s.portOf p).link := rfl

theorem shown_pairState (s : State) (k : Nat) : shown s 0x2111 0x01 k = tabGet 2 s.port.pairState k := rfl

/-- Settles O8: each report of a link by the equation of its effect. -/
theorem portsComeUpAndGoDown : Obligations.PortsComeUpAndGoDown := by
  refine ⟨?up, ?upHeld, ?down, ?downDown, ?refused, ?unreported, ?silent, ?heard⟩
  case up =>
    intro t p s hroom hp hheld hlink
    refine .of (f := portUp p) rfl ?_
    rw [portUp_free hp (by simpa using hheld) (by simpa using hlink), shown_link]
    refine ⟨by simp [setLink], by simp [setLink], by simp, by simp [setLink], ?_, by simp [setLink]⟩
    refine Posted.settle (Posted.later ?_ (FewEvents.updatePairOf (FewEvents.of_log rfl) p).1)
    exact (FewEvents.of_log (by simp [setLink])).posted hroom (by omega) (by simp [setLink]) _ _
  case upHeld =>
    intro t p s hheld
    exact .unchanged (f := portUp p) rfl (by simp [portUp, hheld])
  case down =>
    intro t p cause s hroom hp hlink
    have hrow : p < 0x1000000 := by omega
    refine .of (f := linkLost p cause) rfl ?_
    rw [linkLost_up hp (by simpa using hlink), shown_link]
    refine ⟨by simp [setLink], by simp [setLink], ?_, ?_, by simp [setLink, hrow]⟩
    · simp only [ro_settle, ro_updatePairOf, ro_raise, ne_eq, hrow, not_false_iff, Nat.reduceEqDiff, Nat.reduceLT]
      rw [ro_tally (by simpa [setLink] using hroom.2.1)]
      simp [setLink, show widthOf 0x2120 0x13 = 32 from rfl]
    · refine Posted.settle (Posted.later ?_ (FewEvents.updatePairOf (FewEvents.of_log rfl) p).1)
      exact (FewEvents.of_log (by simp [setLink])).posted hroom (by omega) (by simp [setLink]) _ _
  case downDown =>
    intro t p cause s hlink
    exact .unchanged (f := linkLost p cause) rfl (by simp [linkLost, hlink])
  case refused =>
    intro t p reason s hroom hp hheld hreports
    have hrow : p < 0x1000000 := by omega
    refine .of (f := refuseLink p reason) rfl ?_
    rw [refuseLink_reports hp (by simpa using hheld) (by simpa [reportsRefusal] using hreports), shown_link]
    obtain ⟨hpower, hdev, hlink, hevents⟩ := portDown_writes p 2 0 (s.advance t)
    refine ⟨by simp [hlink], by simp [hlink], ?_, ?_, ?_⟩
    · simp only [ro_settle, ro_raise, ne_eq, hrow, not_false_iff, Nat.reduceEqDiff, Nat.reduceLT]
      rw [ro_tally (by simpa [hdev] using hroom.2.1), ro_portDown (by simp) (by simp) (by simp) hrow (by omega)]
      simp [show widthOf 0x2120 0x14 = 32 from rfl]
    · exact (FewEvents.posted (n := 2) (by simpa [FewEvents] using hevents) hroom (by omega) (by simp [hpower]) _ _).settle
    · simp [hrow, touches_portDown (p := p) (ps := [.port]) (os := [(0x2120, 0x13), (0x2120, 0x14)]) (by simp) (by simp) (by omega)]
  case unreported =>
    intro t p reason s hreports
    have hsame : reportsRefusal (s.advance t) p reason = false := by simpa [reportsRefusal] using hreports
    exact .unchanged (f := refuseLink p reason) rfl (by rw [refuseLink, if_neg]; simp [hsame])
  case silent =>
    intro t p s hp hlink hsilent hdue hheard hpartner
    refine .of (f := portSilent p) rfl ?_
    rw [portSilent_due hp (by simpa using hlink) (by simpa using hsilent) (by simpa using hdue) (by simpa using hheard) (by simpa using hpartner),
      shown_pairState]
    refine ⟨by simp, by simpa using hlink, ?_, by simp⟩
    rw [pairShould_of_ports (settle_frame _).2.2.2.2.2.2.2.1, ← updatePair_shows]
    simp
  case heard =>
    intro t p s hdue
    exact .unchanged (f := portSilent p) rfl (portSilent_heard (by simpa using hdue))

end Sys2Proof.Machine
end

section
/-! Received frames and pauses (R95 to R116). -/

namespace Sys2Proof.Machine
open Sys2Proof

/-- A port after the reception of any frame (R128). -/
def markReception (p : Nat) (s : State) : State :=
  let u := s.setPort p { s.portOf p with lastRx := s.now, silent := false, heard := true }
  if (s.portOf p).silent then updatePairOf p u else u

/-- A reception writes the port's record and perhaps its pair's state. -/
theorem markReception_leaves (p : Nat) (s : State) :
    (markReception p s).now = s.now ∧ (markReception p s).dev = s.dev ∧
    (markReception p s).portOf p = { s.portOf p with lastRx := s.now, silent := false, heard := true } ∧
    (∀ a b c, (markReception p s).cfg a b c = s.cfg a b c) ∧ (∀ a b c, (markReception p s).cfgB a b c = s.cfgB a b c) ∧
    (∀ a b c, (markReception p s).cfgBytes a b c = s.cfgBytes a b c) ∧ (markReception p s).power = s.power ∧
    (∀ a b c, a ≠ 0x2E20 → b < 256 → c < 0x1000000 → (markReception p s).ro a b c = s.ro a b c) ∧
    ∀ ps os u, Part.port ∈ ps → (Touches ps os u (markReception p s) ↔ Touches ps os u s) := by
  unfold markReception
  dsimp only
  split <;> simp_all

/-- A frame received on a link that is up, check by check (R95 to R99). -/
theorem receiveFrame_up {p : Nat} {s : State} (hp : p < 8) (hlink : (s.portOf p).link = 1) (good overflow : Bool) (l : List Byte) :
    receiveFrame p good overflow l s =
      if overflow then (markReception p s).tally 0x2120 0x09 p
      else if l.length + 4 < 64 then (markReception p s).tally 0x2120 0x04 p
      else if l.length + 4 > portMax (markReception p s) p then (markReception p s).tally 0x2120 0x05 p
      else if !good then (markReception p s).tally 0x2120 0x03 p
      else
        if !addressAccepted (((markReception p s).tally 0x2120 0x01 p).tally 0x2120 0x02 p (l.length + 4)) p (l.take 6) then
          (((markReception p s).tally 0x2120 0x01 p).tally 0x2120 0x02 p (l.length + 4)).tally 0x2120 0x06 p
        else match untag l with
          | none => (((markReception p s).tally 0x2120 0x01 p).tally 0x2120 0x02 p (l.length + 4)).tally 0x2120 0x07 p
          | some (vid, m) =>
            if vidAccepted (((markReception p s).tally 0x2120 0x01 p).tally 0x2120 0x02 p (l.length + 4)) p vid then
              acceptedFrame p vid (l.length + 4) m (((markReception p s).tally 0x2120 0x01 p).tally 0x2120 0x02 p (l.length + 4))
            else (((markReception p s).tally 0x2120 0x01 p).tally 0x2120 0x02 p (l.length + 4)).tally 0x2120 0x07 p := by
  unfold receiveFrame
  rw [if_neg (by simp [hp, hlink])]
  rfl

theorem receiveFrame_down {p : Nat} {s : State} (hlink : (s.portOf p).link ≠ 1) (good overflow : Bool) (l : List Byte) :
    receiveFrame p good overflow l s = s := by
  simp [receiveFrame, hlink]

section checks
variable {p : Nat} {s u : State}

theorem portMax_of (hdev : u.dev = s.dev) (hcfg : ∀ a b c, u.cfg a b c = s.cfg a b c) (p : Nat) : portMax u p = portMax s p := by
  simp [portMax, hdev, hcfg]

@[simp] theorem portMax_markReception (p q : Nat) (s : State) : portMax (markReception q s) p = portMax s p :=
  portMax_of (by simp [markReception_leaves]) (by simp [markReception_leaves]) p

@[simp] theorem portMax_advance (t p : Nat) (s : State) : portMax (s.advance t) p = portMax s p := portMax_of (by simp) (by simp) p

theorem addressAccepted_of (hdev : u.dev = s.dev) (hloaded : u.power.setLoaded = s.power.setLoaded) (hcfg : ∀ a b c, u.cfg a b c = s.cfg a b c)
    (hbytes : ∀ a b c, u.cfgBytes a b c = s.cfgBytes a b c) (p : Nat) (l : List Byte) : addressAccepted u p l = addressAccepted s p l := by
  simp [addressAccepted, prpMode, hdev, hloaded, hcfg, hbytes]

@[simp] theorem addressAccepted_advance (t p : Nat) (s : State) (l : List Byte) : addressAccepted (s.advance t) p l = addressAccepted s p l :=
  addressAccepted_of (by simp) (by simp) (by simp) (by simp) p l

/-- A frame that a check turns away is counted, and nothing else differs but the port's record. -/
theorem turnedAway {j : Nat} (hj : j < 256) (hw : widthOf 0x2120 j = 32) (hdev : s.dev ≠ stRecovery) (hp : p < 8) :
    (settle ((markReception p s).tally 0x2120 j p)).ro 0x2120 j p = (s.ro 0x2120 j p + 1) % 2 ^ 32 ∧
    Touches [.port] [(0x2120, j)] s (settle ((markReception p s).tally 0x2120 j p)) := by
  obtain ⟨-, hdev', -, -, -, -, -, hro, htouch⟩ := markReception_leaves p s
  have hrow : p < 0x1000000 := by omega
  refine ⟨?_, ?_⟩
  · rw [ro_settle (by omega) hj hrow, ro_tally (by rwa [hdev']), hw, hro _ _ _ (by omega) hj hrow]
  · rw [touches_settle, touches_tally (by simp) hj hrow, htouch _ _ _ (by simp)]
    exact .refl _ _ _

/-- The counters of a frame with a good FCS (R130), its address accepted or not. -/
def countReceived (p length : Nat) (s : State) : State := ((markReception p s).tally 0x2120 0x01 p).tally 0x2120 0x02 p length

theorem countReceived_leaves (hp : p < 8) (n : Nat) (s : State) :
    (countReceived p n s).now = s.now ∧ (countReceived p n s).dev = s.dev ∧ (countReceived p n s).power = s.power ∧
    (countReceived p n s).portOf p = { s.portOf p with lastRx := s.now, silent := false, heard := true } ∧
    (∀ a b c, (countReceived p n s).cfg a b c = s.cfg a b c) ∧ (∀ a b c, (countReceived p n s).cfgB a b c = s.cfgB a b c) ∧
    (∀ a b c, (countReceived p n s).cfgBytes a b c = s.cfgBytes a b c) ∧
    (∀ b, b < 256 → b ≠ 0x01 → b ≠ 0x02 → (countReceived p n s).ro 0x2120 b p = s.ro 0x2120 b p) ∧
    (s.dev ≠ stRecovery → (countReceived p n s).ro 0x2120 0x01 p = (s.ro 0x2120 0x01 p + 1) % 2 ^ 64) ∧
    ∀ os, (0x2120, 0x01) ∈ os → (0x2120, 0x02) ∈ os → Touches [.port] os s (countReceived p n s) := by
  obtain ⟨hnow, hdev, hport, hcfg, hcfgB, hbytes, hpower, hro, htouch⟩ := markReception_leaves p s
  have hrow : p < 0x1000000 := by omega
  refine ⟨by simp [countReceived, hnow], by simp [countReceived, hdev], by simp [countReceived, hpower], by simp [countReceived, hport],
    by simp [countReceived, hcfg], by simp [countReceived, hcfgB], by simp [countReceived, hbytes], fun b hb h1 h2 => ?_, fun h => ?_,
    fun os h1 h2 => ?_⟩
  · rw [countReceived, ro_tally_of_ne (by simp [h2]) (by omega) hrow hb hrow, ro_tally_of_ne (by simp [h1]) (by omega) hrow hb hrow,
      hro _ _ _ (by omega) hb hrow]
  · rw [countReceived, ro_tally_of_ne (by simp) (by omega) hrow (by omega) hrow, ro_tally (by rwa [hdev]), hro _ _ _ (by omega) (by omega) hrow]
    rfl
  · simp [countReceived, h1, h2, hrow, htouch]

end checks

/-! ### Pauses -/

theorem pauseOver_due {p a : Nat} {s : State} (hpaused : (s.portOf p).pausedSince = some a) (hdue : (s.portOf p).pauseUntil ≤ s.now) :
    pauseOver p s = endPause p (s.portOf p).pauseUntil s := by
  simp [pauseOver, hpaused, hdue]

theorem pauseOver_early {p : Nat} {s : State} (hdue : s.now < (s.portOf p).pauseUntil) : pauseOver p s = s := by
  simp [pauseOver, Nat.not_le.mpr hdue]

/-- The end of a pause adds the time stopped, and what follows from it: the pair's both-paused time and a long pause. -/
theorem endPause_paused {p e a : Nat} {s : State} (hp : p < 8) (hpaused : (s.portOf p).pausedSince = some a) (hdev : s.dev ≠ stRecovery) :
    ((endPause p e s).portOf p).pausedSince = none ∧
    (endPause p e s).ro 0x2120 0x0C p = (s.ro 0x2120 0x0C p + (e - a) / 1000) % 2 ^ 64 ∧
    Touches [.port] [(0x2120, 0x0C), (0x2121, 0x05), (0x2120, 0x15)] s (endPause p e s) := by
  have hrow : p < 0x1000000 := by omega
  unfold endPause
  extract_lets x
  split
  next h => simp [x, hpaused] at h
  next b h =>
    obtain rfl : a = b := by simpa [x, hpaused] using h
    extract_lets d s1 s2
    have h1 : (s1.portOf p).pausedSince = none ∧ s1.ro 0x2120 0x0C p = (s.ro 0x2120 0x0C p + (e - a) / 1000) % 2 ^ 64 ∧
        Touches [.port] [(0x2120, 0x0C), (0x2121, 0x05), (0x2120, 0x15)] s s1 := by
      refine ⟨by simp [s1], ?_, by simp [s1, hrow]⟩
      rw [ro_tally (by simpa using hdev)]
      simp [d, show widthOf 0x2120 0x0C = 64 from rfl]
    have h2 : (s2.portOf p).pausedSince = none ∧ s2.ro 0x2120 0x0C p = (s.ro 0x2120 0x0C p + (e - a) / 1000) % 2 ^ 64 ∧
        Touches [.port] [(0x2120, 0x0C), (0x2121, 0x05), (0x2120, 0x15)] s s2 := by
      unfold s2
      split
      next k b hk _ =>
        have hk : k < 0x1000000 := by
          obtain ⟨hp6, rfl⟩ : p < 6 ∧ p / 2 = k := by simpa [pairOf] using hk
          omega
        simpa [hk, hrow] using h1
      next => exact h1
    split
    · simpa [hrow] using h2
    · exact h2

theorem setPort_ro (s : State) (p : Nat) (x : Port) (a b c : Nat) : (s.setPort p x).ro a b c = s.ro a b c := by simp

/-- An untagged frame of MAC control or PTP is taken whatever the VLAN filter. -/
theorem acceptedFrame_taken {l : List Byte} (htype : beAt l 12 2 = 0x8808 ∨ beAt l 12 2 = 0x88F7) {p n : Nat} {s : State} :
    (match untag l with
      | none => s.tally 0x2120 0x07 p
      | some (vid, m) => if vidAccepted s p vid then acceptedFrame p vid n m s else s.tally 0x2120 0x07 p) = acceptedFrame p 0 n l s := by
  obtain h | h := htype <;> simp [untag, h, vidAccepted]

theorem acceptedFrame_ptp {p n : Nat} {l : List Byte} (hp : p < 6) (htype : beAt l 12 2 = 0x88F7) (s : State) :
    acceptedFrame p 0 n l s = s.emit (.dispatched p 0x88F7 0 l) := by
  simp [acceptedFrame, hp, htype]

theorem acceptedFrame_pause {p n : Nat} {l : List Byte} (htype : beAt l 12 2 = 0x8808) (hopcode : beAt l 14 2 = 1) (hn : n = 64) (s : State) :
    acceptedFrame p 0 n l s = takePause p (beAt l 16 2) (s.tally 0x2120 0x0A p) := by
  simp [acceptedFrame, htype, macControl, hopcode, hn]

theorem takePause_stops {p quanta : Nat} {s : State} (hon : s.cfgB 0x2100 0x06 p = true) (hquanta : quanta ≠ 0)
    (hpaused : (s.portOf p).pausedSince = none) :
    takePause p quanta s = s.setPort p { s.portOf p with
      pauseUntil := s.now + quanta * 64 * bytePs (s.cfg 0x2100 0x02 p), pausedSince := some (Nat.max s.now (s.portOf p).busyUntil) } := by
  simp [takePause, hon, hquanta, hpaused]

/-- Settles O9: the checks in their order, then what takes the frame. -/
theorem framesAreReceived : Obligations.FramesAreReceived := by
  refine ⟨?overflow, ?short, ?long, ?badFcs, ?address, ?ptp, ?pause, ?down, ?pauseEnds, ?pauseEarly⟩
  case overflow =>
    intro t p l good s hdev hp hlink
    refine .of (f := receiveFrame p good true l) rfl ?_
    rw [receiveFrame_up hp (by simpa using hlink), if_pos rfl]
    simpa using turnedAway (p := p) (s := s.advance t) (j := 0x09) (by omega) rfl (by simpa using hdev) hp
  case short =>
    intro t p l good s hdev hp hlink hlen
    refine .of (f := receiveFrame p good false l) rfl ?_
    rw [receiveFrame_up hp (by simpa using hlink), if_neg (by simp), if_pos (by omega)]
    simpa using turnedAway (p := p) (s := s.advance t) (j := 0x04) (by omega) rfl (by simpa using hdev) hp
  case long =>
    intro t p l good s hdev hp hlink hlen hmax
    refine .of (f := receiveFrame p good false l) rfl ?_
    rw [receiveFrame_up hp (by simpa using hlink), if_neg (by simp), if_neg (by omega), if_pos (by simpa using hmax)]
    simpa using turnedAway (p := p) (s := s.advance t) (j := 0x05) (by omega) rfl (by simpa using hdev) hp
  case badFcs =>
    intro t p l s hdev hp hlink hlen hmax
    refine .of (f := receiveFrame p false false l) rfl ?_
    rw [receiveFrame_up hp (by simpa using hlink), if_neg (by simp), if_neg (by omega), if_neg (by simpa using hmax), if_pos (by simp)]
    simpa using turnedAway (p := p) (s := s.advance t) (j := 0x03) (by omega) rfl (by simpa using hdev) hp
  case address =>
    intro t p l s hdev hp hlink hlen hmax haddress
    have hrow : p < 0x1000000 := by omega
    refine .of (f := receiveFrame p true false l) rfl ?_
    obtain ⟨-, hdev', hpower, -, hcfg, -, hbytes, hro, -, htouch⟩ := countReceived_leaves hp (l.length + 4) (s.advance t)
    have hsame : addressAccepted (countReceived p (l.length + 4) (s.advance t)) p (l.take 6) = false := by
      rw [addressAccepted_of hdev' (by rw [hpower]) hcfg hbytes]
      simpa using haddress
    rw [receiveFrame_up hp (by simpa using hlink), if_neg (by simp), if_neg (by omega), if_neg (by simpa using hmax), if_neg (by simp), ← countReceived,
      if_pos (by simp [hsame])]
    refine ⟨?_, by simp [hrow, htouch]⟩
    rw [ro_settle (by omega) (by omega) hrow, ro_tally (by simpa [hdev'] using hdev), hro _ (by omega) (by omega) (by omega)]
    simp [show widthOf 0x2120 0x06 = 32 from rfl]
  case ptp =>
    intro t p l s hdev hp hlink hlen hmax haddress htype
    have hrow : p < 0x1000000 := by omega
    refine .of (f := receiveFrame p true false l) rfl ?_
    obtain ⟨-, -, -, -, -, -, -, -, hro, htouch⟩ := countReceived_leaves (by omega : p < 8) (l.length + 4) (s.advance t)
    rw [receiveFrame_up (by omega) (by simpa using hlink), if_neg (by simp), if_neg (by omega), if_neg (by simpa using hmax), if_neg (by simp),
      ← countReceived, if_neg (by simp [addressAccepted, haddress, fixedAddresses])]
    rw [acceptedFrame_taken (.inr htype), acceptedFrame_ptp (by omega) htype]
    exact ⟨by simp, by simpa [hrow] using hro (by simpa using hdev), by simp [htouch]⟩
  case pause =>
    intro t p l s hdev hp hlink hlen hmax haddress htype hopcode hquanta hon hpaused
    have hrow : p < 0x1000000 := by omega
    refine .of (f := receiveFrame p true false l) rfl ?_
    obtain ⟨hnow, hdev', -, hport, hcfg, hcfgB, -, hro, -, htouch⟩ := countReceived_leaves hp (l.length + 4) (s.advance t)
    rw [receiveFrame_up hp (by simpa using hlink), if_neg (by simp), if_neg (by omega), if_neg (by simp; omega), if_neg (by simp),
      ← countReceived, if_neg (by simp [addressAccepted, haddress, fixedAddresses])]
    rw [acceptedFrame_taken (.inl htype), acceptedFrame_pause htype hopcode (by omega),
      takePause_stops (by simpa [hcfgB] using hon) (by omega) (by simp [hport, hpaused])]
    refine ⟨?_, by simp [hport, hnow], by simp [hnow, hcfg], by simp [hrow, htouch]⟩
    rw [ro_settle (by omega) (by omega) hrow, setPort_ro, ro_tally (by simpa [hdev'] using hdev), hro _ (by omega) (by omega) (by omega)]
    simp [show widthOf 0x2120 0x0A = 32 from rfl]
  case down =>
    intro t p l good over_ s hlink
    exact .unchanged (f := receiveFrame p good over_ l) rfl (receiveFrame_down (by simpa using hlink) good over_ l)
  case pauseEnds =>
    intro t p a s hdev hp hpaused hdue
    have hrow : p < 0x1000000 := by omega
    refine .of (f := pauseOver p) rfl ?_
    rw [pauseOver_due (a := a) (by simpa using hpaused) (by simpa using hdue)]
    simpa [hrow] using endPause_paused (e := (s.portOf p).pauseUntil) (s := s.advance t) hp (by simpa using hpaused) (by simpa using hdev)
  case pauseEarly =>
    intro t p s hdue
    exact .unchanged (f := pauseOver p) rfl (pauseOver_early (by simpa using hdue))

end Sys2Proof.Machine
end

section
/-! Frames sent: the queues of a port, the frame in progress, underruns, supervision frames (R107, R119, R126). -/

namespace Sys2Proof.Machine
open Sys2Proof

@[simp] theorem portOf_raiseOnce (code key : Nat) (l : List Byte) (s : State) (p : Nat) : (raiseOnce code key l s).portOf p = s.portOf p :=
  portOf_of_port (by simp) p

@[simp] theorem portOf_onTime (f : TimeSt → TimeSt) (s : State) (p : Nat) : (s.onTime f).portOf p = s.portOf p := portOf_of_port (by simp) p

/-- Work on a port's queues: frames enter them or are dropped, each counted; clock, outputs, settings, other counters and what the port is sending
stay. -/
structure QueueWork (p : Nat) (s u : State) : Prop where
  now : u.now = s.now
  dev : u.dev = s.dev
  outs : u.outs = s.outs
  cfg : ∀ a b c, u.cfg a b c = s.cfg a b c
  record : { u.portOf p with queues := [] } = { s.portOf p with queues := [] }
  counters : ∀ b, b < 256 → b ≠ 0x10 → b ≠ 0x12 → u.ro 0x2120 b p = s.ro 0x2120 b p
  touches : Touches [.port, .time] [(0x2120, 0x10), (0x2120, 0x12)] s u

namespace QueueWork
variable {p : Nat} {s u v : State}

theorem refl (p : Nat) (s : State) : QueueWork p s s :=
  ⟨rfl, rfl, rfl, fun _ _ _ => rfl, rfl, fun _ _ _ _ => rfl, .refl _ _ _⟩

theorem trans (h : QueueWork p s u) (g : QueueWork p u v) : QueueWork p s v :=
  ⟨g.now.trans h.now, g.dev.trans h.dev, g.outs.trans h.outs, fun a b c => (g.cfg a b c).trans (h.cfg a b c), g.record.trans h.record,
    fun b hb h1 h2 => (g.counters b hb h1 h2).trans (h.counters b hb h1 h2), h.touches.trans g.touches⟩

theorem enqueue (hp : p < 8) (cls src num : Nat) (frame : List Byte) (s : State) : QueueWork p s (enqueue p cls src num frame s) := by
  have hrow : p < 0x1000000 := by omega
  unfold Machine.enqueue
  split
  · exact ⟨by simp, by simp, by simp, by simp, by simp,
      fun b hb h1 h2 => by simp [hrow, hb, h2], by simp [hrow]⟩
  · exact ⟨by simp, by simp, by simp, by simp, by simp, fun b hb h1 h2 => by simp, by simp⟩

theorem sendPort (hp : p < 8) (cls src num : Nat) (dst : List Byte) (etype : Nat) (payload : List Byte) (s : State) :
    QueueWork p s (sendPort p cls src num dst etype payload s) := by
  unfold Machine.sendPort
  split
  · exact enqueue hp _ _ _ _ s
  · exact refl p s

theorem sendPtp (hp : p < 8) (event : Bool) (dst l : List Byte) (s : State) : QueueWork p s (sendPtp p event dst l s) := sendPort hp _ _ _ _ _ _ s

theorem ptpDue (hp : p < 8) (s : State) : QueueWork p s (ptpDue p s) := by
  unfold Machine.ptpDue
  extract_lets last due seq u
  split
  · refine ((sendPtp hp _ _ _ _).trans (sendPtp hp _ _ _ _)).trans (u := u) ?_
    exact ⟨by simp, by simp, by simp, by simp, by simp, fun b hb h1 h2 => by simp, by simp⟩
  · exact refl p s

theorem dropTooLong (hp : p < 8) (q : Nat) (s : State) : QueueWork p s (dropTooLong p q s) := by
  have hrow : p < 0x1000000 := by omega
  unfold Machine.dropTooLong
  dsimp only
  split
  · exact refl p s
  split
  · exact refl p s
  split
  · refine ⟨by simp, by simp, by simp, by simp, ?_, fun b hb h1 h2 => by simp [hrow, hb, h1], by simp [hrow]⟩
    simp
  · exact refl p s

theorem foldl {α : Type} {f : State → α → State} (h : ∀ s a, QueueWork p s (f s a)) (l : List α) (s : State) : QueueWork p s (l.foldl f s) := by
  induction l generalizing s with
  | nil => exact refl p s
  | cons a l ih => exact (h s a).trans (ih (f s a))

theorem followUp (hp : p < 8) (f : TxFrame) (s : State) : QueueWork p s (followUp p f s) := by
  unfold Machine.followUp
  dsimp only
  split
  · exact refl p s
  split <;> exact sendPtp hp _ _ _ s

end QueueWork

/-! ### The start of a frame -/

section start
variable {p q : Nat} {s u v : State} {f : TxFrame} {rest : List TxFrame}

theorem stampFrame_none (hsource : f.source = 0) (s : State) (p : Nat) : stampFrame s p f = f := by simp [stampFrame, hsource]

@[simp] theorem stampFrame_source (s : State) (p : Nat) (f : TxFrame) : (stampFrame s p f).source = f.source := by
  unfold stampFrame
  split
  · rfl
  · dsimp only
    split <;> rfl

theorem followUp_none (hsource : f.source = 0) (s : State) (p : Nat) : followUp p f s = s := by simp [followUp, hsource]

/-- The port after its frame has begun, before a follow-up message is queued. -/
def beginFrame (p q : Nat) (f : TxFrame) (rest : List TxFrame) (v : State) : State :=
  (((v.setPort p { v.portOf p with
      queues := putKey q rest (v.portOf p).queues, sending := some f, sendingQ := q,
      busyUntil := v.now + frameTime v p f.bytes.length }).tally 0x2120 0x0D p).tally 0x2120 0x0E p (f.bytes.length + 4)).emit
    (.wire p false f.bytes)

theorem startFrame_head (hhead : tabGet [] (v.portOf p).queues q = f :: rest) :
    startFrame p q v = followUp p (stampFrame v p f) (beginFrame p q (stampFrame v p f) rest v) := by
  simp only [startFrame, hhead, beginFrame]

theorem txStart_ready (hp : p < 8) (hlink : (s.portOf p).link = 1) (hidle : (s.portOf p).busyUntil ≤ s.now)
    (hpaused : (s.portOf p).pausedSince = none)
    (hfind : [7, 6, 5, 4, 3, 2, 1, 0].find? (eligible ((List.range 8).foldl (fun s q => dropTooLong p q s) (ptpDue p s)) p) = some q) :
    txStart p s = startFrame p q ((List.range 8).foldl (fun s q => dropTooLong p q s) (ptpDue p s)) := by
  unfold txStart
  rw [if_neg (by simp [hp, hlink, hidle, hpaused])]
  simp only [hfind]

theorem beginFrame_reads (hp : p < 8) (v : State) (f : TxFrame) (rest : List TxFrame) :
    ((beginFrame p q f rest v).portOf p).sending = some f ∧
    ((beginFrame p q f rest v).portOf p).busyUntil = v.now + frameTime v p f.bytes.length ∧
    tabGet [] ((beginFrame p q f rest v).portOf p).queues q = rest ∧ Out.wire p false f.bytes ∈ (beginFrame p q f rest v).outs ∧
    (v.dev ≠ stRecovery → (beginFrame p q f rest v).ro 0x2120 0x0D p = (v.ro 0x2120 0x0D p + 1) % 2 ^ 64) ∧
    Touches [.port, .time] [(0x2120, 0x0D), (0x2120, 0x0E), (0x2120, 0x10), (0x2120, 0x12)] v (beginFrame p q f rest v) := by
  have hrow : p < 0x1000000 := by omega
  refine ⟨by simp [beginFrame], by simp [beginFrame], by simp [beginFrame], by simp [beginFrame], fun h => ?_, by simp [beginFrame, hrow]⟩
  have hcount := ro_tally (s := v.setPort p { v.portOf p with
      queues := putKey q rest (v.portOf p).queues, sending := some f, sendingQ := q,
      busyUntil := v.now + frameTime v p f.bytes.length }) (by simpa using h) 0x2120 0x0D p 1
  simpa [beginFrame, hrow, show widthOf 0x2120 0x0D = 64 from rfl] using hcount

end start

/-! ### Underruns -/

theorem txUnderrun_idle {p : Nat} {s : State} (hidle : (s.portOf p).sending = none) : txUnderrun p s = s := by
  simp [txUnderrun, hidle]

theorem txUnderrun_cuts {p : Nat} {f : TxFrame} {s : State} (hsending : (s.portOf p).sending = some f) (hbusy : s.now < (s.portOf p).busyUntil)
    (hcut : cutThrough s p f = true) :
    txUnderrun p s =
      (raise 0x2109 (le 1 p ++ le 2 (Nat.min (threshold s p + 256) (portMax s p)))
        ((((s.setPort p { s.portOf p with
            sending := none, busyUntil := s.now, raised := some (Nat.min (threshold s p + 256) (portMax s p)) }).tally 0x2120 0x0F p).tally
          0x2120 0x0D p (2 ^ 64 - 1)).tally 0x2120 0x0E p (2 ^ 64 - (f.bytes.length - sentBytes s p f)))).emit
        (.wire p true (f.bytes.take (sentBytes s p f))) := by
  unfold txUnderrun
  simp only [hsending]
  rw [if_neg (by simp [hcut, Nat.not_le.mpr hbusy])]

/-! ### Supervision frames -/

section supervision
variable {p k : Nat} {s : State}

/-- A frame enters its queue, or is dropped: no other part of the ports differs. -/
theorem enqueue_leaves (p cls src num : Nat) (frame : List Byte) (s : State) :
    (enqueue p cls src num frame s).port.supSeq = s.port.supSeq ∧ (enqueue p cls src num frame s).port.supAt = s.port.supAt ∧
    (∀ a b c, (enqueue p cls src num frame s).cfg a b c = s.cfg a b c) ∧
    (enqueue p cls src num frame s).dev = s.dev ∧
    (∀ k, k ≠ p → (enqueue p cls src num frame s).portOf k = s.portOf k) ∧
    ∀ k, ((enqueue p cls src num frame s).portOf k).link = (s.portOf k).link := by
  unfold enqueue
  split
  · simp
  · refine ⟨by simp, by simp, by simp, by simp, fun k hk => by simp [portOf_setPort_ne hk], fun k => ?_⟩
    by_cases hk : k = p
    · simp [hk]
    · simp [portOf_setPort_ne hk]

theorem enqueue_fits {cls src num : Nat} {frame : List Byte} (hfits : frame.length + 4 ≤ portMax s p) :
    tabGet [] ((enqueue p cls src num frame s).portOf p).queues (s.cfg 0x2104 0x01 (16 * p + cls)) =
      tabGet [] (s.portOf p).queues (s.cfg 0x2104 0x01 (16 * p + cls)) ++ [⟨frame, src, num⟩] := by
  unfold enqueue
  rw [if_neg (by omega)]
  simp

theorem touches_enqueue (hp : p < 8) {ps : List Part} {os : List (Nat × Nat)} {s u : State} (m : Part.port ∈ ps) (h : (0x2120, 0x12) ∈ os)
    (cls src num : Nat) (frame : List Byte) : Touches ps os s (enqueue p cls src num frame u) ↔ Touches ps os s u := by
  have hrow : p < 0x1000000 := by omega
  unfold enqueue
  split <;> simp [m, h, hrow]

@[simp] theorem length_leBytes (n v : Nat) : (le n v).length = n := by
  induction n generalizing v with
  | zero => rfl
  | succ n ih => simp [le, ih]

@[simp] theorem length_be (n v : Nat) : (be n v).length = n := by simp [be]

@[simp] theorem length_fit (n : Nat) (l : List Byte) : (fit n l).length = n := by simp [fit]

theorem fit_of_length {n : Nat} {l : List Byte} (h : l.length = n) : fit n l = l := by simp [fit, ← h]

theorem length_padTo (n : Nat) (l : List Byte) : (padTo n l).length = max n l.length := by
  simp [padTo]
  omega

theorem length_tagOf_le (s : State) (p cls : Nat) : (tagOf s p cls).length ≤ 4 := by
  unfold tagOf
  dsimp only
  split <;> simp

/-- The frame that a pair sends on one of its ports (R122). -/
def pairFrame (s : State) (pair p cls : Nat) (dst : List Byte) (etype : Nat) (payload : List Byte) : List Byte :=
  padTo 54 (header s p cls dst etype ++ payload) ++
    rct (tabGet 0 s.port.txSeq pair) (0xA + p % 2) ((padTo 54 (header s p cls dst etype ++ payload)).length + 6 - 14 - (tagOf s p cls).length)

/-- A short frame of a pair: 60 bytes that begin with its destination. -/
theorem pairFrame_short {s : State} {pair p cls etype : Nat} {dst payload : List Byte} (hmac : (s.cfgBytes 0x2100 0x09 p).length = 6)
    (hdst : dst.length = 6) (hpayload : payload.length = 14) :
    (pairFrame s pair p cls dst etype payload).length = 60 ∧ (pairFrame s pair p cls dst etype payload).take 6 = dst := by
  have htag := length_tagOf_le s p cls
  refine ⟨?_, ?_⟩
  · simp [pairFrame, length_padTo, rct, header, hmac, hpayload]
    omega
  · rw [pairFrame, header, fit_of_length hdst]
    simp [padTo, List.append_assoc, hdst]

/-- Send on one port of a pair, when its link is up. -/
def sendOne (p cls src num : Nat) (frame : List Byte) (s : State) : State := if (s.portOf p).link = 1 then enqueue p cls src num frame s else s

/-- A pair that is not DOWN sends on both ports with one sequence number. -/
theorem sendPair_up {pair cls src num etype : Nat} {dst payload : List Byte} {s : State} (hup : tabGet 2 s.port.pairState pair ≠ 2) :
    ∃ n, sendPair pair cls src num dst etype payload s =
      ((sendOne (2 * pair + 1) cls src num (pairFrame s pair (2 * pair + 1) cls dst etype payload)
        (sendOne (2 * pair) cls src num (pairFrame s pair (2 * pair) cls dst etype payload) s)).onPorts
          fun a => { a with txSeq := putKey pair n a.txSeq }).setRow 0x2111 0x03 pair n := by
  unfold sendPair
  rw [if_neg hup]
  exact ⟨_, rfl⟩

theorem sendPair_down {pair cls src num etype : Nat} {dst payload : List Byte} {s : State} (hdown : tabGet 2 s.port.pairState pair = 2) :
    sendPair pair cls src num dst etype payload s = s := by
  simp [sendPair, hdown]

theorem sendOne_leaves (p cls src num : Nat) (frame : List Byte) (s : State) :
    (sendOne p cls src num frame s).port.supSeq = s.port.supSeq ∧ (sendOne p cls src num frame s).port.supAt = s.port.supAt ∧
    (∀ a b c, (sendOne p cls src num frame s).cfg a b c = s.cfg a b c) ∧ (sendOne p cls src num frame s).dev = s.dev ∧
    (∀ k, k ≠ p → (sendOne p cls src num frame s).portOf k = s.portOf k) ∧
    ∀ k, ((sendOne p cls src num frame s).portOf k).link = (s.portOf k).link := by
  unfold sendOne
  split
  · exact enqueue_leaves p cls src num frame s
  · simp

theorem touches_sendOne (hp : p < 8) {ps : List Part} {os : List (Nat × Nat)} {s u : State} (m : Part.port ∈ ps) (h : (0x2120, 0x12) ∈ os)
    (cls src num : Nat) (frame : List Byte) : Touches ps os s (sendOne p cls src num frame u) ↔ Touches ps os s u := by
  unfold sendOne
  split
  · exact touches_enqueue hp m h cls src num frame
  · exact Iff.rfl

/-- What a pair sends moves neither its supervision sequence nor its instant. -/
theorem sendPair_supervision (pair cls src num etype : Nat) (dst payload : List Byte) (s : State) :
    (sendPair pair cls src num dst etype payload s).port.supSeq = s.port.supSeq ∧
    (sendPair pair cls src num dst etype payload s).port.supAt = s.port.supAt := by
  by_cases hup : tabGet 2 s.port.pairState pair = 2
  · simp [sendPair_down hup]
  · obtain ⟨n, h⟩ := sendPair_up (cls := cls) (src := src) (num := num) (etype := etype) (dst := dst) (payload := payload) hup
    simp [h, sendOne_leaves]

theorem touches_sendPair {pair : Nat} (hpair : pair < 3) {ps : List Part} {os : List (Nat × Nat)} {s u : State} (m : Part.port ∈ ps)
    (h : (0x2120, 0x12) ∈ os) (h' : (0x2111, 0x03) ∈ os) (cls src num etype : Nat) (dst payload : List Byte) :
    Touches ps os s (sendPair pair cls src num dst etype payload u) ↔ Touches ps os s u := by
  have hrow : pair < 0x1000000 := by omega
  by_cases hup : tabGet 2 u.port.pairState pair = 2
  · rw [sendPair_down hup]
  · obtain ⟨n, heq⟩ := sendPair_up (cls := cls) (src := src) (num := num) (etype := etype) (dst := dst) (payload := payload) hup
    rw [heq, touches_setRow h' (by omega) hrow, touches_onPorts m, touches_sendOne (by omega) m h, touches_sendOne (by omega) m h]

/-- Each port of the pair that is up takes one frame into its queue, where the frame fits. -/
theorem sendPair_queues {pair port cls src num etype : Nat} {dst payload : List Byte} {s : State} (hup : tabGet 2 s.port.pairState pair ≠ 2)
    (hport : port = 2 * pair ∨ port = 2 * pair + 1) (hlink : (s.portOf port).link = 1)
    (hfits : (pairFrame s pair port cls dst etype payload).length + 4 ≤ portMax s port) :
    tabGet [] ((sendPair pair cls src num dst etype payload s).portOf port).queues (s.cfg 0x2104 0x01 (16 * port + cls)) =
      tabGet [] (s.portOf port).queues (s.cfg 0x2104 0x01 (16 * port + cls)) ++ [⟨pairFrame s pair port cls dst etype payload, src, num⟩] := by
  obtain ⟨n, heq⟩ := sendPair_up (cls := cls) (src := src) (num := num) (etype := etype) (dst := dst) (payload := payload) hup
  rw [heq]
  have hrecord (u : State) : ((u.onPorts fun a => { a with txSeq := putKey pair n a.txSeq }).setRow 0x2111 0x03 pair n).portOf port = u.portOf port :=
    portOf_of_port (by simp) port
  rw [hrecord]
  obtain ⟨-, -, hcfg, hdev, hother, hlinks⟩ := sendOne_leaves (2 * pair) cls src num (pairFrame s pair (2 * pair) cls dst etype payload) s
  obtain rfl | rfl := hport
  · rw [(sendOne_leaves (2 * pair + 1) cls src num _ _).2.2.2.2.1 _ (by omega), sendOne, if_pos hlink]
    exact enqueue_fits hfits
  · rw [sendOne, if_pos (by rw [hlinks]; exact hlink)]
    have hsent := enqueue_fits (s := sendOne (2 * pair) cls src num (pairFrame s pair (2 * pair) cls dst etype payload) s)
      (p := 2 * pair + 1) (cls := cls) (src := src) (num := num)
      (frame := pairFrame s pair (2 * pair + 1) cls dst etype payload) (by rwa [portMax_of hdev hcfg])
    rwa [hcfg, hother _ (by omega)] at hsent

end supervision

/-- The payload of a supervision frame (R126). -/
def danpPayload (pair : Nat) (s : State) : List Byte :=
  be 2 1 ++ be 2 (tabGet 0 s.port.supSeq pair) ++ be 1 (if prpMode s pair = 1 then 20 else 21) ++ be 1 6 ++ s.cfgBytes 0x2100 0x09 (2 * pair) ++ be 2 0

/-- The supervision sequence stepped and its instant kept. -/
def stepSupervision (pair : Nat) (s : State) : State :=
  s.onPorts fun a => { a with
    supSeq := putKey pair ((tabGet 0 s.port.supSeq pair + 1) % 65536) a.supSeq, supAt := putKey pair s.now a.supAt }

theorem prpSupervision_due {pair : Nat} {s : State} (hdue : supervisionDue s pair = true) :
    prpSupervision pair s =
      sendPair pair 8 0 0 (be 5 0x01154E0001 ++ be 1 (s.cfg 0x2101 0x05 pair)) 0x88FB (danpPayload pair s) (stepSupervision pair s) := by
  simp [prpSupervision, hdue, danpPayload, stepSupervision]

theorem prpSupervision_notDue {pair : Nat} {s : State} (hdue : supervisionDue s pair = false) : prpSupervision pair s = s := by
  simp [prpSupervision, hdue]

theorem supervisionDue_pair {pair : Nat} {s : State} (hdue : supervisionDue s pair = true) : pair < 3 := by
  simp only [supervisionDue, Bool.and_eq_true, decide_eq_true_eq] at hdue
  exact hdue.1.1.1

/-- Settles O10: the work on the queues, then the frame that begins; the underrun's end of it; the supervision frame on each port of its pair. -/
theorem framesAreSent : Obligations.FramesAreSent := by
  refine ⟨?start, ?notUp, ?underrun, ?idle, ?supervision, ?supervisionFrame, ?notDue⟩
  case start =>
    intro t p q f rest v s hp hlink hidle hpaused hv hfind hhead
    have hrow : p < 0x1000000 := by omega
    have hqueues : QueueWork p (s.advance t) v :=
      hv ▸ (QueueWork.ptpDue hp _).trans (QueueWork.foldl (fun s q => .dropTooLong hp q s) _ _)
    refine .of (f := txStart p) rfl ?_
    rw [txStart_ready hp (by simpa using hlink) (by simpa using hidle) (by simpa using hpaused) (hv ▸ hfind), ← hv, startFrame_head hhead]
    obtain ⟨hsending, hbusy, hqueue, hwire, hcount, htouch⟩ := beginFrame_reads (q := q) hp v (stampFrame v p f) rest
    have hfollow := QueueWork.followUp hp (stampFrame v p f) (beginFrame p q (stampFrame v p f) rest v)
    have hrecord := hfollow.record
    generalize hu : followUp p (stampFrame v p f) (beginFrame p q (stampFrame v p f) rest v) = u at hfollow hrecord ⊢
    have htime : frameTime v p (stampFrame v p f).bytes.length = frameTime s p (stampFrame v p f).bytes.length := by
      simp [frameTime, hqueues.cfg]
    refine ⟨by simpa [hfollow.outs] using hwire, ?_, ?_, fun hsource => ?_, fun hdev => ?_, ?_⟩
    · simpa [hsending] using congrArg Port.sending hrecord
    · simpa [hbusy, hqueues.now, htime] using congrArg Port.busyUntil hrecord
    · rw [← hu, followUp_none (by simpa using hsource)]
      simpa using hqueue
    · have h1 := hfollow.counters 0x0D (by omega) (by omega) (by omega)
      have h2 := hqueues.counters 0x0D (by omega) (by omega) (by omega)
      have h3 := hcount (by simpa [hqueues.dev] using hdev)
      rw [ro_settle (by omega) (by omega) hrow, h1, h3, h2]
      simp
    · have hmono : [(0x2120, 0x10), (0x2120, 0x12)] ⊆ [(0x2120, 0x0D), (0x2120, 0x0E), (0x2120, 0x10), (0x2120, 0x12)] := by decide
      rw [touches_settle]
      exact ((hqueues.touches.mono (List.Subset.refl _) hmono).trans htouch).trans (hfollow.touches.mono (List.Subset.refl _) hmono)
  case notUp =>
    intro t p s hlink
    exact .unchanged (f := txStart p) rfl (by rw [txStart, if_pos (by simp [hlink])])
  case underrun =>
    intro t p f s hp hdev hsending hbusy hcut
    have hrow : p < 0x1000000 := by omega
    have hthreshold : threshold (s.advance t) p = threshold s p := by simp [threshold]
    refine .of (f := txUnderrun p) rfl ?_
    rw [txUnderrun_cuts (f := f) (by simpa using hsending) (by simpa using hbusy) (by simpa [cutThrough, hthreshold] using hcut)]
    refine ⟨by simp, by simp, ?_, ?_, by simp [hrow]⟩
    · show threshold _ p = _
      simp [threshold]
    · have hcount := ro_tally (s := (s.advance t).setPort p { (s.advance t).portOf p with
          sending := none, busyUntil := (s.advance t).now,
          raised := some (Nat.min (threshold (s.advance t) p + 256) (portMax (s.advance t) p)) }) (by simpa using hdev) 0x2120 0x0F p 1
      simpa [hrow, show widthOf 0x2120 0x0F = 32 from rfl] using hcount
  case idle =>
    intro t p s hidle
    exact .unchanged (f := txUnderrun p) rfl (txUnderrun_idle (by simpa using hidle))
  case supervision =>
    intro t pair s hdue
    have hpair := supervisionDue_pair hdue
    refine .of (f := prpSupervision pair) rfl ?_
    rw [prpSupervision_due hdue]
    obtain ⟨hseq, hat⟩ := sendPair_supervision pair 8 0 0 0x88FB (be 5 0x01154E0001 ++ be 1 ((s.advance t).cfg 0x2101 0x05 pair))
      (danpPayload pair (s.advance t)) (stepSupervision pair (s.advance t))
    simp only [settle_frame, hseq, hat]
    refine ⟨by simp [stepSupervision], by simp [stepSupervision], ?_⟩
    rw [touches_settle, touches_sendPair hpair (by simp) (by simp) (by simp)]
    simp [stepSupervision]
  case supervisionFrame =>
    intro t pair port s hdue hport hup hlink hmacA hmacB hfitsA hfitsB
    have hpair := supervisionDue_pair hdue
    refine .of (f := prpSupervision pair) rfl ?_
    rw [prpSupervision_due hdue]
    have hmac : ((stepSupervision pair (s.advance t)).cfgBytes 0x2100 0x09 port).length = 6 ∧ 64 ≤ portMax (stepSupervision pair (s.advance t)) port := by
      obtain rfl | rfl := hport <;> simp_all [stepSupervision, portMax]
    obtain ⟨hlength, hdst⟩ := pairFrame_short (pair := pair) (cls := 8) (etype := 0x88FB)
      (dst := be 5 0x01154E0001 ++ be 1 ((s.advance t).cfg 0x2101 0x05 pair)) (payload := danpPayload pair (s.advance t))
      hmac.1 (by simp) (by simp [danpPayload, hmacA])
    have hsent := sendPair_queues (s := stepSupervision pair (s.advance t)) (src := 0) (num := 0) (cls := 8) (etype := 0x88FB)
      (dst := be 5 0x01154E0001 ++ be 1 ((s.advance t).cfg 0x2101 0x05 pair)) (payload := danpPayload pair (s.advance t))
      (by simpa [stepSupervision] using hup) hport (by simpa [stepSupervision, State.portOf] using hlink) (by omega)
    have hcfg : (stepSupervision pair (s.advance t)).cfg 0x2104 0x01 (16 * port + 8) = s.cfg 0x2104 0x01 (16 * port + 8) := by simp [stepSupervision]
    have hport' : (stepSupervision pair (s.advance t)).portOf port = s.portOf port := portOf_of_port (by simp [stepSupervision]) port
    rw [hcfg, hport'] at hsent
    rw [portOf_settle, hsent]
    exact ⟨by simp, by simpa using hdst⟩
  case notDue =>
    intro t pair s hdue
    exact .unchanged (f := prpSupervision pair) rfl (prpSupervision_notDue hdue)

end Sys2Proof.Machine
end

section
/-! Clear commands: what a store reads after objects have been cleared, and the answer of a command that clears. -/

namespace Sys2Proof.Machine
open Sys2Proof

theorem lookup_filter {α : Type} (p : Nat → Bool) (k : Nat) (l : List (Nat × α)) :
    lookup k (l.filter fun e => p e.1) = if p k then lookup k l else none := by
  induction l with
  | nil => simp [lookup]
  | cons e l ih =>
    obtain ⟨j, v⟩ := e
    by_cases hj : p j = true
    · rw [List.filter_cons_of_pos (by simpa using hj)]
      by_cases hk : j = k
      · subst hk
        simp [lookup, hj]
      · simp [lookup, hk, ih]
    · rw [List.filter_cons_of_neg (by simpa using hj), ih]
      by_cases hk : j = k
      · subst hk
        simp [hj]
      · simp [lookup, hk]

theorem okey_object {a b c : Nat} (hc : c < 0x1000000) : okey a b c / 0x1000000 = a * 256 + b := by
  unfold okey
  omega

theorem okey_index {a b c : Nat} (hb : b < 256) (hc : c < 0x1000000) : okey a b c / 0x100000000 = a := by
  unfold okey
  omega

/-- Dropping an object leaves its rows at their defaults and every other object as it was. -/
theorem readIn_dropObject {i j a b c : Nat} (hj : j < 256) (hb : b < 256) (hc : c < 0x1000000) (d : Dict) :
    readIn (dropObject d i j) a b c = if (a, b) = (i, j) then defaultOf a b c else readIn d a b c := by
  have hkey : (okey a b c / 0x1000000 != i * 256 + j) = !decide ((a, b) = (i, j)) := by
    rw [okey_object hc, Bool.eq_iff_iff]
    simp
    omega
  simp only [readIn, dropObject]
  rw [lookup_filter (fun k => k / 0x1000000 != i * 256 + j), hkey]
  by_cases h : (a, b) = (i, j) <;> simp [h]

theorem readIn_dropRange {lo hi a b c : Nat} (hb : b < 256) (hc : c < 0x1000000) (d : Dict) :
    readIn (dropRange d lo hi) a b c = if lo ≤ a ∧ a ≤ hi then defaultOf a b c else readIn d a b c := by
  simp only [readIn, dropRange]
  rw [lookup_filter (fun k => !(decide (lo ≤ k / 0x100000000) && decide (k / 0x100000000 ≤ hi))), okey_index hb hc]
  by_cases h : lo ≤ a ∧ a ≤ hi
  · simp [h]
  · simp only [not_and, Nat.not_le] at h
    by_cases h1 : lo ≤ a
    · simp [h1, Nat.not_le.mpr (h h1)]
    · simp [h1]

theorem readIn_dropObjects {a b c : Nat} {l : List (Nat × Nat)} (hl : ∀ o ∈ l, o.2 < 256) (hb : b < 256) (hc : c < 0x1000000) (d : Dict) :
    readIn (l.foldl (fun d o => dropObject d o.1 o.2) d) a b c = if (a, b) ∈ l then defaultOf a b c else readIn d a b c := by
  induction l generalizing d with
  | nil => simp
  | cons o l ih =>
    rw [List.foldl_cons, ih fun x hx => hl x (List.mem_cons_of_mem _ hx), readIn_dropObject (hl o (by simp)) hb hc]
    by_cases h : (a, b) ∈ l
    · simp [h]
    · obtain ⟨i, j⟩ := o
      simp [h]

theorem readIn_clearObjects {a b c : Nat} {l : List (Nat × Nat)} (hl : ∀ o ∈ l, o.2 < 256) (hb : b < 256) (hc : c < 0x1000000) (s : State) :
    readIn (s.clearObjects l).status a b c = if (a, b) ∈ l then defaultOf a b c else readIn s.status a b c :=
  readIn_dropObjects hl hb hc s.status

theorem readIn_clearRange {lo hi a b c : Nat} (hb : b < 256) (hc : c < 0x1000000) (s : State) :
    readIn (s.clearRange lo hi).status a b c = if lo ≤ a ∧ a ≤ hi then defaultOf a b c else readIn s.status a b c :=
  readIn_dropRange hb hc s.status

/-- What clears objects differs in those objects alone, which it leaves at their defaults. -/
structure ClearsObjects (os : List (Nat × Nat)) (s u : State) : Prop where
  cleared : Cleared os u
  touches : Touches [] os s u

theorem ClearsObjects.objects {l : List (Nat × Nat)} (hl : ∀ o ∈ l, o.2 < 256) (s : State) : ClearsObjects l s (s.clearObjects l) where
  cleared := fun o ho r hr => by rw [readIn_clearObjects hl (hl o ho) hr, if_pos ho]
  touches := .of_parts (fun p _ => by cases p <;> simp [Part.same])
    (fun i j r hj hr hne _ _ => by rw [readIn_clearObjects hl hj hr, if_neg hne]) (by simp)

theorem mem_subsOf {i j idx : Nat} : (i, j) ∈ subsOf idx ↔ i = idx ∧ j < 256 := by
  simp [subsOf]
  omega

theorem ClearsObjects.range {lo hi : Nat} {os : List (Nat × Nat)} (hos : ∀ i j, (i, j) ∈ os ↔ (lo ≤ i ∧ i ≤ hi) ∧ j < 256) (s : State) :
    ClearsObjects os s (s.clearRange lo hi) where
  cleared := fun o ho r hr => by
    obtain ⟨hin, hj⟩ := (hos o.1 o.2).mp ho
    rw [readIn_clearRange hj hr, if_pos hin]
  touches := .of_parts (fun p _ => by cases p <;> simp [Part.same])
    (fun i j r hj hr hne _ _ => by rw [readIn_clearRange hj hr, if_neg fun hin => hne ((hos i j).mpr ⟨hin, hj⟩)]) (by simp)

/-- One clearing after another clears what either names. -/
theorem ClearsObjects.trans {os os' : List (Nat × Nat)} {s u v : State} (h : ClearsObjects os s u) (g : ClearsObjects os' u v)
    (hos : ∀ o ∈ os, o.2 < 256 ∧ o.1 ≠ 0x2E20) : ClearsObjects (os ++ os') s v where
  cleared := by
    intro o ho r hr
    by_cases ho' : o ∈ os'
    · exact g.cleared o ho' r hr
    · have ho : o ∈ os := (List.mem_append.mp ho).resolve_right ho'
      obtain ⟨hj, hne⟩ := hos o ho
      rw [g.touches.2.1 o.1 o.2 r hj hr ho' (by simp [Prod.ext_iff, hne]) (by simp [Prod.ext_iff, hne])]
      exact h.cleared o ho r hr
  touches := (h.touches.mono (List.Subset.refl _) (List.subset_append_left os os')).trans
    (g.touches.mono (List.Subset.refl _) (List.subset_append_right os os'))

/-- A command that clears is answered OK; the answer touches the requester's accounting alone. -/
theorem ClearsObjects.answered {idx sub : Nat} {who : Who} {s : State} {os : List (Nat × Nat)} {f : State → State}
    (h : ClearsObjects os s (f s)) (hos : ∀ o ∈ os, o.2 < 256 ∧ o.1 ≠ 0x2E20 ∧ o.1 ≠ 0x1120) (hacc : AcceptedPlain idx sub who s) :
    Clears os who s (settle (runPlain idx sub who (ok f) s)) := by
  rw [runPlain_accepted hacc, ok]
  have htouch : Touches [.imian] [(0x1120, 1), (0x1120, 2)] (f s) (settle ((account who 0 (f s)).emit (.status who 0))) := by simp
  refine ⟨answered_settle _ _ _, fun o ho r hr => ?_, ?_⟩
  · obtain ⟨hj, hlog, haccount⟩ := hos o ho
    rw [htouch.2.1 o.1 o.2 r hj hr (by simp [Prod.ext_iff, haccount]) (by simp [Prod.ext_iff, hlog]) (by simp [Prod.ext_iff, hlog])]
    exact h.cleared o ho r hr
  · exact (h.touches.mono (by simp) (List.subset_append_left os _)).trans (htouch.mono (List.Subset.refl _) (List.subset_append_right os _))

theorem ClearsObjects.of_mem {os os' : List (Nat × Nat)} {s u : State} (h : ClearsObjects os s u) (hos : ∀ o, o ∈ os' ↔ o ∈ os) :
    ClearsObjects os' s u where
  cleared := fun o ho => h.cleared o ((hos o).mp ho)
  touches := h.touches.mono (List.Subset.refl _) fun o ho => (hos o).mpr ho

theorem ClearsObjects.index (idx : Nat) (s : State) : ClearsObjects (subsOf idx) s (s.clearRange idx idx) :=
  .range (fun i j => by rw [mem_subsOf]; omega) s

/-- The objects of an index that is neither the log's nor the requests'. -/
theorem subsOf_plain {idx : Nat} (hlog : idx ≠ 0x2E20) (haccount : idx ≠ 0x1120) :
    ∀ o ∈ subsOf idx, o.2 < 256 ∧ o.1 ≠ 0x2E20 ∧ o.1 ≠ 0x1120 := by
  rintro ⟨i, j⟩ ho
  obtain ⟨rfl, hj⟩ := mem_subsOf.mp ho
  exact ⟨hj, hlog, haccount⟩

theorem plain_append {l l' : List (Nat × Nat)} (h : ∀ o ∈ l, o.2 < 256 ∧ o.1 ≠ 0x2E20 ∧ o.1 ≠ 0x1120)
    (g : ∀ o ∈ l', o.2 < 256 ∧ o.1 ≠ 0x2E20 ∧ o.1 ≠ 0x1120) : ∀ o ∈ l ++ l', o.2 < 256 ∧ o.1 ≠ 0x2E20 ∧ o.1 ≠ 0x1120 :=
  fun o ho => (List.mem_append.mp ho).elim (h o) (g o)

/-- Settles O43: each command clears a list of objects, an index, or both. -/
theorem clearCommandsClearWhatTheyName : Obligations.ClearCommandsClearWhatTheyName := by
  refine ⟨?placement, ?eddy, ?oxbow, ?alarms, ?publishing, ?headwater, ?capture, ?energy, ?jobs, ?host, ?housekeeping, ?power, ?redundancy⟩
  case placement =>
    intro t who s hacc
    exact .of (f := runPlain 0x2430 0x01 who (ok clearPlacement)) rfl ((ClearsObjects.objects (by decide) _).answered (by decide) hacc)
  case eddy =>
    intro t who s hacc
    exact .of (f := runPlain 0x2550 0x01 who (ok clearEddy)) rfl ((ClearsObjects.objects (by decide) _).answered (by decide) hacc)
  case oxbow =>
    intro t who s hacc
    refine .of (f := runPlain 0x2640 0x01 who (ok clearOxbow)) rfl (ClearsObjects.answered ?_ ?_ hacc)
    · exact (ClearsObjects.objects (l := [(0x2621, 7)]) (by decide) _).trans (.index 0x2630 _) (by decide)
    · exact plain_append (l := [(0x2621, 7)]) (by decide) (subsOf_plain (by decide) (by decide))
  case alarms =>
    intro t who s hacc
    exact .of (f := runPlain 0x2730 0x02 who (ok clearAlarms)) rfl ((ClearsObjects.index _ _).answered (subsOf_plain (by decide) (by decide)) hacc)
  case publishing =>
    intro t who s hacc
    refine .of (f := runPlain 0x2830 0x04 who (ok clearPublishing)) rfl (ClearsObjects.answered ?_ ?_ hacc)
    · exact (ClearsObjects.objects (l := [(0x2804, 2)]) (by decide) _).trans (.index 0x2840 _) (by decide)
    · exact plain_append (l := [(0x2804, 2)]) (by decide) (subsOf_plain (by decide) (by decide))
  case headwater =>
    intro t who s hacc
    refine .of (f := runPlain 0x2930 0x01 who (ok clearHeadwater)) rfl (ClearsObjects.answered ?_ ?_ hacc)
    · exact ((ClearsObjects.index 0x2940 _).trans (.objects (by decide) _)
        fun o ho => ⟨(subsOf_plain (idx := 0x2940) (by decide) (by decide) o ho).1, (subsOf_plain (idx := 0x2940) (by decide) (by decide) o ho).2.1⟩).of_mem
        fun o => by rw [List.mem_append, List.mem_append]; exact Or.comm
    · exact plain_append (by decide) (subsOf_plain (by decide) (by decide))
  case capture =>
    intro t who s hacc
    exact .of (f := runPlain 0x2A30 0x05 who (ok clearCapture)) rfl ((ClearsObjects.index _ _).answered (subsOf_plain (by decide) (by decide)) hacc)
  case energy =>
    intro t who s hacc
    exact .of (f := runPlain 0x2B30 0x05 who (ok clearEnergyCounters)) rfl ((ClearsObjects.objects (by decide) _).answered (by decide) hacc)
  case jobs =>
    intro t who s hacc
    exact .of (f := runPlain 0x2C30 0x01 who (ok clearJobs)) rfl ((ClearsObjects.objects (by decide) _).answered (by decide) hacc)
  case host =>
    intro t who s hacc
    exact .of (f := runPlain 0x2D30 0x01 who (ok clearHost)) rfl ((ClearsObjects.objects (by decide) _).answered (by decide) hacc)
  case housekeeping =>
    intro t who s hacc
    exact .of (f := runPlain 0x2E50 0x05 who (ok clearHousekeeping)) rfl ((ClearsObjects.objects (by decide) _).answered (by decide) hacc)
  case power =>
    intro t who s hacc
    exact .of (f := runPlain 0x2F30 0x04 who (ok clearPower)) rfl ((ClearsObjects.objects (by decide) _).answered (by decide) hacc)
  case redundancy =>
    intro t who s hacc
    exact .of (f := runPlain 0x3230 0x04 who (ok clearRedundancy)) rfl ((ClearsObjects.index _ _).answered (subsOf_plain (by decide) (by decide)) hacc)

end Sys2Proof.Machine
end

section
/-! The node table of a pair number that no port has (R111). -/

namespace Sys2Proof.Machine
open Sys2Proof

/-- Two silent nodes under pair 2^24, whose row of 0x2111:02 stands where row 0 of 0x2111:03 does. -/
def twoStrayNodes : State := State.reset.onPorts fun a => { a with nodes := [(2 ^ 72, ⟨0, [], []⟩), (2 ^ 72 + 1, ⟨0, [], []⟩)] }

theorem nodeForget_due {pair mac k : Nat} {n : Node} {s : State} (hk : pair * 2 ^ 48 + mac = k) (hnode : lookup k s.port.nodes = some n)
    (hdue : n.heardAt + sec (s.cfg 0x2101 0x03 pair) ≤ s.now) :
    nodeForget pair mac s = showFill pair (s.onPorts fun a => { a with nodes := delKey k a.nodes }) := by
  subst hk
  unfold nodeForget
  simp only [hnode]
  exact if_pos hdue

/-- Refutes O11: PRP_NODE_FORGET bounds no pair number, and the fill shown for pair 2^24 lands in row 0 of 0x2111:03. -/
theorem not_gatesAndNodesFollow : ¬ Obligations.GatesAndNodesFollow := by
  intro h
  obtain ⟨-, -, -, -, -, hforget, -⟩ := h
  have hnode : lookup (2 ^ 24 * 2 ^ 48 + 0) twoStrayNodes.port.nodes = some ⟨0, [], []⟩ := by decide
  have hdue : 0 + sec ((twoStrayNodes.advance (10 ^ 15)).cfg 0x2101 0x03 (2 ^ 24)) ≤ (twoStrayNodes.advance (10 ^ 15)).now := by decide +kernel
  obtain ⟨u, hu, -, -, -, hkept, -⟩ := hforget (10 ^ 15) (2 ^ 24) 0 ⟨0, [], []⟩ twoStrayNodes hnode hdue
  obtain rfl : settle (nodeForget (2 ^ 24) 0 (twoStrayNodes.advance (10 ^ 15))) = u := Host.Outcome.next.inj hu
  have hsame : (settle (nodeForget (2 ^ 24) 0 (twoStrayNodes.advance (10 ^ 15)))).ro 0x2111 0x03 0 =
      (twoStrayNodes.advance (10 ^ 15)).ro 0x2111 0x03 0 :=
    congrArg Val.bits (hkept 0x2111 0x03 0 (by decide) (by decide) (by decide) (by decide) (by decide))
  rw [nodeForget_due (s := twoStrayNodes.advance (10 ^ 15)) rfl hnode hdue, ro_settle (by decide) (by decide) (by decide)] at hsame
  exact absurd hsame (by decide +kernel)

end Sys2Proof.Machine
end

section
/-! Datagrams, SPDUs, reassemblies and silent streams (R139 to R167). -/

namespace Sys2Proof.Machine
open Sys2Proof

/-! ### Bits -/

theorem bit_eq_testBit (n i : Nat) : bit n i = n.testBit i := by
  rw [Nat.testBit_eq_decide_div_mod_eq]; rfl

@[simp] theorem bit_setBit_self (n i : Nat) (b : Bool) : bit (setBit n i b) i = b := by
  unfold setBit
  cases hb : bit n i <;> cases b <;> simp [hb]
  all_goals simp only [bit_eq_testBit] at *
  · rw [Nat.add_comm, Nat.testBit_two_pow_add_eq, hb]; rfl
  · obtain ⟨k, rfl⟩ := Nat.exists_eq_add_of_le (Nat.ge_two_pow_of_testBit hb)
    rw [Nat.testBit_two_pow_add_eq] at hb
    simpa using hb

theorem bit_setBit_lt (n : Nat) {i j : Nat} (h : j < i) (b : Bool) : bit (setBit n i b) j = bit n j := by
  unfold setBit
  cases hb : bit n i <;> cases b <;> simp
  all_goals simp only [bit_eq_testBit] at *
  · rw [Nat.add_comm, Nat.testBit_two_pow_add_gt h]
  · obtain ⟨k, rfl⟩ := Nat.exists_eq_add_of_le (Nat.ge_two_pow_of_testBit hb)
    simp [Nat.testBit_two_pow_add_gt h]

/-! ### Byte strings shown -/

theorem roBytes_settle {i j r : Nat} (hi : i ≠ 0x2E20) (hj : j < 256) (hr : r < 0x1000000) (s : State) :
    (settle s).roBytes i j r = s.roBytes i j r := by
  rw [State.roBytes_def, State.roBytes_def, (ObjectsKept.refl [] s).settle i j r hj hr (by simp) (by simp [hi]) (by simp [hi])]

theorem roBytes_raise {i j r : Nat} (hi : i ≠ 0x2E20) (hj : j < 256) (hr : r < 0x1000000) (code : Nat) (l : List Byte) (s : State) :
    (raise code l s).roBytes i j r = s.roBytes i j r := by
  rw [State.roBytes_def, State.roBytes_def, (ObjectsKept.refl [] s).raise code l i j r hj hr (by simp) (by simp [hi]) (by simp [hi])]

/-! ### Streams -/

@[simp] theorem running_advance (t : Nat) (s : State) : (s.advance t).running = s.running := by simp [State.running, State.dev]
@[simp] theorem dev_advance (t : Nat) (s : State) : (s.advance t).dev = s.dev := by simp [State.dev]

/-- What a stream's record and its state are depends on the ingest part and on 0x2203:01. -/
theorem stream_of {s u : State} (h : u.ingest = s.ingest) (k : Nat) : u.stream k = s.stream k := by simp [State.stream, h]
@[simp] theorem stream_advance (t h : Nat) (s : State) : (s.advance t).stream h = s.stream h := stream_of (by simp) h
@[simp] theorem stream_settle (h : Nat) (s : State) : (settle s).stream h = s.stream h := stream_of (by simp) h
@[simp] theorem stream_raise (code : Nat) (l : List Byte) (h : Nat) (s : State) : (raise code l s).stream h = s.stream h := stream_of (by simp) h
@[simp] theorem stream_setRow (i j r n h : Nat) (s : State) : (s.setRow i j r n).stream h = s.stream h := stream_of (by simp) h
@[simp] theorem stream_bump (i j r h : Nat) (s : State) : (s.bump i j r).stream h = s.stream h := stream_of (by simp) h
@[simp] theorem stream_setStream (h : Nat) (x : Stream) (s : State) : (s.setStream h x).stream h = x := by simp [State.stream, State.setStream]

@[simp] theorem ro_onIngest (f : IngestSt → IngestSt) (i j r : Nat) (s : State) : (s.onIngest f).ro i j r = s.ro i j r := by simp [State.ro_def]
@[simp] theorem ro_setStream (h : Nat) (x : Stream) (i j r : Nat) (s : State) : (s.setStream h x).ro i j r = s.ro i j r := ro_onIngest _ i j r s

theorem streamState_of {s u : State} (h : u.status = s.status) (k : Nat) : streamState u k = streamState s k := by
  simp [streamState, State.ro_def, h]
@[simp] theorem streamState_advance (t h : Nat) (s : State) : streamState (s.advance t) h = streamState s h := streamState_of (by simp) h
@[simp] theorem streamState_onIngest (f : IngestSt → IngestSt) (h : Nat) (s : State) : streamState (s.onIngest f) h = streamState s h :=
  streamState_of (by simp) h
@[simp] theorem streamState_setStream (k : Nat) (x : Stream) (h : Nat) (s : State) : streamState (s.setStream k x) h = streamState s h :=
  streamState_onIngest _ h s
@[simp] theorem streamState_setRow_self (h n : Nat) (s : State) : streamState (s.setRow 0x2203 0x01 h n) h = n := ro_setRow_self ..
@[simp] theorem streamState_settle {h : Nat} (hh : h < 0x1000000) (s : State) : streamState (settle s) h = streamState s h :=
  ro_settle (by omega) (by omega) hh s
@[simp] theorem streamState_raise {h : Nat} (hh : h < 0x1000000) (code : Nat) (l : List Byte) (s : State) :
    streamState (raise code l s) h = streamState s h := ro_raise (by omega) (by omega) hh code l s

theorem row_of_firstLocal {h : Nat} (hh : h < firstLocal) : h < 0x1000000 := by unfold firstLocal at hh; omega

@[simp] theorem matchedRows_advance (t : Nat) (s : State) : matchedRows (s.advance t) = matchedRows s := by simp [matchedRows]
@[simp] theorem rowOf_advance (t port : Nat) (g : Datagram) (idcode : Nat) (s : State) : rowOf (s.advance t) port g idcode = rowOf s port g idcode := by
  have hown : ownAddress (s.advance t) port g.dst = ownAddress s port g.dst := by simp [ownAddress, prpMode, State.cfg, State.cfgBytes]
  unfold rowOf
  cases g.session with
  | none => simp [matchRow, hown]
  | some h => rfl

/-! ### Conditions and their windows (R175) -/

@[simp] theorem streamState_joinWindow (c : Nat) (clearing : Bool) (k h : Nat) (s : State) :
    streamState (joinWindow c clearing k s) h = streamState s h := streamState_onIngest _ h s
@[simp] theorem stream_joinWindow (c : Nat) (clearing : Bool) (k h : Nat) (s : State) : (joinWindow c clearing k s).stream h = s.stream h := by
  unfold joinWindow State.stream
  simp only [State.onIngest_frame]
  split <;> rfl

/-- The windows of changed conditions touch neither the streams nor their states. -/
theorem windows_leave (new old h k : Nat) (l : List Nat) (s : State) :
    let u := l.foldl (fun s c => if bit new c && !bit old c then joinWindow c false h s else if bit old c && !bit new c then joinWindow c true h s else s) s
    u.stream k = s.stream k ∧ streamState u k = streamState s k := by
  induction l generalizing s with
  | nil => exact ⟨rfl, rfl⟩
  | cons c l ih =>
    simp only [List.foldl_cons]
    refine ⟨(ih _).1.trans ?_, (ih _).2.trans ?_⟩
    all_goals repeat' split
    all_goals simp

@[simp] theorem conds_setConds (h new : Nat) (s : State) : ((setConds h new s).stream h).conds = new := by
  unfold setConds
  rw [(windows_leave ..).1]
  simp
@[simp] theorem streamState_setConds (h new k : Nat) (s : State) : streamState (setConds h new s) k = streamState s k := by
  unfold setConds
  rw [(windows_leave ..).2]
  simp

/-! ### The end of a step on the ingest path -/

/-- No decision waits: none is taken. -/
theorem settleDecisions_idle {s : State} (h : s.ingest.deciding = []) : settleDecisions s = s := by
  have hsame : s.onIngest (fun i => { i with deciding := [] }) = s := by
    unfold State.onIngest
    rw [← h]
  unfold settleDecisions
  split
  · rfl
  · rw [hsame, h]
    rfl

/-! ### Datagrams -/

theorem ingestDatagram_start {port : Nat} {g : Datagram} {s : State} (hport : port < 4) (hdev : s.dev = stStart) :
    ingestDatagram port g s = s.bump 0x2230 0x10 := by
  simp [ingestDatagram, Nat.not_le.mpr hport, hdev]

theorem dev_ne_start_of_running {s : State} (hrun : s.running = true) : s.dev ≠ stStart := by
  intro h
  simp [State.running, h, stStart, stRun, stTrim] at hrun

theorem ingestDatagram_bad {port : Nat} {g : Datagram} {s : State} (hport : port < 4) (hrun : s.running = true)
    (hbad : g.ipBad = true ∨ g.fragment = none ∧ g.session = none ∧ udpGood g g.payload = false) :
    ingestDatagram port g s = s.bump 0x2230 0x0E := by
  have hdev := dev_ne_start_of_running hrun
  obtain hip | ⟨hwhole, hsession, hudp⟩ := hbad
  · simp [ingestDatagram, Nat.not_le.mpr hport, hrun, hdev, hip]
  · cases hip : g.ipBad <;> simp [ingestDatagram, wholeDatagram, Nat.not_le.mpr hport, hrun, hdev, hip, hwhole, hsession, hudp]

/-- A datagram that is whole, of good form, and of a version of the standard reaches its row. -/
theorem ingestDatagram_good {port h : Nat} {g : Datagram} {s : State} (hport : port < 4) (hrun : s.running = true) (hip : g.ipBad = false)
    (hwhole : g.fragment = none) (hform : g.session.isSome = true ∨ udpGood g g.payload = true ∧ beAt g.payload 2 2 = g.payload.length)
    (hlong : 16 ≤ g.payload.length) (hsync : byteAt g.payload 0 = 0xAA) (hchk : chkGood g.payload = true)
    (htype : frameType g.payload ≤ 1) (hver : frameVersion g.payload = 1 ∨ frameVersion g.payload = 2)
    (hrow : rowOf s port g (beAt g.payload 4 2) = some h) (hold : frameType g.payload = 0 → oldFrame s port g g.payload = none) :
    ingestDatagram port g s = if frameType g.payload = 0 then dataFrameRx port h g.payload s else
      raise 0x2209 (le 2 h) (s.setRoBytes 0x2203 0x0C
        (let text := (g.payload.take (g.payload.length - 2)).drop 14; text.drop (text.length - 4096)) h) := by
  have hdev := dev_ne_start_of_running hrun
  have hsize : (g.session.isNone && !udpGood g g.payload) = false ∧ (g.session.isNone && beAt g.payload 2 2 != g.payload.length) = false := by
    obtain hs | ⟨hu, hl⟩ := hform
    · simp [Option.isSome_iff_ne_none.mp hs]
    · simp [hu, hl]
  have hkind : frameType g.payload = 0 ∨ frameType g.payload = 1 := by omega
  unfold ingestDatagram wholeDatagram ingestFrame
  simp only [hip, hwhole, hrun, hsize.1, hsize.2, hchk, hrow]
  obtain hty | hty := hkind <;> obtain hv | hv := hver <;> simp [Nat.not_le.mpr hport, Nat.not_lt.mpr hlong, hdev, hty, hv, hsync, hold]

theorem dataFrameRx_taken {port h : Nat} {l : List Byte} {c : PartnerCfg} {s : State} (hlive : streamState s h = 3 ∨ streamState s h = 4)
    (hcfg : configurationFor s (s.stream h) l.length = some c) (hfrac : beAt l 11 3 < c.timeBase % 2 ^ 24) (hset : s.time.isSet = true) :
    dataFrameRx port h l s = takeData h (socT96 s (beAt l 6 4) (beAt l 11 3) (c.timeBase % 2 ^ 24) (s.ingressT96 port)) (s.ingressT96 port)
      (parseData c s.timeClass l) l s := by
  unfold dataFrameRx
  extract_lets x soc frac
  have hstate : ¬(!(streamState s h == 3 || streamState s h == 4)) = true := by simpa using hlive.resolve_left
  rw [if_neg hstate]
  simp only [x, hcfg]
  rw [if_neg (Nat.not_le.mpr hfrac), if_neg (by simp [hset])]

theorem dataFrameRx_not_live {port h : Nat} {l : List Byte} {s : State} (h3 : streamState s h ≠ 3) (h4 : streamState s h ≠ 4) :
    dataFrameRx port h l s = s.bump 0x2203 0x0F h := by
  simp [dataFrameRx, h3, h4]

/-! ### SPDUs -/

theorem spduRx_start {port : Nat} {d : Spdu} {s : State} (hport : port < 4) (hdev : s.dev = stStart) : spduRx port d s = s.bump 0x2230 0x10 := by
  simp [spduRx, Nat.not_le.mpr hport, hdev]

theorem spduRx_whole {port : Nat} {d : Spdu} {s : State} (hport : port < 4) (hrun : s.running = true) (hwhole : d.fragment = none) :
    spduRx port d s = wholeSpdu port d s := by
  simp [spduRx, Nat.not_le.mpr hport, hrun, dev_ne_start_of_running hrun, hwhole]

theorem spduCheck_passed {h n : Nat} {key : List Byte} {d : Spdu} {x : Stream} {s : State} (hlow : 1 ≤ d.algorithm) (hhigh : d.algorithm ≤ 3)
    (haccepted : (acceptedKeys s h x d.keyTime).contains d.keyId = true) (hkey : keyOf s d.keyId (spduUsages d.algorithm) = some key)
    (htag : spduTag d.algorithm key d.signed = d.tag) (hnumber : x.spduHigh = some n) (hahead : 1024 ≤ (n + 2 ^ 32 - d.number) % 2 ^ 32) :
    spduCheck h d x s = (s, some { x with
      spduHigh := some d.number, nextKeyUsed := x.nextKeyUsed || (d.keyId == s.cfg 0x2201 0x0F h && d.keyId != s.cfg 0x2201 0x0E h) }) := by
  have hback : decide ((n + 2 ^ 32 - d.number) % 2 ^ 32 < 1024) = false := by simpa using hahead
  simp only [spduCheck, hlow, hhigh, haccepted, hkey, htag, hnumber, hback]
  simp

/-- An SPDU that passes its checks, of a row whose stream is neither ACTIVE nor SILENT. -/
theorem wholeSpdu_passed {port h : Nat} {d : Spdu} {x : Stream} {s : State} (hsum : d.checksumBad = false) (hclear : d.encrypted = false)
    (hkind : d.sampledValues = true) (hold : spduOld s port d = none) (hrow : spduRow s.active (matchedRows s) port d = some h)
    (hcheck : spduCheck h d (s.stream h) s = (s, some x)) (h3 : streamState s h ≠ 3) (h4 : streamState s h ≠ 4) :
    wholeSpdu port d s = (s.setStream h x).bump 0x2203 0x0F h := by
  unfold wholeSpdu
  simp only [hsum, hclear, hkind, hold, hrow, hcheck]
  simp [dataFrameRx_not_live, h3, h4]

/-! ### Reassemblies and silence -/

theorem reassemblyTimeout_due {src : List Byte} {ident : Nat} {x : Reassembly} {s : State}
    (hfind : s.ingest.reassemblies.find? (fun y => y.src == src && y.ident == ident) = some x) (hgood : x.bad = false)
    (hdue : x.startedAt + ms (s.cfg 0x2200 0x05) ≤ s.now) :
    reassemblyTimeout src ident s = (s.bump 0x2230 0x07).onIngest fun i =>
      { i with reassemblies := i.reassemblies.filter fun y => !(y.src == src && y.ident == ident) } := by
  unfold reassemblyTimeout
  rw [hfind]
  dsimp only
  rw [if_neg (Nat.not_lt.mpr hdue)]
  simp [hgood]

theorem reassemblyTimeout_early {src : List Byte} {ident : Nat} {x : Reassembly} {s : State}
    (hfind : s.ingest.reassemblies.find? (fun y => y.src == src && y.ident == ident) = some x)
    (hdue : s.now < x.startedAt + ms (s.cfg 0x2200 0x05)) : reassemblyTimeout src ident s = s := by
  unfold reassemblyTimeout
  rw [hfind]
  exact if_pos hdue

theorem streamSilence_due {h : Nat} {s : State} (hrow : h < firstLocal) (hrun : s.running = true) (hstate : streamState s h = 3)
    (hdue : (s.stream h).lastAccept + ms (s.cfg 0x2200 0x04) ≤ s.now) :
    streamSilence h s = setStreamState h 4 (s.setStream h { s.stream h with silentSends := 0, silentAt := s.now }) := by
  simp [streamSilence, Nat.not_le.mpr hrow, hrun, hstate, hdue]

theorem streamSilence_early {h : Nat} {s : State} (hstate : streamState s h = 3)
    (hdue : s.now < (s.stream h).lastAccept + ms (s.cfg 0x2200 0x04)) : streamSilence h s = s := by
  simp [streamSilence, hstate, Nat.not_le.mpr hdue]

/-- A stream that becomes SILENT keeps its history; its state and its condition 8 show it. -/
theorem setStreamState_silent {h : Nat} {s : State} (hh : h < 0x1000000) (hstate : streamState s h = 3) :
    streamState (setStreamState h 4 s) h = 4 ∧ bit ((setStreamState h 4 s).stream h).conds 8 = true := by
  unfold setStreamState
  extract_lets old live u v x w c c1 c2
  have hv : v = u := if_neg (by simp [old, live, hstate])
  have hw : w = v := if_neg (by simp)
  rw [if_neg (by simp [old, hstate]), if_neg (by decide)]
  refine ⟨by simp [hw, hv, u, hh], ?_⟩
  rw [conds_setConds, bit_setBit_lt _ (by decide), bit_setBit_lt _ (by decide), bit_setBit_self]
  rfl

/-- Settles O12. -/
theorem ingestTakesFrames : Obligations.IngestTakesFrames := by
  refine ⟨?start, ?bad, ?header, ?data, ?spduStart, ?spduEncrypted, ?spduTaken, ?reassembled, ?waiting, ?silent, ?heard⟩
  case start =>
    intro t port g s hport hdev hidle
    refine .of (f := fun s => settleDecisions (ingestDatagram port g s)) rfl ?_
    rw [ingestDatagram_start hport (by simpa using hdev), settleDecisions_idle (by simpa using hidle)]
    simp [show widthOf 0x2230 0x10 = 32 from rfl]
  case bad =>
    intro t port g s hport hrun hidle hbad
    refine .of (f := fun s => settleDecisions (ingestDatagram port g s)) rfl ?_
    rw [ingestDatagram_bad hport (by simpa using hrun) hbad, settleDecisions_idle (by simpa using hidle)]
    simp [show widthOf 0x2230 0x0E = 32 from rfl]
  case header =>
    intro t port h g s hport hh hroom hrun hidle hip hwhole hform hlong hsync hchk htype hver hrow
    have hsmall := row_of_firstLocal hh
    refine .of (f := fun s => settleDecisions (ingestDatagram port g s)) rfl ?_
    rw [ingestDatagram_good (h := h) hport (by simpa using hrun) hip hwhole hform hlong hsync hchk (Nat.le_of_eq htype) hver (by simpa using hrow) (by simp [htype]),
      if_neg (by simp [htype]), settleDecisions_idle (by simpa using hidle)]
    refine ⟨?_, Posted.settle (Posted.first hroom (by simp) (by simp) _ _), by simp [hsmall]⟩
    rw [roBytes_settle (by omega) (by omega) hsmall, roBytes_raise (by omega) (by omega) hsmall, roBytes_setRoBytes_self]
  case data =>
    intro t port h g c v s hport rfl hrun hip hwhole hform hlong hsync hchk htype hver hrow hold hstate hcfg hfrac hset
    refine .of (f := fun s => settleDecisions (ingestDatagram port g s)) rfl ?_
    rw [ingestDatagram_good (h := h) hport (by simpa using hrun) hip hwhole hform hlong hsync hchk (by omega) hver hrow fun _ => hold,
      if_pos htype, dataFrameRx_taken (c := c) (by simpa using hstate) (by simpa using hcfg) hfrac (by simpa using hset)]
  case spduStart =>
    intro t port d s hport hdev hidle
    refine .of (f := fun s => settleDecisions (spduRx port d s)) rfl ?_
    rw [spduRx_start hport (by simpa using hdev), settleDecisions_idle (by simpa using hidle)]
    simp [show widthOf 0x2230 0x10 = 32 from rfl]
  case spduEncrypted =>
    intro t port d s hport hrun hidle hwhole hsum hsecret
    refine .of (f := fun s => settleDecisions (spduRx port d s)) rfl ?_
    rw [spduRx_whole hport (by simpa using hrun) hwhole, show wholeSpdu port d (s.advance t) = (s.advance t).bump 0x2230 0x0A by
      simp [wholeSpdu, hsum, hsecret], settleDecisions_idle (by simpa using hidle)]
    simp [show widthOf 0x2230 0x0A = 32 from rfl]
  case spduTaken =>
    intro t port h n key d s hport hh hrun hidle hwhole hsum hkind hclear hold hrow hlow hhigh haccepted hkey htag hnumber hahead h3 h4
    have hsmall := row_of_firstLocal hh
    refine .of (f := fun s => settleDecisions (spduRx port d s)) rfl ?_
    rw [spduRx_whole hport (by simpa using hrun) hwhole, wholeSpdu_passed hsum hclear hkind hold (by simpa using hrow)
      (spduCheck_passed hlow hhigh (by simpa using haccepted) (by simpa [keyOf] using hkey) htag (by simpa using hnumber) hahead) (by simpa using h3) (by simpa using h4),
      settleDecisions_idle (by simpa [State.setStream] using hidle)]
    refine ⟨by simp, by simp [hsmall, show widthOf 0x2203 0x0F = 32 from rfl], by simp [hsmall, State.setStream]⟩
  case reassembled =>
    intro t ident src x s hfind hgood hdue
    refine .of (f := reassemblyTimeout src ident) rfl ?_
    rw [reassemblyTimeout_due (x := x) (by simpa using hfind) hgood (by simpa using hdue)]
    refine ⟨?_, by simp [show widthOf 0x2230 0x07 = 32 from rfl], by simp⟩
    rw [List.find?_eq_none]
    intro y hy
    simp only [settle_frame, State.onIngest_frame] at hy
    simpa [Decidable.imp_iff_not_or] using (List.mem_filter.mp hy).2
  case waiting =>
    intro t ident src x s hfind hdue
    exact .unchanged (f := reassemblyTimeout src ident) rfl (reassemblyTimeout_early (x := x) (by simpa using hfind) (by simpa using hdue))
  case silent =>
    intro t h s hh hrun hstate hdue
    have hsmall := row_of_firstLocal hh
    refine .of (f := streamSilence h) rfl ?_
    rw [streamSilence_due hh (by simpa using hrun) (by simpa using hstate) (by simpa using hdue)]
    simpa [hsmall] using setStreamState_silent hsmall (by simpa using hstate)
  case heard =>
    intro t h s hstate hdue
    exact .unchanged (f := streamSilence h) rfl (streamSilence_early (by simpa using hstate) (by simpa using hdue))

end Sys2Proof.Machine
end

section
/-! What sending packets can do (R117 to R122): frames enter the queues of a pair's ports, or are dropped and counted. -/

namespace Sys2Proof.Machine
open Sys2Proof

/-! ### Reading what is left as it was -/

section
variable {ps : List Part} {os : List (Nat × Nat)} {s u : State}

theorem Touches.ro (h : Touches ps os s u) {i j r : Nat} (hj : j < 256) (hr : r < 0x1000000) (m : (i, j) ∉ os) (hi : i ≠ 0x2E20) : u.ro i j r = s.ro i j r := by
  rw [State.ro_def, State.ro_def, h.2.1 i j r hj hr m (by simp [hi]) (by simp [hi])]

theorem Touches.roBytes (h : Touches ps os s u) {i j r : Nat} (hj : j < 256) (hr : r < 0x1000000) (m : (i, j) ∉ os) (hi : i ≠ 0x2E20) :
    u.roBytes i j r = s.roBytes i j r := by
  rw [State.roBytes_def, State.roBytes_def, h.2.1 i j r hj hr m (by simp [hi]) (by simp [hi])]

theorem Touches.cfg (h : Touches ps os s u) (m : Part.active ∉ ps) (i j r : Nat) : u.cfg i j r = s.cfg i j r := by
  have hactive : u.active = s.active := h.1 .active m
  simp [State.cfg, hactive]

theorem Touches.dev (h : Touches ps os s u) (m : Part.power ∉ ps) : u.dev = s.dev := by
  have hpower : { u.power with faultN := s.power.faultN } = s.power := h.1 .power m
  exact (congrArg PowerSt.state hpower :)

theorem Touches.running (h : Touches ps os s u) (m : Part.power ∉ ps) : u.running = s.running := by
  have hreset : u.power.resetLow = s.power.resetLow := by
    have hpower : { u.power with faultN := s.power.faultN } = s.power := h.1 .power m
    exact (congrArg PowerSt.resetLow hpower :)
  simp [State.running, h.dev m, hreset]

theorem Touches.stream (h : Touches ps os s u) (m : Part.ingest ∉ ps) (k : Nat) : u.stream k = s.stream k := stream_of (h.1 .ingest m) k

end

/-! ### Sending -/

/-- Frames enter the queues of ports, or are dropped, counted and reported; what waits to leave the block and the events that wait stay. -/
structure Sends (ps : List Part) (s u : State) : Prop where
  touches : Touches ps [(0x2120, 0x12), (0x2111, 0x03)] s u
  outs : u.outs = s.outs
  fifo : s.log.fifo <+: u.log.fifo

namespace Sends
variable {ps : List Part} {s u v : State}

theorem refl (ps : List Part) (s : State) : Sends ps s s := ⟨.refl _ _ _, rfl, List.prefix_refl _⟩

theorem trans (h : Sends ps s u) (g : Sends ps u v) : Sends ps s v := ⟨h.touches.trans g.touches, g.outs.trans h.outs, h.fifo.trans g.fifo⟩

theorem foldl {α : Type} {f : State → α → State} {l : List α} (h : ∀ s, ∀ a ∈ l, Sends ps s (f s a)) (s : State) : Sends ps s (l.foldl f s) := by
  induction l generalizing s with
  | nil => exact refl ps s
  | cons a l ih => exact (h s a (by simp)).trans (ih (fun s b hb => h s b (by simp [hb])) _)

variable (m : Part.port ∈ ps)
include m

theorem enqueue {p : Nat} (hp : p < 8) (cls src num : Nat) (frame : List Byte) (s : State) : Sends ps s (enqueue p cls src num frame s) := by
  refine ⟨by rw [touches_enqueue hp m (by simp)]; exact .refl _ _ _, ?_, ?_⟩ <;> unfold Machine.enqueue <;> split
  · simp
  · simp
  · exact (show s.log.fifo <+: (s.tally 0x2120 0x12 p).log.fifo by simp).trans (fifo_raiseUpTo 1 ..)
  · simp

theorem sendPort {p : Nat} (hp : p < 8) (cls src num : Nat) (dst : List Byte) (etype : Nat) (payload : List Byte) (s : State) :
    Sends ps s (sendPort p cls src num dst etype payload s) := by
  unfold Machine.sendPort
  split
  · exact enqueue m hp ..
  · exact refl ps s

theorem sendOne {p : Nat} (hp : p < 8) (cls src num : Nat) (frame : List Byte) (s : State) : Sends ps s (sendOne p cls src num frame s) := by
  unfold Machine.sendOne
  split
  · exact enqueue m hp ..
  · exact refl ps s

theorem sendPair {pair : Nat} (hpair : pair < 3) (cls src num etype : Nat) (dst payload : List Byte) (s : State) :
    Sends ps s (sendPair pair cls src num dst etype payload s) := by
  have hrow : pair < 0x1000000 := by omega
  by_cases hup : tabGet 2 s.port.pairState pair = 2
  · rw [sendPair_down hup]
    exact refl ps s
  · obtain ⟨n, heq⟩ := sendPair_up (cls := cls) (src := src) (num := num) (etype := etype) (dst := dst) (payload := payload) hup
    rw [heq]
    have hsent := (sendOne m (show 2 * pair < 8 by omega) cls src num (pairFrame s pair (2 * pair) cls dst etype payload) s).trans
      (sendOne m (show 2 * pair + 1 < 8 by omega) cls src num (pairFrame s pair (2 * pair + 1) cls dst etype payload) _)
    exact ⟨by simpa [m, hrow] using hsent.touches, by simpa using hsent.outs, by simpa using hsent.fifo⟩

theorem sendMask (mask cls src num : Nat) (dst : List Byte) (etype : Nat) (payload : List Byte) (s : State) :
    Sends ps s (sendMask mask cls src num dst etype payload s) := by
  refine foldl (fun s k hk => ?_) s
  have hpair : k < 3 := by simpa using hk
  have hport (p : Nat) (hp : p < 8) (c : Bool) (s : State) : Sends ps s (if c then Machine.sendPort p cls src num dst etype payload s else s) := by
    cases c
    · exact refl ps s
    · exact sendPort m hp ..
  dsimp only
  split
  · exact (hport _ (by omega) _ _).trans (hport _ (by omega) _ _)
  · split
    · exact sendPair m hpair ..
    · exact refl ps s

theorem sendPacket (pair cls : Nat) (dst packet : List Byte) (s : State) : Sends ps s (sendPacket pair cls dst packet s) := sendMask m ..

theorem sendDtls (peer : List Byte) (packets : List (List Byte)) (s : State) : Sends ps s (sendDtls peer packets s) :=
  foldl (fun _ _ _ => sendPacket m ..) s

theorem sendImian (n : Nat) (msg : List Byte) (s : State) : Sends ps s (sendImian n msg s) := by
  unfold Machine.sendImian
  split
  · exact sendDtls m ..
  · exact refl ps s

theorem sendIp (d : Part.draws ∈ ps) {pair : Nat} (hpair : pair < 3) (cls proto : Nat) (dst : List Byte) (payload : List Byte → List Byte) (s : State) :
    Sends ps s (sendIp pair cls proto dst payload s) := by
  have hdrawn : Sends ps s s.drawn := ⟨by simp [d], by simp, by simp⟩
  unfold Machine.sendIp
  extract_lets ident etype mac s'
  refine hdrawn.trans ?_
  split
  · refine foldl (fun s p hp => foldl (fun s b _ => sendPort m ?_ ..) s) _
    simp at hp
    omega
  · exact foldl (fun s b _ => sendPair m hpair ..) _

theorem sendUdp (d : Part.draws ∈ ps) {pair : Nat} (hpair : pair < 3) (cls sport : Nat) (dst : List Byte) (dport : Nat) (payload : List Byte) (s : State) :
    Sends ps s (sendUdp pair cls sport dst dport payload s) := sendIp m d hpair ..

end Sends

end Sys2Proof.Machine
end

section
/-! The session with a partner (R150, R151). -/

namespace Sys2Proof.Machine
open Sys2Proof

/-! ### Steps of a session -/

@[simp] theorem State.setStream_frame (h : Nat) (x : Stream) (s : State) :
    (s.setStream h x).now = s.now ∧ (s.setStream h x).outs = s.outs ∧ (s.setStream h x).log = s.log ∧ (s.setStream h x).power = s.power ∧
    (s.setStream h x).active = s.active ∧ (s.setStream h x).live = s.live ∧ (s.setStream h x).time = s.time ∧ (s.setStream h x).place = s.place ∧
    (s.setStream h x).duplex = s.duplex := ⟨rfl, rfl, rfl, rfl, rfl, rfl, rfl, rfl, rfl⟩
@[simp] theorem touches_setStream {ps : List Part} {os : List (Nat × Nat)} {s u : State} (m : Part.ingest ∈ ps) (h : Nat) (x : Stream) :
    Touches ps os s (u.setStream h x) ↔ Touches ps os s u := touches_onIngest m _

@[simp] theorem sessionMode_advance (t h : Nat) (s : State) : sessionMode (s.advance t) h = sessionMode s h := rfl
@[simp] theorem sessionMode_setStream (k : Nat) (x : Stream) (h : Nat) (s : State) : sessionMode (s.setStream k x) h = sessionMode s h := rfl
@[simp] theorem sessionMode_bump (i j r h : Nat) (s : State) : sessionMode (s.bump i j r) h = sessionMode s h := rfl
@[simp] theorem sessionStep_advance (t h : Nat) (s : State) : sessionStep (s.advance t) h = sessionStep s h := by simp [sessionStep, State.ro_def]
@[simp] theorem sessionStep_setStream (k : Nat) (x : Stream) (h : Nat) (s : State) : sessionStep (s.setStream k x) h = sessionStep s h := by
  simp [sessionStep]
@[simp] theorem sessionStep_setStep (h n : Nat) (s : State) : sessionStep (setStep h n s) h = n := by simp [setStep, sessionStep]
@[simp] theorem sessionStep_settle {h : Nat} (hh : h < 0x1000000) (s : State) : sessionStep (settle s) h = sessionStep s h :=
  ro_settle (by omega) (by omega) hh s

@[simp] theorem ro_emit (o : Out) (i j r : Nat) (s : State) : (s.emit o).ro i j r = s.ro i j r := by simp [State.ro_def]
@[simp] theorem sessionStep_emit (o : Out) (h : Nat) (s : State) : sessionStep (s.emit o) h = sessionStep s h := ro_emit ..
@[simp] theorem stream_emit (o : Out) (h : Nat) (s : State) : (s.emit o).stream h = s.stream h := stream_of (by simp) h
theorem ro_setStep {h j r : Nat} (hh : h < 0x1000000) (hj : j < 256) (hr : r < 0x1000000) (hne : j ≠ 0x0D) (n : Nat) (s : State) :
    (setStep h n s).ro 0x2203 j r = s.ro 0x2203 j r := by
  simp [setStep, hh, hj, hr, hne]

@[simp] theorem stream_setStep (h n : Nat) (s : State) : (setStep h n s).stream h = { s.stream h with stepAt := s.now } := by simp [setStep]
@[simp] theorem outs_setStep (h n : Nat) (s : State) : (setStep h n s).outs = s.outs := by simp [setStep]
theorem touches_setStep {ps : List Part} {os : List (Nat × Nat)} {s u : State} (m : Part.ingest ∈ ps) (m' : (0x2203, 0x0D) ∈ os) {h : Nat}
    (hh : h < 0x1000000) (n : Nat) : Touches ps os s (setStep h n u) ↔ Touches ps os s u := by
  simp [setStep, m, m', hh]

/-! ### Commands to a partner -/

@[simp] theorem commandFrame_setStream (k : Nat) (x : Stream) (h cmd : Nat) (s : State) : commandFrame (s.setStream k x) h cmd = commandFrame s h cmd := rfl

/-- A command goes out on an open session of mode 1, and its packets are sent. -/
theorem partnerCommand_open {h cmd : Nat} {s : State} (hmode : sessionMode s h = 1) (hopen : (s.stream h).tcp = true) :
    Sends [.port] (s.emit (.tcp h (commandFrame s h cmd))) (partnerCommand h cmd s) := by
  simp only [partnerCommand, hmode, hopen, if_true]
  exact .foldl (fun s b _ => .sendPacket (by simp) ..) _

/-! ### What each step of the sequence does -/

/-- The connection is taken up, the configuration asked for, and step 3 begun. -/
theorem sessionConnected_opens {h : Nat} {s : State} (hrun : s.running = true) (hmode : sessionMode s h = 1) (hstep : sessionStep s h = 1) :
    ∃ v, sessionConnected h s = setStep h 3 v ∧ (v.stream h).tcp = true ∧
      Out.tcp h (commandFrame s h (if s.cfg 0x2201 0x0D h = 1 then 6 else 5)) ∈ v.outs ∧ Touches [.ingest, .port] [(0x2120, 0x12), (0x2111, 0x03)] s v := by
  have hsent := partnerCommand_open (h := h) (cmd := if s.cfg 0x2201 0x0D h = 1 then 6 else 5)
    (s := s.setStream h { s.stream h with tcp := true, backoff := 0 }) (by simpa using hmode) (by simp)
  refine ⟨_, ?_, ?_, ?_, (Touches.trans (by simp) (hsent.touches.mono (by simp) (by simp)))⟩
  · unfold sessionConnected
    rw [if_pos (by simp [hrun, hmode, hstep])]
    rfl
  · rw [hsent.touches.stream (by simp)]
    simp
  · simp [hsent.outs]

theorem sessionTimeout_due {h : Nat} {s : State} (hrun : s.running = true) (hstep : sessionStep s h = 1 ∨ sessionStep s h = 3)
    (hdue : (s.stream h).stepAt + ms (if sessionStep s h = 1 then s.cfg 0x2200 0x01 else s.cfg 0x2200 0x02) ≤ s.now) :
    sessionTimeout h s = beginBackoff h s := by
  unfold sessionTimeout
  exact if_pos (by simpa [hrun, hdue] using hstep)

theorem sessionTimeout_early {h : Nat} {s : State}
    (hearly : s.now < (s.stream h).stepAt + ms (if sessionStep s h = 1 then s.cfg 0x2200 0x01 else s.cfg 0x2200 0x02)) : sessionTimeout h s = s := by
  unfold sessionTimeout
  exact if_neg (by simp [hearly])

theorem sessionRetry_due {h : Nat} {s : State} (hrun : s.running = true) (hmode : sessionMode s h = 1) (hclosed : (s.stream h).tcp = false)
    (hstep : sessionStep s h = 5) (hdue : (s.stream h).stepAt + sec (s.stream h).backoff ≤ s.now) :
    sessionRetry h s = (setStep h 1 (s.bump 0x2203 0x0B h)).emit (.tcpOpen h (s.cfgBytes 0x2201 0x04 h) (s.cfg 0x2201 0x0C h)) := by
  unfold sessionRetry
  rw [if_pos (by simp [hrun, hstep, hdue])]
  simp [sessionBegin, hmode, hclosed, State.cfg, State.cfgBytes]

theorem sessionRetry_early {h : Nat} {s : State} (hearly : s.now < (s.stream h).stepAt + sec (s.stream h).backoff) : sessionRetry h s = s := by
  unfold sessionRetry
  exact if_neg (by simp [hearly])

theorem requestHeader_open {h : Nat} {s : State} (hrun : s.running = true) (hmode : sessionMode s h = 1) (hopen : (s.stream h).tcp = true) :
    requestHeader h s = (partnerCommand h 3 s, 0) := by
  simp [requestHeader, hrun, hmode, hopen]

/-- Settles O13. -/
theorem partnerSessionsFollowTheirSteps : Obligations.PartnerSessionsFollowTheirSteps := by
  refine ⟨?connected, ?otherStep, ?timeout, ?answering, ?retry, ?backoff, ?header, ?noSession⟩
  case connected =>
    intro t h s hh hrun hmode hstep
    have hsmall := row_of_firstLocal hh
    refine .of (f := sessionConnected h) rfl ?_
    obtain ⟨v, heq, hopen, hout, htouch⟩ := sessionConnected_opens (s := s.advance t) (by simpa using hrun) (by simpa using hmode) (by simpa using hstep)
    rw [heq]
    refine ⟨by simpa using hopen, by simp [hsmall], by simp only [settle_frame, outs_setStep]; exact hout, ?_⟩
    simpa [hsmall, touches_setStep] using htouch.mono (by simp) (by simp)
  case otherStep =>
    intro t h s hstep
    exact .unchanged (f := sessionConnected h) rfl (by simp [sessionConnected, hstep])
  case timeout =>
    intro t h s hh hrun hstep hdue
    have hsmall := row_of_firstLocal hh
    refine .of (f := sessionTimeout h) rfl ?_
    rw [sessionTimeout_due (by simpa using hrun) (by simpa using hstep) (by simpa using hdue)]
    unfold beginBackoff
    simp [hsmall, touches_setStep]
  case answering =>
    intro t h s hearly
    exact .unchanged (f := sessionTimeout h) rfl (sessionTimeout_early (by simpa using hearly))
  case retry =>
    intro t h s hh hrun hmode hclosed hstep hdue
    have hsmall := row_of_firstLocal hh
    refine .of (f := sessionRetry h) rfl ?_
    rw [sessionRetry_due (by simpa using hrun) (by simpa using hmode) (by simpa using hclosed) (by simpa using hstep) (by simpa using hdue)]
    simp [hsmall, touches_setStep, ro_setStep, show widthOf 0x2203 0x0B = 32 from rfl]
  case backoff =>
    intro t h s hearly
    exact .unchanged (f := sessionRetry h) rfl (sessionRetry_early (by simpa using hearly))
  case header =>
    intro t h who s hacc hrun hmode hopen
    refine .of (f := runCommand 0x2260 0x02 h (.num 0) who (requestHeader h)) rfl ?_
    have hsent := partnerCommand_open (cmd := 3) (s := s.advance t) (by simpa using hmode) (by simpa using hopen)
    rw [runCommand_accepted hacc, requestHeader_open (by simpa using hrun) (by simpa using hmode) (by simpa using hopen)]
    refine ⟨answered_settle .., by simp [hsent.outs], ?_⟩
    simpa using (Touches.emit (.refl _ _ _) _).trans (hsent.touches.mono (by simp) (by simp))
  case noSession =>
    intro t h who s hacc hmode
    refine .of (f := runCommand 0x2260 0x02 h (.num 0) who (requestHeader h)) rfl ?_
    rw [runCommand_accepted hacc, show requestHeader h (s.advance t) = (s.advance t, 0x06) by simp [requestHeader, hmode]]
    exact ⟨answered_settle .., by simp⟩

end Sys2Proof.Machine
end

section
/-! Enables, admission and the end of partner streams (R147, R168 to R171, R246, R606). -/

namespace Sys2Proof.Machine
open Sys2Proof

theorem runWrite_accepted {i j r : Nat} {v : Val} {w : Who} {s : State} (h : AcceptedWrite i j r v w s) (effect : State → State) :
    runWrite i j r v w effect s = (account w 0 (effect (s.setLive i j r v))).emit (.status w 0) := by
  simp [runWrite, h.1, h.2]

/-! ### Work beside the ingest path -/

/-- Work on other units, whose objects lie above those of the streams: the streams, what is configured, and the events that wait stay. -/
structure KeepsStreams (s u : State) : Prop where
  ingest : u.ingest = s.ingest
  active : u.active = s.active
  live : u.live = s.live
  shadow : u.shadow = s.shadow
  objects : ∀ j r, j < 256 → r < 0x1000000 → u.ro 0x2203 j r = s.ro 0x2203 j r
  fifo : s.log.fifo <+: u.log.fifo

namespace KeepsStreams
variable {s u v : State}

theorem refl (s : State) : KeepsStreams s s := ⟨rfl, rfl, rfl, rfl, fun _ _ _ _ => rfl, List.prefix_refl _⟩
theorem trans (h : KeepsStreams s u) (g : KeepsStreams u v) : KeepsStreams s v :=
  ⟨g.ingest.trans h.ingest, g.active.trans h.active, g.live.trans h.live, g.shadow.trans h.shadow, fun j r hj hr => (g.objects j r hj hr).trans (h.objects j r hj hr),
    h.fifo.trans g.fifo⟩
theorem foldl {α : Type} {f : State → α → State} (h : ∀ s a, KeepsStreams s (f s a)) (l : List α) (s : State) : KeepsStreams s (l.foldl f s) := by
  induction l generalizing s with
  | nil => exact refl s
  | cons a l ih => exact (h s a).trans (ih _)
theorem ite (c : Prop) [Decidable c] (h : KeepsStreams s u) (g : KeepsStreams s v) : KeepsStreams s (if c then u else v) := by
  split
  · exact h
  · exact g

theorem onPlace (f : PlaceSt → PlaceSt) (s : State) : KeepsStreams s (s.onPlace f) := ⟨by simp, by simp, by simp, by simp, fun _ _ _ _ => by simp [State.ro_def], by simp⟩
theorem onPub (f : PubSt → PubSt) (s : State) : KeepsStreams s (s.onPub f) := ⟨by simp, by simp, by simp, by simp, fun _ _ _ _ => by simp [State.ro_def], by simp⟩
theorem onEddy (f : EddySt → EddySt) (s : State) : KeepsStreams s (s.onEddy f) := ⟨by simp, by simp, by simp, by simp, fun _ _ _ _ => by simp [State.ro_def], by simp⟩
theorem onPower (f : PowerSt → PowerSt) (s : State) : KeepsStreams s (s.onPower f) := ⟨by simp, by simp, by simp, by simp, fun _ _ _ _ => by simp [State.ro_def], by simp⟩
theorem scrubLogs (f : Undo → Undo) (s : State) : KeepsStreams s (scrubLogs f s) := ⟨rfl, rfl, rfl, rfl, fun _ _ _ _ => rfl, List.prefix_refl _⟩
theorem setRow {i : Nat} (hi : 0x2203 < i) (j r n : Nat) (s : State) : KeepsStreams s (s.setRow i j r n) :=
  ⟨by simp, by simp, by simp, by simp, fun a b ha hb => ro_setRow_above hi ha hb s n, by simp⟩
theorem bump {i : Nat} (hi : 0x2203 < i) (j r : Nat) (s : State) : KeepsStreams s (s.bump i j r) :=
  ⟨by simp, by simp, by simp, by simp, fun a b ha hb => ro_bump_above hi ha hb s, by simp⟩
theorem clearRow {i : Nat} (hi : 0x2203 < i) (j r : Nat) (s : State) : KeepsStreams s (s.clearRow i j r) := by
  refine ⟨rfl, rfl, rfl, rfl, fun a b ha hb => ?_, List.prefix_refl _⟩
  have hne : okey 0x2203 a b ≠ okey i j r := by
    unfold okey
    omega
  simp [State.ro_def, State.clearRow, readIn, lookup_delKey_ne hne]
theorem raise (code : Nat) (l : List Byte) (s : State) : KeepsStreams s (raise code l s) :=
  ⟨by simp, by simp, by simp, by simp, fun a b ha hb => ro_raise (by omega) ha hb code l s, fifo_raise code l s⟩
theorem raiseOnce (code key : Nat) (l : List Byte) (s : State) : KeepsStreams s (raiseOnce code key l s) :=
  ⟨by simp, by simp, by simp, by simp, fun a b ha hb => ro_raiseOnce (by omega) ha hb code key l s, fifo_raiseUpTo 1 code key l s⟩

/-! #### Placement (R246) -/

theorem showPlaced (h : Nat) (s : State) : KeepsStreams s (showPlaced h s) := by
  refine trans ?_ (foldl (fun s k => setRow (by omega) ..) _ _)
  split
  · exact setRow (by omega) ..
  · exact clearRow (by omega) ..

theorem placeLane (h : Nat) (set : List Nat) (s : State) : KeepsStreams s (placeLane h set s) := by
  unfold Machine.placeLane
  split
  · exact (onPlace _ s).trans (clearRow (by omega) ..)
  · extract_lets fits mine best
    split
    · exact (onPlace _ s).trans (setRow (by omega) ..)
    · exact refl s

theorem unpark (s : State) : KeepsStreams s (unpark s) := (onPlace _ s).trans (.ite _ (refl _) (onPlace ..))

theorem putOn (h k : Nat) (s : State) : KeepsStreams s (putOn h k s) := by
  unfold Machine.putOn
  exact (onPlace _ s).trans (showPlaced h _)

theorem hintMissed (row reason h : Nat) (s : State) : KeepsStreams s (hintMissed row reason h s) := by
  unfold Machine.hintMissed
  exact (bump (by omega) 0x08 noRow s).trans (raiseOnce _ _ _ _)

theorem placeOne (set : List Nat) (h : Nat) (s : State) : KeepsStreams s (placeOne set h s) := by
  unfold Machine.placeOne
  split
  next k missed _ =>
    exact ((putOn h k s).trans
      (foldl (f := fun s (e : Nat × Nat) => Machine.hintMissed e.1 e.2 h s) (fun s e => hintMissed e.1 e.2 h s) missed _)).trans (placeLane h set _)
  next => exact unpark s

theorem placeStreams (l : List Nat) (s : State) : KeepsStreams s (placeStreams l s) := 
  foldl (f := fun s (e : Nat × List Nat) => Machine.placeOne e.2 e.1 s) (fun s e => placeOne e.2 e.1 s) _ s

theorem dropMigration (h : Nat) (s : State) : KeepsStreams s (dropMigration h s) := onPlace _ s

theorem abandon (h reason : Nat) (s : State) : KeepsStreams s (abandon h reason s) := by
  unfold Machine.abandon
  split
  · exact dropMigration h s
  · exact (((dropMigration h s).trans (onPlace _ _)).trans (bump (by omega) 0x02 noRow _)).trans (raiseOnce _ _ _ _)

theorem unplaceStream (h : Nat) (s : State) : KeepsStreams s (unplaceStream h s) := by
  unfold Machine.unplaceStream
  extract_lets u v
  exact (((abandon h 2 s).trans (onPlace _ u)).trans (clearRow (by omega) 0x05 h v)).trans (showPlaced h _)

/-! #### The archive ring and the band detectors -/

theorem trimRing (s : State) : KeepsStreams s (trimRing s) := (onPub _ s).trans (foldl (fun s e => setRow (by omega) ..) _ _)

theorem ringResize (s : State) : KeepsStreams s (ringResize s) := by
  unfold Machine.ringResize
  extract_lets n old s'
  have htrim : KeepsStreams s s' := (setRow (by omega) ..).trans (trimRing _)
  exact .ite _ (refl s) (.ite _ (htrim.trans (raise ..)) htrim)

theorem resetBandsOf (h : Nat) (s : State) : KeepsStreams s (resetBandsOf h s) := (onEddy _ s).trans (scrubLogs ..)

/-! #### Sending -/

theorem of_sends {ps : List Part} (h : Sends ps s u) (hi : Part.ingest ∉ ps) (ha : Part.active ∉ ps) (hl : Part.live ∉ ps)
    (hs : Part.shadow ∉ ps) : KeepsStreams s u :=
  ⟨h.touches.1 .ingest hi, h.touches.1 .active ha, h.touches.1 .live hl, h.touches.1 .shadow hs, fun _ _ hj hr => h.touches.ro hj hr (by simp) (by omega), h.fifo⟩

theorem emit (o : Out) (s : State) : KeepsStreams s (s.emit o) := ⟨by simp, by simp, by simp, by simp, fun _ _ _ _ => by simp, by simp⟩

theorem partnerCommand (h cmd : Nat) (s : State) : KeepsStreams s (partnerCommand h cmd s) := by
  unfold Machine.partnerCommand
  extract_lets f
  split
  · split
    · refine (emit _ s).trans (of_sends (ps := [.port]) (.foldl (fun s b _ => .sendPacket (by simp) _ _ _ b s) _) (by simp) (by simp) (by simp) (by simp))
    · exact refl s
  · split
    · refine of_sends (ps := [.port, .draws]) (.foldl (fun s p hp => ?_) s) (by simp) (by simp) (by simp) (by simp)
      have hpair : p < 3 := by
        simp at hp
        omega
      split
      · exact .sendUdp (by simp) (by simp) hpair ..
      · exact .refl _ s
    · exact refl s

theorem streamState (h : KeepsStreams s u) {k : Nat} (hk : k < 0x1000000) : streamState u k = streamState s k := h.objects _ _ (by omega) hk
theorem stream (h : KeepsStreams s u) (k : Nat) : u.stream k = s.stream k := stream_of h.ingest k

end KeepsStreams

/-! ### The state of a stream -/

/-- What decides which streams are admitted together, the rows' enables, and the set that is being edited. -/
def State.enables (s : State) : Option Nat × List Nat × Dict × Dict := (s.ingest.collection, s.ingest.collected, s.live, s.shadow)

theorem KeepsStreams.enables {s u : State} (h : KeepsStreams s u) : u.enables = s.enables := by simp [State.enables, h.ingest, h.live, h.shadow]

@[simp] theorem enables_setStream (h : Nat) (x : Stream) (s : State) : (s.setStream h x).enables = s.enables := rfl
@[simp] theorem enables_setRow (i j r n : Nat) (s : State) : (s.setRow i j r n).enables = s.enables := by simp [State.enables]
@[simp] theorem enables_setRoBytes (i j r : Nat) (l : List Byte) (s : State) : (s.setRoBytes i j l r).enables = s.enables := by simp [State.enables]
@[simp] theorem enables_bump (i j r : Nat) (s : State) : (s.bump i j r).enables = s.enables := by simp [State.enables]
@[simp] theorem enables_raise (code : Nat) (l : List Byte) (s : State) : (raise code l s).enables = s.enables := by simp [State.enables]
@[simp] theorem enables_emit (o : Out) (s : State) : (s.emit o).enables = s.enables := by simp [State.enables]
@[simp] theorem enables_settle (s : State) : (settle s).enables = s.enables := by simp [State.enables]
@[simp] theorem enables_onPower (f : PowerSt → PowerSt) (s : State) : (s.onPower f).enables = s.enables := by simp [State.enables]
/-- What no step of a fold changes is as it was. -/
theorem foldl_keeps {α β : Type} (g : State → β) {f : State → α → State} (h : ∀ s a, g (f s a) = g s) (l : List α) (s : State) : g (l.foldl f s) = g s := by
  induction l generalizing s with
  | nil => rfl
  | cons a l ih => exact (ih _).trans (h s a)

@[simp] theorem enables_joinWindow (c : Nat) (clearing : Bool) (h : Nat) (s : State) : (joinWindow c clearing h s).enables = s.enables := by
  unfold joinWindow State.enables
  simp only [State.onIngest_frame]
  split <;> rfl

/-- What neither a stream's record nor the windows are part of is kept where the conditions are set. -/
theorem setConds_keeps {β : Type} (g : State → β) {h : Nat} (hwindow : ∀ c clearing s, g (joinWindow c clearing h s) = g s)
    (hstream : ∀ x s, g (s.setStream h x) = g s) (new : Nat) (s : State) : g (setConds h new s) = g s := by
  unfold setConds
  refine (foldl_keeps g (fun s c => ?_) _ _).trans (hstream ..)
  repeat' split
  all_goals simp [hwindow]

@[simp] theorem enables_setConds (h new : Nat) (s : State) : (setConds h new s).enables = s.enables :=
  setConds_keeps State.enables (by simp) (by simp) new s
@[simp] theorem setConds_frame (h new : Nat) (s : State) :
    (setConds h new s).active = s.active ∧ (setConds h new s).status = s.status ∧ (setConds h new s).log = s.log ∧ (setConds h new s).power = s.power :=
  ⟨setConds_keeps State.active (fun _ _ _ => rfl) (fun _ _ => rfl) new s, setConds_keeps State.status (fun _ _ _ => rfl) (fun _ _ => rfl) new s,
    setConds_keeps State.log (fun _ _ _ => rfl) (fun _ _ => rfl) new s, setConds_keeps State.power (fun _ _ _ => rfl) (fun _ _ => rfl) new s⟩

theorem stream_setConds (h new : Nat) (s : State) : (setConds h new s).stream h = { s.stream h with conds := new } := by
  unfold setConds
  rw [(windows_leave ..).1]
  simp

/-- A stream's history is discarded: of the stream itself nothing else differs. -/
theorem discardHistory_keeps (h : Nat) (s : State) :
    KeepsStreams (s.setStream h { s.stream h with history := [], lateness := [] }) (discardHistory h s) := .resetBandsOf h _

@[simp] theorem enables_discardHistory (h : Nat) (s : State) : (discardHistory h s).enables = s.enables := by
  simp [(discardHistory_keeps h s).enables]

/-- What setting a stream's state does: the state is set, and the connection, the enables and the configuration stay. -/
theorem setStreamState_sets (h new : Nat) (s : State) :
    (h < 0x1000000 → streamState (setStreamState h new s) h = new) ∧ ((setStreamState h new s).stream h).tcp = (s.stream h).tcp ∧
    (setStreamState h new s).enables = s.enables ∧ (setStreamState h new s).active = s.active := by
  unfold setStreamState
  extract_lets old live u v x w c c1 c2 c3
  split
  next heq => exact ⟨fun _ => heq, rfl, rfl, rfl⟩
  next hne =>
    have hu : (h < 0x1000000 → streamState u h = new) ∧ (u.stream h).tcp = (s.stream h).tcp ∧ u.enables = s.enables ∧ u.active = s.active :=
      ⟨fun hh => by simp [u, hh], by simp [u], by simp [u], by simp [u]⟩
    have hv : (h < 0x1000000 → streamState v h = new) ∧ (v.stream h).tcp = (s.stream h).tcp ∧ v.enables = s.enables ∧ v.active = s.active := by
      unfold v
      split
      · have hkeeps := discardHistory_keeps h u
        rw [hkeeps.stream, hkeeps.enables, hkeeps.active]
        exact ⟨fun hh => by simpa [hkeeps.streamState hh] using hu.1 hh, by simpa using hu.2⟩
      · exact hu
    have hw : (h < 0x1000000 → streamState w h = new) ∧ (w.stream h).tcp = (s.stream h).tcp ∧ w.enables = s.enables ∧ w.active = s.active := by
      unfold w
      split
      · simpa using hv
      · exact hv
    simpa [stream_setConds] using hw

@[simp] theorem streamState_setStreamState {h : Nat} (hh : h < 0x1000000) (new : Nat) (s : State) : streamState (setStreamState h new s) h = new :=
  (setStreamState_sets h new s).1 hh
@[simp] theorem tcp_setStreamState (h new : Nat) (s : State) : ((setStreamState h new s).stream h).tcp = (s.stream h).tcp :=
  (setStreamState_sets h new s).2.1
@[simp] theorem enables_setStreamState (h new : Nat) (s : State) : (setStreamState h new s).enables = s.enables := (setStreamState_sets h new s).2.2.1
@[simp] theorem active_setStreamState (h new : Nat) (s : State) : (setStreamState h new s).active = s.active := (setStreamState_sets h new s).2.2.2

/-! ### The sequence of a session -/

@[simp] theorem enables_setStep (h n : Nat) (s : State) : (setStep h n s).enables = s.enables := by simp [setStep]
@[simp] theorem enables_ringResize (s : State) : (ringResize s).enables = s.enables := (KeepsStreams.ringResize s).enables
@[simp] theorem enables_placeStreams (l : List Nat) (s : State) : (placeStreams l s).enables = s.enables := (KeepsStreams.placeStreams l s).enables
@[simp] theorem enables_partnerCommand (h cmd : Nat) (s : State) : (partnerCommand h cmd s).enables = s.enables := (KeepsStreams.partnerCommand h cmd s).enables
@[simp] theorem enables_requestConfiguration (h : Nat) (s : State) : (requestConfiguration h s).enables = s.enables := by simp [requestConfiguration]

@[simp] theorem enables_fourEnd (fn st : Nat) (s : State) : (fourEnd fn st s).1.enables = s.enables := by
  unfold fourEnd State.setFour
  split
  split <;> simp

@[simp] theorem enables_closeSessionOf (h : Nat) (s : State) : (closeSessionOf h s).enables = s.enables := by
  unfold closeSessionOf
  split <;> simp

@[simp] theorem enables_streamGone (h : Nat) (s : State) : (streamGone h s).enables = s.enables := by
  simp [streamGone, (KeepsStreams.unplaceStream h (closeSessionOf h s)).enables]

@[simp] theorem enables_streamStopping (h : Nat) (s : State) : (streamStopping h s).enables = s.enables := by
  unfold streamStopping
  extract_lets u
  split <;> simp [u]

@[simp] theorem enables_takeConfiguration (h : Nat) (c : PartnerCfg) (s : State) : (takeConfiguration h c s).enables = s.enables := by
  simp [takeConfiguration]

@[simp] theorem enables_streamConfigured (h : Nat) (s : State) : (streamConfigured h s).enables = s.enables := by
  unfold streamConfigured
  dsimp only
  split <;> simp

@[simp] theorem enables_mismatch (h test : Nat) (s : State) : (mismatch h test s).enables = s.enables := by
  unfold mismatch
  dsimp only
  repeat' split
  all_goals simp

@[simp] theorem enables_sessionBegin (h : Nat) (s : State) : (sessionBegin h s).enables = s.enables := by
  unfold sessionBegin
  split
  · extract_lets pre
    split
    · simp
    · split <;> simp
  · split <;> simp
  · simp

/-! ### Admission -/

/-- One stream of a collection is admitted or refused. -/
def admitOne (s : State) (h : Nat) : State :=
  match admissionTest s.active (admissionLimit s) (h :: admittedPartners s) with
  | some reason => raise 0x2204 (le 2 h ++ le 1 reason) ((setStreamState h 1 s).bump 0x2230 0x0C)
  | none => setStreamState h 2 (s.setStream h { Stream.reset with conds := (s.stream h).conds })

@[simp] theorem enables_admitOne (h : Nat) (s : State) : (admitOne s h).enables = s.enables := by
  unfold admitOne
  split <;> simp

/-- The streams of a collection are admitted or refused in their order; those admitted are placed, and their sessions begin. -/
def admittedOf (l : List Nat) (s : State) : List Nat := (sortNat l.eraseDups).filter fun h => streamState ((sortNat l.eraseDups).foldl admitOne s) h == 2

theorem admitAll_eq (l : List Nat) (s : State) :
    admitAll l s = (admittedOf l s).foldl (fun s h => sessionBegin h s)
      (if (admittedOf l s).isEmpty then (sortNat l.eraseDups).foldl admitOne s
       else ringResize (placeStreams (admittedOf l s) ((sortNat l.eraseDups).foldl admitOne s))) := rfl

@[simp] theorem enables_admitAll (l : List Nat) (s : State) : (admitAll l s).enables = s.enables := by
  rw [admitAll_eq, foldl_keeps State.enables (fun s h => enables_sessionBegin h s)]
  split <;> simp [foldl_keeps State.enables (fun s h => enables_admitOne h s)]

end Sys2Proof.Machine
end

section
/-! Partner streams start and stop (R168 to R174, R606). -/

namespace Sys2Proof.Machine
open Sys2Proof

/-! ### Writes of the enable -/

namespace Sends
variable {ps : List Part} (m : Part.port ∈ ps) (d : Part.draws ∈ ps)
include m d

theorem reportGroups {p : Nat} (hp : p < 6) (groups : List (List Byte)) (s : State) : Sends ps s (reportGroups p groups s) := by
  have hdrawn (s : State) : Sends ps s s.drawn := ⟨by simp [d], by simp, by simp⟩
  unfold Machine.reportGroups
  refine trans (u := reportV4 p (groups.filter isV4) s) ?_ ?_
  · unfold reportV4
    split
    · exact refl ps s
    · refine (hdrawn s).trans ?_
      dsimp only
      split
      · exact sendPort m (by omega) ..
      · exact sendPair m (by omega) ..
  · unfold reportV6
    split
    · exact refl ps _
    · dsimp only
      split
      · exact sendPort m (by omega) ..
      · exact sendPair m (by omega) ..

theorem reportRow (h : Nat) (s : State) : Sends ps s (reportRow h s) := by
  unfold Machine.reportRow
  extract_lets grp
  split
  · exact refl ps s
  · refine foldl (fun s k hk => ?_) s
    have hpair : k < 2 := by
      simp at hk
      omega
    split
    · split
      · exact (reportGroups m d (by omega) ..).trans (reportGroups m d (by omega) ..)
      · exact reportGroups m d (by omega) ..
    · exact refl ps s

end Sends

@[simp] theorem group_advance (t g : Nat) (s : State) : (s.advance t).group g = s.group g := by simp [State.group]
@[simp] theorem streamState_setLive (i j r : Nat) (v : Val) (h : Nat) (s : State) : streamState (s.setLive i j r v) h = streamState s h :=
  streamState_of (by simp) h
@[simp] theorem streamState_emit (o : Out) (h : Nat) (s : State) : streamState (s.emit o) h = streamState s h := streamState_of (by simp) h
@[simp] theorem streamState_account {h : Nat} (hh : h < 0x1000000) (w : Who) (n : Nat) (s : State) : streamState (account w n s) h = streamState s h :=
  ro_account (by omega) (by omega) hh w n s
@[simp] theorem running_setLive (i j r : Nat) (v : Val) (s : State) : (s.setLive i j r v).running = s.running := by simp [State.running, State.dev]

/-- A stream joins the collection that is admitted together. -/
def joinCollection (h : Nat) (s : State) : State :=
  s.onIngest fun i => { i with collection := some (i.collection.getD s.now), collected := if i.collected.contains h then i.collected else h :: i.collected }

theorem joinCollection_joins (h : Nat) (s : State) : h ∈ (joinCollection h s).ingest.collected ∧ (joinCollection h s).ingest.collection.isSome = true := by
  simp only [joinCollection, State.onIngest_frame]
  refine ⟨?_, rfl⟩
  split
  next hc => exact List.contains_iff_mem.mp hc
  next => exact List.mem_cons_self

theorem streamEnable_joins {h : Nat} {s : State} (hrun : s.running = true) (hstate : streamState s h ≤ 1) :
    streamEnable h true s = joinCollection h (reportRow h s) := by
  unfold streamEnable
  rw [if_neg (by simp [hrun]), if_pos rfl]
  exact if_pos hstate

theorem streamEnable_stops {h : Nat} {s : State} (hrun : s.running = true) (hstate : streamState s h = 3 ∨ streamState s h = 4) :
    streamEnable h false s = streamStopping h (s.onIngest fun i => { i with collected := i.collected.filter (· != h) }) := by
  obtain hstate | hstate := hstate <;> simp [streamEnable, hrun, hstate]

theorem streamEnable_notRunning {h : Nat} {on : Bool} {s : State} (hrun : s.running = false) : streamEnable h on s = s := by
  simp [streamEnable, hrun]

theorem sessionMode_of {s u : State} (ha : u.active = s.active) (h : Nat) : sessionMode u h = sessionMode s h := by
  unfold sessionMode State.cfg
  rw [ha]

/-- A stream that stops is STOPPING, or DISABLED where it has no session. -/
theorem streamState_streamStopping {h : Nat} (hh : h < 0x1000000) (s : State) :
    streamState (streamStopping h s) h = if sessionMode s h = 0 then 0 else 6 := by
  have hmode : sessionMode (setStreamState h 6 s) h = sessionMode s h := sessionMode_of (by simp) h
  unfold streamStopping
  simp only [hmode]
  split
  · simp [hh]
  · rw [(KeepsStreams.partnerCommand ..).streamState hh]
    simp [hh]

/-! ### Ends -/

theorem streamStopped_ends {h : Nat} {s : State} (hrun : s.running = true) (hstate : streamState s h = 6) :
    streamStopped h s = (let v := setStreamState h 0 (streamGone h (s.setFour (fnStream h) false false))
      if (s.fourFlag (fnStream h)).1 then v.onIngest fun i => { i with collection := some (i.collection.getD v.now), collected := h :: i.collected } else v) := by
  unfold streamStopped
  rw [if_pos (by simp [hrun, hstate])]
  simp only [fourEnd]
  cases (s.fourFlag (fnStream h)).1 <;> rfl

theorem adoptionGrace_due {h : Nat} {s : State} (hold : (s.stream h).oldCfg.isSome = true) (hdue : (s.stream h).adoptedAt + sec 60 ≤ s.now) :
    adoptionGrace h s = s.setStream h { s.stream h with oldCfg := none } := by
  unfold adoptionGrace
  exact if_pos (by simp [hold, hdue])

theorem adoptionGrace_early {h : Nat} {s : State} (hearly : s.now < (s.stream h).adoptedAt + sec 60) : adoptionGrace h s = s := by
  unfold adoptionGrace
  exact if_neg (by simp [hearly])

/-- A session with a connection to open begins with it. -/
theorem sessionBegin_opens {h : Nat} {s : State} (hmode : sessionMode s h = 1) (hclosed : (s.stream h).tcp = false) :
    sessionBegin h s = (setStep h 1 s).emit (.tcpOpen h (s.cfgBytes 0x2201 0x04 h) (s.cfg 0x2201 0x0C h)) := by
  simp [sessionBegin, hmode, hclosed]

/-! ### The close of a collection -/

@[simp] theorem ro_setConds (h new i j r : Nat) (s : State) : (setConds h new s).ro i j r = s.ro i j r := by simp [State.ro_def]

/-- A DISABLED stream is refused: event 0x2201, and its conditions. -/
theorem setStreamState_refused {h : Nat} {s : State} (hstate : streamState s h = 0) :
    ∃ c, setStreamState h 1 s = setConds h c (raise 0x2201 (le 2 h ++ le 1 0 ++ le 1 1) (s.setRow 0x2203 0x01 h 1)) := by
  unfold setStreamState
  rw [hstate]
  exact ⟨_, rfl⟩


/-- The collection is ended. -/
def endCollection (s : State) : State := s.onIngest fun i => { i with collection := none, collected := [] }

/-- The collected rows that are enabled and not admitted. -/
def candidates (s : State) : List Nat := s.ingest.collected.filter fun h => s.rw 0x2201 0x01 h == 1 && streamState s h ≤ 1

theorem collectionClose_due {a : Nat} {s : State} (hopen : s.ingest.collection = some a) (hdue : a + ms 1 ≤ s.now) :
    collectionClose s = if s.running then admitAll (candidates s) (endCollection s) else endCollection s := by
  unfold collectionClose
  rw [hopen]
  exact if_neg (Nat.not_lt.mpr hdue)

theorem collectionClose_early {a : Nat} {s : State} (hopen : s.ingest.collection = some a) (hearly : s.now < a + ms 1) : collectionClose s = s := by
  unfold collectionClose
  rw [hopen]
  exact if_pos hearly

theorem candidates_single {t h : Nat} {s : State} (hcollected : s.ingest.collected = [h]) (henabled : s.rw 0x2201 0x01 h = 1) (hstate : streamState s h ≤ 1) :
    candidates (s.advance t) = [h] := by
  simp [candidates, hcollected, henabled, hstate]

theorem sortNat_single (h : Nat) : sortNat [h].eraseDups = [h] := rfl

/-- A single stream of a collection that is refused. -/
theorem admitAll_refused {h reason : Nat} {s : State} (hh : h < 0x1000000)
    (htest : admissionTest s.active (admissionLimit s) (h :: admittedPartners s) = some reason) :
    admitAll [h] s = raise 0x2204 (le 2 h ++ le 1 reason) ((setStreamState h 1 s).bump 0x2230 0x0C) := by
  have hone : admitOne s h = raise 0x2204 (le 2 h ++ le 1 reason) ((setStreamState h 1 s).bump 0x2230 0x0C) := by simp [admitOne, htest]
  have hnone : admittedOf [h] s = [] := by
    simp [admittedOf, sortNat_single, hone, hh, (KeepsStreams.bump _ _ _ (setStreamState h 1 s)).streamState hh]
  rw [admitAll_eq, hnone, sortNat_single]
  exact hone

/-- A single stream of a collection that is admitted. -/
theorem admitAll_passed {h : Nat} {s : State} (hh : h < 0x1000000)
    (htest : admissionTest s.active (admissionLimit s) (h :: admittedPartners s) = none) :
    admitAll [h] s = sessionBegin h (ringResize (placeStreams [h] (setStreamState h 2 (s.setStream h { Stream.reset with conds := (s.stream h).conds })))) := by
  have hone : admitOne s h = setStreamState h 2 (s.setStream h { Stream.reset with conds := (s.stream h).conds }) := by simp [admitOne, htest]
  have hgood : admittedOf [h] s = [h] := by
    simp [admittedOf, sortNat_single, hone, hh]
  rw [admitAll_eq, hgood, sortNat_single, ← hone]
  simp only [List.foldl, List.isEmpty_cons, Bool.false_eq_true, if_false]

/-- The session of a stream that has been placed begins, and its state stays. -/
theorem sessionBegin_admitted {h : Nat} {w : State} (hh : h < 0x1000000) (hstate : streamState w h = 2) (hclosed : (w.stream h).tcp = false)
    (hmode : sessionMode w h = 1) : streamState (sessionBegin h (ringResize (placeStreams [h] w))) h = 2 ∧
      sessionStep (sessionBegin h (ringResize (placeStreams [h] w))) h = 1 := by
  have hkeeps : KeepsStreams w (ringResize (placeStreams [h] w)) := (KeepsStreams.placeStreams [h] w).trans (KeepsStreams.ringResize _)
  rw [sessionBegin_opens (by rw [sessionMode_of hkeeps.active, hmode]) (by rw [hkeeps.stream, hclosed])]
  refine ⟨?_, by simp⟩
  rw [streamState_emit, ← hstate, ← hkeeps.streamState hh]
  exact ro_setStep hh (by omega) hh (by omega) 1 _

/-- Settles O14. -/
theorem partnerStreamsStartAndStop : Obligations.PartnerStreamsStartAndStop := by
  refine ⟨?enabled, ?disabled, ?stored, ?closed, ?refused, ?passed, ?collecting, ?stopped, ?notStopping, ?dropped, ?adopting, ?tableDropped, ?tableKept⟩
  case enabled =>
    intro t h who s hh hrun hacc hstate
    refine .of (f := runWrite 0x2201 0x01 h (.num 1) who (streamEnable h true)) rfl ?_
    rw [runWrite_accepted hacc, streamEnable_joins (by simpa using hrun) (by simpa using hstate)]
    have hsent := Sends.reportRow (ps := [.port, .draws]) (by simp) (by simp) h ((s.advance t).setLive 0x2201 0x01 h (.num 1))
    have hjoin := joinCollection_joins h (reportRow h ((s.advance t).setLive 0x2201 0x01 h (.num 1)))
    refine ⟨answered_settle .., ?_, by simpa using hjoin.1, by simpa using hjoin.2, ?_⟩
    · have hlive : (reportRow h ((s.advance t).setLive 0x2201 0x01 h (.num 1))).live = ((s.advance t).setLive 0x2201 0x01 h (.num 1)).live :=
        hsent.touches.1 .live (by simp)
      simp [State.rw, joinCollection, hlive, Val.bits]
    · have htouch : Touches [.live, .ingest, .imian, .port, .draws] [(0x1120, 1), (0x1120, 2), (0x2120, 0x12), (0x2111, 0x03)] (s.advance t) _ :=
        Touches.trans (by simp) (hsent.touches.mono (by simp) (by simp))
      simpa [joinCollection] using htouch
  case disabled =>
    intro t h who s hh hrun hacc hstate
    have hsmall := row_of_firstLocal hh
    refine .of (f := runWrite 0x2201 0x01 h (.num 0) who (streamEnable h false)) rfl ?_
    rw [runWrite_accepted hacc, streamEnable_stops (by simpa using hrun) (by simpa using hstate)]
    refine ⟨answered_settle .., ?_, ?_⟩
    · have hlive := congrArg (fun e => e.2.2.1) (enables_streamStopping h
        (((s.advance t).setLive 0x2201 0x01 h (.num 0)).onIngest fun i => { i with collected := i.collected.filter (· != h) }))
      simp only [State.enables] at hlive
      simp [State.rw, hlive, Val.bits]
    · simp only [streamState_settle hsmall, streamState_emit, streamState_account hsmall, streamState_streamStopping hsmall]
      rw [sessionMode_of (s := s) (by simp)]
  case stored =>
    intro t h who on s hrun hacc
    refine .of (f := runWrite 0x2201 0x01 h (.num (b2n on)) who (streamEnable h on)) rfl ?_
    rw [runWrite_accepted hacc, streamEnable_notRunning (by simpa using hrun)]
    exact ⟨answered_settle .., by simp [State.rw, Val.bits], by simp⟩
  case closed =>
    intro t a s hopen hdue
    refine .of (f := collectionClose) rfl ?_
    rw [collectionClose_due (a := a) (by simpa using hopen) (by simpa using hdue)]
    have hends : (if (s.advance t).running then admitAll (candidates (s.advance t)) (endCollection (s.advance t)) else endCollection (s.advance t)).enables =
        (none, [], (s.advance t).live, (s.advance t).shadow) := by
      split
      · rw [enables_admitAll]
        rfl
      · rfl
    simp only [State.enables, Prod.mk.injEq] at hends
    simpa using ⟨hends.1, hends.2.1⟩
  case refused =>
    intro t a h reason s hroom hh hrun hopen hcollected hdue henabled hstate htest
    have hsmall := row_of_firstLocal hh
    refine .of (f := collectionClose) rfl ?_
    rw [collectionClose_due (a := a) (by simpa using hopen) (by simpa using hdue), if_pos (by simpa using hrun), candidates_single hcollected henabled (by omega),
      admitAll_refused (s := endCollection (s.advance t)) (reason := reason) hsmall htest]
    refine ⟨?_, ?_, ?_⟩
    · simp [hsmall, (KeepsStreams.bump _ _ _ (setStreamState h 1 (endCollection (s.advance t)))).streamState hsmall]
    · obtain ⟨c, hc⟩ := setStreamState_refused (s := endCollection (s.advance t)) (h := h) hstate
      rw [hc]
      simp [endCollection, hsmall, show widthOf 0x2230 0x0C = 32 from rfl]
    · obtain ⟨c, hc⟩ := setStreamState_refused (s := endCollection (s.advance t)) (h := h) hstate
      rw [hc]
      refine Posted.settle (FewEvents.posted (n := 1) ?_ hroom (by omega) (by simp [endCollection]) _ _)
      have hfirst := (FewEvents.of_log (s := s) (u := (endCollection (s.advance t)).setRow 0x2203 0x01 h 1) (by simp [endCollection])).raise 0x2201
        (le 2 h ++ le 1 0 ++ le 1 1)
      simpa [FewEvents] using hfirst
  case passed =>
    intro t a h s hh hrun hopen hcollected hdue henabled hstate htest hmode
    have hsmall := row_of_firstLocal hh
    refine .of (f := collectionClose) rfl ?_
    rw [collectionClose_due (a := a) (by simpa using hopen) (by simpa using hdue), if_pos (by simpa using hrun), candidates_single hcollected henabled hstate,
      admitAll_passed (s := endCollection (s.advance t)) hsmall htest]
    have hbegins := sessionBegin_admitted (h := h) (w := setStreamState h 2 ((endCollection (s.advance t)).setStream h
      { Stream.reset with conds := ((endCollection (s.advance t)).stream h).conds })) hsmall (by simp [hsmall]) (by simp [Stream.reset])
      (by rw [sessionMode_of (s := s) (by simp [endCollection]), hmode])
    simpa [hsmall] using hbegins
  case collecting =>
    intro t a s hopen hearly
    exact .unchanged (f := collectionClose) rfl (collectionClose_early (a := a) (by simpa using hopen) (by simpa using hearly))
  case stopped =>
    intro t h s hh hrun hstate
    have hsmall := row_of_firstLocal hh
    refine .of (f := streamStopped h) rfl ?_
    rw [streamStopped_ends (by simpa using hrun) (by simpa using hstate)]
    extract_lets v
    have hv : streamState v h = 0 := streamState_setStreamState hsmall ..
    split
    · simp [hsmall, hv]
    next hpending => exact ⟨by simp [hsmall, hv], fun hp => absurd hp (by simpa [State.fourFlag] using hpending)⟩
  case notStopping =>
    intro t h s hstate
    exact .unchanged (f := streamStopped h) rfl (by simp [streamStopped, hstate])
  case dropped =>
    intro t h s hold hdue
    refine .of (f := adoptionGrace h) rfl ?_
    rw [adoptionGrace_due (by simpa using hold) (by simpa using hdue)]
    simp
  case adopting =>
    intro t h s hearly
    exact .unchanged (f := adoptionGrace h) rfl (adoptionGrace_early (by simpa using hearly))
  case tableDropped =>
    intro t o s hold hslot
    refine .of (f := oldTableEnd) rfl ?_
    rw [show oldTableEnd (s.advance t) = (s.advance t).onIngest fun i => { i with oldTable := none } by
      simp [oldTableEnd, hold, hslot]]
    simp
  case tableKept =>
    intro t o s hold hslot
    exact .unchanged (f := oldTableEnd) rfl (by simp [oldTableEnd, hold, Nat.not_le.mpr hslot])

end Sys2Proof.Machine
end

section
/-! Partner status is coalesced (R175 to R179), and the ingest counters are cleared (R181). -/

namespace Sys2Proof.Machine
open Sys2Proof

@[simp] theorem roBytes_setRow_of_ne {i j r a b c : Nat} (hne : (a, b) ≠ (i, j)) (hj : j < 256) (hr : r < 0x1000000) (hb : b < 256) (hc : c < 0x1000000)
    (s : State) (n : Nat) : (s.setRow i j r n).roBytes a b c = s.roBytes a b c := by
  simp [State.roBytes_def, readIn_writeIn_ne _ (okey_ne hne hj hr hb hc)]
@[simp] theorem roBytes_addTo_of_ne {i j r a b c : Nat} (hne : (a, b) ≠ (i, j)) (hj : j < 256) (hr : r < 0x1000000) (hb : b < 256) (hc : c < 0x1000000)
    (s : State) (n : Nat) : (s.addTo i j n r).roBytes a b c = s.roBytes a b c := roBytes_setRow_of_ne hne hj hr hb hc s _

/-! ### What the end of a window brings up to date -/

/-- What is left as it was where a window that has ended is written: the windows that are open, and of the objects all but the condition counts. -/
structure WindowWork (s u : State) : Prop where
  windows : u.ingest.windows = s.ingest.windows
  bitmapNext : u.ingest.bitmapNext = s.ingest.bitmapNext
  touches : Touches [.ingest, .host] [(0x2241, 1)] s u
  fifo : s.log.fifo <+: u.log.fifo

namespace WindowWork
variable {s u v : State}

theorem refl (s : State) : WindowWork s s := ⟨rfl, rfl, .refl _ _ _, List.prefix_refl _⟩
theorem trans (h : WindowWork s u) (g : WindowWork u v) : WindowWork s v :=
  ⟨g.windows.trans h.windows, g.bitmapNext.trans h.bitmapNext, h.touches.trans g.touches, h.fifo.trans g.fifo⟩

theorem commonSource (s : State) : WindowWork s (commonSource s) := by
  unfold Machine.commonSource
  extract_lets live ids
  refine List.foldlRecOn ids _ (refl s) fun u hu id _ => hu.trans ?_
  dsimp only
  split
  · split
    · exact refl u
    · exact ⟨by simp, by simp, by simp, (by simp : u.log.fifo <+: (u.onIngest fun i => { i with suspected := id :: i.suspected }).log.fifo).trans (fifo_raise ..)⟩
  · exact ⟨by simp, by simp, by simp, by simp⟩

theorem setRow {k : Nat} (hk : k < 0x1000000) (n : Nat) (s : State) : WindowWork s (s.setRow 0x2241 0x01 k n) :=
  ⟨by simp, by simp, by simp [hk], by simp⟩

theorem interrupt (n : Nat) (s : State) : WindowWork s (s.interrupt n) := ⟨by simp, by simp, by simp, by simp⟩

theorem raise (code : Nat) (l : List Byte) (s : State) : WindowWork s (raise code l s) := ⟨by simp, by simp, by simp, fifo_raise ..⟩

end WindowWork

theorem bit_interrupt (n : Nat) (s : State) : bit (s.interrupt n).host.intStatus n = true := by
  unfold State.interrupt
  split
  next h => exact h
  next h =>
    unfold State.signal
    split <;> simp

/-- The counts of streams that hold each condition, and the sources that many of them share. -/
def showConditions (c : Nat) (s : State) : State :=
  let s := (List.range 11).foldl (fun s k => s.setRow 0x2241 0x01 k (condCount s k)) s
  if c = 1 then commonSource s else s

/-- The window goes into the next row of the bitmap table. -/
def writeWindow (c : Nat) (clearing : Bool) (w : StatusWindow) (s : State) : State :=
  (((s.onIngest fun i => { i with windows := i.windows.erase w, bitmapNext := (s.ingest.bitmapNext + 1) % 16 }).setRoBytes 0x2240 0x01
    (streamBits w.streams) s.ingest.bitmapNext).setRow 0x2240 0x02 s.ingest.bitmapNext (c + 128 * b2n clearing)).setRow 0x2240 0x03 s.ingest.bitmapNext w.start

theorem showConditions_work (c : Nat) (s : State) : WindowWork s (showConditions c s) := by
  have hcounts : WindowWork s ((List.range 11).foldl (fun s k => s.setRow 0x2241 0x01 k (condCount s k)) s) :=
    List.foldlRecOn _ _ (.refl s) fun u hu k hk => hu.trans (.setRow (by simp at hk; omega) _ u)
  unfold showConditions
  dsimp only
  split
  · exact hcounts.trans (.commonSource _)
  · exact hcounts

/-- The window's row is written and reported; what follows keeps it. -/
theorem statusWindowEnd_due {c : Nat} {clearing : Bool} {w : StatusWindow} {s : State} (hrun : s.running = true)
    (hfind : s.ingest.windows.find? (fun w => w.cond == c && w.clearing == clearing) = some w) (hdue : w.start + 2 ^ 48 / s.fnom ≤ s.t96) :
    ∃ u, statusWindowEnd c clearing s = u ∧ bit u.host.intStatus 11 = true ∧ WindowWork (raise 0x2210
      (le 1 (c + 128 * b2n clearing) ++ le 2 w.streams.length ++ le 2 (w.streams.headD 0) ++ le 2 (w.streams.getLastD 0) ++ le 1 s.ingest.bitmapNext)
      ((writeWindow c clearing w s).addTo 0x2240 0x04 1)) u := by
  refine ⟨_, ?_, bit_interrupt 11 _, (showConditions_work c _).trans (.interrupt 11 _)⟩
  unfold statusWindowEnd
  rw [hfind]
  exact if_neg (by simpa [hrun] using hdue)

theorem statusWindowEnd_early {c : Nat} {clearing : Bool} {w : StatusWindow} {s : State}
    (hfind : s.ingest.windows.find? (fun w => w.cond == c && w.clearing == clearing) = some w) (hearly : s.t96 < w.start + 2 ^ 48 / s.fnom) :
    statusWindowEnd c clearing s = s := by
  unfold statusWindowEnd
  rw [hfind]
  exact if_pos (by simpa using Or.inl hearly)

/-- Settles O15. -/
theorem partnerStatusIsCoalesced : Obligations.PartnerStatusIsCoalesced := by
  refine ⟨?ended, ?open_, ?cleared⟩
  case ended =>
    intro t c clearing w s hroom hrun hfind hdue hslot
    refine .of (f := statusWindowEnd c clearing) rfl ?_
    have hrow : s.ingest.bitmapNext < 0x1000000 := by omega
    obtain ⟨u, heq, hint, hwork⟩ := statusWindowEnd_due (s := s.advance t) (by simpa using hrun) (by simpa using hfind) (by simpa using hdue)
    simp only [State.advance_frame] at hwork
    rw [heq]
    have hread (j : Nat) (hj : j < 256) : (settle u).ro 0x2240 j s.ingest.bitmapNext =
        ((writeWindow c clearing w (s.advance t)).addTo 0x2240 0x04 1).ro 0x2240 j s.ingest.bitmapNext := by
      rw [ro_settle (by omega) hj hrow, hwork.touches.ro hj hrow (by simp) (by omega), ro_raise (by omega) hj hrow]
    refine ⟨?_, ?_, ?_, ?_, ?_, Posted.settle (Posted.later (Posted.first hroom (by simp [writeWindow]) (by simp [writeWindow]) _ _) hwork.fifo), ?_, ?_⟩
    · simp [hwork.windows, writeWindow]
    · simp [hwork.bitmapNext, writeWindow]
    · rw [roBytes_settle (by omega) (by omega) hrow, hwork.touches.roBytes (by omega) hrow (by simp) (by omega), roBytes_raise (by omega) (by omega) hrow]
      simp [writeWindow, hrow]
    · rw [hread 2 (by omega)]
      simp [writeWindow, hrow]
    · rw [hread 3 (by omega)]
      simp [writeWindow, hrow]
    · simpa using hint
    · have htouch : Touches [.ingest, .host] [(0x2240, 1), (0x2240, 2), (0x2240, 3), (0x2240, 4), (0x2241, 1)] (s.advance t) _ :=
        Touches.trans (by simp [writeWindow, hrow]) (hwork.touches.mono (by simp) (by simp))
      simpa using htouch
  case open_ =>
    intro t c clearing w s hfind hearly
    exact .unchanged (f := statusWindowEnd c clearing) rfl (statusWindowEnd_early (by simpa using hfind) hearly)
  case cleared =>
    intro t who s hacc
    refine .of (f := runPlain 0x2260 0x01 who (ok clearIngest)) rfl (ClearsObjects.answered ?_ ?_ hacc)
    · refine ClearsObjects.trans (.index _ _) (.objects (by decide) _) ?_
      exact fun o ho => ⟨(subsOf_plain (idx := 0x2230) (by decide) (by decide) o ho).1, (subsOf_plain (idx := 0x2230) (by decide) (by decide) o ho).2.1⟩
    · exact plain_append (subsOf_plain (by decide) (by decide)) (by decide)

end Sys2Proof.Machine
end

section
/-! Slots of the grid open in their window (R192 to R197); decisions of a group where none is possible (R199, R200). -/

namespace Sys2Proof.Machine
open Sys2Proof

/-! ### Groups -/

@[simp] theorem State.setGroup_frame (g : Nat) (x : Group) (s : State) :
    (s.setGroup g x).time = s.time ∧ (s.setGroup g x).power = s.power ∧ (s.setGroup g x).duplex = s.duplex ∧ (s.setGroup g x).active = s.active ∧
    (s.setGroup g x).pending = s.pending ∧ (s.setGroup g x).now = s.now ∧ (s.setGroup g x).status = s.status ∧ (s.setGroup g x).log = s.log ∧
    (s.setGroup g x).ingest = s.ingest ∧ (s.setGroup g x).live = s.live ∧ (s.setGroup g x).outs = s.outs := ⟨rfl, rfl, rfl, rfl, rfl, rfl, rfl, rfl, rfl, rfl, rfl⟩
@[simp] theorem group_setGroup (g : Nat) (x : Group) (s : State) : (s.setGroup g x).group g = x := by simp [State.group, State.setGroup]
@[simp] theorem touches_setGroup {ps : List Part} {os : List (Nat × Nat)} {s u : State} (m : Part.groups ∈ ps) (g : Nat) (x : Group) :
    Touches ps os s (u.setGroup g x) ↔ Touches ps os s u := by
  refine Touches.iff_of ⟨fun p hp => ?_, .of_status (.refl _ _) rfl, rfl⟩
  cases p
  case groups => exact absurd m hp
  all_goals rfl
theorem group_of {s u : State} (h : u.groups = s.groups) (g : Nat) : u.group g = s.group g := by simp [State.group, h]
@[simp] theorem group_settle (g : Nat) (s : State) : (settle s).group g = s.group g := group_of (by simp) g
@[simp] theorem group_onIngest (f : IngestSt → IngestSt) (g : Nat) (s : State) : (s.onIngest f).group g = s.group g := group_of (by simp) g

/-! ### Decisions of a group where none is possible -/

/-- A slot is committed, or neither a commit nor a release of it is due. -/
structure Idle (s : State) (sl : Slot) : Prop where
  idle : sl.state = 4 ∨ sl.complete = false ∧ sl.waitOver s.t96 = false ∧ sl.quorumMet = false ∧ sl.waitReleases s.fnom s.t96 = false

theorem Idle.slotDecision {s : State} {sl : Slot} (h : Idle s sl) (x : Group) : slotDecision s x sl = none := by
  obtain ⟨hstate | ⟨hcomplete, hover, hquorum, hreleases⟩⟩ := h
  · simp [Machine.slotDecision, hstate]
  · simp [Machine.slotDecision, hcomplete, hover, hquorum, hreleases]

theorem noteReference_idle {g : Nat} {s : State} (h : ∀ e ∈ (s.group g).slots, Idle s e.2) : noteReference g s = s.setGroup g (s.group g) := by
  unfold noteReference
  dsimp only
  congr 1
  rw [List.map_congr_left (g := id), List.map_id]
  intro e he
  obtain ⟨hstate | ⟨hcomplete, -, hquorum, hreleases⟩⟩ := h e he
  · simp [hstate]
  · simp [hcomplete, hquorum, hreleases]

theorem mem_insertBy {α : Type} (before : α → α → Bool) (x y : α) (l : List α) : y ∈ insertBy before x l ↔ y = x ∨ y ∈ l := by
  induction l with
  | nil => simp [insertBy]
  | cons z l ih =>
    unfold insertBy
    split
    · simp only [List.mem_cons, ih]
      exact or_left_comm
    · simp

theorem mem_sortBy {α : Type} (before : α → α → Bool) (y : α) (l : List α) : y ∈ sortBy before l ↔ y ∈ l := by
  have hfold (acc : List α) : y ∈ l.foldl (fun acc x => insertBy before x acc) acc ↔ y ∈ acc ∨ y ∈ l := by
    induction l generalizing acc with
    | nil => simp
    | cons z l ih =>
      rw [List.foldl_cons, ih, mem_insertBy, List.mem_cons, or_assoc]
      exact or_left_comm
  simpa [sortBy] using hfold []

theorem decideOne_idle {g : Nat} {s : State} (h : ∀ e ∈ (s.group g).slots, Idle s e.2) : decideOne g s = none := by
  unfold decideOne
  dsimp only
  split
  · rfl
  · refine List.findSome?_eq_none_iff.mpr fun e he => ?_
    rw [(h e ((mem_sortBy _ _ _).mp he)).slotDecision]

theorem decideGroup_idle {g : Nat} {s : State} (h : ∀ e ∈ (s.group g).slots, Idle s e.2) : decideGroup g s = s.setGroup g (s.group g) := by
  have hnote := noteReference_idle h
  unfold decideGroup
  split
  · exact hnote
  · unfold decideLoop
    rw [hnote, decideOne_idle (s := s.setGroup g (s.group g)) fun e he => ⟨(h e (by simpa using he)).idle⟩]

/-- Where no decision is possible, taking decisions writes the group back as it is, or leaves them to the last frame of the cycle. -/
theorem takeDecisions_idle {g : Nat} {s : State} (h : ∀ e ∈ (s.group g).slots, Idle s e.2) :
    (takeDecisions g s).group g = s.group g ∧ Touches [.groups, .ingest] [] s (takeDecisions g s) ∧ (takeDecisions g s).outs = s.outs := by
  unfold takeDecisions
  split
  · exact ⟨rfl, .refl _ _ _, rfl⟩
  · split
    · exact ⟨by simp, by simp, by simp⟩
    · rw [decideGroup_idle h]
      exact ⟨by simp, by simp, by simp⟩

theorem takeDecisions_idle_now {g : Nat} {s : State} (h : ∀ e ∈ (s.group g).slots, Idle s e.2) (hframes : framesToCome s = false) :
    (takeDecisions g s).group g = s.group g ∧ Touches [.groups] [] s (takeDecisions g s) := by
  unfold takeDecisions
  rw [hframes, decideGroup_idle h]
  split <;> simp

/-! ### Opening -/

theorem slotOpen_begun {g : Nat} {s : State} (hrun : s.running = true) (hset : s.time.isSet = true) (hrate : (s.group g).rate ≠ 0)
    (hbegun : slotPoint s (s.group g).rate (s.group g).next (-2) ≤ s.t96) : slotOpen g s = takeDecisions g (openSlot g s) := by
  unfold slotOpen
  exact if_neg (by simpa [hrun, hset, hrate] using hbegun)

theorem slotOpen_waits {g : Nat} {s : State} (h : s.running = false ∨ s.time.isSet = false ∨ (s.group g).rate = 0 ∨
    s.t96 < slotPoint s (s.group g).rate (s.group g).next (-2)) : slotOpen g s = s := by
  unfold slotOpen
  exact if_pos (by simpa [or_assoc] using h)

/-- Settles O16: the slot enters the grid, and no decision is possible for it alone. -/
theorem slotsOpenInTheirWindow : Obligations.SlotsOpenInTheirWindow := by
  refine ⟨?opens, ?alone, ?waits⟩
  case opens =>
    intro t g s hrun hset hrate hbegun
    exact .of (f := slotOpen g) rfl (by rw [slotOpen_begun (by simpa using hrun) (by simpa using hset) (by simpa using hrate) (by simpa using hbegun)])
  case alone =>
    intro t g s hg hzero hrun hset hrate hslots hrecall hpack hfollows hframes hbegun hcomplete hquorum hreleases hover
    refine .of (f := slotOpen g) rfl ?_
    rw [slotOpen_begun (by simpa using hrun) (by simpa using hset) (by simpa using hrate) (by simpa using hbegun)]
    have hopened : openSlot g (s.advance t) = (s.advance t).setGroup g { s.group g with
        next := nextSlot (s.advance t) (s.group g).rate (s.group g).next
        slots := [((s.group g).next, newSlot (s.advance t) g (s.group g).next)] } := by
      simp [openSlot, hzero, hslots, putKey]
    have hidle : ∀ e ∈ ((openSlot g (s.advance t)).group g).slots, Idle (openSlot g (s.advance t)) e.2 := by
      simp only [hopened, group_setGroup, List.mem_singleton, forall_eq]
      exact ⟨.inr ⟨hcomplete, hover, hquorum, hreleases⟩⟩
    obtain ⟨hgroup, htouch⟩ := takeDecisions_idle_now hidle (by rw [hopened]; exact hframes)
    rw [group_settle, hgroup, hopened, group_setGroup, ← hopened, touches_settle]
    exact ⟨by simp [Group.slot?, lookup], rfl, Touches.trans (by simp [hopened]) htouch⟩
  case waits =>
    intro t g s hnot
    exact .unchanged (f := slotOpen g) rfl (slotOpen_waits (by simpa using hnot))

end Sys2Proof.Machine
end

section
/-! Suspensions of speculation (R224 to R226). -/

namespace Sys2Proof.Machine
open Sys2Proof

/-! ### The records of the pair -/

namespace Sends
variable {ps : List Part} (m : Part.port ∈ ps) (d : Part.duplex ∈ ps)
include m d

theorem sendMirror (type : Nat) (payload : List Byte) (s : State) : Sends ps s (sendMirror false type payload s) := by
  have hseq : Sends ps s (s.onDuplex fun d => { d with txSeq := (d.txSeq + 1) % 2 ^ 32 }) := ⟨by simp [d], by simp, by simp⟩
  unfold Machine.sendMirror
  extract_lets f s' u
  rw [if_neg (by simp)]
  refine hseq.trans (foldl (fun s p hp => sendPort m ?_ ..) _)
  simp at hp
  omega

theorem decisionRecord (g slot kind cause : Nat) (arrived : List Nat) (s : State) : Sends ps s (decisionRecord g slot kind cause arrived s) := by
  unfold Machine.decisionRecord
  split
  · exact sendMirror m d ..
  · exact refl ps s

end Sends

theorem Touches.group {ps : List Part} {os : List (Nat × Nat)} {s u : State} (h : Touches ps os s u) (m : Part.groups ∉ ps) (g : Nat) :
    u.group g = s.group g := group_of (h.1 .groups m) g

@[simp] theorem group_raise (code : Nat) (l : List Byte) (g : Nat) (s : State) : (raise code l s).group g = s.group g := group_of (by simp) g
@[simp] theorem group_bump (i j r g : Nat) (s : State) : (s.bump i j r).group g = s.group g := group_of (by simp) g
@[simp] theorem ro_setGroup (g : Nat) (x : Group) (i j r : Nat) (s : State) : (s.setGroup g x).ro i j r = s.ro i j r := by simp [State.ro_def]
@[simp] theorem group_decisionRecord (g slot kind cause : Nat) (arrived : List Nat) (s : State) (k : Nat) :
    (decisionRecord g slot kind cause arrived s).group k = s.group k :=
  (Sends.decisionRecord (ps := [.port, .duplex]) (by simp) (by simp) g slot kind cause arrived s).touches.group (by simp) k

/-! ### Groups whose slots are committed -/

/-- Every slot of the group is committed. -/
def AllCommitted (x : Group) : Prop := ∀ e ∈ x.slots, e.2.state = 4

theorem takeDecisions_committed {g : Nat} {s : State} (h : AllCommitted (s.group g)) :
    (takeDecisions g s).group g = s.group g ∧ Touches [.groups, .ingest] [] s (takeDecisions g s) ∧ (takeDecisions g s).outs = s.outs :=
  takeDecisions_idle fun e he => ⟨.inl (h e he)⟩

/-- Speculation resumes: the suspension is over, the recalls counted are gone. -/
theorem resume_committed {g at_ : Nat} {s : State} (cause : Nat) (h : AllCommitted (s.group g)) :
    ((resume g cause at_ s).group g).suspended = none ∧ ((resume g cause at_ s).group g).resumeAt = at_ ∧ ((resume g cause at_ s).group g).recalls = [] := by
  unfold resume
  extract_lets x v
  have hcommitted : AllCommitted ((decisionRecord g 0 4 cause [] (raise 0x2302 (le 1 g ++ le 1 cause) v)).group g) := by
    simp only [AllCommitted, group_decisionRecord, group_raise, v, group_setGroup, List.forall_mem_map]
    intro e he
    split
    · exact h e he
    · exact h e he
  rw [(takeDecisions_committed hcommitted).1]
  simp [v]

/-- The logs of a group are lost, each slot otherwise as it was, and the loss is counted. -/
def loseLogs (g : Nat) (s : State) : State :=
  (s.setGroup g { s.group g with
    recallTarget := none
    slots := (s.group g).slots.map fun e => (e.1, { e.2 with undo := none, state := if e.2.state = 3 then 2 else e.2.state }) }).bump 0x2320 0x0D g

theorem loseLogs_committed {g : Nat} {s : State} (h : AllCommitted (s.group g)) :
    AllCommitted ((loseLogs g s).group g) ∧ (∀ e ∈ ((loseLogs g s).group g).slots, e.2.undo = none) ∧
    ((loseLogs g s).group g).suspended = (s.group g).suspended := by
  simp only [loseLogs, group_bump, group_setGroup, AllCommitted, List.forall_mem_map, and_true]
  exact ⟨fun e he => by simp [h e he], fun _ _ => trivial⟩

theorem checkpointLost_running {g : Nat} {s : State} (hrun : s.running = true) :
    checkpointLost g s = takeDecisions g (if follows (loseLogs g s) || !(loseLogs g s).cfgB 0x2304 0x01 g then loseLogs g s else suspend g 1 10 (loseLogs g s)) := by
  unfold checkpointLost
  rw [if_neg (by simp [hrun])]
  rfl

@[simp] theorem follows_advance (t : Nat) (s : State) : follows (s.advance t) = follows s := rfl
theorem follows_loseLogs {g : Nat} (hg : g < 0x1000000) (s : State) : follows (loseLogs g s) = follows s := by
  simp [follows, roleNow, pairStateNow, loseLogs, hg]

theorem count_loseLogs (g : Nat) (s : State) : (loseLogs g s).ro 0x2320 0x0D g = (s.ro 0x2320 0x0D g + 1) % 2 ^ 32 := by
  simp [loseLogs, show widthOf 0x2320 0x0D = 32 from rfl]

theorem cfgB_loseLogs (g i j r : Nat) (s : State) : (loseLogs g s).cfgB i j r = s.cfgB i j r := by
  simp [loseLogs, State.cfgB, State.cfg]

theorem suspensionOver_due {g c b e : Nat} {s : State} (hfollows : follows s = false) (hsuspended : (s.group g).suspended = some (c, b, e))
    (hdue : e ≤ s.t96) : suspensionOver g s = resume g 0 e s := by
  simp [suspensionOver, hsuspended, hfollows, hdue]

theorem suspensionOver_early {g c b e : Nat} {s : State} (hsuspended : (s.group g).suspended = some (c, b, e)) (hearly : s.t96 < e) :
    suspensionOver g s = s := by
  simp [suspensionOver, hsuspended, Nat.not_le.mpr hearly]

theorem resumeCommand_suspended {g : Nat} {s : State} (hfollows : follows s = false) (hsuspended : (s.group g).suspended.isSome = true) :
    resumeCommand g s = (resume g 1 s.t96 s, 0) := by
  simp [resumeCommand, hsuspended, hfollows]

/-- A suspension with another cause than the recall budget: what else the group holds stays, and no counter differs. -/
theorem suspend_reads {g cause : Nat} (hcause : cause ≠ 0) (seconds : Nat) (s : State) :
    (suspend g cause seconds s).group g = { s.group g with suspended := some (cause, s.t96, s.t96 + seconds * 2 ^ 48) } ∧
    ∀ j r, j < 256 → r < 0x1000000 → (suspend g cause seconds s).ro 0x2320 j r = s.ro 0x2320 j r := by
  unfold suspend
  dsimp only
  rw [if_neg hcause]
  refine ⟨by simp, fun j r hj hr => ?_⟩
  rw [(Sends.decisionRecord (ps := [.port, .duplex]) (by simp) (by simp) _ _ _ _ _ _).touches.ro hj hr (by simp) (by omega)]
  simp [hj, hr]

/-- What a checkpoint error leaves, with the suspension given. -/
theorem checkpointLost_reads {g : Nat} {v s : State} (hg : g < 64) (hcommitted : AllCommitted (v.group g)) (hlogs : ∀ e ∈ (v.group g).slots, e.2.undo = none)
    (hcount : v.ro 0x2320 0x0D g = (s.ro 0x2320 0x0D g + 1) % 2 ^ 32) :
    ((settle (takeDecisions g v)).group g).suspended = (v.group g).suspended ∧ (∀ e ∈ ((settle (takeDecisions g v)).group g).slots, e.2.undo = none) ∧
    (settle (takeDecisions g v)).ro 0x2320 0x0D g = (s.ro 0x2320 0x0D g + 1) % 2 ^ 32 := by
  have hrow : g < 0x1000000 := by omega
  obtain ⟨hgroup, htouch, -⟩ := takeDecisions_committed hcommitted
  rw [group_settle, hgroup, ro_settle (by omega) (by omega) hrow, htouch.ro (by omega) hrow (by simp) (by omega)]
  exact ⟨rfl, hlogs, hcount⟩

/-- Settles O18. -/
theorem speculationIsSuspendedAndResumed : Obligations.SpeculationIsSuspendedAndResumed := by
  refine ⟨?expires, ?early, ?resumed, ?none, ?lost, ?lostOff, ?notRunning, ?cleared⟩
  case expires =>
    intro t g c b e s hg hfollows hcommitted hsuspended hdue
    refine .of (f := suspensionOver g) rfl ?_
    rw [suspensionOver_due (by simpa using hfollows) (by simpa using hsuspended) hdue, group_settle]
    exact resume_committed 0 (by rw [group_advance]; exact hcommitted)
  case early =>
    intro t g c b e s hsuspended hearly
    exact .unchanged (f := suspensionOver g) rfl (suspensionOver_early (by simpa using hsuspended) hearly)
  case resumed =>
    intro t g who s hg hacc hfollows hcommitted hsuspended
    refine .of (f := runCommand 0x2330 0x02 g (.num 0) who (resumeCommand g)) rfl ?_
    rw [runCommand_accepted hacc, resumeCommand_suspended (by simpa using hfollows) (by simpa using hsuspended)]
    obtain ⟨hends, hat, -⟩ := resume_committed (g := g) (at_ := (s.advance t).t96) (s := s.advance t) 1 (by rw [group_advance]; exact hcommitted)
    have hgroup (w : State) : ((settle ((account who 0 w).emit (.status who 0))).group g) = w.group g := by
      rw [group_settle]
      exact group_of (by simp) g
    exact ⟨answered_settle .., by rw [hgroup, hends], by rw [hgroup, hat]⟩
  case none =>
    intro t g who s hacc hsuspended
    refine .of (f := runCommand 0x2330 0x02 g (.num 0) who (resumeCommand g)) rfl ?_
    rw [runCommand_accepted hacc, show resumeCommand g (s.advance t) = (s.advance t, 0x06) by simp [resumeCommand, hsuspended]]
    exact ⟨answered_settle .., by simp⟩
  case lost =>
    intro t g s hg hrun hfollows hspeculates hcommitted
    refine .of (f := checkpointLost g) rfl ?_
    have hrow : g < 0x1000000 := by omega
    obtain ⟨hstates, hlogs, -⟩ := loseLogs_committed (g := g) (s := s.advance t) (by rw [group_advance]; exact hcommitted)
    obtain ⟨hgroup, hro⟩ := suspend_reads (g := g) (cause := 1) (by omega) 10 (loseLogs g (s.advance t))
    rw [checkpointLost_running (by simpa using hrun), if_neg (by rw [follows_loseLogs hrow, cfgB_loseLogs]; simpa [hfollows, State.cfgB] using hspeculates)]
    have hreads := checkpointLost_reads (v := suspend g 1 10 (loseLogs g (s.advance t))) (s := s) hg (by rw [hgroup]; exact hstates) (by rw [hgroup]; exact hlogs)
      (by rw [hro _ _ (by omega) hrow, count_loseLogs]; simp)
    rwa [hgroup] at hreads
  case lostOff =>
    intro t g s hg hrun hfollows hspeculates hcommitted
    refine .of (f := checkpointLost g) rfl ?_
    have hrow : g < 0x1000000 := by omega
    obtain ⟨hstates, hlogs, hsame⟩ := loseLogs_committed (g := g) (s := s.advance t) (by rw [group_advance]; exact hcommitted)
    rw [checkpointLost_running (by simpa using hrun), if_pos (by rw [follows_loseLogs hrow, cfgB_loseLogs]; simpa [hfollows, State.cfgB] using hspeculates)]
    have hreads := checkpointLost_reads (v := loseLogs g (s.advance t)) (s := s) hg hstates hlogs (by rw [count_loseLogs]; simp)
    rwa [hsame, group_advance] at hreads
  case notRunning =>
    intro t g s hrun
    exact .unchanged (f := checkpointLost g) rfl (by simp [checkpointLost, hrun])
  case cleared =>
    intro t who s hacc
    refine .of (f := runPlain 0x2330 0x01 who (ok clearAlignment)) rfl (ClearsObjects.answered ?_ ?_ hacc)
    · refine (ClearsObjects.trans (.objects (l := [(0x2311, 4), (0x2311, 5), (0x2321, 1)]) (by decide) _) (.index 0x2320 _) (by decide)).of_mem fun o => ?_
      rw [List.mem_append, List.mem_append]
      exact Or.comm
    · exact plain_append (subsOf_plain (by decide) (by decide)) (by decide)

end Sys2Proof.Machine
end

section
/-! Placement: numbers of streams that no row has (R246 to R253). -/

namespace Sys2Proof.Machine
open Sys2Proof

/-- A state with T96 set, in which a stream numbered 2^24, whose row of 0x2411:01 stands where row 0 of 0x2411:02 does, migrates to slice 5. -/
def strayMigration : State :=
  { State.reset with
    time := { TimeSt.reset with isSet := true, t96x := 2 ^ 93 }
    place := { PlaceSt.reset with migrations := [(2 ^ 24, ⟨3, 5, 2, 0, true, true, 0⟩)] } }

/-- Refutes O19: MIGRATION_CUTOVER bounds no stream number, and the slice shown for stream 2^24 lands in row 0 of 0x2411:02. -/
theorem not_migrationsRunFromLoadToCutover : ¬ Obligations.MigrationsRunFromLoadToCutover := by
  intro h
  obtain ⟨-, -, -, -, -, hcutover, -⟩ := h
  obtain ⟨u, hu, -, hkept, -⟩ := hcutover 0 (2 ^ 24) ⟨3, 5, 2, 0, true, true, 0⟩ strayMigration (by decide) rfl rfl (by decide +kernel) rfl rfl
  obtain rfl : settle (cutover (2 ^ 24) (strayMigration.advance 0)) = u := Host.Outcome.next.inj hu
  have hsame := congrArg Val.bits (hkept 0x2411 0x02 0 (by decide) (by decide) (by decide) (by decide) (by decide))
  exact absurd hsame (by decide +kernel)

/-- A state in RUN in which slice 3 holds a stream numbered 2^24. -/
def strayPlaced : State :=
  { State.reset with power := { PowerSt.reset with state := stRun }, place := { PlaceSt.reset with placed := [(2 ^ 24, 3)] } }

/-- Refutes O20: SLICE_FAULT shows the new slice of every stream placed, and that of stream 2^24 lands in row 0 of 0x2411:02. -/
theorem not_failedSlicesAreReplaced : ¬ Obligations.FailedSlicesAreReplaced := by
  intro h
  obtain ⟨hfault, -⟩ := h
  obtain ⟨u, hu, -, -, -, -, -, -, hkept, -⟩ := hfault 0 3 64 1 strayPlaced (by decide) (by decide) (by decide) (by decide) (by decide +kernel)
    (by decide +kernel) (by decide +kernel) rfl rfl rfl
  obtain rfl : settle (redispatch (sliceFault 3 1 (strayPlaced.advance 0))) = u := Host.Outcome.next.inj hu
  have hsame := congrArg Val.bits (hkept 0x2411 0x02 0 (by decide) (by decide) (by decide) (by decide) (by decide))
  exact absurd hsame (by decide +kernel)

end Sys2Proof.Machine
end

section
/-! Alarm pins: when a rule-owned pin is energised (R356 to R359). -/

namespace Sys2Proof.Machine
open Sys2Proof

section pins
variable {ps : List Part} {os : List (Nat × Nat)} {s u : State} {p q : Nat}

@[simp] theorem pin_setPin (s : State) (p : Nat) (x : Pin) : (s.setPin p x).pin p = x := by simp [State.pin, State.setPin]

theorem pin_setPin_ne (h : p ≠ q) (s : State) (x : Pin) : (s.setPin q x).pin p = s.pin p := by
  simp [State.pin, State.setPin, tabGet_putKey_ne h]

theorem pin_of (h : u.alarm = s.alarm) (p : Nat) : u.pin p = s.pin p := by simp [State.pin, h]

/-- The cause follows from the alarms, the pin's own record, the active set, the device state and the instant. -/
theorem pinCause_of (halarms : u.alarm.alarms = s.alarm.alarms) (hbeat : u.alarm.beatLost = s.alarm.beatLost)
    (hevaluated : u.alarm.evaluated = s.alarm.evaluated) (hpin : u.pin p = s.pin p) (hset : u.active = s.active) (hpower : u.power = s.power)
    (hnow : u.now = s.now) : pinCause u p = pinCause s p := by
  simp [pinCause, ruleRows, State.alarmOf, State.cfg, State.cfgB, State.running, State.dev, halarms, hbeat, hevaluated, hpin, hset, hpower, hnow]

theorem pinCause_lost (hrun : s.running = true) (hlost : s.alarm.beatLost = true) (p : Nat) : pinCause s p = 4 := by simp [pinCause, hrun, hlost]

theorem pinCause_beating (hbeat : s.alarm.beatLost = false) (p : Nat) : pinCause s p ≠ 4 := by
  unfold pinCause
  extract_lets mine x testing
  simp only [hbeat]
  repeat' split
  all_goals simp_all

theorem pinCause_tested (hrun : s.running = true) (hbeat : s.alarm.beatLost = false) {e : Nat} (htest : (s.pin p).testUntil = some e) (he : s.now < e) :
    pinCause s p = 6 := by simp [pinCause, hrun, hbeat, htest, he]

theorem pinCause_untested (htest : (s.pin p).testUntil = none) : pinCause s p ≠ 6 := by
  unfold pinCause
  extract_lets mine x testing
  have : testing = false := by simp [testing, x, htest]
  simp only [this]
  repeat' split
  all_goals simp_all

/-! ### Bringing pins up to date -/

/-- A rule-owned pin shows its cause, and is energised when it has none; its own record may begin a minimum alarm time. -/
theorem updatePin_owned (hown : s.cfg 0x2700 0x01 p = 0) :
    ∃ x v, x.testUntil = (s.pin p).testUntil ∧ (v = s ∨ v = s.setPin p x) ∧
      updatePin p s = (v.setRow 0x2711 0x01 p (b2n (pinCause s p == 0))).setRow 0x2711 0x02 p (pinCause s p) := by
  unfold updatePin
  rw [if_neg (by simpa using hown)]
  extract_lets c x v
  refine ⟨{ minUntil := s.now + ms (s.cfg 0x2700 0x02), testUntil := (s.pin p).testUntil }, v, rfl, ?_, rfl⟩
  unfold v
  split
  · exact .inr rfl
  · exact .inl rfl

theorem updatePin_foreign (hown : s.cfg 0x2700 0x01 p ≠ 0) : updatePin p s = s := by simp [updatePin, hown]

/-- What bringing pins up to date leaves. -/
structure PinsOnly (s u : State) : Prop where
  touches : Touches [.alarm] [(0x2711, 1), (0x2711, 2)] s u
  beats : u.alarm.lastBeat = s.alarm.lastBeat ∧ u.alarm.beatLost = s.alarm.beatLost
  judged : u.alarm.alarms = s.alarm.alarms ∧ u.alarm.evaluated = s.alarm.evaluated ∧ u.alarm.committed = s.alarm.committed
  tested : ∀ q, (u.pin q).testUntil = (s.pin q).testUntil
  log : u.log = s.log
  power : u.power = s.power
  outs : u.outs = s.outs

theorem PinsOnly.refl (s : State) : PinsOnly s s := ⟨.refl _ _ _, ⟨rfl, rfl⟩, ⟨rfl, rfl, rfl⟩, fun _ => rfl, rfl, rfl, rfl⟩

theorem PinsOnly.trans {v : State} (h : PinsOnly s u) (g : PinsOnly u v) : PinsOnly s v :=
  ⟨h.touches.trans g.touches, ⟨g.beats.1.trans h.beats.1, g.beats.2.trans h.beats.2⟩,
    ⟨g.judged.1.trans h.judged.1, g.judged.2.1.trans h.judged.2.1, g.judged.2.2.trans h.judged.2.2⟩,
    fun q => (g.tested q).trans (h.tested q), g.log.trans h.log, g.power.trans h.power, g.outs.trans h.outs⟩

theorem PinsOnly.setPin {x : Pin} (hx : x.testUntil = (s.pin p).testUntil) : PinsOnly s (s.setPin p x) := by
  refine ⟨by simp [State.setPin], ⟨rfl, rfl⟩, ⟨rfl, rfl, rfl⟩, fun q => ?_, rfl, rfl, rfl⟩
  by_cases hq : q = p
  · rw [hq, pin_setPin, hx]
  · rw [pin_setPin_ne hq]

theorem PinsOnly.setRow {j : Nat} (hj : j = 1 ∨ j = 2) (hp : p < 8) (n : Nat) (s : State) : PinsOnly s (s.setRow 0x2711 j p n) := by
  refine ⟨?_, by simp, by simp, fun q => by rw [pin_of (s := s) (by simp)], by simp, by simp, by simp⟩
  obtain rfl | rfl := hj <;> simp [show p < 0x1000000 by omega]

theorem updatePin_only (hp : p < 8) (s : State) : PinsOnly s (updatePin p s) := by
  by_cases hown : s.cfg 0x2700 0x01 p = 0
  · obtain ⟨x, v, hx, hv, h⟩ := updatePin_owned hown
    rw [h]
    refine .trans ?_ ((PinsOnly.setRow (.inl rfl) hp _ v).trans (.setRow (.inr rfl) hp _ _))
    obtain rfl | rfl := hv
    · exact .refl _
    · exact .setPin hx
  · rw [updatePin_foreign hown]
    exact .refl s

theorem updatePin_pin_ne (h : p ≠ q) (s : State) : (updatePin q s).pin p = s.pin p := by
  by_cases hown : s.cfg 0x2700 0x01 q = 0
  · obtain ⟨x, v, -, hv, h⟩ := updatePin_owned hown
    rw [h, pin_of (u := (v.setRow _ _ _ _).setRow _ _ _ _) (s := v) (by simp)]
    obtain rfl | rfl := hv
    · rfl
    · exact pin_setPin_ne ‹_› s x
  · rw [updatePin_foreign hown]

/-- Another pin's rows stay. -/
theorem updatePin_ro_ne (h : p ≠ q) (hp : p < 8) (hq : q < 8) {j : Nat} (s : State) : (updatePin q s).ro 0x2711 j p = s.ro 0x2711 j p := by
  by_cases hown : s.cfg 0x2700 0x01 q = 0
  · obtain ⟨x, v, -, hv, hupdate⟩ := updatePin_owned hown
    have hv : v.ro 0x2711 j p = s.ro 0x2711 j p := by
      obtain rfl | rfl := hv
      · rfl
      · simp [State.setPin, State.ro_def]
    have hkey {i : Nat} (hi : i < 256) : okey 0x2711 j p ≠ okey 0x2711 i q := by
      unfold okey
      omega
    rw [hupdate, ro_setRow_ne _ (hkey (by omega)), ro_setRow_ne _ (hkey (by omega)), hv]
  · rw [updatePin_foreign hown]

/-- What a rule-owned pin shows is the cause c, and it is energised exactly where there is none. -/
def PinShows (p c : Nat) (s : State) : Prop := s.ro 0x2711 0x02 p = c ∧ s.ro 0x2711 0x01 p = b2n (c == 0)

theorem PinShows.energised {c : Nat} (h : PinShows p c s) : s.ro 0x2711 0x01 p = 1 ↔ s.ro 0x2711 0x02 p = 0 := by
  obtain ⟨hcause, hlevel⟩ := h
  rw [hcause, hlevel]
  by_cases hc : c = 0 <;> simp [hc, b2n]

theorem updatePin_shows (hown : s.cfg 0x2700 0x01 p = 0) (hp : p < 8) : PinShows p (pinCause s p) (updatePin p s) := by
  obtain ⟨x, v, -, -, h⟩ := updatePin_owned hown
  rw [h]
  exact ⟨by simp, by simp [show p < 0x1000000 by omega]⟩

theorem PinsOnly.foldl {l : List Nat} (hl : ∀ q ∈ l, q < 8) (s : State) : PinsOnly s (l.foldl (fun s q => updatePin q s) s) :=
  List.foldlRecOn l _ (.refl s) fun _ h q hq => h.trans (updatePin_only (hl q hq) _)

theorem foldl_updatePin_ne {l : List Nat} (hl : ∀ q ∈ l, q < 8) (hp : p < 8) (hmem : p ∉ l) {j : Nat} (s : State) :
    (l.foldl (fun s q => updatePin q s) s).ro 0x2711 j p = s.ro 0x2711 j p :=
  List.foldlRecOn (motive := fun u => u.ro 0x2711 j p = s.ro 0x2711 j p) l _ rfl fun u h q hq =>
    (updatePin_ro_ne (ne_of_mem_of_not_mem hq hmem).symm hp (hl q hq) u).trans h

theorem foldl_updatePin_shows {l : List Nat} (hl : ∀ q ∈ l, q < 8) (hnodup : l.Nodup) (hp : p ∈ l) (hown : s.cfg 0x2700 0x01 p = 0) :
    PinShows p (pinCause s p) (l.foldl (fun s q => updatePin q s) s) := by
  induction l generalizing s with
  | nil => simp at hp
  | cons q l ih =>
    rw [List.foldl_cons]
    have htail : ∀ q ∈ l, q < 8 := fun k hk => hl k (by simp [hk])
    have hp8 : p < 8 := hl p hp
    rw [List.nodup_cons] at hnodup
    by_cases hq : p = q
    · subst hq
      obtain ⟨hcause, hlevel⟩ := updatePin_shows hown hp8
      exact ⟨by rw [foldl_updatePin_ne htail hp8 hnodup.1, hcause], by rw [foldl_updatePin_ne htail hp8 hnodup.1, hlevel]⟩
    · have hq8 : q < 8 := hl q (by simp)
      have honly := updatePin_only hq8 s
      rw [← pinCause_of honly.judged.1 honly.beats.2 honly.judged.2.1 (updatePin_pin_ne hq s) (honly.touches.1 .active (by simp)) honly.power honly.touches.2.2]
      exact ih htail hnodup.2 (by simpa [hq] using hp) ((honly.touches.cfg (by simp) ..).trans hown)

theorem updatePins_only (s : State) : PinsOnly s (updatePins s) := .foldl (by simp) s

theorem updatePins_shows (hp : p < 8) (hown : s.cfg 0x2700 0x01 p = 0) : PinShows p (pinCause s p) (updatePins s) :=
  foldl_updatePin_shows (by simp) List.nodup_range (by simpa using hp) hown

@[simp] theorem touches_updatePins (m : Part.alarm ∈ ps) (h1 : (0x2711, 1) ∈ os) (h2 : (0x2711, 2) ∈ os) :
    Touches ps os s (updatePins u) ↔ Touches ps os s u :=
  ((updatePins_only u).touches.mono (by simpa using m) (by simp [h1, h2])).iff_of

@[simp] theorem touches_updatePin (hp : p < 8) (m : Part.alarm ∈ ps) (h1 : (0x2711, 1) ∈ os) (h2 : (0x2711, 2) ∈ os) :
    Touches ps os s (updatePin p u) ↔ Touches ps os s u :=
  ((updatePin_only hp u).touches.mono (by simpa using m) (by simp [h1, h2])).iff_of

@[simp] theorem updatePins_frame (s : State) :
    (updatePins s).alarm.lastBeat = s.alarm.lastBeat ∧ (updatePins s).alarm.beatLost = s.alarm.beatLost ∧ (updatePins s).log = s.log ∧
    (updatePins s).power = s.power ∧ (∀ q, ((updatePins s).pin q).testUntil = (s.pin q).testUntil) ∧
    (∀ a b c, a ≠ 0x2711 → a ≠ 0x2E20 → b < 256 → c < 0x1000000 → (updatePins s).ro a b c = s.ro a b c) := by
  obtain ⟨htouches, ⟨hlast, hlost⟩, -, htested, hlog, hpower, -⟩ := updatePins_only s
  exact ⟨hlast, hlost, hlog, hpower, htested, fun a b c ha he hb hc => htouches.ro hb hc (by simp [ha]) he⟩

theorem Posted.updatePins {code : Nat} {l : List Byte} (h : Posted code l s u) : Posted code l s (updatePins u) := .later h (by simp)

/-! ### Heartbeats and tests -/

theorem heartbeat_running (hrun : s.running = true) :
    heartbeat s = updatePins (s.onAlarm fun a => { a with lastBeat := s.now, beatLost := false }) := by simp [heartbeat, hrun]

/-- The pins owned by rules that are energised, as bits (R358). -/
def energisedPins (s : State) : Nat :=
  (List.range 8).foldl (fun (n p : Nat) => if s.cfg 0x2700 0x01 p = 0 ∧ s.ro 0x2711 0x01 p = 1 then n + 2 ^ p else n) 0

@[simp] theorem energisedPins_advance (t : Nat) (s : State) : energisedPins (s.advance t) = energisedPins s := by simp [energisedPins]

theorem heartbeatLoss_due (hrun : s.running = true) (hbeat : s.alarm.beatLost = false) (hdue : s.alarm.lastBeat + ms 1 ≤ s.now) :
    heartbeatLoss s = updatePins (raise 0x2707 (le 1 (energisedPins s)) ((s.onAlarm fun a => { a with beatLost := true }).bump 0x2720 0x0D)) := by simp [heartbeatLoss, energisedPins, hrun, hbeat, hdue]

theorem heartbeatLoss_not (h : s.running = false ∨ s.alarm.beatLost = true ∨ s.now < s.alarm.lastBeat + ms 1) : heartbeatLoss s = s := by
  unfold heartbeatLoss
  rw [if_neg]
  simp only [Bool.and_eq_true, Bool.not_eq_true', decide_eq_true_eq]
  rintro ⟨⟨hrun, hbeat⟩, hdue⟩
  obtain hrun' | hbeat' | hearly := h
  · simp [hrun] at hrun'
  · simp [hbeat] at hbeat'
  · omega

theorem startPinTest_refused (h : s.running = false ∨ s.cfg 0x2700 0x01 p ≠ 0) : startPinTest p s = (s, 0x06) := by
  unfold startPinTest
  rw [if_pos (by simpa using h)]

theorem startPinTest_started (hrun : s.running = true) (hown : s.cfg 0x2700 0x01 p = 0) :
    startPinTest p s = (raise 0x2708 (le 1 p) (updatePin p (s.setPin p { s.pin p with testUntil := some (s.now + sec 1) })), 0) := by
  simp [startPinTest, hrun, hown]

theorem endPinTest_due {e : Nat} (htest : (s.pin p).testUntil = some e) (he : e ≤ s.now) :
    endPinTest p s = updatePin p (s.setPin p { s.pin p with testUntil := none }) := by simp [endPinTest, htest, he]

theorem endPinTest_not (h : (s.pin p).testUntil = none ∨ s.now < (s.pin p).testUntil.getD 0) : endPinTest p s = s := by
  unfold endPinTest
  split
  · rw [if_neg]
    obtain h | h := h <;> simp_all
  · rfl

/-- Rows of the pins are read past the events that leave. -/
theorem PinShows.settle {c : Nat} (hp : p < 8) (h : PinShows p c s) : PinShows p c (settle s) := by
  obtain ⟨hcause, hlevel⟩ := h
  exact ⟨by rw [ro_settle (by omega) (by omega) (by omega), hcause], by rw [ro_settle (by omega) (by omega) (by omega), hlevel]⟩

theorem PinShows.answered {c : Nat} (hp : p < 8) (h : PinShows p c s) (who : Who) (code : Nat) (o : Out) :
    PinShows p c (Machine.settle ((account who code s).emit o)) := by
  refine .settle hp ?_
  obtain ⟨hcause, hlevel⟩ := h
  exact ⟨by simp [hcause, show p < 0x1000000 by omega], by simp [hlevel, show p < 0x1000000 by omega]⟩

theorem PinShows.raise {c : Nat} (hp : p < 8) (h : PinShows p c s) (code : Nat) (l : List Byte) : PinShows p c (raise code l s) := by
  obtain ⟨hcause, hlevel⟩ := h
  exact ⟨by rw [ro_raise (by omega) (by omega) (by omega), hcause], by rw [ro_raise (by omega) (by omega) (by omega), hlevel]⟩

end pins

/-- Settles O24. -/
theorem ruleOwnedPinsFailSafe : Obligations.RuleOwnedPinsFailSafe := by
  refine ⟨?beat, ?beatOff, ?loss, ?lossNot, ?expiry, ?expiryForeign, ?test, ?testRefused, ?testEnd, ?testEndNot⟩
  case beat =>
    intro t s hrun
    refine .of (f := heartbeat) rfl ?_
    rw [heartbeat_running (by simpa using hrun)]
    refine ⟨by simp, by simp, fun p hp hown => ?_, by simp⟩
    have hp8 : p < 8 := by simpa using hp
    have hshows := (updatePins_shows (s := (s.advance t).onAlarm fun a => { a with lastBeat := (s.advance t).now, beatLost := false }) hp8
      (by simpa using hown)).settle hp8
    exact ⟨hshows.1 ▸ pinCause_beating rfl p, hshows.energised⟩
  case beatOff =>
    intro t s hrun
    exact .unchanged (f := heartbeat) rfl (by simp [heartbeat, hrun])
  case loss =>
    intro t s hroom hrun hbeat hdue
    refine .of (f := heartbeatLoss) rfl ?_
    rw [heartbeatLoss_due (by simpa using hrun) (by simpa using hbeat) (by simpa using hdue), energisedPins_advance]
    refine ⟨fun p hp hown => ?_, by simp, ?_, ?_, by simp⟩
    · have hp8 : p < 8 := by simpa using hp
      generalize hv : raise 0x2707 _ _ = v
      have hshows := (updatePins_shows (s := v) hp8 (by simpa [← hv] using hown)).settle hp8
      rw [pinCause_lost (by simpa [← hv] using hrun) (by simp [← hv])] at hshows
      exact ⟨hshows.2, hshows.1⟩
    · simp
      rfl
    · have hposted : Posted 0x2707 (le 1 (energisedPins s)) s (raise 0x2707 (le 1 (energisedPins s))
          (((s.advance t).onAlarm fun a => { a with beatLost := true }).bump 0x2720 0x0D)) := .first hroom (by simp) (by simp) _ _
      exact hposted.updatePins.settle
  case lossNot =>
    intro t s h
    exact .unchanged (f := heartbeatLoss) rfl (heartbeatLoss_not (by simpa using h))
  case expiry =>
    intro t p s hp hown
    refine .of (f := fun s => if p < 8 then updatePin p s else s) rfl ?_
    simp only [hp, if_true]
    have hshows := (updatePin_shows (s := s.advance t) (by simpa using hown) hp).settle hp
    exact ⟨hshows.1, hshows.energised, by simpa using (updatePin_only hp (s.advance t)).touches⟩
  case expiryForeign =>
    intro t p s h
    refine .unchanged (f := fun s => if p < 8 then updatePin p s else s) rfl ?_
    by_cases hp : p < 8
    · rw [if_pos hp, updatePin_foreign (by simpa [show ¬ 8 ≤ p by omega] using h)]
    · rw [if_neg hp]
  case test =>
    intro t p who s hroom hacc hrun hp hown hbeat
    refine .of (f := runCommand 0x2730 0x03 p (.num 0) who (startPinTest p)) rfl ?_
    rw [runCommand_accepted hacc, startPinTest_started (by simpa using hrun) (by simpa using hown)]
    generalize hv : (s.advance t).setPin p _ = v
    have hvPin : v.pin p = { (s.advance t).pin p with testUntil := some ((s.advance t).now + sec 1) } := by simp [← hv]
    obtain ⟨-, -, -, htested, hlog, hpower, -⟩ := updatePin_only hp v
    have hcause : pinCause v p = 6 := by
      refine pinCause_tested (e := (s.advance t).now + sec 1) (by simpa [← hv, State.setPin] using hrun) (by simpa [← hv, State.setPin] using hbeat) (by rw [hvPin]) ?_
      simp [← hv, State.setPin, sec]
    have hshows : PinShows p 6 (settle ((account who 0 (raise 0x2708 (le 1 p) (updatePin p v))).emit (.status who 0))) :=
      (((hcause ▸ updatePin_shows (by simpa [← hv, State.setPin] using hown) hp).raise hp _ _).answered hp who 0 _)
    refine ⟨answered_settle .., hshows.2, hshows.1, ?_, ?_, by simp [← hv, hp, State.setPin]⟩
    · rw [pin_of (s := updatePin p v) (by simp), htested, hvPin]
      simp
    · exact (Posted.first hroom (hlog.trans (by simp [← hv, State.setPin])) (hpower.trans (by simp [← hv, State.setPin])) _ _).answered who 0 _
  case testRefused =>
    intro t p who s hacc h
    refine .of (f := runCommand 0x2730 0x03 p (.num 0) who (startPinTest p)) rfl ?_
    rw [runCommand_accepted hacc, startPinTest_refused (by simpa using h)]
    exact ⟨answered_settle .., by simp⟩
  case testEnd =>
    intro t p e s hp hown htest he
    refine .of (f := endPinTest p) rfl ?_
    rw [endPinTest_due (e := e) (by rw [pin_of (s := s) (by simp)]; exact htest) (by simpa using he)]
    generalize hv : (s.advance t).setPin p _ = v
    have hvPin : v.pin p = { (s.advance t).pin p with testUntil := none } := by simp [← hv]
    obtain ⟨-, -, -, htested, -, -, -⟩ := updatePin_only hp v
    have hshows := (updatePin_shows (s := v) (by simpa [← hv, State.setPin] using hown) hp).settle hp
    refine ⟨by rw [pin_of (s := updatePin p v) (by simp), htested, hvPin], hshows.1 ▸ pinCause_untested (by rw [hvPin]), hshows.energised,
      by simp [← hv, hp, State.setPin]⟩
  case testEndNot =>
    intro t p s h
    exact .unchanged (f := endPinTest p) rfl (endPinTest_not (by rw [pin_of (s := s) (by simp)]; simpa using h))

end Sys2Proof.Machine
end

section
/-! Alarm frames: a number of a port that no port has (R364). -/

namespace Sys2Proof.Machine
open Sys2Proof

/-- The row of 0x2111:03 that stands where 0x2720:05 does. -/
def strayPair : Nat := (0x2720 * 256 + 0x05 - (0x2111 * 256 + 0x03)) * 0x1000000 + noRow

/-- A state in RUN with one pending alarm entry and a token at the unit of the pair `strayPair`, which has sent seven frames and is not DOWN. -/
def strayUnit : State :=
  { State.reset with
    power := { PowerSt.reset with state := stRun }
    port := { PortSt.reset with pairState := [(strayPair, 0)], txSeq := [(strayPair, 7)] }
    alarm := { AlarmSt.reset with buckets := [(strayPair + 8, ⟨1, 0, [(0, ⟨[], 2, 0, 0, 0⟩)], false, 0, 0⟩)] } }

/-- Refutes O25: TOKEN_REFILL bounds no port number, and the sequence number shown for the pair of port 2 × `strayPair` lands in 0x2720:05. -/
theorem not_alarmFramesAreRepeatedAndLimited : ¬ Obligations.AlarmFramesAreRepeatedAndLimited := by
  intro h
  obtain ⟨-, -, -, -, -, hrefill, -⟩ := h
  obtain ⟨u, hu, -, -, -, hsent⟩ := hrefill 0 (2 * strayPair) (strayPair + 8) _ strayUnit (by decide) (by decide +kernel) (by decide +kernel) rfl
    (by decide +kernel) (by decide +kernel) (by decide +kernel)
  obtain rfl : settle (tokenRefill (2 * strayPair) (strayUnit.advance 0)) = u := Host.Outcome.next.inj hu
  exact absurd hsent (by decide +kernel)

end Sys2Proof.Machine
end

section
/-! Output commands: a number of a pair that no pair has (R383). -/

namespace Sys2Proof.Machine
open Sys2Proof

/-- The row of 0x2111:03 that stands where 0x2840:03 does. -/
def strayCommandPair : Nat := (0x2840 * 256 + 0x03 - (0x2111 * 256 + 0x03)) * 0x1000000 + noRow

/-- A state in RUN with output stream 0 of IDCODE 0 and its subscriber row 0, in which the pair `strayCommandPair` is not DOWN and has sent seven frames. -/
def strayPublisher : State :=
  { State.reset with
    power := { PowerSt.reset with state := stRun }
    port := { PortSt.reset with pairState := [(strayCommandPair, 0)], txSeq := [(strayCommandPair, 7)] }
    active := [(okey 0x2801 0x01 0, .num 1), (okey 0x2803 0x01 0, .num 0)] }

/-- Command 3 to IDCODE 0. -/
def headerRequest : List Byte := closeFrame 0xAA41 0 0 0 (be 2 3)

/-- Refutes O27: OUTPUT_COMMAND_RX bounds no pair number, and the sequence number shown for the pair of the answer lands in 0x2840:03. -/
theorem not_outputCommandsSwitchSubscribers : ¬ Obligations.OutputCommandsSwitchSubscribers := by
  intro h
  obtain ⟨-, -, hanswer, -⟩ := h
  obtain ⟨u, hu, hcount, -⟩ := hanswer 0 strayCommandPair 0 0 (strayPublisher.cfgBytes 0x2803 0x03 0) headerRequest strayPublisher (by decide)
    (by decide +kernel) (by decide +kernel) (by decide +kernel) (by decide +kernel) (by decide +kernel) (by decide +kernel) (by decide +kernel)
    (by decide +kernel) (by decide +kernel)
  obtain rfl : settle (outputCommand strayCommandPair (strayPublisher.cfgBytes 0x2803 0x03 0) 0 headerRequest (strayPublisher.advance 0)) = u :=
    Host.Outcome.next.inj hu
  exact absurd hcount (by decide +kernel)

end Sys2Proof.Machine
end

section
/-! The pre-trigger ring: freezing, exporting and releasing it (R391 to R396), and the archive's descriptors (R567). -/

namespace Sys2Proof.Machine
open Sys2Proof

section ring
variable {ps : List Part} {os : List (Nat × Nat)} {s u : State}

/-- With no group running a freeze is over at once (R393). -/
theorem ringFreezeEnd_frozen (h : s.ro 0x2821 0x02 = 2) (hnone : runningGroups s = []) :
    ∃ size, ringFreezeEnd s = raise 0x2805 (le 12 (s.ro 0x2821 0x03) ++ le 2 (s.ro 0x2821 0x04) ++ le 1 0)
      (((s.onPub fun p => { p with short := false }).setRo 0x2821 0x02 3).setRo 0x2822 0x02 size) := by
  unfold ringFreezeEnd
  rw [if_pos (by simp [h, hnone])]
  extract_lets short v size
  have hshort : short = false := by simp [short, hnone]
  exact ⟨size, by simp [v, hshort, b2n]⟩

/-- A group that runs keeps a freeze that has just begun from ending. -/
theorem ringFreezeEnd_waits (hsome : runningGroups s ≠ []) (hstopped : s.pub.stopped = []) : ringFreezeEnd s = s := by
  unfold ringFreezeEnd
  rw [if_neg]
  rintro ⟨-, hall⟩
  obtain ⟨g, l, hgroups⟩ := List.exists_cons_of_ne_nil hsome
  simp [hgroups, hstopped] at hall

theorem runningGroups_of (h : u.groups = s.groups) : runningGroups u = runningGroups s := by simp [runningGroups, h]

/-- What a freeze that is taken leaves (R393). -/
theorem ringFreeze_filling (hfill : s.ro 0x2821 0x02 = 1) (rule t96 : Nat) :
    ∃ u, ringFreeze rule t96 s = u ∧ u.ro 0x2821 0x02 = (if runningGroups s = [] then 3 else 2) ∧ u.ro 0x2821 0x03 = t96 ∧ u.ro 0x2821 0x04 = rule ∧
      u.pub.freezeSeq = s.pub.freezeSeq + 1 ∧ u.pub.ring = s.pub.ring ∧ u.ro 0x2840 0x0A = (s.ro 0x2840 0x0A + 1) % 2 ^ 32 ∧
      Touches [.pub] [(0x2821, 2), (0x2821, 3), (0x2821, 4), (0x2822, 2), (0x2840, 0x0A)] s u := by
  refine ⟨_, rfl, ?_⟩
  unfold ringFreeze
  simp only [hfill]
  rw [if_neg (by omega)]
  simp only [if_true]
  generalize hv : State.onPub _ _ = v
  have hgroups : runningGroups v = runningGroups s := runningGroups_of (by simp [← hv])
  by_cases hnone : runningGroups s = []
  · obtain ⟨size, h⟩ := ringFreezeEnd_frozen (s := v) (by simp [← hv]) (hgroups.trans hnone)
    rw [h, if_pos hnone, ← hv]
    simp
    rfl
  · rw [ringFreezeEnd_waits (by rwa [hgroups]) (by simp [← hv]), if_neg hnone, ← hv]
    simp
    rfl

theorem ringFreeze_taken (h : 2 ≤ s.ro 0x2821 0x02) (rule t96 : Nat) :
    ringFreeze rule t96 s = raise 0x2806 (le 12 s.t96 ++ le 2 rule) (s.bump 0x2840 0x0B) := by
  unfold ringFreeze
  dsimp only
  rw [if_neg (by omega), if_neg (by omega)]

/-! ### Export and release -/

/-- An export that goes on writes records from the front and keeps their bytes. -/
theorem exportRun_bytes (l : List (List Byte)) (s : State) :
    (exportRun l s).host.exportBytes + ((exportRun l s).host.exportLeft.map List.length).sum = s.host.exportBytes + (l.map List.length).sum ∧
    (exportRun l s).host.exporting = s.host.exporting ∧ (exportRun l s).host.exportStart = s.host.exportStart ∧
    (exportRun l s).host.stallSince = s.host.stallSince ∧ (exportRun l s).pub = s.pub ∧ (exportRun l s).status = s.status ∧
    (exportRun l s).imian = s.imian ∧ (exportRun l s).capture = s.capture := by
  induction l generalizing s with
  | nil => simp [exportRun]
  | cons r l ih =>
    unfold exportRun
    dsimp only
    split
    · obtain ⟨hbytes, hrest⟩ := ih ((s.emit (.dma 1 s.host.exportRing.wr r)).onHost fun h =>
        { h with exportRing := s.host.exportRing.push r.length, exportBytes := h.exportBytes + r.length })
      refine ⟨?_, by simpa using hrest⟩
      rw [hbytes]
      simp [Nat.add_assoc]
    · simp

/-- An export has just begun: it holds the records, some of them written. -/
theorem exportBegin_holds (source row : Nat) (l : List (List Byte)) (s : State) :
    (exportBegin source row l s).host.exporting = some (source, row) ∧ (exportBegin source row l s).host.exportStart = s.host.exportRing.wr ∧
    (exportBegin source row l s).host.exportBytes + ((exportBegin source row l s).host.exportLeft.map List.length).sum = (l.map List.length).sum ∧
    (exportBegin source row l s).pub = s.pub ∧ (exportBegin source row l s).status = s.status ∧ (exportBegin source row l s).capture = s.capture := by
  unfold exportBegin exportGoOn
  rw [if_neg (by simp)]
  extract_lets n v moved
  obtain ⟨hbytes, hexporting, hstart, hstall, hpub, hstatus, -, hcapture⟩ := exportRun_bytes l (s.onHost fun h =>
    { h with exporting := some (source, row), exportLeft := l, exportBytes := 0, exportStart := h.exportRing.wr, stallSince := none })
  have hnone : v.host.stallSince = none := hstall.trans (by simp)
  rw [hnone]
  dsimp only
  split
  · exact ⟨hexporting.trans (by simp), hstart.trans (by simp), hbytes.trans (by simp), hpub.trans (by simp), hstatus.trans (by simp), hcapture.trans (by simp)⟩
  · exact ⟨hexporting.trans (by simp), hstart.trans (by simp), hbytes.trans (by simp), hpub.trans (by simp), hstatus.trans (by simp), hcapture.trans (by simp)⟩

theorem exportCommand_frozen (hfrozen : s.ro 0x2821 0x02 = 3) (hnone : s.host.exporting = none) (hlink : pcieOn s = true) :
    exportCommand s = (exportBegin 1 0 (frozenRecords s) (s.setRo 0x2821 0x02 4), 0) := by
  unfold exportCommand
  rw [if_neg (by simp [hfrozen, hnone, hlink])]

theorem exportCommand_refused (h : s.ro 0x2821 0x02 ≠ 3 ∨ s.host.exporting ≠ none ∨ pcieOn s = false) : exportCommand s = (s, 0x06) := by
  unfold exportCommand
  rw [if_pos]
  obtain h | h | h := h
  · exact .inl h
  · exact .inr (.inl (Option.isSome_iff_ne_none.mpr h))
  · exact .inr (.inr h)

theorem frozenRecords_of (hpub : u.pub = s.pub) (hstatus : u.status = s.status) : frozenRecords u = frozenRecords s := by
  simp only [frozenRecords, State.ro_def, hpub, hstatus]
  rfl

@[simp] theorem pcieOn_advance (t : Nat) (s : State) : pcieOn (s.advance t) = pcieOn s := by simp [pcieOn]

/-- With an empty ring only its length is computed again (R391). -/
theorem ringResize_empty (hstate : s.ro 0x2821 0x02 < 2) (hring : s.pub.ring = []) :
    ∃ n, ringResize s = s.setRo 0x2821 0x01 n ∨ ringResize s = raise 0x280A (le 4 n) (s.setRo 0x2821 0x01 n) := by
  have htrim (v : State) (hv : v.pub.ring = []) : trimRing v = v := by
    simp only [trimRing, hv, List.map_nil, List.foldl_nil]
    rw [← hv]
    rfl
  unfold ringResize
  rw [if_neg (by omega)]
  extract_lets n old v
  refine ⟨n, ?_⟩
  have hv : v = s.setRo 0x2821 0x01 n := htrim _ (by simpa using hring)
  rw [hv]
  split
  · exact .inr rfl
  · exact .inl rfl

/-- The ring released is empty, and FILLING where the device state and its enable have it so (R395). -/
theorem ringRelease_writes (how : Nat) (s : State) :
    ∃ v, ringRelease how s = raise 0x2809 (le 1 how) v ∧ v.pub.ring = [] ∧ v.pub.stopped = [] ∧
      v.ro 0x2821 0x02 = b2n (s.running && s.cfgB 0x2820 0x01) ∧ v.host = s.host ∧ v.power = s.power ∧ v.outs = s.outs ∧ FewEvents 1 s v ∧
      Touches [.pub] [(0x2821, 1), (0x2821, 2), (0x2821, 5), (0x2822, 2)] s v := by
  refine ⟨_, rfl, ?_⟩
  unfold ringClear
  extract_lets w
  have hstate : b2n (w.running && w.cfgB 0x2820 0x01) < 2 := by
    cases w.running && w.cfgB 0x2820 0x01 <;> simp [b2n]
  have hcleared (v : State) : Touches [.pub] [(0x2821, 1), (0x2821, 2), (0x2821, 5), (0x2822, 2)] v (w.clearObjects [(0x2821, 5), (0x2822, 2)]) ↔
      Touches [.pub] [(0x2821, 1), (0x2821, 2), (0x2821, 5), (0x2822, 2)] v w :=
    ((ClearsObjects.objects (l := [(0x2821, 5), (0x2822, 2)]) (by decide) w).touches.mono (by simp) (by simp)).iff_of
  obtain ⟨n, h | h⟩ := ringResize_empty (s := (w.clearObjects [(0x2821, 5), (0x2822, 2)]).setRo 0x2821 0x02 (b2n (w.running && w.cfgB 0x2820 0x01)))
    (by simpa using hstate) (by simp [w])
  all_goals
    rw [h]
    refine ⟨by simp [w], by simp [w], by simp [w], by simp [w], by simp [w], by simp [w], ?_, by simp [hcleared, w]⟩
  · simp [FewEvents, w]
  · refine FewEvents.raise (n := 0) ?_ _ _
    simp [FewEvents, w]

/-! ### Sluices and descriptors -/

@[simp] theorem interrupt_rings (n : Nat) (s : State) :
    (s.interrupt n).host.exportBytes = s.host.exportBytes ∧ (s.interrupt n).host.exportStart = s.host.exportStart ∧
    (s.interrupt n).host.archive = s.host.archive ∧ (s.interrupt n).host.batchRecords = s.host.batchRecords ∧
    (s.interrupt n).host.batchBytes = s.host.batchBytes ∧ (s.interrupt n).log = s.log := by
  unfold State.interrupt State.signal
  split
  · simp
  · split <;> simp

@[simp] theorem setSluice_rings (q : Nat) (x : Sluice) (s : State) :
    (s.setSluice q x).host.exportBytes = s.host.exportBytes ∧ (s.setSluice q x).host.exportStart = s.host.exportStart ∧
    (s.setSluice q x).host.archive = s.host.archive ∧ (s.setSluice q x).host.batchRecords = s.host.batchRecords ∧
    (s.setSluice q x).host.batchBytes = s.host.batchBytes ∧ (s.setSluice q x).log = s.log := by
  simp [State.setSluice]

@[simp] theorem sluiceInterrupt_rings (q : Nat) (s : State) :
    (sluiceInterrupt q s).host.exportBytes = s.host.exportBytes ∧ (sluiceInterrupt q s).host.exportStart = s.host.exportStart ∧
    (sluiceInterrupt q s).host.archive = s.host.archive ∧ (sluiceInterrupt q s).host.batchRecords = s.host.batchRecords ∧
    (sluiceInterrupt q s).host.batchBytes = s.host.batchBytes ∧ (sluiceInterrupt q s).log = s.log := by
  unfold sluiceInterrupt
  split <;> simp

@[simp] theorem fifo_countWindow (code key a b : Nat) (s : State) : (countWindow code key a b s).log.fifo = s.log.fifo := by
  unfold countWindow
  dsimp only
  split <;> simp

@[simp] theorem sluiceCommit_rings (q : Nat) (l : List (List Nat)) (s : State) :
    (sluiceCommit q l s).host.exportBytes = s.host.exportBytes ∧ (sluiceCommit q l s).host.exportStart = s.host.exportStart ∧
    (sluiceCommit q l s).host.archive = s.host.archive ∧ (sluiceCommit q l s).host.batchRecords = s.host.batchRecords ∧
    (sluiceCommit q l s).host.batchBytes = s.host.batchBytes ∧ (sluiceCommit q l s).log = s.log := by
  simp [sluiceCommit]

@[simp] theorem sluiceLose_rings (q : Nat) (owe : Bool) (s : State) :
    (sluiceLose q owe s).host.exportBytes = s.host.exportBytes ∧ (sluiceLose q owe s).host.exportStart = s.host.exportStart ∧
    (sluiceLose q owe s).host.archive = s.host.archive ∧ (sluiceLose q owe s).host.batchRecords = s.host.batchRecords ∧
    (sluiceLose q owe s).host.batchBytes = s.host.batchBytes ∧ (sluiceLose q owe s).log.fifo = s.log.fifo := by
  simp [sluiceLose]

/-- A packet posted to a Sluice leaves the rings, the exports and the waiting events. -/
@[simp] theorem sluicePost_rings (q : Nat) (words : List Nat) (s : State) :
    (sluicePost q words s).host.exportBytes = s.host.exportBytes ∧ (sluicePost q words s).host.exportStart = s.host.exportStart ∧
    (sluicePost q words s).host.archive = s.host.archive ∧ (sluicePost q words s).host.batchRecords = s.host.batchRecords ∧
    (sluicePost q words s).host.batchBytes = s.host.batchBytes ∧ (sluicePost q words s).log.fifo = s.log.fifo := by
  unfold sluicePost
  dsimp only
  repeat' split
  all_goals simp

theorem ringExportDone_due (hstate : s.ro 0x2821 0x02 = 4) (hexporting : s.host.exporting = some (1, 0)) (hleft : s.host.exportLeft = []) :
    ∃ v, ringExportDone s = (if s.cfgB 0x2820 0x04 then ringRelease 1 v else v) ∧ v.ro 0x2821 0x02 = 3 ∧ v.pub = s.pub ∧ v.host.exporting = none ∧
      bit v.host.intStatus 10 = true ∧ v.ro 0x2840 0x0C = (s.ro 0x2840 0x0C + 1) % 2 ^ 32 ∧ v.power = s.power ∧ v.active = s.active ∧
      ∃ w, v = exportEnd (raise 0x2807 (le 8 s.host.exportBytes) w) ∧ w.log.fifo = s.log.fifo ∧ w.power = s.power := by
  unfold ringExportDone
  rw [if_pos ⟨hstate, hexporting, by simp [hleft]⟩]
  extract_lets n v w
  refine ⟨w, ?_, by simp [w, exportEnd], by simp [w, v, exportEnd, exportDescriptor], by simp [w, exportEnd], ?_, ?_, by simp [w, v, exportEnd, exportDescriptor],
    by simp [w, v, exportEnd, exportDescriptor], v.setRo 0x2821 0x02 3, ?_, by simp [v, exportDescriptor], by simp [v, exportDescriptor]⟩
  · simp [w, v, exportEnd, exportDescriptor]
  · simp [w, v, exportEnd, exportDescriptor, bit_interrupt]
  · have hro (words : List Nat) : (sluicePost 7 words s).ro 0x2840 0x0C = s.ro 0x2840 0x0C := by
      unfold sluicePost
      dsimp only
      repeat' split
      all_goals simp [sluiceLose]
    simp [w, v, exportEnd, exportDescriptor, hro]
    rfl
  · simp [w, v, exportDescriptor]

theorem ringExportDone_not (h : s.ro 0x2821 0x02 ≠ 4 ∨ s.host.exporting ≠ some (1, 0) ∨ s.host.exportLeft ≠ []) : ringExportDone s = s := by
  unfold ringExportDone
  rw [if_neg]
  rintro ⟨hstate, hexporting, hleft⟩
  obtain h | h | h := h
  · exact h hstate
  · exact h hexporting
  · exact h (by simpa using hleft)

theorem descriptorDue_due (hrun : s.running = true) (hsome : s.host.batchRecords ≠ 0)
    (hdue : s.cfg 0x2D01 0x01 ≤ s.host.batchBytes ∨ s.host.batchAt + us (s.cfg 0x2D01 0x02) ≤ s.now) :
    descriptorDue s = (sluicePost 7 [0x8 * 2 ^ 60 + s.host.batchRecords % 2 ^ 32, s.host.batchStart, s.host.batchBytes * 2 ^ 32]
      (s.onHost fun x => { x with batchBytes := 0, batchRecords := 0 })).interrupt 9 := by
  unfold descriptorDue
  rw [if_pos (by simpa [hrun, hsome] using hdue)]
  unfold postDescriptor
  rw [if_neg hsome]

theorem descriptorDue_not (h : s.running = false ∨ s.host.batchRecords = 0 ∨
      (s.host.batchBytes < s.cfg 0x2D01 0x01 ∧ s.now < s.host.batchAt + us (s.cfg 0x2D01 0x02))) : descriptorDue s = s := by
  unfold descriptorDue
  rw [if_neg]
  simp only [Bool.and_eq_true, bne_iff_ne, Bool.or_eq_true, decide_eq_true_eq]
  rintro ⟨⟨hrun, hsome⟩, hdue⟩
  obtain h | h | h := h
  · simp [hrun] at h
  · exact hsome h
  · omega

end ring

/-- Settles O26. -/
theorem ringFreezesExportsAndReleases : Obligations.RingFreezesExportsAndReleases := by
  refine ⟨?freeze, ?again, ?noRing, ?exports, ?exportRefused, ?done, ?notDone, ?release, ?releaseRefused, ?post, ?postNot⟩
  case freeze =>
    intro t who s hacc hfill
    refine .of (f := runPlain 0x2830 0x01 who freezeCommand) rfl ?_
    obtain ⟨u, hu, hstate, hat, hrule, hseq, hring, hcount, htouches⟩ := ringFreeze_filling (s := s.advance t) (by simpa using hfill) 0xFFFF (s.advance t).t96
    rw [runPlain_accepted hacc, show freezeCommand (s.advance t) = (u, 0) by simp [freezeCommand, hfill, hu]]
    refine ⟨answered_settle .., ?_, ?_, ?_, ?_, ?_, ?_, ?_⟩
    · rw [runningGroups_of (s := s) (by simp)] at hstate
      simpa using hstate
    · simpa using hat
    · simpa using hrule
    · simpa using hseq
    · simpa using hring
    · simpa using hcount
    · have := htouches.mono (ps' := [.pub, .imian]) (os' := [(0x2821, 2), (0x2821, 3), (0x2821, 4), (0x2822, 2), (0x2840, 0x0A), (0x1120, 1), (0x1120, 2)]) (by simp) (by simp)
      simpa using this
  case again =>
    intro t who s hroom hacc htaken
    refine .of (f := runPlain 0x2830 0x01 who freezeCommand) rfl ?_
    have htaken' : 2 ≤ (s.advance t).ro 0x2821 0x02 := by simpa using htaken
    rw [runPlain_accepted hacc, show freezeCommand (s.advance t) = (ringFreeze 0xFFFF (s.advance t).t96 (s.advance t), 0) by
      unfold freezeCommand; rw [if_neg (by omega)], ringFreeze_taken htaken']
    refine ⟨answered_settle .., ?_, (Posted.first hroom (by simp) (by simp) _ _).answered who 0 _, by simp⟩
    simp
    rfl
  case noRing =>
    intro t who s hacc hnone
    refine .of (f := runPlain 0x2830 0x01 who freezeCommand) rfl ?_
    rw [runPlain_accepted hacc, show freezeCommand (s.advance t) = (s.advance t, 6) by simp [freezeCommand, hnone]]
    exact ⟨answered_settle .., by simp⟩
  case exports =>
    intro t who s hacc hfrozen hnone hlink
    refine .of (f := runPlain 0x2830 0x03 who exportCommand) rfl ?_
    rw [runPlain_accepted hacc, exportCommand_frozen (by simpa using hfrozen) (by simpa using hnone) (by simpa using hlink)]
    obtain ⟨hexporting, hstart, hbytes, hpub, hstatus, -⟩ := exportBegin_holds 1 0 (frozenRecords (s.advance t)) ((s.advance t).setRo 0x2821 0x02 4)
    rw [frozenRecords_of (u := s.advance t) (s := s) (by simp) (by simp)] at *
    refine ⟨answered_settle .., ?_, by simpa using hexporting, by simpa using hstart, by simpa using hpub, by simpa using hbytes⟩
    have hro : (exportBegin 1 0 (frozenRecords s) ((s.advance t).setRo 0x2821 0x02 4)).ro 0x2821 0x02 = 4 := by
      rw [State.ro_def, hstatus]
      simp
      rfl
    simpa using hro
  case exportRefused =>
    intro t who s hacc h
    refine .of (f := runPlain 0x2830 0x03 who exportCommand) rfl ?_
    rw [runPlain_accepted hacc, exportCommand_refused (by simpa using h)]
    exact ⟨answered_settle .., by simp⟩
  case done =>
    intro t s hroom hstate hexporting hleft
    refine .of (f := ringExportDone) rfl ?_
    obtain ⟨v, hv, hro, hpub, hnone, hbit, hcount, hpower, hactive, w, hw, hfifo, hwpower⟩ := ringExportDone_due (s := s.advance t)
      (by simpa using hstate) (by simpa using hexporting) (by simpa using hleft)
    have hposted : Posted 0x2807 (le 8 s.host.exportBytes) s v := by
      rw [hw]
      exact .later (u := raise 0x2807 (le 8 s.host.exportBytes) w) (.raise [] (by simp [hfifo]) ⟨by
        simpa [State.powered, State.dev, hwpower] using hroom.1, by simpa [State.dev, hwpower] using hroom.2.1, by have := hroom.2.2; simp [hfifo]; omega⟩ _ _) (by simp [exportEnd])
    rw [hv]
    by_cases hrelease : s.cfgB 0x2820 0x04 = true
    · rw [if_pos (by simpa using hrelease)]
      obtain ⟨x, hx, hring, -, hstate', hhost, -, -, hfew, htouches⟩ := ringRelease_writes 1 v
      rw [hx]
      refine ⟨?_, by simp [hring, hrelease], by simp [hhost, hnone], by simp [hhost, hbit], ?_, ?_⟩
      · rw [if_pos hrelease]
        simp [hstate', State.running, State.dev, State.cfgB, State.cfg, hpower, hactive]
      · simp [htouches.ro, hcount]
      · exact ((hposted.later hfew.1).later (fifo_raise _ _ _)).settle
    · rw [if_neg (by simpa using hrelease)]
      exact ⟨by simp [hro, hrelease], by simp [hpub, hrelease], by simp [hnone], by simp [hbit], by simp [hcount], hposted.settle⟩
  case notDone =>
    intro t s h
    exact .unchanged (f := ringExportDone) rfl (ringExportDone_not (by simpa using h))
  case release =>
    intro t who s hroom hacc hstate
    refine .of (f := runPlain 0x2830 0x02 who releaseCommand) rfl ?_
    rw [runPlain_accepted hacc, show releaseCommand (s.advance t) = (ringRelease 0 (s.advance t), 0) by simp [releaseCommand, hstate]]
    obtain ⟨v, hv, hring, hstopped, hro, -, hpower, -, hfew, -⟩ := ringRelease_writes 0 (s.advance t)
    rw [hv]
    refine ⟨answered_settle .., by simpa using hring, by simpa using hstopped, by simpa using hro, ?_⟩
    exact (FewEvents.posted (s := s) (by simpa [FewEvents] using hfew) hroom (by omega) (by simpa using hpower) _ _).answered who 0 _
  case releaseRefused =>
    intro t who s hacc h
    refine .of (f := runPlain 0x2830 0x02 who releaseCommand) rfl ?_
    rw [runPlain_accepted hacc, show releaseCommand (s.advance t) = (s.advance t, 6) by simp [releaseCommand, h]]
    exact ⟨answered_settle .., by simp⟩
  case post =>
    intro t s hrun hsome hdue
    refine .of (f := descriptorDue) rfl ?_
    rw [descriptorDue_due (by simpa using hrun) (by simpa using hsome) (by simpa using hdue)]
    exact ⟨by simp, by simp, by simp [bit_interrupt], by simp, by simp⟩
  case postNot =>
    intro t s h
    exact .unchanged (f := descriptorDue) rfl (descriptorDue_not (by simpa using h))

end Sys2Proof.Machine
end

section
/-! Local rules: evaluation, tracks, transitions and acknowledgement (R342 to R355, R360, R361). -/

namespace Sys2Proof.Machine
open Sys2Proof

section rules
variable {s u v : State} {r : Nat}

/-- What leaves the alarms, their tracks and the rules evaluated, and the RO objects of 0x2720:02 and :03. -/
structure KeepsAlarms (s u : State) : Prop where
  alarms : u.alarm.alarms = s.alarm.alarms
  committed : u.alarm.committed = s.alarm.committed
  evaluated : u.alarm.evaluated = s.alarm.evaluated
  counts : u.ro 0x2720 0x02 = s.ro 0x2720 0x02 ∧ u.ro 0x2720 0x03 = s.ro 0x2720 0x03

namespace KeepsAlarms

theorem refl (s : State) : KeepsAlarms s s := ⟨rfl, rfl, rfl, rfl, rfl⟩

theorem trans (h : KeepsAlarms s u) (g : KeepsAlarms u v) : KeepsAlarms s v :=
  ⟨g.alarms.trans h.alarms, g.committed.trans h.committed, g.evaluated.trans h.evaluated, g.counts.1.trans h.counts.1, g.counts.2.trans h.counts.2⟩

theorem foldl {α : Type} {f : State → α → State} {l : List α} (h : ∀ s, ∀ a ∈ l, KeepsAlarms s (f s a)) (s : State) : KeepsAlarms s (l.foldl f s) :=
  List.foldlRecOn l f (.refl s) fun u hu a ha => hu.trans (h u a ha)

/-- What is no part of the alarms, and no alarm counter, may change. -/
theorem of_alarm (h : u.alarm = s.alarm) (hro : ∀ j, j < 256 → u.ro 0x2720 j = s.ro 0x2720 j) : KeepsAlarms s u :=
  ⟨by rw [h], by rw [h], by rw [h], hro _ (by omega), hro _ (by omega)⟩

theorem of_touches {ps : List Part} {os : List (Nat × Nat)} (h : Touches ps os s u) (hps : Part.alarm ∉ ps) (hos : ∀ o ∈ os, o.1 ≠ 0x2720) :
    KeepsAlarms s u :=
  .of_alarm (h.1 .alarm hps) fun j hj => h.ro hj (by simp) (fun m => hos _ m rfl) (by omega)

theorem of_sends {ps : List Part} (h : Sends ps s u) (hps : Part.alarm ∉ ps) : KeepsAlarms s u := .of_touches h.touches hps (by simp)

/-- A change of the alarms' part that leaves alarms, tracks and what was evaluated. -/
theorem onAlarm {f : AlarmSt → AlarmSt} (h : ∀ a, (f a).alarms = a.alarms ∧ (f a).committed = a.committed ∧ (f a).evaluated = a.evaluated) (s : State) :
    KeepsAlarms s (s.onAlarm f) := ⟨(h s.alarm).1, (h s.alarm).2.1, (h s.alarm).2.2, rfl, rfl⟩

theorem raise (code : Nat) (l : List Byte) (s : State) : KeepsAlarms s (raise code l s) := .of_alarm (by simp) fun j hj => by simp [hj]
theorem raiseOnce (code key : Nat) (l : List Byte) (s : State) : KeepsAlarms s (raiseOnce code key l s) := .of_alarm (by simp) fun j hj => by simp [hj]
theorem bump {j : Nat} (hj : j < 256) (h2 : j ≠ 2) (h3 : j ≠ 3) (s : State) : KeepsAlarms s (s.bump 0x2720 j) :=
  ⟨by simp, by simp, by simp, by simp [hj, h2.symm], by simp [hj, h3.symm]⟩
theorem setBucket (u : Nat) (b : Bucket) (s : State) : KeepsAlarms s (s.setBucket u b) :=
  .onAlarm (f := fun a => { a with buckets := putKey u b a.buckets }) (fun _ => ⟨rfl, rfl, rfl⟩) s

theorem sluicePost (q : Nat) (words : List Nat) (s : State) : KeepsAlarms s (sluicePost q words s) :=
  .of_alarm (by simp) fun j hj => (sluicePost_leaves (by omega) hj (by simp) q words s).2.1

theorem updatePins (s : State) : KeepsAlarms s (updatePins s) := by
  obtain ⟨htouches, -, ⟨halarms, hevaluated, hcommitted⟩, -, -, -⟩ := updatePins_only s
  exact ⟨halarms, hcommitted, hevaluated, by simp, by simp⟩

/-! ### Frames and GOOSE -/

theorem keyUsed (h : Nat) (usages : List Nat) (s : State) : KeepsAlarms s (keyUsed h usages s) := by
  unfold Machine.keyUsed
  dsimp only
  split
  · exact .refl s
  · exact .of_alarm (by simp) fun j hj => by simp [hj]

theorem holdTx (x : HeldTx) (s : State) : KeepsAlarms s (holdTx x s) := .of_alarm rfl fun _ _ => rfl

theorem sentMark (source number : Nat) (s : State) : KeepsAlarms s (sentMark source number s) := by
  unfold Machine.sentMark
  split
  · exact .of_sends (ps := [.port, .duplex]) (.sendMirror (by simp) (by simp) ..) (by simp)
  · exact .refl s

theorem putAlarmFrame {u : Nat} (hu : u < 11) (p : List Byte) (s : State) : KeepsAlarms s (putAlarmFrame u p s) := by
  unfold Machine.putAlarmFrame
  refine .trans ?_ (.bump (by omega) (by omega) (by omega) _)
  split
  · exact .of_sends (ps := [.port]) (.sendPair (by simp) (by omega) ..) (by simp)
  · exact .of_sends (ps := [.port]) (.sendPort (by simp) (by omega) ..) (by simp)

theorem sendAlarmFrame {u : Nat} (hu : u < 11) (index : Nat) (l : List Byte) (s : State) : KeepsAlarms s (sendAlarmFrame u index l s) := by
  unfold Machine.sendAlarmFrame
  extract_lets v p n w
  have hw : KeepsAlarms v w := by
    unfold w
    split
    · exact .holdTx ..
    · exact .trans (.putAlarmFrame hu ..) (.sentMark ..)
  exact ((KeepsAlarms.keyUsed ..).trans hw).trans (.onAlarm (f := fun a => { a with frameSeq := (a.frameSeq + 1) % 2 ^ 32, superseded := 0 })
    (fun _ => ⟨rfl, rfl, rfl⟩) w)

theorem setRepeats (l : AlarmSt → Tab Report) (s : State) : KeepsAlarms s (s.onAlarm fun a => { a with repeats := l a }) :=
  .onAlarm (f := fun a => { a with repeats := l a }) (fun _ => ⟨rfl, rfl, rfl⟩) s

theorem sendFirst {u : Nat} (hu : u < 11) (r : Nat) (x : Report) (s : State) : KeepsAlarms s (sendFirst u r x s) := by
  unfold Machine.sendFirst
  dsimp only
  split
  · exact .sendAlarmFrame hu ..
  · exact (sendAlarmFrame hu 0 x.payload s).trans (setRepeats _ _)

theorem offerFrame {u : Nat} (hu : u < 11) (r : Nat) (x : Report) (s : State) : KeepsAlarms s (offerFrame u r x s) := by
  unfold Machine.offerFrame
  extract_lets v b
  refine .trans (setRepeats (fun a => delKey (4096 * u + r) a.repeats) s) ?_
  split
  next old =>
    refine .trans (.onAlarm (f := fun a => { a with superseded := a.superseded + 1 }) (fun _ => ⟨rfl, rfl, rfl⟩) v)
      (.trans (.bump (j := 6) (by omega) (by omega) (by omega) _) ?_)
    split <;> exact .setBucket ..
  next =>
    split
    · exact .trans (.setBucket ..) (.sendFirst hu ..)
    · split
      · exact .setBucket ..
      · exact .trans (.setBucket ..) (.raise ..)

theorem alarmUnits_lt {u : Nat} (h : u ∈ alarmUnits s) : u < 11 := by
  simp only [alarmUnits, List.mem_flatMap, List.mem_range] at h
  obtain ⟨k, hk, h⟩ := h
  split at h
  · simp at h
    omega
  · split at h
    · simp at h
      omega
    · simp at h

theorem sendTransition (r new : Nat) (payload : List Byte) (s : State) : KeepsAlarms s (sendTransition r new payload s) :=
  .foldl (fun _ _ hu => .offerFrame (alarmUnits_lt hu) ..) s

theorem sendGoose (mask cls d : Nat) (s : State) : KeepsAlarms s (sendGoose mask cls d s) := by
  unfold Machine.sendGoose
  dsimp only
  split
  · exact .holdTx ..
  · refine .trans ?_ (.sentMark ..)
    exact .trans (.of_sends (ps := [.port]) (.sendMask (by simp) ..) (by simp)) (.bump (by omega) (by omega) (by omega) _)

theorem putGoose (d : Nat) (hd : d < 16) (x : Goose) (s : State) : KeepsAlarms s (putGoose d x s) := by
  have hrow : d < 0x1000000 := by omega
  unfold Machine.putGoose
  exact ⟨by simp, by simp, by simp, by simp [hrow], by simp [hrow]⟩

theorem updateGoose (s : State) : KeepsAlarms s (updateGoose s) := by
  refine .foldl (fun s d hd => ?_) s
  split
  · unfold gooseChange
    dsimp only
    split
    · exact .refl s
    · exact .trans (.putGoose d (by simpa using hd) ..) (.sendGoose ..)
  · exact .refl s

theorem ite_sendTransition (c : Bool) (r new : Nat) (payload : List Byte) (s : State) :
    KeepsAlarms s (if c then Machine.sendTransition r new payload s else s) := by
  split
  · exact .sendTransition ..
  · exact .refl s

/-! ### Freezes and triggers -/

theorem ringFreeze (rule t96 : Nat) (s : State) : KeepsAlarms s (ringFreeze rule t96 s) := by
  refine .of_touches (ps := [.pub]) (os := [(0x2821, 2), (0x2821, 3), (0x2821, 4), (0x2822, 2), (0x2840, 0x0A), (0x2840, 0x0B)]) ?_ (by simp) (by simp)
  unfold Machine.ringFreeze ringFreezeEnd
  dsimp only
  repeat' split
  all_goals simp

theorem alarmFreeze (rule t96 : Nat) (s : State) : KeepsAlarms s (alarmFreeze rule t96 s) := by
  unfold Machine.alarmFreeze
  split
  · exact .ringFreeze ..
  · exact .refl s

theorem alarmTrigger (rule new inst t0 : Nat) (s : State) : KeepsAlarms s (alarmTrigger rule new inst t0 s) := by
  unfold Machine.alarmTrigger
  split
  · exact .refl s
  · exact .foldl (fun s n _ => .of_alarm (rowFires_leaves (a := 0) (b := 0) (c := 0) (by omega) (by omega) (by omega) n t0 inst s).2.2
      fun j hj => (rowFires_leaves (by omega) hj (by simp) n t0 inst s).2.1) s

end KeepsAlarms

/-! ### Transitions and decisions -/

@[simp] theorem alarmOf_setAlarm (s : State) (r : Nat) (x : Alarm) : (s.setAlarm r x).alarmOf r = x := by simp [State.alarmOf, State.setAlarm]

@[simp] theorem alarmOf_bump (s : State) (i j k r : Nat) : (s.bump i j k).alarmOf r = s.alarmOf r := by simp [State.alarmOf]

@[simp] theorem ro_setAlarm (s : State) (q : Nat) (x : Alarm) (i j r : Nat) : (s.setAlarm q x).ro i j r = s.ro i j r := by
  simp [State.setAlarm, State.ro_def]

theorem KeepsAlarms.alarmOf (h : KeepsAlarms s u) (r : Nat) : u.alarmOf r = s.alarmOf r := by simp [State.alarmOf, h.alarms]

/-- The first report of an alarm raised on a slot or at an update (R353, R355). -/
def raisedAlarm (r decision : Nat) (e : Evaluation) (s : State) : Alarm :=
  { s.alarmOf r with
    state := 2, instance_ := ((s.alarmOf r).instance_ + 1) % 2 ^ 32, raiseT96 := decision, flags := decisionFlags s 0 e.degraded,
    degraded := e.degraded, termsTrue := e.isTrue, acknowledged := false, lastChange := s.t96 }

/-- A transition from NONE to COMMITTED: the alarm is the one raised, and 0x2720:02 counts. -/
theorem transition_raised (hnone : (s.alarmOf r).state = 0) (decision : Nat) (e : Evaluation) :
    KeepsAlarms ((s.setAlarm r (raisedAlarm r decision e s)).bump 0x2720 0x02) (transition r 2 decision 0 e s) := by
  unfold transition
  extract_lets x old group fresh keep keep' y v w z f
  have hy : y = raisedAlarm r decision e s := by simp [y, raisedAlarm, fresh, keep', keep, old, x, hnone]
  have hv : KeepsAlarms ((s.setAlarm r y).bump 0x2720 0x02) v := (KeepsAlarms.raiseOnce ..).trans (.sluicePost ..)
  have hw : KeepsAlarms v w := .ite_sendTransition ..
  have hf : KeepsAlarms w f := .alarmFreeze ..
  rw [hy] at hv
  exact ((hv.trans hw).trans hf).trans (.alarmTrigger ..)

/-- A transition from COMMITTED to CLEARED, which falls back to NONE: 0x2720:03 counts. -/
theorem transition_cleared (hcommitted : (s.alarmOf r).state = 2) (decision : Nat) (e : Evaluation) :
    ∃ v y, transition r 3 decision 0 e s = v.setAlarm r { y with state := 0 } ∧ y.instance_ = (s.alarmOf r).instance_ ∧
      KeepsAlarms ((s.setAlarm r y).bump 0x2720 0x03) v := by
  unfold transition
  extract_lets x old group fresh keep keep' y v w z f
  refine ⟨w, y, rfl, ?_, ?_⟩
  · simp [y, fresh, old, x, hcommitted]
  · exact ((KeepsAlarms.raiseOnce ..).trans (.sluicePost ..)).trans (.ite_sendTransition ..)

/-! ### Updates -/

/-- The track of a local rule after an update, and the rule counted as evaluated (R351). -/
def trackedLocal (r : Nat) (cond : Bool) (s : State) : State :=
  let t := (tabGet Track.reset s.alarm.committed r).localStep s.t96 (s.cfg 0x2701 0x05 r) (s.cfg 0x2701 0x06 r) cond
  let s := s.onAlarm fun a => { a with committed := putKey r t a.committed,
                                       evaluated := if a.evaluated.contains r then a.evaluated else r :: a.evaluated }
  s.setAlarm r { s.alarmOf r with endT96 := none }

/-- A local rule's terms are read without a slot and change nothing. -/
theorem evaluate_local (r : Nat) (s : State) : (evaluate r none s).2 = s := by
  unfold evaluate
  extract_lets mask out t d vals
  exact List.foldlRecOn (motive := fun (a : List (Nat × Bool × TermVal) × State) => a.2 = s) _ _ rfl fun a h _ _ => h

theorem reportDegraded_keeps (r d : Nat) (s : State) :
    KeepsAlarms (s.setAlarm r { s.alarmOf r with degraded := d }) (reportDegraded r d s) := by
  unfold reportDegraded
  dsimp only
  split
  · exact .refl _
  · exact .raiseOnce ..

theorem trackedLocal_reads (r : Nat) (cond : Bool) (s : State) :
    (trackedLocal r cond s).alarmOf r = { s.alarmOf r with endT96 := none } ∧
    tabGet Track.reset (trackedLocal r cond s).alarm.committed r =
      (tabGet Track.reset s.alarm.committed r).localStep s.t96 (s.cfg 0x2701 0x05 r) (s.cfg 0x2701 0x06 r) cond ∧
    r ∈ (trackedLocal r cond s).alarm.evaluated ∧ (trackedLocal r cond s).status = s.status ∧ (trackedLocal r cond s).time = s.time ∧
    (trackedLocal r cond s).now = s.now ∧ (trackedLocal r cond s).active = s.active ∧ (trackedLocal r cond s).t96 = s.t96 := by
  unfold trackedLocal
  refine ⟨by rw [alarmOf_setAlarm]; rfl, by simp [State.setAlarm], ?_, rfl, rfl, rfl, rfl, rfl⟩
  by_cases h : r ∈ s.alarm.evaluated <;> simp [State.setAlarm, h]

/-- A local rule's update: its track and the degraded terms kept, then the decision, then pins and datasets (R351, R353). -/
theorem localUpdate_served (hrun : s.running = true) (hon : s.cfgB 0x2701 0x01 r = true) (hlocal : s.cfg 0x2701 0x03 r = 0xFF)
    {e : Evaluation} {x : Track} (he : (evaluate r none s).1 = e)
    (hx : (tabGet Track.reset s.alarm.committed r).localStep s.t96 (s.cfg 0x2701 0x05 r) (s.cfg 0x2701 0x06 r) e.cond = x) :
    ∃ v, tabGet Track.reset v.alarm.committed r = x ∧ v.alarmOf r = { s.alarmOf r with endT96 := none, degraded := e.degraded } ∧
      r ∈ v.alarm.evaluated ∧ (v.ro 0x2720 0x02 = s.ro 0x2720 0x02 ∧ v.ro 0x2720 0x03 = s.ro 0x2720 0x03) ∧ v.active = s.active ∧
      KeepsAlarms (ruleDecide r s.t96 x.raised e v) (localUpdate r s) := by
  obtain ⟨halarm, htrack, heval, hstatus, -, -, -, -⟩ := trackedLocal_reads r e.cond s
  have hkept := reportDegraded_keeps r e.degraded (trackedLocal r e.cond s)
  refine ⟨reportDegraded r e.degraded (trackedLocal r e.cond s), ?_, ?_, ?_, ?_, ?_, ?_⟩
  · rw [hkept.committed, ← hx]
    exact htrack
  · rw [hkept.alarmOf, alarmOf_setAlarm, halarm]
  · rw [hkept.evaluated]
    exact heval
  · rw [hkept.counts.1, hkept.counts.2]
    exact ⟨by simp only [State.setAlarm, State.ro_def, State.onAlarm_frame, hstatus], by simp only [State.setAlarm, State.ro_def, State.onAlarm_frame, hstatus]⟩
  · unfold reportDegraded trackedLocal
    dsimp only
    split
    · rfl
    · simp [State.setAlarm]
  · unfold localUpdate
    rw [if_neg (by simp [hrun, hon, hlocal]), show evaluate r none s = (e, s) from Prod.ext he (evaluate_local r s)]
    rw [← hx]
    exact (KeepsAlarms.updateGoose _).trans (.updatePins _)

theorem localUpdate_not (h : s.running = false ∨ s.cfgB 0x2701 0x01 r = false ∨ s.cfg 0x2701 0x03 r ≠ 0xFF) : localUpdate r s = s := by
  unfold localUpdate
  rw [if_pos]
  obtain h | h | h := h <;> simp [h]

/-- What an update decides nothing on: only the track, the rule evaluated and the degraded terms are kept. -/
theorem ruleDecide_idle {nominal : Nat} {e : Evaluation} (hnone : (s.alarmOf r).state = 0) : ruleDecide r nominal false e s = s := by
  simp [ruleDecide, hnone]

theorem ruleDecide_raised {nominal : Nat} {e : Evaluation} (hnone : (s.alarmOf r).state = 0) (hend : (s.alarmOf r).endT96 = none) :
    ruleDecide r nominal true e s = transition r 2 nominal 0 e s := by
  simp [ruleDecide, hnone, pastEnd, hend]

theorem ruleDecide_latched {nominal : Nat} {e : Evaluation} (hstate : (s.alarmOf r).state = 2)
    (hlatch : s.cfgB 0x2701 0x0C r = true ∧ (s.alarmOf r).acknowledged = false) :
    ruleDecide r nominal false e s = s.setAlarm r { s.alarmOf r with flags := setBit (s.alarmOf r).flags 3 true } := by
  simp [ruleDecide, hstate, hlatch]

theorem ruleDecide_cleared {nominal : Nat} {e : Evaluation} (hstate : (s.alarmOf r).state = 2)
    (hlatch : ¬ (s.cfgB 0x2701 0x0C r = true ∧ (s.alarmOf r).acknowledged = false)) :
    ruleDecide r nominal false e s = transition r 3 nominal 0 e s := by
  unfold ruleDecide
  dsimp only
  rw [if_neg (by simp [hstate]), if_neg (by simp [hstate]), if_pos (by simp [hstate]), if_neg (by simpa using hlatch)]

theorem acknowledge_committed (h : (s.alarmOf r).state = 2) :
    acknowledge r s = (raise 0x270A (le 2 r ++ le 4 (s.alarmOf r).instance_)
      (s.setAlarm r { s.alarmOf r with acknowledged := true, flags := setBit (setBit (s.alarmOf r).flags 2 true) 3 false }), 0) := by
  simp [acknowledge, h]

theorem acknowledge_refused (h : (s.alarmOf r).state ≠ 2) : acknowledge r s = (s, 0x06) := by simp [acknowledge, h]

theorem KeepsAlarms.settle (h : KeepsAlarms s u) : KeepsAlarms s (Machine.settle u) := h.trans (.of_alarm (by simp) fun j hj => by simp [hj])

@[simp] theorem alarmOf_advance (t r : Nat) (s : State) : (s.advance t).alarmOf r = s.alarmOf r := by simp [State.alarmOf]

/-! ### Steps of a local track (R351) -/

theorem localStep_agrees {x : Track} {now raise clear : Nat} {cond : Bool} (h : x.raised = cond) :
    x.localStep now raise clear cond = { x with runSince := none } := by simp [Track.localStep, h]

theorem localStep_at_once {x : Track} {now raise clear : Nat} {cond : Bool} (h : x.raised = !cond) (hat : (if cond then raise else clear) = 0) :
    x.localStep now raise clear cond = ⟨cond, 0, none⟩ := by
  cases cond <;> simp_all [Track.localStep]

theorem localStep_begins {now raise clear : Nat} (hraise : 0 < raise) :
    Track.reset.localStep now raise clear true = { Track.reset with runSince := some now } := by
  have h : ¬ raise * 2 ^ 48 ≤ 0 := by omega
  simp [Track.localStep, Track.reset]
  omega

end rules

/-- Settles O23. -/
theorem localRulesAreDecided : Obligations.LocalRulesAreDecided := by
  refine ⟨?quiet, ?raised, ?persists, ?ends, ?not, ?acknowledged, ?refused⟩
  case quiet =>
    intro t r s hrun hon hlocal hnone htrack hcond
    refine .of (f := localUpdate r) rfl ?_
    obtain ⟨v, hx, halarm, heval, -, -, hu⟩ := localUpdate_served (s := s.advance t) (by simpa using hrun) (by simpa using hon) (by simpa using hlocal) rfl
      (localStep_agrees (by simp [htrack, hcond]))
    rw [show Track.raised { tabGet Track.reset (s.advance t).alarm.committed r with runSince := none } = false by simpa using htrack,
      ruleDecide_idle (by simpa [halarm] using hnone)] at hu
    have hkept := hu.settle
    exact ⟨by rw [hkept.committed, hx]; simp, by rw [hkept.alarmOf, halarm]; simpa using hnone, by rw [hkept.evaluated]; exact heval⟩
  case raised =>
    intro t r s hrun hon hlocal hnone htrack hraise hcond
    refine .of (f := localUpdate r) rfl ?_
    obtain ⟨v, hx, halarm, -, hcounts, -, hu⟩ := localUpdate_served (s := s.advance t) (by simpa using hrun) (by simpa using hon) (by simpa using hlocal) rfl
      (localStep_at_once (by simp only [State.advance_frame, htrack, hcond]; rfl) (by simp [hcond, hraise]))
    have hnone' : (v.alarmOf r).state = 0 := by simpa [halarm] using hnone
    simp only [hcond] at hu hx
    rw [ruleDecide_raised hnone' (by rw [halarm])] at hu
    have hkept := ((transition_raised hnone' _ _).trans hu).settle
    refine ⟨?_, ?_, ?_, ?_, ?_, ?_⟩
    · rw [hkept.committed]
      exact hx
    · rw [hkept.alarmOf]
      simp [raisedAlarm]
    · rw [hkept.alarmOf]
      simp [raisedAlarm]
    · rw [hkept.alarmOf]
      simp [raisedAlarm, halarm]
    · rw [hkept.alarmOf]
      simp [raisedAlarm]
    · rw [hkept.counts.1]
      simp [hcounts]
      rfl
  case persists =>
    intro t r s hrun hon hlocal hnone htrack hraise hcond
    refine .of (f := localUpdate r) rfl ?_
    obtain ⟨v, hx, halarm, heval, -, -, hu⟩ := localUpdate_served (s := s.advance t) (x := { Track.reset with runSince := some (s.advance t).t96 })
      (by simpa using hrun) (by simpa using hon) (by simpa using hlocal) rfl (by rw [hcond, show tabGet Track.reset (s.advance t).alarm.committed r = Track.reset by simpa using htrack]; exact localStep_begins (by simpa using hraise))
    rw [show Track.raised { Track.reset with runSince := some (s.advance t).t96 } = false from rfl, ruleDecide_idle (by simpa [halarm] using hnone)] at hu
    have hkept := hu.settle
    exact ⟨by rw [hkept.committed, hx], by rw [hkept.alarmOf, halarm]; simpa using hnone, by rw [hkept.evaluated]; exact heval⟩
  case ends =>
    intro t r s hrun hon hlocal hcommitted htrack hclear hcond
    refine .of (f := localUpdate r) rfl ?_
    obtain ⟨v, hx, halarm, -, hcounts, hset, hu⟩ := localUpdate_served (s := s.advance t) (by simpa using hrun) (by simpa using hon) (by simpa using hlocal) rfl
      (localStep_at_once (by simp [htrack, hcond]) (by simp [hcond, hclear]))
    have hstate : (v.alarmOf r).state = 2 := by simpa [halarm] using hcommitted
    simp only [hcond] at hu hx
    by_cases hlatch : s.cfgB 0x2701 0x0C r = true ∧ (s.alarmOf r).acknowledged = false
    · rw [ruleDecide_latched hstate (by simpa [State.cfgB, State.cfg, hset, halarm] using hlatch)] at hu
      have hkept := hu.settle
      refine ⟨?_, ?_, ?_⟩
      · rw [hkept.committed]
        exact hx
      · rw [hkept.alarmOf]
        simp [halarm]
      · rw [if_pos hlatch, hkept.alarmOf]
        simp [hstate]
    · rw [ruleDecide_cleared hstate (by simpa [State.cfgB, State.cfg, hset, halarm] using hlatch)] at hu
      obtain ⟨w, y, hw, hy, hcounted⟩ := transition_cleared hstate (s.advance t).t96 (evaluate r none (s.advance t)).1
      rw [hw] at hu
      have hkept := hu.settle
      refine ⟨?_, ?_, ?_⟩
      · rw [hkept.committed]
        show tabGet Track.reset w.alarm.committed r = _
        rw [hcounted.committed]
        simpa [State.setAlarm] using hx
      · rw [hkept.alarmOf]
        simp [hy, halarm]
      · rw [if_neg hlatch, hkept.alarmOf, hkept.counts.2]
        refine ⟨by simp, ?_⟩
        have hcount := hcounted.counts.2
        simp [State.setAlarm, hcounts] at hcount ⊢
        exact hcount
  case not =>
    intro t r s h
    exact .unchanged (f := localUpdate r) rfl (localUpdate_not (by simpa using h))
  case acknowledged =>
    intro t r who s hroom hacc hcommitted
    refine .of (f := runCommand 0x2730 0x01 r (.num 0) who (acknowledge r)) rfl ?_
    rw [runCommand_accepted hacc, acknowledge_committed (by simpa using hcommitted)]
    refine ⟨answered_settle .., ?_, (Posted.first hroom (by simp [State.setAlarm]) (by simp [State.setAlarm]) _ _).answered who 0 _, by simp [State.setAlarm]⟩
    simp [State.alarmOf, State.setAlarm]
  case refused =>
    intro t r who s hacc hother
    refine .of (f := runCommand 0x2730 0x01 r (.num 0) who (acknowledge r)) rfl ?_
    rw [runCommand_accepted hacc, acknowledge_refused (by simpa using hother)]
    exact ⟨answered_settle .., by simp⟩

end Sys2Proof.Machine
end

section
/-! Shepherd's pins and datasets: what bringing them up to date leaves (R632, R633). -/

namespace Sys2Proof.Machine
open Sys2Proof

/-- The parts and objects that pins and GOOSE messages touch. -/
def shepherdParts : List Part := [.alarm, .port, .duplex]
def shepherdObjects : List (Nat × Nat) :=
  [(0x2711, 1), (0x2711, 2), (0x2712, 1), (0x2712, 2), (0x2720, 8), (0x2120, 0x12), (0x2111, 3)]

/-- Pins and datasets are brought up to date; what waits to leave the block and the events that wait stay. -/
structure ShepherdWork (s u : State) : Prop where
  touches : Touches shepherdParts shepherdObjects s u
  outs : u.outs = s.outs
  fifo : s.log.fifo <+: u.log.fifo

namespace ShepherdWork
variable {s u v : State}

theorem refl (s : State) : ShepherdWork s s := ⟨.refl _ _ _, rfl, List.prefix_rfl⟩

theorem trans (h : ShepherdWork s u) (g : ShepherdWork u v) : ShepherdWork s v :=
  ⟨h.touches.trans g.touches, g.outs.trans h.outs, h.fifo.trans g.fifo⟩

theorem foldl {α : Type} {f : State → α → State} {l : List α} (h : ∀ s, ∀ a ∈ l, ShepherdWork s (f s a)) (s : State) : ShepherdWork s (l.foldl f s) :=
  List.foldlRecOn l f (.refl s) fun u hu a ha => hu.trans (h u a ha)

theorem updatePins (s : State) : ShepherdWork s (updatePins s) :=
  ⟨(updatePins_only s).touches.mono (by decide) (by decide), (updatePins_only s).outs, by simp⟩

theorem setPin (p : Nat) (x : Pin) (s : State) : ShepherdWork s (s.setPin p x) :=
  ⟨by simp [State.setPin, shepherdParts], rfl, List.prefix_rfl⟩

theorem setRow {i j r : Nat} (m : (i, j) ∈ shepherdObjects) (hj : j < 256) (hr : r < 0x1000000) (n : Nat) (s : State) : ShepherdWork s (s.setRow i j r n) :=
  ⟨by simp [m, hj, hr], by simp, by simp⟩

theorem shepherdPin {p : Nat} (hp : p < 8) (s : State) : ShepherdWork s (shepherdPin p s) := by
  unfold Machine.shepherdPin
  split
  · exact .refl s
  · extract_lets c x w
    have hw : ShepherdWork s w := by
      unfold w
      split
      · exact .setPin ..
      · exact .refl s
    exact (hw.trans (.setRow (i := 0x2711) (j := 1) (r := p) (by decide) (by omega) (by omega) ..)).trans
      (.setRow (i := 0x2711) (j := 2) (r := p) (by decide) (by omega) (by omega) ..)

theorem allPins (s : State) : ShepherdWork s (allPins s) :=
  (updatePins s).trans (.foldl (fun _ _ hp => .shepherdPin (by simpa using hp) _) _)

theorem of_sends {ps : List Part} (h : Sends ps s u) (hps : ps ⊆ shepherdParts) : ShepherdWork s u := 
  ⟨h.touches.mono hps (by decide), h.outs, h.fifo⟩

theorem sentMark (source number : Nat) (s : State) : ShepherdWork s (sentMark source number s) := by
  unfold Machine.sentMark
  split
  · exact .of_sends (ps := [.port, .duplex]) (.sendMirror (by simp) (by simp) ..) (by decide)
  · exact .refl s

theorem putGooseFrame (mask cls : Nat) (dst frame : List Byte) (s : State) : ShepherdWork s (putGooseFrame mask cls dst frame s) := by
  unfold Machine.putGooseFrame
  refine (of_sends (ps := [.port]) (.sendMask (by simp) mask cls 0 0 dst 0x88B8 frame s) (by decide)).trans ?_
  exact ⟨by simp [shepherdObjects], by simp, by simp⟩

theorem sendGoose (mask cls d : Nat) (s : State) : ShepherdWork s (sendGoose mask cls d s) := by
  unfold Machine.sendGoose
  extract_lets x pdu frame dst n
  split
  · exact ⟨by simp [holdTx, shepherdParts], rfl, List.prefix_rfl⟩
  · exact .trans (.putGooseFrame ..) (.sentMark ..)

theorem putGoose {d : Nat} (hd : d < 16) (x : Goose) (s : State) : ShepherdWork s (putGoose d x s) := by
  have hrow : d < 0x1000000 := by omega
  unfold Machine.putGoose
  exact ⟨by simp [shepherdParts, shepherdObjects, hrow], by simp, by simp⟩

theorem gooseChange {d : Nat} (hd : d < 16) (mask cls : Nat) (members : List (Bool × Nat)) (s : State) :
    ShepherdWork s (gooseChange mask cls d members s) := by
  unfold Machine.gooseChange
  dsimp only
  split
  · exact .refl s
  · exact .trans (.putGoose hd ..) (.sendGoose ..)

theorem mem_shepherdSets {d : Nat} (h : d ∈ shepherdSets s) : d < 16 := by
  simp only [shepherdSets, List.mem_filter, List.mem_range] at h
  exact h.1

theorem shepherdGoose (s : State) : ShepherdWork s (shepherdGoose s) := by
  unfold Machine.shepherdGoose
  split
  · exact .foldl (fun _ _ hd => .gooseChange (mem_shepherdSets hd) ..) s
  · exact .refl s

theorem shepherdUpdate (s : State) : ShepherdWork s (shepherdUpdate s) := (allPins s).trans (.shepherdGoose _)

end ShepherdWork
end Sys2Proof.Machine
end

section
/-! The four-state rule, local streams, feeders and filter banks (R402, R415, R416, R430, R433, R606). -/

namespace Sys2Proof.Machine
open Sys2Proof

section head
variable {ps : List Part} {os : List (Nat × Nat)} {s u : State} {f l fn : Nat}

/-! ### Pending flags (R606) -/

@[simp] theorem fourFlag_setFour (s : State) (fn : Nat) (ep dp : Bool) : (s.setFour fn ep dp).fourFlag fn = (ep, dp) := by
  cases ep <;> cases dp <;> simp [State.fourFlag, State.setFour, tabGet, lookup_putKey_self, lookup_delKey_self, b2n, bit]

theorem fourFlag_of (h : u.power.fourFlags = s.power.fourFlags) (fn : Nat) : u.fourFlag fn = s.fourFlag fn := by simp [State.fourFlag, h]

theorem Touches.fourFlag (h : Touches ps os s u) (m : Part.power ∉ ps) (fn : Nat) : u.fourFlag fn = s.fourFlag fn := by
  have hpower : { u.power with faultN := s.power.faultN } = s.power := h.1 .power m
  exact fourFlag_of (by rw [← hpower]) fn

theorem setFour_frame (s : State) (fn : Nat) (ep dp : Bool) :
    (s.setFour fn ep dp).now = s.now ∧ (s.setFour fn ep dp).time = s.time ∧ (s.setFour fn ep dp).head = s.head ∧
    (s.setFour fn ep dp).status = s.status ∧ (s.setFour fn ep dp).live = s.live ∧ (s.setFour fn ep dp).active = s.active ∧
    (s.setFour fn ep dp).log = s.log ∧ (s.setFour fn ep dp).outs = s.outs ∧ (s.setFour fn ep dp).dev = s.dev := by
  simp [State.setFour, State.dev]

@[simp] theorem touches_setFour (m : Part.power ∈ ps) (fn : Nat) (ep dp : Bool) : Touches ps os s (u.setFour fn ep dp) ↔ Touches ps os s u := by
  simp [State.setFour, m]

/-! ### Local streams (R430) -/

theorem localState_of (h : u.status = s.status) (l : Nat) : localState u l = localState s l := by simp only [localState, State.ro_def, h]

theorem setLocalState_writes (hl : l < 4) (new : Nat) (s : State) :
    localState (setLocalState l new s) l = new ∧ (setLocalState l new s).power = s.power ∧ Touches [] [(0x2911, 1)] s (setLocalState l new s) := by
  have hrow : l < 0x1000000 := by omega
  unfold setLocalState
  dsimp only
  split
  next h => exact ⟨h, rfl, .refl _ _ _⟩
  next => exact ⟨by simp [localState, hrow], by simp, by simp [hrow]⟩

/-- STOPPING has no work: a local stream that is to stop is OFF, or STARTING again where an enable is pending. -/
theorem localMove_writes (hl : l < 4) (new : Nat) (s : State) :
    localState (localMove l new s) l = (if new = 3 then (if (s.fourFlag (fnLocal l)).1 then 1 else 0) else new) ∧
    (localMove l new s).fourFlag (fnLocal l) = (if new = 3 then (false, false) else s.fourFlag (fnLocal l)) ∧
    Touches [.power] [(0x2911, 1)] s (localMove l new s) := by
  obtain ⟨hstate, hpower, htouches⟩ := setLocalState_writes hl new s
  unfold localMove
  generalize setLocalState l new s = v at *
  have htouches : Touches [.power] [(0x2911, 1)] s v := htouches.mono (by simp) (by simp)
  have hflag : v.fourFlag (fnLocal l) = s.fourFlag (fnLocal l) := fourFlag_of (by rw [hpower]) _
  split
  next h =>
    simp only [fourEnd, hflag]
    generalize (if (s.fourFlag (fnLocal l)).1 = true then 1 else 0) = n
    obtain ⟨hstate', hpower', htouches'⟩ := setLocalState_writes hl n (v.setFour (fnLocal l) false false)
    have hset : Touches [.power] [(0x2911, 1)] s (v.setFour (fnLocal l) false false) := by simpa using htouches
    exact ⟨hstate', by rw [fourFlag_of (s := v.setFour (fnLocal l) false false) (by rw [hpower']), fourFlag_setFour], hset.trans (htouches'.mono (by simp) (by simp))⟩
  next h => exact ⟨by simpa [h] using hstate, by simpa [h] using hflag, htouches⟩

/-- A local stream follows its enable (R430, R606). -/
theorem localEnable_writes (hl : l < 4) (on : Bool) (hruns : headRuns s = true) (hstate : localState s l ≤ 2) (hflags : s.fourFlag (fnLocal l) = (false, false)) :
    localState (localEnable l on s) l = (if localState s l = 0 ∧ on = true then 1 else if localState s l = 2 ∧ on = false then 0 else localState s l) ∧
    (localEnable l on s).fourFlag (fnLocal l) = (false, localState s l == 1 && !on) ∧ Touches [.power] [(0x2911, 1)] s (localEnable l on s) := by
  unfold localEnable
  rw [if_pos (by simp [hl, hruns])]
  obtain hold | hold | hold : localState s l = 0 ∨ localState s l = 1 ∨ localState s l = 2 := by omega
  · cases on
    · simp [fourWrite, hold, hflags]
    · obtain ⟨hmoved, hkept, htouches⟩ := localMove_writes hl 1 s
      simp [fourWrite, hold, hflags, hmoved, hkept, htouches]
  · have hsame : localState (s.setFour (fnLocal l) false (!on)) l = localState s l := localState_of (by simp [State.setFour]) l
    simp [fourWrite, hold, hsame]
  · cases on
    · obtain ⟨hmoved, hkept, htouches⟩ := localMove_writes hl 3 s
      simp [fourWrite, hold, hflags, hmoved, hkept, htouches]
    · simp [fourWrite, hold, hflags]

theorem localOnNow_ready (hl : l < 4) (hstate : localState s l = 1) (hready : localReady s l = true) :
    localOnNow l s = localMove l (if (s.fourFlag (fnLocal l)).2 then 3 else 2) (s.setFour (fnLocal l) false false) := by
  simp [localOnNow, fourEnd, hl, hstate, hready]

theorem localOnNow_not (h : 4 ≤ l ∨ localState s l ≠ 1 ∨ localReady s l = false) : localOnNow l s = s := by
  unfold localOnNow
  rw [if_neg]
  simp only [Bool.and_eq_true, decide_eq_true_eq, beq_iff_eq]
  rintro ⟨⟨hl, hstate⟩, hready⟩
  obtain h | h | h := h
  · omega
  · exact h hstate
  · simp [hready] at h

/-! ### Feeders (R402) -/

theorem feederState_of (h : u.status = s.status) (f : Nat) : feederState u f = feederState s f := by simp only [feederState, State.ro_def, h]

/-- A feeder's state and what follows it: its local stream, Shepherd's pins and datasets. -/
theorem setFeederState_writes (hf : f < 4) (new : Nat) (s : State) :
    feederState (setFeederState f new s) f = new ∧
    Touches shepherdParts ((0x2912, 1) :: (0x2911, 1) :: shepherdObjects) s (setFeederState f new s) := by
  have hrow : f < 0x1000000 := by omega
  unfold setFeederState
  extract_lets old v w
  split
  next h => exact ⟨h, .refl _ _ _⟩
  next =>
    have hv : Touches shepherdParts ((0x2912, 1) :: (0x2911, 1) :: shepherdObjects) s v := by simp [v, hrow]
    have hlocal : feederState w f = new ∧ Touches shepherdParts ((0x2912, 1) :: (0x2911, 1) :: shepherdObjects) v w := by
      unfold w localRestart
      split
      · split
        · obtain ⟨-, -, h⟩ := setLocalState_writes hf 1 v
          refine ⟨?_, h.mono (by simp) (by simp)⟩
          simp only [feederState]
          rw [h.ro (by omega) hrow (by simp) (by omega)]
          simp [v, hrow]
        · exact ⟨by simp [feederState, v, hrow], .refl _ _ _⟩
      · exact ⟨by simp [feederState, v, hrow], .refl _ _ _⟩
    have hwork := (ShepherdWork.shepherdUpdate w).touches
    refine ⟨?_, (hv.trans hlocal.2).trans (hwork.mono (by simp) (by simp))⟩
    simp only [feederState]
    rw [hwork.ro (by omega) hrow (by decide) (by omega)]
    exact hlocal.1

/-! ### Channels -/

@[simp] theorem chan_setChan (s : State) (c : Nat) (x : ChannelSt) : (s.setChan c x).chan c = x := by simp [State.chan, State.setChan]

theorem chan_setChan_ne {c d : Nat} (h : d ≠ c) (s : State) (x : ChannelSt) : (s.setChan c x).chan d = s.chan d := by
  simp [State.chan, State.setChan, tabGet_putKey_ne h]

theorem chan_of (h : u.head = s.head) (c : Nat) : u.chan c = s.chan c := by simp [State.chan, h]
theorem feeder_of (h : u.head = s.head) (f : Nat) : u.feeder f = s.feeder f := by simp [State.feeder, h]

@[simp] theorem feeder_setFeeder (s : State) (f : Nat) (x : FeederSt) : (s.setFeeder f x).feeder f = x := by simp [State.feeder, State.setFeeder]

/-- A channel whose delay is to be measured afresh. -/
def forgetDelay (s : State) (c : Nat) : State :=
  (s.setChan c { s.chan c with drt := none, delayFault := false, waves := [] }).setRow 0x2920 0x01 c 0

theorem forgetDelay_writes {c : Nat} (hc : c < 24) (s : State) :
    ((forgetDelay s c).chan c).drt = none ∧ (∀ d, (s.chan d).drt = none → ((forgetDelay s c).chan d).drt = none) ∧
    (forgetDelay s c).head.feeders = s.head.feeders ∧ Touches [.head] [(0x2920, 1)] s (forgetDelay s c) := by
  have hrow : c < 0x1000000 := by omega
  have hchan (d : Nat) : (forgetDelay s c).chan d = (s.setChan c { s.chan c with drt := none, delayFault := false, waves := [] }).chan d :=
    chan_of (by simp [forgetDelay]) d
  refine ⟨by rw [hchan, chan_setChan], fun d hd => ?_, by simp [forgetDelay, State.setChan], by simp [forgetDelay, State.setChan, hrow]⟩
  rw [hchan]
  by_cases h : d = c
  · rw [h, chan_setChan]
  · rw [chan_setChan_ne h, hd]

theorem forgetDelays_writes {l : List Nat} (hf : f < 4) (hl : ∀ k ∈ l, k < 6) (s : State) :
    (∀ k ∈ l, ((l.foldl (fun s k => forgetDelay s (6 * f + k)) s).chan (6 * f + k)).drt = none) ∧
    (∀ d, (s.chan d).drt = none → ((l.foldl (fun s k => forgetDelay s (6 * f + k)) s).chan d).drt = none) ∧
    (l.foldl (fun s k => forgetDelay s (6 * f + k)) s).head.feeders = s.head.feeders ∧
    Touches [.head] [(0x2920, 1)] s (l.foldl (fun s k => forgetDelay s (6 * f + k)) s) := by
  induction l generalizing s with
  | nil => exact ⟨by simp, fun _ h => h, rfl, .refl _ _ _⟩
  | cons k l ih =>
    have hk : k < 6 := hl k (by simp)
    obtain ⟨hself, hkeep, hfeeders, htouches⟩ := forgetDelay_writes (c := 6 * f + k) (by omega) s
    obtain ⟨hrest, hkeep', hfeeders', htouches'⟩ := ih (fun j hj => hl j (by simp [hj])) (forgetDelay s (6 * f + k))
    rw [List.foldl_cons]
    refine ⟨fun j hj => ?_, fun d hd => hkeep' d (hkeep d hd), hfeeders'.trans hfeeders, htouches.trans htouches'⟩
    obtain rfl | hj := List.mem_cons.mp hj
    · exact hkeep' _ hself
    · exact hrest j hj

theorem feederBegin_writes (hf : f < 4) (s : State) :
    ((feederBegin f s).feeder f).measured = [] ∧ (∀ k ∈ List.range 6, ((feederBegin f s).chan (6 * f + k)).drt = none) ∧
    Touches [.head] [(0x2920, 1)] s (feederBegin f s) := by
  obtain ⟨hnone, -, hfeeders, htouches⟩ := forgetDelays_writes (l := List.range 6) hf (by simp) (s.setFeeder f { s.feeder f with measured := [], measuredAt := s.now })
  refine ⟨?_, hnone, .trans (by simp [State.setFeeder]) htouches⟩
  show (tabGet FeederSt.reset (List.foldl (fun s k => forgetDelay s (6 * f + k)) _ _).head.feeders f).measured = []
  rw [hfeeders]
  simp [State.setFeeder]

/-- A feeder follows the state the four-state rule gives it. -/
theorem feederMove_writes (hf : f < 4) (new : Nat) (s : State) :
    feederState (feederMove f new s) f = new ∧
    Touches (.head :: shepherdParts) ((0x2920, 1) :: (0x2912, 1) :: (0x2911, 1) :: shepherdObjects) s (feederMove f new s) ∧
    (new = 1 → ((feederMove f new s).feeder f).measured = [] ∧ ∀ k ∈ List.range 6, ((feederMove f new s).chan (6 * f + k)).drt = none) ∧
    (new ≠ 1 → (feederMove f new s).feeder f = (if new = 2 then { s.feeder f with onAt := s.now } else s.feeder f)) := by
  have hrow : f < 0x1000000 := by omega
  obtain ⟨hstate, htouches⟩ := setFeederState_writes hf new s
  unfold feederMove
  generalize setFeederState f new s = v at *
  have hv : Touches (.head :: shepherdParts) ((0x2920, 1) :: (0x2912, 1) :: (0x2911, 1) :: shepherdObjects) s v := htouches.mono (by simp) (by simp)
  have hhead : v.head = s.head := htouches.1 .head (by decide)
  dsimp only
  split
  next h1 =>
    obtain ⟨hmeasured, hnone, hbegin⟩ := feederBegin_writes hf v
    refine ⟨?_, hv.trans (hbegin.mono (by simp) (by simp)), fun _ => ⟨hmeasured, hnone⟩, fun h => absurd h1 h⟩
    simp only [feederState]
    rw [hbegin.ro (by omega) hrow (by simp) (by omega)]
    exact hstate
  next h1 =>
    split
    next =>
      refine ⟨by rw [feederState_of (s := v) (by simp [State.setFeeder]), hstate], hv.trans (by simp [State.setFeeder]), fun h => absurd h h1, fun _ => ?_⟩
      rw [feeder_setFeeder, feeder_of hhead, htouches.2.2]
    next => exact ⟨hstate, hv, fun h => absurd h h1, fun _ => feeder_of hhead f⟩

theorem feederOn_done (hf : f < 4) (hstate : feederState s f = 1)
    (hdone : svFed s f = true ∨ (6 ≤ (s.feeder f).measured.length ∧ (s.feeder f).measuredAt + ms 4 ≤ s.now)) :
    feederOn f s = feederMove f (if (s.fourFlag (fnFeeder f)).2 then 3 else 2) (s.setFour (fnFeeder f) false false) := by
  unfold feederOn
  rw [if_pos (by simpa [hf, hstate] using hdone)]
  simp [fourEnd]

theorem feederOn_not (h : 4 ≤ f ∨ feederState s f ≠ 1 ∨
      (svFed s f = false ∧ ((s.feeder f).measured.length < 6 ∨ s.now < (s.feeder f).measuredAt + ms 4))) : feederOn f s = s := by
  unfold feederOn
  dsimp only
  rw [if_neg]
  simp only [Bool.and_eq_true, Bool.or_eq_true, decide_eq_true_eq, beq_iff_eq]
  rintro ⟨⟨hf, hstate⟩, hdone⟩
  obtain h | h | ⟨hfed, h⟩ := h
  · omega
  · exact h hstate
  · simp only [hfed, Bool.false_eq_true, false_or] at hdone
    omega

theorem feederStopped_stopping (hf : f < 4) (hstate : feederState s f = 3) :
    feederStopped f s = feederMove f (if (s.fourFlag (fnFeeder f)).1 then 1 else 0) (s.setFour (fnFeeder f) false false) := by
  simp [feederStopped, fourEnd, hf, hstate]

theorem feederStopped_not (h : 4 ≤ f ∨ feederState s f ≠ 3) : feederStopped f s = s := by
  unfold feederStopped
  rw [if_neg]
  simp only [Bool.and_eq_true, decide_eq_true_eq, beq_iff_eq]
  rintro ⟨hf, hstate⟩
  obtain h | h := h
  · omega
  · exact h hstate

/-- What a feeder's enable leaves (R402, R606). -/
theorem feederEnable_writes (hf : f < 4) (on : Bool) (hserves : headServes s = true) (hstate : feederState s f ≤ 3) :
    feederState (feederEnable f on s) f = (if feederState s f = 0 ∧ on = true then 1 else if feederState s f = 2 ∧ on = false then 3 else feederState s f) ∧
    (feederEnable f on s).fourFlag (fnFeeder f) =
      (if feederState s f = 1 then (false, !on) else if feederState s f = 3 then (on, false) else s.fourFlag (fnFeeder f)) ∧
    (feederEnable f on s).live = s.live ∧
    (feederState s f = 0 → on = true → ((feederEnable f on s).feeder f).measured = [] ∧ ∀ k ∈ List.range 6, ((feederEnable f on s).chan (6 * f + k)).drt = none) := by
  unfold feederEnable
  rw [if_pos (by simp [hf, hserves])]
  have hsame (ep dp : Bool) : feederState (s.setFour (fnFeeder f) ep dp) f = feederState s f := feederState_of (by simp [State.setFour]) f
  obtain hold | hold | hold | hold : feederState s f = 0 ∨ feederState s f = 1 ∨ feederState s f = 2 ∨ feederState s f = 3 := by omega
  · cases on
    · simp [fourWrite, hold]
    · obtain ⟨hmoved, htouches, hbegun, -⟩ := feederMove_writes hf 1 s
      have hflag := htouches.fourFlag (by decide) (fnFeeder f)
      have hlive := htouches.1 .live (by decide)
      simp only [Part.same] at hlive
      simpa [fourWrite, hold, hmoved, hflag, hlive] using hbegun rfl
  · simp [fourWrite, hold, hsame]
    simp [State.setFour]
  · cases on
    · obtain ⟨hmoved, htouches, -⟩ := feederMove_writes hf 3 s
      have hflag := htouches.fourFlag (by decide) (fnFeeder f)
      have hlive := htouches.1 .live (by decide)
      simp only [Part.same] at hlive
      simp [fourWrite, hold, hmoved, hflag, hlive]
    · simp [fourWrite, hold]
  · simp [fourWrite, hold, hsame]
    simp [State.setFour]

/-! ### Sampled values and filter banks (R415, R416, R433) -/

theorem svLost_due (hr : l < 4) (hstate : s.ro 0x2922 0x01 l = 2) (hdue : (tabGet SvSt.reset s.head.sv l).lastFrame + ms 10 ≤ s.now) :
    svLost l s = raise 0x2907 (le 1 l ++ le 1 3) (s.setRow 0x2922 0x01 l 3) := by simp [svLost, hr, hstate, hdue]

theorem svLost_not (h : 4 ≤ l ∨ s.ro 0x2922 0x01 l ≠ 2 ∨ s.now < (tabGet SvSt.reset s.head.sv l).lastFrame + ms 10) : svLost l s = s := by
  unfold svLost
  dsimp only
  rw [if_neg]
  simp only [Bool.and_eq_true, decide_eq_true_eq, beq_iff_eq]
  rintro ⟨⟨hl, hstate⟩, hdue⟩
  obtain h | h | h := h
  · omega
  · exact h hstate
  · omega

theorem bankValid_of (hlive : u.live = s.live) (b : Nat) : bankValid u b = bankValid s b := by
  simp only [bankValid, bankLength, bankTaps, bankBytes, State.rwBytes, hlive]
  rfl

theorem bankLength_of (hlive : u.live = s.live) (b : Nat) : bankLength u b = bankLength s b := by
  simp only [bankLength, bankBytes, State.rwBytes, hlive]

theorem switchBank_begins {n : Nat} (hnone : s.head.fade = none) (hsafe : s.dev ≠ stSafeTalk) (hrecovery : s.dev ≠ stRecovery) (hlow : 1 ≤ n) (hhigh : n ≤ 1024)
    (hvalid : bankValid s (1 - s.ro 0x2921 0x01) = true) :
    switchBank n s = ((s.onHead fun h => { h with fade := some n, fadeWait := (bankLength s (1 - s.ro 0x2921 0x01) + 24) / 25 }).setRo 0x2921 0x02 n, 0) := by
  unfold switchBank
  dsimp only
  rw [if_neg (by simp [hnone, hsafe, hrecovery]), if_neg (by simp [hvalid]; omega)]

theorem switchBank_invalid {n : Nat} (hnone : s.head.fade = none) (hsafe : s.dev ≠ stSafeTalk) (hrecovery : s.dev ≠ stRecovery)
    (h : n < 1 ∨ 1024 < n ∨ bankValid s (1 - s.ro 0x2921 0x01) = false) : switchBank n s = (s, 0x05) := by
  unfold switchBank
  dsimp only
  rw [if_neg (by simp [hnone, hsafe, hrecovery]), if_pos h]

theorem switchBank_fading {n : Nat} (h : s.head.fade ≠ none) : switchBank n s = (s, 0x06) := by
  unfold switchBank
  dsimp only
  rw [if_pos (by simp [Option.isSome_iff_ne_none.mpr h])]

theorem fadeComplete_due {n : Nat} (hfade : s.head.fade = some n) (hdone : s.ro 0x2921 0x02 = 0) :
    fadeComplete s = raise 0x2904 (le 1 (1 - s.ro 0x2921 0x01) ++ le 2 n)
      (((s.onHead fun h => { h with fade := none }).setRo 0x2921 0x01 (1 - s.ro 0x2921 0x01)).bump 0x2940 0x05) := by
  simp [fadeComplete, hfade, hdone]

theorem fadeComplete_not (h : s.head.fade = none ∨ s.ro 0x2921 0x02 ≠ 0) : fadeComplete s = s := by
  unfold fadeComplete
  split
  next n hfade =>
    rw [if_neg]
    simpa [hfade] using h
  next => rfl

end head
theorem rw_of_live {s u : State} (h : u.live = s.live) (i j r : Nat) : u.rw i j r = s.rw i j r := by simp only [State.rw, h]

@[simp] theorem headRuns_advance (t : Nat) (s : State) : headRuns (s.advance t) = headRuns s := by simp [headRuns]
@[simp] theorem headServes_advance (t : Nat) (s : State) : headServes (s.advance t) = headServes s := by simp [headServes]
@[simp] theorem feederState_advance (t : Nat) (s : State) (f : Nat) : feederState (s.advance t) f = feederState s f := feederState_of (by simp) f
@[simp] theorem localState_advance (t : Nat) (s : State) (l : Nat) : localState (s.advance t) l = localState s l := localState_of (by simp) l
@[simp] theorem fourFlag_advance (t : Nat) (s : State) (fn : Nat) : (s.advance t).fourFlag fn = s.fourFlag fn := fourFlag_of (by simp) fn
@[simp] theorem feeder_advance (t : Nat) (s : State) (f : Nat) : (s.advance t).feeder f = s.feeder f := feeder_of (by simp) f
@[simp] theorem svFed_advance (t : Nat) (s : State) (f : Nat) : svFed (s.advance t) f = svFed s f := by simp [svFed]
@[simp] theorem bankValid_advance (t : Nat) (s : State) (b : Nat) : bankValid (s.advance t) b = bankValid s b := bankValid_of (by simp) b
@[simp] theorem bankLength_advance (t : Nat) (s : State) (b : Nat) : bankLength (s.advance t) b = bankLength s b := bankLength_of (by simp) b

@[simp] theorem fourFlag_settle (s : State) (fn : Nat) : (settle s).fourFlag fn = s.fourFlag fn := 
  (Touches.refl [] [] s).settle.fourFlag (by simp) fn
@[simp] theorem feederState_settle (s : State) {f : Nat} (hf : f < 4) : feederState (settle s) f = feederState s f :=
  ro_settle (a := 0x2912) (b := 1) (c := f) (by omega) (by omega) (by omega) s

theorem feederState_answered {f : Nat} (hf : f < 4) (who : Who) (n : Nat) (o : Out) (s : State) :
    feederState (settle ((account who n s).emit o)) f = feederState s f := by
  simp [feederState, show f < 0x1000000 by omega]

theorem localState_answered {l : Nat} (hl : l < 4) (who : Who) (n : Nat) (o : Out) (s : State) :
    localState (settle ((account who n s).emit o)) l = localState s l := by
  simp [localState, show l < 0x1000000 by omega]

theorem fourFlag_answered (who : Who) (n : Nat) (o : Out) (s : State) (fn : Nat) : (settle ((account who n s).emit o)).fourFlag fn = s.fourFlag fn := by
  rw [fourFlag_settle]
  exact fourFlag_of (by simp) fn

@[simp] theorem localState_settle (s : State) {l : Nat} (hl : l < 4) : localState (settle s) l = localState s l :=
  ro_settle (a := 0x2911) (b := 1) (c := l) (by omega) (by omega) (by omega) s

@[simp] theorem feederState_onPower (s : State) (g : PowerSt → PowerSt) (f : Nat) : feederState (s.onPower g) f = feederState s f := feederState_of (by simp) f
@[simp] theorem feeder_setFour (s : State) (fn : Nat) (ep dp : Bool) (f : Nat) : (s.setFour fn ep dp).feeder f = s.feeder f := feeder_of (by simp [State.setFour]) f
@[simp] theorem now_setFour (s : State) (fn : Nat) (ep dp : Bool) : (s.setFour fn ep dp).now = s.now := by simp [State.setFour]
@[simp] theorem feeder_settle (s : State) (f : Nat) : (settle s).feeder f = s.feeder f := feeder_of (by simp) f

/-- Settles O28. -/
theorem feedersAndLocalStreamsChangeState : Obligations.FeedersAndLocalStreamsChangeState := by
  refine ⟨?enable, ?on, ?onNot, ?stopped, ?stoppedNot, ?streamEnable, ?localOn, ?localOnNot, ?lost, ?lostNot, ?begins, ?invalid, ?fading, ?complete, ?completeNot⟩
  case enable =>
    intro t f on who s hf hacc hserves hstate
    refine .of (f := runWrite 0x2901 0x01 f (.num (b2n on)) who (feederEnable f on)) rfl ?_
    rw [runWrite_accepted hacc]
    generalize hv : (s.advance t).setLive 0x2901 0x01 f (.num (b2n on)) = v
    have hold : feederState v f = feederState s f := by rw [← hv, feederState_of (s := s) (by simp)]
    have hflags : v.fourFlag (fnFeeder f) = s.fourFlag (fnFeeder f) := by rw [← hv, fourFlag_of (s := s) (by simp)]
    obtain ⟨hnew, hpending, hlive, hbegun⟩ := feederEnable_writes (s := v) hf on (by
      rw [← hv]; simpa [headServes, headRuns] using hserves) (by rwa [hold])
    rw [hold] at hnew hpending hbegun
    rw [hflags] at hpending
    refine ⟨answered_settle .., ?_, ?_, ?_, fun h0 hon => ?_⟩
    · rw [rw_of_live (s := v) (by simp [hlive]), ← hv, rw_setLive_self]
      rfl
    · rw [feederState_answered hf, hnew]
    · rw [fourFlag_answered, hpending]
    · obtain ⟨hmeasured, hnone⟩ := hbegun h0 hon
      exact ⟨by rw [feeder_of (s := feederEnable f on v) (by simp), hmeasured], fun k hk => by rw [chan_of (s := feederEnable f on v) (by simp), hnone k hk]⟩
  case on =>
    intro t f s hf hstate hdone
    refine .of (f := feederOn f) rfl ?_
    rw [feederOn_done hf (by simpa using hstate) (by simpa using hdone)]
    obtain ⟨hmoved, htouches, -, hfeeder⟩ := feederMove_writes hf (if ((s.advance t).fourFlag (fnFeeder f)).2 then 3 else 2) ((s.advance t).setFour (fnFeeder f) false false)
    have hflag := htouches.fourFlag (by decide) (fnFeeder f)
    rw [fourFlag_advance] at *
    refine ⟨by rw [feederState_settle _ hf, hmoved], by rw [fourFlag_settle, hflag, fourFlag_setFour], ?_⟩
    rw [feeder_settle, hfeeder (by split <;> omega)]
    cases (s.fourFlag (fnFeeder f)).2 <;> simp
  case onNot =>
    intro t f s h
    exact .unchanged (f := feederOn f) rfl (feederOn_not (by simpa using h))
  case stopped =>
    intro t f s hf hstate
    refine .of (f := feederStopped f) rfl ?_
    rw [feederStopped_stopping hf (by simpa using hstate)]
    obtain ⟨hmoved, htouches, -, -⟩ := feederMove_writes hf (if ((s.advance t).fourFlag (fnFeeder f)).1 then 1 else 0) ((s.advance t).setFour (fnFeeder f) false false)
    have hflag := htouches.fourFlag (by decide) (fnFeeder f)
    refine ⟨by rw [feederState_settle _ hf, hmoved, fourFlag_advance]; rfl, by rw [fourFlag_settle, hflag, fourFlag_setFour]⟩
  case stoppedNot =>
    intro t f s h
    exact .unchanged (f := feederStopped f) rfl (feederStopped_not (by simpa using h))
  case streamEnable =>
    intro t l on who s hl hacc hruns hstate hflags
    refine .of (f := runWrite 0x2910 0x01 l (.num (b2n on)) who (localEnable l on)) rfl ?_
    rw [runWrite_accepted hacc]
    generalize hv : (s.advance t).setLive 0x2910 0x01 l (.num (b2n on)) = v
    have hold : localState v l = localState s l := by rw [← hv, localState_of (s := s) (by simp)]
    have hpending : v.fourFlag (fnLocal l) = s.fourFlag (fnLocal l) := by rw [← hv, fourFlag_of (s := s) (by simp)]
    obtain ⟨hnew, hflag, htouches⟩ := localEnable_writes (s := v) hl on (by rw [← hv]; simpa [headRuns] using hruns) (by rwa [hold]) (by rwa [hpending])
    rw [hold] at hnew hflag
    have hlive : (localEnable l on v).live = v.live := htouches.1 .live (by simp)
    refine ⟨answered_settle .., ?_, by rw [localState_answered hl, hnew], by rw [fourFlag_answered, hflag], ?_⟩
    · rw [rw_of_live (s := v) (by simp [hlive]), ← hv, rw_setLive_self]
      rfl
    · have hall := htouches.mono (ps' := [.live, .power, .imian]) (os' := [(0x2911, 1), (0x1120, 1), (0x1120, 2)]) (by simp) (by simp)
      have hv : Touches [.live, .power, .imian] [(0x2911, 1), (0x1120, 1), (0x1120, 2)] (s.advance t) v := by simp [← hv]
      simpa using hv.trans hall
  case localOn =>
    intro t l s hl hstate hready
    refine .of (f := localOnNow l) rfl ?_
    rw [localOnNow_ready hl (by simpa using hstate) hready]
    obtain ⟨hmoved, hflag, htouches⟩ := localMove_writes hl (if ((s.advance t).fourFlag (fnLocal l)).2 then 3 else 2) ((s.advance t).setFour (fnLocal l) false false)
    refine ⟨?_, ?_, ?_⟩
    · rw [localState_settle _ hl, hmoved, fourFlag_advance, fourFlag_setFour]
      cases (s.fourFlag (fnLocal l)).2 <;> simp
    · rw [fourFlag_settle, hflag, fourFlag_setFour]
      simp
    · exact (Touches.trans (by simp) htouches).settle
  case localOnNot =>
    intro t l s h
    exact .unchanged (f := localOnNow l) rfl (localOnNow_not (by simpa using h))
  case lost =>
    intro t r s hroom hr hstate hdue
    refine .of (f := svLost r) rfl ?_
    rw [svLost_due hr (by simpa using hstate) (by simpa using hdue)]
    have hrow : r < 0x1000000 := by omega
    exact ⟨by simp [hrow], (Posted.first hroom (by simp) (by simp) _ _).settle, by simp [hrow]⟩
  case lostNot =>
    intro t r s h
    exact .unchanged (f := svLost r) rfl (svLost_not (by simpa using h))
  case begins =>
    intro t n who s hacc hnone hsafe hrecovery hlow hhigh hvalid
    refine .of (f := runCommand 0x2930 0x02 noRow (.num n) who (switchBank n)) rfl ?_
    rw [runCommand_accepted hacc, switchBank_begins (by simpa using hnone) (by simpa using hsafe) (by simpa using hrecovery) hlow hhigh (by simpa using hvalid)]
    exact ⟨answered_settle .., by simp, by simp, by simp⟩
  case invalid =>
    intro t n who s hacc hnone hsafe hrecovery h
    refine .of (f := runCommand 0x2930 0x02 noRow (.num n) who (switchBank n)) rfl ?_
    rw [runCommand_accepted hacc, switchBank_invalid (by simpa using hnone) (by simpa using hsafe) (by simpa using hrecovery) (by simpa using h)]
    exact ⟨answered_settle .., by simp⟩
  case fading =>
    intro t n who s hacc h
    refine .of (f := runCommand 0x2930 0x02 noRow (.num n) who (switchBank n)) rfl ?_
    rw [runCommand_accepted hacc, switchBank_fading (by simpa using h)]
    exact ⟨answered_settle .., by simp⟩
  case complete =>
    intro t n s hroom hfade hdone
    refine .of (f := fadeComplete) rfl ?_
    rw [fadeComplete_due (n := n) (by simpa using hfade) (by simpa using hdone)]
    have hbank : (s.advance t).ro 0x2921 0x01 = s.ro 0x2921 0x01 := by simp
    rw [hbank]
    refine ⟨by simp, by simp, ?_, (Posted.first hroom (by simp) (by simp) _ _).settle, by simp⟩
    simp
    rfl
  case completeNot =>
    intro t s h
    exact .unchanged (f := fadeComplete) rfl (fadeComplete_not (by simpa using h))

end Sys2Proof.Machine
end

section
/-! Headwater's estimator: a number of a group that no group has (R200, R426). -/

namespace Sys2Proof.Machine
open Sys2Proof

/-- The row of 0x2320:03 that stands where row 0 of 0x2911:03 does. -/
def strayGroup : Nat := (0x2911 - 0x2320) * 0x100000000

/-- A slot that has been released, lacks its one stream, and has waited long enough. -/
def releasedSlot : Slot :=
  { state := 2, boundary := 0, nominal := 0, rate := 50, wait := 0, specWait := 0, quorum := 0, floor := 0, tolerances := [], budget := 0, speculative := true,
    expected := [0], quorumSet := [0], arrived := [], firstAt := none, arrivedAtRelease := none, frames := [], cells := [], predicted := [], stash := [],
    predictedStreams := 0, cause := 2, releaseT96 := 0, commitT96 := 0, cls := 0, undo := none, latched := [] }

/-- A state in RUN with feeder 0 ON and fed by sampled values, its local stream of class M, and with decisions that wait of a group numbered `strayGroup`. -/
def strayEstimator : State :=
  { State.reset with
    power := { PowerSt.reset with state := stRun }
    time := { TimeSt.reset with isSet := true, t96x := 2 ^ 93 }
    active := [(okey 0x2901 0x02 0, .num 1), (okey 0x2910 0x03 0, .num 1)]
    status := [(okey 0x2912 0x01 0, .num 2)]
    ingest := { IngestSt.reset with deciding := [strayGroup] }
    groups := [(strayGroup, { Group.reset with rate := 50, slots := [(7, releasedSlot)] })] }

/-- Refutes O29: ESTIMATOR_OUTPUT takes the decisions that wait, and a slot of group `strayGroup` committed incomplete counts in row 0 of 0x2911:03. -/
theorem not_channelsAreMeasured : ¬ Obligations.ChannelsAreMeasured := by
  intro h
  obtain ⟨-, -, -, -, -, -, -, -, -, -, -, -, -, hestimate, -⟩ := h
  obtain ⟨u, hu, hfreq, -⟩ := hestimate 0 0 2 true strayEstimator (by decide) (by decide) (by decide +kernel) (by decide +kernel) (by decide +kernel)
    (by decide +kernel) (by decide +kernel)
  obtain rfl : settle (settleDecisions (estimatorOutput 0 true 2 (strayEstimator.advance 0))) = u := Host.Outcome.next.inj hu
  exact absurd hfreq (by decide +kernel)

end Sys2Proof.Machine
end

section
/-! Capture: a store row that no record has (R454). -/

namespace Sys2Proof.Machine
open Sys2Proof

/-- The row of 0x2A20:04 that stands where 0x2A40:04 does. -/
def strayRow : Nat := (0x2A40 - 0x2A20) * 0x100000000 + noRow

/-- An empty record that is being made in the store row `strayRow`. -/
def strayRecord : CapRecord :=
  { number := 0, pre := [], post := [], wantPre := 0, target := 1, cap := 1, extending := [], trigs := [], unlisted := 0, actAt := 0, flags := 0, cause := 0,
    row := strayRow }

/-- A state in RUN in which capture makes `strayRecord`. -/
def strayCapture : State :=
  { State.reset with power := { PowerSt.reset with state := stRun }, capture := { CaptureSt.reset with record := some strayRecord } }

/-- Refutes O30: CAPTURE_OVERFLOW bounds no store row, and the state shown of row `strayRow` lands in the counter 0x2A40:04. -/
theorem not_captureRecordsAreMade : ¬ Obligations.CaptureRecordsAreMade := by
  intro h
  obtain ⟨-, -, -, -, -, -, -, -, hoverflow, -⟩ := h
  obtain ⟨u, hu, -, -, -, -, hcount, -⟩ := hoverflow 0 strayRecord strayCapture (by decide +kernel) rfl
  obtain rfl : settle (captureOverflow (strayCapture.advance 0)) = u := Host.Outcome.next.inj hu
  exact absurd hcount (by decide +kernel)

end Sys2Proof.Machine
end

section
/-! Records that leave the store: export, release, and the space that is found again (R451, R454, R459). -/

namespace Sys2Proof.Machine
open Sys2Proof

section store
variable {s u : State} {r k a b c : Nat} {x : CapRecord}

/-! ### Bits of INT_STATUS -/

theorem div_setBit (n i : Nat) (b : Bool) : setBit n i b / 2 ^ i / 2 = n / 2 ^ i / 2 := by
  have hpos : 0 < 2 ^ i := Nat.two_pow_pos i
  unfold setBit
  by_cases hset : n / 2 ^ i % 2 = 1
  · cases b with
    | true => simp [bit, hset]
    | false =>
      have hle : 1 * 2 ^ i ≤ n := (Nat.le_div_iff_mul_le hpos).mp (by generalize n / 2 ^ i = m at *; omega)
      have hsub : (n - 2 ^ i) / 2 ^ i = n / 2 ^ i - 1 := by simpa using Nat.sub_mul_div n (2 ^ i) 1
      simp only [bit, hset, decide_true, Bool.true_beq, Bool.false_eq_true, if_false, hsub]
      generalize n / 2 ^ i = m at *
      omega
  · cases b with
    | false => simp [bit, hset]
    | true =>
      have hadd : (n + 2 ^ i) / 2 ^ i = n / 2 ^ i + 1 := Nat.add_div_right n hpos
      simp only [bit, hset, decide_false, Bool.false_beq, Bool.not_true, Bool.false_eq_true, if_false, if_true, hadd]
      generalize n / 2 ^ i = m at *
      omega

theorem bit_setBit_gt (n : Nat) {i j : Nat} (h : i < j) (b : Bool) : bit (setBit n i b) j = bit n j := by
  obtain ⟨k, rfl⟩ := Nat.exists_eq_add_of_lt h
  have hsplit (m : Nat) : m / 2 ^ (i + k + 1) = m / 2 ^ i / 2 / 2 ^ k := by
    rw [Nat.div_div_eq_div_mul, Nat.div_div_eq_div_mul, Nat.pow_succ, Nat.pow_add, Nat.mul_assoc, Nat.mul_comm 2]
  rw [bit, bit, hsplit, hsplit, div_setBit]

@[simp] theorem bit_setBit_ne (n : Nat) {i j : Nat} (h : j ≠ i) (b : Bool) : bit (setBit n i b) j = bit n j := by
  rcases Nat.lt_or_gt_of_ne h with h | h
  · exact bit_setBit_lt n h b
  · exact bit_setBit_gt n h b

@[simp] theorem bit_interrupt_ne {i j : Nat} (h : j ≠ i) (s : State) : bit (s.interrupt i).host.intStatus j = bit s.host.intStatus j := by
  unfold State.interrupt State.signal
  repeat' split
  all_goals simp [h]

/-- A packet for a Sluice raises only that Sluice's interrupt and leaves the rings' export alone. -/
@[simp] theorem bit_sluicePost {q j : Nat} (h : j ≠ q) (words : List Nat) (s : State) :
    bit (sluicePost q words s).host.intStatus j = bit s.host.intStatus j := by
  have hlose (owe : Bool) (v : State) : (sluiceLose q owe v).host.intStatus = v.host.intStatus := by simp [sluiceLose, State.setSluice]
  have hcommit (l : List (List Nat)) (v : State) : bit (sluiceCommit q l v).host.intStatus j = bit v.host.intStatus j := by
    unfold sluiceCommit
    extract_lets x n was y
    unfold sluiceInterrupt
    split <;> simp [h, State.setSluice]
  unfold sluicePost
  dsimp only
  repeat' split
  all_goals simp [hlose, hcommit, State.setSluice]

@[simp] theorem interrupt_exporting (n : Nat) (s : State) : (s.interrupt n).host.exporting = s.host.exporting := by
  unfold State.interrupt State.signal
  repeat' split
  all_goals simp

@[simp] theorem sluicePost_exporting (q : Nat) (words : List Nat) (s : State) : (sluicePost q words s).host.exporting = s.host.exporting := by
  have hlose (owe : Bool) (v : State) : (sluiceLose q owe v).host.exporting = v.host.exporting := by simp [sluiceLose, State.setSluice]
  have hcommit (l : List (List Nat)) (v : State) : (sluiceCommit q l v).host.exporting = v.host.exporting := by
    unfold sluiceCommit
    extract_lets x n was y
    unfold sluiceInterrupt
    split <;> simp [State.setSluice]
  unfold sluicePost
  dsimp only
  repeat' split
  all_goals simp [hlose, hcommit, State.setSluice]

/-! ### Rows cleared, packets posted -/

theorem ro_clearRow (s : State) (i j k a b c : Nat) :
    (s.clearRow i j k).ro a b c = if okey a b c = okey i j k then (defaultOf a b c).bits else s.ro a b c := by
  simp only [State.ro_def, State.clearRow, readIn]
  split
  next h => rw [h, lookup_delKey_self, Option.getD_none]
  next h => rw [lookup_delKey_ne h]

theorem ro_clearRow_self (s : State) (i j k : Nat) : (s.clearRow i j k).ro i j k = (defaultOf i j k).bits := by rw [ro_clearRow, if_pos rfl]


@[simp] theorem ro_sluicePost (ha : a < 0x2D10) (hb : b < 256) (hc : c < 0x1000000) (q : Nat) (words : List Nat) (s : State) :
    (sluicePost q words s).ro a b c = s.ro a b c := by
  have hlose (owe : Bool) : (sluiceLose q owe s).ro a b c = s.ro a b c := by simp [sluiceLose, ha, hb, hc]
  unfold sluicePost
  dsimp only
  repeat' split
  all_goals simp [hlose, ha, hb, hc]

@[simp] theorem ro_captureNotice (ha : a < 0x2D10) (hb : b < 256) (hc : c < 0x1000000) (kind row flags cause number t0 rows : Nat) (s : State) :
    (captureNotice kind row flags cause number t0 rows s).ro a b c = s.ro a b c := ro_sluicePost ha hb hc 3 _ s

@[simp] theorem captureNotice_frame (kind row flags cause number t0 rows : Nat) (s : State) :
    (captureNotice kind row flags cause number t0 rows s).capture = s.capture ∧ (captureNotice kind row flags cause number t0 rows s).power = s.power ∧
    (captureNotice kind row flags cause number t0 rows s).active = s.active ∧
    (captureNotice kind row flags cause number t0 rows s).log.fifo = s.log.fifo := by simp [captureNotice]

@[simp] theorem showFree_frame (s : State) :
    (showFree s).capture = s.capture ∧ (showFree s).power = s.power ∧ (showFree s).active = s.active ∧ (showFree s).log = s.log ∧ (showFree s).host = s.host := by
  simp [showFree]

@[simp] theorem ro_showFree (ha : (a, b) ≠ (0x2A01, 5)) (hb : b < 256) (hc : c < 0x1000000) (s : State) : (showFree s).ro a b c = s.ro a b c := by
  simp [showFree, ha, hb, hc]

/-! ### Releasing rows -/

theorem releaseRow_none (h : lookup r s.capture.store = none) : releaseRow r s = s := by simp [releaseRow, h]

/-- What releasing a stored row leaves (R458, R459). -/
theorem releaseRow_stored (h : lookup r s.capture.store = some x) :
    (releaseRow r s).capture = { s.capture with store := delKey r s.capture.store, exported := s.capture.exported.filter fun k => k != r } ∧
    (releaseRow r s).power = s.power ∧ (releaseRow r s).log.fifo = s.log.fifo ∧
    (∀ a b c, a < 0x2D10 → (a, b) ≠ (0x2A01, 5) → b < 256 → c < 0x1000000 →
      (releaseRow r s).ro a b c = (((s.clearRow 0x2A20 2 r).clearRow 0x2A20 3 r).clearRow 0x2A20 4 r).ro a b c) ∧
    (releaseRow r s).host.exporting = s.host.exporting ∧ ∀ j, j ≠ 3 → bit (releaseRow r s).host.intStatus j = bit s.host.intStatus j := by
  unfold releaseRow
  simp only [h]
  refine ⟨by simp, by simp, by simp, fun a b c ha hne hb hc => ?_, by simp [captureNotice], fun j hj => by simp [captureNotice, hj]⟩
  rw [ro_showFree hne hb hc, ro_captureNotice ha hb hc]
  rfl

/-- A row of 0x2A20:04 that shows an empty row. -/
def RowEmpty (r : Nat) (s : State) : Prop := lookup r s.capture.store = none ∧ r ∉ s.capture.exported ∧ s.ro 0x2A20 0x04 r = 0

theorem lookup_delKey_of_none {α : Type} {r : Nat} (k : Nat) {l : List (Nat × α)} (h : lookup r l = none) : lookup r (delKey k l) = none := by
  by_cases hk : r = k
  · rw [hk, lookup_delKey_self]
  · rw [lookup_delKey_ne hk, h]

theorem default_recordState (r : Nat) : (defaultOf 0x2A20 0x04 r).bits = 0 := rfl

theorem ro_clearRow_zero (h : s.ro 0x2A20 0x04 r = 0) (i j k : Nat) : (s.clearRow i j k).ro 0x2A20 0x04 r = 0 := by
  rw [ro_clearRow]
  split
  · exact default_recordState r
  · exact h

/-- Releasing another row leaves an empty row empty. -/
theorem RowEmpty.releaseRow (hr : r < 16) (h : RowEmpty r s) (k : Nat) : RowEmpty r (releaseRow k s) := by
  obtain ⟨hstore, hexported, hshown⟩ := h
  cases hk : lookup k s.capture.store with
  | none => rw [releaseRow_none hk]; exact ⟨hstore, hexported, hshown⟩
  | some x =>
    obtain ⟨hcapture, -, -, hro, -, -⟩ := releaseRow_stored hk
    refine ⟨by rw [hcapture]; exact lookup_delKey_of_none k hstore, by rw [hcapture]; simp [hexported], ?_⟩
    rw [hro _ _ _ (by omega) (by simp) (by omega) (by omega)]
    exact ro_clearRow_zero (ro_clearRow_zero (ro_clearRow_zero hshown _ _ _) _ _ _) _ _ _

theorem RowEmpty.makeRoom (hr : r < 16) (n : Nat) (l : List Nat) (h : RowEmpty r s) : RowEmpty r (makeRoom n l s) := by
  induction l generalizing s with
  | nil => exact h
  | cons k l ih =>
    unfold Machine.makeRoom
    split
    · exact h
    · exact ih (h.releaseRow hr k)

theorem RowEmpty.of (h : RowEmpty r s) (hstore : u.capture.store = s.capture.store) (hexported : u.capture.exported = s.capture.exported)
    (hro : u.ro 0x2A20 0x04 r = s.ro 0x2A20 0x04 r) : RowEmpty r u := ⟨by rw [hstore]; exact h.1, by rw [hexported]; exact h.2.1, hro.trans h.2.2⟩

theorem RowEmpty.reserve (hr : r < 16) (h : RowEmpty r s) : RowEmpty r (reserve s).2 := by
  unfold Machine.reserve
  extract_lets c n fits v
  split
  · exact h
  · split
    · exact h.of rfl rfl rfl
    · have hv : RowEmpty r v := by
        unfold v
        split
        · exact h.makeRoom hr ..
        · exact h
      split
      · exact hv.of rfl rfl rfl
      · exact hv

theorem RowEmpty.arm (hr : r < 16) (h : RowEmpty r s) : RowEmpty r (arm s) := by
  have hrow : r < 0x1000000 := by omega
  have hreserve := h.reserve hr
  unfold Machine.arm
  generalize Machine.reserve s = p at *
  obtain ⟨row, v⟩ := p
  dsimp only
  split
  · exact hreserve.of (by simp) (by simp) (by simp [hrow])
  · exact hreserve.of (by simp) (by simp) (by simp [hrow])

theorem RowEmpty.unblock (hr : r < 16) (h : RowEmpty r s) : RowEmpty r (unblock s) := by
  unfold Machine.unblock
  split
  · exact h.arm hr
  · exact h

/-- Space that can be reserved arms capture (R446, R451). -/
theorem arm_reserved (h : (reserve s).1.isSome = true) : recordState (arm s) = recArmed := by
  unfold arm
  generalize reserve s = p at *
  obtain ⟨row, v⟩ := p
  obtain ⟨k, rfl⟩ := Option.isSome_iff_exists.mp h
  simp [recordState]

theorem unblock_of (h : recordState s ≠ recBlocked) : unblock s = s := by
  unfold unblock
  rw [if_neg fun hall => h hall.2.1]

/-- The record states stand below the rows of the store. -/
theorem releaseRow_states (hr : r < 16) (h : lookup r s.capture.store = some x) :
    recordState (releaseRow r s) = recordState s ∧ captureState (releaseRow r s) = captureState s ∧ RowEmpty r (releaseRow r s) := by
  obtain ⟨hcapture, -, -, hro, -, -⟩ := releaseRow_stored h
  have hstate (j : Nat) (hj : j < 256) (hne : j ≠ 5) : (releaseRow r s).ro 0x2A01 j = s.ro 0x2A01 j := by
    rw [hro _ _ _ (by omega) (by simpa using hne) hj (by decide)]
    have hkey {i : Nat} (hi : i < 256) : okey 0x2A01 j noRow ≠ okey 0x2A20 i r := okey_ne (by simp) hi (by omega) hj (by decide)
    rw [ro_clearRow, if_neg (hkey (by omega)), ro_clearRow, if_neg (hkey (by omega)), ro_clearRow, if_neg (hkey (by omega))]
  refine ⟨hstate 2 (by omega) (by omega), hstate 1 (by omega) (by omega), by rw [hcapture]; exact lookup_delKey_self .., by rw [hcapture]; simp, ?_⟩
  rw [hro _ _ _ (by omega) (by simp) (by omega) (by omega), ro_clearRow_self]
  exact default_recordState r

theorem releaseRecord_free (hstored : lookup r s.capture.store = some x) (hidle : s.ro 0x2A20 0x04 r ≠ 3) :
    releaseRecord r s = (unblock (releaseRow r s), 0) := by
  unfold releaseRecord
  rw [if_neg (by simp [hstored, hidle])]

theorem releaseRecord_refused (h : (lookup r s.capture.store).isNone = true ∨ s.ro 0x2A20 0x04 r = 3) : releaseRecord r s = (s, 0x06) := by
  unfold releaseRecord
  rw [if_pos]
  simpa [or_comm] using h

theorem exportRecord_begins (hstored : lookup r s.capture.store = some x) (hnone : s.host.exporting = none) (hlink : pcieOn s = true) :
    exportRecord r s = (exportBegin 0 r [x.bytes] (s.setRow 0x2A20 0x04 r 3), 0) := by
  simp [exportRecord, hstored, hnone, hlink]

theorem exportRecord_refused (h : (lookup r s.capture.store).isNone = true ∨ s.host.exporting ≠ none ∨ pcieOn s = false) :
    exportRecord r s = (s, 0x06) := by
  unfold exportRecord
  split
  next => rfl
  next x hstored =>
    rw [if_pos]
    simpa [hstored, Option.isSome_iff_ne_none] using h

/-- The row of a record whose export has completed, with its notice and its event (R459). -/
def exportedRecord (r : Nat) (x : CapRecord) (s : State) : State :=
  captureNotice 2 r x.flags x.cause x.number x.t0 x.rows.length (markExported r (exportEnd (exportDescriptor 0 x.number s)))

theorem exportedRecord_leaves (hr : r < 16) (s : State) :
    (exportedRecord r x s).host.exporting = none ∧ bit (exportedRecord r x s).host.intStatus 10 = true ∧
    (exportedRecord r x s).power = s.power ∧ (exportedRecord r x s).active = s.active ∧ (exportedRecord r x s).log.fifo = s.log.fifo ∧
    (exportedRecord r x s).capture.store = s.capture.store ∧ r ∈ (exportedRecord r x s).capture.exported ∧
    (exportedRecord r x s).ro 0x2A20 0x04 r = 4 ∧ recordState (exportedRecord r x s) = recordState s := by
  have hrow : r < 0x1000000 := by omega
  refine ⟨?_, ?_, ?_, ?_, ?_, ?_, ?_, ?_, ?_⟩
  all_goals simp [exportedRecord, markExported, exportEnd, exportDescriptor, recordState, captureNotice, bit_interrupt, hrow]

theorem recordExportDone_due (hexporting : s.host.exporting = some (0, r)) (hleft : s.host.exportLeft = []) (hstored : lookup r s.capture.store = some x) :
    recordExportDone s = (let v := raise 0x2A06 (le 4 x.number) (exportedRecord r x s); if v.cfgB 0x2A00 0x07 then unblock (releaseRow r v) else v) := by
  unfold recordExportDone
  simp only [hexporting, hleft, hstored]
  rfl

theorem recordExportDone_not (h : s.host.exporting.map (·.1) ≠ some 0 ∨ s.host.exportLeft ≠ []) : recordExportDone s = s := by
  unfold recordExportDone
  split
  next r hexporting =>
    rw [if_pos]
    simpa [hexporting] using h
  next => rfl

end store

/-- Settles O31. -/
theorem captureRecordsLeaveTheStore : Obligations.CaptureRecordsLeaveTheStore := by
  refine ⟨?exports, ?exportRefused, ?done, ?notDone, ?release, ?releaseRefused⟩
  case exports =>
    intro t r x who s hacc hr hstored hnone hlink
    refine .of (f := runCommand 0x2A30 0x02 r (.num 0) who (exportRecord r)) rfl ?_
    rw [runCommand_accepted hacc, exportRecord_begins (x := x) (by simpa using hstored) (by simpa using hnone) (by simpa using hlink)]
    have hrow : r < 0x1000000 := by omega
    obtain ⟨hexporting, hstart, -, -, hstatus, hcapture⟩ := exportBegin_holds 0 r [x.bytes] ((s.advance t).setRow 0x2A20 0x04 r 3)
    have hro : (exportBegin 0 r [x.bytes] ((s.advance t).setRow 0x2A20 0x04 r 3)).ro 0x2A20 0x04 r = 3 := by
      rw [State.ro_def, hstatus]
      simp
      rfl
    exact ⟨answered_settle .., by simpa using hexporting, by simpa using hstart, by simpa [hrow] using hro, by simpa using hcapture⟩
  case exportRefused =>
    intro t r who s hacc h
    refine .of (f := runCommand 0x2A30 0x02 r (.num 0) who (exportRecord r)) rfl ?_
    rw [runCommand_accepted hacc, exportRecord_refused (by simpa using h)]
    exact ⟨answered_settle .., by simp⟩
  case done =>
    intro t r x s hroom hr hexporting hleft hstored hblocked
    refine .of (f := recordExportDone) rfl ?_
    have hrow : r < 0x1000000 := by omega
    rw [recordExportDone_due (x := x) (by simpa using hexporting) (by simpa using hleft) (by simpa using hstored)]
    obtain ⟨hexporting, hbit, hpower, hactive, hfifo, hstore, hexported, hshown, hstate⟩ := exportedRecord_leaves (x := x) hr (s.advance t)
    generalize exportedRecord r x (s.advance t) = w at *
    have hposted : Posted 0x2A06 (le 4 x.number) s (raise 0x2A06 (le 4 x.number) w) :=
      FewEvents.posted (n := 0) (u := w) (by simp [FewEvents, hfifo]) hroom (by omega) (by simpa using hpower) _ _
    have hcfg : (raise 0x2A06 (le 4 x.number) w).cfgB 0x2A00 0x07 = s.cfgB 0x2A00 0x07 := by
      simp [State.cfgB, State.cfg, hactive]
    dsimp only
    by_cases hauto : s.cfgB 0x2A00 0x07 = true
    · obtain ⟨hrecord, -, hempty⟩ := releaseRow_states (s := raise 0x2A06 (le 4 x.number) w) (x := x) hr (by simpa [hstore] using hstored)
      rw [hcfg, if_pos hauto, if_pos hauto, unblock_of]
      · obtain ⟨hcapture, -, hkept, -, hends, hbits⟩ :=
          releaseRow_stored (s := raise 0x2A06 (le 4 x.number) w) (x := x) (by simpa [hstore] using hstored)
        have hlater := hposted.later (v := releaseRow r (raise 0x2A06 (le 4 x.number) w)) (by simp only [hkept, List.prefix_refl])
        exact ⟨by simp [hends, hexporting], by simp [hbits, hbit], hlater.settle, by simpa [hrow] using hempty.2.2, by simp [hcapture, hstore]⟩
      · have hwas : recordState w = recordState s := by simpa [recordState] using hstate
        rw [hrecord]
        intro h
        exact hblocked hauto (hwas.symm.trans (by simpa [recordState] using h))
    · rw [hcfg, if_neg hauto, if_neg hauto]
      exact ⟨by simpa using hexporting, by simpa using hbit, hposted.settle, by simpa [hrow] using hshown, by simpa using hexported, by simpa using hstore⟩
  case notDone =>
    intro t s h
    exact .unchanged (f := recordExportDone) rfl (recordExportDone_not (by simpa using h))
  case release =>
    intro t r x who s hacc hr hstored hidle
    refine .of (f := runCommand 0x2A30 0x03 r (.num 0) who (releaseRecord r)) rfl ?_
    rw [runCommand_accepted hacc, releaseRecord_free (x := x) (by simpa using hstored) (by simpa using hidle)]
    obtain ⟨hrecord, hcapture, hempty⟩ := releaseRow_states (s := s.advance t) (x := x) hr (by simpa using hstored)
    obtain ⟨hstore, hexported, hshown⟩ := hempty.unblock hr
    have hrow : r < 0x1000000 := by omega
    refine ⟨answered_settle .., by simp [hstore], by simpa [hrow] using hshown, by simpa using hexported, fun hblocked => ?_, fun hblocked hon hspace => ?_⟩
    · rw [unblock_of (by rw [hrecord]; simpa [recordState] using hblocked)]
      simp [(releaseRow_stored (s := s.advance t) (x := x) (by simpa using hstored)).1]
    · have harm : unblock (releaseRow r (s.advance t)) = arm (releaseRow r (s.advance t)) := by
        unfold unblock
        rw [if_pos ⟨by rw [hcapture]; simpa [captureState] using hon, by rw [hrecord]; simpa [recordState] using hblocked, hspace⟩]
      rw [harm]
      simpa [recordState] using arm_reserved hspace
  case releaseRefused =>
    intro t r who s hacc h
    refine .of (f := runCommand 0x2A30 0x03 r (.num 0) who (releaseRecord r)) rfl ?_
    rw [runCommand_accepted hacc, releaseRecord_refused (by simpa using h)]
    exact ⟨answered_settle .., by simp⟩

end Sys2Proof.Machine
end

section
/-! The Leash: a late trigger starts a record in a store row that is none (R466). -/

namespace Sys2Proof.Machine
open Sys2Proof

/-- The row of 0x2A20:02 that stands where 0x2A40:07 does. -/
def strayStoreRow : Nat := (0x2A40 - 0x2A20) * 0x100000000 + 5 * 0x1000000 + noRow

/-- A READY Leash in RUN, with 2 us to the next device, and capture ARMED with `strayStoreRow` reserved. -/
def strayLeash : State :=
  { State.reset with
    power := { PowerSt.reset with state := stRun }
    active := [(okey 0x2A10 0x01 noRow, .num 1)]
    status := [(okey 0x2A01 0x01 noRow, .num 2), (okey 0x2A01 0x02 noRow, .num recArmed), (okey 0x2A01 0x04 noRow, .num 9), (okey 0x2A11 0x01 noRow, .num 2),
      (okey 0x2A11 0x03 noRow, .num 2), (okey 0x2A11 0x04 1, .num 2000000)]
    capture := { CaptureSt.reset with reservedRow := strayStoreRow } }

/-- Refutes O32: a late trigger is counted in 0x2A40:07, but the record it starts shows its number in row `strayStoreRow` of 0x2A20:02, which lands there. -/
theorem not_leashCarriesTriggers : ¬ Obligations.LeashCarriesTriggers := by
  intro h
  obtain ⟨-, -, -, -, -, -, -, -, -, hlate, -⟩ := h
  obtain ⟨u, hu, -, hcount, -⟩ := hlate 0 0 false (leashMessage 1 1 7 0 0) strayLeash (by decide +kernel) (by decide +kernel) (by decide +kernel)
    (by decide +kernel) (by decide +kernel) (by decide +kernel) (by decide +kernel)
  obtain rfl : settle (leashRx false (leashMessage 1 1 7 0 0) (strayLeash.advance 0)) = u := Host.Outcome.next.inj hu
  exact absurd hcount (by decide +kernel)

end Sys2Proof.Machine
end

section
/-! Energy metering: a sensor row that none has (R482). -/

namespace Sys2Proof.Machine
open Sys2Proof

section energy
variable {s u : State} {c f t : Nat}

/-- One channel's turn in THERMISTOR_UPDATE, before its temperature is shown (R482, R483). -/
def readTherm (c : Nat) (s : State) : State :=
  if s.cfg 0x2B02 0x01 c ≠ 0xFF ∧ bit (s.ro 0x2E10 0x03 (s.cfg 0x2B02 0x01 c)) 0 = false then
    if (s.therm c).held then
      raise 0x2B03 (le 1 c ++ le 4 (s.ro 0x2E10 0x01 (s.cfg 0x2B02 0x01 c))) (s.setTherm c ⟨s.ro 0x2E10 0x01 (s.cfg 0x2B02 0x01 c), s.now, true, false⟩)
    else s.setTherm c ⟨s.ro 0x2E10 0x01 (s.cfg 0x2B02 0x01 c), s.now, true, false⟩
  else if s.cfg 0x2B02 0x01 c = 0xFF then s.setTherm c { s.therm c with held := false }
  else s

theorem thermistorUpdate_runs (h : energyRuns s = true) :
    thermistorUpdate s = (List.range 24).foldl (fun s c => showTherm c (readTherm c s)) s := by
  simp [thermistorUpdate, h]
  rfl

theorem therm_setTherm_self (c : Nat) (x : Therm) (s : State) : (s.setTherm c x).therm c = x := by simp [State.therm, State.setTherm]

theorem therm_setTherm_ne (h : c ≠ f) (x : Therm) (s : State) : (s.setTherm f x).therm c = s.therm c := by
  simp [State.therm, State.setTherm, tabGet_putKey_ne h]

theorem readTherm_ne (h : c ≠ f) (s : State) : (readTherm f s).therm c = s.therm c := by
  have hraise (code : Nat) (l : List Byte) (v : State) : (raise code l v).therm c = v.therm c := by simp [State.therm]
  unfold readTherm
  repeat' split
  · rw [hraise, therm_setTherm_ne h]
  · exact therm_setTherm_ne h ..
  · exact therm_setTherm_ne h ..
  · rfl

theorem readTherm_value (hused : s.cfg 0x2B02 0x01 c ≠ 0xFF) (hvalid : bit (s.ro 0x2E10 0x03 (s.cfg 0x2B02 0x01 c)) 0 = false) :
    ((readTherm c s).therm c).value = s.ro 0x2E10 0x01 (s.cfg 0x2B02 0x01 c) := by
  have hraise (code : Nat) (l : List Byte) (v : State) : (raise code l v).therm c = v.therm c := by simp [State.therm]
  unfold readTherm
  rw [if_pos ⟨hused, hvalid⟩]
  split
  · rw [hraise, therm_setTherm_self]
  · rw [therm_setTherm_self]

theorem thermTurns_ne {l : List Nat} (h : c ∉ l) (s : State) : (l.foldl (fun s c => showTherm c (readTherm c s)) s).therm c = s.therm c := by
  induction l generalizing s with
  | nil => rfl
  | cons k l ih =>
    rw [List.mem_cons, not_or] at h
    exact (ih h.2 _).trans (readTherm_ne h.1 s)

theorem therm_showTherm (c f : Nat) (s : State) : (showTherm f s).therm c = s.therm c := rfl

theorem cfg_showTherm (f : Nat) (s : State) (i j r : Nat) : (showTherm f s).cfg i j r = s.cfg i j r := rfl

/-- The rows that show a temperature stand below every other object of a higher index, whatever its row. -/
theorem ro_showTherm_below {i j r : Nat} (hc : c < 24) (hi : 0x2B20 < i) (s : State) : (showTherm c s).ro i j r = s.ro i j r := by
  have hkey (k : Nat) (hk : k < 256) : okey i j r ≠ okey 0x2B20 k c := by
    unfold okey
    omega
  unfold showTherm
  dsimp only
  rw [ro_setRow_ne _ (hkey 4 (by omega)), ro_setRow_ne _ (hkey 3 (by omega)), ro_setRow_ne _ (hkey 2 (by omega))]

end energy

/-- The row of 0x2E10:01 that stands where the counter 0x2E20:04 does. -/
def straySensor : Nat := 0x10 * 0x100000000 + 3 * 0x1000000 + noRow

/-- A state in RUN with a full event FIFO, the temperature of channel 0 held, and `straySensor` as the sensor of channel 1. -/
def strayTherm : State :=
  { State.reset with
    power := { PowerSt.reset with state := stRun }
    active := [(okey 0x2B02 0x01 0, .num 0), (okey 0x2B02 0x01 1, .num straySensor)]
    status := [(okey 0x2E10 0x03 0, .num 0), (okey 0x2E20 0x04 noRow, .num 5), (okey 0x2E20 0x06 noRow, .num 0)]
    energy := { EnergySt.reset with therms := [(0, ⟨0, 0, true, true⟩)] }
    log := { LogSt.reset with fifo := List.replicate fifoDepth ⟨0, false, 0, 0, 0, []⟩ } }

/-- The temperature that THERMISTOR_UPDATE takes for channel 1: the count of dropped events, with the event of channel 0 in it. -/
theorem therm_strayTherm : ((thermistorUpdate (strayTherm.advance 0)).therm 1).value = 6 := by
  rw [thermistorUpdate_runs (by decide +kernel), show List.range 24 = 0 :: 1 :: (List.range 24).drop 2 from rfl, List.foldl_cons, List.foldl_cons,
    thermTurns_ne (by decide), therm_showTherm]
  have hcfg : (showTherm 0 (readTherm 0 (strayTherm.advance 0))).cfg 0x2B02 0x01 1 = straySensor := by
    rw [cfg_showTherm]
    decide +kernel
  rw [readTherm_value, hcfg, ro_showTherm_below (by decide) (by decide)]
  · decide +kernel
  · rw [hcfg]; decide
  · rw [hcfg, ro_showTherm_below (by decide) (by decide)]; decide +kernel

/-- Refutes O33: the event of channel 0 is dropped and counted in 0x2E20:04, which THERMISTOR_UPDATE then takes as the temperature of channel 1. -/
theorem not_energyIsSavedSnapshotAndCleared : ¬ Obligations.EnergyIsSavedSnapshotAndCleared := by
  intro h
  obtain ⟨hupdate, -⟩ := h
  obtain ⟨u, hu, htaken, -⟩ := hupdate 0 strayTherm (by decide +kernel)
  obtain rfl : settle (thermistorUpdate (strayTherm.advance 0)) = u := Host.Outcome.next.inj hu
  obtain ⟨htherm, -⟩ := htaken 1 (by decide) (by decide +kernel) (by decide +kernel)
  have hsettled : (settle (thermistorUpdate (strayTherm.advance 0))).therm 1 = (thermistorUpdate (strayTherm.advance 0)).therm 1 := by
    simp [State.therm]
  rw [hsettled] at htherm
  exact absurd (therm_strayTherm.symm.trans (congrArg Therm.value htherm)) (by decide +kernel)

end Sys2Proof.Machine
end

section
/-! Jobs: due instants, dispatch, ends of runs (R503 to R511). -/

namespace Sys2Proof.Machine
open Sys2Proof

section jobs
variable {s u : State} {j k c n due : Nat} {r q : Run}

/-! ### Job rows -/

@[simp] theorem job_setJob (s : State) (j : Nat) (x : JobRow) : (s.setJob j x).job j = x := by simp [State.job, State.setJob]

theorem job_setJob_ne (h : k ≠ j) (x : JobRow) (s : State) : (s.setJob j x).job k = s.job k := by simp [State.job, State.setJob, tabGet_putKey_ne h]

theorem job_of (h : u.jobs = s.jobs) (j : Nat) : u.job j = s.job j := by simp [State.job, h]

theorem job_of_rows (h : u.jobs.jobs = s.jobs.jobs) (j : Nat) : u.job j = s.job j := by simp [State.job, h]

@[simp] theorem job_advance (t j : Nat) (s : State) : (s.advance t).job j = s.job j := rfl
@[simp] theorem job_settle (j : Nat) (s : State) : (settle s).job j = s.job j := job_of (by simp) j
@[simp] theorem job_raise (code : Nat) (l : List Byte) (s : State) : (raise code l s).job j = s.job j := job_of (by simp) j
@[simp] theorem job_answered (j : Nat) (w : Who) (c : Nat) (o : Out) (s : State) : (settle ((account w c s).emit o)).job j = s.job j :=
  job_of (by simp) j
@[simp] theorem job_setRow (a b c n : Nat) (s : State) : (s.setRow a b c n).job j = s.job j := rfl
@[simp] theorem job_bump (a b c : Nat) (s : State) : (s.bump a b c).job j = s.job j := rfl
@[simp] theorem job_setFour (fn : Nat) (ep dp : Bool) (s : State) : (s.setFour fn ep dp).job j = s.job j := rfl

@[simp] theorem setJob_frame (s : State) (j : Nat) (x : JobRow) :
    (s.setJob j x).now = s.now ∧ (s.setJob j x).power = s.power ∧ (s.setJob j x).live = s.live ∧ (s.setJob j x).active = s.active ∧
    (s.setJob j x).status = s.status ∧ (s.setJob j x).time = s.time ∧ (s.setJob j x).log = s.log ∧ (s.setJob j x).jobs.preempted = s.jobs.preempted := by
  simp [State.setJob]

@[simp] theorem touches_setJob {ps : List Part} {os : List (Nat × Nat)} (hp : Part.jobs ∈ ps) (j : Nat) (x : JobRow) :
    Touches ps os s (u.setJob j x) ↔ Touches ps os s u := by simp [State.setJob, hp]

@[simp] theorem ro_setJob (j : Nat) (x : JobRow) (a b c : Nat) (s : State) : (s.setJob j x).ro a b c = s.ro a b c := rfl

/-! ### States (R506) -/

theorem setJobState_same (h : (s.job j).state = n) : setJobState j n s = s := by simp [setJobState, h]

theorem setJobState_writes (j n : Nat) (s : State) :
    (setJobState j n s).job j = { s.job j with state := n } ∧ (setJobState j n s).power = s.power ∧ (setJobState j n s).time = s.time ∧
    (setJobState j n s).active = s.active ∧ Touches [.jobs] [] s (setJobState j n s) := by
  unfold setJobState
  dsimp only
  split
  next h => subst h; simp
  next => simp

/-- A job that starts looks for its first due instant. -/
theorem jobMove_starting (j : Nat) (s : State) :
    ((jobMove j 1 s).job j).state = 1 ∧ ((jobMove j 1 s).job j).lastDue = none ∧ (jobMove j 1 s).power = s.power ∧
    Touches [.jobs] [] s (jobMove j 1 s) := by
  obtain ⟨hjob, hpower, -, -, htouches⟩ := setJobState_writes j 1 s
  unfold jobMove
  dsimp only
  generalize setJobState j 1 s = v at *
  rw [if_pos rfl]
  exact ⟨by simp [hjob], by simp, by simp [hpower], by simpa using htouches⟩

/-- A job that stops waits for the run in progress; with none, it is OFF, or STARTING where an enable is pending. -/
theorem jobMove_stopping (j : Nat) (s : State) :
    ((jobMove j 3 s).job j).state = (if (s.job j).run = none then b2n (s.fourFlag (fnJob j)).1 else 3) ∧
    ((jobMove j 3 s).job j).run = (s.job j).run ∧
    (jobMove j 3 s).fourFlag (fnJob j) = (if (s.job j).run = none then (false, false) else s.fourFlag (fnJob j)) ∧
    Touches [.jobs, .power] [] s (jobMove j 3 s) := by
  obtain ⟨hjob, hpower, -, -, htouches⟩ := setJobState_writes j 3 s
  have htouches : Touches [.jobs, .power] [] s (setJobState j 3 s) := htouches.mono (by simp) (by simp)
  unfold jobMove
  generalize setJobState j 3 s = v at *
  have hflag : v.fourFlag (fnJob j) = s.fourFlag (fnJob j) := fourFlag_of (by rw [hpower]) _
  have hrun : (v.job j).run = (s.job j).run := by simp [hjob]
  dsimp only
  rw [if_neg (by decide)]
  by_cases hnone : (s.job j).run = none
  · rw [if_pos ⟨rfl, hrun.trans hnone⟩, if_pos hnone, if_pos hnone]
    simp only [fourEnd, hflag]
    generalize hw : v.setFour (fnJob j) false false = w
    have hwjob : w.job j = v.job j := by rw [← hw]; rfl
    have hwflag : w.fourFlag (fnJob j) = (false, false) := by rw [← hw, fourFlag_setFour]
    have hwtouches : Touches [.jobs, .power] [] s w := by rw [← hw]; simpa using htouches
    cases (s.fourFlag (fnJob j)).1 with
    | false =>
      obtain ⟨hjob', hpower', -, -, htouches'⟩ := setJobState_writes j 0 w
      have hall := hwtouches.trans (htouches'.mono (ps' := [.jobs, .power]) (os' := []) (by simp) (by simp))
      simp only [Bool.false_eq_true, if_false, Nat.zero_ne_one]
      exact ⟨by simp [hjob', b2n], by simp [hjob', hwjob, hrun], by rw [fourFlag_of (s := w) (by rw [hpower'])]; exact hwflag, hall⟩
    | true =>
      obtain ⟨hjob', hpower', -, -, htouches'⟩ := setJobState_writes j 1 w
      have hall := hwtouches.trans (htouches'.mono (ps' := [.jobs, .power]) (os' := []) (by simp) (by simp))
      simp only [if_true]
      exact ⟨by simp [hjob', b2n], by simp [hjob', hwjob, hrun],
        by rw [fourFlag_of (s := w) (by simp [hpower'])]; exact hwflag, by simpa using hall⟩
  · rw [if_neg (by simp [hrun, hnone]), if_neg hnone, if_neg hnone]
    exact ⟨by simp [hjob], hrun, hflag, htouches⟩

/-- A job follows its enable (R506, R606). -/
theorem jobEnable_writes (on : Bool) (hrunning : s.running = true) (hstate : (s.job j).state ≤ 3) (hflags : s.fourFlag (fnJob j) = (false, false)) :
    ((jobEnable j on s).job j).state = (if (s.job j).state = 0 ∧ on = true then 1
      else if (s.job j).state = 2 ∧ on = false then (if (s.job j).run = none then 0 else 3) else (s.job j).state) ∧
    (jobEnable j on s).fourFlag (fnJob j) = ((s.job j).state == 3 && on, (s.job j).state == 1 && !on) ∧
    ((s.job j).state = 0 → on = true → ((jobEnable j on s).job j).lastDue = none) ∧ Touches [.jobs, .power] [] s (jobEnable j on s) := by
  unfold jobEnable
  rw [if_neg (by simp [hrunning])]
  dsimp only
  obtain hold | hold | hold | hold : (s.job j).state = 0 ∨ (s.job j).state = 1 ∨ (s.job j).state = 2 ∨ (s.job j).state = 3 := by omega
  · cases on with
    | false => simp [fourWrite, hold, hflags]
    | true =>
      obtain ⟨hmoved, hdue, hpower, htouches⟩ := jobMove_starting j s
      have hflag : (jobMove j 1 s).fourFlag (fnJob j) = (false, false) := (fourFlag_of (by rw [hpower]) _).trans hflags
      simp [fourWrite, hold, hmoved, hdue, hflag, htouches.mono (ps' := [.jobs, .power]) (os' := []) (by simp) (by simp)]
  · simp [fourWrite, hold]
  · cases on with
    | true => simp [fourWrite, hold, hflags]
    | false =>
      obtain ⟨hmoved, -, hflag, htouches⟩ := jobMove_stopping j s
      rw [hflags] at hmoved hflag
      simp [fourWrite, hold, hmoved, hflag, htouches, b2n]
  · simp [fourWrite, hold]

/-! ### Due instants (R503, R504) -/

/-- The hypotheses under which a due instant counts. -/
structure DueNow (s : State) (j n due ago : Nat) : Prop where
  running : s.running = true
  row : j < 3840
  used : jobKind s j ≠ 0
  latest : latestDue s j = some (n, due)
  late : ago = t96ToPs (s.t96 - due)
  untaken : dueTaken s j n = false
  counts : (s.job j).notBefore + ago ≤ s.now

/-- What a job with a due instant becomes, by the state it comes to hold. -/
def takeDue (j due ago st : Nat) (s : State) : State :=
  if st = 3 then jobMove j 3 (setJobState j 3 s) else becomeDue j due ago false (setJobState j st s)

theorem jobDue_on {ago : Nat} (h : DueNow s j n due ago) (hstate : (s.job j).state = 2) :
    jobDue j s = takeDue j due ago 2 (s.setJob j { s.job j with lastDue := some n }) := by
  obtain ⟨hrunning, hrow, hused, hlatest, hlate, huntaken, hcounts⟩ := h
  unfold jobDue
  dsimp only
  rw [if_neg (by simp [hrunning, hrow, hused, hstate]), hlatest]
  dsimp only
  rw [← hlate, if_neg (by simp [huntaken]; omega), if_neg (by simp [hstate])]
  simp only [show ¬(s.job j).state = 1 by simp [hstate], if_false]
  rfl

theorem jobDue_starting {ago : Nat} (h : DueNow s j n due ago) (hstate : (s.job j).state = 1) :
    jobDue j s = takeDue j due ago (if (s.fourFlag (fnJob j)).2 then 3 else 2)
      ((s.setJob j { s.job j with lastDue := some n }).setFour (fnJob j) false false) := by
  obtain ⟨hrunning, hrow, hused, hlatest, hlate, huntaken, hcounts⟩ := h
  unfold jobDue
  dsimp only
  rw [if_neg (by simp [hrunning, hrow, hused, hstate]), hlatest]
  dsimp only
  rw [← hlate, if_neg (by simp [huntaken]; omega), if_pos hstate]
  have hflag (x : JobRow) : (s.setJob j x).fourFlag (fnJob j) = s.fourFlag (fnJob j) := rfl
  simp only [fourEnd, hflag]
  cases (s.fourFlag (fnJob j)).2 <;> simp [takeDue]

theorem jobDue_not (h : s.running = false ∨ 3840 ≤ j ∨ jobKind s j = 0 ∨ (s.job j).state = 0 ∨ (s.job j).state = 3 ∨ latestDue s j = none ∨
    (latestDue s j).any (fun e => dueTaken s j e.1) = true) : jobDue j s = s := by
  unfold jobDue
  dsimp only
  split
  next => rfl
  next hall =>
    simp only [Bool.not_eq_true', Bool.not_eq_false, Bool.and_eq_true, decide_eq_true_eq, bne_iff_ne, Bool.or_eq_true, beq_iff_eq] at hall
    obtain ⟨⟨⟨hrunning, hrow⟩, hused⟩, hstate⟩ := hall
    split
    next => rfl
    next n due hlatest =>
      rw [if_pos]
      obtain h | h | h | h | h | h | h := h
      · simp [hrunning] at h
      · omega
      · exact absurd h hused
      · omega
      · omega
      · simp [hlatest] at h
      · simp only [hlatest, Option.any_some] at h
        simp [h]

theorem becomeDue_ready (hnone : (s.job j).run = none) (due ago : Nat) (command : Bool) :
    becomeDue j due ago command s = (s.setRow 0x2C10 0x05 j due).setJob j
      { s.job j with run := some ⟨due, s.now - ago, tickAt s ago, none, none, command, s.gatFlags, false, 0⟩ } := by
  unfold becomeDue
  dsimp only
  rw [if_neg (by simp [hnone])]
  rfl

@[simp] theorem job_jobReport (kind j k due : Nat) (words : List Nat) (s : State) : (jobReport kind j due words s).job k = s.job k :=
  job_of (by simp [jobReport]) k

/-- An instant that comes while a run has not ended is an overrun (R510). -/
theorem becomeDue_overrun (hj : j < 3840) (hsome : (s.job j).run ≠ none) (due ago : Nat) (command : Bool) :
    (becomeDue j due ago command s).job j = { s.job j with overrun := true } ∧ (becomeDue j due ago command s).ro 0x2C10 0x05 j = due ∧
    (becomeDue j due ago command s).ro 0x2C10 0x02 j = (s.ro 0x2C10 0x02 j + 1) % 2 ^ 32 := by
  have hrow : j < 0x1000000 := by omega
  unfold becomeDue
  extract_lets v x w y
  rw [if_pos (by simpa [x, v, Option.isSome_iff_ne_none] using hsome)]
  have hy : y.job j = { s.job j with overrun := true } ∧ y.ro 0x2C10 0x05 j = due ∧ y.ro 0x2C10 0x02 j = (s.ro 0x2C10 0x02 j + 1) % 2 ^ 32 := by
    have hw : w.job j = { s.job j with overrun := true } ∧ w.ro 0x2C10 0x05 j = due ∧ w.ro 0x2C10 0x02 j = (s.ro 0x2C10 0x02 j + 1) % 2 ^ 32 := by
      refine ⟨by simp [w, x, v], by simp [w, v, hrow], ?_⟩
      simp [w, v, hrow]
      rfl
    obtain ⟨hjob, hdue, hcount⟩ := hw
    exact ⟨by rw [job_of (s := w) (by simp [y]), hjob], by simpa [y, hrow] using hdue, by simpa [y, hrow] using hcount⟩
  obtain ⟨hjob, hdue, hcount⟩ := hy
  split
  · exact ⟨by rw [job_jobReport, hjob], by simpa [jobReport, hrow] using hdue, by simpa [jobReport, hrow] using hcount⟩
  · exact ⟨hjob, hdue, hcount⟩

@[simp] theorem jobKind_advance (t j : Nat) (s : State) : jobKind (s.advance t) j = jobKind s j := rfl
@[simp] theorem dueTaken_advance (t j n : Nat) (s : State) : dueTaken (s.advance t) j n = dueTaken s j n := rfl

theorem tickAt_of (htime : u.time = s.time) (hactive : u.active = s.active) (ago : Nat) : tickAt u ago = tickAt s ago := by
  simp [tickAt, tickIndex, sinceTick, tickPs, tickGat, State.gat, State.cfg, State.fnom, htime, hactive]

theorem gatFlags_of (htime : u.time = s.time) : u.gatFlags = s.gatFlags := by simp [State.gatFlags, htime]

/-- A job that is ON when a due instant comes is ready from it. -/
theorem takeDue_ready (hj : j < 3840) (hnone : (s.job j).run = none) (due ago : Nat) :
    (takeDue j due ago 2 s).job j =
      { s.job j with state := 2, run := some ⟨due, s.now - ago, tickAt s ago, none, none, false, s.gatFlags, false, 0⟩ } ∧
    (takeDue j due ago 2 s).ro 0x2C10 0x05 j = due ∧ Touches [.jobs] [(0x2C10, 5)] s (takeDue j due ago 2 s) := by
  have hrow : j < 0x1000000 := by omega
  obtain ⟨hjob, -, htime, hactive, htouches⟩ := setJobState_writes j 2 s
  have hnow : (setJobState j 2 s).now = s.now := htouches.2.2
  unfold takeDue
  rw [if_neg (by decide), becomeDue_ready (by simpa [hjob] using hnone)]
  generalize setJobState j 2 s = v at *
  rw [hnow, tickAt_of htime hactive, gatFlags_of htime, hjob]
  refine ⟨job_setJob .., by simp, ?_⟩
  simpa [hrow] using htouches.mono (by simp) (by simp)

/-- A job that is ON and whose run has not ended when a due instant comes counts an overrun. -/
theorem takeDue_overrun (hj : j < 3840) (hstate : (s.job j).state = 2) (hsome : (s.job j).run ≠ none) (due ago : Nat) :
    (takeDue j due ago 2 s).job j = { s.job j with overrun := true } ∧ (takeDue j due ago 2 s).ro 0x2C10 0x05 j = due ∧
    (takeDue j due ago 2 s).ro 0x2C10 0x02 j = (s.ro 0x2C10 0x02 j + 1) % 2 ^ 32 := by
  unfold takeDue
  rw [if_neg (by decide), setJobState_same hstate]
  exact becomeDue_overrun hj hsome due ago false

/-- A STARTING job that is to stop is OFF when its first due instant comes. -/
theorem takeDue_stopping (hnone : (s.job j).run = none) (hflags : s.fourFlag (fnJob j) = (false, false)) (due ago : Nat) :
    ((takeDue j due ago 3 s).job j).state = 0 ∧ ((takeDue j due ago 3 s).job j).run = none ∧
    (takeDue j due ago 3 s).fourFlag (fnJob j) = (false, false) ∧ Touches [.jobs, .power] [] s (takeDue j due ago 3 s) := by
  obtain ⟨hjob, hpower, -, -, htouches⟩ := setJobState_writes j 3 s
  unfold takeDue
  rw [if_pos rfl]
  generalize setJobState j 3 s = v at *
  have hrun : (v.job j).run = none := by simpa [hjob] using hnone
  obtain ⟨hstate, hrun', hflag, hmoved⟩ := jobMove_stopping j v
  have hpending : v.fourFlag (fnJob j) = (false, false) := (fourFlag_of (by rw [hpower]) _).trans hflags
  rw [if_pos hrun] at hstate hflag
  exact ⟨by rw [hstate, hpending]; rfl, hrun'.trans hrun, hflag, (htouches.mono (by simp) (by simp)).trans hmoved⟩

/-! ### Dispatch (R507, R508) -/

/-- The run that a ready run becomes on a core. -/
def Run.startedOn (r : Run) (c now : Nat) : Run :=
  { r with core := some c, firstDispatch := some (r.firstDispatch.getD now), anyCore := false, since := now }

/-- A run on another core than the preferred one counts as a move. -/
def countMove (j c : Nat) (s : State) : State := if preferredCore s j = some c then s else s.bump 0x2C10 0x07 j

/-- A job put on a core; it is no longer among those pre-empted. -/
def putOnCore (j c : Nat) (x : JobRow) (r : Run) (s : State) : State :=
  (s.setJob j { x with run := some (r.startedOn c s.now) }).onJobs fun a => { a with preempted := a.preempted.filter fun k => k != j }

theorem startOn_eq (hrun : (s.job j).run = some r) (c : Nat) :
    ∃ (shown : Bool) (n : Nat), startOn j c s = (let w := putOnCore j c (s.job j) r (countMove j c s); if shown then w else w.setRow 0x2C10 0x03 j n) := by
  unfold startOn
  simp only [hrun]
  exact ⟨_, _, rfl⟩

theorem countMove_writes (hj : j < 3840) (c : Nat) (s : State) :
    (countMove j c s).jobs = s.jobs ∧ (countMove j c s).now = s.now ∧ (∀ k, k < 3840 → (countMove j c s).ro 0x2C10 0x08 k = s.ro 0x2C10 0x08 k) ∧
    Touches [.jobs] [(0x2C10, 3), (0x2C10, 7)] s (countMove j c s) ∧ (preferredCore s j = some c → countMove j c s = s) := by
  have hrow : j < 0x1000000 := by omega
  unfold countMove
  split
  next h => exact ⟨rfl, rfl, fun _ _ => rfl, .refl .., fun _ => rfl⟩
  next h => exact ⟨rfl, rfl, fun k hk => by simp [hrow, show k < 0x1000000 by omega], by simp [hrow], fun g => absurd g h⟩

/-- What starting a ready job on a core does. -/
theorem startOn_writes (hj : j < 3840) (hrun : (s.job j).run = some r) (c : Nat) :
    ((startOn j c s).job j).run = some (r.startedOn c s.now) ∧ (∀ k, k ≠ j → (startOn j c s).job k = s.job k) ∧
    (startOn j c s).jobs.preempted = s.jobs.preempted.filter (fun k => k != j) ∧ (∀ k, k < 3840 → (startOn j c s).ro 0x2C10 0x08 k = s.ro 0x2C10 0x08 k) ∧
    Touches [.jobs] [(0x2C10, 3), (0x2C10, 7)] s (startOn j c s) ∧ (preferredCore s j = some c → Touches [.jobs] [(0x2C10, 3)] s (startOn j c s)) := by
  have hrow : j < 0x1000000 := by omega
  obtain ⟨shown, n, heq⟩ := startOn_eq hrun c
  obtain ⟨hjobs, hnow, hcount, hmoved, hstays⟩ := countMove_writes hj c s
  have hput (v : State) : ((putOnCore j c (s.job j) r v).job j).run = some (r.startedOn c v.now) ∧ (∀ k, k ≠ j → (putOnCore j c (s.job j) r v).job k = v.job k) ∧
      (putOnCore j c (s.job j) r v).jobs.preempted = v.jobs.preempted.filter (fun k => k != j) ∧
      (∀ k, (putOnCore j c (s.job j) r v).ro 0x2C10 0x08 k = v.ro 0x2C10 0x08 k) ∧ Touches [.jobs] [] v (putOnCore j c (s.job j) r v) := by
    refine ⟨?_, fun k hk => ?_, rfl, fun k => rfl, by simp [putOnCore]⟩
    · exact congrArg JobRow.run (job_setJob v j _)
    · exact job_setJob_ne hk _ v
  obtain ⟨hrun', hothers, hqueue, hcounts, htouches⟩ := hput (countMove j c s)
  rw [hnow] at hrun'
  have hall : Touches [.jobs] [(0x2C10, 3)] (countMove j c s) (startOn j c s) := by
    rw [heq]
    cases shown
    · simpa [hrow] using htouches.mono (by simp) (by simp)
    · exact htouches.mono (by simp) (by simp)
  refine ⟨?_, fun k hk => ?_, ?_, fun k hk => ?_, hmoved.trans (hall.mono (by simp) (by simp)), fun hpref => by rwa [hstays hpref] at hall⟩
  all_goals rw [heq]
  · cases shown <;> exact hrun'
  · rw [← job_of hjobs k, ← hothers k hk]
    cases shown <;> rfl
  · rw [← hjobs, ← hqueue]
    cases shown <;> rfl
  · rw [← hcount k hk, ← hcounts k]
    cases shown
    · simp [hrow, show k < 0x1000000 by omega]
    · rfl

/-- What pre-empting the job on a core does. -/
theorem preempt_writes (hk : k < 3840) (hon : runningOn s c = some k) (hrun : (s.job k).run = some q) :
    ((preempt c s).job k).run = some { q with core := none, waitFrom := tickIndex s, anyCore := false } ∧ (∀ j, j ≠ k → (preempt c s).job j = s.job j) ∧
    (preempt c s).jobs.preempted = k :: s.jobs.preempted.filter (fun i => i != k) ∧ (preempt c s).jobs.parked = s.jobs.parked ∧
    (preempt c s).ro 0x2C10 0x08 k = (s.ro 0x2C10 0x08 k + 1) % 2 ^ 32 ∧ Touches [.jobs] [(0x2C10, 8)] s (preempt c s) := by
  have hrow : k < 0x1000000 := by omega
  unfold preempt
  simp only [hon, hrun]
  refine ⟨?_, fun j hj => ?_, rfl, rfl, ?_, by simp [addBusy, hrow]⟩
  · exact congrArg JobRow.run (job_setJob s k _)
  · exact job_setJob_ne hj _ s
  · simp [addBusy]
    rfl

theorem preferredCore_of (hjob : u.job j = s.job j) (hparked : u.jobs.parked = s.jobs.parked) (hactive : u.active = s.active) :
    preferredCore u j = preferredCore s j := by
  simp [preferredCore, coresOf, jobMask, State.cfg, hjob, hparked, hactive]

theorem jobDispatch_idle (hrunning : s.running = true) (hrun : (s.job j).run = some r) (hready : r.core = none) (hone : r.anyCore = false)
    (hpref : preferredCore s j = some c) (hfirst : firstFor s j c = true) (hidle : runningOn s c = none) : jobDispatch j s = startOn j c s := by
  unfold jobDispatch
  simp [hrun, hready, hrunning, hone, hpref, hfirst, hidle]

theorem jobDispatch_preempts (hrunning : s.running = true) (hrun : (s.job j).run = some r) (hready : r.core = none) (hone : r.anyCore = false)
    (hpref : preferredCore s j = some c) (hfirst : firstFor s j c = true) (hon : runningOn s c = some k) (hlower : jobPriority s k < jobPriority s j) :
    jobDispatch j s = startOn j c (preempt c s) := by
  unfold jobDispatch
  simp [hrun, hready, hrunning, hone, hpref, hfirst, hon, hlower]

theorem jobDispatch_not (h : s.running = false ∨ (s.job j).run.all (fun r => r.core.isSome) = true) : jobDispatch j s = s := by
  unfold jobDispatch
  split
  next => rfl
  next r hrun =>
    rw [if_pos]
    simpa [hrun, or_comm] using h

theorem jobWaitOver_idle (hrunning : s.running = true) (hrun : (s.job j).run = some r) (hready : r.core = none) (hticks : 2 ≤ ticksSince s r.waitFrom)
    (hidle : (coresOf s (jobMask s j)).find? (fun c => (runningOn s c).isNone) = some c) (hfirst : firstFor s j c = true) :
    jobWaitOver j s = startOn j c s := by
  unfold jobWaitOver
  simp [hrun, hready, hrunning, show ¬ticksSince s r.waitFrom < 2 by omega, hidle, hfirst]

theorem jobWaitOver_not (h : s.running = false ∨ (s.job j).run.all (fun r => r.core.isSome || decide (ticksSince s r.waitFrom < 2)) = true) :
    jobWaitOver j s = s := by
  unfold jobWaitOver
  dsimp only
  split
  next => rfl
  next r hrun =>
    rw [if_pos]
    simp only [hrun, Option.all_some, Bool.or_eq_true] at h
    obtain h | h | h := h
    · simp [h]
    · simp [h]
    · have hlt : ticksSince s r.waitFrom < 2 := of_decide_eq_true h
      simp [hlt]

/-- Of two cores, the one whose job has the lower priority; the first of equals. -/
def lower (pri : Nat → Nat) (b : Option Nat) (c : Nat) : Option Nat :=
  match b with
  | some d => if pri c < pri d then some c else b
  | none => some c

theorem foldl_lower_some (pri : Nat → Nat) (l : List Nat) (d : Nat) : ∃ x, l.foldl (lower pri) (some d) = some x ∧ (x = d ∨ x ∈ l) := by
  induction l generalizing d with
  | nil => exact ⟨d, rfl, .inl rfl⟩
  | cons c l ih =>
    by_cases hlt : pri c < pri d
    · obtain ⟨x, hx, hmem⟩ := ih c
      exact ⟨x, by simpa [lower, hlt] using hx, .inr (by simpa using hmem)⟩
    · obtain ⟨x, hx, hmem⟩ := ih d
      exact ⟨x, by simpa [lower, hlt] using hx, hmem.imp id (by simp +contextual)⟩

theorem foldl_lower (pri : Nat → Nat) {l : List Nat} (h : l ≠ []) : ∃ x ∈ l, l.foldl (lower pri) none = some x := by
  cases l with
  | nil => exact absurd rfl h
  | cons c l =>
    obtain ⟨x, hx, hmem⟩ := foldl_lower_some pri l c
    exact ⟨x, by simpa using hmem, hx⟩

/-- The priority of the job on a core. -/
def corePriority (s : State) (c : Nat) : Nat :=
  match runningOn s c with
  | some k => jobPriority s k
  | none => 16

/-- With every core of its mask busy at its priority or above, a job waits for the first to become free. -/
theorem jobWaitOver_busy (hrunning : s.running = true) (hrun : (s.job j).run = some r) (hready : r.core = none) (hticks : 2 ≤ ticksSince s r.waitFrom)
    (hsome : coresOf s (jobMask s j) ≠ [])
    (hbusy : (coresOf s (jobMask s j)).all (fun c => (runningOn s c).any fun k => decide (jobPriority s j ≤ jobPriority s k)) = true) :
    jobWaitOver j s = s.setJob j { s.job j with run := some { r with anyCore := true } } := by
  have hall (c : Nat) (hc : c ∈ coresOf s (jobMask s j)) : ∃ k, runningOn s c = some k ∧ jobPriority s j ≤ jobPriority s k := by
    simpa [Option.any_eq_true] using List.all_eq_true.mp hbusy c hc
  unfold jobWaitOver
  simp only [hrun, hready, hrunning, Option.isSome_none, Bool.not_true, Bool.or_self, show ¬ticksSince s r.waitFrom < 2 by omega, decide_false,
    Bool.false_eq_true, if_false]
  split
  next c hidle =>
    obtain ⟨k, hk, -⟩ := hall c (List.mem_of_find?_eq_some hidle)
    simpa [hk] using List.find?_some hidle
  next =>
    obtain ⟨x, hmem, hx⟩ := foldl_lower (corePriority s) hsome
    obtain ⟨k, hk, hle⟩ := hall x hmem
    split
    next hnone => exact absurd (hx.symm.trans hnone) (by simp)
    next c hc =>
      obtain rfl : x = c := Option.some.inj (hx.symm.trans hc)
      simp [hk, show ¬jobPriority s k < jobPriority s j by omega]

/-! ### Ends of runs (R508 to R511) -/

/-- A run that ends is counted, and its time shown where it is the longest. -/
def countRun (j : Nat) (r : Run) (s : State) : State :=
  let v := s.bump 0x2C10 0x01 j
  let ns := (v.now - r.firstDispatch.getD v.now) / 1000
  if ns ≤ v.ro 0x2C10 0x04 j then v else v.setRow 0x2C10 0x04 j (Nat.min ns 0xFFFFFFFF)

/-- The result of a run, or its report. -/
def showResult (j : Nat) (overrun : Bool) (r : Run) (s : State) : State :=
  let flags := 2 * b2n (bit r.gatFlags 0) + 4 * b2n (bit r.gatFlags 2) + 16 * b2n overrun
  if jobKind s j = 6 then ((jobReport 0 j r.due (reportWords s j) s).setRow 0x2C20 0x02 j flags).setRow 0x2C20 0x03 j r.due
  else
    let y := jobResult s j r.due
    let v := ((s.setRow 0x2C20 0x01 j (match y.value with | some q => toF32 q | none => nanF32)).setRow 0x2C20 0x02 j
      (b2n y.value.isNone + 8 * b2n y.flagged + flags)).setRow 0x2C20 0x03 j r.due
    if y.value.isNone then raiseOnce 0x2C04 j (le 2 j ++ le 1 y.missing) v else v

/-- The job leaves its core, which it prefers from now on. -/
def leaveCore (j c : Nat) (r : Run) (s : State) : State :=
  addBusy c r (s.setJob j { s.job j with run := none, preferred := some c, overrun := false })

theorem jobRunEnd_ends (hrun : (s.job j).run = some r) (hcore : r.core = some c) :
    jobRunEnd j s = (let v := leaveCore j c r (showResult j (s.job j).overrun r (countRun j r s))
      if (s.job j).state = 3 then jobMove j 3 v else v) := by
  unfold jobRunEnd
  simp only [hrun, hcore]
  rfl

theorem jobRunEnd_not (h : (s.job j).run.all (fun r => r.core.isNone) = true) : jobRunEnd j s = s := by
  unfold jobRunEnd
  dsimp only
  split
  next => rfl
  next r hrun =>
    have hnone : r.core = none := by simpa [hrun] using h
    simp [hnone]

theorem countRun_writes (hj : j < 3840) (r : Run) (s : State) :
    (∃ d, countRun j r s = { s with status := d }) ∧ (countRun j r s).ro 0x2C10 0x01 j = (s.ro 0x2C10 0x01 j + 1) % 2 ^ 64 := by
  have hrow : j < 0x1000000 := by omega
  have hcount : (s.bump 0x2C10 0x01 j).ro 0x2C10 0x01 j = (s.ro 0x2C10 0x01 j + 1) % 2 ^ 64 := by
    simp
    rfl
  unfold countRun
  dsimp only
  split
  · exact ⟨⟨_, rfl⟩, hcount⟩
  · exact ⟨⟨_, rfl⟩, by rw [ro_setRow_of_ne (by simp) (by omega) hrow (by omega) hrow]; exact hcount⟩

theorem showResult_writes (hj : j < 3840) (overrun : Bool) (r : Run) (s : State) :
    (showResult j overrun r s).jobs = s.jobs ∧ (showResult j overrun r s).power = s.power ∧
    (showResult j overrun r s).ro 0x2C10 0x01 j = s.ro 0x2C10 0x01 j ∧ (showResult j overrun r s).ro 0x2C20 0x03 j = r.due ∧
    (jobKind s j ≠ 6 → (showResult j overrun r s).ro 0x2C20 0x01 j = ((jobResult s j r.due).value.map toF32).getD nanF32) := by
  have hrow : j < 0x1000000 := by omega
  unfold showResult
  dsimp only
  split
  next hreport => simp [jobReport, hrow, hreport]
  next hkind =>
    cases (jobResult s j r.due).value with
    | none => simp [hrow]
    | some q => simp [hrow]

theorem leaveCore_writes (j c : Nat) (r : Run) (s : State) :
    (leaveCore j c r s).job j = { s.job j with run := none, preferred := some c, overrun := false } ∧ (leaveCore j c r s).power = s.power ∧
    (leaveCore j c r s).status = s.status := by
  refine ⟨?_, rfl, rfl⟩
  exact job_setJob s j _

/-- A run that ends: its job is without a run, and what it shows. -/
theorem runClosed_writes (hj : j < 3840) (c : Nat) (r : Run) :
    (leaveCore j c r (showResult j (s.job j).overrun r (countRun j r s))).job j = { s.job j with run := none, preferred := some c, overrun := false } ∧
    (leaveCore j c r (showResult j (s.job j).overrun r (countRun j r s))).power = s.power ∧
    (leaveCore j c r (showResult j (s.job j).overrun r (countRun j r s))).ro 0x2C10 0x01 j = (s.ro 0x2C10 0x01 j + 1) % 2 ^ 64 ∧
    (leaveCore j c r (showResult j (s.job j).overrun r (countRun j r s))).ro 0x2C20 0x03 j = r.due ∧
    (jobKind s j ≠ 6 → (leaveCore j c r (showResult j (s.job j).overrun r (countRun j r s))).ro 0x2C20 0x01 j =
      ((jobResult s j r.due).value.map toF32).getD nanF32) := by
  obtain ⟨⟨d, hcounted⟩, hcount⟩ := countRun_writes hj r s
  obtain ⟨hjobs, hpower, hkept, hdue, hresult⟩ := showResult_writes hj (s.job j).overrun r (countRun j r s)
  generalize showResult j (s.job j).overrun r (countRun j r s) = v at *
  obtain ⟨hjob, hpower', hstatus⟩ := leaveCore_writes j c r v
  have hro (a b : Nat) : (leaveCore j c r v).ro a b j = v.ro a b j := by rw [State.ro_def, State.ro_def, hstatus]
  rw [hcounted] at hjobs hpower hresult
  refine ⟨by rw [hjob, job_of hjobs]; rfl, hpower'.trans hpower, by rw [hro, hkept, hcount], by rw [hro, hdue], fun hkind => ?_⟩
  rw [hro, hresult hkind]
  rfl

/-! ### Run job now (R511) -/

theorem runJobNow_ready (hj : j < 3840) (hkind : jobKind s j ≠ 0) (hnone : (s.job j).run = none) :
    runJobNow j s =
      (s.setJob j { s.job j with run := some ⟨s.t96, s.now, tickIndex s, none, none, true, s.gatFlags, false, 0⟩ }, 0) := by
  unfold runJobNow
  rw [if_neg (by omega), if_neg (by simp [hkind, hnone])]

theorem runJobNow_refused (h : 3840 ≤ j ∨ jobKind s j = 0 ∨ (s.job j).run ≠ none) : runJobNow j s = (s, if 3840 ≤ j then 5 else 6) := by
  unfold runJobNow
  split
  next hj => rfl
  next hj =>
    rw [if_pos]
    simpa [hj, Option.isSome_iff_ne_none] using h

end jobs

/-- Settles O34. -/
theorem jobsRun : Obligations.JobsRun := by
  refine ⟨?enable, ?enableKept, ?due, ?overrun, ?disabled, ?dueNot, ?dispatch, ?preempts, ?dispatchNot, ?waits, ?waitsBusy, ?waitNot, ?ends, ?endsStopping,
    ?endNot, ?runNow, ?runNowRefused⟩
  case enable =>
    intro t j on who s hrunning hacc hstate hflags
    refine .of (f := runWrite 0x2C01 0x0A j (.num (b2n on)) who (jobEnable j on)) rfl ?_
    rw [runWrite_accepted hacc]
    generalize hv : (s.advance t).setLive 0x2C01 0x0A j (.num (b2n on)) = v
    have hjob : v.job j = s.job j := by rw [← hv]; rfl
    have hpending : v.fourFlag (fnJob j) = s.fourFlag (fnJob j) := by rw [← hv, fourFlag_of (s := s) (by simp)]
    obtain ⟨hnew, hflag, hdue, htouches⟩ := jobEnable_writes (s := v) (j := j) on (by rw [← hv]; simpa using hrunning) (by rwa [hjob]) (by rwa [hpending])
    rw [hjob] at hnew hflag hdue
    have hlive : (jobEnable j on v).live = v.live := htouches.1 .live (by simp)
    refine ⟨answered_settle .., ?_, by rw [job_answered, hnew], by rw [fourFlag_answered, hflag], by rw [job_answered]; exact hdue, ?_⟩
    · rw [rw_of_live (s := v) (by simp [hlive]), ← hv, rw_setLive_self]
      rfl
    · have hall := htouches.mono (ps' := [.live, .jobs, .power, .imian]) (os' := [(0x1120, 1), (0x1120, 2)]) (by simp) (by simp)
      have hv : Touches [.live, .jobs, .power, .imian] [(0x1120, 1), (0x1120, 2)] (s.advance t) v := by simp [← hv]
      simpa using hv.trans hall
  case enableKept =>
    intro t j on who s hrunning hacc
    refine .of (f := runWrite 0x2C01 0x0A j (.num (b2n on)) who (jobEnable j on)) rfl ?_
    rw [runWrite_accepted hacc]
    have hidle : jobEnable j on ((s.advance t).setLive 0x2C01 0x0A j (.num (b2n on))) = (s.advance t).setLive 0x2C01 0x0A j (.num (b2n on)) := by
      unfold jobEnable
      rw [if_pos (by simpa using hrunning)]
    rw [hidle]
    refine ⟨answered_settle .., ?_, by simp⟩
    rw [rw_of_live (s := (s.advance t).setLive 0x2C01 0x0A j (.num (b2n on))) (by simp), rw_setLive_self]
    rfl
  case due =>
    intro t j n due ago s hrunning hj hkind hstate hnone hlatest hago huntaken hcounts
    refine .of (f := jobDue j) rfl ?_
    have hrow : j < 0x1000000 := by omega
    have hnow : DueNow (s.advance t) j n due ago := ⟨by simpa using hrunning, hj, hkind, hlatest, hago, huntaken, by simpa using hcounts⟩
    have hready (v : State) (hjob : v.job j = { s.job j with lastDue := some n }) (htime : v.time = (s.advance t).time) (hactive : v.active = s.active)
        (htouches : Touches [.jobs, .power] [] (s.advance t) v) :
        (settle (takeDue j due ago 2 v)).job j =
          { s.job j with state := 2, lastDue := some n, run := some ⟨due, max s.now t - ago, tickAt (s.advance t) ago, none, none, false, (s.advance t).gatFlags, false, 0⟩ } ∧
        (settle (takeDue j due ago 2 v)).ro 0x2C10 0x05 j = due ∧ Touches [.jobs, .power] [(0x2C10, 5)] (s.advance t) (settle (takeDue j due ago 2 v)) := by
      obtain ⟨htaken, hshown, hwork⟩ := takeDue_ready (s := v) hj (by simpa [hjob] using hnone) due ago
      have hvnow : v.now = max s.now t := htouches.2.2.trans (by simp)
      rw [hvnow, tickAt_of htime hactive, gatFlags_of htime, hjob] at htaken
      exact ⟨by rw [job_settle, htaken], by simpa [hrow] using hshown,
        ((htouches.mono (by simp) (by simp)).trans (hwork.mono (by simp) (by simp))).settle⟩
    obtain hstate | ⟨hstate, hpending⟩ := hstate
    · rw [jobDue_on hnow hstate]
      exact hready _ (job_setJob ..) rfl rfl (by simp)
    · rw [jobDue_starting hnow hstate, if_neg (by simpa using hpending)]
      exact hready _ (job_setJob ..) rfl rfl (by simp)
  case overrun =>
    intro t j n due ago s hrunning hj hkind hstate hsome hlatest hago huntaken hcounts
    refine .of (f := jobDue j) rfl ?_
    have hnow : DueNow (s.advance t) j n due ago := ⟨by simpa using hrunning, hj, hkind, hlatest, hago, huntaken, by simpa using hcounts⟩
    rw [jobDue_on hnow hstate]
    have hrow : j < 0x1000000 := by omega
    obtain ⟨hjob, hshown, hcount⟩ := takeDue_overrun (s := (s.advance t).setJob j { (s.advance t).job j with lastDue := some n }) hj (by simpa using hstate)
      (by simpa using hsome) due ago
    exact ⟨by rw [job_settle, hjob, job_setJob]; rfl, by simpa [hrow] using hshown, by simpa [hrow] using hcount⟩
  case disabled =>
    intro t j n due ago s hrunning hj hkind hstate hpending hnone hlatest hago huntaken hcounts
    refine .of (f := jobDue j) rfl ?_
    have hnow : DueNow (s.advance t) j n due ago := ⟨by simpa using hrunning, hj, hkind, hlatest, hago, huntaken, by simpa using hcounts⟩
    rw [jobDue_starting hnow hstate, if_pos (by simpa using hpending)]
    obtain ⟨hoff, hrun, hflag, htouches⟩ := takeDue_stopping (j := j)
      (s := ((s.advance t).setJob j { (s.advance t).job j with lastDue := some n }).setFour (fnJob j) false false) (by simpa using hnone) (fourFlag_setFour ..) due ago
    exact ⟨by rw [job_settle, hoff], by rw [job_settle, hrun], by rw [fourFlag_settle, hflag], (Touches.trans (by simp) htouches).settle⟩
  case dueNot =>
    intro t j s h
    exact .unchanged (f := jobDue j) rfl (jobDue_not (by simpa using h))
  case dispatch =>
    intro t j c r s hrunning hj hrun hready hone hpref hidle hfirst
    refine .of (f := jobDispatch j) rfl ?_
    obtain ⟨hstarted, -, hqueue, -, -, htouches⟩ := startOn_writes (s := s.advance t) hj hrun c
    rw [jobDispatch_idle (s := s.advance t) (by simpa using hrunning) hrun hready hone hpref hfirst hidle]
    rw [show (s.advance t).now = max s.now t by simp] at hstarted
    exact ⟨by rw [job_settle, hstarted, Run.startedOn, hone], by simp [hqueue], (htouches hpref).settle⟩
  case preempts =>
    intro t j k c r q s hrunning hj hk hrun hready hone hpref hon hne hrunk hlower hfirst
    refine .of (f := jobDispatch j) rfl ?_
    have hrow : k < 0x1000000 := by omega
    rw [jobDispatch_preempts (s := s.advance t) (by simpa using hrunning) hrun hready hone hpref hfirst hon hlower]
    obtain ⟨hstopped, hothers, hqueue, hparked, hcount, htouches⟩ := preempt_writes (s := s.advance t) hk hon hrunk
    generalize preempt c (s.advance t) = v at *
    have hvnow : v.now = max s.now t := htouches.2.2.trans (by simp)
    have hvpref : preferredCore v j = some c :=
      (preferredCore_of (hothers j (Ne.symm hne)) hparked (htouches.1 .active (by simp))).trans hpref
    obtain ⟨hstarted, hkept, hleft, hcounts, -, hwork⟩ := startOn_writes (s := v) hj (by rw [hothers j (Ne.symm hne)]; exact hrun) c
    rw [hvnow] at hstarted
    refine ⟨by rw [job_settle, hstarted, Run.startedOn, hone], by rw [job_settle, hkept k hne, hstopped], by simp [hleft, hqueue, hne], ?_,
      ((htouches.mono (by simp) (by simp)).trans ((hwork hvpref).mono (by simp) (by simp))).settle⟩
    have hkcount := (hcounts k hk).trans hcount
    simpa [hrow] using hkcount
  case dispatchNot =>
    intro t j s h
    exact .unchanged (f := jobDispatch j) rfl (jobDispatch_not (by simpa using h))
  case waits =>
    intro t j c r s hrunning hj hrun hready hticks hidle hfirst
    refine .of (f := jobWaitOver j) rfl ?_
    rw [jobWaitOver_idle (s := s.advance t) (by simpa using hrunning) hrun hready hticks hidle hfirst]
    obtain ⟨hstarted, -, -, -, htouches, -⟩ := startOn_writes (s := s.advance t) hj hrun c
    rw [show (s.advance t).now = max s.now t by simp] at hstarted
    exact ⟨by rw [job_settle, hstarted, Run.startedOn], htouches.settle⟩
  case waitsBusy =>
    intro t j r s hrunning hrun hready hticks hsome hbusy
    refine .of (f := jobWaitOver j) rfl ?_
    rw [jobWaitOver_busy (s := s.advance t) (by simpa using hrunning) hrun hready hticks hsome hbusy]
    exact ⟨by simp, by simp⟩
  case waitNot =>
    intro t j s h
    exact .unchanged (f := jobWaitOver j) rfl (jobWaitOver_not (by simpa using h))
  case ends =>
    intro t j c r s hj hrun hcore hstate
    refine .of (f := jobRunEnd j) rfl ?_
    have hrow : j < 0x1000000 := by omega
    rw [jobRunEnd_ends (s := s.advance t) hrun hcore]
    dsimp only
    rw [if_neg (by simpa using hstate)]
    obtain ⟨hjob, -, hcount, hdue, hresult⟩ := runClosed_writes (s := s.advance t) hj c r
    refine ⟨by rw [job_settle, hjob]; rfl, by simpa [hrow] using hcount, by simpa [hrow] using hdue, fun hkind => ?_⟩
    have hresult := hresult hkind
    rw [show jobResult (s.advance t) j r.due = jobResult s j r.due from rfl] at hresult
    simpa [hrow] using hresult
  case endsStopping =>
    intro t j c r s hj hrun hcore hstate
    refine .of (f := jobRunEnd j) rfl ?_
    have hrow : j < 0x1000000 := by omega
    rw [jobRunEnd_ends (s := s.advance t) hrun hcore]
    dsimp only
    rw [if_pos (by simpa using hstate)]
    obtain ⟨hjob, hpower, hcount, hdue, -⟩ := runClosed_writes (s := s.advance t) hj c r
    generalize leaveCore j c r (showResult j ((s.advance t).job j).overrun r (countRun j r (s.advance t))) = v at *
    obtain ⟨hstopped, hended, hflag, htouches⟩ := jobMove_stopping j v
    have hflags : v.fourFlag (fnJob j) = s.fourFlag (fnJob j) := fourFlag_of (by rw [hpower]; rfl) _
    rw [hjob, if_pos rfl] at hstopped hflag
    rw [hjob] at hended
    have hcount' := (htouches.ro (by omega) hrow (by simp) (by omega)).trans hcount
    have hdue' := (htouches.ro (by omega) hrow (by simp) (by omega)).trans hdue
    exact ⟨by rw [job_settle, hended], by rw [job_settle, hstopped, hflags], by rw [fourFlag_settle, hflag], by simpa [hrow] using hcount',
      by simpa [hrow] using hdue'⟩
  case endNot =>
    intro t j s h
    exact .unchanged (f := jobRunEnd j) rfl (jobRunEnd_not (by simpa using h))
  case runNow =>
    intro t j who s hacc hj hkind hnone
    refine .of (f := runCommand 0x2C30 0x02 j (.num 0) who (runJobNow j)) rfl ?_
    rw [runCommand_accepted hacc, runJobNow_ready (s := s.advance t) hj hkind hnone]
    exact ⟨answered_settle .., by rw [job_answered, job_setJob]; simp, by simp⟩
  case runNowRefused =>
    intro t j who s hacc h
    refine .of (f := runCommand 0x2C30 0x02 j (.num 0) who (runJobNow j)) rfl ?_
    rw [runCommand_accepted hacc, runJobNow_refused (s := s.advance t) h]
    exact ⟨answered_settle .., by simp⟩

end Sys2Proof.Machine
end

section
/-! Imian operations: what a message brings about, and its answer (R525 to R530, R538, R552). -/

namespace Sys2Proof.Machine
open Sys2Proof

section imian
variable {op : Nat} {w : Who} {m body : List Byte} {s u v : State} {k : Kept} {a : Answer} {i : Item} {o : ObjRow}

/-! ### Bringing a message (R523, R527, R528) -/

/-- What an answered message writes beyond what it does: the accounting and the frames that carry the response. -/
abbrev answerObjects : List (Nat × Nat) := [(0x1120, 1), (0x1120, 2), (0x2120, 0x12), (0x2111, 3)]

/-- A requester that reaches the device by messages, with a message that it has not sent before. -/
structure Brings (s : State) (w : Who) (m : List Byte) : Prop where
  reaches : s.reaches w = true
  notCan : ∀ c, w ≠ .can c
  fresh : (keptOf s w).find? (fun k => k.id == numAt (w == .mailbox) m 4 4 && k.body == m.drop 16) = none

/-- A response leaves for its requester. -/
def respond (w : Who) (resp : List Byte) (s : State) : State :=
  match w with
  | .dtls n => sendImian n resp (s.emit (.response w resp))
  | _ => s.emit (.response w resp)

/-- The bytes of an answer to a message. -/
def answerBytes (w : Who) (m : List Byte) (a : Answer) : List Byte :=
  messageBytes (w == .mailbox) (byteAt m 1) 0x80 a.status (numAt (w == .mailbox) m 4 4) a.count a.body

/-- A message is accounted for, its response kept and sent. -/
def answerTo (w : Who) (m : List Byte) (a : Answer) (s : State) : State :=
  respond w (answerBytes w m a) (keep w ⟨numAt (w == .mailbox) m 4 4, m.drop 16, answerBytes w m a⟩ (account w a.status s))

theorem bring_turnedAway (h : s.reaches w = false ∨ (match w with | .can _ => true | _ => false) = true) (op : Nat) (m : List Byte) : bring op w m s = s := by
  unfold bring
  dsimp only
  rw [if_pos]
  obtain h | h := h
  · simp [h]
  · cases w <;> simp_all

theorem bring_taken (hreaches : s.reaches w = true) (hcan : ∀ c, w ≠ .can c) (op : Nat) (m : List Byte) :
    bring op w m s = (let r := takeMessage w (w == .mailbox) (byteAt m 1 == op) m s; r.2.2 (respond w r.2.1 r.1)) := by
  unfold bring
  dsimp only
  rw [if_neg]
  · cases w <;> rfl
  · cases w with
    | can c => exact absurd rfl (hcan c)
    | dtls n => simp [hreaches]
    | mailbox => simp [hreaches]

theorem bring_kept (hreaches : s.reaches w = true) (hcan : ∀ c, w ≠ .can c)
    (hkept : (keptOf s w).find? (fun k => k.id == numAt (w == .mailbox) m 4 4 && k.body == m.drop 16) = some k) (op : Nat) :
    bring op w m s = respond w k.answer ((useSession w s).bump 0x1120 0x06) := by
  rw [bring_taken hreaches hcan]
  simp only [takeMessage, hkept]
  rfl

theorem bring_fresh (h : Brings s w m) (hop : byteAt m 1 = op) :
    bring op w m s = (let r := execute w (w == .mailbox) m s; r.2.2 (answerTo w m r.2.1 r.1)) := by
  rw [bring_taken h.reaches h.notCan]
  simp only [takeMessage, h.fresh, hop, beq_self_eq_true, if_true]
  simp only [answerTo, answerBytes, hop]

theorem bring_malformed (h : Brings s w m) (hop : byteAt m 1 ≠ op) : bring op w m s = answerTo w m (.bare 0x0C) s := by
  rw [bring_taken h.reaches h.notCan]
  simp only [takeMessage, h.fresh, beq_eq_false_iff_ne.mpr hop]
  rfl

theorem execute_items {little : Bool} (h : messageItems little m = none) : execute w little m s = (s, .bare 0x0C, id) := by simp [execute, h]

theorem execute_reserved {little : Bool} {l : List Item} (h : messageItems little m = some l) (hbits : byteAt m 2 ≠ 0 ∨ numAt little m 10 2 ≠ 0) :
    execute w little m s = (s, .bare 0x05, id) := by simp [execute, h, hbits]

/-! ### Answers -/

theorem respond_writes (w : Who) (resp : List Byte) (s : State) :
    Out.response w resp ∈ (respond w resp s).outs ∧ Touches [.port] [(0x2120, 0x12), (0x2111, 3)] s (respond w resp s) := by
  cases w with
  | dtls n =>
    have hsent : Sends [.port] (s.emit (.response (.dtls n) resp)) (respond (.dtls n) resp s) := Sends.sendImian (by simp) n resp _
    exact ⟨by rw [hsent.outs]; simp, Touches.trans (u := s.emit (.response (.dtls n) resp)) (by simp) hsent.touches⟩
  | mailbox => simp [respond]
  | can c => simp [respond]

theorem keep_writes (w : Who) (k : Kept) (s : State) :
    (keep w k s).imian.transfers = s.imian.transfers ∧ (keep w k s).imian.subscriptions = s.imian.subscriptions ∧ Touches [.imian] [] s (keep w k s) := by
  unfold keep
  cases w with
  | dtls n =>
    dsimp only
    cases s.session n <;> simp
  | mailbox => simp
  | can c => simp

theorem account_requests (w : Who) (c : Nat) (s : State) :
    (account w c s).imian.transfers = s.imian.transfers ∧ (account w c s).imian.subscriptions = s.imian.subscriptions := by
  unfold account
  extract_lets v x
  have hx : x.imian.transfers = s.imian.transfers ∧ x.imian.subscriptions = s.imian.subscriptions := by
    unfold x
    split <;> simp [v]
  cases w with
  | dtls n =>
    dsimp only
    cases x.session n <;> simp [hx]
  | mailbox => simp [hx]
  | can c => exact hx

theorem useSession_touches (w : Who) (s : State) : Touches [.imian] [] s (useSession w s) := by
  unfold useSession
  cases w with
  | dtls n =>
    dsimp only
    cases s.session n <;> simp
  | mailbox => simp
  | can c => simp

theorem answerTo_writes (w : Who) (m : List Byte) (a : Answer) (s : State) :
    Out.response w (answerBytes w m a) ∈ (answerTo w m a s).outs ∧ Touches [.imian, .port] answerObjects s (answerTo w m a s) ∧
    (answerTo w m a s).imian.transfers = s.imian.transfers ∧ (answerTo w m a s).imian.subscriptions = s.imian.subscriptions := by
  obtain ⟨htransfers, hsubs, hkept⟩ := keep_writes w ⟨numAt (w == .mailbox) m 4 4, m.drop 16, answerBytes w m a⟩ (account w a.status s)
  obtain ⟨hout, hsent⟩ := respond_writes w (answerBytes w m a) (keep w ⟨numAt (w == .mailbox) m 4 4, m.drop 16, answerBytes w m a⟩ (account w a.status s))
  obtain ⟨htransfers', hsubs'⟩ := account_requests w a.status s
  have himian := hsent.1 .imian (by simp)
  change (answerTo w m a s).imian = _ at himian
  refine ⟨hout, ?_, by rw [himian, htransfers, htransfers'], by rw [himian, hsubs, hsubs']⟩
  have haccount : Touches [.imian, .port] answerObjects s (account w a.status s) := by simp
  exact (haccount.trans (hkept.mono (by simp) (by simp))).trans (hsent.mono (by simp) (by simp))

/-- What an answered message leaves of the state it has worked on. -/
structure AnsweredIn (w : Who) (resp : List Byte) (v u : State) : Prop where
  out : Out.response w resp ∈ u.outs
  touches : Touches [.imian, .port] answerObjects v u
  transfers : u.imian.transfers = v.imian.transfers
  subscriptions : u.imian.subscriptions = v.imian.subscriptions

theorem answeredIn (w : Who) (m : List Byte) (a : Answer) (v : State) : AnsweredIn w (answerBytes w m a) v (settle (answerTo w m a v)) := by
  obtain ⟨hout, htouches, htransfers, hsubs⟩ := answerTo_writes w m a v
  exact ⟨by simpa using hout, htouches.settle, by simpa using htransfers, by simpa using hsubs⟩

/-! ### Operations -/

/-- A message of an operation, whose header is clean, with its items. -/
structure Carries (s : State) (w : Who) (m : List Byte) (op : Nat) (l : List Item) : Prop where
  brings : Brings s w m
  operation : byteAt m 1 = op
  flags : byteAt m 2 = 0
  reserved : numAt (w == .mailbox) m 10 2 = 0
  items : messageItems (w == .mailbox) m = some l

section carries
variable {l : List Item}

theorem Carries.read (h : Carries s w m 1 l) : bring 1 w m s = answerTo w m (doRead w (w == .mailbox) l s).2 (doRead w (w == .mailbox) l s).1 := by
  rw [bring_fresh h.brings h.operation]
  simp only [execute, h.items, h.operation, h.flags, h.reserved, ne_eq, not_true_eq_false, or_self, if_false, id]

theorem Carries.write (h : Carries s w m 2 l) : bring 2 w m s = answerTo w m (doWrite w (w == .mailbox) l s).2 (doWrite w (w == .mailbox) l s).1 := by
  rw [bring_fresh h.brings h.operation]
  simp only [execute, h.items, h.operation, h.flags, h.reserved, ne_eq, not_true_eq_false, or_self, if_false, id]

theorem Carries.readSeg (h : Carries s w m 3 [i]) : bring 3 w m s = answerTo w m (doReadSeg w (w == .mailbox) i s).2 (doReadSeg w (w == .mailbox) i s).1 := by
  rw [bring_fresh h.brings h.operation]
  simp only [execute, h.items, h.operation, h.flags, h.reserved, ne_eq, not_true_eq_false, or_self, if_false, id]

theorem Carries.writeSeg (h : Carries s w m 4 [i]) : bring 4 w m s = answerTo w m (doWriteSeg w (w == .mailbox) i s).2 (doWriteSeg w (w == .mailbox) i s).1 := by
  rw [bring_fresh h.brings h.operation]
  simp only [execute, h.items, h.operation, h.flags, h.reserved, ne_eq, not_true_eq_false, or_self, if_false, id]

theorem Carries.subscribe (h : Carries s w m 6 l) : bring 6 w m s = answerTo w m (doSubscribe w (w == .mailbox) l s).2 (doSubscribe w (w == .mailbox) l s).1 := by
  rw [bring_fresh h.brings h.operation]
  simp only [execute, h.items, h.operation, h.flags, h.reserved, ne_eq, not_true_eq_false, or_self, if_false, id]

theorem Carries.summary (h : Carries s w m 7 []) : bring 7 w m s = answerTo w m (doSummary w (w == .mailbox) s).2 (doSummary w (w == .mailbox) s).1 := by
  rw [bring_fresh h.brings h.operation]
  simp only [execute, h.items, h.operation, h.flags, h.reserved, ne_eq, not_true_eq_false, or_self, if_false, id]

end carries

/-! ### READ (R526) -/

theorem readItems_passed {little : Bool} {s' : State} {v : List Byte} (hstatus : readItemStatus s w i = 0) (hobj : findObj i.idx i.sub = some o)
    (hread : readRows little i.shadow o i.count i.row s = (s', v)) (hfits : 16 + (i.bytes little o.ty.code 0 v).length ≤ 8192) :
    doRead w little [i] s = (s', ⟨0, 1, i.bytes little o.ty.code 0 v⟩) := by
  simp [doRead, readItems, hstatus, hobj, hread, hfits, firstFailure]

theorem readItems_refused {little : Bool} (hstatus : readItemStatus s w i ≠ 0) :
    doRead w little [i] s = (s, ⟨readItemStatus s w i, 1, i.bytes little i.code (readItemStatus s w i) []⟩) := by
  unfold doRead readItems
  generalize readItemStatus s w i = c at *
  cases c with
  | zero => exact absurd rfl hstatus
  | succ n => simp [readItems, firstFailure]

/-! ### WRITE (R526) -/

theorem keys_nodup_one (hcount : i.count = 1) : i.keys.Nodup := by simp [Item.keys, Item.rows, hcount, List.range_one]

theorem doWrite_one {little : Bool} {x : Val} (hcount : i.count = 1) (hvalues : i.values little = some [x]) (hstatus : writeItemStatus s w little i = 0) :
    (doWrite w little [i] s).1 =
      (if isSetObject i.idx i.sub then shadowEdited (applyRow i.idx i.sub i.row x s) else applyRow i.idx i.sub i.row x s) := by
  unfold doWrite
  rw [if_neg (by simp [keys_nodup_one hcount])]
  have hrows : i.rows = [i.row] := by
    unfold Item.rows
    rw [hcount, List.range_one]
    split <;> simp_all
  simp [hstatus, firstFailure, hrows, hvalues]

theorem doWrite_refused {little : Bool} {l : List Item} (h : l.any (fun i => writeItemStatus s w little i != 0) = true) : (doWrite w little l s).1 = s := by
  unfold doWrite
  split
  · rfl
  · extract_lets cs bad shown body
    have hbad : bad ≠ 0 := by
      obtain ⟨i, hi, hne⟩ := List.any_eq_true.mp h
      have hne : writeItemStatus s w little i ≠ 0 := by simpa using hne
      obtain ⟨c, hc⟩ := Option.isSome_iff_exists.mp (List.find?_isSome.mpr ⟨_, List.mem_map_of_mem (f := fun i => writeItemStatus s w little i) hi, by simpa using hne⟩ :
        ((l.map fun i => writeItemStatus s w little i).find? fun c => c != 0).isSome = true)
      have := List.find?_some hc
      simpa [bad, cs, firstFailure, hc] using this
    rw [if_pos hbad]

end imian

end Sys2Proof.Machine
end

section
/-! What live writes leave of the sets (R520): their effects write neither RW nor RWS objects. -/

namespace Sys2Proof.Machine
open Sys2Proof

/-- The RW objects, the shadow set and the active set are as they were. -/
structure KeepsDicts (s u : State) : Prop where
  live : u.live = s.live
  shadow : u.shadow = s.shadow
  active : u.active = s.active

namespace KeepsDicts
variable {s u v : State}

theorem refl (s : State) : KeepsDicts s s := ⟨rfl, rfl, rfl⟩
theorem trans (h : KeepsDicts s u) (g : KeepsDicts u v) : KeepsDicts s v := ⟨g.live.trans h.live, g.shadow.trans h.shadow, g.active.trans h.active⟩

theorem ite (c : Prop) [Decidable c] (h : KeepsDicts s u) (g : KeepsDicts s v) : KeepsDicts s (if c then u else v) := by
  split
  · exact h
  · exact g

theorem of_touches {ps : List Part} {os : List (Nat × Nat)} (h : Touches ps os s u) (hl : Part.live ∉ ps) (hs : Part.shadow ∉ ps) (ha : Part.active ∉ ps) :
    KeepsDicts s u := ⟨h.1 .live hl, h.1 .shadow hs, h.1 .active ha⟩

theorem of_streams (h : KeepsStreams s u) : KeepsDicts s u := ⟨h.live, h.shadow, h.active⟩

theorem setFour (fn : Nat) (ep dp : Bool) (s : State) : KeepsDicts s (s.setFour fn ep dp) := .of_touches (ps := [.power]) (os := []) (by simp) (by simp) (by simp) (by simp)

theorem fourWrite (fn st : Nat) (on : Bool) (s : State) : KeepsDicts s (fourWrite fn st on s).1 := by
  unfold Machine.fourWrite
  split
  · exact refl s
  · exact setFour ..
  · exact refl s
  · exact setFour ..

theorem fourEnd (fn st : Nat) (s : State) : KeepsDicts s (fourEnd fn st s).1 := by
  unfold Machine.fourEnd
  dsimp only
  split
  · exact setFour ..
  · exact setFour ..
  · exact refl s

/-! ### Partner streams -/

theorem setStream (h : Nat) (x : Stream) (s : State) : KeepsDicts s (s.setStream h x) := ⟨rfl, rfl, rfl⟩
theorem setRow (i j r n : Nat) (s : State) : KeepsDicts s (s.setRow i j r n) := ⟨rfl, rfl, rfl⟩

theorem setStreamState (h new : Nat) (s : State) : KeepsDicts s (setStreamState h new s) := by
  have henables := enables_setStreamState h new s
  simp only [State.enables, Prod.mk.injEq] at henables
  exact ⟨henables.2.2.1, henables.2.2.2, active_setStreamState h new s⟩

theorem closeSessionOf (h : Nat) (s : State) : KeepsDicts s (closeSessionOf h s) := by
  unfold Machine.closeSessionOf
  extract_lets v
  have hv : KeepsDicts s v := ite _ ⟨by simp, by simp, by simp⟩ (refl s)
  exact (hv.trans (setRow 0x2203 0x0D h 0 v)).trans (setStream ..)

theorem streamGone (h : Nat) (s : State) : KeepsDicts s (streamGone h s) := by
  unfold Machine.streamGone
  extract_lets v x
  have hv : KeepsDicts s v := (closeSessionOf h s).trans (of_streams (KeepsStreams.unplaceStream h _))
  exact (hv.trans (setStream h _ v)).trans (of_streams (KeepsStreams.ringResize _))

theorem streamStopping (h : Nat) (s : State) : KeepsDicts s (streamStopping h s) := by
  unfold Machine.streamStopping
  extract_lets v
  have hv : KeepsDicts s v := setStreamState h 6 s
  split
  · exact ((hv.trans (fourEnd (fnStream h) 3 v)).trans (streamGone h _)).trans (setStreamState h 0 _)
  · exact hv.trans (of_streams (KeepsStreams.partnerCommand h 1 v))

theorem reportRow (h : Nat) (s : State) : KeepsDicts s (reportRow h s) :=
  of_touches (Sends.reportRow (ps := [.port, .draws]) (by simp) (by simp) h s).touches (by simp) (by simp) (by simp)

theorem onIngest (f : IngestSt → IngestSt) (s : State) : KeepsDicts s (s.onIngest f) := ⟨by simp, by simp, by simp⟩

theorem streamEnable (h : Nat) (on : Bool) (s : State) : KeepsDicts s (streamEnable h on s) := by
  unfold Machine.streamEnable
  dsimp only
  repeat' split
  · exact refl s
  · exact (reportRow h s).trans (onIngest ..)
  · exact (reportRow h s).trans (fourWrite ..)
  · exact (reportRow h s).trans (fourWrite ..)
  · exact reportRow h s
  · exact ((onIngest _ s).trans (streamGone ..)).trans (setStreamState ..)
  · exact (onIngest _ s).trans (fourWrite ..)
  · exact (onIngest _ s).trans (fourWrite ..)
  · exact onIngest _ s
  · exact (onIngest _ s).trans (streamStopping ..)

/-! ### Feeders, local streams, jobs -/

theorem feederEnable (f : Nat) (on : Bool) (s : State) : KeepsDicts s (feederEnable f on s) := by
  unfold Machine.feederEnable
  split
  next h =>
    have hf : f < 4 := by simp at h; exact h.1
    have hfour := fourWrite (fnFeeder f) (feederState s f) on s
    generalize Machine.fourWrite (fnFeeder f) (feederState s f) on s = p at *
    refine ite _ hfour (hfour.trans ?_)
    exact of_touches (feederMove_writes hf _ _).2.1 (by decide) (by decide) (by decide)
  next => exact refl s

theorem localEnable (l : Nat) (on : Bool) (s : State) : KeepsDicts s (localEnable l on s) := by
  unfold Machine.localEnable
  split
  next h =>
    have hl : l < 4 := by simp at h; exact h.1
    have hfour := fourWrite (fnLocal l) (localState s l) on s
    generalize Machine.fourWrite (fnLocal l) (localState s l) on s = p at *
    refine ite _ hfour (hfour.trans ?_)
    exact of_touches (localMove_writes hl _ _).2.2 (by decide) (by decide) (by decide)
  next => exact refl s

theorem setJob (j : Nat) (x : JobRow) (s : State) : KeepsDicts s (s.setJob j x) := ⟨rfl, rfl, rfl⟩

theorem setJobState (j n : Nat) (s : State) : KeepsDicts s (setJobState j n s) :=
  of_touches (setJobState_writes j n s).2.2.2.2 (by simp) (by simp) (by simp)

theorem jobMove (j n : Nat) (s : State) : KeepsDicts s (jobMove j n s) := by
  unfold Machine.jobMove
  dsimp only
  refine ite _ ((setJobState j n s).trans (setJob ..)) (ite _ ?_ (setJobState j n s))
  have hend := ((setJobState j n s).trans (fourEnd (fnJob j) 3 _)).trans (setJobState j (Machine.fourEnd (fnJob j) 3 (Machine.setJobState j n s)).2 _)
  exact ite _ (hend.trans (setJob ..)) hend

theorem jobEnable (j : Nat) (on : Bool) (s : State) : KeepsDicts s (jobEnable j on s) := by
  unfold Machine.jobEnable
  split
  · exact refl s
  · have hfour := fourWrite (fnJob j) (s.job j).state on s
    dsimp only
    generalize Machine.fourWrite (fnJob j) (s.job j).state on s = p at *
    exact ite _ hfour (hfour.trans (jobMove ..))

/-! ### Capture -/

theorem onCapture (f : CaptureSt → CaptureSt) (s : State) : KeepsDicts s (s.onCapture f) := ⟨rfl, rfl, rfl⟩
theorem raise (code : Nat) (l : List Byte) (s : State) : KeepsDicts s (raise code l s) := ⟨by simp, by simp, by simp⟩

theorem captureNotice (kind row flags cause number t0 rows : Nat) (s : State) : KeepsDicts s (captureNotice kind row flags cause number t0 rows s) :=
  ⟨by simp [Machine.captureNotice], by simp [Machine.captureNotice], by simp [Machine.captureNotice]⟩

theorem releaseRow (r : Nat) (s : State) : KeepsDicts s (releaseRow r s) := by
  unfold Machine.releaseRow
  split
  · exact refl s
  · exact ⟨by simp [Machine.captureNotice, Machine.showFree], by simp [Machine.captureNotice, Machine.showFree], by simp [Machine.captureNotice, Machine.showFree]⟩

theorem makeRoom (n : Nat) (l : List Nat) (s : State) : KeepsDicts s (makeRoom n l s) := by
  induction l generalizing s with
  | nil => exact refl s
  | cons r l ih =>
    unfold Machine.makeRoom
    exact ite _ (refl s) ((releaseRow r s).trans (ih _))

theorem reserve (s : State) : KeepsDicts s (reserve s).2 := by
  unfold Machine.reserve
  extract_lets c n fits v
  have hv : KeepsDicts s v := ite _ (makeRoom ..) (refl s)
  split
  · exact refl s
  · split
    · exact onCapture (fun x => { x with reserved := n }) s
    · split
      · exact hv.trans (onCapture (fun x => { x with reserved := n }) v)
      · exact hv

theorem arm (s : State) : KeepsDicts s (arm s) := by
  unfold Machine.arm
  have hreserve := reserve s
  generalize Machine.reserve s = p at *
  obtain ⟨row, v⟩ := p
  cases row with
  | some r => exact hreserve.trans ⟨rfl, rfl, rfl⟩
  | none => exact (hreserve.trans (KeepsDicts.trans (onCapture ..) (setRow ..))).trans (raise ..)

theorem showFree (s : State) : KeepsDicts s (showFree s) := ⟨rfl, rfl, rfl⟩

theorem setCaptureState (n : Nat) (s : State) : KeepsDicts s (setCaptureState n s) := ite _ (refl s) ((setRow ..).trans (raise ..))

theorem captureOn (s : State) : KeepsDicts s (captureOn s) := ((onCapture _ s).trans (setCaptureState 2 _)).trans (arm _)

theorem endRecord (cause : Nat) (s : State) : KeepsDicts s (endRecord cause s) := by
  unfold Machine.endRecord
  split
  · exact refl s
  · dsimp only
    split <;> exact (KeepsDicts.trans (by constructor <;> simp) (showFree _))

theorem captureMove (new : Nat) (s : State) : KeepsDicts s (captureMove new s) := by
  have hset := setCaptureState new s
  unfold Machine.captureMove
  extract_lets v w
  split
  · have hend := hset.trans (fourEnd fnCapture 1 v)
    dsimp only
    generalize Machine.fourEnd fnCapture 1 v = p at *
    exact ite _ (hend.trans (captureOn _)) (hend.trans (setCaptureState ..))
  · split
    · have hw : KeepsDicts s w := hset.trans (ite _ (endRecord 3 v) (refl v))
      split
      · exact hw
      · have hend := hw.trans (fourEnd fnCapture 3 w)
        dsimp only
        generalize Machine.fourEnd fnCapture 3 w = p at *
        have hstopped := ((hend.trans (onCapture (fun c => { c with buffer := [], reserved := 0 }) p.1)).trans (setRow 0x2A01 0x02 noRow 0 _)).trans
          (setCaptureState p.2 _)
        have hshown := hstopped.trans (showFree _)
        exact ite _ (hshown.trans (captureOn _)) hshown
    · exact hset

theorem captureEnable (on : Bool) (s : State) : KeepsDicts s (captureEnable on s) := by
  unfold Machine.captureEnable
  split
  · exact refl s
  · have hfour := fourWrite fnCapture (captureState s) on s
    dsimp only
    generalize Machine.fourWrite fnCapture (captureState s) on s = p at *
    exact ite _ hfour (hfour.trans (captureMove ..))

end KeepsDicts

/-- A live write stores its value, and its effect writes no RW or RWS object (R520). -/
theorem liveWrite_keeps {i j : Nat} (h : i ≠ 0x2020) (r : Nat) (x : Val) (s : State) : KeepsDicts (s.setLive i j r x) (liveWrite i j r x s) := by
  unfold liveWrite
  rw [if_neg h]
  dsimp only
  split
  · exact .streamEnable ..
  · exact .feederEnable ..
  · exact .localEnable ..
  · exact .captureEnable ..
  · exact .jobEnable ..
  · exact .refl _

end Sys2Proof.Machine
end

section
/-! Imian: segments, subscriptions, the summary (R529, R530, R538, R552). -/

namespace Sys2Proof.Machine
open Sys2Proof

section segments
variable {w : Who} {m : List Byte} {s s' u : State} {i : Item} {o : ObjRow} {little : Bool}

/-! ### READ_SEG -/

theorem doReadSeg_passed {size gen : Nat} {d : List Byte} (hlen : i.value.length = 16) (hobj : findObj i.idx i.sub = some o)
    (hstatus : segReadStatus s w i (numAt little i.value 8 4) 4096 = 0)
    (hread : readSegment little i.shadow o i.row (numAt little i.value 0 8) (numAt little i.value 8 4) (numAt little i.value 12 4) s = (s', 0, size, gen, d)) :
    doReadSeg w little i s = (s', ⟨0, 1, i.bytes little i.code 0
      (numTo little 8 (numAt little i.value 0 8) ++ numTo little 4 d.length ++ numTo little 8 size ++ numTo little 4 gen ++ d)⟩) := by
  simp [doReadSeg, hlen, hstatus, hobj, hread]

/-! ### WRITE_SEG -/

theorem doWriteSeg_taken {flags : Nat} (hlen : 20 ≤ i.value.length) (hobj : findObj i.idx i.sub = some o) (hflags : numAt little i.value 12 4 = flags)
    (hstatus : segWriteStatus s w i (numAt little i.value 8 4) flags = 0)
    (hrefused : segWriteRefused s w o i.row (numAt little i.value 0 8) (numAt little i.value 16 4) (bit flags 0) (i.value.drop 20) = 0) :
    (doWriteSeg w little i s).1 = (takeSegment w o i.row (bit flags 0) (bit flags 1) (i.value.drop 20) s).1 := by
  simp [doWriteSeg, hflags, show ¬i.value.length < 20 by omega, hstatus, hobj, hrefused]

theorem doWriteSeg_refused (h : i.value.length < 20 ∨
      segWriteStatus s w i (numAt little i.value 8 4) (numAt little i.value 12 4) ≠ 0 ∨
      (findObj i.idx i.sub).any (fun o => segWriteRefused s w o i.row (numAt little i.value 0 8)
        (numAt little i.value 16 4) (bit (numAt little i.value 12 4) 0) (i.value.drop 20) != 0) = true) : (doWriteSeg w little i s).1 = s := by
  unfold doWriteSeg
  dsimp only
  split
  next o hstatus hobj =>
    rw [if_pos]
    obtain h | h | h := h
    · simp [h] at hstatus
    · split at hstatus
      · omega
      · exact absurd hstatus h
    · simpa [hobj] using h
  next => rfl

/-- The transfers of the objects other than one. -/
def otherTransfers (k : Nat) (s : State) : List Transfer := s.imian.transfers.filter fun t => t.key != k

theorem takeSegment_whole {row : Nat} {data : List Byte} (hset : isSetObject o.idx o.sub = true) (himage : o.idx ≠ 0x3110) (hrange : inRange o (.oct data) = true) :
    (takeSegment w o row true true data s).1 =
      shadowEdited ((s.onImian fun x => { x with transfers := otherTransfers (okey o.idx o.sub row) s }).setShadow o.idx o.sub row (.oct data)) := by
  have hblob : ¬(o.idx = 0x3021 ∧ o.sub = 1) := by
    rintro ⟨hidx, hsub⟩
    rw [hidx, hsub] at hset
    exact absurd hset (by decide)
  have hgood : (o.idx == 0x3021 && o.sub == 1 && (decide (byteAt data 2 ≥ 3) || beAt data 6 2 != 0)) = false := by
    rw [Bool.and_eq_false_iff]
    left
    simpa using hblob
  unfold takeSegment closeTransfer
  simp only [beq_eq_false_iff_ne.mpr himage, hrange, hset, Bool.false_and, Bool.false_eq_true, if_false, if_true, List.nil_append, hgood, Bool.not_true, Bool.or_self]
  rfl

theorem takeSegment_first {row : Nat} {data : List Byte} (himage : o.idx ≠ 0x3110) :
    (takeSegment w o row true false data s).1 = s.onImian fun x =>
      { x with transfers := otherTransfers (okey o.idx o.sub row) s ++ [⟨okey o.idx o.sub row, w, data, s.now⟩] } := by
  unfold takeSegment
  simp only [beq_eq_false_iff_ne.mpr himage, Bool.false_and, Bool.false_eq_true, if_false, if_true, List.nil_append]
  rfl

/-- The transfer just begun is the one open on its object. -/
theorem find_newTransfer (k : Nat) (t : Transfer) (ht : t.key = k) (s : State) :
    ((otherTransfers k s ++ [t]).find? fun t => t.key == k) = some t := by
  rw [List.find?_append, List.find?_eq_none.mpr, Option.none_or, List.find?_cons_of_pos (by simp [ht])]
  intro x hx
  simpa [otherTransfers] using (List.mem_filter.mp hx).2

/-! ### SUBSCRIBE -/

/-- The subscriptions of a session to the rows an item names. -/
def subscribesTo (n : Nat) (i : Item) (b : Subscription) : Bool :=
  b.session == n && b.idx == i.idx && b.sub == i.sub && b.row == i.row && b.count == i.count

/-- An item accepted leaves one subscription of its session to its rows, with its mode, or none when it cancels. -/
theorem subscribeItem_passed {n : Nat} (h : subscribeStatus s n i = 0) :
    ∃ b : Subscription, subscribesTo n i b = true ∧ b.mode = byteAt i.value 0 ∧
      subscribeItem n i s = (s.onImian fun x => { x with subscriptions :=
        (if byteAt i.value 0 = 2 then s.imian.subscriptions.filter (fun b => !subscribesTo n i b)
         else s.imian.subscriptions.filter (fun b => !subscribesTo n i b) ++ [b]) }, 0) := by
  unfold subscribeItem
  dsimp only
  rw [if_neg (by simp [h])]
  exact ⟨_, by simp [subscribesTo], rfl, rfl⟩

theorem subscribeItem_refused {n : Nat} (h : subscribeStatus s n i ≠ 0) : subscribeItem n i s = (s, subscribeStatus s n i) := by
  unfold subscribeItem
  dsimp only
  rw [if_pos h]

theorem doSubscribe_one (n : Nat) : (doSubscribe (.dtls n) little [i] s).1 = (subscribeItem n i s).1 := by
  simp [doSubscribe, subscribeItems]

/-! ### SUMMARY -/

theorem doSummary_taken (hoffered : offered s w .summary 0x1010 0x00 = true) (hrole : roleHas ((s.roleOf w).getD 0) 1 = true) :
    doSummary w little s = (takeSummary s, ⟨0, 1, (⟨0x1010, 0, 0x0D, 0, noRow, 1, 0, 0, []⟩ : Item).bytes little 0x0D 0 (summaryBytes (takeSummary s) little)⟩) := by
  simp [doSummary, hoffered, hrole]

theorem doSummary_refused (h : offered s w .summary 0x1010 0x00 = false ∨ roleHas ((s.roleOf w).getD 0) 1 = false) :
    doSummary w little s = (s, .bare (if offered s w .summary 0x1010 0x00 = false then 0x0D else 0x02)) := by
  unfold doSummary
  by_cases hoffered : offered s w .summary 0x1010 0x00 = false
  · simp [hoffered]
  · have hrole := h.resolve_left hoffered
    simp [hoffered, hrole]

end segments

theorem touches_setShadow (i j r : Nat) (x : Val) (s : State) : Touches [.shadow, .imian, .port] [] s (s.setShadow i j r x) := by
  refine ⟨fun p hp => ?_, fun _ _ _ _ _ _ _ _ => rfl, rfl⟩
  cases p with
  | shadow => simp at hp
  | _ => rfl

/-- An edit of the shadow set shows it EDITED in a new generation (R541, R542). -/
theorem shadowEdited_writes (s : State) :
    shadowState (shadowEdited s) = 1 ∧ (shadowEdited s).shadow = s.shadow ∧ Touches [] [(0x1200, 5), (0x1200, 6)] s (shadowEdited s) := by
  simp [shadowEdited, setShadowState, nextGeneration, shadowState]

/-- What an answered edit of the shadow set leaves. -/
theorem shadow_answered {w : Who} {resp : List Byte} {s v u : State} {i j r : Nat} {x : Val} (hv : v.shadow = writeIn s.shadow i j r x)
    (hs : Touches [.shadow, .imian, .port] [] s v) (h : AnsweredIn w resp (shadowEdited v) u) :
    readIn u.shadow i j r = x ∧ u.active = s.active ∧ shadowState u = 1 ∧
    Touches [.shadow, .imian, .port] [(0x1200, 5), (0x1200, 6), (0x1120, 1), (0x1120, 2), (0x2120, 0x12), (0x2111, 3)] s u := by
  obtain ⟨hstate, hshadow, hedited⟩ := shadowEdited_writes v
  have hu : u.shadow = v.shadow := (h.touches.1 .shadow (by simp)).trans hshadow
  have hall := ((hs.mono (ps' := [.shadow, .imian, .port])
    (os' := [(0x1200, 5), (0x1200, 6), (0x1120, 1), (0x1120, 2), (0x2120, 0x12), (0x2111, 3)]) (by simp) (by simp)).trans
    (hedited.mono (by simp) (by simp))).trans (h.touches.mono (by simp) (by simp))
  refine ⟨by rw [hu, hv, readIn_writeIn_self], hall.1 .active (by simp), ?_, hall⟩
  rw [shadowState, h.touches.ro (by omega) (by decide) (by simp) (by omega)]
  exact hstate

theorem brings_advance {t : Nat} {w : Who} {m : List Byte} {s : State} (hreaches : (s.advance t).reaches w = true) (hcan : ∀ c, w ≠ .can c)
    (hfresh : (keptOf s w).find? (fun k => k.id == numAt (w == .mailbox) m 4 4 && k.body == m.drop 16) = none) : Brings (s.advance t) w m :=
  ⟨hreaches, hcan, hfresh⟩

/-- A message that is malformed, or whose header has reserved bits, is answered and does nothing. -/
theorem bring_refused {op : Nat} {w : Who} {m : List Byte} {s : State} (h : Brings s w m)
    (hbad : byteAt m 1 ≠ op ∨ (messageItems (w == .mailbox) m).isNone = true ∨ byteAt m 2 ≠ 0 ∨ numAt (w == .mailbox) m 10 2 ≠ 0) :
    bring op w m s = answerTo w m (.bare (if byteAt m 1 ≠ op ∨ (messageItems (w == .mailbox) m).isNone = true then 0x0C else 0x05)) s := by
  by_cases hop : byteAt m 1 = op
  · rw [bring_fresh h hop]
    cases hitems : messageItems (w == .mailbox) m with
    | none =>
      rw [execute_items hitems, if_pos (by simp)]
      rfl
    | some l =>
      have hbits := (hbad.resolve_left (by simp [hop])).resolve_left (by simp [hitems])
      rw [execute_reserved hitems hbits, if_neg (by simp [hop])]
      rfl
  · rw [bring_malformed h hop, if_pos (.inl hop)]

/-- Settles O35. -/
theorem imianOperationsAreAnswered : Obligations.ImianOperationsAreAnswered := by
  refine ⟨?turnedAway, ?kept, ?malformed, ?read, ?readRefused, ?write, ?writeLive, ?writeRefused, ?readSeg, ?writeSeg, ?writeFirst, ?writeSegRefused, ?subscribe,
    ?subscribeRefused, ?summary, ?summaryRefused⟩
  case turnedAway =>
    intro t who m c s hmem h
    have haway (op : Nat) : bring op who m (s.advance t) = s.advance t := bring_turnedAway h op m
    simp only [List.mem_cons, List.not_mem_nil, or_false] at hmem
    rcases hmem with rfl | rfl | rfl | rfl | rfl | rfl
    · exact .unchanged (f := bring 1 who m) rfl (haway 1)
    · exact .unchanged (f := bring 2 who m) rfl (haway 2)
    · exact .unchanged (f := bring 3 who m) rfl (haway 3)
    · exact .unchanged (f := bring 4 who m) rfl (haway 4)
    · exact .unchanged (f := bring 6 who m) rfl (haway 6)
    · exact .unchanged (f := bring 7 who m) rfl (haway 7)
  case kept =>
    intro t who m k c s hmem hreaches hcan hkept
    have hnot : ∀ c, who ≠ .can c := by rintro c rfl; cases hcan
    have hanswered (op : Nat) : Out.response who k.answer ∈ (settle (bring op who m (s.advance t))).outs ∧
        (settle (bring op who m (s.advance t))).ro 0x1120 0x06 = (s.ro 0x1120 0x06 + 1) % 2 ^ 32 ∧
        Touches [.imian, .port] [(0x1120, 6), (0x2120, 0x12), (0x2111, 3)] (s.advance t) (settle (bring op who m (s.advance t))) := by
      rw [bring_kept hreaches hnot hkept op]
      have hused := useSession_touches who (s.advance t)
      obtain ⟨hout, hsent⟩ := respond_writes who k.answer ((useSession who (s.advance t)).bump 0x1120 0x06)
      generalize respond who k.answer ((useSession who (s.advance t)).bump 0x1120 0x06) = v at *
      have hcount : v.ro 0x1120 0x06 = (s.ro 0x1120 0x06 + 1) % 2 ^ 32 := by
        rw [hsent.ro (by omega) (by decide) (by simp) (by omega)]
        have hwas : (useSession who (s.advance t)).ro 0x1120 0x06 = s.ro 0x1120 0x06 :=
          (hused.ro (by omega) (by decide) (by simp) (by omega)).trans (by simp)
        simp [State.bump, State.addTo, hwas]
        rfl
      refine ⟨by simpa using hout, by simpa using hcount, ?_⟩
      have hbumped : Touches [.imian, .port] [(0x1120, 6), (0x2120, 0x12), (0x2111, 3)] (s.advance t) ((useSession who (s.advance t)).bump 0x1120 0x06) := by
        simpa using hused.mono (by simp) (by simp)
      exact (hbumped.trans (hsent.mono (by simp) (by simp))).settle
    simp only [List.mem_cons, List.not_mem_nil, or_false] at hmem
    rcases hmem with rfl | rfl | rfl | rfl | rfl | rfl
    · exact .of (f := bring 1 who m) rfl (hanswered 1)
    · exact .of (f := bring 2 who m) rfl (hanswered 2)
    · exact .of (f := bring 3 who m) rfl (hanswered 3)
    · exact .of (f := bring 4 who m) rfl (hanswered 4)
    · exact .of (f := bring 6 who m) rfl (hanswered 6)
    · exact .of (f := bring 7 who m) rfl (hanswered 7)
  case malformed =>
    intro t op who m c s hmem hreaches hcan hfresh hbad
    have hnot : ∀ c, who ≠ .can c := by rintro c rfl; cases hcan
    have hanswered := answeredIn who m (.bare (if byteAt m 1 ≠ op ∨ (messageItems (who == .mailbox) m).isNone = true then 0x0C else 0x05)) (s.advance t)
    rw [← bring_refused (brings_advance hreaches hnot hfresh) hbad] at hanswered
    simp only [List.mem_cons, List.not_mem_nil, or_false, Prod.mk.injEq] at hmem
    rcases hmem with ⟨rfl, rfl⟩ | ⟨rfl, rfl⟩ | ⟨rfl, rfl⟩ | ⟨rfl, rfl⟩ | ⟨rfl, rfl⟩ | ⟨rfl, rfl⟩
    · exact .of (f := bring 1 who m) rfl ⟨hanswered.out, hanswered.touches⟩
    · exact .of (f := bring 2 who m) rfl ⟨hanswered.out, hanswered.touches⟩
    · exact .of (f := bring 3 who m) rfl ⟨hanswered.out, hanswered.touches⟩
    · exact .of (f := bring 4 who m) rfl ⟨hanswered.out, hanswered.touches⟩
    · exact .of (f := bring 6 who m) rfl ⟨hanswered.out, hanswered.touches⟩
    · exact .of (f := bring 7 who m) rfl ⟨hanswered.out, hanswered.touches⟩
  case read =>
    intro t who m v i o s s' hreaches hcan hfresh hop hflags hreserved hitems hstatus hobj hread hfits
    have hnot : ∀ c, who ≠ .can c := by rintro c rfl; cases hcan
    refine .of (f := bring 1 who m) rfl ?_
    rw [Carries.read ⟨brings_advance hreaches hnot hfresh, hop, hflags, hreserved, hitems⟩, readItems_passed hstatus hobj hread hfits]
    simpa [answerBytes, hop] using (answeredIn who m _ _).out
  case readRefused =>
    intro t who m i s hreaches hcan hfresh hop hflags hreserved hitems hstatus
    have hnot : ∀ c, who ≠ .can c := by rintro c rfl; cases hcan
    refine .of (f := bring 1 who m) rfl ?_
    rw [Carries.read ⟨brings_advance hreaches hnot hfresh, hop, hflags, hreserved, hitems⟩, readItems_refused hstatus]
    exact ⟨by simpa [answerBytes, hop] using (answeredIn who m _ _).out, (answeredIn who m _ _).touches⟩
  case write =>
    intro t who m v i s hreaches hcan hfresh hop hflags hreserved hitems hcount hvalues hstatus hset
    have hnot : ∀ c, who ≠ .can c := by rintro c rfl; cases hcan
    refine .of (f := bring 2 who m) rfl ?_
    rw [Carries.write ⟨brings_advance hreaches hnot hfresh, hop, hflags, hreserved, hitems⟩]
    have hanswered := answeredIn who m (doWrite who (who == .mailbox) [i] (s.advance t)).2 (doWrite who (who == .mailbox) [i] (s.advance t)).1
    generalize settle (answerTo who m (doWrite who (who == .mailbox) [i] (s.advance t)).2 (doWrite who (who == .mailbox) [i] (s.advance t)).1) = u at *
    rw [doWrite_one hcount hvalues hstatus, if_pos hset, show applyRow i.idx i.sub i.row v (s.advance t) = (s.advance t).setShadow i.idx i.sub i.row v by
      simp [applyRow, hset]] at hanswered
    exact shadow_answered rfl (touches_setShadow ..) hanswered
  case writeLive =>
    intro t who m v i s hreaches hcan hfresh hop hflags hreserved hitems hcount hvalues hstatus hset hpulse
    have hnot : ∀ c, who ≠ .can c := by rintro c rfl; cases hcan
    refine .of (f := bring 2 who m) rfl ?_
    rw [Carries.write ⟨brings_advance hreaches hnot hfresh, hop, hflags, hreserved, hitems⟩]
    have hanswered := answeredIn who m (doWrite who (who == .mailbox) [i] (s.advance t)).2 (doWrite who (who == .mailbox) [i] (s.advance t)).1
    generalize settle (answerTo who m (doWrite who (who == .mailbox) [i] (s.advance t)).2 (doWrite who (who == .mailbox) [i] (s.advance t)).1) = u at *
    rw [doWrite_one hcount hvalues hstatus, if_neg (by simp [hset]), show applyRow i.idx i.sub i.row v (s.advance t) = liveWrite i.idx i.sub i.row v (s.advance t) by
      simp [applyRow, hset]] at hanswered
    have hkept := (liveWrite_keeps hpulse i.row v (s.advance t) (j := i.sub))
    have hu := hanswered.touches
    refine ⟨?_, (hu.1 .shadow (by simp)).trans (hkept.shadow.trans rfl), (hu.1 .active (by simp)).trans (hkept.active.trans rfl)⟩
    rw [show u.live = (liveWrite i.idx i.sub i.row v (s.advance t)).live from hu.1 .live (by simp), hkept.live]
    exact readIn_writeIn_self ..
  case writeRefused =>
    intro t who m l s hreaches hcan hfresh hop hflags hreserved hitems hrefused
    have hnot : ∀ c, who ≠ .can c := by rintro c rfl; cases hcan
    refine .of (f := bring 2 who m) rfl ?_
    rw [Carries.write ⟨brings_advance hreaches hnot hfresh, hop, hflags, hreserved, hitems⟩, doWrite_refused hrefused]
    exact (answeredIn who m _ _).touches
  case readSeg =>
    intro t size gen who m d i o s s' hreaches hcan hfresh hop hflags hreserved hitems hlen hobj hstatus hread
    have hnot : ∀ c, who ≠ .can c := by rintro c rfl; cases hcan
    refine .of (f := bring 3 who m) rfl ?_
    rw [Carries.readSeg ⟨brings_advance hreaches hnot hfresh, hop, hflags, hreserved, hitems⟩, doReadSeg_passed hlen hobj hstatus hread]
    simpa [answerBytes, hop] using (answeredIn who m _ _).out
  case writeSeg =>
    intro t who m i o s hreaches hcan hfresh hop hflags hreserved hitems hlen hobj hset hidx hsub himage hmode hstatus hrefused hrange
    have hnot : ∀ c, who ≠ .can c := by rintro c rfl; cases hcan
    refine .of (f := bring 4 who m) rfl ?_
    rw [Carries.writeSeg ⟨brings_advance hreaches hnot hfresh, hop, hflags, hreserved, hitems⟩, doWriteSeg_taken hlen hobj hmode hstatus hrefused]
    have hanswered := answeredIn who m (doWriteSeg who (who == .mailbox) i (s.advance t)).2
      (takeSegment who o i.row (bit 3 0) (bit 3 1) (i.value.drop 20) (s.advance t)).1
    generalize settle (answerTo who m _ (takeSegment who o i.row (bit 3 0) (bit 3 1) (i.value.drop 20) (s.advance t)).1) = u at *
    rw [show bit 3 0 = true from rfl, show bit 3 1 = true from rfl, takeSegment_whole (by rw [hidx, hsub]; exact hset) (by rwa [hidx]) hrange, hidx, hsub] at hanswered
    refine shadow_answered (s := s.advance t) rfl (.trans ?_ (touches_setShadow ..)) hanswered
    simp
  case writeFirst =>
    intro t who m i o s hreaches hcan hfresh hop hflags hreserved hitems hlen hobj hidx hsub himage hmode hstatus hrefused
    have hnot : ∀ c, who ≠ .can c := by rintro c rfl; cases hcan
    refine .of (f := bring 4 who m) rfl ?_
    rw [Carries.writeSeg ⟨brings_advance hreaches hnot hfresh, hop, hflags, hreserved, hitems⟩, doWriteSeg_taken hlen hobj hmode hstatus hrefused]
    have hanswered := answeredIn who m (doWriteSeg who (who == .mailbox) i (s.advance t)).2
      (takeSegment who o i.row (bit 1 0) (bit 1 1) (i.value.drop 20) (s.advance t)).1
    generalize settle (answerTo who m _ (takeSegment who o i.row (bit 1 0) (bit 1 1) (i.value.drop 20) (s.advance t)).1) = u at *
    rw [show bit 1 0 = true from rfl, show bit 1 1 = false from rfl, takeSegment_first (by rwa [hidx]), hidx, hsub] at hanswered
    refine ⟨?_, (Touches.trans (by simp) hanswered.touches)⟩
    rw [transferOn, hanswered.transfers]
    simpa using find_newTransfer (okey i.idx i.sub i.row) ⟨okey i.idx i.sub i.row, who, i.value.drop 20, (s.advance t).now⟩ rfl (s.advance t)
  case writeSegRefused =>
    intro t who m i s hreaches hcan hfresh hop hflags hreserved hitems hrefused
    have hnot : ∀ c, who ≠ .can c := by rintro c rfl; cases hcan
    refine .of (f := bring 4 who m) rfl ?_
    rw [Carries.writeSeg ⟨brings_advance hreaches hnot hfresh, hop, hflags, hreserved, hitems⟩, doWriteSeg_refused hrefused]
    exact ⟨(answeredIn who m _ _).transfers, (answeredIn who m _ _).touches⟩
  case subscribe =>
    intro t n m i s hreaches hfresh hop hflags hreserved hitems hstatus
    refine .of (f := bring 6 (.dtls n) m) rfl ?_
    rw [Carries.subscribe (w := .dtls n) ⟨brings_advance hreaches (by simp) hfresh, hop, hflags, hreserved, hitems⟩, doSubscribe_one]
    obtain ⟨b, hmine, hmode, heq⟩ := subscribeItem_passed hstatus
    rw [heq]
    have hanswered := answeredIn (.dtls n) m (doSubscribe (.dtls n) (Who.dtls n == .mailbox) [i] (s.advance t)).2 ((s.advance t).onImian fun x => { x with subscriptions :=
      (if byteAt i.value 0 = 2 then (s.advance t).imian.subscriptions.filter (fun b => !subscribesTo n i b)
       else (s.advance t).imian.subscriptions.filter (fun b => !subscribesTo n i b) ++ [b]) })
    refine ⟨?_, Touches.trans (by simp) hanswered.touches⟩
    rw [hanswered.subscriptions]
    change (List.any (if byteAt i.value 0 = 2 then _ else _) fun b => subscribesTo n i b && (b.mode == byteAt i.value 0 || byteAt i.value 0 == 2)) = _
    by_cases hcancel : byteAt i.value 0 = 2
    · rw [if_pos hcancel, hcancel, List.any_eq_false.mpr fun x hx => by simp [show subscribesTo n i x = false by simpa using (List.mem_filter.mp hx).2]]
      rfl
    · rw [if_neg hcancel, List.any_append, bne_iff_ne.mpr hcancel]
      simp [hmine, hmode]
  case subscribeRefused =>
    intro t n m i s hreaches hfresh hop hflags hreserved hitems hstatus
    refine .of (f := bring 6 (.dtls n) m) rfl ?_
    rw [Carries.subscribe (w := .dtls n) ⟨brings_advance hreaches (by simp) hfresh, hop, hflags, hreserved, hitems⟩, doSubscribe_one, subscribeItem_refused hstatus]
    exact ⟨(answeredIn (.dtls n) m _ _).subscriptions, (answeredIn (.dtls n) m _ _).touches⟩
  case summary =>
    intro t who m s hreaches hcan hfresh hop hflags hreserved hitems hoffered hrole
    have hnot : ∀ c, who ≠ .can c := by rintro c rfl; cases hcan
    refine .of (f := bring 7 who m) rfl ?_
    rw [Carries.summary ⟨brings_advance hreaches hnot hfresh, hop, hflags, hreserved, hitems⟩, doSummary_taken hoffered hrole]
    simpa [answerBytes, hop] using (answeredIn who m _ _).out
  case summaryRefused =>
    intro t who m s hreaches hcan hfresh hop hflags hreserved hitems hrefused
    have hnot : ∀ c, who ≠ .can c := by rintro c rfl; cases hcan
    refine .of (f := bring 7 who m) rfl ?_
    rw [Carries.summary ⟨brings_advance hreaches hnot hfresh, hop, hflags, hreserved, hitems⟩, doSummary_refused hrefused]
    exact ⟨by simpa [answerBytes, hop, Answer.bare] using (answeredIn who m _ _).out, (answeredIn who m _ _).touches⟩

end Sys2Proof.Machine
end

section
/-! Sessions, transfers and subscriptions end (R530, R532, R538, R539). -/

namespace Sys2Proof.Machine
open Sys2Proof

/-- Entries are written into the log: what waits in the FIFO, Imian and the device state are as they were. -/
structure LogWork (s u : State) : Prop where
  fifo : u.log.fifo = s.log.fifo
  imian : u.imian = s.imian
  power : u.power = s.power

namespace LogWork
variable {s u v : State}

theorem refl (s : State) : LogWork s s := ⟨rfl, rfl, rfl⟩
theorem trans (h : LogWork s u) (g : LogWork u v) : LogWork s v := ⟨g.fifo.trans h.fifo, g.imian.trans h.imian, g.power.trans h.power⟩

theorem onLog (f : LogSt → LogSt) (hf : (f s.log).fifo = s.log.fifo) : LogWork s (s.onLog f) := ⟨by simpa using hf, by simp, by simp⟩
theorem bump (i j r : Nat) (s : State) : LogWork s (s.bump i j r) := ⟨by simp, by simp, by simp⟩
theorem sluicePost (q : Nat) (words : List Nat) (s : State) : LogWork s (sluicePost q words s) := ⟨by simp, by simp, by simp⟩

theorem putEntry (e : Event) (s : State) : LogWork s (putEntry e s) := (onLog _ rfl).trans (sluicePost ..)

theorem writeEntry (e : Event) (s : State) : LogWork s (writeEntry e s) := by
  unfold Machine.writeEntry
  split
  · exact (onLog _ rfl).trans (sluicePost ..)
  · split
    · exact (((onLog _ rfl).trans (bump ..)).trans (bump ..)).trans (sluicePost ..)
    · dsimp only
      split
      · exact ((putEntry e s).trans (putEntry ..)).trans (onLog _ rfl)
      · exact putEntry e s

theorem payDrop (s : State) : LogWork s ((payDrop s).getD s) := by
  unfold Machine.payDrop
  split
  · exact (onLog _ rfl).trans (writeEntry ..)
  · split
    · exact (onLog _ rfl).trans (writeEntry ..)
    · exact refl s

theorem writeNext (e : Event) (s : State) : LogWork s (writeNext e s) := ((payDrop s).trans (payDrop _)).trans (writeEntry ..)

theorem writeHeld (l : List Event) (s : State) : LogWork s (l.foldl (fun s e => Machine.writeNext e s) s) := by
  induction l generalizing s with
  | nil => exact refl s
  | cons e l ih => exact (writeNext e s).trans (ih _)

theorem releaseFreeze (s : State) : LogWork s (releaseFreeze s) := by
  unfold Machine.releaseFreeze
  split
  · exact refl s
  · exact ((onLog _ rfl).trans (writeHeld ..)).trans (writeNext ..)

end LogWork

@[simp] theorem raise_frozenBy (code : Nat) (l : List Byte) (s : State) : (raise code l s).log.frozenBy = s.log.frozenBy := by
  unfold raise raiseFrom
  repeat' split
  all_goals simp

section ends
variable {s u v : State} {n k cause : Nat}

/-! ### Handshakes (R532) -/

theorem handshake_not (peer cert : List Byte) (proved : Bool) (h : dtlsServes s = false) : handshake peer cert proved s = s := by simp [handshake, h]

theorem handshake_full (peer cert : List Byte) (proved : Bool) (hserves : dtlsServes s = true) (hfull : s.cfg 0x1100 0x03 ≤ s.imian.sessions.length) :
    handshake peer cert proved s =
      sendDtls peer (Config.alertPackets peer) ((raiseOnce 0x1104 0 (fit 16 peer) (s.bump 0x1120 0x04)).emit (.closeAlert peer)) := by
  simp [handshake, hserves, hfull]

theorem handshake_unproved (peer cert : List Byte) (hserves : dtlsServes s = true) (hfree : s.imian.sessions.length < s.cfg 0x1100 0x03) :
    handshake peer cert false s = authFailed 2 s := by simp [handshake, hserves, Nat.not_le.mpr hfree]

theorem handshake_opens {row : Nat} (peer : List Byte) {cert : List Byte} (hserves : dtlsServes s = true) (hfree : s.imian.sessions.length < s.cfg 0x1100 0x03)
    (hchain : Config.chainValid (s.cfgBytes 0x1101 0x04) cert = true) (hrow : credentialOf s cert = some row)
    (hfirst : (List.range 16).find? (fun n => (s.session n).isNone) = some n) : handshake peer cert true s = openSession n row peer s := by
  simp [handshake, hserves, Nat.not_le.mpr hfree, hchain, hrow, hfirst]

theorem handshake_fails (peer : List Byte) {cert : List Byte} (hserves : dtlsServes s = true) (hfree : s.imian.sessions.length < s.cfg 0x1100 0x03)
    (h : ¬(Config.chainValid (s.cfgBytes 0x1101 0x04) cert = true ∧ (credentialOf s cert).isSome = true)) :
    ∃ cause, handshake peer cert true s = authFailed cause s := by
  by_cases hchain : Config.chainValid (s.cfgBytes 0x1101 0x04) cert = true
  · have hnone : credentialOf s cert = none := by simpa [hchain] using h
    exact ⟨1, by simp [handshake, hserves, Nat.not_le.mpr hfree, hchain, hnone]⟩
  · exact ⟨0, by simp [handshake, hserves, Nat.not_le.mpr hfree, hchain]⟩

theorem authFailed_writes (cause : Nat) (s : State) :
    (authFailed cause s).ro 0x1120 0x03 = (s.ro 0x1120 0x03 + 1) % 2 ^ 32 ∧ Touches [] [(0x1120, 3)] s (authFailed cause s) := by
  refine ⟨?_, by simp [authFailed]⟩
  simp [authFailed]
  rfl

theorem openSession_writes (n row : Nat) (peer : List Byte) (s : State) :
    (openSession n row peer s).session n = some ⟨s.cfg 0x1101 0x02 row, peer, s.cfgBytes 0x1101 0x03 row, shownT96 s, s.now, 0, []⟩ ∧
    Touches [.imian, .live] [] s (openSession n row peer s) := by
  simp [openSession, State.session]

/-! ### Transfers that end (R530) -/

/-- Transfers that end leave the others; of the image's own, an update that is open fails. -/
theorem abandonTransfers_writes (p : Transfer → Bool) (s : State) :
    (∀ t ∈ (abandonTransfers p s).imian.transfers, t ∈ s.imian.transfers ∧ p t = false) ∧
    (abandonTransfers p s).imian.sessions = s.imian.sessions ∧ (abandonTransfers p s).imian.subscriptions = s.imian.subscriptions ∧
    (abandonTransfers p s).power = s.power ∧ (abandonTransfers p s).log.frozenBy = s.log.frozenBy ∧ FewEvents 1 s (abandonTransfers p s) := by
  unfold abandonTransfers
  extract_lets gone v
  have hv : (∀ t ∈ v.imian.transfers, t ∈ s.imian.transfers ∧ p t = false) ∧ v.imian.sessions = s.imian.sessions ∧
      v.imian.subscriptions = s.imian.subscriptions ∧ v.power = s.power ∧ v.log = s.log := by
    refine ⟨fun t ht => ?_, rfl, rfl, rfl, rfl⟩
    simpa [v] using ht
  obtain ⟨htransfers, hsessions, hsubs, hpower, hlog⟩ := hv
  split
  · have hfew : FewEvents 1 s (updateFailed 8 v) := FewEvents.raise (.of_log (by simp [hlog])) ..
    refine ⟨fun t ht => htransfers t ?_, by simp [updateFailed, hsessions], by simp [updateFailed, hsubs], by simp [updateFailed, hpower],
      by simp [updateFailed, hlog], hfew⟩
    simp [updateFailed] at ht
    exact ht.1
  · exact ⟨htransfers, hsessions, hsubs, hpower, by rw [hlog], ⟨by simp only [hlog, List.prefix_refl], by rw [hlog]; omega⟩⟩

theorem abandonTransfers_others {p : Transfer → Bool} (h : ∀ t, p t = true → t.key ≠ imageKey) (s : State) :
    abandonTransfers p s = s.onImian fun i => { i with transfers := i.transfers.filter fun t => !p t } := by
  unfold abandonTransfers
  dsimp only
  rw [if_neg]
  simp only [Bool.and_eq_true, List.any_eq_true, List.mem_filter, beq_iff_eq, not_and]
  rintro ⟨t, ⟨-, hp⟩, hkey⟩
  exact absurd hkey (h t hp)

theorem abandonTransfers_none {p : Transfer → Bool} (h : s.imian.transfers = []) : Touches [.imian] [] s (abandonTransfers p s) := by
  unfold abandonTransfers
  simp [h]

/-- A transfer of the image that has waited 60 s fails the update with reason 8. -/
theorem transferTimeout_image {x : Transfer} (hone : s.imian.transfers = [x]) (hkey : x.key = imageKey) (hdue : x.lastSegment + sec 60 ≤ s.now)
    (hreceiving : receiving s = true) : transferTimeout imageKey s = updateFailed 8 (s.onImian fun i => { i with transfers := [] }) := by
  have hstill (f : ImianSt → ImianSt) : receiving (s.onImian f) = true := by simpa [receiving, updateState] using hreceiving
  have hleft : (s.onImian fun i => { i with transfers := i.transfers.filter fun t => !t.key == imageKey || !decide (t.lastSegment + sec 60 ≤ s.now) }) =
      s.onImian fun i => { i with transfers := [] } := by simp [State.onImian, hone, hkey, hdue]
  simp [transferTimeout, abandonTransfers, hone, hkey, hdue, hstill, hleft]

theorem updateFailed_writes (reason : Nat) (s : State) (hempty : s.imian.transfers = []) :
    (updateFailed reason s).imian.transfers = [] ∧ updateState (updateFailed reason s) = 3 ∧ (updateFailed reason s).ro 0x3111 0x03 = (Val.num reason).bits ∧
    (updateFailed reason s).ro 0x3140 0x03 = (s.ro 0x3140 0x03 + 1) % 2 ^ 32 ∧
    Touches [.imian] [(0x3111, 1), (0x3111, 3), (0x3140, 3)] s (updateFailed reason s) := by
  refine ⟨by simp [updateFailed, hempty], ?_, ?_, ?_, by simp [updateFailed]⟩
  all_goals simp [updateFailed, updateState]
  all_goals rfl

/-! ### Sessions that end (R532) -/

/-- What ends with a session. -/
structure SessionEnded (n cause : Nat) (s u : State) : Prop where
  session : u.session n = none
  subscriptions : u.imian.subscriptions = s.imian.subscriptions.filter fun b => b.session != n
  transfers : u.imian.transfers.all (fun x => x.who != .dtls n) = true
  posted : Room s → Posted 0x1102 (le 1 n ++ le 1 cause) s u
  touches : s.imian.transfers = [] → s.log.frozenBy ≠ some n → Touches [.imian, .live] [] s u

theorem dropSession_writes (n : Nat) (s : State) :
    (dropSession n s).session n = none ∧ (dropSession n s).imian.subscriptions = s.imian.subscriptions.filter (fun b => b.session != n) ∧
    (dropSession n s).imian.transfers.all (fun x => x.who != .dtls n) = true ∧ (dropSession n s).power = s.power ∧ FewEvents 1 s (dropSession n s) ∧
    (s.imian.transfers = [] → s.log.frozenBy ≠ some n → Touches [.imian, .live] [] s (dropSession n s)) := by
  obtain ⟨htransfers, -, hsubs, hpower, hfrozen, hfew⟩ := abandonTransfers_writes (fun t => decide (t.who = .dtls n)) s
  have hnone := abandonTransfers_none (s := s) (p := fun t => decide (t.who = .dtls n))
  unfold dropSession
  generalize abandonTransfers (fun t => decide (t.who = .dtls n)) s = v at *
  extract_lets a w x
  have hx : LogWork w x := by
    unfold x
    split
    · exact .releaseFreeze w
    · exact .refl w
  have himian : x.imian = w.imian := hx.imian
  refine ⟨?_, by simp [himian, w, a, hsubs], ?_, by simp [hx.power, w, a, hpower], ?_, fun hempty hother => ?_⟩
  · simp [State.session, himian, w, lookup_delKey_self]
  · simp only [State.setLive_frame, himian]
    exact List.all_eq_true.mpr fun t ht => by simpa using (htransfers t (by simpa [w] using ht)).2
  · have hfifo : x.log.fifo = v.log.fifo := hx.fifo
    exact ⟨by simpa [hfifo] using hfew.1, by simpa [hfifo] using hfew.2⟩
  · have hkept : x = w := if_neg (by simpa [w, a, hfrozen] using hother)
    rw [hkept]
    simpa [w] using (hnone hempty).mono (ps' := [.imian, .live]) (os' := []) (by simp) (by simp)

theorem endSession_none (h : s.session n = none) : endSession n cause s = s := by simp [endSession, h]

theorem endSession_ends (h : (s.session n).isSome = true) : SessionEnded n cause s (endSession n cause s) := by
  obtain ⟨hsession, hsubs, htransfers, hpower, hfew, htouches⟩ := dropSession_writes n s
  unfold endSession
  rw [if_pos h]
  exact ⟨by simpa [State.session] using hsession, by simpa using hsubs, by simpa using htransfers,
    fun hroom => hfew.posted hroom (by omega) hpower _ _, fun hempty hother => by simpa using htouches hempty hother⟩

theorem SessionEnded.settle (h : SessionEnded n cause s u) : SessionEnded n cause s (settle u) :=
  ⟨by simpa [State.session] using h.session, by simpa using h.subscriptions, by simpa using h.transfers, fun hroom => (h.posted hroom).settle,
    fun hempty hother => (h.touches hempty hother).settle⟩

/-- The accounting of a command opens no session. -/
theorem session_account (h : s.session n = none) (w : Who) (c : Nat) : (account w c s).session n = none := by
  unfold account
  extract_lets v x
  have hx : x.session n = none := by
    unfold x
    split <;> simpa [v, State.session] using h
  cases w with
  | dtls k =>
    dsimp only
    split
    next y hy =>
      have hne : n ≠ k := by
        rintro rfl
        simp [hx] at hy
      simpa [State.session, lookup_putKey_ne hne] using hx
    next => exact hx
  | mailbox => simpa [State.session] using hx
  | can c => exact hx

theorem SessionEnded.answered (h : SessionEnded n cause s u) (w : Who) (c : Nat) (o : Out) :
    (Machine.settle ((account w c u).emit o)).session n = none ∧
    (Machine.settle ((account w c u).emit o)).imian.subscriptions = s.imian.subscriptions.filter (fun b => b.session != n) ∧
    (Machine.settle ((account w c u).emit o)).imian.transfers.all (fun x => x.who != .dtls n) = true := by
  obtain ⟨htransfers, hsubs⟩ := account_requests w c u
  exact ⟨by simpa [State.session] using session_account h.session w c, by simpa [hsubs] using h.subscriptions, by simpa [htransfers] using h.transfers⟩

theorem idleTimeout_due {x : Session} (h : s.session n = some x) (hdue : x.lastUse + sec (s.cfg 0x1100 0x04) ≤ s.now) :
    idleTimeout n s = endSession n 1 s := by simp [idleTimeout, h, hdue]

theorem idleTimeout_not (h : (s.session n).all (fun x => decide (s.now < x.lastUse + sec (s.cfg 0x1100 0x04))) = true) : idleTimeout n s = s := by
  cases hx : s.session n with
  | none => simp [idleTimeout, hx]
  | some x =>
    rw [hx, Option.all_some] at h
    simp only [idleTimeout, hx]
    exact if_neg (Nat.not_le.mpr (of_decide_eq_true h))

theorem closeSession_open (h : (s.session n).isSome = true) : closeSession n s = (endSession n 2 s, 0) := by simp [closeSession, h]
theorem closeSession_none (h : s.session n = none) : closeSession n s = (s, 0x06) := by simp [closeSession, h]

/-! ### NOTIFYs (R539) -/

/-- A subscription after its NOTIFY. -/
def notified (s : State) (n : Nat) (b : Subscription) : Subscription :=
  { b with
    seq := (b.seq + 1) % 2 ^ 32, notBefore := s.now + b.interval
    lastValue := match subscribed s n b.idx b.sub b.row b.count with | some v => v.2 | none => [] }

theorem notify_due {b : Subscription} (hfind : s.imian.subscriptions.find? (fun b => b.session == n && b.number == k) = some b)
    (hreaches : s.reaches (.dtls n) = true) (hdue : notifyDue s b = true) :
    notify n k s = sendImian n (notifyMessage s b) ((s.onImian fun x =>
      { x with subscriptions := x.subscriptions.map fun y => if y = b then notified s n b else y }).emit (.notify n (notifyMessage s b))) := by
  unfold notify
  simp only [hfind, hreaches, hdue]
  rfl

theorem notify_not (h : s.reaches (.dtls n) = false ∨
      (s.imian.subscriptions.find? (fun b => b.session == n && b.number == k)).all (fun b => !notifyDue s b) = true) : notify n k s = s := by
  unfold notify
  split
  next => rfl
  next b hfind =>
    rw [if_pos]
    obtain h | h := h
    · simp [h]
    · have hnot : notifyDue s b = false := by simpa [hfind] using h
      simp [hnot]

end ends

/-- Settles O36: a session ends with its subscriptions and transfers, and what else it held (a freeze, an update) ends by the rules of its part. -/
theorem sessionsTransfersAndSubscriptionsEnd : Obligations.SessionsTransfersAndSubscriptionsEnd := by
  refine ⟨?opens, ?unproved, ?full, ?handshakeNot, ?idle, ?idleNot, ?client, ?clientNot, ?command, ?commandNot, ?transfer, ?image, ?notify, ?notifyNot⟩
  case opens =>
    intro t n peer cert s hserves hfree hfirst
    refine .of (f := handshake peer cert true) rfl ?_
    split
    next h =>
      obtain ⟨hchain, hsome⟩ := h
      obtain ⟨row, hrow⟩ := Option.isSome_iff_exists.mp hsome
      rw [handshake_opens (s := s.advance t) peer hserves hfree hchain hrow hfirst]
      obtain ⟨hsession, htouches⟩ := openSession_writes n row peer (s.advance t)
      refine ⟨?_, htouches.settle⟩
      rw [hrow, Option.getD_some]
      simpa [State.session] using hsession
    next h =>
      obtain ⟨cause, heq⟩ := handshake_fails (s := s.advance t) peer hserves hfree h
      rw [heq]
      obtain ⟨hcount, htouches⟩ := authFailed_writes cause (s.advance t)
      exact ⟨by simpa using hcount, htouches.settle⟩
  case unproved =>
    intro t peer cert s hserves hfree
    refine .of (f := handshake peer cert false) rfl ?_
    rw [handshake_unproved (s := s.advance t) peer cert hserves hfree]
    obtain ⟨hcount, htouches⟩ := authFailed_writes 2 (s.advance t)
    exact ⟨by simpa using hcount, htouches.settle⟩
  case full =>
    intro t proved peer cert s hserves hfull
    refine .of (f := handshake peer cert proved) rfl ?_
    rw [handshake_full (s := s.advance t) peer cert proved hserves hfull]
    generalize hv : (raiseOnce 0x1104 0 (fit 16 peer) ((s.advance t).bump 0x1120 0x04)).emit (.closeAlert peer) = v
    have hsent : Sends [.port] v (sendDtls peer (Config.alertPackets peer) v) := .sendDtls (by simp) ..
    have hemitted : Out.closeAlert peer ∈ v.outs := by simp [← hv]
    have hcount : v.ro 0x1120 0x04 = (s.ro 0x1120 0x04 + 1) % 2 ^ 32 := by
      rw [← hv]
      simp
      rfl
    have hv' : Touches [.port] [(0x1120, 4), (0x2120, 0x12), (0x2111, 3)] (s.advance t) v := by simp [← hv]
    refine ⟨?_, by simp [hsent.outs, hemitted], (hv'.trans (hsent.touches.mono (by simp) (by simp))).settle⟩
    have hkept := hsent.touches.ro (i := 0x1120) (j := 0x04) (r := noRow) (by omega) (by decide) (by simp) (by omega)
    simpa using hkept.trans hcount
  case handshakeNot =>
    intro t proved peer cert s h
    exact .unchanged (f := handshake peer cert proved) rfl (handshake_not peer cert proved h)
  case idle =>
    intro t n x s hroom hx hdue
    refine .of (f := idleTimeout n) rfl ?_
    rw [idleTimeout_due (s := s.advance t) hx (by simpa using hdue)]
    have hended := (endSession_ends (s := s.advance t) (n := n) (cause := 1) (Option.isSome_iff_exists.mpr ⟨x, hx⟩)).settle
    exact ⟨hended.session, hended.subscriptions, hended.transfers, hended.posted hroom, hended.touches⟩
  case idleNot =>
    intro t n s h
    exact .unchanged (f := idleTimeout n) rfl (idleTimeout_not (by simpa [State.session] using h))
  case client =>
    intro t n s hroom hsome
    refine .of (f := endSession n 0) rfl ?_
    have hended := (endSession_ends (s := s.advance t) (n := n) (cause := 0) hsome).settle
    exact ⟨hended.session, hended.subscriptions, hended.transfers, hended.posted hroom, hended.touches⟩
  case clientNot =>
    intro t n s h
    exact .unchanged (f := endSession n 0) rfl (endSession_none h)
  case command =>
    intro t n who s hroom hacc hsome
    refine .of (f := runCommand 0x1130 0x01 n (.num 0) who (closeSession n)) rfl ?_
    rw [runCommand_accepted hacc, closeSession_open (s := s.advance t) hsome]
    have hended := endSession_ends (s := s.advance t) (n := n) (cause := 2) hsome
    obtain ⟨hsession, hsubs, htransfers⟩ := hended.answered who 0 (.status who 0)
    refine ⟨answered_settle .., hsession, hsubs, htransfers, (hended.posted hroom).answered who 0 _, fun hempty hother => ?_⟩
    simpa using (hended.touches hempty hother).mono (by simp) (by simp)
  case commandNot =>
    intro t n who s hacc hnone
    refine .of (f := runCommand 0x1130 0x01 n (.num 0) who (closeSession n)) rfl ?_
    rw [runCommand_accepted hacc, closeSession_none (s := s.advance t) hnone]
    exact ⟨answered_settle .., by simp⟩
  case transfer =>
    intro t idx sub row s hkey
    refine .of (f := transferTimeout (okey idx sub row)) rfl ?_
    rw [transferTimeout, abandonTransfers_others]
    · simp
    · intro x hx himage
      simp only [Bool.and_eq_true, beq_iff_eq] at hx
      exact hkey (hx.1.symm.trans himage)
  case image =>
    intro t x s hone hkey hdue hreceiving
    refine .of (f := transferTimeout imageKey) rfl ?_
    rw [transferTimeout_image (s := s.advance t) hone hkey (by simpa using hdue) (by simpa [receiving, updateState] using hreceiving)]
    obtain ⟨htransfers, hstate, hreason, hcount, htouches⟩ :=
      updateFailed_writes 8 ((s.advance t).onImian fun i => { i with transfers := [] }) (by simp)
    refine ⟨by simpa using htransfers, by simpa [updateState] using hstate, by simpa [show (Val.num 8).bits = 8 from rfl] using hreason, by simpa using hcount, ?_⟩
    exact (Touches.trans (u := (s.advance t).onImian fun i => { i with transfers := [] }) (by simp) htouches).settle
  case notify =>
    intro t n k b s hreaches hfind hdue
    refine .of (f := Machine.notify n k) rfl ?_
    rw [notify_due (s := s.advance t) hfind hreaches hdue]
    generalize hv : State.emit _ _ = v
    have hsent : Sends [.port] v (sendImian n (notifyMessage (s.advance t) b) v) := .sendImian (by simp) ..
    have hmem := List.mem_of_find?_eq_some hfind
    have hnumber := List.find?_some hfind
    have hv' : Touches [.imian] [] (s.advance t) v ∧ Out.notify n (notifyMessage (s.advance t) b) ∈ v.outs ∧
        notified (s.advance t) n b ∈ v.imian.subscriptions := by
      rw [← hv]
      exact ⟨by simp, by simp, by simpa using ⟨b, hmem, by simp⟩⟩
    obtain ⟨hlast, hout, hsub⟩ := hv'
    refine ⟨by simpa [hsent.outs] using hout, List.any_eq_true.mpr ⟨notified (s.advance t) n b, ?_, ?_⟩,
      ((hlast.mono (by simp) (by simp)).trans (hsent.touches.mono (by simp) (by simp))).settle⟩
    · have hkept : (sendImian n (notifyMessage (s.advance t) b) v).imian = v.imian := hsent.touches.1 .imian (by simp)
      simpa [hkept] using hsub
    · simpa [notified] using hnumber
  case notifyNot =>
    intro t n k s h
    exact .unchanged (f := Machine.notify n k) rfl (notify_not (by simpa using h))

end Sys2Proof.Machine
end

section
/-! Shepherd's pins: a pin's level that is stored as octets (R632). -/

namespace Sys2Proof.Machine
open Sys2Proof

/-- A state in which ALM pin 0 is Shepherd's, Shepherd is OFF, and 0x2711:01 of that pin holds no octets, which have no bits, where a number belongs. -/
def strayLevel : State :=
  { State.reset with
    active := [(okey 0x2700 0x01 0, .num 1)]
    status := [(okey 0x2711 0x01 0, .oct [])] }

/-- Refutes O50: a pin that is held reads level 0 before as after, but the level written is a number where no octets stood, and the clause names only
0x2711:02 as changed. -/
theorem not_shepherdFollowsR631 : ¬ Obligations.ShepherdFollowsR631 := by
  intro h
  obtain ⟨-, -, -, -, -, hheld, -⟩ := h
  obtain ⟨u, hu, -, -, htouches⟩ := hheld 0 0 strayLevel (by decide) (by decide +kernel) (by decide +kernel) (by decide +kernel)
  obtain rfl : settle (shepherdPin 0 (strayLevel.advance 0)) = u := Host.Outcome.next.inj hu
  obtain ⟨-, hkept, -⟩ := htouches
  exact absurd (hkept 0x2711 0x01 0 (by decide) (by decide) (by decide) (by decide) (by decide)) (by decide +kernel)

end Sys2Proof.Machine
end

section
/-! The event log: the drop that the answer itself counts (R590, R592). -/

namespace Sys2Proof.Machine
open Sys2Proof

/-- A state in RUN with a full input FIFO and one drop owed, that last reported time-quality class 0 while its class is 7. -/
def strayDrop : State :=
  { State.reset with
    power := { PowerSt.reset with state := stRun, selfTestPassed := true }
    time := { TimeSt.reset with lastClass := 0 }
    log := { LogSt.reset with fifo := List.replicate fifoDepth ⟨0, false, 0, 0, 0, []⟩, droppedInput := 1 } }

/-- Refutes O44: the 0x2E0A entry pays for the drop owed, but it takes nothing from the FIFO, so that the event of the class change (0x2006), which
the same step reports, is dropped in turn. -/
theorem not_eventsEnterTheLogInOrder : ¬ Obligations.EventsEnterTheLogInOrder := by
  intro h
  obtain ⟨-, -, -, -, -, -, -, hpaid, -⟩ := h
  obtain ⟨u, hu, -, -, -, hnone, -⟩ := hpaid (us 1) ⟨0, false, 0, 0, 0, []⟩ (List.replicate (fifoDepth - 1) ⟨0, false, 0, 0, 0, []⟩) strayDrop (by decide)
    (by decide) (by decide) (by decide) rfl rfl (by decide) (by decide) rfl (by decide)
  obtain rfl : settle (logStep (strayDrop.advance (us 1))) = u := Host.Outcome.next.inj hu
  exact absurd hnone (by decide +kernel)

end Sys2Proof.Machine
end

section
/-! The housekeeping converter: a scan row of a channel that none has (R582). -/

namespace Sys2Proof.Machine
open Sys2Proof

/-- The row of 0x2E10:02 that stands where the counter 0x2E30:01 does. -/
def strayChannel : Nat := (0x2E30 * 256 + 0x01 - (0x2E10 * 256 + 0x02)) * 0x1000000 + noRow

/-- A state in RUN whose scan list holds `strayChannel` alone, with one conversion, while that channel is under test. -/
def strayScan : State :=
  { State.reset with
    power := { PowerSt.reset with state := stRun }
    active := [(okey 0x2E02 0x01 0, .num strayChannel), (okey 0x2E02 0x02 0, .num 1)]
    hk := { HkSt.reset with calibrating := false, testing := some strayChannel } }

/-- Refutes O45: HK_SCAN bounds no channel number of the scan list, and the mean code 0 shown for `strayChannel` takes the place of the count of
conversions. -/
theorem not_theConverterFollowsItsSequence : ¬ Obligations.TheConverterFollowsItsSequence := by
  intro h
  obtain ⟨-, -, -, -, -, hscan, -⟩ := h
  obtain ⟨u, hu, -, hcount, -⟩ := hscan 0 [[0]] strayScan (by decide) (by decide) (by decide) (by decide) (by decide +kernel) (by decide +kernel)
  obtain rfl : settle (hkScan [[0]] (strayScan.advance 0)) = u := Host.Outcome.next.inj hu
  exact absurd hcount (by decide +kernel)

end Sys2Proof.Machine
end

section
/-! The return from SENTINEL: a store row that no record has (R454, R626). -/

namespace Sys2Proof.Machine
open Sys2Proof

/-- The row of 0x2A20:04 that stands where the counter 0x2F20:05 does. -/
def strayReturnRow : Nat := (0x2F20 * 256 + 0x05 - (0x2A20 * 256 + 0x04)) * 0x1000000 + noRow

/-- A state in SENTINEL at the end of a C-die restart, in which capture, which is not enabled, still makes a record in the store row `strayReturnRow`. -/
def strayReturn : State :=
  { State.reset with
    power := { PowerSt.reset with state := stSentinel, restart := some 0 }
    status := [(okey 0x2A01 0x01 noRow, .num 2), (okey 0x2A01 0x02 noRow, .num recPost)]
    capture := { CaptureSt.reset with record := some { strayRecord with row := strayReturnRow } } }

/-- Refutes O47: at the return to RUN the record in progress ends, and the state shown of its row `strayReturnRow` lands in the counter 0x2F20:05. -/
theorem not_deviceStateFollowsR601 : ¬ Obligations.DeviceStateFollowsR601 := by
  intro h
  obtain ⟨-, -, -, -, -, -, -, -, -, -, -, -, -, -, hreturn, -⟩ := h
  obtain ⟨u, hu, -, -, -, -, hkept, -⟩ := hreturn 0 0 strayReturn (by decide) (by decide) rfl rfl
  obtain rfl : settle (restartEnd [] (strayReturn.advance 0)) = u := Host.Outcome.next.inj hu
  exact absurd hkept (by decide +kernel)

end Sys2Proof.Machine
end

section
/-! Self-test that ends in SAFE_TALK: a store row that no record has (R454, R621). -/

namespace Sys2Proof.Machine
open Sys2Proof

/-- The row of 0x2A20:04 that stands where the outcome 0x2F03:04 does. -/
def strayTestRow : Nat := (0x2F03 * 256 + 0x04 - (0x2A20 * 256 + 0x04)) * 0x1000000 + noRow

/-- A state in START with the self-test in progress, in which a record stored in row `strayTestRow` is exported a second time. -/
def strayTest : State :=
  { State.reset with
    capture := { CaptureSt.reset with store := [(strayTestRow, { strayRecord with row := strayTestRow })], exported := [strayTestRow] }
    host := { HostSt.reset with exporting := some (0, strayTestRow) } }

/-- Refutes O48: in SAFE_TALK the export is aborted, and the state shown of the record's row `strayTestRow` takes the place of the outcome 0x2F03:04. -/
theorem not_resetAndSupplyFollowR708 : ¬ Obligations.ResetAndSupplyFollowR708 := by
  intro h
  obtain ⟨-, -, -, -, -, -, -, -, hmram, -⟩ := h
  obtain ⟨u, hu, -, -, -, houtcome, -⟩ := hmram 0 0 [] strayTest (by decide) (by decide) (by decide) rfl (by decide)
  obtain rfl : settle (selfTest ⟨[(1, 0)], []⟩ 0 3 (strayTest.advance 0)) = u := Host.Outcome.next.inj hu
  exact absurd houtcome (by decide +kernel)

end Sys2Proof.Machine
end

section
/-! The wake from KENNEL: a save area that does not hold (R611). -/

namespace Sys2Proof.Machine
open Sys2Proof

/-- A state in KENNEL with the WAKE pin enabled and the main supply there, in which a latched time stands although the save area is not valid. -/
def strayLatch : State :=
  { State.reset with
    power := { PowerSt.reset with state := stKennel, mainSupply := true, saveAreaValid := false }
    time := { TimeSt.reset with latch := { TimeSt.reset.latch with valid := true } }
    live := [(okey 0x2F00 0x02 noRow, .num 1)] }

/-- Refutes O49: a wake from KENNEL with a save area that is not valid drops the latched time too, while the clause names the power part alone as
changed. -/
theorem not_wakeFollowsR611 : ¬ Obligations.WakeFollowsR611 := by
  intro h
  obtain ⟨-, hpin, -⟩ := h
  obtain ⟨u, hu, -, -, -, -, -, -, htouches⟩ := hpin 0 1 0 false true strayLatch (by decide) (by decide) (by decide +kernel) (by decide) (by decide) (by decide)
  obtain rfl : settle (wakeSource 1 0 false true (strayLatch.advance 0)) = u := Host.Outcome.next.inj hu
  obtain ⟨hparts, -, -⟩ := htouches
  have hlatch := congrArg (fun x : TimeSt => x.latch.valid) (hparts .time (by decide))
  exact absurd hlatch (by decide +kernel)

end Sys2Proof.Machine
end

section
/-! The takeover of a Wheel: an expected stream that no row has (R228, R680). -/

namespace Sys2Proof.Machine
open Sys2Proof

/-- The row of 0x2311:02 that stands where the counter 0x3220:01 does. -/
def strayExpected : Nat := (0x3220 * 256 + 0x01 - (0x2311 * 256 + 0x02)) * 0x1000000 + noRow

/-- A released slot whose maximum wait has passed, and which expects the stream `strayExpected`. -/
def straySlot : Slot :=
  { state := 2, boundary := 0, nominal := 0, rate := 50, wait := 0, specWait := 0, quorum := 0, floor := 0, tolerances := [], budget := 0, speculative := false,
    expected := [strayExpected], quorumSet := [], arrived := [strayExpected], firstAt := none, arrivedAtRelease := none, frames := [], cells := [],
    predicted := [], stash := [], predictedStreams := 0, cause := 1, releaseT96 := 0, commitT96 := 0, cls := 7, undo := none, latched := [] }

/-- A peer that told nothing of itself. -/
def strayPeer : Peer :=
  { identity := 0, role := 1, prefer := false, pairState := 1, protocol := 0, partHashes := [], setHash := [], gat := 0 }

/-- A Wheel in RUN, SYNCING, whose Lead is silent, with `straySlot` in group 1 and nine slots of its stream on time. -/
def strayWheel : State :=
  { State.reset with
    power := { PowerSt.reset with state := stRun }
    status := [(okey 0x3210 0x01 noRow, .num 2), (okey 0x3210 0x02 noRow, .num 1)]
    duplex := { DuplexSt.reset with peer := some strayPeer }
    groups := [(1, { Group.reset with rate := 50, slots := [(0, straySlot)] })]
    ingest := { IngestSt.reset with streams := [(strayExpected, { Stream.reset with lateness := List.replicate 9 (0, false) })] } }

/-- Refutes O53: the takeover is counted in 0x3220:01, but the decisions it takes show the lateness of `strayExpected`, which lands there. -/
theorem not_pairRolesFollowR672 : ¬ Obligations.PairRolesFollowR672 := by
  intro h
  obtain ⟨-, -, -, -, -, -, -, htakeover, -⟩ := h
  obtain ⟨u, hu, -, -, -, hcount, -⟩ := htakeover 0 strayPeer strayWheel (by decide) (by decide) (by decide +kernel) (by decide +kernel) rfl rfl
    (by decide +kernel)
  obtain rfl : settle (peerLost (strayWheel.advance 0)) = u := Host.Outcome.next.inj hu
  exact absurd hcount (by decide +kernel)

end Sys2Proof.Machine
end

section
/-! Home duty in a pack: an expected stream that no row has (R228, R689). -/

namespace Sys2Proof.Machine
open Sys2Proof

/-- The row of 0x2311:02 that stands where the counter 0x3220:05 does. -/
def strayMirrored : Nat := (0x3220 * 256 + 0x05 - (0x2311 * 256 + 0x02)) * 0x1000000 + noRow

/-- The last member of a pack in RUN, which mirrors stream 0 of member 5, lost; a slot of that stream's group is due, and nine slots of the stream it
expects were on time. -/
def strayHome : State :=
  { State.reset with
    power := { PowerSt.reset with state := stRun }
    status := [(okey 0x3210 0x01 noRow, .num 3)]
    duplex := { DuplexSt.reset with homes := [(0, (5, memberId State.reset))] }
    groups := [(groupOf State.reset 0, { Group.reset with
      rate := 50, slots := [(0, { straySlot with expected := [strayMirrored], arrived := [strayMirrored] })] })]
    ingest := { IngestSt.reset with streams := [(strayMirrored, { Stream.reset with lateness := List.replicate 9 (0, false) })] } }

/-- Refutes O54: the home duty taken over is counted in 0x3220:05, but the decisions that follow show the lateness of `strayMirrored`, which lands there. -/
theorem not_packMembersFollowR685 : ¬ Obligations.PackMembersFollowR685 := by
  intro h
  obtain ⟨-, -, -, -, -, -, -, -, -, hduty, -⟩ := h
  obtain ⟨u, hu, -, hcount, -⟩ := hduty 0 5 strayHome (by decide) (by decide +kernel) (by decide +kernel) rfl (by decide +kernel)
  obtain rfl : settle (homeDuty 5 (strayHome.advance 0)) = u := Host.Outcome.next.inj hu
  exact absurd hcount (by decide +kernel)

end Sys2Proof.Machine
end

section
/-! Q_RPTR, Q_CTRL, Q_IRQ_DELAY, INT_STATUS and the pop of a Sluice over Imian (R559 to R563, R569, R571). -/

namespace Sys2Proof.Machine
open Sys2Proof

/-! ### Words consumed from the head of a Sluice -/

theorem consume_empty {x : Sluice} (h : x.packets = []) (n : Nat) : consume n x = x := by cases n <;> simp [consume, h]

theorem consume_succ (n : Nat) (x : Sluice) : consume (n + 1) x = consume n (consume 1 x) := by
  cases h : x.packets with
  | nil => rw [consume_empty h, consume_empty h, consume_empty h]
  | cons p rest =>
    simp only [consume, h]
    split <;> rfl

/-- No packet is empty, and the first has words left to read. -/
structure Sluice.Unread (x : Sluice) : Prop where
  nonempty : ∀ p ∈ x.packets, p ≠ []
  reading : x.readOfFirst < (x.packets.headD [0]).length

theorem Sluice.Unread.consume_one {x : Sluice} (h : x.Unread) : (consume 1 x).Unread := by
  obtain ⟨hnonempty, hreading⟩ := h
  cases hpackets : x.packets with
  | nil =>
    rw [consume_empty hpackets]
    exact ⟨hnonempty, hreading⟩
  | cons p rest =>
    have hrest : ∀ q ∈ rest, q ≠ [] := fun q hq => hnonempty q (by simp [hpackets, hq])
    simp only [consume, hpackets]
    split
    · refine ⟨hrest, ?_⟩
      cases rest with
      | nil => simp
      | cons q rest => exact List.length_pos_iff.mpr (hrest q (by simp))
    next hmore => exact ⟨by simpa [hpackets] using hnonempty, by simpa using hmore⟩

/-- The words that are consumed pass RPTR, and the unread words after them stay. -/
theorem consume_passes {n : Nat} {x : Sluice} (h : x.Unread) (hn : n ≤ x.packets.flatten.length - x.readOfFirst) (hrptr : x.rptr < 2 ^ 15) :
    (consume n x).rptr = (x.rptr + n) % 2 ^ 15 ∧ (consume n x).wptr = x.wptr ∧
    (consume n x).packets.flatten.drop (consume n x).readOfFirst = x.packets.flatten.drop (x.readOfFirst + n) := by
  induction n generalizing x with
  | zero => exact ⟨(Nat.mod_eq_of_lt hrptr).symm, rfl, rfl⟩
  | succ n ih =>
    cases hpackets : x.packets with
    | nil => simp [hpackets] at hn
    | cons p rest =>
      have hlt : x.readOfFirst < p.length := by simpa [hpackets] using h.reading
      obtain ⟨hrptr', hwptr, -⟩ := consume_one_pops hpackets
      have hunread := consume_one_unread hpackets hlt
      have hleft : n ≤ (consume 1 x).packets.flatten.length - (consume 1 x).readOfFirst := by
        have hlength := congrArg List.length hunread
        simp only [List.length_drop] at hlength
        omega
      obtain ⟨hr, hw, hu⟩ := ih h.consume_one hleft (by rw [hrptr']; exact Nat.mod_lt _ (by decide))
      rw [consume_succ, hr, hw, hu, hrptr', hwptr, ← hpackets]
      refine ⟨by omega, rfl, ?_⟩
      rw [← List.drop_drop, hunread, List.drop_drop]
      congr 1
      omega

/-! ### Q_RPTR, Q_CTRL, Q_IRQ_DELAY (R559, R563, R569) -/

section registers
variable {s : State} {q v : Nat}

theorem qRptrWrite_within (hlink : hostReaches s = true) (hq : q < 8) (hn : (v % 2 ^ 15 + 2 ^ 15 - (s.sluice q).rptr) % 2 ^ 15 ≤ (s.sluice q).fill) :
    qRptrWrite q v s = afterConsume q
      { consume ((v % 2 ^ 15 + 2 ^ 15 - (s.sluice q).rptr) % 2 ^ 15) (s.sluice q) with lastPopped := (s.sluice q).lastPopped } s := by
  simp [qRptrWrite, hlink, hq]
  intro hbeyond
  omega

theorem qRptrWrite_outside (hlink : hostReaches s = true) (hq : q < 8) (hn : (s.sluice q).fill < (v % 2 ^ 15 + 2 ^ 15 - (s.sluice q).rptr) % 2 ^ 15) :
    qRptrWrite q v s = badAccess s := by
  simp [qRptrWrite, hlink, hq]
  intro hwithin
  omega

theorem qClearLost_reaches (hlink : hostReaches s = true) (hq : q < 8) : qClearLost q s = s.setSluice q { s.sluice q with lost := false } := by
  simp [qClearLost, hlink, hq]

theorem qClearUnderrun_reaches (hlink : hostReaches s = true) (hq : q < 8) : qClearUnderrun q s = s.setSluice q { s.sluice q with underrun := false } := by
  simp [qClearUnderrun, hlink, hq]

theorem badAccess_writes (s : State) :
    (badAccess s).ro 0x2D10 0x05 = (s.ro 0x2D10 0x05 + 1) % 2 ^ 32 ∧ Touches [] [(0x2D10, 5)] s (badAccess s) := by
  refine ⟨?_, by simp [badAccess]⟩
  simp [badAccess]
  rfl

theorem sluiceDelay_holds (h : delayHolds s.now (s.sluice q) = true) :
    bit (sluiceDelay q s).host.intStatus q = true ∧ Touches [.host] [] s (sluiceDelay q s) := by
  have hfill : (s.sluice q).fill ≠ 0 := by
    intro hempty
    simp [delayHolds, hempty] at h
  have hwants : ({ s.sluice q with delayPassed := true } : Sluice).wants = true := by
    simp only [Sluice.wants, Bool.or_eq_true, Bool.and_eq_true]
    exact .inr ⟨by simpa [Sluice.fill] using hfill, trivial⟩
  have heq : sluiceDelay q s = (s.setSluice q { s.sluice q with delayPassed := true }).interrupt q := by
    simp [sluiceDelay, h, sluiceInterrupt, hwants]
  rw [heq]
  exact ⟨bit_interrupt q _, by simp⟩

theorem sluiceDelay_not (h : delayHolds s.now (s.sluice q) = false) : sluiceDelay q s = s := by simp [sluiceDelay, h]

theorem delayHolds_iff (now : Nat) (x : Sluice) : delayHolds now x = true ↔ x.fill ≠ 0 ∧ x.oldestAt + us x.delay ≤ now := by simp [delayHolds]

/-! ### INT_STATUS (R569) -/

/-- The bits of INT_STATUS that the bits written as 1 leave. -/
theorem bit_cleared (v n : Nat) (l : List Nat) (hl : l.Nodup) (j : Nat) :
    bit (l.foldl (fun n i => if bit v i then setBit n i false else n) n) j = (bit n j && !(decide (j ∈ l) && bit v j)) := by
  induction l generalizing n with
  | nil => simp
  | cons i l ih =>
    obtain ⟨hi, hl⟩ := List.nodup_cons.mp hl
    rw [List.foldl_cons, ih _ hl]
    by_cases hj : j = i
    · subst hj
      by_cases hv : bit v j = true <;> simp [hv, hi]
    · by_cases hv : bit v i = true <;> simp [hv, hj]

theorem bit_sluiceInterrupt (p j : Nat) (s : State) :
    bit (sluiceInterrupt p s).host.intStatus j = (bit s.host.intStatus j || (decide (j = p) && (s.sluice p).wants)) := by
  unfold sluiceInterrupt
  by_cases hwants : (s.sluice p).wants = true
  · rw [if_pos hwants]
    by_cases hj : j = p
    · subst hj
      simp [bit_interrupt, hwants]
    · simp [hj]
  · simp [hwants]

theorem sluice_sluiceInterrupts (l : List Nat) (q : Nat) (s : State) : (l.foldl (fun s q => sluiceInterrupt q s) s).sluice q = s.sluice q := by
  induction l generalizing s with
  | nil => rfl
  | cons p l ih => rw [List.foldl_cons, ih, sluice_sluiceInterrupt]

theorem bit_sluiceInterrupts (l : List Nat) (j : Nat) (s : State) :
    bit (l.foldl (fun s q => sluiceInterrupt q s) s).host.intStatus j = (bit s.host.intStatus j || (decide (j ∈ l) && (s.sluice j).wants)) := by
  induction l generalizing s with
  | nil => simp
  | cons p l ih =>
    rw [List.foldl_cons, ih, bit_sluiceInterrupt, sluice_sluiceInterrupt]
    by_cases hj : j = p
    · subst hj
      cases (s.sluice j).wants <;> simp
    · simp [hj]

theorem sluiceInterrupts_touches (l : List Nat) (s : State) :
    Touches [.host] [] s (l.foldl (fun s q => sluiceInterrupt q s) s) ∧ (l.foldl (fun s q => sluiceInterrupt q s) s).imian = s.imian := by
  have htouches : Touches [.host] [] s (l.foldl (fun s q => sluiceInterrupt q s) s) :=
    (touches_foldl fun u q _ => (Touches.refl _ _ u).sluiceInterrupt (by simp) q).mpr (.refl _ _ _)
  exact ⟨htouches, htouches.1 .imian (by simp)⟩

theorem intClear_writes (v : Nat) (h : hostReaches s = true) :
    (∀ i ∈ List.range 14, bit (intClear v s).host.intStatus i =
      ((bit s.host.intStatus i && !bit v i) || (decide (i < 8) && (s.sluice i).wants) || (i == 8 && s.imian.mailbox.response))) ∧
    Touches [.host] [] s (intClear v s) := by
  unfold intClear
  rw [if_neg (by simp [h])]
  extract_lets left w x
  have hw : Touches [.host] [] s w := by simp [w]
  have hcleared (i : Nat) : bit w.host.intStatus i = (bit s.host.intStatus i && !(decide (i ∈ List.range 14) && bit v i)) :=
    bit_cleared v _ _ List.nodup_range i
  have hsluice (i : Nat) : w.sluice i = s.sluice i := rfl
  obtain ⟨hx, himian⟩ := sluiceInterrupts_touches (List.range 8) w
  have hbit (i : Nat) := bit_sluiceInterrupts (List.range 8) i w
  have himian : x.imian = s.imian := himian.trans rfl
  refine ⟨fun i hi => ?_, ?_⟩
  · have hset : bit x.host.intStatus i = ((bit s.host.intStatus i && !bit v i) || (decide (i < 8) && (s.sluice i).wants)) := by
      rw [hbit, hcleared, hsluice]
      simp [List.mem_range.mp hi]
    rw [himian]
    by_cases hresponse : s.imian.mailbox.response = true
    · rw [if_pos hresponse]
      by_cases h8 : i = 8
      · subst h8
        simp [bit_interrupt, hresponse]
      · simp [h8, hset]
    · simp [hresponse, hset]
  · have hsx := hw.trans hx
    split
    · exact hsx.interrupt (by simp) 8
    · exact hsx

/-! ### SLUICE_POP (R571) -/

theorem sluicePop_takes {w : Who} (hreaches : s.reaches w = true) (hcan : ∀ n, w ≠ .can n)
    (hoffered : offered s w .read 0x2D20 1 = true) (hrole : roleHas ((s.roleOf w).getD 0) 1 = true) (hq : q < 8) :
    sluicePop w q s = ((account w 0 (popSluice q s).1).emit (.status w 0)).emit (.read (popSluice q s).2) := by
  cases w with
  | can n => exact absurd rfl (hcan n)
  | _ => simp [sluicePop, hreaches, hoffered, hrole, Nat.not_le.mpr hq]

theorem sluicePop_none {w : Who} (hreaches : s.reaches w = true) (hcan : ∀ n, w ≠ .can n)
    (hoffered : offered s w .read 0x2D20 1 = true) (hq : 8 ≤ q) : sluicePop w q s = (account w 1 s).emit (.status w 1) := by
  cases w with
  | can n => exact absurd rfl (hcan n)
  | _ => simp [sluicePop, hreaches, hoffered, hq]

theorem sluicePop_can {n : Nat} (hreaches : s.reaches (.can n) = true) :
    sluicePop (.can n) q s = (account (.can n) 0x0D s).emit (.status (.can n) 0x0D) := by simp [sluicePop, hreaches]

theorem popSluice_unread {p : List Nat} {rest : List (List Nat)} (h : (s.sluice q).packets = p :: rest) :
    popSluice q s = (afterConsume q (consume 1 (s.sluice q)) s, p.getD (s.sluice q).readOfFirst 0) := by simp [popSluice, h]

theorem popSluice_idle (h : (s.sluice q).packets = []) (hstate : (s.running || s.dev == stSentinel) = true) (hmode : (s.sluice q).testMode = false) :
    popSluice q s = (s, 0xFFFFFFFFFFFFFFFF) := by
  have hidle : ((s.running || s.dev == stSentinel) && !(s.sluice q).testMode) = true := by rw [hstate, hmode]; rfl
  simp only [popSluice, h, hidle, if_true]

end registers

/-- The requester is no CAN controller. -/
theorem notCan {w : Who} (h : (match w with | .can _ => false | _ => true) = true) (n : Nat) : w ≠ .can n := by
  rintro rfl
  simp at h

/-- A Sluice is read from the host part alone, also through the accounting of a request. -/
theorem sluice_account (w : Who) (c q : Nat) (s : State) : (account w c s).sluice q = s.sluice q := sluice_of_host (by simp) q

/-- A register of a Sluice takes nothing while the link is down, or of a queue that is none. -/
theorem sluiceRegister_not {t q v : Nat} {c : Instr} {s : State} (h : hostReaches s = false ∨ 8 ≤ q)
    (hc : c ∈ [Instr.qDataRead t q, .qRptrWrite t q v, .qCtrlClearLost t q, .qCtrlClearUnderrun t q, .qModeWrite t q v, .qTestPush t q v]) :
    Answers c s fun u => Touches [] [] (s.advance t) u := by
  have hnot : (hostReaches (s.advance t) && decide (q < 8)) = false := by
    obtain h | h := h
    · simp [h]
    · simp [Nat.not_lt.mpr h]
  simp only [List.mem_cons, List.not_mem_nil, or_false] at hc
  obtain rfl | rfl | rfl | rfl | rfl | rfl := hc
  · exact .unchanged (f := qDataRead q) rfl (by simp only [qDataRead, hnot]; rfl)
  · exact .unchanged (f := qRptrWrite q v) rfl (by simp only [qRptrWrite, hnot]; rfl)
  · exact .unchanged (f := qClearLost q) rfl (by simp only [qClearLost, hnot]; rfl)
  · exact .unchanged (f := qClearUnderrun q) rfl (by simp only [qClearUnderrun, hnot]; rfl)
  · exact .unchanged (f := qModeWrite q v) rfl (by simp only [qModeWrite, hnot]; rfl)
  · exact .unchanged (f := qTestPush q v) rfl (by simp only [qTestPush, hnot]; rfl)

/-- Settles O41: consumed words pass RPTR one by one, and an interrupt bit cleared is set again where its condition holds. -/
theorem sluiceRegistersTakeTheirWrites : Obligations.SluiceRegistersTakeTheirWrites := by
  refine ⟨?rptr, ?outside, ?lost, ?underrun, ?delay, ?noDelay, ?status, ?registers, ?statusNot, ?pop, ?idle, ?none, ?can⟩
  case rptr =>
    intro t q v s hlink hq hrptr hnonempty hreading hfill hwithin
    refine .of (f := qRptrWrite q v) rfl ?_
    rw [qRptrWrite_within (s := s.advance t) (by simpa using hlink) hq (by simpa using hwithin)]
    have hunread : (s.sluice q).Unread := ⟨fun p hp => by simpa using List.all_eq_true.mp hnonempty p hp, hreading⟩
    obtain ⟨hr, hw, hu⟩ := consume_passes hunread (hfill ▸ hwithin) hrptr
    refine ⟨?_, by simpa [afterConsume] using hw, by simp [afterConsume], by simpa [afterConsume] using hu, by simp [afterConsume]⟩
    simp only [afterConsume, sluice_settle, sluice_setSluice_self, sluice_advance, hr]
    omega
  case outside =>
    intro t q v s hlink hq houtside
    refine .of (f := qRptrWrite q v) rfl ?_
    rw [qRptrWrite_outside (s := s.advance t) (by simpa using hlink) hq (by simpa using houtside)]
    obtain ⟨hcount, htouches⟩ := badAccess_writes (s.advance t)
    exact ⟨by simpa using hcount, htouches.settle⟩
  case lost =>
    intro t q s hlink hq
    refine .of (f := qClearLost q) rfl ?_
    rw [qClearLost_reaches (s := s.advance t) (by simpa using hlink) hq]
    simp
  case underrun =>
    intro t q s hlink hq
    refine .of (f := qClearUnderrun q) rfl ?_
    rw [qClearUnderrun_reaches (s := s.advance t) (by simpa using hlink) hq]
    simp
  case delay =>
    intro t q s _ hfill hdue
    refine .of (f := sluiceDelay q) rfl ?_
    obtain ⟨hbit, htouches⟩ := sluiceDelay_holds (s := s.advance t) (q := q) ((delayHolds_iff ..).mpr ⟨by simpa using hfill, by simpa using hdue⟩)
    exact ⟨by simpa using hbit, htouches.settle⟩
  case noDelay =>
    intro t q s h
    refine .unchanged (f := sluiceDelay q) rfl (sluiceDelay_not (Bool.eq_false_iff.mpr fun hholds => ?_))
    obtain ⟨hfill, hdue⟩ := (delayHolds_iff ..).mp hholds
    rw [sluice_advance] at hfill hdue
    obtain h | h := h
    · exact hfill h
    · exact absurd (Nat.le_trans hdue (Nat.le_of_eq (show (s.advance t).now = max s.now t by simp))) (Nat.not_le.mpr h)
  case status =>
    intro t v s hlink
    refine .of (f := intClear v) rfl ?_
    obtain ⟨hbits, htouches⟩ := intClear_writes (s := s.advance t) v (by simpa using hlink)
    exact ⟨by simpa using hbits, htouches.settle⟩
  case registers =>
    intro t q v c s h hc
    exact sluiceRegister_not h hc
  case statusNot =>
    intro t v s hlink
    exact .unchanged (f := intClear v) rfl (by simp [intClear, hlink])
  case pop =>
    intro t q who p rest s hreaches hcan hoffered hrole hq hpackets
    refine .of (f := sluicePop who q) rfl ?_
    obtain ⟨hrptr, -, -⟩ := consume_one_pops hpackets
    rw [sluicePop_takes hreaches (notCan hcan) hoffered hrole hq, popSluice_unread (s := s.advance t) (by simpa using hpackets)]
    refine ⟨by simp [Answered], by simp, ?_, by simp [afterConsume]⟩
    simpa [afterConsume, sluice_account] using hrptr
  case idle =>
    intro t q who s hreaches hcan hoffered hrole hq hpackets hstate hmode
    refine .of (f := sluicePop who q) rfl ?_
    rw [sluicePop_takes hreaches (notCan hcan) hoffered hrole hq,
      popSluice_idle (s := s.advance t) (by simpa using hpackets) (by simpa using hstate) (by simpa using hmode)]
    exact ⟨by simp [Answered], by simp, by simp⟩
  case none =>
    intro t q who s hreaches hcan hoffered hq
    refine .of (f := sluicePop who q) rfl ?_
    rw [sluicePop_none hreaches (notCan hcan) hoffered hq]
    exact ⟨answered_settle .., by simp⟩
  case can =>
    intro t q n s hreaches
    refine .of (f := sluicePop (.can n) q) rfl ?_
    rw [sluicePop_can hreaches]
    exact ⟨answered_settle .., by simp⟩

end Sys2Proof.Machine
end

section
/-! The rings, the 64-bit registers, the function reset and the link (R556 to R558, R566 to R571). -/

namespace Sys2Proof.Machine
open Sys2Proof

/-! ### What signals and packets leave of the host part -/

/-- Signals and packets: of the host part, at most the Sluices and the interrupt status differ. -/
def SignalsOnly (s u : State) : Prop :=
  ∃ sluices status signalled, u.host = { s.host with sluices := sluices, intStatus := status, intSignalled := signalled }

namespace SignalsOnly
variable {s u v : State}

theorem of_host (h : u.host = s.host) : SignalsOnly s u := ⟨_, _, _, h⟩
theorem refl (s : State) : SignalsOnly s s := .of_host rfl

theorem trans (h : SignalsOnly s u) (g : SignalsOnly u v) : SignalsOnly s v := by
  obtain ⟨a, b, c, hu⟩ := h
  obtain ⟨d, e, f, hv⟩ := g
  exact ⟨d, e, f, by rw [hv, hu]⟩

theorem foldl {α : Type} {f : State → α → State} (h : ∀ s a, SignalsOnly s (f s a)) (l : List α) (s : State) : SignalsOnly s (l.foldl f s) := by
  induction l generalizing s with
  | nil => exact refl s
  | cons a l ih => exact (h s a).trans (ih _)

theorem signal (n : Nat) (s : State) : SignalsOnly s (s.signal n) := by
  unfold State.signal
  split
  · exact ⟨_, _, _, rfl⟩
  · exact refl s

theorem interrupt (n : Nat) (s : State) : SignalsOnly s (s.interrupt n) := by
  unfold State.interrupt
  split
  · exact refl s
  · exact trans (u := s.onHost fun h => { h with intStatus := setBit h.intStatus n true }) ⟨_, _, _, rfl⟩ (signal ..)

theorem signalAll (s : State) : SignalsOnly s s.signalAll := foldl (fun s n => signal n s) _ s

theorem setSluice (q : Nat) (x : Sluice) (s : State) : SignalsOnly s (s.setSluice q x) := ⟨_, _, _, rfl⟩

theorem sluiceInterrupt (q : Nat) (s : State) : SignalsOnly s (sluiceInterrupt q s) := by
  unfold Machine.sluiceInterrupt
  split
  · exact interrupt q s
  · exact refl s

theorem sluiceCommit (q : Nat) (l : List (List Nat)) (s : State) : SignalsOnly s (sluiceCommit q l s) := (setSluice ..).trans (sluiceInterrupt ..)

theorem sluiceLose (q : Nat) (owe : Bool) (s : State) : SignalsOnly s (sluiceLose q owe s) := by
  unfold Machine.sluiceLose
  dsimp only
  have hcount (v : State) : SignalsOnly v (countWindow 0x2D03 q 1 0 (v.bump 0x2D10 0x03 q)) := of_host (by simp)
  exact (setSluice ..).trans (hcount _)

theorem sluicePost (q : Nat) (words : List Nat) (s : State) : SignalsOnly s (sluicePost q words s) := by
  have hadd (v : State) : SignalsOnly v (v.addTo 0x2D10 0x02 1 q) := of_host (by simp)
  unfold Machine.sluicePost
  dsimp only
  repeat' split
  · exact refl s
  · exact sluiceLose ..
  · exact ((setSluice ..).trans (sluiceCommit ..)).trans (hadd _)
  · exact sluiceLose ..
  · exact (sluiceCommit ..).trans (hadd _)
  · exact sluiceLose ..

theorem ring (h : SignalsOnly s u) (r : Nat) : u.host.ring r = s.host.ring r := by
  obtain ⟨a, b, c, hu⟩ := h
  simp [HostSt.ring, hu]

theorem rings (h : SignalsOnly s u) : u.host.archive = s.host.archive ∧ u.host.exportRing = s.host.exportRing := ⟨h.ring 0, h.ring 1⟩

theorem function (h : SignalsOnly s u) : u.host.intMask = s.host.intMask ∧ u.host.msix = s.host.msix ∧ u.host.linkUp = s.host.linkUp ∧
    u.host.busMaster = s.host.busMaster := by
  obtain ⟨a, b, c, hu⟩ := h
  simp [hu]

end SignalsOnly

@[simp] theorem touches_signalAll {ps : List Part} {os : List (Nat × Nat)} {s u : State} (m : Part.host ∈ ps) :
    Touches ps os s u.signalAll ↔ Touches ps os s u := touches_foldl fun v n _ => by simp [m]

@[simp] theorem touches_sluiceInterrupt {ps : List Part} {os : List (Nat × Nat)} {s u : State} (m : Part.host ∈ ps) (q : Nat) :
    Touches ps os s (sluiceInterrupt q u) ↔ Touches ps os s u := by
  unfold sluiceInterrupt
  split <;> simp [m]

@[simp] theorem touches_sluicePost {ps : List Part} {os : List (Nat × Nat)} {s u : State} (m : Part.host ∈ ps) (h2 : (0x2D10, 2) ∈ os)
    (h3 : (0x2D10, 3) ∈ os) {q : Nat} (hq : q < 8) (words : List Nat) : Touches ps os s (sluicePost q words u) ↔ Touches ps os s u := by
  have hr : q < 0x1000000 := Nat.lt_trans hq (by decide)
  unfold sluicePost
  dsimp only
  repeat' split
  all_goals simp [sluiceLose, sluiceCommit, m, h2, h3, hr]

section rings
variable {s : State} {r v : Nat}

/-! ### Rings by number -/

@[simp] theorem ring_setRing (h : HostSt) (r : Nat) (x : Ring) : (h.setRing r x).ring r = x := by
  unfold HostSt.setRing HostSt.ring
  split <;> simp [*]

@[simp] theorem setRing_busMaster (h : HostSt) (r : Nat) (x : Ring) : (h.setRing r x).busMaster = h.busMaster := by
  unfold HostSt.setRing
  split <;> rfl

@[simp] theorem ring_busMaster (h : HostSt) (b : Bool) (r : Nat) : ({ h with busMaster := b } : HostSt).ring r = h.ring r := rfl

@[simp] theorem ring_latches (h : HostSt) (l : Tab Nat) (r : Nat) : ({ h with latches := l } : HostSt).ring r = h.ring r := rfl

@[simp] theorem setRing_latches (h : HostSt) (r : Nat) (x : Ring) : (h.setRing r x).latches = h.latches := by
  unfold HostSt.setRing
  split <;> rfl

/-! ### RING_CTRL (R566) -/

theorem ringControl_reaches (b : Bool) (hlink : hostReaches s = true) (hr : r < 2) :
    ringControl r v b s =
      (let w := s.onHost fun h => { h with busMaster := b }
       if !bit v 0 then (if (s.host.ring r).enabled then ringDisable r w else w)
       else if (s.host.ring r).enabled || !s.running then w
       else match ringFault (s.host.ring r) b with
         | some c => (raise 0x2D05 (le 1 r ++ le 1 c) w).interrupt 13
         | none => (if r = 0 then postDescriptor w else w).onHost fun h => h.setRing r { s.host.ring r with enabled := true, wr := 0, rd := 0 }) := by
  unfold ringControl
  rw [if_neg (by simp [hlink, hr])]
  rfl

theorem postDescriptor_leaves (s : State) :
    (postDescriptor s).host.busMaster = s.host.busMaster ∧ Touches [.host] [(0x2D10, 2), (0x2D10, 3)] s (postDescriptor s) := by
  unfold postDescriptor
  split
  · exact ⟨rfl, .refl ..⟩
  · dsimp only
    refine ⟨?_, by simp⟩
    generalize hw : s.onHost _ = w
    obtain ⟨-, -, -, hmaster⟩ := ((SignalsOnly.sluicePost 7 _ w).trans (.interrupt 9 _)).function
    exact hmaster.trans (by simp [← hw])

theorem ringControl_enables (b : Bool) (hlink : hostReaches s = true) (hr : r < 2) (hbit : bit v 0 = true) (hoff : (s.host.ring r).enabled = false)
    (hrun : s.running = true) (hgood : ringFault (s.host.ring r) b = none) :
    (ringControl r v b s).host.ring r = { s.host.ring r with enabled := true, wr := 0, rd := 0 } ∧ (ringControl r v b s).host.busMaster = b ∧
    Touches [.host] [(0x2D10, 2), (0x2D10, 3)] s (ringControl r v b s) := by
  rw [ringControl_reaches b hlink hr]
  simp only [hbit, hoff, hrun, hgood, Bool.not_true, Bool.false_eq_true, if_false, Bool.or_self]
  have hw : Touches [.host] [(0x2D10, 2), (0x2D10, 3)] s (s.onHost fun h => { h with busMaster := b }) := by simp
  obtain ⟨hmaster, htouches⟩ := postDescriptor_leaves (s.onHost fun h => { h with busMaster := b })
  split
  · exact ⟨by simp, by simpa using hmaster, by simpa using hw.trans htouches⟩
  · exact ⟨by simp, by simp, by simp⟩

theorem ringControl_faults (b : Bool) {c : Nat} (hlink : hostReaches s = true) (hr : r < 2) (hbit : bit v 0 = true)
    (hoff : (s.host.ring r).enabled = false) (hrun : s.running = true) (hfault : ringFault (s.host.ring r) b = some c) :
    ringControl r v b s = (raise 0x2D05 (le 1 r ++ le 1 c) (s.onHost fun h => { h with busMaster := b })).interrupt 13 := by
  rw [ringControl_reaches b hlink hr]
  simp [hbit, hoff, hrun, hfault]

theorem ringControl_off (b : Bool) (hlink : hostReaches s = true) (hr : r < 2) (hbit : bit v 0 = false) :
    ringControl r v b s = if (s.host.ring r).enabled then ringDisable r (s.onHost fun h => { h with busMaster := b })
      else s.onHost fun h => { h with busMaster := b } := by
  rw [ringControl_reaches b hlink hr]
  simp [hbit]

theorem ringControl_stays (b : Bool) (hlink : hostReaches s = true) (hr : r < 2) (hbit : bit v 0 = true)
    (h : (s.host.ring r).enabled = true ∨ s.running = false) : ringControl r v b s = s.onHost fun h => { h with busMaster := b } := by
  rw [ringControl_reaches b hlink hr]
  have hstays : ((s.host.ring r).enabled || !s.running) = true := by simpa using h
  simp [hbit, hstays]

theorem ringControl_not (b : Bool) (hlink : hostReaches s = false) : ringControl r v b s = s := by simp [ringControl, hlink]

/-! ### Rings disabled (R568) -/

theorem recordExportAbort_idle (h : s.host.exporting = none) : recordExportAbort s = s := by simp [recordExportAbort, h]

theorem ringExportAbort_idle (h : s.ro 0x2821 0x02 ≠ 4) : ringExportAbort s = s := by rw [ringExportAbort, if_neg h]

theorem recordExportAbort_leaves (s : State) :
    (recordExportAbort s).host.archive = s.host.archive ∧ (recordExportAbort s).host.linkUp = s.host.linkUp ∧ (recordExportAbort s).imian = s.imian := by
  have hlink (l : List Nat) (v : State) : (sluicePost 3 l v).host.linkUp = v.host.linkUp := (SignalsOnly.sluicePost 3 l v).function.2.2.1
  unfold recordExportAbort
  split
  · dsimp only
    split <;> simp [exportEnd, captureNotice, hlink]
  · exact ⟨rfl, rfl, rfl⟩

theorem ringExportAbort_leaves (s : State) :
    (ringExportAbort s).host.archive = s.host.archive ∧ (ringExportAbort s).host.linkUp = s.host.linkUp ∧ (ringExportAbort s).imian = s.imian := by
  unfold ringExportAbort
  split <;> simp [exportEnd]

theorem ringDisable_idle (h : s.host.exporting = none) (r : Nat) : ringDisable r s = s.onHost fun h => h.setRing r { h.ring r with enabled := false } := by
  simp [ringDisable, h]

theorem ringDisable_off (r : Nat) (s : State) : ((ringDisable r s).host.ring r).enabled = false := by simp [ringDisable]

theorem ringDisable_archive (s : State) : (ringDisable 1 s).host.archive = s.host.archive ∧ (ringDisable 1 s).imian = s.imian := by
  unfold ringDisable
  dsimp only
  obtain ⟨harchive, -, himian⟩ := recordExportAbort_leaves s
  obtain ⟨harchive', -, himian'⟩ := ringExportAbort_leaves (recordExportAbort s)
  split
  · exact ⟨harchive'.trans harchive, himian'.trans himian⟩
  · exact ⟨rfl, rfl⟩

/-! ### The doorbell (R566) -/

theorem exportRun_rd (l : List (List Byte)) (s : State) : (exportRun l s).host.exportRing.rd = s.host.exportRing.rd := by
  induction l generalizing s with
  | nil => simp [exportRun]
  | cons r l ih =>
    unfold exportRun
    dsimp only
    split
    · rw [ih]
      simp [Ring.push]
    · simp

theorem exportGoOn_rd (s : State) : (exportGoOn s).host.exportRing.rd = s.host.exportRing.rd := by
  unfold exportGoOn
  split
  · rfl
  · have hrd := exportRun_rd s.host.exportLeft s
    dsimp only
    repeat' split
    all_goals simpa using hrd

theorem exportGoOn_idle (h : s.host.exporting = none) : exportGoOn s = s := by simp [exportGoOn, h]

theorem ringDoorbell_quiet (hlink : hostReaches s = true) (hr : r < 2) (h : r = 0 ∨ s.host.exporting = none) :
    ringDoorbell r v s = s.onHost fun h => h.setRing r { h.ring r with rd := v % (2 * (h.ring r).size) } := by
  unfold ringDoorbell
  rw [if_neg (by simp [hlink, hr])]
  dsimp only
  split
  next hone =>
    obtain rfl | hnone := h
    · cases hone
    · subst hone
      exact exportGoOn_idle (by simpa [HostSt.setRing] using hnone)
  · rfl

theorem ringDoorbell_rd (hlink : hostReaches s = true) : (ringDoorbell 1 v s).host.exportRing.rd = v % (2 * s.host.exportRing.size) := by
  unfold ringDoorbell
  rw [if_neg (by simp [hlink]), if_pos rfl, exportGoOn_rd]
  simp [HostSt.setRing, HostSt.ring]

theorem ringDoorbell_not (hlink : hostReaches s = false) : ringDoorbell r v s = s := by simp [ringDoorbell, hlink]

end rings

section bars
variable {s : State} {bar off reg width v : Nat}

/-! ### Registers by offset (R557, R558) -/

theorem barStore_low (hlink : hostReaches s = true) (hreg : barRegister bar off = some (off, 8)) : barStore bar off 4 v s = latchLow bar off v s := by
  simp [barStore, hlink, hreg]

theorem barStore_high (hlink : hostReaches s = true) (hreg : barRegister bar (reg + 4) = some (reg, 8)) :
    barStore bar (reg + 4) 4 v s = highHalf bar reg v s := by
  simp [barStore, hlink, hreg]

theorem barStore_bad (hlink : hostReaches s = true) (hreg : barRegister bar off = some (reg, 4)) (h : off ≠ reg ∨ width ≠ 4) :
    barStore bar off width v s = badAccess s := by
  have hbad : ¬(off = reg ∧ width = 4) := by
    rintro ⟨ho, hw⟩
    simp [ho, hw] at h
  simp [barStore, hlink, hreg, hbad]

theorem barStore_not (h : hostReaches s = false ∨ barRegister bar off = none) : barStore bar off width v s = s := by
  unfold barStore
  obtain h | h := h
  · simp [h]
  · simp [h]

theorem highHalf_none (h : lookup (latchKey bar reg) s.host.latches = none) : highHalf bar reg v s = badAccess s := by simp [highHalf, h]

theorem barStore_ringBase {r low : Nat} (hlink : hostReaches s = true) (hr : r < 2) (hlow : lookup (latchKey 0 (0x2000 + 0x100 * r)) s.host.latches = some low) :
    barStore 0 (0x2004 + 0x100 * r) 4 v s =
      (unlatch 0 (0x2000 + 0x100 * r) s).onHost fun h => h.setRing r { h.ring r with base := v % 2 ^ 32 * 2 ^ 32 + low } := by
  have hreg : barRegister 0 (0x2000 + 0x100 * r + 4) = some (0x2000 + 0x100 * r, 8) := by
    obtain rfl | rfl : r = 0 ∨ r = 1 := by omega
    · decide
    · decide
  rw [show 0x2004 + 0x100 * r = 0x2000 + 0x100 * r + 4 by omega, barStore_high hlink hreg, highHalf, hlow]
  obtain rfl | rfl : r = 0 ∨ r = 1 := by omega
  · rfl
  · rfl

theorem barStore_ringSize {r : Nat} (hlink : hostReaches s = true) (hr : r < 2) :
    barStore 0 (0x2008 + 0x100 * r) 4 v s = s.onHost fun h => h.setRing r { h.ring r with size := v % 2 ^ 32 } := by
  have hreg : barRegister 0 (0x2008 + 0x100 * r) = some (0x2008 + 0x100 * r, 4) := by
    obtain rfl | rfl : r = 0 ∨ r = 1 := by omega
    · decide
    · decide
  unfold barStore
  rw [if_neg (by simp [hlink]), hreg]
  obtain rfl | rfl : r = 0 ∨ r = 1 := by omega
  · rfl
  · rfl

end bars

section resets
variable {s : State}

/-! ### The function reset (R570) -/

theorem sluiceInterrupt_sluices (q : Nat) (s : State) : (sluiceInterrupt q s).host.sluices = s.host.sluices := by
  unfold sluiceInterrupt State.interrupt State.signal
  repeat' split
  all_goals simp

theorem sluiceInterrupts_sluices (l : List Nat) (s : State) :
    (l.foldl (fun s q => sluiceInterrupt q s) s).host.sluices = s.host.sluices ∧ (l.foldl (fun s q => sluiceInterrupt q s) s).log = s.log ∧
    (l.foldl (fun s q => sluiceInterrupt q s) s).power = s.power := by
  induction l generalizing s with
  | nil => exact ⟨rfl, rfl, rfl⟩
  | cons q l ih =>
    obtain ⟨hsluices, hlog, hpower⟩ := ih (sluiceInterrupt q s)
    exact ⟨hsluices.trans (sluiceInterrupt_sluices q s), hlog.trans (by simp), hpower.trans (by simp)⟩

/-- The part of a function reset that begins once both rings are disabled and the mailbox is clear. -/
def interruptsReset (s : State) : State :=
  (List.range 8).foldl (fun s q => sluiceInterrupt q s) (s.onHost fun h => { h with intStatus := 0, intMask := 0x3FFF, intSignalled := 0, msix := [] })

theorem functionReset_reaches (hot : Bool) (h : hostReaches s = true) :
    functionReset hot s = raise 0x2D06 (le 1 (b2n hot)) (interruptsReset (clearMailbox (ringDisable 1 (ringDisable 0 s)))) := by
  unfold functionReset
  rw [if_neg (by simp [h])]
  rfl

theorem functionReset_not (hot : Bool) (h : hostReaches s = false) : functionReset hot s = s := by simp [functionReset, h]

theorem interruptsReset_leaves (s : State) :
    (interruptsReset s).host.intMask = 0x3FFF ∧ (interruptsReset s).host.msix = [] ∧ (interruptsReset s).host.archive = s.host.archive ∧
    (interruptsReset s).host.exportRing = s.host.exportRing ∧ (interruptsReset s).imian = s.imian ∧
    (interruptsReset s).host.sluices = s.host.sluices ∧ (interruptsReset s).log = s.log ∧ (interruptsReset s).power = s.power ∧
    (∀ i ∈ List.range 14, bit (interruptsReset s).host.intStatus i = (decide (i < 8) && (s.sluice i).wants)) ∧
    Touches [.host] [] s (interruptsReset s) := by
  unfold interruptsReset
  generalize hw : s.onHost _ = w
  have hsw : Touches [.host] [] s w := by simp [← hw]
  obtain ⟨htouches, himian⟩ := sluiceInterrupts_touches (List.range 8) w
  have hsignals : SignalsOnly w ((List.range 8).foldl (fun s q => sluiceInterrupt q s) w) := .foldl (fun s q => .sluiceInterrupt q s) ..
  obtain ⟨hmask, hmsix, -, -⟩ := hsignals.function
  obtain ⟨harchive, hexport⟩ := hsignals.rings
  refine ⟨hmask.trans (by simp [← hw]), hmsix.trans (by simp [← hw]), harchive.trans (by simp [← hw]), hexport.trans (by simp [← hw]),
    himian.trans (by simp [← hw]), (sluiceInterrupts_sluices ..).1.trans (by simp [← hw]), (sluiceInterrupts_sluices ..).2.1.trans (by simp [← hw]),
    (sluiceInterrupts_sluices ..).2.2.trans (by simp [← hw]),
    fun i _ => ?_, hsw.trans htouches⟩
  · rw [bit_sluiceInterrupts, show w.sluice i = s.sluice i by simp [← hw, State.sluice]]
    simp [← hw, bit]

/-- Both rings disabled. -/
def ringsDisabled (s : State) : State :=
  s.onHost fun h => { h with archive := { h.archive with enabled := false }, exportRing := { h.exportRing with enabled := false } }

theorem ringsDisabled_leaves (s : State) :
    (clearMailbox (ringsDisabled s)).host.sluices = s.host.sluices ∧ (clearMailbox (ringsDisabled s)).log = s.log ∧
    (clearMailbox (ringsDisabled s)).power = s.power ∧ Touches [.host, .imian] [] s (clearMailbox (ringsDisabled s)) := by
  simp [clearMailbox, ringsDisabled]

theorem functionReset_idle (hot : Bool) (hlink : hostReaches s = true) (hnone : s.host.exporting = none) :
    functionReset hot s = raise 0x2D06 (le 1 (b2n hot)) (interruptsReset (clearMailbox (ringsDisabled s))) := by
  rw [functionReset_reaches hot hlink, ringDisable_idle hnone, ringDisable_idle (by simpa [HostSt.setRing] using hnone)]
  rfl

theorem functionReset_disables (hot : Bool) (h : hostReaches s = true) :
    (functionReset hot s).host.intMask = 0x3FFF ∧ (functionReset hot s).host.msix = [] ∧ (functionReset hot s).host.archive.enabled = false ∧
    (functionReset hot s).host.exportRing.enabled = false ∧
    (functionReset hot s).imian.mailbox = { Mailbox.reset with kept := s.imian.mailbox.kept, requests := s.imian.mailbox.requests } := by
  rw [functionReset_reaches hot h]
  obtain ⟨harchive, himian⟩ := ringDisable_archive (ringDisable 0 s)
  have hfirst := ringDisable_off 0 s
  have hsecond := ringDisable_off 1 (ringDisable 0 s)
  have hsame : (ringDisable 0 s).imian = s.imian := by simp [ringDisable]
  generalize ringDisable 0 s = v at *
  generalize ringDisable 1 v = w at *
  obtain ⟨hmask, hmsix, harchive', hexport, himian', -⟩ := interruptsReset_leaves (clearMailbox w)
  generalize interruptsReset (clearMailbox w) = x at *
  refine ⟨by simpa using hmask, by simpa using hmsix, ?_, ?_, ?_⟩
  · simpa [harchive', clearMailbox, harchive, HostSt.ring] using hfirst
  · simpa [hexport, clearMailbox, HostSt.ring] using hsecond
  · simp [himian', clearMailbox, himian, hsame]

/-! ### The link (R571) -/

theorem linkUp_trains {speed width : Nat} (hstate : s.dev = stStart ∨ s.running = true ∨ s.dev = stRecovery) (hreset : s.power.resetLow = false)
    (hdown : s.host.linkUp = false) (hpassed : bit (s.ro 0x2F03 0x02 5) 8 = false) :
    linkUp speed width s = raise 0x2D01 (le 1 speed ++ le 1 width)
      (((s.onHost fun h => { h with linkUp := true }).setRo 0x2D00 0x04 speed).setRo 0x2D00 0x05 width).signalAll := by
  unfold linkUp
  rw [if_neg]
  simp only [hreset, hdown, hpassed, Bool.or_false, Bool.not_eq_true', Bool.or_eq_false_iff, not_and]
  obtain h | h | h := hstate <;> simp [h]

theorem linkUp_not {speed width : Nat} (h : s.host.linkUp = true) : linkUp speed width s = s := by simp [linkUp, h]

@[simp] theorem signalAll_leaves (s : State) : s.signalAll.status = s.status ∧ s.signalAll.log = s.log ∧ s.signalAll.power = s.power := by
  unfold State.signalAll
  generalize List.range _ = l
  induction l generalizing s with
  | nil => exact ⟨rfl, rfl, rfl⟩
  | cons n l ih =>
    obtain ⟨hstatus, hlog, hpower⟩ := ih (s.signal n)
    have hone : (s.signal n).status = s.status ∧ (s.signal n).log = s.log ∧ (s.signal n).power = s.power := by
      unfold State.signal
      split <;> simp
    exact ⟨hstatus.trans hone.1, hlog.trans hone.2.1, hpower.trans hone.2.2⟩

@[simp] theorem ro_signalAll (s : State) (i j r : Nat) : s.signalAll.ro i j r = s.ro i j r := by simp [State.ro_def]

theorem signalAll_linkUp (s : State) : s.signalAll.host.linkUp = s.host.linkUp := (SignalsOnly.signalAll s).function.2.2.1

theorem pcieOff_down (cause : Nat) (h : s.host.linkUp = false) : pcieOff cause s = s := by simp [pcieOff, h]

/-- A link loss once nothing is being exported. -/
def afterLinkLoss (cause : Nat) (s : State) : State :=
  raise 0x2D02 (le 1 cause) (((s.onHost fun h => { h with
    linkUp := false, archive := { h.archive with enabled := false }, exportRing := { h.exportRing with enabled := false } }).bump 0x2D10 0x06).interrupt 13)

theorem pcieOff_up (cause : Nat) (h : s.host.linkUp = true) : pcieOff cause s = afterLinkLoss cause (ringExportAbort (recordExportAbort s)) := by
  simp [pcieOff, h, afterLinkLoss]

theorem afterLinkLoss_leaves (cause : Nat) (s : State) :
    (afterLinkLoss cause s).host.linkUp = false ∧ (afterLinkLoss cause s).host.archive.enabled = false ∧ (afterLinkLoss cause s).host.exportRing.enabled = false ∧
    bit (afterLinkLoss cause s).host.intStatus 13 = true := by
  unfold afterLinkLoss
  generalize hw : (s.onHost _).bump 0x2D10 0x06 = w
  have hsignals := SignalsOnly.interrupt 13 w
  obtain ⟨-, -, hlink, -⟩ := hsignals.function
  obtain ⟨harchive, hexport⟩ := hsignals.rings
  rw [show (raise 0x2D02 (le 1 cause) (w.interrupt 13)).host = (w.interrupt 13).host by simp, hlink, harchive, hexport]
  exact ⟨by simp [← hw], by simp [← hw], by simp [← hw], bit_interrupt ..⟩

end resets

theorem hostReaches_of_down {s : State} (h : s.host.linkUp = false) : hostReaches s = false := by simp [hostReaches, h]

/-- Settles O42: a register write names its register by offset, and what resets or loses the link disables both rings. -/
theorem ringsRegistersAndLinkFollowTheHost : Obligations.RingsRegistersAndLinkFollowTheHost := by
  refine ⟨?enable, ?fault, ?off, ?offQuiet, ?stays, ?doorbell, ?doorbellRd, ?low, ?base, ?size, ?high, ?bad, ?writeNot, ?lowNot, ?resets, ?resetQuiet,
    ?train, ?trainRecovery, ?lost, ?lostQuiet, ?trainNot, ?downNot⟩
  case enable =>
    intro t r v b s hlink hr hbit hoff hrun hgood
    refine .of (f := ringControl r v b) rfl ?_
    obtain ⟨hring, hmaster, htouches⟩ := ringControl_enables (s := s.advance t) b (by simpa using hlink) hr hbit (by simpa using hoff) (by simpa using hrun)
      (by simpa using hgood)
    exact ⟨by simpa using hring, by simpa using hmaster, htouches.settle⟩
  case fault =>
    intro t r v c b s hroom hlink hr hbit hoff hrun hfault
    refine .of (f := ringControl r v b) rfl ?_
    rw [ringControl_faults (s := s.advance t) b (by simpa using hlink) hr hbit (by simpa using hoff) (by simpa using hrun) (by simpa using hfault)]
    generalize hw : (s.advance t).onHost _ = w
    have hposted : Posted 0x2D05 (le 1 r ++ le 1 c) s (raise 0x2D05 (le 1 r ++ le 1 c) w) :=
      .first hroom (by simp [← hw]) (by simp [← hw]) ..
    refine ⟨?_, (hposted.later (by simp)).settle, by simp [bit_interrupt], by simp [← hw]⟩
    simp [(SignalsOnly.interrupt ..).ring, ← hw]
  case off =>
    intro t r v b s hlink hr hbit
    refine .of (f := ringControl r v b) rfl ?_
    rw [ringControl_off (s := s.advance t) b (by simpa using hlink) hr hbit]
    split
    · simpa using ringDisable_off r _
    next hoff => simpa using hoff
  case offQuiet =>
    intro t r v b s hlink hr hbit hnone
    refine .of (f := ringControl r v b) rfl ?_
    rw [ringControl_off (s := s.advance t) b (by simpa using hlink) hr hbit]
    split
    · rw [ringDisable_idle (by simpa using hnone)]
      simp
    next hoff =>
      refine ⟨?_, by simp⟩
      have hoff : (s.host.ring r).enabled = false := by simpa using hoff
      simp [← hoff]
  case stays =>
    intro t r v b s hlink hr hbit h
    refine .of (f := ringControl r v b) rfl ?_
    rw [ringControl_stays (s := s.advance t) b (by simpa using hlink) hr hbit (by simpa using h)]
    simp
  case doorbell =>
    intro t r v s hlink hr h
    refine .of (f := ringDoorbell r v) rfl ?_
    rw [ringDoorbell_quiet (s := s.advance t) (by simpa using hlink) hr (by simpa using h)]
    simp
  case doorbellRd =>
    intro t v s hlink _ _
    refine .of (f := ringDoorbell 1 v) rfl ?_
    simpa using ringDoorbell_rd (s := s.advance t) (v := v) (by simpa using hlink)
  case low =>
    intro t bar off v s hlink hreg
    refine .of (f := barStore bar off 4 v) rfl ?_
    rw [barStore_low (s := s.advance t) (by simpa using hlink) hreg]
    refine ⟨?_, ?_⟩
    · simp [latchLow, lookup_putKey_self]
    · simp [latchLow, HostSt.ring]
  case base =>
    intro t r v low s hlink hr hlow
    refine .of (f := barStore 0 (0x2004 + 0x100 * r) 4 v) rfl ?_
    rw [barStore_ringBase (s := s.advance t) (by simpa using hlink) hr (by simpa using hlow)]
    exact ⟨by simp [unlatch], by simp [unlatch, lookup_delKey_self], by simp [unlatch]⟩
  case size =>
    intro t r v s hlink hr
    refine .of (f := barStore 0 (0x2008 + 0x100 * r) 4 v) rfl ?_
    rw [barStore_ringSize (s := s.advance t) (by simpa using hlink) hr]
    simp
  case high =>
    intro t bar reg v s hlink hreg hlatch
    refine .of (f := barStore bar (reg + 4) 4 v) rfl ?_
    rw [barStore_high (s := s.advance t) (by simpa using hlink) hreg, highHalf_none (by simpa using hlatch)]
    obtain ⟨hcount, htouches⟩ := badAccess_writes (s.advance t)
    exact ⟨by simpa using hcount, htouches.settle⟩
  case bad =>
    intro t bar off reg width v s hlink hreg hbad
    refine .of (f := barStore bar off width v) rfl ?_
    rw [barStore_bad (s := s.advance t) (by simpa using hlink) hreg hbad]
    obtain ⟨hcount, htouches⟩ := badAccess_writes (s.advance t)
    exact ⟨by simpa using hcount, htouches.settle⟩
  case writeNot =>
    intro t bar off width v s h
    exact .unchanged (f := barStore bar off width v) rfl (barStore_not (by simpa using h))
  case lowNot =>
    intro t bar off v s h
    exact .unchanged (f := barStore bar off 4 v) rfl (barStore_not (by simpa using h))
  case resets =>
    intro t hot s hlink
    refine .of (f := functionReset hot) rfl ?_
    simpa using functionReset_disables (s := s.advance t) hot (by simpa using hlink)
  case resetQuiet =>
    intro t hot s hroom hlink hnone _
    refine .of (f := functionReset hot) rfl ?_
    have hdisables := functionReset_disables (s := s.advance t) hot (by simpa using hlink)
    obtain ⟨hmask, hmsix, harchive, hexport, hmailbox⟩ := hdisables
    refine ⟨by simpa using hmask, by simpa using hmsix, by simpa using harchive, by simpa using hexport, by simpa using hmailbox, ?_⟩
    rw [functionReset_idle (s := s.advance t) hot (by simpa using hlink) (by simpa using hnone)]
    obtain ⟨hsluices, hlog, hpower, hdisabled⟩ := ringsDisabled_leaves (s.advance t)
    generalize clearMailbox (ringsDisabled (s.advance t)) = w at *
    obtain ⟨-, -, -, -, -, hsluices', hlog', hpower', hbits, htouches⟩ := interruptsReset_leaves w
    generalize interruptsReset w = x at *
    have hsluice (i : Nat) : w.sluice i = s.sluice i := by simp [State.sluice, hsluices]
    refine ⟨by simp [hsluices', hsluices], fun i hi => ?_, (Posted.first hroom ?_ ?_ ..).settle, ?_⟩
    · simpa [hsluice] using hbits i hi
    · simp [hlog', hlog]
    · simp [hpower', hpower]
    · simpa using hdisabled.trans (htouches.mono (by simp) (by simp))
  case train =>
    intro t speed width s hroom hstate hreset hdown hpassed
    refine .of (f := linkUp speed width) rfl ?_
    rw [linkUp_trains (s := s.advance t) (by simpa using hstate.imp_right .inl) (by simpa using hreset) (by simpa using hdown) (by simpa using hpassed)]
    refine ⟨by simp [signalAll_linkUp], ?_, ?_, (Posted.first hroom ?_ ?_ ..).settle, by simp⟩
    · simp
    · simp
    · simp
    · simp
  case trainRecovery =>
    intro t speed width s hstate hreset hdown hpassed
    refine .of (f := linkUp speed width) rfl ?_
    rw [linkUp_trains (s := s.advance t) (.inr (.inr (by simpa using hstate))) (by simpa using hreset) (by simpa using hdown) (by simpa using hpassed)]
    exact ⟨by simp [signalAll_linkUp], by simp, by simp, by simp⟩
  case lost =>
    intro t s hup
    refine .of (f := pcieOff 0) rfl ?_
    rw [pcieOff_up (s := s.advance t) 0 (by simpa using hup)]
    generalize ringExportAbort _ = w
    simpa using afterLinkLoss_leaves 0 w
  case lostQuiet =>
    intro t s hroom hup hnone hstate
    refine .of (f := pcieOff 0) rfl ?_
    rw [pcieOff_up (s := s.advance t) 0 (by simpa using hup), recordExportAbort_idle (by simpa using hnone), ringExportAbort_idle (by simpa using hstate)]
    obtain ⟨hlink, harchive, hexport, hbit⟩ := afterLinkLoss_leaves 0 (s.advance t)
    refine ⟨by simpa using hlink, by simpa using harchive, by simpa using hexport, by simpa using hbit, ?_, (Posted.first hroom ?_ ?_ ..).settle, ?_⟩
    · simp [afterLinkLoss]
      rfl
    · simp
    · simp
    · simp [afterLinkLoss]
  case trainNot =>
    intro t speed width s hup
    exact .unchanged (f := linkUp speed width) rfl (linkUp_not (by simpa using hup))
  case downNot =>
    intro t r v b hot c s hdown hc
    have hreach : hostReaches (s.advance t) = false := hostReaches_of_down (by simpa using hdown)
    simp only [List.mem_cons, List.not_mem_nil, or_false] at hc
    obtain rfl | rfl | rfl | rfl := hc
    · exact .unchanged (f := ringControl r v b) rfl (ringControl_not b hreach)
    · exact .unchanged (f := ringDoorbell r v) rfl (ringDoorbell_not hreach)
    · exact .unchanged (f := functionReset hot) rfl (functionReset_not hot hreach)
    · exact .unchanged (f := pcieOff 0) rfl (pcieOff_down 0 (by simpa using hdown))

end Sys2Proof.Machine
end

section
/-! The copy of the C-die's counters (R579): the count of INVALID bands is taken at the copy, not from the object that shows it. -/

namespace Sys2Proof.Machine
open Sys2Proof

/-- In RUN, with one detector row on a signal of local stream 0, which is OFF: its bands are INVALID, and the object 0x2540:04 has not been written. -/
def strayBands : State :=
  { State.reset with
    power := { PowerSt.reset with state := stRun }
    active := [(okey 0x2301 0x01 (groupOf State.reset firstLocal), .num 50), (okey 0x2501 0x01 0, .num 5242880), (okey 0x2501 0x03 0, .num 15)] }

/-- Refutes O46: the copy holds 0x2540:04 as counted from the bands, which is not among the objects the state holds. -/
theorem not_byrdoRestartsAlone : ¬ Obligations.ByrdoRestartsAlone := by
  intro h
  obtain ⟨-, -, -, -, -, hcopy, -⟩ := h
  obtain ⟨u, hu, hheld, -⟩ := hcopy 0 strayBands (by decide)
  obtain rfl : settle (copyCounters (strayBands.advance 0)) = u := Host.Outcome.next.inj hu
  exact absurd hheld (by decide +kernel)

end Sys2Proof.Machine
end

section
/-! What one START and the functions it runs leave: the keys, the life-cycle bits and the device state (R601, R643). -/

namespace Sys2Proof.Machine
open Sys2Proof

/-- An answer, as against what leaves the device by itself. -/
def isAnswer : Out → Bool
  | .status .. => true
  | _ => false

/-- The answers given so far. -/
def State.answers (s : State) : List Out := s.outs.filter isAnswer

/-- The keys, the life-cycle bits, the device state and the answers given: what a function that sends, reports, shows or writes the log leaves. -/
def State.held (s : State) : KeySt × Nat × Nat × List Out := (s.keys, s.power.lifeBits, s.power.state, s.answers)

@[simp] theorem held_ite (c : Prop) [Decidable c] (a b : State) : (if c then a else b).held = if c then a.held else b.held :=
  apply_ite State.held c a b
@[simp] theorem held_foldl {α : Type} {f : State → α → State} (h : ∀ s a, (f s a).held = s.held) (l : List α) (s : State) :
    (l.foldl f s).held = s.held := by
  induction l generalizing s with
  | nil => rfl
  | cons a l ih => rw [List.foldl_cons, ih, h]
@[simp] theorem held_foldr {α : Type} {f : α → State → State} (h : ∀ s a, (f a s).held = s.held) (l : List α) (s : State) :
    (l.foldr f s).held = s.held := by
  induction l with
  | nil => rfl
  | cons a l ih => rw [List.foldr_cons, h, ih]

/-- An option's state, or the one that stands in where there is none. -/
theorem held_getD {o : Option State} {a s : State} (h : ∀ u ∈ o, u.held = s.held) (ha : a.held = s.held) : (o.getD a).held = s.held := by
  cases o with
  | none => exact ha
  | some u => exact h u rfl

@[simp] theorem State.onPower_held (s : State) (f : PowerSt → PowerSt) (h : ((f s.power).lifeBits, (f s.power).state) = (s.power.lifeBits, s.power.state)) :
    (State.onPower s f).held = s.held := by
  obtain ⟨hlife, hstate⟩ := Prod.mk.inj h
  simp [State.held, State.answers, hlife, hstate]
@[simp] theorem State.onImian_held (s : State) (f : ImianSt → ImianSt) : (State.onImian s f).held = s.held := (rfl)
@[simp] theorem State.onLog_held (s : State) (f : LogSt → LogSt) : (State.onLog s f).held = s.held := (rfl)
@[simp] theorem State.setRow_held (s : State) (idx sub row n : Nat) : (State.setRow s idx sub row n).held = s.held := (rfl)
@[simp] theorem State.setRo_held (s : State) (idx sub n : Nat) : (State.setRo s idx sub n).held = s.held := (rfl)

@[simp] theorem State.clearObjects_held (s : State) (l : List (Nat × Nat)) : (State.clearObjects s l).held = s.held := (rfl)
@[simp] theorem State.clearRange_held (s : State) (lo hi : Nat) : (State.clearRange s lo hi).held = s.held := (rfl)
@[simp] theorem State.addTo_held (s : State) (idx sub n row : Nat) : (State.addTo s idx sub n row).held = s.held := (rfl)
@[simp] theorem State.bump_held (s : State) (idx sub row : Nat) : (State.bump s idx sub row).held = s.held := (rfl)
theorem State.emit_held (s : State) {o : Out} (h : isAnswer o = false) : (State.emit s o).held = s.held := by simp [State.held, State.answers, h]
@[simp] theorem emit_msix_held (s : State) (n : Nat) : (s.emit (.msix n)).held = s.held := State.emit_held s rfl
@[simp] theorem emit_wire_held (s : State) (p : Nat) (b : Bool) (l : List Byte) : (s.emit (.wire p b l)).held = s.held := State.emit_held s rfl
@[simp] theorem emit_tout_held (s : State) (p : Nat) (b : Bool) : (s.emit (.tout p b)).held = s.held := State.emit_held s rfl
@[simp] theorem emit_pairM_held (s : State) (l : List Byte) : (s.emit (.pairM l)).held = s.held := State.emit_held s rfl
@[simp] theorem State.onTime_held (s : State) (f : TimeSt → TimeSt) : (State.onTime s f).held = s.held := (rfl)
@[simp] theorem State.onPorts_held (s : State) (f : PortSt → PortSt) : (State.onPorts s f).held = s.held := (rfl)
@[simp] theorem State.setLive_held (s : State) (idx sub row : Nat) (v : Val) : (State.setLive s idx sub row v).held = s.held := (rfl)
@[simp] theorem State.onHost_held (s : State) (f : HostSt → HostSt) : (State.onHost s f).held = s.held := (rfl)
@[simp] theorem State.onDuplex_held (s : State) (f : DuplexSt → DuplexSt) : (State.onDuplex s f).held = s.held := (rfl)
@[simp] theorem State.signal_held (n : Nat) (s : State) : (State.signal n s).held = s.held := by simp [State.signal]
@[simp] theorem State.interrupt_held (s : State) (n : Nat) : (State.interrupt s n).held = s.held := by simp [State.interrupt]

@[simp] theorem raiseFrom_held (source code : Nat) (params : List Byte) (s : State) :
    (raiseFrom source code params s).held = s.held := by simp [raiseFrom]

@[simp] theorem raise_held (code : Nat) (params : List Byte) (s : State) : (raise code params s).held = s.held := by simp [raise]
@[simp] theorem raiseUpTo_held (n code key : Nat) (params : List Byte) (s : State) :
    (raiseUpTo n code key params s).held = s.held := by simp [raiseUpTo]

@[simp] theorem raiseOnce_held (code key : Nat) (params : List Byte) (s : State) :
    (raiseOnce code key params s).held = s.held := by simp [raiseOnce]

@[simp] theorem countWindow_held (code key a b : Nat) (s : State) : (countWindow code key a b s).held = s.held := by simp [countWindow]
@[simp] theorem State.setSluice_held (s : State) (q : Nat) (x : Sluice) : (State.setSluice s q x).held = s.held := (rfl)
@[simp] theorem sluiceInterrupt_held (q : Nat) (s : State) : (sluiceInterrupt q s).held = s.held := by simp [sluiceInterrupt]
@[simp] theorem sluiceLose_held (q : Nat) (owe : Bool) (s : State) : (sluiceLose q owe s).held = s.held := by simp [sluiceLose]
@[simp] theorem sluiceCommit_held (q : Nat) (ps : List (List Nat)) (s : State) :
    (sluiceCommit q ps s).held = s.held := by simp [sluiceCommit]

@[simp] theorem sluicePost_held (q : Nat) (words : List Nat) (s : State) : (sluicePost q words s).held = s.held := by simp [sluicePost]

@[simp] theorem setNominal_held (s : State) : (setNominal s).held = s.held := by simp [setNominal]
@[simp] theorem startGat_held (g : Nat) (s : State) : (startGat g s).held = s.held := by simp [startGat]
@[simp] theorem startGatAt_held (target : Nat) (s : State) : (startGatAt target s).held = s.held := by simp [startGatAt]
@[simp] theorem startGatFromT96_held (s : State) : (startGatFromT96 s).held = s.held := by simp [startGatFromT96]
@[simp] theorem initialiseT96_held (ps : Int) (src : Nat) (s : State) : (initialiseT96 ps src s).held = s.held := by simp [initialiseT96]
@[simp] theorem pulseOff_held (o : Nat) (s : State) : (pulseOff o s).held = s.held := by simp [pulseOff]
@[simp] theorem State.setPort_held (s : State) (p : Nat) (x : Port) : (State.setPort s p x).held = s.held := (rfl)
@[simp] theorem State.tally_held (s : State) (idx sub row n : Nat) : (State.tally s idx sub row n).held = s.held := by simp [State.tally]
@[simp] theorem updatePair_held (pair : Nat) (s : State) : (updatePair pair s).held = s.held := by simp [updatePair]
@[simp] theorem updatePairOf_held (p : Nat) (s : State) : (updatePairOf p s).held = s.held := by
  unfold updatePairOf
  split <;> simp

@[simp] theorem setLink_held (p l : Nat) (s : State) : (setLink p l s).held = s.held := (rfl)
@[simp] theorem portDown_held (p new cause : Nat) (s : State) : (portDown p new cause s).held = s.held := by simp [portDown]
@[simp] theorem endPause_held (p e : Nat) (s : State) : (endPause p e s).held = s.held := by
  simp only [endPause]
  repeat' split
  all_goals simp

@[simp] theorem applyHold_held (p : Nat) (s : State) : (applyHold p s).held = s.held := by simp [applyHold]
@[simp] theorem applyHolds_held (s : State) : (applyHolds s).held = s.held := by simp [applyHolds]
@[simp] theorem enqueue_held (p cls src num : Nat) (frame : List Byte) (s : State) :
    (enqueue p cls src num frame s).held = s.held := by simp [enqueue]

@[simp] theorem sendPort_held (p cls src num : Nat) (dst : List Byte) (etype : Nat) (payload : List Byte) (s : State) :
    (sendPort p cls src num dst etype payload s).held = s.held := by simp [sendPort]

@[simp] theorem sendPair_held (pair cls src num : Nat) (dst : List Byte) (etype : Nat) (payload : List Byte) (s : State) :
    (sendPair pair cls src num dst etype payload s).held = s.held := by simp [sendPair]

@[simp] theorem sendMask_held (mask cls src num : Nat) (dst : List Byte) (etype : Nat) (payload : List Byte) (s : State) :
    (sendMask mask cls src num dst etype payload s).held = s.held := by simp [sendMask]

@[simp] theorem sendMirror_held (onM : Bool) (type : Nat) (payload : List Byte) (s : State) :
    (sendMirror onM type payload s).held = s.held := by simp [sendMirror]

@[simp] theorem setRole_held (new : Nat) (s : State) : (setRole new s).held = s.held := by simp [setRole]
@[simp] theorem leaveRole_held (s : State) : (leaveRole s).held = s.held := by simp [leaveRole]
@[simp] theorem flushQueue_held (p q : Nat) (s : State) : (flushQueue p q s).held = s.held := by simp [flushQueue]
@[simp] theorem relinquish_held (cause : Nat) (s : State) : (relinquish cause s).held = s.held := by simp [relinquish]
@[simp] theorem State.setPin_held (s : State) (p : Nat) (x : Pin) : (State.setPin s p x).held = s.held := (rfl)
@[simp] theorem updatePin_held (p : Nat) (s : State) : (updatePin p s).held = s.held := by simp [updatePin]
@[simp] theorem updatePins_held (s : State) : (updatePins s).held = s.held := by simp [updatePins]

@[simp] theorem shepherdPin_held (p : Nat) (s : State) : (shepherdPin p s).held = s.held := by simp [shepherdPin]
@[simp] theorem allPins_held (s : State) : (allPins s).held = s.held := by simp [allPins]
@[simp] theorem putEntry_held (e : Event) (s : State) : (putEntry e s).held = s.held := by simp [putEntry]
@[simp] theorem writeEntry_held (e : Event) (s : State) : (writeEntry e s).held = s.held := by simp [writeEntry]
@[simp] theorem payDrop_held (s : State) : ∀ u ∈ (payDrop s), u.held = s.held := by
  unfold payDrop
  split <;> simp

@[simp] theorem writeNext_held (e : Event) (s : State) : (writeNext e s).held = s.held := by
  have hpay (s : State) : ((payDrop s).getD s).held = s.held := held_getD (payDrop_held s) rfl
  simp [writeNext, hpay]

@[simp] theorem logStep_held (s : State) : (logStep s).held = s.held := by
  unfold logStep
  split
  · rfl
  split
  · rfl
  split
  · rfl
  split
  · dsimp only; split <;> simp
  · split
    next s' h => exact payDrop_held s s' h
    next => simp

@[simp] theorem releaseFreeze_held (s : State) : (releaseFreeze s).held = s.held := by
  unfold releaseFreeze
  split <;> simp

@[simp] theorem drainLog_held (s : State) : (drainLog s).held = s.held := by simp [drainLog]

@[simp] theorem showSlice_held (k : Nat) (s : State) : (showSlice k s).held = s.held := (rfl)
@[simp] theorem showKept_held (s : State) : (showKept s).held = s.held := by simp [showKept]

@[simp] theorem updateFailed_held (reason : Nat) (s : State) : (updateFailed reason s).held = s.held := by simp [updateFailed]
@[simp] theorem abandonTransfers_held (p : Transfer → Bool) (s : State) : (abandonTransfers p s).held = s.held := by simp [abandonTransfers]
@[simp] theorem swapCancelled_held (cause : Nat) (s : State) : (swapCancelled cause s).held = s.held := by simp [swapCancelled]

@[simp] theorem rebaseGat_held (ticks : Nat) (s : State) : (rebaseGat ticks s).held = s.held := by simp [rebaseGat]
@[simp] theorem rebuildTime_held (saved : Bool) (s : State) : (rebuildTime saved s).held = s.held := by simp [rebuildTime]
@[simp] theorem reportWake_held (w : Wake) (saveGood : Bool) (s : State) : (reportWake w saveGood s).held = s.held := by simp [reportWake]

theorem State.held_parts {s u : State} (h : u.held = s.held) : u.keys = s.keys ∧ u.power.lifeBits = s.power.lifeBits ∧ u.power.state = s.power.state ∧
    u.answers = s.answers := by
  simpa [State.held] using h

/-! ### One START -/

/-- The life-cycle bits once the change that awaits the reset has been made (R643). -/
def lifeBitsAfter (pending : Option Nat) (bits : Nat) : Nat :=
  match pending with
  | none => bits
  | some ty => if ty = 9 then 16 else bits + 1

theorem takeLife_leaves (pending : Option Nat) (s : State) :
    (takeLife pending s).keys = s.keys ∧ (takeLife pending s).power.state = s.power.state ∧
    (takeLife pending s).power.lifeBits = lifeBitsAfter pending s.power.lifeBits ∧ (takeLife pending s).answers = s.answers := by
  cases pending with
  | none => exact ⟨rfl, rfl, rfl, rfl⟩
  | some ty =>
    simp only [takeLife, lifeBitsAfter]
    generalize hw : s.onPower _ = w
    obtain ⟨hkeys, hlife, hstate, hanswers⟩ := State.held_parts (raise_held 0x3003 (le 1 s.life ++ le 1 w.life) w)
    exact ⟨hkeys.trans (by simp [← hw]), hstate.trans (by simp [← hw]), hlife.trans (by simp [← hw]), hanswers.trans (by simp [← hw, State.answers])⟩

theorem startState_leaves (cause : Nat) (s : State) :
    (startState cause s).keys = startKeys s.keys ∧ (startState cause s).power.state = stStart ∧ (startState cause s).power.lifeBits = s.power.lifeBits ∧
    (startState cause s).answers = s.answers :=
  ⟨rfl, rfl, rfl, rfl⟩

theorem startOnce_leaves (cause : Nat) (wake : Option Wake) (s : State) :
    (startOnce cause wake s).keys = startKeys s.keys ∧ (startOnce cause wake s).power.state = stStart ∧
    (startOnce cause wake s).power.lifeBits = lifeBitsAfter s.keys.lifePending s.power.lifeBits ∧ (startOnce cause wake s).answers = s.answers := by
  unfold startOnce
  extract_lets old role cut lost life tamper revert saved s1 s2 s3 s4 s5 s6 s7 s8 s9 s10 s11 s12 s13
  clear_value lost tamper revert
  have h1 : s1.held = s.held := by unfold s1; split <;> simp
  have h2 : s2.held = s.held := by simp [s2, h1]
  obtain ⟨hkeys, hlife, -, hanswers⟩ := State.held_parts h2
  obtain ⟨hkeys3, hstate3, hlife3, hanswers3⟩ := startState_leaves cause s2
  have h3 : s3.held = (startState cause s2).held := by simp [s3]
  have h4 : s4.held = (startState cause s2).held := by unfold s4; split <;> simp [h3]
  have h6 : s6.held = (startState cause s2).held := by unfold s6 s5; split <;> simp [h4]
  have h7 : s7.held = (startState cause s2).held := by unfold s7; split <;> simp [h6]
  have h8 : s8.held = (startState cause s2).held := by unfold s8; split <;> simp [h7]
  have h9 : s9.held = (startState cause s2).held := by
    unfold s9
    split
    · dsimp only
      split <;> simp [h8]
    · exact h8
  obtain ⟨hkeys9, hlife9, hstate9, hanswers9⟩ := State.held_parts h9
  obtain ⟨hkeys10, hstate10, hlife10, hanswers10⟩ := takeLife_leaves life s9
  have h11 : s11.held = s10.held := by unfold s11; split <;> simp
  have h12 : s12.held = s10.held := by unfold s12; split <;> simp [h11]
  obtain ⟨hk, hl, hst, ha⟩ := State.held_parts (show (showKept (applyHolds (allPins s13))).held = s10.held by simp [s13, h12])
  refine ⟨?_, ?_, ?_, ?_⟩
  · rw [hk, hkeys10, hkeys9, hkeys3, hkeys]
  · rw [hst, hstate10, hstate9, hstate3]
  · rw [hl, hlife10, hlife9, hlife3, hlife]
  · rw [ha, hanswers10, hanswers9, hanswers3, hanswers]

theorem changeState_answers (new cause : Nat) (s : State) : (changeState new cause s).answers = s.answers := by
  have hset (v : State) : (setDevState new cause v).answers = v.answers := by
    unfold setDevState
    dsimp only
    repeat' split
    all_goals simp [State.answers]
  obtain ⟨-, -, -, hraise⟩ := State.held_parts (raise_held 0x1020 (le 1 s.dev ++ le 1 new ++ le 1 cause) s)
  unfold changeState
  extract_lets v
  split
  · exact (hset _).trans hraise
  · obtain ⟨-, -, -, hinterrupt⟩ := State.held_parts (State.interrupt_held v 12)
    exact hinterrupt.trans ((hset _).trans hraise)

theorem enterRecovery_answers (s : State) : (enterRecovery s).answers = s.answers := by
  obtain ⟨-, -, -, h⟩ := State.held_parts (show (enterRecovery s).held = (changeState stRecovery 0x0A s).held by simp [enterRecovery])
  exact h.trans (changeState_answers ..)

/-- A reset keeps the answers given. -/
theorem beginStart_answers (cause : Nat) (wake : Option Wake) (s : State) : (beginStart cause wake s).answers = s.answers := by
  have honce (cause : Nat) (wake : Option Wake) (s : State) : (startOnce cause wake s).answers = s.answers := (startOnce_leaves cause wake s).2.2.2
  unfold beginStart
  extract_lets s1 w n counted s2
  have hbank (a : Nat) (b : Bool) (p c : Nat) (v : State) : (writeBank a b p c v).answers = v.answers := rfl
  have hword (v : State) : (revertWord 3 v).answers = v.answers := rfl
  have h1 : s1.answers = s.answers := honce cause wake s
  have h2 : s2.answers = s.answers := by
    unfold s2
    split
    · exact h1
    · have hcounted : counted.answers = s.answers := (hbank ..).trans h1
      split
      · exact (honce 0x01 none (revertWord 3 counted)).trans ((hword counted).trans hcounted)
      · exact hcounted
  split
  · exact (enterRecovery_answers s2).trans h2
  · exact h2

/-- A reset of its own on a valid bank, out of trial. -/
theorem beginStart_leaves (cause : Nat) {s : State} (htrial : bankTrial s.keys.bankWord = false) (hbank : s.keys.bankA.valid = true) :
    (beginStart cause none s).power.state = stStart ∧
    (beginStart cause none s).power.lifeBits = lifeBitsAfter s.keys.lifePending s.power.lifeBits := by
  obtain ⟨hkeys, hstate, hlife, -⟩ := startOnce_leaves cause none s
  unfold beginStart
  extract_lets s1 w n counted s2
  have hw : bankTrial w = false := by simpa [w, s1, hkeys, startKeys] using htrial
  have h2 : s2 = s1 := if_pos (by simp [hw])
  rw [h2, if_neg (by simp [s1, hkeys, startKeys, hbank])]
  exact ⟨hstate, hlife⟩

end Sys2Proof.Machine
end

section
/-! Key-update messages, tamper inputs and attestation (R645 to R657). -/

namespace Sys2Proof.Machine
open Sys2Proof

/-! ### Sessions that end -/

@[simp] theorem dropSession_held (n : Nat) (s : State) : (dropSession n s).held = s.held := by simp [dropSession]
@[simp] theorem endSession_held (n cause : Nat) (s : State) : (endSession n cause s).held = s.held := by simp [endSession]
@[simp] theorem endSessions_held (cause : Nat) (s : State) : (endSessions cause s).held = s.held := by simp [endSessions]

theorem dropSession_sessions (n : Nat) (s : State) : (dropSession n s).imian.sessions = delKey n s.imian.sessions := by
  obtain ⟨-, hsessions, -⟩ := abandonTransfers_writes (fun t => decide (t.who = .dtls n)) s
  unfold dropSession
  generalize abandonTransfers (fun t => decide (t.who = .dtls n)) s = v at *
  extract_lets a w x
  have himian : x.imian = w.imian := by
    unfold x
    split
    · exact (LogWork.releaseFreeze w).imian
    · rfl
  simp [himian, w, a, hsessions]

theorem delKey_absent {α : Type} {k : Nat} {l : List (Nat × α)} (h : lookup k l = none) : delKey k l = l := by
  induction l with
  | nil => rfl
  | cons e l ih =>
    obtain ⟨j, v⟩ := e
    by_cases hj : j = k
    · simp [lookup, hj] at h
    · simp only [lookup, if_neg hj] at h
      have hl := ih h
      simp only [delKey] at hl ⊢
      rw [List.filter_cons_of_pos (by simpa using hj), hl]

theorem endSession_sessions (n cause : Nat) (s : State) : (endSession n cause s).imian.sessions = delKey n s.imian.sessions := by
  unfold endSession
  split
  · simp [dropSession_sessions]
  next hnone => exact (delKey_absent (by simpa [State.session] using hnone)).symm

/-- Deleting keys, every key of the table among them, leaves nothing. -/
theorem delKeys_empty {α : Type} (l : List Nat) (t : List (Nat × α)) (h : ∀ e ∈ t, e.1 ∈ l) : l.foldl (fun t n => delKey n t) t = [] := by
  induction l generalizing t with
  | nil => exact List.eq_nil_iff_forall_not_mem.mpr fun e he => absurd (h e he) (by simp)
  | cons n l ih =>
    refine ih _ fun e he => ?_
    simp only [delKey, List.mem_filter] at he
    obtain ⟨hmem, hne⟩ := he
    exact (List.mem_cons.mp (h e hmem)).resolve_left (by simpa using hne)

theorem endSessions_sessions (cause : Nat) (s : State) : (endSessions cause s).imian.sessions = [] := by
  have hfold (l : List Nat) (v : State) :
      (l.foldl (fun v n => endSession n cause v) v).imian.sessions = l.foldl (fun t n => delKey n t) v.imian.sessions := by
    induction l generalizing v with
    | nil => rfl
    | cons n l ih => rw [List.foldl_cons, ih, endSession_sessions]; rfl
  exact (hfold ..).trans (delKeys_empty _ _ fun e he => List.mem_map_of_mem he)

theorem endSession_leaves (n cause : Nat) (s : State) :
    (endSession n cause s).power = s.power ∧ s.log.fifo <+: (endSession n cause s).log.fifo := by
  unfold endSession
  split
  · obtain ⟨-, -, -, hpower, hfew, -⟩ := dropSession_writes n s
    exact ⟨by simpa using hpower, hfew.1.trans (fifo_raise ..)⟩
  · exact ⟨rfl, List.prefix_rfl⟩

theorem endSessions_leaves (cause : Nat) (s : State) :
    (endSessions cause s).power = s.power ∧ s.log.fifo <+: (endSessions cause s).log.fifo := by
  unfold endSessions
  generalize s.imian.sessions.map (·.1) = l
  induction l generalizing s with
  | nil => exact ⟨rfl, List.prefix_rfl⟩
  | cons n l ih =>
    obtain ⟨hpower, hfifo⟩ := endSession_leaves n cause s
    obtain ⟨hpower', hfifo'⟩ := ih (endSession n cause s)
    exact ⟨hpower'.trans hpower, hfifo.trans hfifo'⟩

theorem lockStore_leaves (s : State) :
    (lockStore s).keys = { s.keys with locked := true, cache := [], unusable := [] } ∧ (lockStore s).imian.sessions = [] ∧
    (lockStore s).power = s.power ∧ s.log.fifo <+: (lockStore s).log.fifo := by
  unfold lockStore
  generalize hw : s.onKeys _ = w
  obtain ⟨hkeys, -, -⟩ := State.held_parts (endSessions_held 3 w)
  obtain ⟨hpower, hfifo⟩ := endSessions_leaves 3 w
  exact ⟨hkeys.trans (by simp [← hw]), endSessions_sessions .., hpower.trans (by simp [← hw]), .trans (by simp [← hw]) hfifo⟩

/-! ### The effects of a message (R648) -/

section messages
variable {m : List Byte} {s u : State}

theorem bothSets_leaves (f : Nat → Val × Val) (l : List Nat) (s : State) :
    let w := l.foldl (fun s k => bothSets 0x1101 0x02 k (f k).1 (bothSets 0x1101 0x01 k (f k).2 s)) s
    w.keys = s.keys ∧ w.status = s.status ∧ w.log = s.log := by
  induction l generalizing s with
  | nil => exact ⟨rfl, rfl, rfl⟩
  | cons k l ih => exact ih _

theorem takeOwnership_leaves (m : List Byte) (s : State) :
    (takeOwnership m s).keys = { s.keys with owners := putKey 0 ((msgPayload m).take 97, false) s.keys.owners } ∧
    (∀ i j r, i ≠ 0x2E20 → j < 256 → r < 0x1000000 → (takeOwnership m s).ro i j r = s.ro i j r) ∧ s.log.fifo <+: (takeOwnership m s).log.fifo := by
  unfold takeOwnership
  extract_lets p n v w
  obtain ⟨hkeys, hstatus, hlog⟩ := bothSets_leaves (fun k => (.num (byteAt p (97 + 49 * k + 48)), .oct (slice p (97 + 49 * k) 48))) (List.range n) v
  have hw : w.keys = v.keys ∧ w.status = v.status ∧ w.log = v.log := ⟨hkeys, hstatus, hlog⟩
  obtain ⟨hkeys, hstatus, hlog⟩ := hw
  refine ⟨?_, fun i j r hi hj hr => ?_, .trans (by simp [hlog, v]) (fifo_raise ..)⟩
  · exact (show _ = w.keys by simp).trans (hkeys.trans rfl)
  · rw [ro_raise hi hj hr]
    simp [State.ro_def, hstatus, v]

theorem messageFault_type {who : Who} (h : messageFault who m s = none) : 1 ≤ msgType m ∧ msgType m ≤ 9 := by
  unfold messageFault at h
  split at h
  · cases h
  next hform =>
    have hform : messageForm m = true := by simpa using hform
    simp only [messageForm, Bool.and_eq_true, decide_eq_true_eq] at hform
    obtain ⟨⟨⟨⟨-, hlow⟩, hhigh⟩, -⟩, -⟩ := hform
    exact ⟨hlow, hhigh⟩

/-- The keys after an effect follow from the keys and the life-cycle before it. -/
theorem messageEffect_keys (hk : u.keys = s.keys) (hl : u.power.lifeBits = s.power.lifeBits) : (messageEffect m u).keys = (messageEffect m s).keys := by
  have hlife : u.life = s.life := by simp [State.life, hl]
  have hblob : messageBlob m u = messageBlob m s := by simp [messageBlob, messageUnwraps, hlife, hk]
  have hslot : freeSlot u = freeSlot s := by simp [freeSlot, hk]
  unfold messageEffect
  split
  · rw [(takeOwnership_leaves m u).1, (takeOwnership_leaves m s).1, hk]
  · simp [touch, hblob, hk]
  · simp [touch, hk]
  · simp [touch, hk]
  · unfold rotateOwner
    rw [hslot]
    split <;> simp [hk]
  · simp [hk]
  · simp [hk]

/-- An effect leaves the other objects, and events posted before it stay. -/
theorem messageEffect_leaves (m : List Byte) (s : State) :
    (∀ i j r, i ≠ 0x2E20 → i ≠ 0x3001 → j < 256 → r < 0x1000000 → (messageEffect m s).ro i j r = s.ro i j r) ∧
    s.log.fifo <+: (messageEffect m s).log.fifo := by
  unfold messageEffect
  split
  · exact ⟨fun i j r hi _ hj hr => (takeOwnership_leaves m s).2.1 i j r hi hj hr, (takeOwnership_leaves m s).2.2⟩
  · exact ⟨fun i j r hi _ hj hr => by simp [touch], by simp [touch]⟩
  · exact ⟨fun i j r hi _ hj hr => by simp [touch], by simp [touch]⟩
  · refine ⟨fun i j r hi hne hj hr => ?_, by simp [touch]⟩
    have hne' : (i, j) ≠ (0x3001, 0x03) := by simp [hne]
    simp [touch, ro_setRoBytes_of_ne hne', hj, hr]
  · unfold rotateOwner
    split
    · exact ⟨fun _ _ _ _ _ _ _ => rfl, List.prefix_rfl⟩
    · exact ⟨fun i j r hi _ hj hr => by simp [hi, hj, hr], .trans (by simp) (fifo_raise ..)⟩
  · exact ⟨fun i j r hi _ hj hr => by simp [hi, hj, hr], .trans (by simp) (fifo_raise ..)⟩
  · exact ⟨fun i j r hi _ hj hr => by simp, by simp⟩

/-- No effect of types 1 to 6 awaits a reset. -/
theorem messageEffect_pending (h : 1 ≤ msgType m) (h6 : msgType m ≤ 6) : (messageEffect m s).keys.lifePending = s.keys.lifePending := by
  unfold messageEffect
  split
  · rw [(takeOwnership_leaves m s).1]
  · simp [touch]
  · simp [touch]
  · simp [touch]
  · unfold rotateOwner
    split <;> simp
  · simp
  next n1 n2 n3 n4 n5 n6 =>
    have hcases : msgType m = 1 ∨ msgType m = 2 ∨ msgType m = 3 ∨ msgType m = 4 ∨ msgType m = 5 ∨ msgType m = 6 := by omega
    exact (hcases.elim n1 fun h => h.elim n2 fun h => h.elim n3 fun h => h.elim n4 fun h => h.elim n5 n6).elim

theorem messageEffect_deletes (h : msgType m = 3) :
    messageEffect m s = touch 0x3021 0x02 (msgHandle m) (s.onKeys fun k => { k with blobs := delKey (msgHandle m) k.blobs }) := by
  simp [messageEffect, h]

theorem messageEffect_stores (h : msgType m = 4) : messageEffect m s = touch 0x3001 0x03 noRow (s.setRoBytes 0x3001 0x03 (msgPayload m)) := by
  simp [messageEffect, h]

theorem messageEffect_rotates {key : List Byte} {i : Nat} (h : msgType m = 5) (hslot : freeSlot s = some i)
    (hsigner : lookup (msgSigner m) s.keys.owners = some (key, false)) :
    messageEffect m s = raise 0x3006 (le 1 i) (s.onKeys fun k =>
      { k with owners := putKey i (msgPayload m, false) (putKey (msgSigner m) (key, true) k.owners) }) := by
  simp [messageEffect, h, rotateOwner, hslot, hsigner]

theorem messageEffect_unlocks (h : msgType m = 6) :
    messageEffect m s = raise 0x3004 (le 1 0) (s.onKeys fun k => { k with locked := false, tamperLatch := false }) := by simp [messageEffect, h]

theorem messageEffect_awaits (h : 7 ≤ msgType m) : messageEffect m s = s.onKeys fun k => { k with lifePending := some (msgType m) } := by
  unfold messageEffect
  split
  next h' => omega
  next h' => omega
  next h' => omega
  next h' => omega
  next h' => omega
  next h' => omega
  · rfl

/-! ### The command (R648) -/

/-- The state a message that passes is applied to: its counter kept, its code shown and its event posted. -/
def messageTaken (m : List Byte) (s : State) : State :=
  raise 0x3001 (le 1 (msgType m) ++ le 2 (msgHandle m) ++ le 8 (msgCounter m))
    (((s.onKeys fun k => { k with counter := msgCounter m, kennelCounter := msgCounter m }).setRo 0x3011 0x01 0x80).bump 0x3040 0x01)

theorem applyMessage_fails {who : Who} {r : Nat} (h : messageFault who (keyMessage s) s = some r) :
    applyMessage who s = (raise 0x3002 (le 1 (msgType (keyMessage s)) ++ le 1 r) ((s.setRo 0x3011 0x01 r).bump 0x3040 0x02), 0) := by
  simp [applyMessage, h]

theorem applyMessage_passes {who : Who} (h : messageFault who (keyMessage s) s = none) :
    applyMessage who s = (messageEffect (keyMessage s) (messageTaken (keyMessage s) s), 0) := by
  simp only [applyMessage, h]
  rfl

theorem runThen_accepted {i j : Nat} {w : Who} (h : AcceptedPlain i j w s) (body : State → State × Nat) (after : State → State)
    (hok : (body s).2 = 0) : runThen i j w body after s = after ((account w 0 (body s).1).emit (.status w 0)) := by
  obtain ⟨hreaches, hstatus⟩ := h
  simp [runThen, tryCommand, hreaches, hstatus, hok]

theorem afterMessage_idle (h : s.keys.lifePending = none) : afterMessage s = s := by simp [afterMessage, h]

theorem lapse_held (dt : Nat) (s : State) : (lapse dt s).held = s.held := rfl

theorem afterMessage_resets {ty : Nat} (hpending : s.keys.lifePending = some ty) (htrial : bankTrial s.keys.bankWord = false)
    (hbank : s.keys.bankA.valid = true) :
    (afterMessage s).power.state = stStart ∧ (afterMessage s).power.lifeBits = lifeBitsAfter (some ty) s.power.lifeBits := by
  have hheld : (endSessions 3 (lapse (ms 10) s)).held = s.held := (endSessions_held ..).trans (lapse_held ..)
  obtain ⟨hkeys, hlife, -⟩ := State.held_parts hheld
  obtain ⟨hstate, hbits⟩ := beginStart_leaves 0x01 (s := endSessions 3 (lapse (ms 10) s)) (by rw [hkeys, htrial]) (by rw [hkeys, hbank])
  unfold afterMessage resetLater
  rw [if_pos (by simp [hpending])]
  exact ⟨hstate, by rw [hbits, hkeys, hlife, hpending]⟩

theorem answered_of_answers {w : Who} {c : Nat} (h : u.answers = s.answers) (hs : Answered w c s) : Answered w c u := by
  have hmem : Out.status w c ∈ s.answers := List.mem_filter.mpr ⟨hs, rfl⟩
  exact (List.mem_filter.mp (h ▸ hmem)).1

theorem afterMessage_answers (s : State) : (afterMessage s).answers = s.answers := by
  unfold afterMessage
  split
  · obtain ⟨-, -, -, hends⟩ := State.held_parts ((endSessions_held 3 (lapse (ms 10) s)).trans (lapse_held (ms 10) s))
    exact (beginStart_answers 0x01 none _).trans hends
  · rfl

theorem messageTaken_leaves (m : List Byte) (s : State) :
    (messageTaken m s).keys = { s.keys with counter := msgCounter m, kennelCounter := msgCounter m } ∧ (messageTaken m s).power = s.power ∧
    (messageTaken m s).ro 0x3011 0x01 = 0x80 ∧ (messageTaken m s).ro 0x3040 0x01 = (s.ro 0x3040 0x01 + 1) % 2 ^ 32 := by
  refine ⟨by simp [messageTaken], by simp [messageTaken], by simp [messageTaken], ?_⟩
  simp [messageTaken]
  rfl

end messages

section tamper
variable {s : State}

/-- A device that can post events is neither off nor in KENNEL. -/
theorem Room.awake (h : Room s) : s.dev ≠ stOff ∧ s.dev ≠ stKennel := by
  obtain ⟨hpowered, -, -⟩ := h
  simp only [State.powered, Bool.and_eq_true, Bool.not_eq_true', Bool.or_eq_false_iff, beq_eq_false_iff_ne] at hpowered
  exact hpowered.1

theorem attestBegin_signs {nonce : List Byte} (h : attests s = true) (hnone : s.keys.signing = none) :
    attestBegin nonce s = (s.onKeys fun k => { k with signing := some nonce }, 0) := by simp [attestBegin, h, hnone]

theorem attestBegin_noKey {nonce : List Byte} (h : attests s = false) : attestBegin nonce s = (s, 0x0D) := by simp [attestBegin, h]

theorem attestBegin_busy {nonce : List Byte} (h : attests s = true) (hsome : s.keys.signing ≠ none) : attestBegin nonce s = (s, 0x07) := by
  simp [attestBegin, h, Option.isSome_iff_ne_none.mpr hsome]

theorem attests_advance (t : Nat) (s : State) : attests (s.advance t) = attests s := by simp [attests, State.life, State.derives]

/-! ### Tamper (R645) -/

theorem tamperSeen_off (input : Nat) (h : s.dev = stOff) : tamperSeen input s = s := by simp [tamperSeen, h]

/-- The tamper latch set. -/
def latched (s : State) : State := s.onKeys fun k => { k with tamperLatch := true }

theorem tamperSeen_locks (input : Nat) (hdev : s.dev ≠ stOff ∧ s.dev ≠ stKennel) (hpolicy : s.cfg 0x3000 0x02 = 1) (hfree : s.keys.locked = false) :
    tamperSeen input s = raise 0x3004 (le 1 1) (lockStore (raise 0x2F0C (le 1 input ++ le 1 s.dev) (latched s))) := by
  simp [tamperSeen, hdev, hpolicy, hfree, latched]

theorem tamperSeen_reports (input : Nat) (hdev : s.dev ≠ stOff ∧ s.dev ≠ stKennel) (h : s.cfg 0x3000 0x02 = 0 ∨ s.keys.locked = true) :
    tamperSeen input s = raise 0x2F0C (le 1 input ++ le 1 s.dev) (latched s) := by
  obtain h | h := h <;> simp [tamperSeen, hdev, h, latched]

theorem tamperSeen_kennel (input : Nat) (hdev : s.dev = stKennel) (hpolicy : s.cfg 0x3000 0x02 = 1) (hfree : s.keys.locked = false) :
    tamperSeen input s = (lockStore (latched s)).onPower fun p =>
      { p with tamperReport := if p.tamperReport.isNone then some (input, stKennel, true) else p.tamperReport } := by
  have hne : stKennel ≠ stOff := by decide
  simp [tamperSeen, hdev, hpolicy, hfree, latched, hne]

/-! ### Attestation (R656, R657) -/

theorem slice_at {l a b : List Byte} {o n : Nat} (h : ∃ c, l = a ++ (b ++ c)) (ha : a.length = o) (hb : b.length = n) : slice l o n = b := by
  obtain ⟨c, rfl⟩ := h
  subst ha hb
  simp [slice]

theorem attestEnd_none (h : s.keys.signing = none) : attestEnd s = s := by simp [attestEnd, h]

/-- The signature counted, before its statement is stored. -/
def signed (s : State) : State := (s.onKeys fun k => { k with signing := none }).bump 0x3002 0x03

theorem attestEnd_signs {nonce : List Byte} (h : s.keys.signing = some nonce) :
    attestEnd s = touch 0x3002 0x02 noRow ((signed s).setRoBytes 0x3002 0x02
      (statementBody nonce (signed s) ++ fit 96 (Config.ecdsaSign 0 (statementBody nonce (signed s))))) := by
  simp only [attestEnd, h]
  rfl

/-- The fields of a statement that stand before its first list: version, length, identity, life-cycle, and after others the nonce. -/
theorem statementBody_fields (nonce : List Byte) (s : State) (l : List Byte) :
    slice (statementBody nonce s ++ l) 0 2 = be 2 1 ∧ slice (statementBody nonce s ++ l) 4 16 = be 16 Config.identity ∧
    slice (statementBody nonce s ++ l) 20 1 = be 1 s.life ∧ slice (statementBody nonce s ++ l) 40 32 = fit 32 nonce := by
  unfold statementBody
  extract_lets b parts
  generalize hl : 184 + 52 * parts.length + 96 = length
  refine ⟨?_, ?_, ?_, ?_⟩
  · refine slice_at (a := []) ?_ rfl (length_be ..)
    simp only [List.append_assoc, List.nil_append]
    exact ⟨_, rfl⟩
  · refine slice_at (a := be 2 1 ++ be 2 length) ?_ (by simp) (length_be ..)
    simp only [List.append_assoc]
    exact ⟨_, rfl⟩
  · refine slice_at (a := be 2 1 ++ be 2 length ++ be 16 Config.identity) ?_ (by simp) (length_be ..)
    simp only [List.append_assoc]
    exact ⟨_, rfl⟩
  · refine slice_at (a := be 2 1 ++ be 2 length ++ be 16 Config.identity ++ be 1 s.life ++ be 1 b ++ be 1 (b2n (inTrial s)) ++ be 1 parts.length ++
      be 12 (shownT96 s) ++ be 1 s.timeClass ++ be 3 0) ?_ (by simp) (length_fit ..)
    simp only [List.append_assoc]
    exact ⟨_, rfl⟩

end tamper

/-- Settles O51: a message's effect on the keys follows from the keys alone, and the reset after types 7 to 9 makes the change that waits. -/
theorem keyUpdatesTakeEffectAsR648 : Obligations.KeyUpdatesTakeEffectAsR648 := by
  refine ⟨?message, ?deletes, ?stores, ?rotates, ?unlocks, ?awaits, ?locks, ?reports, ?off, ?kennel, ?attest, ?noKey, ?busy, ?none, ?signs⟩
  case message =>
    intro t who s hacc hroom hpending
    refine .of (f := runThen 0x3030 0x01 who (applyMessage who) afterMessage) rfl ?_
    have hmessage : keyMessage (s.advance t) = keyMessage s := by simp [keyMessage, State.rwBytes]
    cases hfault : messageFault who (keyMessage s) (s.advance t) with
    | some r =>
      have hbody := applyMessage_fails (s := s.advance t) (who := who) (r := r) (by rw [hmessage, hfault])
      rw [runThen_accepted hacc _ _ (by rw [hbody]), hbody, hmessage, afterMessage_idle (by simpa using hpending)]
      refine ⟨answered_settle .., fun _ => ?_, by simp, by simp⟩
      refine ⟨by simp, ?_, (Posted.first hroom (by simp) (by simp) _ _).answered who 0 _, by simp⟩
      simp
      rfl
    | none =>
      have hbody := applyMessage_passes (s := s.advance t) (who := who) (by rw [hmessage, hfault])
      rw [hmessage] at hbody
      rw [runThen_accepted hacc _ _ (by rw [hbody]), hbody]
      obtain ⟨hkeys, hpower, hcode, hcount⟩ := messageTaken_leaves (keyMessage s) (s.advance t)
      obtain ⟨hro, hfifo⟩ := messageEffect_leaves (keyMessage s) (messageTaken (keyMessage s) (s.advance t))
      have heffect := messageEffect_keys (m := keyMessage s) (u := messageTaken (keyMessage s) (s.advance t))
        (s := s.onKeys fun k => { k with counter := msgCounter (keyMessage s), kennelCounter := msgCounter (keyMessage s) })
        (by simpa using hkeys) (by simp [hpower])
      have hposted : Posted 0x3001 (le 1 (msgType (keyMessage s)) ++ le 2 (msgHandle (keyMessage s)) ++ le 8 (msgCounter (keyMessage s))) s
          (messageEffect (keyMessage s) (messageTaken (keyMessage s) (s.advance t))) := (Posted.first hroom (by simp) (by simp) _ _).later hfifo
      have hcode' := (hro 0x3011 0x01 noRow (by decide) (by decide) (by decide) (by decide)).trans hcode
      have hcount' := (hro 0x3040 0x01 noRow (by decide) (by decide) (by decide) (by decide)).trans hcount
      obtain ⟨hlow, hhigh⟩ := messageFault_type hfault
      refine ⟨?_, by simp, fun _ h6 => ?_, fun _ h7 htrial hbank => ?_⟩
      · have hanswered := answered_of_answers (w := who) (c := 0) (afterMessage_answers ((account who 0
          (messageEffect (keyMessage s) (messageTaken (keyMessage s) (s.advance t)))).emit (.status who 0))) (by simp [Answered])
        simpa [Answered] using hanswered
      · have hstays := messageEffect_pending (s := messageTaken (keyMessage s) (s.advance t)) hlow h6
        rw [hkeys] at hstays
        rw [afterMessage_idle (by simp [hstays, hpending])]
        exact ⟨by simp [hcode'], by simpa using hcount', hposted.answered who 0 _, by simpa using heffect⟩
      · have hawaits := messageEffect_awaits (s := messageTaken (keyMessage s) (s.advance t)) (show 7 ≤ msgType (keyMessage s) from h7)
        generalize hw : (account who 0 _).emit _ = w
        have hwkeys : w.keys = { (messageTaken (keyMessage s) (s.advance t)).keys with lifePending := some (msgType (keyMessage s)) } := by
          simp [← hw, hawaits]
        have hwpower : w.power = s.power := by simp [← hw, hawaits, hpower]
        obtain ⟨hstate, hbits⟩ := afterMessage_resets (s := w) (ty := msgType (keyMessage s)) (by simp [hwkeys]) (by simpa [hwkeys, hkeys] using htrial)
          (by simpa [hwkeys, hkeys] using hbank)
        exact ⟨by simpa [State.dev] using hstate, by simpa [hwpower, lifeBitsAfter] using hbits⟩
  case deletes =>
    intro m s h
    rw [messageEffect_deletes h]
    simp [touch, lookup_delKey_self]
  case stores =>
    intro m s h
    rw [messageEffect_stores h]
    simp [touch]
  case rotates =>
    intro m key i s h hslot hsigner
    rw [messageEffect_rotates h hslot hsigner]
    have hnone : lookup i s.keys.owners = none := by
      have := List.find?_some hslot
      simpa using this
    have hne : i ≠ msgSigner m := by
      rintro rfl
      simp [hnone] at hsigner
    simp [lookup_putKey_self, lookup_putKey_ne hne.symm]
  case unlocks =>
    intro m s h
    rw [messageEffect_unlocks h]
    simp
  case awaits =>
    intro m s h
    rw [messageEffect_awaits h]
    simp
  case locks =>
    intro t input s hroom hpolicy hfree
    refine .of (f := tamperSeen input) rfl ?_
    rw [tamperSeen_locks (s := s.advance t) input (by simpa using hroom.awake) (by simpa using hpolicy) (by simpa using hfree)]
    have hposted : Posted 0x2F0C (le 1 input ++ le 1 (s.advance t).dev) s (raise 0x2F0C (le 1 input ++ le 1 (s.advance t).dev) (latched (s.advance t))) :=
      .first hroom (by simp [latched]) (by simp [latched]) ..
    generalize hw : raise 0x2F0C _ _ = w at *
    have hwkeys : w.keys = { s.keys with tamperLatch := true } := by simp [← hw, latched]
    obtain ⟨hkeys, hsessions, -, hfifo⟩ := lockStore_leaves w
    refine ⟨by simp [hkeys], by simp [hkeys], by simp [hkeys, hwkeys], by simp [hsessions], by simp [hkeys, hwkeys], ?_⟩
    simpa using (hposted.later (hfifo.trans (fifo_raise ..))).settle
  case reports =>
    intro t input s hroom h
    refine .of (f := tamperSeen input) rfl ?_
    rw [tamperSeen_reports (s := s.advance t) input (by simpa using hroom.awake) (by simpa using h)]
    refine ⟨by simp [latched], ?_, by simp [latched]⟩
    simpa using (Posted.first hroom (by simp [latched]) (by simp [latched]) 0x2F0C (le 1 input ++ le 1 s.dev)).settle
  case off =>
    intro t input s h
    exact .unchanged (f := tamperSeen input) rfl (tamperSeen_off input (by simpa using h))
  case kennel =>
    intro t input s hdev hpolicy hfree hreport
    refine .of (f := tamperSeen input) rfl ?_
    rw [tamperSeen_kennel (s := s.advance t) input (by simpa using hdev) (by simpa using hpolicy) (by simpa using hfree)]
    obtain ⟨hkeys, -, hpower, -⟩ := lockStore_leaves (latched (s.advance t))
    generalize lockStore (latched (s.advance t)) = w at *
    simp [hkeys, hpower, latched, hreport]
  case attest =>
    intro t who nonce s hacc hattests hnone
    refine .of (f := runCommand 0x3002 0x01 noRow (.oct nonce) who (attestBegin nonce)) rfl ?_
    rw [runCommand_accepted hacc, attestBegin_signs (s := s.advance t) (by rw [attests_advance, hattests]) (by simpa using hnone)]
    exact ⟨answered_settle .., by simp, by simp⟩
  case noKey =>
    intro t who nonce s hacc hattests
    refine .of (f := runCommand 0x3002 0x01 noRow (.oct nonce) who (attestBegin nonce)) rfl ?_
    rw [runCommand_accepted hacc, attestBegin_noKey (s := s.advance t) (by rw [attests_advance, hattests])]
    exact ⟨answered_settle .., by simp⟩
  case busy =>
    intro t who nonce s hacc hattests hsome
    refine .of (f := runCommand 0x3002 0x01 noRow (.oct nonce) who (attestBegin nonce)) rfl ?_
    rw [runCommand_accepted hacc, attestBegin_busy (s := s.advance t) (by rw [attests_advance, hattests]) (by simpa using hsome)]
    exact ⟨answered_settle .., by simp⟩
  case none =>
    intro t s h
    exact .unchanged (f := attestEnd) rfl (attestEnd_none (by simpa using h))
  case signs =>
    intro t nonce s h
    refine .of (f := attestEnd) rfl ?_
    rw [attestEnd_signs (s := s.advance t) (by simpa using h)]
    have hlife : (signed (s.advance t)).life = s.life := by simp [signed, State.life]
    have hcount : (signed (s.advance t)).ro 0x3002 0x03 = (s.ro 0x3002 0x03 + 1) % 2 ^ 32 := by
      simp [signed]
      rfl
    obtain ⟨hversion, hidentity, hlifeByte, hnonce⟩ :=
      statementBody_fields nonce (signed (s.advance t)) (fit 96 (Config.ecdsaSign 0 (statementBody nonce (signed (s.advance t)))))
    generalize statementBody nonce (signed (s.advance t)) ++ _ = body at *
    have hbytes (v : State) : (settle (touch 0x3002 0x02 noRow (v.setRoBytes 0x3002 0x02 body))).roBytes 0x3002 0x02 = body := by
      rw [(Touches.refl [] [] _).settle.roBytes (by decide) (by decide) (by simp) (by decide)]
      simp [touch]
    refine ⟨by simp [touch, signed], ?_, ?_, ?_, ?_, ?_, by simp [touch, signed]⟩
    · simpa [touch] using hcount
    · rw [hbytes, hversion]
    · rw [hbytes, hidentity]
    · rw [hbytes, hlifeByte, hlife]
    · rw [hbytes, hnonce]

end Sys2Proof.Machine
end

section
/-! The load of slices and cores, and parking (R247, R257, R258). -/

namespace Sys2Proof.Machine
open Sys2Proof

/-! ### A change of device state between RUN and TRIM -/

theorem setDevState_touches (new cause : Nat) (s : State) : Touches [.power, .keys, .host] [(0x2F20, 1)] s (setDevState new cause s) := by
  unfold setDevState
  dsimp only
  repeat' split
  all_goals simp

theorem changeState_touches (new cause : Nat) (s : State) : Touches [.power, .keys, .host] [(0x2F20, 1)] s (changeState new cause s) := by
  have hset : Touches [.power, .keys, .host] [(0x2F20, 1)] s (setDevState new cause (raise 0x1020 (le 1 s.dev ++ le 1 new ++ le 1 cause) s)) :=
    .trans (by simp) (setDevState_touches ..)
  unfold changeState
  dsimp only
  split
  · exact hset
  · simpa using hset

theorem parkingChanged_touches (s : State) : Touches [.power, .keys, .host] [(0x2F20, 1)] s (parkingChanged s) := by
  unfold parkingChanged
  extract_lets v
  have hv : Touches [.power, .keys, .host] [(0x2F20, 1)] s v := by simp [v]
  split
  · exact hv.trans (changeState_touches ..)
  · split
    · exact hv.trans (changeState_touches ..)
    · exact hv

theorem slicesIn_of {s u : State} (h : u.place.slices = s.place.slices) (st : Nat) : slicesIn u st = slicesIn s st := by
  simp [slicesIn, sliceState, h]

/-! ### Plans (R248) -/

/-- What the choice of streams to move leaves: where streams and slices are, and the counts of the sample. -/
structure Planned (s u : State) : Prop where
  touches : Touches [.place, .power, .keys, .host, .jobs] [(0x2420, 8), (0x2F20, 1)] s u
  placed : u.place.placed = s.place.placed
  slices : u.place.slices = s.place.slices
  counts : u.place.counts = s.place.counts
  sampledAt : u.place.sampledAt = s.place.sampledAt

namespace Planned
variable {s u v : State}

theorem refl (s : State) : Planned s s := ⟨.refl _ _ _, rfl, rfl, rfl, rfl⟩

theorem trans (h : Planned s u) (g : Planned u v) : Planned s v :=
  ⟨h.touches.trans g.touches, g.placed.trans h.placed, g.slices.trans h.slices, g.counts.trans h.counts, g.sampledAt.trans h.sampledAt⟩

theorem foldl {α : Type} {f : State → α → State} (h : ∀ s a, Planned s (f s a)) (l : List α) (s : State) : Planned s (l.foldl f s) := by
  induction l generalizing s with
  | nil => exact refl s
  | cons a l ih => exact (h s a).trans (ih _)

theorem onPlace (f : PlaceSt → PlaceSt) (hplaced : (f s.place).placed = s.place.placed) (hslices : (f s.place).slices = s.place.slices)
    (hcounts : (f s.place).counts = s.place.counts) (hat : (f s.place).sampledAt = s.place.sampledAt) : Planned s (s.onPlace f) :=
  ⟨by simp, by simpa using hplaced, by simpa using hslices, by simpa using hcounts, by simpa using hat⟩

theorem of_place (htouches : Touches [.place, .power, .keys, .host, .jobs] [(0x2420, 8), (0x2F20, 1)] s u) (hplace : u.place = s.place) : Planned s u :=
  ⟨htouches, by rw [hplace], by rw [hplace], by rw [hplace], by rw [hplace]⟩

theorem hintMissed (row reason h : Nat) (s : State) : Planned s (hintMissed row reason h s) := .of_place (by simp [Machine.hintMissed]) (by simp [Machine.hintMissed])

theorem migrate (h target : Nat) (s : State) : Planned s (migrate h target s) := onPlace _ rfl rfl rfl rfl

theorem startWaiting (s : State) : Planned s (startWaiting s) := by
  unfold Machine.startWaiting
  refine foldl (fun s h => ?_) _ s
  split
  · split
    · exact onPlace _ rfl rfl rfl rfl
    · exact refl s
  · exact onPlace _ rfl rfl rfl rfl

theorem drainSlice (k : Nat) (samples frames : Q) (s : State) : Planned s (drainSlice k samples frames s) := by
  unfold Machine.drainSlice
  extract_lets l v
  refine trans (foldl (fun s h => ?_) _ s) (startWaiting _)
  dsimp only
  split
  · exact (migrate ..).trans (foldl (fun s e => hintMissed ..) _ _)
  · exact refl s

theorem unpark (s : State) : Planned s (unpark s) := by
  unfold Machine.unpark
  dsimp only
  split
  · exact onPlace _ rfl rfl rfl rfl
  · exact (onPlace _ rfl rfl rfl rfl).trans (onPlace _ rfl rfl rfl rfl)

theorem parkingChanged (s : State) : Planned s (parkingChanged s) :=
  .of_place ((parkingChanged_touches s).mono (by simp) (by simp)) ((parkingChanged_touches s).1 .place (by simp))

theorem unparkCores (s : State) : Planned s (unparkCores s) := by
  unfold Machine.unparkCores
  split
  · exact refl s
  · exact trans (.of_place (by simp) (by simp)) (parkingChanged _)

end Planned

/-! ### The sample (R247) -/

section sample
variable {s : State}

/-- What a sample shows of one slice: its rates, its utilisation, and how often in succession that was too high. -/
def showRates (high : Q) (s : State) (e : Nat × Nat × Nat) : State :=
  let util := utilisation (Q.ofNat e.2.1) (Q.ofNat e.2.2)
  let s := (s.setRow 0x2410 0x02 e.1 e.2.1).setRow 0x2410 0x04 e.1 e.2.2
  let s := s.setRow 0x2410 0x06 e.1 (Nat.min 65535 (Q.floor (Q.mul util (Q.ofNat 10000))).toNat)
  let n := if Q.lt high util then tabGet 0 s.place.exceeds e.1 + 1 else 0
  s.onPlace fun p => { p with exceeds := if n = 0 then delKey e.1 p.exceeds else putKey e.1 n p.exceeds }

/-- The rows of 0x2410:02 and 0x2410:04 of the other slices. -/
def OtherRates (k : Nat) (s u : State) : Prop :=
  ∀ j, j < 68 → j ≠ k → u.ro 0x2410 0x02 j = s.ro 0x2410 0x02 j ∧ u.ro 0x2410 0x04 j = s.ro 0x2410 0x04 j

theorem showRates_leaves (high : Q) (s : State) (e : Nat × Nat × Nat) (he : e.1 < 68) :
    (showRates high s e).ro 0x2410 0x02 e.1 = e.2.1 ∧ (showRates high s e).ro 0x2410 0x04 e.1 = e.2.2 ∧ OtherRates e.1 s (showRates high s e) ∧
    (showRates high s e).place.placed = s.place.placed ∧ (showRates high s e).place.slices = s.place.slices ∧
    Touches [.place] [(0x2410, 2), (0x2410, 4), (0x2410, 6)] s (showRates high s e) := by
  have hrow : e.1 < 0x1000000 := Nat.lt_trans he (by decide)
  unfold showRates
  extract_lets util s1 s2 n
  refine ⟨by simp [s2, s1, hrow], by simp [s2, s1, hrow], fun j hj hne => ?_, by simp [s2, s1], by simp [s2, s1], by simp [s2, s1, hrow]⟩
  have hj' : j < 0x1000000 := Nat.lt_trans hj (by decide)
  have hother (i k n : Nat) (v : State) : (v.setRow i k e.1 n).ro i k j = v.ro i k j := ro_setRow_ne v (by unfold okey; omega)
  exact ⟨by simp [s2, s1, hrow, hj', hother], by simp [s2, s1, hrow, hj', hother]⟩

/-- The rates shown of slices that differ. -/
theorem ratesShown_leaves (high : Q) (l : List (Nat × Nat × Nat)) (hl : ∀ e ∈ l, e.1 < 68) (hdistinct : (l.map (·.1)).Nodup) (s : State) :
    (∀ e ∈ l, (l.foldl (showRates high) s).ro 0x2410 0x02 e.1 = e.2.1 ∧ (l.foldl (showRates high) s).ro 0x2410 0x04 e.1 = e.2.2) ∧
    (∀ j, j < 68 → j ∉ l.map (·.1) → (l.foldl (showRates high) s).ro 0x2410 0x02 j = s.ro 0x2410 0x02 j ∧
      (l.foldl (showRates high) s).ro 0x2410 0x04 j = s.ro 0x2410 0x04 j) ∧
    (l.foldl (showRates high) s).place.placed = s.place.placed ∧ (l.foldl (showRates high) s).place.slices = s.place.slices ∧
    Touches [.place] [(0x2410, 2), (0x2410, 4), (0x2410, 6)] s (l.foldl (showRates high) s) := by
  induction l generalizing s with
  | nil => simp
  | cons e l ih =>
    obtain ⟨hnew, hdistinct⟩ := List.nodup_cons.mp hdistinct
    have he := hl e (by simp)
    obtain ⟨hsamples, hframes, hothers, hplaced, hslices, htouches⟩ := showRates_leaves high s e he
    obtain ⟨hshown, hrest, hplaced', hslices', htouches'⟩ := ih (fun x hx => hl x (by simp [hx])) hdistinct (showRates high s e)
    rw [List.foldl_cons]
    refine ⟨fun x hx => ?_, fun j hj hnot => ?_, hplaced'.trans hplaced, hslices'.trans hslices, htouches.trans htouches'⟩
    · obtain rfl | hx := List.mem_cons.mp hx
      · obtain ⟨h2, h4⟩ := hrest x.1 he hnew
        exact ⟨h2.trans hsamples, h4.trans hframes⟩
      · exact hshown x hx
    · rw [List.map_cons] at hnot
      have hne : j ≠ e.1 := List.ne_of_not_mem_cons hnot
      have hnot := List.not_mem_of_not_mem_cons hnot
      obtain ⟨h2, h4⟩ := hothers j hj hne
      obtain ⟨h2', h4'⟩ := hrest j hj hnot
      exact ⟨h2'.trans h2, h4'.trans h4⟩

/-- The rates of every slice since the last sample. -/
def sliceRates (elapsed : Nat) (s : State) : List (Nat × Nat × Nat) :=
  (List.range 68).map fun k =>
    let c := tabGet (0, 0) s.place.counts k
    (k, c.1 * sec 1 / elapsed, c.2 * sec 1 / elapsed)

theorem sliceRates_keys (elapsed : Nat) (s : State) : (sliceRates elapsed s).map (·.1) = List.range 68 := by
  unfold sliceRates
  rw [List.map_map]
  exact List.map_id _

/-- The load of the cores shown, before the counts begin again. -/
def busyShown (s : State) : State :=
  (List.range 16).foldl (fun s c =>
    let run : Nat := match (runningOn s c).bind fun j => (s.job j).run with
      | some d => s.now - Nat.max d.since s.jobs.busyFrom
      | none => 0
    s.setRow 0x2C11 0x03 c (Nat.min 10000 ((tabGet 0 s.jobs.busy c + run) * 10000 / ms 100))) s

theorem busySample_eq (s : State) : busySample s = (busyShown s).onJobs fun a => { a with busy := [], busyFrom := (busyShown s).now } := rfl

theorem busyShown_touches (s : State) : Touches [] [(0x2C11, 3)] s (busyShown s) :=
  (touches_foldl fun u c hc => by
    have hrow : c < 0x1000000 := Nat.lt_trans (List.mem_range.mp hc) (by decide)
    simp [hrow]).mpr (.refl _ _ _)

theorem busySample_leaves (s : State) : (busySample s).place = s.place ∧ (busySample s).jobs.parked = s.jobs.parked ∧
    Touches [.jobs] [(0x2C11, 3)] s (busySample s) := by
  have hshown := busyShown_touches s
  rw [busySample_eq]
  generalize busyShown s = v at *
  have hplace : v.place = s.place := hshown.1 .place (by simp)
  have hjobs : v.jobs = s.jobs := hshown.1 .jobs (by simp)
  exact ⟨by simpa using hplace, by simp [hjobs], by simpa using hshown.mono (by simp) (by simp)⟩

theorem utilisationSample_early (h : s.running = false ∨ s.now < s.place.sampledAt + ms 100) : utilisationSample s = s := by
  unfold utilisationSample
  extract_lets elapsed
  rw [if_pos]
  obtain h | h := h
  · simp [h]
  · have hshort : elapsed < ms 100 := by
      have hpos : 0 < ms 100 := by decide
      unfold elapsed
      generalize ms 100 = d at *
      omega
    simp [hshort]

/-- The rates shown, after which the counts begin again. -/
def ratesShown (elapsed : Nat) (s : State) : State :=
  let v := (sliceRates elapsed s).foldl (showRates (bp (s.cfg 0x2400 0x02))) s
  v.onPlace fun p => { p with counts := [], sampledAt := v.now }

theorem ratesShown_writes (elapsed : Nat) (s : State) :
    (∀ k ∈ List.range 68, (ratesShown elapsed s).ro 0x2410 0x02 k = (tabGet (0, 0) s.place.counts k).1 * sec 1 / elapsed ∧
      (ratesShown elapsed s).ro 0x2410 0x04 k = (tabGet (0, 0) s.place.counts k).2 * sec 1 / elapsed) ∧
    (ratesShown elapsed s).place.counts = [] ∧ (ratesShown elapsed s).place.sampledAt = s.now ∧ (ratesShown elapsed s).place.placed = s.place.placed ∧
    (ratesShown elapsed s).place.slices = s.place.slices ∧ Touches [.place] [(0x2410, 2), (0x2410, 4), (0x2410, 6)] s (ratesShown elapsed s) := by
  have hsmall : ∀ e ∈ sliceRates elapsed s, e.1 < 68 := fun e he => by
    have hkey : e.1 ∈ (sliceRates elapsed s).map (·.1) := List.mem_map_of_mem he
    rwa [sliceRates_keys, List.mem_range] at hkey
  obtain ⟨hshown, -, hplaced, hslices, htouches⟩ := ratesShown_leaves (bp (s.cfg 0x2400 0x02)) (sliceRates elapsed s) hsmall
    (by rw [sliceRates_keys]; exact List.nodup_range) s
  unfold ratesShown
  extract_lets v
  have hv : (∀ e ∈ sliceRates elapsed s, v.ro 0x2410 0x02 e.1 = e.2.1 ∧ v.ro 0x2410 0x04 e.1 = e.2.2) ∧ v.place.placed = s.place.placed ∧
    v.place.slices = s.place.slices ∧ Touches [.place] [(0x2410, 2), (0x2410, 4), (0x2410, 6)] s v := ⟨hshown, hplaced, hslices, htouches⟩
  clear_value v
  obtain ⟨hshown, hplaced, hslices, htouches⟩ := hv
  refine ⟨fun k hk => ?_, by simp, by simpa using htouches.2.2, by simp [hplaced], by simp [hslices], by simpa using htouches⟩
  simpa using hshown (k, _, _) (List.mem_map_of_mem hk)

/-- What follows the rates: parked slices and cores that are needed again, streams to move, and the delays of parking. -/
def afterRates (rates : List (Nat × Nat × Nat)) (high : Q) (s : State) : State :=
  let util := fun (e : Nat × Nat × Nat) => utilisation (Q.ofNat e.2.1) (Q.ofNat e.2.2)
  let s := if (rates.any fun e => Q.lt high (util e)) && !(slicesIn s 2).isEmpty then unpark s else s
  let s := if s.cfgB 0x2400 0x01 then
      (rates.filter fun e => tabGet 0 s.place.exceeds e.1 ≥ 3).foldl (fun s e =>
        drainSlice e.1 (Q.ofNat e.2.1) (Q.ofNat e.2.2) (s.onPlace fun p => { p with exceeds := delKey e.1 p.exceeds })) s
    else s
  let active := rates.filter fun e => sliceState s e.1 == 0
  let park := bp (s.cfg 0x2400 0x06)
  let mean := fun (l : List Q) => Q.div (Q.sum l) (Q.ofNat (Nat.max 1 l.length))
  let low := s.cfgB 0x2400 0x05 && Q.lt (mean (active.map util)) park
  let cores := (List.range 16).filter fun c => !s.jobs.parked.contains c
  let busy := cores.map fun c => bp (s.ro 0x2C11 0x03 c)
  let coreLow := s.cfgB 0x2400 0x05 && Q.lt (mean busy) park
  let since := fun (on : Bool) (o : Option Nat) => if !on then none else match o with | some a => some a | none => some s.now
  let s := s.onPlace fun p => { p with lowSince := since low p.lowSince, coreLowSince := since coreLow p.coreLowSince }
  if busy.any fun b => Q.lt high b then unparkCores s else s

theorem utilisationSample_due (hrun : s.running = true) (hdue : s.place.sampledAt + ms 100 ≤ s.now) :
    utilisationSample s = afterRates (sliceRates (s.now - s.place.sampledAt) (busySample s)) (bp ((busySample s).cfg 0x2400 0x02))
      (ratesShown (s.now - s.place.sampledAt) (busySample s)) := by
  have hlong : ¬s.now - s.place.sampledAt < ms 100 := Nat.not_lt.mpr (Nat.le_sub_of_add_le' hdue)
  unfold utilisationSample
  rw [if_neg (by simp [hrun, hlong])]
  generalize busySample s = v
  rfl

theorem afterRates_planned (rates : List (Nat × Nat × Nat)) (high : Q) (s : State) : Planned s (afterRates rates high s) := by
  unfold afterRates
  extract_lets util s4 s5 active park mean low cores busy coreLow since s6
  have h4 : Planned s s4 := by
    unfold s4
    split
    · exact .unpark s
    · exact .refl s
  have h5 : Planned s4 s5 := by
    unfold s5
    split
    · exact .foldl (fun u e => (Planned.onPlace _ rfl rfl rfl rfl).trans (.drainSlice ..)) _ _
    · exact .refl s4
  have h6 : Planned s5 s6 := .onPlace _ rfl rfl rfl rfl
  split
  · exact ((h4.trans h5).trans h6).trans (.unparkCores s6)
  · exact (h4.trans h5).trans h6

/-- With automatic rebalancing off and nothing parked, only the delays of parking begin or end. -/
theorem afterRates_quiet (rates : List (Nat × Nat × Nat)) (high : Q) (hoff : s.cfgB 0x2400 0x01 = false) (hslices : slicesIn s 2 = [])
    (hcores : s.jobs.parked = []) : Touches [.place] [] s (afterRates rates high s) := by
  unfold afterRates
  extract_lets util s4 s5 active park mean low cores busy coreLow since s6
  have h4 : s4 = s := if_neg (by simp [hslices])
  have h5 : s5 = s := by
    unfold s5
    rw [h4]
    exact if_neg (by simp [hoff])
  have h6 : unparkCores s6 = s6 := by
    unfold unparkCores
    exact if_pos (by simp [s6, h5, hcores])
  rw [h6, ite_self]
  have hs5 : Touches [.place] [] s s5 := by
    rw [h5]
    exact .refl _ _ _
  simpa [s6] using hs5

theorem utilisationSample_shows (hrun : s.running = true) (hdue : s.place.sampledAt + ms 100 ≤ s.now) :
    (∀ k ∈ List.range 68,
      (utilisationSample s).ro 0x2410 0x02 k = (tabGet (0, 0) s.place.counts k).1 * sec 1 / (s.now - s.place.sampledAt) ∧
      (utilisationSample s).ro 0x2410 0x04 k = (tabGet (0, 0) s.place.counts k).2 * sec 1 / (s.now - s.place.sampledAt)) ∧
    (utilisationSample s).place.counts = [] ∧ (utilisationSample s).place.sampledAt = s.now ∧ (utilisationSample s).place.placed = s.place.placed := by
  obtain ⟨hplace, -, hbusy⟩ := busySample_leaves s
  obtain ⟨hshown, hcounts, hat, hplaced, -, -⟩ := ratesShown_writes (s.now - s.place.sampledAt) (busySample s)
  rw [utilisationSample_due hrun hdue]
  have hplan := afterRates_planned (sliceRates (s.now - s.place.sampledAt) (busySample s)) (bp ((busySample s).cfg 0x2400 0x02))
    (ratesShown (s.now - s.place.sampledAt) (busySample s))
  refine ⟨fun k hk => ?_, hplan.counts.trans hcounts, (hplan.sampledAt.trans hat).trans hbusy.2.2, (hplan.placed.trans hplaced).trans (by rw [hplace])⟩
  have hrow : k < 0x1000000 := Nat.lt_trans (List.mem_range.mp hk) (by decide)
  have hkept (j : Nat) (hj : j < 5) : (afterRates (sliceRates (s.now - s.place.sampledAt) (busySample s)) (bp ((busySample s).cfg 0x2400 0x02))
      (ratesShown (s.now - s.place.sampledAt) (busySample s))).ro 0x2410 j k = (ratesShown (s.now - s.place.sampledAt) (busySample s)).ro 0x2410 j k :=
    hplan.touches.ro (by omega) hrow (by simp) (by decide)
  rw [hkept 2 (by decide), hkept 4 (by decide)]
  rw [hplace] at hshown
  exact hshown k hk

/-- With automatic rebalancing off and nothing parked, a sample touches placement, the load of the cores and their objects. -/
theorem utilisationSample_quiet (hoff : s.cfgB 0x2400 0x01 = false) (hslices : slicesIn s 2 = []) (hcores : s.jobs.parked = []) :
    Touches [.place, .jobs] [(0x2410, 0x02), (0x2410, 0x04), (0x2410, 0x06), (0x2C11, 0x03)] s (utilisationSample s) := by
  by_cases hdue : s.running = true ∧ s.place.sampledAt + ms 100 ≤ s.now
  · obtain ⟨hplace, hparked, hbusy⟩ := busySample_leaves s
    obtain ⟨-, -, -, -, hkept, hrates⟩ := ratesShown_writes (s.now - s.place.sampledAt) (busySample s)
    have htouches := (hbusy.mono (ps' := [.place, .jobs]) (os' := [(0x2410, 0x02), (0x2410, 0x04), (0x2410, 0x06), (0x2C11, 0x03)]) (by simp) (by simp)).trans
      (hrates.mono (by simp) (by simp))
    rw [utilisationSample_due hdue.1 hdue.2]
    generalize sliceRates .. = rates
    generalize bp _ = high
    generalize ratesShown .. = v at *
    have hjobs : v.jobs = (busySample s).jobs := hrates.1 .jobs (by simp)
    refine htouches.trans ((afterRates_quiet _ _ ?_ ?_ ?_).mono (by simp) (by simp))
    · rw [State.cfgB, htouches.cfg (by simp)]
      exact hoff
    · have hsame : v.place.slices = s.place.slices := hkept.trans (congrArg PlaceSt.slices hplace)
      rwa [slicesIn_of hsame]
    · rw [hjobs, hparked, hcores]
  · rw [utilisationSample_early]
    · exact .refl _ _ _
    · rw [Classical.not_and_iff_not_or_not] at hdue
      simpa using hdue

end sample

/-! ### Rebalance now (R265) -/

section commands
variable {s : State}

theorem rebalanceNow_plans (h : s.running = true) : Planned s (rebalanceNow s).1 ∧ (rebalanceNow s).2 = 0 := by
  unfold rebalanceNow
  rw [if_neg (by simp [h])]
  exact ⟨.foldl (fun s k => .drainSlice ..) _ s, rfl⟩

theorem rebalanceNow_refused (h : s.running = false) : rebalanceNow s = (s, 0x06) := by simp [rebalanceNow, h]

/-! ### Parking (R257) -/

theorem sliceState_setSlice (k st j : Nat) (s : State) : sliceState (setSlice k st s) j = if j = k then st else sliceState s j := by
  have hplace : (setSlice k st s).place.slices = putKey k st s.place.slices := by simp [setSlice, showSlice]
  unfold sliceState
  rw [hplace]
  split
  next h => rw [h, tabGet_putKey_self]
  next h => rw [tabGet_putKey_ne h]

theorem mem_slicesIn {st k : Nat} : k ∈ slicesIn s st ↔ k < 68 ∧ sliceState s k = st := by simp [slicesIn]

/-- Whether more than the slice itself stays, where no stream is placed. -/
theorem planEmpty_unplaced (hplaced : s.place.placed = []) (k : Nat) :
    planEmpty k s = if ((slicesIn s 0).filter fun x => !(k :: s.place.draining).contains x).isEmpty then none
      else some (s.onPlace fun p => { p with draining := k :: p.draining }) := by
  have hslices : slicesIn (s.onPlace fun p => { p with draining := k :: p.draining }) 0 = slicesIn s 0 := slicesIn_of rfl 0
  unfold planEmpty
  extract_lets low s1 moved
  have hmoved : moved = some s1 := by simp [moved, s1, plannedOn, hplaced]
  rw [hmoved, hslices]
  rfl

/-- Of the slices below a number, the ACTIVE ones but the lowest are to be emptied, where those above it are already. -/
theorem parkSlices_drains {k0 : Nat} (n : Nat) (s : State) (hplaced : s.place.placed = []) (hn : n ≤ 68) (hlow : sliceState s k0 = 0) (hk0 : k0 < n)
    (hleast : ∀ j, j < 68 → sliceState s j = 0 → k0 ≤ j) (hdrained : ∀ j, j ∈ s.place.draining ↔ n ≤ j ∧ j < 68 ∧ sliceState s j = 0) :
    ∃ d, parkSlices (List.range n).reverse s = s.onPlace (fun p => { p with draining := d }) ∧
      ∀ j, j ∈ d ↔ j ≠ k0 ∧ j < 68 ∧ sliceState s j = 0 := by
  induction n generalizing s with
  | zero => omega
  | succ n ih =>
    rw [List.range_succ, List.reverse_append, List.reverse_singleton, List.singleton_append, parkSlices]
    by_cases hactive : sliceState s n = 0
    · rw [if_neg (by simpa using hactive), planEmpty_unplaced hplaced]
      by_cases hlast : n = k0
      · subst hlast
        rw [if_pos]
        · refine ⟨s.place.draining, rfl, fun j => ?_⟩
          rw [hdrained]
          refine ⟨fun ⟨h, h'⟩ => ⟨by omega, h'⟩, fun ⟨h, h'⟩ => ⟨?_, h'⟩⟩
          have := hleast j h'.1 h'.2
          omega
        · simp only [List.isEmpty_iff, List.filter_eq_nil_iff]
          intro j hj
          obtain ⟨hj, hstate⟩ := mem_slicesIn.mp hj
          have := hleast j hj hstate
          by_cases heq : j = n
          · simp [heq]
          · simp [(hdrained j).mpr ⟨by omega, hj, hstate⟩]
      · rw [if_neg]
        · have hsame (j : Nat) : sliceState (s.onPlace fun p => { p with draining := n :: p.draining }) j = sliceState s j := rfl
          obtain ⟨d, hd, hmem⟩ := ih (s.onPlace fun p => { p with draining := n :: p.draining }) (by simpa using hplaced) (by omega) hlow (by omega) hleast (by
            intro j
            rw [hsame]
            simp only [State.onPlace_frame, List.mem_cons, hdrained]
            constructor
            · rintro (rfl | ⟨h, h'⟩)
              · exact ⟨Nat.le_refl _, by omega, hactive⟩
              · exact ⟨by omega, h'⟩
            · rintro ⟨h, h'⟩
              by_cases heq : j = n
              · exact .inl heq
              · exact .inr ⟨by omega, h'⟩)
          exact ⟨d, hd, hmem⟩
        · simp only [List.isEmpty_iff, List.filter_eq_nil_iff, Classical.not_forall]
          refine ⟨k0, mem_slicesIn.mpr ⟨by omega, hlow⟩, ?_⟩
          have hnot : k0 ∉ s.place.draining := fun h => by
            have := ((hdrained k0).mp h).1
            omega
          simp [hnot, Ne.symm hlast]
    · rw [if_pos hactive]
      have hne : k0 ≠ n := by
        rintro rfl
        exact hactive hlow
      refine ih s hplaced (by omega) hlow (by omega) hleast fun j => ?_
      rw [hdrained]
      refine ⟨fun ⟨h, h'⟩ => ⟨by omega, h'⟩, fun ⟨h, h'⟩ => ⟨?_, h'⟩⟩
      have hjn : j ≠ n := by
        rintro rfl
        exact hactive h'.2
      omega

/-- Slices emptied become PARKED, and no other slice changes. -/
theorem sliceState_park (l : List Nat) (j : Nat) (s : State) :
    sliceState (l.foldl (fun s k => if sliceState s k = 0 then setSlice k 2 s else s) s) j = if j ∈ l ∧ sliceState s j = 0 then 2 else sliceState s j := by
  induction l generalizing s with
  | nil => simp
  | cons k l ih =>
    rw [List.foldl_cons, ih]
    by_cases hk : sliceState s k = 0
    · rw [if_pos hk, sliceState_setSlice]
      by_cases hj : j = k <;> simp [hj, hk]
    · rw [if_neg hk]
      by_cases hj : j = k <;> simp [hj, hk]

theorem sliceState_of {u : State} (h : u.place.slices = s.place.slices) (k : Nat) : sliceState u k = sliceState s k := by simp [sliceState, h]

theorem nil_of_plannedOn_unplaced (h : s.place.placed = []) (k : Nat) : plannedOn s k = [] := by simp [plannedOn, h]

/-- Where no stream is placed, every slice to be emptied that is ACTIVE becomes PARKED. -/
theorem sliceState_parkEmpty (hplaced : s.place.placed = []) (j : Nat) :
    sliceState (parkEmpty s) j = if j ∈ s.place.draining ∧ sliceState s j = 0 then 2 else sliceState s j := by
  unfold parkEmpty
  extract_lets done v
  have hdone : done = s.place.draining := by simp [done, hplaced, nil_of_plannedOn_unplaced hplaced]
  have hv (k : Nat) : sliceState v k = sliceState s k := rfl
  rw [hdone]
  split
  next hnil => simp [List.isEmpty_iff.mp hnil]
  next => rw [sliceState_of (Planned.parkingChanged _).slices, sliceState_park, hv]

/-- The first of the slices in a state is the lowest. -/
theorem least_of_slicesIn_head {st k : Nat} (h : (slicesIn s st).head? = some k) : k < 68 ∧ sliceState s k = st ∧ ∀ j, j < 68 → sliceState s j = st → k ≤ j := by
  have hk := mem_slicesIn.mp (List.mem_of_head? h)
  refine ⟨hk.1, hk.2, fun j hj hst => ?_⟩
  have hsorted : (slicesIn s st).Pairwise (· < ·) := List.pairwise_lt_range.filter _
  have hmem : j ∈ slicesIn s st := mem_slicesIn.mpr ⟨hj, hst⟩
  obtain ⟨rest, hrest⟩ := List.head?_eq_some_iff.mp h
  rw [hrest] at hmem hsorted
  obtain rfl | hmem := List.mem_cons.mp hmem
  · exact Nat.le_refl _
  · exact Nat.le_of_lt (List.rel_of_pairwise_cons hsorted hmem)

theorem slicesIn_singleton {st k : Nat} (hk : k < 68) (h : ∀ j, j < 68 → (sliceState s j = st ↔ j = k)) : slicesIn s st = [k] := by
  have hfilter : slicesIn s st = (List.range 68).filter (· == k) := List.filter_congr fun j hj => by
    rw [Bool.eq_iff_iff, beq_iff_eq, beq_iff_eq]
    exact h j (List.mem_range.mp hj)
  rw [hfilter, List.filter_beq, List.nodup_range.count, if_pos (List.mem_range.mpr hk), List.replicate_one]

theorem startWaiting_nil (h : s.place.waiting = []) : startWaiting s = s := by
  simp [startWaiting, h, sortNat, sortBy]

theorem parkDelay_off (h : s.cfgB 0x2400 0x05 = false) : parkDelay s = s := if_pos (by simp [h])

/-- When the delay has passed with no stream placed, only the lowest ACTIVE slice stays ACTIVE. -/
theorem parkDelay_keepsOne {a k : Nat} (hrun : s.running = true) (hon : s.cfgB 0x2400 0x05 = true) (hlow : s.place.lowSince = some a)
    (hdue : a + sec (s.cfg 0x2400 0x07) ≤ s.now) (hcores : s.place.coreLowSince = none) (hunparking : s.place.unparking = false)
    (hdraining : s.place.draining = []) (hplaced : s.place.placed = []) (hwaiting : s.place.waiting = []) (hhead : (slicesIn s 0).head? = some k) :
    slicesIn (parkDelay s) 0 = [k] := by
  obtain ⟨hk, hactive, hleast⟩ := least_of_slicesIn_head hhead
  obtain ⟨d, hpark, hd⟩ := parkSlices_drains 68 (s.onPlace fun p => { p with lowSince := some s.now }) (by simpa using hplaced) (Nat.le_refl _) hactive hk hleast
    (fun j => by simp only [State.onPlace_frame, hdraining, List.not_mem_nil, false_iff]; omega)
  have horder : ((List.range 68).map fun i => 67 - i) = (List.range 68).reverse := by decide
  unfold parkDelay
  rw [if_neg (by simp [hrun, hon])]
  simp only [hlow, hcores, hunparking, hdue, horder, hpark, decide_true, Bool.not_false, Bool.and_self, if_true, Bool.false_eq_true, if_false]
  rw [startWaiting_nil (by simpa using hwaiting)]
  refine slicesIn_singleton hk fun j hj => ?_
  rw [sliceState_parkEmpty (by simpa using hplaced)]
  have hsame : sliceState ((s.onPlace fun p => { p with lowSince := some s.now }).onPlace fun p => { p with draining := d }) j = sliceState s j := rfl
  have hsame' : sliceState (s.onPlace fun p => { p with lowSince := some s.now }) j = sliceState s j := rfl
  rw [hsame]
  have hmem := hd j
  rw [hsame'] at hmem
  by_cases hjk : j = k
  · subst hjk
    simp [hmem, hactive]
  · by_cases hz : sliceState s j = 0 <;> simp [hmem, hjk, hj, hz]

/-! ### Unparking (R258) -/

theorem unparkingEnd_idle (h : s.place.unparking = false) : unparkingEnd s = s := if_pos (by simp [h])

theorem sliceState_activate (l : List Nat) (j : Nat) (s : State) :
    sliceState (l.foldl (fun s k => setSlice k 0 s) s) j = if j ∈ l then 0 else sliceState s j := by
  induction l generalizing s with
  | nil => simp
  | cons k l ih =>
    rw [List.foldl_cons, ih, sliceState_setSlice]
    by_cases hj : j = k <;> simp [hj]

theorem unparking_activate (l : List Nat) (s : State) : (l.foldl (fun s k => setSlice k 0 s) s).place.unparking = s.place.unparking := by
  induction l generalizing s with
  | nil => rfl
  | cons k l ih =>
    rw [List.foldl_cons, ih]
    simp [setSlice, showSlice]

/-- The states of the slices are kept, and unparking is not begun where none is PARKED. -/
structure SlicesKept (s u : State) : Prop where
  slices : u.place.slices = s.place.slices
  unparking : u.place.unparking = s.place.unparking

namespace SlicesKept
variable {s u v : State}

theorem refl (s : State) : SlicesKept s s := ⟨rfl, rfl⟩

theorem trans (h : SlicesKept s u) (g : SlicesKept u v) : SlicesKept s v := ⟨g.slices.trans h.slices, g.unparking.trans h.unparking⟩

theorem of_place (h : u.place = s.place) : SlicesKept s u := ⟨by rw [h], by rw [h]⟩

theorem foldl {α : Type} {f : State → α → State} (h : ∀ s a, SlicesKept s (f s a)) (l : List α) (s : State) : SlicesKept s (l.foldl f s) := by
  induction l generalizing s with
  | nil => exact refl s
  | cons a l ih => exact (h s a).trans (ih _)

theorem showPlaced (h : Nat) (s : State) : SlicesKept s (showPlaced h s) := by
  unfold Machine.showPlaced
  dsimp only
  refine trans ?_ (foldl (fun s k => of_place (by simp)) _ _)
  split <;> exact of_place (by simp)

theorem putOn (h k : Nat) (s : State) : SlicesKept s (putOn h k s) := by
  unfold Machine.putOn
  exact trans (u := s.onPlace _) ⟨rfl, rfl⟩ (showPlaced ..)

theorem hintMissed (row reason h : Nat) (s : State) : SlicesKept s (hintMissed row reason h s) := of_place (by simp [Machine.hintMissed])

theorem placeLane (h : Nat) (set : List Nat) (s : State) : SlicesKept s (placeLane h set s) := by
  unfold Machine.placeLane
  dsimp only
  repeat' split
  all_goals first | exact refl s | exact ⟨rfl, rfl⟩

theorem unpark (h : slicesIn s 2 = []) : SlicesKept s (unpark s) := by
  unfold Machine.unpark
  dsimp only
  rw [if_pos]
  · exact ⟨rfl, rfl⟩
  · rw [List.isEmpty_iff]
    exact h

theorem placeOne (set : List Nat) (k : Nat) (h : slicesIn s 2 = []) : SlicesKept s (placeOne set k s) := by
  unfold Machine.placeOne
  split
  · exact ((putOn ..).trans (foldl (fun s e => hintMissed ..) _ _)).trans (placeLane ..)
  · exact unpark h

theorem placeStreams (l : List Nat) (h : slicesIn s 2 = []) : SlicesKept s (placeStreams l s) := by
  unfold Machine.placeStreams
  generalize placementOrder s _ = order
  induction order generalizing s with
  | nil => exact refl s
  | cons e order ih =>
    have hone := placeOne (s := s) e.2 e.1 h
    exact hone.trans (ih (by rwa [slicesIn_of hone.slices]))

end SlicesKept

theorem unparkingEnd_activates (h : s.place.unparking = true) :
    (unparkingEnd s).place.unparking = false ∧ slicesIn (unparkingEnd s) 2 = [] ∧ ∀ k ∈ slicesIn s 2, sliceState (unparkingEnd s) k = 0 := by
  unfold unparkingEnd
  rw [if_neg (by simp [h])]
  extract_lets v
  have hstate (j : Nat) : sliceState v j = if j ∈ slicesIn s 2 then 0 else sliceState s j := sliceState_activate ..
  have hunparking : v.place.unparking = false := unparking_activate ..
  have hnone : slicesIn v 2 = [] := by
    refine List.filter_eq_nil_iff.mpr fun j hj => ?_
    rw [hstate]
    split
    · simp
    next hnot =>
      have := mem_slicesIn (s := s) (st := 2) (k := j)
      simp_all
  clear_value v
  have hkept := (SlicesKept.placeStreams ((v.ingest.streams.map (·.1)).filter (admitted v)) hnone).trans (.of_place ((parkingChanged_touches _).1 .place (by simp)))
  refine ⟨hkept.unparking.trans hunparking, by rw [slicesIn_of hkept.slices, hnone], fun k hk => ?_⟩
  rw [sliceState_of hkept.slices, hstate, if_pos hk]

end commands

/-! ### The obligation -/

/-- Settles O21: the parts are kept by lemmas about plans (`Planned`), and what parking and unparking do is said slice by slice. -/
theorem loadsAreMeasuredAndSlicesParked : Obligations.LoadsAreMeasuredAndSlicesParked := by
  unfold Obligations.LoadsAreMeasuredAndSlicesParked
  refine ⟨?sample, ?quiet, ?early, ?rebalance, ?rebalanceNot, ?park, ?parkOff, ?unparked, ?unparkNot, ?restore⟩
  case sample =>
    intro t s hrun hdue
    refine .of (f := utilisationSample) rfl ?_
    obtain ⟨hshown, hcounts, hat, hplaced⟩ := utilisationSample_shows (s := s.advance t) (by simpa using hrun) (by simpa using hdue)
    refine ⟨fun k hk => ?_, by simpa using hcounts, by simpa using hat, by simpa using hplaced⟩
    have hrow : k < 0x1000000 := Nat.lt_trans (List.mem_range.mp hk) (by decide)
    simpa [hrow] using hshown k hk
  case quiet =>
    intro t s hrun hoff hslices hcores
    exact .of (f := utilisationSample) rfl (utilisationSample_quiet (by simpa [State.cfgB] using hoff) (by rwa [slicesIn_of (s := s) (by simp)]) (by simpa using hcores)).settle
  case early =>
    intro t s hearly
    exact .unchanged (f := utilisationSample) rfl (utilisationSample_early (.inr (by simpa using hearly)))
  case rebalance =>
    intro t who s hacc hrun
    refine .of (f := runPlain 0x2430 0x02 who rebalanceNow) rfl ?_
    obtain ⟨hplan, hstatus⟩ := rebalanceNow_plans (s := s.advance t) (by simpa using hrun)
    rw [runPlain_accepted hacc, hstatus]
    have hgroups : (rebalanceNow (s.advance t)).1.groups = (s.advance t).groups := hplan.touches.1 .groups (by simp)
    exact ⟨answered_settle .., by simpa using hplan.placed, by simpa using hplan.slices, by simpa using hgroups⟩
  case rebalanceNot =>
    intro t who s hacc hrun
    refine .of (f := runPlain 0x2430 0x02 who rebalanceNow) rfl ?_
    rw [runPlain_accepted hacc, rebalanceNow_refused (s := s.advance t) (by simpa using hrun)]
    exact ⟨answered_settle .., by simp⟩
  case park =>
    intro t a k s hrun hon hlow hdue hcores hunparking hdraining hplaced hmigrations hwaiting hhead
    refine .of (f := parkDelay) rfl ?_
    rw [slicesIn_of (s := parkDelay (s.advance t)) (by simp)]
    exact parkDelay_keepsOne (by simpa using hrun) (by simpa [State.cfgB] using hon) (by simpa using hlow) (by simpa using hdue) (by simpa using hcores)
      (by simpa using hunparking) (by simpa using hdraining) (by simpa using hplaced) (by simpa using hwaiting)
      (by rwa [slicesIn_of (s := s) (by simp)])
  case parkOff =>
    intro t s hoff
    exact .unchanged (f := parkDelay) rfl (parkDelay_off (by simpa [State.cfgB] using hoff))
  case unparked =>
    intro t s h
    refine .of (f := unparkingEnd) rfl ?_
    obtain ⟨hunparking, hnone, hactive⟩ := unparkingEnd_activates (s := s.advance t) (by simpa using h)
    rw [slicesIn_of (s := s) (by simp)] at hactive
    refine ⟨by simpa using hunparking, by rwa [slicesIn_of (s := unparkingEnd (s.advance t)) (by simp)], fun k hk => ?_⟩
    rw [sliceState_of (s := unparkingEnd (s.advance t)) (by simp)]
    exact hactive k hk
  case unparkNot =>
    intro t s h
    exact .unchanged (f := unparkingEnd) rfl (unparkingEnd_idle (by simpa using h))
  case restore =>
    intro t who s hacc
    refine .of (f := runPlain 0x2430 0x03 who (ok fun s => s.onPlace fun p => { p with restoreRetired := true })) rfl ?_
    rw [runPlain_accepted hacc]
    exact ⟨answered_settle .., by simp [ok], by simp [ok], by simp [ok]⟩

end Sys2Proof.Machine
end

section
/-! The mode meter's refresh and reset, and the location of forced oscillations (R286–R303). -/

namespace Sys2Proof.Machine
open Sys2Proof

theorem readIn_delKey_ne {d : Dict} {i j r a b c : Nat} (h : okey a b c ≠ okey i j r) : readIn (delKey (okey i j r) d) a b c = readIn d a b c := by
  simp [readIn, lookup_delKey_ne h]

@[simp] theorem touches_clearRow {ps : List Part} {os : List (Nat × Nat)} {s u : State} {i j r : Nat} (m : (i, j) ∈ os) (hj : j < 256) (hr : r < 0x1000000) :
    Touches ps os s (u.clearRow i j r) ↔ Touches ps os s u :=
  Touches.iff_of (.of_parts (fun p _ => by cases p <;> simp [Part.same, State.clearRow])
    (fun a b c hb hc hne _ _ => readIn_delKey_ne (okey_ne (fun h => hne (h ▸ m)) hj hr hb hc)) rfl)

/-! ### A refresh published -/

section publish
variable {s : State}

/-- A row of 0x2512 and 0x2514 shows a mode, or none. -/
def showMode (capped : Bool) (s : State) (e : Nat × Option Mode) : State :=
  match e.2 with
  | none => ([1, 2, 3, 4, 5, 6, 7].foldl (fun s c => s.clearRow 0x2512 c e.1) s).clearRow 0x2514 0x01 e.1
  | some m =>
    let (sh, big) := shapeBytes s m
    let flags := 8 * b2n big + 4 * b2n capped + 2 * b2n (m.coasted != 0) + b2n (m.refreshes < 8)
    let s := ((s.setRow 0x2512 1 e.1 m.id).setRow 0x2512 2 e.1 (Q.roundUp (Q.mul (f64 m.freq) ⟨1000, 1⟩)).toNat)
    let s := (s.setRow 0x2512 3 e.1 (toTwos 16 (Q.roundUp (Q.mul (f64 m.damping) ⟨1000, 1⟩)))).setRow 0x2512 4 e.1 (modeConfidence m capped)
    let s := ((s.setRow 0x2512 5 e.1 (if m.infinite then binary32.inf else m.energy)).setRow 0x2512 6 e.1 flags).setRow 0x2512 7 e.1 m.refreshes
    s.setRoBytes 0x2514 0x01 sh e.1

/-- The objects that show modes. -/
def modeObjects : List (Nat × Nat) := [(0x2512, 1), (0x2512, 2), (0x2512, 3), (0x2512, 4), (0x2512, 5), (0x2512, 6), (0x2512, 7), (0x2514, 1)]

theorem showMode_touches (capped : Bool) (s : State) (e : Nat × Option Mode) (he : e.1 < 32) : Touches [] modeObjects s (showMode capped s e) := by
  have hrow : e.1 < 0x1000000 := Nat.lt_trans he (by decide)
  unfold showMode
  split
  · simp [modeObjects, hrow]
  · dsimp only
    simp [modeObjects, hrow]

/-- The modes kept, shown in the 32 rows. -/
def showModes (s : State) : State :=
  ((List.range 32).map fun n => (n, s.eddy.mode.modes[n]?)).foldl (showMode (s.ro 0x2513 0x01 == 3)) s

theorem showModes_touches (s : State) : Touches [] modeObjects s (showModes s) :=
  (touches_foldl fun u e he => by
    obtain ⟨n, hn, rfl⟩ := List.mem_map.mp he
    exact showMode_touches _ u _ (List.mem_range.mp hn)).mpr (.refl _ _ _)

/-- Refresh k, shown and counted. -/
def refreshShown (k : Nat) (s : State) : State :=
  ((((showModes s).setRo 0x2513 0x02 (k * 2 ^ 46)).setRo 0x2513 0x03 (k % 2 ^ 32)).setRo 0x2513 0x04 (s.eddy.mode.modes.filter fun m => m.coasted == 0).length).bump
    0x2540 0x05

theorem publishModes_posts (k : Nat) (s : State) : ∃ words, publishModes k s = sluicePost 5 words (refreshShown k s) := ⟨_, rfl⟩

/-- The objects of the mode meter, and those of a Sluice. -/
def meterObjects : List (Nat × Nat) := modeObjects ++ [(0x2513, 2), (0x2513, 3), (0x2513, 4), (0x2540, 5), (0x2540, 6), (0x2D10, 2), (0x2D10, 3)]

theorem publishModes_touches (k : Nat) (s : State) : Touches [.host] meterObjects s (publishModes k s) := by
  obtain ⟨words, hposts⟩ := publishModes_posts k s
  have hshown : Touches [.host] meterObjects s (showModes s) := (showModes_touches s).mono (by simp) (List.subset_append_left ..)
  rw [hposts]
  unfold refreshShown
  generalize showModes s = v at *
  simpa [meterObjects] using hshown

theorem publishModes_shows (k : Nat) (s : State) :
    (publishModes k s).eddy = s.eddy ∧ (publishModes k s).ro 0x2513 0x02 = k * 2 ^ 46 ∧ (publishModes k s).ro 0x2513 0x03 = k % 2 ^ 32 ∧
    (publishModes k s).ro 0x2513 0x04 = (s.eddy.mode.modes.filter fun m => m.coasted == 0).length ∧
    (publishModes k s).ro 0x2540 0x05 = (s.ro 0x2540 0x05 + 1) % 2 ^ 32 := by
  obtain ⟨words, hposts⟩ := publishModes_posts k s
  have hshown := showModes_touches s
  have hcount : (showModes s).ro 0x2540 0x05 = s.ro 0x2540 0x05 := hshown.ro (by decide) (by decide) (by decide) (by decide)
  have heddy : (showModes s).eddy = s.eddy := hshown.1 .eddy (by simp)
  rw [hposts]
  unfold refreshShown
  generalize showModes s = v at *
  have hposted (u : State) : Touches [.host] [(0x2D10, 2), (0x2D10, 3)] u (sluicePost 5 words u) := by simp
  refine ⟨?_, by simp, by simp, by simp, ?_⟩
  · exact ((hposted _).1 .eddy (by simp)).trans (by simpa using heddy)
  · rw [ro_sluicePost (by decide) (by decide) (by decide), ro_bump_self]
    simp [hcount]
    rfl

end publish

/-! ### A refresh taken (R286–R290) -/

section refresh
variable {s : State}

theorem trackModes_leaves (poles : List Pole) (s : State) :
    (trackModes poles s).eddy.mode.last = s.eddy.mode.last ∧ Touches [.eddy] [] s (trackModes poles s) := by
  unfold trackModes
  extract_lets old pairs f64s step
  have hstep : Touches [] [] s (((List.range poles.length).zip poles).foldl step ([], s.eddy.mode.nextId, s)).2.2 := by
    refine List.foldlRecOn (motive := fun (a : List Mode × Nat × State) => Touches [] [] s a.2.2) _ step (Touches.refl [] [] s) fun a ha e _ => ?_
    unfold step
    dsimp only
    split
    · simpa using ha
    · exact ha
  generalize ((List.range poles.length).zip poles).foldl step ([], s.eddy.mode.nextId, s) = r at *
  obtain ⟨now, next, v⟩ := r
  dsimp only at hstep ⊢
  have hgone : Touches [] [] s ((((List.range old.length).zip old).filter fun e => !pairs.any fun q => q.1 == e.1).filter (fun e => e.2.coasted ≥ 4)
      |>.foldl (fun s e => raise 0x2504 (le 2 e.2.id) s) v) := (touches_foldl fun u e _ => by simp).mpr hstep
  generalize List.foldl _ v _ = w at *
  have heddy : w.eddy = s.eddy := hgone.1 .eddy (by simp)
  exact ⟨by simp [State.onMode, heddy], by simpa [State.onMode] using hgone.mono (by simp) (by simp)⟩

/-- Refresh k has been taken: it is the last one, its number is shown and it is counted. -/
def Refreshed (k : Nat) (s u : State) : Prop :=
  u.eddy.mode.last = k ∧ u.ro 0x2513 0x03 = k % 2 ^ 32 ∧ u.ro 0x2540 0x05 = (s.ro 0x2540 0x05 + 1) % 2 ^ 32

theorem publishModes_refreshed {k : Nat} {v : State} (hlast : v.eddy.mode.last = k) (hcount : v.ro 0x2540 0x05 = s.ro 0x2540 0x05) :
    Refreshed k s (publishModes k v) := by
  obtain ⟨heddy, -, hnumber, -, hcounted⟩ := publishModes_shows k v
  exact ⟨by rw [heddy, hlast], hnumber, by rw [hcounted, hcount]⟩

/-- The refresh that is next (R290). -/
def nextRefresh (s : State) : Nat := if s.eddy.mode.last = 0 then refreshReady s else s.eddy.mode.last + 1

theorem modeRefresh_touches (s : State) : Touches [.eddy, .host] meterObjects s (modeRefresh s) := by
  unfold modeRefresh
  extract_lets st ready k v rows refs
  have hv : Touches [.eddy, .host] meterObjects s v := by
    unfold v
    split
    · exact .refl _ _ _
    · simp [State.onMode]
  have htracked (poles : List Pole) : Touches [.eddy, .host] meterObjects s (publishModes k (trackModes poles v)) :=
    (hv.trans ((trackModes_leaves poles v).2.mono (by simp) (by simp))).trans ((publishModes_touches ..).mono (by simp) (List.Subset.refl _))
  clear_value v
  split
  · exact .refl _ _ _
  split
  · exact hv
  split
  · exact Touches.trans (by simpa [State.onMode] using hv) ((publishModes_touches ..).mono (by simp) (List.Subset.refl _))
  split
  · exact htracked []
  · generalize Config.modeSolve .. = solved
    obtain ⟨f, ev⟩ := solved
    dsimp only
    split
    · simpa [meterObjects] using hv
    · exact htracked _

theorem modeRefresh_refreshed (hrun : s.running = true) (hlow : 1 ≤ s.ro 0x2513 0x01) (hhigh : s.ro 0x2513 0x01 ≤ 3) (hplaces : placesHere s = true)
    (hsome : nextRefresh s ≠ 0) (hready : nextRefresh s ≤ refreshReady s) : Refreshed (nextRefresh s) s (modeRefresh s) := by
  have hnext : ¬((decide (nextRefresh s = 0) || decide (nextRefresh s > refreshReady s)) = true) := by simp [hsome, hready]
  unfold modeRefresh
  extract_lets st ready k v rows refs
  have hk : k = nextRefresh s := rfl
  have hnext : ¬((decide (k = 0) || decide (k > ready)) = true) := hnext
  have hv : v = s.onMode fun m => { m with last := k } := if_neg hnext
  rw [if_neg (by simp [st, hrun, hlow, hhigh, hplaces]), if_neg hnext]
  clear_value v k
  subst hk hv
  split
  · exact publishModes_refreshed rfl rfl
  · have htracked (poles : List Pole) : Refreshed (nextRefresh s) s
        (publishModes (nextRefresh s) (trackModes poles (s.onMode fun m => { m with last := nextRefresh s }))) := by
      obtain ⟨hlast, htouches⟩ := trackModes_leaves poles (s.onMode fun m => { m with last := nextRefresh s })
      exact publishModes_refreshed hlast (htouches.ro (by decide) (by decide) (by simp) (by decide))
    split
    · exact htracked []
    · generalize Config.modeSolve .. = solved
      obtain ⟨f, ev⟩ := solved
      dsimp only
      split
      · refine ⟨by simp [State.onMode], by simp, ?_⟩
        rw [ro_raise (by decide) (by decide) (by decide), ro_setRo_of_ne (by decide) (by decide) (by decide) (by decide),
          ro_bump_of_ne (by decide) (by decide) (by decide) (by decide) (by decide), ro_bump_self]
        rfl
      · exact htracked _

/-- In WARMING a refresh shows its time and no mode. -/
theorem modeRefresh_warming (hrun : s.running = true) (hwarming : s.ro 0x2513 0x01 = 1) (hplaces : placesHere s = true) (hsome : nextRefresh s ≠ 0)
    (hready : nextRefresh s ≤ refreshReady s) :
    (modeRefresh s).ro 0x2513 0x02 = nextRefresh s * 2 ^ 46 ∧ (modeRefresh s).ro 0x2513 0x04 = 0 ∧ (modeRefresh s).eddy.mode.modes = [] := by
  have hnext : ¬((decide (nextRefresh s = 0) || decide (nextRefresh s > refreshReady s)) = true) := by simp [hsome, hready]
  have hpublish : modeRefresh s = publishModes (nextRefresh s) ((s.onMode fun m => { m with last := nextRefresh s }).onMode fun m => { m with modes := [] }) := by
    unfold modeRefresh
    extract_lets st ready k v rows refs
    have hk : k = nextRefresh s := rfl
    have hnext : ¬((decide (k = 0) || decide (k > ready)) = true) := hnext
    have hv : v = s.onMode fun m => { m with last := k } := if_neg hnext
    rw [if_neg (by simp [st, hrun, hwarming, hplaces]), if_neg hnext, if_pos hwarming, hv, hk]
  rw [hpublish]
  obtain ⟨heddy, htime, -, hreported, -⟩ := publishModes_shows (nextRefresh s) ((s.onMode fun m => { m with last := nextRefresh s }).onMode fun m => { m with modes := [] })
  exact ⟨htime, hreported, by rw [heddy]; rfl⟩

theorem modeRefresh_waits (hsome : s.eddy.mode.last ≠ 0) (hready : refreshReady s ≤ s.eddy.mode.last) : modeRefresh s = s := by
  have hnext : (decide ((if s.eddy.mode.last = 0 then refreshReady s else s.eddy.mode.last + 1) = 0) ||
      decide ((if s.eddy.mode.last = 0 then refreshReady s else s.eddy.mode.last + 1) > refreshReady s)) = true := by
    rw [if_neg hsome]
    simp
    omega
  unfold modeRefresh
  dsimp only
  rw [if_pos hnext, if_pos hnext, ite_self]

theorem modeRefresh_off (h : s.ro 0x2513 0x01 = 0) : modeRefresh s = s := if_pos (by simp [h])

theorem packed_of {ps : List Part} {os : List (Nat × Nat)} {u : State} (h : Touches ps os s u) (hparts : Part.duplex ∉ ps) (hobjects : (0x3210, 1) ∉ os) :
    packed u = packed s := by
  have hduplex : u.duplex = s.duplex := h.1 .duplex hparts
  have hrole : roleNow u = roleNow s := h.ro (by decide) (by decide) hobjects (by decide)
  simp [packed, inPack, hduplex, hrole]

theorem sendResults_alone (h : packed s = false) (g i : Nat) (changed : Bool) : sendResults g i changed s = s := if_pos (by simp [h])

/-! ### The mode meter reset (R286) -/

theorem resetMode_resets (cause : Nat) (s : State) :
    (resetMode cause s).eddy.mode = { ModeSt.reset with nextId := s.eddy.mode.nextId } ∧
    (resetMode cause s).ro 0x2513 0x01 = b2n (s.cfgB 0x2500 0x01 && s.cfgB 0x2510 0x01) ∧ Touches [.eddy] [(0x2513, 1)] s (resetMode cause s) := by
  unfold resetMode setModeState
  extract_lets start v old
  have hv : Touches [.eddy] [(0x2513, 1)] s v := by simp [v, State.onMode]
  have hmode : v.eddy.mode = { ModeSt.reset with nextId := s.eddy.mode.nextId } := rfl
  have hnew : (if v.cfgB 0x2500 0x01 && v.cfgB 0x2510 0x01 then 1 else 0) = b2n (s.cfgB 0x2500 0x01 && s.cfgB 0x2510 0x01) := rfl
  rw [hnew]
  clear_value v
  split
  next hold => exact ⟨hmode, hold, hv⟩
  next => exact ⟨by simpa using hmode, by simp, by simpa using hv⟩

end refresh

/-! ### Location (R299–R303) -/

section location
variable {s : State}

/-- What a row reads after several rows have been set. -/
theorem ro_foldl_setRow (f : Nat → Nat) {i j r : Nat} (l : List Nat) (s : State) :
    (l.foldl (fun s r => s.setRow i j r (f r)) s).ro i j r = if r ∈ l then f r else s.ro i j r := by
  induction l generalizing s with
  | nil => rfl
  | cons a l ih =>
    rw [List.foldl_cons, ih]
    by_cases hr : r = a
    · simp [hr]
    · simp [hr, ro_setRow_ne s (okey_ne_row (i := i) (j := j) hr)]

theorem row_lt_of_branchRows {r : Nat} (h : r ∈ branchRows s) : r < 0x1000000 := by
  obtain ⟨e, -, rfl⟩ := List.mem_map.mp h
  exact Nat.mod_lt _ (by decide)

/-- The end, in units of T96, of the time that the location looks at (R299). -/
def locationEnd (s : State) : Nat := s.t96Sec * 2 ^ 48 - (14100 + s.cfg 0x2301 0x02 (s.cfg 0x2510 0x02)) * 2 ^ 48 / 1000

/-- The points of a branch row in that time. -/
def branchPoints (hi : Nat) (s : State) (r : Nat) : List (Nat × Nat) :=
  (s.branch r).series.filter fun p => hi - s.cfg 0x2518 0x05 * 2 ^ 48 ≤ p.1 && p.1 < hi

/-- Whether every branch row has its points. -/
def enoughPoints (hi : Nat) (s : State) : Prop := branchRows s ≠ [] ∧ ∀ r ∈ branchRows s, 10 * s.cfg 0x2518 0x05 ≤ (branchPoints hi s r).length

theorem locationResult_off (hplaces : placesHere s = true) (h : s.cfgB 0x2500 0x01 = false ∨ s.cfgB 0x2518 0x01 = false) :
    locationResult s = s.setRo 0x251A 0x03 0 := by
  unfold locationResult
  rw [if_neg (by simp [hplaces]), if_pos]
  obtain h | h := h <;> simp [h]

variable (hrun : s.running = true) (hplaces : placesHere s = true) (heddy : s.cfgB 0x2500 0x01 = true) (hon : s.cfgB 0x2518 0x01 = true)
include hrun hplaces heddy hon

theorem locationResult_noCentre (hcentre : bandCentre s = 0) : locationResult s = s.setRo 0x251A 0x03 3 := by
  unfold locationResult
  rw [if_neg (by simp [hplaces]), if_neg (by simp [hrun, heddy, hon])]
  exact if_pos hcentre

theorem locationResult_waits (hcentre : bandCentre s ≠ 0) (hpoints : ¬enoughPoints (locationEnd s) s) : locationResult s = s.setRo 0x251A 0x03 1 := by
  unfold locationResult
  rw [if_neg (by simp [hplaces]), if_neg (by simp [hrun, heddy, hon])]
  extract_lets sNow w hi lo rows pts need rate located buses score pos ranked cleared shown counted first sc
  rw [if_neg hcentre, if_pos]
  rw [Bool.or_eq_true, List.isEmpty_iff, Bool.not_eq_true', List.all_eq_false]
  simp only [enoughPoints, Classical.not_and_iff_not_or_not, Classical.not_not, Classical.not_forall] at hpoints
  refine hpoints.imp_right ?_
  rintro ⟨r, hr, hshort⟩
  exact ⟨r, hr, fun h => hshort (of_decide_eq_true h)⟩

/-- The slopes of the branch rows, shown. -/
def slopesShown (hi : Nat) (s : State) : State :=
  (branchRows s).foldl (fun u r => u.setRow 0x251A 0x06 r (toF32 (slope (branchPoints hi s r)))) s

/-- The buses and their scores, shown, and the location counted. -/
def busesShown (ranked : List (Nat × Q)) (at_ : Nat) (s : State) : State :=
  let s := s.clearObjects [(0x251A, 4), (0x251A, 5)]
  let s := ((List.range ranked.length).zip ranked).foldl (fun s e => (s.setRow 0x251A 4 e.1 e.2.1).setRow 0x251A 5 e.1 (toF32 e.2.2)) s
  ((s.setRo 0x251A 0x01 at_).setRo 0x251A 0x03 2).bump 0x2540 0x08

theorem locationResult_locates (hcentre : bandCentre s ≠ 0) (hpoints : enoughPoints (locationEnd s) s) :
    ∃ ranked, ranked.length ≤ 16 ∧ Touches [.eddy] [] (busesShown ranked (s.t96Sec * 2 ^ 48) (slopesShown (locationEnd s) s)) (locationResult s) := by
  unfold locationResult
  rw [if_neg (by simp [hplaces]), if_neg (by simp [hrun, heddy, hon])]
  extract_lets sNow w hi lo rows pts need rate located buses score pos ranked cleared shown counted first sc
  have henough : ¬((rows.isEmpty || !rows.all fun r => decide ((pts r).length ≥ need)) = true) := by
    rw [Bool.or_eq_true, List.isEmpty_iff, Bool.not_eq_true', List.all_eq_false, not_or]
    refine ⟨hpoints.1, ?_⟩
    rintro ⟨r, hr, hshort⟩
    exact hshort (decide_eq_true (hpoints.2 r hr))
  rw [if_neg hcentre, if_neg henough]
  have hlocated : located = slopesShown (locationEnd s) s := List.foldl_map
  have hcounted : counted = busesShown ranked (s.t96Sec * 2 ^ 48) (slopesShown (locationEnd s) s) := by
    rw [← hlocated]
    rfl
  refine ⟨ranked, List.length_take_le 16 _, ?_⟩
  rw [← hcounted]
  split
  · exact .refl _ _ _
  · simp

omit hrun hplaces heddy hon in
theorem slopesShown_leaves (hi : Nat) (s : State) : Touches [] [(0x251A, 6)] s (slopesShown hi s) ∧
    ∀ r ∈ branchRows s, (slopesShown hi s).ro 0x251A 0x06 r = toF32 (slope (branchPoints hi s r)) := by
  refine ⟨(touches_foldl fun u r hr => ?_).mpr (.refl _ _ _), fun r hr => ?_⟩
  · simp [row_lt_of_branchRows hr]
  · rw [slopesShown, ro_foldl_setRow fun r => toF32 (slope (branchPoints hi s r)), if_pos hr]

omit hrun hplaces heddy hon in
theorem busesShown_leaves {ranked : List (Nat × Q)} (hranked : ranked.length ≤ 16) (at_ : Nat) (s : State) :
    (busesShown ranked at_ s).ro 0x251A 0x01 = at_ ∧ (busesShown ranked at_ s).ro 0x251A 0x03 = 2 ∧
    (busesShown ranked at_ s).ro 0x2540 0x08 = (s.ro 0x2540 0x08 + 1) % 2 ^ 32 ∧
    Touches [] [(0x251A, 4), (0x251A, 5), (0x251A, 1), (0x251A, 3), (0x2540, 8)] s (busesShown ranked at_ s) := by
  unfold busesShown
  extract_lets cleared shown
  have hshown : Touches [] [(0x251A, 4), (0x251A, 5)] s shown := by
    refine (ClearsObjects.objects (by decide) s).touches.trans ((touches_foldl fun u e he => ?_).mpr (.refl _ _ _))
    have hrow : e.1 < ranked.length := List.mem_range.mp (List.of_mem_zip he).1
    have hrow : e.1 < 0x1000000 := by omega
    simp [hrow]
  have hcount : shown.ro 0x2540 0x08 = s.ro 0x2540 0x08 := hshown.ro (by decide) (by decide) (by decide) (by decide)
  clear_value shown
  refine ⟨by simp, by simp, ?_, by simpa using hshown.mono (by simp) (by simp)⟩
  rw [ro_bump_self, ro_setRo_of_ne (by decide) (by decide) (by decide) (by decide), ro_setRo_of_ne (by decide) (by decide) (by decide) (by decide), hcount]
  rfl

theorem locationResult_shows (hcentre : bandCentre s ≠ 0) (hpoints : enoughPoints (locationEnd s) s) :
    (locationResult s).ro 0x251A 0x01 = s.t96Sec * 2 ^ 48 ∧ (locationResult s).ro 0x251A 0x03 = 2 ∧
    (locationResult s).ro 0x2540 0x08 = (s.ro 0x2540 0x08 + 1) % 2 ^ 32 ∧
    (∀ r ∈ branchRows s, (locationResult s).ro 0x251A 0x06 r = toF32 (slope (branchPoints (locationEnd s) s r))) ∧
    Touches [.eddy] [(0x251A, 6), (0x251A, 4), (0x251A, 5), (0x251A, 1), (0x251A, 3), (0x2540, 8)] s (locationResult s) := by
  obtain ⟨ranked, hranked, hreported⟩ := locationResult_locates hrun hplaces heddy hon hcentre hpoints
  obtain ⟨hslopes, hslope⟩ := slopesShown_leaves (locationEnd s) s
  obtain ⟨hat, hstate, hcount, hbuses⟩ := busesShown_leaves hranked (s.t96Sec * 2 ^ 48) (slopesShown (locationEnd s) s)
  have hkept {i j r : Nat} (hj : j < 256) (hr : r < 0x1000000) (hi : i ≠ 0x2E20) :
      (locationResult s).ro i j r = (busesShown ranked (s.t96Sec * 2 ^ 48) (slopesShown (locationEnd s) s)).ro i j r :=
    hreported.ro hj hr (by simp) hi
  have hcount' : (slopesShown (locationEnd s) s).ro 0x2540 0x08 = s.ro 0x2540 0x08 := hslopes.ro (by decide) (by decide) (by decide) (by decide)
  rw [hkept (by decide) (by decide) (by decide), hkept (by decide) (by decide) (by decide), hkept (by decide) (by decide) (by decide)]
  refine ⟨hat, hstate, hcount.trans (by rw [hcount']), fun r hr => ?_,
    ((hslopes.mono (by simp) (by simp)).trans (hbuses.mono (by simp) (by simp))).trans (hreported.mono (by simp) (by simp))⟩
  rw [hkept (by decide) (row_lt_of_branchRows hr) (by decide), hbuses.ro (by decide) (row_lt_of_branchRows hr) (by decide) (by decide)]
  exact hslope r hr

end location

end Sys2Proof.Machine
end

section
/-! Local interharmonic windows and the hold of the vector-shift element (R303, R336). -/

namespace Sys2Proof.Machine
open Sys2Proof

/-! ### One window (R303) -/

section localWindow
variable {s : State}

/-- The objects of the local detectors. -/
def localObjects : List (Nat × Nat) := [(0x2531, 1), (0x2531, 2), (0x2531, 3), (0x2531, 4), (0x2531, 5), (0x2540, 9)]

/-- The measures of one phase, shown. -/
def measuresShown (d at_ : Nat) (m : Q × Q × Q) (s : State) : State :=
  ((((s.bump 0x2540 0x09).setRow 0x2531 0x05 d at_).setRow 0x2531 2 d (toF32 m.1)).setRow 0x2531 3 d (toF32 m.2.1)).setRow 0x2531 4 d (toF32 m.2.2)

/-- A detector's state and count, shown and reported. -/
def detectorShown (d old new c e f : Nat) (s : State) : State :=
  let s := (s.onEddy fun y => { y with locals := putKey d ⟨c, new⟩ y.locals }).setRow 0x2531 1 d new
  if new = old then s else raise 0x2507 (le 1 d ++ le 1 new ++ le 4 f ++ le 4 e) s

theorem localWindow_off {at_ band : Nat} {w : WaveWindow} (h : inSet (pubSet s (at_ - 2 ^ 48 / 5)) 0x2530 0x01 (2 * w.set + band) = 0) :
    localWindow false at_ w band s = s.setRow 0x2531 0x01 (2 * w.set + band) 3 := if_pos h

theorem localWindow_measures {at_ band : Nat} {w : WaveWindow} {p : List Nat} (h : inSet (pubSet s (at_ - 2 ^ 48 / 5)) 0x2530 0x01 (2 * w.set + band) ≠ 0)
    (hvalid : w.invalid = false) (hphases : w.phases = [p]) :
    ∃ old new c e f, localWindow false at_ w band s =
      detectorShown (2 * w.set + band) old new c e f (measuresShown (2 * w.set + band) at_ (bandMeasures s.fnom band (p.map f32)) s) := by
  unfold localWindow
  extract_lets d idx set key x counted ms best e f shown
  have hset : ¬inSet set idx 0x01 d = 0 := h
  rw [if_neg (c := false = true) (t := (0x2F45, 3)) Bool.false_ne_true]
  dsimp -zeta only
  rw [if_neg hset]
  extract_lets old done c
  have hbest : best = bandMeasures s.fnom band (p.map f32) := by
    have hms : ms = [bandMeasures s.fnom band (p.map f32)] := by
      unfold ms
      rw [hphases]
      rfl
    unfold best
    rw [hms]
    exact ite_self _
  have hdone (new c : Nat) : done shown new c e f =
      detectorShown (2 * w.set + band) old new c e f (measuresShown (2 * w.set + band) at_ (bandMeasures s.fnom band (p.map f32)) s) := by
    rw [← hbest]
    rfl
  rw [if_neg (by simp [hvalid])]
  simp only [hdone]
  repeat' split
  all_goals exact ⟨_, _, _, _, _, rfl⟩

theorem detectorShown_touches {d : Nat} (hd : d < 0x1000000) (old new c e f : Nat) (s : State) :
    Touches [.eddy] [(0x2531, 1)] s (detectorShown d old new c e f s) := by
  unfold detectorShown
  extract_lets v
  have hv : Touches [.eddy] [(0x2531, 1)] s v := by simp [v, hd]
  split
  · exact hv
  · simpa using hv

/-- What a window leaves of one detector: its measures and the time, or state 3 of one that is off. -/
def LocalShown (at_ d on : Nat) (m : Q × Q × Q) (u : State) : Prop :=
  if on = 0 then u.ro 0x2531 0x01 d = 3
  else u.ro 0x2531 0x02 d = toF32 m.1 ∧ u.ro 0x2531 0x03 d = toF32 m.2.1 ∧ u.ro 0x2531 0x04 d = toF32 m.2.2 ∧ u.ro 0x2531 0x05 d = at_

theorem LocalShown.kept {at_ d on : Nat} {m : Q × Q × Q} {u v : State} (h : LocalShown at_ d on m u)
    (hkept : ∀ j, j < 6 → v.ro 0x2531 j d = u.ro 0x2531 j d) : LocalShown at_ d on m v := by
  unfold LocalShown at *
  rwa [hkept 1 (by decide), hkept 2 (by decide), hkept 3 (by decide), hkept 4 (by decide), hkept 5 (by decide)]

/-- The rows of 0x2531 of the other detectors are kept. -/
def OtherLocals (d : Nat) (s u : State) : Prop := ∀ j r, j < 6 → r < 0x1000000 → r ≠ d → u.ro 0x2531 j r = s.ro 0x2531 j r

theorem ro_setRow_otherRow {i k j d r n : Nat} (hd : d < 0x1000000) (hr : r < 0x1000000) (h : r ≠ d) (s : State) :
    (s.setRow i k d n).ro i j r = s.ro i j r := ro_setRow_ne s (by unfold okey; omega)

theorem measuresShown_leaves {d : Nat} (hd : d < 0x1000000) (at_ : Nat) (m : Q × Q × Q) (s : State) :
    (measuresShown d at_ m s).ro 0x2531 0x02 d = toF32 m.1 ∧ (measuresShown d at_ m s).ro 0x2531 0x03 d = toF32 m.2.1 ∧
    (measuresShown d at_ m s).ro 0x2531 0x04 d = toF32 m.2.2 ∧ (measuresShown d at_ m s).ro 0x2531 0x05 d = at_ ∧
    OtherLocals d s (measuresShown d at_ m s) ∧ Touches [] localObjects s (measuresShown d at_ m s) := by
  unfold measuresShown
  refine ⟨by simp [hd], by simp [hd], by simp, by simp [hd], fun j r hj hr hne => ?_, by simp [localObjects, hd]⟩
  have hother (k n : Nat) (v : State) : (v.setRow 0x2531 k d n).ro 0x2531 j r = v.ro 0x2531 j r :=
    ro_setRow_otherRow hd hr hne v
  rw [hother, hother, hother, hother, ro_bump_of_ne (by simp) (by decide) (by decide) (by omega) hr]

theorem detectorShown_kept {d : Nat} (hd : d < 0x1000000) (old new c e f : Nat) {s : State} {j r : Nat} (hj : j < 6) (hr : r < 0x1000000)
    (h : r ≠ d ∨ j ≠ 1) : (detectorShown d old new c e f s).ro 0x2531 j r = s.ro 0x2531 j r := by
  have hkey : okey 0x2531 j r ≠ okey 0x2531 1 d := by
    unfold okey
    omega
  unfold detectorShown
  extract_lets v
  have hv : v.ro 0x2531 j r = s.ro 0x2531 j r := ro_setRow_ne _ hkey
  clear_value v
  split
  · exact hv
  · rw [ro_raise (by decide) (by omega) hr, hv]

/-- A valid window of one phase. -/
theorem localWindow_shows {at_ band : Nat} {w : WaveWindow} {p : List Nat} (hset : w.set < 8) (hband : band < 2) (hvalid : w.invalid = false)
    (hphases : w.phases = [p]) :
    LocalShown at_ (2 * w.set + band) (inSet (pubSet s (at_ - 2 ^ 48 / 5)) 0x2530 0x01 (2 * w.set + band)) (bandMeasures s.fnom band (p.map f32))
      (localWindow false at_ w band s) ∧
    OtherLocals (2 * w.set + band) s (localWindow false at_ w band s) ∧ Touches [.eddy] localObjects s (localWindow false at_ w band s) := by
  by_cases h : inSet (pubSet s (at_ - 2 ^ 48 / 5)) 0x2530 0x01 (2 * w.set + band) = 0
  · have hd : 2 * w.set + band < 0x1000000 := by omega
    rw [localWindow_off h]
    unfold LocalShown
    rw [if_pos h]
    generalize 2 * w.set + band = d at *
    exact ⟨by simp, fun j r hj hr hne => ro_setRow_otherRow hd hr hne s, by simp [localObjects, hd]⟩
  · obtain ⟨old, new, c, e, f, heq⟩ := localWindow_measures h hvalid hphases
    have hd : 2 * w.set + band < 0x1000000 := by omega
    rw [heq]
    generalize bandMeasures s.fnom band (p.map f32) = m
    unfold LocalShown
    rw [if_neg h]
    generalize 2 * w.set + band = d at *
    obtain ⟨hrms, hfreq, hpeak, hat, hothers, htouches⟩ := measuresShown_leaves hd at_ m s
    have hsame {j : Nat} (hj : j < 6) (hone : j ≠ 1) : (detectorShown d old new c e f (measuresShown d at_ m s)).ro 0x2531 j d = (measuresShown d at_ m s).ro 0x2531 j d :=
      detectorShown_kept hd old new c e f hj hd (.inr hone)
    rw [hsame (by decide) (by decide), hsame (by decide) (by decide), hsame (by decide) (by decide), hsame (by decide) (by decide)]
    refine ⟨⟨hrms, hfreq, hpeak, hat⟩, fun j r hj hr hne => ?_, (htouches.mono (by simp) (by simp)).trans
      ((detectorShown_touches hd old new c e f _).mono (by simp) (by simp [localObjects]))⟩
    rw [detectorShown_kept hd old new c e f hj hr (.inl hne), hothers j r hj hr hne]

end localWindow

/-! ### The windows of both bands -/

section interharmonic
variable {s : State}

/-- The end of the last complete window before now, in units of T96. -/
def wavesEnd (s : State) : Nat := s.t96 * 10 / 2 ^ 48 * 2 ^ 48 / 10

theorem interharmonic_one {w : WaveWindow} (hrun : s.running = true) (hon : s.cfgB 0x2500 0x01 = true) (hset : w.set < 8)
    (hsource : s.cfg 0x2901 0x02 (w.set % 4) ≠ 1)
    (hshepherd : (localWindow false (wavesEnd s) w 1 (localWindow false (wavesEnd s) w 0 s)).ro 0x2F45 0x01 = 0) :
    interharmonic [w] s = localWindow false (wavesEnd s) w 1 (localWindow false (wavesEnd s) w 0 s) := by
  have hw : ([w].filter fun w => w.set < 8).map (fun w => { w with invalid := w.invalid || s.cfg 0x2901 0x02 (w.set % 4) == 1 }) = [w] := by
    rw [List.filter_cons_of_pos (by simpa using hset), List.filter_nil, List.map_singleton, beq_false_of_ne hsource, Bool.or_false]
  unfold interharmonic
  rw [hw]
  dsimp only
  have hbands : (s.running && s.cfgB 0x2500 0x01) = true := by simp [hrun, hon]
  rw [if_pos hbands]
  refine if_neg fun h => ?_
  rw [Bool.and_eq_true, Bool.and_eq_true] at h
  exact absurd hshepherd (bne_iff_ne.mp h.1.2)

theorem interharmonic_shows {w : WaveWindow} {p : List Nat} (hrun : s.running = true) (hon : s.cfgB 0x2500 0x01 = true) (hshepherd : s.ro 0x2F45 0x01 = 0)
    (hset : w.set < 8) (hvalid : w.invalid = false) (hsource : s.cfg 0x2901 0x02 (w.set % 4) ≠ 1) (hphases : w.phases = [p]) {b : Nat} (hb : b < 2) :
    LocalShown (wavesEnd s) (2 * w.set + b) (inSet (pubSet s (wavesEnd s - 2 ^ 48 / 5)) 0x2530 0x01 (2 * w.set + b)) (bandMeasures s.fnom b (p.map f32))
      (interharmonic [w] s) := by
  obtain ⟨hlow, -, htouches⟩ := localWindow_shows (s := s) (at_ := wavesEnd s) hset (band := 0) (by decide) hvalid hphases
  obtain ⟨hhigh, hothers, htouches'⟩ := localWindow_shows (s := localWindow false (wavesEnd s) w 0 s) (at_ := wavesEnd s) hset (band := 1) (by decide) hvalid hphases
  rw [interharmonic_one hrun hon hset hsource
    (by rw [(htouches.trans htouches').ro (by decide) (by decide) (by decide) (by decide), hshepherd])]
  obtain rfl | rfl : b = 0 ∨ b = 1 := by omega
  · exact hlow.kept fun j hj => hothers j _ hj (by omega) (by omega)
  · have hactive : (localWindow false (wavesEnd s) w 0 s).active = s.active := htouches.1 .active (by simp)
    have hpub : (localWindow false (wavesEnd s) w 0 s).pub = s.pub := htouches.1 .pub (by simp)
    simpa [pubSet, State.fnom, State.cfg, hactive, hpub] using hhigh

end interharmonic

/-! ### The hold of the vector-shift element (R336) -/

section hold
variable {s : State}

/-- An element of the C-die that has operated is reset. -/
theorem lomOperate_resets {m e : Nat} (hm : m < 16) (hoperated : bit (s.lom m).operated e = true) :
    lomOperate m e false 0 s = raise 0x260A (le 1 m ++ le 1 e)
      ((s.setLom m { s.lom m with operated := setBit (s.lom m).operated e false }).setRow 0x2621 0x01 m (setBit (s.lom m).operated e false)) := by
  unfold lomOperate
  dsimp only
  rw [if_neg (by simp [hoperated]), if_neg (by omega)]
  rfl

theorem lom_setLom (m : Nat) (x : Lom) (s : State) : (s.setLom m x).lom m = x := by simp [State.lom, State.setLom]

theorem lom_of {u : State} (h : u.oxbow = s.oxbow) (m : Nat) : u.lom m = s.lom m := by simp [State.lom, h]

theorem vectorHold_due {m : Nat} (hoperated : bit (s.lom m).operated 1 = true) (hdue : (s.lom m).holdUntil ≤ s.now) :
    vectorHold m s = lomOperate m 1 false 0 s := if_pos (by simp [hoperated, hdue])

theorem vectorHold_early {m : Nat} (h : s.now < (s.lom m).holdUntil) : vectorHold m s = s := if_neg (by simp [h])

end hold

theorem packed_locationShown {s : State} (h : packed s = false) (n : Nat) : packed (s.setRo 0x251A 0x03 n) = false :=
  (packed_of (ps := []) (os := [(0x251A, 3)]) (by simp) (by simp) (by decide)).trans h

/-! ### The obligation -/

/-- Settles O22: each engine's result is a chain of writes whose rows differ, after which Shepherd's pins touch none of them. -/
theorem enginesReportAndReset : Obligations.EnginesReportAndReset := by
  refine ⟨?refresh, ?waits, ?off, ?noCentre, ?located, ?locating, ?locationOff, ?window, ?hold, ?holdEarly, ?reset⟩
  case refresh =>
    intro t k s hrun hlow hhigh hpacked hplaces hk hsome hready
    refine .of (f := fun s => sendResults (s.cfg 0x2510 0x02) 0 true (modeRefresh s)) rfl ?_
    have hnext : k = nextRefresh (s.advance t) := hk
    subst hnext
    obtain ⟨hlast, hnumber, hcount⟩ := modeRefresh_refreshed (s := s.advance t) (by simpa using hrun) (by simpa using hlow) (by simpa using hhigh) hplaces hsome hready
    have halone : packed (modeRefresh (s.advance t)) = false := (packed_of (modeRefresh_touches (s.advance t)) (by simp) (by decide)).trans hpacked
    rw [sendResults_alone halone]
    refine ⟨by simpa using hlast, by simpa using hnumber, by simpa using hcount, fun hwarming => ?_⟩
    obtain ⟨htime, hreported, hmodes⟩ := modeRefresh_warming (s := s.advance t) (by simpa using hrun) (by simpa using hwarming) hplaces hsome hready
    exact ⟨by simpa using htime, by simpa using hreported, by simpa using hmodes⟩
  case waits =>
    intro t s hpacked hsome hready
    refine .unchanged (f := fun s => sendResults (s.cfg 0x2510 0x02) 0 true (modeRefresh s)) rfl ?_
    show sendResults _ 0 true (modeRefresh (s.advance t)) = _
    rw [modeRefresh_waits (s := s.advance t) hsome hready, sendResults_alone (s := s.advance t) hpacked]
  case off =>
    intro t s hpacked hoff
    refine .unchanged (f := fun s => sendResults (s.cfg 0x2510 0x02) 0 true (modeRefresh s)) rfl ?_
    show sendResults _ 0 true (modeRefresh (s.advance t)) = _
    rw [modeRefresh_off (s := s.advance t) (by simpa using hoff), sendResults_alone (s := s.advance t) hpacked]
  case noCentre =>
    intro t s hrun hpacked hplaces heddy hon hcentre
    refine .of (f := fun s => sendResults (s.cfg 0x2510 0x02) 0 true (locationResult s)) rfl ?_
    rw [locationResult_noCentre (s := s.advance t) (by simpa using hrun) hplaces heddy hon hcentre,
      sendResults_alone (packed_locationShown (s := s.advance t) hpacked _)]
    exact ⟨by simp, by simp⟩
  case located =>
    intro t hi s hrun hpacked hplaces heddy hon hcentre hrows hhi hpoints
    refine .of (f := fun s => sendResults (s.cfg 0x2510 0x02) 0 true (locationResult s)) rfl ?_
    have hend : hi = locationEnd (s.advance t) := hhi
    subst hend
    obtain ⟨hat, hstate, hcount, hslope, htouches⟩ :=
      locationResult_shows (s := s.advance t) (by simpa using hrun) hplaces heddy hon hcentre ⟨hrows, hpoints⟩
    have halone : packed (locationResult (s.advance t)) = false := (packed_of htouches (by simp) (by decide)).trans hpacked
    rw [sendResults_alone halone]
    clear halone htouches hpoints hrows
    generalize locationResult (s.advance t) = v at *
    refine ⟨by simpa using hat, by simpa using hstate, by simpa using hcount, fun r hr hrow => ?_⟩
    have hrow : r < 0x1000000 := hrow
    rw [ro_settle (by decide) (by decide) hrow]
    exact hslope r hr
  case locating =>
    intro t hi s hrun hpacked hplaces heddy hon hcentre hhi hpoints
    refine .of (f := fun s => sendResults (s.cfg 0x2510 0x02) 0 true (locationResult s)) rfl ?_
    have hshort : ¬enoughPoints (locationEnd (s.advance t)) (s.advance t) := by
      rintro ⟨hrows, hall⟩
      subst hhi
      obtain hnone | ⟨r, hr, hfew⟩ := hpoints
      · exact hrows hnone
      · exact absurd (hall r hr) (Nat.not_le.mpr hfew)
    rw [locationResult_waits (s := s.advance t) (by simpa using hrun) hplaces heddy hon hcentre hshort,
      sendResults_alone (packed_locationShown (s := s.advance t) hpacked _)]
    exact ⟨by simp, by simp⟩
  case locationOff =>
    intro t s hpacked hplaces hoff
    refine .of (f := fun s => sendResults (s.cfg 0x2510 0x02) 0 true (locationResult s)) rfl ?_
    rw [locationResult_off (s := s.advance t) hplaces hoff,
      sendResults_alone (packed_locationShown (s := s.advance t) hpacked _)]
    exact ⟨by simp, by simp⟩
  case window =>
    intro t e w p s hrun hon hshepherd hset hvalid hsource hphases he
    refine .of (f := fun s => shepherdUpdate (interharmonic [w] s)) rfl ?_
    intro b hb
    have hb : b < 2 := List.mem_range.mp hb
    have hshown := interharmonic_shows (s := s.advance t) (by simpa using hrun) hon (by simpa using hshepherd) hset hvalid hsource hphases hb
    have hwork := (ShepherdWork.shepherdUpdate (interharmonic [w] (s.advance t))).touches
    subst he
    exact hshown.kept fun j hj => by
      have hrow : 2 * w.set + b < 0x1000000 := by omega
      rw [ro_settle (by decide) (by omega) hrow]
      exact hwork.ro (by omega) hrow (by simp [shepherdObjects]) (by decide)
  case hold =>
    intro t m s hroom hm hoperated hdue
    refine .of (f := fun s => shepherdUpdate (vectorHold m s)) rfl ?_
    have hlom : (s.advance t).lom m = s.lom m := lom_of (by simp) m
    rw [vectorHold_due (s := s.advance t) (by rwa [hlom]) (by simpa [hlom] using hdue), lomOperate_resets (by omega) (by rwa [hlom])]
    generalize hx : { (s.advance t).lom m with operated := setBit ((s.advance t).lom m).operated 1 false } = x
    have hoperated : setBit ((s.advance t).lom m).operated 1 false = x.operated := by rw [← hx]
    have hbit : bit x.operated 1 = false := by rw [← hoperated, bit_setBit_self]
    rw [hoperated]
    generalize hv : raise 0x260A (le 1 m ++ le 1 1) ((((s.advance t).setLom m x)).setRow 0x2621 0x01 m x.operated) = v
    have hwork := ShepherdWork.shepherdUpdate v
    have hoxbow : (shepherdUpdate v).oxbow = v.oxbow := hwork.touches.1 .oxbow (by simp [shepherdParts])
    have hrow : m < 0x1000000 := by omega
    have hreset : (settle (shepherdUpdate v)).lom m = x := by
      rw [lom_of (s := v) (by simp [hoxbow]), ← hv, lom_of (s := (s.advance t).setLom m x) (by simp), lom_setLom]
    refine ⟨by rw [hreset, hbit], ?_, ?_⟩
    · rw [hreset, ro_settle (by decide) (by decide) hrow, hwork.touches.ro (by decide) hrow (by decide) (by decide), ← hv]
      simp [hrow]
    · refine .settle (.later ?_ hwork.fifo)
      rw [← hv]
      exact .first hroom (by simp [State.setLom]) (by simp [State.setLom]) _ _
  case holdEarly =>
    intro t m s hearly
    refine .of (f := fun s => shepherdUpdate (vectorHold m s)) rfl ?_
    rw [vectorHold_early (s := s.advance t) (by simpa [lom_of (s := s) (u := s.advance t) (by simp)] using hearly)]
    have hoxbow : (shepherdUpdate (s.advance t)).oxbow = (s.advance t).oxbow := (ShepherdWork.shepherdUpdate _).touches.1 .oxbow (by simp [shepherdParts])
    exact lom_of (by simp [hoxbow]) m
  case reset =>
    intro t who s hacc
    refine .of (f := runPlain 0x2550 0x02 who (ok (resetMode 5))) rfl ?_
    rw [runPlain_accepted hacc]
    obtain ⟨hmode, hstate, htouches⟩ := resetMode_resets 5 (s.advance t)
    simp only [ok]
    generalize resetMode 5 (s.advance t) = v at *
    refine ⟨answered_settle .., by simpa using hmode, ?_, ?_⟩
    · simpa using hstate
    · exact Touches.settle (by simpa using htouches.mono (by simp) (by simp))

end Sys2Proof.Machine
end

section
/-! Deciding on slots: what the consumers of a slot leave of the grids, the time and the device state (R199–R204). -/

namespace Sys2Proof.Machine
open Sys2Proof

/-- What decisions on slots rest on: the groups, the time, the device state, the set, the queue and the PROCESSes of a pack that wait. -/
def State.scene (s : State) : Tab Group × TimeSt × PowerSt × Dict × List Instr × Nat × Tab PackWait :=
  (s.groups, s.time, s.power, s.active, s.pending, s.now, s.duplex.pack.waiting)

@[simp] theorem scene_ite (c : Prop) [Decidable c] (a b : State) : (if c then a else b).scene = if c then a.scene else b.scene :=
  apply_ite State.scene c a b
@[simp] theorem scene_foldl {α : Type} {f : State → α → State} (h : ∀ s a, (f s a).scene = s.scene) (l : List α) (s : State) :
    (l.foldl f s).scene = s.scene := by
  induction l generalizing s with
  | nil => rfl
  | cons a l ih => rw [List.foldl_cons, ih, h]
@[simp] theorem scene_foldl_snd {α β : Type} {f : β × State → α → β × State} (h : ∀ p a, (f p a).2.scene = p.2.scene) (l : List α) (p : β × State) :
    (l.foldl f p).2.scene = p.2.scene := by
  induction l generalizing p with
  | nil => rfl
  | cons a l ih => rw [List.foldl_cons, ih, h]

@[simp] theorem scene_foldr {α : Type} {f : α → State → State} (h : ∀ s a, (f a s).scene = s.scene) (l : List α) (s : State) :
    (l.foldr f s).scene = s.scene := by
  induction l with
  | nil => rfl
  | cons a l ih => rw [List.foldr_cons, h, ih]

@[simp] theorem State.onDuplex_scene (s : State) (f : DuplexSt → DuplexSt) (h : (f s.duplex).pack.waiting = s.duplex.pack.waiting) :
    (State.onDuplex s f).scene = s.scene := by simp [State.scene, h]
@[simp] theorem State.onPack_scene (s : State) (f : PackData → PackData) (h : (f s.duplex.pack).waiting = s.duplex.pack.waiting) :
    (State.onPack s f).scene = s.scene := State.onDuplex_scene s _ h

/-- What follows under another set leaves the same, once the set in force is there again. -/
theorem scene_withActive {u v : State} (h : u.scene = v.scene) (d : Dict) : State.scene { u with active := d } = State.scene { v with active := d } := by
  simp only [State.scene, Prod.mk.injEq] at h ⊢
  obtain ⟨hgroups, htime, hpower, -, hrest⟩ := h
  exact ⟨hgroups, htime, hpower, trivial, hrest⟩
@[simp] theorem State.setRoV_scene (s : State) (idx sub row : Nat) (v : Val) : (State.setRoV s idx sub row v).scene = s.scene := (rfl)

@[simp] theorem State.setRow_scene (s : State) (idx sub row n : Nat) : (State.setRow s idx sub row n).scene = s.scene := (rfl)

@[simp] theorem State.setRo_scene (s : State) (idx sub n : Nat) : (State.setRo s idx sub n).scene = s.scene := (rfl)

@[simp] theorem State.setRoBytes_scene (s : State) (idx sub : Nat) (b : List Byte) (row : Nat) :
    (State.setRoBytes s idx sub b row).scene = s.scene := (rfl)

@[simp] theorem State.setLive_scene (s : State) (idx sub row : Nat) (v : Val) : (State.setLive s idx sub row v).scene = s.scene := (rfl)

@[simp] theorem State.addTo_scene (s : State) (idx sub n row : Nat) : (State.addTo s idx sub n row).scene = s.scene := (rfl)

@[simp] theorem State.bump_scene (s : State) (idx sub row : Nat) : (State.bump s idx sub row).scene = s.scene := (rfl)

@[simp] theorem State.clearObjects_scene (s : State) (l : List (Nat × Nat)) : (State.clearObjects s l).scene = s.scene := (rfl)

@[simp] theorem State.clearRow_scene (s : State) (idx sub row : Nat) : (State.clearRow s idx sub row).scene = s.scene := (rfl)

@[simp] theorem State.clearRange_scene (s : State) (lo hi : Nat) : (State.clearRange s lo hi).scene = s.scene := (rfl)

@[simp] theorem State.emit_scene (s : State) (o : Out) : (State.emit s o).scene = s.scene := (rfl)

@[simp] theorem State.drawn_scene (s : State) : (State.drawn s).scene = s.scene := (rfl)

@[simp] theorem State.onPorts_scene (s : State) (f : PortSt → PortSt) : (State.onPorts s f).scene = s.scene := (rfl)

@[simp] theorem State.onIngest_scene (s : State) (f : IngestSt → IngestSt) : (State.onIngest s f).scene = s.scene := (rfl)

@[simp] theorem State.onPlace_scene (s : State) (f : PlaceSt → PlaceSt) : (State.onPlace s f).scene = s.scene := (rfl)

@[simp] theorem State.onEddy_scene (s : State) (f : EddySt → EddySt) : (State.onEddy s f).scene = s.scene := (rfl)

@[simp] theorem State.onOxbow_scene (s : State) (f : OxbowSt → OxbowSt) : (State.onOxbow s f).scene = s.scene := (rfl)

@[simp] theorem State.onAlarm_scene (s : State) (f : AlarmSt → AlarmSt) : (State.onAlarm s f).scene = s.scene := (rfl)

@[simp] theorem State.onPub_scene (s : State) (f : PubSt → PubSt) : (State.onPub s f).scene = s.scene := (rfl)

@[simp] theorem State.onHead_scene (s : State) (f : HeadSt → HeadSt) : (State.onHead s f).scene = s.scene := (rfl)

@[simp] theorem State.onCapture_scene (s : State) (f : CaptureSt → CaptureSt) : (State.onCapture s f).scene = s.scene := (rfl)

@[simp] theorem State.onLeash_scene (s : State) (f : LeashSt → LeashSt) : (State.onLeash s f).scene = s.scene := (rfl)

@[simp] theorem State.onEnergy_scene (s : State) (f : EnergySt → EnergySt) : (State.onEnergy s f).scene = s.scene := (rfl)

@[simp] theorem State.onJobs_scene (s : State) (f : JobSt → JobSt) : (State.onJobs s f).scene = s.scene := (rfl)

@[simp] theorem State.onImian_scene (s : State) (f : ImianSt → ImianSt) : (State.onImian s f).scene = s.scene := (rfl)

@[simp] theorem State.onSets_scene (s : State) (f : SetSt → SetSt) : (State.onSets s f).scene = s.scene := (rfl)

@[simp] theorem State.onHost_scene (s : State) (f : HostSt → HostSt) : (State.onHost s f).scene = s.scene := (rfl)

@[simp] theorem State.onLog_scene (s : State) (f : LogSt → LogSt) : (State.onLog s f).scene = s.scene := (rfl)

@[simp] theorem State.onHk_scene (s : State) (f : HkSt → HkSt) : (State.onHk s f).scene = s.scene := (rfl)

@[simp] theorem State.onKeys_scene (s : State) (f : KeySt → KeySt) : (State.onKeys s f).scene = s.scene := (rfl)

@[simp] theorem State.signal_scene (n : Nat) (s : State) : (State.signal n s).scene = s.scene := by simp [State.signal]

@[simp] theorem State.signalAll_scene (s : State) : (State.signalAll s).scene = s.scene := by simp [State.signalAll]

@[simp] theorem State.interrupt_scene (s : State) (n : Nat) : (State.interrupt s n).scene = s.scene := by simp [State.interrupt]

@[simp] theorem raiseFrom_scene (source code : Nat) (params : List Byte) (s : State) :
    (raiseFrom source code params s).scene = s.scene := by simp [raiseFrom]

@[simp] theorem raise_scene (code : Nat) (params : List Byte) (s : State) : (raise code params s).scene = s.scene := by simp [raise]

@[simp] theorem raiseUpTo_scene (n code key : Nat) (params : List Byte) (s : State) :
    (raiseUpTo n code key params s).scene = s.scene := by simp [raiseUpTo]

@[simp] theorem raiseOnce_scene (code key : Nat) (params : List Byte) (s : State) :
    (raiseOnce code key params s).scene = s.scene := by simp [raiseOnce]

@[simp] theorem countWindow_scene (code key a b : Nat) (s : State) : (countWindow code key a b s).scene = s.scene := by simp [countWindow]

@[simp] theorem State.setSluice_scene (s : State) (q : Nat) (x : Sluice) : (State.setSluice s q x).scene = s.scene := (rfl)

@[simp] theorem sluiceInterrupt_scene (q : Nat) (s : State) : (sluiceInterrupt q s).scene = s.scene := by simp [sluiceInterrupt]

@[simp] theorem sluiceLose_scene (q : Nat) (owe : Bool) (s : State) : (sluiceLose q owe s).scene = s.scene := by simp [sluiceLose]

@[simp] theorem sluiceCommit_scene (q : Nat) (ps : List (List Nat)) (s : State) :
    (sluiceCommit q ps s).scene = s.scene := by simp [sluiceCommit]

@[simp] theorem sluicePost_scene (q : Nat) (words : List Nat) (s : State) : (sluicePost q words s).scene = s.scene := by simp [sluicePost]

@[simp] theorem keyUsed_scene (h : Nat) (usages : List Nat) (s : State) : (keyUsed h usages s).scene = s.scene := by simp [keyUsed]

@[simp] theorem State.setPort_scene (s : State) (p : Nat) (x : Port) : (State.setPort s p x).scene = s.scene := (rfl)

@[simp] theorem State.tally_scene (s : State) (idx sub row n : Nat) : (State.tally s idx sub row n).scene = s.scene := by simp [State.tally]

@[simp] theorem enqueue_scene (p cls src num : Nat) (frame : List Byte) (s : State) :
    (enqueue p cls src num frame s).scene = s.scene := by simp [enqueue]

@[simp] theorem sendPort_scene (p cls src num : Nat) (dst : List Byte) (etype : Nat) (payload : List Byte) (s : State) :
    (sendPort p cls src num dst etype payload s).scene = s.scene := by simp [sendPort]

@[simp] theorem sendPair_scene (pair cls src num : Nat) (dst : List Byte) (etype : Nat) (payload : List Byte) (s : State) :
    (sendPair pair cls src num dst etype payload s).scene = s.scene := by simp [sendPair]

@[simp] theorem sendMask_scene (mask cls src num : Nat) (dst : List Byte) (etype : Nat) (payload : List Byte) (s : State) :
    (sendMask mask cls src num dst etype payload s).scene = s.scene := by simp [sendMask]

@[simp] theorem sendMirror_scene (onM : Bool) (type : Nat) (payload : List Byte) (s : State) :
    (sendMirror onM type payload s).scene = s.scene := by simp [sendMirror]

@[simp] theorem decisionRecord_scene (g slot kind cause : Nat) (arrived : List Nat) (s : State) :
    (decisionRecord g slot kind cause arrived s).scene = s.scene := by simp [decisionRecord]

@[simp] theorem sentMark_scene (source number : Nat) (s : State) : (sentMark source number s).scene = s.scene := by simp [sentMark]

@[simp] theorem holdTx_scene (x : HeldTx) (s : State) : (holdTx x s).scene = s.scene := (rfl)

@[simp] theorem State.setStream_scene (s : State) (h : Nat) (x : Stream) : (State.setStream s h x).scene = s.scene := (rfl)

@[simp] theorem State.setBand_scene (s : State) (r b : Nat) (x : Band) : (State.setBand s r b x).scene = s.scene := (rfl)

@[simp] theorem updateBand_scene (rate : Int) (r h b j : Nat) (s : State) : (updateBand rate r h b j s).scene = s.scene := (rfl)

@[simp] theorem eddyProcess_scene (g i : Nat) (s : State) : (eddyProcess g i s).scene = s.scene := by simp [eddyProcess]

@[simp] theorem eddyRestore_scene (t : Tab BandSpec) (s : State) : (eddyRestore t s).scene = s.scene := by
  refine scene_foldl (fun s e => ?_) _ _
  split <;> simp

@[simp] theorem transitionRecord_scene (r b state env t96 : Nat) (s : State) :
    (transitionRecord r b state env t96 s).scene = s.scene := by simp [transitionRecord]

@[simp] theorem eddyCommit_scene (g i : Nat) (at_ : Tab BandSpec) (s : State) : (eddyCommit g i at_ s).scene = s.scene := by simp [eddyCommit]

@[simp] theorem routePack_scene (dest : Nat) (f : List Byte) (s : State) : (routePack dest f s).scene = s.scene := by simp [routePack]

@[simp] theorem packFrame_scene (dest type g slot : Nat) (entries : List (List Byte)) (tail : List Byte) (s : State) :
    (packFrame dest type g slot entries tail s).scene = s.scene := by simp [packFrame]

@[simp] theorem sendPack_scene (dest type g slot : Nat) (entries : List (List Byte)) (tail : List Byte) (s : State) :
    (sendPack dest type g slot entries tail s).scene = s.scene := by
  simp only [sendPack]
  split
  · rfl
  · split <;> simp

@[simp] theorem sendCounts_scene (g i op : Nat) (s : State) : (sendCounts g i op s).scene = s.scene := by simp [sendCounts]

@[simp] theorem sendNodes_scene (g i : Nat) (s : State) : (sendNodes g i s).scene = s.scene := by simp [sendNodes]

@[simp] theorem sendEdges_scene (g i : Nat) (s : State) : (sendEdges g i s).scene = s.scene := by simp [sendEdges]

@[simp] theorem sendSamples_scene (g i : Nat) (s : State) : (sendSamples g i s).scene = s.scene := by simp [sendSamples]

@[simp] theorem sendResults_scene (g i : Nat) (changed : Bool) (s : State) :
    (sendResults g i changed s).scene = s.scene := by simp [sendResults]

@[simp] theorem State.onMode_scene (s : State) (f : ModeSt → ModeSt) : (State.onMode s f).scene = s.scene := (rfl)

@[simp] theorem setModeState_scene (new cause : Nat) (s : State) : (setModeState new cause s).scene = s.scene := by simp [setModeState]

@[simp] theorem modeSample_scene (samples : List (Option Q)) (s : State) : (modeSample samples s).scene = s.scene := by simp [modeSample]

@[simp] theorem modeCommit_scene (g i : Nat) (s : State) : (modeCommit g i s).scene = s.scene := by simp [modeCommit]

@[simp] theorem State.setBranch_scene (s : State) (n : Nat) (x : Branch) : (State.setBranch s n x).scene = s.scene := (rfl)

@[simp] theorem restartLocation_scene (s : State) : (restartLocation s).scene = s.scene := (rfl)

@[simp] theorem branchSample_scene (n t96 : Nat) (v i : Q × Q) (coef : List Nat) (s : State) :
    (branchSample n t96 v i coef s).scene = s.scene := by simp [branchSample]

@[simp] theorem locationCommit_scene (g i : Nat) (s : State) : (locationCommit g i s).scene = s.scene := by
  unfold locationCommit
  split
  · rfl
  extract_lets rate d n word push rows s1 c moved s2 s3 fo half coef h t
  have h3 : s3.scene = s.scene := by unfold s3 s2; split <;> simp [s1]
  split
  · simp [s1]
  split
  · exact h3
  · refine (scene_foldl (fun s r => ?_) _ _).trans h3
    dsimp only
    split <;> simp

@[simp] theorem State.setOx_scene (s : State) (g : Nat) (x : OxGroup) : (State.setOx s g x).scene = s.scene := (rfl)

@[simp] theorem touchRow_scene (r : Nat) (s : State) : (touchRow r s).scene = s.scene := (rfl)

@[simp] theorem tableIslands_scene (g i nominal : Nat) (l : List Island) (s : State) : (tableIslands g i nominal l s).2.scene = s.scene := by
  unfold tableIslands
  rw [scene_foldl_snd]
  intro p a
  dsimp only
  repeat' split
  all_goals simp

@[simp] theorem trackIslands_scene (g i nominal : Nat) (nodes : Tab OxNode) (main : List Nat) (cs : List (List Nat)) (s : State) :
    (trackIslands g i nominal nodes main cs s).1.scene = s.scene := by
  unfold trackIslands
  dsimp only
  rw [tableIslands_scene]
  refine (scene_foldl (fun s e => ?_) _ _).trans ?_
  · repeat' split
    all_goals simp
  refine (scene_foldl (fun s e => ?_) _ _).trans ?_
  · split <;> simp
  rw [State.onOxbow_scene]
  split <;> simp

@[simp] theorem takeOxSwap_scene (g boundary : Nat) (s : State) : (takeOxSwap g boundary s).scene = s.scene := by
  unfold takeOxSwap
  split <;> simp

@[simp] theorem underSlotSet_scene (g i : Nat) (f : State → State) (s : State) (hf : ∀ s, (f s).scene = s.scene) :
    (underSlotSet g i f s).scene = s.scene := by
  unfold underSlotSet
  split
  · exact hf s
  · exact (scene_withActive (hf _) _).trans (takeOxSwap_scene _ _ _)

@[simp] theorem oxbowEdges_scene (g i : Nat) (s : State) : (oxbowEdges g i s).scene = s.scene := by simp [oxbowEdges]

@[simp] theorem oxbowTrack_scene (g i : Nat) (s : State) : (oxbowTrack g i s).scene = s.scene := by simp [oxbowTrack]

@[simp] theorem reportIsland_scene (kind g nominal other : Nat) (x : Island) (s : State) :
    (reportIsland kind g nominal other x s).scene = s.scene := by simp [reportIsland]

@[simp] theorem reportEnd_scene (g nominal id parent cause other : Nat) (survivor : Option Island) (s : State) :
    (reportEnd g nominal id parent cause other survivor s).scene = s.scene := by
  unfold reportEnd
  repeat' split
  all_goals simp

@[simp] theorem oxbowCommit_scene (g nominal : Nat) (x : OxGroup) (s : State) : (oxbowCommit g nominal x s).scene = s.scene := by
  unfold oxbowCommit
  dsimp only
  split
  · rfl
  refine (scene_foldl (fun s y => ?_) _ _).trans ((scene_foldl (fun s e => ?_) _ _).trans (scene_foldl (fun s e => ?_) _ _))
  · repeat' split
    all_goals simp
  · simp
  · repeat' split
    all_goals simp

@[simp] theorem State.setLom_scene (s : State) (m : Nat) (x : Lom) : (State.setLom s m x).scene = s.scene := (rfl)

@[simp] theorem State.setAlarm_scene (s : State) (r : Nat) (x : Alarm) : (State.setAlarm s r x).scene = s.scene := (rfl)

@[simp] theorem State.setPin_scene (s : State) (p : Nat) (x : Pin) : (State.setPin s p x).scene = s.scene := (rfl)

@[simp] theorem updatePin_scene (p : Nat) (s : State) : (updatePin p s).scene = s.scene := by simp [updatePin]

@[simp] theorem updatePins_scene (s : State) : (updatePins s).scene = s.scene := by simp [updatePins]

@[simp] theorem putAlarmFrame_scene (u : Nat) (p : List Byte) (s : State) : (putAlarmFrame u p s).scene = s.scene := by simp [putAlarmFrame]

@[simp] theorem sendAlarmFrame_scene (u index : Nat) (l : List Byte) (s : State) :
    (sendAlarmFrame u index l s).scene = s.scene := by simp [sendAlarmFrame]

@[simp] theorem State.setBucket_scene (s : State) (u : Nat) (b : Bucket) : (State.setBucket s u b).scene = s.scene := (rfl)

@[simp] theorem sendFirst_scene (u r : Nat) (x : Report) (s : State) : (sendFirst u r x s).scene = s.scene := by simp [sendFirst]

@[simp] theorem offerFrame_scene (u r : Nat) (x : Report) (s : State) : (offerFrame u r x s).scene = s.scene := by
  simp only [offerFrame]
  repeat' split
  all_goals simp

@[simp] theorem sendTransition_scene (r newState : Nat) (payload : List Byte) (s : State) :
    (sendTransition r newState payload s).scene = s.scene := by simp [sendTransition]

@[simp] theorem putGooseFrame_scene (mask cls : Nat) (dst frame : List Byte) (s : State) :
    (putGooseFrame mask cls dst frame s).scene = s.scene := by simp [putGooseFrame]

@[simp] theorem sendGoose_scene (mask cls d : Nat) (s : State) : (sendGoose mask cls d s).scene = s.scene := by simp [sendGoose]

@[simp] theorem putGoose_scene (d : Nat) (x : Goose) (s : State) : (putGoose d x s).scene = s.scene := (rfl)

@[simp] theorem gooseChange_scene (mask cls d : Nat) (members : List (Bool × Nat)) (s : State) :
    (gooseChange mask cls d members s).scene = s.scene := by simp [gooseChange]

@[simp] theorem updateGoose_scene (s : State) : (updateGoose s).scene = s.scene := by simp [updateGoose]

@[simp] theorem State.setChan_scene (s : State) (c : Nat) (x : ChannelSt) : (State.setChan s c x).scene = s.scene := (rfl)

@[simp] theorem State.setFeeder_scene (s : State) (f : Nat) (x : FeederSt) : (State.setFeeder s f x).scene = s.scene := (rfl)

@[simp] theorem postDescriptor_scene (s : State) : (postDescriptor s).scene = s.scene := by simp [postDescriptor]

@[simp] theorem archivePush_scene (l : List Byte) (s : State) : (archivePush l s).scene = s.scene := by simp [archivePush]

@[simp] theorem captureNotice_scene (kind row flags cause number t0 rows : Nat) (s : State) :
    (captureNotice kind row flags cause number t0 rows s).scene = s.scene := by simp [captureNotice]

@[simp] theorem showFree_scene (s : State) : (showFree s).scene = s.scene := (rfl)

@[simp] theorem releaseRow_scene (r : Nat) (s : State) : (releaseRow r s).scene = s.scene := by
  unfold releaseRow
  split <;> simp

@[simp] theorem makeRoom_scene (n : Nat) (y0 : List Nat) (s : State) : (makeRoom n y0 s).scene = s.scene := by
  induction y0 generalizing s with
  | nil => rfl
  | cons r l ih => unfold makeRoom; split <;> simp [ih]

@[simp] theorem reserve_scene (s : State) : (reserve s).2.scene = s.scene := by
  simp only [reserve]
  repeat' split
  all_goals simp

@[simp] theorem suppress_scene (x : Trig) (cause : Nat) (s : State) : (suppress x cause s).scene = s.scene := by simp [suppress]

@[simp] theorem endRecord_scene (cause : Nat) (s : State) : (endRecord cause s).scene = s.scene := by
  unfold endRecord
  split <;> simp

@[simp] theorem checkRecord_scene (s : State) : (checkRecord s).scene = s.scene := by
  unfold checkRecord
  repeat' split
  all_goals simp

@[simp] theorem startRecord_scene (x : Trig) (late : Bool) (s : State) : (startRecord x late s).scene = s.scene := by simp [startRecord]

@[simp] theorem takeTrigger_scene (x : Trig) (late : Bool) (s : State) : (takeTrigger x late s).scene = s.scene := by
  unfold takeTrigger
  repeat' split
  all_goals simp

@[simp] theorem leashForward_scene (x : Trig) (s : State) : (leashForward x s).scene = s.scene := by simp [leashForward]

@[simp] theorem rowFires_scene (n t0 ref : Nat) (s : State) : (rowFires n t0 ref s).scene = s.scene := by simp [rowFires]

@[simp] theorem alarmTrigger_scene (rule new inst_ t0 : Nat) (s : State) :
    (alarmTrigger rule new inst_ t0 s).scene = s.scene := by simp [alarmTrigger]

@[simp] theorem ringFreezeEnd_scene (s : State) : (ringFreezeEnd s).scene = s.scene := by simp [ringFreezeEnd]

@[simp] theorem ringFreeze_scene (rule t96 : Nat) (s : State) : (ringFreeze rule t96 s).scene = s.scene := by simp [ringFreeze]

@[simp] theorem alarmFreeze_scene (rule t96 : Nat) (s : State) : (alarmFreeze rule t96 s).scene = s.scene := by simp [alarmFreeze]

@[simp] theorem ringCommit_scene (g i : Nat) (s : State) : (ringCommit g i s).scene = s.scene := by
  unfold ringCommit
  split <;> simp

@[simp] theorem alarmPacket_scene (r old new group : Nat) (x : Alarm) (decision : Nat) (s : State) :
    (alarmPacket r old new group x decision s).scene = s.scene := by simp [alarmPacket]

@[simp] theorem countTransition_scene (r new cause : Nat) (x : Alarm) (s : State) : (countTransition r new cause x s).scene = s.scene := by
  unfold countTransition
  split <;> simp

@[simp] theorem transition_scene (r new decision cause : Nat) (e : Evaluation) (s : State) :
    (transition r new decision cause e s).scene = s.scene := by simp [transition]

@[simp] theorem moveRaise_scene (r nominal : Nat) (s : State) : (moveRaise r nominal s).scene = s.scene := (rfl)

@[simp] theorem reportDegraded_scene (r d : Nat) (s : State) : (reportDegraded r d s).scene = s.scene := by simp [reportDegraded]

@[simp] theorem ruleDecide_scene (r nominal : Nat) (raised : Bool) (e : Evaluation) (s : State) :
    (ruleDecide r nominal raised e s).scene = s.scene := by simp [ruleDecide]

@[simp] theorem State.setMeter_scene (s : State) (f : Nat) (x : MeterSt) : (State.setMeter s f x).scene = s.scene := (rfl)

@[simp] theorem State.onRegs_scene (s : State) (f : EnergyRegs → EnergyRegs) : (State.onRegs s f).scene = s.scene := (rfl)

@[simp] theorem State.setTherm_scene (s : State) (c : Nat) (x : Therm) : (State.setTherm s c x).scene = s.scene := (rfl)

@[simp] theorem crossCheck_scene (f g i : Nat) (s : State) : (crossCheck f g i s).scene = s.scene := by
  simp only [crossCheck]
  repeat' split
  all_goals simp

@[simp] theorem energyCommit_scene (g i : Nat) (s : State) : (energyCommit g i s).scene = s.scene := by simp [energyCommit]

@[simp] theorem State.setJob_scene (s : State) (j : Nat) (x : JobRow) : (State.setJob s j x).scene = s.scene := (rfl)

@[simp] theorem jobsCommit_scene (g i : Nat) (s : State) : (jobsCommit g i s).scene = s.scene := by
  unfold jobsCommit
  split <;> simp

@[simp] theorem sendIp_scene (pair cls proto : Nat) (dst : List Byte) (payload : List Byte → List Byte) (s : State) :
    (sendIp pair cls proto dst payload s).scene = s.scene := by simp [sendIp]

@[simp] theorem sendUdp_scene (pair cls sport : Nat) (dst : List Byte) (dport : Nat) (payload : List Byte) (s : State) :
    (sendUdp pair cls sport dst dport payload s).scene = s.scene := by simp [sendUdp]

@[simp] theorem sendToSub_scene (r port : Nat) (payload : List Byte) (s : State) :
    (sendToSub r port payload s).scene = s.scene := by simp [sendToSub]

@[simp] theorem sendStreams_scene (d : Dict) (i : Nat) (frames : Tab (List Byte × List Byte)) (s : State) :
    (sendStreams d i frames s).scene = s.scene := by
  unfold sendStreams
  dsimp only
  have hsent (a : State) (ha : a.scene = s.scene) : (if roleNow a = 2 then a else frames.foldl (fun s e => sentMark (srcOutput e.1) i s) a).scene = s.scene := by
    split <;> simp [ha]
  refine hsent _ ((scene_foldl (fun s r => ?_) _ _).trans (scene_foldl_snd (fun p a => ?_) _ _))
  · repeat' split
    all_goals simp
  · repeat' split
    all_goals simp

@[simp] theorem publishCommit_scene (g i : Nat) (s : State) : (publishCommit g i s).scene = s.scene := by
  unfold publishCommit
  split <;> simp

@[simp] theorem archiveWrite_scene (group slot at_ samples : Nat) (l : List Byte) (s : State) :
    (archiveWrite group slot at_ samples l s).scene = s.scene := by
  unfold archiveWrite
  split <;> simp

@[simp] theorem archiveCommit_scene (g i : Nat) (s : State) : (archiveCommit g i s).scene = s.scene := by
  unfold archiveCommit
  split <;> simp

@[simp] theorem applyUndo_scene (g : Nat) (u : Undo) (s : State) : (applyUndo g u s).scene = s.scene := by simp [applyUndo]

@[simp] theorem recordLateness_scene (g h i : Nat) (r : Int) (late : Bool) (s : State) : (recordLateness g h i r late s).scene = s.scene := by
  simp only [recordLateness]
  repeat' split
  all_goals simp

@[simp] theorem sendLatched_scene (g i : Nat) (s : State) : (sendLatched g i s).scene = s.scene := by
  unfold sendLatched
  split <;> simp

@[simp] theorem State.setHkChan_scene (s : State) (c : Nat) (x : HkChannel) :
    (State.setHkChan s c x).scene = s.scene := by simp [State.setHkChan]

end Sys2Proof.Machine
end

section
/-! Deciding on slots: a PROCESS writes no RO object of 0x2320, the counters of the groups. -/

namespace Sys2Proof.Machine
open Sys2Proof

/-- The counters of the groups (0x2320), by sub-index and row. -/
def State.aligned (s : State) (b c : Nat) : Nat := if b < 256 ∧ c < 0x1000000 then s.ro 0x2320 b c else 0

theorem aligned_of {s u : State} (h : ∀ b c, b < 256 → c < 0x1000000 → u.ro 0x2320 b c = s.ro 0x2320 b c) : u.aligned = s.aligned := by
  funext b c
  unfold State.aligned
  split
  next hb => exact h b c hb.1 hb.2
  next => rfl

theorem ro_of_aligned {s u : State} (h : u.aligned = s.aligned) {b c : Nat} (hb : b < 256) (hc : c < 0x1000000) : u.ro 0x2320 b c = s.ro 0x2320 b c := by
  have hsame := congrFun (congrFun h b) c
  simpa [State.aligned, hb, hc] using hsame

theorem aligned_of_status {s u : State} (h : u.status = s.status) : u.aligned = s.aligned := by
  unfold State.aligned State.ro
  rw [h]

theorem aligned_of_touches {ps : List Part} {os : List (Nat × Nat)} {s u : State} (h : Touches ps os s u) (hos : ∀ o ∈ os, o.1 ≠ 0x2320) :
    u.aligned = s.aligned := aligned_of fun _ _ hb hc => h.ro hb hc (fun m => hos _ m rfl) (by decide)

@[simp] theorem aligned_ite (c : Prop) [Decidable c] (a b : State) : (if c then a else b).aligned = if c then a.aligned else b.aligned :=
  apply_ite State.aligned c a b
theorem aligned_foldl_mem {α : Type} {f : State → α → State} {l : List α} (h : ∀ s, ∀ a ∈ l, (f s a).aligned = s.aligned) (s : State) :
    (l.foldl f s).aligned = s.aligned :=
  List.foldlRecOn (motive := fun u : State => u.aligned = s.aligned) l f rfl fun u hu a ha => (h u a ha).trans hu
@[simp] theorem aligned_foldl {α : Type} {f : State → α → State} (h : ∀ s a, (f s a).aligned = s.aligned) (l : List α) (s : State) :
    (l.foldl f s).aligned = s.aligned := aligned_foldl_mem (fun s a _ => h s a) s
@[simp] theorem aligned_foldl_snd {α β : Type} {f : β × State → α → β × State} (h : ∀ p a, (f p a).2.aligned = p.2.aligned) (l : List α) (p : β × State) :
    (l.foldl f p).2.aligned = p.2.aligned := by
  induction l generalizing p with
  | nil => rfl
  | cons a l ih => rw [List.foldl_cons, ih, h]
@[simp] theorem aligned_foldr {α : Type} {f : α → State → State} (h : ∀ s a, (f a s).aligned = s.aligned) (l : List α) (s : State) :
    (l.foldr f s).aligned = s.aligned := by
  induction l with
  | nil => rfl
  | cons a l ih => rw [List.foldr_cons, h, ih]

/-! ### Single writes -/

@[simp] theorem State.setRow_aligned {i : Nat} (h : 0x2320 < i) (j r n : Nat) (s : State) : (s.setRow i j r n).aligned = s.aligned :=
  aligned_of fun _ _ hb hc => ro_setRow_above h hb hc s n
@[simp] theorem State.setRo_aligned {i : Nat} (h : 0x2320 < i) (j n : Nat) (s : State) : (s.setRo i j n).aligned = s.aligned := State.setRow_aligned h ..
@[simp] theorem State.addTo_aligned {i : Nat} (h : 0x2320 < i) (j n r : Nat) (s : State) : (s.addTo i j n r).aligned = s.aligned := State.setRow_aligned h ..
@[simp] theorem State.bump_aligned {i : Nat} (h : 0x2320 < i) (j r : Nat) (s : State) : (s.bump i j r).aligned = s.aligned := State.setRow_aligned h ..
@[simp] theorem State.onOxbow_aligned (s : State) (f : OxbowSt → OxbowSt) : (s.onOxbow f).aligned = s.aligned := rfl
@[simp] theorem State.onEddy_aligned (s : State) (f : EddySt → EddySt) : (s.onEddy f).aligned = s.aligned := rfl
@[simp] theorem State.onAlarm_aligned (s : State) (f : AlarmSt → AlarmSt) : (s.onAlarm f).aligned = s.aligned := rfl
@[simp] theorem State.onPub_aligned (s : State) (f : PubSt → PubSt) : (s.onPub f).aligned = s.aligned := rfl
@[simp] theorem State.onKeys_aligned (s : State) (f : KeySt → KeySt) : (s.onKeys f).aligned = s.aligned := rfl
@[simp] theorem State.onDuplex_aligned (s : State) (f : DuplexSt → DuplexSt) : (s.onDuplex f).aligned = s.aligned := rfl
@[simp] theorem State.onPack_aligned (s : State) (f : PackData → PackData) : (s.onPack f).aligned = s.aligned := rfl
@[simp] theorem State.setGroup_aligned (s : State) (g : Nat) (x : Group) : (s.setGroup g x).aligned = s.aligned := rfl
@[simp] theorem State.setStream_aligned (s : State) (h : Nat) (x : Stream) : (s.setStream h x).aligned = s.aligned := rfl
@[simp] theorem State.setBand_aligned (s : State) (r b : Nat) (x : Band) : (s.setBand r b x).aligned = s.aligned := rfl
@[simp] theorem State.setOx_aligned (s : State) (g : Nat) (x : OxGroup) : (s.setOx g x).aligned = s.aligned := rfl
@[simp] theorem State.setAlarm_aligned (s : State) (r : Nat) (x : Alarm) : (s.setAlarm r x).aligned = s.aligned := rfl
@[simp] theorem State.setBucket_aligned (s : State) (u : Nat) (b : Bucket) : (s.setBucket u b).aligned = s.aligned := rfl
@[simp] theorem setSlot_aligned (g i : Nat) (x : Slot) (s : State) : (setSlot g i x s).aligned = s.aligned := rfl
@[simp] theorem onSlot_aligned (g i : Nat) (f : Slot → Slot) (s : State) : (onSlot g i f s).aligned = s.aligned := by
  unfold onSlot
  split <;> rfl
@[simp] theorem raise_aligned (code : Nat) (params : List Byte) (s : State) : (raise code params s).aligned = s.aligned :=
  aligned_of fun _ _ hb hc => ro_raise (by decide) hb hc code params s
@[simp] theorem raiseOnce_aligned (code key : Nat) (params : List Byte) (s : State) : (raiseOnce code key params s).aligned = s.aligned :=
  aligned_of fun _ _ hb hc => by simp [hb, hc]
@[simp] theorem sluicePost_aligned (q : Nat) (words : List Nat) (s : State) : (sluicePost q words s).aligned = s.aligned :=
  aligned_of fun _ _ hb hc => ro_sluicePost (by decide) hb hc q words s
@[simp] theorem updatePins_aligned (s : State) : (updatePins s).aligned = s.aligned := aligned_of_touches (updatePins_only s).touches (by decide)

/-! ### Sending -/

theorem aligned_of_sends {ps : List Part} {s u : State} (h : Sends ps s u) : u.aligned = s.aligned := aligned_of_touches h.touches (by decide)

@[simp] theorem sendPort_aligned {p : Nat} (hp : p < 8) (cls src num : Nat) (dst : List Byte) (etype : Nat) (payload : List Byte) (s : State) :
    (sendPort p cls src num dst etype payload s).aligned = s.aligned := aligned_of_sends (ps := [.port]) (.sendPort (by simp) hp ..)
@[simp] theorem sendMask_aligned (mask cls src num : Nat) (dst : List Byte) (etype : Nat) (payload : List Byte) (s : State) :
    (sendMask mask cls src num dst etype payload s).aligned = s.aligned := aligned_of_sends (ps := [.port]) (.sendMask (by simp) ..)
@[simp] theorem sendMirror_aligned (type : Nat) (payload : List Byte) (s : State) : (sendMirror false type payload s).aligned = s.aligned :=
  aligned_of_sends (ps := [.port, .duplex]) (.sendMirror (by simp) (by simp) ..)
@[simp] theorem sentMark_aligned (source number : Nat) (s : State) : (sentMark source number s).aligned = s.aligned := by
  unfold sentMark
  split <;> simp
theorem packPort_lt (s : State) (dest : Nat) : packPort s dest < 8 := by
  unfold packPort
  dsimp only
  repeat' split
  all_goals decide
@[simp] theorem routePack_aligned (dest : Nat) (f : List Byte) (s : State) : (routePack dest f s).aligned = s.aligned := by
  refine aligned_foldl_mem (fun u p hp => sendPort_aligned ?_ ..) s
  split at hp
  · simp at hp
    omega
  · rw [List.mem_singleton.mp hp]
    exact packPort_lt s dest

/-! ### Alarm frames, freezes and triggers -/

theorem putAlarmFrame_aligned {u : Nat} (hu : u < 11) (p : List Byte) (s : State) : (putAlarmFrame u p s).aligned = s.aligned := by
  unfold putAlarmFrame
  dsimp only
  rw [State.bump_aligned (by decide)]
  split
  · exact aligned_of_sends (ps := [.port]) (.sendPair (by simp) (by omega) ..)
  · exact sendPort_aligned (by omega) ..
@[simp] theorem keyUsed_aligned (h : Nat) (usages : List Nat) (s : State) : (keyUsed h usages s).aligned = s.aligned := by simp [keyUsed]
@[simp] theorem holdTx_aligned (x : HeldTx) (s : State) : (holdTx x s).aligned = s.aligned := (rfl)
theorem sendAlarmFrame_aligned {u : Nat} (hu : u < 11) (index : Nat) (l : List Byte) (s : State) : (sendAlarmFrame u index l s).aligned = s.aligned := by
  simp [sendAlarmFrame, putAlarmFrame_aligned hu]
theorem sendFirst_aligned {u : Nat} (hu : u < 11) (r : Nat) (x : Report) (s : State) : (sendFirst u r x s).aligned = s.aligned := by
  simp [sendFirst, sendAlarmFrame_aligned hu]
theorem offerFrame_aligned {u : Nat} (hu : u < 11) (r : Nat) (x : Report) (s : State) : (offerFrame u r x s).aligned = s.aligned := by
  simp only [offerFrame]
  split <;> simp [sendFirst_aligned hu]
@[simp] theorem sendTransition_aligned (r new : Nat) (payload : List Byte) (s : State) : (sendTransition r new payload s).aligned = s.aligned :=
  aligned_foldl_mem (fun _ _ hu => offerFrame_aligned (KeepsAlarms.alarmUnits_lt hu) ..) s
@[simp] theorem rowFires_aligned (n t0 ref : Nat) (s : State) : (rowFires n t0 ref s).aligned = s.aligned :=
  aligned_of fun _ _ hb hc => (rowFires_leaves (by decide) hb hc n t0 ref s).2.1
@[simp] theorem alarmTrigger_aligned (rule new inst t0 : Nat) (s : State) : (alarmTrigger rule new inst t0 s).aligned = s.aligned := by
  simp [alarmTrigger]

/-! ### The PROCESS of a slot -/

@[simp] theorem decisionRecord_aligned (g slot kind cause : Nat) (arrived : List Nat) (s : State) :
    (decisionRecord g slot kind cause arrived s).aligned = s.aligned := by simp [decisionRecord]

@[simp] theorem updateBand_aligned (rate : Int) (r h b j : Nat) (s : State) : (updateBand rate r h b j s).aligned = s.aligned :=
  State.bump_aligned (by decide) ..

@[simp] theorem eddyProcess_aligned (g i : Nat) (s : State) : (eddyProcess g i s).aligned = s.aligned := by simp [eddyProcess]

@[simp] theorem eddyRestore_aligned (t : Tab BandSpec) (s : State) : (eddyRestore t s).aligned = s.aligned := by
  refine aligned_foldl (fun s e => ?_) _ _
  split <;> simp

@[simp] theorem packFrame_aligned (dest type g slot : Nat) (entries : List (List Byte)) (tail : List Byte) (s : State) :
    (packFrame dest type g slot entries tail s).aligned = s.aligned := by simp [packFrame]

@[simp] theorem sendPack_aligned (dest type g slot : Nat) (entries : List (List Byte)) (tail : List Byte) (s : State) :
    (sendPack dest type g slot entries tail s).aligned = s.aligned := by
  simp only [sendPack]
  split
  · rfl
  · split <;> simp

@[simp] theorem sendCounts_aligned (g i op : Nat) (s : State) : (sendCounts g i op s).aligned = s.aligned := by simp [sendCounts]

@[simp] theorem sendNodes_aligned (g i : Nat) (s : State) : (sendNodes g i s).aligned = s.aligned := by simp [sendNodes]

@[simp] theorem sendEdges_aligned (g i : Nat) (s : State) : (sendEdges g i s).aligned = s.aligned := by simp [sendEdges]

@[simp] theorem sendResults_aligned (g i : Nat) (changed : Bool) (s : State) :
    (sendResults g i changed s).aligned = s.aligned := by simp [sendResults]

@[simp] theorem touchRow_aligned (r : Nat) (s : State) : (touchRow r s).aligned = s.aligned := (rfl)

@[simp] theorem tableIslands_aligned (g i nominal : Nat) (l : List Island) (s : State) : (tableIslands g i nominal l s).2.aligned = s.aligned := by
  unfold tableIslands
  rw [aligned_foldl_snd]
  intro p a
  dsimp only
  repeat' split
  all_goals simp

@[simp] theorem trackIslands_aligned (g i nominal : Nat) (nodes : Tab OxNode) (main : List Nat) (cs : List (List Nat)) (s : State) :
    (trackIslands g i nominal nodes main cs s).1.aligned = s.aligned := by
  unfold trackIslands
  dsimp only
  rw [tableIslands_aligned]
  refine (aligned_foldl (fun s e => ?_) _ _).trans ?_
  · repeat' split
    all_goals simp
  refine (aligned_foldl (fun s e => ?_) _ _).trans ?_
  · split <;> simp
  rw [State.onOxbow_aligned]
  split <;> simp

@[simp] theorem takeOxSwap_aligned (g boundary : Nat) (s : State) : (takeOxSwap g boundary s).aligned = s.aligned := by
  unfold takeOxSwap
  split <;> simp

@[simp] theorem underSlotSet_aligned (g i : Nat) (f : State → State) (s : State) (hf : ∀ s, (f s).aligned = s.aligned) :
    (underSlotSet g i f s).aligned = s.aligned := by
  unfold underSlotSet
  split
  next => exact hf s
  next sl _ =>
    exact (aligned_of_status rfl).trans ((hf _).trans ((aligned_of_status rfl).trans (takeOxSwap_aligned g sl.boundary s)))

@[simp] theorem oxbowEdges_aligned (g i : Nat) (s : State) : (oxbowEdges g i s).aligned = s.aligned := by simp [oxbowEdges]

@[simp] theorem oxbowTrack_aligned (g i : Nat) (s : State) : (oxbowTrack g i s).aligned = s.aligned := by simp [oxbowTrack]

@[simp] theorem putGooseFrame_aligned (mask cls : Nat) (dst frame : List Byte) (s : State) :
    (putGooseFrame mask cls dst frame s).aligned = s.aligned := by simp [putGooseFrame]

@[simp] theorem sendGoose_aligned (mask cls d : Nat) (s : State) : (sendGoose mask cls d s).aligned = s.aligned := by simp [sendGoose]

@[simp] theorem putGoose_aligned (d : Nat) (x : Goose) (s : State) : (putGoose d x s).aligned = s.aligned := by simp [putGoose]

@[simp] theorem gooseChange_aligned (mask cls d : Nat) (members : List (Bool × Nat)) (s : State) :
    (gooseChange mask cls d members s).aligned = s.aligned := by simp [gooseChange]

@[simp] theorem updateGoose_aligned (s : State) : (updateGoose s).aligned = s.aligned := by simp [updateGoose]

@[simp] theorem ringFreezeEnd_aligned (s : State) : (ringFreezeEnd s).aligned = s.aligned := by simp [ringFreezeEnd]

@[simp] theorem ringFreeze_aligned (rule t96 : Nat) (s : State) : (ringFreeze rule t96 s).aligned = s.aligned := by simp [ringFreeze]

@[simp] theorem alarmFreeze_aligned (rule t96 : Nat) (s : State) : (alarmFreeze rule t96 s).aligned = s.aligned := by simp [alarmFreeze]

@[simp] theorem aligned_snd_ite {α : Type} (c : Prop) [Decidable c] (a b : α × State) :
    (if c then a else b).2.aligned = if c then a.2.aligned else b.2.aligned := apply_ite (fun p : α × State => p.2.aligned) c a b
@[simp] theorem latch_aligned (v : View) (row : Nat) (x : TermVal) (s : State) : (latch v row x s).2.aligned = s.aligned := by
  unfold latch
  split <;> simp

@[simp] theorem evaluate_aligned (r : Nat) (v : Option View) (s : State) : (evaluate r v s).2.aligned = s.aligned := by
  unfold evaluate
  split <;> simp

@[simp] theorem alarmPacket_aligned (r old new group : Nat) (x : Alarm) (decision : Nat) (s : State) :
    (alarmPacket r old new group x decision s).aligned = s.aligned := by simp [alarmPacket]

@[simp] theorem countTransition_aligned (r new cause : Nat) (x : Alarm) (s : State) : (countTransition r new cause x s).aligned = s.aligned := by
  unfold countTransition
  split <;> simp

@[simp] theorem transition_aligned (r new decision cause : Nat) (e : Evaluation) (s : State) :
    (transition r new decision cause e s).aligned = s.aligned := by simp [transition]

@[simp] theorem moveRaise_aligned (r nominal : Nat) (s : State) : (moveRaise r nominal s).aligned = s.aligned := (rfl)

@[simp] theorem ruleProcess_aligned (r nominal : Nat) (replay direct : Bool) (v : View) (s : State) :
    (ruleProcess r nominal replay direct v s).aligned = s.aligned := by simp [ruleProcess]

@[simp] theorem alarmProcess_aligned (g k : Nat) (replay direct : Bool) (s : State) : (alarmProcess g k replay direct s).aligned = s.aligned := by
  unfold alarmProcess
  split <;> simp

@[simp] theorem deliverProcess_aligned (g i : Nat) (replay direct : Bool) (s : State) :
    (deliverProcess g i replay direct s).aligned = s.aligned := by simp [deliverProcess]

@[simp] theorem applyUndo_aligned (g : Nat) (u : Undo) (s : State) : (applyUndo g u s).aligned = s.aligned := by simp [applyUndo]

@[simp] theorem sendLatched_aligned (g i : Nat) (s : State) : (sendLatched g i s).aligned = s.aligned := by
  unfold sendLatched
  split <;> simp

end Sys2Proof.Machine
end

section
/-! Deciding on slots: what a PROCESS and a COMMIT leave of the one slot that a group holds (R199–R204). -/

namespace Sys2Proof.Machine
open Sys2Proof

/-! ### A slot as decisions see it -/

/-- A slot without its predictions, its latched values and its undo log: no decision looks at these. -/
def Slot.decided (x : Slot) : Slot := { x with predicted := [], predictedStreams := 0, latched := [], undo := none }

theorem decided_state {x y : Slot} (h : x.decided = y.decided) : x.state = y.state := (congrArg Slot.state h :)
theorem decided_rate {x y : Slot} (h : x.decided = y.decided) : x.rate = y.rate := (congrArg Slot.rate h :)
theorem decided_complete {x y : Slot} (h : x.decided = y.decided) : x.complete = y.complete := (congrArg Slot.complete h :)
theorem decided_waitOver {x y : Slot} (h : x.decided = y.decided) (t : Nat) : x.waitOver t = y.waitOver t := (congrArg (Slot.waitOver · t) h :)

/-! ### A PROCESS outside a pack -/

theorem eddyProcess_touches (g i : Nat) (s : State) : Touches [.eddy] [(0x2540, 1)] s (eddyProcess g i s) := by
  unfold eddyProcess
  split
  · exact .refl _ _ _
  · refine (touches_foldl fun u p _ => ?_).mpr (.refl _ _ _)
    refine (touches_foldl fun v b _ => ?_).mpr (.refl _ _ _)
    dsimp only
    split <;> simp [updateBand, State.setBand]

theorem sendCounts_alone {s : State} (h : packed s = false) (g i op : Nat) : sendCounts g i op s = s := if_pos (by simp [h])
theorem sendNodes_alone {s : State} (h : packed s = false) (g i : Nat) : sendNodes g i s = s := if_pos (by simp [h])

/-! ### A group with one slot -/

/-- Group g is the group x but for the slots, and holds one slot alone, i, in which decisions see sl. -/
def Alone (g i : Nat) (x : Group) (sl : Slot) (s : State) : Prop := ∃ y, s.group g = { x with slots := [(i, y)] } ∧ y.decided = sl.decided

/-- What follows leaves the time, the device state, the set and what waits as they were, and groups with one slot too, but for what no decision
looks at. -/
structure Undecided (s u : State) : Prop where
  scene : u.scene.2 = s.scene.2
  alone : ∀ g i x sl, Alone g i x sl s → Alone g i x sl u

theorem group_setGroup_ne {g k : Nat} (h : k ≠ g) (x : Group) (s : State) : (s.setGroup g x).group k = s.group k := by
  simp [State.group, State.setGroup, tabGet_putKey_ne h]

namespace Alone
variable {g i : Nat} {x : Group} {sl : Slot} {s : State}

theorem of_group {u : State} (h : Alone g i x sl s) (hgroup : u.group g = s.group g) : Alone g i x sl u := by
  obtain ⟨y, hy, hsl⟩ := h
  exact ⟨y, hgroup.trans hy, hsl⟩

theorem slot? (h : Alone g i x sl s) : ∃ y, s.group g = { x with slots := [(i, y)] } ∧ (s.group g).slot? i = some y ∧ y.decided = sl.decided := by
  obtain ⟨y, hy, hsl⟩ := h
  exact ⟨y, hy, by simp [Group.slot?, hy, lookup], hsl⟩

/-- The group changes but for its slots. -/
theorem setGroup (h : Alone g i x sl s) {f : Group → Group} {x' : Group} (hf : ∀ l, f { x with slots := l } = { x' with slots := l }) :
    Alone g i x' sl (s.setGroup g (f (s.group g))) := by
  obtain ⟨y, hy, hsl⟩ := h
  exact ⟨y, by rw [group_setGroup, hy, hf], hsl⟩

/-- The slot is written. -/
theorem setSlot (h : Alone g i x sl s) (y : Slot) : Alone g i x y (setSlot g i y s) := by
  obtain ⟨z, hz, -⟩ := h
  exact ⟨y, by simp [Machine.setSlot, hz, putKey], rfl⟩

/-- The slot changes. -/
theorem onSlot {sl' : Slot} (h : Alone g i x sl s) {f : Slot → Slot} (hf : ∀ y, y.decided = sl.decided → (f y).decided = sl'.decided) :
    Alone g i x sl' (onSlot g i f s) := by
  obtain ⟨y, hy, hslot, hsl⟩ := h.slot?
  unfold Machine.onSlot
  rw [hslot]
  exact ⟨f y, by simp [Machine.setSlot, hy, putKey], hf y hsl⟩

end Alone

namespace Undecided
variable {s u v : State}

theorem refl (s : State) : Undecided s s := ⟨rfl, fun _ _ _ _ h => h⟩

theorem trans (h : Undecided s u) (k : Undecided u v) : Undecided s v := ⟨k.scene.trans h.scene, fun g i x sl a => k.alone g i x sl (h.alone g i x sl a)⟩

theorem of_scene (h : u.scene = s.scene) : Undecided s u :=
  ⟨congrArg Prod.snd h, fun g _ _ _ a => a.of_group (group_of (congrArg Prod.fst h) g)⟩

theorem foldl {α : Type} {f : State → α → State} (h : ∀ s a, Undecided s (f s a)) (l : List α) (s : State) : Undecided s (l.foldl f s) := by
  induction l generalizing s with
  | nil => exact refl s
  | cons a l ih => exact (h s a).trans (ih _)

theorem foldl_snd {α β : Type} {f : β × State → α → β × State} (h : ∀ p a, Undecided p.2 (f p a).2) (l : List α) (p : β × State) :
    Undecided p.2 (l.foldl f p).2 := by
  induction l generalizing p with
  | nil => exact refl p.2
  | cons a l ih => exact (h p a).trans (ih _)

theorem ite {c : Prop} [Decidable c] {a b : State} (ha : Undecided s a) (hb : Undecided s b) : Undecided s (if c then a else b) := by
  split
  · exact ha
  · exact hb

/-- A slot changes in what no decision looks at. -/
theorem onSlot (g i : Nat) {f : Slot → Slot} (hf : ∀ x, (f x).decided = x.decided) (s : State) : Undecided s (onSlot g i f s) := by
  unfold Machine.onSlot
  split
  next x hslot =>
    refine ⟨rfl, fun k j y sl h => ?_⟩
    by_cases hk : k = g
    · subst hk
      obtain ⟨z, hz, hsl⟩ := h
      have hj : j = i ∧ z = x := by simpa [Group.slot?, hz, lookup] using hslot
      obtain ⟨rfl, rfl⟩ := hj
      exact ⟨f z, by simp [setSlot, hz, putKey], (hf z).trans hsl⟩
    · exact h.of_group (group_setGroup_ne hk _ s)
  next => exact refl s

theorem latch (v : View) (row : Nat) (x : TermVal) (s : State) : Undecided s (latch v row x s).2 := by
  unfold Machine.latch
  split
  · exact refl s
  · exact onSlot _ _ (f := fun sl => { sl with latched := putKey row _ sl.latched }) (fun _ => rfl) s

theorem evaluate (r : Nat) (v : Option View) (s : State) : Undecided s (evaluate r v s).2 := by
  unfold Machine.evaluate
  extract_lets mask out t d vals
  refine foldl_snd (fun p a => ?_) _ ([], s)
  dsimp only
  split
  · split
    · exact latch ..
    · exact refl _
  · exact refl _

theorem ruleProcess (r nominal : Nat) (replay direct : Bool) (v : View) (s : State) : Undecided s (ruleProcess r nominal replay direct v s) := by
  refine (evaluate r (some v) s).trans ?_
  unfold Machine.ruleProcess
  generalize Machine.evaluate r (some v) s = e
  obtain ⟨e, s⟩ := e
  exact of_scene (by simp)

theorem alarmProcess (g k : Nat) (replay direct : Bool) (s : State) : Undecided s (alarmProcess g k replay direct s) := by
  unfold Machine.alarmProcess
  split
  · exact refl s
  · dsimp only
    exact trans (foldl (fun s r => ite (ruleProcess ..) (refl s)) _ s) (of_scene (by rw [updatePins_scene, updateGoose_scene]))

/-- A PROCESS that waits for no other member. -/
theorem deliverProcess (g i : Nat) (replay direct : Bool) (h : packed s = false ∨ replay = true) : Undecided s (deliverProcess g i replay direct s) := by
  have hdue : (packed (sendNodes g i (sendCounts g i 0 (eddyProcess g i s))) && !replay) = false := by
    obtain h | h := h
    · have hpacked : packed (eddyProcess g i s) = false := (packed_of (eddyProcess_touches g i s) (by simp) (by simp)).trans h
      rw [sendCounts_alone hpacked, sendNodes_alone hpacked, hpacked, Bool.false_and]
    · rw [h, Bool.not_true, Bool.and_false]
  unfold Machine.deliverProcess
  dsimp only
  rw [if_neg (by rw [hdue]; exact Bool.false_ne_true)]
  exact trans (u := sendResults g i false (oxbowTrack g i (sendEdges g i (oxbowEdges g i (sendNodes g i (sendCounts g i 0 (eddyProcess g i s)))))))
    (of_scene (by simp)) (alarmProcess ..)

theorem ruleCommit (r nominal : Nat) (v : View) (s : State) : Undecided s (ruleCommit r nominal v s) := by
  refine (evaluate r (some v) s).trans ?_
  unfold Machine.ruleCommit
  generalize Machine.evaluate r (some v) s = e
  obtain ⟨e, s⟩ := e
  exact of_scene (by simp)

theorem alarmCommit (g k : Nat) (bands : Tab BandSpec) (ox : OxGroup) (s : State) : Undecided s (alarmCommit g k bands ox s) := by
  unfold Machine.alarmCommit
  split
  · exact refl s
  · dsimp only
    exact trans (foldl (fun s r => ite (ruleCommit ..) (refl s)) _ s) (of_scene (by rw [updatePins_scene, updateGoose_scene]))

theorem deliverCommit (g i : Nat) (sl : Slot) (s : State) : Undecided s (deliverCommit g i sl s) := by
  unfold Machine.deliverCommit
  extract_lets next bands ox v w z
  have hv : Undecided s v := of_scene (by simp [v])
  have hw : Undecided v w := trans (u := locationCommit g i (modeCommit g i v)) (of_scene (by simp)) (alarmCommit g i bands ox _)
  exact (hv.trans hw).trans (of_scene (by simp [z]))

theorem predictSlot (g i : Nat) (s : State) : Undecided s (predictSlot g i s) := by
  unfold Machine.predictSlot
  split
  · exact refl s
  · extract_lets one
    generalize List.foldl one ([], 0) _ = p
    obtain ⟨t, n⟩ := p
    exact trans (onSlot g i (f := fun x => { x with predicted := t, predictedStreams := n }) (fun _ => rfl) s) (of_scene (State.addTo_scene ..))

end Undecided

end Sys2Proof.Machine
end

section
/-! Releases, commits and recalls of a group's only slot (R199–R204, R217–R226). -/

namespace Sys2Proof.Machine
open Sys2Proof

section decisions
variable {g i : Nat} {x : Group} {sl : Slot} {s : State}

/-! ### Which decision a group's only slot has -/

theorem inOrder_one {y : Slot} (h : x.slots = [(i, y)]) : inOrder x = [(i, y)] := by simp [inOrder, h, sortBy, insertBy]

theorem slotBefore_one {y : Slot} (h : x.slots = [(i, y)]) : slotBefore x y.boundary = none := by simp [slotBefore, inOrder_one h]

theorem predecessorLeft_one {y : Slot} (h : x.slots = [(i, y)]) : predecessorLeft x y = true := by simp [predecessorLeft, slotBefore_one h]

/-- The decision on the only slot, where it is OPEN or RELEASED and its commit is due. -/
theorem slotDecision_commit {y : Slot} (h : x.slots = [(i, y)]) (hstate : y.state = 1 ∨ y.state = 2) (hover : y.waitOver s.t96 = true) :
    slotDecision s x y = some (true, 0) := by
  simp [slotDecision, slotBefore_one h, hover, hstate]

theorem slotDecision_release {y : Slot} (h : x.slots = [(i, y)]) (hstate : y.state = 1) (hspeculative : y.speculative = true) (hcomplete : y.complete = false)
    (hquorum : y.quorumMet = false) (hover : y.waitOver s.t96 = false) (hreleases : y.waitReleases s.fnom s.t96 = true) :
    slotDecision s x y = some (false, 2) := by
  simp [slotDecision, predecessorLeft_one h, hstate, hspeculative, hcomplete, hquorum, hover, hreleases]

/-- The slot has left OPEN, and no commit of it is due. -/
def Slot.settledAt (y : Slot) (t96 : Nat) : Prop := y.state ≠ 1 ∧ (y.state = 2 → y.complete = false ∧ y.waitOver t96 = false)

theorem Slot.settledAt.of_decided {y z : Slot} {t96 : Nat} (h : y.settledAt t96) (hdecided : z.decided = y.decided) : z.settledAt t96 := by
  unfold Slot.settledAt
  rw [decided_state hdecided, decided_complete hdecided, decided_waitOver hdecided]
  exact h

theorem slotDecision_settled {y : Slot} (h : y.settledAt s.t96) (x : Group) : slotDecision s x y = none := by
  obtain ⟨hopen, hdue⟩ := h
  by_cases hreleased : y.state = 2
  · simp [slotDecision, hreleased, hdue hreleased]
  · simp [slotDecision, hopen, hreleased]

/-- The only slot with the streams that had arrived when a condition of its release first held (R227). -/
def Slot.noted (s : State) (y : Slot) : Slot :=
  if y.state == 1 && y.arrivedAtRelease.isNone && (y.quorumMet || y.complete || y.waitReleases s.fnom s.t96) then
    { y with arrivedAtRelease := some y.arrived }
  else y

theorem noteReference_one {y : Slot} (h : s.group g = { x with slots := [(i, y)] }) : noteReference g s = s.setGroup g { x with slots := [(i, y.noted s)] } := by
  unfold noteReference
  dsimp only
  rw [h]
  simp only [List.map_cons, List.map_nil, predecessorLeft_one (x := { x with slots := [(i, y)] }) rfl, Bool.and_true]
  unfold Slot.noted
  split <;> rfl

theorem noted_settled {y : Slot} (h : y.state ≠ 1) (s : State) : y.noted s = y := if_neg (by simp [h])

theorem decideOne_one {y : Slot} (h : s.group g = { x with slots := [(i, y)] }) (hwaits : packWaits s g = false) :
    decideOne g s = match slotDecision s (s.group g) y with
      | some (true, _) => some (commitSlot g i s)
      | some (false, cause) => some (releaseSlot g i cause s)
      | none => none := by
  have hslots : (s.group g).slots = [(i, y)] := by rw [h]
  unfold decideOne
  dsimp only
  rw [hwaits, inOrder_one hslots]
  simp only [Bool.false_eq_true, if_false, List.findSome?_cons, List.findSome?_nil]
  obtain _ | ⟨_ | _, cause⟩ := slotDecision s (s.group g) y <;> rfl

theorem decideOne_settled {y : Slot} (h : s.group g = { x with slots := [(i, y)] }) (hsettled : y.settledAt s.t96) : decideOne g s = none := by
  by_cases hwaits : packWaits s g = true
  · exact if_pos hwaits
  · rw [decideOne_one h (by simpa using hwaits), slotDecision_settled hsettled]

/-- Where nothing is left to decide, the group stays, and the counters. -/
theorem decideLoop_settled {y : Slot} (h : s.group g = { x with slots := [(i, y)] }) (hsettled : y.settledAt s.t96) (n : Nat) :
    (decideLoop g n s).group g = s.group g ∧ (decideLoop g n s).aligned = s.aligned := by
  cases n with
  | zero => exact ⟨rfl, rfl⟩
  | succ n =>
    have hnote : noteReference g s = s.setGroup g (s.group g) := by rw [noteReference_one h, noted_settled hsettled.1, ← h]
    unfold decideLoop
    rw [hnote, decideOne_settled (s := s.setGroup g (s.group g)) (by rw [group_setGroup, h]) hsettled]
    exact ⟨group_setGroup .., rfl⟩

theorem decideGroup_settled {y : Slot} (h : s.group g = { x with slots := [(i, y)] }) (hsettled : y.settledAt s.t96) :
    (decideGroup g s).group g = s.group g ∧ (decideGroup g s).aligned = s.aligned := by
  unfold decideGroup
  split
  · have hnote : noteReference g s = s.setGroup g (s.group g) := by rw [noteReference_one h, noted_settled hsettled.1, ← h]
    rw [hnote]
    exact ⟨group_setGroup .., rfl⟩
  · exact decideLoop_settled h hsettled _

theorem takeDecisions_settled {y : Slot} (h : s.group g = { x with slots := [(i, y)] }) (hsettled : y.settledAt s.t96) :
    (takeDecisions g s).group g = s.group g ∧ (takeDecisions g s).aligned = s.aligned := by
  unfold takeDecisions
  split
  · exact ⟨rfl, rfl⟩
  split
  · exact ⟨group_onIngest .., rfl⟩
  · exact decideGroup_settled h hsettled

/-- A decision on the only slot is the first that is taken. -/
theorem takeDecisions_one {y : Slot} (h : s.group g = { x with slots := [(i, y)] }) (hfollows : follows s = false) (hrun : s.running = true)
    (hframes : framesToCome s = false) (hrecall : x.recallTarget = none) (hwaits : packWaits s g = false) :
    takeDecisions g s = decideLoop g 3 s := by
  unfold takeDecisions decideGroup
  rw [hfollows, hrun, hframes, hwaits, h]
  simp [hrecall]

/-! ### The end of a decision -/

theorem decided_dropUndo (c : Prop) [Decidable c] (y : Slot) : (if c then { y with undo := none } else y).decided = y.decided := by
  split <;> rfl

theorem Alone.prune (h : Alone g i x sl s) (hnewest : x.newest = none ∨ x.newest = some i) (hkeeps : sl.rate = x.rate ∨ sl.state ≠ 4) :
    Alone g i x sl (pruneSlots g s) := by
  obtain ⟨y, hy, hsl⟩ := h
  have hrate : y.rate = sl.rate := decided_rate hsl
  have hstate : y.state = sl.state := decided_state hsl
  unfold pruneSlots
  dsimp only
  rw [hy]
  obtain hnone | hsome := hnewest
  · rw [hnone]
    exact ⟨y, hy, hsl⟩
  · rw [hsome]
    dsimp only
    have hkept : (decide (if y.rate = x.rate then i + 32 ≤ i else (y.state == 4) = true) && y.state == 4) = false := by
      by_cases hr : y.rate = x.rate
      · simp [hr, show ¬i + 32 ≤ i by omega]
      · simp [hr, hstate, hkeeps.resolve_left (hrate ▸ hr)]
    refine ⟨if (if y.rate = x.rate then i + 32 ≤ i else (y.state == 4) = true) then { y with undo := none } else y, ?_, ?_⟩
    · rw [group_setGroup, List.filter_cons_of_pos (by rw [hkept]; rfl), List.filter_nil, List.map_singleton]
      simp only [hsome]
    · exact (decided_dropUndo ..).trans hsl

theorem Alone.leaveOpen (h : Alone g i x sl s) (hnewest : x.newest = none ∨ x.newest = some i) (z : Slot) :
    ∃ n, (n = none ∨ n = some i) ∧ (z.rate = x.rate → n = some i) ∧ Alone g i { x with newest := n } sl (leaveOpen g i z s) := by
  obtain ⟨y, hy, hsl⟩ := h
  unfold Machine.leaveOpen
  dsimp only
  rw [hy]
  split
  next =>
    refine ⟨some i, .inr rfl, fun _ => rfl, y, ?_, hsl⟩
    obtain hnone | hsome := hnewest
    · simp [hnone]
    · simp [hsome]
  next hne => exact ⟨x.newest, hnewest, fun hr => absurd hr hne, y, hy, hsl⟩

/-! ### A release (R199) -/

/-- The released slot. -/
def Slot.released (y : Slot) (cause : Nat) (s : State) : Slot :=
  { y with state := 2, cause := cause, releaseT96 := s.t96, cls := s.timeClass, arrivedAtRelease := some y.arrived }

/-- A release up to its PROCESS. -/
def releaseBegun (g i cause : Nat) (y : Slot) (s : State) : State := predictSlot g i (leaveOpen g i y (setSlot g i (y.released cause s) s))

/-- A release from its PROCESS on. -/
def releaseDelivered (g i cause : Nat) (y : Slot) (s : State) : State :=
  let v := onSlot g i (fun x => { x with undo := some (undoOf g s (deliverProcess g i false false s)) }) (deliverProcess g i false false s)
  let v := v.setGroup g { v.group g with newestReleased := some i }
  pruneSlots g (decisionRecord g i 0 cause y.arrived (sendLatched g i (v.bump 0x2320 0x01 g)))

theorem releaseSlot_eq {y : Slot} (h : (s.group g).slot? i = some y) (cause : Nat) :
    releaseSlot g i cause s = releaseDelivered g i cause y (releaseBegun g i cause y s) := by
  unfold releaseSlot
  rw [h]
  rfl

theorem touches_leaveOpen (g i : Nat) (z : Slot) (s : State) : Touches [.groups] [] s (leaveOpen g i z s) := by
  unfold leaveOpen
  dsimp only
  split <;> simp

theorem touches_pruneSlots (g : Nat) (s : State) : Touches [.groups] [] s (pruneSlots g s) := by
  unfold pruneSlots
  dsimp only
  split <;> simp

theorem touches_onSlot (g i : Nat) (f : Slot → Slot) (s : State) : Touches [.groups] [] s (onSlot g i f s) := by
  unfold onSlot
  split <;> simp [setSlot]

theorem touches_predictSlot {g : Nat} (hg : g < 64) (i : Nat) (s : State) : Touches [.groups] [(0x2320, 7)] s (predictSlot g i s) := by
  have hrow : g < 0x1000000 := by omega
  unfold predictSlot
  split
  · exact .refl _ _ _
  · extract_lets one
    generalize List.foldl one ([], 0) _ = p
    obtain ⟨t, n⟩ := p
    simpa [hrow] using (touches_onSlot g i (fun x => { x with predicted := t, predictedStreams := n }) s).mono (by simp) (by simp)

/-! Writes of a group alone: what waits, the time and the device state stay. -/

theorem scene_onSlot (g i : Nat) (f : Slot → Slot) (s : State) : (onSlot g i f s).scene.2 = s.scene.2 := by
  unfold onSlot
  split <;> rfl
theorem scene_leaveOpen (g i : Nat) (z : Slot) (s : State) : (leaveOpen g i z s).scene.2 = s.scene.2 := by
  unfold leaveOpen
  dsimp only
  split <;> rfl
theorem scene_pruneSlots (g : Nat) (s : State) : (pruneSlots g s).scene.2 = s.scene.2 := by
  unfold pruneSlots
  dsimp only
  split <;> rfl

theorem releaseBegun_alone {y : Slot} (hg : g < 64) (h : s.group g = { x with slots := [(i, y)] }) (hnewest : x.newest = none) (cause : Nat) :
    (∃ n, (n = none ∨ n = some i) ∧ Alone g i { x with newest := n } (y.released cause s) (releaseBegun g i cause y s)) ∧
    (releaseBegun g i cause y s).scene.2 = s.scene.2 ∧ Touches [.groups] [(0x2320, 7)] s (releaseBegun g i cause y s) := by
  have hset : Alone g i x (y.released cause s) (setSlot g i (y.released cause s) s) := Alone.setSlot ⟨y, h, rfl⟩ _
  obtain ⟨n, hn, -, hleft⟩ := hset.leaveOpen (.inl hnewest) y
  have hpredicted := Undecided.predictSlot g i (leaveOpen g i y (setSlot g i (y.released cause s) s))
  refine ⟨⟨n, hn, hpredicted.alone g i _ _ hleft⟩, hpredicted.scene.trans (scene_leaveOpen ..), ?_⟩
  have htouches : Touches [.groups] [] s (setSlot g i (y.released cause s) s) := by simp [setSlot]
  exact ((htouches.trans (touches_leaveOpen ..)).mono (by simp) (by simp)).trans (touches_predictSlot hg ..)

theorem releaseDelivered_alone {n : Option Nat} (h : Alone g i { x with newest := n } sl s) (hn : n = none ∨ n = some i)
    (hpacked : packed s = false) (hstate : sl.state = 2) (cause : Nat) (y : Slot) :
    Alone g i { x with newest := n, newestReleased := some i } sl (releaseDelivered g i cause y s) ∧
    (releaseDelivered g i cause y s).scene.2 = s.scene.2 := by
  unfold releaseDelivered
  extract_lets v before w
  have hprocess : Undecided s (deliverProcess g i false false s) := .deliverProcess _ _ _ _ (.inl hpacked)
  have hv : Undecided s v := hprocess.trans (.onSlot g i (f := fun x => { x with undo := some (undoOf g s (deliverProcess g i false false s)) }) (fun _ => rfl) _)
  clear_value v
  have hw : Alone g i { x with newest := n, newestReleased := some i } sl w := (hv.alone g i _ _ h).setGroup (f := fun x => { x with newestReleased := some i }) fun _ => rfl
  have hscene : w.scene.2 = v.scene.2 := rfl
  clear_value w
  have hsent : Undecided w (decisionRecord g i 0 cause y.arrived (sendLatched g i (w.bump 0x2320 0x01 g))) := .of_scene (by simp)
  exact ⟨(hsent.alone g i _ _ hw).prune hn (.inr (by simp [hstate])), (scene_pruneSlots ..).trans ((hsent.scene.trans hscene).trans hv.scene)⟩

theorem releaseDelivered_counts (hg : g < 64) (cause : Nat) (y : Slot) (s : State) :
    (releaseDelivered g i cause y s).ro 0x2320 1 g = (s.ro 0x2320 1 g + 1) % 2 ^ 64 := by
  have hrow : g < 0x1000000 := by omega
  unfold releaseDelivered
  extract_lets v before w
  have hw : w.aligned = s.aligned := by simp [w, v]
  have hsent : (decisionRecord g i 0 cause y.arrived (sendLatched g i (w.bump 0x2320 0x01 g))).aligned = (w.bump 0x2320 0x01 g).aligned := by simp
  rw [(touches_pruneSlots ..).ro (by decide) hrow (by simp) (by decide), ro_of_aligned hsent (by decide) hrow, ro_bump_self, ro_of_aligned hw (by decide) hrow]
  rfl

/-- The release of the only slot. -/
theorem releaseSlot_alone {y : Slot} (hg : g < 64) (h : s.group g = { x with slots := [(i, y)] }) (hnewest : x.newest = none) (hpacked : packed s = false)
    (cause : Nat) :
    (∃ n, Alone g i { x with newest := n, newestReleased := some i } (y.released cause s) (releaseSlot g i cause s)) ∧
    (releaseSlot g i cause s).scene.2 = s.scene.2 ∧ (releaseSlot g i cause s).ro 0x2320 1 g = (s.ro 0x2320 1 g + 1) % 2 ^ 64 := by
  have hrow : g < 0x1000000 := by omega
  obtain ⟨⟨n, hn, halone⟩, hscene, htouches⟩ := releaseBegun_alone hg h hnewest cause
  obtain ⟨hreleased, hscene'⟩ := releaseDelivered_alone halone hn ((packed_of htouches (by simp) (by simp)).trans hpacked) rfl cause y
  rw [releaseSlot_eq (y := y) (by simp [Group.slot?, h, lookup])]
  refine ⟨⟨n, hreleased⟩, hscene'.trans hscene, ?_⟩
  rw [releaseDelivered_counts hg, htouches.ro (by decide) hrow (by simp) (by decide)]

/-! ### A commit (R24, R199, R203) -/

/-- The committed slot. -/
def Slot.committedAt (y : Slot) (t96 : Nat) : Slot := { y with state := 4, commitT96 := t96, cells := y.cells }

theorem committedAt_decided {y z : Slot} (h : y.decided = z.decided) (t96 : Nat) : (y.committedAt t96).decided = (z.committedAt t96).decided :=
  congrArg (fun w : Slot => w.committedAt t96) h

/-- What a commit counts and reports before the COMMIT goes to the consumers. -/
theorem commitRest_alone {z : Slot} (h : Alone g i x z s) (hnewest : x.newest = none ∨ x.newest = some i) (hz : z.rate = x.rate) (y : Slot) :
    ∃ n, Alone g i { x with newest := n, newestCommitted := some i } (z.committedAt s.t96) (commitRest g i y s) := by
  unfold commitRest
  extract_lets cause v w counted missed quiet ref late delivered before committed
  have hv : Alone g i x (z.committedAt s.t96) v := h.onSlot fun _ hdecided => committedAt_decided hdecided _
  obtain ⟨n, hn, -, hw⟩ := hv.leaveOpen hnewest y
  have hw : Alone g i { x with newest := n } (z.committedAt s.t96) w := hw
  clear_value v w
  have hcounted : Undecided w counted := .of_scene (by simp [counted])
  have hmissed : Undecided counted missed := .of_scene (by simp [missed])
  have hquiet : Undecided missed quiet := .of_scene (by simp [quiet])
  have hlate : Undecided quiet late := .of_scene (by simp [late])
  clear_value counted missed quiet late
  have hdelivered : Undecided late delivered := by
    unfold delivered
    split
    · exact .deliverCommit ..
    · exact .refl late
  clear_value delivered
  have hall : Alone g i { x with newest := n } (z.committedAt s.t96) delivered :=
    ((((hcounted.trans hmissed).trans hquiet).trans hlate).trans hdelivered).alone g i _ _ hw
  have hcommitted : Alone g i { x with newest := n, newestCommitted := some i } (z.committedAt s.t96) committed :=
    hall.setGroup (f := fun x => { x with newestCommitted := some i }) fun _ => rfl
  clear_value committed
  have hsent : Undecided committed (decisionRecord g i 1 cause y.arrived (sendLatched g i committed)) := .of_scene (by simp)
  exact ⟨n, (hsent.alone g i _ _ hcommitted).prune hn (.inl hz)⟩

/-- A commit up to the end of its PROCESS. -/
def commitBegun (g i : Nat) (y : Slot) (s : State) : State :=
  let s := setSlot g i { y with cause := if y.state == 1 then (if y.complete then 4 else 5) else y.cause } s
  if y.state == 1 then (deliverProcess g i false true s).bump 0x2320 0x02 g else s

theorem commitSlot_eq {y : Slot} (h : (s.group g).slot? i = some y) (hwaits : packWaits (commitBegun g i y s) g = false) :
    commitSlot g i s = commitRest g i y (commitBegun g i y s) := by
  unfold commitSlot
  rw [h]
  exact if_neg (by rw [Bool.and_eq_true, Classical.not_and_iff_not_or_not]; exact .inr (by simpa [commitBegun] using hwaits))

theorem packWaits_of {u : State} (h : u.scene.2 = s.scene.2) (g : Nat) : packWaits u g = packWaits s g := by
  simp only [State.scene, Prod.mk.injEq] at h
  obtain ⟨-, -, -, -, -, hwaiting⟩ := h
  simp [packWaits, hwaiting]

theorem t96_of {u : State} (h : u.scene.2 = s.scene.2) : u.t96 = s.t96 := by
  simp only [State.scene, Prod.mk.injEq] at h
  simp [State.t96, h.1]

theorem commitBegun_alone {y : Slot} (h : s.group g = { x with slots := [(i, y)] }) (hpacked : packed s = false) :
    (∃ z, Alone g i x z (commitBegun g i y s) ∧ z.rate = y.rate) ∧ (commitBegun g i y s).scene.2 = s.scene.2 := by
  unfold commitBegun
  extract_lets v
  have hv : Alone g i x { y with cause := if y.state == 1 then (if y.complete then 4 else 5) else y.cause } v := Alone.setSlot ⟨y, h, rfl⟩ _
  have hscene : v.scene.2 = s.scene.2 := rfl
  have hpv : packed v = false := (packed_of (ps := [.groups]) (os := []) (by simp [v, setSlot]) (by simp) (by simp)).trans hpacked
  clear_value v
  split
  · have hprocess : Undecided v ((deliverProcess g i false true v).bump 0x2320 0x02 g) :=
      (Undecided.deliverProcess g i false true (.inl hpv)).trans (.of_scene (State.bump_scene ..))
    exact ⟨⟨_, hprocess.alone g i _ _ hv, rfl⟩, hprocess.scene.trans hscene⟩
  · exact ⟨⟨_, hv, rfl⟩, hscene⟩

/-- The commit of the only slot. -/
theorem commitSlot_alone {y : Slot} (h : s.group g = { x with slots := [(i, y)] }) (hnewest : x.newest = none) (hpacked : packed s = false)
    (hwaits : packWaits s g = false) (hrate : y.rate = x.rate) :
    ∃ n z, z.state = 4 ∧ Alone g i { x with newest := n, newestCommitted := some i } z (commitSlot g i s) := by
  obtain ⟨⟨z, halone, hz⟩, hscene⟩ := commitBegun_alone h hpacked
  rw [commitSlot_eq (y := y) (by simp [Group.slot?, h, lookup]) ((packWaits_of hscene g).trans hwaits)]
  obtain ⟨n, hcommitted⟩ := commitRest_alone halone (.inl hnewest) (hz.trans hrate) y
  exact ⟨n, _, rfl, hcommitted⟩

/-! ### A recall (R218, R222) -/

/-- The slot that waits for its replay, and the slot replayed. -/
def Slot.recalled (y : Slot) : Slot := { y with state := 3, undo := none }
def Slot.replayed (y : Slot) : Slot := { y with state := 2 }

/-- The group with a recall taken into its budget. -/
def Group.counted (x : Group) (now : Nat) : Group :=
  { x with recalls := (x.recalls.filter fun a => now ≤ a + 2 ^ 48 && a < now) ++ [now], recallTarget := none }

/-- A recall up to its replays: the state before the slot is there again. -/
def recallBegun (g r : Nat) (y : Slot) (u : Undo) (s : State) : State :=
  let v := decisionRecord g r 2 0 y.arrived (s.setGroup g ((s.group g).counted s.t96))
  let v := sendCounts g r 2 (onSlot g r (fun z => { z with state := 3, undo := none }) (applyUndo g u v))
  v.onAlarm fun a => { a with replaySince := a.replaySince.filter fun e => !(slotRules v g).contains e.1 }

/-- A recall from its replays on: it is counted, and may begin a suspension. -/
def recallEnded (g r : Nat) (exceeds : Bool) (s : State) : State :=
  let v := raiseOnce 0x2305 g (le 1 g ++ le 8 r ++ le 1 (Nat.min 1 255)) ((s.bump 0x2320 0x04 g).addTo 0x2320 0x05 1 g)
  if exceeds && (v.group g).suspended.isNone && v.cfgB 0x2304 0x01 g && !follows v then suspend g 0 (v.cfg 0x2300 0x01) v else v

theorem recallRun_eq {y : Slot} {u : Undo} (h : s.group g = { x with slots := [(i, y)] }) (hstate : y.state = 3) (hundo : y.undo = some u) :
    ∃ exceeds, recallRun g i s = recallEnded g i exceeds (replaySlot g i (recallBegun g i y u s)) := by
  have hslots : (s.group g).slots = [(i, y)] := by rw [h]
  have hback : ((inOrder (s.group g)).filter fun e => y.boundary ≤ e.2.boundary && (e.2.state == 2 || e.2.state == 3) && e.2.undo.isSome) = [(i, y)] := by
    rw [inOrder_one hslots, List.filter_cons_of_pos (by simp [hstate, hundo]), List.filter_nil]
  have hslot : (s.group g).slot? i = some y := by simp [Group.slot?, hslots, lookup]
  unfold recallRun
  dsimp only
  rw [hslot]
  dsimp only
  rw [hback]
  simp only [List.reverse_cons, List.reverse_nil, List.nil_append, List.foldl_cons, List.foldl_nil, List.length_cons, List.length_nil, hundo]
  exact ⟨_, rfl⟩

theorem recallBegun_alone {y : Slot} (h : s.group g = { x with slots := [(i, y)] }) (u : Undo) :
    Alone g i (x.counted s.t96) y.recalled (recallBegun g i y u s) ∧ (recallBegun g i y u s).scene.2 = s.scene.2 ∧
    (recallBegun g i y u s).aligned = s.aligned := by
  unfold recallBegun
  extract_lets v w
  have hv : Alone g i (x.counted s.t96) y v :=
    (Undecided.of_scene (decisionRecord_scene ..)).alone g i _ _ (Alone.setGroup ⟨y, h, rfl⟩ (f := fun x => x.counted s.t96) fun _ => rfl)
  have hvscene : v.scene.2 = s.scene.2 := (Undecided.of_scene (decisionRecord_scene ..)).scene
  have hvaligned : v.aligned = s.aligned := by simp [v]
  clear_value v
  have hundone : Undecided v (applyUndo g u v) := .of_scene (applyUndo_scene ..)
  have hw : Alone g i (x.counted s.t96) y.recalled w :=
    (Undecided.of_scene (sendCounts_scene ..)).alone g i _ _ ((hundone.alone g i _ _ hv).onSlot fun z hz => congrArg Slot.recalled hz)
  have hwscene : w.scene.2 = v.scene.2 := (Undecided.of_scene (sendCounts_scene ..)).scene.trans ((scene_onSlot ..).trans hundone.scene)
  have hwaligned : w.aligned = v.aligned := by simp [w]
  clear_value w
  have hend : Undecided w (w.onAlarm fun a => { a with replaySince := a.replaySince.filter fun e => !(slotRules w g).contains e.1 }) :=
    .of_scene (State.onAlarm_scene ..)
  exact ⟨hend.alone g i _ _ hw, hend.scene.trans (hwscene.trans hvscene), by simpa using hwaligned.trans hvaligned⟩

theorem replaySlot_alone {z : Slot} (hg : g < 64) (h : Alone g i x z s) (hcomplete : z.complete = false) (hover : z.waitOver s.t96 = false) :
    Alone g i x z.replayed (replaySlot g i s) ∧ (replaySlot g i s).scene.2 = s.scene.2 ∧ (replaySlot g i s).ro 0x2320 4 g = s.ro 0x2320 4 g := by
  have hrow : g < 0x1000000 := by omega
  unfold replaySlot
  extract_lets v before w r
  have hv : Undecided s v := .predictSlot ..
  have hvro : v.ro 0x2320 4 g = s.ro 0x2320 4 g := (touches_predictSlot hg i s).ro (by decide) hrow (by simp) (by decide)
  clear_value v
  have hw : Undecided v w := .deliverProcess _ _ _ _ (.inr rfl)
  have hwaligned : w.aligned = v.aligned := deliverProcess_aligned ..
  clear_value w
  have hr : Alone g i x z.replayed r := ((hv.trans hw).alone g i _ _ h).onSlot fun y hy => congrArg Slot.replayed hy
  have hrscene : r.scene.2 = s.scene.2 := (scene_onSlot ..).trans (hv.trans hw).scene
  have hraligned : r.aligned = v.aligned := (onSlot_aligned ..).trans hwaligned
  clear_value r
  have hall : Alone g i x z.replayed r ∧ r.scene.2 = s.scene.2 ∧ r.ro 0x2320 4 g = s.ro 0x2320 4 g :=
    ⟨hr, hrscene, (ro_of_aligned hraligned (by decide) hrow).trans hvro⟩
  split
  · exact hall
  · obtain ⟨y, -, hslot, hy⟩ := hr.slot?
    have hsettled : y.settledAt r.t96 := by
      rw [t96_of hrscene]
      exact Slot.settledAt.of_decided (y := z.replayed) ⟨by simp [Slot.replayed], fun _ => ⟨hcomplete, hover⟩⟩ hy
    rw [hslot]
    dsimp only
    rw [slotDecision_settled hsettled]
    exact hall

theorem suspend_alone (hg : g < 64) (h : Alone g i x sl s) (cause seconds : Nat) :
    (∃ o, Alone g i { x with suspended := o } sl (suspend g cause seconds s)) ∧ (suspend g cause seconds s).scene.2 = s.scene.2 ∧
    (suspend g cause seconds s).ro 0x2320 4 g = s.ro 0x2320 4 g := by
  have hrow : g < 0x1000000 := by omega
  unfold suspend
  extract_lets o v w
  have hv : Alone g i { x with suspended := some (cause, s.t96, s.t96 + seconds * 2 ^ 48) } sl v :=
    h.setGroup (f := fun x => { x with suspended := some (cause, s.t96, s.t96 + seconds * 2 ^ 48) }) fun _ => rfl
  have hvscene : v.scene.2 = s.scene.2 := rfl
  have hvaligned : v.aligned = s.aligned := rfl
  clear_value v
  have hwro : w.ro 0x2320 4 g = v.ro 0x2320 4 g := by
    unfold w
    split
    · exact ro_bump_of_ne (by decide) (by decide) hrow (by decide) hrow v
    · rfl
  have hend : Undecided v (decisionRecord g 0 3 cause [] (raise 0x2301 (le 1 g ++ le 1 cause ++ le 2 seconds) w)) := .of_scene (by simp [w])
  have hsent : (decisionRecord g 0 3 cause [] (raise 0x2301 (le 1 g ++ le 1 cause ++ le 2 seconds) w)).aligned = w.aligned := by simp
  exact ⟨⟨_, hend.alone g i _ _ hv⟩, hend.scene.trans hvscene,
    ((ro_of_aligned hsent (by decide) hrow).trans hwro).trans (ro_of_aligned hvaligned (by decide) hrow)⟩

theorem recallEnded_alone (hg : g < 64) (h : Alone g i x sl s) (exceeds : Bool) :
    (∃ o, Alone g i { x with suspended := o } sl (recallEnded g i exceeds s)) ∧ (recallEnded g i exceeds s).scene.2 = s.scene.2 ∧
    (recallEnded g i exceeds s).ro 0x2320 4 g = (s.ro 0x2320 4 g + 1) % 2 ^ 32 := by
  have hrow : g < 0x1000000 := by omega
  unfold recallEnded
  extract_lets v
  have hv : Undecided s v := .of_scene (by simp [v])
  have hvro : v.ro 0x2320 4 g = (s.ro 0x2320 4 g + 1) % 2 ^ 32 := by
    simp only [v]
    rw [ro_raiseOnce (by decide) (by decide) hrow, ro_addTo_of_ne (by decide) (by decide) hrow (by decide) hrow, ro_bump_self]
    rfl
  clear_value v
  have halone := hv.alone g i _ _ h
  split
  · obtain ⟨hsuspended, hscene, hro⟩ := suspend_alone hg halone 0 (v.cfg 0x2300 0x01)
    exact ⟨hsuspended, hscene.trans hv.scene, hro.trans hvro⟩
  · obtain ⟨y, hy, hsl⟩ := halone
    exact ⟨⟨x.suspended, y, hy, hsl⟩, hv.scene, hvro⟩

/-- The recall of the only slot. -/
theorem recallRun_alone {y : Slot} (hg : g < 64) (h : s.group g = { x with slots := [(i, y)] }) (hstate : y.state = 3) (hundo : y.undo.isSome = true)
    (hcomplete : y.complete = false) (hover : y.waitOver s.t96 = false) :
    (∃ o, Alone g i { x.counted s.t96 with suspended := o } y.recalled.replayed (recallRun g i s)) ∧ (recallRun g i s).scene.2 = s.scene.2 ∧
    (recallRun g i s).ro 0x2320 4 g = (s.ro 0x2320 4 g + 1) % 2 ^ 32 := by
  obtain ⟨u, hu⟩ := Option.isSome_iff_exists.mp hundo
  obtain ⟨exceeds, heq⟩ := recallRun_eq h hstate hu
  obtain ⟨hbegun, hscene, haligned⟩ := recallBegun_alone h u
  obtain ⟨hreplayed, hscene', hro'⟩ := replaySlot_alone hg hbegun hcomplete (by rw [t96_of hscene]; exact hover)
  obtain ⟨hended, hscene'', hro''⟩ := recallEnded_alone hg hreplayed exceeds
  rw [heq]
  refine ⟨hended, hscene''.trans (hscene'.trans hscene), hro''.trans ?_⟩
  rw [hro', ro_of_aligned haligned (by decide) (by omega)]

theorem recallNow_alone {y : Slot} (hg : g < 64) (h : s.group g = { x with slots := [(i, y)] }) (hrecall : x.recallTarget = some i) (hrun : s.running = true)
    (hfollows : follows s = false) (hwaits : packWaits s g = false) (hstate : y.state = 3) (hundo : y.undo.isSome = true)
    (hcomplete : y.complete = false) (hover : y.waitOver s.t96 = false) :
    (∃ o z, (recallNow g s).group g = { x.counted s.t96 with suspended := o, slots := [(i, z)] } ∧ z.state = 2) ∧
    (recallNow g s).ro 0x2320 4 g = (s.ro 0x2320 4 g + 1) % 2 ^ 32 := by
  obtain ⟨⟨o, hrecalled⟩, hscene, hro⟩ := recallRun_alone hg h hstate hundo hcomplete hover
  have htarget : (s.group g).recallTarget = some i := by rw [h, hrecall]
  have hgo : ¬(!s.running || follows s || packWaits s g) = true := by simp [hrun, hfollows, hwaits]
  unfold recallNow
  rw [htarget]
  dsimp only
  rw [if_neg hgo]
  generalize recallRun g i s = v at *
  obtain ⟨z, hz, hdecided⟩ := hrecalled.setGroup (f := fun x => { x with recallTarget := none }) (x' := { x.counted s.t96 with suspended := o }) fun _ => rfl
  have ht96 : (v.setGroup g { v.group g with recallTarget := none }).t96 = s.t96 := t96_of (s := s) hscene
  have hsettled : z.settledAt (v.setGroup g { v.group g with recallTarget := none }).t96 := by
    rw [ht96]
    exact Slot.settledAt.of_decided (y := y.recalled.replayed) ⟨by simp [Slot.replayed], fun _ => ⟨hcomplete, hover⟩⟩ hdecided
  obtain ⟨hgroup, haligned⟩ := takeDecisions_settled hz hsettled
  refine ⟨⟨o, z, hgroup.trans hz, decided_state hdecided⟩, ?_⟩
  rw [ro_of_aligned haligned (by decide) (by omega), ro_setGroup, hro]

/-! ### The one decision -/

/-- Deciding begins with the reference noted in the slot (R227), which changes none of what follows. -/
theorem decideLoop_one {y : Slot} (h : s.group g = { x with slots := [(i, y)] }) (hwaits : packWaits s g = false) {commit : Bool} {cause : Nat}
    (hdecision : slotDecision s { x with slots := [(i, y.noted s)] } (y.noted s) = some (commit, cause)) (n : Nat) :
    decideLoop g (n + 1) s =
      decideLoop g n (if commit then commitSlot g i (s.setGroup g { x with slots := [(i, y.noted s)] })
        else releaseSlot g i cause (s.setGroup g { x with slots := [(i, y.noted s)] })) := by
  have hdecide := decideOne_one (s := s.setGroup g { x with slots := [(i, y.noted s)] }) (group_setGroup ..) ((packWaits_of rfl g).trans hwaits)
  rw [group_setGroup] at hdecide
  rw [decideLoop, noteReference_one h, hdecide, show slotDecision (s.setGroup g _) _ _ = _ from hdecision]
  cases commit <;> rfl

theorem noted_cases (s : State) (y : Slot) : y.noted s = y ∨ y.noted s = { y with arrivedAtRelease := some y.arrived } := by
  unfold Slot.noted
  split
  · exact .inr rfl
  · exact .inl rfl

theorem takeDecisions_releases {y : Slot} (hg : g < 64) (h : s.group g = { x with slots := [(i, y)] }) (hfollows : follows s = false)
    (hrun : s.running = true) (hpacked : packed s = false) (hwaits : packWaits s g = false) (hframes : framesToCome s = false)
    (hrecall : x.recallTarget = none) (hnewest : x.newest = none) (hstate : y.state = 1) (hspeculative : y.speculative = true)
    (hcomplete : y.complete = false) (hquorum : y.quorumMet = false) (hover : y.waitOver s.t96 = false) (hreleases : y.waitReleases s.fnom s.t96 = true) :
    ((takeDecisions g s).group g).newestReleased = some i ∧ (((takeDecisions g s).group g).slot? i).map (·.state) = some 2 ∧
    (takeDecisions g s).ro 0x2320 1 g = (s.ro 0x2320 1 g + 1) % 2 ^ 64 := by
  rw [takeDecisions_one h hfollows hrun hframes hrecall hwaits]
  obtain ⟨z, hz, hzstate, hzspeculative, hzcomplete, hzquorum, hzover, hzreleases⟩ :
      ∃ z, z = y.noted s ∧ z.state = 1 ∧ z.speculative = true ∧ z.complete = false ∧ z.quorumMet = false ∧ z.waitOver s.t96 = false ∧
        z.waitReleases s.fnom s.t96 = true := by
    refine ⟨_, rfl, ?_⟩
    obtain hnoted | hnoted := noted_cases s y <;> rw [hnoted] <;> exact ⟨hstate, hspeculative, hcomplete, hquorum, hover, hreleases⟩
  rw [decideLoop_one h hwaits (hz ▸ slotDecision_release (x := { x with slots := [(i, z)] }) rfl hzstate hzspeculative hzcomplete hzquorum hzover hzreleases),
    if_neg Bool.false_ne_true, ← hz]
  obtain ⟨⟨n, w, hw, hdecided⟩, hscene, hro⟩ :=
    releaseSlot_alone (s := s.setGroup g { x with slots := [(i, z)] }) hg (group_setGroup ..) hnewest hpacked 2
  generalize releaseSlot g i 2 (s.setGroup g { x with slots := [(i, z)] }) = v at *
  have hwstate : w.state = 2 := decided_state hdecided
  have hsettled : w.settledAt v.t96 := by
    rw [t96_of (s := s) hscene]
    exact Slot.settledAt.of_decided (y := z.released 2 (s.setGroup g { x with slots := [(i, z)] })) ⟨by simp [Slot.released], fun _ => ⟨hzcomplete, hzover⟩⟩ hdecided
  obtain ⟨hgroup, haligned⟩ := decideLoop_settled hw hsettled 2
  rw [hgroup, hw, ro_of_aligned haligned (by decide) (by omega), hro]
  exact ⟨rfl, by simp [Group.slot?, lookup, hwstate], rfl⟩

theorem takeDecisions_commits {y : Slot} (h : s.group g = { x with slots := [(i, y)] }) (hfollows : follows s = false) (hrun : s.running = true)
    (hpacked : packed s = false) (hwaits : packWaits s g = false) (hframes : framesToCome s = false) (hrecall : x.recallTarget = none)
    (hnewest : x.newest = none) (hrate : y.rate = x.rate) (hstate : y.state = 1 ∨ y.state = 2) (hover : y.waitOver s.t96 = true) :
    ((takeDecisions g s).group g).newestCommitted = some i ∧ (((takeDecisions g s).group g).slot? i).map (·.state) = some 4 := by
  rw [takeDecisions_one h hfollows hrun hframes hrecall hwaits]
  obtain ⟨z, hz, hzrate, hzstate, hzover⟩ : ∃ z, z = y.noted s ∧ z.rate = x.rate ∧ (z.state = 1 ∨ z.state = 2) ∧ z.waitOver s.t96 = true := by
    refine ⟨_, rfl, ?_⟩
    obtain hnoted | hnoted := noted_cases s y <;> rw [hnoted] <;> exact ⟨hrate, hstate, hover⟩
  rw [decideLoop_one h hwaits (hz ▸ slotDecision_commit (x := { x with slots := [(i, z)] }) rfl hzstate hzover), if_pos rfl, ← hz]
  obtain ⟨n, w, hwstate, v, hv, hdecided⟩ :=
    commitSlot_alone (s := s.setGroup g { x with slots := [(i, z)] }) (group_setGroup ..) hnewest hpacked ((packWaits_of rfl g).trans hwaits) hzrate
  have hvstate : v.state = 4 := (decided_state hdecided).trans hwstate
  obtain ⟨hgroup, -⟩ := decideLoop_settled hv ⟨by simp [hvstate], by simp [hvstate]⟩ 2
  rw [hgroup, hv]
  exact ⟨rfl, by simp [Group.slot?, lookup, hvstate]⟩

end decisions

/-! ### The obligation -/

theorem recallUpTo_only {g : Nat} {s : State} {r : Nat} (h : (s.group g).recallTarget = some r) (horder : recallOrder s = [((s.group g).recallAt, g)]) :
    recallUpTo g s = recallNow g s := by
  unfold recallUpTo
  rw [h, horder]
  simp [recallBefore]

/-- Settles O17: the consumers of a slot leave the group, but for what no decision looks at, and the decisions go through its only slot once. -/
theorem slotsAreReleasedCommittedAndRecalled : Obligations.SlotsAreReleasedCommittedAndRecalled := by
  refine ⟨?speculative, ?maximum, ?speculativeNone, ?maximumNone, ?released, ?committed, ?recalls, ?recallNone, ?recalled⟩
  case speculative =>
    intro t g i s hslot
    exact .of (f := fun s => if ((s.group g).slot? i).isSome then takeDecisions g s else s) rfl (congrArg settle (if_pos hslot))
  case maximum =>
    intro t g i s hslot
    exact .of (f := fun s => if ((s.group g).slot? i).isSome then takeDecisions g s else s) rfl (congrArg settle (if_pos hslot))
  case speculativeNone =>
    intro t g i s hslot
    exact .unchanged (f := fun s => if ((s.group g).slot? i).isSome then takeDecisions g s else s) rfl (if_neg (by simp [hslot]))
  case maximumNone =>
    intro t g i s hslot
    exact .unchanged (f := fun s => if ((s.group g).slot? i).isSome then takeDecisions g s else s) rfl (if_neg (by simp [hslot]))
  case released =>
    intro t g i sl s hg hrun hfollows hpacked hwaits hframes hrecall hnewest hslots hstate hspeculative hcomplete hquorum hover hreleases
    refine .of (f := fun s => if ((s.group g).slot? i).isSome then takeDecisions g s else s) rfl ?_
    have hone : (s.advance t).group g = { (s.advance t).group g with slots := [(i, sl)] } := by simp [← hslots]
    obtain ⟨hnewestReleased, hslot, hcount⟩ := takeDecisions_releases (s := s.advance t) hg hone hfollows hrun hpacked hwaits
      hframes hrecall hnewest hstate hspeculative hcomplete hquorum hover hreleases
    rw [if_pos (show (((s.advance t).group g).slot? i).isSome = true by simp [Group.slot?, hslots, lookup]), group_settle,
      ro_settle (by decide) (by decide) (by omega), hcount]
    exact ⟨hnewestReleased, hslot, rfl⟩
  case committed =>
    intro t g i sl s hg hrun hfollows hpacked hwaits hframes hrecall hnewest hslots hrate hstate hover
    refine .of (f := fun s => if ((s.group g).slot? i).isSome then takeDecisions g s else s) rfl ?_
    have hone : (s.advance t).group g = { (s.advance t).group g with slots := [(i, sl)] } := by simp [← hslots]
    rw [if_pos (show (((s.advance t).group g).slot? i).isSome = true by simp [Group.slot?, hslots, lookup]), group_settle]
    exact takeDecisions_commits (s := s.advance t) hone hfollows hrun hpacked hwaits hframes hrecall hnewest hrate hstate hover
  case recalls =>
    intro t g r s hrecall
    refine .of (f := recallUpTo g) rfl (congrArg settle ?_)
    unfold recallUpTo
    rw [show ((s.advance t).group g).recallTarget = some r from hrecall]
    rfl
  case recallNone =>
    intro t g s hrecall
    refine .unchanged (f := recallUpTo g) rfl ?_
    unfold recallUpTo
    rw [show ((s.advance t).group g).recallTarget = none from hrecall]
  case recalled =>
    intro t g r sl s hg hrun hfollows hpacked hwaits hrecall horder hnewest hslots hstate hundo hcomplete hover
    refine .of (f := recallUpTo g) rfl ?_
    have hone : (s.advance t).group g = { (s.advance t).group g with slots := [(r, sl)] } := by simp [← hslots]
    obtain ⟨⟨o, z, hgroup, hzstate⟩, hcount⟩ := recallNow_alone (s := s.advance t) hg hone hrecall hrun hfollows hwaits
      hstate hundo hcomplete hover
    rw [recallUpTo_only (s := s.advance t) (r := r) hrecall horder, group_settle,
      ro_settle (by decide) (by decide) (by omega), hcount, hgroup]
    exact ⟨rfl, by simp [Group.counted], by simp [Group.slot?, lookup, hzstate], rfl⟩

end Sys2Proof.Machine
end

section
/-! O58: no function of the model touches the queue of waiting commands or the clock, but the reset that follows an answer, which lets
10 ms pass. -/

namespace Sys2Proof.Machine
open Sys2Proof
/-- The queue of waiting commands and the clock: what no effect changes. -/
def State.kept (s : State) : List Instr × Nat := (s.pending, s.now)
@[simp] theorem kept_ite (c : Prop) [Decidable c] (a b : State) : (if c then a else b).kept = if c then a.kept else b.kept :=
  apply_ite State.kept c a b
@[simp] theorem kept_fst_ite {α : Type} (c : Prop) [Decidable c] (a b : State × α) :
    (if c then a else b).1.kept = if c then a.1.kept else b.1.kept := apply_ite (fun p : State × α => p.1.kept) c a b
@[simp] theorem kept_snd_ite {α : Type} (c : Prop) [Decidable c] (a b : α × State) :
    (if c then a else b).2.kept = if c then a.2.kept else b.2.kept := apply_ite (fun p : α × State => p.2.kept) c a b
@[simp] theorem kept_foldl {α : Type} {f : State → α → State} (h : ∀ s a, (f s a).kept = s.kept) (l : List α) (s : State) :
    (l.foldl f s).kept = s.kept := by
  induction l generalizing s with
  | nil => rfl
  | cons a l ih => rw [List.foldl_cons, ih, h]
@[simp] theorem kept_foldl_fst {α β : Type} {f : State × β → α → State × β} (h : ∀ p a, (f p a).1.kept = p.1.kept) (l : List α) (p : State × β) :
    (l.foldl f p).1.kept = p.1.kept := by
  induction l generalizing p with
  | nil => rfl
  | cons a l ih => rw [List.foldl_cons, ih, h]
@[simp] theorem kept_foldl_snd {α β : Type} {f : β × State → α → β × State} (h : ∀ p a, (f p a).2.kept = p.2.kept) (l : List α) (p : β × State) :
    (l.foldl f p).2.kept = p.2.kept := by
  induction l generalizing p with
  | nil => rfl
  | cons a l ih => rw [List.foldl_cons, ih, h]

/-- An option's state, or the one that stands in where there is none. -/
theorem kept_getD {o : Option State} {a s : State} (h : ∀ u ∈ o, u.kept = s.kept) (ha : a.kept = s.kept) : (o.getD a).kept = s.kept := by
  cases o with
  | none => exact ha
  | some u => exact h u rfl

/-- The queue kept, and the clock not run back: what a whole effect does to them, which may let time pass (R554). -/
def State.Onward (s u : State) : Prop := u.pending = s.pending ∧ s.now ≤ u.now
theorem State.Onward.of_kept {s u : State} (h : u.kept = s.kept) : s.Onward u := by
  obtain ⟨hpending, hnow⟩ := Prod.mk.inj h
  exact ⟨hpending, Nat.le_of_eq hnow.symm⟩
theorem State.Onward.refl (s : State) : s.Onward s := .of_kept rfl
theorem State.Onward.trans {s u v : State} (hu : s.Onward u) (hv : u.Onward v) : s.Onward v := ⟨hv.1.trans hu.1, Nat.le_trans hu.2 hv.2⟩
/-- What stands before or after may change anything but the queue and the clock. -/
theorem State.Onward.after_kept {s u v : State} (hu : u.kept = s.kept) (hv : u.Onward v) : s.Onward v := (Onward.of_kept hu).trans hv
theorem State.Onward.before_kept {s u v : State} (hu : s.Onward u) (hv : v.kept = u.kept) : s.Onward v := hu.trans (.of_kept hv)
@[simp] theorem kept_foldr {α : Type} {f : α → State → State} (h : ∀ s a, (f a s).kept = s.kept) (l : List α) (s : State) :
    (l.foldr f s).kept = s.kept := by
  induction l with
  | nil => rfl
  | cons a l ih => rw [List.foldr_cons, h, ih]

/-! The functions of Ops. -/

@[simp] theorem State.setRoV_kept (s : State) (idx sub row : Nat) (v : Val) : (State.setRoV s idx sub row v).kept = s.kept := (rfl)
@[simp] theorem State.setRow_kept (s : State) (idx sub row n : Nat) : (State.setRow s idx sub row n).kept = s.kept := (rfl)
@[simp] theorem State.setRo_kept (s : State) (idx sub n : Nat) : (State.setRo s idx sub n).kept = s.kept := (rfl)
@[simp] theorem State.setRoBytes_kept (s : State) (idx sub : Nat) (b : List Byte) (row : Nat) :
    (State.setRoBytes s idx sub b row).kept = s.kept := (rfl)

@[simp] theorem State.setLive_kept (s : State) (idx sub row : Nat) (v : Val) : (State.setLive s idx sub row v).kept = s.kept := (rfl)
@[simp] theorem State.setShadow_kept (s : State) (idx sub row : Nat) (v : Val) : (State.setShadow s idx sub row v).kept = s.kept := (rfl)
@[simp] theorem State.addTo_kept (s : State) (idx sub n row : Nat) : (State.addTo s idx sub n row).kept = s.kept := (rfl)
@[simp] theorem State.bump_kept (s : State) (idx sub row : Nat) : (State.bump s idx sub row).kept = s.kept := (rfl)
@[simp] theorem State.clearObjects_kept (s : State) (l : List (Nat × Nat)) : (State.clearObjects s l).kept = s.kept := (rfl)
@[simp] theorem State.clearRow_kept (s : State) (idx sub row : Nat) : (State.clearRow s idx sub row).kept = s.kept := (rfl)
@[simp] theorem State.clearRange_kept (s : State) (lo hi : Nat) : (State.clearRange s lo hi).kept = s.kept := (rfl)
@[simp] theorem State.emit_kept (s : State) (o : Out) : (State.emit s o).kept = s.kept := (rfl)
@[simp] theorem State.drawn_kept (s : State) : (State.drawn s).kept = s.kept := (rfl)
@[simp] theorem State.onPower_kept (s : State) (f : PowerSt → PowerSt) : (State.onPower s f).kept = s.kept := (rfl)
@[simp] theorem State.onTime_kept (s : State) (f : TimeSt → TimeSt) : (State.onTime s f).kept = s.kept := (rfl)
@[simp] theorem State.onPorts_kept (s : State) (f : PortSt → PortSt) : (State.onPorts s f).kept = s.kept := (rfl)
@[simp] theorem State.onIngest_kept (s : State) (f : IngestSt → IngestSt) : (State.onIngest s f).kept = s.kept := (rfl)
@[simp] theorem State.onPlace_kept (s : State) (f : PlaceSt → PlaceSt) : (State.onPlace s f).kept = s.kept := (rfl)
@[simp] theorem State.onEddy_kept (s : State) (f : EddySt → EddySt) : (State.onEddy s f).kept = s.kept := (rfl)
@[simp] theorem State.onOxbow_kept (s : State) (f : OxbowSt → OxbowSt) : (State.onOxbow s f).kept = s.kept := (rfl)
@[simp] theorem State.onAlarm_kept (s : State) (f : AlarmSt → AlarmSt) : (State.onAlarm s f).kept = s.kept := (rfl)
@[simp] theorem State.onPub_kept (s : State) (f : PubSt → PubSt) : (State.onPub s f).kept = s.kept := (rfl)
@[simp] theorem State.onHead_kept (s : State) (f : HeadSt → HeadSt) : (State.onHead s f).kept = s.kept := (rfl)
@[simp] theorem State.onCapture_kept (s : State) (f : CaptureSt → CaptureSt) : (State.onCapture s f).kept = s.kept := (rfl)
@[simp] theorem State.onLeash_kept (s : State) (f : LeashSt → LeashSt) : (State.onLeash s f).kept = s.kept := (rfl)
@[simp] theorem State.onEnergy_kept (s : State) (f : EnergySt → EnergySt) : (State.onEnergy s f).kept = s.kept := (rfl)
@[simp] theorem State.onJobs_kept (s : State) (f : JobSt → JobSt) : (State.onJobs s f).kept = s.kept := (rfl)
@[simp] theorem State.onImian_kept (s : State) (f : ImianSt → ImianSt) : (State.onImian s f).kept = s.kept := (rfl)
@[simp] theorem State.onSets_kept (s : State) (f : SetSt → SetSt) : (State.onSets s f).kept = s.kept := (rfl)
@[simp] theorem State.onHost_kept (s : State) (f : HostSt → HostSt) : (State.onHost s f).kept = s.kept := (rfl)
@[simp] theorem State.onLog_kept (s : State) (f : LogSt → LogSt) : (State.onLog s f).kept = s.kept := (rfl)
@[simp] theorem State.onHk_kept (s : State) (f : HkSt → HkSt) : (State.onHk s f).kept = s.kept := (rfl)
@[simp] theorem State.onKeys_kept (s : State) (f : KeySt → KeySt) : (State.onKeys s f).kept = s.kept := (rfl)
@[simp] theorem State.onDuplex_kept (s : State) (f : DuplexSt → DuplexSt) : (State.onDuplex s f).kept = s.kept := (rfl)
@[simp] theorem State.signal_kept (n : Nat) (s : State) : (State.signal n s).kept = s.kept := by simp [State.signal]
@[simp] theorem State.signalAll_kept (s : State) : (State.signalAll s).kept = s.kept := by simp [State.signalAll]
@[simp] theorem State.interrupt_kept (s : State) (n : Nat) : (State.interrupt s n).kept = s.kept := by simp [State.interrupt]

/-! The functions of Events. -/

@[simp] theorem raiseFrom_kept (source code : Nat) (params : List Byte) (s : State) :
    (raiseFrom source code params s).kept = s.kept := by simp [raiseFrom]

@[simp] theorem raise_kept (code : Nat) (params : List Byte) (s : State) : (raise code params s).kept = s.kept := by simp [raise]
@[simp] theorem raiseUpTo_kept (n code key : Nat) (params : List Byte) (s : State) :
    (raiseUpTo n code key params s).kept = s.kept := by simp [raiseUpTo]

@[simp] theorem raiseOnce_kept (code key : Nat) (params : List Byte) (s : State) :
    (raiseOnce code key params s).kept = s.kept := by simp [raiseOnce]

@[simp] theorem countWindow_kept (code key a b : Nat) (s : State) : (countWindow code key a b s).kept = s.kept := by simp [countWindow]
@[simp] theorem State.setSluice_kept (s : State) (q : Nat) (x : Sluice) : (State.setSluice s q x).kept = s.kept := (rfl)
@[simp] theorem sluiceInterrupt_kept (q : Nat) (s : State) : (sluiceInterrupt q s).kept = s.kept := by simp [sluiceInterrupt]
@[simp] theorem sluiceLose_kept (q : Nat) (owe : Bool) (s : State) : (sluiceLose q owe s).kept = s.kept := by simp [sluiceLose]
@[simp] theorem sluiceCommit_kept (q : Nat) (ps : List (List Nat)) (s : State) :
    (sluiceCommit q ps s).kept = s.kept := by simp [sluiceCommit]

@[simp] theorem sluicePost_kept (q : Nat) (words : List Nat) (s : State) : (sluicePost q words s).kept = s.kept := by simp [sluicePost]

/-! The functions of Clock. -/

@[simp] theorem reportClass_kept (s : State) : (reportClass s).kept = s.kept := by simp [reportClass]
@[simp] theorem settle_kept (s : State) : (settle s).kept = s.kept := by simp [settle]

/-! The functions of Gate. -/

@[simp] theorem account_kept (w : Who) (code : Nat) (s : State) : (account w code s).kept = s.kept := by
  simp only [account]
  repeat' split
  all_goals simp

@[simp] theorem tryCommand_kept (idx sub row : Nat) (arg : Val) (w : Who) (body : State → State × Nat) (s : State) (hbody : ∀ s, (body s).1.kept = s.kept) :
    (tryCommand idx sub row arg w body s).1.kept = s.kept := by simp [tryCommand, hbody]

@[simp] theorem runCommand_kept (idx sub row : Nat) (arg : Val) (w : Who) (body : State → State × Nat) (s : State) (hbody : ∀ s, (body s).1.kept = s.kept) :
    (runCommand idx sub row arg w body s).kept = s.kept := by simp [runCommand, hbody]

@[simp] theorem runWrite_kept (idx sub row : Nat) (v : Val) (w : Who) (effect : State → State) (s : State) (heffect : ∀ s, (effect s).kept = s.kept) :
    (runWrite idx sub row v w effect s).kept = s.kept := by simp [runWrite, heffect]

@[simp] theorem runPlain_kept (idx sub : Nat) (w : Who) (body : State → State × Nat) (s : State) (hbody : ∀ s, (body s).1.kept = s.kept) :
    (runPlain idx sub w body s).kept = s.kept := by simp [runPlain, hbody]

@[simp] theorem ok_kept (f : State → State) (s : State) (hf : ∀ s, (f s).kept = s.kept) : (ok f s).1.kept = s.kept := by simp [ok, hf]

/-! The functions of KeyStore. -/

@[simp] theorem fillCache_kept (s : State) : (fillCache s).kept = s.kept := (rfl)
@[simp] theorem keyUsed_kept (h : Nat) (usages : List Nat) (s : State) : (keyUsed h usages s).kept = s.kept := by simp [keyUsed]

/-! The functions of Members. -/

@[simp] theorem State.onPack_kept (s : State) (f : PackData → PackData) : (State.onPack s f).kept = s.kept := (rfl)

/-! The functions of Time. -/

@[simp] theorem stepT96_kept (ps : Int) (src : Nat) (s : State) : (stepT96 ps src s).kept = s.kept := by simp [stepT96]
@[simp] theorem setNominal_kept (s : State) : (setNominal s).kept = s.kept := by simp [setNominal]
@[simp] theorem startGat_kept (g : Nat) (s : State) : (startGat g s).kept = s.kept := by simp [startGat]
@[simp] theorem startGatAt_kept (target : Nat) (s : State) : (startGatAt target s).kept = s.kept := by simp [startGatAt]
@[simp] theorem startGatFromT96_kept (s : State) : (startGatFromT96 s).kept = s.kept := by simp [startGatFromT96]
@[simp] theorem initialiseT96_kept (ps : Int) (src : Nat) (s : State) : (initialiseT96 ps src s).kept = s.kept := by simp [initialiseT96]
@[simp] theorem sourceChanged_kept (old src reason : Nat) (s : State) :
    (sourceChanged old src reason s).kept = s.kept := by simp [sourceChanged]

@[simp] theorem reportDelta_kept (s : State) : (reportDelta s).kept = s.kept := by
  unfold reportDelta
  split <;> simp

@[simp] theorem selectSource_kept (src reason : Nat) (s : State) : (selectSource src reason s).kept = s.kept := by simp [selectSource]
@[simp] theorem enterHoldover_kept (s : State) : (enterHoldover s).kept = s.kept := by simp [enterHoldover]
@[simp] theorem disqualify_kept (src : Nat) (s : State) : (disqualify src s).kept = s.kept := by simp [disqualify]
@[simp] theorem measureF_kept (src : Nat) (filtered : Int) (inside : Bool) (s : State) :
    (measureF src filtered inside s).kept = s.kept := (rfl)

@[simp] theorem measure_kept (src : Nat) (raw filtered : Int) (steady : Bool) (s : State) :
    (measure src raw filtered steady s).kept = s.kept := by simp [measure]

@[simp] theorem scheduleLeap_kept (utc : Nat) (sign : Int) (s : State) : (scheduleLeap utc sign s).kept = s.kept := (rfl)
@[simp] theorem choosePtp_kept (before : Option Announce) (s : State) : (choosePtp before s).kept = s.kept := by
  simp only [choosePtp]
  repeat' split
  all_goals simp

@[simp] theorem takeAnnounce_kept (port : Nat) (a : Announce) (s : State) : (takeAnnounce port a s).kept = s.kept := by
  simp only [takeAnnounce]
  repeat' split
  all_goals simp

@[simp] theorem takeSync_kept (port origin : Nat) (correction : Int) (s : State) :
    (takeSync port origin correction s).kept = s.kept := by simp [takeSync]

@[simp] theorem ptpSync_kept (port parent origin : Nat) (correction : Int) (s : State) :
    (ptpSync port parent origin correction s).kept = s.kept := by
  simp only [ptpSync]
  repeat' split
  all_goals simp

@[simp] theorem ppsEdge_kept (rising : Bool) (s : State) : (ppsEdge rising s).kept = s.kept := by simp [ppsEdge]
@[simp] theorem irigFrame_kept (f : IrigFrame) (s : State) : (irigFrame f s).kept = s.kept := by simp [irigFrame]
@[simp] theorem sourceQualify_kept (src : Nat) (s : State) : (sourceQualify src s).kept = s.kept := by simp [sourceQualify]
@[simp] theorem sourceDisqualify_kept (src : Nat) (s : State) : (sourceDisqualify src s).kept = s.kept := by simp [sourceDisqualify]
@[simp] theorem switchDelay_kept (s : State) : (switchDelay s).kept = s.kept := by
  unfold switchDelay
  repeat' split
  all_goals simp

@[simp] theorem holdoverLimit_kept (s : State) : (holdoverLimit s).kept = s.kept := by simp [holdoverLimit]
@[simp] theorem trefRange_kept (s : State) : (trefRange s).kept = s.kept := by simp [trefRange]
@[simp] theorem reanchorHoldover_kept (s : State) : (reanchorHoldover s).kept = s.kept := (rfl)
@[simp] theorem trefLoss_kept (s : State) : (trefLoss s).kept = s.kept := by simp [trefLoss]
@[simp] theorem trefBack_kept (s : State) : (trefBack s).kept = s.kept := by simp [trefBack]
@[simp] theorem startLock_kept (s : State) : (startLock s).kept = s.kept := by simp [startLock]
@[simp] theorem stepRefused_kept (s : State) : (stepRefused s).1.kept = s.kept := by simp [stepRefused]
@[simp] theorem stepToSource_kept (s : State) : (stepToSource s).1.kept = s.kept := by
  unfold stepToSource
  repeat' split
  all_goals simp

@[simp] theorem setT96_kept (value : Nat) (s : State) : (setT96 value s).1.kept = s.kept := by simp [setT96]
@[simp] theorem leapApply_kept (s : State) : (leapApply s).kept = s.kept := by
  unfold leapApply
  split <;> simp

@[simp] theorem latchTime_kept (rtc : Nat) (s : State) : (latchTime rtc s).kept = s.kept := by simp [latchTime]
@[simp] theorem referenceLost_kept (s : State) : (referenceLost s).kept = s.kept := by simp [referenceLost]
@[simp] theorem gatReference_kept (phase freq : Nat) (low bad : Bool) (s : State) :
    (gatReference phase freq low bad s).kept = s.kept := by simp [gatReference]

@[simp] theorem gatRequalify_kept (s : State) : (gatRequalify s).kept = s.kept := by simp [gatRequalify]
@[simp] theorem nominalClear_kept (s : State) : (nominalClear s).kept = s.kept := by simp [nominalClear]
@[simp] theorem pulseOff_kept (o : Nat) (s : State) : (pulseOff o s).kept = s.kept := by simp [pulseOff]
@[simp] theorem State.setPulse_kept (s : State) (o : Nat) (p : Pulse) : (State.setPulse s o p).kept = s.kept := (rfl)
@[simp] theorem pulseFire_kept (o : Nat) (s : State) : (pulseFire o s).kept = s.kept := by simp [pulseFire]
@[simp] theorem pulseMissed_kept (o : Nat) (s : State) : (pulseMissed o s).kept = s.kept := by simp [pulseMissed]
@[simp] theorem pulseArmNow_kept (o : Nat) (arm : Bool) (s : State) : (pulseArmNow o arm s).kept = s.kept := by simp [pulseArmNow]
@[simp] theorem pulseWrite_kept (o sub : Nat) (v : Val) (s : State) : (pulseWrite o sub v s).kept = s.kept := by simp [pulseWrite]
@[simp] theorem pulseArm_kept (who : Who) (o : Nat) (arm : Bool) (s : State) : (pulseArm who o arm s).kept = s.kept := by simp [pulseArm]
@[simp] theorem pulseFinish_kept (o : Nat) (s : State) : (pulseFinish o s).kept = s.kept := by
  simp only [pulseFinish]
  repeat' split
  all_goals simp

/-! The functions of Ports. -/

@[simp] theorem State.setPort_kept (s : State) (p : Nat) (x : Port) : (State.setPort s p x).kept = s.kept := (rfl)
@[simp] theorem State.tally_kept (s : State) (idx sub row n : Nat) : (State.tally s idx sub row n).kept = s.kept := by simp [State.tally]
@[simp] theorem updatePair_kept (pair : Nat) (s : State) : (updatePair pair s).kept = s.kept := by simp [updatePair]
@[simp] theorem updatePairOf_kept (p : Nat) (s : State) : (updatePairOf p s).kept = s.kept := by
  unfold updatePairOf
  split <;> simp

@[simp] theorem setLink_kept (p l : Nat) (s : State) : (setLink p l s).kept = s.kept := (rfl)
@[simp] theorem portUp_kept (p : Nat) (s : State) : (portUp p s).kept = s.kept := by simp [portUp]
@[simp] theorem portDown_kept (p new cause : Nat) (s : State) : (portDown p new cause s).kept = s.kept := by simp [portDown]
@[simp] theorem linkLost_kept (p cause : Nat) (s : State) : (linkLost p cause s).kept = s.kept := by simp [linkLost]
@[simp] theorem refuseLink_kept (p reason : Nat) (s : State) : (refuseLink p reason s).kept = s.kept := by simp [refuseLink]
@[simp] theorem endPause_kept (p e : Nat) (s : State) : (endPause p e s).kept = s.kept := by
  simp only [endPause]
  repeat' split
  all_goals simp

@[simp] theorem applyHold_kept (p : Nat) (s : State) : (applyHold p s).kept = s.kept := by simp [applyHold]
@[simp] theorem applyHolds_kept (s : State) : (applyHolds s).kept = s.kept := by simp [applyHolds]
@[simp] theorem gateEntry_kept (p : Nat) (s : State) : (gateEntry p s).kept = s.kept := by simp [gateEntry]
@[simp] theorem stageGates_kept (atOnce : Bool) (s : State) : (stageGates atOnce s).kept = s.kept := by simp [stageGates]
@[simp] theorem gateList_kept (p : Nat) (s : State) : (gateList p s).kept = s.kept := by
  simp only [gateList]
  repeat' split
  all_goals simp

@[simp] theorem enqueue_kept (p cls src num : Nat) (frame : List Byte) (s : State) :
    (enqueue p cls src num frame s).kept = s.kept := by simp [enqueue]

@[simp] theorem sendPort_kept (p cls src num : Nat) (dst : List Byte) (etype : Nat) (payload : List Byte) (s : State) :
    (sendPort p cls src num dst etype payload s).kept = s.kept := by simp [sendPort]

@[simp] theorem sendPair_kept (pair cls src num : Nat) (dst : List Byte) (etype : Nat) (payload : List Byte) (s : State) :
    (sendPair pair cls src num dst etype payload s).kept = s.kept := by simp [sendPair]

@[simp] theorem sendMask_kept (mask cls src num : Nat) (dst : List Byte) (etype : Nat) (payload : List Byte) (s : State) :
    (sendMask mask cls src num dst etype payload s).kept = s.kept := by simp [sendMask]

@[simp] theorem dropTooLong_kept (p q : Nat) (s : State) : (dropTooLong p q s).kept = s.kept := by
  simp only [dropTooLong]
  repeat' split
  all_goals simp

@[simp] theorem txUnderrun_kept (p : Nat) (s : State) : (txUnderrun p s).kept = s.kept := by
  simp only [txUnderrun]
  repeat' split
  all_goals simp

@[simp] theorem resetThresholds_kept (s : State) : (resetThresholds s).kept = s.kept := by simp [resetThresholds]
@[simp] theorem takePause_kept (p quanta : Nat) (s : State) : (takePause p quanta s).kept = s.kept := by simp [takePause]
@[simp] theorem pauseOver_kept (p : Nat) (s : State) : (pauseOver p s).kept = s.kept := by simp [pauseOver]
@[simp] theorem prpSupervision_kept (pair : Nat) (s : State) : (prpSupervision pair s).kept = s.kept := by simp [prpSupervision]
@[simp] theorem showFill_kept (pair : Nat) (s : State) : (showFill pair s).kept = s.kept := (rfl)
@[simp] theorem nodeForget_kept (pair mac : Nat) (s : State) : (nodeForget pair mac s).kept = s.kept := by
  simp only [nodeForget]
  repeat' split
  all_goals simp

@[simp] theorem portSilent_kept (p : Nat) (s : State) : (portSilent p s).kept = s.kept := by
  unfold portSilent
  split <;> simp

@[simp] theorem clearPorts_kept (s : State) : (clearPorts s).kept = s.kept := (rfl)

/-! The functions of Mirror. -/

@[simp] theorem sendMirror_kept (onM : Bool) (type : Nat) (payload : List Byte) (s : State) :
    (sendMirror onM type payload s).kept = s.kept := by simp [sendMirror]

@[simp] theorem setRole_kept (new : Nat) (s : State) : (setRole new s).kept = s.kept := by simp [setRole]
@[simp] theorem flushQueue_kept (p q : Nat) (s : State) : (flushQueue p q s).kept = s.kept := by simp [flushQueue]
@[simp] theorem relinquish_kept (cause : Nat) (s : State) : (relinquish cause s).kept = s.kept := by simp [relinquish]
@[simp] theorem leaveRole_kept (s : State) : (leaveRole s).kept = s.kept := by simp [leaveRole]
@[simp] theorem decisionRecord_kept (g slot kind cause : Nat) (arrived : List Nat) (s : State) :
    (decisionRecord g slot kind cause arrived s).kept = s.kept := by simp [decisionRecord]

@[simp] theorem sentMark_kept (source number : Nat) (s : State) : (sentMark source number s).kept = s.kept := by simp [sentMark]
@[simp] theorem holdTx_kept (x : HeldTx) (s : State) : (holdTx x s).kept = s.kept := (rfl)
@[simp] theorem dropHeld_kept (source number : Nat) (s : State) : (dropHeld source number s).kept = s.kept := (rfl)

/-! The functions of Align. -/

@[simp] theorem State.setGroup_kept (s : State) (g : Nat) (x : Group) : (State.setGroup s g x).kept = s.kept := (rfl)
@[simp] theorem State.setStream_kept (s : State) (h : Nat) (x : Stream) : (State.setStream s h x).kept = s.kept := (rfl)
@[simp] theorem setSlot_kept (g i : Nat) (x : Slot) (s : State) : (setSlot g i x s).kept = s.kept := (rfl)
@[simp] theorem onSlot_kept (g i : Nat) (f : Slot → Slot) (s : State) : (onSlot g i f s).kept = s.kept := by
  unfold onSlot
  split <;> simp

@[simp] theorem enterHistory_kept (h i : Nat) (words quals : List Nat) (s : State) : (enterHistory h i words quals s).kept = s.kept := (rfl)
@[simp] theorem predictSlot_kept (g j : Nat) (s : State) : (predictSlot g j s).kept = s.kept := by
  unfold predictSlot
  split <;> simp

/-! The functions of Eddy. -/

@[simp] theorem State.setBand_kept (s : State) (r b : Nat) (x : Band) : (State.setBand s r b x).kept = s.kept := (rfl)
@[simp] theorem updateBand_kept (rate : Int) (r h b j : Nat) (s : State) : (updateBand rate r h b j s).kept = s.kept := (rfl)
@[simp] theorem eddyProcess_kept (g i : Nat) (s : State) : (eddyProcess g i s).kept = s.kept := by simp [eddyProcess]
@[simp] theorem eddyRestore_kept (t : Tab BandSpec) (s : State) : (eddyRestore t s).kept = s.kept := by
  refine kept_foldl (fun s e => ?_) _ _
  split <;> simp

@[simp] theorem transitionRecord_kept (r b state env t96 : Nat) (s : State) :
    (transitionRecord r b state env t96 s).kept = s.kept := by simp [transitionRecord]

@[simp] theorem eddyCommit_kept (g i : Nat) (at_ : Tab BandSpec) (s : State) : (eddyCommit g i at_ s).kept = s.kept := by simp [eddyCommit]
@[simp] theorem scrubLogs_kept (f : Undo → Undo) (s : State) : (scrubLogs f s).kept = s.kept := (rfl)
@[simp] theorem resetBandsOf_kept (h : Nat) (s : State) : (resetBandsOf h s).kept = s.kept := (rfl)
@[simp] theorem discardHistory_kept (h : Nat) (s : State) : (discardHistory h s).kept = s.kept := (rfl)
@[simp] theorem clearEddy_kept (s : State) : (clearEddy s).kept = s.kept := (rfl)

/-! The functions of Pack. -/

@[simp] theorem routePack_kept (dest : Nat) (f : List Byte) (s : State) : (routePack dest f s).kept = s.kept := by simp [routePack]
@[simp] theorem packFrame_kept (dest type g slot : Nat) (entries : List (List Byte)) (tail : List Byte) (s : State) :
    (packFrame dest type g slot entries tail s).kept = s.kept := by simp [packFrame]

@[simp] theorem sendPack_kept (dest type g slot : Nat) (entries : List (List Byte)) (tail : List Byte) (s : State) :
    (sendPack dest type g slot entries tail s).kept = s.kept := by
  simp only [sendPack]
  split
  · rfl
  · split <;> simp

@[simp] theorem sendCounts_kept (g i op : Nat) (s : State) : (sendCounts g i op s).kept = s.kept := by simp [sendCounts]
@[simp] theorem sendNodes_kept (g i : Nat) (s : State) : (sendNodes g i s).kept = s.kept := by simp [sendNodes]
@[simp] theorem sendEdges_kept (g i : Nat) (s : State) : (sendEdges g i s).kept = s.kept := by simp [sendEdges]
@[simp] theorem sendSamples_kept (g i : Nat) (s : State) : (sendSamples g i s).kept = s.kept := by simp [sendSamples]
@[simp] theorem sendResults_kept (g i : Nat) (changed : Bool) (s : State) :
    (sendResults g i changed s).kept = s.kept := by simp [sendResults]

/-! The functions of ModeMeter. -/

@[simp] theorem State.onMode_kept (s : State) (f : ModeSt → ModeSt) : (State.onMode s f).kept = s.kept := (rfl)
@[simp] theorem setModeState_kept (new cause : Nat) (s : State) : (setModeState new cause s).kept = s.kept := by simp [setModeState]
@[simp] theorem resetMode_kept (cause : Nat) (s : State) : (resetMode cause s).kept = s.kept := by simp [resetMode]
@[simp] theorem modeSample_kept (samples : List (Option Q)) (s : State) : (modeSample samples s).kept = s.kept := by simp [modeSample]
@[simp] theorem modeCommit_kept (g i : Nat) (s : State) : (modeCommit g i s).kept = s.kept := by simp [modeCommit]
@[simp] theorem trackModes_kept (poles : List Pole) (s : State) : (trackModes poles s).kept = s.kept := by
  unfold trackModes
  extract_lets old pairs f64s step
  have hstep (l : List (Nat × Pole)) (a : List Mode × Nat × State) : (l.foldl step a).2.2.kept = a.2.2.kept := by
    induction l generalizing a with
    | nil => rfl
    | cons e l ih => rw [List.foldl_cons, ih]; unfold step; dsimp only; split <;> simp
  simp [hstep]

@[simp] theorem publishModes_kept (k : Nat) (s : State) : (publishModes k s).kept = s.kept := by
  unfold publishModes
  extract_lets capped modes rows put s1 reported t s2 best w3
  have hput (s : State) (e : Nat × Option Mode) : (put s e).kept = s.kept := by
    unfold put
    split <;> simp
  simp [hput, s2, s1]

@[simp] theorem modeRefresh_kept (s : State) : (modeRefresh s).kept = s.kept := by simp [modeRefresh]
@[simp] theorem State.setBranch_kept (s : State) (n : Nat) (x : Branch) : (State.setBranch s n x).kept = s.kept := (rfl)
@[simp] theorem restartLocation_kept (s : State) : (restartLocation s).kept = s.kept := (rfl)
@[simp] theorem branchSample_kept (n t96 : Nat) (v i : Q × Q) (coef : List Nat) (s : State) :
    (branchSample n t96 v i coef s).kept = s.kept := by simp [branchSample]

@[simp] theorem locationCommit_kept (g i : Nat) (s : State) : (locationCommit g i s).kept = s.kept := by
  unfold locationCommit
  split
  · rfl
  extract_lets rate d n word push rows s1 c moved s2 s3 fo half coef h t
  have h3 : s3.kept = s.kept := by unfold s3 s2; split <;> simp [s1]
  split
  · simp [s1]
  split
  · exact h3
  · refine (kept_foldl (fun s r => ?_) _ _).trans h3
    dsimp only
    split <;> simp

@[simp] theorem locationResult_kept (s : State) : (locationResult s).kept = s.kept := by simp [locationResult]
@[simp] theorem localWindow_kept (sh : Bool) (t96 : Nat) (w : WaveWindow) (band : Nat) (s : State) :
    (localWindow sh t96 w band s).kept = s.kept := by simp [localWindow]

@[simp] theorem interharmonic_kept (ws : List WaveWindow) (s : State) : (interharmonic ws s).kept = s.kept := by simp [interharmonic]

/-! The functions of Oxbow. -/

@[simp] theorem State.setOx_kept (s : State) (g : Nat) (x : OxGroup) : (State.setOx s g x).kept = s.kept := (rfl)
@[simp] theorem touchRow_kept (r : Nat) (s : State) : (touchRow r s).kept = s.kept := (rfl)
@[simp] theorem tableIslands_kept (g i nominal : Nat) (l : List Island) (s : State) : (tableIslands g i nominal l s).2.kept = s.kept := by
  unfold tableIslands
  rw [kept_foldl_snd]
  intro p a
  dsimp only
  repeat' split
  all_goals simp

@[simp] theorem trackIslands_kept (g i nominal : Nat) (nodes : Tab OxNode) (main : List Nat) (cs : List (List Nat)) (s : State) :
    (trackIslands g i nominal nodes main cs s).1.kept = s.kept := by
  unfold trackIslands
  dsimp only
  rw [tableIslands_kept]
  refine (kept_foldl (fun s e => ?_) _ _).trans ?_
  · repeat' split
    all_goals simp
  refine (kept_foldl (fun s e => ?_) _ _).trans ?_
  · split <;> simp
  rw [State.onOxbow_kept]
  split <;> simp

@[simp] theorem takeOxSwap_kept (g boundary : Nat) (s : State) : (takeOxSwap g boundary s).kept = s.kept := by
  unfold takeOxSwap
  split <;> simp

@[simp] theorem underSlotSet_kept (g i : Nat) (f : State → State) (s : State) (hf : ∀ s, (f s).kept = s.kept) :
    (underSlotSet g i f s).kept = s.kept := by
  unfold underSlotSet
  split
  · exact hf s
  · exact (hf _).trans (takeOxSwap_kept _ _ _)

@[simp] theorem oxbowEdges_kept (g i : Nat) (s : State) : (oxbowEdges g i s).kept = s.kept := by simp [oxbowEdges]
@[simp] theorem oxbowTrack_kept (g i : Nat) (s : State) : (oxbowTrack g i s).kept = s.kept := by simp [oxbowTrack]
@[simp] theorem reportIsland_kept (kind g nominal other : Nat) (x : Island) (s : State) :
    (reportIsland kind g nominal other x s).kept = s.kept := by simp [reportIsland]

@[simp] theorem reportEnd_kept (g nominal id parent cause other : Nat) (survivor : Option Island) (s : State) :
    (reportEnd g nominal id parent cause other survivor s).kept = s.kept := by
  unfold reportEnd
  repeat' split
  all_goals simp

@[simp] theorem oxbowCommit_kept (g nominal : Nat) (x : OxGroup) (s : State) : (oxbowCommit g nominal x s).kept = s.kept := by
  unfold oxbowCommit
  dsimp only
  split
  · rfl
  refine (kept_foldl (fun s y => ?_) _ _).trans ((kept_foldl (fun s e => ?_) _ _).trans (kept_foldl (fun s e => ?_) _ _))
  · repeat' split
    all_goals simp
  · simp
  · repeat' split
    all_goals simp

@[simp] theorem oxbowStop_kept (g : Nat) (s : State) : (oxbowStop g s).kept = s.kept := by simp [oxbowStop]
@[simp] theorem clearOxbow_kept (s : State) : (clearOxbow s).kept = s.kept := (rfl)
@[simp] theorem State.setLom_kept (s : State) (m : Nat) (x : Lom) : (State.setLom s m x).kept = s.kept := (rfl)
@[simp] theorem lomOperate_kept (m e : Nat) (on : Bool) (measure : Nat) (s : State) :
    (lomOperate m e on measure s).kept = s.kept := by simp [lomOperate]

@[simp] theorem lomElement_kept (m e : Nat) (measure : Option Q) (beyond back : Q → Bool) (delay : Nat) (s : State) :
    (lomElement m e measure beyond back delay s).kept = s.kept := by
  unfold lomElement
  split <;> simp

@[simp] theorem lomEvaluate_kept (m f phi v1 vmin vmax : Nat) (invalid : Bool) (s : State) :
    (lomEvaluate m f phi v1 vmin vmax invalid s).kept = s.kept := by
  simp [lomEvaluate]
  split <;> simp

@[simp] theorem vectorHold_kept (m : Nat) (s : State) : (vectorHold m s).kept = s.kept := by simp [vectorHold]

/-! The functions of AlarmOut. -/

@[simp] theorem State.setAlarm_kept (s : State) (r : Nat) (x : Alarm) : (State.setAlarm s r x).kept = s.kept := (rfl)
@[simp] theorem State.setPin_kept (s : State) (p : Nat) (x : Pin) : (State.setPin s p x).kept = s.kept := (rfl)
@[simp] theorem updatePin_kept (p : Nat) (s : State) : (updatePin p s).kept = s.kept := by simp [updatePin]
@[simp] theorem updatePins_kept (s : State) : (updatePins s).kept = s.kept := by simp [updatePins]
@[simp] theorem startPinTest_kept (p : Nat) (s : State) : (startPinTest p s).1.kept = s.kept := by simp [startPinTest]
@[simp] theorem endPinTest_kept (p : Nat) (s : State) : (endPinTest p s).kept = s.kept := by
  unfold endPinTest
  split <;> simp

@[simp] theorem heartbeat_kept (s : State) : (heartbeat s).kept = s.kept := by simp [heartbeat]
@[simp] theorem heartbeatLoss_kept (s : State) : (heartbeatLoss s).kept = s.kept := by simp [heartbeatLoss]
@[simp] theorem putAlarmFrame_kept (u : Nat) (p : List Byte) (s : State) : (putAlarmFrame u p s).kept = s.kept := by simp [putAlarmFrame]
@[simp] theorem sendAlarmFrame_kept (u index : Nat) (l : List Byte) (s : State) :
    (sendAlarmFrame u index l s).kept = s.kept := by simp [sendAlarmFrame]

@[simp] theorem State.setBucket_kept (s : State) (u : Nat) (b : Bucket) : (State.setBucket s u b).kept = s.kept := (rfl)
@[simp] theorem sendFirst_kept (u r : Nat) (x : Report) (s : State) : (sendFirst u r x s).kept = s.kept := by simp [sendFirst]
@[simp] theorem offerFrame_kept (u r : Nat) (x : Report) (s : State) : (offerFrame u r x s).kept = s.kept := by
  simp only [offerFrame]
  repeat' split
  all_goals simp

@[simp] theorem sendTransition_kept (r newState : Nat) (payload : List Byte) (s : State) :
    (sendTransition r newState payload s).kept = s.kept := by simp [sendTransition]

@[simp] theorem repeatOn_kept (r u : Nat) (s : State) : (repeatOn r u s).kept = s.kept := by
  unfold repeatOn
  split <;> simp

@[simp] theorem frameRepeat_kept (r : Nat) (s : State) : (frameRepeat r s).kept = s.kept := by simp [frameRepeat]
@[simp] theorem leavePending_kept (u : Nat) (s : State) (e : Nat × Report) : (leavePending u s e).kept = s.kept := by simp [leavePending]
@[simp] theorem tokenRefill_kept (p : Nat) (s : State) : (tokenRefill p s).kept = s.kept := by simp [tokenRefill]
@[simp] theorem stormEnd_kept (p : Nat) (s : State) : (stormEnd p s).kept = s.kept := by simp [stormEnd]
@[simp] theorem alarmHeartbeat_kept (s : State) : (alarmHeartbeat s).kept = s.kept := by simp [alarmHeartbeat]
@[simp] theorem putGooseFrame_kept (mask cls : Nat) (dst frame : List Byte) (s : State) :
    (putGooseFrame mask cls dst frame s).kept = s.kept := by simp [putGooseFrame]

@[simp] theorem sendGoose_kept (mask cls d : Nat) (s : State) : (sendGoose mask cls d s).kept = s.kept := by simp [sendGoose]
@[simp] theorem putGoose_kept (d : Nat) (x : Goose) (s : State) : (putGoose d x s).kept = s.kept := (rfl)
@[simp] theorem gooseChange_kept (mask cls d : Nat) (members : List (Bool × Nat)) (s : State) :
    (gooseChange mask cls d members s).kept = s.kept := by simp [gooseChange]

@[simp] theorem updateGoose_kept (s : State) : (updateGoose s).kept = s.kept := by simp [updateGoose]
@[simp] theorem gooseAgain_kept (d : Nat) (s : State) : (gooseAgain d s).kept = s.kept := by simp [gooseAgain]
@[simp] theorem gooseSentinel_kept (s : State) : (gooseSentinel s).kept = s.kept := by simp [gooseSentinel]

/-! The functions of FourState. -/

@[simp] theorem State.setFour_kept (s : State) (fn : Nat) (ep dp : Bool) : (State.setFour s fn ep dp).kept = s.kept := (rfl)
@[simp] theorem fourWrite_kept (fn st : Nat) (on : Bool) (s : State) : (fourWrite fn st on s).1.kept = s.kept := by
  unfold fourWrite
  split <;> simp

@[simp] theorem fourEnd_kept (fn st : Nat) (s : State) : (fourEnd fn st s).1.kept = s.kept := by
  unfold fourEnd
  repeat' split
  all_goals simp

@[simp] theorem fourStop_kept (fn : Nat) (s : State) : (fourStop fn s).kept = s.kept := (rfl)

/-! The functions of HeadBase. -/

@[simp] theorem State.setChan_kept (s : State) (c : Nat) (x : ChannelSt) : (State.setChan s c x).kept = s.kept := (rfl)
@[simp] theorem State.setFeeder_kept (s : State) (f : Nat) (x : FeederSt) : (State.setFeeder s f x).kept = s.kept := (rfl)

/-! The functions of Rings. -/

@[simp] theorem postDescriptor_kept (s : State) : (postDescriptor s).kept = s.kept := by simp [postDescriptor]
@[simp] theorem descriptorDue_kept (s : State) : (descriptorDue s).kept = s.kept := by simp [descriptorDue]
@[simp] theorem archivePush_kept (l : List Byte) (s : State) : (archivePush l s).kept = s.kept := by simp [archivePush]
@[simp] theorem exportRun_kept (y0 : List (List Byte)) (s : State) : (exportRun y0 s).kept = s.kept := by
  induction y0 generalizing s with
  | nil => simp [exportRun]
  | cons l rest ih => unfold exportRun; dsimp only; split <;> simp [ih]

@[simp] theorem exportGoOn_kept (s : State) : (exportGoOn s).kept = s.kept := by
  simp only [exportGoOn]
  repeat' split
  all_goals simp

@[simp] theorem exportBegin_kept (source row : Nat) (l : List (List Byte)) (s : State) :
    (exportBegin source row l s).kept = s.kept := by simp [exportBegin]

@[simp] theorem exportDescriptor_kept (source count : Nat) (s : State) :
    (exportDescriptor source count s).kept = s.kept := by simp [exportDescriptor]

@[simp] theorem exportEnd_kept (s : State) : (exportEnd s).kept = s.kept := (rfl)

/-! The functions of Capture. -/

@[simp] theorem captureNotice_kept (kind row flags cause number t0 rows : Nat) (s : State) :
    (captureNotice kind row flags cause number t0 rows s).kept = s.kept := by simp [captureNotice]

@[simp] theorem setCaptureState_kept (new : Nat) (s : State) : (setCaptureState new s).kept = s.kept := by simp [setCaptureState]
@[simp] theorem showFree_kept (s : State) : (showFree s).kept = s.kept := (rfl)
@[simp] theorem releaseRow_kept (r : Nat) (s : State) : (releaseRow r s).kept = s.kept := by
  unfold releaseRow
  split <;> simp

@[simp] theorem makeRoom_kept (n : Nat) (y0 : List Nat) (s : State) : (makeRoom n y0 s).kept = s.kept := by
  induction y0 generalizing s with
  | nil => rfl
  | cons r l ih => unfold makeRoom; split <;> simp [ih]

@[simp] theorem reserve_kept (s : State) : (reserve s).2.kept = s.kept := by
  simp only [reserve]
  repeat' split
  all_goals simp

@[simp] theorem arm_kept (s : State) : (arm s).kept = s.kept := by
  simp only [arm]
  repeat' split
  all_goals simp

@[simp] theorem unblock_kept (s : State) : (unblock s).kept = s.kept := by simp [unblock]
@[simp] theorem suppress_kept (x : Trig) (cause : Nat) (s : State) : (suppress x cause s).kept = s.kept := by simp [suppress]
@[simp] theorem endRecord_kept (cause : Nat) (s : State) : (endRecord cause s).kept = s.kept := by
  unfold endRecord
  split <;> simp

@[simp] theorem checkRecord_kept (s : State) : (checkRecord s).kept = s.kept := by
  unfold checkRecord
  repeat' split
  all_goals simp

@[simp] theorem startRecord_kept (x : Trig) (late : Bool) (s : State) : (startRecord x late s).kept = s.kept := by simp [startRecord]
@[simp] theorem takeTrigger_kept (x : Trig) (late : Bool) (s : State) : (takeTrigger x late s).kept = s.kept := by
  unfold takeTrigger
  repeat' split
  all_goals simp

@[simp] theorem leashForward_kept (x : Trig) (s : State) : (leashForward x s).kept = s.kept := by simp [leashForward]
@[simp] theorem rowFires_kept (n t0 ref : Nat) (s : State) : (rowFires n t0 ref s).kept = s.kept := by simp [rowFires]
@[simp] theorem levelStep_kept (n : Nat) (v : Q) (s : State) : (levelStep n v s).1.kept = s.kept := (rfl)
@[simp] theorem quantityTriggers_kept (kind a b : Nat) (v : Option Q) (t0 : Nat) (s : State) :
    (quantityTriggers kind a b v t0 s).kept = s.kept := by
  unfold quantityTriggers
  split <;> simp

@[simp] theorem alarmTrigger_kept (rule new inst_ t0 : Nat) (s : State) :
    (alarmTrigger rule new inst_ t0 s).kept = s.kept := by simp [alarmTrigger]

@[simp] theorem stampTriggers_kept (input t0 : Nat) (rising : Bool) (s : State) :
    (stampTriggers input t0 rising s).kept = s.kept := by simp [stampTriggers]

@[simp] theorem storeRow_kept (r : CapRow) (s : State) : (storeRow r s).kept = s.kept := by
  unfold storeRow
  repeat' split
  all_goals simp

@[simp] theorem sampleTriggers_kept (r : CapRow) (s : State) : (sampleTriggers r s).1.kept = s.kept := by simp [sampleTriggers]
@[simp] theorem captureRow_kept (raw : List Chain) (din : Nat) (edges : List DinEdge) (s : State) :
    (captureRow raw din edges s).kept = s.kept := by simp [captureRow]

@[simp] theorem captureOn_kept (s : State) : (captureOn s).kept = s.kept := by simp [captureOn]
@[simp] theorem captureMove_kept (new : Nat) (s : State) : (captureMove new s).kept = s.kept := by simp [captureMove]
@[simp] theorem captureEnable_kept (on : Bool) (s : State) : (captureEnable on s).kept = s.kept := by simp [captureEnable]
@[simp] theorem captureStop_kept (s : State) : (captureStop s).kept = s.kept := by simp [captureStop]
@[simp] theorem triggerCommand_kept (arg : Nat) (s : State) : (triggerCommand arg s).kept = s.kept := by simp [triggerCommand]
@[simp] theorem recordClose_kept (s : State) : (recordClose s).kept = s.kept := by
  unfold recordClose
  split <;> simp

@[simp] theorem captureOverflow_kept (s : State) : (captureOverflow s).kept = s.kept := by
  unfold captureOverflow
  split <;> simp

@[simp] theorem rearmComplete_kept (s : State) : (rearmComplete s).kept = s.kept := by simp [rearmComplete]
@[simp] theorem exportRecord_kept (r : Nat) (s : State) : (exportRecord r s).1.kept = s.kept := by
  unfold exportRecord
  split <;> simp

@[simp] theorem markExported_kept (r : Nat) (s : State) : (markExported r s).kept = s.kept := (rfl)
@[simp] theorem recordExportDone_kept (s : State) : (recordExportDone s).kept = s.kept := by
  unfold recordExportDone
  repeat' split
  all_goals simp

@[simp] theorem recordExportAbort_kept (s : State) : (recordExportAbort s).kept = s.kept := by
  simp only [recordExportAbort]
  repeat' split
  all_goals simp

@[simp] theorem releaseRecord_kept (r : Nat) (s : State) : (releaseRecord r s).1.kept = s.kept := by simp [releaseRecord]
@[simp] theorem captureLoseStore_kept (cause : Nat) (s : State) : (captureLoseStore cause s).kept = s.kept := by simp [captureLoseStore]
@[simp] theorem trigInEdge_kept (input : Nat) (rising : Bool) (s : State) :
    (trigInEdge input rising s).kept = s.kept := by simp [trigInEdge]

@[simp] theorem clearCapture_kept (s : State) : (clearCapture s).kept = s.kept := (rfl)

/-! The functions of WideRing. -/

@[simp] theorem trimRing_kept (s : State) : (trimRing s).kept = s.kept := by simp [trimRing]
@[simp] theorem ringResize_kept (s : State) : (ringResize s).kept = s.kept := by simp [ringResize]
@[simp] theorem ringClear_kept (s : State) : (ringClear s).kept = s.kept := by simp [ringClear]
@[simp] theorem ringStart_kept (s : State) : (ringStart s).kept = s.kept := by simp [ringStart]
@[simp] theorem ringFreezeEnd_kept (s : State) : (ringFreezeEnd s).kept = s.kept := by simp [ringFreezeEnd]
@[simp] theorem ringFreeze_kept (rule t96 : Nat) (s : State) : (ringFreeze rule t96 s).kept = s.kept := by simp [ringFreeze]
@[simp] theorem alarmFreeze_kept (rule t96 : Nat) (s : State) : (alarmFreeze rule t96 s).kept = s.kept := by simp [alarmFreeze]
@[simp] theorem freezeCommand_kept (s : State) : (freezeCommand s).1.kept = s.kept := by simp [freezeCommand]
@[simp] theorem ringCommit_kept (g i : Nat) (s : State) : (ringCommit g i s).kept = s.kept := by
  unfold ringCommit
  split <;> simp

@[simp] theorem ringRelease_kept (how : Nat) (s : State) : (ringRelease how s).kept = s.kept := by simp [ringRelease]
@[simp] theorem releaseCommand_kept (s : State) : (releaseCommand s).1.kept = s.kept := by simp [releaseCommand]
@[simp] theorem exportCommand_kept (s : State) : (exportCommand s).1.kept = s.kept := by simp [exportCommand]
@[simp] theorem ringExportDone_kept (s : State) : (ringExportDone s).kept = s.kept := by simp [ringExportDone]
@[simp] theorem ringExportAbort_kept (s : State) : (ringExportAbort s).kept = s.kept := by simp [ringExportAbort]

/-! The functions of Alarms. -/

@[simp] theorem latch_kept (v : View) (row : Nat) (x : TermVal) (s : State) : (latch v row x s).2.kept = s.kept := by
  unfold latch
  split <;> simp

@[simp] theorem evaluate_kept (r : Nat) (v : Option View) (s : State) : (evaluate r v s).2.kept = s.kept := by
  unfold evaluate
  split <;> simp

@[simp] theorem alarmPacket_kept (r old new group : Nat) (x : Alarm) (decision : Nat) (s : State) :
    (alarmPacket r old new group x decision s).kept = s.kept := by simp [alarmPacket]

@[simp] theorem countTransition_kept (r new cause : Nat) (x : Alarm) (s : State) : (countTransition r new cause x s).kept = s.kept := by
  unfold countTransition
  split <;> simp

@[simp] theorem transition_kept (r new decision cause : Nat) (e : Evaluation) (s : State) :
    (transition r new decision cause e s).kept = s.kept := by simp [transition]

@[simp] theorem moveRaise_kept (r nominal : Nat) (s : State) : (moveRaise r nominal s).kept = s.kept := (rfl)
@[simp] theorem ruleProcess_kept (r nominal : Nat) (replay direct : Bool) (v : View) (s : State) :
    (ruleProcess r nominal replay direct v s).kept = s.kept := by simp [ruleProcess]

@[simp] theorem alarmProcess_kept (g k : Nat) (replay direct : Bool) (s : State) : (alarmProcess g k replay direct s).kept = s.kept := by
  unfold alarmProcess
  split <;> simp

@[simp] theorem reportDegraded_kept (r d : Nat) (s : State) : (reportDegraded r d s).kept = s.kept := by simp [reportDegraded]
@[simp] theorem ruleDecide_kept (r nominal : Nat) (raised : Bool) (e : Evaluation) (s : State) :
    (ruleDecide r nominal raised e s).kept = s.kept := by simp [ruleDecide]

@[simp] theorem ruleCommit_kept (r nominal : Nat) (v : View) (s : State) : (ruleCommit r nominal v s).kept = s.kept := by simp [ruleCommit]
@[simp] theorem alarmCommit_kept (g k : Nat) (bands : Tab BandSpec) (ox : OxGroup) (s : State) :
    (alarmCommit g k bands ox s).kept = s.kept := by
  unfold alarmCommit
  split <;> simp

@[simp] theorem localUpdate_kept (r : Nat) (s : State) : (localUpdate r s).kept = s.kept := by simp [localUpdate]
@[simp] theorem acknowledge_kept (r : Nat) (s : State) : (acknowledge r s).1.kept = s.kept := by simp [acknowledge]
@[simp] theorem clearAlarms_kept (s : State) : (clearAlarms s).kept = s.kept := (rfl)
@[simp] theorem resetRule_kept (r at_ : Nat) (s : State) : (resetRule r at_ s).kept = s.kept := by simp [resetRule]

/-! The functions of Pair. -/

@[simp] theorem cutImage_kept (s : State) : (cutImage s).kept = s.kept := by simp [cutImage]
@[simp] theorem handOverNow_kept (s : State) : (handOverNow s).kept = s.kept := by simp [handOverNow]
@[simp] theorem pairBoundary_kept (s : State) : (pairBoundary s).kept = s.kept := by simp [pairBoundary]

/-! The functions of Energy. -/

@[simp] theorem State.setMeter_kept (s : State) (f : Nat) (x : MeterSt) : (State.setMeter s f x).kept = s.kept := (rfl)
@[simp] theorem State.onRegs_kept (s : State) (f : EnergyRegs → EnergyRegs) : (State.onRegs s f).kept = s.kept := (rfl)
@[simp] theorem State.setTherm_kept (s : State) (c : Nat) (x : Therm) : (State.setTherm s c x).kept = s.kept := (rfl)
@[simp] theorem showTherm_kept (c : Nat) (s : State) : (showTherm c s).kept = s.kept := (rfl)
@[simp] theorem thermistorUpdate_kept (s : State) : (thermistorUpdate s).kept = s.kept := by simp [thermistorUpdate]
@[simp] theorem temperatureTimeout_kept (c : Nat) (s : State) : (temperatureTimeout c s).kept = s.kept := by simp [temperatureTimeout]
@[simp] theorem startInterval_kept (f d at_ : Nat) (s : State) : (startInterval f d at_ s).kept = s.kept := (rfl)
@[simp] theorem endInterval_kept (f end_ extra : Nat) (s : State) : (endInterval f end_ extra s).kept = s.kept := by
  unfold endInterval
  split <;> simp

@[simp] theorem endLast_kept (f extra : Nat) (s : State) : (endLast f extra s).kept = s.kept := by
  unfold endLast
  split <;> simp

@[simp] theorem followInterval_kept (f at_ : Nat) (s : State) : (followInterval f at_ s).kept = s.kept := by
  unfold followInterval
  split <;> simp

@[simp] theorem demandEnd_kept (s : State) : (demandEnd s).kept = s.kept := by simp [demandEnd]
@[simp] theorem meterState_kept (f : Nat) (s : State) : (meterState f s).kept = s.kept := by simp [meterState]
@[simp] theorem accumulate_kept (row : Nat) (power dt : Q) (s : State) : (accumulate row power dt s).kept = s.kept := by simp [accumulate]
@[simp] theorem sortLine_kept (base : Nat) (p q v dt : Q) (s : State) : (sortLine base p q v dt s).kept = s.kept := by simp [sortLine]
@[simp] theorem markInterval_kept (f flags : Nat) (s : State) : (markInterval f flags s).kept = s.kept := by
  unfold markInterval
  split <;> simp

@[simp] theorem meterSample_kept (f : Nat) (s : State) : (meterSample f s).kept = s.kept := by
  unfold meterSample
  extract_lets m at_ s1 s2 ps dt s3 known total ns m3 s4 s5 s6
  have h2 : s2.kept = s.kept := by unfold s2; split <;> simp [s1]
  have h3 : s3.kept = s.kept := by
    refine (kept_foldl (fun s e => ?_) _ _).trans h2
    split <;> simp
  have h4 : s4.kept = s.kept := (State.setMeter_kept _ _ _).trans ((State.addTo_kept _ _ _ _ _).trans h3)
  clear_value s4 ns dt
  have h5 : s5.kept = s.kept := by
    unfold s5
    split
    · exact (State.setMeter_kept _ _ _).trans ((sortLine_kept _ _ _ _ _ _).trans h3)
    · exact (markInterval_kept _ _ _).trans h4
  have h6 : s6.kept = s.kept := by unfold s6; split <;> simp [h5]
  split <;> simp [h6]

@[simp] theorem energySave_kept (warning : Bool) (s : State) : (energySave warning s).kept = s.kept := by simp [energySave]
@[simp] theorem periodicSave_kept (s : State) : (periodicSave s).kept = s.kept := by simp [periodicSave]
@[simp] theorem energyRestore_kept (s : State) : (energyRestore s).kept = s.kept := by
  simp only [energyRestore]
  repeat' split
  all_goals simp

@[simp] theorem snapshotNow_kept (at_ : Nat) (s : State) : (snapshotNow at_ s).kept = s.kept := by simp [snapshotNow]
@[simp] theorem takeSnapshot_kept (s : State) : (takeSnapshot s).1.kept = s.kept := by simp [takeSnapshot]
@[simp] theorem clearNow_kept (f at_ : Nat) (s : State) : (clearNow f at_ s).kept = s.kept := by
  simp only [clearNow]
  repeat' split
  all_goals simp

@[simp] theorem clearEnergy_kept (f : Nat) (s : State) : (clearEnergy f s).kept = s.kept := by simp [clearEnergy]
@[simp] theorem ackWraps_kept (f : Nat) (s : State) : (ackWraps f s).kept = s.kept := (rfl)
@[simp] theorem resetMaxima_kept (f : Nat) (s : State) : (resetMaxima f s).kept = s.kept := (rfl)
@[simp] theorem clearEnergyCounters_kept (s : State) : (clearEnergyCounters s).kept = s.kept := (rfl)
@[simp] theorem energySample_kept (s : State) : (energySample s).kept = s.kept := by simp [energySample]
@[simp] theorem energyStop_kept (s : State) : (energyStop s).kept = s.kept := by simp [energyStop]
@[simp] theorem crossCheck_kept (f g i : Nat) (s : State) : (crossCheck f g i s).kept = s.kept := by
  simp only [crossCheck]
  repeat' split
  all_goals simp

@[simp] theorem energyCommit_kept (g i : Nat) (s : State) : (energyCommit g i s).kept = s.kept := by simp [energyCommit]

/-! The functions of Shepherd. -/

@[simp] theorem shepherdPin_kept (p : Nat) (s : State) : (shepherdPin p s).kept = s.kept := by simp [shepherdPin]
@[simp] theorem allPins_kept (s : State) : (allPins s).kept = s.kept := by simp [allPins]
@[simp] theorem shepherdGoose_kept (s : State) : (shepherdGoose s).kept = s.kept := by simp [shepherdGoose]
@[simp] theorem shepherdGooseEnd_kept (s : State) : (shepherdGooseEnd s).kept = s.kept := by simp [shepherdGooseEnd]
@[simp] theorem shepherdUpdate_kept (s : State) : (shepherdUpdate s).kept = s.kept := by simp [shepherdUpdate]
@[simp] theorem setShepherd_kept (new : Nat) (s : State) : (setShepherd new s).kept = s.kept := by simp [setShepherd]
@[simp] theorem shepherdReset_kept (s : State) : (shepherdReset s).kept = s.kept := (rfl)
@[simp] theorem shepherdFollow_kept (s : State) : (shepherdFollow s).kept = s.kept := by simp [shepherdFollow]
@[simp] theorem shepherdValidity_kept (m : Nat) (invalid : Bool) (s : State) : (shepherdValidity m invalid s).kept = s.kept := (rfl)
@[simp] theorem shepherdEvaluate_kept (m f phi v1 vmin vmax : Nat) (invalid : Bool) (s : State) :
    (shepherdEvaluate m f phi v1 vmin vmax invalid s).kept = s.kept := by simp [shepherdEvaluate]

@[simp] theorem shepherdValid_kept (s : State) : (shepherdValid s).kept = s.kept := by simp [shepherdValid]
@[simp] theorem shepherdFailure_kept (cause : Nat) (s : State) : (shepherdFailure cause s).kept = s.kept := by simp [shepherdFailure]
@[simp] theorem shepherdSwap_kept (s : State) : (shepherdSwap s).kept = s.kept := by
  simp [shepherdSwap]

/-! The functions of HeadState. -/

@[simp] theorem setLocalState_kept (l new : Nat) (s : State) : (setLocalState l new s).kept = s.kept := by simp [setLocalState]
@[simp] theorem localMove_kept (l new : Nat) (s : State) : (localMove l new s).kept = s.kept := by simp [localMove]
@[simp] theorem localEnable_kept (l : Nat) (on : Bool) (s : State) : (localEnable l on s).kept = s.kept := by simp [localEnable]
@[simp] theorem localOnNow_kept (l : Nat) (s : State) : (localOnNow l s).kept = s.kept := by simp [localOnNow]
@[simp] theorem localRestart_kept (l : Nat) (s : State) : (localRestart l s).kept = s.kept := by simp [localRestart]
@[simp] theorem setFeederState_kept (f new : Nat) (s : State) : (setFeederState f new s).kept = s.kept := by simp [setFeederState]
@[simp] theorem feederBegin_kept (f : Nat) (s : State) : (feederBegin f s).kept = s.kept := by simp [feederBegin]
@[simp] theorem feederMove_kept (f new : Nat) (s : State) : (feederMove f new s).kept = s.kept := by simp [feederMove]
@[simp] theorem feederEnable_kept (f : Nat) (on : Bool) (s : State) : (feederEnable f on s).kept = s.kept := by simp [feederEnable]
@[simp] theorem feederOn_kept (f : Nat) (s : State) : (feederOn f s).kept = s.kept := by simp [feederOn]
@[simp] theorem feederStopped_kept (f : Nat) (s : State) : (feederStopped f s).kept = s.kept := by simp [feederStopped]
@[simp] theorem feederRestart_kept (f : Nat) (s : State) : (feederRestart f s).kept = s.kept := by simp [feederRestart]
@[simp] theorem headStop_kept (s : State) : (headStop s).kept = s.kept := by simp [headStop]
@[simp] theorem headStart_kept (s : State) : (headStart s).kept = s.kept := by simp [headStart]
@[simp] theorem delayFault_kept (c cause drt : Nat) (s : State) : (delayFault c cause drt s).kept = s.kept := by simp [delayFault]
@[simp] theorem returnDelay_kept (c measured : Nat) (s : State) : (returnDelay c measured s).kept = s.kept := by
  simp only [returnDelay]
  repeat' split
  all_goals simp

@[simp] theorem modulatorFault_kept (c : Nat) (s : State) : (modulatorFault c s).kept = s.kept := by simp [modulatorFault]
@[simp] theorem modulatorBack_kept (c : Nat) (s : State) : (modulatorBack c s).kept = s.kept := by simp [modulatorBack]
@[simp] theorem switchBank_kept (fade : Nat) (s : State) : (switchBank fade s).1.kept = s.kept := by simp [switchBank]
@[simp] theorem fadeComplete_kept (s : State) : (fadeComplete s).kept = s.kept := by
  unfold fadeComplete
  split <;> simp

@[simp] theorem peakRead_kept (c : Nat) (s : State) : (peakRead c s).1.kept = s.kept := by simp [peakRead]
@[simp] theorem peakSinceRead_kept (w : Who) (c : Nat) (s : State) : (peakSinceRead w c s).kept = s.kept := by simp [peakSinceRead]
@[simp] theorem svLost_kept (r : Nat) (s : State) : (svLost r s).kept = s.kept := by simp [svLost]
@[simp] theorem clearHeadwater_kept (s : State) : (clearHeadwater s).kept = s.kept := (rfl)

/-! The functions of Jobs. -/

@[simp] theorem State.setJob_kept (s : State) (j : Nat) (x : JobRow) : (State.setJob s j x).kept = s.kept := (rfl)
@[simp] theorem addBusy_kept (c : Nat) (r : Run) (s : State) : (addBusy c r s).kept = s.kept := (rfl)
@[simp] theorem startOn_kept (j c : Nat) (s : State) : (startOn j c s).kept = s.kept := by
  simp only [startOn]
  repeat' split
  all_goals simp

@[simp] theorem preempt_kept (c : Nat) (s : State) : (preempt c s).kept = s.kept := by
  simp only [preempt]
  repeat' split
  all_goals simp

@[simp] theorem jobDispatch_kept (j : Nat) (s : State) : (jobDispatch j s).kept = s.kept := by
  simp only [jobDispatch]
  repeat' split
  all_goals simp

@[simp] theorem jobWaitOver_kept (j : Nat) (s : State) : (jobWaitOver j s).kept = s.kept := by
  simp only [jobWaitOver]
  repeat' split
  all_goals simp

@[simp] theorem jobReport_kept (kind j due : Nat) (words : List Nat) (s : State) :
    (jobReport kind j due words s).kept = s.kept := by simp [jobReport]

@[simp] theorem setJobState_kept (j new : Nat) (s : State) : (setJobState j new s).kept = s.kept := by simp [setJobState]
@[simp] theorem jobMove_kept (j new : Nat) (s : State) : (jobMove j new s).kept = s.kept := by simp [jobMove]
@[simp] theorem jobEnable_kept (j : Nat) (on : Bool) (s : State) : (jobEnable j on s).kept = s.kept := by simp [jobEnable]
@[simp] theorem becomeDue_kept (j due ago : Nat) (command : Bool) (s : State) :
    (becomeDue j due ago command s).kept = s.kept := by simp [becomeDue]

@[simp] theorem jobDue_kept (j : Nat) (s : State) : (jobDue j s).kept = s.kept := by
  unfold jobDue
  split <;> simp

@[simp] theorem runJobNow_kept (j : Nat) (s : State) : (runJobNow j s).1.kept = s.kept := by simp [runJobNow]
@[simp] theorem jobRunEnd_kept (j : Nat) (s : State) : (jobRunEnd j s).kept = s.kept := by
  simp only [jobRunEnd]
  repeat' split
  all_goals simp

@[simp] theorem clearJobs_kept (s : State) : (clearJobs s).kept = s.kept := (rfl)
@[simp] theorem jobsCommit_kept (g i : Nat) (s : State) : (jobsCommit g i s).kept = s.kept := by
  unfold jobsCommit
  split <;> simp

@[simp] theorem seedHistory_kept (s : State) : (seedHistory s).kept = s.kept := (rfl)
@[simp] theorem jobsStart_kept (s : State) : (jobsStart s).kept = s.kept := by simp [jobsStart]
@[simp] theorem jobsStop_kept (s : State) : (jobsStop s).kept = s.kept := (rfl)
@[simp] theorem jobsSwap_kept (before : Dict) (s : State) : (jobsSwap before s).kept = s.kept := by simp [jobsSwap]
@[simp] theorem busySample_kept (s : State) : (busySample s).kept = s.kept := by simp [busySample]

/-! The functions of Log. -/

@[simp] theorem putEntry_kept (e : Event) (s : State) : (putEntry e s).kept = s.kept := by simp [putEntry]
@[simp] theorem writeEntry_kept (e : Event) (s : State) : (writeEntry e s).kept = s.kept := by simp [writeEntry]
@[simp] theorem payDrop_kept (s : State) : ∀ u ∈ (payDrop s), u.kept = s.kept := by
  unfold payDrop
  split <;> simp

@[simp] theorem writeNext_kept (e : Event) (s : State) : (writeNext e s).kept = s.kept := by
  have hpay (s : State) : ((payDrop s).getD s).kept = s.kept := kept_getD (payDrop_kept s) rfl
  simp [writeNext, hpay]

@[simp] theorem logStep_kept (s : State) : (logStep s).kept = s.kept := by
  unfold logStep
  split
  · rfl
  split
  · rfl
  split
  · rfl
  split
  · dsimp only; split <;> simp
  · split
    next s' h => exact payDrop_kept s s' h
    next => simp

@[simp] theorem freezeLog_kept (w : Who) (s : State) : (freezeLog w s).1.kept = s.kept := by
  unfold freezeLog
  split <;> simp

@[simp] theorem releaseFreeze_kept (s : State) : (releaseFreeze s).kept = s.kept := by
  unfold releaseFreeze
  split <;> simp

@[simp] theorem releaseLog_kept (w : Who) (s : State) : (releaseLog w s).1.kept = s.kept := by
  unfold releaseLog
  split <;> simp

@[simp] theorem freezeTimeout_kept (s : State) : (freezeTimeout s).kept = s.kept := by simp [freezeTimeout]
@[simp] theorem touch_kept (idx sub row : Nat) (s : State) : (touch idx sub row s).kept = s.kept := (rfl)
@[simp] theorem clearLog_kept (s : State) : (clearLog s).1.kept = s.kept := by simp [clearLog]
@[simp] theorem clearHousekeeping_kept (s : State) : (clearHousekeeping s).kept = s.kept := (rfl)
@[simp] theorem windowEnd_kept (code key : Nat) (s : State) : (windowEnd code key s).kept = s.kept := by
  unfold windowEnd
  split <;> simp

/-! The functions of Degrade. -/

@[simp] theorem setDevState_kept (new cause : Nat) (s : State) : (setDevState new cause s).kept = s.kept := by simp [setDevState]
@[simp] theorem changeState_kept (new cause : Nat) (s : State) : (changeState new cause s).kept = s.kept := by simp [changeState]
@[simp] theorem drainLog_kept (s : State) : (drainLog s).kept = s.kept := by simp [drainLog]
@[simp] theorem pcieOff_kept (cause : Nat) (s : State) : (pcieOff cause s).kept = s.kept := by simp [pcieOff]
@[simp] theorem copyCounters_kept (s : State) : (copyCounters s).kept = s.kept := by simp [copyCounters]
@[simp] theorem holdCounters_kept (s : State) : (holdCounters s).kept = s.kept := by
  simp [holdCounters]
  rfl

@[simp] theorem alarmStop_kept (s : State) : (alarmStop s).kept = s.kept := (rfl)
@[simp] theorem cdieLost_kept (s : State) : (cdieLost s).kept = s.kept := by
  unfold cdieLost
  extract_lets s1 s2 s3 s4 s5 place eddy oxbow pub s6 s7
  have h5 : s5.kept = s.kept := by simp [s5, s4, s3, s2, s1]
  have h6 : s6.kept = s5.kept := by simp only [s6, State.kept]
  simp [s7, h6, h5]

@[simp] theorem noteEntry_kept (s : State) : (noteEntry s).kept = s.kept := (rfl)
@[simp] theorem enterSentinel_kept (cause : Nat) (byCommand : Bool) (s : State) :
    (enterSentinel cause byCommand s).kept = s.kept := by simp [enterSentinel]

@[simp] theorem timeSafe_kept (s : State) : (timeSafe s).kept = s.kept := by simp [timeSafe]
@[simp] theorem enterSafeTalk_kept (cause : Nat) (s : State) : (enterSafeTalk cause s).kept = s.kept := by simp [enterSafeTalk]

/-! The functions of Placement. -/

@[simp] theorem showSlice_kept (k : Nat) (s : State) : (showSlice k s).kept = s.kept := (rfl)
@[simp] theorem setSlice_kept (k st : Nat) (s : State) : (setSlice k st s).kept = s.kept := (rfl)
@[simp] theorem hintMissed_kept (row reason h : Nat) (s : State) : (hintMissed row reason h s).kept = s.kept := by simp [hintMissed]
@[simp] theorem showPlaced_kept (h : Nat) (s : State) : (showPlaced h s).kept = s.kept := by
  unfold showPlaced
  split <;> simp

@[simp] theorem putOn_kept (h k : Nat) (s : State) : (putOn h k s).kept = s.kept := by simp [putOn]
@[simp] theorem placeEdges_kept (s : State) : (placeEdges s).kept = s.kept := (rfl)
@[simp] theorem placeLane_kept (h : Nat) (set : List Nat) (s : State) : (placeLane h set s).kept = s.kept := by
  simp only [placeLane]
  repeat' split
  all_goals simp

@[simp] theorem lanesSwap_kept (s : State) : (lanesSwap s).kept = s.kept := by simp [lanesSwap]
@[simp] theorem parkingChanged_kept (s : State) : (parkingChanged s).kept = s.kept := by simp [parkingChanged]
@[simp] theorem unpark_kept (s : State) : (unpark s).kept = s.kept := by simp [unpark]
@[simp] theorem placeOne_kept (set : List Nat) (h : Nat) (s : State) : (placeOne set h s).kept = s.kept := by
  unfold placeOne
  split <;> simp

@[simp] theorem placeStreams_kept (l : List Nat) (s : State) : (placeStreams l s).kept = s.kept := by simp [placeStreams]
@[simp] theorem dropMigration_kept (h : Nat) (s : State) : (dropMigration h s).kept = s.kept := (rfl)
@[simp] theorem abandon_kept (h reason : Nat) (s : State) : (abandon h reason s).kept = s.kept := by
  unfold abandon
  split <;> simp

@[simp] theorem unplaceStream_kept (h : Nat) (s : State) : (unplaceStream h s).kept = s.kept := by simp [unplaceStream]
@[simp] theorem countFrame_kept (h samples : Nat) (s : State) : (countFrame h samples s).kept = s.kept := by
  unfold countFrame
  split <;> simp

@[simp] theorem startWaiting_kept (s : State) : (startWaiting s).kept = s.kept := by
  refine kept_foldl (fun s h => ?_) _ _
  repeat' split
  all_goals simp

@[simp] theorem migrate_kept (h target : Nat) (s : State) : (migrate h target s).kept = s.kept := (rfl)
@[simp] theorem contextLoaded_kept (h : Nat) (s : State) : (contextLoaded h s).kept = s.kept := by
  unfold contextLoaded
  split <;> simp

@[simp] theorem doubleReceive_kept (h : Nat) (s : State) : (doubleReceive h s).kept = s.kept := by
  unfold doubleReceive
  split <;> simp

@[simp] theorem parkEmpty_kept (s : State) : (parkEmpty s).kept = s.kept := by simp [parkEmpty]
@[simp] theorem cutover_kept (h : Nat) (s : State) : (cutover h s).kept = s.kept := by
  unfold cutover
  split <;> simp

@[simp] theorem retire_kept (k cause : Nat) (s : State) : (retire k cause s).kept = s.kept := by
  simp only [retire]
  repeat' split
  all_goals simp

@[simp] theorem sliceFault_kept (k cause : Nat) (s : State) : (sliceFault k cause s).kept = s.kept := by simp [sliceFault]
@[simp] theorem takeoverDone_kept (k : Nat) (s : State) : (takeoverDone k s).kept = s.kept := by
  unfold takeoverDone
  split <;> simp

@[simp] theorem spareCheck_kept (k : Nat) (pass : Bool) (s : State) : (spareCheck k pass s).kept = s.kept := by simp [spareCheck]
@[simp] theorem migrationAbandon_kept (h reason : Nat) (failed : List Nat) (s : State) :
    (migrationAbandon h reason failed s).kept = s.kept := by
  unfold migrationAbandon
  split <;> simp

@[simp] theorem drainSlice_kept (k : Nat) (samples frames : Q) (s : State) : (drainSlice k samples frames s).kept = s.kept := by
  unfold drainSlice
  dsimp only
  rw [startWaiting_kept]
  refine kept_foldl (fun s h => ?_) _ _
  split <;> simp

@[simp] theorem unparkCores_kept (s : State) : (unparkCores s).kept = s.kept := by simp [unparkCores]
@[simp] theorem utilisationSample_kept (s : State) : (utilisationSample s).kept = s.kept := by
  unfold utilisationSample
  extract_lets elapsed s1 rates util high s2 s3 s4 s5 active park mean low cores busy coreLow since s6
  have h3 : s3.kept = s.kept := by
    unfold s3
    rw [State.onPlace_kept]
    refine (kept_foldl (fun s e => ?_) _ _).trans (by simp [s1])
    simp
  have h4 : s4.kept = s.kept := by unfold s4; split <;> simp [h3]
  have h5 : s5.kept = s.kept := by unfold s5; split <;> simp [h4]
  repeat' split
  all_goals simp [s6, h5]

@[simp] theorem rebalanceNow_kept (s : State) : (rebalanceNow s).1.kept = s.kept := by simp [rebalanceNow]
@[simp] theorem planEmpty_kept (k : Nat) (s : State) : ∀ u ∈ (planEmpty k s), u.kept = s.kept := by
  have hfold (f : Option State → Nat → Option State) (hf : ∀ o h, (∀ u ∈ o, u.kept = s.kept) → ∀ u ∈ f o h, u.kept = s.kept) (l : List Nat) :
      ∀ o : Option State, (∀ u ∈ o, u.kept = s.kept) → ∀ u ∈ l.foldl f o, u.kept = s.kept := by
    induction l with
    | nil => exact fun o ho => ho
    | cons h l ih => exact fun o ho => ih _ (hf o h ho)
  unfold planEmpty
  extract_lets low s1 moved
  split
  · simp
  · refine hfold _ (fun o h ho => ?_) _ _ (by simp [s1])
    repeat' split
    all_goals simp_all

@[simp] theorem parkSlices_kept (y0 : List Nat) (s : State) : (parkSlices y0 s).kept = s.kept := by
  induction y0 generalizing s with
  | nil => rfl
  | cons k l ih =>
    unfold parkSlices
    split
    · exact ih s
    · split
      next s' h => exact (ih s').trans (planEmpty_kept k s s' h)
      next => rfl

@[simp] theorem parkCores_kept (s : State) : (parkCores s).kept = s.kept := by simp [parkCores]
@[simp] theorem parkDelay_kept (s : State) : (parkDelay s).kept = s.kept := by simp [parkDelay]
@[simp] theorem unparkingEnd_kept (s : State) : (unparkingEnd s).kept = s.kept := by simp [unparkingEnd]
@[simp] theorem clearPlacement_kept (s : State) : (clearPlacement s).kept = s.kept := (rfl)
@[simp] theorem showKept_kept (s : State) : (showKept s).kept = s.kept := by simp [showKept]
@[simp] theorem placeAll_kept (s : State) : (placeAll s).kept = s.kept := by simp [placeAll]
@[simp] theorem drawInterleave_kept (s : State) : (drawInterleave s).kept = s.kept := (rfl)

/-! The functions of Ip. -/

@[simp] theorem sendIp_kept (pair cls proto : Nat) (dst : List Byte) (payload : List Byte → List Byte) (s : State) :
    (sendIp pair cls proto dst payload s).kept = s.kept := by simp [sendIp]

@[simp] theorem sendPacket_kept (pair cls : Nat) (dst packet : List Byte) (s : State) :
    (sendPacket pair cls dst packet s).kept = s.kept := by simp [sendPacket]

@[simp] theorem sendDtls_kept (peer : List Byte) (packets : List (List Byte)) (s : State) :
    (sendDtls peer packets s).kept = s.kept := by simp [sendDtls]

@[simp] theorem sendImian_kept (n : Nat) (msg : List Byte) (s : State) : (sendImian n msg s).kept = s.kept := by
  unfold sendImian
  split <;> simp

@[simp] theorem sendUdp_kept (pair cls sport : Nat) (dst : List Byte) (dport : Nat) (payload : List Byte) (s : State) :
    (sendUdp pair cls sport dst dport payload s).kept = s.kept := by simp [sendUdp]

@[simp] theorem reportV4_kept (p : Nat) (groups : List (List Byte)) (s : State) : (reportV4 p groups s).kept = s.kept := by simp [reportV4]
@[simp] theorem reportV6_kept (p : Nat) (groups : List (List Byte)) (s : State) : (reportV6 p groups s).kept = s.kept := by simp [reportV6]
@[simp] theorem reportGroups_kept (p : Nat) (groups : List (List Byte)) (s : State) :
    (reportGroups p groups s).kept = s.kept := by simp [reportGroups]

/-! The functions of Publish. -/

@[simp] theorem sendToSub_kept (r port : Nat) (payload : List Byte) (s : State) :
    (sendToSub r port payload s).kept = s.kept := by simp [sendToSub]

@[simp] theorem sendStreams_kept (d : Dict) (i : Nat) (frames : Tab (List Byte × List Byte)) (s : State) :
    (sendStreams d i frames s).kept = s.kept := by
  unfold sendStreams
  dsimp only
  have hsent (a : State) (ha : a.kept = s.kept) : (if roleNow a = 2 then a else frames.foldl (fun s e => sentMark (srcOutput e.1) i s) a).kept = s.kept := by
    split <;> simp [ha]
  refine hsent _ ((kept_foldl (fun s r => ?_) _ _).trans (kept_foldl_snd (fun p a => ?_) _ _))
  · repeat' split
    all_goals simp
  · repeat' split
    all_goals simp

@[simp] theorem publishCommit_kept (g i : Nat) (s : State) : (publishCommit g i s).kept = s.kept := by
  unfold publishCommit
  split <;> simp

@[simp] theorem publishLocal_kept (l i : Nat) (words : List Nat) (s : State) :
    (publishLocal l i words s).kept = s.kept := by simp [publishLocal]

@[simp] theorem answer_kept (pair : Nat) (src : List Byte) (sport : Nat) (l : List Byte) (s : State) :
    (answer pair src sport l s).kept = s.kept := by simp [answer]

@[simp] theorem switchSubs_kept (src : List Byte) (on : Bool) (s : State) : (switchSubs src on s).kept = s.kept := by simp [switchSubs]
@[simp] theorem outputCommand_kept (pair : Nat) (src : List Byte) (sport : Nat) (l : List Byte) (s : State) :
    (outputCommand pair src sport l s).kept = s.kept := by
  simp only [outputCommand]
  repeat' split
  all_goals simp

@[simp] theorem publishSwap_kept (before : Dict) (at_ : Nat) (s : State) : (publishSwap before at_ s).kept = s.kept := by simp [publishSwap]
@[simp] theorem archiveWrite_kept (group slot at_ samples : Nat) (l : List Byte) (s : State) :
    (archiveWrite group slot at_ samples l s).kept = s.kept := by
  unfold archiveWrite
  split <;> simp

@[simp] theorem archiveCommit_kept (g i : Nat) (s : State) : (archiveCommit g i s).kept = s.kept := by
  unfold archiveCommit
  split <;> simp

@[simp] theorem archiveLate_kept (g i nominal h : Nat) (cells : List Cell) (s : State) :
    (archiveLate g i nominal h cells s).kept = s.kept := by simp [archiveLate]

@[simp] theorem archiveStart_kept (cause : Nat) (s : State) : (archiveStart cause s).kept = s.kept := by simp [archiveStart]
@[simp] theorem clearPublishing_kept (s : State) : (clearPublishing s).kept = s.kept := (rfl)

/-! The functions of Confluence. -/

@[simp] theorem startGrid_kept (g at_ : Nat) (s : State) : (startGrid g at_ s).kept = s.kept := by simp [startGrid]
@[simp] theorem gridsFollow_kept (s : State) : (gridsFollow s).kept = s.kept := by simp [gridsFollow]
@[simp] theorem leaveOpen_kept (g i : Nat) (sl : Slot) (s : State) : (leaveOpen g i sl s).kept = s.kept := by simp [leaveOpen]
@[simp] theorem pruneSlots_kept (g : Nat) (s : State) : (pruneSlots g s).kept = s.kept := by
  simp only [pruneSlots]
  repeat' split
  all_goals simp

@[simp] theorem deliverProcess_kept (g i : Nat) (replay direct : Bool) (s : State) :
    (deliverProcess g i replay direct s).kept = s.kept := by simp [deliverProcess]

@[simp] theorem applyUndo_kept (g : Nat) (u : Undo) (s : State) : (applyUndo g u s).kept = s.kept := by simp [applyUndo]
@[simp] theorem recordLateness_kept (g h i : Nat) (r : Int) (late : Bool) (s : State) : (recordLateness g h i r late s).kept = s.kept := by
  simp only [recordLateness]
  repeat' split
  all_goals simp

@[simp] theorem sendLatched_kept (g i : Nat) (s : State) : (sendLatched g i s).kept = s.kept := by
  unfold sendLatched
  split <;> simp

@[simp] theorem releaseSlot_kept (g i cause : Nat) (s : State) : (releaseSlot g i cause s).kept = s.kept := by
  unfold releaseSlot
  split <;> simp

@[simp] theorem deliverCommit_kept (g i : Nat) (sl : Slot) (s : State) : (deliverCommit g i sl s).kept = s.kept := by simp [deliverCommit]
@[simp] theorem commitRest_kept (g i : Nat) (sl : Slot) (s : State) : (commitRest g i sl s).kept = s.kept := by
  simp only [commitRest]
  repeat' split
  all_goals simp

@[simp] theorem commitSlot_kept (g i : Nat) (s : State) : (commitSlot g i s).kept = s.kept := by
  unfold commitSlot
  split <;> simp

@[simp] theorem noteReference_kept (g : Nat) (s : State) : (noteReference g s).kept = s.kept := by simp [noteReference]
@[simp] theorem decideOne_kept (g : Nat) (s : State) : ∀ u ∈ (decideOne g s), u.kept = s.kept := by
  unfold decideOne
  dsimp only
  split
  · simp
  · intro u hu
    obtain ⟨e, -, he⟩ := List.exists_of_findSome?_eq_some hu
    split at he
    · obtain rfl := Option.some.inj he; simp
    · obtain rfl := Option.some.inj he; simp
    · cases he

@[simp] theorem decideLoop_kept (g y0 : Nat) (s : State) : (decideLoop g y0 s).kept = s.kept := by
  induction y0 generalizing s with
  | zero => rfl
  | succ n ih =>
    unfold decideLoop
    split
    next s' h => exact (ih s').trans ((decideOne_kept g _ s' h).trans (noteReference_kept g s))
    next => exact noteReference_kept g s

@[simp] theorem decideGroup_kept (g : Nat) (s : State) : (decideGroup g s).kept = s.kept := by simp [decideGroup]
@[simp] theorem takeDecisions_kept (g : Nat) (s : State) : (takeDecisions g s).kept = s.kept := by simp [takeDecisions]
@[simp] theorem settleDecisions_kept (s : State) : (settleDecisions s).kept = s.kept := by simp [settleDecisions]
@[simp] theorem openSlot_kept (g : Nat) (s : State) : (openSlot g s).kept = s.kept := by simp [openSlot]
@[simp] theorem slotOpen_kept (g : Nat) (s : State) : (slotOpen g s).kept = s.kept := by simp [slotOpen]
@[simp] theorem suspend_kept (g cause seconds : Nat) (s : State) : (suspend g cause seconds s).kept = s.kept := by simp [suspend]
@[simp] theorem replaySlot_kept (g k : Nat) (s : State) : (replaySlot g k s).kept = s.kept := by
  simp only [replaySlot]
  repeat' split
  all_goals simp

@[simp] theorem recallRun_kept (g r : Nat) (s : State) : (recallRun g r s).kept = s.kept := by
  unfold recallRun
  extract_lets x now second s1
  split
  · rfl
  next target _ =>
    extract_lets back exceeds s2 s3 s4 mine s5 s6 s7 s8
    have h3 : s3.kept = s.kept := by
      refine (kept_foldl (fun s e => ?_) _ _).trans (by simp [s2, s1])
      rw [onSlot_kept]
      split <;> simp
    have h8 : s8.kept = s.kept := by simp [s8, s7, s6, s5, s4, h3]
    split <;> simp [h8]

@[simp] theorem recallNow_kept (g : Nat) (s : State) : (recallNow g s).kept = s.kept := by
  unfold recallNow
  split <;> simp

@[simp] theorem recallUpTo_kept (g : Nat) (s : State) : (recallUpTo g s).kept = s.kept := by
  unfold recallUpTo
  split <;> simp

@[simp] theorem resume_kept (g cause at_ : Nat) (s : State) : (resume g cause at_ s).kept = s.kept := by simp [resume]
@[simp] theorem suspensionOver_kept (g : Nat) (s : State) : (suspensionOver g s).kept = s.kept := by
  unfold suspensionOver
  split <;> simp

@[simp] theorem resumeCommand_kept (g : Nat) (s : State) : (resumeCommand g s).1.kept = s.kept := by simp [resumeCommand]
@[simp] theorem checkpointLost_kept (g : Nat) (s : State) : (checkpointLost g s).kept = s.kept := by simp [checkpointLost]
@[simp] theorem clearAlignment_kept (s : State) : (clearAlignment s).kept = s.kept := by simp [clearAlignment]
@[simp] theorem alignSwapGroup_kept (at_ g : Nat) (s : State) : (alignSwapGroup at_ g s).kept = s.kept := by simp [alignSwapGroup]
@[simp] theorem alignSwap_kept (at_ : Nat) (s : State) : (alignSwap at_ s).kept = s.kept := by simp [alignSwap]
@[simp] theorem repeatedFrame_kept (h slotT96 : Nat) (first raw : List Byte) (s : State) :
    (repeatedFrame h slotT96 first raw s).kept = s.kept := by simp [repeatedFrame]

@[simp] theorem beyondHorizon_kept (h g k : Nat) (words quals : List Nat) (raw : List Byte) (accept : State → State) (s : State) (haccept : ∀ s, (accept s).kept = s.kept) :
    (beyondHorizon h g k words quals raw accept s).kept = s.kept := by
  unfold beyondHorizon
  dsimp only
  split <;> simp [haccept]

@[simp] theorem requestRecall_kept (g k : Nat) (s : State) : (requestRecall g k s).kept = s.kept := by simp [requestRecall]
@[simp] theorem testLate_kept (h g k : Nat) (sl : Slot) (words quals : List Nat) (s : State) :
    (testLate h g k sl words quals s).kept = s.kept := by simp [testLate]

@[simp] theorem writeCells_kept (h g k : Nat) (words quals : List Nat) (raw : List Byte) (ingress : Nat) (s : State) :
    (writeCells h g k words quals raw ingress s).kept = s.kept := by simp [writeCells]

@[simp] theorem stashCells_kept (h g k : Nat) (words quals : List Nat) (raw : List Byte) (s : State) :
    (stashCells h g k words quals raw s).kept = s.kept := by simp [stashCells]

@[simp] theorem remoteReference_kept (h tau : Nat) (words quals : List Nat) (s : State) :
    (remoteReference h tau words quals s).kept = s.kept := by
  simp only [remoteReference]
  repeat' split
  all_goals simp

@[simp] theorem fillSlot_kept (h g k tau : Nat) (sl : Slot) (words quals : List Nat) (raw : List Byte) (ingress : Nat) (s : State) :
    (fillSlot h g k tau sl words quals raw ingress s).kept = s.kept := by simp [fillSlot]

@[simp] theorem placeFrame_kept (h tau ingress : Nat) (words quals : List Nat) (raw : List Byte) (accept : State → State) (s : State) (haccept : ∀ s, (accept s).kept = s.kept) :
    (placeFrame h tau ingress words quals raw accept s).kept = s.kept := by
  unfold placeFrame
  dsimp only
  repeat' split
  all_goals simp [haccept]

@[simp] theorem slotFrame_kept (h tau ingress : Nat) (words quals : List Nat) (raw : List Byte) (info : Option FrameInfo) (accept : State → State) (s : State) (haccept : ∀ s, (accept s).kept = s.kept) :
    (slotFrame h tau ingress words quals raw info accept s).kept = s.kept := by
  unfold slotFrame
  split <;> simp [haccept]

/-! The functions of Ingest. -/

@[simp] theorem joinWindow_kept (c : Nat) (clearing : Bool) (h : Nat) (s : State) :
    (joinWindow c clearing h s).kept = s.kept := by simp [joinWindow]

@[simp] theorem setConds_kept (h new : Nat) (s : State) : (setConds h new s).kept = s.kept := by simp [setConds]
@[simp] theorem commonSource_kept (s : State) : (commonSource s).kept = s.kept := by simp [commonSource]
@[simp] theorem statusWindowEnd_kept (c : Nat) (clearing : Bool) (s : State) : (statusWindowEnd c clearing s).kept = s.kept := by
  unfold statusWindowEnd
  split <;> simp

@[simp] theorem setStreamState_kept (h new : Nat) (s : State) : (setStreamState h new s).kept = s.kept := by simp [setStreamState]
@[simp] theorem setStep_kept (h n : Nat) (s : State) : (setStep h n s).kept = s.kept := by simp [setStep]
@[simp] theorem partnerCommand_kept (h cmd : Nat) (s : State) : (partnerCommand h cmd s).kept = s.kept := by simp [partnerCommand]
@[simp] theorem requestConfiguration_kept (h : Nat) (s : State) : (requestConfiguration h s).kept = s.kept := by simp [requestConfiguration]
@[simp] theorem takeConfiguration_kept (h : Nat) (c : PartnerCfg) (s : State) :
    (takeConfiguration h c s).kept = s.kept := by simp [takeConfiguration]

@[simp] theorem closeSessionOf_kept (h : Nat) (s : State) : (closeSessionOf h s).kept = s.kept := by simp [closeSessionOf]
@[simp] theorem streamGone_kept (h : Nat) (s : State) : (streamGone h s).kept = s.kept := by simp [streamGone]
@[simp] theorem streamStopping_kept (h : Nat) (s : State) : (streamStopping h s).kept = s.kept := by simp [streamStopping]
@[simp] theorem streamConfigured_kept (h : Nat) (s : State) : (streamConfigured h s).kept = s.kept := by simp [streamConfigured]
@[simp] theorem mismatch_kept (h test : Nat) (s : State) : (mismatch h test s).kept = s.kept := by simp [mismatch]
@[simp] theorem sessionBegin_kept (h : Nat) (s : State) : (sessionBegin h s).kept = s.kept := by
  simp only [sessionBegin]
  repeat' split
  all_goals simp

@[simp] theorem sessionConnected_kept (h : Nat) (s : State) : (sessionConnected h s).kept = s.kept := by simp [sessionConnected]
@[simp] theorem beginBackoff_kept (h : Nat) (s : State) : (beginBackoff h s).kept = s.kept := by simp [beginBackoff]
@[simp] theorem sessionTimeout_kept (h : Nat) (s : State) : (sessionTimeout h s).kept = s.kept := by simp [sessionTimeout]
@[simp] theorem sessionRetry_kept (h : Nat) (s : State) : (sessionRetry h s).kept = s.kept := by simp [sessionRetry]
@[simp] theorem streamSilence_kept (h : Nat) (s : State) : (streamSilence h s).kept = s.kept := by simp [streamSilence]
@[simp] theorem streamStopped_kept (h : Nat) (s : State) : (streamStopped h s).kept = s.kept := by simp [streamStopped]
@[simp] theorem admitAll_kept (l : List Nat) (s : State) : (admitAll l s).kept = s.kept := by
  unfold admitAll
  extract_lets fresh one l' s1 good s2
  have h1 : s1.kept = s.kept := by
    refine kept_foldl (fun s h => ?_) _ _
    unfold one
    split <;> simp
  have h2 : s2.kept = s.kept := by unfold s2; split <;> simp [h1]
  simp [h2]

@[simp] theorem collectionClose_kept (s : State) : (collectionClose s).kept = s.kept := by
  unfold collectionClose
  split <;> simp

@[simp] theorem reportRow_kept (h : Nat) (s : State) : (reportRow h s).kept = s.kept := by simp [reportRow]
@[simp] theorem streamEnable_kept (h : Nat) (on : Bool) (s : State) : (streamEnable h on s).kept = s.kept := by simp [streamEnable]
@[simp] theorem requestHeader_kept (h : Nat) (s : State) : (requestHeader h s).1.kept = s.kept := by simp [requestHeader]
@[simp] theorem clearIngest_kept (s : State) : (clearIngest s).kept = s.kept := by simp [clearIngest]
@[simp] theorem configurationEvent_kept (h reason old new : Nat) (s : State) :
    (configurationEvent h reason old new s).kept = s.kept := by simp [configurationEvent]

@[simp] theorem sessionAnswered_kept (h : Nat) (s : State) : (sessionAnswered h s).kept = s.kept := by simp [sessionAnswered]
@[simp] theorem configurationFrame_kept (h : Nat) (l : List Byte) (s : State) : (configurationFrame h l s).kept = s.kept := by
  simp only [configurationFrame]
  repeat' split
  all_goals simp

@[simp] theorem adoptionGrace_kept (h : Nat) (s : State) : (adoptionGrace h s).kept = s.kept := by simp [adoptionGrace]
@[simp] theorem unknownSource_kept (src : List Byte) (port idcode : Nat) (s : State) :
    (unknownSource src port idcode s).kept = s.kept := by simp [unknownSource]

@[simp] theorem malformed_kept (h order : Nat) (s : State) : (malformed h order s).kept = s.kept := by simp [malformed]
@[simp] theorem acceptFrame_kept (h : Nat) (f : FrameInfo) (s : State) : (acceptFrame h f s).kept = s.kept := by simp [acceptFrame]
@[simp] theorem takeData_kept (h tau stamp : Nat) (f : DataFrame) (l : List Byte) (s : State) :
    (takeData h tau stamp f l s).kept = s.kept := by simp [takeData]

@[simp] theorem dataFrameRx_kept (port h : Nat) (l : List Byte) (s : State) : (dataFrameRx port h l s).kept = s.kept := by
  simp only [dataFrameRx]
  repeat' split
  all_goals simp

@[simp] theorem redispatch_kept (s : State) : (redispatch s).kept = s.kept := by
  unfold redispatch
  refine (kept_foldl (fun s f => ?_) _ _).trans (by simp)
  dsimp only
  rw [slotFrame_kept, State.addTo_kept]
  intro u
  split <;> simp

@[simp] theorem underOld_kept (o : OldTable) (s : State) : (underOld o s).kept = s.kept := (rfl)
@[simp] theorem slotOld_kept (o : OldTable) (port h tau : Nat) (f : DataFrame) (l : List Byte) (s : State) :
    (slotOld o port h tau f l s).kept = s.kept := by
  unfold slotOld
  extract_lets acc r back olds
  have hacc (u : State) : (acc u).kept = u.kept := by unfold acc; split <;> simp
  have hr : r.kept = s.kept := by simp [r, hacc]
  rw [takeDecisions_kept]
  exact hr

@[simp] theorem oldTableEnd_kept (s : State) : (oldTableEnd s).kept = s.kept := by
  unfold oldTableEnd
  split <;> simp

@[simp] theorem damagedConfiguration_kept (h : Nat) (s : State) : (damagedConfiguration h s).kept = s.kept := by simp [damagedConfiguration]
@[simp] theorem failEarly_kept (who : Option Nat) (order sub : Nat) (s : State) : (failEarly who order sub s).kept = s.kept := by
  unfold failEarly
  split <;> simp

@[simp] theorem ingestFrame_kept (port : Nat) (g : Datagram) (l : List Byte) (s : State) : (ingestFrame port g l s).kept = s.kept := by
  simp only [ingestFrame]
  repeat' split
  all_goals simp

@[simp] theorem failReassembly_kept (x : Reassembly) (s : State) : (failReassembly x s).kept = s.kept := by simp [failReassembly]
@[simp] theorem refusePiece_kept (src : List Byte) (ident : Nat) (s : State) :
    (refusePiece src ident s).kept = s.kept := by simp [refusePiece]

@[simp] theorem takePiece_kept (src : List Byte) (ident off : Nat) (last : Bool) (bytes : List Byte) (s : State) :
    (takePiece src ident off last bytes s).1.kept = s.kept := by simp [takePiece]

@[simp] theorem wholeDatagram_kept (port : Nat) (g : Datagram) (l : List Byte) (s : State) :
    (wholeDatagram port g l s).kept = s.kept := by simp [wholeDatagram]

@[simp] theorem ingestDatagram_kept (port : Nat) (g : Datagram) (s : State) : (ingestDatagram port g s).kept = s.kept := by
  unfold ingestDatagram
  split
  · rfl
  split
  · simp
  split
  · rfl
  split
  · simp
  split
  · simp
  next ident off last _ =>
    have hpiece := takePiece_kept g.src ident off last g.payload s
    split
    next h => rw [h] at hpiece; simpa using hpiece
    next h => rw [h] at hpiece; exact hpiece

@[simp] theorem reassemblyTimeout_kept (src : List Byte) (ident : Nat) (s : State) : (reassemblyTimeout src ident s).kept = s.kept := by
  unfold reassemblyTimeout
  split <;> simp

@[simp] theorem authFailure_kept (h cause : Nat) (s : State) : (authFailure h cause s).kept = s.kept := by simp [authFailure]
@[simp] theorem spduCheck_kept (h : Nat) (d : Spdu) (x : Stream) (s : State) : (spduCheck h d x s).1.kept = s.kept := by
  unfold spduCheck
  repeat' split
  all_goals simp

@[simp] theorem wholeSpdu_kept (port : Nat) (d : Spdu) (s : State) : (wholeSpdu port d s).kept = s.kept := by
  unfold wholeSpdu
  split
  · simp
  split
  · simp
  split
  · simp
  split
  next o h tau f _ =>
    dsimp only
    have hcheck (u : State) (hu : u.kept = s.kept) : ({ u with active := s.active } : State).kept = s.kept := hu
    split
    · split
      · rw [slotOld_kept]
        exact hcheck _ (spduCheck_kept _ _ _ _)
      · rw [slotOld_kept, State.setStream_kept]
        exact hcheck _ (spduCheck_kept _ _ _ _)
    · exact hcheck _ (spduCheck_kept _ _ _ _)
  next =>
    split
    · simp
    next h _ =>
      have hcheck := spduCheck_kept h d (s.stream h) s
      split
      next heq => rw [heq] at hcheck; simpa using hcheck
      next heq => rw [heq] at hcheck; exact hcheck

@[simp] theorem spduRx_kept (port : Nat) (d : Spdu) (s : State) : (spduRx port d s).kept = s.kept := by
  unfold spduRx
  split
  · rfl
  split
  · simp
  split
  · rfl
  split
  · simp
  next ident off last n _ =>
    have hpiece := takePiece_kept d.src ident off last (List.replicate n 0) s
    split
    next h => rw [h] at hpiece; simpa using hpiece
    next h => rw [h] at hpiece; exact hpiece

@[simp] theorem localRows_kept (s : State) : (localRows s).kept = s.kept := by simp [localRows]
@[simp] theorem ingestStart_kept (s : State) : (ingestStart s).kept = s.kept := by simp [ingestStart]
@[simp] theorem rowStops_kept (before : Dict) (h : Nat) (s : State) : (rowStops before h s).kept = s.kept := by
  unfold rowStops
  dsimp only
  split
  · rfl
  · rw [setStreamState_kept, streamGone_kept]
    exact partnerCommand_kept h 1 _

@[simp] theorem rowReloads_kept (h : Nat) (s : State) : (rowReloads h s).kept = s.kept := by
  unfold rowReloads
  split <;> simp

@[simp] theorem ingestSwap_kept (before : Dict) (at_ : Nat) (s : State) : (ingestSwap before at_ s).kept = s.kept := by simp [ingestSwap]

/-! The functions of Housekeeping. -/

@[simp] theorem convert_kept (c raw : Nat) (s : State) : (convert c raw s).kept = s.kept := by simp [convert]
@[simp] theorem State.setHkChan_kept (s : State) (c : Nat) (x : HkChannel) :
    (State.setHkChan s c x).kept = s.kept := by simp [State.setHkChan]

@[simp] theorem hkFlag_kept (c i : Nat) (b : Bool) (s : State) : (hkFlag c i b s).kept = s.kept := by simp [hkFlag]
@[simp] theorem hkLimit_kept (c i : Nat) (beyond back : Bool) (value : Nat) (s : State) :
    (hkLimit c i beyond back value s).kept = s.kept := by simp [hkLimit]

@[simp] theorem hkLimits_kept (c : Nat) (v : Q) (bits : Nat) (s : State) : (hkLimits c v bits s).kept = s.kept := by simp [hkLimits]
@[simp] theorem hkExtremes_kept (c : Nat) (v : Q) (bits : Nat) (s : State) : (hkExtremes c v bits s).kept = s.kept := by simp [hkExtremes]
@[simp] theorem hkUpdate_kept (c : Nat) (mean : Q) (s : State) : (hkUpdate c mean s).kept = s.kept := by
  simp only [hkUpdate]
  repeat' split
  all_goals simp

@[simp] theorem faultCount_kept (c : Nat) (s : State) : (faultCount c s).kept = s.kept := by simp [faultCount]
@[simp] theorem noteFaultEnd_kept (s : State) : (noteFaultEnd s).kept = s.kept := by simp [noteFaultEnd]
@[simp] theorem hkSlot_kept (raw : List Nat) (s : State) : (hkSlot raw s).kept = s.kept := by simp [hkSlot]
@[simp] theorem hkScan_kept (raw : List (List Nat)) (s : State) : (hkScan raw s).kept = s.kept := by simp [hkScan]
@[simp] theorem hkConvertOne_kept (c raw : Nat) (s : State) : (hkConvertOne c raw s).kept = s.kept := by simp [hkConvertOne]
@[simp] theorem startCalibration_kept (s : State) : (startCalibration s).kept = s.kept := by simp [startCalibration]
@[simp] theorem hkCal_kept (s : State) : (hkCal s).kept = s.kept := by simp [hkCal]
@[simp] theorem calibrate_kept (s : State) : (calibrate s).1.kept = s.kept := by simp [calibrate]
@[simp] theorem calibrationFailed_kept (s : State) : (calibrationFailed s).kept = s.kept := by simp [calibrationFailed]
@[simp] theorem calibrationResult_kept (ground high : Int) (s : State) :
    (calibrationResult ground high s).kept = s.kept := by simp [calibrationResult]

@[simp] theorem testChannel_kept (c : Nat) (s : State) : (testChannel c s).1.kept = s.kept := by simp [testChannel]
@[simp] theorem channelTestResult_kept (raw : List (List Nat)) (s : State) : (channelTestResult raw s).kept = s.kept := by
  unfold channelTestResult
  split <;> simp

/-! The functions of Leash. -/

@[simp] theorem leashStart_kept (s : State) : (leashStart s).kept = s.kept := by simp [leashStart]
@[simp] theorem leashFault_kept (cause pos : Nat) (s : State) : (leashFault cause pos s).kept = s.kept := by simp [leashFault]
@[simp] theorem leashCalibrate_kept (trips : List Nat) (returned : Option Nat) (s : State) :
    (leashCalibrate trips returned s).kept = s.kept := by
  simp only [leashCalibrate]
  repeat' split
  all_goals simp

@[simp] theorem recalibrate_kept (s : State) : (recalibrate s).1.kept = s.kept := by simp [recalibrate]
@[simp] theorem takeHop_kept (h d : Nat) (s : State) : (takeHop h d s).kept = s.kept := by simp [takeHop]
@[simp] theorem leashTake_kept (x : Trig) (late : Bool) (s : State) : (leashTake x late s).kept = s.kept := by simp [leashTake]
@[simp] theorem leashTrigger_kept (origin seq t0 : Nat) (s : State) : (leashTrigger origin seq t0 s).kept = s.kept := by simp [leashTrigger]
@[simp] theorem leashReturn_kept (seq : Nat) (s : State) : (leashReturn seq s).kept = s.kept := by
  unfold leashReturn
  split <;> simp

@[simp] theorem leashRx_kept (syn : Bool) (l : List Byte) (s : State) : (leashRx syn l s).kept = s.kept := by
  simp only [leashRx]
  repeat' split
  all_goals simp

@[simp] theorem leashSend_kept (s : State) : (leashSend s).kept = s.kept := by
  unfold leashSend
  split <;> simp

@[simp] theorem leashAct_kept (s : State) : (leashAct s).kept = s.kept := by simp [leashAct]

/-! The functions of Sessions. -/

@[simp] theorem updateFailed_kept (reason : Nat) (s : State) : (updateFailed reason s).kept = s.kept := by simp [updateFailed]
@[simp] theorem abandonTransfers_kept (p : Transfer → Bool) (s : State) : (abandonTransfers p s).kept = s.kept := by simp [abandonTransfers]
@[simp] theorem dropSession_kept (n : Nat) (s : State) : (dropSession n s).kept = s.kept := by simp [dropSession]
@[simp] theorem endSession_kept (n cause : Nat) (s : State) : (endSession n cause s).kept = s.kept := by simp [endSession]
@[simp] theorem endSessions_kept (cause : Nat) (s : State) : (endSessions cause s).kept = s.kept := by simp [endSessions]
@[simp] theorem dropSessions_kept (s : State) : (dropSessions s).kept = s.kept := by simp [dropSessions]

/-! The functions of Headwater. -/

@[simp] theorem channelSample_kept (c : Nat) (x : Chain) (s : State) : (channelSample c x s).kept = s.kept := by simp [channelSample]
@[simp] theorem sample128_kept (raw : List Chain) (s : State) : (sample128 raw s).kept = s.kept := by simp [sample128]
@[simp] theorem publishCycle_kept (c b0 b1 : Nat) (s : State) : (publishCycle c b0 b1 s).kept = s.kept := by simp [publishCycle]
@[simp] theorem cycleEnd_kept (s : State) : (cycleEnd s).kept = s.kept := by
  unfold cycleEnd
  repeat' split
  all_goals simp

@[simp] theorem feedTracker_kept (f tk : Nat) (e : Estimate) (s : State) : (feedTracker f tk e s).kept = s.kept := by
  unfold feedTracker
  repeat' split
  all_goals simp

@[simp] theorem feedLom_kept (f : Nat) (e : Estimate) (s : State) : (feedLom f e s).kept = s.kept := by simp [feedLom]
@[simp] theorem localFrame_kept (f k tk : Nat) (mClass : Bool) (e : Estimate) (s : State) :
    (localFrame f k tk mClass e s).kept = s.kept := by
  unfold localFrame
  repeat' split
  all_goals simp

@[simp] theorem estimatorOutput_kept (f : Nat) (mClass : Bool) (k : Nat) (s : State) :
    (estimatorOutput f mClass k s).kept = s.kept := by simp [estimatorOutput]

@[simp] theorem svSample_kept (port f rate : Nat) (a : Asdu) (s : State) : (svSample port f rate a s).kept = s.kept := by simp [svSample]
@[simp] theorem svFrame_kept (port : Nat) (dst l : List Byte) (s : State) : (svFrame port dst l s).kept = s.kept := by
  unfold svFrame
  repeat' split
  all_goals simp

/-! The functions of Validate. -/

@[simp] theorem candidate_kept (d : Dict) (s : State) : (candidate d s).kept = s.kept := (rfl)

/-! The functions of Sets. -/

@[simp] theorem eddySwap_kept (before : Dict) (at_ : Nat) (s : State) : (eddySwap before at_ s).kept = s.kept := by simp [eddySwap]
@[simp] theorem oxbowSwap_kept (before : Dict) (s : State) : (oxbowSwap before s).kept = s.kept := by simp [oxbowSwap]
@[simp] theorem alarmSwap_kept (before : Dict) (at_ : Nat) (s : State) : (alarmSwap before at_ s).kept = s.kept := by simp [alarmSwap]
@[simp] theorem headSwap_kept (before : Dict) (s : State) : (headSwap before s).kept = s.kept := by simp [headSwap]
@[simp] theorem captureSwap_kept (before : Dict) (s : State) : (captureSwap before s).kept = s.kept := by simp [captureSwap]
@[simp] theorem energySwap_kept (s : State) : (energySwap s).kept = s.kept := by simp [energySwap]
@[simp] theorem ringSwap_kept (before : Dict) (s : State) : (ringSwap before s).kept = s.kept := by simp [ringSwap]
@[simp] theorem archiveSwap_kept (before : Dict) (s : State) : (archiveSwap before s).kept = s.kept := by simp [archiveSwap]
@[simp] theorem timeSwap_kept (before : Dict) (s : State) : (timeSwap before s).kept = s.kept := by simp [timeSwap]
@[simp] theorem swapEffects_kept (before : Dict) (at_ : Nat) (s : State) : (swapEffects before at_ s).kept = s.kept := by simp [swapEffects]
@[simp] theorem setShadowState_kept (n : Nat) (s : State) : (setShadowState n s).kept = s.kept := by simp [setShadowState]
@[simp] theorem nextGeneration_kept (s : State) : (nextGeneration s).kept = s.kept := by simp [nextGeneration]
@[simp] theorem shadowEdited_kept (s : State) : (shadowEdited s).kept = s.kept := by simp [shadowEdited]
@[simp] theorem beginValidation_kept (s : State) : (beginValidation s).kept = s.kept := by simp [beginValidation]
@[simp] theorem abandonValidation_kept (s : State) : (abandonValidation s).kept = s.kept := by simp [abandonValidation]
@[simp] theorem recordValidation_kept (fails : List Fail) (s : State) :
    (recordValidation fails s).kept = s.kept := by simp [recordValidation]

@[simp] theorem validateShadow_kept (s : State) : (validateShadow s).1.kept = s.kept := by
  simp only [validateShadow]
  repeat' split
  all_goals simp

@[simp] theorem swapCancelled_kept (cause : Nat) (s : State) : (swapCancelled cause s).kept = s.kept := by simp [swapCancelled]
@[simp] theorem swapFrame_kept (kind : Nat) (l : List Byte) (s : State) : (swapFrame kind l s).kept = s.kept := by simp [swapFrame]
@[simp] theorem dropSwap_kept (s : State) : (dropSwap s).kept = s.kept := by
  unfold dropSwap
  split <;> simp

@[simp] theorem cancelSwap_kept (cause : Nat) (s : State) : (cancelSwap cause s).kept = s.kept := by simp [cancelSwap]
@[simp] theorem dropValidation_kept (s : State) : (dropValidation s).kept = s.kept := by
  unfold dropValidation
  split <;> simp

@[simp] theorem performSwap_kept (at_ : Nat) (s : State) : (performSwap at_ s).kept = s.kept := by
  unfold performSwap
  extract_lets before new s1 s2 s3 s4 s5
  have h1 : s1.kept = s.kept := rfl
  simp [s5, s4, s3, s2, h1]

@[simp] theorem swapInstant_kept (s : State) : (swapInstant s).kept = s.kept := by
  unfold swapInstant
  repeat' split
  all_goals simp

@[simp] theorem validateCommand_kept (s : State) : (validateCommand s).1.kept = s.kept := by simp [validateCommand]
@[simp] theorem sendSwapImage_kept (s : State) : (sendSwapImage s).kept = s.kept := by simp [sendSwapImage]
@[simp] theorem swapPending_kept (w : Swap) (s : State) : (swapPending w s).kept = s.kept := by simp [swapPending]
@[simp] theorem validationEnd_kept (s : State) : (validationEnd s).kept = s.kept := by
  simp only [validationEnd]
  repeat' split
  all_goals simp

@[simp] theorem swapAckLate_kept (s : State) : (swapAckLate s).kept = s.kept := by
  unfold swapAckLate
  split <;> simp

@[simp] theorem swapCommand_kept (arg : List Byte) (s : State) : (swapCommand arg s).1.kept = s.kept := by simp [swapCommand]
@[simp] theorem syncCommand_kept (s : State) : (syncCommand s).1.kept = s.kept := by
  unfold syncCommand
  split
  · rfl
  · exact (raise_kept _ _ _).trans ((nextGeneration_kept _).trans ((setShadowState_kept _ _).trans rfl))

@[simp] theorem cancelCommand_kept (s : State) : (cancelCommand s).1.kept = s.kept := by simp [cancelCommand]

/-! The functions of Start. -/

@[simp] theorem writeBank_kept (attempts : Nat) (trial : Bool) (prev active : Nat) (s : State) :
    (writeBank attempts trial prev active s).kept = s.kept := by simp [writeBank]

@[simp] theorem revertWord_kept (cause : Nat) (s : State) : (revertWord cause s).kept = s.kept := by simp [revertWord]
@[simp] theorem rebaseGat_kept (ticks : Nat) (s : State) : (rebaseGat ticks s).kept = s.kept := by simp [rebaseGat]
@[simp] theorem rebuildTime_kept (saved : Bool) (s : State) : (rebuildTime saved s).kept = s.kept := by simp [rebuildTime]
@[simp] theorem latchNow_kept (s : State) : (latchNow s).kept = s.kept := by simp [latchNow]
@[simp] theorem startState_kept (cause : Nat) (s : State) : (startState cause s).kept = s.kept := (rfl)
@[simp] theorem enterRecovery_kept (s : State) : (enterRecovery s).kept = s.kept := by simp [enterRecovery]
@[simp] theorem takeLife_kept (pending : Option Nat) (s : State) : (takeLife pending s).kept = s.kept := by
  unfold takeLife
  split <;> simp

@[simp] theorem reportWake_kept (w : Wake) (saveGood : Bool) (s : State) : (reportWake w saveGood s).kept = s.kept := by simp [reportWake]
@[simp] theorem startOnce_kept (cause : Nat) (wake : Option Wake) (s : State) : (startOnce cause wake s).kept = s.kept := by
  unfold startOnce
  extract_lets old role cut lost life tamper revert saved s1 s2 s3 s4 s5 s6 s7 s8 s9 s10 s11 s12 s13
  clear_value lost tamper revert
  have h1 : s1.kept = s.kept := by unfold s1; split <;> simp
  have h3 : s3.kept = s.kept := by simp [s3, s2, h1]
  have h4 : s4.kept = s.kept := by unfold s4; split <;> simp [h3]
  have h6 : s6.kept = s.kept := by unfold s6 s5; split <;> simp [h4]
  have h7 : s7.kept = s.kept := by unfold s7; split <;> simp [h6]
  have h8 : s8.kept = s.kept := by unfold s8; split <;> simp [h7]
  have h9 : s9.kept = s.kept := by
    unfold s9
    split
    · dsimp only
      split <;> simp [h8]
    · exact h8
  have h11 : s11.kept = s.kept := by unfold s11; split <;> simp [s10, h9]
  have h12 : s12.kept = s.kept := by unfold s12; split <;> simp [h11]
  simp [s13, h12]

@[simp] theorem beginStart_kept (cause : Nat) (wake : Option Wake) (s : State) :
    (beginStart cause wake s).kept = s.kept := by simp [beginStart]

theorem lapse_onward (dt : Nat) (s : State) : s.Onward (lapse dt s) := ⟨rfl, by simp [lapse, State.advance]⟩

/-- The reset that follows 10 ms after a response lets that time pass; nothing else of it moves the clock. -/
theorem resetLater_onward (cause : Nat) (s : State) : s.Onward (resetLater cause s) :=
  (lapse_onward (ms 10) s).before_kept ((beginStart_kept _ _ _).trans (endSessions_kept _ _))

@[simp] theorem revert_kept (cause : Nat) (s : State) : (revert cause s).kept = s.kept := by simp [revert]
@[simp] theorem chooseSet_kept (l : List (Nat × Dict)) (s : State) : (chooseSet l s).1.kept = s.kept := by
  induction l generalizing s with
  | nil => rfl
  | cons e l ih =>
    obtain ⟨c, d⟩ := e
    unfold chooseSet
    dsimp only
    repeat' split
    all_goals simp [ih]

@[simp] theorem loadSet_kept (fallback : Nat) (s : State) : (loadSet fallback s).1.kept = s.kept := by
  unfold loadSet
  dsimp only
  simp only [stageGates_kept, resetThresholds_kept, fillCache_kept, State.onKeys_kept, State.onPower_kept, State.setRo_kept, setShadowState_kept]
  exact chooseSet_kept _ s

@[simp] theorem serveSet_kept (s : State) : (serveSet s).kept = s.kept := by simp [serveSet]
@[simp] theorem itemFailed_kept (i detail : Nat) (s : State) : (itemFailed i detail s).kept = s.kept := by simp [itemFailed]
@[simp] theorem runItems_kept (lo hi : Nat) (failed : List (Nat × Nat)) (s : State) :
    (runItems lo hi failed s).kept = s.kept := by simp [runItems]

@[simp] theorem slicesTested_kept (failed : List (Nat × Nat)) (s : State) : (slicesTested failed s).kept = s.kept := by simp [slicesTested]
@[simp] theorem itemEffects_kept (failed : List (Nat × Nat)) (s : State) : (itemEffects failed s).kept = s.kept := by simp [itemEffects]
@[simp] theorem testRecorded_kept (outcome duration : Nat) (s : State) :
    (testRecorded outcome duration s).kept = s.kept := by simp [testRecorded]

@[simp] theorem toSafeTalk_kept (cause : Nat) (s : State) : (toSafeTalk cause s).kept = s.kept := by simp [toSafeTalk]
@[simp] theorem afterTest_kept (outcome fallback cause : Nat) (s : State) :
    (afterTest outcome fallback cause s).kept = s.kept := by simp [afterTest]

@[simp] theorem selfTest_kept (found : TestFindings) (duration fallback : Nat) (s : State) :
    (selfTest found duration fallback s).kept = s.kept := by
  simp only [selfTest]
  repeat' split
  all_goals simp

@[simp] theorem gatAtRun_kept (s : State) : (gatAtRun s).kept = s.kept := by simp [gatAtRun]
@[simp] theorem enterRunState_kept (cause : Nat) (s : State) : (enterRunState cause s).kept = s.kept := by simp [enterRunState]
@[simp] theorem enterRun_kept (s : State) : (enterRun s).kept = s.kept := by simp [enterRun]

theorem runThen_onward (idx sub : Nat) (w : Who) (body : State → State × Nat) (after : State → State) (s : State)
    (hbody : ∀ s, (body s).1.kept = s.kept) (hafter : ∀ s : State, s.Onward (after s)) : s.Onward (runThen idx sub w body after s) := by
  unfold runThen
  dsimp only
  split
  · split
    · exact .after_kept (by simp [hbody]) (hafter _)
    · exact .of_kept (by simp [hbody])
  · exact .refl s

@[simp] theorem resetAsserted_kept (width : Nat) (s : State) : (resetAsserted width s).kept = s.kept := by simp [resetAsserted]
@[simp] theorem resetReleased_kept (recoverN : Bool) (s : State) : (resetReleased recoverN s).kept = s.kept := by simp [resetReleased]

/-! The functions of Update. -/

@[simp] theorem setBank_kept (b : Nat) (x : Bank) (s : State) : (setBank b x s).kept = s.kept := by simp [setBank]
@[simp] theorem updateBegins_kept (s : State) : (updateBegins s).kept = s.kept := by simp [updateBegins]
@[simp] theorem updateTakes_kept (d : List Byte) (last : Bool) (s : State) : (updateTakes d last s).kept = s.kept := by
  simp only [updateTakes]
  repeat' split
  all_goals simp

/-! The functions of Keys. -/

@[simp] theorem bothSets_kept (idx sub row : Nat) (v : Val) (s : State) : (bothSets idx sub row v s).kept = s.kept := (rfl)
@[simp] theorem takeOwnership_kept (m : List Byte) (s : State) : (takeOwnership m s).kept = s.kept := by simp [takeOwnership]
@[simp] theorem rotateOwner_kept (m : List Byte) (s : State) : (rotateOwner m s).kept = s.kept := by
  unfold rotateOwner
  split <;> simp

@[simp] theorem messageEffect_kept (m : List Byte) (s : State) : (messageEffect m s).kept = s.kept := by
  unfold messageEffect
  split <;> simp

@[simp] theorem applyMessage_kept (who : Who) (s : State) : (applyMessage who s).1.kept = s.kept := by
  simp only [applyMessage]
  repeat' split
  all_goals simp

theorem afterMessage_onward (s : State) : s.Onward (afterMessage s) := by
  unfold afterMessage
  split
  · exact resetLater_onward 0x01 s
  · exact .refl s

@[simp] theorem lockStore_kept (s : State) : (lockStore s).kept = s.kept := by simp [lockStore]
@[simp] theorem tamperSeen_kept (input : Nat) (s : State) : (tamperSeen input s).kept = s.kept := by simp [tamperSeen]
@[simp] theorem attestBegin_kept (nonce : List Byte) (s : State) : (attestBegin nonce s).1.kept = s.kept := by simp [attestBegin]
@[simp] theorem attestEnd_kept (s : State) : (attestEnd s).kept = s.kept := by
  unfold attestEnd
  split <;> simp

@[simp] theorem abortUpdate_kept (s : State) : (abortUpdate s).kept = s.kept := by simp [abortUpdate]
@[simp] theorem activateBank_kept (s : State) : (activateBank s).1.kept = s.kept := by simp [activateBank]
@[simp] theorem rewrap_kept (s : State) : (rewrap s).kept = s.kept := by simp [rewrap]
@[simp] theorem confirm_kept (s : State) : (confirm s).kept = s.kept := by simp [confirm]
@[simp] theorem confirmCommand_kept (s : State) : (confirmCommand s).1.kept = s.kept := by simp [confirmCommand]
@[simp] theorem trialOver_kept (s : State) : (trialOver s).kept = s.kept := by
  unfold trialOver
  split <;> simp

/-! The functions of Power. -/

@[simp] theorem abortTest_kept (outcome : Nat) (s : State) : (abortTest outcome s).kept = s.kept := by simp [abortTest]
@[simp] theorem degradeTo_kept (outcome cause : Nat) (s : State) : (degradeTo outcome cause s).kept = s.kept := by simp [degradeTo]
@[simp] theorem byrdoEffects_kept (s : State) : (byrdoEffects s).kept = s.kept := by simp [byrdoEffects]
@[simp] theorem byrdoReset_kept (cause : Nat) (s : State) : (byrdoReset cause s).kept = s.kept := by simp [byrdoReset]
@[simp] theorem byrdoBack_kept (s : State) : (byrdoBack s).kept = s.kept := by simp [byrdoBack]
@[simp] theorem faultLimit_kept (c : Nat) (s : State) : (faultLimit c s).kept = s.kept := by simp [faultLimit]
@[simp] theorem cdieFault_kept (cause : Nat) (s : State) : (cdieFault cause s).kept = s.kept := by simp [cdieFault]
@[simp] theorem sentinelCommand_kept (s : State) : (sentinelCommand s).1.kept = s.kept := by simp [sentinelCommand]
@[simp] theorem startRestart_kept (trigger : Nat) (s : State) : (startRestart trigger s).kept = s.kept := by simp [startRestart]
@[simp] theorem restartCommand_kept (s : State) : (restartCommand s).1.kept = s.kept := by simp [restartCommand]
@[simp] theorem automaticRestart_kept (s : State) : (automaticRestart s).kept = s.kept := by simp [automaticRestart]
@[simp] theorem cdieCounters_kept (s : State) : (cdieCounters s).kept = s.kept := by simp [cdieCounters]
@[simp] theorem restartEnd_kept (failed : List (Nat × Nat)) (s : State) : (restartEnd failed s).kept = s.kept := by
  unfold restartEnd
  split <;> simp

@[simp] theorem automaticReset_kept (s : State) : (automaticReset s).kept = s.kept := by simp [automaticReset]
@[simp] theorem clearPower_kept (s : State) : (clearPower s).kept = s.kept := by simp [clearPower]
@[simp] theorem goDark_kept (new cause : Nat) (s : State) : (goDark new cause s).kept = s.kept := by simp [goDark]
@[simp] theorem loseKennel_kept (s : State) : (loseKennel s).kept = s.kept := by simp [loseKennel]
@[simp] theorem suppliesLost_kept (s : State) : (suppliesLost s).kept = s.kept := by simp [suppliesLost]
@[simp] theorem vbatLost_kept (s : State) : (vbatLost s).kept = s.kept := by simp [vbatLost]
@[simp] theorem enterKennel_kept (s : State) : (enterKennel s).kept = s.kept := by simp [enterKennel]
@[simp] theorem powerFail_kept (s : State) : (powerFail s).kept = s.kept := by simp [powerFail]
@[simp] theorem startWake_kept (source : Nat) (s : State) : (startWake source s).kept = s.kept := by simp [startWake]
@[simp] theorem otherSource_kept (source : Nat) (s : State) : (otherSource source s).kept = s.kept := by simp [otherSource]
@[simp] theorem actLatched_kept (s : State) : (actLatched s).kept = s.kept := by
  unfold actLatched
  split <;> simp

@[simp] theorem wakeSource_kept (source rtc : Nat) (saveGood vbat : Bool) (s : State) :
    (wakeSource source rtc saveGood vbat s).kept = s.kept := by simp [wakeSource]

@[simp] theorem wakeDone_kept (w : Wake) (recoverN : Bool) (s : State) : (wakeDone w recoverN s).kept = s.kept := by simp [wakeDone]
@[simp] theorem stageFailed_kept (w : Wake) (monitors : Nat) (s : State) : (stageFailed w monitors s).kept = s.kept := by simp [stageFailed]
@[simp] theorem stageEnd_kept (monitors : Nat) (ready recoverN : Bool) (s : State) :
    (stageEnd monitors ready recoverN s).kept = s.kept := by
  unfold stageEnd
  split <;> simp

@[simp] theorem dischargeEnd_kept (s : State) : (dischargeEnd s).kept = s.kept := by
  unfold dischargeEnd
  split <;> simp

@[simp] theorem powerGood_kept (s : State) : (powerGood s).kept = s.kept := by simp [powerGood]

/-! The functions of Duplex. -/

@[simp] theorem enterSyncing_kept (s : State) : (enterSyncing s).kept = s.kept := by simp [enterSyncing]
@[simp] theorem takeRole_kept (p : Peer) (s : State) : (takeRole p s).kept = s.kept := by simp [takeRole]
@[simp] theorem takeSupervision_kept (l : List Byte) (s : State) : (takeSupervision l s).kept = s.kept := by simp [takeSupervision]
@[simp] theorem nameStream_kept (g i h : Nat) (s : State) : (nameStream g i h s).kept = s.kept := by
  unfold nameStream
  split <;> simp

@[simp] theorem leaveHistory_kept (h i : Nat) (s : State) : (leaveHistory h i s).kept = s.kept := by simp [leaveHistory]
@[simp] theorem unnameStream_kept (g i h : Nat) (s : State) : (unnameStream g i h s).kept = s.kept := by simp [unnameStream]
@[simp] theorem adoptHeld_kept (s : State) : (adoptHeld s).kept = s.kept := by
  unfold adoptHeld
  exact kept_foldl (fun s e => kept_foldl (fun s y => kept_foldl (fun s h => nameStream_kept _ _ _ _) _ _) _ _) _ _

@[simp] theorem fetchFrame_kept (g i h : Nat) (s : State) : (fetchFrame g i h s).kept = s.kept := by simp [fetchFrame]
@[simp] theorem settleSlot_kept (g i : Nat) (named : List Nat) (sl : Slot) (s : State) :
    (settleSlot g i named sl s).1.kept = s.kept := by simp [settleSlot]

@[simp] theorem obeyRecord_kept (g i kind cause : Nat) (named : List Nat) (sl : Slot) (s : State) :
    (obeyRecord g i kind cause named sl s).kept = s.kept := by
  unfold obeyRecord
  split <;> simp

@[simp] theorem obeyLateness_kept (cause h : Nat) (s : State) : (obeyLateness cause h s).kept = s.kept := by simp [obeyLateness]
@[simp] theorem applyRecord_kept (fetch : Bool) (type : Nat) (l : List Byte) (s : State) :
    (applyRecord fetch type l s).2.kept = s.kept := by
  simp only [applyRecord]
  repeat' split
  all_goals simp

@[simp] theorem applyRecords_kept (fetch : Bool) (s : State) : (applyRecords fetch s).kept = s.kept := by
  unfold applyRecords
  dsimp only
  rw [State.onDuplex_kept]
  refine (kept_foldl_snd (fun p r => ?_) _ _)
  have hrecord := applyRecord_kept fetch r.1 r.2.2 p.2
  split
  · rfl
  split
  next heq => rw [heq] at hrecord; simpa using hrecord
  next heq => rw [heq] at hrecord; exact hrecord

@[simp] theorem fetchedFrame_kept (l : List Byte) (s : State) : (fetchedFrame l s).kept = s.kept := by
  simp only [fetchedFrame]
  repeat' split
  all_goals simp

@[simp] theorem answerFetch_kept (l : List Byte) (s : State) : (answerFetch l s).kept = s.kept := by
  unfold answerFetch
  repeat' split
  all_goals simp

@[simp] theorem loadImage_kept (m : Image) (s : State) : (loadImage m s).kept = s.kept := by
  unfold loadImage
  extract_lets own groups streams shown status status2 ingest alarm s1 new s2 added s3
  have h1 : s1.kept = s.kept := Prod.ext rfl rfl
  split <;> simp [s3, s2, h1]

@[simp] theorem wheelInStep_kept (s : State) : (wheelInStep s).kept = s.kept := by
  simp only [wheelInStep]
  repeat' split
  all_goals simp

@[simp] theorem takeImage_kept (l : List Byte) (s : State) : (takeImage l s).kept = s.kept := by simp [takeImage]
@[simp] theorem sendHeld_kept (x : HeldTx) (s : State) : (sendHeld x s).kept = s.kept := by simp [sendHeld]
@[simp] theorem takeover_kept (cause relinquished : Nat) (s : State) : (takeover cause relinquished s).kept = s.kept := by simp [takeover]
@[simp] theorem takeSwap_kept (l : List Byte) (s : State) : (takeSwap l s).kept = s.kept := by
  unfold takeSwap
  extract_lets r s1 s2 set s3
  have h2 : s2.kept = s.kept := by unfold s2 s1; split <;> simp
  have h3 : s3.kept = s.kept := by
    unfold s3
    rw [nextGeneration_kept, State.onDuplex_kept]
    exact h2
  split
  · split
    · rfl
    split
    · exact h2
    · simp [h3]
  · split
    · split <;> simp
    · rfl
  · split <;> simp
  · split <;> simp
  · split <;> simp

@[simp] theorem takeMirror_kept (type : Nat) (l : List Byte) (s : State) : (takeMirror type l s).kept = s.kept := by
  unfold takeMirror
  split <;> simp

@[simp] theorem takeRun'_kept (y0 : Nat) (s : State) : (takeRun' y0 s).kept = s.kept := by
  induction y0 generalizing s with
  | zero => rfl
  | succ n ih =>
    unfold takeRun'
    repeat' split
    all_goals simp [ih]

@[simp] theorem passGap_kept (s : State) : (passGap s).kept = s.kept := by
  unfold passGap
  split <;> simp

@[simp] theorem pairRx_kept (path seq type : Nat) (l : List Byte) (s : State) : (pairRx path seq type l s).kept = s.kept := by simp [pairRx]
@[simp] theorem finishProcess_kept (g : Nat) (w : PackWait) (s : State) : (finishProcess g w s).kept = s.kept := by
  simp only [finishProcess]
  repeat' split
  all_goals simp

@[simp] theorem packAdvance_kept (g : Nat) (s : State) : (packAdvance g s).kept = s.kept := by
  unfold packAdvance
  split <;> simp

@[simp] theorem packLate_kept (g slot type m : Nat) (s : State) : (packLate g slot type m s).kept = s.kept := by
  unfold packLate
  split <;> simp

@[simp] theorem ringUpdate_kept (s : State) : (ringUpdate s).kept = s.kept := by simp [ringUpdate]
@[simp] theorem takeMember_kept (side m : Nat) (l : List Byte) (s : State) : (takeMember side m l s).kept = s.kept := by
  unfold takeMember
  split <;> simp

@[simp] theorem duplicateId_kept (s : State) : (duplicateId s).kept = s.kept := by simp [duplicateId]
@[simp] theorem membersLost_kept (s : State) : (membersLost s).kept = s.kept := by simp [membersLost]
@[simp] theorem placeHome_kept (h : Nat) (set : List Nat) (s : State) : (placeHome h set s).kept = s.kept := by
  unfold placeHome
  split <;> simp

@[simp] theorem placeMirror_kept (h home : Nat) (s : State) : (placeMirror h home s).kept = s.kept := by
  unfold placeMirror
  split <;> simp

@[simp] theorem drainMember_kept (y0 y1 : Nat) (s : State) : (drainMember y0 y1 s).kept = s.kept := by
  induction y0 generalizing y1 s with
  | zero => rfl
  | succ n ih =>
    simp only [drainMember]
    repeat' split
    all_goals simp [ih]

@[simp] theorem placePack_kept (s : State) : (placePack s).kept = s.kept := by
  unfold placePack
  split
  · rfl
  extract_lets before ids live lost todo s1 exceeds s2 new s3
  have h1 : s1.kept = s.kept := by
    refine kept_foldl (fun s p => ?_) _ _
    split <;> simp
  have h2 : s2.kept = s.kept := by simp [s2, h1]
  split <;> simp [s3, h2]

@[simp] theorem adoptCells_kept (h : Nat) (s : State) : (adoptCells h s).kept = s.kept := by simp [adoptCells]
@[simp] theorem homeDuty_kept (m : Nat) (s : State) : (homeDuty m s).kept = s.kept := by simp [homeDuty]
@[simp] theorem takeModes_kept (l : List Byte) (s : State) : (takeModes l s).kept = s.kept := by simp [takeModes]
@[simp] theorem takePack_kept (type origin g n slot seq : Nat) (l : List Byte) (s : State) :
    (takePack type origin g n slot seq l s).kept = s.kept := by
  unfold takePack
  split <;> simp

@[simp] theorem packRx_kept (side seq type : Nat) (frame l : List Byte) (s : State) :
    (packRx side seq type frame l s).kept = s.kept := by simp [packRx]

@[simp] theorem mirrorRx_kept (path : Nat) (frame : List Byte) (s : State) : (mirrorRx path frame s).kept = s.kept := by simp [mirrorRx]
@[simp] theorem supervisionTx_kept (s : State) : (supervisionTx s).kept = s.kept := by simp [supervisionTx]
@[simp] theorem peerLost_kept (s : State) : (peerLost s).kept = s.kept := by
  unfold peerLost
  repeat' split
  all_goals simp

@[simp] theorem leadAlone_kept (s : State) : (leadAlone s).kept = s.kept := by simp [leadAlone]
@[simp] theorem detach_kept (s : State) : (detach s).kept = s.kept := by simp [detach]
@[simp] theorem handOver_kept (s : State) : (handOver s).1.kept = s.kept := by simp [handOver]
@[simp] theorem resynchronise_kept (s : State) : (resynchronise s).1.kept = s.kept := by simp [resynchronise]
@[simp] theorem packWakeNow_kept (m : Nat) (s : State) : (packWakeNow m s).1.kept = s.kept := by simp [packWakeNow]
@[simp] theorem clearRedundancy_kept (s : State) : (clearRedundancy s).kept = s.kept := by simp [clearRedundancy]

/-! The functions of Host. -/

@[simp] theorem badAccess_kept (s : State) : (badAccess s).kept = s.kept := by simp [badAccess]
@[simp] theorem afterConsume_kept (q : Nat) (x : Sluice) (s : State) : (afterConsume q x s).kept = s.kept := by simp [afterConsume]
@[simp] theorem popSluice_kept (q : Nat) (s : State) : (popSluice q s).1.kept = s.kept := by
  simp only [popSluice]
  repeat' split
  all_goals simp

@[simp] theorem qDataRead_kept (q : Nat) (s : State) : (qDataRead q s).kept = s.kept := by simp [qDataRead]
@[simp] theorem qRptrWrite_kept (q value : Nat) (s : State) : (qRptrWrite q value s).kept = s.kept := by simp [qRptrWrite]
@[simp] theorem qClearLost_kept (q : Nat) (s : State) : (qClearLost q s).kept = s.kept := by simp [qClearLost]
@[simp] theorem qClearUnderrun_kept (q : Nat) (s : State) : (qClearUnderrun q s).kept = s.kept := by simp [qClearUnderrun]
@[simp] theorem qModeWrite_kept (q value : Nat) (s : State) : (qModeWrite q value s).kept = s.kept := by simp [qModeWrite]
@[simp] theorem qTestPush_kept (q value : Nat) (s : State) : (qTestPush q value s).kept = s.kept := by simp [qTestPush]
@[simp] theorem sluiceDelay_kept (q : Nat) (s : State) : (sluiceDelay q s).kept = s.kept := by simp [sluiceDelay]
@[simp] theorem intClear_kept (value : Nat) (s : State) : (intClear value s).kept = s.kept := by simp [intClear]
@[simp] theorem linkUp_kept (speed width : Nat) (s : State) : (linkUp speed width s).kept = s.kept := by simp [linkUp]
@[simp] theorem clearHost_kept (s : State) : (clearHost s).kept = s.kept := by simp [clearHost]

/-! The functions of HostRings. -/

@[simp] theorem ringDisable_kept (r : Nat) (s : State) : (ringDisable r s).kept = s.kept := by simp [ringDisable]
@[simp] theorem ringControl_kept (r value : Nat) (busMaster : Bool) (s : State) : (ringControl r value busMaster s).kept = s.kept := by
  simp only [ringControl]
  repeat' split
  all_goals simp

@[simp] theorem ringDoorbell_kept (r value : Nat) (s : State) : (ringDoorbell r value s).kept = s.kept := by simp [ringDoorbell]
@[simp] theorem clearMailbox_kept (s : State) : (clearMailbox s).kept = s.kept := by simp [clearMailbox]
@[simp] theorem functionReset_kept (hot : Bool) (s : State) : (functionReset hot s).kept = s.kept := by simp [functionReset]
@[simp] theorem sluicePop_kept (w : Who) (q : Nat) (s : State) : (sluicePop w q s).kept = s.kept := by simp [sluicePop]

/-! The functions of Ptp. -/

@[simp] theorem sendPtp_kept (p : Nat) (event : Bool) (dst l : List Byte) (s : State) :
    (sendPtp p event dst l s).kept = s.kept := by simp [sendPtp]

@[simp] theorem ptpDue_kept (p : Nat) (s : State) : (ptpDue p s).kept = s.kept := by simp [ptpDue]
@[simp] theorem answerPeerDelay_kept (p requester seq : Nat) (s : State) :
    (answerPeerDelay p requester seq s).kept = s.kept := by simp [answerPeerDelay]

@[simp] theorem ptpMessage_kept (port : Nat) (udp : Bool) (domain : Nat) (msg : PtpMsg) (s : State) :
    (ptpMessage port udp domain msg s).kept = s.kept := by
  unfold ptpMessage
  repeat' split
  all_goals simp

@[simp] theorem followUp_kept (p : Nat) (f : TxFrame) (s : State) : (followUp p f s).kept = s.kept := by simp [followUp]
@[simp] theorem startFrame_kept (p q : Nat) (s : State) : (startFrame p q s).kept = s.kept := by
  simp only [startFrame]
  repeat' split
  all_goals simp

@[simp] theorem txStart_kept (p : Nat) (s : State) : (txStart p s).kept = s.kept := by
  simp only [txStart]
  repeat' split
  all_goals simp

/-! The functions of Summary. -/

@[simp] theorem takeSummary_kept (s : State) : (takeSummary s).kept = s.kept := by simp [takeSummary]

/-! The functions of Read. -/

@[simp] theorem readEffect_kept (idx sub row : Nat) (s : State) : (readEffect idx sub row s).1.kept = s.kept := by simp [readEffect]
@[simp] theorem readRow_kept (little shadow : Bool) (o : ObjRow) (row : Nat) (s : State) :
    (readRow little shadow o row s).1.kept = s.kept := by
  simp only [readRow]
  repeat' split
  all_goals simp

@[simp] theorem readRows_kept (little shadow : Bool) (o : ObjRow) (y0 y1 : Nat) (s : State) :
    (readRows little shadow o y0 y1 s).1.kept = s.kept := by
  induction y0 generalizing y1 s with
  | zero => rfl
  | succ n ih => simp [readRows, ih]

/-! The functions of Commands. -/

@[simp] theorem closeSession_kept (n : Nat) (s : State) : (closeSession n s).1.kept = s.kept := by simp [closeSession]
@[simp] theorem commandBody_kept (obj row : Nat) (arg : Val) (w : Who) (s : State) : (commandBody obj row arg w s).1.kept = s.kept := by
  unfold commandBody
  repeat' split
  all_goals simp

theorem commandAfter_onward (obj : Nat) (s : State) : s.Onward (commandAfter obj s) := by
  unfold commandAfter
  split
  · exact resetLater_onward 0x01 s
  · exact .of_kept (enterKennel_kept s)
  · exact afterMessage_onward s
  · exact resetLater_onward 0x01 s
  · exact .of_kept ((revert_kept 5 _).trans (endSessions_kept 3 s))
  · exact .refl s

/-- What follows a command, where it follows only an accepted one. -/
theorem commandAfter_ite_onward (c : Prop) [Decidable c] (obj : Nat) (s : State) :
    s.Onward ((if c then commandAfter obj else id) s) := by
  split
  · exact commandAfter_onward obj s
  · exact .refl s

/-! The functions of Imian. -/

@[simp] theorem readItems_kept (w : Who) (little : Bool) (y0 : List Item) (y1 : Nat) (s : State) :
    (readItems w little y0 y1 s).1.kept = s.kept := by
  induction y0 generalizing y1 s with
  | nil => rfl
  | cons i rest ih =>
    unfold readItems
    dsimp only
    rw [ih]
    repeat' split
    all_goals simp

@[simp] theorem doRead_kept (w : Who) (little : Bool) (l : List Item) (s : State) :
    (doRead w little l s).1.kept = s.kept := by simp [doRead]

@[simp] theorem liveWrite_kept (idx sub row : Nat) (v : Val) (s : State) : (liveWrite idx sub row v s).kept = s.kept := by
  unfold liveWrite
  repeat' split
  all_goals simp

@[simp] theorem applyRow_kept (idx sub row : Nat) (v : Val) (s : State) : (applyRow idx sub row v s).kept = s.kept := by simp [applyRow]
@[simp] theorem doWrite_kept (w : Who) (little : Bool) (l : List Item) (s : State) :
    (doWrite w little l s).1.kept = s.kept := by simp [doWrite]

theorem doCommand_kept (w : Who) (little : Bool) (i : Item) (s : State) : (doCommand w little i s).1.kept = s.kept := by
  unfold doCommand
  dsimp only
  split <;> simp

theorem doCommand_onward (w : Who) (little : Bool) (i : Item) (s u : State) : u.Onward ((doCommand w little i s).2.2 u) := by
  unfold doCommand
  exact commandAfter_ite_onward _ _ u

@[simp] theorem noteContent_kept (shadow : Bool) (o : ObjRow) (row : Nat) (s : State) :
    (noteContent shadow o row s).kept = s.kept := by simp [noteContent]

@[simp] theorem readSegment_kept (little shadow : Bool) (o : ObjRow) (row offset len generation : Nat) (s : State) :
    (readSegment little shadow o row offset len generation s).1.kept = s.kept := by simp [readSegment]

@[simp] theorem doReadSeg_kept (w : Who) (little : Bool) (i : Item) (s : State) : (doReadSeg w little i s).1.kept = s.kept := by
  simp only [doReadSeg]
  repeat' split
  all_goals simp

@[simp] theorem closeTransfer_kept (o : ObjRow) (row : Nat) (data : List Byte) (s : State) :
    (closeTransfer o row data s).1.kept = s.kept := by simp [closeTransfer]

@[simp] theorem takeSegment_kept (w : Who) (o : ObjRow) (row : Nat) (first last : Bool) (data : List Byte) (s : State) :
    (takeSegment w o row first last data s).1.kept = s.kept := by simp [takeSegment]

@[simp] theorem doWriteSeg_kept (w : Who) (little : Bool) (i : Item) (s : State) : (doWriteSeg w little i s).1.kept = s.kept := by
  simp only [doWriteSeg]
  repeat' split
  all_goals simp

@[simp] theorem transferTimeout_kept (k : Nat) (s : State) : (transferTimeout k s).kept = s.kept := by simp [transferTimeout]
@[simp] theorem subscribeItem_kept (n : Nat) (i : Item) (s : State) : (subscribeItem n i s).1.kept = s.kept := by simp [subscribeItem]
@[simp] theorem subscribeItems_kept (n : Nat) (y0 : List Item) (s : State) : (subscribeItems n y0 s).1.kept = s.kept := by
  induction y0 generalizing s with
  | nil => rfl
  | cons i rest ih => simp [subscribeItems, ih]

@[simp] theorem doSubscribe_kept (w : Who) (little : Bool) (l : List Item) (s : State) : (doSubscribe w little l s).1.kept = s.kept := by
  simp only [doSubscribe]
  repeat' split
  all_goals simp

@[simp] theorem notify_kept (n k : Nat) (s : State) : (notify n k s).kept = s.kept := by
  unfold notify
  split <;> simp

@[simp] theorem doSummary_kept (w : Who) (little : Bool) (s : State) : (doSummary w little s).1.kept = s.kept := by simp [doSummary]

theorem execute_kept (w : Who) (little : Bool) (m : List Byte) (s : State) : (execute w little m s).1.kept = s.kept := by
  unfold execute
  split
  · rfl
  split
  · rfl
  dsimp only
  split <;> simp [doCommand_kept]

theorem execute_onward (w : Who) (little : Bool) (m : List Byte) (s u : State) : u.Onward ((execute w little m s).2.2 u) := by
  unfold execute
  split
  · exact .refl u
  split
  · exact .refl u
  dsimp only
  split
  case h_5 => exact doCommand_onward _ _ _ _ u
  all_goals exact .refl u

@[simp] theorem keep_kept (w : Who) (k : Kept) (s : State) : (keep w k s).kept = s.kept := by
  unfold keep
  repeat' split
  all_goals simp

@[simp] theorem useSession_kept (w : Who) (s : State) : (useSession w s).kept = s.kept := by
  unfold useSession
  repeat' split
  all_goals simp

theorem takeMessage_kept (w : Who) (little taken : Bool) (m : List Byte) (s : State) : (takeMessage w little taken m s).1.kept = s.kept := by
  unfold takeMessage
  dsimp only
  split
  · simp
  · split <;> simp [execute_kept]

theorem takeMessage_onward (w : Who) (little taken : Bool) (m : List Byte) (s u : State) :
    u.Onward ((takeMessage w little taken m s).2.2 u) := by
  unfold takeMessage
  dsimp only
  split
  · exact .refl u
  · split
    · exact execute_onward _ _ _ _ u
    · exact .refl u

theorem bring_onward (op : Nat) (w : Who) (m : List Byte) (s : State) : s.Onward (bring op w m s) := by
  unfold bring
  extract_lets isCan little
  split
  · exact .refl s
  · have hkept := takeMessage_kept w little (byteAt m 1 == op) m s
    have honward := takeMessage_onward w little (byteAt m 1 == op) m s
    generalize takeMessage w little (byteAt m 1 == op) m s = r at hkept honward ⊢
    obtain ⟨s', resp, after⟩ := r
    refine .after_kept ?_ (honward _)
    split <;> simpa using hkept

/-! The functions of Transport. -/

@[simp] theorem authFailed_kept (cause : Nat) (s : State) : (authFailed cause s).kept = s.kept := by simp [authFailed]
@[simp] theorem openSession_kept (n row : Nat) (peer : List Byte) (s : State) :
    (openSession n row peer s).kept = s.kept := by simp [openSession]

@[simp] theorem handshake_kept (peer cert : List Byte) (proved : Bool) (s : State) : (handshake peer cert proved s).kept = s.kept := by
  unfold handshake
  repeat' split
  all_goals simp

@[simp] theorem idleTimeout_kept (n : Nat) (s : State) : (idleTimeout n s).kept = s.kept := by
  unfold idleTimeout
  split <;> simp

@[simp] theorem mailboxAnswer_kept (resp : List Byte) (s : State) : (mailboxAnswer resp s).kept = s.kept := by simp [mailboxAnswer]

theorem mailboxGo_onward (s : State) : s.Onward (mailboxGo s) := by
  unfold mailboxGo
  dsimp only
  split
  · exact .refl s
  split
  · exact .of_kept (by simp)
  split
  · exact .of_kept (by simp)
  split
  · exact .refl s
  · exact .after_kept (by simp [takeMessage_kept]) (takeMessage_onward _ _ _ _ _ _)

@[simp] theorem mailboxAck_kept (s : State) : (mailboxAck s).kept = s.kept := by simp [mailboxAck]
@[simp] theorem canRefused_kept (n cause : Nat) (s : State) : (canRefused n cause s).kept = s.kept := by simp [canRefused]

theorem canExecute_kept (n : Nat) (l : List Byte) (s : State) : (canExecute n l s).1.kept = s.kept := by
  unfold canExecute
  dsimp only
  repeat' split
  all_goals simp

theorem canExecute_onward (n : Nat) (l : List Byte) (s u : State) : u.Onward ((canExecute n l s).2.2.2 u) := by
  unfold canExecute
  extract_lets w op idx sub row operand clean item
  split
  · dsimp only
    split
    · repeat' split
      all_goals exact .refl u
    · exact .refl u
  split
  · split
    · exact .refl u
    · dsimp only
      repeat' split
      all_goals exact .refl u
  split
  · dsimp only
    split
    · exact .refl u
    split
    · exact .refl u
    · exact commandAfter_ite_onward _ _ u
  split <;> exact .refl u

theorem canRequest_onward (n id_ : Nat) (canFd64 : Bool) (l : List Byte) (s : State) : s.Onward (canRequest n id_ canFd64 l s) := by
  unfold canRequest
  extract_lets handle s1 counter
  split
  · exact .refl s
  split
  · exact .of_kept (by simp)
  split
  · exact .refl s
  split
  · exact .of_kept (by simp [s1])
  extract_lets stale s2
  split
  · exact .of_kept (by simp [s1])
  split
  · exact .of_kept (by simp [s1])
  · have hkept := canExecute_kept n l s2
    have honward := canExecute_onward n l s2
    generalize canExecute n l s2 = r at hkept honward ⊢
    obtain ⟨s', status, value, after⟩ := r
    exact .after_kept (by simpa [s2, s1] using hkept) (honward _)

/-! The functions of HostBar. -/

@[simp] theorem intMaskWrite_kept (value : Nat) (s : State) : (intMaskWrite value s).kept = s.kept := by simp [intMaskWrite]
@[simp] theorem qThresholdWrite_kept (q value : Nat) (s : State) : (qThresholdWrite q value s).kept = s.kept := by simp [qThresholdWrite]
@[simp] theorem qDelayWrite_kept (q value : Nat) (s : State) : (qDelayWrite q value s).kept = s.kept := by simp [qDelayWrite]
@[simp] theorem qControlWrite_kept (q value : Nat) (s : State) : (qControlWrite q value s).kept = s.kept := by simp [qControlWrite]
@[simp] theorem sluiceWrite_kept (q reg value : Nat) (s : State) : (sluiceWrite q reg value s).kept = s.kept := by
  unfold sluiceWrite
  split <;> simp

@[simp] theorem ringWrite_kept (r reg value : Nat) (s : State) : (ringWrite r reg value s).kept = s.kept := by
  unfold ringWrite
  split <;> simp

theorem mailboxControl_onward (value : Nat) (s : State) : s.Onward (mailboxControl value s) := by
  unfold mailboxControl
  dsimp only
  split
  · refine .after_kept ?_ (mailboxGo_onward _)
    split <;> simp
  · refine .of_kept ?_
    split <;> simp

@[simp] theorem bar0Write_kept (off value : Nat) (s : State) : (bar0Write off value s).kept = s.kept := by simp [bar0Write]

theorem bar2Write_onward (off value : Nat) (s : State) : s.Onward (bar2Write off value s) := by
  unfold bar2Write
  split
  · exact mailboxControl_onward value s
  split
  · exact .of_kept (by simp)
  split
  · exact .of_kept (by simp)
  · exact .refl s

theorem registerWrite_onward (bar off value : Nat) (s : State) : s.Onward (registerWrite bar off value s) := by
  unfold registerWrite
  split
  · exact .of_kept (bar0Write_kept off value s)
  · exact bar2Write_onward off value s

@[simp] theorem latchLow_kept (bar off value : Nat) (s : State) : (latchLow bar off value s).kept = s.kept := by simp [latchLow]
@[simp] theorem unlatch_kept (bar off : Nat) (s : State) : (unlatch bar off s).kept = s.kept := by simp [unlatch]

theorem highHalf_onward (bar off value : Nat) (s : State) : s.Onward (highHalf bar off value s) := by
  unfold highHalf
  split
  · exact .after_kept (unlatch_kept bar off s) (registerWrite_onward _ _ _ _)
  · exact .of_kept (badAccess_kept s)

theorem barStore_onward (bar off width value : Nat) (s : State) : s.Onward (barStore bar off width value s) := by
  unfold barStore
  split
  · exact .refl s
  split
  · exact .refl s
  · split
    · exact registerWrite_onward _ _ _ s
    · exact .of_kept (badAccess_kept s)
  · split
    · exact .after_kept (unlatch_kept _ _ s) (registerWrite_onward _ _ _ _)
    split
    · exact .of_kept (latchLow_kept _ _ _ s)
    split
    · exact highHalf_onward _ _ _ s
    · exact .of_kept (badAccess_kept s)

/-! The functions of PortsRx. -/

@[simp] theorem hearNode_kept (pair mac : Nat) (s : State) : (hearNode pair mac s).2.kept = s.kept := by
  simp only [hearNode]
  repeat' split
  all_goals simp

@[simp] theorem prpReceive_kept (p : Nat) (l : List Byte) (s : State) : (prpReceive p l s).2.kept = s.kept := by
  unfold prpReceive
  extract_lets pair body
  split
  · simp
  next seq lan _ =>
    extract_lets s1
    have h1 : s1.kept = s.kept := by unfold s1; split <;> simp
    have hnode := hearNode_kept pair (beAt l 6 6) s1
    split
    next heq => rw [heq] at hnode; exact hnode.trans h1
    next heq =>
      rw [heq] at hnode
      dsimp only
      split <;> split <;> simp [h1, hnode]

@[simp] theorem replyOn_kept (p : Nat) (mac : List Byte) (etype : Nat) (l : List Byte) (s : State) :
    (replyOn p mac etype l s).kept = s.kept := by simp [replyOn]

@[simp] theorem arpAnswer_kept (p : Nat) (src l : List Byte) (s : State) : (arpAnswer p src l s).kept = s.kept := by simp [arpAnswer]
@[simp] theorem ipv4Answer_kept (p : Nat) (src l : List Byte) (s : State) : ∀ u ∈ (ipv4Answer p src l s), u.kept = s.kept := by
  simp only [ipv4Answer]
  repeat' split
  all_goals simp

@[simp] theorem ipv6Answer_kept (p : Nat) (src l : List Byte) (s : State) : ∀ u ∈ (ipv6Answer p src l s), u.kept = s.kept := by
  simp only [ipv6Answer]
  repeat' split
  all_goals simp

@[simp] theorem macControl_kept (p length : Nat) (l : List Byte) (s : State) :
    (macControl p length l s).kept = s.kept := by simp [macControl]

@[simp] theorem dispatchFrame_kept (p vid : Nat) (l : List Byte) (s : State) : (dispatchFrame p vid l s).kept = s.kept := by
  unfold dispatchFrame
  dsimp only
  split
  · simp
  split
  · exact kept_getD (ipv4Answer_kept _ _ _ _) (by simp)
  split
  · exact kept_getD (ipv6Answer_kept _ _ _ _) (by simp)
  split
  · simp
  split <;> simp

@[simp] theorem acceptedFrame_kept (p vid length : Nat) (l : List Byte) (s : State) : (acceptedFrame p vid length l s).kept = s.kept := by
  unfold acceptedFrame
  extract_lets e paired
  split
  · simp
  split
  · simp
  split
  · simp
  split
  · have hframe := prpReceive_kept p l s
    split
    next heq => rw [heq] at hframe; simpa using hframe
    next heq => rw [heq] at hframe; exact hframe
  · simp

@[simp] theorem receiveFrame_kept (p : Nat) (fcsGood overflow : Bool) (l : List Byte) (s : State) :
    (receiveFrame p fcsGood overflow l s).kept = s.kept := by
  unfold receiveFrame
  repeat' split
  all_goals simp

/-! The commands. -/

/-- Begin and end of a command keep the queue, and the begin alone moves the clock, forward. -/
theorem complete_onward {t : Nat} {effect : State → State} (h : ∀ s : State, s.Onward (effect s)) (s : State) :
    ∃ u, complete t effect s = .next u ∧ u.pending = s.pending ∧ s.now ≤ u.now := by
  obtain ⟨hpending, hnow⟩ := (h (s.advance t)).before_kept (settle_kept _)
  exact ⟨_, rfl, hpending, Nat.le_trans (by simp [State.advance]) hnow⟩

/-- Every command keeps queue and clock, but those a reset may follow: the messages that may bring a COMMAND, over each transport, and the
commands whose answer it follows. -/
theorem exec_onward (c : Instr) (s : State) : ∃ u, exec c s = .next u ∧ u.pending = s.pending ∧ s.now ≤ u.now := by
  unfold exec
  split
  all_goals refine complete_onward ?_ s
  all_goals try exact fun s => .of_kept (by simp)
  -- the six Imian operations as rows, the mailbox and CAN
  · exact bring_onward 1 _ _
  · exact bring_onward 2 _ _
  · exact bring_onward 3 _ _
  · exact bring_onward 4 _ _
  · exact bring_onward 6 _ _
  · exact bring_onward 7 _ _
  · exact mailboxGo_onward
  · exact canRequest_onward _ _ _ _
  -- Reset device
  · exact fun s => runThen_onward _ _ _ _ _ s (fun s => by simp) (resetLater_onward 1)
  -- BAR writes, which may set MB_CTRL GO
  · exact barStore_onward _ _ 4 _
  · exact barStore_onward _ _ _ _
  -- a lost memory channel, of the eight there are
  · intro s
    split
    · exact .of_kept (cdieFault_kept 7 s)
    · exact .refl s
  -- Enter KENNEL, Apply key message, Activate and Revert update
  · exact fun s => runThen_onward _ _ _ _ _ s (fun s => by split <;> rfl) fun s => .of_kept (enterKennel_kept s)
  · exact fun s => runThen_onward _ _ _ _ _ s (applyMessage_kept _) afterMessage_onward
  · exact fun s => runThen_onward _ _ _ _ _ s activateBank_kept (resetLater_onward 1)
  · exact fun s => runThen_onward _ _ _ _ _ s (fun s => by split <;> rfl) fun s => .of_kept (by simp)

/-- Settles O58, from what each function of the model keeps. -/
theorem noCommandTouchesTheQueue : Obligations.NoCommandTouchesTheQueue := exec_onward

end Sys2Proof.Machine
end
